-- ==== Sys2Proof/Word.lean ====
section
/-! DEFINITION. The word types of the TG5120 and their plainest arithmetic. -/

set_option Elab.async false


namespace Sys2Proof

/-- A register of the block: 32 bits (16, R466). -/
abbrev Word := BitVec 32

/-- A byte of a frame, a buffer or a window. -/
abbrev Byte := BitVec 8

/-- A context record: 256 data bits (06, R159). -/
abbrev Record := BitVec 256

end Sys2Proof
end

