-- ==== Sys2Proof/Syntax.lean ====
section
/-! DEFINITION. The commands of the TG5120: one constructor per row of spec/opcode_table.json, with the operands its
rule speaks of. A unit's number is a Fin of its range (00, R4); a written register word is a Word; a measured or
external quantity (a phase error, a window count, a frame, a DMA buffer) is an operand, because it comes from outside
the block's digital state. -/

set_option Elab.async false

namespace Sys2Proof

/-- Who makes a register access (16, R468): the host, firmware, or a JTAG debugger. -/
inductive Source where
  | host | firmware | jtag
  deriving DecidableEq, Repr

/-- What the firmwares of two devices say to each other (11, R332: internal, its payloads are not given). The model's own
messages: enumeration reports; the state of links; alignment of a child over a link; what a cross-device take asks. -/
inductive FwMsg where
  /-- a device asks all others for reports, with a number of its own; the devices and the links (device, port, peer, peer port) that the
  reports name -/
  | gather (org tag : Nat)
  | reports (org tag : Nat) (devs : List Nat) (links : List (Nat × Nat × Nat × Nat))
  /-- a link of the board, named by the device and port at one end, is down or up again; a port of this device went down -/
  | linkState (dev port : Nat) (up : Bool)
  | portDown (port : Nat)
  /-- an item of a kind could not reach a device: LINK_DOWN -/
  | failed (dst kind : Nat)
  /-- device 0 asks a parent to align a child; a tracking child asks its parent for a measurement -/
  | alignChild (root dev : Nat)
  | track (root : Nat)
  /-- a parent asks its child for its settings, and the child's answer -/
  | alignAsk (root : Nat)
  | alignInfo (root : Nat) (locked : Bool) (settings : List Nat) (idle : Bool)
  /-- a batch of probes begins, and has ended -/
  | probeBegin (root : Nat)
  | probeEnd
  /-- the correction for a child and its answer; the result for device 0 -/
  | correct (root : Nat) (c k res : Int) (track : Bool)
  | corrected (root code : Nat)
  | alignResult (root dev code : Nat) (data : List Int)
  /-- a measurement over a link is over, for its child end -/
  | measOver (root : Nat)
  /-- is a root aligned, before a cross-device take, and the answer's code; the answer to XTAKEARM -/
  | alignedAsk (root tag idx : Nat)
  | alignedIs (dev tag idx code : Nat)
  | armed (dev tag idx code : Nat)
  | xhopEnd (tag : Nat)
  /-- any other -/
  | other (v : Nat)
  deriving DecidableEq, Repr

/-- A message in the items of Prailaom frames (11, R332). IDENT: board ID, port, UID, GLB_ID. TOPO: topology, devices, code of the
result, and the links that the routing table follows from. -/
inductive LinkItem where
  | ident (dev port uid glb : Nat)
  | topo (topo ndev code : Nat) (links : List (Nat × Nat × Nat × Nat))
  | probedata (stamps : List (Nat × Nat))
  | clap (org root t tag mask : Nat)
  | clapack (dev tag code : Nat)
  | xhopprep (root preset tag : Nat)
  | xhopgo (root preset t tag : Nat)
  | xhopack (dev tag code : Nat)
  | xtakearm (root take tag idx : Nat)
  | xtakedone (dev tag idx code : Nat) (taint voided : Bool) (records : List Nat)
  | alignvoid (root : Nat)
  | message (m : FwMsg)
  deriving DecidableEq, Repr

/-- A measured quantity: numerator over denominator. -/
abbrev Frac := Int × Nat

/-- What the boot ROM reads of an image (13, R388): its 512 header bytes and its body. -/
structure BootImage where
  hdr : List Byte
  body : List Byte
  deriving DecidableEq, Repr

/-- What a DBGACC session does (13, R403; 16, R477). -/
inductive DbgOp where
  | read (addr : Nat)
  | write (addr : Nat) (w : Word)
  | halt (core : Fin 4)
  | step (core : Fin 4)
  | resume (core : Fin 4)
  deriving DecidableEq, Repr

/-- A block, or an instance of one, with a LOCK bit (16, R470). -/
inductive LockBlock where
  | glb | clk | pwr | sec | mbx
  | syn (n : Fin 4)
  | seq
  | bnk (b : Fin 8)
  | tsp (p : Fin 8)
  | cal
  | prl (p : Fin 4)
  | spt (p : Fin 16)
  | pmb
  | ch (n : Fin 512)
  deriving DecidableEq, Repr

/-- A command. -/
inductive Instr where
  /-- REGISTER_WRITE. A write to a register that has no row of its own, taking effect by its access codes; on bank and channel registers it takes effect at a T-clock boundary within 32 cycles. (R11) -/
  | registerWrite (src : Source) (a : Nat) (ws : List (Word × BitVec 4))
  /-- RC_READ. A read of an RC register or field returns its value and then clears it, subject to R13. (R467) -/
  | rcRead (src : Source) (a n : Nat)
  /-- BLOCK_LOCK_SET. A write of 1 to a block's LOCK bit locks the RWL fields of that instance until the next reset. (R470) -/
  | blockLockSet (src : Source) (k : LockBlock) (w : Word)
  /-- ROOT_ENABLE. A write of EN = 1 to a root is checked; if accepted the root enters WAKE and clears its timebase counter, otherwise CFGERR and CFGWHY are set. (R41) -/
  | rootEnable (src : Source) (n : Fin 4) (w : Word)
  /-- ROOT_DISABLE. A write of EN = 0 to a root is refused while a selecting bank is active, else the root enters OFF at the next step boundary and a pending hop is cancelled. (R44) -/
  | rootDisable (src : Source) (n : Fin 4) (w : Word)
  /-- WAKE_DONE. After 10 µs in WAKE with a qualified reference the root enables its T-clock, starts its timebase and enters SEARCH. (R50) -/
  | wakeDone (n : Fin 4)
  /-- BAND_SEARCH_TRIAL. A band-search trial ends its count window and narrows the band range; after the sixth the root closes its loop and enters ACQUIRE. (R46) -/
  | bandSearchTrial (n : Fin 4) (edges : Nat)
  /-- FPD_CYCLE. Each phase-detector reference cycle the modulator, phase detector, averager, spread offset and lock counters advance. (R38) -/
  | fpdCycle (n : Fin 4) (e : Option Int) (corr : Int)
  /-- LOCK_DECLARED. The phase error has stayed within W for N cycles, so the root declares lock from COUNT or RECLOSE and completes any hop waiting on the lock. (R49) -/
  | lockDeclared (n : Fin 4)
  /-- LOSS_OF_LOCK. The phase error exceeds 2W for LCNT cycles, so a locked, hopping or ramping root clears LOCK, sets LOL and TBSLIP, and searches again. (R50) -/
  | lossOfLock (n : Fin 4)
  /-- ACQUISITION_TIMEOUT. The acquisition timer expires in ACQUIRE, COUNT or RECLOSE, so the root sets BANDFAIL and searches again. (R50) -/
  | acquisitionTimeout (n : Fin 4)
  /-- RELOCK. A write of SYNn_CTRL.RELOCK in LOCKED or HOP starts a relock with band search. (R65) -/
  | relock (src : Source) (n : Fin 4) (w : Word)
  /-- PHCLR. A write of SYNn_CTRL.PHCLR discards the pending phase steps. (R59) -/
  | phclr (src : Source) (n : Fin 4) (w : Word)
  /-- HOP_REQUEST. A write of SYNn_HOP with GO requests a hop, which starts at once if the root is LOCKED and idle, or else waits as the pending request. (R54) -/
  | hopRequest (src : Source) (n : Fin 4) (w : Word)
  /-- HOP_START. An executing or pending hop starts: it copies its preset and is refused, run in band, or run through a band search. (R55) -/
  | hopStart (n : Fin 4)
  /-- HOP_SETTLED. An in-band hop has settled within 0.1 ppm for 16 cycles, so the root returns to LOCKED and completes the hop. (R56) -/
  | hopSettled (n : Fin 4)
  /-- PHSTEP. A write of SYNn_PHSTEP adds its signed value to the pending phase steps. (R59) -/
  | phstep (src : Source) (n : Fin 4) (w : Word)
  /-- SEQUENCER_STEP_COMMIT. A sequencer step ends and commits its shadow register effects together, taking any waiting interruption at that boundary. (R73) -/
  | sequencerStepCommit (n : Fin 4) (invalid : Bool) (words : List (Option Nat))
  /-- SEQ_ABORT. A write of SEQn_CTRL.ABORT interrupts the foreground routine at the next step boundary, suspending a ramp. (R76) -/
  | seqAbort (src : Source) (n : Fin 4) (w : Word)
  /-- RESUME. A write of SEQn_CTRL.RESUME continues a suspended ramp when its conditions hold, otherwise reports RESUME_STALE or not locked. (R80) -/
  | resume (src : Source) (n : Fin 4) (w : Word)
  /-- DROP. A write of SEQn_CTRL.DROP ends a suspended ramp and keeps its base word. (R80) -/
  | drop (src : Source) (n : Fin 4) (w : Word)
  /-- RAMP_START. A write of SYNn_RCTRL.START with TRIG 0b00 starts a ramp, or refuses it for a busy, unlocked or out-of-range profile. (R85) -/
  | rampStart (src : Source) (n : Fin 4) (w : Word)
  /-- RAMP_ARM. A write of SYNn_RCTRL.ARM arms the ramp for its select-port or clapper trigger. (R86) -/
  | rampArm (src : Source) (n : Fin 4) (w : Word)
  /-- RAMP_DWELL_END. A segment's dwell count expires, so the next segment starts with its target check, or the last pass ends and the root returns to LOCKED. (R83) -/
  | rampDwellEnd (n : Fin 4)
  /-- SPREAD_PERIOD_BOUNDARY. At a spread period boundary the device applies or refuses pending spread changes and recomputes DEPTH. (R89) -/
  | spreadPeriodBoundary (n : Fin 4)
  /-- REFERENCE_LOSS. The missing-edge detector finds no REFCLK edge for 8 periods and declares loss, so the root coasts or free-runs and sets REFLOSS. (R95) -/
  | referenceLoss (n : Fin 4)
  /-- REFERENCE_EDGES_RETURN. REFCLK edges are present again in COAST, so qualification starts. (R100) -/
  | referenceEdgesReturn (n : Fin 4)
  /-- FREQ_WINDOW_END. A 4,096-cycle REFCLK frequency window ends and passes or fails, which qualifies or requalifies the reference or sets REFOFF. (R91) -/
  | freqWindowEnd (n : Fin 4) (count : Nat)
  /-- MEASURE. In one cycle the root measures the phase jump of the returning reference, updates PHCARRY by policy and enters RECLOSE. (R96) -/
  | measure (n : Fin 4) (theta : Int)
  /-- WORKOFF. A write of SYNn_CCTRL.WORKOFF starts a one-shot work-off of PHCARRY to 0. (R98) -/
  | workoff (src : Source) (n : Fin 4) (w : Word)
  /-- WORKOFF_STEP. SLEWK cycles have passed, so the phase stepper moves PHCARRY one step toward 0. (R98) -/
  | workoffStep (n : Fin 4)
  /-- ROOT_SELECT. A write of BNKb_ROOT.SEL is accepted on an idle bank, which restarts the bank DLL and closes and reopens the taint interval; otherwise it is refused. (R111) -/
  | rootSelect (src : Source) (b : Fin 8) (w : Word)
  /-- DLL_SEARCH_DONE. The binary search of the bank delay line ends, so the DLL enters COUNT. (R115) -/
  | dllSearchDone (b : Fin 8) (cw : BitVec 16)
  /-- DLL_COMPARISON. Every 8 T-clock cycles the DLL phase detector compares and updates its lock or loss count, declaring lock or loss. (R114) -/
  | dllComparison (b : Fin 8) (e : Int) (cw : BitVec 16)
  /-- DLL_ACQUISITION_TIMEOUT. The DLL has not locked within 20 µs, so it sets DLLFAIL and restarts its search. (R115) -/
  | dllAcquisitionTimeout (b : Fin 8)
  /-- TAINT_INTERVAL_OPEN. The hub observes a disturbance source and opens a taint interval back-dated by the guard. (R30) -/
  | taintIntervalOpen (b : Fin 8)
  /-- TAINT_INTERVAL_CLOSE. The hub observes that every taint source has ended and closes the interval. (R30) -/
  | taintIntervalClose (b : Fin 8)
  /-- HALT_NOTICE. A member hub receives the observing cycle of a halt and schedules its members to park. (R122) -/
  | haltNotice (g : Fin 64) (b : Fin 8)
  /-- HALT_RELEASE. A write of GRPg_HALT.RELEASE releases a halt when no member bank is disturbed, otherwise it sets RELREF. (R124) -/
  | haltRelease (src : Source) (g : Fin 64) (w : Word)
  /-- TAINT_STAGE_RELEASE. An item has waited the guard time and leaves the taint stage with its final mark, reaching the reel, the interval units, the regression accumulators or a port. (R31) -/
  | taintStageRelease (b : Fin 8)
  /-- CYCLE_START. At the start of a channel cycle the channel computes its effective period and next cycle start, reads the live slot four cycles ahead, and computes edge times. (R133) -/
  | cycleStart (n : Fin 512)
  /-- EVENT_SCHEDULE. The scheduler takes the next event in ideal-time order, applies the spacing and engine pushes and assigns its output time. (R142) -/
  | eventSchedule (n : Fin 512)
  /-- EVENT_OUTPUT. The timebase reaches an event's output time plus L_OUT and the line toggles at the output stage. (R141) -/
  | eventOutput (n : Fin 512)
  /-- PARK_CYCLE. A channel reaches a park cycle, emits earlier events, discards later ones and emits rest toggles. (R153) -/
  | parkCycle (n : Fin 512)
  /-- LEAVE_PARK. After its last park cause is released, a channel leaves park at its cycle C′ and resumes emitting events. (R154) -/
  | leavePark (n : Fin 512)
  /-- PARK. A write of CHn_CTRL.PARK sets or releases park cause MAN. (R152) -/
  | park (src : Source) (n : Fin 512) (w : Word)
  /-- CLROVR. A write of CHn_CTRL.CLROVR releases park cause OVR. (R152) -/
  | clrovr (src : Source) (n : Fin 512) (w : Word)
  /-- DESKEW_TARGET_WRITE. A write of CHn_DESKEW sets a new deskew target, applied by STEP or SLEW. (R139) -/
  | deskewTargetWrite (src : Source) (n : Fin 512) (w : Word)
  /-- DESKEW_SLEW_STEP. Every N channel cycles of a slew, DSKACT moves one tick toward its target. (R139) -/
  | deskewSlewStep (n : Fin 512)
  /-- PM_GO. A write of CHn_PMCTRL.GO arms the staged modulation settings for the start cycle. (R149) -/
  | pmGo (src : Source) (n : Fin 512) (w : Word)
  /-- CYCLO_READ. A read of CHn_CYCLO latches CYCHI and SACC0–SACC2. (R156) -/
  | cycloRead (src : Source) (n : Fin 512)
  /-- GROUP_START_TIME. The timebase reaches the T of an accepted START, so every member loads its accumulator and releases NOGRP. (R176) -/
  | groupStartTime (g : Fin 64)
  /-- MEMBERSHIP_WRITE. A write of CHn_GRP changes membership while the groups concerned are stopped, otherwise it sets GRPREF. (R174) -/
  | membershipWrite (src : Source) (n : Fin 512) (w : Word)
  /-- CONTEXT_WINDOW_WRITE. A write to the BAR2 context window writes or merges whole records, or is discarded while CTXWIN is 0. (R163) -/
  | contextWindowWrite (off : Nat) (bytes : List Byte)
  /-- CONTEXT_WINDOW_READ. A read of the BAR2 context window returns corrected records, writes back single-bit corrections and reports double-bit errors. (R164) -/
  | contextWindowRead (off len : Nat)
  /-- SCRUB_ROW. Every 256 T-clock cycles the scrubber reads one store row and corrects or reports its errors. (R169) -/
  | scrubRow (b : Fin 8)
  /-- WIPE. A write of BNKb_CUECTRL.WIPE starts a wipe of an idle bank's slice, otherwise it sets WIPEREF. (R171) -/
  | wipe (src : Source) (b : Fin 8) (w : Word)
  /-- WIPE_DONE. A slice wipe ends, so the hub handles the accesses and commands it held. (R170) -/
  | wipeDone (b : Fin 8)
  /-- CUE_ENGINE_TAKE. A hub's cue engine takes the next timing command in arrival order, decodes it and starts its store reads. (R186) -/
  | cueEngineTake (b : Fin 8)
  /-- CUE_COMPLETION. A hub finishes loading the records of a cue or provisional cue into its members' slots or shadows. (R179) -/
  | cueCompletion (b : Fin 8)
  /-- GROUP_DECISION. The lead hub holds every member hub's report and decides or completes the group command. (R175) -/
  | groupDecision (g : Fin 64)
  /-- TSP_EN_WRITE. A write of TSPp_CTRL.EN enables the port into DETECT or disables it with a detach. (R194) -/
  | tspEnWrite (src : Source) (p : Fin 8) (w : Word)
  /-- RETRAIN. A write of TSPp_CTRL.RETRAIN sends the port to DETECT with a detach. (R194) -/
  | retrain (src : Source) (p : Fin 8) (w : Word)
  /-- TSP_DETACH_WRITE. A write of TSPp_CTRL.DETACH detaches the port while the link stays UP. (R218) -/
  | tspDetachWrite (src : Source) (p : Fin 8) (w : Word)
  /-- RECEIVER_DETECTED. A far-end receiver is detected on every lane of a TSP or PL port, which enters EQUALISE. (R194) -/
  | receiverDetected (p : Fin 12)
  /-- DETECT_TIMEOUT. Detection has not succeeded within 12 ms, so it repeats. (R194) -/
  | detectTimeout (p : Fin 12)
  /-- EQUALISATION_DONE. The preset has been sent and receiver adaptation has finished on all lanes, so the port enters ALIGN. (R194) -/
  | equalisationDone (p : Fin 12)
  /-- EQUALISE_TIMEOUT. Equalisation has not finished within 24 ms, so the port sets EQFAIL and returns to DETECT. (R194) -/
  | equaliseTimeout (p : Fin 12)
  /-- ALIGN_DONE. Eight valid FA ordered sets have arrived on every lane, so the port enters UP from ALIGN or RECOVER. (R194) -/
  | alignDone (p : Fin 12)
  /-- ALIGN_TIMEOUT. ALIGN has not finished within 1 ms, so the port returns to DETECT. (R194) -/
  | alignTimeout (p : Fin 12)
  /-- BLOCK_LOCK_LOST. Four consecutive invalid sync headers on a lane send the port from UP to RECOVER. (R194) -/
  | blockLockLost (p : Fin 12) (lane : Fin 4)
  /-- RECOVER_TIMEOUT. RECOVER has lasted 1 ms, so the port returns to DETECT and detaches or counts its link as down. (R194) -/
  | recoverTimeout (p : Fin 12)
  /-- INBOUND_FRAME. An inbound TSP frame is taken whole: CRC, type and sequence are checked, and invalid frames are dropped and counted. (R199) -/
  | inboundFrame (p : Fin 8) (frame : BitVec 2048) (invalid : Bool)
  /-- SELECT_FRAME. A valid SELECT frame is stamped and its entries are appended to the group's select buffer. (R202) -/
  | selectFrame (p : Fin 8)
  /-- OUTBOUND_FRAME. The port sends its next outbound frame by priority (CTRL reply, STATUS, RESULT, IDLE) and a SKP ordered set every 23 frames. (R213) -/
  | outboundFrame (p : Fin 8)
  /-- HELLO. A HELLO message opens attachment with version 1 or is answered PROTOCOL. (R215) -/
  | hello (p : Fin 8)
  /-- CLAIM. A CLAIM message claims up to 8 groups, each accepted or refused. (R216) -/
  | claim (p : Fin 8)
  /-- RELEASE. A RELEASE message releases owned, stopped groups. (R217) -/
  | release (p : Fin 8)
  /-- DETACH. A DETACH message stops, flushes and releases every group the port owns, then answers DETACHED. (R219) -/
  | detach (p : Fin 8)
  /-- TSP_NOP. A select-port NOP completes OK at decode. (R210) -/
  | tspNop (p : Fin 8)
  /-- TSP_CUE. A select-port CUE loads a context into a live slot of every member of the group. (R179) -/
  | tspCue (p : Fin 8)
  /-- TSP_PCUE. A select-port PCUE loads a context into the shadow of a slot of every member of the group. (R180) -/
  | tspPcue (p : Fin 8)
  /-- TSP_COMMIT. A select-port COMMIT schedules the pending shadows to go live at cycle K and advances the epoch. (R181) -/
  | tspCommit (p : Fin 8)
  /-- TSP_CANCEL. A select-port CANCEL discards the group's pending shadows. (R182) -/
  | tspCancel (p : Fin 8)
  /-- TSP_START. A select-port START schedules the group to start at timebase count T. (R176) -/
  | tspStart (p : Fin 8)
  /-- TSP_STOP. A select-port STOP stops the group at cycle K and flushes its select buffer. (R176) -/
  | tspStop (p : Fin 8)
  /-- TSP_HOP. A select-port HOP requests a hop of the root that the group's banks select. (R210) -/
  | tspHop (p : Fin 8)
  /-- TSP_RAMP. A select-port RAMP gives the ramp trigger 0b01 for the group's root. (R210) -/
  | tspRamp (p : Fin 8)
  /-- TSP_TAKE_ARM. A select-port TAKE with FLAG 0 arms a take. (R242) -/
  | tspTakeArm (p : Fin 8)
  /-- TSP_TAKE_START. A select-port TAKE with FLAG 1 delivers the start of an armed take at cycle K. (R244) -/
  | tspTakeStart (p : Fin 8)
  /-- TSP_CLAP. A select-port CLAP requests a clapper at timebase count T on the group's root. (R341) -/
  | tspClap (p : Fin 8)
  /-- EVENT_EDGE. An edge arrives on a channel's receiver; the activity monitor counts it and the acceptance checks stamp or lose it. (R229) -/
  | eventEdge (n : Fin 512) (input : Fin 3) (rising : Bool) (ref : Nat) (code : BitVec 14)
  /-- ACTIVITY_WINDOW_END. A 1 µs activity window ends and EDG1US takes its transition count. (R227) -/
  | activityWindowEnd (n : Fin 512)
  /-- QUIET_TIMEOUT. No transition has arrived for 1 ms, so QUIET rises, which is flagged during a take. (R227) -/
  | quietTimeout (n : Fin 512)
  /-- TKT_CTRL_ARM. A write of TKt_CTRL.ARM arms a take after its checks and starts the pre-roll. (R242) -/
  | tktCtrlArm (src : Source) (t : Fin 256) (w : Word)
  /-- TKT_CTRL_ABORT. A write of TKt_CTRL.ABORT aborts a take in PREROLL, ARMED or CAPTURE. (R245) -/
  | tktCtrlAbort (src : Source) (t : Fin 256) (w : Word)
  /-- TAKE_ARM_RESUME. An arm that waited for queued regression solves of its channels proceeds with its checks and actions. (R282) -/
  | takeArmResume (t : Fin 256)
  /-- PREROLL_HALF_DONE. A stamper's 64-cycle calibration half ends; G and O are accepted, repeated or failed, a slate is written, and after the last half the take is ARMED. (R236) -/
  | prerollHalfDone (n : Fin 512) (c1 c2 : Vector (BitVec 14) 8)
  /-- RESLATE_TIMER. 2^28 T-clock cycles have passed since a channel's last slate, so it re-slates. (R239) -/
  | reslateTimer (n : Fin 512)
  /-- TAKE_STOP_REACHED. The timebase passes the cycle holding t_stop − 1, so the take enters CLOSING. (R245) -/
  | takeStopReached (t : Fin 256)
  /-- TAKE_TIMEOUT. A take's timeout expires, which closes it with TIMEOUT. (R245) -/
  | takeTimeout (t : Fin 256)
  /-- TAKE_DONE. Every stamp before t_stop has been written, so the take reaches DONE, delivers its results and finalises its interval units. (R243) -/
  | takeDone (t : Fin 256)
  /-- TAKE_JOIN_WRITE. A write of CHn_TAKE changes take membership while the takes concerned are IDLE or DONE, otherwise it sets JOINREF. (R241) -/
  | takeJoinWrite (src : Source) (n : Fin 512) (w : Word)
  /-- RTAIL_WRITE. A write of CHn_RTAIL releases reel words in window drain mode, or is refused with BADTAIL. (R252) -/
  | rtailWrite (src : Source) (n : Fin 512) (w : Word)
  /-- REEL_FLUSH. A write of CHn_RCTRL.FLUSH empties the reel of a channel whose take is IDLE or DONE. (R253) -/
  | reelFlush (src : Source) (n : Fin 512) (w : Word)
  /-- DR_EN_WRITE. A write of DRr_CTRL.EN starts or stops a drain ring, closing its open buffers when cleared. (R255) -/
  | drEnWrite (src : Source) (r : Fin 64) (w : Word)
  /-- DTAIL_WRITE. A write of DRr_DTAIL posts descriptors to the ring. (R255) -/
  | dtailWrite (src : Source) (r : Fin 64) (w : Word)
  /-- CTAIL_WRITE. A write of DRr_CTAIL frees completion entries. (R255) -/
  | ctailWrite (src : Source) (r : Fin 64) (w : Word)
  /-- BUFFER_OPEN. A ring with a free buffer place and a descriptor opens a buffer for the oldest waiting channel, or counts starvation. (R256) -/
  | bufferOpen (r : Fin 64) (addr len cookie : Nat)
  /-- DRAIN_BURST. A ring writes a burst of reel words to an open buffer and writes a completion when the buffer closes. (R255) -/
  | drainBurst (r : Fin 64)
  /-- BUFFER_FLUSH_TIMEOUT. FLUSHUS µs have passed since an open buffer's first word, so it closes. (R255) -/
  | bufferFlushTimeout (r : Fin 64) (n : Fin 512)
  /-- DRAIN_EVENT_TIMEOUT. FLUSHUS µs have passed since the first unsignalled completion, so the ring raises its interrupt event. (R257) -/
  | drainEventTimeout (r : Fin 64)
  /-- FIFOLO_READ. A read of IVi_FIFOLO returns the oldest word's low half and copies its high half into IVi_FIFOHI. (R273) -/
  | fifoloRead (src : Source) (i : Fin 64)
  /-- FIFOHI_READ. A read of IVi_FIFOHI returns the high half and removes the oldest FIFO word. (R273) -/
  | fifohiRead (src : Source) (i : Fin 64)
  /-- REGRESSION_SOLVE. The regression engine finishes solving one queued channel, sets DONE and raises its event. (R280) -/
  | regressionSolve
  /-- REG_SEL_WRITE. A write of REG_SEL copies the named channel's six sums into REG_ACC. (R285) -/
  | regSelWrite (src : Source) (w : Word)
  /-- CALREF_ABSENT. No CALREF edge has arrived for 1 µs, so the monitor declares it absent. (R289) -/
  | calrefAbsent
  /-- CALREF_WINDOW_END. A 4,096-cycle CALREF frequency window ends and passes or fails. (R289) -/
  | calrefWindowEnd (count : Nat)
  /-- CAL_PASS_DONE. A calibration pass finishes; after the second, firmware compares the passes and applies, exports or refuses the result. (R293) -/
  | calPassDone (tainted active : Bool) (vals : List (List Int)) (refs : List (Nat × Int))
  /-- CDRV_WRITE. A write of CHn_CALCTRL.CDRV enters or leaves calibration drive mode, refused while the channel is a member. (R302) -/
  | cdrvWrite (src : Source) (n : Fin 512) (w : Word)
  /-- CDRV_START. 256 cycles after CDRV takes effect, the channel starts its accumulator and runs the calibration record. (R302) -/
  | cdrvStart (n : Fin 512)
  /-- DTC_SLEW_STEP. Every N channel cycles of a DTC slew, every entry in force moves toward its target. (R305) -/
  | dtcSlewStep (n : Fin 512)
  /-- FTRIM_SLEW_STEP. Each millisecond of a trim slew, firmware moves FTRIM by at most CAL_FTSTEP. (R306) -/
  | ftrimSlewStep (n : Fin 4)
  /-- TRACKER_UPDATE. Every 1 ms a bank's drift tracker updates its coefficients and outputs, skips, or raises a conflict. (R309) -/
  | trackerUpdate (b : Fin 8) (t : BitVec 16) (overlap : Bool) (mG mO : Int)
  /-- LINK_FRAME_RECEIVED. A Prailaom frame is accepted in order, or discarded and counted, and its items are delivered or forwarded. (R330) -/
  | linkFrameReceived (p : Fin 4) (frame : BitVec 2048) (invalid : Bool) (items : List LinkItem)
  /-- RESEND_TIMEOUT. A frame has stayed unacknowledged for 2 µs, so the sender resends; after 8 resends it sets LINKFAIL. (R330) -/
  | resendTimeout (p : Fin 4)
  /-- PRL_EN_WRITE. A write of PRLp_CTRL.EN enables or disables a Prailaom port. (R349) -/
  | prlEnWrite (src : Source) (p : Fin 4) (w : Word)
  /-- PRL_RETRAIN. A write of PRLp_CTRL.RETRAIN sends the link to DETECT. (R349) -/
  | prlRetrain (src : Source) (p : Fin 4) (w : Word)
  /-- IDENT. An IDENT item reports a peer's board ID, port, UID and GLB_ID. (R333) -/
  | ident (p : Fin 4)
  /-- TOPO. A TOPO item delivers the enumeration report and routing table. (R333) -/
  | topo (p : Fin 5)
  /-- PROBEDATA. A PROBEDATA item returns the far end's probe stamps, completing or failing the measurement. (R335) -/
  | probedata (p : Fin 4)
  /-- LINK_CLAP. A CLAP item schedules a clapper at a target, or is answered CLAP_LATE. (R342) -/
  | linkClap (p : Fin 5)
  /-- CLAPACK. A CLAPACK item reports a target's firing to the clapper's originator. (R344) -/
  | clapack (p : Fin 5)
  /-- XHOPPREP. An XHOPPREP item asks a target to check a synchronous hop. (R345) -/
  | xhopprep (p : Fin 5)
  /-- XHOPGO. An XHOPGO item puts a link hop request for the preset starting at T. (R345) -/
  | xhopgo (p : Fin 5)
  /-- XHOPACK. An XHOPACK item returns a target's answer to a synchronous hop. (R345) -/
  | xhopack (p : Fin 5)
  /-- XTAKEARM. An XTAKEARM item arms a take for a cross-device take. (R346) -/
  | xtakearm (p : Fin 5)
  /-- XTAKEDONE. An XTAKEDONE item returns a device's take completion and results. (R346) -/
  | xtakedone (p : Fin 5)
  /-- ALIGNVOID. An ALIGNVOID item clears ALIGNED for the root on the receiving device. (R340) -/
  | alignvoid (p : Fin 5)
  /-- FIRMWARE_MESSAGE. An internal firmware-to-firmware item is delivered. (R332) -/
  | firmwareMessage (p : Fin 5)
  /-- PROBE. A write of PRLp_CTRL.PROBE starts one link delay measurement. (R335) -/
  | probe (src : Source) (p : Fin 4) (w : Word)
  /-- PROBE_INTERVAL. Every 1 µs of a measurement the parent end sends a probe request. (R335) -/
  | probeInterval (p : Fin 4) (tx : Nat)
  /-- PROBE_BLOCK_RECEIVED. A probe block is stamped at the far end and answered, or its reply is stamped. (R335) -/
  | probeBlockReceived (p : Fin 4) (index : Nat) (reply : Bool) (stamp tx : Nat)
  /-- TBADJ_WRITE. A write of PRL_TBADJn adds whole cycles to the root's timebase when its banks are idle, otherwise it sets ADJREF. (R337) -/
  | tbadjWrite (src : Source) (n : Fin 4) (w : Word)
  /-- ALIGN_TRACKING. Every 100 ms a tracking child repeats the measurement and applies fine phase steps. (R338) -/
  | alignTracking (n : Fin 4)
  /-- CLAPPER_FIRE. The root's timebase reaches a clapper's T, starting armed ramps and takes and recording the count. (R343) -/
  | clapperFire (n : Fin 4)
  /-- CLAP_COMPLETION_TIMEOUT. 1 ms after T the clapper completes to its source with the answers it has. (R344) -/
  | clapCompletionTimeout (tag : Nat)
  /-- XO_GAP. No XO edge has arrived for 4 IRC cycles; before stability XORUN restarts, and after it the device resets for clock-source failure. (R352) -/
  | xoGap
  /-- XO_WINDOW_END. A 4,096-IRC-cycle XO window ends and passes or fails. (R352) -/
  | xoWindowEnd (count : Nat)
  /-- XO_STABLE. XORUN reaches 65,536, so the XO is declared stable, AON moves to the XO and the CPLL starts. (R352) -/
  | xoStable
  /-- CPLL_LOCK. The CPLL phase error has stayed within ±50 ps for 256 XO cycles, so it declares lock. (R353) -/
  | cpllLock
  /-- CPLL_ACQUISITION_TIMEOUT. The CPLL has not locked after 200 µs, so it sets CPLLFAIL and restarts. (R353) -/
  | cpllAcquisitionTimeout
  /-- CPLL_LOSS. The CPLL phase error leaves ±200 ps for 16 XO cycles after lock, which resets the device for clock-source failure. (R354) -/
  | cpllLoss
  /-- IRC_FAIL. No IRC edge has arrived for 8 XO cycles, so IRCFAIL is set and the XO monitor moves to CORE. (R355) -/
  | ircFail
  /-- DOMAIN_CFG_WRITE. A write of CLK_DOMd_CFG starts stepping a control domain to a new source or divider. (R356) -/
  | domainCfgWrite (src : Source) (d : Fin 5) (w : Word)
  /-- DIVIDER_STEP. After 256 domain cycles the divider takes its next step, or the multiplexer switches source. (R356) -/
  | dividerStep (d : Fin 5)
  /-- FORCED_SWITCH. The old source shows no edge within 64 cycles of the new one, so the multiplexer switches by force. (R358) -/
  | forcedSwitch (d : Fin 6)
  /-- GATE_TIMEOUT. An access is still open 1,024 cycles after a gate request, so it is completed with an error and the gate closes. (R359) -/
  | gateTimeout (block : Fin 89) (addr : BitVec 32)
  /-- PD_REQUEST. A write of PWR_PDREQj requests a power-domain state, which starts, waits, queues or is refused. (R361) -/
  | pdRequest (src : Source) (j : Fin 84) (w : Word)
  /-- PD_SEQUENCE_DONE. A power-domain sequence completes, and any waiting request starts. (R360) -/
  | pdSequenceDone (j : Fin 84)
  /-- STATE_CHANGE_DONE. Firmware finishes entering or leaving a device state. (R366) -/
  | stateChangeDone
  /-- AON_TIMER. PWR_AONNOW reaches PWR_AONTIM, which wakes the device when enabled. (R367) -/
  | aonTimer
  /-- PMB_ENABLE. A write of PMB_CTRL.EN = 1 initialises every valid regulator slot. (R369) -/
  | pmbEnable (src : Source) (w : Word)
  /-- PMB_POLL. Every POLLMS ms the device polls STATUS_WORD and READ_VOUT of each valid slot. (R369) -/
  | pmbPoll
  /-- SMBALERT. SMBALERT# is asserted, so the device reads the alert response address. (R368) -/
  | smbalert (low : Bool)
  /-- PMBUS_TRANSACTION_DONE. A PMBus transaction ends, succeeding or being retried up to 3 times before NORESP. (R370) -/
  | pmbusTransactionDone (fail : Bool) (v : BitVec 16)
  /-- AVS_UPDATE. Every 1 ms the adaptive loop moves VDD_CORE by the monitored slack within its bounds. (R371) -/
  | avsUpdate (m : BitVec 6)
  /-- URGENT_RAISE. Slack falls to MCRIT or below between updates, so the device raises VDD_CORE by UP within 20 µs. (R371) -/
  | urgentRaise (m : BitVec 6)
  /-- SUPPLY_FALL. A rail stays below its falling threshold for 200 ns, which asserts power-on reset. (R482) -/
  | supplyFall
  /-- POR_RELEASE. Every supply monitor has read above its rising threshold for 1 ms, so power-on reset is released. (R482) -/
  | porRelease
  /-- PERST_ASSERT. PERST# is asserted, which resets the device. (R382) -/
  | perstAssert
  /-- RESET_N_ASSERT. RESET_N is held low, which resets the device. (R382) -/
  | resetNAssert
  /-- WATCHDOG_EXPIRY. MS milliseconds pass without a kick, so the device resets with code 4. (R386) -/
  | watchdogExpiry
  /-- KICK. A write of SEC_WDTCTRL.KICK restarts the watchdog count. (R386) -/
  | kick (src : Source) (w : Word)
  /-- SOFTWARE_RESET. A write of SEC_RSTCTRL with KEY 0xA5 and GO resets the device. (R382) -/
  | softwareReset (src : Source) (w : Word)
  /-- FUSE_READ_DONE. The fuse read finishes and core 0 starts the boot ROM with the lifecycle and CRC checks. (R379) -/
  | fuseReadDone
  /-- RESET_WIPE_DONE. The reset wipes of the store, reels and Quorno RAM end. (R383) -/
  | resetWipeDone
  /-- BOOT_IMAGE_LOAD_DONE. An image copy ends and is verified, leading to PATCH, the next candidate or WAITPUSH. (R389) -/
  | bootImageLoadDone (a b : BootImage)
  /-- FLASH_NORESP. No valid header has come from the boot flash within 10 ms, so boot sets FLASH_NORESP and waits for a push. (R389) -/
  | flashNoresp
  /-- FIRMWARE_READY. Firmware finishes INIT, bringing a folio into force, and the mailbox becomes ready. (R387) -/
  | firmwareReady
  /-- PUSHLEN_WRITE. A write of SEC_PUSHLEN in WAITPUSH starts the copy and check of a pushed image. (R391) -/
  | pushlenWrite (src : Source) (w : Word)
  /-- CHAL. A write of SEC_DBGCTRL.CHAL requests a debug challenge nonce, or is refused. The device computes the verdict on a response itself; `ok`, of this row and of
CHECK, SEAL and SECACC, is the expectation of the sender and changes nothing. (R399) -/
  | chal (src : Source) (w : Word) (ok : Bool)
  /-- CHECK. A write of SEC_DBGCTRL.CHECK compares the response and enters the debug state, or counts a failure. (R399) -/
  | check (src : Source) (w : Word) (ok : Bool)
  /-- AUTH_OPEN_ENTRY_DONE. The wipes and resets of an AUTH-OPEN entry finish and DBG becomes AUTH-OPEN. (R400) -/
  | authOpenEntryDone
  /-- SEAL. A write of SEC_DBGCTRL.SEAL sets the debug state SEALED and ends sessions. (R401) -/
  | seal (src : Source) (w : Word) (ok : Bool)
  /-- NONCE_EXPIRY. A challenge nonce reaches its 10 s validity limit. (R399) -/
  | nonceExpiry
  /-- TEST_LOGIC_RESET. The TAP enters Test-Logic-Reset and IDCODE is selected. (R402) -/
  | testLogicReset
  /-- BYPASS. JTAG instruction BYPASS is selected. (R402) -/
  | bypass
  /-- IDCODE. JTAG instruction IDCODE is selected. (R402) -/
  | idcode
  /-- SAMPLE_PRELOAD. JTAG instruction SAMPLE/PRELOAD is selected. (R402) -/
  | samplePreload (cells : List Bool)
  /-- EXTEST. JTAG instruction EXTEST makes the covered balls follow the boundary cells. (R402) -/
  | extest
  /-- CLAMP. JTAG instruction CLAMP is selected. (R402) -/
  | clamp
  /-- HIGHZ. JTAG instruction HIGHZ is selected. (R402) -/
  | highz
  /-- SECACC. JTAG instruction SECACC accesses the SEC block as the profile permits. (R403) -/
  | secacc (off : BitVec 16) (wr : Bool) (w : Word) (ok : Bool)
  /-- DBGACC. JTAG instruction DBGACC accesses BAR0, Quorno RAM and core run control in profile A or O. (R477) -/
  | dbgacc (op : DbgOp)
  /-- FUSEPROG. JTAG instruction FUSEPROG programs the fuse words the profile permits. (R403) -/
  | fuseprog (word : Fin 512) (mask took : Word)
  /-- THERMTRIP. A sensor reads 110 °C or more for 100 µs, so THERMTRIP_N asserts until power-on reset. (R502) -/
  | thermtrip
  /-- ENDPOINT_RESET. A Function Level Reset, a hot reset or a link-down event resets the endpoint and host-facing state only. (R416) -/
  | endpointReset
  /-- FLOW_CTRL_WRITE. A write of FLf_CTRL enables a flow, clearing its counts, or disables it and drains its commands, or is refused. (R420) -/
  | flowCtrlWrite (src : Source) (f : Fin 64) (w : Word)
  /-- SQTAIL_WRITE. A write of FLf_SQTAIL posts commands, or is ignored with DBERR; it can wake the device. (R421) -/
  | sqtailWrite (f : Fin 64) (w : Word)
  /-- CQHEAD_WRITE. A write of FLf_CQHEAD frees completions, or is ignored with DBERR. (R421) -/
  | cqheadWrite (f : Fin 64) (w : Word)
  /-- FLOW_CANCEL. A write of FLf_CANCEL requests the cancellation of a command by its state. (R427) -/
  | flowCancel (f : Fin 64) (w : Word)
  /-- SCHEDULING_CYCLE. Every 4 ns the scheduler fetches posted commands and dispatches a ready command to a core, refusing unknown opcodes and partition violations. (R426) -/
  | schedulingCycle (entry : BitVec 512) (asks : List (Fin 4))
  /-- COMPLETION_WRITE. A finished command's completion is written in submission order when the ring has room. (R425) -/
  | completionWrite (f : Fin 64)
  /-- FLOW_EVENT_TIMEOUT. USEC µs have passed since the first unsignalled completion, so the flow raises its interrupt event. (R425) -/
  | flowEventTimeout (f : Fin 64)
  /-- ELTAIL_WRITE. A write of MBX_ELTAIL frees error-log records, or is ignored. (R432) -/
  | eltailWrite (src : Source) (w : Word)
  /-- ERROR_LOG_EVENT_TIMEOUT. USEC µs have passed since the first unsignalled error-log record, so vector 221 is raised. (R432) -/
  | errorLogEventTimeout
  /-- NOP. Mailbox NOP completes with no effect. (R429) -/
  | nop (f : Fin 64) (c : Nat)
  /-- DEV_INFO. Mailbox DEV_INFO returns firmware version, SVN, board ID, lifecycle and debug state. (R429) -/
  | devInfo (f : Fin 64) (c : Nat)
  /-- CTX_WRITE. Mailbox CTX_WRITE writes whole context records. (R163) -/
  | ctxWrite (f : Fin 64) (c : Nat) (buf : List Byte)
  /-- CTX_READ. Mailbox CTX_READ returns context records with their ECC outcome. (R429) -/
  | ctxRead (f : Fin 64) (c : Nat)
  /-- GRP_MEMBERS. Mailbox GRP_MEMBERS adds or removes channels of a group. (R430) -/
  | grpMembers (f : Fin 64) (c : Nat)
  /-- CUE. Mailbox CUE loads a context into a live slot of every member of a group no port owns. (R430) -/
  | cue (f : Fin 64) (c : Nat)
  /-- PCUE. Mailbox PCUE stages a context into a slot's shadow for an unowned group. (R430) -/
  | pcue (f : Fin 64) (c : Nat)
  /-- COMMIT. Mailbox COMMIT schedules the pending shadows of an unowned group to go live at K. (R430) -/
  | commit (f : Fin 64) (c : Nat)
  /-- CANCEL. Mailbox CANCEL discards the pending shadows of an unowned group. (R430) -/
  | cancel (f : Fin 64) (c : Nat)
  /-- START. Mailbox START schedules an unowned group to start at T or after a lead. (R430) -/
  | start (f : Fin 64) (c : Nat)
  /-- STOP. Mailbox STOP stops an unowned group at cycle K. (R430) -/
  | stop (f : Fin 64) (c : Nat)
  /-- HOP. Mailbox HOP requests a hop of a root through SYNn_HOP. (R429) -/
  | hop (f : Fin 64) (c : Nat)
  /-- RAMP. Mailbox RAMP starts a root's ramp. (R429) -/
  | ramp (f : Fin 64) (c : Nat)
  /-- TAKE_ARM. Mailbox TAKE_ARM arms a take and can wait for DONE. (R429) -/
  | takeArm (f : Fin 64) (c : Nat)
  /-- TAKE_ABORT. Mailbox TAKE_ABORT aborts a take and completes at DONE. (R429) -/
  | takeAbort (f : Fin 64) (c : Nat)
  /-- TAKE_READ. Mailbox TAKE_READ returns a take's results and completion record. (R429) -/
  | takeRead (f : Fin 64) (c : Nat)
  /-- INTV_READ. Mailbox INTV_READ returns an interval unit's registers and FIFO words. (R429) -/
  | intvRead (f : Fin 64) (c : Nat)
  /-- REGR_READ. Mailbox REGR_READ returns per-channel regression results. (R429) -/
  | regrRead (f : Fin 64) (c : Nat)
  /-- REGR_SUMS. Mailbox REGR_SUMS returns per-channel regression sums through REG_SEL. (R429) -/
  | regrSums (f : Fin 64) (c : Nat)
  /-- CAL_RUN. Mailbox CAL_RUN checks preconditions and runs both passes of a calibration family part. (R290) -/
  | calRun (f : Fin 64) (c : Nat) (buf : List Byte)
  /-- CAL_NEXT. Mailbox CAL_NEXT releases the next drive-path skew step. (R303) -/
  | calNext (f : Fin 64) (c : Nat)
  /-- CAL_SUBMIT. Mailbox CAL_SUBMIT applies host-solved calibration values after range checks. (R295) -/
  | calSubmit (f : Fin 64) (c : Nat) (buf : List Byte)
  /-- LEDGER_EXPORT. Mailbox LEDGER_EXPORT builds a ledger of the values in force in the staging window. (R316) -/
  | ledgerExport (f : Fin 64) (c : Nat)
  /-- LEDGER_IMPORT. Mailbox LEDGER_IMPORT checks a staged ledger and brings it into force whole. (R317) -/
  | ledgerImport (f : Fin 64) (c : Nat)
  /-- LEDGER_SAVE. Mailbox LEDGER_SAVE writes a sealed ledger to the older folio and optionally pre-erases the other. (R319) -/
  | ledgerSave (f : Fin 64) (c : Nat) (body seal_ : Bool)
  /-- DRIFT_SET. Mailbox DRIFT_SET writes a bank's GC and OC in host drift mode. (R312) -/
  | driftSet (f : Fin 64) (c : Nat)
  /-- BOARD_ENUM. Mailbox BOARD_ENUM starts board enumeration at device 0. (R333) -/
  | boardEnum (f : Fin 64) (c : Nat)
  /-- BOARD_ALIGN. Mailbox BOARD_ALIGN aligns a root on every device down the tree. (R336) -/
  | boardAlign (f : Fin 64) (c : Nat)
  /-- ALIGN_SET. Mailbox ALIGN_SET ends a host alignment by setting ALIGNED. (R336) -/
  | alignSet (f : Fin 64) (c : Nat)
  /-- CLAP. Mailbox CLAP requests a clapper at T on a root for a target mask. (R341) -/
  | clap (f : Fin 64) (c : Nat)
  /-- XHOP. Mailbox XHOP runs a two-phase synchronous hop across devices. (R345) -/
  | xhop (f : Fin 64) (c : Nat)
  /-- XTAKE. Mailbox XTAKE arms named takes on several devices and starts them with one clapper. (R346) -/
  | xtake (f : Fin 64) (c : Nat)
  /-- PWR_STATE. Mailbox PWR_STATE moves the device to another power state, or is refused with PWR_BUSY. (R366) -/
  | pwrState (f : Fin 64) (c : Nat)
  /-- AVS_SET. Mailbox AVS_SET sets VDD_CORE in host AVS mode within the bounds. (R373) -/
  | avsSet (f : Fin 64) (c : Nat)
  /-- PMB_RAW. Mailbox PMB_RAW performs a raw PMBus transaction on a slot. (R368) -/
  | pmbRaw (f : Fin 64) (c : Nat)
  /-- DBG_CHALLENGE. Mailbox DBG_CHALLENGE requests a debug challenge nonce. (R399) -/
  | dbgChallenge (f : Fin 64) (c : Nat)
  /-- DBG_RESPOND. Mailbox DBG_RESPOND writes and checks a debug response; `ok`: the response in the command's buffer matches. (R399) -/
  | dbgRespond (f : Fin 64) (c : Nat) (ok : Bool)
  /-- DBG_SEAL. Mailbox DBG_SEAL sets the debug state SEALED. (R401) -/
  | dbgSeal (f : Fin 64) (c : Nat)
  /-- LC_ADVANCE. Mailbox LC_ADVANCE programs the next lifecycle byte and resets the device. (R395) -/
  | lcAdvance (f : Fin 64) (c : Nat) (supply : Bool) (bits : BitVec 8)
  /-- SVN_COMMIT. Mailbox SVN_COMMIT programs SVN fuse bits up to the running image's SVN. (R397) -/
  | svnCommit (f : Fin 64) (c : Nat) (supply : Bool) (bits : BitVec 64)
  /-- KEY_REVOKE. Mailbox KEY_REVOKE programs the revocation nibble of a root key slot. (R397) -/
  | keyRevoke (f : Fin 64) (c : Nat) (supply : Bool) (bits : BitVec 4)
  /-- MCMD. A write of SPTp_MCMD with GO starts a master frame, or is refused while busy. (R443) -/
  | mcmd (src : Source) (p : Fin 16) (w : Word) (ins : List Word)
  /-- TXDATA_WRITE. A write of SPTp_TXDATA pushes a unit into the transmit FIFO, or sets TXOVF when it is full. (R444) -/
  | txdataWrite (src : Source) (p : Fin 16) (w : Word)
  /-- RXDATA_READ. A read of SPTp_RXDATA removes the oldest received unit. (R467) -/
  | rxdataRead (src : Source) (p : Fin 16)
  /-- STALL_RESUME. A stalled master frame resumes once transmit data or receive room is available. (R444) -/
  | stallResume (p : Fin 16) (ins : List Word)
  /-- MASTER_FRAME_DONE. A master frame's last unit and LAG complete, so SSTB_N rises and DONE is set. (R445) -/
  | masterFrameDone (p : Fin 16)
  /-- MASTER_FAULT. Another master is seen on SSTB_N or SCK, so the port abandons its frame and releases its outputs. (R452) -/
  | masterFault (p : Fin 16)
  /-- SLAVE_SELECT. SSTB_N falls on a slave port, starting a frame, or waking the device in DEEP-SLEEP. (R447) -/
  | slaveSelect (p : Fin 16)
  /-- SLAVE_HEADER. A slave port receives the header byte and returns its status byte. (R446) -/
  | slaveHeader (p : Fin 16) (h : BitVec 8)
  /-- SLAVE_DATA_WORD. A slave port completes a 32-bit data word, reading or writing a map word, with end-of-map and extra-edge handling. (R448) -/
  | slaveDataWord (p : Fin 16) (w : Word) (edges : Nat)
  /-- SLAVE_DESELECT. SSTB_N rises on a slave port, discarding any partial unit. (R451) -/
  | slaveDeselect (p : Fin 16) (slot part : Bool)
  /-- XIP_READ. A core reads the execute-in-place window, served from the read buffer or by a line fetch. (R455) -/
  | xipRead (off : BitVec 28)
  /-- XIP_LINE_FETCH. A 64-byte Fast Read of a missed line completes into the read buffer. (R455) -/
  | xipLineFetch (bytes : List Byte)
  /-- INVALID_BLOCK. An invalid 128b/130b block arriving on a TSP or Prailaom lane between frames is counted in the lane's error counter and advances the count of consecutive invalid sync headers. (R200) -/
  | invalidBlock (p : Fin 12) (lane : Fin 4)
  /-- CALREF_EDGES_RETURN. CALREF edges arrive again after the monitor declared CALREF absent, so PRESENT is set again. (R289) -/
  | calrefEdgesReturn
  /-- CONFIGURATION_WRITE. A PCIe configuration write changes Bus Master Enable, the power state (D0 or D3hot), or MSI-X Enable or Function Mask, which pauses or resumes DMA and sends held MSI-X messages. (R416) -/
  | configurationWrite (bme d3hot msixEn fmask : Bool)
  /-- RESET_RELEASE. PERST# or RESET_N is deasserted, ending the reset and letting the fuse read and boot begin. (R382) -/
  | resetRelease (perst : Bool)
  /-- DMA_ERROR_COMPLETION. A DMA read of a command's buffer receives an error completion, so the command stops, completes DMA_ERROR, sets DMAERR and posts DMA_FAULT. (R431) -/
  | dmaErrorCompletion (f : Fin 64) (c : Nat) (got : List Byte)
  /-- DMA_WRITE_TIMEOUT. A buffer write has not been issued within 10 ms, so the command stops and completes DMA_ERROR. (R431) -/
  | dmaWriteTimeout (f : Fin 64) (c : Nat)
  /-- STAGING_WINDOW_WRITE. A host write to the BAR2 ledger staging window or the unused BAR2 range is stored, or is discarded and counted in GLB_WINVIOL while a command owns the window or for the unused range. (R475) -/
  | stagingWindowWrite (off : Nat) (bytes : List Byte)
  deriving DecidableEq, Repr

end Sys2Proof
end

