-- ==== Sys2Proof/Decode.lean ====
section
/-! DEFINITION. No row of the opcode table has bits, so no word spells a command. -/

set_option Elab.async false

namespace Sys2Proof

/-- The command that a word spells by the table's bits: none, since no row gives any. -/
def decodeTableWord (_nbits _w : Nat) : Option Instr := none

end Sys2Proof
end

