-- ==== Sys2Proof/Machine/Crc.lean ====
section
/-! DEFINITION. The CRC-32 of frames, ledgers and link items (07, R197; 10, R314; 11, R329): polynomial 0x04C1_1DB7,
bit-reflected, initial value and final XOR all ones; and the CRC-8 of PMBus transactions (12, R372): polynomial 0x07, initial value 0. -/

set_option Elab.async false

namespace Sys2Proof.Machine

/-- One bit of the reflected division. -/
def crcBit (c : Nat) : Nat := Nat.xor (c / 2) (c % 2 * 0xEDB88320)

/-- One byte. -/
def crcByte (c b : Nat) : Nat :=
  crcBit (crcBit (crcBit (crcBit (crcBit (crcBit (crcBit (crcBit (Nat.xor c (b % 256)))))))))

/-- The division over bytes. The match only has the kernel evaluate one byte before the next. -/
def crcBytes : Nat → List Nat → Nat
  | c, [] => c
  | c, b :: t => match crcByte c b with
    | 0 => crcBytes 0 t
    | k + 1 => crcBytes (k + 1) t

/-- The CRC-32 of bytes. -/
def crc32 (bs : List Nat) : Nat := Nat.xor (crcBytes 0xFFFFFFFF bs) 0xFFFFFFFF

/-- One bit of the CRC-8. -/
def pecBit (c : Nat) : Nat := Nat.xor (c * 2 % 256) (c / 128 * 0x07)

/-- The packet error code of the bytes of a PMBus transaction. -/
def pec (bs : List Nat) : Nat :=
  bs.foldl (fun c b => pecBit (pecBit (pecBit (pecBit (pecBit (pecBit (pecBit (pecBit (Nat.xor c (b % 256)))))))))) 0

end Sys2Proof.Machine
end

