-- ==== Sys2Proof/Config.lean ====
section
/-! DEFINITION. What an implementation fixes and the manual does not: the free values. Each is a constant with no body,
so that no proof can see what it is; a meaning applies it to the counter `free` of the state, which then advances, or
to the operands it depends on. -/

set_option Elab.async false

namespace Sys2Proof.Config

/-- The dither sample of a phase-detector cycle: 0, 1 or 2 modulo 3 stands for -1, 0, +1 LSB (02, R39: the polynomial of
the LFSR is not given). -/
opaque freeDither : Nat → Nat

/-- Whether round(a / b) goes up when a / b lies exactly half way (the manual names no rule for ties). -/
opaque tieUp : Nat → Nat → Bool

/-- Whether the averager's mean of a sum over a count is rounded up where it is no whole unit (03, R93). -/
opaque meanUp : Int → Nat → Bool

/-- The syndrome of an error pattern of a stored code word (06, R162: the code's matrix is not given). -/
opaque eccSyndrome : Nat → BitVec 10

/-- What an error pattern of three or more bits is taken for (06, R162), modulo 3: 0 a double-bit error, 1 a single-bit
error that is corrected wrongly, 2 clean. -/
opaque eccMany : Nat → Nat

/-- The data bit that a wrong correction of an error pattern flips (06, R162). -/
opaque eccFlip : Nat → BitVec 8

/-- What a field shows of a result too large for its format, where the manual states none: applied to the exact
value. -/
opaque outOfRange : Nat → Nat

/-- The address after the last word of the microcode ROM (8,191) or of the patch RAM (8,703), modulo 8,704 (03, R102). -/
opaque microWrap : Nat → Nat

/-- The control code of a bank DLL after its delay line was scaled (04, R114, R117: the code's value is not calibrated): applied
to the state's counter, the code before, the word before and after. -/
opaque dllScale : Nat → Nat → Nat → Nat → BitVec 16

/-- The interpolator code of an edge that a change of a receiver's settings makes (08, R226 to R228): applied to the state's
counter. -/
opaque switchCode : Nat → BitVec 14

/-- A value that the manual leaves open where the machine goes on: applied to the state's counter and to which of the
values of one command it is. -/
opaque freeNat : Nat → Nat → Nat

/-- The 15 payload bytes of the items that carry a message (11, R332: internal to firmware), by the number of the item. -/
opaque itemWord : LinkItem → Nat → BitVec 120

end Sys2Proof.Config
end

