-- ==== Sys2Proof/Machine/Codes.lean ====
section
/-! DEFINITION. The numbers of the result codes (14, R434). -/

set_option Elab.async false

namespace Sys2Proof.Machine.Code

/-- Done as asked -/
def OK : Nat := 0x00
/-- Withdrawn or aborted before effect (R54, R427) -/
def CANCELLED : Nat := 0x01
/-- Take timeout expired (R245) -/
def TIMEOUT : Nat := 0x02
/-- Unknown opcode -/
def BAD_OPCODE : Nat := 0x03
/-- Operand or buffer length out of range -/
def BAD_PARAM : Nat := 0x04
/-- Outside the flow's partition (R428) -/
def PARTITION : Nat := 0x05
/-- Buffer transfer failed (R431) -/
def DMA_ERROR : Nat := 0x06
/-- Trigger while not armed (R210) -/
def IGNORED : Nat := 0x07
/-- Value outside its field or bounds -/
def VALUE_RANGE : Nat := 0x08
/-- Target domain or state not available (R363) -/
def POWER_OFF : Nat := 0x09
/-- State change refused (R366) -/
def PWR_BUSY : Nat := 0x0A
/-- Function is in host-assisted mode -/
def HOST_MODE : Nat := 0x0B
/-- Mixed timebases or split group (R18, R113) -/
def ROOT_MISMATCH : Nat := 0x10
/-- Group owned by a select port (R21) -/
def PORT_OWNED : Nat := 0x11
/-- Group has no members -/
def NO_MEMBERS : Nat := 0x12
/-- Target epoch not epoch plus 1 -/
def EPOCH_MISMATCH : Nat := 0x13
/-- Cycle not eligible (R181) -/
def COMMIT_LATE : Nat := 0x14
/-- A commit is scheduled -/
def COMMIT_PENDING : Nat := 0x15
/-- Group must be stopped -/
def GROUP_RUNNING : Nat := 0x16
/-- Group is stopped -/
def NOT_RUNNING : Nat := 0x17
/-- T too close (R176) -/
def START_LATE : Nat := 0x18
/-- Cancel after commit (R182) -/
def ALREADY_COMMITTED : Nat := 0x19
/-- A member's target made void (R167) -/
def ECC_VOID : Nat := 0x1A
/-- Select underrun (R206) -/
def UNDERRUN : Nat := 0x1B
/-- Group halted on a taint opening (R122, R126) -/
def GROUP_HALTED : Nat := 0x1C
/-- Frequency outside R55 item 1 -/
def FREQ_RANGE : Nat := 0x20
/-- Hop leaves a pinned band -/
def BAND_PINNED : Nat := 0x21
/-- Ramp or spread leaves the band -/
def BAND_LIMIT : Nat := 0x22
/-- Root not LOCKED -/
def NOT_LOCKED : Nat := 0x23
/-- Ramp running -/
def RAMP_BUSY : Nat := 0x24
/-- Word changed since suspension (R80) -/
def RESUME_STALE : Nat := 0x25
/-- Hop executing or pending (R345) -/
def HOP_BUSY : Nat := 0x26
/-- Port does not own the group -/
def NOT_OWNER : Nat := 0x30
/-- Link protocol violated (R215) -/
def PROTOCOL : Nat := 0x31
/-- Group not in GRPMASK -/
def NOT_PERMITTED : Nat := 0x32
/-- Another port owns the group -/
def GROUP_OWNED : Nat := 0x33
/-- Port owns 8 groups -/
def PORT_FULL : Nat := 0x34
/-- Sequence gap (R199) -/
def FRAME_LOST : Nat := 0x35
/-- Take neither IDLE nor DONE -/
def TAKE_BUSY : Nat := 0x40
/-- No channel joined -/
def NO_CHANNELS : Nat := 0x41
/-- Named channel not joined -/
def BAD_CHANNEL : Nat := 0x42
/-- Start for a take that is not waiting for one (R244) -/
def NOT_ARMED : Nat := 0x43
/-- Pre-roll failed twice (R237) -/
def PREROLL_FAIL : Nat := 0x44
/-- Reel full under STOP (R251) -/
def REEL_FULL : Nat := 0x45
/-- No interval formed -/
def NO_PAIRS : Nat := 0x46
/-- Sum limits exceeded (R271, R277) -/
def SUM_OVF : Nat := 0x47
/-- Fewer than 3 stamps (R278) -/
def TOO_FEW : Nat := 0x48
/-- Prerequisite family not valid -/
def PRECOND_ORDER : Nat := 0x50
/-- Channel in use -/
def PRECOND_BUSY : Nat := 0x51
/-- CALREF absent or out of window -/
def PRECOND_CALREF : Nat := 0x52
/-- Not locked, or tainted result -/
def PRECOND_LOCK : Nat := 0x53
/-- Input activity not as assumed -/
def PRECOND_ACTIVITY : Nat := 0x54
/-- Passes disagree (R293) -/
def DISAGREE : Nat := 0x55
/-- Run, import or save in progress -/
def CAL_BUSY : Nat := 0x56
/-- Trim beyond ±2³¹ -/
def FTRIM_RANGE : Nat := 0x57
/-- Adaptive loop held at a bound -/
def POLICY_CONFLICT : Nat := 0x58
/-- Length wrong -/
def LEDGER_LENGTH : Nat := 0x60
/-- MAGIC, HDRLEN or FORMAT wrong -/
def LEDGER_VERSION : Nat := 0x61
/-- Another device's ledger -/
def LEDGER_UID : Nat := 0x62
/-- CRC mismatch -/
def LEDGER_CRC : Nat := 0x63
/-- Seal mismatch -/
def LEDGER_SEAL : Nat := 0x64
/-- Flash read-back failed -/
def LEDGER_FLASH : Nat := 0x65
/-- Device 0 unreachable -/
def NO_MASTER : Nat := 0x70
/-- Board ID twice -/
def BDID_DUP : Nat := 0x71
/-- No permitted topology -/
def TOPO_BAD : Nat := 0x72
/-- Link measurement failed -/
def PROBE_FAIL : Nat := 0x73
/-- Root settings differ -/
def ALIGN_FREQ : Nat := 0x74
/-- Bank active or TBADJ refused -/
def ALIGN_BUSY : Nat := 0x75
/-- Root not aligned -/
def ALIGN_VOID : Nat := 0x76
/-- Clapper too late -/
def CLAP_LATE : Nat := 0x77
/-- A target did not answer -/
def CLAP_PARTIAL : Nat := 0x78
/-- A target refused -/
def XHOP_REFUSED : Nat := 0x79
/-- Route unavailable -/
def LINK_DOWN : Nat := 0x7A
/-- CORE rail held by the adaptive loop -/
def AVS_OWNED : Nat := 0x80
/-- Regulator did not respond (R370) -/
def PMB_NORESP : Nat := 0x81
/-- Lifecycle, SVN or key change not permitted -/
def LC_REFUSED : Nat := 0x90
/-- Debug target not reachable -/
def DEBUG_REFUSED : Nat := 0x91
/-- Device busy for a fuse change -/
def LC_BUSY : Nat := 0x92
/-- VDD_FUSE out of range -/
def LC_SUPPLY : Nat := 0x93
/-- Fuse byte not programmed -/
def LC_FUSE : Nat := 0x94
/-- Response mismatch -/
def AUTH_FAIL : Nat := 0x95
/-- Three failures -/
def AUTH_LOCKOUT : Nat := 0x96
/-- Entry to AUTH-OPEN refused (R400) -/
def DEBUG_BUSY : Nat := 0x97

end Sys2Proof.Machine.Code
end

