-- ==== Sys2Proof/Machine/RegMap.lean ====
section
/-! DEFINITION. The register map: every register of BAR0 and of the BAR4 flow pages with its fields, their access
codes (00, R11) and their reset values, as 16_register_map.md (R461 to R465) and the field maps it names give them.
A BAR4 offset o stands at the key 0x1000_0000 + o. Field values are those of the field maps' Reset columns; a reset
that depends on the instance, on fuses or on straps is in `resetFix`. -/

set_option Elab.async false

namespace Sys2Proof.Machine

/-- The access codes of a field (00, R11; RWS in 13). -/
inductive Acc where
  | ro | rw | rc | w1c | w1s | wo | rwl | rws
  deriving DecidableEq, Repr

/-- One field of a register: its lowest bit, its width, its access code and its reset value. -/
structure FieldSpec where
  lo : Nat
  len : Nat
  acc : Acc
  reset : Nat
  deriving DecidableEq, Repr

/-- One register or register array of a block: its offset, the (stride, count) of each index, its fields. Bits in no
field are reserved: they read 0 and writes to them have no effect (00, R12). -/
structure RegSpec where
  off : Nat
  dims : List (Nat × Nat)
  fields : List FieldSpec
  deriving DecidableEq, Repr

/-- A place of a register: the register's address, the field's lowest bit and its width. -/
structure Ref where
  addr : Nat
  lo : Nat
  len : Nat
  deriving DecidableEq, Repr

/-- Block GLB, registers GLB_ID to GLB_MODE. -/
def glbRegs0 : List RegSpec := [
  ⟨0x0, [], [⟨0, 8, .ro, 0xB1⟩, ⟨16, 16, .ro, 0x5120⟩]⟩,
  ⟨0x4, [], [⟨31, 1, .w1s, 0x0⟩]⟩,
  ⟨0x8, [], [⟨0, 16, .rc, 0x0⟩]⟩,
  ⟨0xC, [], [⟨0, 16, .rc, 0x0⟩]⟩,
  ⟨0x10, [], [⟨0, 32, .rw, 0x0⟩]⟩,
  ⟨0x40, [], [⟨1, 1, .rw, 0x0⟩, ⟨2, 1, .rw, 0x0⟩, ⟨3, 1, .rw, 0x0⟩, ⟨4, 1, .rwl, 0x0⟩, ⟨5, 1, .rwl, 0x0⟩, ⟨6, 1, .rw, 0x0⟩, ⟨7, 1, .rw, 0x0⟩, ⟨8, 1, .rw, 0x0⟩, ⟨9, 1, .rw, 0x0⟩, ⟨10, 1, .rw, 0x0⟩]⟩]

/-- Every register of block GLB. -/
def glbRegs : List RegSpec := glbRegs0

/-- Block CLK, registers CLK_CTRL to CLK_DOMd_STAT. -/
def clkRegs0 : List RegSpec := [
  ⟨0x0, [], [⟨31, 1, .w1s, 0x0⟩]⟩,
  ⟨0x4, [], [⟨0, 17, .ro, 0x0⟩, ⟨28, 1, .ro, 0x1⟩, ⟨29, 1, .ro, 0x0⟩, ⟨30, 1, .ro, 0x0⟩, ⟨31, 1, .ro, 0x0⟩]⟩,
  ⟨0x8, [], [⟨0, 1, .w1c, 0x0⟩, ⟨1, 1, .w1c, 0x0⟩, ⟨2, 1, .w1c, 0x0⟩, ⟨3, 1, .w1c, 0x0⟩, ⟨4, 1, .w1c, 0x0⟩]⟩,
  ⟨0xC, [], [⟨0, 1, .rw, 0x0⟩, ⟨1, 1, .rw, 0x0⟩, ⟨2, 1, .rw, 0x0⟩, ⟨3, 1, .rw, 0x0⟩, ⟨4, 1, .rw, 0x0⟩]⟩,
  ⟨0x10, [], [⟨0, 4, .rws, 0x0⟩, ⟨8, 8, .rws, 0x0⟩, ⟨31, 1, .rws, 0x0⟩]⟩,
  ⟨0x20, [], [⟨29, 1, .rw, 0x0⟩, ⟨30, 1, .rw, 0x1⟩, ⟨31, 1, .rw, 0x1⟩]⟩,
  ⟨0x100, [(0x10, 5)], [⟨0, 6, .rwl, 0x1⟩, ⟨16, 2, .rwl, 0x0⟩, ⟨29, 1, .rwl, 0x0⟩, ⟨30, 1, .rwl, 0x1⟩, ⟨31, 1, .rwl, 0x1⟩]⟩,
  ⟨0x104, [(0x10, 5)], [⟨0, 6, .ro, 0x1⟩, ⟨16, 2, .ro, 0x0⟩, ⟨29, 1, .ro, 0x0⟩, ⟨30, 1, .ro, 0x0⟩, ⟨31, 1, .ro, 0x1⟩]⟩]

/-- Every register of block CLK. -/
def clkRegs : List RegSpec := clkRegs0

/-- Block PWR, registers PWR_CTRL to PWR_PDSTATj. -/
def pwrRegs0 : List RegSpec := [
  ⟨0x0, [], [⟨31, 1, .w1s, 0x0⟩]⟩,
  ⟨0x4, [], [⟨0, 8, .ro, 0x0⟩, ⟨23, 1, .ro, 0x0⟩, ⟨24, 4, .ro, 0x0⟩, ⟨28, 4, .ro, 0x0⟩]⟩,
  ⟨0x8, [], [⟨0, 1, .w1c, 0x0⟩, ⟨1, 1, .w1c, 0x0⟩, ⟨2, 1, .w1c, 0x0⟩]⟩,
  ⟨0xC, [], [⟨0, 1, .rw, 0x0⟩, ⟨1, 1, .rw, 0x0⟩, ⟨2, 1, .rw, 0x0⟩]⟩,
  ⟨0x10, [], [⟨0, 1, .rw, 0x1⟩, ⟨1, 1, .rw, 0x0⟩, ⟨2, 1, .rw, 0x0⟩, ⟨8, 16, .rw, 0x0⟩]⟩,
  ⟨0x14, [], [⟨0, 4, .ro, 0x0⟩, ⟨8, 4, .ro, 0x0⟩]⟩,
  ⟨0x18, [], [⟨0, 32, .rw, 0x0⟩]⟩,
  ⟨0x1C, [], [⟨0, 32, .ro, 0x0⟩]⟩,
  ⟨0x20, [], [⟨0, 32, .rc, 0x0⟩]⟩,
  ⟨0x100, [(0x4, 84)], [⟨0, 2, .rwl, 0x2⟩]⟩,
  ⟨0x300, [(0x4, 84)], [⟨8, 4, .ro, 0x0⟩, ⟨26, 2, .ro, 0x0⟩, ⟨28, 1, .ro, 0x0⟩, ⟨29, 3, .ro, 0x2⟩]⟩]

/-- Every register of block PWR. -/
def pwrRegs : List RegSpec := pwrRegs0

/-- Block SEC, registers SEC_CTRL to SEC_DLYw. -/
def secRegs0 : List RegSpec := [
  ⟨0x0, [], [⟨31, 1, .w1s, 0x0⟩]⟩,
  ⟨0x4, [], [⟨24, 2, .ro, 0x0⟩, ⟨26, 2, .ro, 0x0⟩, ⟨28, 4, .ro, 0x0⟩]⟩,
  ⟨0x8, [], [⟨0, 4, .rws, 0x0⟩, ⟨8, 7, .rws, 0x0⟩, ⟨24, 8, .rws, 0x0⟩]⟩,
  ⟨0xC, [], [⟨0, 1, .wo, 0x0⟩, ⟨8, 8, .wo, 0x0⟩]⟩,
  ⟨0x10, [], [⟨16, 2, .ro, 0x0⟩, ⟨18, 1, .ro, 0x0⟩, ⟨19, 1, .ro, 0x0⟩, ⟨20, 4, .ro, 0x0⟩, ⟨24, 4, .ro, 0x0⟩, ⟨28, 4, .ro, 0x0⟩]⟩,
  ⟨0x14, [], [⟨0, 1, .rws, 0x0⟩]⟩,
  ⟨0x18, [], [⟨0, 32, .wo, 0x0⟩]⟩,
  ⟨0x1C, [], [⟨0, 32, .ro, 0x0⟩]⟩,
  ⟨0x20, [], [⟨0, 8, .ro, 0x0⟩, ⟨8, 8, .ro, 0x0⟩]⟩,
  ⟨0x24, [], [⟨0, 32, .ro, 0x0⟩]⟩,
  ⟨0x28, [], [⟨0, 32, .ro, 0x0⟩]⟩,
  ⟨0x2C, [], [⟨0, 1, .wo, 0x0⟩, ⟨1, 1, .wo, 0x0⟩, ⟨2, 1, .wo, 0x0⟩, ⟨8, 2, .wo, 0x0⟩]⟩,
  ⟨0x30, [], [⟨0, 16, .rc, 0x0⟩, ⟨24, 4, .ro, 0x0⟩, ⟨28, 2, .ro, 0x0⟩, ⟨30, 1, .ro, 0x0⟩, ⟨31, 1, .ro, 0x0⟩]⟩,
  ⟨0x34, [], [⟨0, 16, .rwl, 0x0⟩, ⟨16, 1, .wo, 0x0⟩, ⟨31, 1, .rwl, 0x0⟩]⟩,
  ⟨0x38, [], [⟨0, 8, .ro, 0x0⟩, ⟨8, 1, .ro, 0x0⟩]⟩,
  ⟨0x40, [(0x4, 8)], [⟨0, 32, .ro, 0x0⟩]⟩,
  ⟨0x60, [(0x4, 8)], [⟨0, 32, .wo, 0x0⟩]⟩,
  ⟨0x1000, [(0x4, 1024)], [⟨0, 32, .ro, 0x0⟩]⟩]

/-- Every register of block SEC. -/
def secRegs : List RegSpec := secRegs0

/-- Block MBX, registers MBX_CTRL to FLf_STAT. -/
def mbxRegs0 : List RegSpec := [
  ⟨0x0, [], [⟨31, 1, .w1s, 0x0⟩]⟩,
  ⟨0x10, [], [⟨0, 16, .rw, 0x64⟩, ⟨16, 8, .rw, 0x1⟩, ⟨24, 5, .rw, 0xA⟩, ⟨31, 1, .rw, 0x0⟩]⟩,
  ⟨0x14, [], [⟨0, 32, .rw, 0x0⟩]⟩,
  ⟨0x18, [], [⟨0, 32, .rw, 0x0⟩]⟩,
  ⟨0x1C, [], [⟨0, 32, .ro, 0x0⟩]⟩,
  ⟨0x20, [], [⟨0, 32, .rw, 0x0⟩]⟩,
  ⟨0x24, [], [⟨0, 32, .rc, 0x0⟩]⟩,
  ⟨0x30, [], [⟨0, 32, .rc, 0x0⟩]⟩,
  ⟨0x34, [], [⟨0, 30, .ro, 0x0⟩, ⟨30, 2, .ro, 0x0⟩]⟩,
  ⟨0x100, [(0x4, 16)], [⟨0, 32, .ro, 0x0⟩]⟩,
  ⟨0x140, [(0x4, 8)], [⟨0, 32, .w1c, 0x0⟩]⟩,
  ⟨0x1000, [(0x40, 64)], [⟨0, 16, .rw, 0x64⟩, ⟨16, 8, .rw, 0x1⟩, ⟨29, 1, .rwl, 0x0⟩, ⟨30, 1, .rw, 0x0⟩, ⟨31, 1, .rw, 0x0⟩]⟩,
  ⟨0x1004, [(0x40, 64)], [⟨0, 32, .rw, 0x0⟩]⟩,
  ⟨0x1008, [(0x40, 64)], [⟨0, 32, .rw, 0x0⟩]⟩,
  ⟨0x100C, [(0x40, 64)], [⟨0, 32, .rw, 0x0⟩]⟩,
  ⟨0x1010, [(0x40, 64)], [⟨0, 32, .rw, 0x0⟩]⟩,
  ⟨0x1014, [(0x40, 64)], [⟨0, 5, .rw, 0x6⟩, ⟨8, 5, .rw, 0x6⟩]⟩,
  ⟨0x1018, [(0x40, 64)], [⟨0, 32, .rwl, 0x0⟩]⟩,
  ⟨0x101C, [(0x40, 64)], [⟨0, 32, .rwl, 0x0⟩]⟩,
  ⟨0x1020, [(0x40, 64)], [⟨0, 6, .ro, 0x0⟩, ⟨27, 1, .w1c, 0x0⟩, ⟨28, 1, .w1c, 0x0⟩, ⟨29, 1, .w1c, 0x0⟩, ⟨30, 1, .w1c, 0x0⟩, ⟨31, 1, .ro, 0x0⟩]⟩]

/-- Every register of block MBX. -/
def mbxRegs : List RegSpec := mbxRegs0

/-- Block SYN, registers SYNn_CTRL to SYNn_BTDATA. -/
def synRegs0 : List RegSpec := [
  ⟨0x0, [], [⟨0, 1, .rw, 0x0⟩, ⟨1, 1, .wo, 0x0⟩, ⟨2, 1, .wo, 0x0⟩, ⟨3, 1, .rw, 0x0⟩, ⟨4, 3, .rwl, 0x2⟩, ⟨7, 1, .rw, 0x0⟩, ⟨8, 4, .rw, 0x0⟩, ⟨31, 1, .w1s, 0x0⟩]⟩,
  ⟨0x4, [], [⟨0, 2, .rwl, 0x0⟩, ⟨4, 4, .rwl, 0x0⟩]⟩,
  ⟨0x8, [], [⟨0, 18, .rwl, 0x186A0⟩]⟩,
  ⟨0xC, [], [⟨0, 12, .rw, 0x3E8⟩]⟩,
  ⟨0x10, [], [⟨0, 3, .rwl, 0x3⟩, ⟨8, 8, .rwl, 0x10⟩, ⟨16, 16, .rwl, 0x100⟩]⟩,
  ⟨0x14, [], [⟨0, 1, .ro, 0x0⟩, ⟨1, 1, .ro, 0x0⟩, ⟨2, 1, .ro, 0x0⟩, ⟨3, 1, .ro, 0x0⟩, ⟨8, 4, .ro, 0x0⟩, ⟨16, 4, .ro, 0x0⟩, ⟨20, 4, .ro, 0x0⟩, ⟨24, 6, .ro, 0x0⟩]⟩,
  ⟨0x18, [], [⟨0, 1, .w1c, 0x0⟩, ⟨1, 1, .w1c, 0x0⟩, ⟨2, 1, .w1c, 0x0⟩, ⟨3, 1, .w1c, 0x0⟩, ⟨4, 1, .w1c, 0x0⟩, ⟨5, 1, .w1c, 0x0⟩, ⟨6, 1, .w1c, 0x0⟩, ⟨7, 1, .w1c, 0x0⟩]⟩,
  ⟨0x1C, [], [⟨0, 1, .rw, 0x0⟩, ⟨1, 1, .rw, 0x0⟩, ⟨2, 1, .rw, 0x0⟩, ⟨3, 1, .rw, 0x0⟩, ⟨4, 1, .rw, 0x0⟩, ⟨5, 1, .rw, 0x0⟩, ⟨6, 1, .rw, 0x0⟩, ⟨7, 1, .rw, 0x0⟩]⟩,
  ⟨0x20, [], [⟨0, 16, .rc, 0x0⟩]⟩,
  ⟨0x24, [], [⟨0, 16, .rc, 0x0⟩]⟩,
  ⟨0x28, [], [⟨0, 4, .wo, 0x0⟩, ⟨8, 1, .wo, 0x0⟩, ⟨31, 1, .wo, 0x0⟩]⟩,
  ⟨0x2C, [], [⟨0, 16, .ro, 0x0⟩, ⟨16, 4, .ro, 0x0⟩, ⟨23, 1, .ro, 0x0⟩, ⟨24, 4, .ro, 0x0⟩, ⟨28, 4, .ro, 0x0⟩]⟩,
  ⟨0x30, [], [⟨0, 32, .rw, 0x0⟩]⟩,
  ⟨0x34, [], [⟨0, 32, .ro, 0x0⟩]⟩,
  ⟨0x38, [], [⟨0, 8, .ro, 0x0⟩, ⟨8, 8, .ro, 0x80⟩]⟩,
  ⟨0x40, [], [⟨0, 24, .wo, 0x0⟩]⟩,
  ⟨0x44, [], [⟨0, 32, .ro, 0x0⟩]⟩,
  ⟨0x48, [], [⟨0, 32, .ro, 0x0⟩]⟩,
  ⟨0x50, [], [⟨0, 6, .rw, 0x0⟩]⟩,
  ⟨0x54, [], [⟨0, 16, .ro, 0x0⟩, ⟨16, 16, .ro, 0x0⟩]⟩]

/-- Block SYN, registers SYNn_PWLOp to SYNn_COASTCNT. -/
def synRegs1 : List RegSpec := [
  ⟨0x100, [(0x8, 16)], [⟨0, 32, .rw, 0x0⟩]⟩,
  ⟨0x104, [(0x8, 16)], [⟨0, 8, .rw, 0x0⟩, ⟨8, 8, .rw, 0x80⟩]⟩,
  ⟨0x200, [], [⟨0, 1, .wo, 0x0⟩, ⟨3, 1, .w1s, 0x0⟩, ⟨4, 2, .rw, 0x0⟩, ⟨8, 6, .rw, 0x0⟩, ⟨16, 8, .rw, 0x0⟩]⟩,
  ⟨0x204, [], [⟨0, 4, .ro, 0x0⟩, ⟨8, 8, .ro, 0x0⟩, ⟨16, 8, .ro, 0x0⟩, ⟨24, 2, .ro, 0x0⟩, ⟨26, 6, .ro, 0x0⟩]⟩,
  ⟨0x208, [], [⟨0, 6, .rw, 0x0⟩]⟩,
  ⟨0x20C, [], [⟨0, 32, .rw, 0x0⟩]⟩,
  ⟨0x210, [], [⟨0, 8, .rw, 0x0⟩, ⟨8, 8, .rw, 0x80⟩]⟩,
  ⟨0x214, [], [⟨0, 32, .rw, 0x0⟩]⟩,
  ⟨0x218, [], [⟨0, 32, .rw, 0x0⟩]⟩,
  ⟨0x220, [], [⟨0, 1, .rw, 0x0⟩, ⟨2, 1, .rw, 0x0⟩, ⟨3, 1, .rw, 0x0⟩]⟩,
  ⟨0x224, [], [⟨0, 13, .rw, 0x0⟩]⟩,
  ⟨0x228, [], [⟨0, 18, .rw, 0x7A12⟩]⟩,
  ⟨0x22C, [], [⟨0, 4, .ro, 0x0⟩, ⟨16, 14, .ro, 0x0⟩, ⟨31, 1, .ro, 0x0⟩]⟩,
  ⟨0x240, [], [⟨0, 2, .rw, 0x0⟩, ⟨3, 1, .wo, 0x0⟩, ⟨8, 16, .rw, 0x100⟩, ⟨24, 4, .rw, 0xC⟩]⟩,
  ⟨0x244, [], [⟨0, 16, .ro, 0x0⟩, ⟨17, 1, .ro, 0x0⟩, ⟨18, 1, .ro, 0x0⟩, ⟨19, 1, .ro, 0x0⟩, ⟨29, 1, .w1c, 0x0⟩, ⟨30, 1, .w1c, 0x0⟩, ⟨31, 1, .w1c, 0x0⟩]⟩,
  ⟨0x248, [], [⟨0, 32, .ro, 0x0⟩]⟩,
  ⟨0x24C, [], [⟨0, 8, .ro, 0x0⟩, ⟨8, 8, .ro, 0x80⟩]⟩,
  ⟨0x250, [], [⟨0, 32, .ro, 0x0⟩]⟩,
  ⟨0x254, [], [⟨0, 32, .ro, 0x0⟩]⟩,
  ⟨0x258, [], [⟨0, 16, .rc, 0x0⟩]⟩]

/-- Block SYN, registers SYNn_COASTTIME to SYNn_SSTABi. -/
def synRegs2 : List RegSpec := [
  ⟨0x25C, [], [⟨0, 32, .ro, 0x0⟩]⟩,
  ⟨0x300, [(0x4, 32)], [⟨0, 16, .rw, 0x0⟩]⟩]

/-- Every register of block SYN. -/
def synRegs : List RegSpec := synRegs0 ++ synRegs1 ++ synRegs2

/-- Block SEQ, registers SEQ_GCTRL to SEQ_PRAMHIw. -/
def seqRegs0 : List RegSpec := [
  ⟨0x0, [], [⟨31, 1, .w1s, 0x0⟩]⟩,
  ⟨0x4, [], [⟨0, 32, .ro, 0x301⟩]⟩,
  ⟨0x8, [], [⟨0, 32, .rwl, 0x0⟩]⟩,
  ⟨0xC, [], [⟨0, 16, .rc, 0x0⟩]⟩,
  ⟨0x100, [(0x100, 4)], [⟨0, 1, .wo, 0x0⟩, ⟨1, 1, .wo, 0x0⟩, ⟨2, 1, .wo, 0x0⟩]⟩,
  ⟨0x104, [(0x100, 4)], [⟨0, 24, .ro, 0x0⟩, ⟨24, 1, .ro, 0x0⟩, ⟨25, 1, .ro, 0x0⟩, ⟨26, 1, .ro, 0x0⟩, ⟨27, 1, .ro, 0x0⟩, ⟨28, 4, .ro, 0x0⟩]⟩,
  ⟨0x140, [(0x100, 4), (0x4, 16)], [⟨0, 13, .rwl, 0x0⟩, ⟨16, 9, .rwl, 0x0⟩, ⟨31, 1, .rwl, 0x0⟩]⟩,
  ⟨0x1000, [(0x8, 512)], [⟨0, 32, .rwl, 0x0⟩]⟩,
  ⟨0x1004, [(0x8, 512)], [⟨0, 32, .rwl, 0x0⟩]⟩]

/-- Every register of block SEQ. -/
def seqRegs : List RegSpec := seqRegs0

/-- Block BNK, registers BNKb_ROOT to BNKb_SCRUBPOS. -/
def bnkRegs0 : List RegSpec := [
  ⟨0x0, [], [⟨0, 2, .rwl, 0x0⟩, ⟨31, 1, .w1s, 0x0⟩]⟩,
  ⟨0x4, [], [⟨0, 1, .ro, 0x1⟩, ⟨2, 2, .ro, 0x0⟩, ⟨4, 1, .ro, 0x0⟩, ⟨5, 1, .ro, 0x1⟩, ⟨6, 2, .ro, 0x0⟩, ⟨8, 4, .ro, 0x0⟩]⟩,
  ⟨0x8, [], [⟨0, 1, .w1c, 0x0⟩, ⟨1, 1, .w1c, 0x0⟩, ⟨2, 1, .w1c, 0x0⟩, ⟨3, 1, .w1c, 0x0⟩]⟩,
  ⟨0xC, [], [⟨0, 1, .rw, 0x0⟩, ⟨1, 1, .rw, 0x0⟩, ⟨2, 1, .rw, 0x0⟩, ⟨3, 1, .rw, 0x0⟩]⟩,
  ⟨0x10, [], [⟨0, 3, .rwl, 0x3⟩, ⟨8, 8, .rwl, 0x10⟩, ⟨16, 12, .rwl, 0x100⟩]⟩,
  ⟨0x14, [], [⟨0, 16, .ro, 0x0⟩]⟩,
  ⟨0x18, [], [⟨0, 16, .rc, 0x0⟩]⟩,
  ⟨0x20, [], [⟨0, 10, .rw, 0x140⟩]⟩,
  ⟨0x24, [], [⟨0, 16, .rc, 0x0⟩]⟩,
  ⟨0x28, [], [⟨0, 32, .ro, 0x0⟩]⟩,
  ⟨0x2C, [], [⟨0, 16, .ro, 0x0⟩]⟩,
  ⟨0x30, [], [⟨0, 32, .ro, 0xFFFFFFFF⟩]⟩,
  ⟨0x34, [], [⟨0, 16, .ro, 0xFFFF⟩]⟩,
  ⟨0x38, [], [⟨0, 1, .ro, 0x1⟩, ⟨1, 1, .ro, 0x0⟩, ⟨2, 1, .ro, 0x0⟩, ⟨3, 1, .ro, 0x1⟩]⟩,
  ⟨0x100, [], [⟨0, 1, .rw, 0x1⟩, ⟨8, 1, .wo, 0x0⟩]⟩,
  ⟨0x104, [], [⟨0, 8, .ro, 0x0⟩, ⟨29, 1, .w1c, 0x0⟩, ⟨30, 1, .ro, 0x0⟩, ⟨31, 1, .ro, 0x1⟩]⟩,
  ⟨0x108, [], [⟨0, 32, .rc, 0x0⟩]⟩,
  ⟨0x10C, [], [⟨0, 16, .rc, 0x0⟩]⟩,
  ⟨0x110, [], [⟨0, 10, .ro, 0x0⟩, ⟨12, 11, .ro, 0x0⟩, ⟨23, 6, .ro, 0x0⟩, ⟨29, 2, .ro, 0x0⟩, ⟨31, 1, .ro, 0x0⟩]⟩,
  ⟨0x114, [], [⟨0, 16, .ro, 0x0⟩, ⟨16, 16, .ro, 0x0⟩]⟩]

/-- Block BNK, registers BNKb_CUECNT to BNKb_TRKSKIP. -/
def bnkRegs1 : List RegSpec := [
  ⟨0x118, [], [⟨0, 32, .rc, 0x0⟩]⟩,
  ⟨0x200, [], [⟨8, 8, .rw, 0x4⟩, ⟨31, 1, .rw, 0x1⟩]⟩,
  ⟨0x204, [], [⟨0, 16, .rw, 0xF800⟩, ⟨16, 16, .rw, 0x800⟩]⟩,
  ⟨0x208, [], [⟨0, 16, .rw, 0xFE00⟩, ⟨16, 16, .rw, 0x200⟩]⟩,
  ⟨0x20C, [], [⟨0, 16, .rw, 0x0⟩, ⟨16, 16, .rw, 0x0⟩]⟩,
  ⟨0x210, [], [⟨0, 16, .rw, 0x0⟩, ⟨16, 16, .rw, 0x0⟩]⟩,
  ⟨0x214, [], [⟨0, 16, .rw, 0x0⟩, ⟨16, 16, .rw, 0x0⟩]⟩,
  ⟨0x218, [], [⟨0, 16, .rw, 0x0⟩, ⟨16, 16, .rw, 0x0⟩]⟩,
  ⟨0x21C, [], [⟨0, 16, .ro, 0x0⟩, ⟨16, 16, .ro, 0x0⟩]⟩,
  ⟨0x220, [], [⟨0, 16, .ro, 0x0⟩]⟩,
  ⟨0x224, [], [⟨0, 1, .w1c, 0x0⟩, ⟨1, 1, .w1c, 0x0⟩, ⟨2, 1, .w1c, 0x0⟩]⟩,
  ⟨0x228, [], [⟨0, 32, .rc, 0x0⟩]⟩,
  ⟨0x22C, [], [⟨0, 32, .rc, 0x0⟩]⟩]

/-- Every register of block BNK. -/
def bnkRegs : List RegSpec := bnkRegs0 ++ bnkRegs1

/-- Block TSP, registers TSPp_CTRL to TSPp_FARID. -/
def tspRegs0 : List RegSpec := [
  ⟨0x0, [], [⟨0, 1, .rw, 0x0⟩, ⟨1, 1, .wo, 0x0⟩, ⟨2, 1, .wo, 0x0⟩, ⟨31, 1, .w1s, 0x0⟩]⟩,
  ⟨0x4, [], [⟨0, 8, .ro, 0x0⟩, ⟨8, 4, .ro, 0x0⟩, ⟨16, 4, .ro, 0x0⟩, ⟨23, 1, .ro, 0x0⟩, ⟨24, 4, .ro, 0x0⟩]⟩,
  ⟨0x8, [], [⟨0, 1, .w1c, 0x0⟩, ⟨1, 1, .w1c, 0x0⟩, ⟨2, 1, .w1c, 0x0⟩, ⟨3, 1, .w1c, 0x0⟩, ⟨4, 1, .w1c, 0x0⟩, ⟨5, 1, .w1c, 0x0⟩, ⟨6, 1, .w1c, 0x0⟩, ⟨7, 1, .w1c, 0x0⟩]⟩,
  ⟨0xC, [], [⟨0, 1, .rw, 0x0⟩, ⟨1, 1, .rw, 0x0⟩, ⟨2, 1, .rw, 0x0⟩, ⟨3, 1, .rw, 0x0⟩, ⟨4, 1, .rw, 0x0⟩, ⟨5, 1, .rw, 0x0⟩, ⟨6, 1, .rw, 0x0⟩, ⟨7, 1, .rw, 0x0⟩]⟩,
  ⟨0x10, [], [⟨0, 32, .rwl, 0xFFFFFFFF⟩]⟩,
  ⟨0x14, [], [⟨0, 32, .rwl, 0xFFFFFFFF⟩]⟩,
  ⟨0x18, [], [⟨0, 32, .ro, 0x0⟩]⟩,
  ⟨0x1C, [], [⟨0, 32, .ro, 0x0⟩]⟩,
  ⟨0x20, [], [⟨0, 32, .rc, 0x0⟩]⟩,
  ⟨0x24, [], [⟨0, 32, .rc, 0x0⟩]⟩,
  ⟨0x28, [], [⟨0, 16, .rc, 0x0⟩]⟩,
  ⟨0x2C, [], [⟨0, 16, .rc, 0x0⟩]⟩,
  ⟨0x30, [], [⟨0, 32, .rc, 0x0⟩]⟩,
  ⟨0x34, [], [⟨0, 32, .rc, 0x0⟩]⟩,
  ⟨0x40, [(0x4, 4)], [⟨0, 16, .rc, 0x0⟩]⟩,
  ⟨0x50, [], [⟨0, 4, .rwl, 0x4⟩]⟩,
  ⟨0x54, [], [⟨0, 32, .ro, 0x0⟩]⟩]

/-- Every register of block TSP. -/
def tspRegs : List RegSpec := tspRegs0

/-- Block GRP, registers GRPg_HALT to GRPg_UNDERCNT. -/
def grpRegs0 : List RegSpec := [
  ⟨0xF0, [], [⟨0, 1, .rw, 0x0⟩, ⟨1, 1, .wo, 0x0⟩, ⟨2, 1, .w1c, 0x0⟩, ⟨8, 16, .rc, 0x0⟩, ⟨27, 3, .ro, 0x0⟩, ⟨30, 1, .ro, 0x0⟩, ⟨31, 1, .ro, 0x0⟩]⟩,
  ⟨0xF4, [], [⟨0, 32, .ro, 0x0⟩]⟩,
  ⟨0x0, [], [⟨0, 5, .rw, 0x0⟩]⟩,
  ⟨0x4, [], [⟨8, 8, .ro, 0x0⟩, ⟨16, 3, .ro, 0x0⟩, ⟨26, 3, .ro, 0x0⟩, ⟨29, 1, .ro, 0x0⟩, ⟨30, 1, .ro, 0x0⟩, ⟨31, 1, .ro, 0x0⟩]⟩,
  ⟨0x8, [], [⟨0, 10, .ro, 0x0⟩]⟩,
  ⟨0xC, [], [⟨0, 16, .ro, 0x0⟩]⟩,
  ⟨0x10, [], [⟨0, 32, .ro, 0x0⟩]⟩,
  ⟨0x14, [], [⟨0, 16, .ro, 0x0⟩]⟩,
  ⟨0x18, [], [⟨0, 32, .ro, 0xFFFFFFFF⟩]⟩,
  ⟨0x1C, [], [⟨0, 16, .ro, 0xFFFF⟩]⟩,
  ⟨0x20, [], [⟨0, 32, .ro, 0x0⟩]⟩,
  ⟨0x24, [], [⟨0, 16, .rc, 0x0⟩]⟩,
  ⟨0x28, [], [⟨0, 4, .ro, 0x0⟩]⟩,
  ⟨0x40, [], [⟨0, 1, .rw, 0x0⟩, ⟨16, 14, .rw, 0x1900⟩]⟩,
  ⟨0x44, [], [⟨0, 13, .ro, 0x0⟩, ⟨31, 1, .ro, 0x0⟩]⟩,
  ⟨0x48, [], [⟨0, 32, .ro, 0x0⟩]⟩,
  ⟨0x4C, [], [⟨0, 16, .ro, 0x0⟩]⟩,
  ⟨0x50, [], [⟨0, 32, .ro, 0xFFFFFFFF⟩]⟩,
  ⟨0x54, [], [⟨0, 16, .ro, 0xFFFF⟩]⟩,
  ⟨0x58, [], [⟨0, 16, .rc, 0x0⟩]⟩]

/-- Block GRP, registers GRPg_LATECNT to GRPg_SELDISC. -/
def grpRegs1 : List RegSpec := [
  ⟨0x5C, [], [⟨0, 32, .rc, 0x0⟩]⟩,
  ⟨0x60, [], [⟨0, 16, .rc, 0x0⟩]⟩,
  ⟨0x64, [], [⟨0, 32, .rc, 0x0⟩]⟩,
  ⟨0x68, [], [⟨0, 32, .rc, 0x0⟩]⟩,
  ⟨0x6C, [], [⟨0, 32, .rc, 0x0⟩]⟩,
  ⟨0x70, [], [⟨0, 32, .rc, 0x0⟩]⟩]

/-- Every register of block GRP. -/
def grpRegs : List RegSpec := grpRegs0 ++ grpRegs1

/-- Block MSR, registers TKt_CTRL to DRr_CBASEHI. -/
def msrRegs0 : List RegSpec := [
  ⟨0x0, [(0x40, 256)], [⟨0, 1, .wo, 0x0⟩, ⟨1, 1, .wo, 0x0⟩]⟩,
  ⟨0x4, [(0x40, 256)], [⟨0, 2, .rw, 0x0⟩, ⟨2, 2, .rw, 0x0⟩, ⟨6, 9, .rw, 0x0⟩, ⟨15, 9, .rw, 0x0⟩, ⟨24, 6, .rw, 0x0⟩, ⟨30, 1, .rw, 0x0⟩, ⟨31, 1, .rw, 0x0⟩]⟩,
  ⟨0x8, [(0x40, 256)], [⟨0, 32, .rw, 0x1⟩]⟩,
  ⟨0xC, [(0x40, 256)], [⟨0, 32, .rw, 0x0⟩]⟩,
  ⟨0x10, [(0x40, 256)], [⟨0, 16, .rw, 0x0⟩]⟩,
  ⟨0x14, [(0x40, 256)], [⟨0, 32, .rw, 0x0⟩]⟩,
  ⟨0x18, [(0x40, 256)], [⟨0, 10, .ro, 0x0⟩, ⟨16, 8, .ro, 0x0⟩, ⟨24, 1, .w1c, 0x0⟩, ⟨25, 1, .ro, 0x0⟩, ⟨26, 1, .ro, 0x0⟩, ⟨27, 1, .ro, 0x0⟩, ⟨28, 4, .ro, 0x0⟩]⟩,
  ⟨0x20, [(0x40, 256)], [⟨0, 32, .ro, 0xFFFFFFFF⟩]⟩,
  ⟨0x24, [(0x40, 256)], [⟨0, 28, .ro, 0xFFFFFFF⟩]⟩,
  ⟨0x28, [(0x40, 256)], [⟨0, 32, .ro, 0xFFFFFFFF⟩]⟩,
  ⟨0x2C, [(0x40, 256)], [⟨0, 28, .ro, 0xFFFFFFF⟩]⟩,
  ⟨0x30, [(0x40, 256)], [⟨0, 16, .ro, 0x0⟩]⟩,
  ⟨0x4000, [(0x40, 64)], [⟨0, 16, .rw, 0x64⟩, ⟨16, 8, .rw, 0x1⟩, ⟨31, 1, .rw, 0x0⟩]⟩,
  ⟨0x4004, [(0x40, 64)], [⟨0, 32, .rw, 0x0⟩]⟩,
  ⟨0x4008, [(0x40, 64)], [⟨0, 32, .rw, 0x0⟩]⟩,
  ⟨0x400C, [(0x40, 64)], [⟨0, 5, .rw, 0xA⟩, ⟨8, 5, .rw, 0xA⟩]⟩,
  ⟨0x4010, [(0x40, 64)], [⟨0, 32, .rw, 0x0⟩]⟩,
  ⟨0x4014, [(0x40, 64)], [⟨0, 32, .ro, 0x0⟩]⟩,
  ⟨0x4018, [(0x40, 64)], [⟨0, 32, .rw, 0x0⟩]⟩,
  ⟨0x401C, [(0x40, 64)], [⟨0, 32, .rw, 0x0⟩]⟩]

/-- Block MSR, registers DRr_CHEAD to IVi_SIGLO. -/
def msrRegs1 : List RegSpec := [
  ⟨0x4020, [(0x40, 64)], [⟨0, 32, .ro, 0x0⟩]⟩,
  ⟨0x4024, [(0x40, 64)], [⟨0, 32, .rw, 0x0⟩]⟩,
  ⟨0x4028, [(0x40, 64)], [⟨0, 5, .ro, 0x0⟩, ⟨27, 1, .w1c, 0x0⟩, ⟨28, 1, .w1c, 0x0⟩, ⟨29, 1, .w1c, 0x0⟩, ⟨30, 1, .w1c, 0x0⟩, ⟨31, 1, .ro, 0x0⟩]⟩,
  ⟨0x402C, [(0x40, 64)], [⟨0, 32, .rc, 0x0⟩]⟩,
  ⟨0x5000, [(0x80, 64)], [⟨16, 8, .rw, 0x0⟩, ⟨24, 2, .rw, 0x0⟩, ⟨26, 2, .rw, 0x0⟩, ⟨28, 1, .rw, 0x0⟩, ⟨29, 2, .rw, 0x2⟩, ⟨31, 1, .rw, 0x0⟩]⟩,
  ⟨0x5004, [(0x80, 64)], [⟨0, 9, .rw, 0x0⟩, ⟨16, 9, .rw, 0x0⟩]⟩,
  ⟨0x5008, [(0x80, 64)], [⟨16, 8, .ro, 0x0⟩, ⟨24, 1, .w1c, 0x0⟩, ⟨25, 1, .ro, 0x0⟩, ⟨26, 1, .ro, 0x0⟩, ⟨27, 1, .ro, 0x0⟩, ⟨28, 1, .ro, 0x0⟩, ⟨29, 1, .ro, 0x0⟩, ⟨30, 1, .ro, 0x0⟩, ⟨31, 1, .ro, 0x0⟩]⟩,
  ⟨0x500C, [(0x80, 64)], [⟨0, 32, .ro, 0x0⟩]⟩,
  ⟨0x5010, [(0x80, 64)], [⟨0, 32, .ro, 0x0⟩]⟩,
  ⟨0x5014, [(0x80, 64)], [⟨0, 32, .ro, 0x0⟩]⟩,
  ⟨0x5018, [(0x80, 64)], [⟨0, 32, .ro, 0x0⟩]⟩,
  ⟨0x501C, [(0x80, 64)], [⟨0, 32, .ro, 0x0⟩]⟩,
  ⟨0x5020, [(0x80, 64)], [⟨0, 32, .ro, 0x0⟩]⟩,
  ⟨0x5024, [(0x80, 64)], [⟨0, 29, .ro, 0x0⟩]⟩,
  ⟨0x5028, [(0x80, 64)], [⟨0, 32, .ro, 0x0⟩]⟩,
  ⟨0x502C, [(0x80, 64)], [⟨0, 29, .ro, 0x0⟩]⟩,
  ⟨0x5030, [(0x80, 64)], [⟨0, 32, .ro, 0x0⟩]⟩,
  ⟨0x5034, [(0x80, 64)], [⟨0, 32, .ro, 0x0⟩]⟩,
  ⟨0x5038, [(0x80, 64)], [⟨0, 13, .ro, 0x0⟩]⟩,
  ⟨0x503C, [(0x80, 64)], [⟨0, 32, .ro, 0x0⟩]⟩]

/-- Block MSR, registers IVi_SIGHI to RGn_FREQLO. -/
def msrRegs2 : List RegSpec := [
  ⟨0x5040, [(0x80, 64)], [⟨0, 16, .ro, 0x0⟩]⟩,
  ⟨0x5044, [(0x80, 64)], [⟨0, 32, .ro, 0x0⟩]⟩,
  ⟨0x5048, [(0x80, 64)], [⟨0, 32, .ro, 0x0⟩]⟩,
  ⟨0x504C, [(0x80, 64), (0x4, 3)], [⟨0, 32, .ro, 0x0⟩]⟩,
  ⟨0x5058, [(0x80, 64), (0x4, 3)], [⟨0, 32, .ro, 0x0⟩]⟩,
  ⟨0x5064, [(0x80, 64)], [⟨0, 32, .ro, 0x0⟩]⟩,
  ⟨0x5068, [(0x80, 64)], [⟨0, 32, .ro, 0x0⟩]⟩,
  ⟨0x506C, [(0x80, 64)], [⟨0, 9, .ro, 0x0⟩, ⟨9, 15, .ro, 0x0⟩]⟩,
  ⟨0x7000, [], [⟨0, 10, .ro, 0x0⟩, ⟨31, 1, .ro, 0x0⟩]⟩,
  ⟨0x7008, [], [⟨0, 9, .rw, 0x0⟩]⟩,
  ⟨0x7010, [(0x10, 6), (0x4, 4)], [⟨0, 32, .ro, 0x0⟩]⟩,
  ⟨0x8000, [(0x40, 512)], [⟨0, 16, .rw, 0x0⟩, ⟨31, 1, .rw, 0x0⟩]⟩,
  ⟨0x8004, [(0x40, 512)], [⟨0, 32, .rw, 0x0⟩]⟩,
  ⟨0x8008, [(0x40, 512)], [⟨0, 16, .rw, 0x0⟩]⟩,
  ⟨0x800C, [(0x40, 512)], [⟨16, 8, .ro, 0x0⟩, ⟨24, 1, .w1c, 0x0⟩, ⟨25, 1, .ro, 0x0⟩, ⟨26, 1, .ro, 0x0⟩, ⟨27, 1, .ro, 0x0⟩, ⟨28, 1, .ro, 0x0⟩, ⟨29, 1, .ro, 0x0⟩, ⟨30, 1, .ro, 0x0⟩, ⟨31, 1, .ro, 0x0⟩]⟩,
  ⟨0x8010, [(0x40, 512)], [⟨0, 32, .ro, 0x0⟩]⟩,
  ⟨0x8014, [(0x40, 512)], [⟨0, 32, .ro, 0x0⟩]⟩,
  ⟨0x8018, [(0x40, 512)], [⟨0, 32, .ro, 0x0⟩]⟩,
  ⟨0x801C, [(0x40, 512)], [⟨0, 32, .ro, 0x0⟩]⟩,
  ⟨0x8020, [(0x40, 512)], [⟨0, 32, .ro, 0x0⟩]⟩]

/-- Block MSR, registers RGn_FREQHI to RGn_PUSEDHI. -/
def msrRegs3 : List RegSpec := [
  ⟨0x8024, [(0x40, 512)], [⟨0, 32, .ro, 0x0⟩]⟩,
  ⟨0x8028, [(0x40, 512)], [⟨0, 32, .ro, 0x0⟩]⟩,
  ⟨0x802C, [(0x40, 512)], [⟨0, 16, .ro, 0x0⟩]⟩,
  ⟨0x8030, [(0x40, 512)], [⟨0, 32, .ro, 0x0⟩]⟩,
  ⟨0x8034, [(0x40, 512)], [⟨0, 28, .ro, 0x0⟩]⟩,
  ⟨0x8038, [(0x40, 512)], [⟨0, 32, .ro, 0x0⟩]⟩,
  ⟨0x803C, [(0x40, 512)], [⟨0, 16, .ro, 0x0⟩]⟩]

/-- Every register of block MSR. -/
def msrRegs : List RegSpec := msrRegs0 ++ msrRegs1 ++ msrRegs2 ++ msrRegs3

/-- Block CAL, registers CAL_CTRL to CAL_SERB. -/
def calRegs0 : List RegSpec := [
  ⟨0x0, [], [⟨0, 1, .rw, 0x1⟩, ⟨31, 1, .w1s, 0x0⟩]⟩,
  ⟨0x4, [], [⟨0, 1, .rwl, 0x0⟩, ⟨31, 1, .rwl, 0x0⟩]⟩,
  ⟨0x8, [], [⟨0, 16, .ro, 0x0⟩, ⟨28, 1, .w1c, 0x0⟩, ⟨29, 1, .w1c, 0x0⟩, ⟨30, 1, .ro, 0x0⟩, ⟨31, 1, .ro, 0x0⟩]⟩,
  ⟨0xC, [], [⟨0, 16, .rw, 0x100⟩]⟩,
  ⟨0x10, [], [⟨0, 16, .rw, 0x96⟩]⟩,
  ⟨0x14, [], [⟨0, 16, .rw, 0x1F4⟩]⟩,
  ⟨0x18, [], [⟨0, 16, .rw, 0x14⟩]⟩,
  ⟨0x1C, [], [⟨0, 32, .rw, 0x15798F⟩]⟩,
  ⟨0x20, [], [⟨0, 16, .ro, 0x0⟩, ⟨16, 8, .ro, 0x0⟩, ⟨24, 4, .ro, 0x0⟩, ⟨28, 4, .ro, 0x0⟩]⟩,
  ⟨0x24, [], [⟨0, 4, .ro, 0x0⟩, ⟨4, 4, .ro, 0x0⟩]⟩,
  ⟨0x28, [], [⟨27, 1, .ro, 0x0⟩, ⟨28, 1, .ro, 0x0⟩, ⟨29, 1, .ro, 0x0⟩, ⟨30, 1, .ro, 0x0⟩, ⟨31, 1, .ro, 0x0⟩]⟩,
  ⟨0x2C, [], [⟨0, 32, .ro, 0x0⟩]⟩,
  ⟨0x30, [], [⟨0, 32, .ro, 0x0⟩]⟩]

/-- Every register of block CAL. -/
def calRegs : List RegSpec := calRegs0

/-- Block PRL, registers PRLp_CTRL to PRL_CLAPCNT. -/
def prlRegs0 : List RegSpec := [
  ⟨0x0, [(0x1000, 4)], [⟨0, 1, .rw, 0x0⟩, ⟨2, 1, .wo, 0x0⟩, ⟨3, 1, .wo, 0x0⟩, ⟨4, 2, .rw, 0x0⟩, ⟨31, 1, .w1s, 0x0⟩]⟩,
  ⟨0x4, [(0x1000, 4)], [⟨0, 8, .ro, 0x0⟩, ⟨8, 2, .ro, 0x0⟩, ⟨14, 2, .ro, 0x0⟩, ⟨16, 4, .ro, 0x0⟩, ⟨23, 1, .ro, 0x0⟩, ⟨24, 4, .ro, 0x0⟩]⟩,
  ⟨0x8, [(0x1000, 4)], [⟨0, 1, .w1c, 0x0⟩, ⟨1, 1, .w1c, 0x0⟩, ⟨2, 1, .w1c, 0x0⟩, ⟨3, 1, .w1c, 0x0⟩, ⟨4, 1, .w1c, 0x0⟩, ⟨5, 1, .w1c, 0x0⟩, ⟨6, 1, .w1c, 0x0⟩]⟩,
  ⟨0xC, [(0x1000, 4)], [⟨0, 1, .rw, 0x0⟩, ⟨1, 1, .rw, 0x0⟩, ⟨2, 1, .rw, 0x0⟩, ⟨3, 1, .rw, 0x0⟩, ⟨4, 1, .rw, 0x0⟩, ⟨5, 1, .rw, 0x0⟩, ⟨6, 1, .rw, 0x0⟩]⟩,
  ⟨0x10, [(0x1000, 4)], [⟨0, 4, .rwl, 0x4⟩]⟩,
  ⟨0x14, [(0x1000, 4)], [⟨0, 32, .rc, 0x0⟩]⟩,
  ⟨0x18, [(0x1000, 4)], [⟨0, 32, .rc, 0x0⟩]⟩,
  ⟨0x1C, [(0x1000, 4)], [⟨0, 16, .rw, 0x1000⟩]⟩,
  ⟨0x20, [(0x1000, 4)], [⟨0, 32, .ro, 0x0⟩]⟩,
  ⟨0x24, [(0x1000, 4)], [⟨0, 32, .ro, 0x0⟩]⟩,
  ⟨0x28, [(0x1000, 4)], [⟨0, 16, .ro, 0x0⟩]⟩,
  ⟨0x2C, [(0x1000, 4)], [⟨0, 32, .ro, 0x0⟩]⟩,
  ⟨0x30, [(0x1000, 4)], [⟨0, 32, .ro, 0x0⟩]⟩,
  ⟨0x34, [(0x1000, 4)], [⟨0, 32, .rw, 0x0⟩]⟩,
  ⟨0x8000, [], [⟨0, 4, .ro, 0x0⟩]⟩,
  ⟨0x8004, [], [⟨0, 5, .ro, 0x0⟩, ⟨16, 8, .ro, 0x0⟩, ⟨24, 4, .ro, 0x0⟩, ⟨28, 4, .ro, 0x0⟩]⟩,
  ⟨0x8008, [], [⟨0, 2, .ro, 0x0⟩, ⟨4, 4, .ro, 0x0⟩, ⟨8, 1, .ro, 0x0⟩]⟩,
  ⟨0x800C, [], [⟨0, 16, .ro, 0x0⟩]⟩,
  ⟨0x8010, [], [⟨0, 24, .rw, 0x8000⟩]⟩,
  ⟨0x8014, [], [⟨0, 16, .rc, 0x0⟩]⟩]

/-- Block PRL, registers PRL_CLAPLO to PRL_ALRESn. -/
def prlRegs1 : List RegSpec := [
  ⟨0x8018, [], [⟨0, 32, .ro, 0x0⟩]⟩,
  ⟨0x801C, [], [⟨0, 16, .ro, 0x0⟩, ⟨16, 2, .ro, 0x0⟩]⟩,
  ⟨0x8040, [(0x10, 4)], [⟨0, 16, .ro, 0x0⟩, ⟨20, 4, .ro, 0x1⟩, ⟨27, 1, .w1c, 0x0⟩, ⟨29, 1, .rw, 0x1⟩, ⟨30, 1, .ro, 0x0⟩, ⟨31, 1, .ro, 0x0⟩]⟩,
  ⟨0x8044, [(0x10, 4)], [⟨0, 32, .wo, 0x0⟩]⟩,
  ⟨0x8048, [(0x10, 4)], [⟨0, 32, .ro, 0x0⟩]⟩]

/-- Every register of block PRL. -/
def prlRegs : List RegSpec := prlRegs0 ++ prlRegs1

/-- Block SPT, registers SPTp_CTRL to SPTp_BMOUTi. -/
def sptRegs0 : List RegSpec := [
  ⟨0x0, [], [⟨0, 1, .rw, 0x0⟩, ⟨1, 1, .rwl, 0x0⟩, ⟨4, 1, .rwl, 0x1⟩, ⟨5, 1, .rwl, 0x0⟩, ⟨6, 1, .rwl, 0x0⟩, ⟨7, 1, .rwl, 0x0⟩, ⟨8, 8, .rwl, 0x0⟩, ⟨16, 1, .rwl, 0x0⟩, ⟨31, 1, .w1s, 0x0⟩]⟩,
  ⟨0x4, [], [⟨0, 8, .rwl, 0x2⟩, ⟨8, 8, .rwl, 0x1⟩, ⟨16, 8, .rwl, 0x1⟩, ⟨24, 8, .rwl, 0x4⟩]⟩,
  ⟨0x8, [], [⟨0, 12, .wo, 0x0⟩, ⟨16, 4, .wo, 0x0⟩, ⟨20, 5, .wo, 0x7⟩, ⟨30, 1, .wo, 0x0⟩, ⟨31, 1, .wo, 0x0⟩]⟩,
  ⟨0xC, [], [⟨0, 12, .ro, 0x0⟩, ⟨12, 4, .ro, 0x0⟩, ⟨16, 5, .ro, 0x0⟩, ⟨24, 5, .ro, 0x0⟩, ⟨29, 1, .ro, 0x0⟩, ⟨30, 1, .ro, 0x0⟩, ⟨31, 1, .ro, 0x0⟩]⟩,
  ⟨0x10, [], [⟨0, 1, .w1c, 0x0⟩, ⟨1, 1, .w1c, 0x0⟩, ⟨2, 1, .w1c, 0x0⟩, ⟨3, 1, .w1c, 0x0⟩, ⟨4, 1, .w1c, 0x0⟩, ⟨5, 1, .w1c, 0x0⟩, ⟨6, 1, .w1c, 0x0⟩, ⟨7, 1, .w1c, 0x0⟩, ⟨8, 1, .w1c, 0x0⟩]⟩,
  ⟨0x14, [], [⟨0, 32, .wo, 0x0⟩]⟩,
  ⟨0x18, [], [⟨0, 32, .ro, 0x0⟩]⟩,
  ⟨0x1C, [], [⟨0, 32, .rc, 0x0⟩]⟩,
  ⟨0x20, [], [⟨0, 16, .rc, 0x0⟩]⟩,
  ⟨0x24, [], [⟨0, 32, .rc, 0x0⟩]⟩,
  ⟨0x28, [], [⟨0, 32, .rc, 0x0⟩]⟩,
  ⟨0x40, [], [⟨0, 4, .rwl, 0x0⟩, ⟨30, 1, .rwl, 0x0⟩, ⟨31, 1, .rwl, 0x0⟩]⟩,
  ⟨0x44, [], [⟨0, 32, .ro, 0x0⟩]⟩,
  ⟨0x100, [(0x4, 16)], [⟨0, 32, .ro, 0x0⟩]⟩,
  ⟨0x140, [(0x4, 16)], [⟨0, 32, .rw, 0x0⟩]⟩]

/-- Every register of block SPT. -/
def sptRegs : List RegSpec := sptRegs0

/-- Block PMB, registers PMB_CTRL to PMBr_ERRCNT. -/
def pmbRegs0 : List RegSpec := [
  ⟨0x0, [], [⟨0, 1, .rw, 0x0⟩, ⟨8, 1, .rwl, 0x0⟩, ⟨16, 8, .rw, 0xA⟩, ⟨31, 1, .w1s, 0x0⟩]⟩,
  ⟨0x4, [], [⟨0, 8, .ro, 0x0⟩, ⟨30, 1, .ro, 0x0⟩, ⟨31, 1, .ro, 0x0⟩]⟩,
  ⟨0x8, [], [⟨0, 1, .w1c, 0x0⟩, ⟨1, 1, .w1c, 0x0⟩, ⟨2, 1, .w1c, 0x0⟩, ⟨3, 1, .w1c, 0x0⟩, ⟨4, 1, .w1c, 0x0⟩]⟩,
  ⟨0xC, [], [⟨0, 1, .rw, 0x0⟩, ⟨1, 1, .rw, 0x0⟩, ⟨2, 1, .rw, 0x0⟩, ⟨3, 1, .rw, 0x0⟩, ⟨4, 1, .rw, 0x0⟩]⟩,
  ⟨0x10, [], [⟨8, 8, .rw, 0x2⟩, ⟨16, 8, .rw, 0x5⟩, ⟨31, 1, .rw, 0x0⟩]⟩,
  ⟨0x14, [], [⟨0, 16, .rw, 0x2A8⟩, ⟨16, 16, .rw, 0x334⟩]⟩,
  ⟨0x18, [], [⟨0, 6, .rw, 0x8⟩, ⟨8, 6, .rw, 0xE⟩, ⟨16, 6, .rw, 0x3⟩]⟩,
  ⟨0x1C, [], [⟨0, 6, .ro, 0x0⟩, ⟨16, 16, .ro, 0x0⟩]⟩,
  ⟨0x20, [], [⟨0, 32, .rc, 0x0⟩]⟩,
  ⟨0x100, [(0x10, 8)], [⟨0, 7, .rwl, 0x0⟩, ⟨7, 1, .rwl, 0x1⟩, ⟨8, 3, .rwl, 0x0⟩, ⟨31, 1, .rwl, 0x0⟩]⟩,
  ⟨0x104, [(0x10, 8)], [⟨0, 16, .ro, 0x0⟩, ⟨24, 5, .ro, 0x0⟩, ⟨29, 1, .ro, 0x0⟩, ⟨30, 1, .ro, 0x0⟩, ⟨31, 1, .ro, 0x0⟩]⟩,
  ⟨0x108, [(0x10, 8)], [⟨0, 16, .ro, 0x0⟩]⟩,
  ⟨0x10C, [(0x10, 8)], [⟨0, 16, .rc, 0x0⟩]⟩]

/-- Every register of block PMB. -/
def pmbRegs : List RegSpec := pmbRegs0

/-- Block CH, registers CHn_CTRL to CHn_PMCTRL. -/
def chRegs0 : List RegSpec := [
  ⟨0x0, [], [⟨0, 1, .rw, 0x0⟩, ⟨2, 1, .wo, 0x0⟩, ⟨31, 1, .w1s, 0x0⟩]⟩,
  ⟨0x4, [], [⟨0, 1, .ro, 0x0⟩, ⟨1, 1, .ro, 0x0⟩, ⟨2, 1, .ro, 0x0⟩, ⟨3, 1, .ro, 0x0⟩, ⟨8, 7, .ro, 0x40⟩, ⟨15, 1, .ro, 0x1⟩, ⟨27, 5, .ro, 0x0⟩]⟩,
  ⟨0x8, [], [⟨0, 1, .w1c, 0x0⟩, ⟨1, 1, .w1c, 0x0⟩, ⟨2, 1, .w1c, 0x0⟩, ⟨3, 1, .w1c, 0x0⟩, ⟨4, 1, .w1c, 0x0⟩, ⟨5, 1, .w1c, 0x0⟩, ⟨6, 1, .w1c, 0x0⟩, ⟨7, 1, .w1c, 0x0⟩]⟩,
  ⟨0xC, [], [⟨0, 1, .rw, 0x0⟩, ⟨1, 1, .rw, 0x0⟩, ⟨2, 1, .rw, 0x0⟩, ⟨3, 1, .rw, 0x0⟩, ⟨4, 1, .rw, 0x0⟩, ⟨5, 1, .rw, 0x0⟩, ⟨6, 1, .rw, 0x0⟩, ⟨7, 1, .rw, 0x0⟩]⟩,
  ⟨0x10, [], [⟨0, 16, .rwl, 0x667⟩]⟩,
  ⟨0x14, [], [⟨0, 32, .rc, 0x0⟩]⟩,
  ⟨0x18, [], [⟨0, 32, .rc, 0x0⟩]⟩,
  ⟨0x1C, [], [⟨0, 16, .rc, 0x0⟩, ⟨16, 16, .rc, 0x0⟩]⟩,
  ⟨0x20, [], [⟨0, 32, .rc, 0x0⟩]⟩,
  ⟨0x24, [], [⟨0, 32, .ro, 0xFFFFFFFF⟩]⟩,
  ⟨0x28, [], [⟨0, 16, .ro, 0xFFFF⟩]⟩,
  ⟨0x30, [], [⟨0, 32, .ro, 0x0⟩]⟩,
  ⟨0x34, [], [⟨0, 16, .ro, 0x0⟩]⟩,
  ⟨0x38, [], [⟨0, 32, .ro, 0x0⟩]⟩,
  ⟨0x3C, [], [⟨0, 32, .ro, 0x0⟩]⟩,
  ⟨0x40, [], [⟨0, 12, .ro, 0x0⟩]⟩,
  ⟨0x44, [], [⟨0, 18, .rw, 0x0⟩]⟩,
  ⟨0x48, [], [⟨0, 18, .ro, 0x0⟩]⟩,
  ⟨0x4C, [], [⟨0, 16, .rw, 0x100⟩, ⟨31, 1, .rw, 0x0⟩]⟩,
  ⟨0x50, [], [⟨0, 1, .rw, 0x0⟩, ⟨1, 1, .rw, 0x0⟩, ⟨2, 1, .rw, 0x0⟩, ⟨3, 1, .rw, 0x0⟩, ⟨31, 1, .wo, 0x0⟩]⟩]

/-- Block CH, registers CHn_PMSTARTLO to CHn_EVCFG. -/
def chRegs1 : List RegSpec := [
  ⟨0x54, [], [⟨0, 32, .rw, 0x0⟩]⟩,
  ⟨0x58, [], [⟨0, 16, .rw, 0x0⟩]⟩,
  ⟨0x5C, [], [⟨0, 32, .rw, 0x0⟩]⟩,
  ⟨0x60, [], [⟨0, 16, .rw, 0x0⟩]⟩,
  ⟨0x64, [], [⟨0, 32, .rw, 0x0⟩]⟩,
  ⟨0x68, [], [⟨0, 13, .rw, 0x0⟩]⟩,
  ⟨0x6C, [], [⟨0, 24, .rw, 0xC80⟩]⟩,
  ⟨0x70, [], [⟨0, 32, .ro, 0x0⟩]⟩,
  ⟨0x74, [], [⟨0, 32, .ro, 0x0⟩]⟩,
  ⟨0x78, [], [⟨0, 24, .ro, 0x0⟩, ⟨29, 1, .ro, 0x0⟩, ⟨30, 1, .ro, 0x0⟩, ⟨31, 1, .ro, 0x0⟩]⟩,
  ⟨0x100, [], [⟨0, 6, .rw, 0x0⟩, ⟨7, 1, .rw, 0x0⟩]⟩,
  ⟨0x104, [], [⟨0, 32, .ro, 0x0⟩]⟩,
  ⟨0x108, [], [⟨0, 32, .ro, 0x0⟩]⟩,
  ⟨0x10C, [], [⟨0, 32, .ro, 0x0⟩]⟩,
  ⟨0x110, [], [⟨0, 5, .rw, 0x0⟩]⟩,
  ⟨0x114, [], [⟨0, 11, .ro, 0x0⟩, ⟨16, 11, .ro, 0x0⟩, ⟨28, 1, .ro, 0x1⟩, ⟨29, 1, .ro, 0x0⟩, ⟨30, 1, .ro, 0x0⟩, ⟨31, 1, .ro, 0x0⟩]⟩,
  ⟨0x118, [], [⟨0, 16, .rc, 0x0⟩]⟩,
  ⟨0x11C, [], [⟨0, 1, .w1c, 0x0⟩, ⟨1, 1, .w1c, 0x0⟩]⟩,
  ⟨0x120, [], [⟨0, 1, .rw, 0x0⟩, ⟨1, 1, .rw, 0x0⟩]⟩,
  ⟨0x200, [], [⟨0, 16, .rw, 0x0⟩, ⟨21, 1, .rw, 0x0⟩, ⟨22, 2, .rw, 0x1⟩, ⟨24, 2, .rw, 0x0⟩, ⟨26, 2, .rw, 0x0⟩, ⟨31, 1, .rw, 0x0⟩]⟩]

/-- Block CH, registers CHn_SEPMIN to CHn_CALFLAGS. -/
def chRegs2 : List RegSpec := [
  ⟨0x204, [], [⟨0, 16, .rwl, 0x1EB9⟩]⟩,
  ⟨0x208, [], [⟨0, 8, .rw, 0x0⟩, ⟨31, 1, .rw, 0x0⟩]⟩,
  ⟨0x20C, [], [⟨0, 16, .ro, 0x0⟩, ⟨27, 1, .ro, 0x1⟩, ⟨28, 1, .ro, 0x0⟩, ⟨29, 1, .ro, 0x0⟩, ⟨30, 1, .ro, 0x0⟩, ⟨31, 1, .ro, 0x0⟩]⟩,
  ⟨0x210, [], [⟨0, 1, .w1c, 0x0⟩, ⟨1, 1, .w1c, 0x0⟩, ⟨2, 1, .w1c, 0x0⟩, ⟨3, 1, .w1c, 0x0⟩, ⟨4, 1, .w1c, 0x0⟩, ⟨5, 1, .w1c, 0x0⟩, ⟨6, 1, .w1c, 0x0⟩, ⟨7, 1, .w1c, 0x0⟩]⟩,
  ⟨0x214, [], [⟨0, 1, .rw, 0x0⟩, ⟨1, 1, .rw, 0x0⟩, ⟨2, 1, .rw, 0x0⟩, ⟨3, 1, .rw, 0x0⟩, ⟨4, 1, .rw, 0x0⟩, ⟨5, 1, .rw, 0x0⟩, ⟨6, 1, .rw, 0x0⟩, ⟨7, 1, .rw, 0x0⟩]⟩,
  ⟨0x218, [], [⟨0, 32, .rc, 0x0⟩]⟩,
  ⟨0x21C, [], [⟨0, 32, .rc, 0x0⟩]⟩,
  ⟨0x220, [], [⟨0, 32, .rc, 0x0⟩]⟩,
  ⟨0x224, [], [⟨0, 16, .rc, 0x0⟩]⟩,
  ⟨0x230, [(0x8, 2)], [⟨0, 24, .ro, 0x400000⟩]⟩,
  ⟨0x234, [(0x8, 2)], [⟨0, 24, .ro, 0x0⟩]⟩,
  ⟨0x240, [], [⟨0, 6, .rw, 0x0⟩, ⟨8, 2, .rw, 0x0⟩]⟩,
  ⟨0x244, [], [⟨0, 11, .ro, 0x0⟩]⟩,
  ⟨0x248, [], [⟨0, 11, .rw, 0x0⟩]⟩,
  ⟨0x24C, [], [⟨0, 32, .rc, 0x0⟩]⟩,
  ⟨0x250, [], [⟨0, 32, .rc, 0x0⟩]⟩,
  ⟨0x254, [], [⟨0, 1, .wo, 0x0⟩]⟩,
  ⟨0x800, [], [⟨0, 16, .rw, 0x100⟩, ⟨16, 2, .rw, 0x0⟩, ⟨29, 1, .rw, 0x0⟩, ⟨30, 1, .rw, 0x0⟩, ⟨31, 1, .rw, 0x0⟩]⟩,
  ⟨0x804, [], [⟨0, 4, .ro, 0x0⟩, ⟨30, 1, .ro, 0x0⟩, ⟨31, 1, .ro, 0x0⟩]⟩,
  ⟨0x808, [], [⟨0, 1, .w1c, 0x0⟩, ⟨1, 1, .w1c, 0x0⟩]⟩]

/-- Block CH, registers CHn_EVSKEW to CHn_DINLA_i. -/
def chRegs3 : List RegSpec := [
  ⟨0x80C, [], [⟨0, 18, .rw, 0x0⟩]⟩,
  ⟨0x810, [], [⟨0, 18, .ro, 0x0⟩]⟩,
  ⟨0x820, [(0x4, 8)], [⟨0, 32, .rw, 0x0⟩]⟩,
  ⟨0x900, [(0x4, 32)], [⟨0, 12, .rw, 0x0⟩, ⟨16, 12, .rw, 0x0⟩]⟩,
  ⟨0x980, [(0x4, 32)], [⟨0, 12, .rw, 0x0⟩, ⟨16, 12, .rw, 0x0⟩]⟩,
  ⟨0xA00, [(0x4, 32)], [⟨0, 12, .rw, 0x0⟩, ⟨16, 12, .rw, 0x0⟩]⟩,
  ⟨0xA80, [(0x4, 32)], [⟨0, 12, .ro, 0x0⟩, ⟨16, 12, .ro, 0x0⟩]⟩]

/-- Every register of block CH. -/
def chRegs : List RegSpec := chRegs0 ++ chRegs1 ++ chRegs2 ++ chRegs3

/-- Block FLP, registers FLf_SQTAIL to FLf_CQTAIL. -/
def flpRegs0 : List RegSpec := [
  ⟨0x0, [], [⟨0, 32, .rw, 0x0⟩]⟩,
  ⟨0x4, [], [⟨0, 32, .rw, 0x0⟩]⟩,
  ⟨0x8, [], [⟨0, 32, .wo, 0x0⟩]⟩,
  ⟨0xC, [], [⟨0, 32, .ro, 0x0⟩]⟩,
  ⟨0x10, [], [⟨0, 32, .ro, 0x0⟩]⟩]

/-- Every register of block FLP. -/
def flpRegs : List RegSpec := flpRegs0

/-- A block: its base, its extent, the stride of its instances (the extent for a block of one instance) and its
registers (R461). -/
structure Block where
  base : Nat
  extent : Nat
  stride : Nat
  regs : List RegSpec
  deriving DecidableEq, Repr

/-- The blocks of R461, and the flow pages of BAR4 (R476). -/
def blocks : List Block := [
  ⟨0x0, 0x10000, 0x10000, glbRegs⟩,
  ⟨0x10000, 0x10000, 0x10000, clkRegs⟩,
  ⟨0x20000, 0x10000, 0x10000, pwrRegs⟩,
  ⟨0x30000, 0x10000, 0x10000, secRegs⟩,
  ⟨0x40000, 0x10000, 0x10000, mbxRegs⟩,
  ⟨0x80000, 0x10000, 0x4000, synRegs⟩,
  ⟨0x90000, 0x10000, 0x10000, seqRegs⟩,
  ⟨0xA0000, 0x10000, 0x2000, bnkRegs⟩,
  ⟨0xC0000, 0x20000, 0x4000, tspRegs⟩,
  ⟨0xE0000, 0x4000, 0x100, grpRegs⟩,
  ⟨0x100000, 0x10000, 0x10000, msrRegs⟩,
  ⟨0x110000, 0x10000, 0x10000, calRegs⟩,
  ⟨0x120000, 0x10000, 0x10000, prlRegs⟩,
  ⟨0x130000, 0x4000, 0x400, sptRegs⟩,
  ⟨0x140000, 0x10000, 0x10000, pmbRegs⟩,
  ⟨0x200000, 0x200000, 0x1000, chRegs⟩,
  ⟨0x10000000, 0x100000, 0x4000, flpRegs⟩]

/-! The searches below test with `Nat.ble`, `Nat.blt` and `Nat.beq`, which the kernel evaluates on numerals in one step. -/

/-- The first of some blocks that holds an address. -/
def blockIn : List Block → Nat → Option Block
  | [], _ => none
  | b :: bs, a => bif Nat.ble b.base a && Nat.blt a (Nat.add b.base b.extent) then some b else blockIn bs a

/-- The block that holds an address; none: a hole (R462). -/
def blockAt (a : Nat) : Option Block := blockIn blocks a

/-- Does an offset from a register array's first register fall on one of its registers? -/
def dimsHit : List (Nat × Nat) → Nat → Bool
  | [], x => Nat.beq x 0
  | (s, c) :: ds, x => Nat.blt (Nat.div x s) c && dimsHit ds (Nat.mod x s)

/-- The register of a block at an offset within an instance. -/
def regIn : List RegSpec → Nat → Option RegSpec
  | [], _ => none
  | r :: rs, o => bif Nat.ble r.off o && dimsHit r.dims (Nat.sub o r.off) then some r else regIn rs o

/-- The register at an address. SPT0's execute-in-place registers exist on SPT0 only (15, R459). -/
def regAt (a : Nat) : Option RegSpec :=
  match blockAt a with
  | none => none
  | some b =>
    let o := Nat.mod (Nat.sub a b.base) b.stride
    bif Nat.beq b.base 0x130000 && Nat.ble 0x400 (Nat.sub a b.base) && (Nat.beq o 0x40 || Nat.beq o 0x44) then none
    else regIn b.regs o

/-- The fields of the register at an address; none for a reserved offset or a hole. -/
def fieldsAt (a : Nat) : List FieldSpec :=
  match regAt a with
  | none => []
  | some r => r.fields

/-- The reset word that a list of fields gives. -/
def fieldsReset : List FieldSpec → Nat
  | [] => 0
  | f :: fs => f.reset * 2 ^ f.lo + fieldsReset fs

/-- The resets that depend on the instance or on what only this model fixes:
F00's PRIV and partition (14, R438), SPT15's ROLE and EN (15, R460), the SEC domain's SLPEN (12, R376) and
SEC_RSTCAUSE after power-on (13, R385, R409). An entry is (address, the bits added to the map's resets, the bits
taken away). -/
def resetFix : List (Nat × Nat × Nat) := [
  (0x41000, 0x20000000, 0), (0x41018, 0xFFFFFFFF, 0), (0x4101C, 0xFFFFFFFF, 0),
  (0x133C00, 0x3, 0), (0x10130, 0, 0x40000000), (0x30008, 0x01000101, 0)]

/-- The fix of an address. -/
def resetFixAt : List (Nat × Nat × Nat) → Nat → Nat × Nat
  | [], _ => (0, 0)
  | (k, p, m) :: t, a => bif Nat.beq k a then (p, m) else resetFixAt t a

/-- The reset value of the register at an address (16, R473); 0 for a reserved offset. -/
def resetWord (a : Nat) : Word :=
  let f := resetFixAt resetFix a
  BitVec.ofNat 32 (fieldsReset (fieldsAt a) + f.1 - f.2)

end Sys2Proof.Machine
end

