-- ==== Sys2Proof/Machine/RegNames.lean ====
section
/-! DEFINITION. The addresses of the registers and the places of their fields, under the names of the manual
(16, R461 to R464, and the address tables of the chapters). `SYN_STAT n` is the address of SYNn_STAT and
`SYN_STAT_LOCK n` the place of its field LOCK. -/

set_option Elab.async false

namespace Sys2Proof.Machine

/-! Block GLB: addresses, then fields. -/

def GLB_ID : Nat := 0x0
def GLB_CTRL : Nat := 0x4
def GLB_LOCKVIOL : Nat := 0x8
def GLB_WINVIOL : Nat := 0xC
def GLB_SCRATCH : Nat := 0x10
def GLB_MODE : Nat := 0x40

def GLB_ID_PART : Ref := ⟨GLB_ID, 16, 16⟩
def GLB_ID_STEP : Ref := ⟨GLB_ID, 0, 8⟩
def GLB_CTRL_LOCK : Ref := ⟨GLB_CTRL, 31, 1⟩
def GLB_LOCKVIOL_COUNT : Ref := ⟨GLB_LOCKVIOL, 0, 16⟩
def GLB_WINVIOL_COUNT : Ref := ⟨GLB_WINVIOL, 0, 16⟩
def GLB_SCRATCH_DATA : Ref := ⟨GLB_SCRATCH, 0, 32⟩
def GLB_MODE_AVSHOST : Ref := ⟨GLB_MODE, 10, 1⟩
def GLB_MODE_DRIFTHOST : Ref := ⟨GLB_MODE, 9, 1⟩
def GLB_MODE_ALIGNHOST : Ref := ⟨GLB_MODE, 8, 1⟩
def GLB_MODE_REGRHOST : Ref := ⟨GLB_MODE, 7, 1⟩
def GLB_MODE_INTVHOST : Ref := ⟨GLB_MODE, 6, 1⟩
def GLB_MODE_DRAINWIN : Ref := ⟨GLB_MODE, 5, 1⟩
def GLB_MODE_CTXWIN : Ref := ⟨GLB_MODE, 4, 1⟩
def GLB_MODE_LEDGERHOST : Ref := ⟨GLB_MODE, 3, 1⟩
def GLB_MODE_CALHOST : Ref := ⟨GLB_MODE, 2, 1⟩
def GLB_MODE_STAMPRAW : Ref := ⟨GLB_MODE, 1, 1⟩

/-! Block CLK: addresses, then fields. -/

def CLK_CTRL : Nat := 0x10000
def CLK_STAT : Nat := 0x10004
def CLK_FLAGS : Nat := 0x10008
def CLK_IRQEN : Nat := 0x1000C
def CLK_FAILCAUSE : Nat := 0x10010
def CLK_CPLLEN : Nat := 0x10020
def CLK_DOM_CFG (d : Nat) : Nat := 0x10100 + 0x10 * d
def CLK_DOM_STAT (d : Nat) : Nat := 0x10104 + 0x10 * d

def CLK_CTRL_LOCK : Ref := ⟨CLK_CTRL, 31, 1⟩
def CLK_STAT_XOSTABLE : Ref := ⟨CLK_STAT, 31, 1⟩
def CLK_STAT_CPLLLOCK : Ref := ⟨CLK_STAT, 30, 1⟩
def CLK_STAT_AONSRC : Ref := ⟨CLK_STAT, 29, 1⟩
def CLK_STAT_IRCOK : Ref := ⟨CLK_STAT, 28, 1⟩
def CLK_STAT_XORUN : Ref := ⟨CLK_STAT, 0, 17⟩
def CLK_FLAGS_IRCFAIL : Ref := ⟨CLK_FLAGS, 4, 1⟩
def CLK_FLAGS_GATETO : Ref := ⟨CLK_FLAGS, 3, 1⟩
def CLK_FLAGS_FORCED_SWITCH : Ref := ⟨CLK_FLAGS, 2, 1⟩
def CLK_FLAGS_CPLLFAIL : Ref := ⟨CLK_FLAGS, 1, 1⟩
def CLK_FLAGS_XOWIN : Ref := ⟨CLK_FLAGS, 0, 1⟩
def CLK_IRQEN_IRCFAIL : Ref := ⟨CLK_IRQEN, 4, 1⟩
def CLK_IRQEN_GATETO : Ref := ⟨CLK_IRQEN, 3, 1⟩
def CLK_IRQEN_FORCED_SWITCH : Ref := ⟨CLK_IRQEN, 2, 1⟩
def CLK_IRQEN_CPLLFAIL : Ref := ⟨CLK_IRQEN, 1, 1⟩
def CLK_IRQEN_XOWIN : Ref := ⟨CLK_IRQEN, 0, 1⟩
def CLK_FAILCAUSE_VALID : Ref := ⟨CLK_FAILCAUSE, 31, 1⟩
def CLK_FAILCAUSE_COUNT : Ref := ⟨CLK_FAILCAUSE, 8, 8⟩
def CLK_FAILCAUSE_CAUSE : Ref := ⟨CLK_FAILCAUSE, 0, 4⟩
def CLK_CPLLEN_RUNEN : Ref := ⟨CLK_CPLLEN, 31, 1⟩
def CLK_CPLLEN_SLPEN : Ref := ⟨CLK_CPLLEN, 30, 1⟩
def CLK_CPLLEN_DSLPEN : Ref := ⟨CLK_CPLLEN, 29, 1⟩
def CLK_DOM_CFG_RUNEN (d : Nat) : Ref := ⟨CLK_DOM_CFG d, 31, 1⟩
def CLK_DOM_CFG_SLPEN (d : Nat) : Ref := ⟨CLK_DOM_CFG d, 30, 1⟩
def CLK_DOM_CFG_DSLPEN (d : Nat) : Ref := ⟨CLK_DOM_CFG d, 29, 1⟩
def CLK_DOM_CFG_SRC (d : Nat) : Ref := ⟨CLK_DOM_CFG d, 16, 2⟩
def CLK_DOM_CFG_DIV (d : Nat) : Ref := ⟨CLK_DOM_CFG d, 0, 6⟩
def CLK_DOM_STAT_RUN (d : Nat) : Ref := ⟨CLK_DOM_STAT d, 31, 1⟩
def CLK_DOM_STAT_STEPPING (d : Nat) : Ref := ⟨CLK_DOM_STAT d, 30, 1⟩
def CLK_DOM_STAT_SWITCHING (d : Nat) : Ref := ⟨CLK_DOM_STAT d, 29, 1⟩
def CLK_DOM_STAT_SRCACT (d : Nat) : Ref := ⟨CLK_DOM_STAT d, 16, 2⟩
def CLK_DOM_STAT_DIVACT (d : Nat) : Ref := ⟨CLK_DOM_STAT d, 0, 6⟩

/-! Block PWR: addresses, then fields. -/

def PWR_CTRL : Nat := 0x20000
def PWR_STATE : Nat := 0x20004
def PWR_FLAGS : Nat := 0x20008
def PWR_IRQEN : Nat := 0x2000C
def PWR_WAKECFG : Nat := 0x20010
def PWR_WAKECAUSE : Nat := 0x20014
def PWR_AONTIM : Nat := 0x20018
def PWR_AONNOW : Nat := 0x2001C
def PWR_OFFACC : Nat := 0x20020
def PWR_PDREQ (j : Nat) : Nat := 0x20100 + 0x4 * j
def PWR_PDSTAT (j : Nat) : Nat := 0x20300 + 0x4 * j

def PWR_CTRL_LOCK : Ref := ⟨PWR_CTRL, 31, 1⟩
def PWR_STATE_STATE : Ref := ⟨PWR_STATE, 28, 4⟩
def PWR_STATE_TARGET : Ref := ⟨PWR_STATE, 24, 4⟩
def PWR_STATE_BUSY : Ref := ⟨PWR_STATE, 23, 1⟩
def PWR_STATE_LASTCODE : Ref := ⟨PWR_STATE, 0, 8⟩
def PWR_FLAGS_OFFACC : Ref := ⟨PWR_FLAGS, 2, 1⟩
def PWR_FLAGS_WAKE : Ref := ⟨PWR_FLAGS, 1, 1⟩
def PWR_FLAGS_PDREF : Ref := ⟨PWR_FLAGS, 0, 1⟩
def PWR_IRQEN_OFFACC : Ref := ⟨PWR_IRQEN, 2, 1⟩
def PWR_IRQEN_WAKE : Ref := ⟨PWR_IRQEN, 1, 1⟩
def PWR_IRQEN_PDREF : Ref := ⟨PWR_IRQEN, 0, 1⟩
def PWR_WAKECFG_SPTMASK : Ref := ⟨PWR_WAKECFG, 8, 16⟩
def PWR_WAKECFG_TIMER : Ref := ⟨PWR_WAKECFG, 2, 1⟩
def PWR_WAKECFG_SPT : Ref := ⟨PWR_WAKECFG, 1, 1⟩
def PWR_WAKECFG_PCIE : Ref := ⟨PWR_WAKECFG, 0, 1⟩
def PWR_WAKECAUSE_PORT : Ref := ⟨PWR_WAKECAUSE, 8, 4⟩
def PWR_WAKECAUSE_CAUSE : Ref := ⟨PWR_WAKECAUSE, 0, 4⟩
def PWR_AONTIM_US : Ref := ⟨PWR_AONTIM, 0, 32⟩
def PWR_AONNOW_US : Ref := ⟨PWR_AONNOW, 0, 32⟩
def PWR_OFFACC_COUNT : Ref := ⟨PWR_OFFACC, 0, 32⟩
def PWR_PDREQ_REQ (j : Nat) : Ref := ⟨PWR_PDREQ j, 0, 2⟩
def PWR_PDSTAT_STATE (j : Nat) : Ref := ⟨PWR_PDSTAT j, 29, 3⟩
def PWR_PDSTAT_PENDING_ON (j : Nat) : Ref := ⟨PWR_PDSTAT j, 28, 1⟩
def PWR_PDSTAT_PENDREQ (j : Nat) : Ref := ⟨PWR_PDSTAT j, 26, 2⟩
def PWR_PDSTAT_WHY (j : Nat) : Ref := ⟨PWR_PDSTAT j, 8, 4⟩

/-! Block SEC: addresses, then fields. -/

def SEC_CTRL : Nat := 0x30000
def SEC_LCSTATE : Nat := 0x30004
def SEC_RSTCAUSE : Nat := 0x30008
def SEC_RSTCTRL : Nat := 0x3000C
def SEC_BOOTSTAT : Nat := 0x30010
def SEC_BOOTCTRL : Nat := 0x30014
def SEC_PUSHLEN : Nat := 0x30018
def SEC_FWVER : Nat := 0x3001C
def SEC_SVN : Nat := 0x30020
def SEC_UIDLO : Nat := 0x30024
def SEC_UIDHI : Nat := 0x30028
def SEC_DBGCTRL : Nat := 0x3002C
def SEC_DBGSTAT : Nat := 0x30030
def SEC_WDTCTRL : Nat := 0x30034
def SEC_DLYHEAD : Nat := 0x30038
def SEC_DBGNONCE (i : Nat) : Nat := 0x30040 + 0x4 * i
def SEC_DBGRESP (i : Nat) : Nat := 0x30060 + 0x4 * i
def SEC_DLY (w : Nat) : Nat := 0x31000 + 0x4 * w

def SEC_CTRL_LOCK : Ref := ⟨SEC_CTRL, 31, 1⟩
def SEC_LCSTATE_LC : Ref := ⟨SEC_LCSTATE, 28, 4⟩
def SEC_LCSTATE_DBG : Ref := ⟨SEC_LCSTATE, 26, 2⟩
def SEC_LCSTATE_KEYREV : Ref := ⟨SEC_LCSTATE, 24, 2⟩
def SEC_RSTCAUSE_COUNT : Ref := ⟨SEC_RSTCAUSE, 24, 8⟩
def SEC_RSTCAUSE_HIST : Ref := ⟨SEC_RSTCAUSE, 8, 7⟩
def SEC_RSTCAUSE_LAST : Ref := ⟨SEC_RSTCAUSE, 0, 4⟩
def SEC_RSTCTRL_KEY : Ref := ⟨SEC_RSTCTRL, 8, 8⟩
def SEC_RSTCTRL_GO : Ref := ⟨SEC_RSTCTRL, 0, 1⟩
def SEC_BOOTSTAT_STAGE : Ref := ⟨SEC_BOOTSTAT, 28, 4⟩
def SEC_BOOTSTAT_WHY : Ref := ⟨SEC_BOOTSTAT, 24, 4⟩
def SEC_BOOTSTAT_REGION : Ref := ⟨SEC_BOOTSTAT, 20, 4⟩
def SEC_BOOTSTAT_SLOT : Ref := ⟨SEC_BOOTSTAT, 19, 1⟩
def SEC_BOOTSTAT_PUSHED : Ref := ⟨SEC_BOOTSTAT, 18, 1⟩
def SEC_BOOTSTAT_PATCH : Ref := ⟨SEC_BOOTSTAT, 16, 2⟩
def SEC_BOOTCTRL_PUSHREQ : Ref := ⟨SEC_BOOTCTRL, 0, 1⟩
def SEC_PUSHLEN_LEN : Ref := ⟨SEC_PUSHLEN, 0, 32⟩
def SEC_FWVER_VERSION : Ref := ⟨SEC_FWVER, 0, 32⟩
def SEC_SVN_IMAGE : Ref := ⟨SEC_SVN, 8, 8⟩
def SEC_SVN_FUSED : Ref := ⟨SEC_SVN, 0, 8⟩
def SEC_UIDLO_UID : Ref := ⟨SEC_UIDLO, 0, 32⟩
def SEC_UIDHI_UID : Ref := ⟨SEC_UIDHI, 0, 32⟩
def SEC_DBGCTRL_TARGET : Ref := ⟨SEC_DBGCTRL, 8, 2⟩
def SEC_DBGCTRL_SEAL : Ref := ⟨SEC_DBGCTRL, 2, 1⟩
def SEC_DBGCTRL_CHECK : Ref := ⟨SEC_DBGCTRL, 1, 1⟩
def SEC_DBGCTRL_CHAL : Ref := ⟨SEC_DBGCTRL, 0, 1⟩
def SEC_DBGSTAT_LOCKOUT : Ref := ⟨SEC_DBGSTAT, 31, 1⟩
def SEC_DBGSTAT_NONCEVALID : Ref := ⟨SEC_DBGSTAT, 30, 1⟩
def SEC_DBGSTAT_FAILS : Ref := ⟨SEC_DBGSTAT, 28, 2⟩
def SEC_DBGSTAT_LASTRES : Ref := ⟨SEC_DBGSTAT, 24, 4⟩
def SEC_DBGSTAT_JREF : Ref := ⟨SEC_DBGSTAT, 0, 16⟩
def SEC_WDTCTRL_EN : Ref := ⟨SEC_WDTCTRL, 31, 1⟩
def SEC_WDTCTRL_KICK : Ref := ⟨SEC_WDTCTRL, 16, 1⟩
def SEC_WDTCTRL_MS : Ref := ⟨SEC_WDTCTRL, 0, 16⟩
def SEC_DLYHEAD_WRAP : Ref := ⟨SEC_DLYHEAD, 8, 1⟩
def SEC_DLYHEAD_NEXT : Ref := ⟨SEC_DLYHEAD, 0, 8⟩
def SEC_DBGNONCE_N (i : Nat) : Ref := ⟨SEC_DBGNONCE i, 0, 32⟩
def SEC_DBGRESP_RESP (i : Nat) : Ref := ⟨SEC_DBGRESP i, 0, 32⟩
def SEC_DLY_E (w : Nat) : Ref := ⟨SEC_DLY w, 0, 32⟩

/-! Block MBX: addresses, then fields. -/

def MBX_CTRL : Nat := 0x40000
def MBX_ELCTRL : Nat := 0x40010
def MBX_ELBASELO : Nat := 0x40014
def MBX_ELBASEHI : Nat := 0x40018
def MBX_ELHEAD : Nat := 0x4001C
def MBX_ELTAIL : Nat := 0x40020
def MBX_ELDROP : Nat := 0x40024
def MBX_ABORTCNT : Nat := 0x40030
def MBX_ABORTADDR : Nat := 0x40034
def MBX_CHPEND (k : Nat) : Nat := 0x40100 + 0x4 * k
def MBX_TKPEND (k : Nat) : Nat := 0x40140 + 0x4 * k
def FL_CTRL (f : Nat) : Nat := 0x41000 + 0x40 * f
def FL_SQBASELO (f : Nat) : Nat := 0x41004 + 0x40 * f
def FL_SQBASEHI (f : Nat) : Nat := 0x41008 + 0x40 * f
def FL_CQBASELO (f : Nat) : Nat := 0x4100C + 0x40 * f
def FL_CQBASEHI (f : Nat) : Nat := 0x41010 + 0x40 * f
def FL_SIZE (f : Nat) : Nat := 0x41014 + 0x40 * f
def FL_PARTLO (f : Nat) : Nat := 0x41018 + 0x40 * f
def FL_PARTHI (f : Nat) : Nat := 0x4101C + 0x40 * f
def FL_STAT (f : Nat) : Nat := 0x41020 + 0x40 * f

def MBX_CTRL_LOCK : Ref := ⟨MBX_CTRL, 31, 1⟩
def MBX_ELCTRL_EN : Ref := ⟨MBX_ELCTRL, 31, 1⟩
def MBX_ELCTRL_LOG : Ref := ⟨MBX_ELCTRL, 24, 5⟩
def MBX_ELCTRL_COAL : Ref := ⟨MBX_ELCTRL, 16, 8⟩
def MBX_ELCTRL_USEC : Ref := ⟨MBX_ELCTRL, 0, 16⟩
def MBX_ELBASELO_ADDR : Ref := ⟨MBX_ELBASELO, 0, 32⟩
def MBX_ELBASEHI_ADDR : Ref := ⟨MBX_ELBASEHI, 0, 32⟩
def MBX_ELHEAD_CNT : Ref := ⟨MBX_ELHEAD, 0, 32⟩
def MBX_ELTAIL_CNT : Ref := ⟨MBX_ELTAIL, 0, 32⟩
def MBX_ELDROP_COUNT : Ref := ⟨MBX_ELDROP, 0, 32⟩
def MBX_ABORTCNT_COUNT : Ref := ⟨MBX_ABORTCNT, 0, 32⟩
def MBX_ABORTADDR_BAR : Ref := ⟨MBX_ABORTADDR, 30, 2⟩
def MBX_ABORTADDR_OFF : Ref := ⟨MBX_ABORTADDR, 0, 30⟩
def MBX_CHPEND_CH (k : Nat) : Ref := ⟨MBX_CHPEND k, 0, 32⟩
def MBX_TKPEND_TK (k : Nat) : Ref := ⟨MBX_TKPEND k, 0, 32⟩
def FL_CTRL_EN (f : Nat) : Ref := ⟨FL_CTRL f, 31, 1⟩
def FL_CTRL_LOC (f : Nat) : Ref := ⟨FL_CTRL f, 30, 1⟩
def FL_CTRL_PRIV (f : Nat) : Ref := ⟨FL_CTRL f, 29, 1⟩
def FL_CTRL_COAL (f : Nat) : Ref := ⟨FL_CTRL f, 16, 8⟩
def FL_CTRL_USEC (f : Nat) : Ref := ⟨FL_CTRL f, 0, 16⟩
def FL_SQBASELO_ADDR (f : Nat) : Ref := ⟨FL_SQBASELO f, 0, 32⟩
def FL_SQBASEHI_ADDR (f : Nat) : Ref := ⟨FL_SQBASEHI f, 0, 32⟩
def FL_CQBASELO_ADDR (f : Nat) : Ref := ⟨FL_CQBASELO f, 0, 32⟩
def FL_CQBASEHI_ADDR (f : Nat) : Ref := ⟨FL_CQBASEHI f, 0, 32⟩
def FL_SIZE_CLOG (f : Nat) : Ref := ⟨FL_SIZE f, 8, 5⟩
def FL_SIZE_SLOG (f : Nat) : Ref := ⟨FL_SIZE f, 0, 5⟩
def FL_PARTLO_MASK (f : Nat) : Ref := ⟨FL_PARTLO f, 0, 32⟩
def FL_PARTHI_MASK (f : Nat) : Ref := ⟨FL_PARTHI f, 0, 32⟩
def FL_STAT_ACTIVE (f : Nat) : Ref := ⟨FL_STAT f, 31, 1⟩
def FL_STAT_DBERR (f : Nat) : Ref := ⟨FL_STAT f, 30, 1⟩
def FL_STAT_CFULL (f : Nat) : Ref := ⟨FL_STAT f, 29, 1⟩
def FL_STAT_CFGREF (f : Nat) : Ref := ⟨FL_STAT f, 28, 1⟩
def FL_STAT_DMAERR (f : Nat) : Ref := ⟨FL_STAT f, 27, 1⟩
def FL_STAT_INFLIGHT (f : Nat) : Ref := ⟨FL_STAT f, 0, 6⟩

/-! Block SYN: addresses, then fields. -/

def SYN_CTRL (n : Nat) : Nat := 0x80000 + 0x4000 * n
def SYN_REF (n : Nat) : Nat := 0x80004 + 0x4000 * n
def SYN_REFFREQ (n : Nat) : Nat := 0x80008 + 0x4000 * n
def SYN_LOOP (n : Nat) : Nat := 0x8000C + 0x4000 * n
def SYN_LOCKCFG (n : Nat) : Nat := 0x80010 + 0x4000 * n
def SYN_STAT (n : Nat) : Nat := 0x80014 + 0x4000 * n
def SYN_FLAGS (n : Nat) : Nat := 0x80018 + 0x4000 * n
def SYN_IRQEN (n : Nat) : Nat := 0x8001C + 0x4000 * n
def SYN_LOLCNT (n : Nat) : Nat := 0x80020 + 0x4000 * n
def SYN_SRCHCNT (n : Nat) : Nat := 0x80024 + 0x4000 * n
def SYN_HOP (n : Nat) : Nat := 0x80028 + 0x4000 * n
def SYN_HOPSTAT (n : Nat) : Nat := 0x8002C + 0x4000 * n
def SYN_FTRIM (n : Nat) : Nat := 0x80030 + 0x4000 * n
def SYN_FWACTLO (n : Nat) : Nat := 0x80034 + 0x4000 * n
def SYN_FWACTHI (n : Nat) : Nat := 0x80038 + 0x4000 * n
def SYN_PHSTEP (n : Nat) : Nat := 0x80040 + 0x4000 * n
def SYN_PHPEND (n : Nat) : Nat := 0x80044 + 0x4000 * n
def SYN_PHPOS (n : Nat) : Nat := 0x80048 + 0x4000 * n
def SYN_BTIDX (n : Nat) : Nat := 0x80050 + 0x4000 * n
def SYN_BTDATA (n : Nat) : Nat := 0x80054 + 0x4000 * n
def SYN_PWLO (n : Nat) (p : Nat) : Nat := 0x80100 + 0x4000 * n + 0x8 * p
def SYN_PWHI (n : Nat) (p : Nat) : Nat := 0x80104 + 0x4000 * n + 0x8 * p
def SYN_RCTRL (n : Nat) : Nat := 0x80200 + 0x4000 * n
def SYN_RSTAT (n : Nat) : Nat := 0x80204 + 0x4000 * n
def SYN_RSIDX (n : Nat) : Nat := 0x80208 + 0x4000 * n
def SYN_RSLO (n : Nat) : Nat := 0x8020C + 0x4000 * n
def SYN_RSHI (n : Nat) : Nat := 0x80210 + 0x4000 * n
def SYN_RSSLOPE (n : Nat) : Nat := 0x80214 + 0x4000 * n
def SYN_RSDWELL (n : Nat) : Nat := 0x80218 + 0x4000 * n
def SYN_SSCTRL (n : Nat) : Nat := 0x80220 + 0x4000 * n
def SYN_SSDEV (n : Nat) : Nat := 0x80224 + 0x4000 * n
def SYN_SSRATE (n : Nat) : Nat := 0x80228 + 0x4000 * n
def SYN_SSSTAT (n : Nat) : Nat := 0x8022C + 0x4000 * n
def SYN_CCTRL (n : Nat) : Nat := 0x80240 + 0x4000 * n
def SYN_CSTAT (n : Nat) : Nat := 0x80244 + 0x4000 * n
def SYN_COASTWLO (n : Nat) : Nat := 0x80248 + 0x4000 * n
def SYN_COASTWHI (n : Nat) : Nat := 0x8024C + 0x4000 * n
def SYN_PHCARRY (n : Nat) : Nat := 0x80250 + 0x4000 * n
def SYN_LASTJUMP (n : Nat) : Nat := 0x80254 + 0x4000 * n
def SYN_COASTCNT (n : Nat) : Nat := 0x80258 + 0x4000 * n
def SYN_COASTTIME (n : Nat) : Nat := 0x8025C + 0x4000 * n
def SYN_SSTAB (n : Nat) (i : Nat) : Nat := 0x80300 + 0x4000 * n + 0x4 * i

def SYN_CTRL_LOCK (n : Nat) : Ref := ⟨SYN_CTRL n, 31, 1⟩
def SYN_CTRL_PRESET (n : Nat) : Ref := ⟨SYN_CTRL n, 8, 4⟩
def SYN_CTRL_PIN (n : Nat) : Ref := ⟨SYN_CTRL n, 7, 1⟩
def SYN_CTRL_ODIV (n : Nat) : Ref := ⟨SYN_CTRL n, 4, 3⟩
def SYN_CTRL_DITHER (n : Nat) : Ref := ⟨SYN_CTRL n, 3, 1⟩
def SYN_CTRL_PHCLR (n : Nat) : Ref := ⟨SYN_CTRL n, 2, 1⟩
def SYN_CTRL_RELOCK (n : Nat) : Ref := ⟨SYN_CTRL n, 1, 1⟩
def SYN_CTRL_EN (n : Nat) : Ref := ⟨SYN_CTRL n, 0, 1⟩
def SYN_REF_PDIV (n : Nat) : Ref := ⟨SYN_REF n, 4, 4⟩
def SYN_REF_RMUL (n : Nat) : Ref := ⟨SYN_REF n, 0, 2⟩
def SYN_REFFREQ_KHZ (n : Nat) : Ref := ⟨SYN_REFFREQ n, 0, 18⟩
def SYN_LOOP_BW (n : Nat) : Ref := ⟨SYN_LOOP n, 0, 12⟩
def SYN_LOCKCFG_N (n : Nat) : Ref := ⟨SYN_LOCKCFG n, 16, 16⟩
def SYN_LOCKCFG_W (n : Nat) : Ref := ⟨SYN_LOCKCFG n, 8, 8⟩
def SYN_LOCKCFG_LCNT (n : Nat) : Ref := ⟨SYN_LOCKCFG n, 0, 3⟩
def SYN_STAT_BAND (n : Nat) : Ref := ⟨SYN_STAT n, 24, 6⟩
def SYN_STAT_PRESETACT (n : Nat) : Ref := ⟨SYN_STAT n, 20, 4⟩
def SYN_STAT_STATE (n : Nat) : Ref := ⟨SYN_STAT n, 16, 4⟩
def SYN_STAT_CFGWHY (n : Nat) : Ref := ⟨SYN_STAT n, 8, 4⟩
def SYN_STAT_PHBUSY (n : Nat) : Ref := ⟨SYN_STAT n, 3, 1⟩
def SYN_STAT_HOPBUSY (n : Nat) : Ref := ⟨SYN_STAT n, 2, 1⟩
def SYN_STAT_COAST (n : Nat) : Ref := ⟨SYN_STAT n, 1, 1⟩
def SYN_STAT_LOCK (n : Nat) : Ref := ⟨SYN_STAT n, 0, 1⟩
def SYN_FLAGS_TBSLIP (n : Nat) : Ref := ⟨SYN_FLAGS n, 7, 1⟩
def SYN_FLAGS_PHSAT (n : Nat) : Ref := ⟨SYN_FLAGS n, 6, 1⟩
def SYN_FLAGS_HOPREF (n : Nat) : Ref := ⟨SYN_FLAGS n, 5, 1⟩
def SYN_FLAGS_CFGERR (n : Nat) : Ref := ⟨SYN_FLAGS n, 4, 1⟩
def SYN_FLAGS_BWCLAMP (n : Nat) : Ref := ⟨SYN_FLAGS n, 3, 1⟩
def SYN_FLAGS_BANDFAIL (n : Nat) : Ref := ⟨SYN_FLAGS n, 2, 1⟩
def SYN_FLAGS_REFLOSS (n : Nat) : Ref := ⟨SYN_FLAGS n, 1, 1⟩
def SYN_FLAGS_LOL (n : Nat) : Ref := ⟨SYN_FLAGS n, 0, 1⟩
def SYN_IRQEN_TBSLIP (n : Nat) : Ref := ⟨SYN_IRQEN n, 7, 1⟩
def SYN_IRQEN_PHSAT (n : Nat) : Ref := ⟨SYN_IRQEN n, 6, 1⟩
def SYN_IRQEN_HOPREF (n : Nat) : Ref := ⟨SYN_IRQEN n, 5, 1⟩
def SYN_IRQEN_CFGERR (n : Nat) : Ref := ⟨SYN_IRQEN n, 4, 1⟩
def SYN_IRQEN_BWCLAMP (n : Nat) : Ref := ⟨SYN_IRQEN n, 3, 1⟩
def SYN_IRQEN_BANDFAIL (n : Nat) : Ref := ⟨SYN_IRQEN n, 2, 1⟩
def SYN_IRQEN_REFLOSS (n : Nat) : Ref := ⟨SYN_IRQEN n, 1, 1⟩
def SYN_IRQEN_LOL (n : Nat) : Ref := ⟨SYN_IRQEN n, 0, 1⟩
def SYN_LOLCNT_COUNT (n : Nat) : Ref := ⟨SYN_LOLCNT n, 0, 16⟩
def SYN_SRCHCNT_COUNT (n : Nat) : Ref := ⟨SYN_SRCHCNT n, 0, 16⟩
def SYN_HOP_GO (n : Nat) : Ref := ⟨SYN_HOP n, 31, 1⟩
def SYN_HOP_PRIO (n : Nat) : Ref := ⟨SYN_HOP n, 8, 1⟩
def SYN_HOP_PRESET (n : Nat) : Ref := ⟨SYN_HOP n, 0, 4⟩
def SYN_HOPSTAT_RESULT (n : Nat) : Ref := ⟨SYN_HOPSTAT n, 28, 4⟩
def SYN_HOPSTAT_LASTPRESET (n : Nat) : Ref := ⟨SYN_HOPSTAT n, 24, 4⟩
def SYN_HOPSTAT_PEND (n : Nat) : Ref := ⟨SYN_HOPSTAT n, 23, 1⟩
def SYN_HOPSTAT_PENDPRESET (n : Nat) : Ref := ⟨SYN_HOPSTAT n, 16, 4⟩
def SYN_HOPSTAT_HOPCNT (n : Nat) : Ref := ⟨SYN_HOPSTAT n, 0, 16⟩
def SYN_FTRIM_TRIM (n : Nat) : Ref := ⟨SYN_FTRIM n, 0, 32⟩
def SYN_FWACTLO_FRAC (n : Nat) : Ref := ⟨SYN_FWACTLO n, 0, 32⟩
def SYN_FWACTHI_INT (n : Nat) : Ref := ⟨SYN_FWACTHI n, 8, 8⟩
def SYN_FWACTHI_FRACHI (n : Nat) : Ref := ⟨SYN_FWACTHI n, 0, 8⟩
def SYN_PHSTEP_STEPS (n : Nat) : Ref := ⟨SYN_PHSTEP n, 0, 24⟩
def SYN_PHPEND_PEND (n : Nat) : Ref := ⟨SYN_PHPEND n, 0, 32⟩
def SYN_PHPOS_POS (n : Nat) : Ref := ⟨SYN_PHPOS n, 0, 32⟩
def SYN_BTIDX_INDEX (n : Nat) : Ref := ⟨SYN_BTIDX n, 0, 6⟩
def SYN_BTDATA_HI (n : Nat) : Ref := ⟨SYN_BTDATA n, 16, 16⟩
def SYN_BTDATA_LO (n : Nat) : Ref := ⟨SYN_BTDATA n, 0, 16⟩
def SYN_PWLO_FRAC (n : Nat) (p : Nat) : Ref := ⟨SYN_PWLO n p, 0, 32⟩
def SYN_PWHI_INT (n : Nat) (p : Nat) : Ref := ⟨SYN_PWHI n p, 8, 8⟩
def SYN_PWHI_FRACHI (n : Nat) (p : Nat) : Ref := ⟨SYN_PWHI n p, 0, 8⟩
def SYN_RCTRL_REPEAT (n : Nat) : Ref := ⟨SYN_RCTRL n, 16, 8⟩
def SYN_RCTRL_NSEG (n : Nat) : Ref := ⟨SYN_RCTRL n, 8, 6⟩
def SYN_RCTRL_TRIG (n : Nat) : Ref := ⟨SYN_RCTRL n, 4, 2⟩
def SYN_RCTRL_ARM (n : Nat) : Ref := ⟨SYN_RCTRL n, 3, 1⟩
def SYN_RCTRL_START (n : Nat) : Ref := ⟨SYN_RCTRL n, 0, 1⟩
def SYN_RSTAT_SEG (n : Nat) : Ref := ⟨SYN_RSTAT n, 26, 6⟩
def SYN_RSTAT_PHASE (n : Nat) : Ref := ⟨SYN_RSTAT n, 24, 2⟩
def SYN_RSTAT_PASS (n : Nat) : Ref := ⟨SYN_RSTAT n, 16, 8⟩
def SYN_RSTAT_IGNCNT (n : Nat) : Ref := ⟨SYN_RSTAT n, 8, 8⟩
def SYN_RSTAT_LASTRES (n : Nat) : Ref := ⟨SYN_RSTAT n, 0, 4⟩
def SYN_RSIDX_INDEX (n : Nat) : Ref := ⟨SYN_RSIDX n, 0, 6⟩
def SYN_RSLO_FRAC (n : Nat) : Ref := ⟨SYN_RSLO n, 0, 32⟩
def SYN_RSHI_INT (n : Nat) : Ref := ⟨SYN_RSHI n, 8, 8⟩
def SYN_RSHI_FRACHI (n : Nat) : Ref := ⟨SYN_RSHI n, 0, 8⟩
def SYN_RSSLOPE_SLOPE (n : Nat) : Ref := ⟨SYN_RSSLOPE n, 0, 32⟩
def SYN_RSDWELL_DWELL (n : Nat) : Ref := ⟨SYN_RSDWELL n, 0, 32⟩
def SYN_SSCTRL_TABLE (n : Nat) : Ref := ⟨SYN_SSCTRL n, 3, 1⟩
def SYN_SSCTRL_CENTRE (n : Nat) : Ref := ⟨SYN_SSCTRL n, 2, 1⟩
def SYN_SSCTRL_EN (n : Nat) : Ref := ⟨SYN_SSCTRL n, 0, 1⟩
def SYN_SSDEV_PPM (n : Nat) : Ref := ⟨SYN_SSDEV n, 0, 13⟩
def SYN_SSRATE_HZ (n : Nat) : Ref := ⟨SYN_SSRATE n, 0, 18⟩
def SYN_SSSTAT_ACTIVE (n : Nat) : Ref := ⟨SYN_SSSTAT n, 31, 1⟩
def SYN_SSSTAT_PERIOD (n : Nat) : Ref := ⟨SYN_SSSTAT n, 16, 14⟩
def SYN_SSSTAT_LASTRES (n : Nat) : Ref := ⟨SYN_SSSTAT n, 0, 4⟩
def SYN_CCTRL_AVG (n : Nat) : Ref := ⟨SYN_CCTRL n, 24, 4⟩
def SYN_CCTRL_SLEWK (n : Nat) : Ref := ⟨SYN_CCTRL n, 8, 16⟩
def SYN_CCTRL_WORKOFF (n : Nat) : Ref := ⟨SYN_CCTRL n, 3, 1⟩
def SYN_CCTRL_POLICY (n : Nat) : Ref := ⟨SYN_CCTRL n, 0, 2⟩
def SYN_CSTAT_REFOFF (n : Nat) : Ref := ⟨SYN_CSTAT n, 31, 1⟩
def SYN_CSTAT_CARRYSAT (n : Nat) : Ref := ⟨SYN_CSTAT n, 30, 1⟩
def SYN_CSTAT_QUALFAIL (n : Nat) : Ref := ⟨SYN_CSTAT n, 29, 1⟩
def SYN_CSTAT_REFOK (n : Nat) : Ref := ⟨SYN_CSTAT n, 19, 1⟩
def SYN_CSTAT_WORKING (n : Nat) : Ref := ⟨SYN_CSTAT n, 18, 1⟩
def SYN_CSTAT_AVGVALID (n : Nat) : Ref := ⟨SYN_CSTAT n, 17, 1⟩
def SYN_CSTAT_QDEV (n : Nat) : Ref := ⟨SYN_CSTAT n, 0, 16⟩
def SYN_COASTWLO_FRAC (n : Nat) : Ref := ⟨SYN_COASTWLO n, 0, 32⟩
def SYN_COASTWHI_INT (n : Nat) : Ref := ⟨SYN_COASTWHI n, 8, 8⟩
def SYN_COASTWHI_FRACHI (n : Nat) : Ref := ⟨SYN_COASTWHI n, 0, 8⟩
def SYN_PHCARRY_CARRY (n : Nat) : Ref := ⟨SYN_PHCARRY n, 0, 32⟩
def SYN_LASTJUMP_JUMP (n : Nat) : Ref := ⟨SYN_LASTJUMP n, 0, 32⟩
def SYN_COASTCNT_COUNT (n : Nat) : Ref := ⟨SYN_COASTCNT n, 0, 16⟩
def SYN_COASTTIME_US (n : Nat) : Ref := ⟨SYN_COASTTIME n, 0, 32⟩
def SYN_SSTAB_V (n : Nat) (i : Nat) : Ref := ⟨SYN_SSTAB n i, 0, 16⟩

/-! Block SEQ: addresses, then fields. -/

def SEQ_GCTRL : Nat := 0x90000
def SEQ_ROMVER : Nat := 0x90004
def SEQ_PATCHVER : Nat := 0x90008
def SEQ_GSTAT : Nat := 0x9000C
def SEQ_CTRL (n : Nat) : Nat := 0x90100 + 0x100 * n
def SEQ_STAT (n : Nat) : Nat := 0x90104 + 0x100 * n
def SEQ_MATCH (n : Nat) (m : Nat) : Nat := 0x90140 + 0x100 * n + 0x4 * m
def SEQ_PRAMLO (w : Nat) : Nat := 0x91000 + 0x8 * w
def SEQ_PRAMHI (w : Nat) : Nat := 0x91004 + 0x8 * w

def SEQ_GCTRL_LOCK : Ref := ⟨SEQ_GCTRL, 31, 1⟩
def SEQ_ROMVER_VER : Ref := ⟨SEQ_ROMVER, 0, 32⟩
def SEQ_PATCHVER_VER : Ref := ⟨SEQ_PATCHVER, 0, 32⟩
def SEQ_GSTAT_WRREF : Ref := ⟨SEQ_GSTAT, 0, 16⟩
def SEQ_CTRL_DROP (n : Nat) : Ref := ⟨SEQ_CTRL n, 2, 1⟩
def SEQ_CTRL_RESUME (n : Nat) : Ref := ⟨SEQ_CTRL n, 1, 1⟩
def SEQ_CTRL_ABORT (n : Nat) : Ref := ⟨SEQ_CTRL n, 0, 1⟩
def SEQ_STAT_ROUTINE (n : Nat) : Ref := ⟨SEQ_STAT n, 28, 4⟩
def SEQ_STAT_PARTIAL (n : Nat) : Ref := ⟨SEQ_STAT n, 27, 1⟩
def SEQ_STAT_SUSP (n : Nat) : Ref := ⟨SEQ_STAT n, 26, 1⟩
def SEQ_STAT_BUSY (n : Nat) : Ref := ⟨SEQ_STAT n, 25, 1⟩
def SEQ_STAT_FAULT (n : Nat) : Ref := ⟨SEQ_STAT n, 24, 1⟩
def SEQ_STAT_STEP (n : Nat) : Ref := ⟨SEQ_STAT n, 0, 24⟩
def SEQ_MATCH_EN (n : Nat) (m : Nat) : Ref := ⟨SEQ_MATCH n m, 31, 1⟩
def SEQ_MATCH_PADDR (n : Nat) (m : Nat) : Ref := ⟨SEQ_MATCH n m, 16, 9⟩
def SEQ_MATCH_RADDR (n : Nat) (m : Nat) : Ref := ⟨SEQ_MATCH n m, 0, 13⟩
def SEQ_PRAMLO_DATA (w : Nat) : Ref := ⟨SEQ_PRAMLO w, 0, 32⟩
def SEQ_PRAMHI_DATA (w : Nat) : Ref := ⟨SEQ_PRAMHI w, 0, 32⟩

/-! Block BNK: addresses, then fields. -/

def BNK_ROOT (b : Nat) : Nat := 0xA0000 + 0x2000 * b
def BNK_STAT (b : Nat) : Nat := 0xA0004 + 0x2000 * b
def BNK_FLAGS (b : Nat) : Nat := 0xA0008 + 0x2000 * b
def BNK_IRQEN (b : Nat) : Nat := 0xA000C + 0x2000 * b
def BNK_DLLCFG (b : Nat) : Nat := 0xA0010 + 0x2000 * b
def BNK_DLLCW (b : Nat) : Nat := 0xA0014 + 0x2000 * b
def BNK_DLLLOLCNT (b : Nat) : Nat := 0xA0018 + 0x2000 * b
def BNK_GUARD (b : Nat) : Nat := 0xA0020 + 0x2000 * b
def BNK_TAINTCNT (b : Nat) : Nat := 0xA0024 + 0x2000 * b
def BNK_TOPENLO (b : Nat) : Nat := 0xA0028 + 0x2000 * b
def BNK_TOPENHI (b : Nat) : Nat := 0xA002C + 0x2000 * b
def BNK_TCLOSELO (b : Nat) : Nat := 0xA0030 + 0x2000 * b
def BNK_TCLOSEHI (b : Nat) : Nat := 0xA0034 + 0x2000 * b
def BNK_TSRC (b : Nat) : Nat := 0xA0038 + 0x2000 * b
def BNK_CUECTRL (b : Nat) : Nat := 0xA0100 + 0x2000 * b
def BNK_CUESTAT (b : Nat) : Nat := 0xA0104 + 0x2000 * b
def BNK_ECCCE (b : Nat) : Nat := 0xA0108 + 0x2000 * b
def BNK_ECCUE (b : Nat) : Nat := 0xA010C + 0x2000 * b
def BNK_ECCLAST (b : Nat) : Nat := 0xA0110 + 0x2000 * b
def BNK_SCRUBPOS (b : Nat) : Nat := 0xA0114 + 0x2000 * b
def BNK_CUECNT (b : Nat) : Nat := 0xA0118 + 0x2000 * b
def BNK_TRKCTRL (b : Nat) : Nat := 0xA0200 + 0x2000 * b
def BNK_TRKGB (b : Nat) : Nat := 0xA0204 + 0x2000 * b
def BNK_TRKOB (b : Nat) : Nat := 0xA0208 + 0x2000 * b
def BNK_TRKBIAS (b : Nat) : Nat := 0xA020C + 0x2000 * b
def BNK_TRKREF (b : Nat) : Nat := 0xA0210 + 0x2000 * b
def BNK_TRKKG (b : Nat) : Nat := 0xA0214 + 0x2000 * b
def BNK_TRKKO (b : Nat) : Nat := 0xA0218 + 0x2000 * b
def BNK_TRKOUT (b : Nat) : Nat := 0xA021C + 0x2000 * b
def BNK_TRKTEMP (b : Nat) : Nat := 0xA0220 + 0x2000 * b
def BNK_TRKFLAGS (b : Nat) : Nat := 0xA0224 + 0x2000 * b
def BNK_TRKCONF (b : Nat) : Nat := 0xA0228 + 0x2000 * b
def BNK_TRKSKIP (b : Nat) : Nat := 0xA022C + 0x2000 * b

def BNK_ROOT_LOCK (b : Nat) : Ref := ⟨BNK_ROOT b, 31, 1⟩
def BNK_ROOT_SEL (b : Nat) : Ref := ⟨BNK_ROOT b, 0, 2⟩
def BNK_STAT_ROOTWHY (b : Nat) : Ref := ⟨BNK_STAT b, 8, 4⟩
def BNK_STAT_ROOTACT (b : Nat) : Ref := ⟨BNK_STAT b, 6, 2⟩
def BNK_STAT_TAINT (b : Nat) : Ref := ⟨BNK_STAT b, 5, 1⟩
def BNK_STAT_DLLLOCK (b : Nat) : Ref := ⟨BNK_STAT b, 4, 1⟩
def BNK_STAT_DLLSTATE (b : Nat) : Ref := ⟨BNK_STAT b, 2, 2⟩
def BNK_STAT_IDLE (b : Nat) : Ref := ⟨BNK_STAT b, 0, 1⟩
def BNK_FLAGS_TOPENED (b : Nat) : Ref := ⟨BNK_FLAGS b, 3, 1⟩
def BNK_FLAGS_ROOTREF (b : Nat) : Ref := ⟨BNK_FLAGS b, 2, 1⟩
def BNK_FLAGS_DLLFAIL (b : Nat) : Ref := ⟨BNK_FLAGS b, 1, 1⟩
def BNK_FLAGS_DLLLOL (b : Nat) : Ref := ⟨BNK_FLAGS b, 0, 1⟩
def BNK_IRQEN_TOPENED (b : Nat) : Ref := ⟨BNK_IRQEN b, 3, 1⟩
def BNK_IRQEN_ROOTREF (b : Nat) : Ref := ⟨BNK_IRQEN b, 2, 1⟩
def BNK_IRQEN_DLLFAIL (b : Nat) : Ref := ⟨BNK_IRQEN b, 1, 1⟩
def BNK_IRQEN_DLLLOL (b : Nat) : Ref := ⟨BNK_IRQEN b, 0, 1⟩
def BNK_DLLCFG_NLOCK (b : Nat) : Ref := ⟨BNK_DLLCFG b, 16, 12⟩
def BNK_DLLCFG_WIN (b : Nat) : Ref := ⟨BNK_DLLCFG b, 8, 8⟩
def BNK_DLLCFG_LCNT (b : Nat) : Ref := ⟨BNK_DLLCFG b, 0, 3⟩
def BNK_DLLCW_CW (b : Nat) : Ref := ⟨BNK_DLLCW b, 0, 16⟩
def BNK_DLLLOLCNT_COUNT (b : Nat) : Ref := ⟨BNK_DLLLOLCNT b, 0, 16⟩
def BNK_GUARD_CYC (b : Nat) : Ref := ⟨BNK_GUARD b, 0, 10⟩
def BNK_TAINTCNT_COUNT (b : Nat) : Ref := ⟨BNK_TAINTCNT b, 0, 16⟩
def BNK_TOPENLO_CNT (b : Nat) : Ref := ⟨BNK_TOPENLO b, 0, 32⟩
def BNK_TOPENHI_CNT (b : Nat) : Ref := ⟨BNK_TOPENHI b, 0, 16⟩
def BNK_TCLOSELO_CNT (b : Nat) : Ref := ⟨BNK_TCLOSELO b, 0, 32⟩
def BNK_TCLOSEHI_CNT (b : Nat) : Ref := ⟨BNK_TCLOSEHI b, 0, 16⟩
def BNK_TSRC_DLL (b : Nat) : Ref := ⟨BNK_TSRC b, 3, 1⟩
def BNK_TSRC_SNAP (b : Nat) : Ref := ⟨BNK_TSRC b, 2, 1⟩
def BNK_TSRC_COAST (b : Nat) : Ref := ⟨BNK_TSRC b, 1, 1⟩
def BNK_TSRC_ROOT (b : Nat) : Ref := ⟨BNK_TSRC b, 0, 1⟩
def BNK_CUECTRL_WIPE (b : Nat) : Ref := ⟨BNK_CUECTRL b, 8, 1⟩
def BNK_CUECTRL_SCRUBEN (b : Nat) : Ref := ⟨BNK_CUECTRL b, 0, 1⟩
def BNK_CUESTAT_WIPING (b : Nat) : Ref := ⟨BNK_CUESTAT b, 31, 1⟩
def BNK_CUESTAT_BUSY (b : Nat) : Ref := ⟨BNK_CUESTAT b, 30, 1⟩
def BNK_CUESTAT_WIPEREF (b : Nat) : Ref := ⟨BNK_CUESTAT b, 29, 1⟩
def BNK_CUESTAT_QDEPTH (b : Nat) : Ref := ⟨BNK_CUESTAT b, 0, 8⟩
def BNK_ECCCE_COUNT (b : Nat) : Ref := ⟨BNK_ECCCE b, 0, 32⟩
def BNK_ECCUE_COUNT (b : Nat) : Ref := ⟨BNK_ECCUE b, 0, 16⟩
def BNK_ECCLAST_UE (b : Nat) : Ref := ⟨BNK_ECCLAST b, 31, 1⟩
def BNK_ECCLAST_SRC (b : Nat) : Ref := ⟨BNK_ECCLAST b, 29, 2⟩
def BNK_ECCLAST_CH (b : Nat) : Ref := ⟨BNK_ECCLAST b, 23, 6⟩
def BNK_ECCLAST_CTX (b : Nat) : Ref := ⟨BNK_ECCLAST b, 12, 11⟩
def BNK_ECCLAST_SYND (b : Nat) : Ref := ⟨BNK_ECCLAST b, 0, 10⟩
def BNK_SCRUBPOS_PASSES (b : Nat) : Ref := ⟨BNK_SCRUBPOS b, 16, 16⟩
def BNK_SCRUBPOS_ROW (b : Nat) : Ref := ⟨BNK_SCRUBPOS b, 0, 16⟩
def BNK_CUECNT_COUNT (b : Nat) : Ref := ⟨BNK_CUECNT b, 0, 32⟩
def BNK_TRKCTRL_FREEZE (b : Nat) : Ref := ⟨BNK_TRKCTRL b, 31, 1⟩
def BNK_TRKCTRL_STEP (b : Nat) : Ref := ⟨BNK_TRKCTRL b, 8, 8⟩
def BNK_TRKGB_GHI (b : Nat) : Ref := ⟨BNK_TRKGB b, 16, 16⟩
def BNK_TRKGB_GLO (b : Nat) : Ref := ⟨BNK_TRKGB b, 0, 16⟩
def BNK_TRKOB_OHI (b : Nat) : Ref := ⟨BNK_TRKOB b, 16, 16⟩
def BNK_TRKOB_OLO (b : Nat) : Ref := ⟨BNK_TRKOB b, 0, 16⟩
def BNK_TRKBIAS_BO (b : Nat) : Ref := ⟨BNK_TRKBIAS b, 16, 16⟩
def BNK_TRKBIAS_BG (b : Nat) : Ref := ⟨BNK_TRKBIAS b, 0, 16⟩
def BNK_TRKREF_T0 (b : Nat) : Ref := ⟨BNK_TRKREF b, 16, 16⟩
def BNK_TRKREF_CW0 (b : Nat) : Ref := ⟨BNK_TRKREF b, 0, 16⟩
def BNK_TRKKG_KGT (b : Nat) : Ref := ⟨BNK_TRKKG b, 16, 16⟩
def BNK_TRKKG_KGC (b : Nat) : Ref := ⟨BNK_TRKKG b, 0, 16⟩
def BNK_TRKKO_KOT (b : Nat) : Ref := ⟨BNK_TRKKO b, 16, 16⟩
def BNK_TRKKO_KOC (b : Nat) : Ref := ⟨BNK_TRKKO b, 0, 16⟩
def BNK_TRKOUT_OC (b : Nat) : Ref := ⟨BNK_TRKOUT b, 16, 16⟩
def BNK_TRKOUT_GC (b : Nat) : Ref := ⟨BNK_TRKOUT b, 0, 16⟩
def BNK_TRKTEMP_T (b : Nat) : Ref := ⟨BNK_TRKTEMP b, 0, 16⟩
def BNK_TRKFLAGS_BNDREF (b : Nat) : Ref := ⟨BNK_TRKFLAGS b, 2, 1⟩
def BNK_TRKFLAGS_SKIP (b : Nat) : Ref := ⟨BNK_TRKFLAGS b, 1, 1⟩
def BNK_TRKFLAGS_CONFLICT (b : Nat) : Ref := ⟨BNK_TRKFLAGS b, 0, 1⟩
def BNK_TRKCONF_COUNT (b : Nat) : Ref := ⟨BNK_TRKCONF b, 0, 32⟩
def BNK_TRKSKIP_COUNT (b : Nat) : Ref := ⟨BNK_TRKSKIP b, 0, 32⟩

/-! Block TSP: addresses, then fields. -/

def TSP_CTRL (p : Nat) : Nat := 0xC0000 + 0x4000 * p
def TSP_STAT (p : Nat) : Nat := 0xC0004 + 0x4000 * p
def TSP_FLAGS (p : Nat) : Nat := 0xC0008 + 0x4000 * p
def TSP_IRQEN (p : Nat) : Nat := 0xC000C + 0x4000 * p
def TSP_GRPMASKLO (p : Nat) : Nat := 0xC0010 + 0x4000 * p
def TSP_GRPMASKHI (p : Nat) : Nat := 0xC0014 + 0x4000 * p
def TSP_OWNLO (p : Nat) : Nat := 0xC0018 + 0x4000 * p
def TSP_OWNHI (p : Nat) : Nat := 0xC001C + 0x4000 * p
def TSP_CRCERR (p : Nat) : Nat := 0xC0020 + 0x4000 * p
def TSP_SEQGAP (p : Nat) : Nat := 0xC0024 + 0x4000 * p
def TSP_BADCMD (p : Nat) : Nat := 0xC0028 + 0x4000 * p
def TSP_RECOVCNT (p : Nat) : Nat := 0xC002C + 0x4000 * p
def TSP_RESDROP (p : Nat) : Nat := 0xC0030 + 0x4000 * p
def TSP_FOREIGN (p : Nat) : Nat := 0xC0034 + 0x4000 * p
def TSP_LANEERR (p : Nat) (l : Nat) : Nat := 0xC0040 + 0x4000 * p + 0x4 * l
def TSP_PRESET (p : Nat) : Nat := 0xC0050 + 0x4000 * p
def TSP_FARID (p : Nat) : Nat := 0xC0054 + 0x4000 * p

def TSP_CTRL_LOCK (p : Nat) : Ref := ⟨TSP_CTRL p, 31, 1⟩
def TSP_CTRL_RETRAIN (p : Nat) : Ref := ⟨TSP_CTRL p, 2, 1⟩
def TSP_CTRL_DETACH (p : Nat) : Ref := ⟨TSP_CTRL p, 1, 1⟩
def TSP_CTRL_EN (p : Nat) : Ref := ⟨TSP_CTRL p, 0, 1⟩
def TSP_STAT_LSTATE (p : Nat) : Ref := ⟨TSP_STAT p, 24, 4⟩
def TSP_STAT_HELLO (p : Nat) : Ref := ⟨TSP_STAT p, 23, 1⟩
def TSP_STAT_NGRP (p : Nat) : Ref := ⟨TSP_STAT p, 16, 4⟩
def TSP_STAT_LANELOCK (p : Nat) : Ref := ⟨TSP_STAT p, 8, 4⟩
def TSP_STAT_RXSEQ (p : Nat) : Ref := ⟨TSP_STAT p, 0, 8⟩
def TSP_FLAGS_FOREIGN (p : Nat) : Ref := ⟨TSP_FLAGS p, 7, 1⟩
def TSP_FLAGS_RESDROP (p : Nat) : Ref := ⟨TSP_FLAGS p, 6, 1⟩
def TSP_FLAGS_EQFAIL (p : Nat) : Ref := ⟨TSP_FLAGS p, 5, 1⟩
def TSP_FLAGS_DETACHED (p : Nat) : Ref := ⟨TSP_FLAGS p, 4, 1⟩
def TSP_FLAGS_RECOVER (p : Nat) : Ref := ⟨TSP_FLAGS p, 3, 1⟩
def TSP_FLAGS_BADCMD (p : Nat) : Ref := ⟨TSP_FLAGS p, 2, 1⟩
def TSP_FLAGS_SEQGAP (p : Nat) : Ref := ⟨TSP_FLAGS p, 1, 1⟩
def TSP_FLAGS_CRC (p : Nat) : Ref := ⟨TSP_FLAGS p, 0, 1⟩
def TSP_IRQEN_FOREIGN (p : Nat) : Ref := ⟨TSP_IRQEN p, 7, 1⟩
def TSP_IRQEN_RESDROP (p : Nat) : Ref := ⟨TSP_IRQEN p, 6, 1⟩
def TSP_IRQEN_EQFAIL (p : Nat) : Ref := ⟨TSP_IRQEN p, 5, 1⟩
def TSP_IRQEN_DETACHED (p : Nat) : Ref := ⟨TSP_IRQEN p, 4, 1⟩
def TSP_IRQEN_RECOVER (p : Nat) : Ref := ⟨TSP_IRQEN p, 3, 1⟩
def TSP_IRQEN_BADCMD (p : Nat) : Ref := ⟨TSP_IRQEN p, 2, 1⟩
def TSP_IRQEN_SEQGAP (p : Nat) : Ref := ⟨TSP_IRQEN p, 1, 1⟩
def TSP_IRQEN_CRC (p : Nat) : Ref := ⟨TSP_IRQEN p, 0, 1⟩
def TSP_GRPMASKLO_MASK (p : Nat) : Ref := ⟨TSP_GRPMASKLO p, 0, 32⟩
def TSP_GRPMASKHI_MASK (p : Nat) : Ref := ⟨TSP_GRPMASKHI p, 0, 32⟩
def TSP_OWNLO_OWN (p : Nat) : Ref := ⟨TSP_OWNLO p, 0, 32⟩
def TSP_OWNHI_OWN (p : Nat) : Ref := ⟨TSP_OWNHI p, 0, 32⟩
def TSP_CRCERR_COUNT (p : Nat) : Ref := ⟨TSP_CRCERR p, 0, 32⟩
def TSP_SEQGAP_COUNT (p : Nat) : Ref := ⟨TSP_SEQGAP p, 0, 32⟩
def TSP_BADCMD_COUNT (p : Nat) : Ref := ⟨TSP_BADCMD p, 0, 16⟩
def TSP_RECOVCNT_COUNT (p : Nat) : Ref := ⟨TSP_RECOVCNT p, 0, 16⟩
def TSP_RESDROP_COUNT (p : Nat) : Ref := ⟨TSP_RESDROP p, 0, 32⟩
def TSP_FOREIGN_COUNT (p : Nat) : Ref := ⟨TSP_FOREIGN p, 0, 32⟩
def TSP_LANEERR_COUNT (p : Nat) (l : Nat) : Ref := ⟨TSP_LANEERR p l, 0, 16⟩
def TSP_PRESET_TXPRE (p : Nat) : Ref := ⟨TSP_PRESET p, 0, 4⟩
def TSP_FARID_ID (p : Nat) : Ref := ⟨TSP_FARID p, 0, 32⟩

/-! Block GRP: addresses, then fields. -/

def GRP_HALT (g : Nat) : Nat := 0xE00F0 + 0x100 * g
def GRP_HALTCYC (g : Nat) : Nat := 0xE00F4 + 0x100 * g
def GRP_CUECFG (g : Nat) : Nat := 0xE0000 + 0x100 * g
def GRP_STAT (g : Nat) : Nat := 0xE0004 + 0x100 * g
def GRP_MBRCNT (g : Nat) : Nat := 0xE0008 + 0x100 * g
def GRP_EPOCH (g : Nat) : Nat := 0xE000C + 0x100 * g
def GRP_STARTLO (g : Nat) : Nat := 0xE0010 + 0x100 * g
def GRP_STARTHI (g : Nat) : Nat := 0xE0014 + 0x100 * g
def GRP_COMMITLO (g : Nat) : Nat := 0xE0018 + 0x100 * g
def GRP_COMMITHI (g : Nat) : Nat := 0xE001C + 0x100 * g
def GRP_SHDSLOTS (g : Nat) : Nat := 0xE0020 + 0x100 * g
def GRP_CUEREF (g : Nat) : Nat := 0xE0024 + 0x100 * g
def GRP_LASTREF (g : Nat) : Nat := 0xE0028 + 0x100 * g
def GRP_TSPCFG (g : Nat) : Nat := 0xE0040 + 0x100 * g
def GRP_SELSTAT (g : Nat) : Nat := 0xE0044 + 0x100 * g
def GRP_NEXTLO (g : Nat) : Nat := 0xE0048 + 0x100 * g
def GRP_NEXTHI (g : Nat) : Nat := 0xE004C + 0x100 * g
def GRP_UNDERLO (g : Nat) : Nat := 0xE0050 + 0x100 * g
def GRP_UNDERHI (g : Nat) : Nat := 0xE0054 + 0x100 * g
def GRP_UNDERCNT (g : Nat) : Nat := 0xE0058 + 0x100 * g
def GRP_LATECNT (g : Nat) : Nat := 0xE005C + 0x100 * g
def GRP_GAPCNT (g : Nat) : Nat := 0xE0060 + 0x100 * g
def GRP_OVLCNT (g : Nat) : Nat := 0xE0064 + 0x100 * g
def GRP_SELOVF (g : Nat) : Nat := 0xE0068 + 0x100 * g
def GRP_SWHOLD (g : Nat) : Nat := 0xE006C + 0x100 * g
def GRP_SELDISC (g : Nat) : Nat := 0xE0070 + 0x100 * g

def GRP_HALT_HALTED (g : Nat) : Ref := ⟨GRP_HALT g, 31, 1⟩
def GRP_HALT_SPLIT (g : Nat) : Ref := ⟨GRP_HALT g, 30, 1⟩
def GRP_HALT_CAUSE (g : Nat) : Ref := ⟨GRP_HALT g, 27, 3⟩
def GRP_HALT_HALTCNT (g : Nat) : Ref := ⟨GRP_HALT g, 8, 16⟩
def GRP_HALT_RELREF (g : Nat) : Ref := ⟨GRP_HALT g, 2, 1⟩
def GRP_HALT_RELEASE (g : Nat) : Ref := ⟨GRP_HALT g, 1, 1⟩
def GRP_HALT_HALTLOSS (g : Nat) : Ref := ⟨GRP_HALT g, 0, 1⟩
def GRP_HALTCYC_CYC (g : Nat) : Ref := ⟨GRP_HALTCYC g, 0, 32⟩
def GRP_CUECFG_INITSLOT (g : Nat) : Ref := ⟨GRP_CUECFG g, 0, 5⟩
def GRP_STAT_RUN (g : Nat) : Ref := ⟨GRP_STAT g, 31, 1⟩
def GRP_STAT_CPEND (g : Nat) : Ref := ⟨GRP_STAT g, 30, 1⟩
def GRP_STAT_OWNED (g : Nat) : Ref := ⟨GRP_STAT g, 29, 1⟩
def GRP_STAT_OWNER (g : Nat) : Ref := ⟨GRP_STAT g, 26, 3⟩
def GRP_STAT_LEAD (g : Nat) : Ref := ⟨GRP_STAT g, 16, 3⟩
def GRP_STAT_BANKS (g : Nat) : Ref := ⟨GRP_STAT g, 8, 8⟩
def GRP_MBRCNT_COUNT (g : Nat) : Ref := ⟨GRP_MBRCNT g, 0, 10⟩
def GRP_EPOCH_EPOCH (g : Nat) : Ref := ⟨GRP_EPOCH g, 0, 16⟩
def GRP_STARTLO_CNT (g : Nat) : Ref := ⟨GRP_STARTLO g, 0, 32⟩
def GRP_STARTHI_CNT (g : Nat) : Ref := ⟨GRP_STARTHI g, 0, 16⟩
def GRP_COMMITLO_K (g : Nat) : Ref := ⟨GRP_COMMITLO g, 0, 32⟩
def GRP_COMMITHI_K (g : Nat) : Ref := ⟨GRP_COMMITHI g, 0, 16⟩
def GRP_SHDSLOTS_SLOTS (g : Nat) : Ref := ⟨GRP_SHDSLOTS g, 0, 32⟩
def GRP_CUEREF_COUNT (g : Nat) : Ref := ⟨GRP_CUEREF g, 0, 16⟩
def GRP_LASTREF_WHY (g : Nat) : Ref := ⟨GRP_LASTREF g, 0, 4⟩
def GRP_TSPCFG_LEAD (g : Nat) : Ref := ⟨GRP_TSPCFG g, 16, 14⟩
def GRP_TSPCFG_UNDERPOL (g : Nat) : Ref := ⟨GRP_TSPCFG g, 0, 1⟩
def GRP_SELSTAT_UNDER (g : Nat) : Ref := ⟨GRP_SELSTAT g, 31, 1⟩
def GRP_SELSTAT_FILL (g : Nat) : Ref := ⟨GRP_SELSTAT g, 0, 13⟩
def GRP_NEXTLO_CYC (g : Nat) : Ref := ⟨GRP_NEXTLO g, 0, 32⟩
def GRP_NEXTHI_CYC (g : Nat) : Ref := ⟨GRP_NEXTHI g, 0, 16⟩
def GRP_UNDERLO_CYC (g : Nat) : Ref := ⟨GRP_UNDERLO g, 0, 32⟩
def GRP_UNDERHI_CYC (g : Nat) : Ref := ⟨GRP_UNDERHI g, 0, 16⟩
def GRP_UNDERCNT_COUNT (g : Nat) : Ref := ⟨GRP_UNDERCNT g, 0, 16⟩
def GRP_LATECNT_COUNT (g : Nat) : Ref := ⟨GRP_LATECNT g, 0, 32⟩
def GRP_GAPCNT_COUNT (g : Nat) : Ref := ⟨GRP_GAPCNT g, 0, 16⟩
def GRP_OVLCNT_COUNT (g : Nat) : Ref := ⟨GRP_OVLCNT g, 0, 32⟩
def GRP_SELOVF_COUNT (g : Nat) : Ref := ⟨GRP_SELOVF g, 0, 32⟩
def GRP_SWHOLD_COUNT (g : Nat) : Ref := ⟨GRP_SWHOLD g, 0, 32⟩
def GRP_SELDISC_COUNT (g : Nat) : Ref := ⟨GRP_SELDISC g, 0, 32⟩

/-! Block MSR: addresses, then fields. -/

def TK_CTRL (t : Nat) : Nat := 0x100000 + 0x40 * t
def TK_CFG (t : Nat) : Nat := 0x100004 + 0x40 * t
def TK_COUNT (t : Nat) : Nat := 0x100008 + 0x40 * t
def TK_GATELO (t : Nat) : Nat := 0x10000C + 0x40 * t
def TK_GATEHI (t : Nat) : Nat := 0x100010 + 0x40 * t
def TK_TIMEOUT (t : Nat) : Nat := 0x100014 + 0x40 * t
def TK_STAT (t : Nat) : Nat := 0x100018 + 0x40 * t
def TK_TSTARTLO (t : Nat) : Nat := 0x100020 + 0x40 * t
def TK_TSTARTHI (t : Nat) : Nat := 0x100024 + 0x40 * t
def TK_TSTOPLO (t : Nat) : Nat := 0x100028 + 0x40 * t
def TK_TSTOPHI (t : Nat) : Nat := 0x10002C + 0x40 * t
def TK_EPOCH (t : Nat) : Nat := 0x100030 + 0x40 * t
def DR_CTRL (r : Nat) : Nat := 0x104000 + 0x40 * r
def DR_DBASELO (r : Nat) : Nat := 0x104004 + 0x40 * r
def DR_DBASEHI (r : Nat) : Nat := 0x104008 + 0x40 * r
def DR_SIZE (r : Nat) : Nat := 0x10400C + 0x40 * r
def DR_DTAIL (r : Nat) : Nat := 0x104010 + 0x40 * r
def DR_DHEAD (r : Nat) : Nat := 0x104014 + 0x40 * r
def DR_CBASELO (r : Nat) : Nat := 0x104018 + 0x40 * r
def DR_CBASEHI (r : Nat) : Nat := 0x10401C + 0x40 * r
def DR_CHEAD (r : Nat) : Nat := 0x104020 + 0x40 * r
def DR_CTAIL (r : Nat) : Nat := 0x104024 + 0x40 * r
def DR_STAT (r : Nat) : Nat := 0x104028 + 0x40 * r
def DR_STARVE (r : Nat) : Nat := 0x10402C + 0x40 * r
def IV_CFG (i : Nat) : Nat := 0x105000 + 0x80 * i
def IV_CH (i : Nat) : Nat := 0x105004 + 0x80 * i
def IV_STAT (i : Nat) : Nat := 0x105008 + 0x80 * i
def IV_COUNT (i : Nat) : Nat := 0x10500C + 0x80 * i
def IV_NTAINT (i : Nat) : Nat := 0x105010 + 0x80 * i
def IV_ORPHAN (i : Nat) : Nat := 0x105014 + 0x80 * i
def IV_REARM (i : Nat) : Nat := 0x105018 + 0x80 * i
def IV_UNPAIRED (i : Nat) : Nat := 0x10501C + 0x80 * i
def IV_MINLO (i : Nat) : Nat := 0x105020 + 0x80 * i
def IV_MINHI (i : Nat) : Nat := 0x105024 + 0x80 * i
def IV_MAXLO (i : Nat) : Nat := 0x105028 + 0x80 * i
def IV_MAXHI (i : Nat) : Nat := 0x10502C + 0x80 * i
def IV_MEAN0 (i : Nat) : Nat := 0x105030 + 0x80 * i
def IV_MEAN1 (i : Nat) : Nat := 0x105034 + 0x80 * i
def IV_MEAN2 (i : Nat) : Nat := 0x105038 + 0x80 * i
def IV_SIGLO (i : Nat) : Nat := 0x10503C + 0x80 * i
def IV_SIGHI (i : Nat) : Nat := 0x105040 + 0x80 * i
def IV_FIRSTLO (i : Nat) : Nat := 0x105044 + 0x80 * i
def IV_FIRSTHI (i : Nat) : Nat := 0x105048 + 0x80 * i
def IV_SUM (i : Nat) (w : Nat) : Nat := 0x10504C + 0x80 * i + 0x4 * w
def IV_SQ (i : Nat) (w : Nat) : Nat := 0x105058 + 0x80 * i + 0x4 * w
def IV_FIFOLO (i : Nat) : Nat := 0x105064 + 0x80 * i
def IV_FIFOHI (i : Nat) : Nat := 0x105068 + 0x80 * i
def IV_FIFOSTAT (i : Nat) : Nat := 0x10506C + 0x80 * i
def REG_STAT : Nat := 0x107000
def REG_SEL : Nat := 0x107008
def REG_ACC (s : Nat) (w : Nat) : Nat := 0x107010 + 0x10 * s + 0x4 * w
def RG_CFG (n : Nat) : Nat := 0x108000 + 0x40 * n
def RG_PREFLO (n : Nat) : Nat := 0x108004 + 0x40 * n
def RG_PREFHI (n : Nat) : Nat := 0x108008 + 0x40 * n
def RG_STAT (n : Nat) : Nat := 0x10800C + 0x40 * n
def RG_N (n : Nat) : Nat := 0x108010 + 0x40 * n
def RG_NTAINT (n : Nat) : Nat := 0x108014 + 0x40 * n
def RG_PERLO (n : Nat) : Nat := 0x108018 + 0x40 * n
def RG_PERHI (n : Nat) : Nat := 0x10801C + 0x40 * n
def RG_FREQLO (n : Nat) : Nat := 0x108020 + 0x40 * n
def RG_FREQHI (n : Nat) : Nat := 0x108024 + 0x40 * n
def RG_SIGLO (n : Nat) : Nat := 0x108028 + 0x40 * n
def RG_SIGHI (n : Nat) : Nat := 0x10802C + 0x40 * n
def RG_T0LO (n : Nat) : Nat := 0x108030 + 0x40 * n
def RG_T0HI (n : Nat) : Nat := 0x108034 + 0x40 * n
def RG_PUSEDLO (n : Nat) : Nat := 0x108038 + 0x40 * n
def RG_PUSEDHI (n : Nat) : Nat := 0x10803C + 0x40 * n

def TK_CTRL_ABORT (t : Nat) : Ref := ⟨TK_CTRL t, 1, 1⟩
def TK_CTRL_ARM (t : Nat) : Ref := ⟨TK_CTRL t, 0, 1⟩
def TK_CFG_RESLATE (t : Nat) : Ref := ⟨TK_CFG t, 31, 1⟩
def TK_CFG_GRPEN (t : Nat) : Ref := ⟨TK_CFG t, 30, 1⟩
def TK_CFG_GROUP (t : Nat) : Ref := ⟨TK_CFG t, 24, 6⟩
def TK_CFG_STOPCH (t : Nat) : Ref := ⟨TK_CFG t, 15, 9⟩
def TK_CFG_SCH (t : Nat) : Ref := ⟨TK_CFG t, 6, 9⟩
def TK_CFG_STOP (t : Nat) : Ref := ⟨TK_CFG t, 2, 2⟩
def TK_CFG_START (t : Nat) : Ref := ⟨TK_CFG t, 0, 2⟩
def TK_COUNT_N (t : Nat) : Ref := ⟨TK_COUNT t, 0, 32⟩
def TK_GATELO_CYC (t : Nat) : Ref := ⟨TK_GATELO t, 0, 32⟩
def TK_GATEHI_CYC (t : Nat) : Ref := ⟨TK_GATEHI t, 0, 16⟩
def TK_TIMEOUT_US (t : Nat) : Ref := ⟨TK_TIMEOUT t, 0, 32⟩
def TK_STAT_STATE (t : Nat) : Ref := ⟨TK_STAT t, 28, 4⟩
def TK_STAT_LATESTART (t : Nat) : Ref := ⟨TK_STAT t, 27, 1⟩
def TK_STAT_EPOCHCHG (t : Nat) : Ref := ⟨TK_STAT t, 26, 1⟩
def TK_STAT_TAINT (t : Nat) : Ref := ⟨TK_STAT t, 25, 1⟩
def TK_STAT_CFGREF (t : Nat) : Ref := ⟨TK_STAT t, 24, 1⟩
def TK_STAT_CODE (t : Nat) : Ref := ⟨TK_STAT t, 16, 8⟩
def TK_STAT_NCH (t : Nat) : Ref := ⟨TK_STAT t, 0, 10⟩
def TK_TSTARTLO_T (t : Nat) : Ref := ⟨TK_TSTARTLO t, 0, 32⟩
def TK_TSTARTHI_T (t : Nat) : Ref := ⟨TK_TSTARTHI t, 0, 28⟩
def TK_TSTOPLO_T (t : Nat) : Ref := ⟨TK_TSTOPLO t, 0, 32⟩
def TK_TSTOPHI_T (t : Nat) : Ref := ⟨TK_TSTOPHI t, 0, 28⟩
def TK_EPOCH_EPOCH (t : Nat) : Ref := ⟨TK_EPOCH t, 0, 16⟩
def DR_CTRL_EN (r : Nat) : Ref := ⟨DR_CTRL r, 31, 1⟩
def DR_CTRL_COAL (r : Nat) : Ref := ⟨DR_CTRL r, 16, 8⟩
def DR_CTRL_FLUSHUS (r : Nat) : Ref := ⟨DR_CTRL r, 0, 16⟩
def DR_DBASELO_ADDR (r : Nat) : Ref := ⟨DR_DBASELO r, 0, 32⟩
def DR_DBASEHI_ADDR (r : Nat) : Ref := ⟨DR_DBASEHI r, 0, 32⟩
def DR_SIZE_CLOG (r : Nat) : Ref := ⟨DR_SIZE r, 8, 5⟩
def DR_SIZE_DLOG (r : Nat) : Ref := ⟨DR_SIZE r, 0, 5⟩
def DR_DTAIL_CNT (r : Nat) : Ref := ⟨DR_DTAIL r, 0, 32⟩
def DR_DHEAD_CNT (r : Nat) : Ref := ⟨DR_DHEAD r, 0, 32⟩
def DR_CBASELO_ADDR (r : Nat) : Ref := ⟨DR_CBASELO r, 0, 32⟩
def DR_CBASEHI_ADDR (r : Nat) : Ref := ⟨DR_CBASEHI r, 0, 32⟩
def DR_CHEAD_CNT (r : Nat) : Ref := ⟨DR_CHEAD r, 0, 32⟩
def DR_CTAIL_CNT (r : Nat) : Ref := ⟨DR_CTAIL r, 0, 32⟩
def DR_STAT_BUSY (r : Nat) : Ref := ⟨DR_STAT r, 31, 1⟩
def DR_STAT_DESCERR (r : Nat) : Ref := ⟨DR_STAT r, 30, 1⟩
def DR_STAT_STARVE (r : Nat) : Ref := ⟨DR_STAT r, 29, 1⟩
def DR_STAT_CFULL (r : Nat) : Ref := ⟨DR_STAT r, 28, 1⟩
def DR_STAT_CFGREF (r : Nat) : Ref := ⟨DR_STAT r, 27, 1⟩
def DR_STAT_OPEN (r : Nat) : Ref := ⟨DR_STAT r, 0, 5⟩
def DR_STARVE_COUNT (r : Nat) : Ref := ⟨DR_STARVE r, 0, 32⟩
def IV_CFG_EN (i : Nat) : Ref := ⟨IV_CFG i, 31, 1⟩
def IV_CFG_MODE (i : Nat) : Ref := ⟨IV_CFG i, 29, 2⟩
def IV_CFG_PAIR (i : Nat) : Ref := ⟨IV_CFG i, 28, 1⟩
def IV_CFG_STARTPOL (i : Nat) : Ref := ⟨IV_CFG i, 26, 2⟩
def IV_CFG_STOPPOL (i : Nat) : Ref := ⟨IV_CFG i, 24, 2⟩
def IV_CFG_TAKE (i : Nat) : Ref := ⟨IV_CFG i, 16, 8⟩
def IV_CH_STARTCH (i : Nat) : Ref := ⟨IV_CH i, 16, 9⟩
def IV_CH_STOPCH (i : Nat) : Ref := ⟨IV_CH i, 0, 9⟩
def IV_STAT_RUN (i : Nat) : Ref := ⟨IV_STAT i, 31, 1⟩
def IV_STAT_DONE (i : Nat) : Ref := ⟨IV_STAT i, 30, 1⟩
def IV_STAT_TAINT (i : Nat) : Ref := ⟨IV_STAT i, 29, 1⟩
def IV_STAT_LOST (i : Nat) : Ref := ⟨IV_STAT i, 28, 1⟩
def IV_STAT_NSAT (i : Nat) : Ref := ⟨IV_STAT i, 27, 1⟩
def IV_STAT_WIDE (i : Nat) : Ref := ⟨IV_STAT i, 26, 1⟩
def IV_STAT_FIFOOVF (i : Nat) : Ref := ⟨IV_STAT i, 25, 1⟩
def IV_STAT_CFGREF (i : Nat) : Ref := ⟨IV_STAT i, 24, 1⟩
def IV_STAT_CODE (i : Nat) : Ref := ⟨IV_STAT i, 16, 8⟩
def IV_COUNT_COUNT (i : Nat) : Ref := ⟨IV_COUNT i, 0, 32⟩
def IV_NTAINT_COUNT (i : Nat) : Ref := ⟨IV_NTAINT i, 0, 32⟩
def IV_ORPHAN_COUNT (i : Nat) : Ref := ⟨IV_ORPHAN i, 0, 32⟩
def IV_REARM_COUNT (i : Nat) : Ref := ⟨IV_REARM i, 0, 32⟩
def IV_UNPAIRED_COUNT (i : Nat) : Ref := ⟨IV_UNPAIRED i, 0, 32⟩
def IV_MINLO_X (i : Nat) : Ref := ⟨IV_MINLO i, 0, 32⟩
def IV_MINHI_X (i : Nat) : Ref := ⟨IV_MINHI i, 0, 29⟩
def IV_MAXLO_X (i : Nat) : Ref := ⟨IV_MAXLO i, 0, 32⟩
def IV_MAXHI_X (i : Nat) : Ref := ⟨IV_MAXHI i, 0, 29⟩
def IV_MEAN0_M (i : Nat) : Ref := ⟨IV_MEAN0 i, 0, 32⟩
def IV_MEAN1_M (i : Nat) : Ref := ⟨IV_MEAN1 i, 0, 32⟩
def IV_MEAN2_M (i : Nat) : Ref := ⟨IV_MEAN2 i, 0, 13⟩
def IV_SIGLO_S (i : Nat) : Ref := ⟨IV_SIGLO i, 0, 32⟩
def IV_SIGHI_S (i : Nat) : Ref := ⟨IV_SIGHI i, 0, 16⟩
def IV_FIRSTLO_W (i : Nat) : Ref := ⟨IV_FIRSTLO i, 0, 32⟩
def IV_FIRSTHI_W (i : Nat) : Ref := ⟨IV_FIRSTHI i, 0, 32⟩
def IV_SUM_V (i : Nat) (w : Nat) : Ref := ⟨IV_SUM i w, 0, 32⟩
def IV_SQ_V (i : Nat) (w : Nat) : Ref := ⟨IV_SQ i w, 0, 32⟩
def IV_FIFOLO_W (i : Nat) : Ref := ⟨IV_FIFOLO i, 0, 32⟩
def IV_FIFOHI_W (i : Nat) : Ref := ⟨IV_FIFOHI i, 0, 32⟩
def IV_FIFOSTAT_OVF (i : Nat) : Ref := ⟨IV_FIFOSTAT i, 9, 15⟩
def IV_FIFOSTAT_FILL (i : Nat) : Ref := ⟨IV_FIFOSTAT i, 0, 9⟩
def REG_STAT_BUSY : Ref := ⟨REG_STAT, 31, 1⟩
def REG_STAT_QDEPTH : Ref := ⟨REG_STAT, 0, 10⟩
def REG_SEL_CH : Ref := ⟨REG_SEL, 0, 9⟩
def REG_ACC_V (s : Nat) (w : Nat) : Ref := ⟨REG_ACC s w, 0, 32⟩
def RG_CFG_EN (n : Nat) : Ref := ⟨RG_CFG n, 31, 1⟩
def RG_CFG_DECIM (n : Nat) : Ref := ⟨RG_CFG n, 0, 16⟩
def RG_PREFLO_P (n : Nat) : Ref := ⟨RG_PREFLO n, 0, 32⟩
def RG_PREFHI_P (n : Nat) : Ref := ⟨RG_PREFHI n, 0, 16⟩
def RG_STAT_DONE (n : Nat) : Ref := ⟨RG_STAT n, 31, 1⟩
def RG_STAT_SOLVED (n : Nat) : Ref := ⟨RG_STAT n, 30, 1⟩
def RG_STAT_TAINT (n : Nat) : Ref := ⟨RG_STAT n, 29, 1⟩
def RG_STAT_TBVAR (n : Nat) : Ref := ⟨RG_STAT n, 28, 1⟩
def RG_STAT_LOST (n : Nat) : Ref := ⟨RG_STAT n, 27, 1⟩
def RG_STAT_OVF (n : Nat) : Ref := ⟨RG_STAT n, 26, 1⟩
def RG_STAT_NFULL (n : Nat) : Ref := ⟨RG_STAT n, 25, 1⟩
def RG_STAT_CFGREF (n : Nat) : Ref := ⟨RG_STAT n, 24, 1⟩
def RG_STAT_CODE (n : Nat) : Ref := ⟨RG_STAT n, 16, 8⟩
def RG_N_COUNT (n : Nat) : Ref := ⟨RG_N n, 0, 32⟩
def RG_NTAINT_COUNT (n : Nat) : Ref := ⟨RG_NTAINT n, 0, 32⟩
def RG_PERLO_P (n : Nat) : Ref := ⟨RG_PERLO n, 0, 32⟩
def RG_PERHI_P (n : Nat) : Ref := ⟨RG_PERHI n, 0, 32⟩
def RG_FREQLO_F (n : Nat) : Ref := ⟨RG_FREQLO n, 0, 32⟩
def RG_FREQHI_F (n : Nat) : Ref := ⟨RG_FREQHI n, 0, 32⟩
def RG_SIGLO_S (n : Nat) : Ref := ⟨RG_SIGLO n, 0, 32⟩
def RG_SIGHI_S (n : Nat) : Ref := ⟨RG_SIGHI n, 0, 16⟩
def RG_T0LO_T (n : Nat) : Ref := ⟨RG_T0LO n, 0, 32⟩
def RG_T0HI_T (n : Nat) : Ref := ⟨RG_T0HI n, 0, 28⟩
def RG_PUSEDLO_P (n : Nat) : Ref := ⟨RG_PUSEDLO n, 0, 32⟩
def RG_PUSEDHI_P (n : Nat) : Ref := ⟨RG_PUSEDHI n, 0, 16⟩

/-! Block CAL: addresses, then fields. -/

def CAL_CTRL : Nat := 0x110000
def CAL_REFCFG : Nat := 0x110004
def CAL_REFSTAT : Nat := 0x110008
def CAL_SLEWN : Nat := 0x11000C
def CAL_TOLINL : Nat := 0x110010
def CAL_TOLSKEW : Nat := 0x110014
def CAL_TOLFREQ : Nat := 0x110018
def CAL_FTSTEP : Nat := 0x11001C
def CAL_RUNSTAT : Nat := 0x110020
def CAL_VALID : Nat := 0x110024
def CAL_FOLSTAT : Nat := 0x110028
def CAL_SERA : Nat := 0x11002C
def CAL_SERB : Nat := 0x110030

def CAL_CTRL_LOCK : Ref := ⟨CAL_CTRL, 31, 1⟩
def CAL_CTRL_PREERASE : Ref := ⟨CAL_CTRL, 0, 1⟩
def CAL_REFCFG_EN : Ref := ⟨CAL_REFCFG, 31, 1⟩
def CAL_REFCFG_FREQ : Ref := ⟨CAL_REFCFG, 0, 1⟩
def CAL_REFSTAT_PRESENT : Ref := ⟨CAL_REFSTAT, 31, 1⟩
def CAL_REFSTAT_INWIN : Ref := ⟨CAL_REFSTAT, 30, 1⟩
def CAL_REFSTAT_LOSS : Ref := ⟨CAL_REFSTAT, 29, 1⟩
def CAL_REFSTAT_WINFAIL : Ref := ⟨CAL_REFSTAT, 28, 1⟩
def CAL_REFSTAT_QDEV : Ref := ⟨CAL_REFSTAT, 0, 16⟩
def CAL_SLEWN_N : Ref := ⟨CAL_SLEWN, 0, 16⟩
def CAL_TOLINL_FS : Ref := ⟨CAL_TOLINL, 0, 16⟩
def CAL_TOLSKEW_FS : Ref := ⟨CAL_TOLSKEW, 0, 16⟩
def CAL_TOLFREQ_PPB : Ref := ⟨CAL_TOLFREQ, 0, 16⟩
def CAL_FTSTEP_UNITS : Ref := ⟨CAL_FTSTEP, 0, 32⟩
def CAL_RUNSTAT_STATE : Ref := ⟨CAL_RUNSTAT, 28, 4⟩
def CAL_RUNSTAT_FAMILY : Ref := ⟨CAL_RUNSTAT, 24, 4⟩
def CAL_RUNSTAT_CODE : Ref := ⟨CAL_RUNSTAT, 16, 8⟩
def CAL_RUNSTAT_NDIS : Ref := ⟨CAL_RUNSTAT, 0, 16⟩
def CAL_VALID_LINK : Ref := ⟨CAL_VALID, 4, 4⟩
def CAL_VALID_FREQ : Ref := ⟨CAL_VALID, 0, 4⟩
def CAL_FOLSTAT_AVALID : Ref := ⟨CAL_FOLSTAT, 31, 1⟩
def CAL_FOLSTAT_BVALID : Ref := ⟨CAL_FOLSTAT, 30, 1⟩
def CAL_FOLSTAT_INUSE : Ref := ⟨CAL_FOLSTAT, 29, 1⟩
def CAL_FOLSTAT_ERASED : Ref := ⟨CAL_FOLSTAT, 28, 1⟩
def CAL_FOLSTAT_NONE : Ref := ⟨CAL_FOLSTAT, 27, 1⟩
def CAL_SERA_SERIAL : Ref := ⟨CAL_SERA, 0, 32⟩
def CAL_SERB_SERIAL : Ref := ⟨CAL_SERB, 0, 32⟩

/-! Block PRL: addresses, then fields. -/

def PRL_CTRL (p : Nat) : Nat := 0x120000 + 0x1000 * p
def PRL_STAT (p : Nat) : Nat := 0x120004 + 0x1000 * p
def PRL_FLAGS (p : Nat) : Nat := 0x120008 + 0x1000 * p
def PRL_IRQEN (p : Nat) : Nat := 0x12000C + 0x1000 * p
def PRL_PRESET (p : Nat) : Nat := 0x120010 + 0x1000 * p
def PRL_CRCERR (p : Nat) : Nat := 0x120014 + 0x1000 * p
def PRL_RETRYCNT (p : Nat) : Nat := 0x120018 + 0x1000 * p
def PRL_NPROBE (p : Nat) : Nat := 0x12001C + 0x1000 * p
def PRL_RTT (p : Nat) : Nat := 0x120020 + 0x1000 * p
def PRL_THCLO (p : Nat) : Nat := 0x120024 + 0x1000 * p
def PRL_THCHI (p : Nat) : Nat := 0x120028 + 0x1000 * p
def PRL_THFINE (p : Nat) : Nat := 0x12002C + 0x1000 * p
def PRL_THSIG (p : Nat) : Nat := 0x120030 + 0x1000 * p
def PRL_ASYM (p : Nat) : Nat := 0x120034 + 0x1000 * p
def PRL_BDID : Nat := 0x128000
def PRL_ENUM : Nat := 0x128004
def PRL_TREE : Nat := 0x128008
def PRL_MAP : Nat := 0x12800C
def PRL_CLAPLEAD : Nat := 0x128010
def PRL_CLAPCNT : Nat := 0x128014
def PRL_CLAPLO : Nat := 0x128018
def PRL_CLAPHI : Nat := 0x12801C
def PRL_ALIGN (n : Nat) : Nat := 0x128040 + 0x10 * n
def PRL_TBADJ (n : Nat) : Nat := 0x128044 + 0x10 * n
def PRL_ALRES (n : Nat) : Nat := 0x128048 + 0x10 * n

def PRL_CTRL_LOCK (p : Nat) : Ref := ⟨PRL_CTRL p, 31, 1⟩
def PRL_CTRL_ROOT (p : Nat) : Ref := ⟨PRL_CTRL p, 4, 2⟩
def PRL_CTRL_PROBE (p : Nat) : Ref := ⟨PRL_CTRL p, 3, 1⟩
def PRL_CTRL_RETRAIN (p : Nat) : Ref := ⟨PRL_CTRL p, 2, 1⟩
def PRL_CTRL_EN (p : Nat) : Ref := ⟨PRL_CTRL p, 0, 1⟩
def PRL_STAT_LSTATE (p : Nat) : Ref := ⟨PRL_STAT p, 24, 4⟩
def PRL_STAT_IDENT (p : Nat) : Ref := ⟨PRL_STAT p, 23, 1⟩
def PRL_STAT_PEERID (p : Nat) : Ref := ⟨PRL_STAT p, 16, 4⟩
def PRL_STAT_PEERPORT (p : Nat) : Ref := ⟨PRL_STAT p, 14, 2⟩
def PRL_STAT_LANELOCK (p : Nat) : Ref := ⟨PRL_STAT p, 8, 2⟩
def PRL_STAT_RXSEQ (p : Nat) : Ref := ⟨PRL_STAT p, 0, 8⟩
def PRL_FLAGS_PROBEFAIL (p : Nat) : Ref := ⟨PRL_FLAGS p, 6, 1⟩
def PRL_FLAGS_WIRING (p : Nat) : Ref := ⟨PRL_FLAGS p, 5, 1⟩
def PRL_FLAGS_EQFAIL (p : Nat) : Ref := ⟨PRL_FLAGS p, 4, 1⟩
def PRL_FLAGS_RECOVER (p : Nat) : Ref := ⟨PRL_FLAGS p, 3, 1⟩
def PRL_FLAGS_LINKFAIL (p : Nat) : Ref := ⟨PRL_FLAGS p, 2, 1⟩
def PRL_FLAGS_RETRY (p : Nat) : Ref := ⟨PRL_FLAGS p, 1, 1⟩
def PRL_FLAGS_CRC (p : Nat) : Ref := ⟨PRL_FLAGS p, 0, 1⟩
def PRL_IRQEN_PROBEFAIL (p : Nat) : Ref := ⟨PRL_IRQEN p, 6, 1⟩
def PRL_IRQEN_WIRING (p : Nat) : Ref := ⟨PRL_IRQEN p, 5, 1⟩
def PRL_IRQEN_EQFAIL (p : Nat) : Ref := ⟨PRL_IRQEN p, 4, 1⟩
def PRL_IRQEN_RECOVER (p : Nat) : Ref := ⟨PRL_IRQEN p, 3, 1⟩
def PRL_IRQEN_LINKFAIL (p : Nat) : Ref := ⟨PRL_IRQEN p, 2, 1⟩
def PRL_IRQEN_RETRY (p : Nat) : Ref := ⟨PRL_IRQEN p, 1, 1⟩
def PRL_IRQEN_CRC (p : Nat) : Ref := ⟨PRL_IRQEN p, 0, 1⟩
def PRL_PRESET_TXPRE (p : Nat) : Ref := ⟨PRL_PRESET p, 0, 4⟩
def PRL_CRCERR_COUNT (p : Nat) : Ref := ⟨PRL_CRCERR p, 0, 32⟩
def PRL_RETRYCNT_COUNT (p : Nat) : Ref := ⟨PRL_RETRYCNT p, 0, 32⟩
def PRL_NPROBE_N (p : Nat) : Ref := ⟨PRL_NPROBE p, 0, 16⟩
def PRL_RTT_RTT (p : Nat) : Ref := ⟨PRL_RTT p, 0, 32⟩
def PRL_THCLO_C (p : Nat) : Ref := ⟨PRL_THCLO p, 0, 32⟩
def PRL_THCHI_C (p : Nat) : Ref := ⟨PRL_THCHI p, 0, 16⟩
def PRL_THFINE_F (p : Nat) : Ref := ⟨PRL_THFINE p, 0, 32⟩
def PRL_THSIG_S (p : Nat) : Ref := ⟨PRL_THSIG p, 0, 32⟩
def PRL_ASYM_ASYM (p : Nat) : Ref := ⟨PRL_ASYM p, 0, 32⟩
def PRL_BDID_ID : Ref := ⟨PRL_BDID, 0, 4⟩
def PRL_ENUM_STATE : Ref := ⟨PRL_ENUM, 28, 4⟩
def PRL_ENUM_TOPO : Ref := ⟨PRL_ENUM, 24, 4⟩
def PRL_ENUM_CODE : Ref := ⟨PRL_ENUM, 16, 8⟩
def PRL_ENUM_NDEV : Ref := ⟨PRL_ENUM, 0, 5⟩
def PRL_TREE_MASTER : Ref := ⟨PRL_TREE, 8, 1⟩
def PRL_TREE_DEPTH : Ref := ⟨PRL_TREE, 4, 4⟩
def PRL_TREE_PARENT : Ref := ⟨PRL_TREE, 0, 2⟩
def PRL_MAP_PRESENT : Ref := ⟨PRL_MAP, 0, 16⟩
def PRL_CLAPLEAD_CYC : Ref := ⟨PRL_CLAPLEAD, 0, 24⟩
def PRL_CLAPCNT_COUNT : Ref := ⟨PRL_CLAPCNT, 0, 16⟩
def PRL_CLAPLO_T : Ref := ⟨PRL_CLAPLO, 0, 32⟩
def PRL_CLAPHI_ROOT : Ref := ⟨PRL_CLAPHI, 16, 2⟩
def PRL_CLAPHI_T : Ref := ⟨PRL_CLAPHI, 0, 16⟩
def PRL_ALIGN_ALIGNED (n : Nat) : Ref := ⟨PRL_ALIGN n, 31, 1⟩
def PRL_ALIGN_ALIGNING (n : Nat) : Ref := ⟨PRL_ALIGN n, 30, 1⟩
def PRL_ALIGN_TRACK (n : Nat) : Ref := ⟨PRL_ALIGN n, 29, 1⟩
def PRL_ALIGN_ADJREF (n : Nat) : Ref := ⟨PRL_ALIGN n, 27, 1⟩
def PRL_ALIGN_WHY (n : Nat) : Ref := ⟨PRL_ALIGN n, 20, 4⟩
def PRL_ALIGN_ALCNT (n : Nat) : Ref := ⟨PRL_ALIGN n, 0, 16⟩
def PRL_TBADJ_CYC (n : Nat) : Ref := ⟨PRL_TBADJ n, 0, 32⟩
def PRL_ALRES_RES (n : Nat) : Ref := ⟨PRL_ALRES n, 0, 32⟩

/-! Block SPT: addresses, then fields. -/

def SPT_CTRL (p : Nat) : Nat := 0x130000 + 0x400 * p
def SPT_TIMING (p : Nat) : Nat := 0x130004 + 0x400 * p
def SPT_MCMD (p : Nat) : Nat := 0x130008 + 0x400 * p
def SPT_STAT (p : Nat) : Nat := 0x13000C + 0x400 * p
def SPT_FLAGS (p : Nat) : Nat := 0x130010 + 0x400 * p
def SPT_TXDATA (p : Nat) : Nat := 0x130014 + 0x400 * p
def SPT_RXDATA (p : Nat) : Nat := 0x130018 + 0x400 * p
def SPT_EXTRACNT (p : Nat) : Nat := 0x13001C + 0x400 * p
def SPT_PARTCNT (p : Nat) : Nat := 0x130020 + 0x400 * p
def SPT_STALLCNT (p : Nat) : Nat := 0x130024 + 0x400 * p
def SPT_SFRAMES (p : Nat) : Nat := 0x130028 + 0x400 * p
def SPT0_XIPCFG : Nat := 0x130040
def SPT0_XIPSTAT : Nat := 0x130044
def SPT_BMIN (p : Nat) (i : Nat) : Nat := 0x130100 + 0x400 * p + 0x4 * i
def SPT_BMOUT (p : Nat) (i : Nat) : Nat := 0x130140 + 0x400 * p + 0x4 * i

def SPT_CTRL_LOCK (p : Nat) : Ref := ⟨SPT_CTRL p, 31, 1⟩
def SPT_CTRL_HOSTOWN (p : Nat) : Ref := ⟨SPT_CTRL p, 16, 1⟩
def SPT_CTRL_SCKDIV (p : Nat) : Ref := ⟨SPT_CTRL p, 8, 8⟩
def SPT_CTRL_LSBF (p : Nat) : Ref := ⟨SPT_CTRL p, 7, 1⟩
def SPT_CTRL_CPHA (p : Nat) : Ref := ⟨SPT_CTRL p, 6, 1⟩
def SPT_CTRL_CPOL (p : Nat) : Ref := ⟨SPT_CTRL p, 5, 1⟩
def SPT_CTRL_MMDET (p : Nat) : Ref := ⟨SPT_CTRL p, 4, 1⟩
def SPT_CTRL_ROLE (p : Nat) : Ref := ⟨SPT_CTRL p, 1, 1⟩
def SPT_CTRL_EN (p : Nat) : Ref := ⟨SPT_CTRL p, 0, 1⟩
def SPT_TIMING_IDLE (p : Nat) : Ref := ⟨SPT_TIMING p, 24, 8⟩
def SPT_TIMING_LAG (p : Nat) : Ref := ⟨SPT_TIMING p, 16, 8⟩
def SPT_TIMING_LEAD (p : Nat) : Ref := ⟨SPT_TIMING p, 8, 8⟩
def SPT_TIMING_SETUP (p : Nat) : Ref := ⟨SPT_TIMING p, 0, 8⟩
def SPT_MCMD_GO (p : Nat) : Ref := ⟨SPT_MCMD p, 31, 1⟩
def SPT_MCMD_RXEN (p : Nat) : Ref := ⟨SPT_MCMD p, 30, 1⟩
def SPT_MCMD_LENM1 (p : Nat) : Ref := ⟨SPT_MCMD p, 20, 5⟩
def SPT_MCMD_SSEL (p : Nat) : Ref := ⟨SPT_MCMD p, 16, 4⟩
def SPT_MCMD_NUNITS (p : Nat) : Ref := ⟨SPT_MCMD p, 0, 12⟩
def SPT_STAT_BUSY (p : Nat) : Ref := ⟨SPT_STAT p, 31, 1⟩
def SPT_STAT_STALL (p : Nat) : Ref := ⟨SPT_STAT p, 30, 1⟩
def SPT_STAT_SLVSEL (p : Nat) : Ref := ⟨SPT_STAT p, 29, 1⟩
def SPT_STAT_TXFILL (p : Nat) : Ref := ⟨SPT_STAT p, 24, 5⟩
def SPT_STAT_RXFILL (p : Nat) : Ref := ⟨SPT_STAT p, 16, 5⟩
def SPT_STAT_SSELACT (p : Nat) : Ref := ⟨SPT_STAT p, 12, 4⟩
def SPT_STAT_UNITS (p : Nat) : Ref := ⟨SPT_STAT p, 0, 12⟩
def SPT_FLAGS_BMIN (p : Nat) : Ref := ⟨SPT_FLAGS p, 8, 1⟩
def SPT_FLAGS_TXOVF (p : Nat) : Ref := ⟨SPT_FLAGS p, 7, 1⟩
def SPT_FLAGS_XIPRANGE (p : Nat) : Ref := ⟨SPT_FLAGS p, 6, 1⟩
def SPT_FLAGS_WREF (p : Nat) : Ref := ⟨SPT_FLAGS p, 5, 1⟩
def SPT_FLAGS_CFGREF (p : Nat) : Ref := ⟨SPT_FLAGS p, 4, 1⟩
def SPT_FLAGS_MASTER_FAULT (p : Nat) : Ref := ⟨SPT_FLAGS p, 3, 1⟩
def SPT_FLAGS_OVERRUN (p : Nat) : Ref := ⟨SPT_FLAGS p, 2, 1⟩
def SPT_FLAGS_PARTIAL (p : Nat) : Ref := ⟨SPT_FLAGS p, 1, 1⟩
def SPT_FLAGS_DONE (p : Nat) : Ref := ⟨SPT_FLAGS p, 0, 1⟩
def SPT_TXDATA_DATA (p : Nat) : Ref := ⟨SPT_TXDATA p, 0, 32⟩
def SPT_RXDATA_DATA (p : Nat) : Ref := ⟨SPT_RXDATA p, 0, 32⟩
def SPT_EXTRACNT_COUNT (p : Nat) : Ref := ⟨SPT_EXTRACNT p, 0, 32⟩
def SPT_PARTCNT_COUNT (p : Nat) : Ref := ⟨SPT_PARTCNT p, 0, 16⟩
def SPT_STALLCNT_COUNT (p : Nat) : Ref := ⟨SPT_STALLCNT p, 0, 32⟩
def SPT_SFRAMES_COUNT (p : Nat) : Ref := ⟨SPT_SFRAMES p, 0, 32⟩
def SPT0_XIPCFG_EN : Ref := ⟨SPT0_XIPCFG, 31, 1⟩
def SPT0_XIPCFG_ADDR4 : Ref := ⟨SPT0_XIPCFG, 30, 1⟩
def SPT0_XIPCFG_XIPSEL : Ref := ⟨SPT0_XIPCFG, 0, 4⟩
def SPT0_XIPSTAT_FETCHES : Ref := ⟨SPT0_XIPSTAT, 0, 32⟩
def SPT_BMIN_MSG (p : Nat) (i : Nat) : Ref := ⟨SPT_BMIN p i, 0, 32⟩
def SPT_BMOUT_MSG (p : Nat) (i : Nat) : Ref := ⟨SPT_BMOUT p i, 0, 32⟩

/-! Block PMB: addresses, then fields. -/

def PMB_CTRL : Nat := 0x140000
def PMB_STAT : Nat := 0x140004
def PMB_FLAGS : Nat := 0x140008
def PMB_IRQEN : Nat := 0x14000C
def PMB_AVSCTRL : Nat := 0x140010
def PMB_AVSBND : Nat := 0x140014
def PMB_AVSMARG : Nat := 0x140018
def PMB_AVSOUT : Nat := 0x14001C
def PMB_AVSCONF : Nat := 0x140020
def PMBR_CFG (r : Nat) : Nat := 0x140100 + 0x10 * r
def PMBR_STAT (r : Nat) : Nat := 0x140104 + 0x10 * r
def PMBR_VOUT (r : Nat) : Nat := 0x140108 + 0x10 * r
def PMBR_ERRCNT (r : Nat) : Nat := 0x14010C + 0x10 * r

def PMB_CTRL_LOCK : Ref := ⟨PMB_CTRL, 31, 1⟩
def PMB_CTRL_POLLMS : Ref := ⟨PMB_CTRL, 16, 8⟩
def PMB_CTRL_SPEED : Ref := ⟨PMB_CTRL, 8, 1⟩
def PMB_CTRL_EN : Ref := ⟨PMB_CTRL, 0, 1⟩
def PMB_STAT_BUSY : Ref := ⟨PMB_STAT, 31, 1⟩
def PMB_STAT_ALERT : Ref := ⟨PMB_STAT, 30, 1⟩
def PMB_STAT_PRESENT : Ref := ⟨PMB_STAT, 0, 8⟩
def PMB_FLAGS_AVSREF : Ref := ⟨PMB_FLAGS, 4, 1⟩
def PMB_FLAGS_BNDREF : Ref := ⟨PMB_FLAGS, 3, 1⟩
def PMB_FLAGS_CONFLICT : Ref := ⟨PMB_FLAGS, 2, 1⟩
def PMB_FLAGS_NORESP : Ref := ⟨PMB_FLAGS, 1, 1⟩
def PMB_FLAGS_FAULT : Ref := ⟨PMB_FLAGS, 0, 1⟩
def PMB_IRQEN_AVSREF : Ref := ⟨PMB_IRQEN, 4, 1⟩
def PMB_IRQEN_BNDREF : Ref := ⟨PMB_IRQEN, 3, 1⟩
def PMB_IRQEN_CONFLICT : Ref := ⟨PMB_IRQEN, 2, 1⟩
def PMB_IRQEN_NORESP : Ref := ⟨PMB_IRQEN, 1, 1⟩
def PMB_IRQEN_FAULT : Ref := ⟨PMB_IRQEN, 0, 1⟩
def PMB_AVSCTRL_EN : Ref := ⟨PMB_AVSCTRL, 31, 1⟩
def PMB_AVSCTRL_UP : Ref := ⟨PMB_AVSCTRL, 16, 8⟩
def PMB_AVSCTRL_DN : Ref := ⟨PMB_AVSCTRL, 8, 8⟩
def PMB_AVSBND_VHI : Ref := ⟨PMB_AVSBND, 16, 16⟩
def PMB_AVSBND_VLO : Ref := ⟨PMB_AVSBND, 0, 16⟩
def PMB_AVSMARG_MCRIT : Ref := ⟨PMB_AVSMARG, 16, 6⟩
def PMB_AVSMARG_MHI : Ref := ⟨PMB_AVSMARG, 8, 6⟩
def PMB_AVSMARG_MLO : Ref := ⟨PMB_AVSMARG, 0, 6⟩
def PMB_AVSOUT_VSET : Ref := ⟨PMB_AVSOUT, 16, 16⟩
def PMB_AVSOUT_MARGIN : Ref := ⟨PMB_AVSOUT, 0, 6⟩
def PMB_AVSCONF_COUNT : Ref := ⟨PMB_AVSCONF, 0, 32⟩
def PMBR_CFG_VALID (r : Nat) : Ref := ⟨PMBR_CFG r, 31, 1⟩
def PMBR_CFG_RAIL (r : Nat) : Ref := ⟨PMBR_CFG r, 8, 3⟩
def PMBR_CFG_PEC (r : Nat) : Ref := ⟨PMBR_CFG r, 7, 1⟩
def PMBR_CFG_ADDR (r : Nat) : Ref := ⟨PMBR_CFG r, 0, 7⟩
def PMBR_STAT_PRESENT (r : Nat) : Ref := ⟨PMBR_STAT r, 31, 1⟩
def PMBR_STAT_NORESP (r : Nat) : Ref := ⟨PMBR_STAT r, 30, 1⟩
def PMBR_STAT_MODEBAD (r : Nat) : Ref := ⟨PMBR_STAT r, 29, 1⟩
def PMBR_STAT_EXP (r : Nat) : Ref := ⟨PMBR_STAT r, 24, 5⟩
def PMBR_STAT_STATUS (r : Nat) : Ref := ⟨PMBR_STAT r, 0, 16⟩
def PMBR_VOUT_VOUT (r : Nat) : Ref := ⟨PMBR_VOUT r, 0, 16⟩
def PMBR_ERRCNT_COUNT (r : Nat) : Ref := ⟨PMBR_ERRCNT r, 0, 16⟩

/-! Block CH: addresses, then fields. -/

def CH_CTRL (n : Nat) : Nat := 0x200000 + 0x1000 * n
def CH_STAT (n : Nat) : Nat := 0x200004 + 0x1000 * n
def CH_FLAGS (n : Nat) : Nat := 0x200008 + 0x1000 * n
def CH_IRQEN (n : Nat) : Nat := 0x20000C + 0x1000 * n
def CH_MINSP (n : Nat) : Nat := 0x200010 + 0x1000 * n
def CH_COLLIDE (n : Nat) : Nat := 0x200014 + 0x1000 * n
def CH_EPUSH (n : Nat) : Nat := 0x200018 + 0x1000 * n
def CH_CLIPCNT (n : Nat) : Nat := 0x20001C + 0x1000 * n
def CH_PARKDISC (n : Nat) : Nat := 0x200020 + 0x1000 * n
def CH_BENTLO (n : Nat) : Nat := 0x200024 + 0x1000 * n
def CH_BENTHI (n : Nat) : Nat := 0x200028 + 0x1000 * n
def CH_CYCLO (n : Nat) : Nat := 0x200030 + 0x1000 * n
def CH_CYCHI (n : Nat) : Nat := 0x200034 + 0x1000 * n
def CH_SACC0 (n : Nat) : Nat := 0x200038 + 0x1000 * n
def CH_SACC1 (n : Nat) : Nat := 0x20003C + 0x1000 * n
def CH_SACC2 (n : Nat) : Nat := 0x200040 + 0x1000 * n
def CH_DESKEW (n : Nat) : Nat := 0x200044 + 0x1000 * n
def CH_DSKACT (n : Nat) : Nat := 0x200048 + 0x1000 * n
def CH_DSKCTRL (n : Nat) : Nat := 0x20004C + 0x1000 * n
def CH_PMCTRL (n : Nat) : Nat := 0x200050 + 0x1000 * n
def CH_PMSTARTLO (n : Nat) : Nat := 0x200054 + 0x1000 * n
def CH_PMSTARTHI (n : Nat) : Nat := 0x200058 + 0x1000 * n
def CH_PMDPLO (n : Nat) : Nat := 0x20005C + 0x1000 * n
def CH_PMDPHI (n : Nat) : Nat := 0x200060 + 0x1000 * n
def CH_PMRCNT (n : Nat) : Nat := 0x200064 + 0x1000 * n
def CH_PMSSDEV (n : Nat) : Nat := 0x200068 + 0x1000 * n
def CH_PMSSQ (n : Nat) : Nat := 0x20006C + 0x1000 * n
def CH_PMRLO (n : Nat) : Nat := 0x200070 + 0x1000 * n
def CH_PMRHI (n : Nat) : Nat := 0x200074 + 0x1000 * n
def CH_PMSTAT (n : Nat) : Nat := 0x200078 + 0x1000 * n
def CH_GRP (n : Nat) : Nat := 0x200100 + 0x1000 * n
def CH_LVOID (n : Nat) : Nat := 0x200104 + 0x1000 * n
def CH_SVOID (n : Nat) : Nat := 0x200108 + 0x1000 * n
def CH_SPEND (n : Nat) : Nat := 0x20010C + 0x1000 * n
def CH_SLOTIDX (n : Nat) : Nat := 0x200110 + 0x1000 * n
def CH_SLOTINFO (n : Nat) : Nat := 0x200114 + 0x1000 * n
def CH_ECCCE (n : Nat) : Nat := 0x200118 + 0x1000 * n
def CH_CFLAGS (n : Nat) : Nat := 0x20011C + 0x1000 * n
def CH_CIRQEN (n : Nat) : Nat := 0x200120 + 0x1000 * n
def CH_EVCFG (n : Nat) : Nat := 0x200200 + 0x1000 * n
def CH_SEPMIN (n : Nat) : Nat := 0x200204 + 0x1000 * n
def CH_TAKE (n : Nat) : Nat := 0x200208 + 0x1000 * n
def CH_EVSTAT (n : Nat) : Nat := 0x20020C + 0x1000 * n
def CH_EFLAGS (n : Nat) : Nat := 0x200210 + 0x1000 * n
def CH_EIRQEN (n : Nat) : Nat := 0x200214 + 0x1000 * n
def CH_LOSTSEP (n : Nat) : Nat := 0x200218 + 0x1000 * n
def CH_LOSTHOLD (n : Nat) : Nat := 0x20021C + 0x1000 * n
def CH_STAMPCNT (n : Nat) : Nat := 0x200220 + 0x1000 * n
def CH_PREFAIL (n : Nat) : Nat := 0x200224 + 0x1000 * n
def CH_SLGAIN (n : Nat) (s : Nat) : Nat := 0x200230 + 0x1000 * n + 0x8 * s
def CH_SLOFF (n : Nat) (s : Nat) : Nat := 0x200234 + 0x1000 * n + 0x8 * s
def CH_RCFG (n : Nat) : Nat := 0x200240 + 0x1000 * n
def CH_RHEAD (n : Nat) : Nat := 0x200244 + 0x1000 * n
def CH_RTAIL (n : Nat) : Nat := 0x200248 + 0x1000 * n
def CH_RWRAPCNT (n : Nat) : Nat := 0x20024C + 0x1000 * n
def CH_RDROPCNT (n : Nat) : Nat := 0x200250 + 0x1000 * n
def CH_RCTRL (n : Nat) : Nat := 0x200254 + 0x1000 * n
def CH_CALCTRL (n : Nat) : Nat := 0x200800 + 0x1000 * n
def CH_CALSTAT (n : Nat) : Nat := 0x200804 + 0x1000 * n
def CH_CALFLAGS (n : Nat) : Nat := 0x200808 + 0x1000 * n
def CH_EVSKEW (n : Nat) : Nat := 0x20080C + 0x1000 * n
def CH_EVSKACT (n : Nat) : Nat := 0x200810 + 0x1000 * n
def CH_CALCTX (n : Nat) (w : Nat) : Nat := 0x200820 + 0x1000 * n + 0x4 * w
def CH_SINL0 (n : Nat) (i : Nat) : Nat := 0x200900 + 0x1000 * n + 0x4 * i
def CH_SINL1 (n : Nat) (i : Nat) : Nat := 0x200980 + 0x1000 * n + 0x4 * i
def CH_DINLT (n : Nat) (i : Nat) : Nat := 0x200A00 + 0x1000 * n + 0x4 * i
def CH_DINLA (n : Nat) (i : Nat) : Nat := 0x200A80 + 0x1000 * n + 0x4 * i

def CH_CTRL_LOCK (n : Nat) : Ref := ⟨CH_CTRL n, 31, 1⟩
def CH_CTRL_CLROVR (n : Nat) : Ref := ⟨CH_CTRL n, 2, 1⟩
def CH_CTRL_PARK (n : Nat) : Ref := ⟨CH_CTRL n, 0, 1⟩
def CH_STAT_SLOT (n : Nat) : Ref := ⟨CH_STAT n, 27, 5⟩
def CH_STAT_PARKED (n : Nat) : Ref := ⟨CH_STAT n, 15, 1⟩
def CH_STAT_PCAUSE (n : Nat) : Ref := ⟨CH_STAT n, 8, 7⟩
def CH_STAT_DSKBUSY (n : Nat) : Ref := ⟨CH_STAT n, 3, 1⟩
def CH_STAT_CTE (n : Nat) : Ref := ⟨CH_STAT n, 2, 1⟩
def CH_STAT_DTE (n : Nat) : Ref := ⟨CH_STAT n, 1, 1⟩
def CH_STAT_ETE (n : Nat) : Ref := ⟨CH_STAT n, 0, 1⟩
def CH_FLAGS_STEP2SLEW (n : Nat) : Ref := ⟨CH_FLAGS n, 7, 1⟩
def CH_FLAGS_PMLATE (n : Nat) : Ref := ⟨CH_FLAGS n, 6, 1⟩
def CH_FLAGS_PMCLAMP (n : Nat) : Ref := ⟨CH_FLAGS n, 5, 1⟩
def CH_FLAGS_PERCLAMP (n : Nat) : Ref := ⟨CH_FLAGS n, 4, 1⟩
def CH_FLAGS_ENGOVR (n : Nat) : Ref := ⟨CH_FLAGS n, 3, 1⟩
def CH_FLAGS_EPUSH (n : Nat) : Ref := ⟨CH_FLAGS n, 2, 1⟩
def CH_FLAGS_CLIP (n : Nat) : Ref := ⟨CH_FLAGS n, 1, 1⟩
def CH_FLAGS_COLLIDE (n : Nat) : Ref := ⟨CH_FLAGS n, 0, 1⟩
def CH_IRQEN_STEP2SLEW (n : Nat) : Ref := ⟨CH_IRQEN n, 7, 1⟩
def CH_IRQEN_PMLATE (n : Nat) : Ref := ⟨CH_IRQEN n, 6, 1⟩
def CH_IRQEN_PMCLAMP (n : Nat) : Ref := ⟨CH_IRQEN n, 5, 1⟩
def CH_IRQEN_PERCLAMP (n : Nat) : Ref := ⟨CH_IRQEN n, 4, 1⟩
def CH_IRQEN_ENGOVR (n : Nat) : Ref := ⟨CH_IRQEN n, 3, 1⟩
def CH_IRQEN_EPUSH (n : Nat) : Ref := ⟨CH_IRQEN n, 2, 1⟩
def CH_IRQEN_CLIP (n : Nat) : Ref := ⟨CH_IRQEN n, 1, 1⟩
def CH_IRQEN_COLLIDE (n : Nat) : Ref := ⟨CH_IRQEN n, 0, 1⟩
def CH_MINSP_TICKS (n : Nat) : Ref := ⟨CH_MINSP n, 0, 16⟩
def CH_COLLIDE_COUNT (n : Nat) : Ref := ⟨CH_COLLIDE n, 0, 32⟩
def CH_EPUSH_COUNT (n : Nat) : Ref := ⟨CH_EPUSH n, 0, 32⟩
def CH_CLIPCNT_LATE (n : Nat) : Ref := ⟨CH_CLIPCNT n, 16, 16⟩
def CH_CLIPCNT_EARLY (n : Nat) : Ref := ⟨CH_CLIPCNT n, 0, 16⟩
def CH_PARKDISC_COUNT (n : Nat) : Ref := ⟨CH_PARKDISC n, 0, 32⟩
def CH_BENTLO_CYC (n : Nat) : Ref := ⟨CH_BENTLO n, 0, 32⟩
def CH_BENTHI_CYC (n : Nat) : Ref := ⟨CH_BENTHI n, 0, 16⟩
def CH_CYCLO_CYC (n : Nat) : Ref := ⟨CH_CYCLO n, 0, 32⟩
def CH_CYCHI_CYC (n : Nat) : Ref := ⟨CH_CYCHI n, 0, 16⟩
def CH_SACC0_ACC (n : Nat) : Ref := ⟨CH_SACC0 n, 0, 32⟩
def CH_SACC1_ACC (n : Nat) : Ref := ⟨CH_SACC1 n, 0, 32⟩
def CH_SACC2_ACC (n : Nat) : Ref := ⟨CH_SACC2 n, 0, 12⟩
def CH_DESKEW_TARGET (n : Nat) : Ref := ⟨CH_DESKEW n, 0, 18⟩
def CH_DSKACT_ACT (n : Nat) : Ref := ⟨CH_DSKACT n, 0, 18⟩
def CH_DSKCTRL_MODE (n : Nat) : Ref := ⟨CH_DSKCTRL n, 31, 1⟩
def CH_DSKCTRL_N (n : Nat) : Ref := ⟨CH_DSKCTRL n, 0, 16⟩
def CH_PMCTRL_GO (n : Nat) : Ref := ⟨CH_PMCTRL n, 31, 1⟩
def CH_PMCTRL_RCLR (n : Nat) : Ref := ⟨CH_PMCTRL n, 3, 1⟩
def CH_PMCTRL_CENTRE (n : Nat) : Ref := ⟨CH_PMCTRL n, 2, 1⟩
def CH_PMCTRL_SSEN (n : Nat) : Ref := ⟨CH_PMCTRL n, 1, 1⟩
def CH_PMCTRL_RAMPEN (n : Nat) : Ref := ⟨CH_PMCTRL n, 0, 1⟩
def CH_PMSTARTLO_CYC (n : Nat) : Ref := ⟨CH_PMSTARTLO n, 0, 32⟩
def CH_PMSTARTHI_CYC (n : Nat) : Ref := ⟨CH_PMSTARTHI n, 0, 16⟩
def CH_PMDPLO_FRAC (n : Nat) : Ref := ⟨CH_PMDPLO n, 0, 32⟩
def CH_PMDPHI_INT (n : Nat) : Ref := ⟨CH_PMDPHI n, 0, 16⟩
def CH_PMRCNT_CYC (n : Nat) : Ref := ⟨CH_PMRCNT n, 0, 32⟩
def CH_PMSSDEV_PPM (n : Nat) : Ref := ⟨CH_PMSSDEV n, 0, 13⟩
def CH_PMSSQ_Q (n : Nat) : Ref := ⟨CH_PMSSQ n, 0, 24⟩
def CH_PMRLO_FRAC (n : Nat) : Ref := ⟨CH_PMRLO n, 0, 32⟩
def CH_PMRHI_INT (n : Nat) : Ref := ⟨CH_PMRHI n, 0, 32⟩
def CH_PMSTAT_ARMED (n : Nat) : Ref := ⟨CH_PMSTAT n, 31, 1⟩
def CH_PMSTAT_RAMPRUN (n : Nat) : Ref := ⟨CH_PMSTAT n, 30, 1⟩
def CH_PMSTAT_SSRUN (n : Nat) : Ref := ⟨CH_PMSTAT n, 29, 1⟩
def CH_PMSTAT_K (n : Nat) : Ref := ⟨CH_PMSTAT n, 0, 24⟩
def CH_GRP_MEMBER (n : Nat) : Ref := ⟨CH_GRP n, 7, 1⟩
def CH_GRP_GROUP (n : Nat) : Ref := ⟨CH_GRP n, 0, 6⟩
def CH_LVOID_SLOTS (n : Nat) : Ref := ⟨CH_LVOID n, 0, 32⟩
def CH_SVOID_SLOTS (n : Nat) : Ref := ⟨CH_SVOID n, 0, 32⟩
def CH_SPEND_SLOTS (n : Nat) : Ref := ⟨CH_SPEND n, 0, 32⟩
def CH_SLOTIDX_SLOT (n : Nat) : Ref := ⟨CH_SLOTIDX n, 0, 5⟩
def CH_SLOTINFO_LVOID (n : Nat) : Ref := ⟨CH_SLOTINFO n, 31, 1⟩
def CH_SLOTINFO_SPEND (n : Nat) : Ref := ⟨CH_SLOTINFO n, 30, 1⟩
def CH_SLOTINFO_SVOID (n : Nat) : Ref := ⟨CH_SLOTINFO n, 29, 1⟩
def CH_SLOTINFO_LZERO (n : Nat) : Ref := ⟨CH_SLOTINFO n, 28, 1⟩
def CH_SLOTINFO_SHDCTX (n : Nat) : Ref := ⟨CH_SLOTINFO n, 16, 11⟩
def CH_SLOTINFO_LIVECTX (n : Nat) : Ref := ⟨CH_SLOTINFO n, 0, 11⟩
def CH_ECCCE_COUNT (n : Nat) : Ref := ⟨CH_ECCCE n, 0, 16⟩
def CH_CFLAGS_GRPREF (n : Nat) : Ref := ⟨CH_CFLAGS n, 1, 1⟩
def CH_CFLAGS_VOID (n : Nat) : Ref := ⟨CH_CFLAGS n, 0, 1⟩
def CH_CIRQEN_GRPREF (n : Nat) : Ref := ⟨CH_CIRQEN n, 1, 1⟩
def CH_CIRQEN_VOID (n : Nat) : Ref := ⟨CH_CIRQEN n, 0, 1⟩
def CH_EVCFG_EN (n : Nat) : Ref := ⟨CH_EVCFG n, 31, 1⟩
def CH_EVCFG_SRC (n : Nat) : Ref := ⟨CH_EVCFG n, 26, 2⟩
def CH_EVCFG_EDGE (n : Nat) : Ref := ⟨CH_EVCFG n, 24, 2⟩
def CH_EVCFG_HYST (n : Nat) : Ref := ⟨CH_EVCFG n, 22, 2⟩
def CH_EVCFG_INV (n : Nat) : Ref := ⟨CH_EVCFG n, 21, 1⟩
def CH_EVCFG_HOLDOFF (n : Nat) : Ref := ⟨CH_EVCFG n, 0, 16⟩
def CH_SEPMIN_TICKS (n : Nat) : Ref := ⟨CH_SEPMIN n, 0, 16⟩
def CH_TAKE_JOIN (n : Nat) : Ref := ⟨CH_TAKE n, 31, 1⟩
def CH_TAKE_TAKE (n : Nat) : Ref := ⟨CH_TAKE n, 0, 8⟩
def CH_EVSTAT_RUN (n : Nat) : Ref := ⟨CH_EVSTAT n, 31, 1⟩
def CH_EVSTAT_CLOSED (n : Nat) : Ref := ⟨CH_EVSTAT n, 30, 1⟩
def CH_EVSTAT_FULL (n : Nat) : Ref := ⟨CH_EVSTAT n, 29, 1⟩
def CH_EVSTAT_LEVEL (n : Nat) : Ref := ⟨CH_EVSTAT n, 28, 1⟩
def CH_EVSTAT_QUIET (n : Nat) : Ref := ⟨CH_EVSTAT n, 27, 1⟩
def CH_EVSTAT_EDG1US (n : Nat) : Ref := ⟨CH_EVSTAT n, 0, 16⟩
def CH_EFLAGS_BADTAIL (n : Nat) : Ref := ⟨CH_EFLAGS n, 7, 1⟩
def CH_EFLAGS_FLUSHREF (n : Nat) : Ref := ⟨CH_EFLAGS n, 6, 1⟩
def CH_EFLAGS_JOINREF (n : Nat) : Ref := ⟨CH_EFLAGS n, 5, 1⟩
def CH_EFLAGS_PREFAIL (n : Nat) : Ref := ⟨CH_EFLAGS n, 4, 1⟩
def CH_EFLAGS_WRAP (n : Nat) : Ref := ⟨CH_EFLAGS n, 3, 1⟩
def CH_EFLAGS_DROP (n : Nat) : Ref := ⟨CH_EFLAGS n, 2, 1⟩
def CH_EFLAGS_LOST (n : Nat) : Ref := ⟨CH_EFLAGS n, 1, 1⟩
def CH_EFLAGS_QUIET (n : Nat) : Ref := ⟨CH_EFLAGS n, 0, 1⟩
def CH_EIRQEN_BADTAIL (n : Nat) : Ref := ⟨CH_EIRQEN n, 7, 1⟩
def CH_EIRQEN_FLUSHREF (n : Nat) : Ref := ⟨CH_EIRQEN n, 6, 1⟩
def CH_EIRQEN_JOINREF (n : Nat) : Ref := ⟨CH_EIRQEN n, 5, 1⟩
def CH_EIRQEN_PREFAIL (n : Nat) : Ref := ⟨CH_EIRQEN n, 4, 1⟩
def CH_EIRQEN_WRAP (n : Nat) : Ref := ⟨CH_EIRQEN n, 3, 1⟩
def CH_EIRQEN_DROP (n : Nat) : Ref := ⟨CH_EIRQEN n, 2, 1⟩
def CH_EIRQEN_LOST (n : Nat) : Ref := ⟨CH_EIRQEN n, 1, 1⟩
def CH_EIRQEN_QUIET (n : Nat) : Ref := ⟨CH_EIRQEN n, 0, 1⟩
def CH_LOSTSEP_COUNT (n : Nat) : Ref := ⟨CH_LOSTSEP n, 0, 32⟩
def CH_LOSTHOLD_COUNT (n : Nat) : Ref := ⟨CH_LOSTHOLD n, 0, 32⟩
def CH_STAMPCNT_COUNT (n : Nat) : Ref := ⟨CH_STAMPCNT n, 0, 32⟩
def CH_PREFAIL_COUNT (n : Nat) : Ref := ⟨CH_PREFAIL n, 0, 16⟩
def CH_SLGAIN_G (n : Nat) (s : Nat) : Ref := ⟨CH_SLGAIN n s, 0, 24⟩
def CH_SLOFF_O (n : Nat) (s : Nat) : Ref := ⟨CH_SLOFF n s, 0, 24⟩
def CH_RCFG_POLICY (n : Nat) : Ref := ⟨CH_RCFG n, 8, 2⟩
def CH_RCFG_RING (n : Nat) : Ref := ⟨CH_RCFG n, 0, 6⟩
def CH_RHEAD_IDX (n : Nat) : Ref := ⟨CH_RHEAD n, 0, 11⟩
def CH_RTAIL_IDX (n : Nat) : Ref := ⟨CH_RTAIL n, 0, 11⟩
def CH_RWRAPCNT_COUNT (n : Nat) : Ref := ⟨CH_RWRAPCNT n, 0, 32⟩
def CH_RDROPCNT_COUNT (n : Nat) : Ref := ⟨CH_RDROPCNT n, 0, 32⟩
def CH_RCTRL_FLUSH (n : Nat) : Ref := ⟨CH_RCTRL n, 0, 1⟩
def CH_CALCTRL_DMODE (n : Nat) : Ref := ⟨CH_CALCTRL n, 31, 1⟩
def CH_CALCTRL_CDRV (n : Nat) : Ref := ⟨CH_CALCTRL n, 30, 1⟩
def CH_CALCTRL_HIST (n : Nat) : Ref := ⟨CH_CALCTRL n, 29, 1⟩
def CH_CALCTRL_BYP (n : Nat) : Ref := ⟨CH_CALCTRL n, 16, 2⟩
def CH_CALCTRL_N (n : Nat) : Ref := ⟨CH_CALCTRL n, 0, 16⟩
def CH_CALSTAT_HELD (n : Nat) : Ref := ⟨CH_CALSTAT n, 31, 1⟩
def CH_CALSTAT_DBUSY (n : Nat) : Ref := ⟨CH_CALSTAT n, 30, 1⟩
def CH_CALSTAT_VALID (n : Nat) : Ref := ⟨CH_CALSTAT n, 0, 4⟩
def CH_CALFLAGS_DSTEP2SLEW (n : Nat) : Ref := ⟨CH_CALFLAGS n, 1, 1⟩
def CH_CALFLAGS_WREF (n : Nat) : Ref := ⟨CH_CALFLAGS n, 0, 1⟩
def CH_EVSKEW_SKEW (n : Nat) : Ref := ⟨CH_EVSKEW n, 0, 18⟩
def CH_EVSKACT_SKEW (n : Nat) : Ref := ⟨CH_EVSKACT n, 0, 18⟩
def CH_CALCTX_REC (n : Nat) (w : Nat) : Ref := ⟨CH_CALCTX n w, 0, 32⟩
def CH_SINL0_HI (n : Nat) (i : Nat) : Ref := ⟨CH_SINL0 n i, 16, 12⟩
def CH_SINL0_LO (n : Nat) (i : Nat) : Ref := ⟨CH_SINL0 n i, 0, 12⟩
def CH_SINL1_HI (n : Nat) (i : Nat) : Ref := ⟨CH_SINL1 n i, 16, 12⟩
def CH_SINL1_LO (n : Nat) (i : Nat) : Ref := ⟨CH_SINL1 n i, 0, 12⟩
def CH_DINLT_HI (n : Nat) (i : Nat) : Ref := ⟨CH_DINLT n i, 16, 12⟩
def CH_DINLT_LO (n : Nat) (i : Nat) : Ref := ⟨CH_DINLT n i, 0, 12⟩
def CH_DINLA_HI (n : Nat) (i : Nat) : Ref := ⟨CH_DINLA n i, 16, 12⟩
def CH_DINLA_LO (n : Nat) (i : Nat) : Ref := ⟨CH_DINLA n i, 0, 12⟩

/-! Block FLP: addresses, then fields. -/

def FL_SQTAIL (f : Nat) : Nat := 0x10000000 + 0x4000 * f
def FL_CQHEAD (f : Nat) : Nat := 0x10000004 + 0x4000 * f
def FL_CANCEL (f : Nat) : Nat := 0x10000008 + 0x4000 * f
def FL_SQHEAD (f : Nat) : Nat := 0x1000000C + 0x4000 * f
def FL_CQTAIL (f : Nat) : Nat := 0x10000010 + 0x4000 * f

def FL_SQTAIL_CNT (f : Nat) : Ref := ⟨FL_SQTAIL f, 0, 32⟩
def FL_CQHEAD_CNT (f : Nat) : Ref := ⟨FL_CQHEAD f, 0, 32⟩
def FL_CANCEL_CNT (f : Nat) : Ref := ⟨FL_CANCEL f, 0, 32⟩
def FL_SQHEAD_CNT (f : Nat) : Ref := ⟨FL_SQHEAD f, 0, 32⟩
def FL_CQTAIL_CNT (f : Nat) : Ref := ⟨FL_CQTAIL f, 0, 32⟩

end Sys2Proof.Machine
end

