-- ==== Sys2Proof/Machine/Route.lean ====
section
/-! DEFINITION. The topologies of a board, its routes and its alignment tree (11_multi_device_links.md, R326, R331,
R334). A topology is 0 SINGLE, 1 LINE, 2 RING, 3 TORUS; devices are their board IDs. -/

set_option Elab.async false

namespace Sys2Proof.Machine

/-- The device and port at the far end of a port (11, R326). -/
def farEnd (topo n d p : Nat) : Option (Nat × Nat) :=
  if topo = 1 then
    if p = 1 ∧ d + 1 < n then some (d + 1, 0) else if p = 0 ∧ 0 < d then some (d - 1, 1) else none
  else if topo = 2 then
    if p = 1 then some ((d + 1) % n, 0) else if p = 0 then some ((d + n - 1) % n, 1) else none
  else if topo = 3 then
    let row := d / 4
    let col := d % 4
    if p = 1 then some (4 * row + (col + 1) % 4, 0)
    else if p = 0 then some (4 * row + (col + 3) % 4, 1)
    else if p = 3 then some (4 * ((row + 1) % 4) + col, 2)
    else if p = 2 then some (4 * ((row + 3) % 4) + col, 3)
    else none
  else none

/-- The distance around a ring. -/
def ringDist (n a b : Nat) : Nat := min ((a + n - b) % n) ((b + n - a) % n)

/-- A link by the device and port at its odd port. -/
def linkName (topo n d p : Nat) : Option (Nat × Nat) :=
  if p % 2 = 1 then (farEnd topo n d p).map (fun _ => (d, p)) else farEnd topo n d p

/-- The neighbour over a port, unless the link is known to be down. -/
def neighbour (topo n : Nat) (down : List (Nat × Nat)) (d p : Nat) : Option Nat :=
  match linkName topo n d p with
  | none => none
  | some l => if down.contains l then none else (farEnd topo n d p).map (fun q => q.1)

/-- A distance that no path has. -/
def noPath : Nat := 99

/-- The number of links of a shortest path from every device to one, over the links that are not down (11, R331, R347). -/
def routeDists (topo n : Nat) (down : List (Nat × Nat)) (dst : Nat) : Nat → List Nat
  | 0 => (List.range 16).map (fun d => if d = dst then 0 else noPath)
  | k + 1 =>
    let l := routeDists topo n down dst k
    (List.range 16).map (fun d => (List.range 4).foldl (fun a p => match neighbour topo n down d p with
      | none => a
      | some q => min a (l.getD q noPath + 1)) (l.getD d noPath))

/-- The port of the shortest path to a device, ties to the lowest; the links of this device that do not serve are down (11, R331). -/
def routePort (topo n me dst : Nat) (down : List (Nat × Nat)) (serves : Nat → Bool) : Option Nat :=
  let all := down ++ (List.range 4).filterMap (fun p => if serves p then none else linkName topo n me p)
  let l := routeDists topo n all dst n
  ((List.range 4).foldl (fun (a : Option (Nat × Nat)) p =>
    match neighbour topo n all me p with
    | none => a
    | some q =>
      let d := l.getD q noPath
      if noPath ≤ d then a
      else match a with
        | none => some (d, p)
        | some b => if d < b.1 then some (d, p) else a) none).map (fun b => b.2)

/-- The parent of a device and the port to it (11, R334). -/
def parentOf (topo n d : Nat) : Nat × Nat :=
  if topo = 2 then (if d ≤ n / 2 then (d - 1, 0) else ((d + 1) % n, 1))
  else if topo = 3 then
    let row := d / 4
    let col := d % 4
    if col = 1 ∨ col = 2 then (d - 1, 0)
    else if col = 3 then (4 * row, 1)
    else if row = 3 then (0, 3)
    else (d - 4, 2)
  else (d - 1, 0)

/-- The depth of a device in the tree (11, R334). -/
def treeDepth (topo n d : Nat) : Nat :=
  if topo = 2 then min d (n - d)
  else if topo = 3 then ringDist 4 (d / 4) 0 + ringDist 4 (d % 4) 0
  else d

/-- The ports of a device that carry links of the tree. -/
def treePorts (topo n me : Nat) : List Nat :=
  (List.range 4).filter (fun p => match farEnd topo n me p with
    | none => false
    | some q => (decide (me ≠ 0) && parentOf topo n me == (q.1, p)) || (decide (q.1 ≠ 0) && parentOf topo n q.1 == (me, q.2)))

/-- The port of a device towards the root of a tree over the links that are not down: the lowest of a shortest path. -/
def upPort (topo n : Nat) (down : List (Nat × Nat)) (root d : Nat) : Option Nat :=
  let l := routeDists topo n down root n
  if d = root ∨ noPath ≤ l.getD d noPath then none
  else (List.range 4).find? (fun p => (neighbour topo n down d p).any (fun q => l.getD q noPath + 1 == l.getD d noPath))

/-- The device at the root of that tree: the lowest that this one reaches, device 0 where it does. -/
def castRoot (topo n : Nat) (down : List (Nat × Nat)) (me : Nat) : Nat :=
  ((List.range n).find? (fun d => decide ((routeDists topo n down me n).getD d noPath < noPath))).getD me

/-- The ports by which a device passes a broadcast on (11, R331, R347): those of the alignment tree; with links down, of the tree of shortest
paths that the rebuilt routing tables give. -/
def castPorts (topo n : Nat) (down : List (Nat × Nat)) (me : Nat) : List Nat :=
  if down.isEmpty then treePorts topo n me
  else
    let root := castRoot topo n down me
    (List.range 4).filter (fun p => match neighbour topo n down me p, farEnd topo n me p with
      | some _, some q => upPort topo n down root me == some p || upPort topo n down root q.1 == some q.2
      | _, _ => false)

/-- The boards that a link may belong to: topologies with their numbers of devices; none known, or a number known (11, R326). -/
def boardsOf (n : Nat) : List (Nat × Nat) :=
  (if 2 ≤ n then [(1, n)] else []) ++ (if 3 ≤ n then [(2, n)] else []) ++ (if n = 16 then [(3, 16)] else [])
def allBoards : List (Nat × Nat) := (List.range 17).flatMap boardsOf

/-- A link from port p of device d to port q of device e is one that R326 names on one of those boards. -/
def wiringOk (boards : List (Nat × Nat)) (d p e q : Nat) : Bool := boards.any (fun t => farEnd t.1 t.2 d p == some (e, q))

/-- The links of a topology, each once, as device, port, peer and its port (11, R326). -/
def boardLinks (topo n : Nat) : List (Nat × Nat × Nat × Nat) :=
  (List.range n).flatMap (fun d => ([1, 3].filterMap (fun p => (farEnd topo n d p).map (fun q => (d, p, q.1, q.2)))))

/-- A link as the device at its odd port sees it. -/
def normalLink (l : Nat × Nat × Nat × Nat) : Nat × Nat × Nat × Nat := if l.2.1 % 2 = 1 then l else (l.2.2.1, l.2.2.2, l.1, l.2.1)

/-- The topology that a set of links matches (11, R326). -/
def matchTopo (n : Nat) (links : List (Nat × Nat × Nat × Nat)) : Option Nat :=
  let have_ := links.map normalLink
  let same := fun t => (boardLinks t n).all (fun l => have_.contains l) && have_.all (fun l => (boardLinks t n).contains l)
  if n = 1 then (if links.isEmpty then some 0 else none)
  else if same 1 then some 1
  else if 3 ≤ n ∧ same 2 then some 2
  else if n = 16 ∧ same 3 then some 3
  else none

end Sys2Proof.Machine
end

