-- ==== Sys2Proof/Machine/Tab.lean ====
section
/-! DEFINITION. Sparse tables: what every replicated unit, register and memory of the model is held in.
A table lists (key, value) pairs in one canonical form: keys strictly rising, no entry equal to the value an
unlisted key reads as. -/

set_option Elab.async false

namespace Sys2Proof.Machine

/-- A sparse table by key. -/
abbrev Tab (α : Type) := List (Nat × α)

/-- The value at a key; `d` is what an unlisted key reads as. -/
def tabGet {α : Type} (d : α) : Tab α → Nat → α
  | [], _ => d
  | (k, v) :: t, i => if k = i then v else tabGet d t i

/-- The table without a key. -/
def tabErase {α : Type} : Tab α → Nat → Tab α
  | [], _ => []
  | (k, v) :: t, i => if k = i then tabErase t i else (k, v) :: tabErase t i

/-- A pair put at its place by key. -/
def tabInsert {α : Type} : Tab α → Nat → α → Tab α
  | [], i, v => [(i, v)]
  | (k, w) :: t, i, v => if i < k then (i, v) :: (k, w) :: t else (k, w) :: tabInsert t i v

/-- Write a value at a key; a key whose value is the unlisted one is not listed. -/
def tabSet {α : Type} [DecidableEq α] (d : α) (t : Tab α) (i : Nat) (v : α) : Tab α :=
  if v = d then tabErase t i else tabInsert (tabErase t i) i v

/-- Every key of the table lies above a bound and the keys rise. -/
def tabRising {α : Type} : Option Nat → Tab α → Bool
  | _, [] => true
  | none, (k, _) :: t => tabRising (some k) t
  | some b, (k, _) :: t => decide (b < k) && tabRising (some k) t

/-- No entry equals what its key would read as unlisted. -/
def tabSparse {α : Type} [DecidableEq α] (d : Nat → α) : Tab α → Bool
  | [] => true
  | (k, v) :: t => decide (v ≠ d k) && tabSparse d t

/-- The canonical form of a table whose unlisted keys read as `d`. -/
def Tab.wf {α : Type} [DecidableEq α] (d : Nat → α) (t : Tab α) : Bool :=
  tabRising none t && tabSparse d t

end Sys2Proof.Machine
end

