-- ==== Sys2Proof/Machine/State.lean ====
section
/-! DEFINITION. The state of the TG5120, as plain data. Registers are one table by address (Machine/RegMap.lean);
what no register holds is here, unit by unit. -/

set_option Elab.async false

namespace Sys2Proof.Machine

/-! ### Who asked, and what leaves -/

/-- Who waits for the completion of a request: nobody, a select-port command of a port (group, TAG), a mailbox
command of a flow by its submission count, or a link request (the asking device, its TAG). -/
inductive Src where
  | none
  | port (p g tag : Nat)
  | flow (f c : Nat)
  | link (dev tag : Nat)
  /-- the arm of a cross-device take that a device asked for: the device, its tag, the number of the pair (11, R346) -/
  | xtake (dev tag idx : Nat)
  /-- a select-port command of an attachment that has ended: its records are discarded and counted (07, R219) -/
  | gone (p : Nat)
  deriving DecidableEq, Repr

/-- The contents of a DATA frame of a link (11, R329): its items as 128-bit numbers, and the messages that end in it. -/
structure LFrame where
  dst : Nat
  src : Nat
  bcast : Bool
  items : List LinkItem
  raw : List Nat
  deriving DecidableEq, Repr

/-- What left the device, newest first in `State.out`: the model's own record of it. -/
inductive Output where
  /-- words returned to a read of an address -/
  | read (addr : Nat) (data : List Nat)
  /-- an aborted access (14, R414): a posted write is discarded, another request gets a completion with Completer Abort; either is reported
  through AER as fatal or not -/
  | abort (addr : Nat) (posted fatal : Bool)
  /-- a memory request that a function in D3hot does not support (14, R416, R435) -/
  | unsupported (addr : Nat)
  /-- an MSI-X message (14, R418) -/
  | msix (vector : Nat)
  /-- a DMA write to host memory; the fetch of a drain ring's descriptor by a DMA read (08, R255) -/
  | dma (addr : Nat) (bytes : List Nat)
  | dmaRead (addr len : Nat)
  /-- a frame of a select port, its 256 bytes; a SKP ordered set on every lane (07, R196 to R198) -/
  | tspFrame (p : Nat) (bytes : List Nat)
  | tspSkp (p : Nat)
  /-- FA ordered sets leave every lane of a port, continuously while it is in ALIGN or RECOVER: 0 to 7 TSP0 to TSP7, 8 to 11 PL0 to PL3
  (07, R195; 11, R328) -/
  | faSets (p : Nat)
  /-- a frame of a Prailaom link, its 256 bytes; a SKP ordered set on both lanes; a probe block: port, index, whether a reply (11) -/
  | linkFrame (p : Nat) (bytes : List Nat)
  | linkSkp (p : Nat)
  | linkProbe (p index : Nat) (reply : Bool)
  /-- a line of a channel toggles: channel, line (0 ETE, 1 DTE, 2 CTE), output time in ticks, level after; the fine delay that the DTC
  realises, in 2^-20 tick (10, R298) -/
  | toggle (ch line time : Nat) (level : Bool) (fine : Int)
  /-- a PMBus transaction: bus address, kind, command, data, whether it carries a PEC, the bytes that the device sends -/
  | pmbus (addr kind cmd data : Nat) (pec : Bool) (wire : List Nat)
  /-- boundary scan: the cells drive the covered balls, those of the channels where VDD_CH is present; the levels that the cells captured -/
  | cells (l : List Bool) (channels : Bool)
  | scanOut (l : List Bool)
  /-- a block erase of the boot flash, or bytes programmed at an address (10, R319) -/
  | flashErase (addr : Nat)
  | flashWrite (addr : Nat) (bytes : List Nat)
  /-- a unit or word sent on a serial port; what a read of the execute-in-place window returned, none: a bus error -/
  | spt (port v : Nat)
  /-- a Fast Read of a line: its slave, the width of its address, the address (15, R455) -/
  | fastRead (sel bits addr : Nat)
  | xip (off : Nat) (data : Option (List Nat))
  /-- JTAG data shifted out -/
  | jtag (v : Nat)
  /-- a pin changes -/
  | pin (name : Nat) (level : Bool)
  /-- an AER report or a PCIe completion status -/
  | pcie (kind : Nat)
  deriving DecidableEq, Repr

/-! ### Roots (02, 03) -/

/-- A hop request (02, R54): its preset, its PRIO, who asked, the count before which it does not start (11, R345). -/
structure HopReq where
  preset : Nat
  prio : Bool
  src : Src
  notBefore : Option Nat := none
  deriving DecidableEq, Repr

/-- Where an executing hop stands: accepted and about to start, settling in band, in a band search, or ended by a
reference loss and completing at the next lock (02, R54 to R56; 03, R78). -/
inductive HopPhase where
  | waiting | inBand | search | ended
  deriving DecidableEq, Repr

/-- The spread settings in force (03, R89). -/
structure Spread where
  centre : Bool
  table : Bool
  ppm : Nat
  hz : Nat
  depth : Nat
  period : Nat
  tab : List Nat
  deriving DecidableEq, Repr

/-- A ramp segment of the table (03, R82): target word in 2^-40, slope, dwell. -/
structure Seg where
  target : Nat
  slope : Nat
  dwell : Nat
  deriving DecidableEq, Repr

/-- The ramp that runs or is suspended (03, R83): the segment, the passes done, the passes of its start (none: no end),
the copied segment, whether it dwells, the dwell cycles left. -/
structure Ramp where
  seg : Nat
  pass : Nat
  passes : Option Nat
  cur : Seg
  dwelling : Bool
  left : Nat
  deriving DecidableEq, Repr

/-- A change of what a T-clock's length follows from (09, R279): the timebase count of the change, the word in force
and FTRIM before it. -/
structure VarChg where
  cyc : Nat
  word : Nat
  ftrim : Int
  deriving DecidableEq, Repr

/-- A register effect that a sequencer step has computed and not yet committed (03, R73): a field, a sticky flag of SYNn_FLAGS,
TBSLIP with what it voids, one more in a saturating counter, the result of a hop and whether HOPCNT counts it. -/
inductive Eff where
  | put (r : Ref) (v : Nat)
  | flag (r : Ref)
  | slip
  | count (r : Ref)
  | hop (q : HopReq) (result code : Nat) (counts : Bool)
  deriving DecidableEq, Repr

/-- What SEQn_STAT keeps of an interrupted routine (03, R79): its code, its last committed step, whether a step of it had
committed. -/
structure Intr where
  routine : Nat
  step : Nat
  part : Bool
  deriving DecidableEq, Repr

/-- What the loop runs on as the last step committed it (03, R79, R81): the state code, the band, the base word, the ramp, the spread,
the lock detector's output, the declared loss, whether lock was ever declared, the SNAP pull, whether COASTTIME counts. -/
structure Committed where
  st : Nat
  band : Nat
  base : Nat
  ramp : Option Ramp
  ss : Option Spread
  lock : Bool
  coasting : Bool
  everLock : Bool
  snap : Bool
  timing : Bool
  deriving DecidableEq, Repr

/-- A ramp start, by a clapper or not, or a RESUME, that was accepted while a single-step routine ran (03, R74, R80, R86). -/
inductive RampReq where
  | start (clap : Bool)
  | resume
  deriving DecidableEq, Repr

/-- The state of a root synthesiser and its sequencer that no register holds. -/
structure Root where
  /-- the state code of R50 as the state machine has it; SYNn_STAT.STATE shows it from the next commit on (03, R73) -/
  st : Nat
  /-- the lock detector's output, and a declared loss of REFCLK that no lock has ended (02, R49; 03, R95): the taint sources -/
  lock : Bool
  coasting : Bool
  /-- the phase detector is disconnected and the VCO holds its control word (03, R77) -/
  frozen : Bool
  /-- the band in use; the fine tuning as the word that the VCO runs at, none: the band's mid-scale (02, R46; 03, R73) -/
  band : Nat
  fine : Option Int
  /-- the coast word in force (03, R93) -/
  coastW : Nat
  /-- the foreground routine, 0: none; it ends with the step that runs; steps it has committed (03, R74) -/
  rt : Nat
  done : Bool
  nstep : Nat
  /-- the effects that wait for the commit, oldest first; what the last commit left; what an interruption left -/
  eff : List Eff
  com : Committed
  intr : Option Intr
  /-- f_PD cycles of the ramp step that runs, and that it has ended (03, R84) -/
  stepCyc : Nat
  stepDue : Bool
  /-- a phase step was executed in this f_PD cycle; a work-off step is due in the next (03, R75) -/
  stepped : Bool
  woDue : Bool
  /-- the phase of the feedback modulator in phase steps (02, R58) -/
  fbPhase : Int
  /-- a reference loss that waits for a step boundary (03, R76); a loss since the frequency window began (R92) -/
  waitLoss : Bool
  lossInWin : Bool
  /-- COASTTIME counts (03, R107); the POLICY sampled at MEASURE until the lock after the return (R96, R98) -/
  timing : Bool
  ret : Option Nat
  /-- a spread register was written since the last period boundary that looked (03, R89) -/
  ssReq : Bool
  /-- entries into LOCKED, by which a calibration run sees that LOCKED was left (10, R291) -/
  locks : Nat
  /-- how often ALIGNED of this root was cleared (11, R340, R346) -/
  voids : Nat
  /-- the 48-bit timebase counter (01, R17) -/
  tb : Nat
  /-- the T-clock output runs (02, R50; held by a test divider, R42) -/
  tclk : Bool
  /-- the test divider of R42 is in force -/
  testDiv : Bool
  /-- lock has been declared since EN last went to 1 (02, R52) -/
  everLock : Bool
  /-- the REFCLK loss came in WAKE (03, R100) -/
  lostInWake : Bool
  /-- cycles of |e| <= W counted (02, R49, R50) -/
  cnt : Nat
  /-- cycles of |e| > 2W counted (02, R49) -/
  loss : Nat
  /-- settled cycles of a hop (02, R56) -/
  settle : Nat
  /-- band-search bounds and trials done (02, R46) -/
  lo : Nat
  hi : Nat
  trial : Nat
  /-- the executing hop and where it stands (02, R54) -/
  hop : Option (HopReq × HopPhase)
  /-- the pending hop (02, R54) -/
  pend : Option HopReq
  /-- MASH accumulators and the delayed carries (02, R36, R38) -/
  acc1 : Nat
  acc2 : Nat
  acc3 : Nat
  c2d : Int
  c3d : Int
  c3dd : Int
  /-- the instantaneous divide value (02, R38) -/
  divv : Nat
  /-- the base word in units of 2^-40 (03, R72) -/
  base : Nat
  /-- the spread in force and its cycle (03, R88) -/
  ss : Option Spread
  ssk : Nat
  /-- the running or suspended ramp, the base word of its checkpoint (03, R79, R83) -/
  ramp : Option Ramp
  checkpoint : Nat
  /-- the segment table (03, R82) -/
  segs : Tab Seg
  /-- the averager's samples, newest first (03, R93) -/
  avg : List Int
  /-- f_PD cycles since the last work-off step; the work-off is a one-shot of WORKOFF (03, R98) -/
  woCnt : Nat
  woShot : Bool
  /-- the SNAP pull is in progress (03, R97) -/
  snap : Bool
  /-- interruptions waiting for a step boundary (03, R76) -/
  waitOff : Bool
  waitAbort : Bool
  /-- a ramp that begins when the step that runs has committed (03, R74) -/
  waitRamp : Option RampReq
  /-- the address the last microword was fetched from (03, R102) -/
  upc : Nat
  /-- the word in force, FTRIM and PHPOS as last noted, and their last changes, newest first (09, R279) -/
  seen : Nat × Int × Int
  hist : List VarChg
  deriving DecidableEq, Repr

/-- 128.0 as a word in units of 2^-40 (02, R71). -/
def word128 : Nat := 128 * 2 ^ 40

/-- The reset value of a segment (03, R105). -/
def Seg.init : Seg := ⟨word128, 0, 0⟩

/-- A root after reset. -/
def Root.init : Root :=
  { st := 0, lock := false, coasting := false, frozen := false, band := 0, fine := none, coastW := word128, rt := 0,
    done := false, nstep := 0, eff := [], com := ⟨0, 0, word128, none, none, false, false, false, false, false⟩, intr := none, stepCyc := 0, stepDue := false,
    stepped := false, woDue := false, fbPhase := 0, waitLoss := false, lossInWin := false, timing := false, ret := none,
    ssReq := false, locks := 0, voids := 0, tb := 0, tclk := false, testDiv := false, everLock := false, lostInWake := false, cnt := 0, loss := 0,
    settle := 0, lo := 0, hi := 63, trial := 0, hop := none, pend := none, acc1 := 0, acc2 := 0, acc3 := 0,
    c2d := 0, c3d := 0, c3dd := 0, divv := 128, base := word128, ss := none, ssk := 0, ramp := none,
    checkpoint := 0, segs := [], avg := [], woCnt := 0, woShot := false, snap := false,
    waitOff := false, waitAbort := false, waitRamp := none, upc := 0, seen := (word128, 0, 0), hist := [] }

/-! ### Banks (04, 06) -/

/-- The completion of a timing command (06, R185): its group, who asked, its code, effect cycle, members, corrections,
void members, epoch, the banks whose taint marks it, and for a CANCEL the slots discarded. -/
structure Comp where
  g : Nat
  src : Src
  code : Nat
  cyc : Nat
  members : Nat
  ces : Nat
  voids : Nat
  epoch : Nat
  banks : List Nat
  slots : Option Nat
  deriving DecidableEq, Repr

/-- A stamp (08, R232, R233, R238): its time in ticks, its polarity, the time of the last edge lost since the stamp
before it, its reference count, stamper and code, and its place within the T-clock period for the histogram
(10, R299). -/
structure Stamp where
  t : Int
  pol : Bool
  lostAt : Option Int
  ref : Nat
  stamper : Nat
  code : Nat
  bin : Nat
  deriving DecidableEq, Repr

/-- A slate (08, R234): its take, its words without marks, whether it heads a take, the time of an edge lost and not yet
marked, whether the take uses raw words; whether its take has closed before it left the taint stage, 1, and it is the channel's last word of it, 2 (08, R254). -/
structure Slate where
  take : Nat
  head : Bool
  hdr : Nat
  pay : Nat
  lostAt : Option Int
  raw : Bool
  left : Nat
  deriving DecidableEq, Repr

/-- What waits in a bank's taint stage (01, R31; 04, R120): a completion, or a stamp or slate of a channel. -/
inductive StageBody where
  | comp (c : Comp)
  | stamp (ch : Nat) (x : Stamp)
  | slate (ch : Nat) (x : Slate)
  deriving DecidableEq, Repr

/-- An item of the taint stage: the cycle it came in, the cycle its time lies in, itself. -/
structure StageItem where
  enter : Nat
  time : Nat
  body : StageBody
  deriving DecidableEq, Repr

/-- A stamp or slate of a take that has left its bank's taint stage and waits until no earlier one of the take can come: its
time in ticks, itself, its taint mark (08, R246, R251). -/
structure Merged where
  t : Int
  body : StageBody
  taint : Bool
  deriving DecidableEq, Repr

/-- A cue command that the engine has taken and whose records it has read (06, R186): group, command number. -/
structure CueJob where
  g : Nat
  id : Nat
  loaded : List (Nat × Record × Bool)
  ces : Nat
  deriving DecidableEq, Repr

/-- An access to the context store that the hub holds while the slice wipes (06, R171): a window write or read, a mailbox
write or read (flow, submission count, channel, first context; where its data goes and how many records). -/
inductive Held where
  | write (off : Nat) (bytes : List Nat)
  | read (off len : Nat)
  | mbxWrite (f c ch first : Nat) (recs : List Record)
  | mbxRead (f c ch first count buf : Nat)
  deriving DecidableEq, Repr

/-- What waits at a bank hub in its order of arrival: a timing command for the cue engine (group, command number), or an access
to the store (06, R164, R171). -/
inductive HubItem where
  | cmd (g id : Nat)
  | access (h : Held)
  deriving DecidableEq, Repr

/-- The state of a bank that no register holds. -/
structure Bank where
  /-- comparisons within the lock window, and beyond the loss window (04, R114, R115) -/
  dllCnt : Nat
  dllLoss : Nat
  /-- where the open taint interval begins, back-dated, on the timebase in use (04, R120); none: no interval is open -/
  openAt : Option Nat
  /-- earlier intervals of the same timebase, [open, close) in T-clock cycles, latest first (04, R120) -/
  past : List (Nat × Nat)
  /-- the taint stage, oldest first -/
  stage : List StageItem
  /-- what waits at the hub, oldest first: commands for the cue engine, accesses that a wipe or a cue ahead of them holds (01,
  R21; 06, R164, R171) -/
  cueq : List HubItem
  /-- the cues and provisional cues whose records the engine has read and which are not complete, oldest first (06, R186) -/
  jobs : List CueJob
  /-- the root has changed its frequency by feed-forward since the last DLL comparison (04, R117) -/
  ff : Bool
  /-- a taint interval was open at some time since the last tracker update (04, R506) -/
  dist : Bool
  /-- taint intervals opened, by which a calibration run sees that one was open (10, R291) -/
  opens : Nat
  /-- the smallest and the largest DLLCW and temperature since a calibration run began (10, R300) -/
  cwSpan : Nat × Nat := (0, 0)
  tSpan : Int × Int := (0, 0)
  deriving DecidableEq, Repr

/-- A bank after reset: its taint interval is open from 0 (04, R506). -/
def Bank.init : Bank :=
  { dllCnt := 0, dllLoss := 0, openAt := some 0, past := [], stage := [], cueq := [], jobs := [], ff := false,
    dist := true, opens := 0 }

/-! ### Channels (05, 06) -/

/-- When a change of a channel falls due: at the first cycle that starts at or after a timebase count, or at a named
cycle (05, R152, R154). -/
inductive Due where
  | time (t : Nat)
  | cycle (k : Nat)
  deriving DecidableEq, Repr

/-- The slot contents read for a coming cycle (06, R173). -/
structure Ahead where
  k : Nat
  slot : Nat
  data : Record
  void : Bool
  deriving DecidableEq, Repr

/-- A cycle the arithmetic has entered: its number, its start S(k) in 2^-16 ticks, what it read, its deskew
(05, R133, R135). -/
structure CycRec where
  k : Nat
  start : Nat
  slot : Nat
  data : Record
  dsk : Int
  deriving DecidableEq, Repr

/-- A timing change that waits for the read of its first cycle, in the order of the hub (06, R179, R181, R188). -/
inductive Load where
  | cue (slot ctx : Nat) (data : Record) (void : Bool) (fromCycle : Nat)
  | commit (fromCycle : Nat)
  deriving DecidableEq, Repr

/-- A live slot (06, R172). -/
structure LiveSlot where
  data : Record
  ctx : Nat
  void : Bool
  lzero : Bool
  deriving DecidableEq, Repr

/-- The shadow copy of a slot (06, R172). -/
structure Shadow where
  data : Record
  ctx : Nat
  pend : Bool
  void : Bool
  deriving DecidableEq, Repr

/-- A channel's arithmetic and slots. -/
structure Cyc where
  /-- the accumulator runs: from the group's T to its stop cycle (06, R176) -/
  on : Bool
  /-- the next cycle to enter and its start S(k) in 2^-16 ticks; the 76-bit accumulator is that modulo 2^76 (05, R131) -/
  k : Nat
  s : Nat
  /-- the modulation carry r in 2^-32 ticks (05, R133) -/
  r : Nat
  /-- the last cycles entered, newest first; at most four -/
  win : List CycRec
  /-- what was read for the coming cycles, next first -/
  ahead : List Ahead
  /-- the slot applied to the last read, the read time of the last switch, whether an entry has covered a cycle since
  the start (07, R205) -/
  applied : Nat
  lastSw : Option Nat
  covered : Bool
  loads : List Load
  live : Tab LiveSlot
  shad : Tab Shadow
  /-- calibration drive: the record that every cycle runs (10, R302) -/
  drive : Option Record
  deriving DecidableEq, Repr

/-- The spread settings of a channel (05, R149, R151). -/
structure PmSpread where
  on : Bool
  centre : Bool
  ppm : Nat
  q : Nat
  deriving DecidableEq, Repr

/-- Staged modulation settings (05, R149): dP in 2^-32 ticks. -/
structure PmSet where
  rampEn : Bool
  rclr : Bool
  dp : Int
  rcnt : Nat
  ss : PmSpread
  start : Nat
  deriving DecidableEq, Repr

/-- A channel's modulation in force (05, R149 to R151). R and DEPTH are in 2^-32 ticks; `cnt` is k - K0; `late` says that
the armed cycle had started when GO took effect. -/
structure Mod where
  armed : Option PmSet
  late : Bool
  rampEn : Bool
  dp : Int
  rcnt : Nat
  cnt : Nat
  rr : Int
  ss : PmSpread
  ssPend : Option PmSpread
  ssRun : Bool
  kk : Nat
  depth : Int
  /-- R, K and whether the ramp advances and the spread runs, of the cycle that runs (05, R158) -/
  nowR : Int
  nowK : Nat
  nowRamp : Bool
  nowSs : Bool
  deriving DecidableEq, Repr

/-- An event before the scheduler: its ideal time, its cycle, its slot index, and how it was clipped, 1 EARLY, 2 LATE
(05, R135, R136, R142). -/
structure Ev where
  t : Int
  k : Nat
  e : Nat
  clip : Nat
  deriving DecidableEq, Repr

/-- A toggle that the scheduler has placed: its output time, its line and its engine (05, R142), the event it comes from with
the pushes counted for it (none: a rest toggle), and last(L) and last(E) as they stood before it, which a discard puts
back. -/
structure Placed where
  t : Int
  line : Nat
  eng : Nat
  ev : Option Ev
  spaced : Bool
  pushed : Bool
  prevL : Option Int
  prevE : Option Int
  deriving DecidableEq, Repr

/-- A channel's scheduler, queues and lines (05, R140 to R144). -/
structure Sched where
  /-- events not yet scheduled, in order of ideal time, cycle, slot -/
  evs : List Ev
  /-- placed toggles that have not reached the output stage, in the order they were placed -/
  queue : List Placed
  /-- last(L) of the lines ETE, DTE, CTE and last(E) of the engines DA, DB, CA, CB -/
  lastL : List (Option Int)
  lastE : List (Option Int)
  /-- the next engine of each pair: 0 DA or CA, 1 DB or CB -/
  nextD : Nat
  nextC : Nat
  /-- PWR_AONNOW at the last BENT record (05, R143) -/
  bentAt : Option Nat
  deriving DecidableEq, Repr

/-- A change of a park cause that is on its way: the cause, when, whether it parks or releases (05, R152 to R155). -/
structure ParkChg where
  cause : Nat
  due : Due
  park : Bool
  deriving DecidableEq, Repr

/-- A channel's parking (05, R152 to R154): changes of causes on their way, in order, the leave that is due, whether the
lines are parked. -/
structure Park where
  chg : List ParkChg
  leave : Option Due
  parked : Bool
  /-- the lines parked at the coming boundary, so that STEP waits for the next (05, R139, R153) -/
  fresh : Bool
  /-- the count before which the release of a halt lets no cycle leave park (04, R124) -/
  notBefore : Nat := 0
  deriving DecidableEq, Repr

/-- The state of a channel that no register holds. -/
structure Chan where
  cyc : Cyc
  md : Mod
  sch : Sched
  pk : Park
  /-- channel cycles since the last deskew move, N of the move that comes, and whether the move of the next cycle is done
  (05, R139) -/
  slewCnt : Nat
  slewN : Nat
  slewDone : Bool
  /-- the same of the DTC table (10, R305); the tables that it was before, each with the first cycle that has a later one -/
  dtcCnt : Nat
  dtcN : Nat
  dtcDone : Bool
  dtcOld : List (Nat × List Nat)
  /-- the count at which CDRV went to 1 (10, R302) -/
  drvAt : Nat
  deriving DecidableEq, Repr

def LiveSlot.init : LiveSlot := { data := 0, ctx := 0, void := false, lzero := true }
def Shadow.init : Shadow := { data := 0, ctx := 0, pend := false, void := false }
def Cyc.init : Cyc :=
  { on := false, k := 0, s := 0, r := 0, win := [], ahead := [], applied := 0, lastSw := none, covered := false,
    loads := [], live := [], shad := [], drive := none }
def PmSpread.init : PmSpread := { on := false, centre := false, ppm := 0, q := 3200 }
def Mod.init : Mod :=
  { armed := none, late := false, rampEn := false, dp := 0, rcnt := 0, cnt := 0, rr := 0, ss := PmSpread.init, ssPend := none,
    ssRun := false, kk := 0, depth := 0, nowR := 0, nowK := 0, nowRamp := false, nowSs := false }
def Sched.init : Sched :=
  { evs := [], queue := [], lastL := [none, none, none], lastE := [none, none, none, none], nextD := 0, nextC := 0,
    bentAt := none }
def Park.init : Park := { chg := [], leave := none, parked := true, fresh := false }
def Chan.init : Chan :=
  { cyc := Cyc.init, md := Mod.init, sch := Sched.init, pk := Park.init, slewCnt := 0, slewN := 256, slewDone := false,
    dtcCnt := 0, dtcN := 256, dtcDone := false, dtcOld := [], drvAt := 0 }

/-! ### Event capture (08) -/

/-- A word of a reel (08, R250): the word, its place in the order of all reel writes, its take, whether the take used raw
words, whether it is a slate's payload, whether it is the last word of a take that reached DONE. -/
structure RWord where
  w : Nat
  seq : Nat
  take : Nat
  raw : Bool
  pay : Bool
  last : Bool
  deriving DecidableEq, Repr

def RWord.init : RWord := { w := 0, seq := 0, take := 0, raw := false, pay := false, last := false }

/-- A calibration of a channel's stampers that runs (08, R235, R237, R239): its slate KIND, the stamper of this half,
whether the half is a repeat, pre-roll cycle 0 of the half, whether it waits for a clock. -/
structure Calib where
  kind : Nat
  stamper : Nat
  again : Bool
  begin : Nat
  wait : Bool
  deriving DecidableEq, Repr

/-- A channel's capture path. -/
structure Cap where
  /-- transitions in the current activity window (08, R227); the levels of the inputs EVI, RETURN and CALREF before INV (R226) -/
  trans : Nat
  inputs : List Bool
  /-- complete activity windows in a row without a transition, the smallest and the largest count of one since a calibration run began
  (10, R291) -/
  quiet : Nat
  edgLo : Nat
  edgHi : Nat
  /-- the time of the last accepted edge, and the last edge lost since it (08, R229) -/
  tAcc : Option Int
  lostAt : Option Int
  /-- the stamper that takes the next edge, and the calibration that runs (08, R228, R235) -/
  nextSt : Nat
  cal : Option Calib
  /-- accepted stamps since the last re-slate by count, and the timebase count of the last slate (08, R239) -/
  since : Nat
  lastSlate : Nat
  /-- when the 8-stamp output queue will be empty, in ticks (08, R229) -/
  qEnd : Int
  /-- the count after the last pre-roll cycle (08, R244) -/
  preEnd : Nat
  /-- of the current take: stamps, times of the first and the last, a lost-before mark, a taint mark, reel overflow (08, R247) -/
  n : Nat
  first : Option Int
  lastT : Int
  lost : Bool
  taint : Bool
  ovf : Bool
  /-- the reel writes nothing more in this take (08, R251) -/
  blocked : Bool
  /-- reel overflow since the last drain completion (08, R254) -/
  ovfC : Bool
  /-- a dropped record marks the words up to the next stamp (08, R234, R251) -/
  mark : Bool
  /-- the SINL tables latched at the arm, by 32 registers of stamper 0 and 32 of stamper 1 (10, R307) -/
  sinl : Tab Nat
  /-- the histogram of a stamper-INL pass, stamper * 256 + bin (10, R299) -/
  hist : Tab Nat
  /-- the reel's memory (08, R250) -/
  reel : Tab RWord
  deriving DecidableEq, Repr

def Cap.init : Cap :=
  { trans := 0, inputs := [false, false, false], quiet := 0, edgLo := 0, edgHi := 0, tAcc := none, lostAt := none, nextSt := 0, cal := none, since := 0, lastSlate := 0, qEnd := 0, preEnd := 0,
    n := 0, first := none, lastT := 0, lost := false, taint := false, ovf := false, blocked := false, ovfC := false, mark := false,
    sinl := [], hist := [], reel := [] }

/-- An arm of a take (08, R242): who asks, the group a select port names, whether a mailbox waits for DONE, the root of a cross-device
take (11, R346). -/
structure ArmReq where
  src : Src
  group : Option Nat
  wait : Bool
  root : Option Nat := none
  deriving DecidableEq, Repr

/-- A take's state that no register holds; the latched settings are those of its arm (08, R242). -/
structure Take where
  cfg : Nat
  count : Nat
  gate : Nat
  timeout : Nat
  raw : Bool
  drainWin : Bool
  chans : List Nat
  req : ArmReq
  /-- an arm that waits for queued regression solves (09, R282) -/
  waitArm : Option ArmReq
  /-- t_start and t_stop in ticks -/
  tstart : Option Int
  tstop : Option Int
  /-- a start command that is held: its source and K; and the count at which a take in ARMED observed it (08, R244) -/
  held : Option (Src × Nat)
  heldObs : Option Nat
  /-- the closing code -/
  code : Nat
  /-- the port that armed it has detached: no records (08, R249) -/
  drop : Bool
  /-- the group's epoch at the arm, and its changes since, time and new epoch, newest first (08, R247, R248) -/
  ep0 : Nat
  epochs : List (Int × Nat)
  /-- f_T,nom at the cycle of t_stop - 1 as a numerator in Hz over a denominator, and the last change before it (09, R279) -/
  fnum : Nat
  fden : Nat
  varAt : Option Nat
  /-- mailbox commands that complete when the take reaches DONE (14, R429): flow, submission count -/
  waiters : List (Nat × Nat)
  /-- the records of the last close: one per channel, then the completion (08, R247) -/
  recs : List Nat
  /-- how often alignment of the root had been voided at t_start, none: it was not aligned; alignment was voided before the close (11,
  R346) -/
  void0 : Option Nat
  voided : Bool
  /-- the place of the arm in the order of all reel writes; stamps and slates that wait for their order (08, R251) -/
  seq0 : Nat
  merge : List Merged
  deriving DecidableEq, Repr

def ArmReq.init : ArmReq := { src := .none, group := none, wait := false }
def Take.init : Take :=
  { cfg := 0, count := 1, gate := 1, timeout := 0, raw := false, drainWin := false, chans := [], req := ArmReq.init, waitArm := none,
    tstart := none, tstop := none, held := none, heldObs := none, code := 0, drop := false, ep0 := 0, epochs := [],
    fnum := 0, fden := 1, varAt := none, waiters := [],
    recs := [], void0 := none, voided := false, seq0 := 0, merge := [] }

/-- An open buffer of a drain ring (08, R254, R255): channel, address, length, cookie, words written, take and mode of
the first word, taint; the place of its last word in the order of all reel writes; that word is the last of a take that reached DONE. -/
structure Buf where
  ch : Nat
  addr : Nat
  len : Nat
  cookie : Nat
  words : Nat
  take : Nat
  raw : Bool
  taint : Bool
  seq : Nat := 0
  ended : Bool := false
  deriving DecidableEq, Repr

/-- A completion of a drain ring without its phase (08, R254). -/
structure RingComp where
  cookie : Nat
  words : Nat
  ch : Nat
  take : Nat
  flags : Nat
  deriving DecidableEq, Repr

/-- A drain ring's state that no register holds: open buffers by channel, the channel served last, completions that wait
for room, completions not yet signalled, channels counted as starved (08, R255 to R257). -/
structure Ring where
  bufs : List Buf
  served : Nat
  wait : List RingComp
  unsig : Nat
  starved : List Nat
  /-- GLB_MODE.DRAINWIN as it stood at the ring's start (01, R26) -/
  win : Bool
  deriving DecidableEq, Repr

def Ring.init : Ring := { bufs := [], served := 511, wait := [], unsig := 0, starved := [], win := false }

/-! ### Intervals and regression (09) -/

/-- A stamp as an interval unit takes it: its time, whether it is a start and a stop, its marks. -/
structure IvStamp where
  t : Int
  start : Bool
  stop : Bool
  taint : Bool
  lostb : Bool
  deriving DecidableEq, Repr

/-- An interval unit (09, R264 to R273): settings latched at the arm; stamps that wait for their order; the queues S and
Q, the armed start; x0, SUM, SQ, minimum and maximum; the FIFO, oldest first. -/
structure Iv where
  cfg : Nat
  ch : Nat
  held : List IvStamp
  qs : List IvStamp
  qq : List IvStamp
  armed : Option IvStamp
  formed : Bool
  x0 : Int
  mn : Int
  mx : Int
  sum : Int
  sq : Nat
  fifo : List Nat
  deriving DecidableEq, Repr

def Iv.init : Iv :=
  { cfg := 0, ch := 0, held := [], qs := [], qq := [], armed := none, formed := false, x0 := 0, mn := 0, mx := 0, sum := 0, sq := 0,
    fifo := [] }

/-- A channel's regression accumulators (09, R275 to R277): whether they run, DECIM + 1 and PREF as latched; the index
of the next stamp, t0, PREF_USED, the six sums, and the sums at the last gate end (R285). -/
structure Rg where
  on : Bool
  host : Bool
  decim : Nat
  pref : Nat
  k : Nat
  t0 : Int
  used : Int
  n : Nat
  sj : Nat
  sjj : Nat
  se : Int
  sje : Int
  see : Int
  fnum : Nat
  fden : Nat
  snap : List Int
  deriving DecidableEq, Repr

def Rg.init : Rg :=
  { on := false, host := false, decim := 1, pref := 0, k := 0, t0 := 0, used := 0, n := 0, sj := 0, sjj := 0, se := 0, sje := 0, see := 0,
    fnum := 0, fden := 1, snap := [0, 0, 0, 0, 0, 0] }

/-! ### Groups (04, 06, 07) -/

/-- An entry of a select buffer (07, R202). -/
structure Entry where
  slot : Nat
  first : Nat
  last : Nat
  stamp : Nat
  deriving DecidableEq, Repr

/-- A timing command for a group (06, R176, R177); a cycle of none is ASAP. -/
inductive TCmd where
  | start (t : Nat)
  | stop (k : Option Nat)
  | cue (slot ctx : Nat)
  | pcue (slot ctx epoch : Nat)
  | commit (epoch : Nat) (k : Option Nat)
  | cancel (epoch : Nat)
  deriving DecidableEq, Repr

/-- A timing command on its way: its number, itself, who asked, the hubs that have not reported, whether a hub has decoded
it and the refusal it found, corrections and void members so far, the records the hubs read for a CUE (06, R175, R186). -/
structure GOp where
  id : Nat
  cmd : TCmd
  src : Src
  waiting : List Nat
  checked : Bool
  refused : Option Nat
  ces : Nat
  voids : Nat
  data : List (Nat × Record × Bool)
  effect : Nat
  finished : Bool
  /-- of a loaded cue: the epoch and the count of its completion cycle (06, R185) -/
  epoch : Nat
  doneAt : Nat
  deriving DecidableEq, Repr

/-- The state of a group that no register holds. -/
structure Group where
  /-- T of an accepted START that the timebase has not reached (06, R176) -/
  start : Option Nat
  /-- the stop cycle of an accepted STOP; the members that have read it; the select buffer was flushed at that read (07, R207) -/
  stopAt : Option Nat
  stopSeen : List Nat
  flushed : Bool
  /-- the scheduled commit: K, its target epoch, who asked, corrections of none (06, R181) -/
  commit : Option (Nat × Nat × Src)
  /-- commands on their way, in order of arrival -/
  ops : List GOp
  nextId : Nat
  /-- INITSLOT in force, and writes of it that wait for their read time, (time, slot), latest first (06, R176) -/
  initCur : Nat
  initPend : List (Nat × Nat)
  /-- halt notices on their way to member hubs: hub, observing cycle (04, R122) -/
  notices : List (Nat × Nat)
  /-- a release of the halt was accepted, and the count at which (04, R124); the halt has not reached its cycle at the
  lowest-numbered member (R122) -/
  relAcc : Bool
  relAt : Nat
  haltDue : Bool
  /-- the select buffer, oldest first, and NEXT (07, R202) -/
  buf : List Entry
  next : Nat
  /-- an underrun episode is open, and the members in it that have not reached a covered cycle (07, R206) -/
  under : Bool
  underIn : List Nat
  /-- group cycles already counted late, or held (07, R204, R205) -/
  lateSeen : List Nat
  holdSeen : List Nat
  deriving DecidableEq, Repr

def Group.init : Group :=
  { start := none, stopAt := none, stopSeen := [], flushed := false, commit := none, ops := [], nextId := 0, initCur := 0, initPend := [],
    notices := [], relAcc := false, relAt := 0, haltDue := false, buf := [], next := 0, under := false, underIn := [], lateSeen := [], holdSeen := [] }

/-! ### Select ports (07) -/

/-- An item that a select port has taken in and not yet handled (07, R198, R202, R209, R214): a SELECT frame with its
stamp, a command, a control message. -/
inductive TspItem where
  | select (frame stamp : Nat)
  | cmd (v : Nat)
  | ctrl (v : Nat)
  deriving DecidableEq, Repr

/-- The state of a select port that no register holds. -/
structure Tsp where
  /-- items taken in, oldest first -/
  inbox : List TspItem
  /-- the last received SEQ since the numbering began; none: no frame yet (07, R199) -/
  rxLast : Option Nat
  /-- the outbound records that wait, oldest first, at most 4,096 (07, R213), each 128 bits -/
  results : List Nat
  /-- CTRL replies that wait, oldest first (07, R213, R214), each 128 bits -/
  replies : List Nat
  /-- SEQ of the next non-IDLE outbound frame, whether one has been sent (07, R199) -/
  txNext : Nat
  txAny : Bool
  /-- outbound frames since the last STATUS frame and since the last SKP ordered set (07, R196, R208) -/
  sinceStatus : Nat
  sinceSkp : Nat
  deriving DecidableEq, Repr

def Tsp.init : Tsp :=
  { inbox := [], rxLast := none, results := [], replies := [], txNext := 0, txAny := false, sinceStatus := 0, sinceSkp := 0 }

/-! ### Mailbox flows (14) -/

/-- Where a fetched command stands: it waits for a key or a fence, it is ready, a core has it, its effect is under way
and it waits for an event, it has finished (14, R424, R426, R427). -/
inductive CmdSt where
  | waiting | ready | running | started | finished
  deriving DecidableEq, Repr

/-- A buffer of a command that the device may not write yet, and what the command's completion will carry (14, R416, R431). -/
structure DataOut where
  addr : Nat
  bytes : List Nat
  code : Nat
  taint : Bool
  aux : Nat
  res : Nat
  deriving DecidableEq, Repr

/-- A fetched command: its number in order of fetching, its submission count, its 64 bytes as one little-endian number,
where it stands, its place and age in the ready list, its place among the commands that cores have taken, whether its cancellation was asked for while it ran, whether an
endpoint reset discards its completion, and what its completion will carry (14, R416, R421 to R427). -/
structure Cmd where
  id : Nat
  cnt : Nat
  entry : Nat
  st : CmdSt
  rdy : Nat
  age : Nat
  took : Nat
  cancel : Bool
  orphan : Bool
  code : Nat
  taint : Bool
  data : Bool
  aux : Nat
  res : Nat
  /-- a buffer that waits to be written before the command finishes -/
  hold : Option DataOut := none
  deriving DecidableEq, Repr

/-- The state of a mailbox flow that no register holds. -/
structure Flow where
  /-- commands fetched and not yet completed, in submission order -/
  cmds : List Cmd
  nextId : Nat
  /-- the core that last ran a command of the flow (14, R426) -/
  core : Option Nat
  /-- completions written and not yet signalled (14, R425) -/
  unsig : Nat
  /-- cancellations asked for commands not yet fetched (14, R427) -/
  cancels : List Nat
  /-- the small rings of the BAR4 page, bytes by page offset (14, R419) -/
  ring : Tab Nat
  deriving DecidableEq, Repr

def Flow.init : Flow := { cmds := [], nextId := 0, core := none, unsig := 0, cancels := [], ring := [] }

/-- The hardware scheduler (14, R426): the flow fetched last, the cores that ask, in order, the next places in the ready
list and among the commands taken. -/
structure Scheduler where
  turn : Nat
  asking : List Nat
  nextRdy : Nat
  nextTook : Nat
  deriving DecidableEq, Repr

def Scheduler.init : Scheduler := { turn := 63, asking := [], nextRdy := 0, nextTook := 0 }

/-! ### The PCIe endpoint and the error log (14) -/

/-- The endpoint's configuration state (14, R410, R416) and the error log's unsignalled records (14, R432). -/
structure Ep where
  bme : Bool
  d3hot : Bool
  msixEn : Bool
  fmask : Bool
  /-- error-log records written since the last event (14, R425, R432) -/
  elUnsig : Nat
  /-- RESDROP records: records dropped since the last one, by port (14, R433) -/
  resdrop : Tab Nat
  /-- records that wait while the device may not master the bus, oldest first: time, kind, unit, cycle, detail (14, R416, R435) -/
  elHeld : List (Nat × Nat × Nat × Nat × Nat) := []
  /-- Max Payload Size and Max Read Request Size in bytes (14, R410); no row of the table writes them -/
  mps : Nat := 128
  mrrs : Nat := 512
  /-- AER's severity of Completer Abort (true: fatal) and its status bit (14, R410, R414); no row of the table writes them -/
  caFatal : Bool := false
  caStatus : Bool := false
  deriving DecidableEq, Repr

/-- The endpoint after reset: the enables of its configuration header are 0 (PCI Express base specification). -/
def Ep.init : Ep := { bme := false, d3hot := false, msixEn := false, fmask := false, elUnsig := 0, resdrop := [] }

/-! ### Prailaom links and the board (11) -/

/-- A measurement of a link by its parent end (11, R335, R336): its root; why, 0 a write of PROBE, 1 BOARD_ALIGN,
2 tracking; the device that asked and the child; the probes; where it stands, 0 preconditions, 1 probes, 2 PROBEDATA,
3 correction; the stamps tA_tx and tA_rx; whether the batch met a retry; repeats; whether the child's banks were idle;
what it measured. -/
structure Meas where
  root : Nat
  why : Nat
  req : Nat
  child : Nat
  n : Nat
  phase : Nat
  tx : List Nat
  rx : List Nat
  spoilt : Bool
  tries : Nat
  idle : Bool
  data : List Int
  deriving DecidableEq, Repr

/-- The state of a port that no register holds (11, R330, R335): frames sent and not acknowledged, frames that wait, the
next SEQ, the resends of the oldest, frames since the last SKP ordered set, items delivered and not yet handled with their source, the
child end's stamps and the root it is measured on, the measurement. -/
structure Pl where
  unacked : List (Nat × LFrame)
  wait : List LFrame
  txNext : Nat
  resends : Nat
  sinceSkp : Nat
  inbox : List (Nat × LinkItem)
  stamps : List (Nat × Nat)
  child : Option Nat
  meas : Option Meas
  deriving DecidableEq, Repr

def Pl.init : Pl := { unacked := [], wait := [], txNext := 1, resends := 0, sinceSkp := 0, inbox := [], stamps := [], child := none, meas := none }

/-- A clapper that this device is to fire: root, count, originator, tag (11, R342). -/
structure Clap where
  root : Nat
  t : Nat
  org : Nat
  tag : Nat
  deriving DecidableEq, Repr

/-- A clapper that this device originated (11, R341, R344): who asked, masks of the devices asked, answered, fired
without alignment and late. -/
structure ClapReq where
  src : Src
  tag : Nat
  root : Nat
  t : Nat
  targets : Nat
  answered : Nat
  voided : Nat
  late : Nat
  deriving DecidableEq, Repr

/-- A synchronous hop that device 0 runs (11, R345). -/
structure XHopRun where
  f : Nat
  c : Nat
  tag : Nat
  root : Nat
  preset : Nat
  targets : Nat
  answered : Nat
  refuser : Option Nat
  code : Nat
  went : Bool
  deriving DecidableEq, Repr

/-- A device's answer in a cross-device take: its code, taint, whether its alignment was voided, its records. -/
structure XDone where
  code : Nat
  taint : Bool
  voided : Bool
  records : List Nat
  deriving DecidableEq, Repr

/-- A cross-device take that device 0 runs (11, R346): the pairs of device and take, the answers about alignment and to the arms, whether
the arms went out, T, the results. -/
structure XTakeRun where
  f : Nat
  c : Nat
  tag : Nat
  root : Nat
  pairs : List (Nat × Nat)
  asks : List (Option Nat)
  arms : List (Option Nat)
  armed : Bool
  t : Option Nat
  dones : List (Option XDone)
  deriving DecidableEq, Repr

/-- BOARD_ALIGN on device 0 (11, R336): devices left, the one that runs, masks of those aligned and not, the first failing
code, what the links measured. -/
structure AlignRun where
  f : Nat
  c : Nat
  root : Nat
  left : List Nat
  cur : Option Nat
  good : Nat
  bad : Nat
  code : Nat
  host : Bool
  data : List Int
  deriving DecidableEq, Repr

/-- A gathering of reports that this device takes part in (11, R333): who asked and with which number, the port it came by (none: this
device asked), the ports whose reports are to come, what the others reported; it is over. -/
structure Gather where
  org : Nat
  tag : Nat
  parent : Option Nat
  wait : List Nat
  devs : List Nat
  links : List (Nat × Nat × Nat × Nat)
  ended : Bool
  deriving DecidableEq, Repr

/-- The board-level work of this device's firmware (11). -/
structure Board where
  claps : List Clap
  reqs : List ClapReq
  xhops : List XHopRun
  xtakes : List XTakeRun
  aligns : List AlignRun
  /-- BOARD_ENUM commands that wait: flow, command -/
  enums : List (Nat × Nat)
  gathers : List Gather
  /-- links of the board known to be down, each by the device and port at its odd port (11, R347) -/
  broken : List (Nat × Nat)
  tag : Nat
  /-- synchronous hops that this device has answered OK and that have not gone or ended, by their numbers (11, R345) -/
  preps : List Nat := []
  deriving DecidableEq, Repr

def Board.init : Board := { claps := [], reqs := [], xhops := [], xtakes := [], aligns := [], enums := [], gathers := [], broken := [], tag := 0 }

/-! ### Power and PMBus (12) -/

/-- A power domain's sequence (12, R361): the state (0 OFF, 1 RETAIN, 2 ON) that the running or queued one heads for, the
request that waits, whether firmware keeps the domain's registers (R364), and a request that came during a change of the device
state, which waits for the change (R374). -/
structure Pd where
  target : Option Nat
  wait : Option Nat
  keep : Bool
  late : Option Nat := none
  deriving DecidableEq, Repr

def Pd.init : Pd := { target := none, wait := none, keep := false }

/-- The device state's change (12, R364 to R367): the stages of domain requests left, whose command it is, the registers
recorded, the state whose clock enables are in force, a wake that waits or runs (cause, port). -/
structure Pwr where
  plan : List (List (Nat × Nat))
  cmd : Option (Nat × Nat)
  saved : Tab Word
  clk : Nat
  wake : Option (Nat × Nat)
  waking : Option (Nat × Nat)
  /-- ticks within the present microsecond of PWR_AONNOW -/
  sub : Nat
  /-- the device state whose enable of the CPLL is in force: it follows `clk` when the domains have stopped (12, R357, R366) -/
  pll : Nat := 0
  /-- an XO gap came in the frequency window that runs (12, R352) -/
  xoCut : Bool := false
  /-- the control domains whose divider has an up-step in force (12, R356) -/
  up : List Nat := []
  /-- after the failure of the XO the AON multiplexer has not left it yet (12, R354, R358) -/
  aonBack : Bool := false
  /-- the serial ports whose select fell while PD83 was being sequenced (15, R458) -/
  selects : List Nat := []
  deriving DecidableEq, Repr

def Pwr.init : Pwr :=
  { plan := [], cmd := none, saved := [], clk := 0, wake := none, waking := none, sub := 0 }

/-- Why a PMBus transaction runs (12, R368 to R373). -/
inductive PmWhy where
  | init | poll | alert | avs
  /-- the read of a status byte after a STATUS_WORD, with the bytes before it -/
  | fault (st : Nat) (l : List Nat)
  | set (f c : Nat)
  | raw (f c : Nat)
  deriving DecidableEq, Repr

/-- A PMBus transaction: slot (8: the alert response address), kind of PMB_RAW, command, data, failures so far, why. -/
structure PmTx where
  slot : Nat
  kind : Nat
  cmd : Nat
  data : Nat
  fails : Nat
  why : PmWhy
  deriving DecidableEq, Repr

/-- The PMBus host and the adaptive loop (12): transactions, the first on the bus; whether V is known; updates since the last POLICY_CONFLICT record; PWR_AONNOW at the last urgent raise. -/
structure Pmb where
  q : List PmTx
  known : Bool
  since : Option Nat
  urgent : Option Nat
  /-- GLB_MODE.AVSHOST as the last update of the loop latched it (01, R26; 12, R371) -/
  host : Bool := false
  /-- the bounds in mV as the last update of the loop took them (12, R372) -/
  lo : Nat := 680
  hi : Nat := 820
  deriving DecidableEq, Repr

def Pmb.init : Pmb := { q := [], known := false, since := none, urgent := none }

/-! ### Boot, debug and JTAG (13, 17) -/

/-- A host access that waits: a write or a read of registers, a read of BAR2. -/
inductive HostReq where
  | write (a : Nat) (ws : List (Word × BitVec 4))
  | read (a n : Nat)
  | bar2 (off len : Nat)
  deriving DecidableEq, Repr

/-- Boot and debug (13): the sources that hold reset (1 power-on, 2 PERST#, 3 RESET_N); the fuse read is done; the slots
tried at LOAD; the slot of the key that signed the image that runs, its LOCKWIN; the length of a push; the challenge's
TARGET; an AUTH-OPEN entry that runs, by its path; THERMTRIP_N. -/
structure Boot where
  held : List Nat
  fuseRead : Bool
  tried : List Nat
  key : Nat
  lockwin : Bool
  push : Option Nat
  target : Nat
  entry : Option Nat
  therm : Bool
  /-- host accesses that wait for the end of an entry to AUTH-OPEN (13, R400) -/
  waits : List HostReq := []
  /-- the words of SEC_DBGRESP0 to 7 as last written (13, R399, R409) -/
  resp : Tab Word := []
  /-- the 16 KiB scratch memory of the SEC block by word, which is cleared before core 0 starts (13, R387) -/
  scratch : Tab Word := []
  /-- VDD_CH is absent while a power-on reset holds (17, R505) -/
  noCh : Bool := false
  deriving DecidableEq, Repr

def Boot.init : Boot :=
  { held := [], fuseRead := false, tried := [], key := 0, lockwin := false, push := none, target := 0, entry := none, therm := false }

/-- The test access port (13, R402): the instruction selected, the boundary cells, the DBGACC error bit, the cores halted. -/
structure Jtag where
  ir : Nat
  cells : List Bool
  err : Bool
  halted : List Nat
  deriving DecidableEq, Repr

/-- After Test-Logic-Reset IDCODE is selected (13, R402). -/
def Jtag.init : Jtag := { ir := 1, cells := [], err := false, halted := [] }

/-! ### Serial ports (15) -/

/-- A serial port (15): its FIFOs, oldest first; whether a master frame or a line fetch is in progress, the units left, RXEN
and the bits of a unit of its frame; a slave frame: its header,
whether it is served, the next map word, the data words so far, whether its status has been consumed; status bits that
wait (bits 6, 5 and 3); execute in place: lines held, oldest first, and reads that wait. -/
structure Spt where
  tx : List Nat
  rx : List Nat
  frame : Bool
  fetch : Bool
  left : Nat
  rxen : Bool
  len : Nat
  hdr : Option Nat
  served : Bool
  addr : Nat
  words : Nat
  used : Bool
  status : Nat
  lines : List (Nat × List Nat)
  want : List (Nat × Nat)
  /-- the units of the frame that have gone to the shifter and are not known to have left the device yet (15, R443, R453) -/
  line : List Nat := []
  deriving DecidableEq, Repr

def Spt.init : Spt :=
  { tx := [], rx := [], frame := false, fetch := false, left := 0, rxen := false, len := 8, hdr := none, served := false, addr := 0, words := 0, used := false, status := 0,
    lines := [], want := [] }

/-! ### Calibration (10) -/

/-- The settings of the take that firmware runs for a calibration pass on a channel (10, R296, R299, R301): the channel, what TKt_CFG, the
gate and COUNT would hold. -/
structure CalTake where
  ch : Nat
  cfg : Nat
  gate : Nat
  count : Nat
  deriving DecidableEq, Repr

/-- A calibration run (10, R290 to R304): its command, family and reference channel, its units with PATH in fs, the
channels and banks used, the declared edge rate, the pass, what the first pass measured by unit, the drive-path step, the mode
latched at the start, FREEZE of each bank and the channel registers before (R292), what its clocks and CALREF had done when it
began (R291); the takes of its passes. -/
structure CalRun where
  f : Nat
  c : Nat
  fam : Nat
  ref : Nat
  units : List (Nat × Int)
  chans : List Nat
  rate : Nat
  pass : Nat
  first : List (List Int)
  step : Nat
  host : Bool
  freeze : List (Nat × Nat)
  saved : List (Nat × Word)
  refMark : Nat
  marks : List Nat
  takes : List CalTake := []
  deriving DecidableEq, Repr

/-- A bank's tracker (10, R309, R311, R312): updates done, updates since its last POLICY_CONFLICT record, the outputs of
a DRIFT_SET that waits for the next update: flow, command, GC, OC. -/
structure Trk where
  u : Nat
  since : Option Nat
  want : List (Nat × Nat × Int × Int)
  deriving DecidableEq, Repr

def Trk.init : Trk := { u := 0, since := none, want := [] }

/-- What the ledger keeps of a root's calibration (10, R315): mean error in parts per 10^12, SYNn_REFFREQ and CALREF. -/
structure RootCal where
  ppb : Int
  khz : Nat
  ref : Nat
  deriving DecidableEq, Repr

def RootCal.init : RootCal := { ppb := 0, khz := 0, ref := 0 }

/-- A folio of the boot flash (10, R318): the bytes programmed from its first address on, whether its blocks are erased. -/
structure Folio where
  img : List Nat
  erased : Bool
  deriving DecidableEq, Repr

/-- Both folios are erased when the flash is new (DESIGN CHOICE: the manual gives no contents). -/
def Folio.init : Folio := { img := [], erased := true }

/-- Calibration as a whole: whether CALREF was declared absent in the present window (10, R289), how often the monitor has failed (R291), the run, trims on their
way by root, the trackers, the folios (0 A, 1 B), what the ledger keeps beside registers by root, bank (T-clock in kHz) and
port (far board), and the ledger last brought into force. -/
structure Cal where
  gap : Bool
  refFails : Nat
  run : Option CalRun
  trim : Tab (Option Int)
  trks : Tab Trk
  folios : Tab Folio
  roots : Tab RootCal
  khz : Tab Nat
  peer : Tab Nat
  ledger : List Nat
  deriving DecidableEq, Repr

def Cal.init : Cal :=
  { gap := false, refFails := 0, run := none, trim := [], trks := [], folios := [], roots := [], khz := [], peer := [], ledger := [] }

/-! ### The machine -/

/-- Why a command stops the model: the manual names nothing that stops the device, so there is no reason; every command answers a next
state. -/
inductive Fault where
  deriving DecidableEq, Repr

/-- Why a command has no meaning. Safe: the model stops. -/
inductive Refusal where
  /-- the row has no meaning yet (raised by no arm of `exec`: every row has one) -/
  | notModelled (mnemonic : String)
  deriving DecidableEq, Repr

/-- The whole machine. -/
structure State where
  /-- every register, by address; an unlisted one reads as its reset value -/
  regs : Tab Word
  roots : Tab Root
  banks : Tab Bank
  groups : Tab Group
  chans : Tab Chan
  /-- the context store by channel * 2048 + context, and the error pattern of each stored code word (06, R159 to R162) -/
  store : Tab Record
  storeErr : Tab Nat
  /-- the channels that a calibration run in progress uses (04, R110; 10, R291) -/
  calChans : List Nat
  caps : Tab Cap
  takes : Tab Take
  rings : Tab Ring
  /-- reel writes done, over all channels (08, R256) -/
  reelSeq : Nat
  ivs : Tab Iv
  rgs : Tab Rg
  /-- channels whose solves are queued, oldest first (09, R280) -/
  regQ : List Nat
  tsps : Tab Tsp
  flows : Tab Flow
  sched : Scheduler
  ep : Ep
  /-- the MSI-X table by dword (14, R436); the mask bit of each entry is 1 after reset -/
  msix : Tab Nat
  /-- the MSI-X pending bits by vector (14, R418) -/
  msixPend : Tab Bool
  /-- the fuse array by word, and what the fuse read of the last reset found (13, R379) -/
  fuses : Tab Word
  shadow : Tab Word
  pls : Tab Pl
  board : Board
  pds : Tab Pd
  pwr : Pwr
  pmb : Pmb
  boot : Boot
  jtag : Jtag
  /-- the Quorno RAM by word (13; 16, R477) -/
  quorno : Tab Word
  spts : Tab Spt
  cal : Cal
  /-- the ledger staging window by byte (16, R475) -/
  staging : Tab Nat
  /-- the commands that wait, first in first out -/
  pending : List Instr
  /-- how many free values have been drawn (the model's own) -/
  free : Nat
  /-- what left the device, newest first (the model's own record) -/
  out : List Output
  deriving DecidableEq, Repr

/-- The machine right after a power-on reset. -/
def State.reset : State :=
  { regs := [], roots := [], banks := [], groups := [], chans := [], store := [], storeErr := [], calChans := [],
    caps := [], takes := [], rings := [], reelSeq := 0, ivs := [], rgs := [], regQ := [],
    tsps := [], flows := [], sched := Scheduler.init, ep := Ep.init, msix := [], msixPend := [], fuses := [], shadow := [],
    pls := [], board := Board.init, pds := [], pwr := Pwr.init, pmb := Pmb.init, boot := Boot.init, jtag := Jtag.init, quorno := [],
    spts := [], cal := Cal.init, staging := [],
    pending := [], free := 0, out := [] }

end Sys2Proof.Machine
end

