-- ==== Sys2Proof/Machine/Ops.lean ====
section
/-! DEFINITION. The named operations over registers, units and what leaves the device, shared by every meaning. -/

set_option Elab.async false

namespace Sys2Proof.Machine

/-! ### Registers -/

/-- The word of the register at an address as it stands: the reset value where nothing else is listed (16, R473). -/
def State.word (s : State) (a : Nat) : Word := tabGet (resetWord a) s.regs a

/-- Put a whole register word. -/
def State.setWord (s : State) (a : Nat) (w : Word) : State :=
  { s with regs := tabSet (resetWord a) s.regs a w }

/-- The value of a field. -/
def State.get (s : State) (r : Ref) : Nat := (s.word r.addr).toNat / 2 ^ r.lo % 2 ^ r.len

/-- The field as a two's-complement number. -/
def State.geti (s : State) (r : Ref) : Int :=
  let v := s.get r
  if 2 ^ (r.len - 1) ≤ v then (v : Int) - (2 ^ r.len : Nat) else (v : Int)

/-- A word with one field replaced. -/
def fieldPut (w : Nat) (lo len v : Nat) : Nat :=
  w % 2 ^ lo + v % 2 ^ len * 2 ^ lo + w / 2 ^ (lo + len) * 2 ^ (lo + len)

/-- Put a field, truncated to its width. -/
def State.put (s : State) (r : Ref) (v : Nat) : State :=
  s.setWord r.addr (BitVec.ofNat 32 (fieldPut (s.word r.addr).toNat r.lo r.len v))

/-- An integer in two's complement of a width. -/
def wrapNat (len : Nat) (v : Int) : Nat := (v % ((2 ^ len : Nat) : Int)).toNat

/-- Put a signed field in two's complement. -/
def State.puti (s : State) (r : Ref) (v : Int) : State := s.put r (wrapNat r.len v)

/-- A flag of a register. -/
def State.bit (s : State) (r : Ref) : Bool := s.get r != 0

/-- A Bool as a field value. -/
def b2n (b : Bool) : Nat := if b then 1 else 0

/-- Count one more event in a counter that saturates at the largest value of its field (00, R14; 02, R69). -/
def State.inc (s : State) (r : Ref) : State := s.put r (min (s.get r + 1) (2 ^ r.len - 1))

/-- Count `k` more events in a saturating counter. -/
def State.incBy (s : State) (r : Ref) (k : Nat) : State := s.put r (min (s.get r + k) (2 ^ r.len - 1))

/-- Count in a counter that wraps (a count modulo the field). -/
def State.incWrap (s : State) (r : Ref) : State := s.put r (s.get r + 1)

/-- A 48-bit or 60-bit pair of registers as one number. -/
def State.pair (s : State) (lo hi : Ref) : Nat := s.get lo + s.get hi * 2 ^ 32

/-- Put a pair of registers. -/
def State.putPair (s : State) (lo hi : Ref) (v : Nat) : State := (s.put lo (v % 2 ^ 32)).put hi (v / 2 ^ 32)

/-! ### Written words -/

/-- A field of a written word. -/
def fld (w : Word) (lo len : Nat) : Nat := w.toNat / 2 ^ lo % 2 ^ len

/-- The field of a written word at the place of a register's field. -/
def at_ (w : Word) (r : Ref) : Nat := fld w r.lo r.len

/-- One bit of a written word. -/
def wbit (w : Word) (i : Nat) : Bool := fld w i 1 != 0

/-- A two's-complement number of a width from its bits. -/
def signed (len v : Nat) : Int := if 2 ^ (len - 1) ≤ v % 2 ^ len then ((v % 2 ^ len : Nat) : Int) - (2 ^ len : Nat) else ((v % 2 ^ len : Nat) : Int)

/-- What a write leaves in one field of a register by its access code (00, R11). `m` masks the written bits,
`locked` is the block's LOCK as it stood before the write (16, R471). -/
def fieldWrite (f : FieldSpec) (old w m : Nat) (locked : Bool) : Nat :=
  let o := old / 2 ^ f.lo % 2 ^ f.len
  let n := w / 2 ^ f.lo % 2 ^ f.len
  let k := m / 2 ^ f.lo % 2 ^ f.len
  let merged := Nat.lor (Nat.land n k) (Nat.land o (2 ^ f.len - 1 - k))
  match f.acc with
  | .rw | .rws => merged
  | .rwl => if locked then o else merged
  | .w1c => Nat.land o (2 ^ f.len - 1 - Nat.land n k)
  | .w1s => Nat.lor o (Nat.land n k)
  | .ro | .rc | .wo => o

/-- The word that a write leaves in a register with these fields. -/
def writeFields : List FieldSpec → Nat → Nat → Nat → Bool → Nat
  | [], old, _, _, _ => old
  | f :: fs, old, w, m, locked =>
    writeFields fs (fieldPut old f.lo f.len (fieldWrite f old w m locked)) w m locked

/-- Does a write reach an RWL field (00, R14)? -/
def reachesRwl (fs : List FieldSpec) (m : Nat) : Bool :=
  fs.any (fun f => decide (f.acc = .rwl) && (m / 2 ^ f.lo % 2 ^ f.len != 0))

/-- The LOCK bit that governs a register's RWL fields (16, R470); none where the block has no RWL field. -/
def lockOf (a : Nat) : Option Ref :=
  if a < 0x10000 then some GLB_CTRL_LOCK
  else if a < 0x20000 then some CLK_CTRL_LOCK
  else if a < 0x30000 then some PWR_CTRL_LOCK
  else if a < 0x40000 then some SEC_CTRL_LOCK
  else if a < 0x50000 then some MBX_CTRL_LOCK
  else if a < 0x80000 then none
  else if a < 0x90000 then some (SYN_CTRL_LOCK ((a - 0x80000) / 0x4000))
  else if a < 0xA0000 then some SEQ_GCTRL_LOCK
  else if a < 0xB0000 then some (BNK_ROOT_LOCK ((a - 0xA0000) / 0x2000))
  else if a < 0xC0000 then none
  else if a < 0xE0000 then some (TSP_CTRL_LOCK ((a - 0xC0000) / 0x4000))
  else if a < 0x110000 then none
  else if a < 0x120000 then some CAL_CTRL_LOCK
  else if a < 0x124000 then some (PRL_CTRL_LOCK ((a - 0x120000) / 0x1000))
  else if a < 0x130000 then none
  else if a < 0x134000 then some (SPT_CTRL_LOCK ((a - 0x130000) / 0x400))
  else if a < 0x140000 then none
  else if a < 0x150000 then some PMB_CTRL_LOCK
  else if a < 0x200000 then none
  else if a < 0x400000 then some (CH_CTRL_LOCK ((a - 0x200000) / 0x1000))
  else none

/-- Is the block of a register locked? -/
def State.locked (s : State) (a : Nat) : Bool :=
  match lockOf a with
  | none => false
  | some r => s.bit r

/-- All 32 bits of a word are written. -/
def fullMask : Nat := 0xFFFFFFFF

/-- A plain write of a register by the access codes of its fields, counting a write that reaches an RWL field of a
locked block once (00, R11, R14). -/
def State.writeReg (s : State) (a : Nat) (w : Word) (m : Nat) : State :=
  let fs := fieldsAt a
  let lk := s.locked a
  let s1 := s.setWord a (BitVec.ofNat 32 (writeFields fs (s.word a).toNat w.toNat m lk))
  if lk && reachesRwl fs m then s1.inc GLB_LOCKVIOL_COUNT else s1

/-- A write that another rule turns away whole counts all the same where it reaches an RWL field of a locked block (00, R14). -/
def State.noteLock (s : State) (a : Nat) : State :=
  if s.locked a && reachesRwl (fieldsAt a) fullMask then s.inc GLB_LOCKVIOL_COUNT else s

/-- The word of a register as a read returns it: its WO fields read 0 (00, R11). -/
def hideWo (fs : List FieldSpec) (w : Nat) : Nat := fs.foldl (fun u f => if f.acc = .wo then fieldPut u f.lo f.len 0 else u) w

/-- Clear every RC field of a register, as a read does after it has returned the value (00, R11; 16, R467). -/
def State.clearRc (s : State) (a : Nat) : State :=
  s.setWord a (BitVec.ofNat 32 ((fieldsAt a).foldl
    (fun w f => if f.acc = .rc then fieldPut w f.lo f.len 0 else w) (s.word a).toNat))


/-- What an MSI-X table dword keeps of a written word: the vector control has its mask bit only, the rest is reserved and reads 0
(00, R12; PRESUMED: the PCI Express specification's layout, in the manual's words 14, R436). -/
def msixKept (i w : Nat) : Nat := if i % 4 = 3 then w % 2 else w

/-- The reset value of an MSI-X table dword: 1 in the vector control of each entry, else 0 (PRESUMED: the PCI Express
base specification's reset of the mask bit). -/
def msixReset (i : Nat) : Nat := if i % 4 = 3 then 1 else 0

/-- The fuse word that the last fuse read found (13, R379). -/
def State.fuseShadow (s : State) (i : Nat) : Word := tabGet 0 s.shadow i

/-! ### What leaves the device -/

/-- Note what leaves. -/
def State.emit (s : State) (o : Output) : State := { s with out := o :: s.out }

/-- EXTEST, CLAMP or HIGHZ is selected: the covered balls follow the boundary cells, and the device neither drives nor
sees them (13, R402). -/
def State.pinsCut (s : State) : Bool := [3, 4, 5].contains s.jtag.ir

/-- Note what leaves by a ball that boundary scan covers. -/
def State.onBall (s : State) (o : Output) : State := if s.pinsCut then s else s.emit o

/-- Firmware's or the boot ROM's write of fields of one register, as a register write: a LOCK refuses it as it does everyone's (16, R470). -/
def State.fwWrite (s : State) (a : Nat) (l : List (Ref × Nat)) : State :=
  s.writeReg a (BitVec.ofNat 32 (l.foldl (fun w q => fieldPut w q.1.lo q.1.len q.2) (s.word a).toNat)) fullMask

/-- Draw the next free value: its number. -/
def State.draw (s : State) : State := { s with free := s.free + 1 }

end Sys2Proof.Machine
end

