-- ==== Sys2Proof/Machine/Flags.lean ====
section
/-! DEFINITION. Sticky flags, interrupt levels and MSI-X events (14_mailboxes_and_commands.md, R416 to R418). -/

set_option Elab.async false

namespace Sys2Proof.Machine

/-- The device may master the bus (14, R416). -/
def State.dmaOn (s : State) : Bool := s.ep.bme && !s.ep.d3hot

/-- Raise the event of a vector: send its MSI-X message, or hold it in its pending bit (14, R416, R418). -/
def State.irq (s : State) (v : Nat) : State :=
  if s.ep.msixEn = false then s
  else if s.ep.fmask || (tabGet (msixReset 3) s.msix (4 * v + 3) % 2 == 1) || !s.ep.bme || s.ep.d3hot then
    { s with msixPend := tabSet false s.msixPend v true }
  else s.emit (.msix v)

/-- Do two registers, flags and enables, share a 1? -/
def State.anyFlag (s : State) (flags enables : Nat) : Bool :=
  Nat.land (s.word flags).toNat (s.word enables).toNat != 0

/-- The level of a channel in its octet's vector (14, R417). -/
def State.chLevel (s : State) (n : Nat) : Bool :=
  s.anyFlag (CH_FLAGS n) (CH_IRQEN n) || s.anyFlag (CH_CFLAGS n) (CH_CIRQEN n) || s.anyFlag (CH_EFLAGS n) (CH_EIRQEN n)

/-- The level of an interrupt source (14, R417) for the sources whose level is read off registers. -/
def State.level (s : State) (v : Nat) : Bool :=
  if v < 128 then false
  else if v < 192 then (List.range 8).any (fun i => s.chLevel (8 * (v - 128) + i))
  else if v < 200 then s.anyFlag (BNK_FLAGS (v - 192)) (BNK_IRQEN (v - 192))
  else if v < 204 then s.anyFlag (SYN_FLAGS (v - 200)) (SYN_IRQEN (v - 200))
  else if v < 212 then s.anyFlag (TSP_FLAGS (v - 204)) (TSP_IRQEN (v - 204))
  else if v < 216 then s.anyFlag (PRL_FLAGS (v - 212)) (PRL_IRQEN (v - 212))
  else if v < 220 then (List.range 2).any (fun i => s.get (MBX_TKPEND_TK (2 * (v - 216) + i)) != 0)
  else if v = 222 then s.anyFlag PWR_FLAGS PWR_IRQEN
  else if v = 223 then s.anyFlag CLK_FLAGS CLK_IRQEN
  else if v = 224 then s.anyFlag PMB_FLAGS PMB_IRQEN
  else false

/-- After a change of flags or enables: raise the event if the source's level rose (14, R418). -/
def State.rose (s' : State) (v : Nat) (s : State) : State :=
  if s.level v = false ∧ s'.level v = true then s'.irq v else s'

/-- Set a sticky flag of a source with an interrupt vector. -/
def State.flag (s : State) (v : Nat) (r : Ref) : State := (s.put r 1).rose v s

def State.flagCh (s : State) (n : Nat) (r : Ref) : State := s.flag (128 + n / 8) r
def State.flagBnk (s : State) (b : Nat) (r : Ref) : State := s.flag (192 + b) r
def State.flagSyn (s : State) (n : Nat) (r : Ref) : State := s.flag (200 + n) r
def State.flagTsp (s : State) (p : Nat) (r : Ref) : State := s.flag (204 + p) r
def State.flagPrl (s : State) (p : Nat) (r : Ref) : State := s.flag (212 + p) r
def State.flagPwr (s : State) (r : Ref) : State := s.flag 222 r
def State.flagClk (s : State) (r : Ref) : State := s.flag 223 r
def State.flagPmb (s : State) (r : Ref) : State := s.flag 224 r

end Sys2Proof.Machine
end

