-- ==== Sys2Proof/Machine/Operands.lean ====
section
/-! DEFINITION. The forms of a request that reaches a BAR (14_mailboxes_and_commands.md, R412, R413; 16_register_map.md, R461,
R474, R476). Sizes beyond those and requests across 4 KiB cannot be formed under PCI Express. -/

set_option Elab.async false

namespace Sys2Proof.Machine

/-- A BAR2 read of any range: no PCI Express request crosses a 4 KiB boundary. -/
def bar2Request (off len : Nat) : Bool := decide (off < 0x4000000 ∧ off % 4096 + len ≤ 4096)

/-- A BAR2 request inside the context window. -/
def windowRequest (off len : Nat) : Bool := decide (off < 0x2000000 ∧ off % 4096 + len ≤ 4096)

/-- A BAR2 request to the staging window or beyond it. -/
def stagingRequest (off len : Nat) : Bool := decide (0x2400000 ≤ off ∧ off < 0x4000000 ∧ off % 4096 + len ≤ 4096)

/-- A request for registers: aligned dwords of BAR0 or of BAR4, and within 4 KiB, as PCI Express asks; a read is of at most
16 dwords (14, R413). -/
def regRequest (a n : Nat) : Bool :=
  decide (a % 4 = 0 ∧ 1 ≤ n ∧ n ≤ 64 ∧ a % 4096 + 4 * n ≤ 4096 ∧ (a < 0x1000000 ∨ (0x10000000 ≤ a ∧ a < 0x10100000)))

/-- The bytes that a dword's byte enables select, as (offset, byte). -/
def enabledBytes (off : Nat) (w : Word) (en : BitVec 4) : List (Nat × Nat) :=
  (List.range 4).filterMap (fun i => if en.getLsbD i then some (off + i, w.toNat / 2 ^ (8 * i) % 256) else none)

/-! ### Items of a Prailaom frame (11, R329, R332) -/

/-- KIND of a message. DESIGN CHOICE: which of 0x10 to 0x7F firmware uses for which of its own. -/
def itemKind : LinkItem → Nat
  | .ident _ _ _ _ => 0x01
  | .topo _ _ _ _ => 0x02
  | .probedata _ => 0x03
  | .clap _ _ _ _ _ => 0x04
  | .clapack _ _ _ => 0x05
  | .xhopprep _ _ _ => 0x06
  | .xhopgo _ _ _ _ => 0x06
  | .xhopack _ _ _ => 0x06
  | .xtakearm _ _ _ _ => 0x07
  | .xtakedone _ _ _ _ _ _ _ => 0x07
  | .alignvoid _ => 0x08
  | .message _ => 0x10

/-- How many items of 16 bytes a message takes: a byte for KIND and 15 for its payload (DESIGN CHOICE: the manual gives no payloads). -/
def itemCount : LinkItem → Nat
  | .topo _ _ _ links => 1 + links.length
  | .probedata st => max 1 st.length
  | .xtakedone _ _ _ _ _ _ recs => 1 + 2 * recs.length
  | .message (.reports _ _ devs links) => 1 + devs.length + links.length
  | .message (.alignInfo _ _ settings _) => 1 + settings.length
  | .message (.alignResult _ _ _ data) => 1 + data.length
  | _ => 1

/-- The used items of a frame, 16 bytes each: bytes 4 to 243 hold 15, and one whose KIND, its byte 0, is 0x00 ends them (11, R329). -/
def frameItems (frame : Nat) : List Nat :=
  ((List.range 15).map (fun i => frame / 2 ^ (32 + 128 * i) % 2 ^ 128)).takeWhile (fun v => v % 256 != 0)

/-- The messages that firmware reads out of a frame end in items of the frame, in their order. -/
def itemsRead (frame : Nat) (items : List LinkItem) : Bool :=
  (items.map itemKind).isSublist ((frameItems frame).map (fun v => v % 256))

end Sys2Proof.Machine
end

