-- ==== Sys2Proof/Machine/Post.lean ====
section
/-! DEFINITION. The error log, the arithmetic of the manual, units, link items and completions: operations that every meaning
shares. -/

set_option Elab.async false

namespace Sys2Proof.Machine

/-- A number as `n` bytes, little-endian (00, R9). -/
def leBytes : Nat → Nat → List Nat
  | 0, _ => []
  | n + 1, v => v % 256 :: leBytes n (v / 256)

/-- Little-endian bytes as a number (00, R9). -/
def ofLe : List Nat → Nat
  | [] => 0
  | b :: t => b % 256 + 256 * ofLe t

/-- Places of the error log (14, R432, R438). -/
def State.logSize (s : State) : Nat := 2 ^ max 4 (min 16 (s.get MBX_ELCTRL_LOG))

/-- A record goes to MBX_ELHEAD; vector 221 by coalescing (14, R432). -/
def State.logWrite (s : State) (time kind unit cycle detail : Nat) : State :=
  let head := s.get MBX_ELHEAD_CNT
  let size := s.logSize
  let phase := if head / size % 2 = 0 then 128 else 0
  let rec_ := leBytes 4 time ++ [kind % 256, phase] ++ leBytes 2 unit ++ leBytes 6 cycle ++ leBytes 2 detail
  let base := s.get MBX_ELBASELO_ADDR / 16 * 16 + s.get MBX_ELBASEHI_ADDR * 2 ^ 32
  let s1 := (s.emit (.dma (base + head % size * 16) rec_)).incWrap MBX_ELHEAD_CNT
  let u := s1.ep.elUnsig + 1
  if max 1 (s1.get MBX_ELCTRL_COAL) ≤ u then ({ s1 with ep := { s1.ep with elUnsig := 0 } }).irq 221
  else { s1 with ep := { s1.ep with elUnsig := u } }

/-- Post a record to the error log: written while the log is on and has room, else counted in MBX_ELDROP (14, R432); while the device
may not master the bus it waits (14, R416, R435). -/
def State.log (s : State) (kind unit cycle detail : Nat) : State :=
  let used := (s.get MBX_ELHEAD_CNT + 2 ^ 32 - s.get MBX_ELTAIL_CNT) % 2 ^ 32
  if s.get MBX_ELCTRL_EN = 0 ∨ s.logSize ≤ used + s.ep.elHeld.length then s.inc MBX_ELDROP_COUNT
  else if s.dmaOn then s.logWrite (s.get PWR_AONNOW_US) kind unit cycle detail
  else { s with ep := { s.ep with elHeld := s.ep.elHeld ++ [(s.get PWR_AONNOW_US, kind, unit, cycle, detail)] } }

/-- A record that waited is written. -/
def State.logHeld (s : State) (q : Nat × Nat × Nat × Nat × Nat) : State := s.logWrite q.1 q.2.1 q.2.2.1 q.2.2.2.1 q.2.2.2.2

/-- The records that waited are written, oldest first. -/
def State.logFlush (s : State) : State :=
  if s.dmaOn then
    s.ep.elHeld.foldl State.logHeld { s with ep := { s.ep with elHeld := [] } }
  else s

/-! ### Arithmetic of the manual -/

/-- round(a / b) to the nearest integer. The manual names no rule for an exact half: whether it goes up is the free
value `Config.tieUp`. -/
def roundDiv (a b : Nat) : Nat :=
  if 2 * (a % b) = b ∧ b ≠ 0 then (if Config.tieUp a b then a / b + 1 else a / b) else (2 * a + b) / (2 * b)

/-- round(a / b) of a signed number, by its magnitude. -/
def roundDivI (a : Int) (b : Nat) : Int :=
  if a < 0 then -((roundDiv a.natAbs b : Nat) : Int) else ((roundDiv a.natAbs b : Nat) : Int)

/-- The bits of an integer square root, from the top. -/
def isqrtGo : Nat → Nat → Nat → Nat
  | 0, _, r => r
  | k + 1, v, r => let r1 := r + 2 ^ k; if r1 * r1 ≤ v then isqrtGo k v r1 else isqrtGo k v r

/-- The integer square root. -/
def isqrt (v : Nat) : Nat := isqrtGo (v.log2 / 2 + 1) v 0

/-- sqrt(a / b) rounded to the nearest integer; an exact half is the free value `Config.tieUp`. -/
def roundSqrt (a b : Nat) : Nat :=
  let q := isqrt (4 * a / b)
  if q % 2 = 1 ∧ q * q * b = 4 * a then (if Config.tieUp q 2 then (q + 1) / 2 else q / 2) else (q + 1) / 2

/-- A result as a field of a width shows it; a result too large is the free value `Config.outOfRange`. -/
def inFormat (len v : Nat) : Nat := if v < 2 ^ len then v else Config.outOfRange v % 2 ^ len

/-- A signed result as a field of a width shows it; a result that does not fit is the free value `Config.outOfRange`. -/
def showSigned (len : Nat) (v : Int) : Nat :=
  if -(2 ^ (len - 1) : Int) ≤ v ∧ v < 2 ^ (len - 1) then wrapNat len v else Config.outOfRange v.natAbs % 2 ^ len

/-- div of the manual: toward zero (03, R88). -/
def tdiv (a b : Int) : Int := Int.tdiv a b

/-- -1, 0 or 1. -/
def sgn (a : Int) : Int := if 0 < a then 1 else if a < 0 then -1 else 0

/-- Saturate to a symmetric bound. -/
def satSym (m : Nat) (v : Int) : Int := if (m : Int) < v then m else if v < -(m : Int) then -(m : Int) else v

/-- Is a power domain ON (12, R359, R377)? -/
def State.domOn (s : State) (j : Nat) : Bool := s.get (PWR_PDSTAT_STATE j) == 2

/-! ### Units -/

def State.root (s : State) (n : Nat) : Root := tabGet Root.init s.roots n
def State.setRoot (s : State) (n : Nat) (x : Root) : State := { s with roots := tabSet Root.init s.roots n x }
def State.modRoot (s : State) (n : Nat) (f : Root → Root) : State := s.setRoot n (f (s.root n))
def State.bank (s : State) (n : Nat) : Bank := tabGet Bank.init s.banks n
def State.setBank (s : State) (n : Nat) (x : Bank) : State := { s with banks := tabSet Bank.init s.banks n x }
def State.modBank (s : State) (n : Nat) (f : Bank → Bank) : State := s.setBank n (f (s.bank n))
def State.group (s : State) (n : Nat) : Group := tabGet Group.init s.groups n
def State.setGroup (s : State) (n : Nat) (x : Group) : State := { s with groups := tabSet Group.init s.groups n x }
def State.modGroup (s : State) (n : Nat) (f : Group → Group) : State := s.setGroup n (f (s.group n))
def State.chan (s : State) (n : Nat) : Chan := tabGet Chan.init s.chans n
def State.setChan (s : State) (n : Nat) (x : Chan) : State := { s with chans := tabSet Chan.init s.chans n x }
def State.modChan (s : State) (n : Nat) (f : Chan → Chan) : State := s.setChan n (f (s.chan n))
def State.tsp (s : State) (n : Nat) : Tsp := tabGet Tsp.init s.tsps n
def State.setTsp (s : State) (n : Nat) (x : Tsp) : State := { s with tsps := tabSet Tsp.init s.tsps n x }
def State.modTsp (s : State) (n : Nat) (f : Tsp → Tsp) : State := s.setTsp n (f (s.tsp n))
def State.flow (s : State) (n : Nat) : Flow := tabGet Flow.init s.flows n
def State.setFlow (s : State) (n : Nat) (x : Flow) : State := { s with flows := tabSet Flow.init s.flows n x }
def State.modFlow (s : State) (n : Nat) (f : Flow → Flow) : State := s.setFlow n (f (s.flow n))

def State.cap (s : State) (n : Nat) : Cap := tabGet Cap.init s.caps n
def State.setCap (s : State) (n : Nat) (x : Cap) : State := { s with caps := tabSet Cap.init s.caps n x }
def State.modCap (s : State) (n : Nat) (f : Cap → Cap) : State := s.setCap n (f (s.cap n))
def State.take (s : State) (n : Nat) : Take := tabGet Take.init s.takes n
def State.setTake (s : State) (n : Nat) (x : Take) : State := { s with takes := tabSet Take.init s.takes n x }
def State.modTake (s : State) (n : Nat) (f : Take → Take) : State := s.setTake n (f (s.take n))
def State.ring (s : State) (n : Nat) : Ring := tabGet Ring.init s.rings n
def State.setRing (s : State) (n : Nat) (x : Ring) : State := { s with rings := tabSet Ring.init s.rings n x }
def State.modRing (s : State) (n : Nat) (f : Ring → Ring) : State := s.setRing n (f (s.ring n))
def State.iv (s : State) (n : Nat) : Iv := tabGet Iv.init s.ivs n
def State.setIv (s : State) (n : Nat) (x : Iv) : State := { s with ivs := tabSet Iv.init s.ivs n x }
def State.modIv (s : State) (n : Nat) (f : Iv → Iv) : State := s.setIv n (f (s.iv n))
def State.pl (s : State) (n : Nat) : Pl := tabGet Pl.init s.pls n
def State.setPl (s : State) (n : Nat) (x : Pl) : State := { s with pls := tabSet Pl.init s.pls n x }
def State.modPl (s : State) (n : Nat) (f : Pl → Pl) : State := s.setPl n (f (s.pl n))
def State.pd (s : State) (n : Nat) : Pd := tabGet Pd.init s.pds n
def State.setPd (s : State) (n : Nat) (x : Pd) : State := { s with pds := tabSet Pd.init s.pds n x }
def State.modPd (s : State) (n : Nat) (f : Pd → Pd) : State := s.setPd n (f (s.pd n))
def State.spt (s : State) (n : Nat) : Spt := tabGet Spt.init s.spts n
def State.setSpt (s : State) (n : Nat) (x : Spt) : State := { s with spts := tabSet Spt.init s.spts n x }
def State.modSpt (s : State) (n : Nat) (f : Spt → Spt) : State := s.setSpt n (f (s.spt n))
def State.rg (s : State) (n : Nat) : Rg := tabGet Rg.init s.rgs n
def State.setRg (s : State) (n : Nat) (x : Rg) : State := { s with rgs := tabSet Rg.init s.rgs n x }
def State.modRg (s : State) (n : Nat) (f : Rg → Rg) : State := s.setRg n (f (s.rg n))

/-! ### Link items (11, R329 to R331, R347) -/

/-- This device's board ID; items between its own firmware's tasks stand in the inbox numbered 4. -/
def State.me (s : State) : Nat := s.get PRL_BDID_ID
def loopback : Nat := 4

/-- Does a link carry frames: UP or RECOVER? -/
def State.linkServes (s : State) (p : Nat) : Bool := decide (4 ≤ s.get (PRL_STAT_LSTATE p))

/-- The header of a link frame (11, R329). -/
def linkHeader (type dst src seq ack : Nat) (bcast : Bool) : Nat :=
  type * 2 ^ 28 + dst % 16 * 2 ^ 24 + src % 16 * 2 ^ 20 + seq % 256 * 2 ^ 12 + ack % 256 * 2 ^ 4 + b2n bcast * 2 ^ 3

/-- The 256 bytes of a link frame: its header, its items in bytes 4 to 243, zeros, the CRC (11, R329). -/
def linkBytes (h : Nat) (raw : List Nat) : List Nat :=
  let b := leBytes 4 h ++ (List.range 15).flatMap (fun i => leBytes 16 (raw.getD i 0)) ++ leBytes 8 0
  b ++ leBytes 4 (crc32 b)

/-- A frame leaves a port; after every 23 frames a SKP ordered set follows (07, R196; 11, R328). -/
def State.sendFrame (s : State) (p h : Nat) (raw : List Nat) : State :=
  let skp := decide (23 ≤ (s.pl p).sinceSkp + 1)
  let s1 := (s.modPl p (fun x => { x with sinceSkp := if skp then 0 else x.sinceSkp + 1 })).emit (.linkFrame p (linkBytes h raw))
  if skp then s1.emit (.linkSkp p) else s1

/-- A DATA frame leaves a port with its SEQ; every frame carries the current ACK (11, R330). -/
def State.sendData (s : State) (p seq : Nat) (fr : LFrame) : State :=
  s.sendFrame p (linkHeader 1 fr.dst fr.src seq (s.get (PRL_STAT_RXSEQ p)) fr.bcast) fr.raw

/-- An IDLE frame, which carries nothing but the ACK (11, R330). -/
def State.sendIdle (s : State) (p : Nat) : State := s.sendFrame p (linkHeader 0 0 0 0 (s.get (PRL_STAT_RXSEQ p)) false) []

/-- Frames that wait leave while the link is UP and fewer than 64 are unacknowledged (11, R330). -/
def State.txPump (s : State) (p : Nat) : Nat → State
  | 0 => s
  | k + 1 =>
    let x := s.pl p
    match x.wait with
    | [] => s
    | fr :: rest =>
      if s.get (PRL_STAT_LSTATE p) = 4 ∧ x.unacked.length < 64 then
        ((s.setPl p { x with wait := rest, unacked := x.unacked ++ [(x.txNext, fr)], txNext := (x.txNext + 1) % 256 }).sendData
          p x.txNext fr).txPump p k
      else s

/-- A frame is given to a port. -/
def State.txFrame (s : State) (p : Nat) (fr : LFrame) : State :=
  (s.modPl p (fun x => { x with wait := x.wait ++ [fr] })).txPump p ((s.pl p).wait.length + 1)

/-- The items of a message, each with its KIND in byte 0 (11, R329, R332). -/
def itemRaw (i : LinkItem) : List Nat := (List.range (itemCount i)).map (fun j => itemKind i + 256 * (Config.itemWord i j).toNat)

/-- The frames that carry a message, at most 15 items each; it ends in the last. -/
def framesOf (dst src : Nat) (bcast : Bool) (i : LinkItem) : List LFrame :=
  let n := (itemCount i + 14) / 15
  (List.range n).map (fun q => { dst := dst, src := src, bcast := bcast, items := if q + 1 = n then [i] else [], raw := ((itemRaw i).drop (15 * q)).take 15 })

/-- A message is given to a port. -/
def State.txItem (s : State) (p dst : Nat) (bcast : Bool) (i : LinkItem) : State :=
  (framesOf dst s.me bcast i).foldl (fun u fr => u.txFrame p fr) s

/-- What an item that could not be routed brings back to its originator: its answer with LINK_DOWN where the originator waits for one, else
the bare failure (11, R347). -/
def downReply (dst : Nat) (i : LinkItem) : LinkItem :=
  match i with
  | .xhopprep _ _ tag => .xhopack dst tag Code.LINK_DOWN
  | .xhopgo _ _ _ tag => .xhopack dst tag Code.LINK_DOWN
  | .xtakearm _ _ tag idx => .message (.armed dst tag idx Code.LINK_DOWN)
  | .message (.alignedAsk _ tag idx) => .message (.alignedIs dst tag idx Code.LINK_DOWN)
  | .message (.alignChild root dev) => .message (.alignResult root dev Code.LINK_DOWN [])
  | .message (.alignAsk root) => .message (.corrected root Code.LINK_DOWN)
  | .message (.correct root _ _ _ _) => .message (.corrected root Code.LINK_DOWN)
  | _ => .message (.failed dst (itemKind i))

/-- A message is itself the report of a failure: none is sent about it. -/
def itemFailure : LinkItem → Bool
  | .message (.failed _ _) => true
  | _ => false

/-- An item is delivered to this device's firmware. -/
def State.deliverItem (s : State) (p src : Nat) (i : LinkItem) : State := s.modPl p (fun x => { x with inbox := x.inbox ++ [(src, i)] })

/-- The port that leads to a device, by the topology and the links known to be down: the routing table (11, R331, R333, R347). DESIGN
CHOICE: a device that has no table since its reset sends to a neighbour directly and anything else by its lowest identified link, so that it
answers what names it. -/
def State.portTo (s : State) (dst : Nat) : Option Nat :=
  if s.get PRL_ENUM_NDEV = 0 then
    let l := (List.range 4).filter (fun p => s.bit (PRL_STAT_IDENT p) && s.linkServes p)
    match l.find? (fun p => s.get (PRL_STAT_PEERID p) == dst) with
    | some p => some p
    | none => l.head?
  else routePort (s.get PRL_ENUM_TOPO) (s.get PRL_ENUM_NDEV) s.me dst s.board.broken s.linkServes

/-- A frame that no port can take: the messages that end in it fail to their originator. -/
def State.failFrame (s : State) (fr : LFrame) : State :=
  (fr.items.filter (fun i => !itemFailure i)).foldl (fun u i =>
    let r := downReply fr.dst i
    if fr.src = u.me then u.deliverItem loopback fr.dst r
    else match u.portTo fr.src with
      | none => u
      | some q => u.txItem q fr.src false r) s

/-- A frame goes on its way to its destination (11, R331). -/
def State.routeFrame (s : State) (fr : LFrame) : State :=
  match s.portTo fr.dst with
  | none => s.failFrame fr
  | some p => s.txFrame p fr

/-- An item for a device; one for this device itself is delivered at once. -/
def State.sendItem (s : State) (dst : Nat) (i : LinkItem) : State :=
  if dst = s.me then s.deliverItem loopback s.me i else (framesOf dst s.me false i).foldl (fun u fr => u.routeFrame fr) s

/-- A broadcast goes out on every link of the tree but the one that it came by (11, R331, R347). -/
def State.castFrame (s : State) (fr : LFrame) (but : Option Nat) : State :=
  ((castPorts (s.get PRL_ENUM_TOPO) (s.get PRL_ENUM_NDEV) s.board.broken s.me).filter (fun p => but != some p && s.linkServes p)).foldl
    (fun u p => u.txFrame p fr) s

/-- Broadcast an item of this device's own. -/
def State.broadcast (s : State) (i : LinkItem) : State := (framesOf 15 s.me true i).foldl (fun u fr => u.castFrame fr none) s

/-! ### Completions -/

/-- A RESULT record (07, R212) as one 128-bit number. -/
def resultRecord (kind g : Nat) (taint : Bool) (tag epoch code body : Nat) : Nat :=
  kind % 256 * 2 ^ 120 + g % 64 * 2 ^ 114 + b2n taint * 2 ^ 113 + tag % 2 ^ 16 * 2 ^ 96 + epoch % 2 ^ 16 * 2 ^ 80
    + code % 256 * 2 ^ 72 + body % 2 ^ 72

/-- The body of a command completion: effect cycle, members, void members, corrections, the last two saturating at
127 (07, R212). -/
def completionBody (cyc members voids ces : Nat) : Nat :=
  cyc % 2 ^ 48 * 2 ^ 24 + members % 1024 * 2 ^ 14 + min 127 voids * 2 ^ 7 + min 127 ces

/-- Outbound items of a port are discarded and counted (07, R213, R219). -/
def State.dropRecords (s : State) (p k : Nat) : State :=
  if k = 0 then s
  else
    let s1 := (s.incBy (TSP_RESDROP_COUNT p) k).flagTsp p (TSP_FLAGS_RESDROP p)
    { s1 with ep := { s1.ep with resdrop := tabSet 0 s1.ep.resdrop p (tabGet 0 s1.ep.resdrop p + k) } }

/-- Queue a record for a port; a full queue of 4,096 discards it and posts RESDROP with the records dropped since the last
such record (07, R213; 14, R433). A port in neither UP nor RECOVER has no queue. -/
def State.pushResult (s : State) (p rec_ : Nat) : State :=
  let q := (s.tsp p).results
  if s.get (TSP_STAT_LSTATE p) < 4 then s.dropRecords p 1
  else if q.length < 4096 then s.modTsp p (fun x => { x with results := q ++ [rec_] })
  else
    let s1 := s.dropRecords p 1
    let k := min 65535 (tabGet 0 s1.ep.resdrop p)
    ({ s1 with ep := { s1.ep with resdrop := tabSet 0 s1.ep.resdrop p 0 } }).log 0x07 p 0 k

/-- Finish a mailbox command with what its completion will carry (14, R423, R425). One whose completion an endpoint
reset discards is gone (14, R416). -/
def State.finishCmd (s : State) (f c code : Nat) (taint data : Bool) (aux res : Nat) : State :=
  s.modFlow f (fun x => { x with cmds := (x.cmds.filter (fun k => !(k.id == c && k.orphan))).map (fun k =>
    if k.id = c ∧ k.st ≠ .finished then
      { k with st := .finished, code := code, taint := taint, data := data, aux := aux, res := res } else k) })

/-- Write a command's buffer and finish it; while the device may not master the bus the command waits with it (14, R416, R431). One whose
completion an endpoint reset discards writes nothing. -/
def State.finishData (s : State) (f c : Nat) (d : DataOut) : State :=
  if (s.flow f).cmds.any (fun k => k.id == c && k.orphan) then s.finishCmd f c d.code d.taint true d.aux d.res
  else if s.dmaOn then (s.emit (.dma d.addr d.bytes)).finishCmd f c d.code d.taint true d.aux d.res
  else s.modFlow f (fun x => { x with cmds := x.cmds.map (fun k => if k.id = c then { k with hold := some d } else k) })

/-- The buffer of a command that waited with it is written. -/
def State.flushCmd (f : Nat) (s : State) (k : Cmd) : State :=
  match k.hold with
  | some d => if k.st = .finished then s else s.finishData f k.id d
  | none => s

/-- The buffers of a flow's commands. -/
def State.flushFlow (s : State) (p : Nat × Flow) : State := p.2.cmds.foldl (State.flushCmd p.1) s

/-- The buffers that waited are written. -/
def State.dataFlush (s : State) : State :=
  if s.dmaOn then
    s.flows.foldl State.flushFlow s
  else s

/-- Is a channel a member of a group? -/
def State.isMember (s : State) (g n : Nat) : Bool := s.bit (CH_GRP_MEMBER n) && s.get (CH_GRP_GROUP n) == g

/-- The members of a group, in order. -/
def State.members (s : State) (g : Nat) : List Nat := (List.range 512).filter (fun n => s.isMember g n)

/-- Complete a request to whoever asked, with an effect cycle, the members of a port's group (07, R212) and nothing else to report. For a mailbox command `res`
is its RESULT. -/
def State.answer (s : State) (src : Src) (code cyc res : Nat) : State :=
  match src with
  | .none => s
  | .port p g tag => s.pushResult p (resultRecord 0x01 g false tag (s.get (GRP_EPOCH_EPOCH g)) code (completionBody cyc (s.members g).length 0 0))
  | .gone p => s.dropRecords p 1
  | .flow f c => s.finishCmd f c code false false 0 res
  | .link dev tag => s.sendItem dev (.xhopack s.me tag code)
  | .xtake dev tag idx => s.sendItem dev (.message (.armed s.me tag idx code))

/-! ### Shared conditions -/

/-- Access profile O (13, R403, R404): VENDOR or RETURN with the debug state OPEN. -/
def State.profileO (s : State) : Bool :=
  (s.get SEC_LCSTATE_LC == 1 || s.get SEC_LCSTATE_LC == 3) && s.get SEC_LCSTATE_DBG == 2

/-- Root n is no longer aligned, for a reason (11, R340); the master tells the other devices. -/
def State.alignVoid (s : State) (n why : Nat) : State :=
  let s0 := s.modRoot n (fun r => { r with voids := r.voids + s.get (PRL_ALIGN_ALIGNED n) })
  let s1 := (s0.put (PRL_ALIGN_ALIGNED n) 0).put (PRL_ALIGN_WHY n) why
  if s.bit PRL_TREE_MASTER then s1.broadcast (.alignvoid n) else s1

/-- The device has reached READY (13, R387; 14, R415). -/
def State.ready (s : State) : Bool := s.get SEC_BOOTSTAT_STAGE == 9

/-- An aborted host request to an address of a BAR (14, R414): Completer Abort for a request that is not posted, a posted write discarded;
counted, and reported through AER at the severity set. -/
def State.abortReq (s : State) (bar off : Nat) (posted : Bool) : State :=
  let s1 := ((s.inc MBX_ABORTCNT_COUNT).put MBX_ABORTADDR_BAR bar).put MBX_ABORTADDR_OFF off
  { s1 with ep := { s1.ep with caStatus := true } }.emit (.abort off posted s.ep.caFatal)

end Sys2Proof.Machine
end

