-- ==== Sys2Proof/Machine/Access.lean ====
section
/-! DEFINITION. Which accesses to registers are served (12, R359, R363, R367; 13, R400, R403; 14, R413 to R415; 16, R462, R468, R469,
R477): shared by REGISTER_WRITE and RC_READ, by the windows, and by every row that is the write or the read of a register of its own. -/

set_option Elab.async false

namespace Sys2Proof.Machine

/-! ### Who may reach a BAR (12, R367; 13, R403; 14, R415, R416) -/

/-- No source holds the device in reset (13, R385; 17, R481). -/
def State.freed (s : State) : Bool := s.boot.held.isEmpty

/-- The endpoint is up: the device is out of reset and in boot stage CLOCKS or past it, the endpoint is not held in reset (SCRAPPED). -/
def State.epUp (s : State) : Bool := s.freed && decide (3 ≤ s.get SEC_BOOTSTAT_STAGE) && s.get SEC_LCSTATE_LC != 4

/-- Does a memory request of the host reach the BARs at all: the endpoint is up and the function is in D0? -/
def State.hostReaches (s : State) : Bool := s.epUp && !s.ep.d3hot

/-- A host's memory request that does not reach the BARs: in D3hot it is answered Unsupported Request (14, R416, R435). -/
def State.missed (s : State) (src : Source) (a : Nat) : State := if src = .host ∧ s.epUp ∧ s.ep.d3hot then s.emit (.unsupported a) else s

/-- Boot profile F (13, R403, R404): every BAR access completes with an error response. -/
def State.profileF (s : State) : Bool := s.get SEC_LCSTATE_LC == 0

inductive Profile where
  | F | S | A | O | X
  deriving DecidableEq, Repr

/-- The access profile (13, R403, R404). -/
def State.profile (s : State) : Profile :=
  if s.get SEC_LCSTATE_LC = 0 then .F
  else if s.get SEC_LCSTATE_LC = 4 then .X
  else if s.get SEC_LCSTATE_DBG = 1 then .A
  else if s.get SEC_LCSTATE_DBG = 2 then .O
  else .S

/-- What SECACC may do. -/
def secaccOk (p : Profile) (a : Nat) (wr : Bool) : Bool :=
  match p with
  | .F => !wr
  | .S | .A => !wr || a == SEC_DBGCTRL || decide (SEC_DBGRESP 0 ≤ a ∧ a < SEC_DBGRESP 8)
  | .O => true
  | .X => !wr && a == SEC_LCSTATE

/-- An instruction of the test access port is selected. -/
def State.tap (s : State) (ir : Nat) : State := { s with jtag := { s.jtag with ir := ir } }

/-- An instruction that the profile forbids selects the bypass register and counts. -/
def State.tapRefuse (s : State) : State := (s.tap 0xFF).inc SEC_DBGSTAT_JREF

/-! ### Clocks of the blocks (12, R351, R357, R359) -/

/-- The field of an enable that is in force in a device state: RUNEN in ACTIVE and IDLE, SLPEN in SLEEP, DSLPEN in DEEP-SLEEP. -/
def State.enBit (s : State) (st a : Nat) : Bool :=
  s.bit ⟨a, if st = 2 then 30 else if st = 3 then 29 else 31, 1⟩

def State.domainOn (s : State) (d : Nat) : Bool := s.enBit s.pwr.clk (CLK_DOM_CFG d)

/-- Holes of BAR0, and what lies beyond it (16, R462). -/
def isHole (a : Nat) : Bool :=
  decide ((0x50000 ≤ a ∧ a < 0x80000) ∨ (0xB0000 ≤ a ∧ a < 0xC0000) ∨ (0xE4000 ≤ a ∧ a < 0x100000) ∨ (0x134000 ≤ a ∧ a < 0x140000) ∨
    (0x150000 ≤ a ∧ a < 0x200000) ∨ 0x400000 ≤ a)

/-- The block of the SEC registers. -/
def inSec (a : Nat) : Bool := decide (0x30000 ≤ a ∧ a < 0x40000)

/-- SEC registers of the always-on domain (13, R408). -/
def secAon (a : Nat) : Bool :=
  [SEC_LCSTATE, SEC_RSTCAUSE, SEC_BOOTCTRL, SEC_DBGSTAT, SEC_WDTCTRL, SEC_DLYHEAD].contains a || decide (0x31000 ≤ a ∧ a < 0x32000)

/-- Registers that are served in every device state: the PWR block, the always-on registers of SEC, CLK_FAILCAUSE (12, R367; 16, R469). -/
def alwaysOn (a : Nat) : Bool := decide (0x20000 ≤ a ∧ a < 0x30000) || secAon a || a == CLK_FAILCAUSE

/-- The control domains whose clocks an access to a block needs (12, R351): BUS for the register fabric, and CORE for the mailbox and the
reference monitors, SEC, SPT, PERI for the PMBus host. -/
def blockClocks (a : Nat) : List Nat :=
  if inSec a then [1, 3]
  else if (0x40000 ≤ a ∧ a < 0x50000) ∨ (0x110000 ≤ a ∧ a < 0x120000) then [1, 0]
  else if 0x130000 ≤ a ∧ a < 0x134000 then [1, 4]
  else if 0x140000 ≤ a ∧ a < 0x150000 then [1, 2]
  else [1]

/-- The gate of a block's clock is closed, or is asked to close (12, R359). -/
def State.gated (s : State) (a : Nat) : Bool :=
  !alwaysOn a && (blockClocks a).any (fun d => !s.domainOn d || !s.bit (CLK_DOM_STAT_RUN d))

/-! ### What a domain holds (16, R461; 12, R363, R364) -/

/-- The domain of a register of BAR0; none: control plane or AON. -/
def domOf (a : Nat) : Option Nat :=
  if 0x80000 ≤ a ∧ a < 0x90000 then some (72 + (a - 0x80000) / 0x4000)
  else if 0xA0000 ≤ a ∧ a < 0xB0000 then some (64 + (a - 0xA0000) / 0x2000)
  else if 0x107000 ≤ a ∧ a < 0x110000 then some 82
  else if 0x120000 ≤ a ∧ a < 0x124000 then some (76 + (a - 0x120000) / 0x1000)
  else if (0x130000 ≤ a ∧ a < 0x134000) ∨ (0x140000 ≤ a ∧ a < 0x150000) then some 83
  else if 0x200000 ≤ a ∧ a < 0x400000 then some ((a - 0x200000) / 0x8000)
  else none

/-! ### The word on an access -/

/-- What becomes of an access to a BAR0 register: served, aborted, or refused because its domain is not ON or its clock
is off, which is counted (12, R359, R363, R367). -/
inductive Access where
  | served | aborted | off
  deriving DecidableEq, Repr

/-- The domain's word on an access: in DEEP-SLEEP every place but the always-on registers is refused, the holes too (12, R367). -/
def State.domAccess (s : State) (a : Nat) : Access :=
  if s.get PWR_STATE_STATE = 3 ∧ alwaysOn a = false then .off
  else if isHole a then .aborted
  else if s.gated a then .off
  else match domOf a with
    | none => .served
    | some j => if s.domOn j then .served else .off

/-- The whole word on an access: the host's limits in boot and in profile F; a debugger reaches what DBGACC and SECACC reach. -/
def State.access (s : State) (src : Source) (a : Nat) : Access :=
  match src with
  | .firmware => s.domAccess a
  | .host => if s.profileF ∨ (s.ready = false ∧ 0x40000 ≤ a) then .aborted else s.domAccess a
  | .jtag => if s.ready = false ∧ 0x40000 ≤ a then .aborted else s.domAccess a

/-- The word on a request of dwords: it is served when every one is. -/
def State.accessAll (s : State) (src : Source) (a n : Nat) : Access :=
  (List.range n).foldl (fun r i => if r = .served then s.access src (a + 4 * i) else r) .served

/-- An access to a domain that is not ON is refused and counted (12, R363). -/
def State.offAccess (s : State) : State := (s.inc PWR_OFFACC_COUNT).flagPwr PWR_FLAGS_OFFACC

/-- A request that is not served: the host's is aborted. -/
def State.refuseAccess (s : State) (src : Source) (x : Access) (a : Nat) (wr : Bool) : State :=
  let s1 := if x = .off then s.offAccess else s
  if src = .host then s1.abortReq 0 a wr else s1

/-- A debugger's access that its profile forbids (13, R403): SECACC for the SEC block, DBGACC elsewhere. -/
def State.jtagBars (s : State) (src : Source) (a : Nat) (wr : Bool) : Bool :=
  src == .jtag && (if inSec a then !secaccOk s.profile a wr else (s.profile != .A && s.profile != .O) || s.get PWR_STATE_STATE == 3)

/-! ### Accesses that wait for the end of an entry to AUTH-OPEN (13, R400) -/

/-- Registers that such an entry returns to reset values, or that show what it empties (13, R400; 10, R287). -/
def authAddr (a : Nat) : Bool :=
  (decide (0x80000 ≤ a ∧ a < 0x90000) && a == SYN_FTRIM ((a - 0x80000) / 0x4000)) ||
  (decide (0xA0000 ≤ a ∧ a < 0xB0000) && (let b := (a - 0xA0000) / 0x2000; [BNK_TRKREF b, BNK_TRKKG b, BNK_TRKKO b, BNK_TRKCTRL b].contains a)) ||
  a == CAL_VALID || (decide (0x120000 ≤ a ∧ a < 0x124000) && a == PRL_ASYM ((a - 0x120000) / 0x1000)) ||
  (decide (0x200000 ≤ a ∧ a < 0x400000) &&
    (let n := (a - 0x200000) / 0x1000
     decide (0x800 ≤ a % 0x1000) || [CH_DESKEW n, CH_DSKACT n, CH_EVSKEW n, CH_RHEAD n, CH_RTAIL n].contains a))

/-- The block of a register, in which accesses keep their order (16, R468): a channel, a root, a bank, a port of the links, else 64 KiB. -/
def blockOf (a : Nat) : Nat :=
  if 0x200000 ≤ a then a / 0x1000
  else if 0x80000 ≤ a ∧ a < 0x90000 then 0x1000000 + a / 0x4000
  else if 0xA0000 ≤ a ∧ a < 0xB0000 then 0x2000000 + a / 0x2000
  else if 0x120000 ≤ a ∧ a < 0x130000 then 0x3000000 + a / 0x1000
  else 0x4000000 + a / 0x10000

/-- A host access that waits for a block. -/
def HostReq.blocks : HostReq → List Nat
  | .write a ws => (List.range ws.length).map (fun i => blockOf (a + 4 * i))
  | .read a n => (List.range n).map (fun i => blockOf (a + 4 * i))
  | .bar2 _ _ => []

/-- A host access waits for the end of such an entry, or behind one that waits for its block (13, R400; 16, R468). -/
def State.authWaits (s : State) (src : Source) (a n : Nat) : Bool :=
  s.boot.entry.isSome && src == .host &&
    (List.range n).any (fun i => authAddr (a + 4 * i) || s.boot.waits.any (fun q => q.blocks.contains (blockOf (a + 4 * i))))

def State.hostWait (s : State) (q : HostReq) : State := { s with boot := { s.boot with waits := s.boot.waits ++ [q] } }

/-! ### Requests -/

/-- A request for an address that no BAR holds, of no dword, of a host that does not reach the device, or of a device that is held in
reset: the device does not see it. -/
def State.unseen (s : State) (src : Source) (a n : Nat) : Bool :=
  !s.freed || (src == .host && !s.hostReaches) || n == 0 || decide (0x1000000 ≤ a ∧ a < 0x10000000) || decide (0x10100000 ≤ a)

/-- An access of one dword to a register with a row of its own is served at once. -/
def State.rowServed (s : State) (src : Source) (a : Nat) (wr : Bool) : Bool :=
  !s.unseen src a 1 && !s.jtagBars src a wr && s.access src a == .served && !s.authWaits src a 1

/-- An access to a register with a row of its own: it has its effect `k`, or it is refused, or it waits as `q`. -/
def State.rowAccess (s : State) (src : Source) (a : Nat) (wr : Bool) (q : HostReq) (k : State → State) : State :=
  if s.unseen src a 1 then s.missed src a
  else if s.jtagBars src a wr then s.tapRefuse
  else if s.access src a ≠ .served then s.refuseAccess src (s.access src a) a wr
  else if s.authWaits src a 1 then s.hostWait q
  else k s

/-- The write of a register with a row of its own. -/
def State.rowWrite (s : State) (src : Source) (a : Nat) (w : Word) (k : State → State) : State := s.rowAccess src a true (.write a [(w, 15)]) k

/-- The read of a register with a row of its own. -/
def State.rowRead (s : State) (src : Source) (a : Nat) (k : State → State) : State := s.rowAccess src a false (.read a 1) k

end Sys2Proof.Machine
end

