-- ==== Sys2Proof/Machine/Cycle.lean ====
section
/-! DEFINITION. The arithmetic of a channel cycle as pure functions (05_direct_edge_synthesis.md, R131 to R151;
06, R172, R173, R181; 07, R204, R205): rounding, the slot read, the period modulation, the cycle start, the edge times,
and the forward look that eligibility (06, R178) asks for. Times are unbounded numbers; the 76-bit accumulator and the
48-bit timebase show them modulo their width (R131). -/

set_option Elab.async false

namespace Sys2Proof.Machine

/-! ### Rounding and read times -/

/-- rnd of R135 of a time in 2^-16 ticks. -/
def rndTick (x : Nat) : Nat := (x + 2 ^ 15) / 2 ^ 16

/-- The read time of the cycle that is read when a cycle starts at `x` (06, R173). -/
def readTime (x : Nat) : Nat := rndTick x / 4096

/-- Has a due moment come when the next cycle is `k` and starts at `x`? -/
def Due.reached (d : Due) (k x : Nat) : Bool :=
  match d with
  | .time t => decide (4096 * t ≤ rndTick x)
  | .cycle j => decide (j ≤ k)

/-! ### Live slots, shadows and loads (06, R172, R179, R181) -/

def Cyc.liveSlot (c : Cyc) (i : Nat) : LiveSlot := tabGet LiveSlot.init c.live i
def Cyc.shadow (c : Cyc) (i : Nat) : Shadow := tabGet Shadow.init c.shad i
def Cyc.setLive (c : Cyc) (i : Nat) (x : LiveSlot) : Cyc := { c with live := tabSet LiveSlot.init c.live i x }
def Cyc.setShad (c : Cyc) (i : Nat) (x : Shadow) : Cyc := { c with shad := tabSet Shadow.init c.shad i x }

/-- A cue into a live slot: a void record writes no data and marks the slot void (06, R167). -/
def Cyc.loadLive (c : Cyc) (slot ctx : Nat) (data : Record) (void : Bool) : Cyc :=
  let o := c.liveSlot slot
  c.setLive slot (if void then { o with void := true, lzero := false }
    else { data := data, ctx := ctx, void := false, lzero := false })

/-- A provisional cue into a shadow (06, R167, R180). -/
def Cyc.loadShadow (c : Cyc) (slot ctx : Nat) (data : Record) (void : Bool) : Cyc :=
  let o := c.shadow slot
  c.setShad slot (if void then { o with pend := true, void := true }
    else { data := data, ctx := ctx, pend := true, void := false })

/-- Copy every pending shadow, its void mark included, into its live slot (06, R181). -/
def Cyc.commitShadows (c : Cyc) : Cyc :=
  (List.range 32).foldl (fun c i =>
    let h := c.shadow i
    if h.pend then
      (c.setLive i { data := h.data, ctx := h.ctx, void := h.void, lzero := false }).setShad i { h with pend := false, void := false }
    else c) c

/-- Discard every pending shadow (06, R176, R182). -/
def Cyc.dropShadows (c : Cyc) : Cyc :=
  (List.range 32).foldl (fun c i =>
    let h := c.shadow i
    if h.pend then c.setShad i { h with pend := false, void := false } else c) c

/-- The first cycle a load governs. -/
def Load.fromCycle : Load → Nat
  | .cue _ _ _ _ j => j
  | .commit j => j

/-- Apply a load. -/
def Cyc.applyLoad (c : Cyc) : Load → Cyc
  | .cue slot ctx data void _ => c.loadLive slot ctx data void
  | .commit _ => c.commitShadows

/-- Apply, in the order of the hub, every load that governs cycle j (06, R179, R181, R188). -/
def Cyc.applyLoads (c : Cyc) (j : Nat) : Cyc :=
  let c1 := { c with loads := c.loads.filter (fun l => decide (j < l.fromCycle)) }
  (c.loads.filter (fun l => decide (l.fromCycle ≤ j))).foldl (fun c l => c.applyLoad l) c1

/-- Is a live slot void? -/
def Cyc.anyVoid (c : Cyc) : Bool := c.live.any (fun p => p.2.void)

/-- The pending shadows as a mask of slots. -/
def Cyc.pendMask (c : Cyc) : Nat := c.shad.foldl (fun m p => if p.2.pend then m + 2 ^ p.1 else m) 0

/-! ### The slot of a cycle (07, R204, R205) -/

/-- What a member needs to know of its group to choose a slot: INITSLOT and its writes on the way, LEAD, the select
buffer. -/
structure GCtx where
  init : Nat
  pend : List (Nat × Nat)
  lead : Nat
  buf : List Entry
  deriving DecidableEq, Repr

/-- INITSLOT as a read at a time sees it (06, R176). -/
def GCtx.initAt (g : GCtx) (rd : Nat) : Nat :=
  match g.pend.find? (fun p => decide (p.1 ≤ rd)) with
  | some p => p.2
  | none => g.init

/-- What a slot read met: a late cycle, a held switch, an underrun cycle, a covered cycle, a void slot. -/
structure ReadOut where
  late : Bool
  held : Bool
  under : Bool
  covered : Bool
  void : Bool
  deriving DecidableEq, Repr

/-- Does an entry span a cycle (07, R204)? -/
def Entry.spans (e : Entry) (j : Nat) : Bool := decide (e.first ≤ j ∧ j ≤ e.last)

/-- The read of the slot of cycle j at read time `rd` (06, R173; 07, R204, R205). -/
def Cyc.readSlot (c : Cyc) (g : GCtx) (j rd : Nat) : Cyc × ReadOut :=
  match c.drive with
  | some d => ({ c with ahead := c.ahead ++ [{ k := j, slot := c.applied, data := d, void := false }] }, ⟨false, false, false, false, false⟩)
  | none =>
  let c := c.applyLoads j
  let spans := g.buf.filter (fun e => e.spans j)
  let cov := spans.find? (fun e => decide (e.stamp + g.lead ≤ rd))
  let under := cov.isNone && c.covered
  let want := match cov with
    | some e => e.slot
    | none => if c.covered then c.applied else g.initAt rd
  let first := decide (j = 0)
  let soon := match c.lastSw with
    | none => false
    | some t => decide (rd < t + 2)
  let held := !first && decide (want ≠ c.applied) && soon
  let slot := if held then c.applied else want
  let sw := !first && decide (slot ≠ c.applied)
  let l := c.liveSlot slot
  ({ c with applied := slot, lastSw := if sw then some rd else c.lastSw, covered := c.covered || cov.isSome,
            ahead := c.ahead ++ [{ k := j, slot := slot, data := if l.void then 0 else l.data, void := l.void }] },
   { late := !spans.isEmpty && cov.isNone, held := held, under := under, covered := cov.isSome, void := l.void })

/-! ### Period modulation (05, R149 to R151), in 2^-32 ticks -/

/-- The copy of armed settings at their start cycle (05, R149). -/
def Mod.begin (m : Mod) (k : Nat) : Mod :=
  match m.armed with
  | none => m
  | some a =>
    if m.late ∨ a.start = k then
      let m1 := { m with armed := none, late := false, rampEn := a.rampEn, dp := a.dp, rcnt := a.rcnt, cnt := 0,
                         rr := if a.rclr then 0 else m.rr }
      if m.ssRun then { m1 with ssPend := some a.ss } else { m1 with ss := a.ss, ssRun := a.ss.on, kk := 0, ssPend := none }
    else m

/-- At K = 0 a pending spread comes into force, and a running one latches DEPTH from P_ctx and R (05, R149, R151). -/
def Mod.latch (m : Mod) (pctx : Nat) : Mod :=
  if m.ssRun ∧ m.kk = 0 then
    let m1 := match m.ssPend with
      | some p => { m with ss := p, ssPend := none, ssRun := p.on }
      | none => m
    if m1.ssRun then { m1 with depth := roundDivI (((pctx : Int) * 2 ^ 16 + m1.rr) * m1.ss.ppm) 1000000 }
    else m1
  else m

/-- SS of the cycle (05, R151). -/
def Mod.spread (m : Mod) : Int :=
  if m.ssRun = false then 0
  else
    let q : Int := m.ss.q
    let k : Int := m.kk
    if m.ss.centre then
      let u := if 4 * k ≤ q then 4 * k else if 4 * k ≤ 3 * q then 2 * q - 4 * k else 4 * k - 4 * q
      tdiv (m.depth * u) (2 * q)
    else
      let x := if 2 * k ≤ q then 2 * k else 2 * (q - k)
      tdiv (m.depth * x) q

/-- The bounds of R, an S32.32 (05, R150). -/
def rMax : Int := 2 ^ 63 - 1
def rMin : Int := -(2 ^ 63)

/-- The ramp is advancing R (05, R150, R158). -/
def Mod.rampRun (m : Mod) : Bool := m.rampEn && (decide (m.cnt < m.rcnt) || decide (m.rcnt = 0xFFFFFFFF))

/-- After a cycle: R advances, saturating, and K counts; what the cycle itself used stays readable. The flag says that R was clamped (05, R150, R151). -/
def Mod.after (m : Mod) : Mod × Bool :=
  let v := if m.rampRun then m.rr + m.dp else m.rr
  let c := if rMax < v then rMax else if v < rMin then rMin else v
  ({ m with rr := c, cnt := m.cnt + 1, kk := if m.ssRun then (m.kk + 1) % max 1 m.ss.q else m.kk,
            nowR := m.rr, nowK := m.kk, nowRamp := m.rampRun, nowSs := m.ssRun }, decide (c ≠ v))

/-! ### The cycle start (05, R133) -/

/-- The period of cycle k and the modulation after it: P_eff in 2^-16 ticks, the carry r, what was clamped. -/
structure PerOut where
  p : Nat
  r : Nat
  md : Mod
  perClamp : Bool
  pmClamp : Bool
  deriving DecidableEq, Repr

/-- R133 for cycle k with what was read for it. -/
def cyclePeriod (a : Ahead) (r : Nat) (m0 : Mod) (k : Nat) : PerOut :=
  let raw := a.data.toNat % 2 ^ 48
  let low := decide (raw < 2048 * 2 ^ 16)
  let pctx := if low then 2048 * 2 ^ 16 else raw
  let m := (m0.begin k).latch pctx
  let exact : Int := (pctx : Int) * 2 ^ 16 + (m.rr + m.spread) + (r : Int)
  let nx := m.after
  let per := low && !a.void
  if exact < 2048 * 2 ^ 32 then { p := 2048 * 2 ^ 16, r := 0, md := nx.1, perClamp := per, pmClamp := true }
  else if 2 ^ 64 ≤ exact then { p := 2 ^ 48 - 1, r := 0, md := nx.1, perClamp := per, pmClamp := true }
  else { p := (exact / 2 ^ 16).toNat, r := (exact % 2 ^ 16).toNat, md := nx.1, perClamp := per, pmClamp := nx.2 }

/-- The starts of the next cycles as far as their slots are read: S(k+1), S(k+2), … (05, R134). -/
def startsAhead : List Ahead → Nat → Nat → Mod → Nat → List Nat
  | [], _, _, _, _ => []
  | a :: t, s, r, m, k =>
    let o := cyclePeriod a r m k
    (s + o.p) :: startsAhead t (s + o.p) o.r o.md (k + 1)

/-- What entering a cycle does. -/
structure StepOut where
  cyc : Cyc
  md : Mod
  read : ReadOut
  perClamp : Bool
  pmClamp : Bool
  deriving DecidableEq, Repr

/-- Enter cycle k = `c.k` with deskew `dsk`: its period and S(k+1), and the read of the slot of cycle k + 4
(05, R133; 06, R173). -/
def cycleStep (g : GCtx) (c : Cyc) (m : Mod) (dsk : Int) : StepOut :=
  let a := c.ahead.headD { k := c.k, slot := c.applied, data := 0, void := false }
  let o := cyclePeriod a c.r m c.k
  let c1 := { c with ahead := c.ahead.drop 1
                     win := (CycRec.mk c.k c.s a.slot a.data dsk :: c.win).take 4 }
  let rd := c1.readSlot g (c.k + 4) (readTime c.s)
  { cyc := { rd.1 with k := c.k + 1, s := c.s + o.p, r := o.r }, md := o.md, read := rd.2,
    perClamp := o.perClamp, pmClamp := o.pmClamp }

/-- A group start at T (05, R132; 06, R173, R176; 07, R205): the accumulator is loaded and the slots of cycles 0 to 3
are read. -/
def Cyc.startAt (c : Cyc) (g : GCtx) (t : Nat) : Cyc × List ReadOut :=
  let c0 := { c with on := true, k := 0, s := t * 2 ^ 28, r := 0, win := [], ahead := [], applied := g.initAt t,
                     lastSw := none, covered := false }
  (List.range 4).foldl (fun x j =>
    let y := x.1.readSlot g j t
    (y.1, x.2 ++ [y.2])) (c0, [])

/-! ### Eligibility (06, R178) -/

/-- The first cycle whose read time lies at or after `x`, by running the channel forward with what is known now. -/
def firstReadGo (g : GCtx) (x : Nat) : Nat → Cyc → Mod → Nat
  | 0, c, _ => c.k + 4
  | f + 1, c, m =>
    if x ≤ readTime c.s then c.k + 4
    else
      let o := cycleStep g c m 0
      firstReadGo g x f o.cyc o.md

/-- The first cycle of a running channel whose read time lies at or after `x`. A period is at least half a T-clock
cycle, which bounds the run. -/
def Cyc.firstRead (c : Cyc) (g : GCtx) (m : Mod) (x : Nat) : Nat := firstReadGo g x (2 * (x + 2 - c.s / 2 ^ 28) + 2) c m

/-! ### Edges (05, R135, R140) -/

/-- EDGEe of a record (06, R159). -/
def edgeOf (d : Record) (e : Nat) : Nat := d.toNat / 2 ^ (48 + 26 * e) % 2 ^ 26
def edgeEn (x : Nat) : Bool := x / 2 ^ 25 % 2 == 1
def edgeAnchor (x : Nat) : Bool := x / 2 ^ 24 % 2 == 1
def edgeOff (x : Nat) : Nat := x % 2 ^ 24

/-- The line of an edge slot: 0 ETE, 1 DTE, 2 CTE (05, R140). -/
def lineOf (e : Nat) : Nat := if e = 0 ∨ e = 3 then 0 else if e < 4 then 1 else 2

/-- The edge's time before clips, without deskew (05, R135). -/
def edgeRaw (x s0 s1 : Nat) : Int :=
  if edgeAnchor x then (rndTick s1 : Int) - edgeOff x else (rndTick s0 : Int) + edgeOff x

/-- The clips of R135 for a cycle that starts at s0 whose fourth next starts at s4: the time, then 1 EARLY, 2 LATE. -/
def edgeClip (t0 : Int) (s0 s4 : Nat) : Int × Nat :=
  if t0 < rndTick s0 then (rndTick s0, 1)
  else if (rndTick s4 : Int) ≤ t0 then ((rndTick s4 : Int) - 1, 2)
  else (t0, 0)

/-- The events of cycle k with their clips (05, R135): starts s0, s1, s4, deskew. -/
def cycleEvents (d : Record) (k s0 s1 s4 : Nat) (dsk : Int) : List Ev :=
  ((List.range 8).filter (fun e => edgeEn (edgeOf d e))).map (fun e =>
    let q := edgeClip (edgeRaw (edgeOf d e) s0 s1) s0 s4
    { t := q.1 + dsk, k := k, e := e, clip := q.2 })

/-- Order of events: ideal time, then cycle, then slot (05, R142). -/
def Ev.before (a b : Ev) : Bool :=
  decide (a.t < b.t ∨ (a.t = b.t ∧ (a.k < b.k ∨ (a.k = b.k ∧ a.e < b.e))))

/-- Put an event in its place. -/
def insertEv (x : Ev) : List Ev → List Ev
  | [] => [x]
  | y :: t => if x.before y then x :: y :: t else y :: insertEv x t

/-! ### The scheduler (05, R142) -/

/-- Minimum spacing in force (05, R145). -/
def minSpacing (v : Nat) : Nat := max 1024 v

/-- The engine pair's base of a line: drive engines 0 and 1, compare engines 2 and 3. -/
def pairOf (line : Nat) : Nat := if line = 2 then 2 else 0

/-- The next engine of a line's pair. -/
def Sched.nextEng (s : Sched) (line : Nat) : Nat := if line = 2 then 2 + s.nextC else s.nextD

/-- Tick 0 of the T-clock cycle after a time. -/
def nextCycleTick (t : Int) : Int := 4096 * (t / 4096 + 1)

/-- t1 of R142: the spacing push. -/
def Sched.spaced (s : Sched) (line : Nat) (t : Int) (minsp : Nat) : Int :=
  match s.lastL.getD line none with
  | none => t
  | some l => max t (l + minsp)

/-- t2 of R142: the engine push. -/
def Sched.engined (s : Sched) (line : Nat) (t1 : Int) : Int :=
  match s.lastE.getD (s.nextEng line) none with
  | none => t1
  | some l => max t1 (nextCycleTick l)

/-- Put a toggle of a line at t2 in the queue; the pair's engines alternate. `ev`: the event and its ideal time's pushes. -/
def Sched.put (s : Sched) (line : Nat) (t2 : Int) (ev : Option Ev) (spaced pushed : Bool) : Sched :=
  let e := s.nextEng line
  let p : Placed := { t := t2, line := line, eng := e, ev := ev, spaced := spaced, pushed := pushed, prevL := s.lastL.getD line none, prevE := s.lastE.getD e none }
  { s with queue := s.queue ++ [p], lastL := s.lastL.set line (some t2), lastE := s.lastE.set e (some t2),
           nextD := if line = 2 then s.nextD else 1 - s.nextD, nextC := if line = 2 then 1 - s.nextC else s.nextC }

/-- Take back a placed toggle that is discarded. -/
def Sched.undo (s : Sched) (p : Placed) : Sched :=
  { s with lastL := s.lastL.set p.line p.prevL, lastE := s.lastE.set p.eng p.prevE,
           nextD := if p.line = 2 then s.nextD else p.eng, nextC := if p.line = 2 then p.eng - 2 else s.nextC }

/-- A placed toggle comes from an event of cycle c or later. -/
def Placed.fromCycle (p : Placed) (c : Nat) : Bool := p.ev.any (fun e => decide (c ≤ e.k))

/-- Discard every placed toggle at or after a time, and every one of cycle c or later (05, R153). -/
def Sched.discardFrom (s : Sched) (pt : Int) (c : Nat) : Sched :=
  (s.queue.filter (fun p => decide (pt ≤ p.t) || p.fromCycle c)).reverse.foldl (fun s p => s.undo p)
    { s with queue := s.queue.filter (fun p => decide (p.t < pt) && !p.fromCycle c) }

/-- The rules start afresh, at a group start and at an exit from park (05, R142). -/
def Sched.restart (s : Sched) : Sched :=
  { s with lastL := [none, none, none], lastE := [none, none, none, none], nextD := 0, nextC := 0 }

/-- Where an event leaves: t1, t2, and whether its engine overruns (05, R142). -/
def Sched.times (s : Sched) (line : Nat) (t : Int) (minsp : Nat) : Int × Int × Bool :=
  let t1 := s.spaced line t minsp
  let t2 := s.engined line t1
  (t1, t2, decide (8 ≤ t2 / 4096 - t / 4096))

end Sys2Proof.Machine
end

