-- ==== Sys2Proof/Machine/Roots.lean ====
section
/-! DEFINITION. The root synthesisers (02_root_synthesisers.md): enable, band search, lock, hops, phase steps, and the
parts of 03 that share their words (ramps and spread in Machine/Profiles.lean, coasting in Machine/Coast.lean). -/

set_option Elab.async false

namespace Sys2Proof.Machine

/-! ### State codes of SYNn_STAT.STATE (02, R50; 03, R100) -/

def stOff : Nat := 0
def stWake : Nat := 1
def stSearch : Nat := 2
def stAcquire : Nat := 3
def stCount : Nat := 4
def stLocked : Nat := 5
def stHop : Nat := 6
def stRamp : Nat := 7
def stCoast : Nat := 8
def stQualify : Nat := 9
def stMeasure : Nat := 10
def stReclose : Nat := 11
def stFreerun : Nat := 12

/-- The state code of a root. -/
def State.rootState (s : State) (n : Nat) : Nat := (s.root n).st

/-- The root is LOCKED and its lock stands (02, R49, R54): what a hop, a ramp and a measurement ask for. -/
def State.isLocked (s : State) (n : Nat) : Bool := s.rootState n == stLocked && (s.root n).lock

/-! ### Words and frequencies -/

/-- f_PD in kHz as a numerator over PDIV + 1 (02, R36). -/
def State.fpdNum (s : State) (n : Nat) : Nat := s.get (SYN_REFFREQ_KHZ n) * 2 ^ s.get (SYN_REF_RMUL n)
def State.fpdDen (s : State) (n : Nat) : Nat := s.get (SYN_REF_PDIV n) + 1

/-- The divider that an ODIV code names; 0 for a code that is refused (02, R65). -/
def odivOf (code : Nat) : Nat :=
  if code = 0 then 2 else if code = 1 then 3 else if code = 2 then 4 else if code = 3 then 5
  else if code = 4 then 6 else if code = 5 then 8 else 0

/-- Is a code one of the test dividers (02, R42)? -/
def odivTest (code : Nat) : Bool := code == 0 || code == 1 || code == 5

/-- The VCO frequency of a word lies in 11.0 to 14.8 GHz (02, R41). -/
def State.vcoOk (s : State) (n word : Nat) : Bool :=
  decide (11000000 * (s.fpdDen n * 2 ^ 40) ≤ s.fpdNum n * word ∧
    s.fpdNum n * word ≤ 14800000 * (s.fpdDen n * 2 ^ 40))

/-- The T-clock of a word lies in 2.4 to 3.6 GHz; not asked with a test divider (02, R41, R42). -/
def State.tclkOk (s : State) (n word : Nat) : Bool :=
  let code := s.get (SYN_CTRL_ODIV n)
  let d := s.fpdDen n * 2 ^ 40 * odivOf code
  odivTest code || decide (2400000 * d ≤ s.fpdNum n * word ∧ s.fpdNum n * word ≤ 3600000 * d)

/-- DEPTH of the spread for a base word (03, R88). -/
def spreadDepth (base ppm : Nat) : Nat := roundDiv (base * ppm) 1000000

/-- The extreme words around a base with a spread's excursion (03, R88, R90). -/
def spreadExtremes (ss : Option Spread) (base : Nat) : Nat × Nat :=
  match ss with
  | none => (base, base)
  | some sp =>
    let d := spreadDepth base sp.ppm
    if sp.centre then (base - d / 2, base + d / 2) else (base - d, base)

/-- Item 1 of R55 for a base word, the excursion of a spread included (02, R55; 03, R90). -/
def State.rangeOk (s : State) (n : Nat) (ss : Option Spread) (base : Nat) : Bool :=
  let x := spreadExtremes ss base
  s.vcoOk n x.1 && s.vcoOk n x.2 && s.tclkOk n x.1 && s.tclkOk n x.2

/-- The band table's entry: [31:16] upper, [15:0] lower usable limit in MHz (02, R45; 13, R379). -/
def State.bandEntry (s : State) (n band : Nat) : Nat := (s.fuseShadow (96 + 64 * n + band)).toNat

/-- A word's VCO frequency lies within the usable limits of a band (02, R45, R55). -/
def State.inBandWord (s : State) (n band word : Nat) : Bool :=
  let e := s.bandEntry n band
  let d := s.fpdDen n * 2 ^ 40
  decide (e % 2 ^ 16 * 1000 * d ≤ s.fpdNum n * word ∧ s.fpdNum n * word ≤ e / 2 ^ 16 * 1000 * d)

/-- A base word with a spread's excursion stays inside the current band (02, R55; 03, R85, R89). -/
def State.inBand (s : State) (n : Nat) (ss : Option Spread) (base : Nat) : Bool :=
  let x := spreadExtremes ss base
  let b := (s.root n).band
  s.inBandWord n b x.1 && s.inBandWord n b x.2

/-- The word of preset p in units of 2^-40 (02, R35, R71). -/
def State.presetWord (s : State) (n p : Nat) : Nat :=
  s.get (SYN_PWLO_FRAC n p) + s.get (SYN_PWHI_FRACHI n p) * 2 ^ 32 + s.get (SYN_PWHI_INT n p) * 2 ^ 40

/-- Linear interpolation in the shaped table at cycle k, as a numerator and a denominator (03, R88): entry j stands at
(j × P) div 32, and entry 31 is followed by entry 0 at P. DESIGN CHOICE: the interpolated value stays an exact fraction until
the final division. -/
def tableAt (sp : Spread) (k : Nat) : Nat → Int × Int
  | 0 => ((sp.tab.getD 0 0 : Nat), 1)
  | j + 1 =>
    let lo := j * sp.period / 32
    let hi := (j + 1) * sp.period / 32
    if lo ≤ k ∧ lo < hi then
      let v0 : Int := (sp.tab.getD j 0 : Nat)
      let v1 : Int := (sp.tab.getD ((j + 1) % 32) 0 : Nat)
      (v0 * ((hi - lo : Nat) : Int) + (v1 - v0) * ((k - lo : Nat) : Int), ((hi - lo : Nat) : Int))
    else tableAt sp k j

/-- The spread offset at cycle k of the period, in units of 2^-40 (03, R88). -/
def spreadOffset (sp : Spread) (k : Nat) : Int :=
  let p : Int := sp.period
  let d : Int := sp.depth
  let kk : Int := k
  if sp.table then
    let v := tableAt sp k 32
    if sp.centre then tdiv (d * (32768 * v.2 - v.1)) (65536 * v.2) else - tdiv (d * v.1) (65536 * v.2)
  else if sp.centre then
    let u := if 4 * kk ≤ p then 4 * kk else if 4 * kk ≤ 3 * p then 2 * p - 4 * kk else 4 * kk - 4 * p
    tdiv (d * u) (2 * p)
  else
    let x := if 2 * kk ≤ p then 2 * kk else 2 * (p - kk)
    (-(tdiv (d * x) p))

/-- The states in which the spread offset runs (03, R90). -/
def spreadRuns (st : Nat) : Bool := st == stLocked || st == stHop || st == stRamp || st == stCoast

/-- The states in which the coast word takes the base's place: from COASTIN's commit until the loop closes (03, R93, R100). -/
def coasts (st : Nat) : Bool := st == stCoast || st == stQualify || st == stMeasure

/-- The word that the spread offset is added to: the base, or the coast word while it is loaded (03, R72, R93). DESIGN CHOICE:
the coast word stands in the base's place in COAST, QUALIFY and MEASURE, also in FWACT. -/
def State.baseInForce (s : State) (n : Nat) : Nat :=
  if coasts (s.rootState n) then (s.root n).coastW else (s.root n).base

/-- The word in force: the base and the spread offset (03, R72, R90). -/
def State.wordInForce (s : State) (n : Nat) : Nat :=
  match (s.root n).ss with
  | none => s.baseInForce n
  | some sp => if spreadRuns (s.rootState n) then ((s.baseInForce n : Int) + spreadOffset sp (s.root n).ssk).toNat else s.baseInForce n

/-- The changes a take may still ask for: those of the last 8,192 cycles and the one before them. -/
def trimHist (now : Nat) : List VarChg → List VarChg
  | [] => []
  | v :: t => if now ≤ v.cyc + 8192 then v :: trimHist now t else [v]

/-- Note a change of the word in force, of FTRIM or of the phase position (09, R279). -/
def State.noteVar (s : State) (n : Nat) : State :=
  let r := s.root n
  let now := (s.wordInForce n, s.geti (SYN_FTRIM_TRIM n), s.geti (SYN_PHPOS_POS n))
  if now = r.seen then s else s.setRoot n { r with seen := now, hist := trimHist r.tb (⟨r.tb, r.seen.1, r.seen.2.1⟩ :: r.hist) }

/-- Commit the word in force to SYNn_FWACTLO/HI and the spread's activity (02, R71; 03, R73). -/
def State.commitWord (s : State) (n : Nat) : State :=
  let w := s.wordInForce n
  let s1 := s.put (SYN_FWACTLO_FRAC n) w
  let s2 := s1.put (SYN_FWACTHI_FRACHI n) (w / 2 ^ 32)
  let s3 := s2.put (SYN_FWACTHI_INT n) (w / 2 ^ 40)
  (s3.put (SYN_SSSTAT_ACTIVE n) (b2n ((s.root n).ss.isSome && spreadRuns (s.rootState n)))).noteVar n

/-- The modulator's input in units of 2^-40: the word in force and FTRIM (02, R37; 03, R72). -/
def State.modulatorIn (s : State) (n : Nat) : Int := (s.wordInForce n : Int) + s.geti (SYN_FTRIM_TRIM n)

/-! ### What the banks of a root follow (04, R109, R117, R119; 05, R145; 08, R230) -/

/-- The banks that use a root (04, R109). -/
def State.banksOf (s : State) (n : Nat) : List Nat := (List.range 8).filter (fun b => s.get (BNK_STAT_ROOTACT b) == n)

/-- Apply an operation for each number of a list. -/
def State.each (s : State) (l : List Nat) (f : State → Nat → State) : State := l.foldl f s

/-- The highest word that a root is configured to reach (04, R119; 05, R145): the word in force, every preset, every target of
the segment table that was ever written (DESIGN CHOICE: an entry at its reset value is no ramp target), and the upper
extreme of the spread in force or set. -/
def State.topWord (s : State) (n : Nat) : Nat :=
  let r := s.root n
  let top := (s.baseInForce n :: r.base :: ((List.range 16).map (fun p => s.presetWord n p) ++ r.segs.map (fun g => g.2.target))).foldl max 0
  let set_ := if s.bit (SYN_SSCTRL_EN n) ∧ s.bit (SYN_SSCTRL_CENTRE n) then spreadDepth top (min 5000 (s.get (SYN_SSDEV_PPM n))) / 2 else 0
  max ((spreadExtremes r.ss top).2) (top + set_)

/-- A time in ps in ticks of that highest T-clock, rounded up (05, R145; 08, R230). -/
def State.topTicks (s : State) (n ps : Nat) : Nat :=
  let den := s.fpdDen n * 2 ^ 40 * max 1 (odivOf (s.get (SYN_CTRL_ODIV n))) * 1000000000000
  (ps * 4096 * (s.fpdNum n * 1000 * s.topWord n) + den - 1) / den

/-- Put a field, where it does not hold the value already. -/
def State.fit (s : State) (r : Ref) (v : Nat) : State := if s.get r = v then s else s.put r v

/-- Firmware writes MINSP and SEPMIN of a channel; a locked channel keeps them (DESIGN CHOICE: it makes no write that R14 would
count). -/
def State.refitChan (s : State) (n sp sep : Nat) : State :=
  if s.bit (CH_CTRL_LOCK n) then s else (s.fit (CH_MINSP_TICKS n) (min 65535 sp)).fit (CH_SEPMIN_TICKS n) (min 65535 sep)

/-- Firmware writes what follows the highest T-clock of root n in a bank: GUARD := ceil(8 f_T,max / f_PD) + 64 (04, R119), MINSP
of 125 ps (05, R145) and SEPMIN of 600 ps (08, R230). -/
def State.refitBank (s : State) (n b : Nat) : State :=
  let o := 2 ^ 40 * max 1 (odivOf (s.get (SYN_CTRL_ODIV n)))
  let sp := s.topTicks n 125
  let sep := s.topTicks n 600
  (s.fit (BNK_GUARD_CYC b) (min 1023 ((8 * s.topWord n + o - 1) / o + 64))).each (List.range 64) (fun t i => t.refitChan (64 * b + i) sp sep)

/-- The reference, a preset, the ramp profile or the spread settings of a root have been written: firmware refits every bank that
selects it. -/
def State.refit (s : State) (n : Nat) : State := s.each (s.banksOf n) (fun t b => t.refitBank n b)

/-- A feed-forward change reaches every bank DLL that selects the root and has a clock: it scales its delay line in this cycle,
to a code that the manual does not give (04, R114, R117). -/
def State.feedForward (s : State) (n old : Nat) (pull : Bool) : State :=
  let w := s.wordInForce n
  if w = old ∧ pull = false then s
  else s.each ((s.banksOf n).filter (fun b => s.get (BNK_STAT_DLLSTATE b) != 0)) (fun t b =>
    ((t.put (BNK_DLLCW_CW b) (Config.dllScale t.free (t.get (BNK_DLLCW_CW b)) old w).toNat).draw).modBank b (fun y => { y with ff := true }))

/-- A phase step passes through the bank DLLs (04, R117). -/
def State.phaseForward (s : State) (n : Nat) : State := s.each (s.banksOf n) (fun t b => t.modBank b (fun y => { y with ff := true }))

/-! ### Small state changes -/

/-- A refused configuration write or enable (02, R41, R43, R44). DESIGN CHOICE: CFGWHY keeps its code until the next
refusal. -/
def State.cfgErr (s : State) (n why : Nat) : State :=
  (s.flagSyn n (SYN_FLAGS_CFGERR n)).put (SYN_STAT_CFGWHY n) why

/-- Set TBSLIP; the root's alignment is void (02, R52; 11, R340). -/
def State.tbslip (s : State) (n : Nat) : State := (s.flagSyn n (SYN_FLAGS_TBSLIP n)).alignVoid n 2

/-! ### The sequencer's shadow registers and routines (03, R73, R74, R79) -/

/-- A step computes a register effect, which waits for its commit (03, R73). -/
def State.later (s : State) (n : Nat) (e : Eff) : State := s.modRoot n (fun r => { r with eff := r.eff ++ [e] })

/-- The value that a field will have once the effects that wait are committed. -/
def State.will (s : State) (n : Nat) (r : Ref) : Nat :=
  (s.root n).eff.foldl (fun v e => match e with
    | .put q w => if q = r then w % 2 ^ q.len else v
    | _ => v) (s.get r)

/-- That value of a signed field. -/
def State.willi (s : State) (n : Nat) (r : Ref) : Int := signed r.len (s.will n r)

/-- A step computes a signed field. -/
def State.lateri (s : State) (n : Nat) (r : Ref) (v : Int) : State := s.later n (.put r (wrapNat r.len v))

/-- What a commit, or an act at a step boundary, leaves in force (03, R73, R81). -/
def Root.sync (r : Root) : Root :=
  { r with com := ⟨r.st, r.band, r.base, r.ramp, r.ss, r.lock, r.coasting, r.everLock, r.snap, r.timing⟩ }

/-- The state machine enters a state; the readable code follows at the commit (03, R73). -/
def State.setSt (s : State) (n st : Nat) : State :=
  (s.modRoot n (fun r => { r with st := st, locks := r.locks + b2n (st == stLocked) })).later n (.put (SYN_STAT_STATE n) st)

/-- The state machine enters a state at a step boundary, where the readable code follows at once. -/
def State.setStNow (s : State) (n st : Nat) : State :=
  (s.modRoot n (fun r => { r with st := st, com := { r.com with st := st }, locks := r.locks + b2n (st == stLocked) })).put (SYN_STAT_STATE n) st

/-- SEQn_STAT while no routine runs: what an interruption left, else zeros (03, R74, R79). -/
def State.showIntr (s : State) (n : Nat) : State :=
  let q := ((s.root n).intr).getD ⟨0, 0, false⟩
  (((s.put (SEQ_STAT_ROUTINE n) q.routine).put (SEQ_STAT_STEP n) q.step).put (SEQ_STAT_PARTIAL n) (b2n q.part)).put (SEQ_STAT_BUSY n) 0

/-- The sequencer starts a routine (03, R74). What an interruption left goes when a routine starts that COASTIN, OFF and SPREAD,
which follow one, are not; a suspended ramp's stays. -/
def State.routine (s : State) (n code : Nat) : State :=
  let keep := s.bit (SEQ_STAT_SUSP n) || code == 6 || code == 7 || code == 9
  let s1 := s.modRoot n (fun r => { r with rt := code, done := false, nstep := 0, stepCyc := 0, stepDue := false,
                                           intr := if keep then r.intr else none })
  (((s1.put (SEQ_STAT_ROUTINE n) code).put (SEQ_STAT_STEP n) 0).put (SEQ_STAT_PARTIAL n) 0).put (SEQ_STAT_BUSY n) 1

/-- The routine that runs ends with the step that runs. -/
def State.lastStep (s : State) (n : Nat) : State := s.modRoot n (fun r => { r with done := true })

/-- The routine has ended. -/
def State.routineEnd (s : State) (n : Nat) : State :=
  (s.modRoot n (fun r => { r with rt := 0, done := false, stepDue := false })).showIntr n

/-- The routine that runs, if one does, is interrupted: SEQn_STAT keeps what it was and how far it came (03, R79). -/
def State.interrupt (s : State) (n : Nat) : State :=
  let r := s.root n
  if r.rt = 0 then s
  else if s.bit (SEQ_STAT_SUSP n) then s.routineEnd n
  else (s.modRoot n (fun x => { x with intr := some ⟨r.rt, s.get (SEQ_STAT_STEP n), decide (0 < r.nstep)⟩ })).routineEnd n

/-- Enter SEARCH: a new band search, from whatever cause (02, R46, R50, R52; 03, R90, R93). -/
def State.enterSearch (s : State) (n : Nat) : State :=
  let r := s.root n
  let s1 := s.setRoot n { r with st := stSearch, lock := false, band := 32, fine := none, lo := 0, hi := 63, trial := 0, cnt := 0,
                                 loss := 0, settle := 0, avg := [], ssk := 0, snap := false, done := false }
  let s2 := (((s1.later n (.put (SYN_STAT_STATE n) stSearch)).later n (.put (SYN_STAT_LOCK n) 0)).later n
    (.count (SYN_SRCHCNT_COUNT n))).later n (.put (SYN_STAT_BAND n) 32)
  let s3 := s2.later n (.put (SYN_CSTAT_AVGVALID n) 0)
  (if r.everLock then s3.later n .slip else s3).noteVar n

/-- Show the pending hop (02, R70). -/
def State.showPend (s : State) (n : Nat) : State :=
  match (s.root n).pend with
  | none => (s.put (SYN_HOPSTAT_PEND n) 0).put (SYN_HOPSTAT_PENDPRESET n) 0
  | some q => (s.put (SYN_HOPSTAT_PEND n) 1).put (SYN_HOPSTAT_PENDPRESET n) q.preset

/-- A hop request ends with a RESULT and its completion goes to its source (02, R54, R55, R70). -/
def State.hopResult (s : State) (n : Nat) (q : HopReq) (result code : Nat) : State :=
  let s1 := (s.put (SYN_HOPSTAT_RESULT n) result).put (SYN_HOPSTAT_LASTPRESET n) q.preset
  s1.answer q.src code 0 (result + s1.get (SYN_HOPSTAT_HOPCNT n) * 2 ^ 16)

/-- The executing hop completes: HOPBUSY, its RESULT, HOPCNT and its completion come with the commit (02, R50, R56, R70). -/
def State.hopDone (s : State) (n : Nat) (result : Nat) : State :=
  match (s.root n).hop with
  | none => s
  | some (q, _) =>
    ((s.modRoot n (fun r => { r with hop := none })).later n (.put (SYN_STAT_HOPBUSY n) 0)).later n (.hop q result Code.OK true)

/-- A request takes the pending place: it replaces the one there, which ends CANCELLED, unless PRIO decides otherwise
(02, R54). -/
def State.pendHop (s : State) (n : Nat) (old new : HopReq) : State :=
  if old.prio ∧ new.prio = false then (s.modRoot n (fun r => { r with pend := some old })).hopResult n new 5 Code.CANCELLED |>.showPend n
  else ((s.modRoot n (fun r => { r with pend := some new })).hopResult n old 5 Code.CANCELLED).showPend n

/-- A hop request arrives (02, R54). -/
def State.requestHop (s : State) (n : Nat) (q : HopReq) : State :=
  let r := s.root n
  if s.isLocked n ∧ r.hop = none ∧ r.pend = none then
    (s.setRoot n { r with hop := some (q, .waiting) }).put (SYN_STAT_HOPBUSY n) 1
  else
    match r.pend with
    | none => (s.setRoot n { r with pend := some q }).showPend n
    | some p => s.pendHop n p q

/-- A hop that was accepted and has not started waits as the pending request, against one that came later (02, R54, R63). -/
def State.unstartHop (s : State) (n : Nat) : State :=
  match (s.root n).hop with
  | some (q, .waiting) =>
    let s1 := (s.modRoot n (fun r => { r with hop := none })).put (SYN_STAT_HOPBUSY n) 0
    match (s.root n).pend with
    | none => (s1.modRoot n (fun r => { r with pend := some q })).showPend n
    | some p => s1.pendHop n q p
  | _ => s

/-- The running ramp is suspended: it holds the base word of its last committed step (03, R78, R79). -/
def State.suspendRamp (s : State) (n : Nat) : State :=
  let s1 := (s.modRoot n (fun r => { r with base := r.com.base, checkpoint := r.com.base, ramp := r.com.ramp })).interrupt n
  (s1.put (SEQ_STAT_SUSP n) 1).put (SYN_RSTAT_PHASE n) 3

/-- A calibration of stampers waits while its bank has no clock; the half that was interrupted begins anew in the first cycle
after the clock's return (08, R243; that the half begins anew is a DESIGN CHOICE). -/
def Cap.clock (x : Cap) (on : Bool) (tb : Nat) : Cap :=
  match x.cal with
  | none => x
  | some q =>
    if on = false then { x with cal := some { q with wait := true } }
    else if q.wait then { x with cal := some { q with wait := false, begin := tb + 1 } }
    else x

/-- The calibrations of a bank's stampers follow its clock. -/
def State.capClock (s : State) (b : Nat) (on : Bool) : State :=
  let tb := (s.root (s.get (BNK_STAT_ROOTACT b))).tb
  { s with caps := s.caps.map (fun p => if p.1 / 64 = b then (p.1, p.2.clock on tb) else p) }

/-- The DLL of a bank enters a state of R115, with its lock cleared. -/
def State.dllTo (s : State) (code b : Nat) : State :=
  (((s.put (BNK_STAT_DLLSTATE b) code).put (BNK_STAT_DLLLOCK b) 0).modBank b (fun x => { x with dllCnt := 0, dllLoss := 0 })).capClock
    b (code != 0)

/-- The root enters OFF (02, R44, R50; 04, R115): the T-clock stops, the banks' DLLs lose their clock. An executing hop
ends CANCELLED (DESIGN CHOICE: the manual names the end of a pending hop only). -/
def State.enterOff (s : State) (n : Nat) : State :=
  let r := s.root n
  let s1 := (((s.put (SYN_STAT_STATE n) stOff).put (SYN_STAT_LOCK n) 0).put (SYN_STAT_COAST n) 0).put (SYN_STAT_HOPBUSY n) 0
  let s2 := ((s1.put (SYN_CSTAT_WORKING n) 0).put (SEQ_STAT_SUSP n) 0).put (SYN_RSTAT_PHASE n) 0
  let s3 := s2.setRoot n { r with st := stOff, lock := false, coasting := false, frozen := false, fine := none, eff := [],
                                  rt := 0, done := false, stepDue := false, waitRamp := none, woDue := false, waitLoss := false, timing := false, ret := none,
                                  tclk := false, testDiv := false, hop := none, ramp := none, snap := false,
                                  woShot := false, waitOff := false, waitAbort := false, cnt := 0, loss := 0 }
  let s4 := match r.hop with
    | none => s3
    | some (q, _) => s3.hopResult n q 5 Code.CANCELLED
  (((s4.modRoot n Root.sync).showIntr n).each (s.banksOf n) (fun t b => t.dllTo 0 b)).commitWord n

/-- The OFF routine starts, one step at whose commit the root is OFF (02, R44; 03, R74); a sequencer that FAULT holds starts
none, and the root is OFF at once. -/
def State.startOff (s : State) (n : Nat) : State :=
  if s.bit (SEQ_STAT_FAULT n) then s.enterOff n else s.routine n 9

/-- No step runs: no routine does, or a segment of a ramp has ended with its step and the next has not started (03, R76, R84). -/
def State.between (s : State) (n : Nat) : Bool :=
  let r := s.root n
  r.rt == 0 || (r.rt == 5 && !r.stepDue && (match r.ramp with
    | some q => q.dwelling && q.left == 0
    | none => true))

/-- The clear of EN ends the routine, whose place stays readable, and the root enters OFF (02, R44; 03, R76, R79); the OFF routine
follows unless the sequencer has a fault. -/
def State.takeOff (s : State) (n : Nat) : State :=
  let s1 := (s.interrupt n).enterOff n
  if s.bit (SEQ_STAT_FAULT n) then s1 else s1.routine n 9

/-! ### Enable and disable (02, R41 to R44) -/

/-- The first failing check of R41 as its CFGWHY; 0: none fails. -/
def State.enableWhy (s : State) (n : Nat) : Nat :=
  let code := s.get (SYN_CTRL_ODIV n)
  let word := s.presetWord n (s.get (SYN_CTRL_PRESET n))
  if ¬(60000 * s.fpdDen n ≤ s.fpdNum n ∧ s.fpdNum n ≤ 250000 * s.fpdDen n) then 1
  else if odivOf code = 0 ∨ (odivTest code ∧ s.profileO = false) then 2
  else if s.vcoOk n word = false then 3
  else if s.tclkOk n word = false then 4
  else if s.domOn (72 + n) = false then 7
  else 0

/-- The loop clamps BW (02, R61): outside 50 to 4,000 kHz or above f_PD / 25. -/
def State.bwClamp (s : State) (n : Nat) : State :=
  let bw := s.get (SYN_LOOP_BW n)
  if bw < 50 ∨ 4000 < bw ∨ s.fpdNum n < bw * 25 * s.fpdDen n then s.flagSyn n (SYN_FLAGS_BWCLAMP n) else s

/-- EN goes from 0 to 1 (02, R41, R50; 03, R81, R93, R96): the root enters WAKE, or the write is refused. DESIGN CHOICE: a root
that an accepted clear of EN has not yet brought to OFF enters OFF first; the MASH accumulators are cleared; phase steps that
were pending stay pending (R59 clears PHPOS only). -/
def State.rootEnable (s : State) (n : Nat) : State :=
  let why := s.enableWhy n
  if why ≠ 0 then s.cfgErr n why
  else
    let s0 := if s.rootState n = stOff then s else s.enterOff n
    let p := s0.get (SYN_CTRL_PRESET n)
    let r := s0.root n
    let s1 := ((s0.put (SYN_CTRL_EN n) 1).put (SYN_STAT_STATE n) stWake).put (SYN_STAT_PRESETACT n) p
    let s2 := (s1.puti (SYN_PHCARRY_CARRY n) 0).puti (SYN_PHPOS_POS n) 0
    let s3 := (s2.put (SYN_CSTAT_AVGVALID n) 0).put (SEQ_STAT_FAULT n) 0
    let w := s0.presetWord n p
    let s4 := s3.setRoot n { r with st := stWake, com := ⟨stWake, r.band, w, none, r.ss, false, false, false, false, false⟩, tb := 0, tclk := false,
                                    testDiv := odivTest (s.get (SYN_CTRL_ODIV n)),
                                    everLock := false, lostInWake := false, base := w, avg := [], hist := [],
                                    cnt := 0, loss := 0, ssk := 0, woShot := false, woCnt := 0, waitOff := false, fbPhase := 0,
                                    acc1 := 0, acc2 := 0, acc3 := 0, c2d := 0, c3d := 0, c3dd := 0 }
    let s5 := s4.each (s.banksOf n) (fun t b => t.modBank b (fun x => { x with openAt := x.openAt.map (fun _ => 0), past := [] }))
    ((s5.bwClamp n).routine n 1).commitWord n

/-- Every bank that selects the root is idle: what EN = 0 asks for (02, R44). `idle b` is R110's condition. -/
def State.rootFree (s : State) (n : Nat) (idle : Nat → Bool) : Bool := (s.banksOf n).all idle

/-- EN is cleared (02, R44; 03, R76; 11, R340): accepted when the selecting banks are idle, and taken at the next step
boundary, at once between two segments of a ramp. -/
def State.rootDisable (s : State) (n : Nat) (idle : Nat → Bool) : State :=
  if s.rootFree n idle = false then s.cfgErr n 6
  else
    let r := s.root n
    let s1 := (s.put (SYN_CTRL_EN n) 0).setRoot n { r with pend := none, waitOff := true }
    let s2 := match r.pend with
      | none => s1
      | some q => s1.hopResult n q 5 Code.CANCELLED
    let s3 := (s2.showPend n).alignVoid n 8
    if r.rt = 0 then s3.startOff n else if s3.between n then s3.takeOff n else s3

/-- RELOCK (02, R50, R63, R65; 03, R81): acts in LOCKED and in HOP. -/
def State.relock (s : State) (n : Nat) : State :=
  let st := s.rootState n
  if s.bit (SEQ_STAT_FAULT n) ∨ (s.root n).frozen then s
  else if st = stLocked then (((s.unstartHop n).interrupt n).enterSearch n).routine n 2
  else if st = stHop then
    let s1 := (s.unstartHop n).modRoot n (fun r => { r with hop := r.hop.map (fun q => (q.1, HopPhase.search)) })
    ((s1.interrupt n).enterSearch n).routine n 2
  else s

/-- PHCLR discards the pending phase steps (02, R59; 11, R340). -/
def State.phclr (s : State) (src : Source) (n : Nat) : State :=
  let s1 := s.puti (SYN_PHPEND_PEND n) 0
  if src = .firmware then s1 else s1.alignVoid n 6

/-- A write of SYNn_CTRL (02, R41 to R44, R65): ODIV is held while EN is 1, EN is checked, RELOCK and PHCLR act. DESIGN CHOICE: the
other fields of a write whose change of EN or ODIV is refused take their values. -/
def State.synCtrlWrite (s : State) (src : Source) (n : Nat) (w : Word) (idle : Nat → Bool) : State :=
  let en := s.bit (SYN_CTRL_EN n)
  let lk := s.bit (SYN_CTRL_LOCK n)
  let odiv := s.get (SYN_CTRL_ODIV n)
  let w1 := fieldPut w.toNat 0 1 (b2n en)
  let w2 := if en then fieldPut w1 4 3 odiv else w1
  let s1 := s.writeReg (SYN_CTRL n) (BitVec.ofNat 32 w2) fullMask
  let s2 := if en ∧ lk = false ∧ fld w 4 3 ≠ odiv then s1.cfgErr n 5 else s1
  let s3 := if en = false ∧ wbit w 0 then s2.rootEnable n
    else if en ∧ wbit w 0 = false then s2.rootDisable n idle else s2
  let s4 := if wbit w 1 then s3.relock n else s3
  if wbit w 2 then s4.phclr src n else s4

/-- A write of SYNn_REF or SYNn_REFFREQ (02, R43): refused while EN is 1. -/
def State.synRefWrite (s : State) (n : Nat) (a : Nat) (w : Word) : State :=
  if s.bit (SYN_CTRL_EN n) ∧ s.bit (SYN_CTRL_LOCK n) = false then s.cfgErr n 5 else s.writeReg a w fullMask

/-- A write of SYNn_LOOP (02, R61). DESIGN CHOICE: with EN at 0 the clamp asks for f_PD of REFFREQ, RMUL and PDIV as they
stand. -/
def State.synLoopWrite (s : State) (n : Nat) (w : Word) : State := (s.writeReg (SYN_LOOP n) w fullMask).bwClamp n

/-! ### Meanings -/

/-- The sequencer runs routines, and no declared loss waits to end the one that runs (03, R76, R81). -/
def State.seqRuns (s : State) (n : Nat) : Bool := !s.bit (SEQ_STAT_FAULT n) && !(s.root n).waitLoss

/-- WAKE_DONE (02, R50): 10 us in WAKE with a qualified reference; the T-clock output is enabled and the banks' DLLs
start (04, R115), unless a test divider is in force (R42). -/
def wakeDone (s : State) (n : Nat) : State :=
  let td := (s.root n).testDiv
  let s1 := s.modRoot n (fun r => { r with tclk := !td })
  let s2 := s1.enterSearch n
  if td then s2 else s2.each ((s.banksOf n).filter (fun b => s.get (BNK_STAT_DLLSTATE b) == 0)) (fun t b => t.dllTo 1 b)

def execWakeDone (n : Fin 4) (s : State) : Host.Outcome State Fault Refusal :=
  if s.rootState n = stWake ∧ s.bit (SYN_CSTAT_REFOK n) ∧ s.seqRuns n then .next (wakeDone s n)
  else .next s

/-- The count window of a band-search trial in f_PD cycles: round(4 us x f_PD) (02, R46). -/
def State.countWindow (s : State) (n : Nat) : Nat := roundDiv (s.fpdNum n) (250 * s.fpdDen n)

/-- The band that a trial leaves in use is shown at the commit (02, R46; 03, R73). -/
def State.setBand (s : State) (n b : Nat) : State :=
  (s.modRoot n (fun r => { r with band := b })).later n (.put (SYN_STAT_BAND n) b)

/-- One band-search trial (02, R46): `edges` VCO/16 edges were counted in the window. After the sixth the loop closes. -/
def bandTrial (s : State) (n edges : Nat) : State :=
  let r := s.root n
  let mid := (r.lo + r.hi + 1) / 2
  let up := decide (16 * edges * 2 ^ 40 ≤ r.base * s.countWindow n)
  let lo := if up then mid else r.lo
  let hi := if up then r.hi else mid - 1
  if r.trial + 1 < 6 then (s.setRoot n { r with lo := lo, hi := hi, trial := r.trial + 1 }).setBand n ((lo + hi + 1) / 2)
  else ((s.setRoot n { r with lo := lo, hi := hi, trial := 6, cnt := 0 }).setBand n lo).setSt n stAcquire

def execBandSearchTrial (n : Fin 4) (edges : Nat) (s : State) : Host.Outcome State Fault Refusal :=
  if s.rootState n = stSearch ∧ s.seqRuns n then .next (bandTrial s n edges) else .next s

/-- The lock count N, the window W and the loss count of SYNn_LOCKCFG (02, R49, R66). -/
def State.lockN (s : State) (n : Nat) : Nat := max 16 (s.get (SYN_LOCKCFG_N n))
def State.lockW (s : State) (n : Nat) : Nat := max 1 (s.get (SYN_LOCKCFG_W n))
def State.lossN (s : State) (n : Nat) : Nat := s.get (SYN_LOCKCFG_LCNT n) + 1

/-- A new lock: what every row of R50 and R100 that enters LOCKED does; the routine ends with the step that runs. -/
def State.enterLocked (s : State) (n : Nat) : State :=
  let s1 := s.modRoot n (fun r => { r with lock := true, coasting := false, timing := false, everLock := true, cnt := 0, loss := 0,
                                           ssk := 0, snap := false, ret := none })
  let s2 := ((s1.setSt n stLocked).later n (.put (SYN_STAT_LOCK n) 1)).later n (.put (SYN_STAT_COAST n) 0)
  (s2.lastStep n).noteVar n

/-- LOCK_DECLARED (02, R49, R50, R63; 03, R98 to R101): the policy sampled at MEASURE decides on the SLEW work-off. -/
def lockDeclared (s : State) (n : Nat) : State :=
  let s1 := s.enterLocked n
  let s2 := if s.rootState n = stReclose then s1.later n .slip else s1
  let s3 := if (s.root n).ret = some 1 ∧ s.willi n (SYN_PHCARRY_CARRY n) ≠ 0 then
      (s2.later n (.put (SYN_CSTAT_WORKING n) 1)).modRoot n (fun r => { r with woShot := false, woCnt := 0 })
    else s2
  match (s.root n).hop with
  | some (_, .search) => s3.hopDone n 2
  | some (_, .ended) => s3.hopDone n 1
  | _ => s3

def execLockDeclared (n : Fin 4) (s : State) : Host.Outcome State Fault Refusal :=
  if (s.rootState n = stCount ∨ s.rootState n = stReclose) ∧ s.lockN n ≤ (s.root n).cnt ∧ s.seqRuns n then .next (lockDeclared s n)
  else .next s

/-- The loop has lost its lock: LOCK, LOL and LOLCNT (02, R50, R51). -/
def State.lossEffects (s : State) (n : Nat) : State :=
  ((s.later n (.put (SYN_STAT_LOCK n) 0)).later n (.flag (SYN_FLAGS_LOL n))).later n (.count (SYN_LOLCNT_COUNT n))

/-- LOSS_OF_LOCK (02, R50, R51, R63; 03, R79, R87, R100): a ramp is suspended, a hop goes on through the search. -/
def lossOfLock (s : State) (n : Nat) : State :=
  let s1 := s.unstartHop n
  let s2 := (if s.rootState n = stRamp then s1.suspendRamp n else s1.interrupt n).modRoot n (fun r => { r with com := { r.com with lock := false } })
  let s3 := if s.rootState n = stHop then s2.modRoot n (fun r => { r with hop := r.hop.map (fun q => (q.1, HopPhase.search)) }) else s2
  ((s3.lossEffects n).enterSearch n).routine n 2

/-- The effects that wait take place. -/
def State.applyEff (n : Nat) (s : State) : Eff → State
  | .put r v => s.put r v
  | .flag r => s.flagSyn n r
  | .slip => s.tbslip n
  | .count r => s.inc r
  | .hop q result code counts => (if counts then s.incWrap (SYN_HOPSTAT_HOPCNT n) else s).hopResult n q result code

/-- A step commits its shadow effects together, oldest first (03, R73). -/
def State.commitEff (s : State) (n : Nat) : State :=
  (s.root n).eff.foldl (State.applyEff n) (s.modRoot n (fun r => { r with eff := [] }))

/-- Under FAULT no routine starts: the lock detector deasserts lock and the loop keeps running (03, R81). -/
def lossUnderFault (s : State) (n : Nat) : State :=
  (((s.unstartHop n).modRoot n (fun r => { r with lock := false, loss := 0, com := { r.com with lock := false } })).lossEffects n).commitEff n

def execLossOfLock (n : Fin 4) (s : State) : Host.Outcome State Fault Refusal :=
  if (s.rootState n = stLocked ∨ s.rootState n = stHop ∨ s.rootState n = stRamp) ∧ s.lossN n ≤ (s.root n).loss ∧ (s.root n).frozen = false
  then .next (if s.bit (SEQ_STAT_FAULT n) then lossUnderFault s n else lossOfLock s n) else .next s

/-- ACQUISITION_TIMEOUT (02, R50; 03, R74, R100): out of RECLOSE the search is a RELOCK. -/
def acquisitionTimeout (s : State) (n : Nat) : State :=
  let s1 := (s.later n (.flag (SYN_FLAGS_BANDFAIL n))).enterSearch n
  if s.rootState n = stReclose then s1.routine n 2 else s1

def execAcquisitionTimeout (n : Fin 4) (s : State) : Host.Outcome State Fault Refusal :=
  if (s.rootState n = stAcquire ∨ s.rootState n = stCount ∨ s.rootState n = stReclose) ∧ s.seqRuns n then .next (acquisitionTimeout s n)
  else .next s

/-- A hop is refused at its first step (02, R55): a root that its interrupted hop left in a search goes on searching. DESIGN
CHOICE: one that its interrupted hop left settling in band is LOCKED at once. -/
def State.refuseHop (s : State) (n : Nat) (q : HopReq) (result code : Nat) : State :=
  let st := s.rootState n
  let s1 := ((s.modRoot n (fun r => { r with hop := none })).put (SYN_STAT_HOPBUSY n) 0).flagSyn n (SYN_FLAGS_HOPREF n)
  let s2 := s1.hopResult n q result code
  if st = stHop then s2.setStNow n stLocked
  else if st = stSearch ∨ st = stAcquire ∨ st = stCount then (s2.enterSearch n).routine n 2
  else s2

/-- A hop takes its preset, a synchronous one at T (11, R345): it is refused, or it starts in band, or it starts a band search (02, R55; 03, R73, R90). DESIGN
CHOICE: the loss count starts afresh with an in-band hop. -/
def hopStart (s0 : State) (n : Nat) (q : HopReq) : State :=
  let s := match q.notBefore with
    | some t => s0.modRoot n (fun r => { r with tb := max r.tb t })
    | none => s0
  let r := s.root n
  let word := s.presetWord n q.preset
  let st := s.rootState n
  let searching := st = stSearch ∨ st = stAcquire ∨ st = stCount
  if s.rangeOk n r.ss word = false then s.refuseHop n q 4 Code.FREQ_RANGE
  else
    let s1 := (s.put (SYN_STAT_HOPBUSY n) 1).later n (.put (SYN_STAT_PRESETACT n) q.preset)
    let s2 := match q.src with
      | .link _ _ => s1
      | _ => s1.alignVoid n 4
    if ¬searching ∧ s.inBand n r.ss word then
      let s3 := s2.modRoot n (fun x => { x with hop := some (q, .inBand), base := word, settle := 0, loss := 0 })
      (((s3.setSt n stHop).routine n 3).feedForward n (s.wordInForce n) false).noteVar n
    else if ¬searching ∧ s.bit (SYN_CTRL_PIN n) then s.refuseHop n q 3 Code.BAND_PINNED
    else ((s2.modRoot n (fun x => { x with hop := some (q, .search), base := word })).enterSearch n).routine n 4

/-- The sequencer is free to start a routine: none runs, and it neither stands still nor has an EN clear or a loss to take first
(03, R73, R76, R78, R81). -/
def State.seqFree (s : State) (n : Nat) : Bool :=
  let r := s.root n
  s.seqRuns n && !r.frozen && !r.waitOff && r.rt == 0

/-- A synchronous hop starts once the timebase, which counts, comes to its T (11, R345); of a root with a test divider it does not
count (02, R42). -/
def State.hopTime (s : State) (n : Nat) (q : HopReq) : Bool :=
  match q.notBefore with
  | none => true
  | some t => (s.root n).tclk || decide (t ≤ (s.root n).tb)

def execHopStart (n : Fin 4) (s : State) : Host.Outcome State Fault Refusal :=
  if s.seqFree n = false then .next s
  else match (s.root n).hop, (s.root n).pend with
    | some (q, .waiting), _ => .next (if s.hopTime n q then hopStart s n q else s)
    | none, some q =>
      if s.isLocked n ∧ s.hopTime n q then .next (hopStart ((s.modRoot n (fun r => { r with pend := none })).showPend n) n q) else .next s
    | _, _ => .next s

/-- An in-band hop has applied its word (02, R55, R56). -/
def State.hopInBand (s : State) (n : Nat) : Bool :=
  match (s.root n).hop with
  | some (_, .inBand) => true
  | _ => false

/-- HOP_SETTLED (02, R50, R56): the readable registers follow with the step that runs. -/
def hopSettled (s : State) (n : Nat) : State := ((s.setSt n stLocked).lastStep n).hopDone n 1

def execHopSettled (n : Fin 4) (s : State) : Host.Outcome State Fault Refusal :=
  if s.rootState n = stHop ∧ s.hopInBand n ∧ 16 ≤ (s.root n).settle ∧ s.seqRuns n then .next (hopSettled s n) else .next s

/-- A write of SYNn_HOP (02, R54, R70); a write with GO at 0 does nothing. -/
def State.hopWrite (s : State) (n : Nat) (w : Word) (src : Src) : State :=
  if wbit w 31 then s.requestHop n { preset := fld w 0 4, prio := wbit w 8, src := src } else s

def execHopRequest (src : Source) (n : Fin 4) (w : Word) (s : State) : Host.Outcome State Fault Refusal :=
  .next (s.rowWrite src (SYN_HOP n) w (fun u => u.hopWrite n w .none))

/-- A write of SYNn_PHSTEP adds its S24 value to PHPEND, which saturates (02, R59; 11, R340). -/
def State.phstepWrite (s : State) (src : Source) (n : Nat) (w : Word) : State :=
  let v := s.geti (SYN_PHPEND_PEND n) + signed 24 (fld w 0 24)
  let c := satSym (2 ^ 31 - 1) v
  let s1 := s.puti (SYN_PHPEND_PEND n) c
  let s2 := if c ≠ v then s1.flagSyn n (SYN_FLAGS_PHSAT n) else s1
  if src = .firmware then s2 else s2.alignVoid n 6

def execPhstep (src : Source) (n : Fin 4) (w : Word) (s : State) : Host.Outcome State Fault Refusal :=
  .next (s.rowWrite src (SYN_PHSTEP n) w (fun u => u.phstepWrite src n w))

/-! ### The phase-detector cycle (02, R38, R39, R49, R58, R59; 03, R72, R83, R88, R90, R93) -/

/-- One cycle of the third-order MASH with 40-bit accumulators (02, R36 to R38): `i` is INT, `f` FRAC + FTRIM. The output
lies in -3 to 4 and the divide value in 16 to 255; an input of 0 without dither holds the output at 0. `d` is the dither
sample (R39). -/
def mashCycle (r : Root) (i : Nat) (f : Int) (dither : Bool) (d : Int) : Root :=
  if f = 0 ∧ dither = false then { r with divv := max 16 (min 255 i) }
  else
    let t1 : Int := (r.acc1 : Int) + f + d
    let c1 := t1 / (2 ^ 40 : Nat)
    let a1 := (t1 % (2 ^ 40 : Nat)).toNat
    let t2 := r.acc2 + a1
    let c2 : Int := (t2 / 2 ^ 40 : Nat)
    let a2 := t2 % 2 ^ 40
    let t3 := r.acc3 + a2
    let c3 : Int := (t3 / 2 ^ 40 : Nat)
    let a3 := t3 % 2 ^ 40
    let y := max (-3) (min 4 (c1 + (c2 - r.c2d) + (c3 - 2 * r.c3d + r.c3dd)))
    { r with acc1 := a1, acc2 := a2, acc3 := a3, c2d := c2, c3d := c3, c3dd := r.c3d, divv := (max 16 (min 255 ((i : Int) + y))).toNat }

/-- The modulator's cycle with the dither drawn when DITHER is 1 (02, R37, R39). -/
def fpdModulator (s : State) (n : Nat) : State :=
  let dith := s.bit (SYN_CTRL_DITHER n)
  let d : Int := if dith then ((Config.freeDither s.free % 3 : Nat) : Int) - 1 else 0
  let w := s.wordInForce n
  let f : Int := ((w % 2 ^ 40 : Nat) : Int) + s.geti (SYN_FTRIM_TRIM n)
  let s1 := s.modRoot n (fun r => mashCycle r (w / 2 ^ 40) f dith d)
  if dith then s1.draw else s1

/-- The lock, loss and settle counters of the state (02, R49, R50, R56; 03, R100), in a cycle in which the phase error was
measured. -/
def fpdCounters (s : State) (n : Nat) (e : Int) : State :=
  let st := s.rootState n
  let r := s.root n
  let inW := e.natAbs ≤ s.lockW n
  let out := 2 * s.lockW n < e.natAbs
  if st = stLocked ∨ st = stRamp then
    s.setRoot n { r with loss := if out then min (r.loss + 1) (s.lossN n) else 0 }
  else if st = stHop then
    s.setRoot n { r with loss := if out then min (r.loss + 1) (s.lossN n) else 0
                         settle := if inW then min (r.settle + 1) 16 else 0 }
  else if s.bit (SEQ_STAT_FAULT n) then s
  else if st = stAcquire then
    if inW then (s.setRoot n { r with cnt := 1 }).setSt n stCount else s
  else if st = stCount then
    if inW then s.setRoot n { r with cnt := min (r.cnt + 1) (s.lockN n) }
    else (s.setRoot n { r with cnt := 0 }).setSt n stAcquire
  else if st = stReclose then
    s.setRoot n { r with cnt := if inW then min (r.cnt + 1) (s.lockN n) else 0 }
  else s

/-- The averager's window in f_PD cycles; AVG outside 10 to 16 acts as the nearest limit (03, R93, R107). -/
def State.avgWin (s : State) (n : Nat) : Nat := 2 ^ max 10 (min 16 (s.get (SYN_CCTRL_AVG n)))

/-- AVGVALID: a whole window has been averaged since the restart (03, R93). -/
def State.showAvg (s : State) (n : Nat) : State :=
  s.put (SYN_CSTAT_AVGVALID n) (b2n (decide (s.avgWin n ≤ (s.root n).avg.length)))

/-- The averager takes the loop's correction of a cycle in LOCKED, HOP and RAMP in which the phase detector received an edge
(03, R93); it keeps what the longest window may ask for. -/
def fpdAverager (s : State) (n : Nat) (corr : Int) : State :=
  let st := s.rootState n
  if st = stLocked ∨ st = stHop ∨ st = stRamp then (s.modRoot n (fun r => { r with avg := (corr :: r.avg).take (2 ^ 16) })).showAvg n
  else s

/-- The spread's cycle within the period (03, R88, R90). -/
def fpdSpread (s : State) (n : Nat) : State :=
  match (s.root n).ss with
  | none => s
  | some sp => if spreadRuns (s.rootState n) then s.modRoot n (fun r => { r with ssk := (r.ssk + 1) % max 1 sp.period }) else s

/-- The phase stepper runs: in LOCKED and RAMP while the loop is closed and the sequencer has no fault (02, R59; 03, R75, R81). -/
def State.stepperOn (s : State) (n : Nat) : Bool :=
  (s.rootState n == stLocked || s.rootState n == stRamp) && !s.bit (SEQ_STAT_FAULT n) && !(s.root n).frozen

/-- One phase step of a sign: the feedback modulator's phase and PHPOS take it (02, R58, R59). -/
def State.phaseStep (s : State) (n : Nat) (d : Int) : State :=
  ((s.modRoot n (fun r => { r with fbPhase := r.fbPhase + d, stepped := true })).puti (SYN_PHPOS_POS n) (s.geti (SYN_PHPOS_POS n) + d)).phaseForward n

/-- The count of f_PD cycles to the next work-off step begins anew. -/
def State.workoffCount (s : State) (n : Nat) : State := s.modRoot n (fun r => { r with woCnt := 0, woDue := false })

/-- PHCARRY is worked off: the mode ends (03, R98). -/
def State.workoffEnd (s : State) (n : Nat) : State := (s.put (SYN_CSTAT_WORKING n) 0).modRoot n (fun r => { r with woShot := false })

/-- A work-off step: PHCARRY moves one step toward 0, and the step has the opposite sign (03, R98). -/
def State.workoffMove (s : State) (n : Nat) : State :=
  let c := s.geti (SYN_PHCARRY_CARRY n)
  let s1 := ((s.puti (SYN_PHCARRY_CARRY n) (c - sgn c)).phaseStep n (- sgn c)).workoffCount n
  if c - sgn c = 0 then s1.workoffEnd n else s1

/-- The stepper's cycle, at most one step: the work-off step that the cycle before put off, else one pending step
(02, R58, R59; 03, R75). -/
def fpdStepper (s : State) (n : Nat) : State :=
  let s0 := s.modRoot n (fun r => { r with stepped := false })
  if s.stepperOn n then
    let s1 := if s.bit (SYN_CSTAT_WORKING n) then s0.modRoot n (fun r => { r with woCnt := r.woCnt + 1 }) else s0
    let pend := s.geti (SYN_PHPEND_PEND n)
    if (s.root n).woDue ∧ s.bit (SYN_CSTAT_WORKING n) then s1.workoffMove n
    else if pend = 0 then s1
    else (s1.puti (SYN_PHPEND_PEND n) (pend - sgn pend)).phaseStep n (sgn pend)
  else s0

/-- PHBUSY (02, R67): the stepper executes pending steps or a carry work-off. -/
def State.phBusy (s : State) (n : Nat) : Bool := s.stepperOn n && (s.geti (SYN_PHPEND_PEND n) != 0 || s.bit (SYN_CSTAT_WORKING n))

/-- One cycle of a running ramp: the slope moves the base toward the target, or the dwell counts (03, R83). -/
def rampCycle (r : Root) (q : Ramp) : Root :=
  if q.dwelling then { r with ramp := some { q with left := q.left - 1 } }
  else
    let d : Int := (q.cur.target : Int) - r.base
    if q.cur.slope = 0 ∨ d.natAbs ≤ q.cur.slope then
      { r with base := q.cur.target, ramp := some { q with dwelling := true, left := q.cur.dwell } }
    else { r with base := ((r.base : Int) + sgn d * q.cur.slope).toNat }

/-- STEPLEN: floor(2 us x f_PD) (03, R84). -/
def State.stepLen (s : State) (n : Nat) : Nat := s.fpdNum n / (500 * s.fpdDen n)

/-- A slope or a dwell ends with the cycle that leads from `q` to `q'` (03, R84). -/
def phaseEnds (q q' : Ramp) : Bool := (!q.dwelling && q'.dwelling) || (q.dwelling && q'.left == 0)

/-- The ramp's part of a cycle, in RAMP only; its step ends every STEPLEN cycles of a slope or a dwell and at the end of each
(03, R83, R84). Until the step's commit and the next segment's start no cycle of it runs. -/
def fpdRamp (s : State) (n : Nat) : State :=
  let r := s.root n
  match r.ramp with
  | none => s
  | some q =>
    if s.rootState n ≠ stRamp ∨ r.rt ≠ 5 ∨ r.stepDue ∨ (q.dwelling ∧ q.left = 0) then s
    else
      let r1 := rampCycle r q
      let ends := match r1.ramp with
        | none => false
        | some q' => phaseEnds q q'
      let due := ends || r.stepCyc + 1 == s.stepLen n
      s.setRoot n { r1 with stepDue := due, stepCyc := if due then 0 else r.stepCyc + 1 }

/-- The fine tuning of the cycle: what the loop holds, or closes on (03, R73, R77): the modulator's input and the loop's own
correction. -/
def fpdFine (s : State) (n : Nat) (corr : Int) : State :=
  let st := s.rootState n
  if st = stSearch ∨ st = stFreerun then s
  else s.modRoot n (fun r => { r with fine := some (s.modulatorIn n + if coasts st then 0 else corr) })

/-- FPD_CYCLE: `e` is the phase error in 1/64 VCO period, none where no edge reaches the phase detector, `corr` the
loop's own correction in units of 2^-40. A frozen loop holds its control word (03, R77). The change of the cycle is fed forward
to the bank DLLs (04, R117). -/
def fpdCycle (s : State) (n : Nat) (e : Option Int) (corr : Int) : State :=
  let s1 := fpdModulator s n
  let s2 := match e with
    | some x => if (s.root n).frozen then s1 else fpdAverager (fpdCounters s1 n x) n corr
    | none => s1
  let s3 := fpdRamp (fpdStepper s2 n) n
  let s4 := fpdSpread (if (s.root n).frozen then s3 else fpdFine s3 n corr) n
  (s4.feedForward n (s.wordInForce n) (s.root n).snap).noteVar n

def execFpdCycle (n : Fin 4) (e : Option Int) (corr : Int) (s : State) : Host.Outcome State Fault Refusal :=
  if s.rootState n = stOff ∨ s.rootState n = stWake then .next s else .next (fpdCycle s n e corr)

end Sys2Proof.Machine
end

