-- ==== Sys2Proof/Machine/Channels.lean ====
section
/-! DEFINITION. A channel's edge synthesis as commands (05_direct_edge_synthesis.md): cycle starts, the scheduler, the
lines, parking, the deskew and the period modulation. -/

set_option Elab.async false

namespace Sys2Proof.Machine

/-! ### Groups and banks of a channel (06, R174, R175) -/

/-- The banks that hold members of a group, in order; the first is the lead bank. -/
def State.memberBanks (s : State) (g : Nat) : List Nat :=
  let m := s.members g
  (List.range 8).filter (fun b => m.any (fun n => n / 64 == b))

/-- The lead bank; 0 for a group with no members. -/
def State.leadBank (s : State) (g : Nat) : Nat := (s.memberBanks g).headD 0

/-- The root a bank uses, and its timebase. -/
def State.rootOf (s : State) (b : Nat) : Nat := s.get (BNK_STAT_ROOTACT b)
def State.tbOf (s : State) (b : Nat) : Nat := (s.root (s.rootOf b)).tb

/-- The root that a bank uses gives it a T-clock (02, R42, R50). -/
def State.clocked (s : State) (b : Nat) : Bool := (s.root (s.rootOf b)).tclk

/-- A group is split while its member banks do not all select one root (04, R113). -/
def State.split (s : State) (g : Nat) : Bool :=
  match s.memberBanks g with
  | [] => false
  | b :: t => t.any (fun c => s.rootOf c != s.rootOf b)

/-- A timed event moves its timebase forward to its moment, never back. -/
def State.tbTo (s : State) (b t : Nat) : State :=
  s.modRoot (s.rootOf b) (fun r => { r with tb := max r.tb t })

/-- The group of a channel. -/
def State.groupOf (s : State) (n : Nat) : Nat := s.get (CH_GRP_GROUP n)

/-- LEAD of a group (07, R204, R225). -/
def State.leadOf (s : State) (g : Nat) : Nat := max 4096 (s.get (GRP_TSPCFG_LEAD g))

/-- What the members of a group read slots by. -/
def State.gctx (s : State) (g : Nat) : GCtx :=
  let x := s.group g
  { init := x.initCur, pend := x.initPend, lead := s.leadOf g, buf := x.buf }

/-- The cycle after the last one that a member has read (06, R173), no further than the stop cycle: a member whose group waits for
its T, or whose entries wait for the next START (07, R207), has read none. -/
def State.nextRead (s : State) (n : Nat) : Nat :=
  let x := s.group (s.groupOf n)
  let c := (s.chan n).cyc
  let k := if c.on then c.k + 4 else if s.bit (GRP_STAT_RUN (s.groupOf n)) && x.start.isNone then c.k else 0
  if x.flushed then 0 else match x.stopAt with
    | some j => min k j
    | none => k

/-! ### Park causes (05, R152 to R155) -/

def causeMan : Nat := 0
def causeUnder : Nat := 1
def causeHalt : Nat := 2
def causeDetach : Nat := 3
def causeVoid : Nat := 4
def causeOvr : Nat := 5
def causeNogrp : Nat := 6

/-- Is a park cause in force? -/
def State.cause (s : State) (n c : Nat) : Bool := s.get (CH_STAT_PCAUSE n) / 2 ^ c % 2 == 1

/-- Set or clear one bit of PCAUSE. -/
def State.putCause (s : State) (n c : Nat) (v : Bool) : State :=
  s.put (CH_STAT_PCAUSE n) (fieldPut (s.get (CH_STAT_PCAUSE n)) c 1 (b2n v))

def State.modPark (s : State) (n : Nat) (f : Park → Park) : State := s.modChan n (fun x => { x with pk := f x.pk })
def State.modSch (s : State) (n : Nat) (f : Sched → Sched) : State := s.modChan n (fun x => { x with sch := f x.sch })
def State.modCyc (s : State) (n : Nat) (f : Cyc → Cyc) : State := s.modChan n (fun x => { x with cyc := f x.cyc })

/-- Does a cause stand, once the changes on their way have taken effect? -/
def State.causeStands (s : State) (n c : Nat) : Bool :=
  match ((s.chan n).pk.chg.filter (fun w => w.cause == c)).getLast? with
  | some w => w.park
  | none => s.cause n c

/-- A cause will park the channel; a second request for the same cause adds nothing. -/
def State.parkWant (s : State) (n c : Nat) (d : Due) : State :=
  if s.causeStands n c then s else s.modPark n (fun p => { p with chg := p.chg ++ [⟨c, d, true⟩] })

/-- After causes were released: with none left the channel leaves park when due (05, R154); a channel whose cycles do
not run stays as it is. -/
def State.leaveIfFree (s : State) (n : Nat) (d : Due) : State :=
  let p := (s.chan n).pk
  if p.parked ∧ s.get (CH_STAT_PCAUSE n) = 0 ∧ p.leave = none then s.modPark n (fun p => { p with leave := some d }) else s

/-- Release a cause now: a request that has not reached its park cycle is withdrawn (05, R155); the channel leaves at
the first cycle at least 48 T-clock cycles later (05, R154). -/
def State.parkRelease (s : State) (n c : Nat) : State :=
  let had := s.cause n c
  let s1 := (s.putCause n c false).modPark n (fun p => { p with chg := p.chg.filter (fun w => w.cause != c) })
  if had then s1.leaveIfFree n (.time (s.tbOf (n / 64) + 48)) else s1

/-- A releasing rule names the cycle of the release (05, R154). -/
def State.parkReleaseAt (s : State) (n c k : Nat) : State :=
  s.modPark n (fun p => { p with chg := p.chg ++ [⟨c, .cycle k, false⟩] })

/-- The causes whose parking, or whose release, is due at the next cycle boundary of a channel. -/
def State.chgDue (s : State) (n : Nat) (park : Bool) : List Nat :=
  let x := s.chan n
  (x.pk.chg.filter (fun w => (w.park == park) && w.due.reached x.cyc.k x.cyc.s)).map (fun w => w.cause)
def State.wantDue (s : State) (n : Nat) : List Nat := s.chgDue n true
def State.relDue (s : State) (n : Nat) : List Nat := s.chgDue n false

/-- The changes of one kind that are due have been taken. -/
def State.dropDue (s : State) (n : Nat) (park : Bool) : State :=
  let x := s.chan n
  s.modPark n (fun p => { p with chg := p.chg.filter (fun w => !((w.park == park) && w.due.reached x.cyc.k x.cyc.s)) })

/-- The leave is due at the coming cycle, no sooner than a halt's release allows (04, R124; 05, R154). -/
def State.leaveDue (s : State) (n : Nat) : Bool :=
  let x := s.chan n
  match x.pk.leave with
  | none => false
  | some d => d.reached x.cyc.k x.cyc.s && (Due.time x.pk.notBefore).reached x.cyc.k x.cyc.s

/-! ### Deskew (05, R139) -/

/-- DSKBUSY shows whether DSKACT has reached the target. -/
def State.showDsk (s : State) (n : Nat) : State :=
  s.put (CH_STAT_DSKBUSY n) (b2n (s.get (CH_DSKACT_ACT n) != s.get (CH_DESKEW_TARGET n)))

/-- DSKACT takes the target at once, as STEP does at a cycle boundary. -/
def State.takeTarget (s : State) (n : Nat) : State :=
  ((s.put (CH_DSKACT_ACT n) (s.get (CH_DESKEW_TARGET n))).modChan n (fun x => { x with slewCnt := 0, slewDone := false })).showDsk n

/-- Has DSKACT not reached the target? -/
def State.dskOpen (s : State) (n : Nat) : Bool := s.get (CH_DSKACT_ACT n) != s.get (CH_DESKEW_TARGET n)

/-- A channel that was parked before the coming boundary takes its target there in STEP (05, R139). -/
def State.stepDue (s : State) (n : Nat) : Bool :=
  let p := (s.chan n).pk
  s.bit (CH_DSKCTRL_MODE n) && p.parked && !p.fresh && s.dskOpen n

/-- A step that waits for the boundary is taken. -/
def State.stepBoundary (s : State) (n : Nat) : State := if s.stepDue n then s.takeTarget n else s

/-- Where no cycle runs there is no boundary to wait for: the step is taken at once (DESIGN CHOICE). -/
def State.stepIdle (s : State) (n : Nat) : State := if (s.chan n).cyc.on then s else s.stepBoundary n

/-- A slew starts: its count, and N for its first move (05, R139). -/
def State.slewStart (s : State) (n : Nat) : State :=
  s.modChan n (fun x => { x with slewCnt := 0, slewN := max 1 (s.get (CH_DSKCTRL_N n)), slewDone := false })

/-- A new deskew target takes effect (05, R139, R155). A parked channel in STEP takes it at its next boundary; every other
change is a slew, whose count starts unless one runs already. -/
def State.newDeskew (s : State) (n : Nat) (busy : Bool) : State :=
  let s0 := s.showDsk n
  if s.bit (CH_DSKCTRL_MODE n) ∧ (s.chan n).pk.parked then s0.stepIdle n
  else
    let s1 := if s.bit (CH_DSKCTRL_MODE n) then s0.flagCh n (CH_FLAGS_STEP2SLEW n) else s0
    if busy then s1 else s1.slewStart n

/-- A write of CHn_DESKEW (05, R139). -/
def State.deskewWrite (s : State) (n : Nat) (w : Word) : State :=
  (s.writeReg (CH_DESKEW n) w fullMask).newDeskew n (s.dskOpen n)

/-- A write of CHn_DSKCTRL (05, R139): a step that waited becomes a slew when MODE leaves STEP; in STEP an idle channel takes
its target. -/
def State.dskctrlWrite (s : State) (n : Nat) (w : Word) : State :=
  let s1 := s.writeReg (CH_DSKCTRL n) w fullMask
  if s.stepDue n ∧ s1.stepDue n = false then s1.slewStart n else s1.stepIdle n

/-- Host writes of a HELD channel's calibration registers are ignored (10, R292). -/
def State.heldBars (s : State) (src : Source) (n : Nat) : Bool := s.bit (CH_CALSTAT_HELD n) && src != .firmware

def execDeskewTargetWrite (src : Source) (n : Fin 512) (w : Word) (s : State) : Host.Outcome State Fault Refusal :=
  .next (s.rowWrite src (CH_DESKEW n) w (fun u => if u.heldBars src n then u.put (CH_CALFLAGS_WREF n) 1 else u.deskewWrite n w))

/-- A slew's next move is due at the coming boundary. -/
def State.slewDue (s : State) (n : Nat) : Bool :=
  let x := s.chan n
  x.cyc.on && !s.stepDue n && !x.slewDone && s.dskOpen n && decide (x.slewN ≤ x.slewCnt + 1)

/-- DESKEW_SLEW_STEP: DSKACT moves one tick toward the target; the next move takes the N of now (05, R139). -/
def slewStep (s : State) (n : Nat) : State :=
  let a := s.geti (CH_DSKACT_ACT n)
  let t := s.geti (CH_DESKEW_TARGET n)
  ((s.puti (CH_DSKACT_ACT n) (a + sgn (t - a))).modChan n (fun x => { x with slewDone := true, slewN := max 1 (s.get (CH_DSKCTRL_N n)) })).showDsk n

def execDeskewSlewStep (n : Fin 512) (s : State) : Host.Outcome State Fault Refusal :=
  if s.slewDue n then .next (slewStep s n) else .next s

/-! ### DTC tables (10, R298, R305) -/

/-- The 64 entries of a table whose registers begin at an address, and the registers put from entries. -/
def State.tableAt (s : State) (a : Nat) : List Nat := (List.range 32).flatMap (fun i => [s.get ⟨a + 4 * i, 0, 12⟩, s.get ⟨a + 4 * i, 16, 12⟩])

def State.putTable (s : State) (a : Nat) (l : List Nat) : State :=
  (List.range 32).foldl (fun u i => u.setWord (a + 4 * i) (BitVec.ofNat 32 (l.getD (2 * i) 0 % 4096 + l.getD (2 * i + 1) 0 % 4096 * 2 ^ 16))) s

/-- Does the DTC table in force differ from its target? -/
def State.dtcBusy (s : State) (n : Nat) : Bool := (List.range 32).any (fun i => s.word (CH_DINLT n i) != s.word (CH_DINLA n i))

/-- Before a change at the coming boundary: events of earlier cycles keep the table as it is, while any is left (10, R305). -/
def State.dtcKeep (s : State) (n : Nat) : State :=
  s.modChan n (fun x =>
    let due := fun (c : Nat) => x.sch.evs.any (fun e => decide (e.k < c)) || x.sch.queue.any (fun p => p.ev.any (fun e => decide (e.k < c)))
    { x with dtcOld := (x.dtcOld ++ [(x.cyc.k, s.tableAt (CH_DINLA n 0))]).filter (fun q => due q.1) })

/-- Every entry takes its target. -/
def State.takeDtc (s : State) (n : Nat) : State :=
  ((s.dtcKeep n).putTable (CH_DINLA n 0) (s.tableAt (CH_DINLT n 0))).modChan n (fun x => { x with dtcCnt := 0, dtcDone := false })

/-- In STEP a parked channel that is not in calibration drive takes its targets at a cycle boundary (10, R305). -/
def State.dtcWaits (s : State) (n : Nat) : Bool :=
  s.bit (CH_CALCTRL_DMODE n) && !s.bit (CH_CALCTRL_CDRV n) && (s.chan n).pk.parked && s.dtcBusy n
def State.dtcStepDue (s : State) (n : Nat) : Bool := s.dtcWaits n && !(s.chan n).pk.fresh
def State.dtcBoundary (s : State) (n : Nat) : State := if s.dtcStepDue n then s.takeDtc n else s

/-- Where no cycle runs the targets are taken at once, as DESKEW's (DESIGN CHOICE). -/
def State.dtcIdle (s : State) (n : Nat) : State := if (s.chan n).cyc.on then s else s.dtcBoundary n

/-- A slew of the DTC table starts: its count, and N for its first move (10, R305). -/
def State.dtcStart (s : State) (n : Nat) : State :=
  s.modChan n (fun x => { x with dtcCnt := 0, dtcN := max 1 (s.get (CH_CALCTRL_N n)), dtcDone := false })

/-- New targets: STEP on a running channel is a slew too; a slew that runs is redirected (10, R305). -/
def State.newDtc (s : State) (n : Nat) (busy : Bool) : State :=
  if s.dtcWaits n then s.dtcIdle n
  else
    let s1 := if s.bit (CH_CALCTRL_DMODE n) ∧ ¬((s.chan n).pk.parked ∧ s.bit (CH_CALCTRL_CDRV n) = false) then s.put (CH_CALFLAGS_DSTEP2SLEW n) 1 else s
    if busy then s1 else s1.dtcStart n

/-- One entry moves toward its target by at most 16 LSB. -/
def dtcMove (now target : Nat) : Nat :=
  let d := signed 12 target - signed 12 now
  wrapNat 12 (signed 12 now + satSym 16 d)

/-- A move of the slew is due at the coming boundary (10, R305). -/
def State.dtcSlewDue (s : State) (n : Nat) : Bool :=
  let x := s.chan n
  x.cyc.on && decide (x.dtcN ≤ x.dtcCnt + 1) && !x.dtcDone && s.dtcBusy n && !s.dtcStepDue n

def dtcSlew (s : State) (n : Nat) : State :=
  ((s.dtcKeep n).putTable (CH_DINLA n 0) (List.zipWith dtcMove (s.tableAt (CH_DINLA n 0)) (s.tableAt (CH_DINLT n 0)))).modChan n
    (fun x => { x with dtcDone := true, dtcN := max 1 (s.get (CH_CALCTRL_N n)) })

/-- DTC_SLEW_STEP: the N-th channel cycle since the last move begins. -/
def execDtcSlewStep (n : Fin 512) (s : State) : Host.Outcome State Fault Refusal := if s.dtcSlewDue n then .next (dtcSlew s n) else .next s

/-- Entry e of the table in force at the start of a cycle; a rest toggle's cycle is the present one (10, R305). -/
def State.dtcEntry (s : State) (n : Nat) (k : Option Nat) (e : Nat) : Int :=
  match k.bind (fun c => (s.chan n).dtcOld.find? (fun q => decide (c < q.1))) with
  | some q => signed 12 (q.2.getD (e % 64) 0)
  | none => signed 12 (s.get ⟨CH_DINLA n (e % 64 / 2), 16 * (e % 2), 12⟩)

/-- The fine delay that the DTC realises for a placed toggle, in 2^-20 tick: f * (1 + GC * 2^-20) + OC / 16 + DINL(f), the last by R298's
interpolation and off under BYP[1] (10, R298, R309). -/
def State.fineDelay (s : State) (n : Nat) (p : Placed) : Int :=
  let f := (p.t % 4096).toNat
  let k := p.ev.map (fun e => e.k)
  let a := s.dtcEntry n k (f / 64)
  let inl := if s.get (CH_CALCTRL_BYP n) / 2 % 2 = 1 then 0 else (64 * a + (s.dtcEntry n k (f / 64 + 1) - a) * (f % 64 : Nat)) * 2 ^ 10
  f * (2 ^ 20 + s.geti (BNK_TRKOUT_GC (n / 64))) + s.geti (BNK_TRKOUT_OC (n / 64)) * 2 ^ 16 + inl

/-! ### Clips, bends, pushes and overruns (05, R136, R142 to R144) -/

/-- Count a clip: 1 EARLY, 2 LATE (05, R136; 14, R433). -/
def State.clip (s : State) (n k kind : Nat) : State :=
  if kind = 0 then s
  else
    let s1 := if kind = 1 then s.inc (CH_CLIPCNT_EARLY n) else s.inc (CH_CLIPCNT_LATE n)
    (s1.flagCh n (CH_FLAGS_CLIP n)).log 0x01 n k (b2n (kind == 1))

/-- Post a BENT record unless the channel posted one within the last millisecond of PWR_AONNOW, which wraps (05, R143;
12, R377; 14, R433). -/
def State.bentRecord (s : State) (n k detail : Nat) : State :=
  let now := s.get PWR_AONNOW_US
  let free := match (s.chan n).sch.bentAt with
    | none => true
    | some t => decide (1000 ≤ (now + 2 ^ 32 - t) % 2 ^ 32)
  if free then (s.log 0x02 n k detail).modSch n (fun x => { x with bentAt := some now }) else s

/-- Cycle k is bent by a push: 0 spacing, 1 engine (05, R143). -/
def State.bend (s : State) (n k : Nat) (detail : Nat) : State :=
  let s1 := if detail = 0 then (s.inc (CH_COLLIDE_COUNT n)).flagCh n (CH_FLAGS_COLLIDE n)
    else (s.inc (CH_EPUSH_COUNT n)).flagCh n (CH_FLAGS_EPUSH n)
  (s1.putPair (CH_BENTLO_CYC n) (CH_BENTHI_CYC n) k).bentRecord n k detail

/-- The level a line will have when the placed toggles have left (05, R141, R153). -/
def State.lineLevel (s : State) (n line : Nat) : Bool :=
  let lv := s.get (CH_STAT n |> fun a => ⟨a, line, 1⟩)
  (lv + ((s.chan n).sch.queue.filter (fun p => p.line == line)).length) % 2 == 1

/-- The rest toggle of a line whose level is 1 (05, R153). -/
def State.restToggle (s : State) (n line : Nat) (pt : Int) : State :=
  if s.lineLevel n line then
    let sp := minSpacing (s.get (CH_MINSP_TICKS n))
    s.modSch n (fun x =>
      let t1 := match x.lastL.getD line none with
        | none => pt
        | some l => max pt (l + sp)
      x.put line (x.engined line t1) none false false)
  else s

/-- What an event that is emitted has met counts: its clip, its pushes (05, R136, R143, R155). DESIGN CHOICE: it counts when the event
leaves, since the park of R153 may still make an event of the cycle void, which then counts nothing. -/
def State.emitted (s : State) (n : Nat) (p : Placed) : State :=
  match p.ev with
  | none => s
  | some e =>
    let s1 := s.clip n e.k e.clip
    let s2 := if p.spaced then s1.bend n e.k 0 else s1
    if p.pushed then s2.bend n e.k 1 else s2

/-- The lines park at PT of cycle c (05, R153): later events are discarded and counted, ETE and CTE return to level 0. Events
of cycle c and after it, which the device has not computed, go uncounted. DESIGN CHOICE: of a discarded event its clip counts, and no
push, as R144 says of one that is not emitted. -/
def State.parkLines (s : State) (n : Nat) (pt : Int) (c : Nat) : State :=
  let x := s.chan n
  let gone := ((x.sch.queue.filter (fun p => decide (pt ≤ p.t))).filterMap (fun p => p.ev) ++ x.sch.evs).filter (fun e => decide (e.k < c))
  let s1 := s.setChan n { x with sch := { x.sch.discardFrom pt c with evs := [] }, pk := { x.pk with parked := true, leave := none, fresh := true } }
  let s2 := (s1.incBy (CH_PARKDISC_COUNT n) gone.length).put (CH_STAT_PARKED n) 1
  let s3 := gone.foldl (fun t e => t.clip n e.k e.clip) s2
  (s3.restToggle n 0 pt).restToggle n 2 pt

/-- An engine overrun (05, R144): the lines will park with cause OVR at C, the cycle after the event's own; where the
arithmetic has entered C already, they park there. -/
def State.overrun (s : State) (n : Nat) (e : Ev) : State :=
  let s1 := (s.flagCh n (CH_FLAGS_ENGOVR n)).log 0x03 n e.k 0
  match (s1.chan n).cyc.win.find? (fun w => w.k == e.k + 1) with
  | none => s1.parkWant n causeOvr (.cycle (e.k + 1))
  | some w => (s1.putCause n causeOvr true).parkLines n ((rndTick w.start : Int) + w.dsk) w.k

/-- An overrun has been met and its park cycle is to come: nothing more is scheduled (05, R144). -/
def State.ovrWaits (s : State) (n : Nat) : Bool := (s.chan n).pk.chg.any (fun w => w.cause == causeOvr && w.park)

/-- Place the event at the head of the scheduler (05, R142 to R144). -/
def State.scheduleHead (s : State) (n : Nat) : State :=
  let x := s.chan n
  match x.sch.evs with
  | [] => s
  | e :: rest =>
    let line := lineOf e.e
    let q := x.sch.times line e.t (minSpacing (s.get (CH_MINSP_TICKS n)))
    if q.2.2 then s.overrun n e
    else
      let spaced := decide (e.t < q.1)
      let pushed := decide (q.1 < q.2.1)
      s.setChan n { x with sch := ({ x.sch with evs := rest }).put line q.2.1 (some e) spaced pushed }

/-- Every event of cycles not yet entered comes at or after this time (05, R135); a stopped channel has none. -/
def State.horizon (s : State) (n : Nat) : Option Int :=
  let x := s.chan n
  if x.cyc.on then some ((rndTick x.cyc.s : Int) + s.geti (CH_DSKACT_ACT n) - 1) else none

/-- The next event can be placed: no event of a coming cycle can precede it. -/
def State.headSafe (s : State) (n : Nat) : Bool :=
  match (s.chan n).sch.evs with
  | [] => false
  | e :: _ => match s.horizon n with
    | none => true
    | some h => decide (e.t ≤ h)

def execEventSchedule (n : Fin 512) (s : State) : Host.Outcome State Fault Refusal :=
  if s.headSafe n ∧ s.ovrWaits n = false then .next (s.scheduleHead n) else .next s

/-- L_OUT in ticks (05, R138). -/
def lOut : Nat := 524288

/-- The placed toggle that leaves next: the earliest, the first placed of equals. -/
def earliest : List Placed → Option Placed
  | [] => none
  | p :: t => match earliest t with
    | none => some p
    | some q => if q.t < p.t then some q else some p

/-- EVENT_OUTPUT (05, R136, R138, R141, R143; 10, R298): the timebase reaches t2 + L_OUT and the line toggles. -/
def eventOutput (s : State) (n : Nat) (p : Placed) : State :=
  let at_ := (p.t + lOut).toNat
  let r : Ref := ⟨CH_STAT n, p.line, 1⟩
  let lv := !(s.bit r)
  let s1 := (s.tbTo (n / 64) (at_ / 4096)).modSch n (fun x => { x with queue := x.queue.erase p })
  ((s1.put r (b2n lv)).onBall (.toggle n p.line at_ lv (s.fineDelay n p))).emitted n p

def execEventOutput (n : Fin 512) (s : State) : Host.Outcome State Fault Refusal :=
  match earliest (s.chan n).sch.queue with
  | none => .next s
  | some p => .next (eventOutput s n p)

/-! ### Underruns (07, R206) -/

/-- The RESULT error record of a group to the port that owns it (07, R212). -/
def State.errRecord (s : State) (g code cyc count : Nat) : State :=
  if s.bit (GRP_STAT_OWNED g) then
    s.pushResult (s.get (GRP_STAT_OWNER g)) (resultRecord 0x04 g false 0 (s.get (GRP_EPOCH_EPOCH g)) code (cyc % 2 ^ 48 * 2 ^ 24 + count % 2 ^ 24))
  else s

/-- Member n meets underrun cycle j: it opens or joins the group's episode, and parks under PARK (07, R206). -/
def State.underrun (s : State) (g n j : Nat) : State :=
  let x := s.group g
  let s1 := s.setGroup g { x with under := true, underIn := if x.underIn.contains n then x.underIn else n :: x.underIn }
  let s2 := if x.under then s1
    else
      let t := ((s1.inc (GRP_UNDERCNT_COUNT g)).putPair (GRP_UNDERLO_CYC g) (GRP_UNDERHI_CYC g) j).put (GRP_SELSTAT_UNDER g) 1
      (t.errRecord g Code.UNDERRUN j (t.get (GRP_UNDERCNT_COUNT g))).log 0x06 g j (t.get (GRP_EPOCH_EPOCH g))
  if s2.bit (GRP_TSPCFG_UNDERPOL g) ∧ s2.causeStands n causeUnder = false then s2.parkWant n causeUnder (.cycle j) else s2

/-- Member n reaches covered cycle j: it leaves the episode, which ends with its last member, and UNDER is released at
that cycle. -/
def State.coveredAt (s : State) (g n j : Nat) : State :=
  let x := s.group g
  let rest := x.underIn.filter (fun m => m != n)
  let s1 := if x.under then
      let t := s.setGroup g { x with underIn := rest, under := !rest.isEmpty }
      if rest.isEmpty then t.put (GRP_SELSTAT_UNDER g) 0 else t
    else s
  if s1.causeStands n causeUnder then s1.parkReleaseAt n causeUnder j else s1

/-- A member is known to read the last cycle of an entry too early for it: all of its cycles are late (07, R202, R204).
Starts are known for the coming cycle and the four after it. -/
def State.allLate (s : State) (g : Nat) (e : Entry) (n : Nat) : Bool :=
  let x := s.chan n
  let starts := x.cyc.s :: startsAhead x.cyc.ahead x.cyc.s x.cyc.r x.md x.cyc.k
  x.cyc.on && decide (x.cyc.k + 4 ≤ e.last) && (match starts[e.last - (x.cyc.k + 4)]? with
    | some v => decide (readTime v < e.stamp + s.leadOf g)
    | none => false)

/-- The entries that hold a place of the select buffer: those that some member has neither read to the end nor is known to
read too early (07, R202). -/
def State.selFill (s : State) (g : Nat) : Nat :=
  ((s.group g).buf.filter (fun e => (s.members g).isEmpty ||
    (s.members g).any (fun n => decide (s.nextRead n ≤ e.last) && !s.allLate g e n))).length

/-- The select buffer is flushed and counted, NEXT is 0 (07, R207). -/
def State.flushSelect (s : State) (g : Nat) : State :=
  (s.incBy (GRP_SELDISC_COUNT g) (s.selFill g)).modGroup g (fun x => { x with buf := [], next := 0 })

/-- A member reads the stop cycle: with the last of them the select buffer is flushed, and what comes later waits for the next
START (07, R207). DESIGN CHOICE: the read of cycle K of a group whose members read it at different times is the last
member's. -/
def State.stopRead (s : State) (g n : Nat) : State :=
  let x := s.group g
  let seen := if x.stopSeen.contains n then x.stopSeen else n :: x.stopSeen
  let s1 := s.setGroup g { x with stopSeen := seen }
  if x.flushed = false ∧ (s.members g).all (fun m => seen.contains m) then
    (s1.flushSelect g).modGroup g (fun y => { y with flushed := true })
  else s1

/-- What a slot read of cycle j brings about outside the channel's arithmetic (06, R168; 07, R204 to R206); a cycle
at or after the stop is none, but its own read (R207). -/
def State.noteRead (s : State) (g n j : Nat) (o : ReadOut) : State :=
  let x := s.group g
  if x.stopAt = some j then s.stopRead g n else
  if x.stopAt.any (fun k => decide (k ≤ j)) then s else
  let s1 := if o.late ∧ x.lateSeen.contains j = false then (s.inc (GRP_LATECNT_COUNT g)).modGroup g (fun x => { x with lateSeen := j :: x.lateSeen }) else s
  let s2 := if o.held ∧ x.holdSeen.contains j = false then (s1.inc (GRP_SWHOLD_COUNT g)).modGroup g (fun x => { x with holdSeen := j :: x.holdSeen }) else s1
  let s3 := if o.under then s2.underrun g n j else if o.covered then s2.coveredAt g n j else s2
  let s4 := if s3.causeStands n causeVoid ∧ (s3.chan n).cyc.anyVoid = false then s3.parkReleaseAt n causeVoid j else s3
  if o.void ∧ s4.causeStands n causeVoid = false then s4.parkWant n causeVoid (.cycle j) else s4

/-- The select buffer forgets the entries whose last cycle every member has read (07, R202). -/
def State.freeEntries (s : State) (g : Nat) : State :=
  let lo := (s.members g).foldl (fun a n => min a (s.nextRead n)) (2 ^ 60)
  s.modGroup g (fun x => { x with buf := x.buf.filter (fun e => decide (lo ≤ e.last)),
                                  lateSeen := x.lateSeen.filter (fun j => decide (lo ≤ j)),
                                  holdSeen := x.holdSeen.filter (fun j => decide (lo ≤ j)) })

/-! ### The cycle start (05, R133, R135, R136, R149) -/

/-- The lowest-numbered member of a group. -/
def State.lowest (s : State) (g : Nat) : Option Nat := (s.members g).head?

/-- Can a channel enter its next cycle: its accumulator runs on a T-clock and nothing of the boundary waits. -/
def State.canEnter (s : State) (n : Nat) : Bool :=
  (s.chan n).cyc.on && s.clocked (n / 64) && (s.wantDue n).isEmpty && (s.relDue n).isEmpty && !s.leaveDue n && !s.slewDue n && !s.dtcSlewDue n

/-- CYCLE_START: the channel enters cycle k; edges are computed unless the lines are parked (05, R153). A channel in calibration drive
reads for no group (10, R302). -/
def cycleStart (s0 : State) (n : Nat) : State :=
  let g := s0.groupOf n
  let s := ((s0.stepBoundary n).dtcBoundary n).tbTo (n / 64) (readTime (s0.chan n).cyc.s)
  let x := s.chan n
  let k := x.cyc.k
  let dsk := s.geti (CH_DSKACT_ACT n)
  let a := x.cyc.ahead.headD (Ahead.mk k x.cyc.applied 0 false)
  let st := startsAhead x.cyc.ahead x.cyc.s x.cyc.r x.md k
  let o := cycleStep (s.gctx g) x.cyc x.md dsk
  let ev := if x.pk.parked then [] else
    cycleEvents a.data k x.cyc.s (st.getD 0 x.cyc.s) (st.getD 3 x.cyc.s) dsk
  let s1 := s.setChan n { x with cyc := o.cyc, md := o.md
                                 sch := { x.sch with evs := ev.foldl (fun l e => insertEv e l) x.sch.evs }
                                 pk := { x.pk with fresh := false }
                                 slewCnt := if x.slewDone then 0 else x.slewCnt + 1, slewDone := false
                                 dtcCnt := if x.dtcDone then 0 else x.dtcCnt + 1, dtcDone := false }
  let s2 := if x.md.armed ≠ none ∧ o.md.armed = none ∧ x.md.late then s1.flagCh n (CH_FLAGS_PMLATE n) else s1
  let s3 := if o.perClamp then s2.flagCh n (CH_FLAGS_PERCLAMP n) else s2
  let s4 := if o.pmClamp then s3.flagCh n (CH_FLAGS_PMCLAMP n) else s3
  let s5 := s4.put (CH_STAT_SLOT n) a.slot
  if s.bit (CH_GRP_MEMBER n) then (s5.noteRead g n (k + 4) o.read).freeEntries g else s5

/-- The commit of cycle K comes into force at the start of K at the lowest-numbered member (06, R181, R185): the epoch
advances and the COMMIT completes. `done` delivers that completion. -/
def State.commitAt (s : State) (n k : Nat) (done : State → Nat → Nat → Src → State) : State :=
  let g := s.groupOf n
  match (s.group g).commit with
  | none => s
  | some (kc, ep, src) =>
    if s.lowest g = some n ∧ kc = k then
      let s1 := (s.put (GRP_EPOCH_EPOCH g) ep).put (GRP_STAT_CPEND g) 0
      let s2 := (s1.put (GRP_COMMITLO_K g) 0xFFFFFFFF).put (GRP_COMMITHI_K g) 0xFFFF
      done (s2.modGroup g (fun x => { x with commit := none })) g kc src
    else s

/-! ### Park and leave (05, R153, R154) -/

/-- Place every event that still waits, each by its engine's turn and with its overrun test: at a park cycle no earlier event can come
(05, R142, R144, R153). -/
def State.flushEvents (s : State) (n : Nat) : Nat → State
  | 0 => s
  | f + 1 => if s.ovrWaits n ∨ (s.chan n).pk.parked then s else (s.scheduleHead n).flushEvents n f

/-- The lines of a channel that runs are parked at its coming cycle. -/
def State.parkAtCycle (s : State) (n : Nat) : State :=
  let x := s.chan n
  if x.pk.parked then s.modPark n (fun p => { p with leave := none })
  else
    let pt : Int := (rndTick x.cyc.s : Int) + s.geti (CH_DSKACT_ACT n)
    let s1 := s.flushEvents n x.sch.evs.length
    if (s1.chan n).pk.parked then s1 else s1.parkLines n pt x.cyc.k

/-- LEAVE_PARK's counting: events of the three cycles before C′ that would leave at or after its start (05, R154). -/
def lateBefore (win : List CycRec) (c s : Nat) (th : Int) : Nat :=
  match win with
  | [] => 0
  | w :: rest =>
    (if c ≤ w.k + 3 then
      ((List.range 8).filter (fun e => edgeEn (edgeOf w.data e) && decide (th ≤ edgeRaw (edgeOf w.data e) w.start s + w.dsk))).length
     else 0) + lateBefore rest c w.start th

/-- The lines leave park at the coming cycle C′ (05, R154). -/
def State.leaveLines (s0 : State) (n : Nat) : State :=
  let s := (s0.stepBoundary n).dtcBoundary n
  let x := s.chan n
  let th : Int := (rndTick x.cyc.s : Int) + s.geti (CH_DSKACT_ACT n)
  let s1 := s.setChan n { x with pk := { x.pk with parked := false, leave := none }, sch := x.sch.restart }
  (s1.incBy (CH_PARKDISC_COUNT n) (lateBefore x.cyc.win x.cyc.k x.cyc.s th)).put (CH_STAT_PARKED n) 0

/-- The releases that are due at the coming cycle take effect. -/
def State.takeReleases (s : State) (n : Nat) : State :=
  let due := s.relDue n
  let s1 := (due.foldl (fun t c => t.putCause n c false) s).dropDue n false
  if due.isEmpty then s1 else s1.leaveIfFree n (.cycle (s.chan n).cyc.k)

/-! ### Manual park, overrun release, modulation, the current cycle -/

/-- A write of CHn_CTRL (05, R152, R155): PARK sets or releases MAN, CLROVR releases OVR. DESIGN CHOICE: an overrun whose park
cycle has not come is no cause to release yet, and parks. -/
def State.chCtrlWrite (s : State) (n : Nat) (w : Word) : State :=
  let s1 := s.writeReg (CH_CTRL n) w fullMask
  let s2 := if wbit w 0 then
      (if s1.causeStands n causeMan then s1
       else if (s1.chan n).cyc.on then s1.parkWant n causeMan (.time (s1.tbOf (n / 64) + 48))
       else s1.putCause n causeMan true)
    else s1.parkRelease n causeMan
  if wbit w 2 ∧ s2.cause n causeOvr then s2.parkRelease n causeOvr else s2

def execPark (src : Source) (n : Fin 512) (w : Word) (s : State) : Host.Outcome State Fault Refusal :=
  .next (s.rowWrite src (CH_CTRL n) w (fun u => u.chCtrlWrite n w))

def execClrovr (src : Source) (n : Fin 512) (w : Word) (s : State) : Host.Outcome State Fault Refusal :=
  .next (s.rowWrite src (CH_CTRL n) w (fun u => u.chCtrlWrite n w))

/-- The staged modulation settings (05, R149, R158). -/
def State.stagedPm (s : State) (n : Nat) : PmSet :=
  { rampEn := s.bit (CH_PMCTRL_RAMPEN n), rclr := s.bit (CH_PMCTRL_RCLR n)
    dp := (s.get (CH_PMDPLO_FRAC n) : Int) + s.geti (CH_PMDPHI_INT n) * 2 ^ 32
    rcnt := s.get (CH_PMRCNT_CYC n)
    ss := { on := s.bit (CH_PMCTRL_SSEN n), centre := s.bit (CH_PMCTRL_CENTRE n)
            ppm := min 5000 (s.get (CH_PMSSDEV_PPM n)), q := max 4 (s.get (CH_PMSSQ_Q n)) }
    start := s.pair (CH_PMSTARTLO_CYC n) (CH_PMSTARTHI_CYC n) }

/-- A write of CHn_PMCTRL; GO arms the staged settings (05, R149). A cycle that has started makes the copy late. -/
def State.pmCtrlWrite (s : State) (n : Nat) (w : Word) : State :=
  let s1 := s.writeReg (CH_PMCTRL n) w fullMask
  if wbit w 31 then
    let a := s1.stagedPm n
    s1.modChan n (fun x => { x with md := { x.md with armed := some a, late := x.cyc.on && decide (a.start < x.cyc.k) } })
  else s1

def execPmGo (src : Source) (n : Fin 512) (w : Word) (s : State) : Host.Outcome State Fault Refusal :=
  .next (s.rowWrite src (CH_PMCTRL n) w (fun u => u.pmCtrlWrite n w))

/-- The current cycle and its start in 2^-16 ticks (05, R156): the last cycle entered; before cycle 0 is entered, 0 and
its start; after a stop the stop cycle, where the accumulator stands (06, R176). -/
def State.curCycle (s : State) (n : Nat) : Nat × Nat :=
  let c := (s.chan n).cyc
  if c.on = false then (c.k, c.s)
  else match c.win with
    | w :: _ => (w.k, w.start)
    | [] => (0, c.s)

/-- A read of CHn_CYCLO returns the cycle and latches CYCHI and SACC0 to SACC2 (05, R131, R156, R157). -/
def cycloRead (s : State) (n : Nat) : State :=
  let c := s.curCycle n
  let s1 := (s.put (CH_CYCLO_CYC n) c.1).put (CH_CYCHI_CYC n) (c.1 / 2 ^ 32)
  let s2 := ((s1.put (CH_SACC0_ACC n) c.2).put (CH_SACC1_ACC n) (c.2 / 2 ^ 32)).put (CH_SACC2_ACC n) (c.2 / 2 ^ 64)
  s2.emit (.read (CH_CYCLO n) [c.1 % 2 ^ 32])

def execCycloRead (src : Source) (n : Fin 512) (s : State) : Host.Outcome State Fault Refusal := .next (s.rowRead src (CH_CYCLO n) (fun u => cycloRead u n))

end Sys2Proof.Machine
end

