-- ==== Sys2Proof/Machine/Store.lean ====
section
/-! DEFINITION. The context store (06_timing_contexts_and_cueing.md, R159 to R171): records with their ECC, window and
mailbox access, the scrubber and the wipe. -/

set_option Elab.async false

namespace Sys2Proof.Machine

/-- The key of a record (06, R161). -/
def recKey (ch ctx : Nat) : Nat := ch * 2048 + ctx

/-- The data bits last written to a record. -/
def State.rawRecord (s : State) (ch ctx : Nat) : Record := tabGet 0 s.store (recKey ch ctx)

/-- The error pattern of a stored code word: data bits [255:0], ECC bits [265:256] (06, R162). -/
def State.errPattern (s : State) (ch ctx : Nat) : Nat := tabGet 0 s.storeErr (recKey ch ctx)

/-- Write a record whole: its ECC is computed anew (06, R162). -/
def State.putRecord (s : State) (ch ctx : Nat) (d : Record) : State :=
  { s with store := tabSet 0 s.store (recKey ch ctx) d, storeErr := tabSet 0 s.storeErr (recKey ch ctx) 0 }

/-- The number of ones of a number, by its lowest `n` bits. -/
def ones : Nat → Nat → Nat
  | 0, _ => 0
  | n + 1, v => v % 2 + ones n (v / 2)

/-- What a read of a code word finds: clean, a single-bit error, a double-bit error (06, R162). -/
inductive EccOut where
  | clean | corrected | double
  deriving DecidableEq, Repr

/-- The outcome of an error pattern; that of three or more bits is the free value `Config.eccMany` (06, R162). -/
def eccOutcome (err : Nat) : EccOut :=
  let k := ones 266 err
  if k = 0 then .clean
  else if k = 1 then .corrected
  else if k = 2 then .double
  else if Config.eccMany err % 3 = 0 then .double
  else if Config.eccMany err % 3 = 1 then .corrected
  else .clean

/-- The bits as they are stored. -/
def storedBits (d : Record) (err : Nat) : Record := d ^^^ BitVec.ofNat 256 err

/-- The data a read delivers: corrected, or, with a double-bit error, the stored bits (06, R164, R166). -/
def eccData (d : Record) (err : Nat) : Record :=
  match eccOutcome err with
  | .corrected => if ones 266 err = 1 then d else storedBits d err ^^^ (1#256 <<< (Config.eccFlip err).toNat)
  | _ => storedBits d err

/-- Readers as BNKb_ECCLAST.SRC names them (06, R191). -/
def srcCue : Nat := 0
def srcWindow : Nat := 1
def srcScrub : Nat := 2
def srcMailbox : Nat := 3

/-- Record the last ECC event of a bank (06, R166, R191). -/
def State.eccLast (s : State) (b ue src ch ctx err : Nat) : State :=
  let s1 := ((s.put (BNK_ECCLAST_UE b) ue).put (BNK_ECCLAST_SRC b) src).put (BNK_ECCLAST_CH b) (ch % 64)
  (s1.put (BNK_ECCLAST_CTX b) ctx).put (BNK_ECCLAST_SYND b) (Config.eccSyndrome err).toNat

/-- Read a record with its check (06, R166): a corrected word is written back; the data delivered and the outcome. -/
def State.readRecord (s : State) (ch ctx src : Nat) : State × Record × EccOut :=
  let b := ch / 64
  let err := s.errPattern ch ctx
  let d := eccData (s.rawRecord ch ctx) err
  match eccOutcome err with
  | .clean => (s, d, .clean)
  | .corrected => (((s.putRecord ch ctx d).inc (BNK_ECCCE_COUNT b)).eccLast b 0 src ch ctx err, d, .corrected)
  | .double => ((s.inc (BNK_ECCUE_COUNT b)).eccLast b 1 src ch ctx err, d, .double)

/-- Post a CTXUE record (14, R433). -/
def State.ctxue (s : State) (ch ctx src : Nat) : State := s.log 0x04 ch 0 (ctx + src * 2 ^ 12)

/-- A record as 32 bytes, little-endian words (06, R159). -/
def recordBytes (d : Record) : List Nat := leBytes 32 d.toNat

/-- A read of a record by the window, the scrubber or a mailbox, which posts a double-bit error (06, R164, R169). -/
def State.readPosted (s : State) (ch ctx src : Nat) : State × Record × Bool :=
  let r := s.readRecord ch ctx src
  match r.2.2 with
  | .double => (r.1.ctxue ch ctx src, r.2.1, true)
  | _ => (r.1, r.2.1, false)

/-- Bytes written over a record's bytes from an offset. -/
def overlay (old : List Nat) (i : Nat) (bytes : List Nat) : List Nat := old.take i ++ bytes ++ old.drop (i + bytes.length)

/-- The part of a window write that falls in one record (06, R163). -/
def State.writePart (s : State) (key i : Nat) (bytes : List Nat) : State :=
  let ch := key / 2048
  let ctx := key % 2048
  if i = 0 ∧ bytes.length = 32 then s.putRecord ch ctx (BitVec.ofNat 256 (ofLe bytes))
  else
    let r := s.readPosted ch ctx srcWindow
    if r.2.2 then r.1
    else r.1.putRecord ch ctx (BitVec.ofNat 256 (ofLe (overlay (recordBytes r.2.1) i bytes)))

/-- A window write, record by record in ascending order (06, R163). -/
def State.windowWrite (s : State) (off : Nat) (bytes : List Nat) : Nat → State
  | 0 => s
  | f + 1 =>
    if bytes.isEmpty then s
    else
      let i := off % 32
      let k := 32 - i
      (s.writePart (off / 32) i (bytes.take k)).windowWrite (off + k) (bytes.drop k) f

/-- The bytes a window read returns, with the state after the corrections (06, R164, R166). -/
def State.windowRead (s : State) (off len : Nat) : Nat → State × List Nat
  | 0 => (s, [])
  | f + 1 =>
    if len = 0 then (s, [])
    else
      let i := off % 32
      let k := min len (32 - i)
      let r := s.readPosted (off / 32 / 2048) (off / 32 % 2048) srcWindow
      let t := r.1.windowRead (off + k) (len - k) f
      (t.1, ((recordBytes r.2.1).drop i).take k ++ t.2)

/-- A window read that answers its reader. -/
def State.answerRead (s : State) (off len : Nat) : State :=
  let r := s.windowRead off len (len + 1)
  r.1.emit (.read off r.2)

/-- The power domain of the half that holds a bank's slice: PD80 or PD81 (00, R4). -/
def halfOf (b : Nat) : Nat := 80 + b / 4

/-- A mailbox context write: whole records in order (06, R163; 14, R429). -/
def State.mbxWrite (s : State) (f c ch first : Nat) (recs : List Record) : State :=
  let s1 := (recs.foldl (fun (p : State × Nat) d => (p.1.putRecord ch p.2 d, p.2 + 1)) (s, first)).1
  s1.finishCmd f c Code.OK false false 0 recs.length

/-- A mailbox context read into a host buffer (06, R164; 14, R429). -/
def State.mbxRead (s : State) (f c ch first count buf : Nat) : State :=
  let r := (List.range count).foldl (fun (p : State × List Nat × Nat) i =>
    let q := p.1.readPosted ch (first + i) srcMailbox
    (q.1, p.2.1 ++ recordBytes q.2.1, p.2.2 + b2n q.2.2)) (s, [], 0)
  r.1.finishData f c ⟨buf, r.2.1, Code.OK, false, 0, count + r.2.2 * 2 ^ 16⟩

/-- Handle an access that waited (06, R164, R171). -/
def State.doHeld (s : State) : Held → State
  | .write off bytes => s.windowWrite off bytes (bytes.length + 1)
  | .read off len => s.answerRead off len
  | .mbxWrite f c ch first recs => s.mbxWrite f c ch first recs
  | .mbxRead f c ch first count buf => s.mbxRead f c ch first count buf

/-- An item at a hub that an access must not pass: a cue that will read the store, or another access (06, R164). -/
def State.ordersStore (s : State) : HubItem → Bool
  | .access _ => true
  | .cmd g id => ((s.group g).ops.find? (fun o => o.id == id)).any (fun o => match o.cmd with
    | .cue _ _ => true
    | .pcue _ _ _ => true
    | _ => false)

/-- An access to a slice: at once, or in its place of the hub's order while the slice wipes or a cue waits ahead of it
(06, R164, R171). -/
def State.storeAccess (s : State) (b : Nat) (h : Held) : State :=
  if s.bit (BNK_CUESTAT_WIPING b) ∨ (s.bank b).cueq.any (fun i => s.ordersStore i) then
    s.modBank b (fun x => { x with cueq := x.cueq ++ [.access h] })
  else s.doHeld h

/-- The accesses at the front of a hub's order are handled. -/
def State.drainHub (s : State) (b : Nat) : Nat → State
  | 0 => s
  | k + 1 => match (s.bank b).cueq with
    | .access h :: rest => ((s.modBank b (fun x => { x with cueq := rest })).doHeld h).drainHub b k
    | _ => s

/-- A write to a slice's part of the context window (01, R28; 06, R163, R171; 12, R363). -/
def contextWindowWrite (s : State) (off : Nat) (bytes : List Nat) : State :=
  let b := off / 0x400000
  if s.bit GLB_MODE_CTXWIN = false ∨ s.domOn (halfOf b) = false then s.inc GLB_WINVIOL_COUNT
  else s.storeAccess b (.write off bytes)

/-- A read of a slice's part of the context window (06, R164, R171; 12, R363). -/
def contextWindowRead (s : State) (off len : Nat) : State :=
  let b := off / 0x400000
  if s.domOn (halfOf b) = false then s.emit (.read off (List.replicate len 0))
  else s.storeAccess b (.read off len)

/-- SCRUB_ROW (06, R166, R169, R191): the next row of the slice, context c of the channels 2j and 2j + 1. That row r
holds pair r div 2048 and context r mod 2048 is a DESIGN CHOICE. -/
def scrubRow (s : State) (b : Nat) : State :=
  let r := s.get (BNK_SCRUBPOS_ROW b)
  let ch := 64 * b + 2 * (r / 2048)
  let s1 := (s.readPosted ch (r % 2048) srcScrub).1
  let s2 := (s1.readPosted (ch + 1) (r % 2048) srcScrub).1
  let s3 := s2.put (BNK_SCRUBPOS_ROW b) (r + 1)
  if r = 65535 then s3.incWrap (BNK_SCRUBPOS_PASSES b) else s3

def execScrubRow (b : Fin 8) (s : State) : Host.Outcome State Fault Refusal :=
  if s.bit (BNK_CUECTRL_SCRUBEN b) ∧ s.get (BNK_STAT_DLLSTATE b) ≠ 0 ∧ s.bit (BNK_CUESTAT_WIPING b) = false
  then .next (scrubRow s b) else .next s

/-- A slice is wiped: its records and its channels' slots and shadows (06, R170). -/
def State.clearSlice (s : State) (b : Nat) : State :=
  let keep := fun (p : Nat) => decide (p / 2048 / 64 ≠ b)
  let s1 := { s with store := s.store.filter (fun p => keep p.1), storeErr := s.storeErr.filter (fun p => keep p.1) }
  (List.range 64).foldl (fun t i => t.modCyc (64 * b + i) (fun c => { c with live := [], shad := [] })) s1

/-- WIPE_DONE (06, R170, R171): the slice is zero, and what was held is handled in its order: accesses up to the first command,
which the cue engine takes. -/
def wipeDone (s : State) (b : Nat) : State :=
  ((s.clearSlice b).put (BNK_CUESTAT_WIPING b) 0).drainHub b (s.bank b).cueq.length

def execWipeDone (b : Fin 8) (s : State) : Host.Outcome State Fault Refusal :=
  if s.bit (BNK_CUESTAT_WIPING b) then .next (wipeDone s b) else .next s

end Sys2Proof.Machine
end

