-- ==== Sys2Proof/Machine/Groups.lean ====
section
/-! DEFINITION. Groups: timing commands from their source to their completion, starts and stops, halts at a park cycle,
membership (04, R122 to R126; 06, R174 to R187, R507; 07, R207, R219). -/

set_option Elab.async false

namespace Sys2Proof.Machine

/-! ### Completions (06, R185; 07, R212; 14, R423) -/

/-- A timing command's completion leaves for its source, with its taint mark. -/
def State.deliver (s : State) (c : Comp) (taint : Bool) : State :=
  match c.src with
  | .none => s
  | .link _ _ => s
  | .xtake _ _ _ => s
  | .gone p => s.dropRecords p 1
  | .port p g tag => s.pushResult p (resultRecord 0x01 g taint tag c.epoch c.code (completionBody c.cyc c.members c.voids c.ces))
  | .flow f n =>
    let aux := c.slots.getD c.members % 1024 * 64 + min 7 c.voids * 8 + min 7 c.ces
    s.finishCmd f n c.code taint false aux (c.cyc % 2 ^ 48 + c.epoch * 2 ^ 48)

/-- The number of LASTREF of a refusal code (06, R192); none for a code that LASTREF does not name. -/
def refWhy (code : Nat) : Option Nat :=
  if code = Code.ROOT_MISMATCH then some 1
  else if code = Code.PORT_OWNED then some 2
  else if code = Code.NO_MEMBERS then some 3
  else if code = Code.EPOCH_MISMATCH then some 4
  else if code = Code.COMMIT_LATE then some 5
  else if code = Code.COMMIT_PENDING then some 6
  else if code = Code.GROUP_RUNNING then some 7
  else if code = Code.NOT_RUNNING then some 8
  else if code = Code.START_LATE then some 9
  else if code = Code.ALREADY_COMMITTED then some 10
  else none

/-- Count a refusal of a group's command (06, R184, R192). What LASTREF reads after a refusal for which R192 has no number
(POWER_OFF, NOT_OWNER, PARTITION) the manual leaves open. -/
def State.noteRefusal (s : State) (g code : Nat) : State :=
  let s1 := s.inc (GRP_CUEREF_COUNT g)
  match refWhy code with
  | some w => s1.put (GRP_LASTREF_WHY g) w
  | none => (s1.put (GRP_LASTREF_WHY g) (Config.freeNat s1.free 0)).draw

/-- The completion of a command of a group as things stand. -/
def State.compOf (s : State) (g : Nat) (src : Src) (code cyc ces voids : Nat) : Comp :=
  { g := g, src := src, code := code, cyc := cyc, members := (s.members g).length, ces := ces, voids := voids,
    epoch := s.get (GRP_EPOCH_EPOCH g), banks := s.memberBanks g, slots := none }

/-- A refusal by the source itself: through no hub and no taint stage (06, R184). -/
def State.refuseAtSource (s : State) (g : Nat) (src : Src) (code : Nat) : State :=
  let s1 := s.noteRefusal g code
  s1.deliver (s1.compOf g src code 0 0 0) false

/-- A completion enters the taint stage of the group's lead bank (01, R31; 06, R175). -/
def State.stageCompAt (s : State) (c : Comp) (time : Nat) : State :=
  let b := c.banks.headD 0
  s.modBank b (fun x => { x with stage := x.stage ++ [{ enter := s.tbOf b, time := time, body := .comp c }] })

/-- One whose completion cycle is now. -/
def State.stageComp (s : State) (c : Comp) : State := s.stageCompAt c (s.tbOf (c.banks.headD 0))

/-! ### Commands on their way (06, R175, R186) -/

/-- A mailbox is the source of a command. -/
def Src.isFlow : Src → Bool
  | .flow _ _ => true
  | _ => false

/-- A timing command leaves its source: items 2 and 3 of R507, then every member hub (06, R175, R184, R507). -/
def State.issueTiming (s : State) (g : Nat) (src : Src) (cmd : TCmd) : State :=
  if src.isFlow ∧ s.bit (GRP_STAT_OWNED g) then s.refuseAtSource g src Code.PORT_OWNED
  else if (s.members g).isEmpty then s.refuseAtSource g src Code.NO_MEMBERS
  else
    let banks := s.memberBanks g
    let x := s.group g
    let op : GOp := { id := x.nextId, cmd := cmd, src := src, waiting := banks, checked := false, refused := none,
                      ces := 0, voids := 0, data := [], effect := 0, finished := false, epoch := 0, doneAt := 0 }
    let s1 := s.setGroup g { x with ops := x.ops ++ [op], nextId := x.nextId + 1 }
    banks.foldl (fun t b => t.modBank b (fun y => { y with cueq := y.cueq ++ [.cmd g x.nextId] })) s1

/-- A command of a group by its number. -/
def State.opOf (s : State) (g id : Nat) : Option GOp := (s.group g).ops.find? (fun o => o.id == id)

/-- Change a command on its way. -/
def State.modOp (s : State) (g id : Nat) (f : GOp → GOp) : State :=
  s.modGroup g (fun x => { x with ops := x.ops.map (fun o => if o.id = id then f o else o) })

/-- The store half of a member bank is not ON (12, R363). -/
def State.powerOff (s : State) (g : Nat) : Bool := (s.memberBanks g).any (fun b => !s.domOn (halfOf b))

/-- Items 4 and 5 of R507. -/
def State.commonRefusal (s : State) (g : Nat) (cmd : TCmd) : Option Nat :=
  match cmd with
  | .stop _ => none
  | .cancel _ => none
  | _ => if s.powerOff g then some Code.POWER_OFF else if s.split g then some Code.ROOT_MISMATCH else none

/-- The group's epoch plus 1 (06, R180). -/
def State.nextEpoch (s : State) (g : Nat) : Nat := (s.get (GRP_EPOCH_EPOCH g) + 1) % 2 ^ 16

/-- The refusal of a CUE or PCUE at decode (06, R179, R180, R183, R507). -/
def State.cueRefusal (s : State) (g : Nat) (cmd : TCmd) : Option Nat :=
  match s.commonRefusal g cmd with
  | some c => some c
  | none =>
    match cmd with
    | .pcue _ _ ep =>
      if (s.group g).commit.isSome then some Code.COMMIT_PENDING
      else if ep % 2 ^ 16 ≠ s.nextEpoch g then some Code.EPOCH_MISMATCH
      else none
    | _ => none

/-- Slot and context of a cue. -/
def TCmd.slotCtx : TCmd → Option (Nat × Nat)
  | .cue s c => some (s, c)
  | .pcue s c _ => some (s, c)
  | _ => none

/-- The store reads of a cue in one bank (06, R166, R186): every member's record. -/
def State.cueReads (s : State) (ns : List Nat) (ctx : Nat) : State × List (Nat × Record × Bool) × Nat :=
  ns.foldl (fun (p : State × List (Nat × Record × Bool) × Nat) n =>
    let r := p.1.readRecord n ctx srcCue
    match r.2.2 with
    | .clean => (r.1, p.2.1 ++ [(n, r.2.1, false)], p.2.2)
    | .corrected => (r.1.inc (CH_ECCCE_COUNT n), p.2.1 ++ [(n, r.2.1, false)], p.2.2 + 1)
    | .double => (r.1, p.2.1 ++ [(n, r.2.1, true)], p.2.2)) (s, [], 0)

/-- The members of a group in a bank. -/
def State.membersIn (s : State) (g b : Nat) : List Nat := (s.members g).filter (fun n => n / 64 == b)

/-- The engine takes a command, decodes it and, for a cue, reads the store (06, R186). DESIGN CHOICE: CUECNT counts every command that
the engine takes, at its take, one that is refused included (R191). -/
def State.takeCmd (s : State) (b g id : Nat) : State :=
  let s1 := (s.modBank b (fun x => { x with cueq := x.cueq.drop 1 })).inc (BNK_CUECNT_COUNT b)
  match s1.opOf g id with
  | none => s1
  | some op =>
    match op.cmd.slotCtx with
    | none => s1.modOp g id (fun o => { o with waiting := o.waiting.erase b })
    | some (_, ctx) =>
      let ref := if op.checked then op.refused else s1.cueRefusal g op.cmd
      let s2 := s1.modOp g id (fun o => { o with checked := true, refused := ref })
      if ref.isSome then s2.modOp g id (fun o => { o with waiting := o.waiting.erase b })
      else
        let r := s2.cueReads (s2.membersIn g b) ctx
        r.1.modBank b (fun x => { x with jobs := x.jobs ++ [{ g := g, id := id, loaded := r.2.1, ces := r.2.2 }] })

/-- CUE_ENGINE_TAKE: the engine takes the next command of bank b; the accesses that were ordered behind it follow (06, R164,
R186). -/
def cueEngineTake (s : State) (b g id : Nat) : State := (s.takeCmd b g id).drainHub b (s.bank b).cueq.length

def execCueEngineTake (b : Fin 8) (s : State) : Host.Outcome State Fault Refusal :=
  match (s.bank b).cueq with
  | .cmd g id :: _ =>
    if s.get (BNK_STAT_DLLSTATE b) ≠ 0 ∧ s.bit (BNK_CUESTAT_WIPING b) = false then .next (cueEngineTake s b g id) else .next s
  | _ => .next s

/-! ### Eligibility and loading (06, R178 to R181) -/

/-- A group runs: RUN reads 1 from the decision of its START (06, R176). -/
def State.running (s : State) (g : Nat) : Bool := s.bit (GRP_STAT_RUN g)

/-- The first cycle eligible at one member for a change decided at X (06, R178). A group that waits for its T reads
cycles 0 to 3 at T. -/
def State.firstEligible (s : State) (g x n : Nat) : Nat :=
  let c := s.chan n
  let gc := s.gctx g
  match (s.group g).start with
  | some t => if x + 48 ≤ t then 0 else max 4 ((c.cyc.startAt gc t).1.firstRead gc c.md (x + 48))
  | none => if c.cyc.on then c.cyc.firstRead gc c.md (x + 48) else 0

/-- The earliest eligible cycle of a group for X (06, R178). -/
def State.eligible (s : State) (g x : Nat) : Nat := (s.members g).foldl (fun a n => max a (s.firstEligible g x n)) 0

/-- A member's record was void: flag it, post CUEVOID, raise the bank's interrupt (06, R167; 14, R433). -/
def State.cueVoid (s : State) (n slot ctx : Nat) : State :=
  let b := n / 64
  ((s.flagCh n (CH_CFLAGS_VOID n)).log 0x05 n (s.tbOf b) (slot * 2 ^ 11 + ctx)).irq (192 + b)

/-- Put a cue's record into a member: on a running group from cycle E, on a stopped one at once (06, R168, R178). -/
def State.loadMember (s : State) (n slot ctx : Nat) (d : Record) (void : Bool) (e : Option Nat) : State :=
  match e with
  | some k => s.modCyc n (fun c => { c with loads := c.loads ++ [.cue slot ctx d void k] })
  | none =>
    let s1 := s.modCyc n (fun c => c.loadLive slot ctx d void)
    if s1.causeStands n causeVoid ∧ (s1.chan n).cyc.anyVoid = false then s1.parkRelease n causeVoid else s1

/-- CUE_COMPLETION: a hub has the members' records of the oldest cue it loads. A provisional cue goes into the shadows; a cue goes into the live
slots of every member when the last hub has finished (06, R167, R179, R180). -/
def cueCompletion (s : State) (b : Nat) (j : CueJob) (op : GOp) : State :=
  let s1 := s.modBank b (fun x => { x with jobs := x.jobs.drop 1 })
  match op.cmd.slotCtx with
  | none => s1
  | some (slot, ctx) =>
    let voids := (j.loaded.filter (fun m => m.2.2)).length
    let s2 := (j.loaded.filter (fun m => m.2.2)).foldl (fun t m => t.cueVoid m.1 slot ctx) s1
    let rest := op.waiting.erase b
    let s3 := s2.modOp j.g j.id (fun o => { o with waiting := rest, ces := o.ces + j.ces, voids := o.voids + voids, data := o.data ++ j.loaded,
                                                   epoch := s2.get (GRP_EPOCH_EPOCH j.g), doneAt := s2.tbOf b })
    match op.cmd with
    | .pcue _ _ _ => j.loaded.foldl (fun t m => t.modCyc m.1 (fun c => c.loadShadow slot ctx m.2.1 m.2.2)) s3
    | _ =>
      if rest.isEmpty then
        let all := op.data ++ j.loaded
        let e := if s3.running j.g then some (s3.eligible j.g (s3.tbOf b)) else none
        let s4 := all.foldl (fun t m => t.loadMember m.1 slot ctx m.2.1 m.2.2 e) s3
        s4.modOp j.g j.id (fun o => { o with effect := e.getD 0 })
      else s3

def execCueCompletion (b : Fin 8) (s : State) : Host.Outcome State Fault Refusal :=
  match (s.bank b).jobs with
  | [] => .next s
  | j :: _ => match s.opOf j.g j.id with
    | none => .next (s.modBank b (fun x => { x with jobs := x.jobs.drop 1 }))
    | some op => .next (cueCompletion s b j op)

/-! ### Stopping (06, R176; 07, R207, R219) -/

/-- The scheduled commit is withdrawn and completes CANCELLED (06, R176). DESIGN CHOICE: with effect cycle 0, for which R185 has no
row. -/
def State.withdrawCommit (s : State) (g : Nat) : State :=
  match (s.group g).commit with
  | none => s
  | some (k, _, src) =>
    let s1 := ((s.put (GRP_STAT_CPEND g) 0).put (GRP_COMMITLO_K g) 0xFFFFFFFF).put (GRP_COMMITHI_K g) 0xFFFF
    let s2 := (s1.members g).foldl (fun t n => t.modCyc n (fun c => { c with loads := c.loads.filter (fun l => decide (l ≠ .commit k)) })) s1
    let s3 := s2.modGroup g (fun x => { x with commit := none })
    s3.stageComp (s3.compOf g src Code.CANCELLED 0 0 0)

/-- The group will stop at cycle K (06, R176): every member parks with NOGRP there, and with DETACH when a port detaches
(07, R219); a commit for K or later is withdrawn. An earlier stop stands; a member that has stopped at it stays parked, with DETACH at
once. -/
def State.stopAtCycle (s : State) (g k : Nat) (detach : Bool) : State :=
  let x := s.group g
  let k1 := match x.stopAt with
    | some o => min o k
    | none => k
  let s1 := s.setGroup g { x with stopAt := some k1, stopSeen := if x.stopAt = some k1 then x.stopSeen else [] }
  let s2 := (s1.members g).foldl (fun t n =>
    if x.start.isSome ∨ (t.chan n).cyc.on then
      let t1 := t.modPark n (fun p => { p with chg := p.chg.filter (fun w => !(w.cause == causeNogrp && w.park)) ++ [⟨causeNogrp, .cycle k1, true⟩] })
      if detach then t1.parkWant n causeDetach (.cycle k1) else t1
    else if detach then t.putCause n causeDetach true
    else t) s1
  match x.commit with
  | some (kc, _, _) => if k1 ≤ kc then s2.withdrawCommit g else s2
  | none => s2

/-- The group has stopped at every member: shadows and episode end, and the select buffer where the read of the stop cycle has not
flushed it (06, R176; 07, R202, R207). DESIGN CHOICE: the pending shadows are discarded when every member has stopped at K, not at the
STOP's decision. -/
def State.groupStopped (s : State) (g : Nat) : State :=
  let s0 := s.withdrawCommit g
  let s1 := (if (s0.group g).flushed then s0 else s0.flushSelect g).modGroup g (fun x =>
    { x with start := none, stopAt := none, stopSeen := [], flushed := false, under := false, underIn := [],
             lateSeen := [], holdSeen := [], initPend := [] })
  let s2 := (s1.put (GRP_STAT_RUN g) 0).put (GRP_SELSTAT_UNDER g) 0
  (s2.members g).foldl (fun t n => t.modCyc n (fun c => c.dropShadows)) s2

/-- One member stops at its cycle K: its accumulator stops, what was cued takes effect, UNDER is released; a manual park
on its way is in force, and so is a halt's release. -/
def State.memberStop (s : State) (g n : Nat) : State :=
  let man := s.causeStands n causeMan
  let halt := s.cause n causeHalt && s.causeStands n causeHalt
  let s1 := s.modCyc n (fun c =>
    let c1 := c.loads.foldl (fun c l => match l with
      | .cue _ _ _ _ _ => c.applyLoad l
      | .commit _ => c) c
    { c1 with on := false, loads := [], ahead := [] })
  let s2 := (((s1.putCause n causeUnder false).putCause n causeMan man).putCause n causeHalt halt).modPark n (fun p => { p with chg := [], leave := none, fresh := false, notBefore := 0 })
  let s3 := if (s2.chan n).cyc.anyVoid then s2 else s2.putCause n causeVoid false
  if (s3.members g).any (fun m => (s3.chan m).cyc.on) then s3 else s3.groupStopped g

/-! ### Park cycles and leaving park (04, R122 to R126; 05, R153, R154) -/

/-- A HALT record to the error log and, where a port owns the group, an error record (04, R126). -/
def State.haltRecord (s : State) (g c : Nat) (release : Bool) : State :=
  let cause := s.get (GRP_HALT_CAUSE g)
  let s1 := s.log 0x0A g c (cause + b2n release * 2 ^ 15)
  s1.errRecord g (if release then Code.OK else Code.GROUP_HALTED) c (s1.get (GRP_HALT_HALTCNT g))

/-- The halt reaches cycle C at the lowest-numbered member, which is the cycle the device records (04, R122, R126). -/
def State.haltAt (s : State) (g c : Nat) : State :=
  ((s.put (GRP_HALTCYC_CYC g) c).modGroup g (fun x => { x with haltDue := false })).haltRecord g c false

/-- A halt ends when the group's lowest-numbered member leaves park, at C′ (04, R124, R126). -/
def State.haltEnd (s : State) (g c : Nat) : State :=
  ((s.put (GRP_HALT_HALTED g) 0).modGroup g (fun x => { x with relAcc := false })).haltRecord g c true

/-- The lowest-numbered member of a halted group stops at cycle K. DESIGN CHOICE: a halt cycle that it has not reached is
recorded as K, and a release that it has not left park by ends the halt at K. -/
def State.haltStop (s : State) (g n k : Nat) : State :=
  if s.bit (GRP_HALT_HALTED g) ∧ s.lowest g = some n then
    let s1 := if (s.group g).haltDue then s.haltAt g k else s
    if (s1.group g).relAcc then s1.haltEnd g k else s1
  else s

/-- A calibration drive ends at a cycle of the channel (10, R302): the accumulator stops. -/
def State.driveStop (s : State) (n : Nat) : State :=
  (s.modCyc n (fun c => { c with on := false, ahead := [], drive := none })).modPark n (fun p => { p with chg := [], leave := none, fresh := false, notBefore := 0 })

/-- PARK_CYCLE: the causes due at the coming cycle take effect (04, R122; 05, R152, R153; 06, R176). -/
def parkCycle (s : State) (n : Nat) : State :=
  let g := s.groupOf n
  let k := (s.chan n).cyc.k
  let s0 := s.parkAtCycle n
  let due := s0.wantDue n
  let s2 := due.foldl (fun t c => t.putCause n c true) (s0.dropDue n true)
  let s3 := if due.contains causeHalt ∧ s2.lowest g = some n ∧ (s2.group g).haltDue then s2.haltAt g k else s2
  if due.contains causeNogrp then
    (((if (s3.chan n).cyc.drive.isSome then s3.driveStop n else (s3.haltStop g n k).memberStop g n).stepIdle n).dtcIdle n) else s3

def execParkCycle (n : Fin 512) (s : State) : Host.Outcome State Fault Refusal :=
  if (s.chan n).cyc.on ∧ (s.wantDue n).isEmpty = false ∧ s.slewDue n = false ∧ s.dtcSlewDue n = false then .next (parkCycle s n) else .next s

/-- LEAVE_PARK: the releases due at the coming cycle take effect, and a channel with no cause left leaves park. -/
def leavePark (s : State) (n : Nat) : State :=
  let g := s.groupOf n
  let k := (s.chan n).cyc.k
  let s1 := s.takeReleases n
  if s1.leaveDue n ∧ s1.get (CH_STAT_PCAUSE n) = 0 then
    let s2 := s1.leaveLines n
    if s2.bit (GRP_HALT_HALTED g) ∧ (s2.group g).relAcc ∧ s2.lowest g = some n then s2.haltEnd g k else s2
  else s1

def execLeavePark (n : Fin 512) (s : State) : Host.Outcome State Fault Refusal :=
  if (s.chan n).cyc.on ∧ (s.wantDue n).isEmpty ∧ s.slewDue n = false ∧ s.dtcSlewDue n = false ∧ ((s.relDue n).isEmpty = false ∨ s.leaveDue n) then .next (leavePark s n)
  else .next s

/-! ### Decisions (06, R175, R176, R181, R182, R507) -/

/-- A 48-bit timebase count as a count of this timebase: the nearest one. -/
def nearCount (now t : Nat) : Int := (now : Int) + signed 48 (t % 2 ^ 48 + 2 ^ 48 - now % 2 ^ 48)

/-- The group's pending set (06, R180): bit s is 1 when slot s is pending in a member. -/
def State.pendSet (s : State) (g : Nat) : Nat := (s.members g).foldl (fun m n => Nat.lor m (s.chan n).cyc.pendMask) 0

/-- What a decision ends with: its code, its effect cycle, the slots a CANCEL discarded, and whether its completion
comes later, at cycle K. -/
structure Decided where
  st : State
  code : Nat
  cyc : Nat
  slots : Option Nat
  later : Bool

def refusedBy (s : State) (code : Nat) : Decided := ⟨s, code, 0, none, false⟩

/-- START (06, R132, R176). -/
def State.decideStart (s : State) (g x t : Nat) : Decided :=
  let at_ := nearCount x t
  if s.running g then refusedBy s Code.GROUP_RUNNING
  else if at_ < (x : Int) + 256 then refusedBy s Code.START_LATE
  else
    let s1 := ((s.put (GRP_STAT_RUN g) 1).putPair (GRP_STARTLO_CNT g) (GRP_STARTHI_CNT g) t).modGroup g (fun y =>
      { y with start := some at_.toNat, initCur := s.get (GRP_CUECFG_INITSLOT g), initPend := [] })
    ⟨s1, Code.OK, t % 2 ^ 48, none, false⟩

/-- STOP (06, R176). -/
def State.decideStop (s : State) (g x : Nat) (k : Option Nat) : Decided :=
  if s.running g = false then refusedBy s Code.NOT_RUNNING
  else
    let e := s.eligible g x
    match k with
    | none => ⟨s.stopAtCycle g e false, Code.OK, e, none, false⟩
    | some j => if j < e then refusedBy s Code.COMMIT_LATE else ⟨s.stopAtCycle g j false, Code.OK, j, none, false⟩

/-- COMMIT (06, R181, R185). On a stopped group it takes effect at once (06, R178); one for the cycle of an accepted STOP or a
later one is withdrawn as soon as it is scheduled (R176, R188). -/
def State.decideCommit (s : State) (g x ep : Nat) (src : Src) (k : Option Nat) : Decided :=
  if ep % 2 ^ 16 ≠ s.nextEpoch g then refusedBy s Code.EPOCH_MISMATCH
  else if (s.group g).commit.isSome then refusedBy s Code.COMMIT_PENDING
  else if s.running g = false then
    let s1 := (s.members g).foldl (fun t n =>
      let t1 := t.modCyc n (fun c => c.commitShadows)
      if t1.causeStands n causeVoid ∧ (t1.chan n).cyc.anyVoid = false then t1.parkRelease n causeVoid else t1) s
    ⟨s1.put (GRP_EPOCH_EPOCH g) ep, Code.OK, 0, none, false⟩
  else
    let e := s.eligible g x
    let j := k.getD e
    if j < e then refusedBy s Code.COMMIT_LATE
    else if (s.group g).stopAt.any (fun k => decide (k ≤ j)) then ⟨s, Code.CANCELLED, 0, none, false⟩
    else
      let s1 := (s.put (GRP_STAT_CPEND g) 1).putPair (GRP_COMMITLO_K g) (GRP_COMMITHI_K g) j
      let s2 := s1.modGroup g (fun y => { y with commit := some (j, ep % 2 ^ 16, src) })
      ⟨(s2.members g).foldl (fun t n => t.modCyc n (fun c => { c with loads := c.loads ++ [.commit j] })) s2, Code.OK, j, none, true⟩

/-- CANCEL (06, R182, R507). -/
def State.decideCancel (s : State) (g ep : Nat) : Decided :=
  let d := signed 16 (ep % 2 ^ 16 + 2 ^ 16 - s.get (GRP_EPOCH_EPOCH g))
  if (s.group g).commit.isSome ∨ d ≤ 0 then refusedBy s Code.ALREADY_COMMITTED
  else if d ≠ 1 then refusedBy s Code.EPOCH_MISMATCH
  else ⟨(s.members g).foldl (fun t n => t.modCyc n (fun c => c.dropShadows)) s, Code.OK, 0, some (ones 32 (s.pendSet g)), false⟩

/-- The decision of a command that is not a cue, at cycle X of the lead bank. -/
def State.decideCmd (s : State) (g x : Nat) (op : GOp) : Decided :=
  match s.commonRefusal g op.cmd with
  | some c => refusedBy s c
  | none =>
    match op.cmd with
    | .start t => s.decideStart g x t
    | .stop k => s.decideStop g x k
    | .commit ep k => s.decideCommit g x ep op.src k
    | .cancel ep => s.decideCancel g ep
    | .cue _ _ => refusedBy s Code.OK
    | .pcue _ _ _ => refusedBy s Code.OK

/-- GROUP_DECISION: the lead hub holds every member hub's report of the group's oldest command (06, R175). The completion of a
loaded cue is of the cycle in which the last hub had loaded it (R185). -/
def groupDecision (s : State) (g : Nat) (op : GOp) : State :=
  let x := s.tbOf (s.leadBank g)
  let s0 := s.modGroup g (fun y => { y with ops := y.ops.filter (fun o => o.id != op.id) })
  match op.cmd.slotCtx with
  | some _ =>
    match op.refused with
    | some c => let s1 := s0.noteRefusal g c
                s1.stageComp (s1.compOf g op.src c 0 op.ces op.voids)
    | none => s0.stageCompAt { s0.compOf g op.src (if op.voids = 0 then Code.OK else Code.ECC_VOID) op.effect op.ces op.voids with
                                 epoch := op.epoch } op.doneAt
  | none =>
    let d := s0.decideCmd g x op
    let s1 := if d.code = Code.OK ∨ d.code = Code.CANCELLED then d.st else d.st.noteRefusal g d.code
    if d.later then s1 else s1.stageComp { s1.compOf g op.src d.code d.cyc 0 0 with slots := d.slots }

/-! ### The start (05, R132; 06, R176) and membership (06, R174) -/

/-- One member starts at T: its accumulator is loaded, cycles 0 to 3 are read, NOGRP is released, and DETACH too when a
port owns the group (05, R152; 07, R219). -/
def State.memberStart (s : State) (g t n : Nat) : State :=
  let x := s.chan n
  let r := x.cyc.startAt (s.gctx g) t
  let s1 := s.setChan n { x with cyc := r.1, sch := x.sch.restart, dtcOld := [] }
  let s2 := s1.putCause n causeNogrp false
  let s3 := if s2.bit (GRP_STAT_OWNED g) then s2.putCause n causeDetach false else s2
  let s4 := s3.leaveIfFree n (.cycle 0)
  (r.2.foldl (fun (p : State × Nat) o => (p.1.noteRead g n p.2 o, p.2 + 1)) (s4, 0)).1

/-- GROUP_START_TIME: the timebase reaches T. -/
def groupStart (s : State) (g t : Nat) : State :=
  let s1 := s.tbTo (s.leadBank g) t
  let s2 := s1.modGroup g (fun x => { x with start := none })
  (s2.members g).foldl (fun u n => u.memberStart g t n) s2

/-- May a write of CHn_GRP be taken (06, R174)? -/
def State.grpWriteOk (s : State) (n : Nat) (w : Word) : Bool :=
  let m := s.bit (CH_GRP_MEMBER n)
  let same := (m == wbit w 7) && s.get (CH_GRP_GROUP n) == fld w 0 6
  same || ((!m || !s.running (s.groupOf n)) && (!wbit w 7 || !s.running (fld w 0 6)))

/-- A write of CHn_GRP (06, R174). -/
def State.grpWrite (s : State) (n : Nat) (w : Word) : State :=
  if s.grpWriteOk n w then s.writeReg (CH_GRP n) w fullMask else s.flagCh n (CH_CFLAGS_GRPREF n)

def execMembershipWrite (src : Source) (n : Fin 512) (w : Word) (s : State) : Host.Outcome State Fault Refusal :=
  .next (s.rowWrite src (CH_GRP n) w (fun u => u.grpWrite n w))

/-- A write of GRPg_CUECFG (06, R176): INITSLOT of a running group, from the decision of its START, takes effect 48 T-clock cycles
after it arrives. -/
def State.cuecfgWrite (s : State) (g : Nat) (w : Word) : State :=
  let s1 := s.writeReg (GRP_CUECFG g) w fullMask
  if s.running g then
    s1.modGroup g (fun x => { x with initPend := (s.tbOf (s.leadBank g) + 48, fld w 0 5) :: x.initPend })
  else s1

end Sys2Proof.Machine
end

