-- ==== Sys2Proof/Machine/Banks.lean ====
section
/-! DEFINITION. Banks (04_banks_and_clock_distribution.md): idleness, root selection, the bank DLL, taint intervals, the
halt on loss; and the writes that ask whether a bank is idle (02, R44; 06, R171). -/

set_option Elab.async false

namespace Sys2Proof.Machine

/-! ### Idleness (04, R110) -/

/-- The state of a take (08, R243): 0 IDLE, 1 PREROLL, 2 ARMED, 3 CAPTURE, 4 CLOSING, 5 DONE. -/
def State.takeState (s : State) (t : Nat) : Nat := s.get (TK_STAT_STATE t)

/-- A take is neither IDLE nor DONE. -/
def State.takeBusy (s : State) (t : Nat) : Bool := s.takeState t != 0 && s.takeState t != 5

/-- The channel has joined a take that is armed or running. -/
def State.chanInTake (s : State) (n : Nat) : Bool := s.bit (CH_TAKE_JOIN n) && s.takeBusy (s.get (CH_TAKE_TAKE n))

/-- A channel keeps its bank active: its lines are not parked, its group runs, a take or a calibration run uses it, or a
shadow or a commit waits in it (04, R110, R113). -/
def State.chanBusy (s : State) (n : Nat) : Bool :=
  let x := s.chan n
  !x.pk.parked || (s.bit (CH_GRP_MEMBER n) && s.running (s.groupOf n)) || s.chanInTake n || s.calChans.contains n ||
    x.cyc.pendMask != 0 || x.cyc.loads.any (fun l => match l with
      | .commit _ => true
      | .cue _ _ _ _ _ => false)

/-- The bank has no T-clock: its DLL is in NOCLK and its root is OFF or runs a test divider (02, R42; 04, R110, R506). -/
def State.clockless (s : State) (b : Nat) : Bool :=
  s.get (BNK_STAT_DLLSTATE b) == 0 && (s.rootState (s.rootOf b) == stOff || (s.root (s.rootOf b)).testDiv)

/-- A timing command, not an access to the store. -/
def HubItem.isCmd : HubItem → Bool
  | .cmd _ _ => true
  | .access _ => false

/-- A bank is idle (04, R110); without a T-clock it is idle whatever else holds. -/
def State.bankIdle (s : State) (b : Nat) : Bool :=
  s.clockless b ||
    ((List.range 64).all (fun i => !s.chanBusy (64 * b + i)) && (s.bank b).jobs.isEmpty && !(s.bank b).cueq.any HubItem.isCmd &&
      (s.bank b).stage.isEmpty)

/-! ### Root writes that ask for idle banks (02, R41, R44) -/

def execRootEnable (src : Source) (n : Fin 4) (w : Word) (s : State) : Host.Outcome State Fault Refusal :=
  .next (s.rowWrite src (SYN_CTRL n) w (fun u => u.synCtrlWrite src n w (fun b => u.bankIdle b)))

def execRootDisable (src : Source) (n : Fin 4) (w : Word) (s : State) : Host.Outcome State Fault Refusal :=
  .next (s.rowWrite src (SYN_CTRL n) w (fun u => u.synCtrlWrite src n w (fun b => u.bankIdle b)))

def execRelock (src : Source) (n : Fin 4) (w : Word) (s : State) : Host.Outcome State Fault Refusal :=
  .next (s.rowWrite src (SYN_CTRL n) w (fun u => u.synCtrlWrite src n w (fun b => u.bankIdle b)))

def execPhclr (src : Source) (n : Fin 4) (w : Word) (s : State) : Host.Outcome State Fault Refusal :=
  .next (s.rowWrite src (SYN_CTRL n) w (fun u => u.synCtrlWrite src n w (fun b => u.bankIdle b)))

/-- A write of BNKb_CUECTRL (06, R171): WIPE starts on an idle bank; else the write changes nothing and sets WIPEREF. -/
def State.cuectrlWrite (s : State) (b : Nat) (w : Word) : State :=
  if wbit w 8 ∧ s.bankIdle b = false then s.put (BNK_CUESTAT_WIPEREF b) 1
  else
    let s1 := s.writeReg (BNK_CUECTRL b) w fullMask
    if wbit w 8 then s1.put (BNK_CUESTAT_WIPING b) 1 else s1

def execWipe (src : Source) (b : Fin 8) (w : Word) (s : State) : Host.Outcome State Fault Refusal :=
  .next (s.rowWrite src (BNK_CUECTRL b) w (fun u => u.cuectrlWrite b w))

/-! ### Taint intervals (01, R29, R30; 04, R118 to R121, R506) -/

/-- The guard time in force (04, R119). -/
def State.guardOf (s : State) (b : Nat) : Nat := max 64 (s.get (BNK_GUARD_CYC b))

/-- The active taint sources of a bank as BNKb_TSRC shows them (01, R29; 04, R118). -/
def State.taintSrc (s : State) (b : Nat) : Nat :=
  let n := s.rootOf b
  b2n (!(s.root n).lock) + 2 * b2n (s.root n).coasting + 4 * b2n (s.root n).snap + 8 * b2n (!s.bit (BNK_STAT_DLLLOCK b))

/-- Record an opening, back-dated by the guard, at count X of the timebase in use (01, R30; 04, R121). -/
def State.openTaint (s : State) (b x : Nat) : State :=
  let o := x - s.guardOf b
  let shown := ((x : Int) - s.guardOf b) % (2 ^ 48 : Nat)
  let s1 := ((s.put (BNK_STAT_TAINT b) 1).inc (BNK_TAINTCNT_COUNT b)).flagBnk b (BNK_FLAGS_TOPENED b)
  let s2 := s1.putPair (BNK_TOPENLO_CNT b) (BNK_TOPENHI_CNT b) shown.toNat
  let s3 := s2.putPair (BNK_TCLOSELO_CNT b) (BNK_TCLOSEHI_CNT b) (2 ^ 48 - 1)
  s3.modBank b (fun y => { y with openAt := some o, dist := true, opens := y.opens + 1 })

/-- A group halts on the opening in bank b (04, R122): it runs, its T has come, HALTLOSS is 1 and it is not halted. -/
def State.haltsOn (s : State) (b g : Nat) : Bool :=
  s.running g && (s.group g).start.isNone && s.bit (GRP_HALT_HALTLOSS g) && !s.bit (GRP_HALT_HALTED g) &&
    (s.memberBanks g).contains b

/-- A release, or the end of the halt, reaches a member that HALT has not parked yet: it parks at C and leaves at its first cycle at least 48 T-clock
cycles after the release (04, R124, R126). -/
def State.haltLater (s : State) (g n : Nat) : State :=
  s.modPark n (fun p => { p with chg := p.chg ++ [⟨causeHalt, .time ((s.group g).relAt + 48), false⟩] })

/-- The running members of a group in a hub will park at their first cycle at least 48 T-clock cycles after X (04, R122). -/
def State.haltMembers (s : State) (g b x : Nat) : State :=
  ((s.membersIn g b).filter (fun n => (s.chan n).cyc.on)).foldl (fun t n =>
    let t1 := t.parkWant n causeHalt (.time (x + 48))
    if (t1.group g).relAcc || !t1.bit (GRP_HALT_HALTED g) then t1.haltLater g n else t1) s

/-- DESIGN CHOICE: the halt of a group whose lowest-numbered member has stopped already, at K, is recorded as K at once (04, R126). -/
def State.haltPast (s : State) (g : Nat) : State :=
  match s.lowest g with
  | none => s
  | some n => if (s.chan n).cyc.on then s else s.haltAt g (s.chan n).cyc.k

/-- A group halts: recorded, its members in the observing hub scheduled, the other hubs told (04, R122). -/
def State.haltGroup (s : State) (b x g : Nat) : State :=
  let s1 := ((s.put (GRP_HALT_HALTED g) 1).put (GRP_HALT_CAUSE g) b).inc (GRP_HALT_HALTCNT g)
  let others := (s1.memberBanks g).filter (fun c => c != b)
  let s2 := s1.modGroup g (fun y => { y with relAcc := false, haltDue := true, notices := others.map (fun c => (c, x)) })
  (s2.haltMembers g b x).haltPast g

/-- TAINT_INTERVAL_OPEN: the hub observes a source (01, R30; 04, R118, R122, R506). -/
def taintOpen (s : State) (b : Nat) : State :=
  let x := s.tbOf b
  let s1 := s.openTaint b x
  (List.range 64).foldl (fun t g => if s.haltsOn b g then t.haltGroup b x g else t) s1

def execTaintIntervalOpen (b : Fin 8) (s : State) : Host.Outcome State Fault Refusal :=
  if s.bit (BNK_STAT_TAINT b) = false ∧ s.taintSrc b ≠ 0 then .next (taintOpen s b) else .next s

/-- The open interval closes at count X: an item whose time lies in [open, X) is tainted (01, R30; 04, R120). An older
interval that no item of the stage can lie in is forgotten. -/
def State.closeTaint (s : State) (b x : Nat) : State :=
  let s1 := (s.put (BNK_STAT_TAINT b) 0).putPair (BNK_TCLOSELO_CNT b) (BNK_TCLOSEHI_CNT b) x
  s1.modBank b (fun y =>
    let keep := y.past.filter (fun p => decide (x < p.2 + 65536) || y.stage.any (fun i => decide (i.time < p.2)))
    { y with openAt := none, past := match y.openAt with
        | some o => (o, x) :: keep
        | none => keep })

def execTaintIntervalClose (b : Fin 8) (s : State) : Host.Outcome State Fault Refusal :=
  if s.bit (BNK_STAT_TAINT b) ∧ s.taintSrc b = 0 then .next (s.closeTaint b (s.tbOf b)) else .next s

/-- Does a time of a bank's timebase lie in a taint interval of the bank (01, R32; 04, R120)? -/
def State.tainted (s : State) (b t : Nat) : Bool :=
  let y := s.bank b
  y.past.any (fun p => decide (p.1 ≤ t ∧ t < p.2)) || y.openAt.any (fun o => decide (o ≤ t))

/-! ### Root selection (04, R111, R112, R506) -/

/-- An accepted root change (04, R112, R115); firmware then refits the bank (R119). DESIGN CHOICE: the table names no event for a
DLL in NOCLK whose new root already runs; it goes to ACQUIRE. -/
def State.changeRoot (s : State) (b m : Nat) : State :=
  let old := s.tbOf b
  let s1 := if s.bit (BNK_STAT_TAINT b) then s.closeTaint b old else s
  let s2 := ((s1.put (BNK_ROOT_SEL b) m).put (BNK_STAT_ROOTACT b) m).put (BNK_STAT_ROOTWHY b) 0
  let s3 := s2.dllTo (if (s.root m).tclk then 1 else 0) b
  let s4 := s3.modBank b (fun y => { y with past := [] })
  (s4.openTaint b (s4.tbOf b)).refitBank m b

/-- A write of BNKb_ROOT (04, R111; 16, R471). -/
def State.bnkRootWrite (s : State) (b : Nat) (w : Word) : State :=
  let sel := s.get (BNK_ROOT_SEL b)
  let lk := s.bit (BNK_ROOT_LOCK b)
  let s1 := s.writeReg (BNK_ROOT b) (BitVec.ofNat 32 (fieldPut w.toNat 0 2 sel)) fullMask
  if lk ∨ fld w 0 2 = sel then s1
  else if s.bankIdle b then s1.changeRoot b (fld w 0 2)
  else (s1.flagBnk b (BNK_FLAGS_ROOTREF b)).put (BNK_STAT_ROOTWHY b) 1

def execRootSelect (src : Source) (b : Fin 8) (w : Word) (s : State) : Host.Outcome State Fault Refusal :=
  .next (s.rowWrite src (BNK_ROOT b) w (fun u => u.bnkRootWrite b w))

/-! ### The bank DLL (04, R114 to R116, R127) -/

/-- DLL_SEARCH_DONE: `cw` is the code the search ended with. -/
def dllSearchDone (s : State) (b cw : Nat) : State := (s.dllTo 2 b).put (BNK_DLLCW_CW b) cw

def execDllSearchDone (b : Fin 8) (cw : BitVec 16) (s : State) : Host.Outcome State Fault Refusal :=
  if s.get (BNK_STAT_DLLSTATE b) = 1 then .next (dllSearchDone s b cw.toNat) else .next s

/-- DLL_COMPARISON in COUNT: within the window the count rises, at NLOCK the DLL is locked. -/
def dllCount (s : State) (b e : Nat) : State :=
  let nlock := max 8 (s.get (BNK_DLLCFG_NLOCK b))
  let win := max 1 (s.get (BNK_DLLCFG_WIN b))
  if win < e then s.modBank b (fun x => { x with dllCnt := 0 })
  else
    let c := (s.bank b).dllCnt + 1
    if nlock ≤ c then ((s.put (BNK_STAT_DLLSTATE b) 3).put (BNK_STAT_DLLLOCK b) 1).modBank b (fun x => { x with dllCnt := 0, dllLoss := 0 })
    else s.modBank b (fun x => { x with dllCnt := c })

/-- DLL_COMPARISON in LOCKED: LCNT + 1 comparisons beyond twice the window lose the lock; DLLLOL only when the root's
LOCK was 1 (04, R116). -/
def dllWatch (s : State) (b e : Nat) : State :=
  let win := max 1 (s.get (BNK_DLLCFG_WIN b))
  if 2 * win < e then
    let c := (s.bank b).dllLoss + 1
    if s.get (BNK_DLLCFG_LCNT b) + 1 ≤ c then
      let s1 := s.dllTo 1 b
      if (s.root (s.rootOf b)).lock then (s1.flagBnk b (BNK_FLAGS_DLLLOL b)).inc (BNK_DLLLOLCNT_COUNT b) else s1
    else s.modBank b (fun x => { x with dllLoss := c })
  else s.modBank b (fun x => { x with dllLoss := 0 })

/-- The root searches its band or locks after a search, which moves the T-clock by more than a line can follow (04, R117). -/
def State.bandMoves (s : State) (n : Nat) : Bool :=
  let st := s.rootState n
  st == stSearch || st == stAcquire || st == stCount

/-- |e_D| of a comparison: through a feed-forward change it stays at or below 4 ticks with WIN of 8 or more, unless a band search
moves the T-clock (04, R117). -/
def State.dllError (s : State) (b : Nat) (e : Int) : Nat :=
  if (s.bank b).ff ∧ 8 ≤ s.get (BNK_DLLCFG_WIN b) ∧ s.bandMoves (s.rootOf b) = false then min 4 e.natAbs else e.natAbs

/-- DLLCW has a code: the extremes of a calibration run take it in (10, R300). -/
def State.noteCw (s : State) (b cw : Nat) : State :=
  s.modBank b (fun y => { y with cwSpan := (min y.cwSpan.1 cw, max y.cwSpan.2 cw) })

/-- A feed-forward change is over with the first comparison that would stay at or below 4 ticks without its bound, and with a band
search. -/
def State.ffDone (s : State) (b : Nat) (e : Int) : State :=
  s.modBank b (fun y => { y with ff := y.ff && decide (4 < e.natAbs) && !s.bandMoves (s.rootOf b) })

/-- DLL_COMPARISON: `e` is the error e_D in ticks, `cw` the control code in use, in ACQUIRE the code under trial (04, R114). -/
def execDllComparison (b : Fin 8) (e : Int) (cw : BitVec 16) (s : State) : Host.Outcome State Fault Refusal :=
  let s1 := (s.put (BNK_DLLCW_CW b) cw.toNat).noteCw b cw.toNat
  let k := s.dllError b e
  if s.get (BNK_STAT_DLLSTATE b) = 2 then .next (dllCount (s1.ffDone b e) b k)
  else if s.get (BNK_STAT_DLLSTATE b) = 3 then .next (dllWatch (s1.ffDone b e) b k)
  else if s.get (BNK_STAT_DLLSTATE b) = 1 then .next s1
  else .next s

/-- DLL_ACQUISITION_TIMEOUT (04, R115, R127). -/
def dllTimeout (s : State) (b : Nat) : State := (s.dllTo 1 b).flagBnk b (BNK_FLAGS_DLLFAIL b)

def execDllAcquisitionTimeout (b : Fin 8) (s : State) : Host.Outcome State Fault Refusal :=
  if s.get (BNK_STAT_DLLSTATE b) = 1 ∨ s.get (BNK_STAT_DLLSTATE b) = 2 then .next (dllTimeout s b) else .next s

/-! ### Halts (04, R122, R124) -/

/-- HALT_NOTICE: hub b receives the observing cycle of a halt. -/
def haltNotice (s : State) (g b x : Nat) : State :=
  (s.modGroup g (fun y => { y with notices := y.notices.filter (fun p => p.1 != b) })).haltMembers g b x

def execHaltNotice (g : Fin 64) (b : Fin 8) (s : State) : Host.Outcome State Fault Refusal :=
  match (s.group g).notices.find? (fun p => p.1 == b.val) with
  | none => .next s
  | some p => .next (haltNotice s g b p.2)

/-- A release of a halt (04, R124): refused while a member bank has an open interval; else every member releases HALT.
One that HALT has not parked yet parks at its cycle first. A group whose lowest-numbered member runs no cycle has nothing to
leave: the halt ends at once. A second release changes nothing. -/
def State.releaseHalt (s : State) (g : Nat) : State :=
  if (s.memberBanks g).any (fun b => s.bit (BNK_STAT_TAINT b)) then s.put (GRP_HALT_RELREF g) 1
  else if s.bit (GRP_HALT_HALTED g) = false ∨ (s.group g).relAcc then s
  else
    let s1 := s.modGroup g (fun y => { y with relAcc := true, relAt := s.tbOf (s.leadBank g) })
    let s2 := (s1.members g).foldl (fun t n =>
      if t.cause n causeHalt then (t.parkRelease n causeHalt).modPark n (fun p => { p with notBefore := if (t.chan n).cyc.on then (s1.group g).relAt + 48 else 0 }) else if t.causeStands n causeHalt then t.haltLater g n else t) s1
    match s2.lowest g with
    | none => s2.haltEnd g 0
    | some n => if (s2.chan n).cyc.on then s2 else s2.haltEnd g (s2.chan n).cyc.k

/-- A write of GRPg_HALT (04, R124, R130). -/
def State.haltWrite (s : State) (g : Nat) (w : Word) : State :=
  let s1 := s.writeReg (GRP_HALT g) w fullMask
  if wbit w 1 then s1.releaseHalt g else s1

def execHaltRelease (src : Source) (g : Fin 64) (w : Word) (s : State) : Host.Outcome State Fault Refusal :=
  .next (s.rowWrite src (GRP_HALT g) w (fun u => u.haltWrite g w))

end Sys2Proof.Machine
end

