-- ==== Sys2Proof/Machine/Boundary.lean ====
section
/-! DEFINITION. What a clock sequencer takes at a step boundary: a clear of EN, a declared loss, a PRIO 1 hop, ABORT
(03_profiles_spread_and_coasting.md, R76 to R79). -/

set_option Elab.async false

namespace Sys2Proof.Machine

/-- The sequencer takes a declared loss at a step boundary (03, R76 to R79, R100): a lock in progress ends in FREERUN, a locked
root starts COASTIN, with a ramp suspended and a hop ended by it, and a return goes back to COAST on its coast word. DESIGN
CHOICE: a root in QUALIFY that goes back to COAST keeps the cycle of its spread. -/
def State.takeLoss (s : State) (n : Nat) : State :=
  let st := s.rootState n
  let s0 := s.modRoot n (fun r => { r with waitLoss := false })
  if st = stWake ∨ st = stSearch ∨ st = stAcquire ∨ st = stCount then
    let s1 := ((s0.unstartHop n).interrupt n).setStNow n stFreerun
    s1.modRoot n (fun r => { r with lostInWake := decide (st = stWake), cnt := 0 })
  else if st = stLocked ∨ st = stHop ∨ st = stRamp then
    let s1 := if st = stRamp ∧ (s.root n).rt = 5 then s0.suspendRamp n else (s0.unstartHop n).interrupt n
    let s2 := s1.modRoot n (fun r => { r with hop := r.hop.map (fun q => (q.1, HopPhase.ended)), cnt := 0, loss := 0, settle := 0 })
    s2.routine n 7
  else if st = stQualify ∨ st = stMeasure ∨ st = stReclose then
    ((s0.interrupt n).setStNow n stCoast).modRoot n (fun r => { r with cnt := 0, snap := false, frozen := false })
  else s0

/-- A PRIO 1 hop waits and the routine gives way to it (03, R76, R78): HOPIN, HOPOUT or RAMP. -/
def State.prioHop (s : State) (n : Nat) : Option HopReq :=
  let r := s.root n
  match r.pend with
  | some q => if q.prio && (r.rt == 3 || r.rt == 4 || r.rt == 5) then some q else none
  | none => none

/-- The waiting PRIO 1 hop interrupts: the interrupted hop completes CANCELLED, a ramp is suspended (03, R78, R79). -/
def State.takePrio (s : State) (n : Nat) (q : HopReq) : State :=
  let s1 := if s.rootState n = stRamp then (s.suspendRamp n).setStNow n stLocked else s.interrupt n
  let s2 := match (s.root n).hop with
    | some (old, _) => s1.hopResult n old 5 Code.CANCELLED
    | none => s1
  ((s2.modRoot n (fun r => { r with hop := some (q, .waiting), pend := none, settle := 0 })).showPend n).put (SYN_STAT_HOPBUSY n) 1

/-- The requests that wait at a step boundary, in their order; once one has ended or suspended the routine the lower ones have no
effect on it (03, R76, R78). Under a fault the sequencer takes only the clear of EN (R81). -/
def State.atBoundary (s : State) (n : Nat) : State :=
  let s0 := s.modRoot n (fun r => { r with waitAbort := false })
  let s1 :=
    if (s.root n).waitOff then s0.takeOff n
    else if s.bit (SEQ_STAT_FAULT n) then s0
    else if (s.root n).waitLoss then s0.takeLoss n
    else match s0.prioHop n with
      | some q => s0.takePrio n q
      | none => if (s.root n).waitAbort ∧ (s.root n).rt = 5 then (s0.suspendRamp n).setStNow n stLocked else s0
  s1.modRoot n Root.sync

end Sys2Proof.Machine
end

