-- ==== Sys2Proof/Machine/Profiles.lean ====
section
/-! DEFINITION. Ramps, spread spectrum, the sequencers' controls and the patch RAM
(03_profiles_spread_and_coasting.md, R72 to R90, R102, R103). -/

set_option Elab.async false

namespace Sys2Proof.Machine

/-! ### Ramps (03, R82 to R87) -/

/-- The segment of a root's table (03, R82). -/
def State.seg (s : State) (n i : Nat) : Seg := tabGet Seg.init (s.root n).segs i

/-- Why a target is refused, as a LASTRES code: 4 out of range, 3 out of the band, 0 accepted (03, R85, R90). -/
def State.targetWhy (s : State) (n target : Nat) : Nat :=
  if s.rangeOk n (s.root n).ss target = false then 4
  else if s.inBand n (s.root n).ss target = false then 3
  else 0

/-- The result code of a LASTRES code (03, R85, R105; 14, R434). -/
def rampCode (why : Nat) : Nat :=
  if why = 3 then Code.BAND_LIMIT else if why = 4 then Code.FREQ_RANGE else if why = 5 then Code.NOT_LOCKED
  else if why = 6 then Code.RAMP_BUSY else Code.OK

/-- The root is LOCKED for a ramp, as committed, and nothing that comes first ends that (03, R76, R85, R87). DESIGN CHOICE: a faulted
sequencer, which starts no routine (R81), a declared loss and an accepted clear of EN refuse as NOT_LOCKED. -/
def State.rampLocked (s : State) (n : Nat) : Bool :=
  let r := s.root n
  s.isLocked n && r.com.st == stLocked && s.seqRuns n && !r.waitOff

/-- Why a ramp start is refused (03, R85): 6 RAMP_BUSY, 5 NOT_LOCKED, then the range of every target, then the band. -/
def State.rampWhy (s : State) (n : Nat) : Nat :=
  let targets := (List.range (s.get (SYN_RCTRL_NSEG n) + 1)).map (fun i => (s.seg n i).target)
  if s.rootState n = stRamp ∨ (s.root n).waitRamp.isSome then 6
  else if s.rampLocked n = false then 5
  else if targets.any (fun t => s.rangeOk n (s.root n).ss t == false) then 4
  else if targets.any (fun t => s.inBand n (s.root n).ss t == false) then 3
  else 0

/-- The ramp is over: back to LOCKED with the base as it is, what its step computed is committed, and what waits for the boundary is
taken (03, R73, R76, R80, R85, R87). -/
def State.rampEnd (s : State) (n lastres : Nat) : State :=
  let s1 := ((s.commitEff n).setStNow n stLocked).put (SYN_RSTAT_PHASE n) 0
  let s2 := (s1.put (SYN_RSTAT_LASTRES n) lastres).modRoot n (fun r => { r with ramp := none })
  ((s2.routineEnd n).commitWord n).atBoundary n

/-- Segment `i` starts: its entry is copied and its target checked again (03, R82 to R85). -/
def State.beginSeg (s : State) (n i pass : Nat) (passes : Option Nat) : State :=
  let g := s.seg n i
  let why := s.targetWhy n g.target
  if why ≠ 0 then s.rampEnd n why
  else
    let here := decide (g.slope ≠ 0 ∧ (s.root n).base = g.target)
    let q : Ramp := { seg := i, pass := pass, passes := passes, cur := g, dwelling := here, left := g.dwell }
    let s1 := s.modRoot n (fun r => { r with stepCyc := 0, stepDue := false, ramp := some q,
                                             com := { r.com with base := r.base, ramp := some q } })
    (((s1.put (SYN_RSTAT_SEG n) i).put (SYN_RSTAT_PHASE n) (if here then 2 else 1)).put (SEQ_STAT_STEP n) 0).commitWord n

/-- A suspended ramp ends and its base word stays (03, R80, R87). -/
def State.dropSuspended (s : State) (n : Nat) : State :=
  if s.bit (SEQ_STAT_SUSP n) then
    let s1 := ((s.put (SEQ_STAT_SUSP n) 0).put (SYN_RSTAT_PHASE n) 0).put (SYN_RSTAT_LASTRES n) 2
    let s2 := s1.modRoot n (fun r => { r with ramp := none, intr := none, waitRamp := none, com := { r.com with ramp := none } })
    if (s.root n).rt = 0 then s2.showIntr n else s2
  else s

/-- DROP ends a ramp, suspended or running (03, R80, R100); it has no effect on any other routine. -/
def State.dropRamp (s : State) (n : Nat) : State :=
  if s.rootState n = stRamp ∧ (s.root n).rt = 5 then s.rampEnd n 2 else s.dropSuspended n

/-- An accepted ramp begins (03, R74, R83, R87; 11, R340); a hop that has not started waits as pending. `clap`: the trigger is a
clapper. -/
def State.beginRamp (s : State) (n : Nat) (clap : Bool) : State :=
  let rep := s.get (SYN_RCTRL_REPEAT n)
  let s1 := (((s.unstartHop n).setStNow n stRamp).put (SYN_RSTAT_PASS n) 0).routine n 5
  let s2 := s1.beginSeg n 0 0 (if rep = 255 then none else some (rep + 1))
  if clap then s2 else s2.alignVoid n 5

/-- An accepted ramp start or RESUME waits for the step that runs. -/
def State.rampWaits (s : State) (n : Nat) (q : RampReq) : State := s.modRoot n (fun r => { r with waitRamp := some q })

/-- A ramp start from a trigger, and the result code of it (03, R80, R85, R86): an idle sequencer begins the ramp, else it waits for
the single step that runs. -/
def State.startRamp (s : State) (n : Nat) (clap : Bool) : State × Nat :=
  let s0 := s.dropSuspended n
  let why := s0.rampWhy n
  let s1 := s0.put (SYN_RCTRL_ARM n) 0
  if why ≠ 0 then (s1.put (SYN_RSTAT_LASTRES n) why, rampCode why)
  else (if (s.root n).rt = 0 then s1.beginRamp n clap else s1.rampWaits n (.start clap), Code.OK)

/-- A trigger reaches the ramp of a root (03, R86): `trig` is 1 for a select port, 2 for a clapper. It starts an armed
ramp of that trigger; any other is ignored and counted. DESIGN CHOICE: so is one that meets an armed ramp of another trigger. -/
def State.rampTrigger (s : State) (n trig : Nat) : State × Nat :=
  if s.bit (SYN_RCTRL_ARM n) ∧ s.get (SYN_RCTRL_TRIG n) = trig then s.startRamp n (trig == 2)
  else (s.inc (SYN_RSTAT_IGNCNT n), Code.IGNORED)

/-- A write of SYNn_RCTRL (03, R86, R105). -/
def State.rctrlWrite (s : State) (n : Nat) (w : Word) : State :=
  let s1 := s.writeReg (SYN_RCTRL n) w fullMask
  let s2 := if wbit w 0 ∨ wbit w 3 then s1.put (SYN_RSTAT_IGNCNT n) 0 else s1
  let trig := s2.get (SYN_RCTRL_TRIG n)
  if wbit w 0 ∧ (trig = 0 ∨ trig = 3) then (s2.startRamp n false).1 else s2

def execRampStart (src : Source) (n : Fin 4) (w : Word) (s : State) : Host.Outcome State Fault Refusal :=
  .next (s.rowWrite src (SYN_RCTRL n) w (fun u => u.rctrlWrite n w))

def execRampArm (src : Source) (n : Fin 4) (w : Word) (s : State) : Host.Outcome State Fault Refusal :=
  .next (s.rowWrite src (SYN_RCTRL n) w (fun u => u.rctrlWrite n w))

/-- RAMP_DWELL_END (03, R83, R85, R87): the next segment, the next pass, or the end. DESIGN CHOICE: NSEG is read at the end of
each segment. -/
def rampDwellEnd (s : State) (n : Nat) (q : Ramp) : State :=
  if q.seg < s.get (SYN_RCTRL_NSEG n) then s.beginSeg n (q.seg + 1) q.pass q.passes
  else
    let s1 := s.incWrap (SYN_RSTAT_PASS n)
    let ends := match q.passes with
      | none => false
      | some k => decide (k ≤ q.pass + 1)
    if ends then s1.rampEnd n 1 else s1.beginSeg n 0 (q.pass + 1) q.passes

def execRampDwellEnd (n : Fin 4) (s : State) : Host.Outcome State Fault Refusal :=
  match (s.root n).ramp with
  | some q =>
    if s.rootState n = stRamp ∧ (s.root n).rt = 5 ∧ q.dwelling ∧ q.left = 0 ∧ (s.root n).stepDue = false ∧ s.seqRuns n
    then .next (rampDwellEnd s n q) else .next s
  | none => .next s

/-- A write of SYNn_RSLO, RSHI, RSSLOPE or RSDWELL goes to the segment that RSIDX names (03, R82). `k`: 0 RSLO,
1 RSHI, 2 RSSLOPE, 3 RSDWELL. -/
def State.segWrite (s : State) (n k : Nat) (w : Word) : State :=
  let i := s.get (SYN_RSIDX_INDEX n)
  let g := s.seg n i
  let v := w.toNat
  let g1 : Seg :=
    if k = 0 then { g with target := g.target / 2 ^ 32 * 2 ^ 32 + v }
    else if k = 1 then { g with target := g.target % 2 ^ 32 + v % 2 ^ 16 * 2 ^ 32 }
    else if k = 2 then { g with slope := v }
    else { g with dwell := v }
  s.modRoot n (fun r => { r with segs := tabSet Seg.init r.segs i g1 })

/-- The word that SYNn_RSLO, RSHI, RSSLOPE or RSDWELL reads (03, R82). -/
def State.segRead (s : State) (n k : Nat) : Nat :=
  let g := s.seg n (s.get (SYN_RSIDX_INDEX n))
  if k = 0 then g.target % 2 ^ 32
  else if k = 1 then g.target / 2 ^ 32 % 2 ^ 16
  else if k = 2 then g.slope
  else g.dwell

/-! ### SEQn_CTRL (03, R76, R80) -/

/-- Commit the readable position of a ramp (03, R73, R105). -/
def State.commitRamp (s : State) (n : Nat) : State :=
  match (s.root n).ramp with
  | none => s
  | some q =>
    if s.bit (SEQ_STAT_SUSP n) then s
    else (s.put (SYN_RSTAT_SEG n) q.seg).put (SYN_RSTAT_PHASE n) (if q.dwelling then 2 else 1)

/-- A suspended ramp goes on (03, R79, R80). -/
def State.continueRamp (s : State) (n : Nat) : State :=
  let q := (s.root n).intr.getD ⟨5, 0, false⟩
  let s1 := ((s.routine n 5).put (SEQ_STAT_SUSP n) 0).put (SEQ_STAT_STEP n) q.step
  let s2 := (s1.setStNow n stRamp).modRoot n (fun x => { x with intr := none, nstep := b2n q.part })
  s2.commitRamp n

/-- RESUME (03, R80): continues a suspended ramp when the root is LOCKED, no hop executes and the base is the
checkpoint; otherwise LASTRES says why, 8 before 7 (DESIGN CHOICE: the manual gives no order). Without a suspended ramp, and
under FAULT (R81), it has no effect. It waits for a single step that runs (R74). -/
def State.resumeRamp (s : State) (n : Nat) : State :=
  let r := s.root n
  if s.bit (SEQ_STAT_SUSP n) = false ∨ s.bit (SEQ_STAT_FAULT n) then s
  else if s.rampLocked n = false ∨ r.hop ≠ none then s.put (SYN_RSTAT_LASTRES n) 8
  else if r.base ≠ r.checkpoint then s.put (SYN_RSTAT_LASTRES n) 7
  else if r.rt = 0 then s.continueRamp n
  else s.rampWaits n .resume

/-- The ramp that waited for the step begins, if the root is still free for it (03, R74, R85); else LASTRES is NOT_LOCKED. -/
def State.rampTurn (s : State) (n : Nat) : State :=
  match (s.root n).waitRamp with
  | none => s
  | some q =>
    let s1 := s.modRoot n (fun r => { r with waitRamp := none })
    match q with
    | .start clap => if s.rampLocked n ∧ (s.root n).rt = 0 then s1.beginRamp n clap else s1.put (SYN_RSTAT_LASTRES n) 5
    | .resume => if s.rampLocked n ∧ (s.root n).rt = 0 then s1.continueRamp n else s1.put (SYN_RSTAT_LASTRES n) 8

/-- ABORT waits for the next step boundary of the routine that runs (03, R76). -/
def State.seqAbort (s : State) (n : Nat) : State :=
  if (s.root n).rt = 0 then s
  else
    let s1 := s.modRoot n (fun r => { r with waitAbort := true })
    if s.between n then s1.atBoundary n else s1

/-- A write of SEQn_CTRL (03, R108). -/
def State.seqCtrlWrite (s : State) (n : Nat) (w : Word) : State :=
  let s1 := if wbit w 0 then s.seqAbort n else s
  let s2 := if wbit w 1 then s1.resumeRamp n else s1
  if wbit w 2 then s2.dropRamp n else s2

def execSeqAbort (src : Source) (n : Fin 4) (w : Word) (s : State) : Host.Outcome State Fault Refusal :=
  .next (s.rowWrite src (SEQ_CTRL n) w (fun u => u.seqCtrlWrite n w))

def execResume (src : Source) (n : Fin 4) (w : Word) (s : State) : Host.Outcome State Fault Refusal :=
  .next (s.rowWrite src (SEQ_CTRL n) w (fun u => u.seqCtrlWrite n w))

def execDrop (src : Source) (n : Fin 4) (w : Word) (s : State) : Host.Outcome State Fault Refusal :=
  .next (s.rowWrite src (SEQ_CTRL n) w (fun u => u.seqCtrlWrite n w))

/-! ### Spread (03, R88 to R90) -/

/-- The spread settings that the registers hold, with DEPTH for the base in force and P for f_PD (03, R88). -/
def State.spreadWanted (s : State) (n : Nat) : Spread :=
  let ppm := s.get (SYN_SSDEV_PPM n)
  let hz := s.get (SYN_SSRATE_HZ n)
  { centre := s.bit (SYN_SSCTRL_CENTRE n), table := s.bit (SYN_SSCTRL_TABLE n), ppm := ppm, hz := hz,
    depth := spreadDepth (s.root n).base ppm, period := roundDiv (s.fpdNum n * 1000) (s.fpdDen n * hz),
    tab := (List.range 32).map (fun i => s.get (SYN_SSTAB_V n i)) }

/-- Why a spread change is refused, as an SSSTAT.LASTRES code: 3 value, 4 range, 2 band; 0: accepted (03, R89). -/
def State.spreadWhy (s : State) (n : Nat) (sp : Spread) : Nat :=
  if 5000 < sp.ppm ∨ sp.hz < 20000 ∨ 200000 < sp.hz then 3
  else if s.rangeOk n (some sp) (s.root n).base = false then 4
  else if s.inBand n (some sp) (s.root n).base = false then 2
  else 0

/-- Are two settings the same change (DEPTH apart, which follows the base)? -/
def Spread.same (a b : Spread) : Bool := decide ({ a with depth := 0 } = { b with depth := 0 })

/-- The settings in force follow the base: DEPTH is computed afresh (03, R89). -/
def State.redepth (s : State) (n : Nat) : State :=
  let f : Root → Spread → Spread := fun r sp => { sp with depth := spreadDepth r.base sp.ppm }
  s.modRoot n (fun r => { r with ss := r.ss.map (f r), com := { r.com with ss := r.com.ss.map (f r) } })

/-- Does the write that waits change the spread in force (03, R89)? -/
def State.spreadPending (s : State) (n : Nat) : Bool :=
  let on := s.bit (SYN_SSCTRL_EN n)
  (s.root n).ssReq && (match (s.root n).ss with
    | none => on
    | some sp => !on || !sp.same (s.spreadWanted n))

/-- The change that waits is taken or refused: its readable effects wait for the commit of the SPREAD step (03, R73, R89). -/
def State.spreadStep (s : State) (n : Nat) : State :=
  let want := s.spreadWanted n
  if s.bit (SYN_SSCTRL_EN n) = false then (s.modRoot n (fun r => { r with ss := none, ssk := 0 })).later n (.put (SYN_SSSTAT_LASTRES n) 1)
  else
    let why := s.spreadWhy n want
    if why ≠ 0 then (s.redepth n).later n (.put (SYN_SSSTAT_LASTRES n) why)
    else
      let s1 := s.modRoot n (fun r => { r with ss := some want, ssk := 0 })
      let s2 := (s1.later n (.put (SYN_SSSTAT_LASTRES n) 1)).later n (.put (SYN_SSSTAT_PERIOD n) want.period)
      if (s.root n).ss = none then s2.alignVoid n 5 else s2

/-- SPREAD_PERIOD_BOUNDARY (03, R89): a written change is applied or refused, once, in a SPREAD step of its own, or with the step
of the routine that runs; otherwise DEPTH follows the base. The step of the offset is fed forward to the bank DLLs (04, R117). -/
def spreadBoundary (s : State) (n : Nat) : State :=
  let s1 := s.modRoot n (fun r => { r with ssReq := false })
  let s2 :=
    if s.spreadPending n then
      let s2 := s1.spreadStep n
      if (s.root n).rt = 0 then s2.routine n 6 else s2
    else s1.redepth n
  (s2.feedForward n (s.wordInForce n) false).noteVar n

def execSpreadPeriodBoundary (n : Fin 4) (s : State) : Host.Outcome State Fault Refusal :=
  if spreadRuns (s.rootState n) ∧ ((s.root n).ss = none ∨ (s.root n).ssk = 0) ∧ s.seqRuns n then .next (spreadBoundary s n)
  else .next s

/-- A write of SSCTRL, SSDEV, SSRATE or SSTAB asks for a change (03, R89). -/
def State.spreadWrite (s : State) (n a : Nat) (w : Word) : State :=
  (s.writeReg a w fullMask).modRoot n (fun r => { r with ssReq := true })

/-! ### Patches (03, R102, R103) -/

/-- A write of the patch RAM, a match register or SEQ_PATCHVER (03, R103): refused and counted while a root has EN = 1;
while LOCK is 1 it follows R14. -/
def State.patchWrite (s : State) (a : Nat) (w : Word) : State :=
  if s.bit SEQ_GCTRL_LOCK = false ∧ (List.range 4).any (fun n => s.bit (SYN_CTRL_EN n)) then s.inc SEQ_GSTAT_WRREF
  else s.writeReg a w fullMask

end Sys2Proof.Machine
end

