-- ==== Sys2Proof/Machine/Reels.lean ====
section
/-! DEFINITION. Reels (08_event_capture_and_stamping.md, R250 to R253) and the membership of takes (R241). -/

set_option Elab.async false

namespace Sys2Proof.Machine

/-! ### Indices (08, R250, R261) -/

/-- The words a reel holds. -/
def State.reelCount (s : State) (n : Nat) : Nat := (s.get (CH_RHEAD_IDX n) + 2048 - s.get (CH_RTAIL_IDX n)) % 2048

/-- The reel word at an index. -/
def Cap.word (x : Cap) (i : Nat) : RWord := tabGet RWord.init x.reel (i % 1024)

/-- Store a reel word at an index. -/
def Cap.putWord (x : Cap) (i : Nat) (w : RWord) : Cap := { x with reel := tabSet RWord.init x.reel (i % 1024) w }

/-- The policy of a reel: 0 STOP, 1 WRAP, 2 DROP; 3 acts as STOP (08, R251). -/
def State.reelPolicy (s : State) (n : Nat) : Nat := s.get (CH_RCFG_POLICY n) % 3

/-- A word with its LOSTB bit set (08, R232, R234). -/
def markLostb (w : Nat) : Nat := fieldPut w 62 1 1

/-! ### Writing (08, R250, R251) -/

/-- Append words that fit; each takes the next place in the order of all reel writes. -/
def State.appendWords (s : State) (n take : Nat) (raw : Bool) : List (Nat × Bool) → State
  | [] => s
  | (w, pay) :: t =>
    let h := s.get (CH_RHEAD_IDX n)
    let s1 := s.modCap n (fun x => x.putWord h { w := w, seq := s.reelSeq, take := take, raw := raw, pay := pay, last := false })
    State.appendWords (({ s1 with reelSeq := s1.reelSeq + 1 }).put (CH_RHEAD_IDX n) (h + 1)) n take raw t

/-- Is a reel word a stamp of the arm of a take that runs? -/
def RWord.isStamp (o : RWord) (take seq0 : Nat) : Bool :=
  !o.pay && o.w / 2 ^ 60 % 2 == 0 && o.take == take && decide (seq0 ≤ o.seq)

/-- WRAP: RTAIL passes the oldest whole record, the word now oldest is marked (08, R251); a stamp of the take so marked carries
lost-before (R247). -/
def State.dropOldest (s : State) (n take : Nat) : State :=
  let t := s.get (CH_RTAIL_IDX n)
  let k := if ((s.cap n).word (t + 1)).pay then 2 else 1
  let seq0 := (s.take take).seq0
  let s1 := (s.put (CH_RTAIL_IDX n) (t + k)).incBy (CH_RWRAPCNT_COUNT n) k
  let s2 := s1.modCap n (fun x =>
    let o := x.word (t + k)
    { x.putWord (t + k) { o with w := markLostb o.w } with ovf := true, ovfC := true, lost := x.lost || o.isStamp take seq0 })
  s2.flagCh n (CH_EFLAGS_WRAP n)

/-- What became of a record: written or dropped, or the reel is full under STOP. -/
inductive ReelOut where
  | done | full
  deriving DecidableEq, Repr

/-- The words of a record with the mark of an earlier drop. -/
def withMark (mark : Bool) : List (Nat × Bool) → List (Nat × Bool)
  | [] => []
  | (w, p) :: t => (if mark then markLostb w else w, p) :: t

/-- Put a record that fits into a reel with the mark of an earlier drop, which a stamp takes with it (08, R234, R247, R251). -/
def State.putRecordWords (s : State) (n take : Nat) (raw stamp : Bool) (ws : List (Nat × Bool)) : State :=
  let m := (s.cap n).mark
  (s.modCap n (fun c => { c with mark := m && !stamp, lost := c.lost || (m && stamp) })).appendWords n take raw (withMark m ws)

/-- A record of `k` words under STOP that does not fit (08, R251). -/
def State.overfull (s : State) (n k : Nat) : Bool :=
  !(s.cap n).blocked && decide (1024 < s.reelCount n + k) && s.reelPolicy n == 0

/-- Write a record, a stamp or a slate, into a reel (08, R251, R234). -/
def State.writeRecord (s : State) (n take : Nat) (raw stamp : Bool) (ws : List (Nat × Bool)) : State × ReelOut :=
  if (s.cap n).blocked then (s, .done)
  else
    if s.reelCount n + ws.length ≤ 1024 then (s.putRecordWords n take raw stamp ws, .done)
    else if s.reelPolicy n = 1 then
      let s1 := s.dropOldest n take
      let s2 := if s1.reelCount n + ws.length ≤ 1024 then s1 else s1.dropOldest n take
      (s2.putRecordWords n take raw stamp ws, .done)
    else if s.reelPolicy n = 2 then
      let s1 := (s.incBy (CH_RDROPCNT_COUNT n) ws.length).modCap n (fun c => { c with mark := true, ovf := true, ovfC := true })
      (s1.flagCh n (CH_EFLAGS_DROP n), .done)
    else (s.modCap n (fun c => { c with blocked := true }), .full)

/-! ### The host's side (08, R252, R253) -/

/-- The drain mode in force for a channel: the take's while one runs, else that at the start of its ring while the ring is
enabled, else GLB_MODE's (01, R26; 08, R259; the order of take and ring is a DESIGN CHOICE). -/
def State.drainWin (s : State) (n : Nat) : Bool :=
  let r := s.get (CH_RCFG_RING n)
  if s.chanInTake n then (s.take (s.get (CH_TAKE_TAKE n))).drainWin
  else if s.bit (DR_CTRL_EN r) then (s.ring r).win
  else s.bit GLB_MODE_DRAINWIN

/-- The bytes of the reel window from an offset: 8 KiB for each channel, its 1,024 words little-endian (08, R250, R252; 16, R474). -/
def State.reelBytes (s : State) (o : Nat) : Nat → List Nat
  | 0 => []
  | k + 1 => ((s.cap (o / 0x2000)).word (o / 8)).w / 2 ^ (8 * (o % 8)) % 256 :: s.reelBytes (o + 1) k

/-- A write of CHn_RTAIL (08, R252). -/
def State.rtailWrite (s : State) (n : Nat) (w : Word) : State :=
  let v := fld w 0 11
  let step := (v + 2048 - s.get (CH_RTAIL_IDX n)) % 2048
  if s.drainWin n = false then s
  else if step ≤ s.reelCount n ∧ (step = s.reelCount n ∨ ((s.cap n).word v).pay = false) then s.put (CH_RTAIL_IDX n) v
  else s.flagCh n (CH_EFLAGS_BADTAIL n)

def execRtailWrite (src : Source) (n : Fin 512) (w : Word) (s : State) : Host.Outcome State Fault Refusal :=
  .next (s.rowWrite src (CH_RTAIL n) w (fun u => u.rtailWrite n w))

/-- A write of CHn_RCTRL (08, R253). -/
def State.reelCtrlWrite (s : State) (n : Nat) (w : Word) : State :=
  if wbit w 0 = false then s
  else if s.chanInTake n then s.flagCh n (CH_EFLAGS_FLUSHREF n)
  else s.put (CH_RTAIL_IDX n) (s.get (CH_RHEAD_IDX n))

def execReelFlush (src : Source) (n : Fin 512) (w : Word) (s : State) : Host.Outcome State Fault Refusal :=
  .next (s.rowWrite src (CH_RCTRL n) w (fun u => u.reelCtrlWrite n w))

/-- A write of CHn_TAKE (08, R241). -/
def State.takeJoinWrite (s : State) (n : Nat) (w : Word) : State :=
  let same := s.bit (CH_TAKE_JOIN n) == wbit w 31 && s.get (CH_TAKE_TAKE n) == fld w 0 8
  if same || (!s.chanInTake n && (!wbit w 31 || !s.takeBusy (fld w 0 8))) then s.writeReg (CH_TAKE n) w fullMask
  else s.flagCh n (CH_EFLAGS_JOINREF n)

def execTakeJoinWrite (src : Source) (n : Fin 512) (w : Word) (s : State) : Host.Outcome State Fault Refusal :=
  .next (s.rowWrite src (CH_TAKE n) w (fun u => u.takeJoinWrite n w))

end Sys2Proof.Machine
end

