-- ==== Sys2Proof/Machine/Intervals.lean ====
section
/-! DEFINITION. Interval units and regression accumulators (09_intervals_and_frequency.md, R263 to R285). -/

set_option Elab.async false

namespace Sys2Proof.Machine

/-! ### Interval units: the arm (09, R264) -/

/-- Clear a run of registers. -/
def State.clearRegs (s : State) (a k : Nat) : State := (List.range k).foldl (fun t i => t.setWord (a + 4 * i) 0) s

/-- A latched unit's fields. -/
def Iv.take (x : Iv) : Nat := x.cfg / 2 ^ 16 % 256
def Iv.mode (x : Iv) : Nat := x.cfg / 2 ^ 29 % 4
def Iv.armStart (x : Iv) : Bool := x.cfg / 2 ^ 28 % 2 == 1
def Iv.startCh (x : Iv) : Nat := x.ch / 2 ^ 16 % 512
def Iv.stopCh (x : Iv) : Nat := x.ch % 512

/-- Does a polarity match a filter: 0 rising, 1 falling, 2 and 3 either (09, R284)? -/
def polMatch (f : Nat) (rising : Bool) : Bool := if f = 0 then rising else if f = 1 then !rising else true

/-- One unit at the accepted arm of its take (09, R264, R284). -/
def State.ivArm1 (s : State) (chans : List Nat) (i : Nat) : State :=
  let ref := s.get (IV_STAT_CFGREF i)
  let x : Iv := { Iv.init with cfg := (s.word (IV_CFG i)).toNat, ch := (s.word (IV_CH i)).toNat }
  let s1 := (((s.clearRegs (IV_COUNT i) 25).setWord (IV_STAT i) 0).put (IV_STAT_CFGREF i) ref).setIv i x
  if !(chans.contains x.startCh && chans.contains x.stopCh) then s1.put (IV_STAT_CODE i) Code.BAD_CHANNEL
  else if s.bit GLB_MODE_INTVHOST then s1.put (IV_STAT_CODE i) Code.HOST_MODE
  else s1.put (IV_STAT_RUN i) 1

/-- Every enabled unit that names the take. -/
def State.ivArm (s : State) (t : Nat) (chans : List Nat) : State :=
  (List.range 64).foldl (fun u i => if u.bit (IV_CFG_EN i) ∧ u.get (IV_CFG_TAKE i) = t then u.ivArm1 chans i else u) s

/-! ### Intervals and statistics (09, R268 to R273) -/

/-- The interval from a start to a stop (09, R268). -/
def ivDiff (a b : Int) : Int := signed 60 (wrapNat 60 (b - a))

/-- The interval word (09, R268). -/
def ivWord (x : Int) (taint lostb : Bool) : Nat :=
  b2n taint * 2 ^ 63 + b2n lostb * 2 ^ 62 + b2n (decide (x = 0)) * 2 ^ 61 + wrapNat 61 x

/-- Put a value of 64 bits or fewer in a pair of registers at an address. -/
def State.put64 (s : State) (a v : Nat) : State :=
  (s.setWord a (BitVec.ofNat 32 v)).setWord (a + 4) (BitVec.ofNat 32 (v / 2 ^ 32))

/-- Put `k` 32-bit words of a value. -/
def State.putWords (s : State) (a v : Nat) : Nat → State
  | 0 => s
  | k + 1 => (s.setWord a (BitVec.ofNat 32 v)).putWords (a + 4) (v / 2 ^ 32) k

/-- An interval enters the statistics (09, R270). -/
def State.ivStats (s : State) (i : Nat) (x : Int) (taint : Bool) : State :=
  if s.bit (IV_STAT_NSAT i) then s
  else
    let y := s.iv i
    let n := s.get (IV_COUNT_COUNT i) + 1
    let mn := if n = 1 then x else min y.mn x
    let mx := if n = 1 then x else max y.mx x
    let x0 := if n = 1 then x else y.x0
    let d := x - x0
    let wide := s.bit (IV_STAT_WIDE i) || decide (2 ^ 32 ≤ d.natAbs)
    let sum := if wide then y.sum else y.sum + d
    let sq := if wide then y.sq else y.sq + d.natAbs * d.natAbs
    let s1 := s.setIv i { y with x0 := x0, mn := mn, mx := mx, sum := sum, sq := sq }
    let s2 := ((s1.put (IV_COUNT_COUNT i) n).put (IV_STAT_NSAT i) (b2n (decide (2 ^ 32 - 1 ≤ n)))).put (IV_STAT_WIDE i) (b2n wide)
    let s3 := (s2.put64 (IV_MINLO i) (wrapNat 61 mn)).put64 (IV_MAXLO i) (wrapNat 61 mx)
    let s4 := (s3.putWords (IV_SUM i 0) (wrapNat 96 sum) 3).putWords (IV_SQ i 0) (sq % 2 ^ 96) 3
    if taint then (s4.put (IV_NTAINT_COUNT i) (s4.get (IV_NTAINT_COUNT i) + 1)).put (IV_STAT_TAINT i) 1 else s4

/-- A word for the FIFO of REPETITIVE mode (09, R273). -/
def State.ivFifo (s : State) (i w : Nat) : State :=
  let y := s.iv i
  if y.fifo.length < 256 then
    (s.setIv i { y with fifo := y.fifo ++ [w] }).put (IV_FIFOSTAT_FILL i) (y.fifo.length + 1)
  else (s.inc (IV_FIFOSTAT_OVF i)).put (IV_STAT_FIFOOVF i) 1

/-- pair(a, b) of R266. -/
def State.ivPair (s : State) (i : Nat) (a b : IvStamp) : State :=
  let y := s.iv i
  if y.mode = 0 ∧ y.formed then s
  else
    let x := ivDiff a.t b.t
    let taint := a.taint || b.taint
    let lostb := a.lostb || b.lostb
    let w := ivWord x taint lostb
    let s1 := if y.formed then s else (s.setIv i { y with formed := true }).put64 (IV_FIRSTLO i) w
    let s2 := if lostb then s1.put (IV_STAT_LOST i) 1 else s1
    let s3 := s2.ivStats i x taint
    if y.mode = 1 then s3.ivFifo i w else s3

/-- Append to a queue of 64: a full one loses its oldest, which counts as unpaired (09, R267). -/
def State.ivPush (s : State) (i : Nat) (start : Bool) (x : IvStamp) : State :=
  let y := s.iv i
  let q := if start then y.qs else y.qq
  let q1 := if q.length < 64 then q ++ [x] else q.drop 1 ++ [x]
  let s1 := s.setIv i (if start then { y with qs := q1 } else { y with qq := q1 })
  if q.length < 64 then s1 else s1.inc (IV_UNPAIRED_COUNT i)

/-- A start under INDEX: it pairs with the oldest waiting stop or waits. -/
def State.ivStart (s : State) (i : Nat) (x : IvStamp) : State :=
  let y := s.iv i
  match y.qq with
  | b :: t => (s.setIv i { y with qq := t }).ivPair i x b
  | [] => s.ivPush i true x

/-- A stop under INDEX. -/
def State.ivStop (s : State) (i : Nat) (x : IvStamp) : State :=
  let y := s.iv i
  match y.qs with
  | a :: t => (s.setIv i { y with qs := t }).ivPair i a x
  | [] => s.ivPush i false x

/-- A stamp under INDEX (09, R266). -/
def State.ivIndex (s : State) (i : Nat) (x : IvStamp) : State :=
  if x.stop ∧ x.start ∧ (s.iv i).qs = [] then s.ivStart i x
  else
    let s1 := if x.stop then s.ivStop i x else s
    if x.start then s1.ivStart i x else s1

/-- A stamp under ARMSTART (09, R266). -/
def State.ivArmStart (s : State) (i : Nat) (x : IvStamp) : State :=
  let y := s.iv i
  match y.armed with
  | some a =>
    if x.stop then (s.setIv i { y with armed := none }).ivPair i a x
    else if x.start then (s.setIv i { y with armed := some x }).inc (IV_REARM_COUNT i)
    else s
  | none =>
    if x.start then s.setIv i { y with armed := some x }
    else if x.stop then s.inc (IV_ORPHAN_COUNT i)
    else s

/-- The unit takes its next stamp; SINGLE ignores every stamp after its interval (09, R269). -/
def State.ivTake (s : State) (i : Nat) (x : IvStamp) : State :=
  let y := s.iv i
  if y.mode = 0 ∧ y.formed then s else if y.armStart then s.ivArmStart i x else s.ivIndex i x

/-! ### The order of stamps (09, R265) -/

/-- Order of t, a start before a stop of the same t. -/
def IvStamp.before (a b : IvStamp) : Bool := decide (a.t < b.t) || (decide (a.t = b.t) && a.start && !b.start)

/-- Put a stamp in its place. -/
def ivInsert (x : IvStamp) : List IvStamp → List IvStamp
  | [] => [x]
  | y :: t => if x.before y then x :: y :: t else y :: ivInsert x t

/-- A stamp of channel n that a take admits reaches a unit that runs in it (09, R263, R265). -/
def State.ivFeed1 (s : State) (t n : Nat) (x : Stamp) (taint lostb : Bool) (i : Nat) : State :=
  let y := s.iv i
  if s.bit (IV_STAT_RUN i) ∧ y.take = t then
    let st := y.startCh == n && polMatch (y.cfg / 2 ^ 26 % 4) x.pol
    let sp := y.stopCh == n && polMatch (y.cfg / 2 ^ 24 % 4) x.pol
    if st || sp then s.setIv i { y with held := ivInsert { t := x.t, start := st, stop := sp, taint := taint, lostb := lostb } y.held } else s
  else s

/-- The time before which no stamp or slate of a channel can still leave its bank's taint stage: that of its oldest there,
or 36 cycles before now, since a stamp's time and its reference edge lie less than that apart. -/
def State.safeBefore (s : State) (n : Nat) : Int :=
  let b := n / 64
  (s.bank b).stage.foldl (fun a it => match it.body with
    | .stamp c x => if c = n then min a x.t else a
    | .slate c _ => if c = n then min a (4096 * (it.time : Int)) else a
    | .comp _ => a) (4096 * ((s.tbOf b : Int) - 36))

/-- The time before which no stamp of a channel can still reach the consumers of take t (08, R251). -/
def State.feedBefore (s : State) (t n : Nat) : Int :=
  (s.take t).merge.foldl (fun a m => match m.body with
    | .stamp c x => if c = n then min a x.t else a
    | _ => a) (s.safeBefore n)

/-- A unit takes, in order, the held stamps before a time. -/
def State.ivRun (s : State) (i : Nat) (lim : Option Int) : State :=
  let y := s.iv i
  let go := y.held.filter (fun x => lim.all (fun l => decide (x.t < l)))
  let s1 := s.setIv i { y with held := y.held.filter (fun x => !(lim.all (fun l => decide (x.t < l)))) }
  go.foldl (fun t x => t.ivTake i x) s1

/-- Every unit that runs in take t, up to what is safe for its two channels. -/
def State.ivAdvance (s : State) (t : Nat) : State :=
  (List.range 64).foldl (fun u i =>
    let y := u.iv i
    if u.bit (IV_STAT_RUN i) ∧ y.take = t ∧ y.held ≠ [] then u.ivRun i (some (min (u.feedBefore t y.startCh) (u.feedBefore t y.stopCh))) else u) s

/-- A stamp reaches the units of its take. -/
def State.ivFeed (s : State) (t n : Nat) (x : Stamp) (taint lostb : Bool) : State :=
  ((List.range 64).foldl (fun u i => u.ivFeed1 t n x taint lostb i) s).ivAdvance t

/-! ### The end of a take (09, R267, R271, R274) -/

/-- MEAN and SIGMA (09, R271). -/
def State.ivSolve (s : State) (i : Nat) : State :=
  let y := s.iv i
  let n := s.get (IV_COUNT_COUNT i)
  if n = 0 then s.put (IV_STAT_CODE i) Code.NO_PAIRS
  else if s.bit (IV_STAT_WIDE i) then s.put (IV_STAT_CODE i) Code.SUM_OVF
  else
    let mean := roundDivI ((y.x0 * n + y.sum) * 65536) n
    let var := n * y.sq - y.sum.natAbs * y.sum.natAbs
    let sg := if n = 1 then 0 else roundSqrt (var * 2 ^ 32) (n * (n - 1))
    (((s.put (IV_STAT_CODE i) Code.OK).putWords (IV_MEAN0 i) (wrapNat 77 mean) 3)).put64 (IV_SIGLO i) (inFormat 48 sg)

/-- A unit at its take's DONE; stamps at or after t_stop are none of the take's. -/
def State.ivDone1 (s : State) (tstop : Option Int) (i : Nat) : State :=
  let s0 := s.put (IV_STAT_DONE i) 1
  if s.bit (IV_STAT_RUN i) then
    let s1 := (s0.ivRun i tstop).modIv i (fun y => { y with held := [] })
    let y := s1.iv i
    let left := y.qs.length + y.qq.length + b2n y.armed.isSome
    let s2 := (s1.incBy (IV_UNPAIRED_COUNT i) left).setIv i { y with qs := [], qq := [], armed := none }
    (s2.ivSolve i).put (IV_STAT_RUN i) 0
  else s0

/-- Every unit that latched take t. -/
def State.ivDone (s : State) (t : Nat) (tstop : Option Int) : State :=
  (List.range 64).foldl (fun u i => if (u.iv i).cfg / 2 ^ 31 = 1 ∧ (u.iv i).take = t ∧ u.bit (IV_STAT_DONE i) = false then u.ivDone1 tstop i else u) s

/-! ### Reading the FIFO (09, R273) -/

/-- FIFOLO_READ. -/
def fifoloRead (s : State) (i : Nat) : State :=
  match (s.iv i).fifo with
  | [] => (s.put (IV_FIFOHI_W i) 0).emit (.read (IV_FIFOLO i) [0])
  | w :: _ => (s.put (IV_FIFOHI_W i) (w / 2 ^ 32)).emit (.read (IV_FIFOLO i) [w % 2 ^ 32])

def execFifoloRead (src : Source) (i : Fin 64) (s : State) : Host.Outcome State Fault Refusal := .next (s.rowRead src (IV_FIFOLO i) (fun u => fifoloRead u i))

/-- FIFOHI_READ. -/
def fifohiRead (s : State) (i : Nat) : State :=
  let y := s.iv i
  match y.fifo with
  | [] => s.emit (.read (IV_FIFOHI i) [0])
  | _ :: t => ((s.setIv i { y with fifo := t }).put (IV_FIFOSTAT_FILL i) t.length).emit (.read (IV_FIFOHI i) [s.get (IV_FIFOHI_W i)])

def execFifohiRead (src : Source) (i : Fin 64) (s : State) : Host.Outcome State Fault Refusal := .next (s.rowRead src (IV_FIFOHI i) (fun u => fifohiRead u i))

/-- A write of IVi_CFG or IVi_CH (09, R264). -/
def State.ivCfgWrite (s : State) (i a : Nat) (w : Word) : State :=
  if s.takeBusy (s.get (IV_CFG_TAKE i)) then s.put (IV_STAT_CFGREF i) 1 else s.writeReg a w fullMask

/-! ### Regression accumulators (09, R275 to R277) -/

/-- PREF of a channel. -/
def State.prefOf (s : State) (n : Nat) : Nat := s.get (RG_PREFLO_P n) + s.get (RG_PREFHI_P n) * 2 ^ 32

/-- A joined channel at the arm of its take (09, R275). -/
def State.rgArm (s : State) (n : Nat) : State :=
  let ref := s.get (RG_STAT_CFGREF n)
  let p := s.prefOf n
  let s1 := ((s.setWord (RG_STAT n) 0).put (RG_STAT_CFGREF n) ref).clearRegs (RG_N n) 12
  let s2 := s1.put64 (RG_PUSEDLO n) p
  s2.modRg n (fun x => { Rg.init with on := s.bit (RG_CFG_EN n), host := s.bit GLB_MODE_REGRHOST
                                      decim := s.get (RG_CFG_DECIM n) + 1, pref := p, used := p, snap := x.snap })

/-- A stamp of the window enters a channel's sums (09, R276, R277, R281). -/
def State.rgAdd (s : State) (n : Nat) (t : Int) (taint lostb : Bool) : State :=
  let x := s.rg n
  if x.on = false then s
  else
    let s1 := (if lostb then s.put (RG_STAT_LOST n) 1 else s).setRg n { x with k := x.k + 1 }
    if x.k % x.decim ≠ 0 ∨ s.bit (RG_STAT_OVF n) ∨ s.bit (RG_STAT_NFULL n) then s1
    else
      let j := x.k / x.decim
      let t0 := if j = 0 then t else x.t0
      let tau := t - t0
      let used := if j = 1 ∧ x.pref = 0 then tau else x.used
      let e := tau - j * used
      let s2 := if j = 0 then s1.put64 (RG_T0LO n) (wrapNat 60 t) else s1
      let s3 := if j = 1 ∧ x.pref = 0 then s2.put64 (RG_PUSEDLO n) (wrapNat 48 tau) else s2
      if 2 ^ 47 ≤ e.natAbs then (s3.put (RG_STAT_OVF n) 1).modRg n (fun y => { y with t0 := t0, used := used })
      else
        let c := x.n + 1
        let s4 := s3.modRg n (fun y => { y with t0 := t0, used := used, n := c, sj := x.sj + j, sjj := x.sjj + j * j,
                                                se := x.se + e, sje := x.sje + j * e, see := x.see + e * e })
        let s5 := (s4.put (RG_N_COUNT n) c).put (RG_STAT_NFULL n) (b2n (decide (2 ^ 32 - 1 ≤ c)))
        if taint then (s5.put (RG_NTAINT_COUNT n) (s5.get (RG_NTAINT_COUNT n) + 1)).put (RG_STAT_TAINT n) 1 else s5

/-- A write of RGn_CFG, PREFLO or PREFHI (09, R275). -/
def State.rgCfgWrite (s : State) (n a : Nat) (w : Word) : State :=
  if s.chanInTake n then s.put (RG_STAT_CFGREF n) 1 else s.writeReg a w fullMask

/-- The six sums (09, R285). -/
def Rg.sums (x : Rg) : List Int := [(x.n : Int), (x.sj : Int), (x.sjj : Int), x.se, x.sje, x.see]

/-- A channel at its take's DONE (09, R279, R280, R285): its sums stand; its solve is queued, or in host mode it is done. -/
def State.rgDone (s : State) (t n : Nat) : State :=
  let x := s.rg n
  let k := s.take t
  if x.on = false then s
  else
    let s1 := s.setRg n { x with on := false, snap := x.sums, fnum := k.fnum, fden := k.fden }
    let var := match k.varAt with
      | some v => decide (x.n ≠ 0 ∧ x.t0 / 4096 ≤ v)
      | none => false
    let s2 := s1.put (RG_STAT_TBVAR n) (b2n var)
    if x.host then (s2.put (RG_STAT_DONE n) 1).irq 220 else { s2 with regQ := s2.regQ ++ [n] }

/-! ### The solve (09, R278 to R280) -/

/-- The solve of a channel. -/
def State.rgSolve (s : State) (n : Nat) : State :=
  let x := s.rg n
  let ovf := s.bit (RG_STAT_OVF n)
  if x.n < 3 then s.put (RG_STAT_CODE n) (if ovf then Code.SUM_OVF else Code.TOO_FEW)
  else
    let d : Int := (x.n * x.sjj : Nat) - (x.sj * x.sj : Nat)
    let bn : Int := x.n * x.sje - x.sj * x.se
    let an : Int := x.se * d - bn * x.sj
    let ssr : Int := x.see * (x.n * d) - an * x.se - bn * x.n * x.sje
    let sg := roundSqrt (ssr.toNat * 2 ^ 32) ((x.n * d).toNat * (x.n - 2))
    let pn : Int := x.used * d + bn
    let pd : Int := d * x.decim
    let s1 := s.put64 (RG_SIGLO n) (inFormat 48 sg)
    if pn ≤ 0 then s1.put (RG_STAT_CODE n) (if ovf then Code.SUM_OVF else Code.VALUE_RANGE)
    else
      let f := roundDiv (4096 * x.fnum * pd.toNat * 2 ^ 32) (x.fden * pn.toNat)
      let big := decide (2 ^ 64 ≤ f)
      let s2 := s1.put64 (RG_PERLO n) (inFormat 64 (roundDiv (pn.toNat * 65536) pd.toNat))
      let s3 := s2.put64 (RG_FREQLO n) (if big then 2 ^ 64 - 1 else f)
      s3.put (RG_STAT_CODE n) (if ovf then Code.SUM_OVF else if big then Code.VALUE_RANGE else Code.OK)

/-- REGRESSION_SOLVE: the head of the queue is solved. -/
def regressionSolve (s : State) (n : Nat) (rest : List Nat) : State :=
  let s1 := ({ s with regQ := rest }).rgSolve n
  ((s1.put (RG_STAT_DONE n) 1).put (RG_STAT_SOLVED n) 1).irq 220

def execRegressionSolve (s : State) : Host.Outcome State Fault Refusal :=
  match s.regQ with
  | [] => .next s
  | n :: rest => .next (regressionSolve s n rest)

/-- A write of REG_SEL (09, R285). -/
def State.regSelWrite (s : State) (w : Word) : State :=
  let s1 := s.writeReg REG_SEL w fullMask
  let sums := (s.rg (fld w 0 9)).snap
  (List.range 6).foldl (fun t k => t.putWords (REG_ACC k 0) (wrapNat 128 (sums.getD k 0)) 4) s1

def execRegSelWrite (src : Source) (w : Word) (s : State) : Host.Outcome State Fault Refusal := .next (s.rowWrite src REG_SEL w (fun u => u.regSelWrite w))

end Sys2Proof.Machine
end

