-- ==== Sys2Proof/Machine/Takes.lean ====
section
/-! DEFINITION. Takes (08_event_capture_and_stamping.md, R241 to R249, R262; 09, R282; 10, R307). -/

set_option Elab.async false

namespace Sys2Proof.Machine

/-! ### A take's settings as latched (08, R242, R262) -/

def Take.start (k : Take) : Nat := k.cfg % 4
def Take.stop (k : Take) : Nat := k.cfg / 4 % 4
def Take.sch (k : Take) : Nat := k.cfg / 2 ^ 6 % 512
def Take.stopch (k : Take) : Nat := k.cfg / 2 ^ 15 % 512
def Take.group (k : Take) : Nat := k.cfg / 2 ^ 24 % 64
def Take.grpen (k : Take) : Bool := k.cfg / 2 ^ 30 % 2 == 1
def Take.reslate (k : Take) : Bool := k.cfg / 2 ^ 31 % 2 == 1

/-- The channels that have joined a take. -/
def State.joined (s : State) (t : Nat) : List Nat :=
  (List.range 512).filter (fun n => s.bit (CH_TAKE_JOIN n) && s.get (CH_TAKE_TAKE n) == t)

/-- The timebase of a take: that of its channels' root. -/
def State.takeTb (s : State) (t : Nat) : Nat := s.tbOf ((s.take t).chans.headD 0 / 64)

/-- A 60-bit time as its registers show it; none: all ones. -/
def State.putT60 (s : State) (lo hi : Ref) (t : Option Int) : State :=
  s.putPair lo hi (match t with
    | some x => wrapNat 60 x
    | none => 2 ^ 60 - 1)

/-! ### The arm (08, R242) -/

/-- The first failing check of R242, which asks of a group that it is not split too (04, R113, R127); OK: none fails. A request of a link or of a flow is checked as one from a mailbox. -/
def State.armCheck (s : State) (t : Nat) (req : ArmReq) : Nat :=
  let chans := s.joined t
  let g := s.get (TK_CFG_GROUP t)
  let owned := s.bit (GRP_STAT_OWNED g)
  if s.takeBusy t then Code.TAKE_BUSY
  else if chans.isEmpty then Code.NO_CHANNELS
  else if (s.get (TK_CFG_START t) = 3 ∧ chans.contains (s.get (TK_CFG_SCH t)) = false) ∨
      (s.get (TK_CFG_STOP t) = 2 ∧ chans.contains (s.get (TK_CFG_STOPCH t)) = false) then Code.BAD_CHANNEL
  else if chans.any (fun n => s.rootOf (n / 64) != s.rootOf (chans.headD 0 / 64)) ∨ req.root.any (fun r => r != s.rootOf (chans.headD 0 / 64)) then
    Code.ROOT_MISMATCH
  else if (s.bit (TK_CFG_GRPEN t) ∨ req.group.isSome) ∧ s.split (req.group.getD g) then Code.ROOT_MISMATCH
  else match req.src with
    | .port p _ _ =>
      if s.bit (TK_CFG_GRPEN t) ∧ req.group = some g ∧ owned ∧ s.get (GRP_STAT_OWNER g) = p then Code.OK else Code.NOT_OWNER
    | _ => if s.bit (TK_CFG_GRPEN t) ∧ owned then Code.PORT_OWNED else Code.OK

/-- The pre-roll of a joined channel starts, with its tables and its skew latched (08, R235; 10, R307). -/
def State.armChan (s : State) (n : Nat) : State :=
  let b := n / 64
  let tab := (List.range 64).foldl (fun (l : Tab Nat) i =>
    tabSet 0 l i (s.word (if i < 32 then CH_SINL0 n i else CH_SINL1 n (i - 32))).toNat) []
  let s1 := (s.put (CH_EVSTAT_CLOSED n) 0).put (CH_EVSKACT_SKEW n) (s.get (CH_EVSKEW_SKEW n))
  let s2 := s1.modCap n (fun x => { x with
    tAcc := none, lostAt := none, nextSt := 0, since := 0, lastSlate := 0, qEnd := 0, preEnd := 0, n := 0, first := none,
    lastT := 0, lost := false, taint := false, ovf := false, blocked := false, sinl := tab,
    cal := some { kind := 0, stamper := 0, again := false, begin := s.tbOf b + 1, wait := decide (s.get (BNK_STAT_DLLSTATE b) = 0) } })
  s2.rgArm n

/-- An accepted arm (08, R242, R248; 09, R264, R275; 10, R307). -/
def State.armTake (s : State) (t : Nat) (req : ArmReq) : State :=
  let chans := s.joined t
  let cfg := (s.word (TK_CFG t)).toNat
  let k := s.take t
  let s1 := s.setTake t { Take.init with
    cfg := cfg, count := max 1 (s.get (TK_COUNT_N t)), gate := max 1 (s.pair (TK_GATELO_CYC t) (TK_GATEHI_CYC t))
    timeout := s.get (TK_TIMEOUT_US t), raw := s.bit GLB_MODE_STAMPRAW, drainWin := s.bit GLB_MODE_DRAINWIN, chans := chans, req := req
    ep0 := s.get (GRP_EPOCH_EPOCH (s.get (TK_CFG_GROUP t))), waiters := k.waiters, seq0 := s.reelSeq }
  let s2 := (((s1.put (TK_STAT_LATESTART t) 0).put (TK_STAT_EPOCHCHG t) 0).put (TK_STAT_TAINT t) 0).put (TK_STAT_CODE t) 0
  let s3 := ((s2.put (TK_STAT_NCH t) chans.length).put (TK_EPOCH_EPOCH t) 0).put (TK_STAT_STATE t) 1
  let s4 := (s3.putT60 (TK_TSTARTLO_T t) (TK_TSTARTHI_T t) none).putT60 (TK_TSTOPLO_T t) (TK_TSTOPHI_T t) none
  chans.foldl (fun u n => u.armChan n) (s4.ivArm t chans)

/-- The arming command's own completion (08, R247; 14, R429). -/
def State.armAnswer (s : State) (t : Nat) (req : ArmReq) (code : Nat) : State :=
  let ok := decide (code = Code.OK)
  let cyc := if ok then s.takeTb t else 0
  let nch := if ok then (s.take t).chans.length else 0
  match req.src with
  | .none => s
  | .port p g tag => s.pushResult p (resultRecord 0x01 g false tag (s.get (GRP_EPOCH_EPOCH g)) code (completionBody cyc nch 0 0))
  | .gone p => s.dropRecords p 1
  | .flow f c => if req.wait ∧ ok then s else s.finishCmd f c code false false 0 (cyc % 2 ^ 48)
  | .link _ _ => s
  | .xtake dev tag idx => s.sendItem dev (.message (.armed s.me tag idx code))

/-- A refused arm is reported in CODE and to its sender; it changes nothing else (08, R242, R262). -/
def State.refuseArm (s : State) (t : Nat) (req : ArmReq) (code : Nat) : State :=
  (s.put (TK_STAT_CODE t) code).armAnswer t req code

/-- The checks of an arm, and then the arm or its refusal (08, R242). -/
def State.tryArm (s : State) (t : Nat) (req : ArmReq) : State :=
  let code := s.armCheck t req
  if code = Code.OK then (s.armTake t req).armAnswer t req code else s.refuseArm t req code

/-- Solves of a take's channels are queued (09, R282). -/
def State.solvesQueued (s : State) (t : Nat) : Bool := (s.joined t).any (fun n => s.regQ.contains n)

/-- A request to arm: it waits for queued solves of its channels (09, R282). While one waits, a second is refused as if
the take were busy. -/
def State.requestArm (s : State) (t : Nat) (req : ArmReq) : State :=
  let k := s.take t
  if k.waitArm.isSome then s.refuseArm t req Code.TAKE_BUSY
  else if s.takeBusy t = false ∧ s.solvesQueued t then s.setTake t { k with waitArm := some req }
  else s.tryArm t req

def execTakeArmResume (t : Fin 256) (s : State) : Host.Outcome State Fault Refusal :=
  match (s.take t).waitArm with
  | none => .next s
  | some req =>
    if s.solvesQueued t then .next s else .next ((s.modTake t (fun k => { k with waitArm := none })).tryArm t req)

/-! ### The close (08, R243, R247, R248) -/

/-- The epoch that a take carries: that of its group in force at t_stop - 1 (08, R248). -/
def Take.epochAt (k : Take) (t : Int) : Nat :=
  match k.epochs.find? (fun e => decide (e.1 < t)) with
  | some e => e.2
  | none => k.ep0

/-- Did the group's epoch change between t_start and t_stop (08, R247)? -/
def Take.epochChanged (k : Take) : Bool :=
  match k.tstart, k.tstop with
  | some a, some b => k.epochs.any (fun e => decide (a < e.1 ∧ e.1 < b))
  | _, _ => false

/-- A channel's take result (08, R247). -/
def State.takeResultBody (s : State) (n : Nat) (tstart : Option Int) : Nat :=
  let x := s.cap n
  let first := match x.first, tstart with
    | some f, some a => (f - a).toNat
    | _, _ => 2 ^ 40 - 1
  n * 2 ^ 63 + min x.n 0xFFFF * 2 ^ 47 + b2n x.lost * 2 ^ 46 + b2n x.ovf * 2 ^ 45 + b2n (decide (x.n = 0)) * 2 ^ 44
    + s.get (CH_EVSTAT_LEVEL n) * 2 ^ 43 + min first (2 ^ 40 - 1)

/-- The take completion's body (08, R247). -/
def State.takeCompletionBody (s : State) (t : Nat) (k : Take) : Nat :=
  let st := match k.tstart with
    | some a => wrapNat 48 (a / 4096)
    | none => 2 ^ 48 - 1
  st * 2 ^ 24 + t * 2 ^ 16 + s.get (TK_STAT_EPOCHCHG t) * 2 ^ 15 + s.get (TK_STAT_LATESTART t) * 2 ^ 14 + k.chans.length % 1024

/-- The records of a take at its close, in channel order, the completion last (08, R247, R248). -/
def State.takeRecords (s : State) (t : Nat) (k : Take) : List Nat :=
  let tag := match k.req.src with
    | .port _ _ tag => tag
    | _ => 0
  let ep := s.get (TK_EPOCH_EPOCH t)
  k.chans.map (fun n => resultRecord 0x02 k.group (s.cap n).taint tag ep k.code (s.takeResultBody n k.tstart)) ++
    [resultRecord 0x03 k.group (s.bit (TK_STAT_TAINT t)) tag ep k.code (s.takeCompletionBody t k)]

/-- Mailbox commands that wait for DONE: TAKE_ARM with WAIT completes with the closing code, t_start and NCH,
TAKE_ABORT with the closing code as its RESULT (14, R429). -/
def State.takeWaiters (s : State) (t : Nat) (k : Take) : State :=
  let taint := s.bit (TK_STAT_TAINT t)
  let s1 := match k.req.src with
    | .flow f c => if k.req.wait then s.finishCmd f c k.code taint false k.chans.length (match k.tstart with
        | some a => wrapNat 60 a
        | none => 2 ^ 60 - 1) else s
    | .xtake dev tag idx =>
      s.sendItem dev (.xtakedone s.me tag idx k.code taint k.voided k.recs)
    | _ => s
  (k.waiters.foldl (fun u w => u.finishCmd w.1 w.2 Code.OK false false 0 k.code) s1).modTake t (fun x => { x with waiters := [] })

/-- The words of a slate with its marks (08, R234). -/
def Slate.words (x : Slate) (taint lostb : Bool) : List (Nat × Bool) :=
  [(x.hdr + b2n taint * 2 ^ 63 + b2n lostb * 2 ^ 62, false), (x.pay, true)]

/-- A lost edge was pending at a slate: edges lost before t_start do not count (08, R229, R234). -/
def Slate.lostb (x : Slate) (tstart : Option Int) : Bool :=
  match x.lostAt, tstart with
  | some l, some a => decide (a ≤ l)
  | _, _ => false

/-- A slate of a running take that waits in a stage. -/
def StageItem.slateOf (t n : Nat) (i : StageItem) : Bool :=
  match i.body with
  | .slate m x => m == n && x.take == t && x.left == 0
  | _ => false

/-- A take closes over the slates that wait in a bank's stage: the last of each channel ends the channel's words of it. -/
def leaveStage (t : Nat) (tstart : Option Int) : List StageItem → List StageItem
  | [] => []
  | i :: rest =>
    (match i.body with
      | .slate n x =>
        if x.take = t ∧ x.left = 0 then
          let y := { x with lostAt := if x.lostb tstart then x.lostAt else none, left := if rest.any (StageItem.slateOf t n) then 1 else 2 }
          { i with body := .slate n y }
        else i
      | _ => i) :: leaveStage t tstart rest

/-- An open buffer holds that word of its channel already: it ends with it (08, R255). -/
def Buf.endsWith (b : Buf) (n seq : Nat) : Buf := if b.ch = n ∧ b.words ≠ 0 ∧ b.seq = seq then { b with ended := true } else b

/-- The last word written to a channel's reel, if of this arm of the take, ends a take that reached DONE, in the reel and in a buffer that it
has been sent to (08, R254, R255). -/
def State.markLast (s : State) (t n : Nat) : State :=
  let h := s.get (CH_RHEAD_IDX n) + 2047
  let w := (s.cap n).word h
  if w.take = t ∧ (s.take t).seq0 ≤ w.seq then
    let s1 := s.modCap n (fun x => x.putWord h { w with last := true })
    { s1 with rings := s1.rings.map (fun p => (p.1, { p.2 with bufs := p.2.bufs.map (fun b => b.endsWith n w.seq) })) }
  else s

/-- Slates of a take that closes and that have left their stages are written; stamps that waited with them lie outside its
window. -/
def State.flushMerge (s : State) (t : Nat) : State :=
  let k := s.take t
  (k.merge.foldl (fun u m => match m.body with
    | .slate n x => (u.writeRecord n t x.raw false (x.words m.taint (x.lostb k.tstart))).1
    | _ => u) s).modTake t (fun y => { y with merge := [] })

/-- Slates of a take that closes and that are in their stages follow it into the reel. -/
def State.leaveSlates (s : State) (t : Nat) : State :=
  let a := (s.take t).tstart
  (List.range 8).foldl (fun u b => u.modBank b (fun y => { y with stage := leaveStage t a y.stage })) s

/-- A channel at its take's DONE: its stampers stop; a slate that is still to come is its last word. -/
def State.chanDone (s : State) (t n : Nat) : State :=
  let s1 := (s.put (CH_EVSTAT_RUN n) 0).modCap n (fun x => { x with cal := none })
  let s2 := if (s.bank (n / 64)).stage.any (StageItem.slateOf t n) then s1 else s1.markLast t n
  s2.rgDone t n

/-- A held start command whose take closes before it starts completes CANCELLED (DESIGN CHOICE). -/
def State.dropHeld (s : State) (t : Nat) : State :=
  match (s.take t).held with
  | none => s
  | some (src, _) => (s.modTake t (fun k => { k with held := none, heldObs := none })).answer src Code.CANCELLED 0 0

/-- A take reaches DONE (08, R243, R247; 09, R274, R280; 14, R417). -/
def State.takeDone (s0 : State) (t : Nat) : State :=
  let s := (s0.dropHeld t).flushMerge t
  let k := s.take t
  let ep := if k.grpen then (match k.tstop with
    | some b => k.epochAt b
    | none => s.get (GRP_EPOCH_EPOCH k.group)) else 0
  let s1 := ((s.put (TK_STAT_CODE t) k.code).put (TK_STAT_EPOCHCHG t) (b2n (k.grpen && k.epochChanged))).put (TK_EPOCH_EPOCH t) ep
  let s2 := ((k.chans.foldl (fun u n => u.chanDone t n) s1).leaveSlates t).ivDone t k.tstop
  let s3 := s2.modTake t (fun x => { x with recs := s2.takeRecords t k })
  let s4 := s3.put (TK_STAT_STATE t) 5
  let s5 := match k.req.src with
    | .port p _ _ => if k.drop then s4.dropRecords p (s3.take t).recs.length else (s3.take t).recs.foldl (fun u r => u.pushResult p r) s4
    | _ => s4
  let s6 := s5.takeWaiters t (s3.take t)
  let r : Ref := ⟨MBX_TKPEND (t / 32), t % 32, 1⟩
  (s6.put r 1).rose (216 + t / 64) s6

/-- A take in PREROLL or ARMED closes with no stamps (08, R243). -/
def State.takeCloseEarly (s : State) (t code : Nat) : State :=
  (s.modTake t (fun k => { k with code := code, tstart := none, tstop := none, voided := false })).takeDone t

/-! ### The stop (08, R245; 09, R279) -/

/-- t_stop is fixed at a time, if no earlier one is (08, R245, R251). -/
def State.setStop (s : State) (t : Nat) (v : Int) : State :=
  let k := s.take t
  let w := match k.tstop with
    | some o => min o v
    | none => v
  (s.setTake t { k with tstop := some w }).putT60 (TK_TSTOPLO_T t) (TK_TSTOPHI_T t) (some w)

/-- The word in force and FTRIM of a root at a count, and the last change at or before it (09, R279). -/
def Root.at (r : Root) (c : Nat) : Nat × Int × Option Nat :=
  let later := r.hist.filter (fun v => decide (c < v.cyc))
  let last := (r.hist.find? (fun v => decide (v.cyc ≤ c))).map (fun v => v.cyc)
  match later.getLast? with
  | some v => (v.word, v.ftrim, last)
  | none => (r.seen.1, r.seen.2.1, last)

/-- f_T,nom in Hz as a numerator and a denominator, for a word and a trim (09, R279). -/
def State.fTnom (s : State) (n word : Nat) (ftrim : Int) : Nat × Nat :=
  (s.fpdNum n * 1000 * ((word : Int) + ftrim).toNat, s.fpdDen n * 2 ^ 40 * max 1 (odivOf (s.get (SYN_CTRL_ODIV n))))

/-- The timebase passes the cycle that holds t_stop - 1: CLOSING, with what the regression needs captured. -/
def State.takeStop (s : State) (t : Nat) : State :=
  let k := s.take t
  let b := k.chans.headD 0 / 64
  let c := (((k.tstop.getD 0) - 1) / 4096).toNat
  let s1 := s.tbTo b (c + 1)
  let n := s1.rootOf b
  let q := (s1.root n).at c
  let f := s1.fTnom n q.1 q.2.1
  let v := if s.takeState t = 3 then decide (k.void0 ≠ some (s1.root n).voids) else k.voided
  (s1.setTake t { k with fnum := f.1, fden := f.2, varAt := q.2.2, voided := v }).put (TK_STAT_STATE t) 4

def execTakeStopReached (t : Fin 256) (s : State) : Host.Outcome State Fault Refusal :=
  if s.takeState t = 3 ∧ (s.take t).tstop.isSome then .next (s.takeStop t) else .next s

/-- A running take's t_stop is fixed at the start of the present cycle, if no earlier stop is, with a code (08, R245, R249). -/
def State.takeForce (s : State) (t code : Nat) : State :=
  ((s.modTake t (fun k => { k with code := code })).setStop t (4096 * s.takeTb t)).takeStop t

/-- A timeout in CAPTURE: a stop that falls in this cycle or earlier wins, and the code is OK (08, R245). -/
def State.takeExpire (s : State) (t : Nat) : State :=
  if (s.take t).tstop.any (fun v => decide (v ≤ 4096 * ((s.takeTb t : Int) + 1))) then s.takeStop t else s.takeForce t Code.TIMEOUT

/-- An abort by its state (08, R243, R245). -/
def State.takeAbort (s : State) (t : Nat) : State :=
  let st := s.takeState t
  if st = 1 ∨ st = 2 then s.takeCloseEarly t Code.CANCELLED
  else if st = 3 then s.takeForce t (if (s.take t).stop = 3 then Code.OK else Code.CANCELLED)
  else s

/-- TAKE_TIMEOUT (08, R243, R245). -/
def execTakeTimeout (t : Fin 256) (s : State) : Host.Outcome State Fault Refusal :=
  let st := s.takeState t
  if (s.take t).timeout = 0 then .next s
  else if st = 1 ∨ st = 2 then .next (s.takeCloseEarly t Code.TIMEOUT)
  else if st = 3 then .next (s.takeExpire t)
  else .next s

/-- The times of a channel's stamps that wait in its bank's taint stage, or beyond it in a take for their order. -/
def State.waitingStamps (s : State) (t n : Nat) : List Int :=
  (s.bank (n / 64)).stage.filterMap (fun i => match i.body with
    | .stamp m x => if m = n then some x.t else none
    | _ => none) ++
  (s.take t).merge.filterMap (fun i => match i.body with
    | .stamp m x => if m = n then some x.t else none
    | _ => none)

/-- Stamps of a take before its t_stop that are not yet written. -/
def State.stampsLeft (s : State) (t : Nat) : Bool :=
  let k := s.take t
  k.chans.any (fun n => (s.waitingStamps t n).any (fun x => k.tstop.all (fun v => decide (x < v))))

/-- TAKE_DONE (08, R243, R246). -/
def execTakeDone (t : Fin 256) (s : State) : Host.Outcome State Fault Refusal :=
  if s.takeState t = 4 ∧ s.stampsLeft t = false then .next (s.takeDone t) else .next s

/-! ### The start (08, R244) -/

/-- t_start is determined (08, R243 to R245). An edge on STOPCH that was accepted before and lies in the take stops it. -/
def State.setStart (s : State) (t : Nat) (v : Int) (late : Bool) : State :=
  let n := s.rootOf ((s.take t).chans.headD 0 / 64)
  let al := if s.bit (PRL_ALIGN_ALIGNED n) then some (s.root n).voids else none
  let s1 := (s.modTake t (fun k => { k with tstart := some v, void0 := al })).putT60 (TK_TSTARTLO_T t) (TK_TSTARTHI_T t) (some v)
  let s2 := (s1.put (TK_STAT_STATE t) 3).put (TK_STAT_LATESTART t) (b2n late)
  let k := s2.take t
  if k.stop = 1 then s2.setStop t (v + 4096 * k.gate)
  else if k.stop = 2 then
    match (s2.waitingStamps t k.stopch).foldl (fun (a : Option Int) u =>
        if v < u ∨ (v = u ∧ ¬(k.start = 3 ∧ k.sch = k.stopch)) then some (a.elim u (min u)) else a) none with
    | some u => s2.setStop t (u + 1)
    | none => s2
  else s2

/-- rnd(S(K)) of a channel where it is known: the coming cycle or one of the last four; a cycle further back has started
long ago, for which `some none` stands. -/
def State.startOf (s : State) (n k : Nat) : Option (Option Nat) :=
  let c := (s.chan n).cyc
  if c.on = false ∨ c.k < k then none
  else if c.k = k then some (some (rndTick c.s))
  else some ((c.win.find? (fun w => w.k == k)).map (fun w => rndTick w.start))

/-- A start command that the take logic has observed starts the take once S(K) is known (08, R244). -/
def State.resolveStart (s : State) (t : Nat) : State :=
  let k := s.take t
  match k.held, k.heldObs, s.lowest k.group with
  | some (src, kk), some obs, some m =>
    if s.takeState t ≠ 2 then s
    else match s.startOf m kk with
      | none => s
      | some v =>
        let late := v.all (fun x => decide (x < 4096 * obs))
        let ts : Nat := if late then 4096 * obs else v.getD 0
        let s1 := (s.modTake t (fun x => { x with held := none, heldObs := none })).setStart t ts late
        s1.answer src Code.OK (ts / 4096) 0
  | _, _, _ => s

/-- A select-port start command (08, R244): its checks in order; it is held until the take is ARMED and S(K) is known. -/
def State.startCmd (s : State) (t p g tag kk : Nat) : State :=
  let k := s.take t
  let st := s.takeState t
  let src := Src.port p g tag
  let cfg := (s.word (TK_CFG t)).toNat
  let grpOk := cfg / 2 ^ 30 % 2 == 1 && cfg / 2 ^ 24 % 64 == g && s.bit (GRP_STAT_OWNED g) && s.get (GRP_STAT_OWNER g) == p
  if grpOk = false then s.answer src Code.NOT_OWNER 0 0
  else if (s.members g).isEmpty then s.answer src Code.NO_MEMBERS 0 0
  else if ¬(st = 1 ∨ st = 2) ∨ k.start ≠ 1 ∨ k.held.isSome then s.answer src Code.NOT_ARMED 0 0
  else
    let s1 := s.setTake t { k with held := some (src, kk), heldObs := if st = 2 then some (s.takeTb t) else none }
    s1.resolveStart t

/-- The pre-roll of every channel has finished (08, R243, R244). -/
def State.takeArmed (s : State) (t : Nat) : State :=
  let k := s.take t
  let s1 := (k.chans.foldl (fun u n => u.put (CH_EVSTAT_RUN n) 1) s).put (TK_STAT_STATE t) 2
  let last := k.chans.foldl (fun a n => max a (s.cap n).preEnd) 0
  if k.start = 0 then s1.setStart t ((4096 * last : Nat) : Int) false
  else if k.start = 1 ∧ k.held.isSome then
    (s1.modTake t (fun x => { x with heldObs := some (s1.takeTb t) })).resolveStart t
  else s1

/-- Every held start, after a cycle has started. -/
def State.resolveStarts (s : State) : State :=
  (s.takes.filter (fun p => p.2.held.isSome)).foldl (fun u p => u.resolveStart p.1) s

/-- A group's epoch changes at a time: the takes of the group note it (08, R247, R248). -/
def State.noteEpoch (s : State) (g : Nat) (time : Int) : State :=
  let ep := s.get (GRP_EPOCH_EPOCH g)
  (s.takes.filter (fun p => p.2.grpen && p.2.group == g && s.takeBusy p.1)).foldl
    (fun u p => u.modTake p.1 (fun k => { k with epochs := (time, ep) :: k.epochs })) s

/-- CYCLE_START (05, R133; 06, R173, R181, R185): see `cycleStart`; a commit of this cycle comes into force first. A take
that waits for a cycle's start learns it. -/
def execCycleStart (n : Fin 512) (s : State) : Host.Outcome State Fault Refusal :=
  if s.canEnter n then
    let c := (s.chan n).cyc
    let s1 := s.commitAt n c.k (fun t g k src => (t.stageComp (t.compOf g src Code.OK k 0 0)).noteEpoch g (rndTick c.s))
    .next (cycleStart s1 n).resolveStarts
  else .next s

/-- GROUP_DECISION (06, R175; 08, R248): an epoch that it advances at once is noted by the group's takes. -/
def execGroupDecision (g : Fin 64) (s : State) : Host.Outcome State Fault Refusal :=
  match (s.group g).ops with
  | [] => .next s
  | op :: _ =>
    if op.waiting.isEmpty then
      let s1 := groupDecision s g op
      .next (if s1.get (GRP_EPOCH_EPOCH g) = s.get (GRP_EPOCH_EPOCH g) then s1 else s1.noteEpoch g (4096 * s1.tbOf (s1.leadBank g)))
    else .next s

/-- GROUP_START_TIME (06, R176), on a T-clock that runs (02, R42): a take may wait for the group's cycle 0. -/
def execGroupStartTime (g : Fin 64) (s : State) : Host.Outcome State Fault Refusal :=
  match (s.group g).start with
  | none => .next s
  | some t => .next (if s.clocked (s.leadBank g) then (groupStart s g t).resolveStarts else s)

/-! ### Register writes (08, R262) -/

/-- A write of TKt_CTRL: an ABORT, and then an ARM (08, R262). -/
def State.tkCtrlWrite (s : State) (t : Nat) (w : Word) : State :=
  let s1 := if wbit w 1 then s.takeAbort t else s
  if wbit w 0 then s1.requestArm t ArmReq.init else s1

def execTktCtrlArm (src : Source) (t : Fin 256) (w : Word) (s : State) : Host.Outcome State Fault Refusal :=
  .next (s.rowWrite src (TK_CTRL t) w (fun u => u.tkCtrlWrite t w))

def execTktCtrlAbort (src : Source) (t : Fin 256) (w : Word) (s : State) : Host.Outcome State Fault Refusal :=
  .next (s.rowWrite src (TK_CTRL t) w (fun u => u.tkCtrlWrite t w))

/-- A write of TKt_CFG, COUNT, GATELO, GATEHI or TIMEOUT (08, R262). -/
def State.tkCfgWrite (s : State) (t a : Nat) (w : Word) : State :=
  if s.takeBusy t then s.put (TK_STAT_CFGREF t) 1 else s.writeReg a w fullMask

/-! ### Detach (08, R249) -/

/-- A take of a port that detaches: its records, and those of a start command that is held, are discarded. -/
def State.closePortTake (s : State) (p t : Nat) : State :=
  let s1 := (s.modTake t (fun k => { k with drop := true, held := none, heldObs := none })).dropRecords p (b2n (s.take t).held.isSome)
  let st := s1.takeState t
  if st = 1 ∨ st = 2 then s1.takeCloseEarly t Code.CANCELLED
  else if st = 3 then s1.takeForce t Code.CANCELLED
  else s1

/-- An arm of a port that waits for queued solves is withdrawn at its detach. -/
def State.dropWaitArm (s : State) (p t : Nat) : State := (s.modTake t (fun k => { k with waitArm := none })).dropRecords p 1

/-- Did a port ask for this? -/
def Src.ofPort (x : Src) (p : Nat) : Bool :=
  match x with
  | .port r _ _ => r == p
  | _ => false

/-- Every take that a port armed closes with no records. -/
def State.closePortTakes (s : State) (p : Nat) : State :=
  let w := (s.takes.filter (fun q => q.2.waitArm.any (fun r => r.src.ofPort p))).foldl (fun u q => u.dropWaitArm p q.1) s
  (w.takes.filter (fun q => q.2.req.src.ofPort p && w.takeBusy q.1)).foldl (fun u q => u.closePortTake p q.1) w

end Sys2Proof.Machine
end

