-- ==== Sys2Proof/Machine/Tsp.lean ====
section
/-! DEFINITION. Timing select ports (07_timing_select_ports.md, R193 to R225). -/

set_option Elab.async false

namespace Sys2Proof.Machine

/-! ### Link states (07, R194, R195, R213) -/

def State.lstate (s : State) (p : Nat) : Nat := s.get (TSP_STAT_LSTATE p)

/-- Attached (07, R218). -/
def State.hello (s : State) (p : Nat) : Bool := s.bit (TSP_STAT_HELLO p)

/-- A STATUS frame is due (07, R208). -/
def State.statusDue (s : State) (p : Nat) : Bool := s.hello p && decide (63 ≤ (s.tsp p).sinceStatus)

/-- A port enters DISABLED or DETECT: what is queued is discarded and counted, the numbering starts afresh (07, R199,
R213). -/
def State.tspDown (s : State) (p st : Nat) : State :=
  let x := s.tsp p
  let s1 := s.dropRecords p (x.results.length + x.replies.length + b2n (s.statusDue p))
  let s2 := s1.setTsp p { x with results := [], replies := [], rxLast := none, txNext := 0, txAny := false, sinceSkp := 0 }
  (s2.put (TSP_STAT_LSTATE p) st).put (TSP_STAT_LANELOCK p) 0

/-- Queue a CTRL reply; one whose port is in neither UP nor RECOVER is discarded (07, R213, R214). -/
def State.tspReply (s : State) (p v : Nat) : State :=
  if s.lstate p < 4 then s.dropRecords p 1 else s.modTsp p (fun x => { x with replies := x.replies ++ [v] })

/-! ### Detach (07, R218, R219) -/

/-- Commands of a port whose attachment has ended report to nobody. -/
def Src.end_ (x : Src) (p : Nat) : Src := if x.ofPort p then .gone p else x

/-- Every command on its way from a port is one of an ended attachment. -/
def State.endCommands (s : State) (p : Nat) : State :=
  let s1 := (List.range 64).foldl (fun (u : State) g => u.modGroup g (fun x => { x with
    ops := x.ops.map (fun o => { o with src := o.src.end_ p })
    commit := x.commit.map (fun c => (c.1, c.2.1, c.2.2.end_ p)) })) s
  let s2 := (List.range 8).foldl (fun (u : State) b => u.modBank b (fun x => { x with stage := x.stage.map (fun i =>
    match i.body with
    | .comp c => { i with body := .comp { c with src := c.src.end_ p } }
    | _ => i) })) s1
  (List.range 4).foldl (fun (u : State) n => u.modRoot n (fun r => { r with
    hop := r.hop.map (fun h => ({ h.1 with src := h.1.src.end_ p }, h.2))
    pend := r.pend.map (fun h => { h with src := h.src.end_ p })
    eff := r.eff.map (fun e => match e with
      | .hop q result code counts => .hop { q with src := q.src.end_ p } result code counts
      | _ => e) })) { s2 with takes := s2.takes.map (fun q => (q.1, { q.2 with held := q.2.held.map (fun h => (h.1.end_ p, h.2)) })), board := { s2.board with
      reqs := s2.board.reqs.map (fun q => { q with src := q.src.end_ p }) } }

/-- The groups that a port owns. -/
def State.owned (s : State) (p : Nat) : List Nat :=
  (List.range 64).filter (fun g => s.bit (GRP_STAT_OWNED g) && s.get (GRP_STAT_OWNER g) == p)

/-- A group's owner changes; TSPp_OWN and NGRP of the port follow (07, R216, R217, R224). -/
def State.setOwner (s : State) (p g : Nat) (v : Bool) : State :=
  let s1 := (s.put (GRP_STAT_OWNED g) (b2n v)).put (GRP_STAT_OWNER g) (if v then p else 0)
  let r : Ref := if g < 32 then ⟨TSP_OWNLO p, g, 1⟩ else ⟨TSP_OWNHI p, g - 32, 1⟩
  (s1.put r (b2n v)).put (TSP_STAT_NGRP p) (s1.owned p).length

/-- One owned group at a detach (07, R219). -/
def State.detachGroup (s : State) (p g : Nat) : State :=
  let s1 := if s.running g then s.stopAtCycle g (s.eligible g (s.tbOf (s.leadBank g))) true else s.flushSelect g
  s1.setOwner p g false

/-- DETACHED of R214: its number of groups. -/
def detachedMsg (k : Nat) : Nat := 0x84 * 2 ^ 120 + k % 256

/-- A detach (07, R218, R219; 08, R249). -/
def State.detachPort (s : State) (p : Nat) : State :=
  if s.hello p = false then s
  else
    let gs := s.owned p
    let s1 := (s.endCommands p).closePortTakes p
    let s2 := gs.foldl (fun u g => u.detachGroup p g) s1
    let q := (s2.tsp p).results
    let keep := q.filter (fun r => !gs.contains (r / 2 ^ 114 % 64))
    let s3 := (s2.modTsp p (fun x => { x with results := keep })).dropRecords p (q.length - keep.length)
    let s4 := (s3.put (TSP_STAT_HELLO p) 0).flagTsp p (TSP_FLAGS_DETACHED p)
    if s4.lstate p = 4 then s4.tspReply p (detachedMsg gs.length) else s4

/-! ### TSPp_CTRL (07, R194, R218, R224) -/

def State.tspCtrlWrite (s : State) (p : Nat) (w : Word) : State :=
  let en := s.bit (TSP_CTRL_EN p)
  let s0 := s.writeReg (TSP_CTRL p) w fullMask
  let s1 := if wbit w 1 then s0.detachPort p else s0
  if wbit w 0 = false then (if en then (s1.tspDown p 0).detachPort p else s1)
  else if en = false then s1.put (TSP_STAT_LSTATE p) 1
  else if wbit w 2 then (s1.tspDown p 1).detachPort p
  else s1

def execTspEnWrite (src : Source) (p : Fin 8) (w : Word) (s : State) : Host.Outcome State Fault Refusal :=
  .next (s.rowWrite src (TSP_CTRL p) w (fun u => u.tspCtrlWrite p w))

def execRetrain (src : Source) (p : Fin 8) (w : Word) (s : State) : Host.Outcome State Fault Refusal :=
  .next (s.rowWrite src (TSP_CTRL p) w (fun u => u.tspCtrlWrite p w))

def execTspDetachWrite (src : Source) (p : Fin 8) (w : Word) (s : State) : Host.Outcome State Fault Refusal :=
  .next (s.rowWrite src (TSP_CTRL p) w (fun u => u.tspCtrlWrite p w))

/-! ### Training (07, R194): a port in the state that the event belongs to -/

def State.tspDetected (s : State) (p : Nat) : State := if s.lstate p = 1 then s.put (TSP_STAT_LSTATE p) 2 else s

/-- Detection repeats: nothing changes. -/
def State.tspNotDetected (s : State) (p : Nat) : State := if s.lstate p = 1 then s.put (TSP_STAT_LSTATE p) 1 else s

def State.tspEqualised (s : State) (p : Nat) : State := if s.lstate p = 2 then (s.put (TSP_STAT_LSTATE p) 3).emit (.faSets p) else s

def State.tspEqFail (s : State) (p : Nat) : State :=
  if s.lstate p = 2 then (s.tspDown p 1).flagTsp p (TSP_FLAGS_EQFAIL p) else s

/-- From ALIGN the next block begins frame 0; from RECOVER everything is kept (07, R194, R199). -/
def State.tspAligned (s : State) (p : Nat) : State :=
  if s.lstate p = 3 ∨ s.lstate p = 5 then (s.put (TSP_STAT_LSTATE p) 4).put (TSP_STAT_LANELOCK p) 15 else s

def State.tspNotAligned (s : State) (p : Nat) : State := if s.lstate p = 3 then s.tspDown p 1 else s

/-- Block lock is lost on a lane. -/
def State.tspLockLost (s : State) (p lane : Nat) : State :=
  if s.lstate p = 4 then
    let r : Ref := ⟨TSP_STAT p, 8 + lane, 1⟩
    ((((s.put r 0).put (TSP_STAT_LSTATE p) 5).inc (TSP_RECOVCNT_COUNT p)).flagTsp p (TSP_FLAGS_RECOVER p)).emit (.faSets p)
  else s

def State.tspNotRecovered (s : State) (p : Nat) : State := if s.lstate p = 5 then (s.tspDown p 1).detachPort p else s

/-- An invalid block on a lane (07, R200). -/
def State.tspInvalidBlock (s : State) (p lane : Nat) : State := if s.lstate p = 4 then s.inc (TSP_LANEERR_COUNT p lane) else s

/-! ### Inbound frames (07, R197 to R202) -/

/-- Item i of a frame: 128 bits from byte 12 + 16 i. -/
def frameItem (f i : Nat) : Nat := f / 2 ^ (96 + 128 * i) % 2 ^ 128

/-- Do the last four bytes of a 256-byte frame hold the CRC of the others (07, R197)? -/
def frameOk (f : Nat) : Bool := crc32 (leBytes 252 f) == f / 2 ^ 2016 % 2 ^ 32

/-- FRAME_LOST: expected and received SEQ and the number of frames missing (07, R199, R212). -/
def frameLost (expected received missing : Nat) : Nat :=
  resultRecord 0x04 0 false 0 0 Code.FRAME_LOST (received * 2 ^ 32 + expected * 2 ^ 24 + missing)

/-- A sequence number against the last one (07, R199). -/
def State.tspSeq (s : State) (p seq : Nat) : State :=
  let want := match (s.tsp p).rxLast with
    | none => 0
    | some l => (l + 1) % 256
  let s1 := (s.modTsp p (fun x => { x with rxLast := some seq })).put (TSP_STAT_RXSEQ p) seq
  if seq = want then s1
  else
    let gap := (seq + 256 - want) % 256
    ((s1.incBy (TSP_SEQGAP_COUNT p) gap).flagTsp p (TSP_FLAGS_SEQGAP p)).pushResult p (frameLost want seq gap)

def State.badCmd (s : State) (p : Nat) : State := (s.inc (TSP_BADCMD_COUNT p)).flagTsp p (TSP_FLAGS_BADCMD p)

/-- The fields of a command (07, R209). -/
def cmdOp (v : Nat) : Nat := v / 2 ^ 120 % 2 ^ 8
def cmdGroup (v : Nat) : Nat := v / 2 ^ 114 % 2 ^ 6
def cmdTag (v : Nat) : Nat := v / 2 ^ 88 % 2 ^ 16
def cmdFlag (v : Nat) : Bool := v / 2 ^ 85 % 2 == 1
def cmdSlot (v : Nat) : Nat := v / 2 ^ 80 % 2 ^ 5
def cmdCtx (v : Nat) : Nat := v / 2 ^ 64 % 2 ^ 11
def cmdEpoch (v : Nat) : Nat := v / 2 ^ 48 % 2 ^ 16
def cmdCyc (v : Nat) : Nat := v % 2 ^ 48

/-- The opcodes of R210 and the messages of R214 that a port takes. -/
def knownOp (op : Nat) : Bool := [0, 1, 2, 3, 4, 5, 6, 0x10, 0x11, 0x20, 0x30].contains op
def knownMsg (m : Nat) : Bool := [1, 2, 3, 4].contains m

/-- The completion of a command by the port itself: no effect cycle (07, R210, R212). -/
def State.portAnswer (s : State) (p v code : Nat) : State := s.answer (.port p (cmdGroup v) (cmdTag v)) code 0 0

/-- Commands with no row of their own at the head of what was taken in: another opcode is refused, another control
message has no effect (07, R210, R214, R215). -/
def State.drainBad (s : State) (p : Nat) : Nat → State
  | 0 => s
  | k + 1 =>
    match (s.tsp p).inbox with
    | .cmd v :: rest =>
      if knownOp (cmdOp v) then s
      else
        let s1 := s.modTsp p (fun x => { x with inbox := rest })
        (if s.hello p then (s1.badCmd p).portAnswer p v Code.BAD_OPCODE else s1.portAnswer p v Code.PROTOCOL).drainBad p k
    | .ctrl v :: rest =>
      if knownMsg (cmdOp v) then s else (s.modTsp p (fun x => { x with inbox := rest })).drainBad p k
    | _ => s

/-- Forget the item at the head of what was taken in, and what no row stands for after it. -/
def State.popInbox (s : State) (p : Nat) : State := s.modTsp p (fun x => { x with inbox := x.inbox.drop 1 })
def State.settle (s : State) (p : Nat) : State := s.drainBad p (s.tsp p).inbox.length

/-- The groups that a CLAIM or RELEASE names, in byte order. -/
def namedGroups (v : Nat) : List Nat :=
  ((List.range 8).filter (fun i => v / 2 ^ (8 * i + 7) % 2 == 1)).map (fun i => v / 2 ^ (8 * i) % 64)

/-- A port owns a group. -/
def State.ownsGroup (s : State) (p g : Nat) : Bool := s.bit (GRP_STAT_OWNED g) && s.get (GRP_STAT_OWNER g) == p

/-- A claim of a group has been taken in and is still to be handled (07, R222). -/
def State.claimWaits (s : State) (p g : Nat) : Bool :=
  (s.tsp p).inbox.any (fun i => match i with
    | .ctrl v => cmdOp v == 2 && (namedGroups v).contains g
    | _ => false)

/-- A SELECT frame is discarded (07, R207, R215, R222). -/
def State.foreign (s : State) (p : Nat) : State := (s.inc (TSP_FOREIGN_COUNT p)).flagTsp p (TSP_FLAGS_FOREIGN p)

/-- INBOUND_FRAME: the frame's 256 bytes, byte 0 in bits 7 to 0; `invalid` says that it held an invalid block. Its items are
taken in, a SELECT frame with its stamp, unless it comes while the claim of its group is handled (07, R198 to R202, R222). DESIGN
CHOICE: the stamp of a frame for a group with no members, which has no root, is bank 0's count. -/
def inboundFrame (s : State) (p f : Nat) (invalid : Bool) : State :=
  if invalid ∨ frameOk f = false then (s.inc (TSP_CRCERR_COUNT p)).flagTsp p (TSP_FLAGS_CRC p)
  else
    let ty := f / 2 ^ 28 % 16
    if ty = 0 then s
    else
      let s1 := s.tspSeq p (f / 2 ^ 12 % 256)
      let k := min 15 (f % 128)
      if ty = 1 then
        let g := f / 2 ^ 20 % 64
        let t := s1.tbOf (s1.leadBank g)
        if s1.ownsGroup p g = false ∧ s1.claimWaits p g then s1.foreign p
        else s1.modTsp p (fun x => { x with inbox := x.inbox ++ [.select f t] })
      else if ty = 2 then (s1.modTsp p (fun x => { x with inbox := x.inbox ++ (List.range k).map (fun i => .cmd (frameItem f i)) })).settle p
      else if ty = 3 then (s1.modTsp p (fun x => { x with inbox := x.inbox ++ (List.range k).map (fun i => .ctrl (frameItem f i)) })).settle p
      else s1.badCmd p

def execInboundFrame (p : Fin 8) (frame : BitVec 2048) (invalid : Bool) (s : State) : Host.Outcome State Fault Refusal :=
  if s.lstate p = 4 then .next (inboundFrame s p frame.toNat invalid) else .next s

/-! ### SELECT frames (07, R201 to R203, R207) -/

/-- The entries of a SELECT frame: slot and run. -/
def selectEntries (f : Nat) : List (Nat × Nat) :=
  (List.range (min 120 (f % 128))).map (fun i =>
    let e := f / 2 ^ (96 + 16 * i) % 2 ^ 16
    (e / 2048, if e % 2048 = 0 then 2048 else e % 2048))

/-- The cycles of an entry, from `first` to before `stop`, that some member has read already are late (07, R204, R222). -/
def State.pastReads (s : State) (g first stop : Nat) : State :=
  let reads := (s.members g).map (fun n => s.nextRead n)
  let top := min stop (reads.foldl max 0)
  let lo := reads.foldl min top
  (s.incBy (GRP_LATECNT_COUNT g) (top - first)).modGroup g (fun x =>
    { x with lateSeen := (List.range (top - max first lo)).map (fun i => max first lo + i) ++ x.lateSeen })

/-- Append one entry that begins at cycle c (07, R202); the cycle after it. -/
def State.appendEntry (s : State) (g c slot run stamp : Nat) : State × Nat :=
  let next := (s.group g).next
  if c + run ≤ next then (s.incBy (GRP_OVLCNT_COUNT g) run, c + run)
  else
    let s1 := if c < next then s.incBy (GRP_OVLCNT_COUNT g) (next - c) else s
    let first := max c next
    if 4096 ≤ s1.selFill g then (s1.inc (GRP_SELOVF_COUNT g), c + run)
    else ((s1.pastReads g first (c + run)).modGroup g (fun x => { x with buf := x.buf ++ [⟨slot, first, c + run - 1, stamp⟩], next := c + run }),
      c + run)

/-- A SELECT frame's entries join the group's buffer (07, R202, R207, R215). -/
def selectFrame (s : State) (p f stamp : Nat) : State :=
  let g := f / 2 ^ 20 % 64
  let es := selectEntries f
  if s.hello p = false ∨ s.ownsGroup p g = false then s.foreign p
  else if s.split g then s.incBy (GRP_SELDISC_COUNT g) es.length
  else
    let c := f / 2 ^ 32 % 2 ^ 48
    let s1 := if (s.group g).next < c then s.inc (GRP_GAPCNT_COUNT g) else s
    (es.foldl (fun (q : State × Nat) e => q.1.appendEntry g q.2 e.1 e.2 stamp) (s1, c)).1

def execSelectFrame (p : Fin 8) (s : State) : Host.Outcome State Fault Refusal :=
  match (s.tsp p).inbox with
  | .select f t :: _ => .next ((selectFrame (s.popInbox p) p f t).settle p)
  | _ => .next s

/-! ### Attach and claim (07, R214 to R217) -/

/-- HELLOACK of R214. -/
def State.helloAck (s : State) (p code : Nat) : Nat :=
  0x81 * 2 ^ 120 + code * 2 ^ 44 + s.get PRL_BDID_ID * 2 ^ 40 + p * 2 ^ 36 + 2 ^ 32 + (s.word GLB_ID).toNat

/-- HELLO (07, R215): a second one detaches first. One that is handled after the port has left UP is not accepted and not
answered (DESIGN CHOICE: R215 accepts a HELLO in UP). -/
def helloMsg (s : State) (p v : Nat) : State :=
  if v / 2 ^ 32 % 16 ≠ 1 then s.tspReply p (s.helloAck p 1)
  else
    let s1 := (s.detachPort p).put (TSP_STAT_HELLO p) 1
    let s2 := (s1.put (TSP_FARID_ID p) v).modTsp p (fun x => { x with sinceStatus := 0 })
    s2.tspReply p (s2.helloAck p 0)

/-- LEAD as firmware writes it at a claim: ceil(2 us x f_T) of the word in force (07, R204). DESIGN CHOICE: the claim of a group with no
members, which has no root, leaves LEAD. -/
def State.claimLead (s : State) (g : Nat) : State :=
  if (s.members g).isEmpty then s
  else
    let n := s.rootOf (s.leadBank g)
    let f := s.fTnom n (s.wordInForce n) 0
    s.put (GRP_TSPCFG_LEAD g) ((2 * f.1 + 1000000 * f.2 - 1) / (1000000 * f.2))

/-- The answer to a claim of one group (07, R216). -/
def State.claimCode (s : State) (p g : Nat) : Nat :=
  let m := if g < 32 then s.get (TSP_GRPMASKLO_MASK p) / 2 ^ g % 2 else s.get (TSP_GRPMASKHI_MASK p) / 2 ^ (g - 32) % 2
  if m = 0 then Code.NOT_PERMITTED
  else if s.bit (GRP_STAT_OWNED g) then (if s.get (GRP_STAT_OWNER g) = p then Code.OK else Code.GROUP_OWNED)
  else if s.running g then Code.GROUP_RUNNING
  else if s.split g then Code.ROOT_MISMATCH
  else if 8 ≤ (s.owned p).length then Code.PORT_FULL
  else Code.OK

def claimReply (msg g code : Nat) : Nat := msg * 2 ^ 120 + g * 2 ^ 114 + code * 2 ^ 104

/-- One group of a CLAIM (07, R215, R216). -/
def State.claimOne (s : State) (p g : Nat) : State :=
  if s.hello p = false then s.tspReply p (claimReply 0x82 g Code.PROTOCOL)
  else
    let code := s.claimCode p g
    let s1 := if code = Code.OK ∧ s.bit (GRP_STAT_OWNED g) = false then
        ((s.setOwner p g true).modGroup g (fun x => { x with buf := [], next := 0 })).claimLead g
      else s
    s1.tspReply p (claimReply 0x82 g code)

/-- One group of a RELEASE (07, R215, R217). DESIGN CHOICE: entries that wait for the next START are flushed and counted, as at a
detach (R219): an unowned group reads INITSLOT (06, R176). -/
def State.releaseOne (s : State) (p g : Nat) : State :=
  if s.hello p = false then s.tspReply p (claimReply 0x83 g Code.PROTOCOL)
  else if s.bit (GRP_STAT_OWNED g) = false ∨ s.get (GRP_STAT_OWNER g) ≠ p then s.tspReply p (claimReply 0x83 g Code.NOT_OWNER)
  else if s.running g then s.tspReply p (claimReply 0x83 g Code.GROUP_RUNNING)
  else ((s.flushSelect g).setOwner p g false).tspReply p (claimReply 0x83 g Code.OK)

/-- The control message at the head, if it is of this kind. -/
def State.frontMsg (s : State) (p msg : Nat) : Option Nat :=
  match (s.tsp p).inbox with
  | .ctrl v :: _ => if cmdOp v = msg then some v else none
  | _ => none

def execHello (p : Fin 8) (s : State) : Host.Outcome State Fault Refusal :=
  match s.frontMsg p 1 with
  | some v => .next ((if s.lstate p = 4 then helloMsg (s.popInbox p) p v else s.popInbox p).settle p)
  | none => .next s

def execClaim (p : Fin 8) (s : State) : Host.Outcome State Fault Refusal :=
  match s.frontMsg p 2 with
  | some v => .next (((namedGroups v).foldl (fun u g => u.claimOne p g) (s.popInbox p)).settle p)
  | none => .next s

def execRelease (p : Fin 8) (s : State) : Host.Outcome State Fault Refusal :=
  match s.frontMsg p 3 with
  | some v => .next (((namedGroups v).foldl (fun u g => u.releaseOne p g) (s.popInbox p)).settle p)
  | none => .next s

def execDetach (p : Fin 8) (s : State) : Host.Outcome State Fault Refusal :=
  match s.frontMsg p 4 with
  | some _ => .next (((s.popInbox p).detachPort p).settle p)
  | none => .next s

/-! ### Commands (07, R209 to R211) -/

/-- The command at the head of what was taken in, if it has this opcode. -/
def State.frontCmd (s : State) (p op : Nat) : Option Nat :=
  match (s.tsp p).inbox with
  | .cmd v :: _ => if cmdOp v = op then some v else none
  | _ => none

/-- The port's own refusal of a command: not attached, not its group (07, R210, R215). -/
def State.portRefusal (s : State) (p v : Nat) : Option Nat :=
  if s.hello p = false then some Code.PROTOCOL
  else if s.ownsGroup p (cmdGroup v) = false then some Code.NOT_OWNER
  else none

/-- Run a command of a port, or refuse it; a timing command's refusal counts at its group (06, R184, R507). -/
def State.portRun (s : State) (p v : Nat) (f : State → State) : State :=
  let s1 := s.popInbox p
  (match s1.portRefusal p v with
    | some c => (if c = Code.NOT_OWNER ∧ 1 ≤ cmdOp v ∧ cmdOp v ≤ 6 then s1.noteRefusal (cmdGroup v) c else s1).portAnswer p v c
    | none => f s1).settle p

/-- Run the command at the head if it has this opcode. -/
def State.tspCmd (s : State) (p op : Nat) (f : Nat → State → State) : State :=
  match s.frontCmd p op with
  | some v => s.portRun p v (f v)
  | none => s

/-- A timing command of a port (06, R175). -/
def State.tspTiming (s : State) (p op : Nat) (cmd : Nat → TCmd) : State :=
  s.tspCmd p op (fun v u => u.issueTiming (cmdGroup v) (.port p (cmdGroup v) (cmdTag v)) (cmd v))

/-- A command for the root of a group: refused for a group with no members or a split one (07, R210). -/
def State.tspRoot (s : State) (p op : Nat) (f : Nat → Nat → State → State) : State :=
  s.tspCmd p op (fun v u =>
    let g := cmdGroup v
    if (u.members g).isEmpty then u.portAnswer p v Code.NO_MEMBERS
    else if u.split g then u.portAnswer p v Code.ROOT_MISMATCH
    else f v (u.rootOf (u.leadBank g)) u)

def execTspNop (p : Fin 8) (s : State) : Host.Outcome State Fault Refusal :=
  match s.frontCmd p 0 with
  | some v => .next (((s.popInbox p).portAnswer p v (if s.hello p then Code.OK else Code.PROTOCOL)).settle p)
  | none => .next s

def execTspCue (p : Fin 8) (s : State) : Host.Outcome State Fault Refusal :=
  .next (s.tspTiming p 1 (fun v => .cue (cmdSlot v) (cmdCtx v)))

def execTspPcue (p : Fin 8) (s : State) : Host.Outcome State Fault Refusal :=
  .next (s.tspTiming p 2 (fun v => .pcue (cmdSlot v) (cmdCtx v) (cmdEpoch v)))

def execTspCommit (p : Fin 8) (s : State) : Host.Outcome State Fault Refusal :=
  .next (s.tspTiming p 3 (fun v => .commit (cmdEpoch v) (if cmdFlag v then none else some (cmdCyc v))))

def execTspCancel (p : Fin 8) (s : State) : Host.Outcome State Fault Refusal :=
  .next (s.tspTiming p 4 (fun v => .cancel (cmdEpoch v)))

def execTspStart (p : Fin 8) (s : State) : Host.Outcome State Fault Refusal :=
  .next (s.tspTiming p 5 (fun v => .start (cmdCyc v)))

def execTspStop (p : Fin 8) (s : State) : Host.Outcome State Fault Refusal :=
  .next (s.tspTiming p 6 (fun v => .stop (if cmdFlag v then none else some (cmdCyc v))))

def execTspHop (p : Fin 8) (s : State) : Host.Outcome State Fault Refusal :=
  .next (s.tspRoot p 0x10 (fun v n u =>
    u.requestHop n { preset := cmdCtx v % 16, prio := cmdFlag v, src := .port p (cmdGroup v) (cmdTag v) }))

def execTspRamp (p : Fin 8) (s : State) : Host.Outcome State Fault Refusal :=
  .next (s.tspRoot p 0x11 (fun v n u => let r := u.rampTrigger n 1; r.1.portAnswer p v r.2))

/-- TAKE with FLAG 0 (08, R242). -/
def execTspTakeArm (p : Fin 8) (s : State) : Host.Outcome State Fault Refusal :=
  match s.frontCmd p 0x20 with
  | some v => if cmdFlag v then .next s else .next (s.portRun p v (fun u =>
      u.requestArm (cmdCtx v % 256) { src := .port p (cmdGroup v) (cmdTag v), group := some (cmdGroup v), wait := false }))
  | none => .next s

/-- TAKE with FLAG 1 (08, R244). -/
def execTspTakeStart (p : Fin 8) (s : State) : Host.Outcome State Fault Refusal :=
  match s.frontCmd p 0x20 with
  | some v => if cmdFlag v then .next (s.portRun p v (fun u => u.startCmd (cmdCtx v % 256) p (cmdGroup v) (cmdTag v) (cmdCyc v))) else .next s
  | none => .next s

/-! ### Outbound frames (07, R196 to R199, R208, R212, R213) -/

/-- The cycle that a member has read most recently, cycles 0 to 3 at its start (06, R176); none read since reset: an open value (07,
R208). -/
def State.curOf (s : State) (g : Nat) : Nat :=
  match s.lowest g with
  | none => Config.freeNat s.free g
  | some n =>
    let c := (s.chan n).cyc
    if c.on ∨ c.s ≠ 0 then c.k + 3 else Config.freeNat s.free g

/-- A group's STATUS record (07, R208). -/
def State.statusRecord (s : State) (g : Nat) : Nat :=
  let parked := (s.members g).any (fun n => s.bit (CH_STAT_PARKED n) && (s.cause n causeUnder || s.cause n causeHalt || s.cause n causeDetach))
  2 ^ 127 + b2n (s.running g) * 2 ^ 126 + g * 2 ^ 120 + (4096 - s.selFill g) * 2 ^ 107 + s.get (GRP_SELSTAT_UNDER g) * 2 ^ 106
    + b2n parked * 2 ^ 105 + (s.group g).next % 2 ^ 48 * 2 ^ 56 + s.curOf g % 2 ^ 48 * 2 ^ 8

/-- The 256 bytes of a frame: type, sequence number, count and items from byte 12 (07, R197, R198, R200). -/
def frameBytes (ty seq : Nat) (items : List Nat) : List Nat :=
  let h := leBytes 4 (ty * 2 ^ 28 + seq % 256 * 2 ^ 12 + items.length) ++ leBytes 8 0 ++ items.flatMap (fun v => leBytes 16 v)
  let b := h ++ List.replicate (252 - h.length) 0
  b ++ leBytes 4 (crc32 b)

/-- What the next frame carries: its type and items, and the port after it (07, R213). -/
def State.nextFrame (s : State) (p : Nat) : Nat × List Nat × Tsp :=
  let x := s.tsp p
  if x.replies ≠ [] then (3, x.replies.take 15, { x with replies := x.replies.drop 15 })
  else if s.statusDue p then (5, (s.owned p).map (fun g => s.statusRecord g), { x with sinceStatus := 0 })
  else if x.results ≠ [] then (4, x.results.take 15, { x with results := x.results.drop 15 })
  else (0, [], x)

/-- OUTBOUND_FRAME: one frame leaves, after every 23 a SKP ordered set (07, R196, R199, R213). An IDLE frame before any
other carries an open SEQ. -/
def outboundFrame (s : State) (p : Nat) : State :=
  let f := s.nextFrame p
  let x := f.2.2
  let idle := decide (f.1 = 0)
  let seq := if idle then (if x.txAny then (x.txNext + 255) % 256 else Config.freeNat s.free 64 % 256) else x.txNext
  let skp := decide (23 ≤ x.sinceSkp + 1)
  let x1 : Tsp := { x with
    txNext := if idle then x.txNext else (x.txNext + 1) % 256, txAny := x.txAny || !idle
    sinceStatus := if f.1 = 5 then 0 else x.sinceStatus + 1, sinceSkp := if skp then 0 else x.sinceSkp + 1 }
  let s1 := ((s.setTsp p x1).draw).emit (.tspFrame p (frameBytes f.1 seq f.2.1))
  if skp then s1.emit (.tspSkp p) else s1

def execOutboundFrame (p : Fin 8) (s : State) : Host.Outcome State Fault Refusal :=
  if s.lstate p = 4 then .next (outboundFrame s p) else .next s

end Sys2Proof.Machine
end

