-- ==== Sys2Proof/Machine/Links.lean ====
section
/-! DEFINITION. Prailaom links: training, frames, delay measurement (11_multi_device_links.md, R326 to R335). -/

set_option Elab.async false

namespace Sys2Proof.Machine

/-! ### Link states (11, R328, R347, R349) -/

def State.plState (s : State) (p : Nat) : Nat := s.get (PRL_STAT_LSTATE p)

/-- An item for the device at the far end of a link. -/
def State.sendOver (s : State) (p : Nat) (i : LinkItem) : State := s.txItem p (s.get (PRL_STAT_PEERID p)) false i

/-- A measurement is over: the child is told, the result goes to the device that asked (11, R335, R336). -/
def State.measEnd (s : State) (p code : Nat) (data : List Int) : State :=
  match (s.pl p).meas with
  | none => s
  | some m =>
    let s0 := (s.modPl p (fun x => { x with meas := none })).put (PRL_ALIGN_ALIGNING m.root) 0
    let s1 := if s.linkServes p then s0.sendOver p (.message (.measOver m.root)) else s0
    if m.why = 1 then s1.sendItem m.req (.message (.alignResult m.root m.child code data)) else s1

/-- A measurement fails: PROBEFAIL and PROBE_FAIL (11, R335). -/
def State.measFail (s : State) (p : Nat) : State := (s.flagPrl p (PRL_FLAGS_PROBEFAIL p)).measEnd p Code.PROBE_FAIL []

/-- A measurement of this device as the child is over (11, R350). -/
def State.childOver (s : State) (p : Nat) : State :=
  match (s.pl p).child with
  | none => s
  | some n => (s.modPl p (fun x => { x with child := none })).put (PRL_ALIGN_ALIGNING n) 0

/-- A link enters DISABLED or DETECT: it counts as down. Its frames fail to their originators, its numbering starts
afresh, a measurement over it ends with LINK_DOWN, its lost probes or PROBEDATA set PROBEFAIL; this device's firmware hears of it (11,
R330, R335, R347). -/
def State.linkDown (s : State) (p st : Nat) : State :=
  let x := s.pl p
  let s1 := (s.childOver p).modPl p (fun y => { y with unacked := [], wait := [], txNext := 1, resends := 0, sinceSkp := 0 })
  let s2 := (((s1.put (PRL_STAT_LSTATE p) st).put (PRL_STAT_LANELOCK p) 0).put (PRL_STAT_IDENT p) 0).put (PRL_STAT_RXSEQ p) 0
  let s3 := match x.meas with
    | none => s2
    | some m =>
      if m.why = 0 then s2.measFail p
      else (if m.phase = 1 ∨ m.phase = 2 then s2.flagPrl p (PRL_FLAGS_PROBEFAIL p) else s2).measEnd p Code.LINK_DOWN []
  ((x.unacked.map (fun q => q.2) ++ x.wait).foldl (fun u fr => u.failFrame fr) s3).deliverItem loopback s.me (.message (.portDown p))

/-- A batch of probes starts: the child end is told (11, R335). -/
def State.measBatch (s : State) (p : Nat) : State :=
  match (s.pl p).meas with
  | none => s
  | some m =>
    ((s.modPl p (fun x => { x with meas := some { m with phase := 1, tx := [], rx := [], spoilt := false } })).put (PRL_CTRL_ROOT p) m.root).sendOver p
      (.message (.probeBegin m.root))

/-- A write of PROBE: one measurement of NPROBE probes. Over a link that is not UP it fails; while one runs nothing starts. -/
def State.probeWrite (s : State) (p : Nat) : State :=
  if (s.pl p).meas.isSome then s
  else
    let m : Meas := { root := s.get (PRL_CTRL_ROOT p), why := 0, req := s.me, child := s.get (PRL_STAT_PEERID p),
                      n := max 64 (s.get (PRL_NPROBE_N p)), phase := 0, tx := [], rx := [], spoilt := false, tries := 0, idle := false, data := [] }
    let s1 := (s.modPl p (fun x => { x with meas := some m })).put (PRL_ALIGN_ALIGNING m.root) 1
    if s.plState p = 4 then s1.measBatch p else s1.measFail p

/-- A write of PRLp_CTRL (11, R335, R349). -/
def State.prlCtrlWrite (s : State) (p : Nat) (w : Word) : State :=
  let en := s.bit (PRL_CTRL_EN p)
  let s1 := s.writeReg (PRL_CTRL p) w fullMask
  let s2 := if wbit w 0 = false then (if en then s1.linkDown p 0 else s1)
    else if en = false then s1.put (PRL_STAT_LSTATE p) 1
    else if wbit w 2 then s1.linkDown p 1
    else s1
  if wbit w 3 then s2.probeWrite p else s2

def execPrlEnWrite (src : Source) (p : Fin 4) (w : Word) (s : State) : Host.Outcome State Fault Refusal := .next (s.rowWrite src (PRL_CTRL p) w (fun u => u.prlCtrlWrite p w))

def execPrlRetrain (src : Source) (p : Fin 4) (w : Word) (s : State) : Host.Outcome State Fault Refusal := .next (s.rowWrite src (PRL_CTRL p) w (fun u => u.prlCtrlWrite p w))

def execProbe (src : Source) (p : Fin 4) (w : Word) (s : State) : Host.Outcome State Fault Refusal := .next (s.rowWrite src (PRL_CTRL p) w (fun u => u.prlCtrlWrite p w))

/-! ### Training of either kind of port (07, R194; 11, R328): ports 0 to 7 are TSP0 to TSP7, 8 to 11 are PL0 to PL3 -/

def execReceiverDetected (p : Fin 12) (s : State) : Host.Outcome State Fault Refusal :=
  if p.val < 8 then .next (s.tspDetected p)
  else if s.plState (p.val - 8) = 1 then .next (s.put (PRL_STAT_LSTATE (p.val - 8)) 2) else .next s

def execDetectTimeout (p : Fin 12) (s : State) : Host.Outcome State Fault Refusal :=
  if p.val < 8 then .next (s.tspNotDetected p)
  else if s.plState (p.val - 8) = 1 then .next (s.put (PRL_STAT_LSTATE (p.val - 8)) 1) else .next s

def execEqualisationDone (p : Fin 12) (s : State) : Host.Outcome State Fault Refusal :=
  if p.val < 8 then .next (s.tspEqualised p)
  else if s.plState (p.val - 8) = 2 then .next ((s.put (PRL_STAT_LSTATE (p.val - 8)) 3).emit (.faSets p.val)) else .next s

def execEqualiseTimeout (p : Fin 12) (s : State) : Host.Outcome State Fault Refusal :=
  let q := p.val - 8
  if p.val < 8 then .next (s.tspEqFail p)
  else if s.plState q = 2 then .next ((s.linkDown q 1).flagPrl q (PRL_FLAGS_EQFAIL q)) else .next s

/-- A link reaches UP: it identifies itself when it comes from ALIGN; frames that waited leave (11, R330, R333). -/
def State.linkUp (s : State) (q : Nat) : State :=
  let s1 := (s.put (PRL_STAT_LSTATE q) 4).put (PRL_STAT_LANELOCK q) 3
  let i := LinkItem.ident s.me q (s.get SEC_UIDLO_UID + s.get SEC_UIDHI_UID * 2 ^ 32) (s.word GLB_ID).toNat
  let s2 := if s.plState q = 3 then s1.modPl q (fun x => { x with wait := framesOf 15 s.me true i ++ x.wait }) else s1
  s2.txPump q ((s2.pl q).wait.length)

def execAlignDone (p : Fin 12) (s : State) : Host.Outcome State Fault Refusal :=
  let q := p.val - 8
  if p.val < 8 then .next (s.tspAligned p)
  else if s.plState q = 3 ∨ s.plState q = 5 then .next (s.linkUp q) else .next s

def execAlignTimeout (p : Fin 12) (s : State) : Host.Outcome State Fault Refusal :=
  let q := p.val - 8
  if p.val < 8 then .next (s.tspNotAligned p) else if s.plState q = 3 then .next (s.linkDown q 1) else .next s

/-- BLOCK_LOCK_LOST on a lane; a link has lanes 0 and 1. -/
def execBlockLockLost (p : Fin 12) (lane : Fin 4) (s : State) : Host.Outcome State Fault Refusal :=
  let q := p.val - 8
  if p.val < 8 then .next (s.tspLockLost p lane)
  else if s.plState q = 4 ∧ lane.val < 2 then
    let r : Ref := ⟨PRL_STAT q, 8 + lane.val, 1⟩
    .next ((((s.put r 0).put (PRL_STAT_LSTATE q) 5).flagPrl q (PRL_FLAGS_RECOVER q)).emit (.faSets p.val))
  else .next s

def execRecoverTimeout (p : Fin 12) (s : State) : Host.Outcome State Fault Refusal :=
  let q := p.val - 8
  if p.val < 8 then .next (s.tspNotRecovered p) else if s.plState q = 5 then .next (s.linkDown q 1) else .next s

/-- INVALID_BLOCK: a link has no error counter of its lanes (11, R349), so nothing of it shows one. -/
def execInvalidBlock (p : Fin 12) (lane : Fin 4) (s : State) : Host.Outcome State Fault Refusal :=
  if p.val < 8 then .next (s.tspInvalidBlock p lane) else .next s

/-! ### Frames (11, R329 to R331) -/

/-- Frames up to an acknowledged SEQ are done with. -/
def ackDrop (l : List (Nat × LFrame)) (ack : Nat) : List (Nat × LFrame) :=
  if l.any (fun q => q.1 == ack) then (l.dropWhile (fun q => q.1 != ack)).drop 1 else l

/-- A frame acknowledges the frames sent. -/
def State.linkAck (s : State) (p ack : Nat) : State :=
  let x := s.pl p
  let l := ackDrop x.unacked ack
  let s1 := s.setPl p { x with unacked := l, resends := if l.length = x.unacked.length then x.resends else 0 }
  s1.txPump p x.wait.length

/-- IDENT is for the far end of a link alone, and TOPO is passed on by firmware as it loads the table: a frame that carries one goes no
further by itself. -/
def oneHop (raw : List Nat) : Bool := raw.any (fun v => v % 256 == 1 || v % 256 == 2)

/-- The items of a frame accepted in order: delivered, forwarded, or both (11, R331). -/
def State.linkDeliver (s : State) (p : Nat) (fr : LFrame) : State :=
  let here := fr.bcast || fr.dst == s.me || oneHop fr.raw
  let s1 := if here then fr.items.foldl (fun u i => u.deliverItem p fr.src i) s else s
  if oneHop fr.raw then s1
  else if fr.bcast then s1.castFrame fr (some p)
  else if here then s1
  else s1.routeFrame fr

/-- A frame that came in and was not dropped is acknowledged: by the DATA frames that left meanwhile, else by an IDLE frame (11, R330).
DESIGN CHOICE: the IDLE frames of a link that has nothing to acknowledge are not shown. -/
def State.ackBack (s : State) (p txNext : Nat) : State := if (s.pl p).txNext = txNext then s.sendIdle p else s

/-- A frame is received: its 256 bytes; `invalid`: one of its blocks was; the messages that firmware reads out of it. -/
def linkFrame (s : State) (p frame : Nat) (invalid : Bool) (items : List LinkItem) : State :=
  let h := frame % 2 ^ 32
  let ty := h / 2 ^ 28
  if invalid ∨ frameOk frame = false ∨ 1 < ty then (s.inc (PRL_CRCERR_COUNT p)).flagPrl p (PRL_FLAGS_CRC p)
  else
    let s1 := s.linkAck p (h / 2 ^ 4 % 256)
    if ty = 0 then s1
    else
      let seq := h / 2 ^ 12 % 256
      if seq = (s.get (PRL_STAT_RXSEQ p) + 1) % 256 then
        ((s1.put (PRL_STAT_RXSEQ p) seq).linkDeliver p ⟨h / 2 ^ 24 % 16, h / 2 ^ 20 % 16, h / 8 % 2 == 1, items, frameItems frame⟩).ackBack
          p (s1.pl p).txNext
      else (s1.inc (PRL_RETRYCNT_COUNT p)).ackBack p (s1.pl p).txNext

/-- LINK_FRAME_RECEIVED (11, R329, R330). -/
def execLinkFrameReceived (p : Fin 4) (frame : BitVec 2048) (invalid : Bool) (items : List LinkItem) (s : State) :
    Host.Outcome State Fault Refusal :=
  if s.plState p = 4 then .next (linkFrame s p frame.toNat invalid items) else .next s

/-- Every unacknowledged frame leaves again, from the oldest; a batch of probes meets a retry (11, R330, R347). -/
def State.linkResend (s : State) (p : Nat) : State :=
  let x := s.pl p
  let s1 := (s.setPl p { x with resends := x.resends + 1, meas := x.meas.map (fun m => { m with spoilt := true }) }).flagPrl p (PRL_FLAGS_RETRY p)
  x.unacked.foldl (fun u q => u.sendData p q.1 q.2) s1

/-- RESEND_TIMEOUT: after 8 consecutive resends of one frame the link fails. -/
def execResendTimeout (p : Fin 4) (s : State) : Host.Outcome State Fault Refusal :=
  if s.plState p = 4 ∧ (s.pl p).unacked ≠ [] then
    if 8 ≤ (s.pl p).resends then .next ((s.linkDown p 1).flagPrl p (PRL_FLAGS_LINKFAIL p)) else .next (s.linkResend p)
  else .next s

/-! ### Probes (11, R335) -/

/-- A batch of probes has failed: one that met a link retry is repeated, up to 3 times (11, R335, R347). -/
def State.batchLost (s : State) (p : Nat) (m : Meas) : State :=
  if m.spoilt ∧ m.tries < 3 then (s.modPl p (fun x => { x with meas := some { m with tries := m.tries + 1 } })).measBatch p else s.measFail p

/-- PROBE_INTERVAL: the parent end sends the next request, stamped at tA_tx. After the last one the interval ends the wait for replies: one
that is not there is lost (11, R335). -/
def execProbeInterval (p : Fin 4) (tx : Nat) (s : State) : Host.Outcome State Fault Refusal :=
  match (s.pl p).meas with
  | some m =>
    if m.phase = 1 ∧ m.tx.length < m.n ∧ s.plState p = 4 then
      .next ((s.modPl p (fun x => { x with meas := some { m with tx := m.tx ++ [tx % 2 ^ 60] } })).emit (.linkProbe p (m.tx.length % 256) false))
    else if m.phase = 1 ∧ m.tx.length = m.n then .next (s.batchLost p m)
    else .next s
  | none => .next s

/-- A reply to the parent end: the next in order, or one was lost and the batch with it. -/
def State.probeReply (s : State) (p index stamp : Nat) : State :=
  match (s.pl p).meas with
  | some m =>
    if m.phase = 1 ∧ m.rx.length < m.tx.length then
      let m1 := { m with rx := m.rx ++ [stamp % 2 ^ 60] }
      if index % 256 ≠ m.rx.length % 256 then s.batchLost p m
      else if m1.rx.length = m.n then (s.modPl p (fun x => { x with meas := some { m1 with phase := 2 } })).sendOver p (.message .probeEnd)
      else s.modPl p (fun x => { x with meas := some m1 })
    else s
  | none => s

/-- PROBE_BLOCK_RECEIVED: a request is stamped at the child end and answered at tB_tx, a reply is stamped. -/
def execProbeBlockReceived (p : Fin 4) (index : Nat) (reply : Bool) (stamp tx : Nat) (s : State) : Host.Outcome State Fault Refusal :=
  if s.plState p ≠ 4 then .next s
  else if reply then .next (s.probeReply p index stamp)
  else .next ((s.modPl p (fun x => { x with stamps := x.stamps ++ [(stamp % 2 ^ 60, tx % 2 ^ 60)] })).emit (.linkProbe p (index % 256) true))

/-- A difference of stamps modulo 2^60. -/
def diff60 (a b : Nat) : Int := signed 60 ((a + 2 ^ 60 - b % 2 ^ 60) % 2 ^ 60)

/-- What a batch gives: the sums of tB_rx - tA_tx and tA_rx - tB_tx and the sums for the deviation of their halved
difference. -/
structure BatchSums where
  s1 : Int
  s2 : Int
  sx : Int
  sxx : Int
  deriving DecidableEq, Repr

def batchSums (tx rx : List Nat) (st : List (Nat × Nat)) : BatchSums :=
  ((tx.zip rx).zip st).foldl (fun (a : BatchSums) q =>
    let x := diff60 q.2.1 q.1.1
    let y := diff60 q.1.2 q.2.2
    ⟨a.s1 + x, a.s2 + y, a.sx + (x - y), a.sxx + (x - y) * (x - y)⟩) ⟨0, 0, 0, 0⟩

/-- An unsigned field of 2^-8 ticks shows a number; one outside it is open. -/
def show32 (v : Int) : Nat := if 0 ≤ v then inFormat 32 v.toNat else Config.outOfRange v.natAbs % 2 ^ 32

/-- The whole cycles of a time in 2^-8 tick: the rest lies in [-2048, 2048) ticks (11, R336, R349). -/
def wholeCycles (v : Int) : Int := (v + 2048 * 256) / (4096 * 256)

/-- The results of a batch go to the port's registers: RTT, theta_rt, sigma (11, R335). -/
def State.putMeas (s : State) (p n : Nat) (b : BatchSums) : State :=
  let th := roundDivI (128 * (b.s1 - b.s2)) n
  let c := wholeCycles th
  let s1 := (s.put (PRL_RTT_RTT p) (show32 (roundDivI (256 * (b.s1 + b.s2)) n))).put (PRL_THCLO_C p) (wrapNat 48 c % 2 ^ 32)
  let s2 := (s1.put (PRL_THCHI_C p) (wrapNat 48 c / 2 ^ 32)).puti (PRL_THFINE_F p) (th - c * 4096 * 256)
  s2.put (PRL_THSIG_S p) (inFormat 32 (roundSqrt (65536 * ((n : Int) * b.sxx - b.sx * b.sx).toNat) (4 * n * n)))

/-- What BOARD_ALIGN returns of a link with ALIGNHOST: d1, d2, theta and sigma in 2^-8 tick (11, R336). -/
def State.measData (s : State) (p n : Nat) (b : BatchSums) : List Int :=
  [roundDivI (256 * b.s1) n, roundDivI (256 * b.s2) n, roundDivI (128 * (b.s1 - b.s2)) n + s.geti (PRL_ASYM_ASYM p), (s.get (PRL_THSIG_S p) : Int)]

/-- The correction that theta calls for: C, k and the residual in 2^-8 tick (11, R336). -/
def correction (odiv : Nat) (theta : Int) : Int × Int × Int :=
  let c := wholeCycles theta
  let phi := theta - c * 4096 * 256
  let k := roundDivI (phi * odiv) (4 * 256)
  (c, k, roundDivI (phi * odiv - k * 1024) odiv)

/-- PROBEDATA: the child's stamps complete the measurement, or the batch has failed: a stamp is missing, or it met a retry (11, R335,
R336, R338, R347). -/
def probeData (s : State) (p : Nat) (m : Meas) (st : List (Nat × Nat)) : State :=
  if m.spoilt ∨ st.length ≠ m.n then s.batchLost p m
  else
    let b := batchSums m.tx m.rx st
    let s1 := s.putMeas p m.n b
    if 16 * (m.n : Int) * m.n < (m.n : Int) * b.sxx - b.sx * b.sx then s1.measFail p
    else if m.why = 0 then s1.measEnd p Code.OK []
    else
      let data := s1.measData p m.n b
      let q := correction (max 1 (odivOf (s1.get (SYN_CTRL_ODIV m.root)))) (data.getD 2 0)
      if m.why = 1 ∧ s1.bit GLB_MODE_ALIGNHOST then s1.measEnd p Code.OK data
      else if m.why = 1 ∧ q.1 ≠ 0 ∧ m.idle = false then s1.measEnd p Code.ALIGN_BUSY []
      else
        (s1.modPl p (fun x => { x with meas := some { m with phase := 3, data := data } })).sendOver p
          (.message (.correct m.root q.1 q.2.1 q.2.2 (m.why == 2)))

end Sys2Proof.Machine
end

