-- ==== Sys2Proof/Machine/Capture.lean ====
section
/-! DEFINITION. Edges on a channel's input, pre-rolls, and what leaves a bank's taint stage
(08_event_capture_and_stamping.md, R226 to R239, R246, R251; 01, R31; 04, R120; 10, R298, R299). -/

set_option Elab.async false

namespace Sys2Proof.Machine

/-! ### The activity monitor (08, R226, R227) -/

/-- The take a channel has joined, if it runs. -/
def State.takeOf (s : State) (n : Nat) : Option Nat := if s.chanInTake n then some (s.get (CH_TAKE_TAKE n)) else none

/-- ACTIVITY_WINDOW_END. -/
def activityWindowEnd (s : State) (n : Nat) : State :=
  let v := min 65535 (s.cap n).trans
  (s.put (CH_EVSTAT_EDG1US n) v).modCap n (fun x => { x with trans := 0, quiet := if x.trans = 0 then x.quiet + 1 else 0
                                                             edgLo := min x.edgLo v, edgHi := max x.edgHi v })

def execActivityWindowEnd (n : Fin 512) (s : State) : Host.Outcome State Fault Refusal := .next (activityWindowEnd s n)

/-- QUIET_TIMEOUT: no transition for 1 ms. -/
def quietTimeout (s : State) (n : Nat) : State :=
  let s1 := s.put (CH_EVSTAT_QUIET n) 1
  if s.bit (CH_EVSTAT_QUIET n) = false ∧ (s.takeOf n).isSome then s1.flagCh n (CH_EFLAGS_QUIET n) else s1

def execQuietTimeout (n : Fin 512) (s : State) : Host.Outcome State Fault Refusal := .next (quietTimeout s n)

/-! ### The time of an edge (08, R238; 10, R298) -/

/-- Entry e of the latched INL table of stamper st, in 1/16 tick (10, R323). -/
def Cap.inl (x : Cap) (st e : Nat) : Int :=
  let w := tabGet 0 x.sinl (32 * st + e % 64 / 2)
  signed 12 (if e % 2 = 1 then w / 2 ^ 16 else w)

/-- t of an edge and the histogram bin of its position: G and O in 2^-10 codes, `ref` and `c` as the stamper reports
them. -/
def edgeTime (x : Cap) (inlOff : Bool) (skew : Int) (st g o ref c : Nat) : Int × Nat :=
  let den : Int := g
  let num : Int := 4096 * ((1024 * c : Nat) - (o : Int))
  let u := num % (4096 * den)
  let j := (u / (64 * den)).toNat
  let w := u - 64 * j * den
  let inl := if inlOff then 0 else x.inl st j * (64 * den) + (x.inl st (j + 1) - x.inl st j) * w
  let d := (2 * (num * 1024 + inl) + 1024 * den) / (2 * (1024 * den))
  (4096 * (ref : Int) - d - skew, (u / (16 * den)).toNat)

/-- The time of an edge on a channel by a stamper. -/
def State.edgeTime (s : State) (n st ref c : Nat) : Int × Nat :=
  Sys2Proof.Machine.edgeTime (s.cap n) (s.get (CH_CALCTRL_BYP n) % 2 == 1) (s.geti (CH_EVSKACT_SKEW n)) st
    (s.get (CH_SLGAIN_G n st)) (s.get (CH_SLOFF_O n st)) ref c

/-! ### Acceptance (08, R229, R230, R239) -/

/-- An edge is lost (08, R229). -/
def State.loseEdge (s : State) (n : Nat) (r : Ref) (t : Int) : State :=
  ((s.inc r).flagCh n (CH_EFLAGS_LOST n)).modCap n (fun x => { x with lostAt := some t })

/-- Ticks that the output queue needs for one stamp: 1.6 G stamps/s at the T-clock of the word in force (08, R229). -/
def State.drainTicks (s : State) (n : Nat) : Nat :=
  let r := s.rootOf (n / 64)
  let f := s.fTnom r (s.wordInForce r) 0
  4096 * f.1 / (f.2 * 1600000000)

/-- A calibration of a channel's stampers starts with stamper 0 in the next cycle (08, R235, R239). -/
def State.beginReslate (s : State) (n kind : Nat) : State :=
  s.modCap n (fun x => { x with cal := some { kind := kind, stamper := 0, again := false, begin := s.tbOf (n / 64) + 1, wait := false } })

/-- An accepted edge may start or stop its take (08, R244, R245). -/
def State.edgeTriggers (s : State) (n : Nat) (t : Int) : State :=
  match s.takeOf n with
  | none => s
  | some tk =>
    let k := s.take tk
    let st := s.takeState tk
    if st = 2 ∧ k.start = 3 ∧ k.sch = n then s.setStart tk t false
    else if st = 3 ∧ k.stop = 2 ∧ k.stopch = n ∧ k.tstop = none ∧
        k.tstart.all (fun a => decide (a < t) || (decide (a = t) && !(k.start == 3 && k.sch == n))) then s.setStop tk (t + 1)
    else s

/-- After every 2^20 accepted stamps the stampers are calibrated (08, R239); while a calibration runs, the next waits for its end
(DESIGN CHOICE). -/
def State.countReslate (s : State) (n : Nat) : State :=
  if 2 ^ 20 ≤ (s.cap n).since then (s.modCap n (fun x => { x with since := x.since - 2 ^ 20 })).beginReslate n 1 else s

/-- An edge is accepted: it becomes a stamp in the taint stage (08, R228, R229, R239; 04, R120). -/
def State.acceptEdge (s : State) (n st ref c : Nat) (pol : Bool) (t : Int) (bin : Nat) : State :=
  let b := n / 64
  let x := s.cap n
  let it : StageItem := { enter := s.tbOf b, time := (t / 4096).toNat
                          body := .stamp n { t := t, pol := pol, lostAt := x.lostAt, ref := ref, stamper := st, code := c, bin := bin } }
  let s1 := s.setCap n { x with tAcc := some t, lostAt := none, nextSt := 1 - st, since := x.since + 1, qEnd := max x.qEnd t + s.drainTicks n }
  let s2 := (s1.modBank b (fun y => { y with stage := y.stage ++ [it] })).edgeTriggers n t
  match s2.takeOf n with
  | some tk => if (s2.take tk).reslate ∧ x.cal = none then s2.countReslate n else s2
  | none => s2

/-- The acceptance checks of R229 for an edge on a running stamper. -/
def State.judgeEdge (s : State) (n ref c : Nat) (pol : Bool) : State :=
  let x := s.cap n
  let st := match x.cal with
    | some q => 1 - q.stamper
    | none => x.nextSt
  let q := s.edgeTime n st ref c
  let t := q.1
  let e := s.get (CH_EVCFG_EDGE n)
  let sep := max 5899 (s.get (CH_SEPMIN_TICKS n)) * (if x.cal.isSome then 2 else 1)
  if (e = 0 ∧ pol = false) ∨ (e = 1 ∧ pol) then s
  else if x.tAcc.any (fun a => decide (t < a + 4096 * s.get (CH_EVCFG_HOLDOFF n))) then s.loseEdge n (CH_LOSTHOLD_COUNT n) t
  else if x.tAcc.any (fun a => decide (t < a + sep)) then s.loseEdge n (CH_LOSTSEP_COUNT n) t
  else if t + 7 * s.drainTicks n < x.qEnd then s.loseEdge n (CH_LOSTSEP_COUNT n) t
  else s.acceptEdge n st ref c pol t q.2

/-- A transition of the receiver's output after INV; `ref` and `c` are what the stamper whose turn it is reports (08, R226,
R227). -/
def State.outputEdge (s : State) (n : Nat) (pol : Bool) (ref c : Nat) : State :=
  let s1 := ((s.put (CH_EVSTAT_LEVEL n) (b2n pol)).put (CH_EVSTAT_QUIET n) 0).modCap n (fun x => { x with trans := x.trans + 1 })
  if s1.bit (CH_EVSTAT_RUN n) then (s1.tbTo (n / 64) ref).judgeEdge n ref c pol else s1

/-- The input that SRC selects: 0 EVI, 1 RETURN, 2 CALREF; 3 acts as EVI (08, R226). -/
def State.evSource (s : State) (n : Nat) : Nat := s.get (CH_EVCFG_SRC n) % 3

/-- EVENT_EDGE: a transition at an input of the receiver, which sees the one that SRC selects while EN is 1. -/
def eventEdge (s : State) (n input : Nat) (rising : Bool) (ref c : Nat) : State :=
  let s1 := s.modCap n (fun x => { x with inputs := x.inputs.set input rising })
  if s1.bit (CH_EVCFG_EN n) ∧ s1.evSource n = input then s1.outputEdge n (rising != s1.bit (CH_EVCFG_INV n)) ref c else s1

/-- While the pins are cut from the device the receiver does not see EVI (13, R402). -/
def execEventEdge (n : Fin 512) (input : Fin 3) (rising : Bool) (ref : Nat) (code : BitVec 14) (s : State) :
    Host.Outcome State Fault Refusal :=
  if input.val = 0 ∧ s.pinsCut then .next s else .next (eventEdge s n input rising ref code.toNat)

/-- A write of CHn_EVCFG (08, R226, R227): where it moves the output, by INV, by SRC or by EN, that is a transition like any other;
its reference edge is the second after the present count and its code a free value (R228). -/
def State.evcfgWrite (s : State) (n : Nat) (w : Word) : State :=
  let s1 := s.writeReg (CH_EVCFG n) w fullMask
  let lev := (s1.cap n).inputs.getD (s1.evSource n) false != s1.bit (CH_EVCFG_INV n)
  if s1.bit (CH_EVCFG_EN n) ∧ lev ≠ s1.bit (CH_EVSTAT_LEVEL n) then
    s1.draw.outputEdge n lev (s1.tbOf (n / 64) + 2) (Config.switchCode s1.free).toNat
  else s1

/-! ### Pre-roll and re-slates (08, R235 to R239) -/

/-- The sum, the largest and the smallest of a stamper's codes. -/
def codeSum (l : List (BitVec 14)) : Nat := l.foldl (fun a c => a + c.toNat) 0
def codeSpread (l : List (BitVec 14)) : Nat := l.foldl (fun a c => max a c.toNat) 0 - l.foldl (fun a c => min a c.toNat) 16383

/-- What a half measures (08, R236, R237): G and O in 1/8 code, the spread, whether it is accepted. -/
structure HalfOut where
  g : Int
  o : Int
  spread : Nat
  ok : Bool
  deriving DecidableEq, Repr

def measureHalf (c1 c2 : List (BitVec 14)) : HalfOut :=
  let g : Int := (codeSum c2 : Int) - codeSum c1
  let o : Int := (codeSum c1 : Int) - g
  let sp := max (codeSpread c1) (codeSpread c2)
  { g := g, o := o, spread := sp
    ok := decide (3584 * 8 ≤ g ∧ g ≤ 4608 * 8 ∧ 0 ≤ o ∧ o ≤ 2047 * 8 ∧ sp ≤ 32) }

/-- The slate of a finished half enters the taint stage (08, R234; 04, R120). -/
def State.pushSlate (s : State) (n tk : Nat) (q : Calib) (coarse : Nat) (h : HalfOut) : State :=
  let st := q.stamper
  let hdr := st * 2 ^ 61 + 2 ^ 60 + coarse % 2 ^ 48 * 2 ^ 12 + tk % 256 * 2 ^ 4 + q.kind
  let pay := s.get (CH_SLGAIN_G n st) * 2 ^ 40 + s.get (CH_SLOFF_O n st) * 2 ^ 16 + inFormat 8 h.spread * 2 ^ 8 + b2n (!h.ok)
  let x : Slate := { take := tk, head := decide (q.kind = 0), hdr := hdr, pay := pay, lostAt := (s.cap n).lostAt, raw := (s.take tk).raw, left := 0 }
  let it : StageItem := { enter := s.tbOf (n / 64), time := coarse, body := .slate n x }
  s.modBank (n / 64) (fun y => { y with stage := y.stage ++ [it] })

/-- A half has ended and stands: its slate is written, and the other half follows or the calibration is over. -/
def State.halfStands (s : State) (n tk : Nat) (q : Calib) (coarse : Nat) (h : HalfOut) : State :=
  let s1 := if h.ok then (s.put (CH_SLGAIN_G n q.stamper) (h.g * 128).toNat).put (CH_SLOFF_O n q.stamper) (h.o * 128).toNat else s
  let s2 := s1.pushSlate n tk q coarse h
  if h.ok = false ∧ q.kind = 0 then
    let s3 := ((s2.inc (CH_PREFAIL_COUNT n)).flagCh n (CH_EFLAGS_PREFAIL n)).modCap n (fun x => { x with cal := none })
    s3.takeCloseEarly tk Code.PREROLL_FAIL
  else if q.stamper = 0 then
    s2.modCap n (fun x => { x with cal := some { q with stamper := 1, again := false, begin := coarse + 1, wait := false } })
  else
    let s3 := s2.modCap n (fun x => { x with cal := none, preEnd := coarse + 1, lastSlate := coarse + 1 })
    if q.kind = 0 then (if (s3.take tk).chans.all (fun m => (s3.cap m).cal = none) then s3.takeArmed tk else s3)
    else if (s3.take tk).reslate then s3.countReslate n
    else s3

/-- PREROLL_HALF_DONE: the half's eight codes c1 and eight codes c2. A head half that fails is repeated once. -/
def halfDone (s : State) (n tk : Nat) (q : Calib) (c1 c2 : List (BitVec 14)) : State :=
  let coarse := q.begin + 63
  let s1 := s.tbTo (n / 64) (coarse + 1)
  let h := measureHalf c1 c2
  if h.ok = false ∧ q.kind = 0 ∧ q.again = false then
    s1.modCap n (fun x => { x with cal := some { q with again := true, begin := coarse + 1, wait := false } })
  else s1.halfStands n tk q coarse h

def execPrerollHalfDone (n : Fin 512) (c1 c2 : Vector (BitVec 14) 8) (s : State) : Host.Outcome State Fault Refusal :=
  match (s.cap n).cal, s.takeOf n with
  | some q, some tk => if s.get (BNK_STAT_DLLSTATE (n.val / 64)) ≠ 0 ∧ q.wait = false then .next (halfDone s n tk q c1.toList c2.toList) else .next s
  | _, _ => .next s

/-- RESLATE_TIMER: 2^28 cycles since the channel's last slate, or 2^44 in a raw take without RESLATE (08, R233, R239). -/
def reslateTimer (s : State) (n gap : Nat) : State :=
  (s.tbTo (n / 64) ((s.cap n).lastSlate + gap)).beginReslate n 2

def execReslateTimer (n : Fin 512) (s : State) : Host.Outcome State Fault Refusal :=
  match s.takeOf n with
  | none => .next s
  | some tk =>
    if s.bit (CH_EVSTAT_RUN n) = false ∨ (s.cap n).cal.isSome then .next s
    else if (s.take tk).reslate then .next (reslateTimer s n (2 ^ 28))
    else if (s.take tk).raw then .next (reslateTimer s n (2 ^ 44))
    else .next s

/-! ### Release of stamps and slates (08, R232, R233, R246, R251) -/

/-- A word of a take did not fit its reel under STOP (08, R251): t_stop moves to its time, the take closes, and what the
regression needs of the cycle before t_stop is captured (09, R279). -/
def State.reelFull (s : State) (tk : Nat) (t : Int) : State :=
  let st := s.takeState tk
  if st = 1 ∨ st = 2 then s.takeCloseEarly tk Code.REEL_FULL
  else if (st = 3 ∨ st = 4) ∧ (s.take tk).tstop.all (fun v => decide (t < v)) then
    ((s.modTake tk (fun x => { x with code := Code.REEL_FULL })).setStop tk t).takeStop tk
  else s

/-- The reel word of a stamp (08, R232, R233). -/
def stampWord (raw : Bool) (x : Stamp) (taint lostb : Bool) : Nat :=
  b2n taint * 2 ^ 63 + b2n lostb * 2 ^ 62 + b2n x.pol * 2 ^ 61 +
    (if raw then x.ref % 2 ^ 45 * 2 ^ 15 + x.stamper * 2 ^ 14 + x.code else wrapNat 60 x.t)

/-- A stamp counts in its channel and its take (08, R245, R246). A count that is met while the take closes may fix an earlier t_stop, of which
the regression's inputs are captured (09, R279). -/
def State.countStamp (s : State) (tk n : Nat) (t : Int) (taint lostb : Bool) : State :=
  let s1 := s.modCap n (fun x => { x with n := x.n + 1, first := some (x.first.getD t), lastT := t
                                          lost := x.lost || lostb, taint := x.taint || taint })
  let s2 := (if taint then s1.put (TK_STAT_TAINT tk) 1 else s1).inc (CH_STAMPCNT_COUNT n)
  let k := s2.take tk
  if k.stop = 0 ∧ k.count ≤ (s2.cap n).n then
    let s3 := s2.put (CH_EVSTAT_CLOSED n) 1
    if k.chans.all (fun m => s3.bit (CH_EVSTAT_CLOSED m)) then
      let s4 := s3.setStop tk (k.chans.foldl (fun a m => max a (s3.cap m).lastT) t + 1)
      if s4.takeState tk = 4 then s4.takeStop tk else s4
    else s3
  else s2

/-- Does a stamp of a channel lie in its take's window (08, R246)? -/
def State.inWindow (s : State) (tk n : Nat) (t : Int) : Bool :=
  let k := s.take tk
  let st := s.takeState tk
  (st == 3 || st == 4) && k.chans.contains n && k.tstart.any (fun a => decide (a ≤ t)) && k.tstop.all (fun v => decide (t < v)) &&
    !s.bit (CH_EVSTAT_CLOSED n)

/-- A stamp in the window goes to the histogram, or to the reel, the interval units and the regression sums. -/
def State.admitStamp (s : State) (tk n : Nat) (x : Stamp) (taint lostb : Bool) : State :=
  if s.bit (CH_CALCTRL_HIST n) then
    let i := x.stamper * 256 + x.bin
    (s.modCap n (fun c => { c with hist := tabSet 0 c.hist i ((tabGet 0 c.hist i + 1) % 2 ^ 32) })).countStamp tk n x.t taint lostb
  else
    let raw := (s.take tk).raw
    let r := s.writeRecord n tk raw true [(stampWord raw x taint lostb, false)]
    match r.2 with
    | .full => r.1.reelFull tk x.t
    | .done => ((r.1.countStamp tk n x.t taint lostb).ivFeed tk n x taint lostb).rgAdd n x.t taint lostb

/-- A stamp of a take in its turn: it enters the take if it lies in the window (08, R246). -/
def State.takeStamp (s : State) (tk n : Nat) (x : Stamp) (taint : Bool) : State :=
  if s.inWindow tk n x.t then s.admitStamp tk n x taint (x.lostAt.any (fun l => decide ((s.take tk).tstart.getD 0 ≤ l))) else s

/-- A slate of a take in its turn (08, R234, R251). -/
def State.takeSlate (s : State) (tk n : Nat) (t : Int) (x : Slate) (taint : Bool) : State :=
  let r := s.writeRecord n tk x.raw false (x.words taint (x.lostb (s.take tk).tstart))
  match r.2 with
  | .full => r.1.reelFull tk t
  | .done => r.1

/-- A stamp or slate of a take in its turn. -/
def State.takeItem (s : State) (tk : Nat) (m : Merged) : State :=
  match m.body with
  | .stamp n x => s.takeStamp tk n x m.taint
  | .slate n x => s.takeSlate tk n m.t x m.taint
  | .comp _ => s

/-- Would a waiting stamp or slate not fit its reel under STOP (08, R251)? -/
def State.tooLong (s : State) (m : Merged) : Bool :=
  match m.body with
  | .stamp n _ => s.overfull n 1
  | .slate n _ => s.overfull n 2
  | .comp _ => false

/-- The next stamp or slate of a take: in the order of time; of one time, first one that does not fit, whose time t_stop
becomes, and then in the order of arrival. -/
def State.mergeNext (s : State) (tk : Nat) : Option Merged :=
  (s.take tk).merge.foldl (fun a m => match a with
    | none => some m
    | some b => if m.t < b.t ∨ (m.t = b.t ∧ s.tooLong m ∧ s.tooLong b = false) then some m else some b) none

/-- The stamps and slates of a take, in the order of their times over all its channels, up to what is safe: a word that does not
fit under STOP then meets no later one of the take in a reel or in a result (08, R246, R251; 09, R263, R282). -/
def State.mergeRun (s : State) (tk : Nat) : Nat → State
  | 0 => s
  | k + 1 => match s.mergeNext tk with
    | none => s
    | some m =>
      if (s.take tk).chans.all (fun n => decide (m.t < s.safeBefore n)) then
        ((s.modTake tk (fun x => { x with merge := x.merge.erase m })).takeItem tk m).mergeRun tk k
      else s

/-- A stamp or slate of a take leaves its bank's taint stage: it waits until no earlier one of the take can come. -/
def State.enterMerge (s : State) (tk : Nat) (m : Merged) : State :=
  let s1 := s.modTake tk (fun x => { x with merge := x.merge ++ [m] })
  (s1.mergeRun tk (s1.take tk).merge.length).ivAdvance tk

/-- A stamp leaves the taint stage. -/
def State.releaseStamp (s : State) (n : Nat) (x : Stamp) (taint : Bool) : State :=
  match s.takeOf n with
  | none => s
  | some tk => s.enterMerge tk { t := x.t, body := .stamp n x, taint := taint }

/-- A slate leaves the taint stage; that of a take that has closed is written at once (08, R234, R251, R254). -/
def State.releaseSlate (s : State) (n coarse : Nat) (x : Slate) (taint : Bool) : State :=
  if x.left = 0 then s.enterMerge x.take { t := 4096 * (coarse : Int), body := .slate n x, taint := taint }
  else
    let s1 := (s.writeRecord n x.take x.raw false (x.words taint x.lostAt.isSome)).1
    if x.left = 2 then s1.markLast x.take n else s1

/-- TAINT_STAGE_RELEASE: the oldest item of a bank's stage has waited the guard time; its mark is final (01, R31, R32;
04, R120). -/
def taintStageRelease (s : State) (b : Nat) (it : StageItem) : State :=
  let s1 := (s.tbTo b (it.enter + s.guardOf b)).modBank b (fun x => { x with stage := x.stage.drop 1 })
  match it.body with
  | .comp c => s1.deliver c (c.banks.any (fun d => s1.tainted d it.time))
  | .stamp n x => s1.releaseStamp n x (s1.tainted b it.time)
  | .slate n x => s1.releaseSlate n it.time x (s1.tainted b it.time)

def execTaintStageRelease (b : Fin 8) (s : State) : Host.Outcome State Fault Refusal :=
  match (s.bank b).stage with
  | [] => .next s
  | it :: _ => if s.get (BNK_STAT_DLLSTATE b) ≠ 0 then .next (taintStageRelease s b it) else .next s

end Sys2Proof.Machine
end

