-- ==== Sys2Proof/Machine/Rings.lean ====
section
/-! DEFINITION. Drain rings (08_event_capture_and_stamping.md, R254 to R259). -/

set_option Elab.async false

namespace Sys2Proof.Machine

/-- Ring sizes; a value outside 4 to 16 acts as the nearest limit (08, R262). -/
def ringLog (v : Nat) : Nat := max 4 (min 16 v)

/-- BUSY and OPEN show the open buffers (08, R262). -/
def State.showRing (s : State) (r : Nat) : State :=
  let k := (s.ring r).bufs.length
  (s.put (DR_STAT_OPEN r) k).put (DR_STAT_BUSY r) (b2n (k != 0))

/-- A completion's bytes (08, R254). -/
def RingComp.bytes (c : RingComp) (phase : Nat) : List Nat :=
  leBytes 4 c.cookie ++ leBytes 4 c.words ++ leBytes 2 c.ch ++ [c.take % 256, c.flags + 128 * phase] ++ [0, 0, 0, 0]

/-- Entries of a ring's completion ring (08, R262). -/
def State.ringSize (s : State) (r : Nat) : Nat := 2 ^ ringLog (s.get (DR_SIZE_CLOG r))

/-- The completion ring is full (08, R257). -/
def State.ringFull (s : State) (r : Nat) : Bool :=
  decide (s.ringSize r ≤ (s.get (DR_CHEAD_CNT r) + 2 ^ 32 - s.get (DR_CTAIL_CNT r)) % 2 ^ 32)

/-- Write the completions that wait while the ring has room and the device may master the bus (08, R255, R257; 14, R416): CFULL is set as
soon as the ring is full. -/
def State.ringComps (s0 : State) (r : Nat) : List RingComp → State
  | [] => (if s0.ringFull r then s0.put (DR_STAT_CFULL r) 1 else s0).modRing r (fun x => { x with wait := [] })
  | c :: t =>
    let s := if s0.ringFull r then s0.put (DR_STAT_CFULL r) 1 else s0
    let head := s.get (DR_CHEAD_CNT r)
    let size := s.ringSize r
    if s.ringFull r ∨ s.dmaOn = false then s.modRing r (fun x => { x with wait := c :: t })
    else
      let base := s.get (DR_CBASELO_ADDR r) / 16 * 16 + s.get (DR_CBASEHI_ADDR r) * 2 ^ 32
      let phase := 1 - head / size % 2
      let s1 := (s.emit (.dma (base + head % size * 16) (c.bytes phase))).incWrap (DR_CHEAD_CNT r)
      let u := (s1.ring r).unsig + 1
      let s2 := if max 1 (s1.get (DR_CTRL_COAL r)) ≤ u then (s1.modRing r (fun x => { x with unsig := 0 })).irq (64 + r)
        else s1.modRing r (fun x => { x with unsig := u })
      s2.ringComps r t

/-- A completion joins those that wait. -/
def State.ringComp (s : State) (r : Nat) (c : RingComp) : State := s.ringComps r ((s.ring r).wait ++ [c])

/-- An open buffer closes (08, R255): `ended` says that it holds the last word of a take that reached DONE. -/
def State.closeBuf (s : State) (r : Nat) (b : Buf) (ended : Bool) : State :=
  let x := s.cap b.ch
  let flags := b2n ended + 2 * b2n x.ovfC + 4 * b2n b.taint + 8 * b2n b.raw
  let s1 := (s.modRing r (fun y => { y with bufs := y.bufs.filter (fun c => c.ch != b.ch) })).modCap b.ch (fun y => { y with ovfC := false })
  (s1.ringComp r { cookie := b.cookie, words := b.words, ch := b.ch, take := b.take, flags := flags }).showRing r

/-- Channels of a ring that hold words for it and have no open buffer (08, R256). -/
def State.waitingChans (s : State) (r : Nat) : List Nat :=
  (List.range 512).filter (fun n => s.get (CH_RCFG_RING n) == r && !s.drainWin n && s.reelCount n != 0 &&
    (s.ring r).bufs.all (fun b => b.ch != n))

/-- When the oldest unsent word of a channel was written. -/
def State.oldestSeq (s : State) (n : Nat) : Nat := ((s.cap n).word (s.get (CH_RTAIL_IDX n))).seq

/-- The waiting channel whose oldest unsent word came first; ties go to the lower number (08, R256). -/
def State.firstWaiting (s : State) (r : Nat) : Option Nat :=
  (s.waitingChans r).foldl (fun a n => match a with
    | none => some n
    | some m => if s.oldestSeq n < s.oldestSeq m then some n else some m) none

/-- A ring runs and is not paused by a full completion ring (08, R257) or by the endpoint (14, R416). -/
def State.ringGoes (s : State) (r : Nat) : Bool := s.bit (DR_CTRL_EN r) && (s.ring r).wait.isEmpty && !s.ringFull r && s.dmaOn

/-- Every channel that waits for a descriptor is counted once (08, R256, R257). -/
def State.starve (s : State) (r : Nat) : State :=
  let new := (s.waitingChans r).filter (fun n => !(s.ring r).starved.contains n)
  ((s.incBy (DR_STARVE_COUNT r) new.length).put (DR_STAT_STARVE r) 1).modRing r (fun x => { x with starved := x.starved ++ new })

/-- The address of the descriptor that a ring consumes next: the entry DHEAD modulo 2^DLOG (08, R254, R255, R262). -/
def State.descAt (s : State) (r : Nat) : Nat :=
  s.get (DR_DBASELO_ADDR r) / 64 * 64 + s.get (DR_DBASEHI_ADDR r) * 2 ^ 32 + s.get (DR_DHEAD_CNT r) % 2 ^ ringLog (s.get (DR_SIZE_DLOG r)) * 16

/-- BUFFER_OPEN: `addr`, `len` and `cookie` are the next descriptor's fields (08, R254, R256, R259). DESIGN CHOICE: the ERROR completion of
an invalid one, which has no word, names the take and the mode of the word that would have come first. -/
def bufferOpen (s : State) (r n addr len cookie : Nat) : State :=
  let w := (s.cap n).word (s.get (CH_RTAIL_IDX n))
  let s1 := (s.emit (.dmaRead (s.descAt r) 16)).incWrap (DR_DHEAD_CNT r)
  if len % 64 ≠ 0 ∨ len = 0 ∨ 1048576 < len then
    ((s1.put (DR_STAT_DESCERR r) 1).modCap n (fun x => { x with ovfC := false })).ringComp r
      { cookie := cookie, words := 0, ch := n, take := w.take, flags := 2 * b2n (s.cap n).ovfC + 8 * b2n w.raw + 16 }
  else
    let b : Buf := { ch := n, addr := addr / 64 * 64, len := len, cookie := cookie, words := 0, take := w.take, raw := w.raw, taint := false }
    (s1.modRing r (fun x => { x with bufs := x.bufs ++ [b], starved := x.starved.filter (fun m => m != n) })).showRing r

def execBufferOpen (r : Fin 64) (addr len cookie : Nat) (s : State) : Host.Outcome State Fault Refusal :=
  match s.firstWaiting r with
  | none => .next s
  | some n =>
    if s.ringGoes r = false ∨ 16 ≤ (s.ring r).bufs.length then .next s
    else if s.get (DR_DTAIL_CNT r) = s.get (DR_DHEAD_CNT r) then .next (s.starve r)
    else .next (bufferOpen s r n addr len cookie)

/-- The words of a burst: up to `k`, ending at a take's last word. -/
def Cap.burst (x : Cap) (i : Nat) : Nat → List RWord
  | 0 => []
  | k + 1 => let w := x.word i; if w.last then [w] else w :: x.burst (i + 1) k

/-- A buffer has something to do. -/
def State.bufActive (s : State) (b : Buf) : Bool := b.ended || s.reelCount b.ch != 0

/-- The buffer served next: in channel order from the channel after the one served last (08, R256). -/
def State.nextBuf (s : State) (r : Nat) : Option Buf :=
  let l := (s.ring r).bufs.filter (fun b => s.bufActive b)
  let key (b : Buf) : Nat := (b.ch + 511 - (s.ring r).served) % 512
  l.foldl (fun a b => match a with
    | none => some b
    | some c => if key b < key c then some b else some c) none

/-- DRAIN_BURST: up to 32 words go to the buffer whose turn it is, which closes when it is full or holds a take's last
word (08, R255, R256). -/
def drainBurst (s : State) (r : Nat) (b : Buf) : State :=
  let s0 := s.modRing r (fun x => { x with served := b.ch })
  if b.ended then s0.closeBuf r b true
  else
    let i := s.get (CH_RTAIL_IDX b.ch)
    let ws := (s.cap b.ch).burst i (min 32 (min (s.reelCount b.ch) (b.len / 8 - b.words)))
    let f := ws.headD RWord.init
    let z := ws.getLastD RWord.init
    let b1 := { b with seq := z.seq, ended := z.last, take := if b.words = 0 then f.take else b.take, raw := if b.words = 0 then f.raw else b.raw, words := b.words + ws.length, taint := b.taint || ws.any (fun w => !w.pay && w.w / 2 ^ 63 % 2 == 1) }
    let s1 := (s0.emit (.dma (b.addr + 8 * b.words) (ws.flatMap (fun w => leBytes 8 w.w)))).put (CH_RTAIL_IDX b.ch) (i + ws.length)
    let s2 := s1.modRing r (fun x => { x with bufs := x.bufs.map (fun c => if c.ch = b.ch then b1 else c) })
    if b1.ended ∨ b1.len ≤ 8 * b1.words then s2.closeBuf r b1 b1.ended else s2

def execDrainBurst (r : Fin 64) (s : State) : Host.Outcome State Fault Refusal :=
  match s.nextBuf r with
  | none => .next s
  | some b => if s.ringGoes r then .next (drainBurst s r b) else .next s

/-- BUFFER_FLUSH_TIMEOUT (08, R255). -/
def execBufferFlushTimeout (r : Fin 64) (n : Fin 512) (s : State) : Host.Outcome State Fault Refusal :=
  match (s.ring r).bufs.find? (fun b => b.ch == n.val && b.words != 0) with
  | none => .next s
  | some b => .next (s.closeBuf r b b.ended)

/-- DRAIN_EVENT_TIMEOUT (08, R257). -/
def execDrainEventTimeout (r : Fin 64) (s : State) : Host.Outcome State Fault Refusal :=
  if (s.ring r).unsig = 0 then .next s else .next ((s.modRing r (fun x => { x with unsig := 0 })).irq (64 + r.val))

/-! ### Register writes (08, R255, R259, R262) -/

/-- A write of DRr_CTRL: a start keeps the drain mode (01, R26); clearing EN closes the open buffers with their words. -/
def State.drCtrlWrite (s : State) (r : Nat) (w : Word) : State :=
  let s1 := s.writeReg (DR_CTRL r) w fullMask
  if wbit w 31 then (if s.bit (DR_CTRL_EN r) then s1 else s1.modRing r (fun x => { x with win := s.bit GLB_MODE_DRAINWIN }))
  else ((s1.ring r).bufs.foldl (fun t b => t.closeBuf r b b.ended) s1).modRing r (fun x => { x with starved := [] })

def execDrEnWrite (src : Source) (r : Fin 64) (w : Word) (s : State) : Host.Outcome State Fault Refusal :=
  .next (s.rowWrite src (DR_CTRL r) w (fun u => u.drCtrlWrite r w))

def execDtailWrite (src : Source) (r : Fin 64) (w : Word) (s : State) : Host.Outcome State Fault Refusal :=
  .next (s.rowWrite src (DR_DTAIL r) w (fun u => u.writeReg (DR_DTAIL r) w fullMask))

/-- A write of DRr_CTAIL frees entries; completions that wait are written. -/
def State.ctailWrite (s : State) (r : Nat) (w : Word) : State :=
  let s1 := s.writeReg (DR_CTAIL r) w fullMask
  s1.ringComps r (s1.ring r).wait

def execCtailWrite (src : Source) (r : Fin 64) (w : Word) (s : State) : Host.Outcome State Fault Refusal :=
  .next (s.rowWrite src (DR_CTAIL r) w (fun u => u.ctailWrite r w))

/-- A write of DBASELO, DBASEHI, SIZE, CBASELO or CBASEHI (08, R262). -/
def State.drCfgWrite (s : State) (r a : Nat) (w : Word) : State :=
  if s.bit (DR_CTRL_EN r) then s.put (DR_STAT_CFGREF r) 1 else s.writeReg a w fullMask

end Sys2Proof.Machine
end

