-- ==== Sys2Proof/Machine/RegRead.lean ====
section
/-! DEFINITION. What a register reads as (00, R11, R12; 16, R463, R466, R467): the word that stands in it, with the fields
that show a unit's state computed from that unit. -/

set_option Elab.async false

namespace Sys2Proof.Machine

/-- A field of a word replaced. -/
def setField (w : Nat) (r : Ref) (v : Nat) : Nat := fieldPut w r.lo r.len v

/-- A mask of the members of a list below 32 for which a predicate holds. -/
def maskOf (k : Nat) (f : Nat → Bool) : Nat := (List.range k).foldl (fun m i => if f i then m + 2 ^ i else m) 0

/-- SYNn (02, R67, R71; 03, R82): PHBUSY, the band table's entry, the indexed segment. -/
def State.synShow (s : State) (n a w : Nat) : Nat :=
  if a = SYN_STAT n then setField w (SYN_STAT_PHBUSY n) (b2n (s.phBusy n))
  else if a = SYN_BTDATA n then s.bandEntry n (s.get (SYN_BTIDX_INDEX n))
  else if a = SYN_RSLO n then s.segRead n 0
  else if a = SYN_RSHI n then s.segRead n 1
  else if a = SYN_RSSLOPE n then s.segRead n 2
  else if a = SYN_RSDWELL n then s.segRead n 3
  else w

/-- BNKb (04, R129; 06, R191). DESIGN CHOICE: BUSY reads 1 from the engine's take of a cue to the cue's completion. -/
def State.bnkShow (s : State) (b a w : Nat) : Nat :=
  if a = BNK_STAT b then setField w (BNK_STAT_IDLE b) (b2n (s.bankIdle b))
  else if a = BNK_TSRC b then s.taintSrc b
  else if a = BNK_CUESTAT b then
    let q := ((s.bank b).cueq.filter HubItem.isCmd).length
    setField (setField w (BNK_CUESTAT_BUSY b) (b2n (!(s.bank b).jobs.isEmpty))) (BNK_CUESTAT_QDEPTH b) (min q 255)
  else w

/-- GRPg (04, R130; 06, R192; 07, R225). -/
def State.grpShow (s : State) (g a w : Nat) : Nat :=
  if a = GRP_STAT g then
    setField (setField w (GRP_STAT_BANKS g) (maskOf 8 (fun b => (s.memberBanks g).contains b))) (GRP_STAT_LEAD g) (s.leadBank g)
  else if a = GRP_MBRCNT g then (s.members g).length
  else if a = GRP_SHDSLOTS g then s.pendSet g
  else if a = GRP_SELSTAT g then setField w (GRP_SELSTAT_FILL g) (s.selFill g)
  else if a = GRP_NEXTLO g then (s.group g).next % 2 ^ 32
  else if a = GRP_NEXTHI g then (s.group g).next / 2 ^ 32 % 2 ^ 16
  else if a = GRP_HALT g then setField w (GRP_HALT_SPLIT g) (b2n (s.split g))
  else w

/-- A cycle of the channel runs; before the first and after a stop the modulation stands as it will go on. -/
def Chan.inCycle (x : Chan) : Bool := x.cyc.on && !x.cyc.win.isEmpty

/-- CHn (05, R158; 06, R190; 08, R261; 10, R323). -/
def State.chShow (s : State) (n a w : Nat) : Nat :=
  let x := s.chan n
  if a = CH_LVOID n then maskOf 32 (fun i => (x.cyc.liveSlot i).void)
  else if a = CH_SVOID n then maskOf 32 (fun i => (x.cyc.shadow i).pend && (x.cyc.shadow i).void)
  else if a = CH_SPEND n then x.cyc.pendMask
  else if a = CH_SLOTINFO n then
    let i := s.get (CH_SLOTIDX_SLOT n)
    let l := x.cyc.liveSlot i
    let h := x.cyc.shadow i
    b2n l.void * 2 ^ 31 + b2n h.pend * 2 ^ 30 + b2n (h.pend && h.void) * 2 ^ 29 + b2n l.lzero * 2 ^ 28 + h.ctx % 2048 * 2 ^ 16 + l.ctx % 2048
  else if a = CH_PMRLO n then wrapNat 64 (if x.inCycle then x.md.nowR else x.md.rr) % 2 ^ 32
  else if a = CH_PMRHI n then wrapNat 64 (if x.inCycle then x.md.nowR else x.md.rr) / 2 ^ 32
  else if a = CH_PMSTAT n then
    b2n x.md.armed.isSome * 2 ^ 31 + b2n (x.inCycle && x.md.nowRamp) * 2 ^ 30 +
      b2n (if x.inCycle then x.md.nowSs else x.md.ssRun) * 2 ^ 29 + (if x.inCycle then x.md.nowK else x.md.kk) % 2 ^ 24
  else if a = CH_EVSTAT n then setField w (CH_EVSTAT_FULL n) (b2n (decide (s.reelCount n = 1024)))
  else if a = CH_CALSTAT n then
    setField w (CH_CALSTAT_DBUSY n) (b2n ((List.range 32).any (fun i => s.word (CH_DINLT n i) != s.word (CH_DINLA n i))))
  else w

/-- MBX (14, R417, R438; the MSI-X structures). -/
def State.mbxShow (s : State) (a w : Nat) : Nat :=
  let o := a - 0x40000
  if 0x100 ≤ o ∧ o < 0x140 then maskOf 32 (fun i => s.chLevel (8 * (o - 0x100) + i))
  else if 0x1000 ≤ o ∧ o < 0x2000 ∧ o % 0x40 = 0x20 then
    let f := (o - 0x1000) / 0x40
    setField w (FL_STAT_INFLIGHT f) (((s.flow f).cmds.filter (fun c => !c.orphan)).length)
  else if 0x8000 ≤ o ∧ o < 0x9000 then tabGet (msixReset ((o - 0x8000) / 4)) s.msix ((o - 0x8000) / 4)
  else if 0x9000 ≤ o ∧ o < 0x9020 then maskOf 32 (fun i => tabGet false s.msixPend (8 * (o - 0x9000) + i))
  else w

/-- The word that a read of an address returns. -/
def State.readWord (s : State) (a : Nat) : Nat :=
  let w := hideWo (fieldsAt a) (s.word a).toNat
  if a < 0x40000 then w
  else if a < 0x50000 then s.mbxShow a w
  else if a < 0x80000 then w
  else if a < 0x90000 then s.synShow ((a - 0x80000) / 0x4000) a w
  else if a < 0xA0000 then w
  else if a < 0xB0000 then s.bnkShow ((a - 0xA0000) / 0x2000) a w
  else if a < 0xE0000 then w
  else if a < 0xE4000 then s.grpShow ((a - 0xE0000) / 0x100) a w
  else if a = REG_STAT then b2n (!s.regQ.isEmpty) * 2 ^ 31 + (s.regQ.length - 1) % 2 ^ 10
  else if 0x105000 ≤ a ∧ a < 0x107000 ∧ a % 0x80 = 0x64 then (s.iv ((a - 0x105000) / 0x80)).fifo.headD 0 % 2 ^ 32
  else if 0x105000 ≤ a ∧ a < 0x107000 ∧ a % 0x80 = 0x68 ∧ (s.iv ((a - 0x105000) / 0x80)).fifo.isEmpty then 0
  else if a < 0x200000 then w
  else if a < 0x400000 then s.chShow ((a - 0x200000) / 0x1000) a w
  else w

end Sys2Proof.Machine
end

