-- ==== Sys2Proof/Machine/Mailbox.lean ====
section
/-! DEFINITION. Mailbox flows, the scheduler, completions and the commands of the timing plane and of measurement
(14_mailboxes_and_commands.md, R419 to R431). -/

set_option Elab.async false

namespace Sys2Proof.Machine

/-! ### Entries (14, R422, R429) -/

/-- The field of an entry at a byte offset, of a number of bytes. -/
def ent (e off len : Nat) : Nat := e / 2 ^ (8 * off) % 2 ^ (8 * len)

def entOp (e : Nat) : Nat := ent e 0 2
def entFence (e : Nat) : Bool := ent e 2 1 % 2 == 1
def entTag (e : Nat) : Nat := ent e 4 2
def entAddr (e : Nat) : Nat := ent e 8 8
def entLen (e : Nat) : Nat := ent e 16 4

/-- The opcodes of R429. -/
def mbxOps : List Nat :=
  [0x0000, 0x0001, 0x0100, 0x0101, 0x0102, 0x0110, 0x0111, 0x0112, 0x0113, 0x0114, 0x0115, 0x0120, 0x0121, 0x0200, 0x0201,
   0x0202, 0x0210, 0x0211, 0x0212, 0x0300, 0x0301, 0x0302, 0x0310, 0x0311, 0x0312, 0x0320, 0x0400, 0x0401, 0x0402, 0x0403,
   0x0404, 0x0405, 0x0500, 0x0501, 0x0502, 0x0600, 0x0601, 0x0602, 0x0610, 0x0611, 0x0612]

/-- Is a command PRIV (14, R429)? -/
def entPriv (e : Nat) : Bool :=
  let op := entOp e
  if op = 0x0300 then ent e 20 1 == 1 || ent e 20 1 == 6
  else op == 0x0120 || op == 0x0121 || decide (0x0302 ≤ op)

/-- The groups, the channels and the rest that a command names (14, R424, R429); channels and groups that do not exist are
named by none. -/
def entGroups (e : Nat) : List Nat :=
  let op := entOp e
  if op = 0x0102 ∨ (0x0110 ≤ op ∧ op ≤ 0x0115) then (if ent e 20 2 < 64 then [ent e 20 2] else []) else []

def entChans (e : Nat) : List Nat :=
  let op := entOp e
  let l := if op = 0x0100 ∨ op = 0x0101 then [ent e 20 2]
    else if op = 0x0102 then (List.range (min 512 (ent e 26 2))).map (fun i => ent e 24 2 + i)
    else if op = 0x0211 ∨ op = 0x0212 then (List.range (min 512 (ent e 22 2))).map (fun i => ent e 20 2 + i)
    else if op = 0x0300 ∧ (ent e 20 1 = 4 ∨ ent e 20 1 = 5) then [ent e 22 2]
    else []
  l.filter (fun n => decide (n < 512))

/-- A key of a command (14, R424). -/
inductive Key where
  | group (g : Nat)
  | chan (n : Nat)
  | take (t : Nat)
  | unit (i : Nat)
  /-- the channels in the buffer of a CAL_RUN, which no step has read yet: it overlaps every group and channel -/
  | buffer
  | device
  deriving DecidableEq, Repr

/-- The group of a channel, if it is in one. -/
def State.chanGroup (s : State) (n : Nat) : Option Nat := if s.bit (CH_GRP_MEMBER n) then some (s.groupOf n) else none

/-- The keys of an entry (14, R424). Roots and banks are named by PRIV commands only. -/
def State.keys (s : State) (e : Nat) : List Key :=
  if entPriv e then [.device]
  else
    (entGroups e).map (fun g => Key.group g) ++ (entChans e).map (fun n => match s.chanGroup n with
      | some g => Key.group g
      | none => Key.chan n) ++
    (if 0x0200 ≤ entOp e ∧ entOp e ≤ 0x0202 then [Key.take (ent e 20 1)] else []) ++
    (if entOp e = 0x0210 then [Key.unit (ent e 20 1)] else []) ++
    (if entOp e = 0x0300 then [Key.buffer] else [])

/-- A key of a group or of channels. -/
def Key.isChan : Key → Bool
  | .group _ | .chan _ | .buffer => true
  | _ => false

/-- Do two sets of keys overlap? DESIGN CHOICE, log entry 131: a CAL_RUN of families 2 to 5 overlaps whatever names a group or a channel, for
its channels stand in a buffer that is read when it runs. -/
def keysOverlap (a b : List Key) : Bool :=
  (!a.isEmpty && !b.isEmpty && (a.contains .device || b.contains .device)) ||
    (a.contains .buffer && b.any Key.isChan) || (b.contains .buffer && a.any Key.isChan) || a.any (fun k => b.contains k)

/-! ### Partitions (14, R428, R430) -/

def State.groupIn (s : State) (f g : Nat) : Bool :=
  (if g < 32 then s.get (FL_PARTLO_MASK f) / 2 ^ g else s.get (FL_PARTHI_MASK f) / 2 ^ (g - 32)) % 2 == 1

def State.chanIn (s : State) (f n : Nat) : Bool :=
  match s.chanGroup n with
  | some g => s.groupIn f g
  | none => s.bit (FL_CTRL_PRIV f)

/-- A command lies in its flow's partition. -/
def State.partitionOk (s : State) (f e : Nat) : Bool :=
  let op := entOp e
  (!entPriv e || s.bit (FL_CTRL_PRIV f)) && (entGroups e).all (fun g => s.groupIn f g) && (entChans e).all (fun n => s.chanIn f n) &&
    (op != 0x0200 || (s.joined (ent e 20 1)).all (fun n => s.chanIn f n)) &&
    (op != 0x0210 || decide (64 ≤ ent e 20 1) ||
      (s.chanIn f (s.get (IV_CH_STARTCH (ent e 20 1))) && s.chanIn f (s.get (IV_CH_STOPCH (ent e 20 1)))))

/-! ### Commands in a flow -/

def State.modCmd (s : State) (f c : Nat) (g : Cmd → Cmd) : State :=
  s.modFlow f (fun x => { x with cmds := x.cmds.map (fun k => if k.id = c then g k else k) })

/-- The commands of a flow whose completions the host will see. -/
def Flow.mine (x : Flow) : List Cmd := x.cmds.filter (fun k => !k.orphan)

def CmdSt.busy (x : CmdSt) : Bool := x == .running || x == .started

/-- Finish with a code and nothing to report. -/
def State.failCmd (s : State) (f c code : Nat) : State := s.finishCmd f c code false false 0 0

/-- Finish with OK and a RESULT. -/
def State.okCmd (s : State) (f c res : Nat) : State := s.finishCmd f c Code.OK false false 0 res

/-! ### The scheduler (14, R424, R426, R435) -/

def State.ringLogOf (s : State) (f : Nat) (r : Ref) : Nat := if s.bit (FL_CTRL_LOC f) then 6 else max 4 (min 12 (s.get r))

/-- May the next entry of a flow be fetched? -/
def State.fetchable (s : State) (f : Nat) : Bool :=
  s.bit (FL_CTRL_EN f) && s.get (FL_SQTAIL_CNT f) != s.get (FL_SQHEAD_CNT f) && decide ((s.flow f).mine.length < 32) &&
    (s.bit (FL_CTRL_LOC f) || s.dmaOn) && decide ((s.flows.map (fun p => p.2.mine.length)).sum < 512)

/-- The flow whose turn it is: the first after the one fetched last. -/
def State.nextFlow (s : State) : Option Nat :=
  ((List.range 64).map (fun i => (s.sched.turn + 1 + i) % 64)).find? (fun f => s.fetchable f)

/-- Bytes of a small ring. -/
def ringBytes (r : Tab Nat) (off len : Nat) : List Nat := (List.range len).map (fun i => tabGet 0 r (off + i))

/-- Fetch the entry that is next in turn; `entry` is what host memory holds there (14, R419, R421, R426, R427). -/
def State.fetchOne (s : State) (entry : Nat) : State :=
  match s.nextFlow with
  | none => s
  | some f =>
    let x := s.flow f
    let c := s.get (FL_SQHEAD_CNT f)
    let e := if s.bit (FL_CTRL_LOC f) then ofLe (ringBytes x.ring (0x1000 + 64 * (c % 64)) 64) else entry
    let k : Cmd := { id := x.nextId, cnt := c, entry := e, st := .waiting, rdy := 0, age := 0, took := 0, cancel := false, orphan := false,
                     code := 0, taint := false, data := false, aux := 0, res := 0 }
    let s1 := (s.setFlow f { x with cmds := x.cmds ++ [k], nextId := x.nextId + 1, cancels := x.cancels.filter (fun i => i != c) }).incWrap (FL_SQHEAD_CNT f)
    let s2 := { s1 with sched := { s1.sched with turn := f } }
    if x.cancels.contains c then s2.failCmd f x.nextId Code.CANCELLED else s2

/-- Commands whose keys and fence let them start become ready, in order (14, R424); those that an endpoint reset left running still hold
back what overlaps them. -/
def State.promote (s : State) (f : Nat) : State :=
  ((s.flow f).cmds.foldl (fun (p : State × List Cmd) (k : Cmd) =>
    let earlier := p.2.filter (fun q => decide (q.st ≠ .finished))
    let free : Bool := if entFence k.entry then earlier.isEmpty else earlier.all (fun q => !keysOverlap (s.keys q.entry) (s.keys k.entry))
    let s1 : State := if k.st = CmdSt.waiting ∧ free = true then
        let r := p.1.sched.nextRdy
        let u := p.1.modCmd f k.id (fun y => { y with st := .ready, rdy := r, age := 0 })
        { u with sched := { u.sched with nextRdy := r + 1 } }
      else if k.st = .ready then p.1.modCmd f k.id (fun y => { y with age := y.age + 1 })
      else p.1
    (s1, p.2 ++ [k])) (s, [])).1

/-- A PWR_STATE command or a change of the device state is under way: nothing else is dispatched (12, R367; 14, R435). -/
def State.stateChange (s : State) : Bool :=
  s.bit PWR_STATE_BUSY || s.flows.any (fun p => p.2.cmds.any (fun k => k.st.busy && entOp k.entry == 0x0500))

/-- The ready commands that may go to a core, with their flows: up to 4 of a flow run at once (14, R424). -/
def State.candidates (s : State) : List (Nat × Cmd) :=
  s.flows.flatMap (fun p =>
    if (p.2.cmds.filter (fun k => k.st.busy)).length < 4 then (p.2.mine.filter (fun k => k.st == .ready)).map (fun k => (p.1, k)) else [])

/-- The core that a ready command gets: the one that last ran its flow, if it asks; after 2 cycles the first that asks. -/
def State.coreFor (s : State) (f : Nat) (k : Cmd) : Option Nat :=
  match (s.flow f).core with
  | some c => if s.sched.asking.contains c then some c else if 2 ≤ k.age then s.sched.asking.head? else none
  | none => s.sched.asking.head?

/-- The oldest ready command that has a core. -/
def State.pick (s : State) : Option (Nat × Cmd × Nat) :=
  s.candidates.foldl (fun a q =>
    match s.coreFor q.1 q.2 with
    | none => a
    | some c => match a with
      | none => some (q.1, q.2, c)
      | some b => if q.2.rdy < b.2.1.rdy then some (q.1, q.2, c) else a) none

/-- A timing command's refusal counts at its group (06, R184, R507). -/
def State.timingRefused (s : State) (e : Nat) : State :=
  if 0x0110 ≤ entOp e ∧ entOp e ≤ 0x0115 ∧ ent e 20 2 < 64 then s.noteRefusal (ent e 20 2) Code.PARTITION else s

/-- Dispatch one command; an unknown opcode and a command outside its partition are refused (14, R428, R429). -/
def State.dispatch (s : State) : State :=
  if s.stateChange then s
  else
    match s.pick with
    | none => s
    | some (f, k, c) =>
      let s1 := { s with sched := { s.sched with asking := s.sched.asking.filter (fun i => i != c), nextTook := s.sched.nextTook + 1 } }
      let s2 := (s1.modCmd f k.id (fun y => { y with st := .running, took := s.sched.nextTook })).modFlow f (fun x => { x with core := some c })
      if mbxOps.contains (entOp k.entry) = false then s2.failCmd f k.id Code.BAD_OPCODE
      else if s2.partitionOk f k.entry = false then (s2.timingRefused k.entry).failCmd f k.id Code.PARTITION
      else s2

/-- SCHEDULING_CYCLE: one fetch and one dispatch; `asks` are the cores that begin to ask, `entry` what host memory holds at
the entry fetched. -/
def schedulingCycle (s : State) (entry : Nat) (asks : List Nat) : State :=
  let new := asks.filter (fun c => !s.sched.asking.contains c && !s.jtag.halted.contains c)
  let s1 := { s with sched := { s.sched with asking := s.sched.asking ++ new } }
  ((s1.flows.foldl (fun u p => u.promote p.1) (s1.fetchOne entry))).dispatch

/-- The scheduler and the cores run on CORE's clock (12, R351); a halted core asks for nothing (13, R403). -/
def execSchedulingCycle (entry : BitVec 512) (asks : List (Fin 4)) (s : State) : Host.Outcome State Fault Refusal :=
  .next (if s.bit (CLK_DOM_STAT_RUN 0) then schedulingCycle s entry.toNat (asks.map (fun c => c.val)) else s)

/-! ### Completions (14, R421, R423, R425) -/

/-- The 16 bytes of a completion. -/
def Cmd.bytes (k : Cmd) (phase : Nat) : List Nat :=
  leBytes 2 (entTag k.entry) ++ leBytes 2 k.cnt ++ [k.code % 256, b2n k.taint + 2 * b2n k.data + 128 * phase] ++ leBytes 2 k.aux ++ leBytes 8 k.res

/-- Write bytes into a small ring. -/
def State.ringWrite (s : State) (f off : Nat) (bytes : List Nat) : State :=
  s.modFlow f (fun x => { x with ring := (bytes.foldl (fun (p : Tab Nat × Nat) b => (tabSet 0 p.1 p.2 b, p.2 + 1)) (x.ring, off)).1 })

/-- A disabled flow with nothing left is no longer active (14, R420). -/
def State.drained (s : State) (f : Nat) : State :=
  if s.bit (FL_CTRL_EN f) = false ∧ (s.flow f).mine.isEmpty then s.put (FL_STAT_ACTIVE f) 0 else s

/-- The completion of the oldest command leaves a flow. -/
def State.dropFirst (s : State) (f id : Nat) : State :=
  (s.modFlow f (fun x => { x with cmds := x.cmds.filter (fun k => k.id != id) })).drained f

/-- Write the completion of a command at the completion ring's tail, and raise the flow's event when it is due. -/
def State.writeCompletion (s : State) (f : Nat) (k : Cmd) : State :=
  let t := s.get (FL_CQTAIL_CNT f)
  let lg := s.ringLogOf f (FL_SIZE_CLOG f)
  let bytes := k.bytes (1 - t / 2 ^ lg % 2)
  let base := s.get (FL_CQBASELO_ADDR f) / 16 * 16 + s.get (FL_CQBASEHI_ADDR f) * 2 ^ 32
  let s1 := if s.bit (FL_CTRL_LOC f) then s.ringWrite f (0x2000 + 16 * (t % 64)) bytes else s.emit (.dma (base + 16 * (t % 2 ^ lg)) bytes)
  let s2 := (s1.incWrap (FL_CQTAIL_CNT f)).dropFirst f k.id
  let u := (s2.flow f).unsig + 1
  if max 1 (s2.get (FL_CTRL_COAL f)) ≤ u then (s2.modFlow f (fun x => { x with unsig := 0 })).irq f
  else s2.modFlow f (fun x => { x with unsig := u })

/-- COMPLETION_WRITE (14, R420, R421, R425, R435): a disabled flow drops a completion that has no room, and its place in the ring with it. -/
def completionWrite (s : State) (f : Nat) (k : Cmd) : State :=
  let used := (s.get (FL_CQTAIL_CNT f) + 2 ^ 32 - s.get (FL_CQHEAD_CNT f)) % 2 ^ 32
  if 2 ^ s.ringLogOf f (FL_SIZE_CLOG f) ≤ used then
    let s1 := s.put (FL_STAT_CFULL f) 1
    if s.bit (FL_CTRL_EN f) then s1 else (s1.incWrap (FL_CQTAIL_CNT f)).dropFirst f k.id
  else if s.bit (FL_CTRL_LOC f) ∨ s.dmaOn then s.writeCompletion f k
  else s

def execCompletionWrite (f : Fin 64) (s : State) : Host.Outcome State Fault Refusal :=
  match (s.flow f).mine with
  | k :: _ => if k.st = .finished then .next (completionWrite s f k) else .next s
  | [] => .next s

/-- FLOW_EVENT_TIMEOUT (14, R425). -/
def execFlowEventTimeout (f : Fin 64) (s : State) : Host.Outcome State Fault Refusal :=
  if (s.flow f).unsig = 0 then .next s else .next ((s.modFlow f (fun x => { x with unsig := 0 })).irq f.val)

/-- ERROR_LOG_EVENT_TIMEOUT (14, R432). -/
def execErrorLogEventTimeout (s : State) : Host.Outcome State Fault Refusal :=
  if s.ep.elUnsig = 0 then .next s else .next (({ s with ep := { s.ep with elUnsig := 0 } }).irq 221)

/-- A write of MBX_ELTAIL (14, R432). -/
def State.eltailWrite (s : State) (w : Word) : State :=
  let t := s.get MBX_ELTAIL_CNT
  if (w.toNat + 2 ^ 32 - t) % 2 ^ 32 ≤ (s.get MBX_ELHEAD_CNT + 2 ^ 32 - t) % 2 ^ 32 then s.writeReg MBX_ELTAIL w fullMask else s

def execEltailWrite (src : Source) (w : Word) (s : State) : Host.Outcome State Fault Refusal := .next (s.rowWrite src MBX_ELTAIL w (fun u => u.eltailWrite w))

/-! ### Flow registers (14, R420, R421) -/

/-- Commands that no core has are cancelled (14, R420). -/
def State.cancelWaiting (s : State) (f : Nat) : State :=
  (s.flow f).mine.foldl (fun u k => if k.st = .waiting ∨ k.st = .ready then u.failCmd f k.id Code.CANCELLED else u) s

/-- A refused write of a flow's configuration (14, R420); one that reaches PRIV of a locked block counts (00, R14). -/
def State.flowRefuse (s : State) (f a : Nat) : State := (s.noteLock a).put (FL_STAT_CFGREF f) 1

/-- A write of FLf_CTRL (14, R420). -/
def State.flowCtrlWrite (s : State) (f : Nat) (w : Word) : State :=
  let old := (s.word (FL_CTRL f)).toNat
  let en := s.bit (FL_CTRL_EN f)
  let act := s.bit (FL_STAT_ACTIVE f)
  let same := decide (Nat.land (Nat.xor old w.toNat) 0x60FFFFFF = 0)
  let ok := (!en && !act) || (same && (en || !wbit w 31))
  if ok = false then s.flowRefuse f (FL_CTRL f)
  else
    let s1 := s.writeReg (FL_CTRL f) w fullMask
    if en = false ∧ wbit w 31 then
      let s2 := (((s1.put (FL_SQTAIL_CNT f) 0).put (FL_CQHEAD_CNT f) 0).put (FL_SQHEAD_CNT f) 0).put (FL_CQTAIL_CNT f) 0
      (s2.put (FL_STAT_ACTIVE f) 1).modFlow f (fun x => { x with unsig := 0, cancels := [] })
    else if en ∧ wbit w 31 = false then (s1.cancelWaiting f).drained f
    else s1

def execFlowCtrlWrite (src : Source) (f : Fin 64) (w : Word) (s : State) : Host.Outcome State Fault Refusal :=
  .next (s.rowWrite src (FL_CTRL f) w (fun u => u.flowCtrlWrite f w))

/-- A write of FLf_SIZE or a ring base (14, R420). -/
def State.flowCfgWrite (s : State) (f a : Nat) (w : Word) : State :=
  if s.bit (FL_CTRL_EN f) ∨ s.bit (FL_STAT_ACTIVE f) then s.flowRefuse f a else s.writeReg a w fullMask

def State.dberr (s : State) (f : Nat) : State := s.put (FL_STAT_DBERR f) 1

/-- A write of FLf_SQTAIL (14, R421; 16, R476). -/
def State.sqtailWrite (s : State) (f : Nat) (w : Word) : State :=
  let ahead := (w.toNat + 2 ^ 32 - s.get (FL_SQHEAD_CNT f)) % 2 ^ 32
  if s.bit (FL_CTRL_EN f) = false ∨ 2 ^ s.ringLogOf f (FL_SIZE_SLOG f) < ahead then s.dberr f
  else s.put (FL_SQTAIL_CNT f) w.toNat

/-- A write of FLf_CQHEAD (14, R421). -/
def State.cqheadWrite (s : State) (f : Nat) (w : Word) : State :=
  let h := s.get (FL_CQHEAD_CNT f)
  if (s.get (FL_CQTAIL_CNT f) + 2 ^ 32 - h) % 2 ^ 32 < (w.toNat + 2 ^ 32 - h) % 2 ^ 32 then s.dberr f
  else s.put (FL_CQHEAD_CNT f) w.toNat

/-! ### Running a command -/

/-- The command of a flow that a core has and whose effect has not begun. -/
def State.running? (s : State) (f c op : Nat) : Option Cmd :=
  (s.flow f).cmds.find? (fun k => k.id == c && k.st == .running && entOp k.entry == op)

/-- The effect of a dispatched command begins. -/
def State.runCmd (s : State) (f c op : Nat) (g : Nat → State → State) : State :=
  match s.running? f c op with
  | none => s
  | some k => g k.entry (s.modCmd f c (fun y => { y with st := .started }))

/-- A command that transfers a buffer waits while the device may not master the bus (14, R416, R431). -/
def State.runBuf (s : State) (f c op : Nat) (g : Nat → State → State) : State := if s.dmaOn then s.runCmd f c op g else s

/-- A buffer as R422 and R431 ask: its address aligned, at least so long. -/
def bufOk (e need : Nat) : Bool := decide (entAddr e % 8 = 0 ∧ need ≤ entLen e)

/-- Finish with a buffer written. -/
def State.okData (s : State) (f c e : Nat) (bytes : List Nat) (aux res : Nat) : State :=
  s.finishData f c ⟨entAddr e, bytes, Code.OK, false, aux, res⟩

/-! ### The commands: information and contexts (14, R429) -/

def execNop (f : Fin 64) (c : Nat) (s : State) : Host.Outcome State Fault Refusal :=
  .next (s.runCmd f c 0x0000 (fun _ u => u.okCmd f c 0))

def devInfo (s : State) : Nat :=
  s.get SEC_FWVER_VERSION + s.get SEC_SVN_IMAGE * 2 ^ 32 + s.get PRL_BDID_ID * 2 ^ 40 + s.get SEC_LCSTATE_LC * 2 ^ 44
    + s.get SEC_LCSTATE_DBG * 2 ^ 48

def execDevInfo (f : Fin 64) (c : Nat) (s : State) : Host.Outcome State Fault Refusal :=
  .next (s.runCmd f c 0x0001 (fun _ u => u.okCmd f c (devInfo u)))

/-- The range of a context command is good. -/
def ctxOk (e : Nat) : Bool :=
  decide (ent e 20 2 < 512 ∧ 1 ≤ ent e 24 2 ∧ ent e 22 2 + ent e 24 2 ≤ 2048)

/-- The records in a buffer's bytes. -/
def records : Nat → List Nat → List Record
  | 0, _ => []
  | k + 1, b => if b.length < 32 then [] else BitVec.ofNat 256 (ofLe (b.take 32)) :: records k (b.drop 32)

/-- CTX_WRITE carries its record inline (14, R429). -/
def ctxInline (e : Nat) : Bool := decide (entLen e = 0 ∧ ent e 24 2 = 1)

/-- CTX_WRITE: while the DMA read has not returned the whole buffer, the command waits; `buf` is what a DMA read of the buffer returned. -/
def ctxWrite (s : State) (f c e : Nat) (buf : List Nat) : State :=
  let ch := ent e 20 2
  if ctxOk e = false ∨ (ctxInline e = false ∧ bufOk e (32 * ent e 24 2) = false) then s.failCmd f c Code.BAD_PARAM
  else if s.domOn (halfOf (ch / 64)) = false then s.failCmd f c Code.POWER_OFF
  else
    let recs := if ctxInline e then [BitVec.ofNat 256 (ent e 32 32)] else records (ent e 24 2) buf
    s.storeAccess (ch / 64) (.mbxWrite f c ch (ent e 22 2) recs)

def execCtxWrite (f : Fin 64) (c : Nat) (buf : List Byte) (s : State) : Host.Outcome State Fault Refusal :=
  match s.running? f c 0x0100 with
  | none => .next s
  | some k =>
    if ctxInline k.entry then .next (s.runCmd f c 0x0100 (fun e u => ctxWrite u f c e []))
    else if ctxOk k.entry ∧ bufOk k.entry (32 * ent k.entry 24 2) ∧ buf.length < 32 * ent k.entry 24 2 then .next s
    else .next (s.runBuf f c 0x0100 (fun e u => ctxWrite u f c e (buf.map (fun b => b.toNat))))

def execCtxRead (f : Fin 64) (c : Nat) (s : State) : Host.Outcome State Fault Refusal :=
  .next (s.runBuf f c 0x0101 (fun e u =>
    let ch := ent e 20 2
    if ctxOk e = false ∨ bufOk e (32 * ent e 24 2) = false then u.failCmd f c Code.BAD_PARAM
    else if u.domOn (halfOf (ch / 64)) = false then u.failCmd f c Code.POWER_OFF
    else u.storeAccess (ch / 64) (.mbxRead f c ch (ent e 22 2) (ent e 24 2) (entAddr e))))

/-- One channel of GRP_MEMBERS, by R174; whether that rule takes the write. -/
def State.memberChange (s : State) (g op n : Nat) : State × Bool :=
  if op = 1 ∧ s.chanGroup n ≠ some g then (s, true)
  else
    let w : Word := if op = 0 then BitVec.ofNat 32 (128 + g) else 0
    (s.grpWrite n w, s.grpWriteOk n w)

/-- GRP_MEMBERS (14, R430). -/
def grpMembers (s : State) (f c e : Nat) : State :=
  let g := ent e 20 2
  let op := ent e 22 1
  let first := ent e 24 2
  let k := ent e 26 2
  if 64 ≤ g ∨ 1 < op ∨ k = 0 ∨ 512 < first + k then s.failCmd f c Code.BAD_PARAM
  else
    let r := (List.range k).foldl (fun (p : State × Bool) i => let q := p.1.memberChange g op (first + i); (q.1, p.2 && q.2)) (s, true)
    r.1.finishCmd f c (if r.2 then Code.OK else Code.GROUP_RUNNING) false false 0 (r.1.members g).length

def execGrpMembers (f : Fin 64) (c : Nat) (s : State) : Host.Outcome State Fault Refusal :=
  .next (s.runCmd f c 0x0102 (fun e u => grpMembers u f c e))

/-! ### Timing commands (14, R429, R430) -/

/-- A timing command goes to its group. -/
def State.mbxTiming (s : State) (f c op : Nat) (ok : Nat → Bool) (cmd : State → Nat → TCmd) : State :=
  s.runCmd f c op (fun e u =>
    if 64 ≤ ent e 20 2 ∨ ok e = false then u.failCmd f c Code.BAD_PARAM
    else u.issueTiming (ent e 20 2) (.flow f c) (cmd u e))

/-- Slot and context of a cue are in range. -/
def cueOk (e : Nat) : Bool := decide (ent e 22 1 < 32 ∧ ent e 24 2 < 2048)

def execCue (f : Fin 64) (c : Nat) (s : State) : Host.Outcome State Fault Refusal :=
  .next (s.mbxTiming f c 0x0110 cueOk (fun _ e => .cue (ent e 22 1) (ent e 24 2)))

def execPcue (f : Fin 64) (c : Nat) (s : State) : Host.Outcome State Fault Refusal :=
  .next (s.mbxTiming f c 0x0111 cueOk (fun _ e => .pcue (ent e 22 1) (ent e 24 2) (ent e 26 2)))

/-- Byte 28 is a flag. -/
def flagOk (e : Nat) : Bool := decide (ent e 28 1 < 2)

/-- The cycle K of a command, or ASAP. -/
def entCycle (e : Nat) : Option Nat := if ent e 28 1 = 1 then none else some (ent e 32 6)

def execCommit (f : Fin 64) (c : Nat) (s : State) : Host.Outcome State Fault Refusal :=
  .next (s.mbxTiming f c 0x0112 flagOk (fun _ e => .commit (ent e 26 2) (entCycle e)))

def execCancel (f : Fin 64) (c : Nat) (s : State) : Host.Outcome State Fault Refusal :=
  .next (s.mbxTiming f c 0x0113 (fun _ => true) (fun _ e => .cancel (ent e 26 2)))

/-- START; with REL = 1, T = A + L, A the count when the command reaches the hub (14, R430). -/
def execStart (f : Fin 64) (c : Nat) (s : State) : Host.Outcome State Fault Refusal :=
  .next (s.mbxTiming f c 0x0114 flagOk (fun u e =>
    .start (if ent e 28 1 = 1 then (u.tbOf (u.leadBank (ent e 20 2)) + ent e 32 6) % 2 ^ 48 else ent e 32 6)))

def execStop (f : Fin 64) (c : Nat) (s : State) : Host.Outcome State Fault Refusal :=
  .next (s.mbxTiming f c 0x0115 flagOk (fun _ e => .stop (entCycle e)))

/-! ### Roots (14, R429; 02, R54; 03, R85) -/

def execHop (f : Fin 64) (c : Nat) (s : State) : Host.Outcome State Fault Refusal :=
  .next (s.runCmd f c 0x0120 (fun e u =>
    if 4 ≤ ent e 20 1 ∨ 16 ≤ ent e 21 1 ∨ 2 ≤ ent e 22 1 then u.failCmd f c Code.BAD_PARAM
    else u.requestHop (ent e 20 1) { preset := ent e 21 1, prio := ent e 22 1 == 1, src := .flow f c }))

/-- RAMP: a start of the root's ramp, as a write of START gives it (03, R85, R86). Where TRIG names another way, it is
ignored. -/
def execRamp (f : Fin 64) (c : Nat) (s : State) : Host.Outcome State Fault Refusal :=
  .next (s.runCmd f c 0x0121 (fun e u =>
    let n := ent e 20 1
    if 4 ≤ n then u.failCmd f c Code.BAD_PARAM
    else if u.get (SYN_RCTRL_TRIG n) = 1 ∨ u.get (SYN_RCTRL_TRIG n) = 2 then
      u.finishCmd f c Code.IGNORED false false 0 (u.get (SYN_RSTAT_LASTRES n))
    else
      let r := u.startRamp n false
      r.1.finishCmd f c r.2 false false 0 (r.1.get (SYN_RSTAT_LASTRES n))))

/-! ### Takes and measurement (14, R429, R430) -/

def execTakeArm (f : Fin 64) (c : Nat) (s : State) : Host.Outcome State Fault Refusal :=
  .next (s.runCmd f c 0x0200 (fun e u =>
    if 2 ≤ ent e 21 1 then u.failCmd f c Code.BAD_PARAM
    else u.requestArm (ent e 20 1) { src := .flow f c, group := none, wait := ent e 21 1 == 1 }))

/-- TAKE_ABORT: at once for a take that is not busy; else when it reaches DONE (08, R243, R245). -/
def takeAbortCmd (s : State) (f c t : Nat) : State :=
  if s.takeBusy t then (s.modTake t (fun k => { k with waiters := k.waiters ++ [(f, c)] })).takeAbort t
  else s.okCmd f c (s.get (TK_STAT_CODE t))

def execTakeAbort (f : Fin 64) (c : Nat) (s : State) : Host.Outcome State Fault Refusal :=
  .next (s.runCmd f c 0x0201 (fun e u => takeAbortCmd u f c (ent e 20 1)))

def execTakeRead (f : Fin 64) (c : Nat) (s : State) : Host.Outcome State Fault Refusal :=
  .next (s.runBuf f c 0x0202 (fun e u =>
    let r := (u.take (ent e 20 1)).recs
    if bufOk e (16 * r.length) then u.okData f c e (r.flatMap (fun v => leBytes 16 v)) 0 r.length
    else u.failCmd f c Code.BAD_PARAM))

/-- The bytes of k registers from an address. -/
def State.regBytes (s : State) (a k : Nat) : List Nat := (List.range k).flatMap (fun i => leBytes 4 (s.readWord (a + 4 * i)))

/-- INTV_READ: the registers as they stand, then the FIFO's words, which leave it (09, R273). -/
def intvRead (s : State) (f c e : Nat) : State :=
  let i := ent e 20 1
  let y := s.iv i
  let ws := if ent e 21 1 = 1 then y.fifo else []
  if 64 ≤ i ∨ 2 ≤ ent e 21 1 ∨ bufOk e (112 + 8 * ws.length) = false then s.failCmd f c Code.BAD_PARAM
  else
    let b := s.regBytes (IV_CFG i) 28 ++ ws.flatMap (fun w => leBytes 8 w)
    let s1 := if ent e 21 1 = 1 then (s.setIv i { y with fifo := [] }).put (IV_FIFOSTAT_FILL i) 0 else s
    s1.okData f c e b 0 ws.length

def execIntvRead (f : Fin 64) (c : Nat) (s : State) : Host.Outcome State Fault Refusal :=
  .next (s.runBuf f c 0x0210 (fun e u => intvRead u f c e))

/-- The range of channels of REGR_READ and REGR_SUMS is good. -/
def rangeChansOk (e : Nat) : Bool := decide (1 ≤ ent e 22 2 ∧ ent e 20 2 + ent e 22 2 ≤ 512)

def execRegrRead (f : Fin 64) (c : Nat) (s : State) : Host.Outcome State Fault Refusal :=
  .next (s.runBuf f c 0x0211 (fun e u =>
    if rangeChansOk e = false ∨ bufOk e (64 * ent e 22 2) = false then u.failCmd f c Code.BAD_PARAM
    else u.okData f c e (u.regBytes (RG_CFG (ent e 20 2)) (16 * ent e 22 2)) 0 (ent e 22 2)))

/-- REGR_SUMS: REG_SEL names each channel in turn (09, R285). -/
def execRegrSums (f : Fin 64) (c : Nat) (s : State) : Host.Outcome State Fault Refusal :=
  .next (s.runBuf f c 0x0212 (fun e u =>
    if rangeChansOk e = false ∨ bufOk e (96 * ent e 22 2) = false then u.failCmd f c Code.BAD_PARAM
    else
      let r := (List.range (ent e 22 2)).foldl (fun (p : State × List Nat) i =>
        let t := p.1.regSelWrite (BitVec.ofNat 32 (ent e 20 2 + i))
        (t, p.2 ++ t.regBytes (REG_ACC 0 0) 24)) (u, [])
      r.1.okData f c e r.2 0 (ent e 22 2)))

/-! ### Transfers that fail (14, R431) -/

/-- A transfer of a command's buffer failed at an address: the command ends there. -/
def State.dmaFault (s : State) (f c addr res : Nat) : State :=
  ((s.finishCmd f c Code.DMA_ERROR false false 0 res).put (FL_STAT_DMAERR f) 1).log 0x09 f addr 0

/-- The command of a flow whose buffer a core is to read or write. -/
def State.transfer? (s : State) (f c : Nat) : Option Cmd :=
  (s.flow f).cmds.find? (fun k => k.id == c && (k.st == .running || (k.st == .started && k.hold.isSome)) && [0x0100, 0x0101, 0x0202, 0x0210, 0x0211, 0x0212, 0x0300, 0x0302,
    0x0401, 0x0405, 0x0600].contains (entOp k.entry))

/-- The bytes of a ledger (10, R314). -/
def ledgerLen : Nat := 156168

/-- DATALEN that a command's buffer needs; firmware checks it before the first transfer (14, R431). -/
def State.bufNeed (s : State) (e : Nat) : Nat :=
  let op := entOp e
  if op = 0x0100 ∨ op = 0x0101 then 32 * ent e 24 2
  else if op = 0x0202 then 16 * (s.take (ent e 20 1)).recs.length
  else if op = 0x0210 then 112 + 8 * (if ent e 21 1 = 1 then (s.iv (ent e 20 1)).fifo.length else 0)
  else if op = 0x0211 then 64 * ent e 22 2
  else if op = 0x0212 then 96 * ent e 22 2
  else if op = 0x0300 then 8 * ent e 28 2
  else if op = 0x0302 then ledgerLen
  else if op = 0x0600 then 32
  else 1

/-- A transfer of a command's buffer takes place: the buffer is as R422 and R431 ask, and a write that waits had begun. -/
def State.transfers (s : State) (k : Cmd) : Bool := k.hold.isSome || bufOk k.entry (s.bufNeed k.entry)

/-- Does a command read its buffer? -/
def readsBuf (e : Nat) : Bool := (entOp e == 0x0100 && !ctxInline e) || entOp e == 0x0300 || entOp e == 0x0302

/-- DMA_ERROR_COMPLETION: `got` is what the read returned before the error; a context write has written those records. -/
def dmaError (s : State) (f c e : Nat) (got : List Nat) : State :=
  let b := ent e 20 2 / 64
  let recs := if entOp e = 0x0100 ∧ ctxOk e ∧ s.domOn (halfOf b) ∧ s.bit (BNK_CUESTAT_WIPING b) = false then records (ent e 24 2) got else []
  let ch := ent e 20 2
  let s1 := (recs.foldl (fun (p : State × Nat) d => (p.1.putRecord ch p.2 d, p.2 + 1)) (s, ent e 22 2)).1
  s1.dmaFault f c (entAddr e + got.length) recs.length

def execDmaErrorCompletion (f : Fin 64) (c : Nat) (got : List Byte) (s : State) : Host.Outcome State Fault Refusal :=
  match s.transfer? f c with
  | none => .next s
  | some k =>
    if readsBuf k.entry ∧ k.hold = none ∧ s.transfers k then .next (dmaError s f c k.entry (got.map (fun b => b.toNat))) else .next s

/-- DMA_WRITE_TIMEOUT (14, R431): of a write that a command is about to do, or that waits for the bus. -/
def execDmaWriteTimeout (f : Fin 64) (c : Nat) (s : State) : Host.Outcome State Fault Refusal :=
  match s.transfer? f c with
  | none => .next s
  | some k =>
    if (readsBuf k.entry ∧ k.hold = none) ∨ s.transfers k = false then .next s
    else .next (s.dmaFault f c (match k.hold with
      | some d => d.addr
      | none => entAddr k.entry) 0)

end Sys2Proof.Machine
end

