-- ==== Sys2Proof/Machine/Board.lean ====
section
/-! DEFINITION. The board: enumeration, alignment, the clapper, synchronous hops and cross-device takes
(11_multi_device_links.md, R333 to R347; 14, R429). Items stand in the inboxes of the ports 0 to 3; number 4 holds those
that this device's firmware sends itself. -/

set_option Elab.async false

namespace Sys2Proof.Machine

def State.modBoard (s : State) (f : Board → Board) : State := { s with board := f s.board }

/-- A tag for a new clapper, hop or take. -/
def State.newTag (s : State) : Nat × State := (s.board.tag, s.modBoard (fun b => { b with tag := b.tag + 1 }))

/-- The oldest item of an inbox, with its source. -/
def State.headItem (s : State) (p : Nat) : Option (Nat × LinkItem) := (s.pl p).inbox.head?

def State.popItem (s : State) (p : Nat) : State := s.modPl p (fun x => { x with inbox := x.inbox.drop 1 })

/-- Handle the oldest item of an inbox if it is of the kind that `f` takes. -/
def State.onItem (s : State) (p : Nat) (f : Nat → LinkItem → Option (State → State)) : State :=
  match s.headItem p with
  | none => s
  | some (src, i) => match f src i with
    | none => s
    | some g => g (s.popItem p)

/-- The devices of the board that this device knows of; itself where it has not been enumerated. -/
def State.devices (s : State) : List Nat :=
  if s.get PRL_MAP_PRESENT = 0 then [s.me] else (List.range 16).filter (fun d => s.get PRL_MAP_PRESENT / 2 ^ d % 2 == 1)

/-- A list of devices as a mask. -/
def devMask (l : List Nat) : Nat := (List.range 16).foldl (fun m d => if l.contains d then m + 2 ^ d else m) 0

/-- The devices of a mask. -/
def maskDevs (m : Nat) : List Nat := (List.range 16).filter (fun d => m / 2 ^ d % 2 == 1)

/-! ### Enumeration (11, R333, R334) -/

/-- Links of this device that no board of a list names are marked at this end (11, R333). -/
def State.noteWiring (s : State) (boards : List (Nat × Nat)) : State :=
  ((List.range 4).filter (fun p => s.bit (PRL_STAT_IDENT p) && !wiringOk boards s.me p (s.get (PRL_STAT_PEERID p)) (s.get (PRL_STAT_PEERPORT p)))).foldl
    (fun u p => u.flagPrl p (PRL_FLAGS_WIRING p)) s

/-- The result of an enumeration goes to PRL_ENUM, PRL_MAP and PRL_TREE, and to the commands that wait for it. With the number of devices
known, links that the topology, or none of that number, names are marked (11, R326, R333). -/
def State.enumResult (s : State) (topo ndev code : Nat) : State :=
  let ok := code == Code.OK
  let s1 := (((s.put PRL_ENUM_STATE (if ok then 2 else 3)).put PRL_ENUM_TOPO topo).put PRL_ENUM_CODE code).put PRL_ENUM_NDEV ndev
  let s2 := if ok then
      let par := if s.me = 0 then 0 else (parentOf topo ndev s.me).2
      (((s1.put PRL_MAP_PRESENT (2 ^ ndev - 1)).put PRL_TREE_MASTER (b2n (s.me == 0))).put PRL_TREE_DEPTH (treeDepth topo ndev s.me)).put
        PRL_TREE_PARENT par
    else s1
  let s3 := if ok then s2.noteWiring [(topo, ndev)] else if code = Code.TOPO_BAD then s2.noteWiring (boardsOf ndev) else s2
  (s3.board.enums.foldl (fun u q => u.finishCmd q.1 q.2 code false false 0 (u.word PRL_ENUM).toNat) s3).modBoard (fun b => { b with enums := [] })

/-- The links that are identified. -/
def State.identPorts (s : State) : List Nat := (List.range 4).filter (fun p => s.bit (PRL_STAT_IDENT p))

/-- This device's own report. -/
def State.myLinks (s : State) : List (Nat × Nat × Nat × Nat) :=
  s.identPorts.map (fun p => (s.me, p, s.get (PRL_STAT_PEERID p), s.get (PRL_STAT_PEERPORT p)))

/-- The result of an enumeration goes on over links that do not follow the tree: a failed one (11, R333). -/
def State.spread (s : State) (but : Nat) (i : LinkItem) : State :=
  (s.identPorts.filter (fun p => p != but && s.linkServes p)).foldl (fun u p => u.sendOver p i) s

/-- Device 0 checks the reports and tells every device the result (11, R333). -/
def State.enumCheck (s : State) (devs : List Nat) (links : List (Nat × Nat × Nat × Nat)) : State :=
  let all := s.me :: devs
  let n := all.length
  let found := ((s.myLinks ++ links).map normalLink).eraseDups
  let code := if all.eraseDups.length ≠ n then (Code.BDID_DUP, 0)
    else if (List.range n).all (fun d => all.contains d) = false then (Code.TOPO_BAD, 0)
    else match matchTopo n found with
      | none => (Code.TOPO_BAD, 0)
      | some t => (Code.OK, t)
  let s1 := (s.enumResult code.2 n code.1).modBoard (fun b => { b with broken := [] })
  if code.1 = Code.OK then s1.broadcast (.topo code.2 n code.1 found) else s1.spread loopback (.topo code.2 n code.1 found)

/-! ### Gathering reports (11, R333): a request goes out over every link, each device passes it on once and reports when those behind it have
(DESIGN CHOICE: how firmware gathers is its own affair) -/

def State.gatherOf (s : State) (org tag : Nat) : Option Gather := s.board.gathers.find? (fun g => g.org == org && g.tag == tag)

def State.putGather (s : State) (g : Gather) : State :=
  s.modBoard (fun b => { b with gathers := b.gathers.filter (fun h => h.org != g.org) ++ [g] })

/-- A gathering with no report to wait for: it is reported to where it came from; the asking device checks what came, or without device 0
among them has found no master, and the devices keep the routes that they have (11, R333, R347). -/
def State.gatherStep (s : State) (g : Gather) : State :=
  if g.wait ≠ [] then s.putGather g
  else
    let s1 := s.putGather { g with ended := true }
    match g.parent with
    | some p => s1.sendOver p (.message (.reports g.org g.tag (s.me :: g.devs) (s.myLinks ++ g.links)))
    | none =>
      if s.me = 0 then s1.enumCheck g.devs g.links
      else if g.devs.contains 0 then s1
      else
        let t := s.get PRL_ENUM_TOPO
        let n := s.get PRL_ENUM_NDEV
        (s1.enumResult t n Code.NO_MASTER).spread loopback (.topo t n Code.NO_MASTER [])

/-- This device joins a gathering: it passes the request on over its other links. -/
def State.gatherJoin (s : State) (org tag : Nat) (parent : Option Nat) : State :=
  let ports := s.identPorts.filter (fun p => s.linkServes p && parent != some p)
  let s1 := ports.foldl (fun u p => u.sendOver p (.message (.gather org tag))) (s.put PRL_ENUM_STATE 1)
  s1.gatherStep { org := org, tag := tag, parent := parent, wait := ports, devs := [], links := [], ended := false }

/-- This device asks for reports. -/
def State.gatherStart (s : State) : State :=
  let (tag, s1) := s.newTag
  s1.gatherJoin s.me tag none

/-- Enumeration starts at device 0, unless it runs. -/
def State.enumStart (s : State) : State :=
  if s.board.gathers.any (fun g => g.org == 0 && !g.ended) then s else s.gatherStart

/-- A request for reports by a port: one seen before is answered with an empty report; device 0, asked, enumerates. -/
def State.onGather (s : State) (p org tag : Nat) : State :=
  match s.gatherOf org tag with
  | some _ => s.sendOver p (.message (.reports org tag [] []))
  | none =>
    let s1 := s.gatherJoin org tag (some p)
    if s.me = 0 then s1.enumStart else s1

/-- A report by a port. -/
def State.onReports (s : State) (p org tag : Nat) (devs : List Nat) (links : List (Nat × Nat × Nat × Nat)) : State :=
  match s.gatherOf org tag with
  | none => s
  | some g =>
    if g.ended ∨ g.wait.contains p = false then s
    else s.gatherStep { g with wait := g.wait.filter (fun q => q != p), devs := g.devs ++ devs, links := g.links ++ links }

/-- A port went down: no report comes by it. -/
def State.gatherLost (s : State) (p : Nat) : State :=
  s.board.gathers.foldl (fun u g => u.onReports p g.org g.tag [] []) s

/-- BOARD_ENUM (11, R333, R347): from any device; with device 0 out of reach it completes NO_MASTER. -/
def boardEnum (s : State) (f c : Nat) : State :=
  let s1 := s.modBoard (fun b => { b with enums := b.enums ++ [(f, c)] })
  if s.me = 0 then s1.enumStart else s1.gatherStart

def execBoardEnum (f : Fin 64) (c : Nat) (s : State) : Host.Outcome State Fault Refusal :=
  .next (s.runCmd f c 0x0400 (fun _ u => boardEnum u f c))

/-- The state of a link of the board, by either of its ends: a device that did not know it passes it on, so that every device rebuilds its
routing table (11, R347). -/
def State.noteLink (s : State) (dev port but : Nat) (up : Bool) : State :=
  match linkName (s.get PRL_ENUM_TOPO) (s.get PRL_ENUM_NDEV) dev port with
  | none => s
  | some l =>
    if s.board.broken.contains l = !up then s
    else
      (s.modBoard (fun b => { b with broken := if up then b.broken.filter (fun k => k != l) else b.broken ++ [l] })).spread but
        (.message (.linkState dev port up))

/-- IDENT: the peer is known; a link that joins other ports than R326 names, of these two devices on any board, is marked at its end. -/
def execIdent (p : Fin 4) (s : State) : Host.Outcome State Fault Refusal :=
  .next (s.onItem p (fun _ i => match i with
    | .ident dev port _ _ => some (fun u =>
      let u1 := (((u.put (PRL_STAT_IDENT p) 1).put (PRL_STAT_PEERID p) dev).put (PRL_STAT_PEERPORT p) port).noteLink u.me p loopback true
      if wiringOk allBoards u.me p dev port then u1 else u1.flagPrl p (PRL_FLAGS_WIRING p))
    | _ => none))

/-- TOPO: the result of the enumeration, with the links that the routing table follows from; a good one goes on along the tree, a failed
one over every link that it did not come by, once. -/
def execTopo (p : Fin 5) (s : State) : Host.Outcome State Fault Refusal :=
  .next (s.onItem p (fun src i => match i with
    | .topo t n code _ => some (fun u =>
      let u0 := u.enumResult t n code
      let u1 := if code = Code.NO_MASTER then u0 else u0.modBoard (fun b => { b with broken := [] })
      if p.val = loopback then u1
      else if code = Code.OK then (framesOf 15 src true i).foldl (fun v fr => v.castFrame fr (some p.val)) u1
      else if u.get PRL_ENUM_STATE = 1 then u1.spread p i
      else u1)
    | _ => none))

/-! ### Alignment (11, R336 to R340) -/

/-- Root n is aligned (11, R336). -/
def State.setAligned (s : State) (n : Nat) : State :=
  ((s.put (PRL_ALIGN_ALIGNED n) 1).incWrap (PRL_ALIGN_ALCNT n)).put (SYN_FLAGS_TBSLIP n) 0

/-- A signed number of cycles is added to a timebase, modulo 2^48 where it would fall below 0. -/
def State.addTb (s : State) (n : Nat) (c : Int) : State :=
  s.modRoot n (fun r => { r with tb := let v := (r.tb : Int) + c; if 0 ≤ v then v.toNat else (v % (2 ^ 48 : Int)).toNat })

/-- Every bank that selects root n is idle (11, R336, R337). -/
def State.rootIdle (s : State) (n : Nat) : Bool := (s.banksOf n).all (fun b => s.bankIdle b)

/-- A write of PRL_TBADJn (11, R337). -/
def State.tbadjWrite (s : State) (n : Nat) (w : Word) : State :=
  if s.rootIdle n then s.addTb n (signed 32 w.toNat) else s.put (PRL_ALIGN_ADJREF n) 1

def execTbadjWrite (src : Source) (n : Fin 4) (w : Word) (s : State) : Host.Outcome State Fault Refusal := .next (s.rowWrite src (PRL_TBADJ n) w (fun u => u.tbadjWrite n w))

/-- The settings that two aligned roots share (11, R327). -/
def State.rootSettings (s : State) (n : Nat) : List Nat :=
  [s.get (SYN_REFFREQ_KHZ n), s.get (SYN_REF_RMUL n), s.get (SYN_REF_PDIV n), s.get (SYN_CTRL_ODIV n), s.wordInForce n]

/-- A parent begins to align or trim the child over a port (11, R336, R338). -/
def State.alignBegin (s : State) (p root dev why req n : Nat) : State :=
  if (s.pl p).meas.isSome then (if why = 1 then s.sendItem req (.message (.alignResult root dev Code.ALIGN_BUSY [])) else s)
  else
    let m : Meas := { root := root, why := why, req := req, child := dev, n := n, phase := 0, tx := [], rx := [], spoilt := false, tries := 0,
                      idle := false, data := [] }
    ((s.modPl p (fun x => { x with meas := some m })).put (PRL_ALIGN_ALIGNING root) 1).sendOver p (.message (.alignAsk root))

/-- Device 0 asks for the alignment of a child: the parent does it over its link to the child. -/
def State.alignChild (s : State) (req root dev : Nat) : State :=
  let topo := s.get PRL_ENUM_TOPO
  let n := s.get PRL_ENUM_NDEV
  match (treePorts topo n s.me).find? (fun p => (farEnd topo n s.me p).any (fun q => q.1 == dev)) with
  | none => s.sendItem req (.message (.alignResult root dev Code.LINK_DOWN []))
  | some p =>
    if s.plState p = 4 then s.alignBegin p root dev 1 req (max 64 (s.get (PRL_NPROBE_N p)))
    else s.sendItem req (.message (.alignResult root dev Code.LINK_DOWN []))

/-- The child's settings against the parent's: LOCKED, the same settings and word; then the probes (11, R336). -/
def State.alignInfo (s : State) (p root : Nat) (locked : Bool) (settings : List Nat) (idle : Bool) : State :=
  match (s.pl p).meas with
  | none => s
  | some m =>
    if m.phase ≠ 0 ∨ m.why = 0 ∨ m.root ≠ root then s
    else if s.isLocked root = false ∨ locked = false then s.measEnd p Code.PRECOND_LOCK []
    else if settings ≠ s.rootSettings root then s.measEnd p Code.ALIGN_FREQ []
    else (s.modPl p (fun x => { x with meas := some { m with idle := idle } })).measBatch p

/-- The correction reaches the child: whole cycles, fine phase steps and the residual. Whole cycles that tracking finds void
the alignment (11, R336, R338, R340). -/
def State.correctSelf (s : State) (root : Nat) (c k res : Int) (track : Bool) : State × Nat :=
  let s0 := s.put (PRL_ALIGN_ALIGNING root) 0
  if track ∧ c ≠ 0 then (s0.alignVoid root 7, Code.ALIGN_BUSY)
  else if c ≠ 0 ∧ s.rootIdle root = false then (s0.put (PRL_ALIGN_ADJREF root) 1, Code.ALIGN_BUSY)
  else
    let s1 := if c = 0 then s0 else s0.addTb root (-c)
    let s2 := (s1.phstepWrite .firmware root (BitVec.ofNat 32 (wrapNat 24 k))).puti (PRL_ALRES_RES root) res
    (if track then s2 else s2.setAligned root, Code.OK)

/-- The next device of a BOARD_ALIGN: its parent is asked, unless the parent itself was not aligned; at the end, or at a
cancellation between devices, the command completes (11, R336, R347; 14, R427). -/
def State.alignNext (s : State) (a : AlignRun) : Nat → State
  | 0 => s
  | k + 1 =>
    let others := s.board.aligns.filter (fun b => !(b.f == a.f && b.c == a.c))
    let cancelled := (s.flow a.f).cmds.any (fun q => q.id == a.c && q.cancel)
    match a.left with
    | [] =>
      let e := (((s.flow a.f).cmds.find? (fun q => q.id == a.c)).map (fun q => q.entry)).getD 0
      let res := a.good + a.bad * 2 ^ 16
      let s1 := s.modBoard (fun b => { b with aligns := others })
      if a.host ∧ a.data ≠ [] then s1.finishData a.f a.c ⟨entAddr e, a.data.flatMap (fun v => leBytes 8 (wrapNat 64 v)), a.code, false, 0, res⟩
      else s1.finishCmd a.f a.c a.code false false 0 res
    | d :: rest =>
      if cancelled then
        (s.modBoard (fun b => { b with aligns := others })).finishCmd a.f a.c Code.CANCELLED false false 0 (a.good + a.bad * 2 ^ 16)
      else
        let par := (parentOf (s.get PRL_ENUM_TOPO) (s.get PRL_ENUM_NDEV) d).1
        if a.bad / 2 ^ par % 2 = 1 then
          s.alignNext { a with left := rest, bad := a.bad + 2 ^ d, code := if a.code = Code.OK then Code.ALIGN_BUSY else a.code } k
        else
          (s.modBoard (fun b => { b with aligns := others ++ [{ a with left := rest, cur := some d }] })).sendItem par
            (.message (.alignChild a.root d))

/-- The result of one device of a BOARD_ALIGN. -/
def State.alignResult (s : State) (root dev code : Nat) (data : List Int) : State :=
  match s.board.aligns.find? (fun a => a.root == root && a.cur == some dev) with
  | none => s
  | some a =>
    let ok := code == Code.OK
    s.alignNext { a with cur := none, good := if ok then a.good + 2 ^ dev else a.good, bad := if ok then a.bad else a.bad + 2 ^ dev,
                         code := if a.code = Code.OK then code else a.code, data := a.data ++ data } 17

/-- The devices but device 0, parents before children. -/
def State.alignOrder (s : State) : List Nat :=
  let topo := s.get PRL_ENUM_TOPO
  let n := s.get PRL_ENUM_NDEV
  (List.range 16).flatMap (fun k => (s.devices.filter (fun d => d ≠ 0)).filter (fun d => treeDepth topo n d == k))

/-- BOARD_ALIGN (11, R336): device 0 itself is the reference. -/
def boardAlign (s : State) (f c e : Nat) : State :=
  let root := ent e 20 1
  let host := s.bit GLB_MODE_ALIGNHOST
  if 4 ≤ root ∨ (host ∧ bufOk e (32 * (s.devices.length - 1)) = false) then s.failCmd f c Code.BAD_PARAM
  else if s.me ≠ 0 then s.failCmd f c Code.NO_MASTER
  else
    let s1 := if host then s else s.setAligned root
    s1.alignNext { f := f, c := c, root := root, left := s.alignOrder, cur := none, good := 1, bad := 0, code := Code.OK, host := host, data := [] } 17

def execBoardAlign (f : Fin 64) (c : Nat) (s : State) : Host.Outcome State Fault Refusal :=
  .next (s.runCmd f c 0x0401 (fun e u => boardAlign u f c e))

/-- ALIGN_SET ends a host alignment on this device (11, R336). -/
def execAlignSet (f : Fin 64) (c : Nat) (s : State) : Host.Outcome State Fault Refusal :=
  .next (s.runCmd f c 0x0402 (fun e u => if 4 ≤ ent e 20 1 then u.failCmd f c Code.BAD_PARAM else (u.setAligned (ent e 20 1)).okCmd f c 0))

/-- ALIGN_TRACKING: a tracking child asks its parent for a measurement (11, R338, R347). -/
def execAlignTracking (n : Fin 4) (s : State) : Host.Outcome State Fault Refusal :=
  let p := s.get PRL_TREE_PARENT
  if s.bit (PRL_ALIGN_TRACK n) ∧ s.bit (PRL_ALIGN_ALIGNED n) ∧ s.me ≠ 0 ∧ s.plState p = 4 then .next (s.sendOver p (.message (.track n))) else .next s

def execProbedata (p : Fin 4) (s : State) : Host.Outcome State Fault Refusal :=
  .next (s.onItem p (fun _ i => match i with
    | .probedata st => some (fun u => match (u.pl p).meas with
      | some m => if m.phase = 2 then probeData u p m st else u
      | none => u)
    | _ => none))

def execAlignvoid (p : Fin 5) (s : State) : Host.Outcome State Fault Refusal :=
  .next (s.onItem p (fun _ i => match i with
    | .alignvoid root => some (fun u =>
      ((u.modRoot root (fun r => { r with voids := r.voids + u.get (PRL_ALIGN_ALIGNED root) })).put (PRL_ALIGN_ALIGNED root) 0).put (PRL_ALIGN_WHY root) 3)
    | _ => none))

/-! ### The clapper (11, R341 to R344) -/

/-- A clapper is complete: its code is the last that applies (11, R344). -/
def ClapReq.code (q : ClapReq) (all : Bool) : Nat :=
  if all = false then Code.CLAP_PARTIAL else if q.late ≠ 0 then Code.CLAP_LATE else if q.voided ≠ 0 then Code.ALIGN_VOID else Code.OK

/-- The devices that the code concerns: those that did not answer, were late, fired unaligned, or all. -/
def ClapReq.concerned (q : ClapReq) : Nat :=
  if q.answered ≠ q.targets then q.targets - q.answered else if q.late ≠ 0 then q.late else if q.voided ≠ 0 then q.voided else q.targets

/-- The completion of a clapper goes to its source, with T. -/
def State.clapDone (s : State) (q : ClapReq) : State :=
  let code := q.code (q.answered == q.targets)
  let s1 := s.modBoard (fun b => { b with reqs := b.reqs.filter (fun r => r.tag != q.tag) })
  match q.src with
  | .flow f c => s1.finishCmd f c code false false q.concerned (q.t % 2 ^ 48)
  | src => s1.answer src code q.t 0

/-- A clapper is requested (11, R341, R342): refused when it is too soon. -/
def State.startClap (s : State) (src : Src) (root t targets : Nat) : State :=
  let a := (s.root root).tb
  let at_ := nearCount a t
  if at_ < (a : Int) + max 8192 (s.get PRL_CLAPLEAD_CYC) then
    match src with
    | .flow f c => s.finishCmd f c Code.CLAP_LATE false false 0 (t % 2 ^ 48)
    | _ => s.answer src Code.CLAP_LATE (t % 2 ^ 48) 0
  else
    let (tag, s1) := s.newTag
    let q : ClapReq := { src := src, tag := tag, root := root, t := at_.toNat, targets := targets, answered := 0, voided := 0, late := 0 }
    let s2 := s1.modBoard (fun b => { b with reqs := b.reqs ++ [q] })
    let i := LinkItem.clap s.me root (t % 2 ^ 48) tag targets
    let s3 := if (maskDevs targets).any (fun d => d != s.me) then s2.broadcast i else s2
    if targets / 2 ^ s.me % 2 = 1 then s3.modBoard (fun b => { b with claps := b.claps ++ [⟨root, at_.toNat, s.me, tag⟩] })
    else if targets = 0 then s3.clapDone q else s3

/-- A target has answered (11, R344). -/
def State.clapAnswer (s : State) (tag dev code : Nat) : State :=
  match s.board.reqs.find? (fun q => q.tag == tag) with
  | none => s
  | some q =>
    let bit_ := if q.answered / 2 ^ dev % 2 = 1 ∨ q.targets / 2 ^ dev % 2 = 0 then 0 else 2 ^ dev
    let q1 := { q with answered := q.answered + bit_, voided := if code = Code.ALIGN_VOID then q.voided + bit_ else q.voided,
                       late := if code = Code.CLAP_LATE then q.late + bit_ else q.late }
    if q1.answered = q1.targets then s.clapDone q1
    else s.modBoard (fun b => { b with reqs := b.reqs.map (fun r => if r.tag = tag then q1 else r) })

/-- This device's answer to a clapper. -/
def State.clapReply (s : State) (org tag code : Nat) : State :=
  if org = s.me then s.clapAnswer tag s.me code else s.sendItem org (.clapack s.me tag code)

/-- LINK_CLAP: a target schedules the clapper, or answers that it is late (11, R342). -/
def execLinkClap (p : Fin 5) (s : State) : Host.Outcome State Fault Refusal :=
  .next (s.onItem p (fun _ i => match i with
    | .clap org root t tag mask => some (fun u =>
      let a := (u.root root).tb
      if mask / 2 ^ u.me % 2 = 0 then u
      else if nearCount a t < (a : Int) + 256 then u.clapReply org tag Code.CLAP_LATE
      else u.modBoard (fun b => { b with claps := b.claps ++ [⟨root, (nearCount a t).toNat, org, tag⟩] }))
    | _ => none))

def execClapack (p : Fin 5) (s : State) : Host.Outcome State Fault Refusal :=
  .next (s.onItem p (fun _ i => match i with
    | .clapack dev tag code => some (fun u => u.clapAnswer tag dev code)
    | _ => none))

/-- The takes that a clapper on a root starts (11, R343; 08, R244). -/
def State.clapTakes (s : State) (n : Nat) : List Nat :=
  (s.takes.filter (fun q => s.takeState q.1 == 2 && q.2.start == 2 && s.rootOf (q.2.chans.headD 0 / 64) == n)).map (fun q => q.1)

/-- CLAPPER_FIRE at count T of root n (11, R343, R347): every clapper with this T fires as one. -/
def clapperFire (s : State) (n t : Nat) : State :=
  let here := s.board.claps.filter (fun q => q.root == n && q.t == t)
  let s0 := s.modRoot n (fun r => { r with tb := max r.tb t })
  let s1 := s0.modBoard (fun b => { b with claps := b.claps.filter (fun q => !(q.root == n && q.t == t)) })
  let s2 := (s1.clapTakes n).foldl (fun u k => u.setStart k ((4096 * t : Nat) : Int) false) (s1.rampTrigger n 2).1
  let s3 := (s2.inc PRL_CLAPCNT_COUNT).put PRL_CLAPLO_T (t % 2 ^ 32)
  let s4 := (s3.put PRL_CLAPHI_T (t / 2 ^ 32)).put PRL_CLAPHI_ROOT n
  let code := if s.bit (PRL_ALIGN_ALIGNED n) ∧ s.isLocked n then Code.OK else Code.ALIGN_VOID
  here.foldl (fun u q => u.clapReply q.org q.tag code) s4

/-- The count of the next clapper of a root. -/
def State.nextClap (s : State) (n : Nat) : Option Nat :=
  ((s.board.claps.filter (fun q => q.root == n)).map (fun q => q.t)).foldl (fun (a : Option Nat) t => match a with
    | none => some t
    | some b => some (min b t)) none

def execClapperFire (n : Fin 4) (s : State) : Host.Outcome State Fault Refusal :=
  match s.nextClap n with
  | some t => .next (if (s.root n).tclk then clapperFire s n t else s)
  | none => .next s

/-- CLAP_COMPLETION_TIMEOUT: 1 ms after T of a clapper that this device originated. -/
def execClapCompletionTimeout (tag : Nat) (s : State) : Host.Outcome State Fault Refusal :=
  match s.board.reqs.find? (fun q => q.tag == tag) with
  | some q => .next (s.clapDone q)
  | none => .next s

/-- The mailbox command CLAP. -/
def execClap (f : Fin 64) (c : Nat) (s : State) : Host.Outcome State Fault Refusal :=
  .next (s.runCmd f c 0x0403 (fun e u =>
    if 4 ≤ ent e 20 1 then u.failCmd f c Code.BAD_PARAM else u.startClap (.flow f c) (ent e 20 1) (ent e 32 6) (ent e 22 2)))

/-- TSP_CLAP: every device of the board is a target (07, R210; 11, R341). -/
def execTspClap (p : Fin 8) (s : State) : Host.Outcome State Fault Refusal :=
  .next (s.tspRoot p 0x30 (fun v n u => u.startClap (.port p (cmdGroup v) (cmdTag v)) n (cmdCyc v) (devMask u.devices)))

/-! ### Synchronous hops (11, R345) -/

/-- What a target answers to XHOPPREP. In HOP and RAMP the root is in lock, and what is in the way is the hop or the ramp. A root never
aligned since a reset fails as not aligned (R347; that it does so after the checks of R345 is a DESIGN CHOICE). -/
def State.xhopCheck (s : State) (n preset : Nat) : Nat :=
  let r := s.root n
  let word := s.presetWord n preset
  let st := s.rootState n
  if r.lock = false ∨ ¬(st = stLocked ∨ st = stHop ∨ st = stRamp) then Code.NOT_LOCKED
  else if r.hop.isSome ∨ r.pend.isSome ∨ st = stRamp ∨ st = stHop then Code.HOP_BUSY
  else if s.rangeOk n r.ss word = false then Code.FREQ_RANGE
  else if s.inBand n r.ss word = false then Code.BAND_PINNED
  else if s.bit (PRL_ALIGN_ALIGNED n) = false ∧ s.get (PRL_ALIGN_WHY n) = 1 then Code.ALIGN_VOID
  else Code.OK

def execXhopprep (p : Fin 5) (s : State) : Host.Outcome State Fault Refusal :=
  .next (s.onItem p (fun src i => match i with
    | .xhopprep root preset tag => some (fun u =>
      (if u.xhopCheck root preset = Code.OK then u.modBoard (fun b => { b with preps := b.preps ++ [tag] }) else u).sendItem src
        (.xhopack u.me tag (u.xhopCheck root preset)))
    | _ => none))

/-- A synchronous hop that this device had answered has gone or ended. -/
def State.dropPrep (s : State) (tag : Nat) : State := s.modBoard (fun b => { b with preps := b.preps.filter (fun k => k != tag) })

/-- XHOPGO: a link hop request for the preset, which starts at T at the earliest (02, R54). -/
def execXhopgo (p : Fin 5) (s : State) : Host.Outcome State Fault Refusal :=
  .next (s.onItem p (fun src i => match i with
    | .xhopgo root preset t tag => some (fun u =>
      (u.dropPrep tag).requestHop root { preset := preset, prio := false, src := .link src tag, notBefore := some (nearCount (u.root root).tb t).toNat })
    | _ => none))

def State.putXhop (s : State) (x : XHopRun) : State :=
  s.modBoard (fun b => { b with xhops := b.xhops.map (fun y => if y.tag = x.tag then x else y) })

/-- Every target has answered: the hop goes, or the command completes (11, R345). Targets of a hop that does not go are told by a message
between firmwares: DESIGN CHOICE, log entry 127. -/
def State.xhopStep (s : State) (x : XHopRun) : State :=
  if x.answered ≠ x.targets then s.putXhop x
  else if x.went = false ∧ x.refuser.isNone then
    let t := ((s.root x.root).tb + max 8192 (s.get PRL_CLAPLEAD_CYC)) % 2 ^ 48
    (maskDevs x.targets).foldl (fun u d => u.sendItem d (.xhopgo x.root x.preset t x.tag)) (s.putXhop { x with went := true, answered := 0 })
  else
    let s1 := s.modBoard (fun b => { b with xhops := b.xhops.filter (fun y => y.tag != x.tag) })
    let code := if x.went then x.code else Code.XHOP_REFUSED
    let s2 := if x.went then s1 else (maskDevs x.targets).foldl (fun u d => if u.devices.contains d then u.sendItem d (.message (.xhopEnd x.tag)) else u) s1
    s2.finishCmd x.f x.c code false false (x.refuser.getD 0) (if x.went then 0 else x.code)

/-- XHOPACK: a target's answer to XHOPPREP, or at the end of its hop. -/
def State.xhopAnswer (s : State) (tag dev code : Nat) : State :=
  match s.board.xhops.find? (fun x => x.tag == tag) with
  | none => s
  | some x =>
    let bit_ := if x.answered / 2 ^ dev % 2 = 1 ∨ x.targets / 2 ^ dev % 2 = 0 then 0 else 2 ^ dev
    let first := decide (code ≠ Code.OK) && (x.refuser.all (fun d => decide (dev < d)))
    s.xhopStep { x with answered := x.answered + bit_, refuser := if first then some dev else x.refuser, code := if first then code else x.code }

def execXhopack (p : Fin 5) (s : State) : Host.Outcome State Fault Refusal :=
  .next (s.onItem p (fun _ i => match i with
    | .xhopack dev tag code => some (fun u => u.xhopAnswer tag dev code)
    | _ => none))

/-- The mailbox command XHOP, run by device 0. -/
def xhop (s : State) (f c e : Nat) : State :=
  let root := ent e 20 1
  let mask := ent e 22 2
  if 4 ≤ root ∨ 16 ≤ ent e 21 1 ∨ mask = 0 then s.failCmd f c Code.BAD_PARAM
  else if s.me ≠ 0 then s.failCmd f c Code.NO_MASTER
  else
    let (tag, s1) := s.newTag
    let x : XHopRun := { f := f, c := c, tag := tag, root := root, preset := ent e 21 1, targets := mask, answered := 0, refuser := none,
                         code := Code.OK, went := false }
    let s2 := s1.modBoard (fun b => { b with xhops := b.xhops ++ [x] })
    (maskDevs mask).foldl (fun u d =>
      if u.devices.contains d then u.sendItem d (.xhopprep root (ent e 21 1) tag) else u.deliverItem loopback u.me (.xhopack d tag Code.LINK_DOWN)) s2

def execXhop (f : Fin 64) (c : Nat) (s : State) : Host.Outcome State Fault Refusal :=
  .next (s.runCmd f c 0x0404 (fun e u => xhop u f c e))

/-! ### Cross-device takes (11, R346) -/

def State.putXtake (s : State) (x : XTakeRun) : State :=
  s.modBoard (fun b => { b with xtakes := b.xtakes.map (fun y => if y.tag = x.tag then x else y) })

def State.dropXtake (s : State) (tag : Nat) : State := s.modBoard (fun b => { b with xtakes := b.xtakes.filter (fun y => y.tag != tag) })

/-- XTAKEARM: a device arms a take, whose channels' root must be the one named (01, R18); with its root not aligned it refuses with
ALIGN_VOID. -/
def execXtakearm (p : Fin 5) (s : State) : Host.Outcome State Fault Refusal :=
  .next (s.onItem p (fun src i => match i with
    | .xtakearm root t tag idx => some (fun u =>
      if u.bit (PRL_ALIGN_ALIGNED root) then u.requestArm t { src := .xtake src tag idx, group := none, wait := false, root := some root }
      else u.sendItem src (.message (.armed u.me tag idx Code.ALIGN_VOID)))
    | _ => none))

/-- FIRST of a take result as a time: t_start plus the offset its record carries (08, R247). -/
def recFirst (r : Nat) : Nat := r % 2 ^ 40

/-- The intervals between first stamps that a cross-device take returns: for every two named takes, the earlier against the later, every
channel of the one with every channel of the other. All t_start are equal, so offsets differ as times do. The last record of a
device is its take completion. -/
def xIntervals : List (List Nat) → List Int
  | [] => []
  | a :: t =>
    t.flatMap (fun b => a.dropLast.flatMap (fun x => b.dropLast.map (fun y => ((recFirst y : Nat) : Int) - ((recFirst x : Nat) : Int)))) ++ xIntervals t

/-- Every take has reached DONE: the combined completion (11, R346). -/
def State.xtakeEnd (s : State) (x : XTakeRun) (ds : List XDone) : State :=
  let e := (((s.flow x.f).cmds.find? (fun q => q.id == x.c)).map (fun q => q.entry)).getD 0
  let bytes := ds.flatMap (fun d => d.records.flatMap (fun r => leBytes 16 r)) ++
    (xIntervals (ds.map (fun d => d.records))).flatMap (fun v => leBytes 8 (wrapNat 64 v))
  let bad := (ds.map (fun d => d.code)).find? (fun k => k != Code.OK)
  let code := if ds.any (fun d => d.voided) then Code.ALIGN_VOID else bad.getD Code.OK
  let taint := ds.any (fun d => d.taint)
  let s1 := s.dropXtake x.tag
  if bufOk e bytes.length = false then s1.failCmd x.f x.c Code.BAD_PARAM
  else s1.finishData x.f x.c ⟨entAddr e, bytes, code, taint, 0, x.t.getD 0 % 2 ^ 48⟩

/-- The first device that an answer turns a cross-device take down at, and its code; ALIGN_VOID comes before all. -/
def xtakeBad (codes : List Nat) : Option Nat :=
  if codes.contains Code.ALIGN_VOID then some (codes.findIdx (fun k => k == Code.ALIGN_VOID))
  else if codes.all (fun k => k == Code.OK) then none else some (codes.findIdx (fun k => k != Code.OK))

/-- A cross-device take is refused, naming the device (11, R346). -/
def State.xtakeRefuse (s : State) (x : XTakeRun) (codes : List Nat) (i : Nat) : State :=
  (s.dropXtake x.tag).finishCmd x.f x.c (codes.getD i 0) false false (x.pairs.getD i (0, 0)).1 0

/-- A message to the device of every pair; one that the board does not have answers at once that it cannot be reached. -/
def State.xtakeAll (s : State) (x : XTakeRun) (ask : Nat × Nat → Nat → LinkItem) (lost : Nat → Nat → LinkItem) : State :=
  ((List.range x.pairs.length).zip x.pairs).foldl (fun u q =>
    if u.devices.contains q.2.1 then u.sendItem q.2.1 (ask q.2 q.1) else u.deliverItem loopback u.me (lost q.2.1 q.1)) s

/-- A cross-device take goes on (11, R346): with every device aligned the takes are armed, with every take armed the clapper is scheduled,
with every take done it is complete; or it is refused. -/
def State.xtakeStep (s : State) (x : XTakeRun) : State :=
  let cancelled := (s.flow x.f).cmds.any (fun q => q.id == x.c && q.cancel)
  let asks := x.asks.map (fun a => a.getD 0)
  let arms := x.arms.map (fun a => a.getD 0)
  if x.t.isSome then
    if x.dones.all (fun d => d.isSome) then s.xtakeEnd x (x.dones.filterMap (fun d => d)) else s.putXtake x
  else if x.asks.any (fun a => a.isNone) then s.putXtake x
  else match xtakeBad asks with
    | some i => s.xtakeRefuse x asks i
    | none =>
      if cancelled then (s.dropXtake x.tag).failCmd x.f x.c Code.CANCELLED
      else if x.arms.all (fun a => a.isNone) ∧ x.armed = false then
        ((s.putXtake { x with armed := true }).xtakeAll x (fun q i => .xtakearm x.root q.2 x.tag i) (fun d i => .message (.armed d x.tag i Code.LINK_DOWN)))
      else if x.arms.any (fun a => a.isNone) then s.putXtake x
      else match xtakeBad arms with
        | some i => s.xtakeRefuse x arms i
        | none =>
          let t := ((s.root x.root).tb + max 8192 (s.get PRL_CLAPLEAD_CYC)) % 2 ^ 48
          (s.putXtake { x with t := some t }).startClap .none x.root t (devMask (x.pairs.map (fun q => q.1)))

/-- A device's answer about its alignment. -/
def State.xtakeAsked (s : State) (tag idx code : Nat) : State :=
  match s.board.xtakes.find? (fun x => x.tag == tag) with
  | some x => s.xtakeStep { x with asks := x.asks.set idx (some code) }
  | none => s

/-- XTAKEDONE: a device's take has reached DONE. -/
def execXtakedone (p : Fin 5) (s : State) : Host.Outcome State Fault Refusal :=
  .next (s.onItem p (fun _ i => match i with
    | .xtakedone _ tag idx code taint voided records => some (fun u => match u.board.xtakes.find? (fun x => x.tag == tag) with
      | some x => u.xtakeStep { x with dones := x.dones.set idx (some ⟨code, taint, voided, records⟩) }
      | none => u)
    | _ => none))

/-- An arm's answer. -/
def State.xtakeArmed (s : State) (tag idx code : Nat) : State :=
  match s.board.xtakes.find? (fun x => x.tag == tag) with
  | some x => s.xtakeStep { x with arms := x.arms.set idx (some code) }
  | none => s

/-- The mailbox command XTAKE, run by device 0. -/
def xtake (s : State) (f c e : Nat) : State :=
  let root := ent e 20 1
  let n := ent e 21 1
  let pairs := (List.range n).map (fun i => (ent e (32 + 2 * i) 1, ent e (33 + 2 * i) 1))
  if 4 ≤ root ∨ n = 0 ∨ 16 < n ∨ pairs.any (fun q => decide (16 ≤ q.1)) ∨ entAddr e % 8 ≠ 0 then s.failCmd f c Code.BAD_PARAM
  else if s.me ≠ 0 then s.failCmd f c Code.NO_MASTER
  else
    let (tag, s1) := s.newTag
    let x : XTakeRun := { f := f, c := c, tag := tag, root := root, pairs := pairs, asks := List.replicate n none, arms := List.replicate n none,
                          armed := false, t := none, dones := List.replicate n none }
    let s2 := s1.modBoard (fun b => { b with xtakes := b.xtakes ++ [x] })
    s2.xtakeAll x (fun _ i => .message (.alignedAsk root tag i)) (fun d i => .message (.alignedIs d tag i Code.LINK_DOWN))

def execXtake (f : Fin 64) (c : Nat) (s : State) : Host.Outcome State Fault Refusal :=
  .next (s.runCmd f c 0x0405 (fun e u => xtake u f c e))

/-! ### Devices out of reach (11, R347) -/

/-- No path leads to a device. -/
def State.unreachable (s : State) (d : Nat) : Bool := d != s.me && (s.portTo d).isNone

/-- A cross-device hop does without the devices that cannot be reached. -/
def State.failXhop (gone : List Nat) (s : State) (x : XHopRun) : State :=
  ((maskDevs x.targets).filter (fun d => gone.contains d)).foldl (fun v d => v.xhopAnswer x.tag d Code.LINK_DOWN) s

/-- The device of place q.1 of a cross-device take answers nothing more. -/
def State.failXpair (tag : Nat) (s : State) (q : Nat × Nat × Nat) : State :=
  match s.board.xtakes.find? (fun y => y.tag == tag) with
  | none => s
  | some y =>
    if (y.asks.getD q.1 none).isNone then s.xtakeAsked tag q.1 Code.LINK_DOWN
    else if y.t.isNone then (if y.armed ∧ (y.arms.getD q.1 none).isNone then s.xtakeArmed tag q.1 Code.LINK_DOWN else s)
    else if (y.dones.getD q.1 none).isNone then s.xtakeStep { y with dones := y.dones.set q.1 (some ⟨Code.LINK_DOWN, false, false, []⟩) }
    else s

/-- A cross-device take does without the devices that cannot be reached. -/
def State.failXtake (gone : List Nat) (s : State) (x : XTakeRun) : State :=
  (((List.range x.pairs.length).zip x.pairs).filter (fun q => gone.contains q.2.1)).foldl (State.failXpair x.tag) s

/-- An alignment whose child, or the child's parent, cannot be reached records LINK_DOWN for it. -/
def State.failAlign (gone : List Nat) (s : State) (a : AlignRun) : State :=
  match a.cur with
  | some d => if gone.contains d ∨ gone.contains (parentOf (s.get PRL_ENUM_TOPO) (s.get PRL_ENUM_NDEV) d).1 then
      s.alignResult a.root d Code.LINK_DOWN [] else s
  | none => s

/-- At device 0, what waits for a device that no path leads to any more ends there with LINK_DOWN. -/
def State.failLost (s : State) : State :=
  let gone := s.devices.filter (fun d => s.unreachable d)
  let s1 := s.board.xtakes.foldl (State.failXtake gone) (s.board.xhops.foldl (State.failXhop gone) s)
  s.board.aligns.foldl (State.failAlign gone) s1

/-- A link's state is news: the routing tables follow, and at device 0 what waited for a device now out of reach ends. -/
def State.onLinkState (s : State) (p dev port : Nat) (up : Bool) : State :=
  let s1 := s.noteLink dev port p up
  if s.me = 0 ∧ up = false then s1.failLost
  else if s1.unreachable 0 then s1.modBoard (fun b => { b with preps := [] })
  else s1

/-! ### Messages between firmwares (11, R332) -/

/-- A child end begins to be measured (11, R350). -/
def State.childBegin (s : State) (p root : Nat) : State :=
  (s.modPl p (fun x => { x with child := some root })).put (PRL_ALIGN_ALIGNING root) 1

/-- A message reaches this device's firmware by a port, from a device. -/
def State.onMessage (s : State) (p src : Nat) : FwMsg → State
  | .gather org tag => s.onGather p org tag
  | .reports org tag devs links => s.onReports p org tag devs links
  | .linkState dev port up => s.onLinkState p dev port up
  | .portDown port => (s.gatherLost port).onLinkState loopback s.me port false
  | .failed _ _ => s
  | .alignChild root dev => s.alignChild src root dev
  | .track root =>
    if p < 4 then
      (match (s.pl p).meas with
        | some m => if m.why = 2 ∧ m.root = root then s.measFail p else s
        | none => s).alignBegin p root src 2 src 256
    else s
  | .alignAsk root =>
    (s.childBegin p root).sendOver p (.message (.alignInfo root (s.isLocked root) (s.rootSettings root) (s.rootIdle root)))
  | .alignInfo root locked settings idle => s.alignInfo p root locked settings idle
  | .probeBegin root => ((s.modPl p (fun x => { x with stamps := [] })).put (PRL_CTRL_ROOT p) root).childBegin p root
  | .measOver _ => s.childOver p
  | .probeEnd => (s.modPl p (fun x => { x with stamps := [] })).sendOver p (.probedata (s.pl p).stamps)
  | .correct root c k res track =>
    let r := (s.childOver p).correctSelf root c k res track
    r.1.sendOver p (.message (.corrected root r.2))
  | .corrected root code => match (s.pl p).meas with
    | some m => if m.root = root then s.measEnd p code m.data else s
    | none => s
  | .alignResult root dev code data => s.alignResult root dev code data
  | .alignedAsk root tag idx =>
    s.sendItem src (.message (.alignedIs s.me tag idx (if s.bit (PRL_ALIGN_ALIGNED root) then Code.OK else Code.ALIGN_VOID)))
  | .alignedIs _ tag idx code => s.xtakeAsked tag idx code
  | .armed _ tag idx code => s.xtakeArmed tag idx code
  | .xhopEnd tag => s.dropPrep tag
  | .other _ => s

def execFirmwareMessage (p : Fin 5) (s : State) : Host.Outcome State Fault Refusal :=
  .next (s.onItem p (fun src i => match i with
    | .message m => some (fun u => u.onMessage p src m)
    | _ => none))

end Sys2Proof.Machine
end

