-- ==== Sys2Proof/Machine/Sha.lean ====
section
/-! DEFINITION. SHA-384 and HMAC-SHA-384 (13, R379, R389, R390, R399), whose definition the manual takes from outside: PRESUMED, FIPS 180-4
and RFC 2104, log entry 126. Bytes are Nats below 256, words of 64 bits are Nats. -/

set_option Elab.async false

namespace Sys2Proof.Machine

/-- Use a number once it is evaluated. -/
def withNat {α : Type} (n : Nat) (f : Nat → α) : α :=
  match n with
  | 0 => f 0
  | k + 1 => f (k + 1)

/-- The round constants: the first 64 bits of the fractional parts of the cube roots of the first 80 primes. -/
def shaK : List Nat :=
  [0x428A2F98D728AE22, 0x7137449123EF65CD, 0xB5C0FBCFEC4D3B2F, 0xE9B5DBA58189DBBC,
   0x3956C25BF348B538, 0x59F111F1B605D019, 0x923F82A4AF194F9B, 0xAB1C5ED5DA6D8118,
   0xD807AA98A3030242, 0x12835B0145706FBE, 0x243185BE4EE4B28C, 0x550C7DC3D5FFB4E2,
   0x72BE5D74F27B896F, 0x80DEB1FE3B1696B1, 0x9BDC06A725C71235, 0xC19BF174CF692694] ++
  [0xE49B69C19EF14AD2, 0xEFBE4786384F25E3, 0x0FC19DC68B8CD5B5, 0x240CA1CC77AC9C65,
   0x2DE92C6F592B0275, 0x4A7484AA6EA6E483, 0x5CB0A9DCBD41FBD4, 0x76F988DA831153B5,
   0x983E5152EE66DFAB, 0xA831C66D2DB43210, 0xB00327C898FB213F, 0xBF597FC7BEEF0EE4,
   0xC6E00BF33DA88FC2, 0xD5A79147930AA725, 0x06CA6351E003826F, 0x142929670A0E6E70] ++
  [0x27B70A8546D22FFC, 0x2E1B21385C26C926, 0x4D2C6DFC5AC42AED, 0x53380D139D95B3DF,
   0x650A73548BAF63DE, 0x766A0ABB3C77B2A8, 0x81C2C92E47EDAEE6, 0x92722C851482353B,
   0xA2BFE8A14CF10364, 0xA81A664BBC423001, 0xC24B8B70D0F89791, 0xC76C51A30654BE30,
   0xD192E819D6EF5218, 0xD69906245565A910, 0xF40E35855771202A, 0x106AA07032BBD1B8] ++
  [0x19A4C116B8D2D0C8, 0x1E376C085141AB53, 0x2748774CDF8EEB99, 0x34B0BCB5E19B48A8,
   0x391C0CB3C5C95A63, 0x4ED8AA4AE3418ACB, 0x5B9CCA4F7763E373, 0x682E6FF3D6B2B8A3,
   0x748F82EE5DEFB2FC, 0x78A5636F43172F60, 0x84C87814A1F0AB72, 0x8CC702081A6439EC,
   0x90BEFFFA23631E28, 0xA4506CEBDE82BDE9, 0xBEF9A3F7B2C67915, 0xC67178F2E372532B] ++
  [0xCA273ECEEA26619C, 0xD186B8C721C0C207, 0xEADA7DD6CDE0EB1E, 0xF57D4F7FEE6ED178,
   0x06F067AA72176FBA, 0x0A637DC5A2C898A6, 0x113F9804BEF90DAE, 0x1B710B35131C471B,
   0x28DB77F523047D84, 0x32CAAB7B40C72493, 0x3C9EBE0A15C9BEBC, 0x431D67C49C100D4C,
   0x4CC5D4BECB3E42B6, 0x597F299CFC657E2A, 0x5FCB6FAB3AD6FAEC, 0x6C44198C4A475817]

/-- The initial hash of SHA-384. -/
def sha384H : List Nat :=
  [0xCBBB9D5DC1059ED8, 0x629A292A367CD507, 0x9159015A3070DD17, 0x152FECD8F70E5939,
   0x67332667FFC00B31, 0x8EB44A8768581511, 0xDB0C2E0D64F98FA7, 0x47B5481DBEFA4FA4]

/-- A rotation to the right of a 64-bit word. -/
def rotr64 (n x : Nat) : Nat := x / 2 ^ n + x % 2 ^ n * 2 ^ (64 - n)

def xor3 (a b c : Nat) : Nat := Nat.xor (Nat.xor a b) c

/-- The next word of the message schedule from the sixteen before it, the oldest first. -/
def shaNext (l : List Nat) : Nat :=
  let x := l.getD 1 0
  let y := l.getD 14 0
  (xor3 (rotr64 19 y) (rotr64 61 y) (y / 2 ^ 6) + l.getD 9 0 + xor3 (rotr64 1 x) (rotr64 8 x) (x / 2 ^ 7) + l.headD 0) % 2 ^ 64

/-- The rounds that are left, with their constants, over the sixteen schedule words that come next and the eight working words. -/
def shaRounds : List Nat → List Nat → List Nat → List Nat
  | [], _, v => v
  | k :: ks, l, v => match v with
    | [a, b, c, d, e, f, g, h] =>
      withNat ((h + xor3 (rotr64 14 e) (rotr64 18 e) (rotr64 41 e) + Nat.xor (Nat.land e f) (Nat.land (2 ^ 64 - 1 - e) g) + k + l.headD 0) % 2 ^ 64) (fun t1 =>
        withNat ((t1 + xor3 (rotr64 28 a) (rotr64 34 a) (rotr64 39 a) + xor3 (Nat.land a b) (Nat.land a c) (Nat.land b c)) % 2 ^ 64) (fun a2 =>
          withNat ((d + t1) % 2 ^ 64) (fun e2 =>
            withNat (shaNext l) (fun w => shaRounds ks (l.drop 1 ++ [w]) [a2, a, b, c, e2, e, f, g]))))
    | _ => v

/-- One block of sixteen words. -/
def shaBlock (h l : List Nat) : List Nat := List.zipWith (fun x y => (x + y) % 2 ^ 64) h (shaRounds shaK l h)

/-- A number from bytes, the most significant first. -/
def ofBe (l : List Nat) : Nat := l.foldl (fun a b => a * 256 + b % 256) 0

/-- The bytes of a number, the most significant first. -/
def beBytes (n v : Nat) : List Nat := (List.range n).map (fun i => v / 2 ^ (8 * (n - 1 - i)) % 256)

/-- The blocks of a padded message, at most `n`. -/
def shaBlocks : Nat → List Nat → List Nat → List Nat
  | 0, h, _ => h
  | n + 1, h, m =>
    shaBlocks n (shaBlock h ((List.range 16).map (fun i => ofBe ((m.drop (8 * i)).take 8)))) (m.drop 128)

/-- SHA-384 of bytes. -/
def sha384 (m : List Nat) : List Nat :=
  let n := (m.length + 17 + 127) / 128
  let p := m ++ [0x80] ++ List.replicate (128 * n - m.length - 17) 0 ++ beBytes 16 (8 * m.length)
  ((shaBlocks n sha384H p).take 6).flatMap (beBytes 8)

/-- HMAC-SHA-384 under a key of at most 128 bytes. -/
def hmac384 (key m : List Nat) : List Nat :=
  let k := key ++ List.replicate (128 - key.length) 0
  sha384 (k.map (fun b => Nat.xor b 0x5C) ++ sha384 (k.map (fun b => Nat.xor b 0x36) ++ m))

end Sys2Proof.Machine
end

