-- ==== Sys2Proof/Machine/Ecdsa.lean ====
section
/-! DEFINITION. The check of an ECDSA signature on the curve P-384 (13, R388, R390), which the manual takes from FIPS 186-4: PRESUMED, log
entry 126. A point is a triple of Jacobian coordinates; the point at infinity has the third coordinate 0. -/

set_option Elab.async false

namespace Sys2Proof.Machine

/-- The prime of the field. -/
def ecP : Nat := 2 ^ 384 - 2 ^ 128 - 2 ^ 96 + 2 ^ 32 - 1

/-- The order of the base point. -/
def ecN : Nat := 0xFFFFFFFFFFFFFFFFFFFFFFFFFFFFFFFFFFFFFFFFFFFFFFFFC7634D81F4372DDF581A0DB248B0A77AECEC196ACCC52973

/-- The coefficient b of the curve; a is -3. -/
def ecB : Nat := 0xB3312FA7E23EE7E4988E056BE3F82D19181D9C6EFE8141120314088F5013875AC656398D8A2ED19D2A85C8EDD3EC2AEF

/-- The base point. -/
def ecG : Nat × Nat × Nat :=
  (0xAA87CA22BE8B05378EB1C71EF320AD746E1D3B628BA79B9859F741E082542A385502F25DBF55296C3A545E3872760AB7,
   0x3617DE4A96262C6F5D9E98BF9292DC29F8F41DBD289A147CE9DA3113B5F0B8C00A60B1CE1D7E819D7A431D7C90EA0E5F, 1)

/-- A power modulo `m`, from the bits of the exponent, the least significant first. -/
def powMod (m : Nat) : Nat → Nat → Nat → Nat → Nat
  | 0, _, _, acc => acc
  | k + 1, b, e, acc => withNat (if e % 2 = 1 then acc * b % m else acc) (fun a => withNat (b * b % m) (fun c => powMod m k c (e / 2) a))

/-- The inverse modulo a prime. -/
def invMod (m v : Nat) : Nat := powMod m 384 v (m - 2) 1

/-- A difference in the field. -/
def ecSub (a b : Nat) : Nat := (a + ecP - b) % ecP

/-- A point added to itself. -/
def ecDouble (q : Nat × Nat × Nat) : Nat × Nat × Nat :=
  let (x, y, z) := q
  withNat (z * z % ecP) (fun zz => withNat (y * y % ecP) (fun yy => withNat (4 * x * yy % ecP) (fun s =>
    withNat (3 * ecSub x zz * (x + zz) % ecP) (fun m => withNat (ecSub (m * m % ecP) (2 * s % ecP)) (fun x3 =>
      withNat (ecSub (m * ecSub s x3 % ecP) (8 * yy * yy % ecP)) (fun y3 => withNat (2 * y * z % ecP) (fun z3 => (x3, y3, z3))))))))

/-- The sum of two points. -/
def ecAdd (q r : Nat × Nat × Nat) : Nat × Nat × Nat :=
  let (x1, y1, z1) := q
  let (x2, y2, z2) := r
  if z1 = 0 then r
  else if z2 = 0 then q
  else
    withNat (z1 * z1 % ecP) (fun a => withNat (z2 * z2 % ecP) (fun b =>
      withNat (x1 * b % ecP) (fun u1 => withNat (ecSub (x2 * a % ecP) u1) (fun h =>
        withNat (y1 * z2 * b % ecP) (fun s1 => withNat (ecSub (y2 * z1 * a % ecP) s1) (fun w =>
          if h = 0 then (if w = 0 then ecDouble q else (1, 1, 0))
          else
            withNat (h * h % ecP) (fun hh => withNat (hh * h % ecP) (fun hhh => withNat (u1 * hh % ecP) (fun v =>
              withNat (ecSub (ecSub (w * w % ecP) hhh) (2 * v % ecP)) (fun x3 =>
                withNat (ecSub (w * ecSub v x3 % ecP) (s1 * hhh % ecP)) (fun y3 =>
                  withNat (z1 * z2 * h % ecP) (fun z3 => (x3, y3, z3)))))))))))))

/-- The sum of `u` times a point and `v` times another, from bit `k - 1` down; `sum` is their sum. -/
def ecMul2 (q r sum : Nat × Nat × Nat) (u v : Nat) : Nat → Nat × Nat × Nat → Nat × Nat × Nat
  | 0, acc => acc
  | k + 1, acc =>
    let d := ecDouble acc
    let i := u / 2 ^ k % 2
    let j := v / 2 ^ k % 2
    match (if i = 1 then (if j = 1 then ecAdd d sum else ecAdd d q) else if j = 1 then ecAdd d r else d) with
    | (x, y, z) => ecMul2 q r sum u v k (x, y, z)

/-- Is a point on the curve? -/
def ecOn (x y : Nat) : Bool := decide (x < ecP ∧ y < ecP ∧ y * y % ecP = (x * x * x + (ecP - 3) * x + ecB) % ecP)

/-- A signature (r, s) over the hash `e` verifies with the public key (x, y). -/
def ecdsaOk (x y r s e : Nat) : Bool :=
  if ecOn x y = false ∨ r = 0 ∨ ecN ≤ r ∨ s = 0 ∨ ecN ≤ s then false
  else
    withNat (invMod ecN s) (fun w => withNat (e * w % ecN) (fun u => withNat (r * w % ecN) (fun v =>
      match ecMul2 ecG (x, y, 1) (ecAdd ecG (x, y, 1)) u v 384 (1, 1, 0) with
      | (x1, _, z1) => if z1 = 0 then false else withNat (invMod ecP z1) (fun i => x1 * i * i % ecP % ecN == r))))

end Sys2Proof.Machine
end

