-- ==== Sys2Proof/Machine/Gcm.lean ====
section
/-! DEFINITION. AES-256-GCM (13, R392), which the manual names: PRESUMED, FIPS 197 and NIST SP 800-38D, log entry 126. -/

set_option Elab.async false

namespace Sys2Proof.Machine

/-- The substitution of a byte. -/
def aesBox : List Nat :=
  [0x63, 0x7C, 0x77, 0x7B, 0xF2, 0x6B, 0x6F, 0xC5, 0x30, 0x01, 0x67, 0x2B, 0xFE, 0xD7, 0xAB, 0x76,
   0xCA, 0x82, 0xC9, 0x7D, 0xFA, 0x59, 0x47, 0xF0, 0xAD, 0xD4, 0xA2, 0xAF, 0x9C, 0xA4, 0x72, 0xC0,
   0xB7, 0xFD, 0x93, 0x26, 0x36, 0x3F, 0xF7, 0xCC, 0x34, 0xA5, 0xE5, 0xF1, 0x71, 0xD8, 0x31, 0x15,
   0x04, 0xC7, 0x23, 0xC3, 0x18, 0x96, 0x05, 0x9A, 0x07, 0x12, 0x80, 0xE2, 0xEB, 0x27, 0xB2, 0x75] ++
  [0x09, 0x83, 0x2C, 0x1A, 0x1B, 0x6E, 0x5A, 0xA0, 0x52, 0x3B, 0xD6, 0xB3, 0x29, 0xE3, 0x2F, 0x84,
   0x53, 0xD1, 0x00, 0xED, 0x20, 0xFC, 0xB1, 0x5B, 0x6A, 0xCB, 0xBE, 0x39, 0x4A, 0x4C, 0x58, 0xCF,
   0xD0, 0xEF, 0xAA, 0xFB, 0x43, 0x4D, 0x33, 0x85, 0x45, 0xF9, 0x02, 0x7F, 0x50, 0x3C, 0x9F, 0xA8,
   0x51, 0xA3, 0x40, 0x8F, 0x92, 0x9D, 0x38, 0xF5, 0xBC, 0xB6, 0xDA, 0x21, 0x10, 0xFF, 0xF3, 0xD2] ++
  [0xCD, 0x0C, 0x13, 0xEC, 0x5F, 0x97, 0x44, 0x17, 0xC4, 0xA7, 0x7E, 0x3D, 0x64, 0x5D, 0x19, 0x73,
   0x60, 0x81, 0x4F, 0xDC, 0x22, 0x2A, 0x90, 0x88, 0x46, 0xEE, 0xB8, 0x14, 0xDE, 0x5E, 0x0B, 0xDB,
   0xE0, 0x32, 0x3A, 0x0A, 0x49, 0x06, 0x24, 0x5C, 0xC2, 0xD3, 0xAC, 0x62, 0x91, 0x95, 0xE4, 0x79,
   0xE7, 0xC8, 0x37, 0x6D, 0x8D, 0xD5, 0x4E, 0xA9, 0x6C, 0x56, 0xF4, 0xEA, 0x65, 0x7A, 0xAE, 0x08] ++
  [0xBA, 0x78, 0x25, 0x2E, 0x1C, 0xA6, 0xB4, 0xC6, 0xE8, 0xDD, 0x74, 0x1F, 0x4B, 0xBD, 0x8B, 0x8A,
   0x70, 0x3E, 0xB5, 0x66, 0x48, 0x03, 0xF6, 0x0E, 0x61, 0x35, 0x57, 0xB9, 0x86, 0xC1, 0x1D, 0x9E,
   0xE1, 0xF8, 0x98, 0x11, 0x69, 0xD9, 0x8E, 0x94, 0x9B, 0x1E, 0x87, 0xE9, 0xCE, 0x55, 0x28, 0xDF,
   0x8C, 0xA1, 0x89, 0x0D, 0xBF, 0xE6, 0x42, 0x68, 0x41, 0x99, 0x2D, 0x0F, 0xB0, 0x54, 0xBB, 0x16]

def aesSub (b : Nat) : Nat := aesBox.getD b 0

/-- A byte times 2 in the field of AES. -/
def aesTwice (b : Nat) : Nat := Nat.xor (b * 2 % 256) (b / 128 * 0x1B)

/-- Bytes combined one by one. -/
def xorBytes (a b : List Nat) : List Nat := List.zipWith Nat.xor a b

/-- The next words of the key schedule: `i` counts words of four bytes, `l` holds the last eight, the oldest first, `rc` the next round
constant. -/
def aesExpand : Nat → Nat → Nat → List (List Nat) → List (List Nat)
  | 0, _, _, _ => []
  | k + 1, i, rc, l =>
    let t := l.getD 7 []
    let u := if i % 8 = 0 then xorBytes [aesSub (t.getD 1 0), aesSub (t.getD 2 0), aesSub (t.getD 3 0), aesSub (t.getD 0 0)] [rc, 0, 0, 0]
      else if i % 8 = 4 then t.map aesSub
      else t
    match xorBytes (l.headD []) u with
    | [a, b, c, d] => withNat a (fun a => withNat b (fun b => withNat c (fun c => withNat d (fun d =>
        [a, b, c, d] :: aesExpand k (i + 1) (if i % 8 = 0 then aesTwice rc else rc) (l.drop 1 ++ [[a, b, c, d]])))))
    | _ => []

/-- The fifteen round keys of a key of 32 bytes. -/
def aesKeys (key : List Nat) : List (List Nat) :=
  let w := (List.range 8).map (fun i => (key.drop (4 * i)).take 4)
  let l := w ++ aesExpand 52 8 1 w
  (List.range 15).map (fun r => (((l.drop (4 * r)).take 4).foldl (fun a x => a ++ x) []))

/-- The rows of a state shift: byte `i` of the new state in column order. -/
def aesShift (s : List Nat) : List Nat := (List.range 16).map (fun i => s.getD ((i + 4 * (i % 4)) % 16) 0)

/-- A column is mixed. -/
def aesMix (s : List Nat) : List Nat :=
  (List.range 16).map (fun i =>
    let b := fun (k : Nat) => s.getD (i / 4 * 4 + (i + k) % 4) 0
    Nat.xor (xor3 (aesTwice (b 0)) (aesTwice (b 1)) (b 1)) (Nat.xor (b 2) (b 3)))

/-- Every number of a list is evaluated before its use. -/
def withNats {α : Type} : List Nat → (List Nat → α) → α
  | [], f => f []
  | a :: t, f => withNat a (fun b => withNats t (fun u => f (b :: u)))

/-- The rounds after the first key, the last without the mix. -/
def aesRounds : List (List Nat) → List Nat → List Nat
  | [], s => s
  | k :: ks, s =>
    let t := aesShift (s.map aesSub)
    withNats (xorBytes (if ks.isEmpty then t else aesMix t) k) (fun u => aesRounds ks u)

/-- A block is encrypted under round keys. -/
def aesBlock (keys : List (List Nat)) (s : List Nat) : List Nat := aesRounds (keys.drop 1) (xorBytes s (keys.headD []))

/-- The product in the field of GHASH, over the bits of `x` from the most significant; blocks are numbers, most significant byte first. -/
def ghashMul : Nat → Nat → Nat → Nat → Nat
  | 0, _, _, z => z
  | k + 1, x, v, z =>
    withNat (if x / 2 ^ k % 2 = 1 then Nat.xor z v else z) (fun z2 =>
      withNat (Nat.xor (v / 2) (v % 2 * 0xE1000000000000000000000000000000)) (fun v2 => ghashMul k x v2 z2))

/-- GHASH goes on over bytes, in blocks of sixteen, the last filled with zeros; at most `n` blocks. -/
def ghash (h : Nat) : Nat → List Nat → Nat → Nat
  | 0, _, y => y
  | n + 1, l, y =>
    if l.isEmpty then y
    else
      let b := l.take 16
      withNat (ghashMul 128 (Nat.xor y (ofBe (b ++ List.replicate (16 - b.length) 0))) h 0) (fun z => ghash h n (l.drop 16) z)

/-- The key stream from a counter, as many blocks as asked. -/
def gcmStream (keys : List (List Nat)) (iv : List Nat) : Nat → Nat → List Nat
  | 0, _ => []
  | n + 1, c => aesBlock keys (iv ++ beBytes 4 c) ++ gcmStream keys iv n (c + 1)

/-- The tag of a ciphertext under a key, a 96-bit IV and additional data. -/
def gcmTag (key iv aad ct : List Nat) : List Nat :=
  let keys := aesKeys key
  let h := ofBe (aesBlock keys (List.replicate 16 0))
  let y := ghash h (ct.length / 16 + 1) ct (ghash h (aad.length / 16 + 1) aad 0)
  let z := ghashMul 128 (Nat.xor y (8 * aad.length * 2 ^ 64 + 8 * ct.length)) h 0
  xorBytes (beBytes 16 z) (aesBlock keys (iv ++ [0, 0, 0, 1]))

/-- The plaintext of a ciphertext. -/
def gcmOpen (key iv ct : List Nat) : List Nat := xorBytes ct (gcmStream (aesKeys key) iv (ct.length / 16 + 1) 2)

end Sys2Proof.Machine
end

