-- ==== Sys2Proof/Machine/Resets.lean ====
section
/-! DEFINITION. The dailies, what a reset does and what survives it, the values that fuses give (13, R379, R380, R382 to
R385, R394, R398, R405, R406; 17, R482). -/

set_option Elab.async false

namespace Sys2Proof.Machine

/-! ### The dailies (13, R405, R406) -/

/-- Write an entry: its code, its UNIT, its DETAIL of 8 bytes. WRAP shows that an entry was overwritten. -/
def State.daily (s : State) (code unit detail : Nat) : State :=
  let i := s.get SEC_DLYHEAD_NEXT
  let old := (s.word (SEC_DLY (4 * i + 1))).toNat
  let w1 := code % 256 + s.get SEC_RSTCAUSE_COUNT * 2 ^ 8 + unit % 2 ^ 16 * 2 ^ 16
  let s1 := (s.setWord (SEC_DLY (4 * i)) (s.word PWR_AONNOW)).setWord (SEC_DLY (4 * i + 1)) (BitVec.ofNat 32 w1)
  let s2 := (s1.setWord (SEC_DLY (4 * i + 2)) (BitVec.ofNat 32 detail)).setWord (SEC_DLY (4 * i + 3)) (BitVec.ofNat 32 (detail / 2 ^ 32))
  (if old = 0 then s2 else s2.put SEC_DLYHEAD_WRAP 1).put SEC_DLYHEAD_NEXT (i + 1)

/-! ### What the fuses say (13, R379, R380) -/

/-- The number of bits at 1 of a number of a width. -/
def bitCount (w v : Nat) : Nat := (List.range w).foldl (fun a i => a + v / 2 ^ i % 2) 0

/-- A fuse word. -/
def State.fuse (s : State) (i : Nat) : Nat := (tabGet (0 : Word) s.fuses i).toNat

/-- A lifecycle byte of fuse word 0 counts as programmed: 0 to VENDOR, 1 to FIELD, 2 to RETURN, 3 to SCRAPPED. -/
def State.lcByte (s : State) (i : Nat) : Bool := decide (5 ≤ bitCount 8 (s.fuse 0 / 2 ^ (8 * i) % 256))

/-- The lifecycle state: the furthest whose byte is programmed (13, R380, R394). -/
def State.lifecycle (s : State) : Nat :=
  if s.lcByte 3 then 4 else if s.lcByte 2 then 3 else if s.lcByte 1 then 2 else if s.lcByte 0 then 1 else 0

/-- The revocation nibble of a key slot counts as programmed. -/
def State.keyRevoked (s : State) (k : Nat) : Bool := decide (3 ≤ bitCount 4 (s.fuse 1 / 2 ^ (4 * k) % 16))

/-- The fused SVN. -/
def State.fusedSvn (s : State) : Nat := bitCount 32 (s.fuse 32) + bitCount 32 (s.fuse 33)

/-- The debug state after a reset: OPEN in VENDOR, else SEALED (13, R398). -/
def dbgAfterReset (lc : Nat) : Nat := if lc = 1 then 2 else 0

/-- The registers whose reset value the fuses give (13, R409). -/
def State.fuseRegs (s : State) : State :=
  let lc := s.lifecycle
  let s1 := ((s.put SEC_LCSTATE_LC lc).put SEC_LCSTATE_DBG (dbgAfterReset lc)).put SEC_LCSTATE_KEYREV (b2n (s.keyRevoked 0) + 2 * b2n (s.keyRevoked 1))
  let s2 := s1.put SEC_SVN_FUSED s.fusedSvn
  if lc = 0 then s2 else (s2.put SEC_UIDLO_UID (s.fuse 2)).put SEC_UIDHI_UID (s.fuse 3)

/-! ### Resets (13, R382 to R385) -/

/-- Does a register survive every reset but power-on (13, R384; 12, R354)? The straps are sampled at power-on only. -/
def survives (a : Nat) : Bool :=
  [SEC_RSTCAUSE, SEC_BOOTCTRL, SEC_DLYHEAD, CLK_FAILCAUSE, PWR_AONNOW, PRL_BDID].contains a ||
    decide (SEC_DLY 0 ≤ a ∧ a < SEC_DLY 1024)

/-- Every unit and register after a reset that is not power-on. The fuses, the boot flash and the test access port are not
reset; what waits and what has left are the model's own. -/
def State.afterReset (s : State) : State :=
  let s1 := { State.reset with
    regs := s.regs.filter (fun p => survives p.1), fuses := s.fuses
    boot := { Boot.init with therm := s.boot.therm }, jtag := { s.jtag with halted := [] }
    cal := { Cal.init with folios := s.cal.folios }, pwr := { Pwr.init with sub := s.pwr.sub }
    pending := s.pending, free := s.free, out := s.out }
  ((s1.put SEC_DBGSTAT_FAILS (s.get SEC_DBGSTAT_FAILS)).put SEC_DBGSTAT_LOCKOUT (s.get SEC_DBGSTAT_LOCKOUT)).fuseRegs

/-- A reset with a code of 2 to 7 (13, R382, R385). -/
def State.deviceReset (s : State) (code : Nat) : State :=
  let s1 := (s.afterReset.put SEC_RSTCAUSE_LAST code).put ⟨SEC_RSTCAUSE, 7 + code, 1⟩ 1
  s1.inc SEC_RSTCAUSE_COUNT

/-- A power-on reset clears the survivors too; the straps are sampled afresh (11, R326; 13, R384; 17, R482). -/
def State.powerOn (s : State) : State :=
  { State.reset with
    fuses := s.fuses, cal := { Cal.init with folios := s.cal.folios }
    regs := s.regs.filter (fun p => p.1 == PRL_BDID), pending := s.pending, free := s.free, out := s.out }.fuseRegs

/-- A boot stage is entered; READY, WAITPUSH and HALT raise vector 225 (13, R387; 14, R417). -/
def State.stage (s : State) (k : Nat) : State :=
  let s1 := s.put SEC_BOOTSTAT_STAGE k
  if (k = 9 ∨ k = 14 ∨ k = 15) ∧ s.get SEC_BOOTSTAT_STAGE ≠ k then s1.irq 225 else s1

end Sys2Proof.Machine
end

