-- ==== Sys2Proof/Machine/Clocks.lean ====
section
/-! DEFINITION. Control-plane clocks (12_control_clocks_and_power.md, R351 to R359). Domains are 0 CORE, 1 BUS, 2 PERI,
3 SEC, 4 SPT; sources 0 IRC, 1 XO, 2 CPLL. -/

set_option Elab.async false

namespace Sys2Proof.Machine

/-! ### Enables and sources (12, R351, R353, R357) -/

def State.cpllOn (s : State) : Bool := s.enBit s.pwr.pll CLK_CPLLEN

/-- Does a source run? The IRC does until its failure (12, R355). -/
def State.sourceRuns (s : State) (k : Nat) : Bool :=
  if k = 0 then s.bit CLK_STAT_IRCOK else if k = 1 then s.bit CLK_STAT_XOSTABLE else s.bit CLK_STAT_CPLLLOCK && s.cpllOn

/-- The target source and divider of a domain (12, R376). -/
def State.wantSrc (s : State) (d : Nat) : Nat := min 2 (s.get (CLK_DOM_CFG_SRC d))
def State.wantDiv (s : State) (d : Nat) : Nat := max 1 (min 32 (s.get (CLK_DOM_CFG_DIV d)))

/-- A transfer of a serial port is under way: the gate of the SPT domain waits for it (12, R359; 15, R458). -/
def State.sptOpen (s : State) : Bool := (List.range 16).any (fun p => s.bit (SPT_STAT_BUSY p) || s.bit (SPT_STAT_SLVSEL p))

/-- A stop of the SPT domain waits for its transfers before it steps (12, R359, R374). -/
def State.sptWaits (s : State) (d : Nat) : Bool := d == 4 && !s.domainOn d && s.sptOpen

/-- The divider of a domain as its clock runs: a clock that starts does so at DIV 32 (12, R357). -/
def State.startDiv (s : State) (d : Nat) : Nat :=
  if s.bit (CLK_DOM_STAT_RUN d) then s.get (CLK_DOM_STAT_DIVACT d) else 32

/-- What a domain does without waiting for its own cycles: it starts and stops its clock, switches its multiplexer at
DIV 32, and shows where it stands (12, R356, R357). An up-step in force completes whatever is written (12, R356); a stop of the SPT domain
waits for its transfers before it steps (12, R359, R374). -/
def State.domSettle (s : State) (d : Nat) : State :=
  let en := s.domainOn d
  let div := s.startDiv d
  let live := s.sourceRuns (s.get (CLK_DOM_STAT_SRCACT d))
  let run := live && (en || (s.bit (CLK_DOM_STAT_RUN d) && (decide (div < 32) || s.sptWaits d)))
  let held := run && s.pwr.up.contains d && decide (div < 32)
  let go := run && en && decide (div = 32) && s.sourceRuns (s.wantSrc d)
  let src := if go then s.wantSrc d else s.get (CLK_DOM_STAT_SRCACT d)
  let switching := en && decide (src ≠ s.wantSrc d)
  let wants := run && (if en then (if switching then s.sourceRuns (s.wantSrc d) else decide (div ≠ s.wantDiv d))
    else decide (div < 32) && !s.sptWaits d)
  let up := held || (wants && (!en || switching || decide (div < s.wantDiv d)))
  let s1 := { s with pwr := { s.pwr with up := s.pwr.up.filter (fun e => e != d) ++ (if up then [d] else []) } }
  ((((s1.put (CLK_DOM_STAT_RUN d) (b2n run)).put (CLK_DOM_STAT_SRCACT d) src).put (CLK_DOM_STAT_SWITCHING d) (b2n switching)).put
    (CLK_DOM_STAT_STEPPING d) (b2n (held || wants))).put (CLK_DOM_STAT_DIVACT d) (if run then div else s.get (CLK_DOM_STAT_DIVACT d))

def State.settleAll (s : State) : State := (List.range 5).foldl (fun u d => u.domSettle d) s

/-- The SPT domain's clock stops when the transfer that its gate waited for is over. -/
def State.sptGate (s : State) : State := if s.domainOn 4 then s else s.domSettle 4

/-- The CPLL's enable of the device state comes into force: on the way down once no domain that runs from the CPLL is on its way to a
stop (12, R357, R366). -/
def State.pllFollow (s : State) : State :=
  if s.pwr.pll = s.pwr.clk ∨ (s.pwr.pll < s.pwr.clk ∧
      (List.range 5).any (fun d => s.bit (CLK_DOM_STAT_RUN d) && !s.domainOn d && s.get (CLK_DOM_STAT_SRCACT d) == 2)) then s
  else
    let s1 := { s with pwr := { s.pwr with pll := s.pwr.clk } }
    (if s1.cpllOn then s1 else s1.put CLK_STAT_CPLLLOCK 0).settleAll

/-- At boot stage CLOCKS, with every domain at its target, the wipes start (13, R383, R387). -/
def State.bootClocks (s : State) : State :=
  if s.get SEC_BOOTSTAT_STAGE = 3 ∧ (List.range 5).all (fun d => s.bit (CLK_DOM_STAT_RUN d) && s.get (CLK_DOM_STAT_SRCACT d) == 2 &&
      s.get (CLK_DOM_STAT_DIVACT d) == s.wantDiv d) then
    (List.range 8).foldl (fun u b => u.put (BNK_CUESTAT_WIPING b) 1) (s.stage 4)
  else s

/-- The boot ROM writes the targets of R351. -/
def State.bootTargets (s : State) : State :=
  ([(0, 1), (1, 2), (2, 4), (3, 4), (4, 5)] : List (Nat × Nat)).foldl (fun u q =>
    u.fwWrite (CLK_DOM_CFG q.1) [(CLK_DOM_CFG_SRC q.1, 2), (CLK_DOM_CFG_DIV q.1, q.2)]) s

/-! ### Oscillators (12, R352 to R355) -/

/-- A clock-source failure: it is recorded, and the device resets (12, R354; 13, R382). When the XO fails, the AON multiplexer has to
leave it (12, R358). -/
def State.clkFail (s : State) (cause : Nat) : State :=
  let s1 := (((s.put CLK_FAILCAUSE_VALID 1).put CLK_FAILCAUSE_CAUSE cause).inc CLK_FAILCAUSE_COUNT).deviceReset 5
  if cause = 3 then s1 else { s1 with pwr := { s1.pwr with aonBack := true } }

/-- The monitor of the XO runs: on the IRC, and after the failure of the IRC on the CORE clock (12, R352, R355). A device held in reset
has no XO. -/
def State.xoWatched (s : State) : Bool := s.freed && (s.bit CLK_STAT_IRCOK || s.bit (CLK_DOM_STAT_RUN 0))

/-- Before the XO is stable, a gap (within a window) or a failed window starts the count afresh. -/
def State.xoAgain (s : State) (cut : Bool) : State :=
  { (s.put CLK_STAT_XORUN 0).flagClk CLK_FLAGS_XOWIN with pwr := { s.pwr with xoCut := cut } }

def execXoGap (s : State) : Host.Outcome State Fault Refusal :=
  .next (if s.xoWatched = false then s else if s.bit CLK_STAT_XOSTABLE then s.clkFail 1 else s.xoAgain true)

/-- A window of `count` XO edges passes: they are counted; after a gap in it only those since the gap, a free number (12, R352). -/
def State.xoPass (s : State) (count : Nat) : State :=
  if s.pwr.xoCut then
    let k := Config.freeNat s.free 0 % (count + 1)
    { s.draw.put CLK_STAT_XORUN (min 65536 (s.get CLK_STAT_XORUN + k)) with pwr := { s.pwr with xoCut := false } }
  else s.put CLK_STAT_XORUN (min 65536 (s.get CLK_STAT_XORUN + count))

/-- The XO is stable: AON moves to it; boot leaves its XO start step (12, R352, R353; 13, R387). -/
def xoStable (s : State) : State :=
  ({ ((s.put CLK_STAT_XORUN 65536).put CLK_STAT_XOSTABLE 1).put CLK_STAT_AONSRC 1 with pwr := { s.pwr with aonBack := false } }).settleAll.stage 3

/-- A window passes; one that brings XORUN to 65,536 makes the XO stable (12, R352). -/
def State.xoPassed (s : State) (count : Nat) : State :=
  let s1 := s.xoPass count
  if s1.get CLK_STAT_XORUN = 65536 ∧ s.get SEC_BOOTSTAT_STAGE = 2 then xoStable s1 else s1

/-- XO_WINDOW_END: `count` XO edges in 4,096 IRC cycles, or in as long a window of the CORE clock. -/
def execXoWindowEnd (count : Nat) (s : State) : Host.Outcome State Fault Refusal :=
  let pass := decide (4096 - 160 ≤ count ∧ count ≤ 4096 + 160)
  .next (if s.xoWatched = false then s
    else if s.bit CLK_STAT_XOSTABLE then (if pass then s else s.clkFail 2)
    else if pass then s.xoPassed count
    else s.xoAgain false)

/-- XORUN reaches 65,536, counted on from its value at the end of the last window, by at most a window's edges (12, R352). -/
def execXoStable (s : State) : Host.Outcome State Fault Refusal :=
  if s.get SEC_BOOTSTAT_STAGE = 2 ∧ s.bit CLK_STAT_XOSTABLE = false ∧ 65536 ≤ s.get CLK_STAT_XORUN + (4096 + 160) then .next (xoStable s)
  else .next s

/-- The CPLL acquires: the XO is stable, its enable in force is 1, it has not locked. -/
def State.cpllAcquires (s : State) : Bool := s.bit CLK_STAT_XOSTABLE && s.cpllOn && !s.bit CLK_STAT_CPLLLOCK

/-- CPLL lock; at boot stage CLOCKS the boot ROM then moves the domains. -/
def cpllLock (s : State) : State :=
  let s1 := s.put CLK_STAT_CPLLLOCK 1
  (if s.get SEC_BOOTSTAT_STAGE = 3 then s1.bootTargets else s1).settleAll.bootClocks

def execCpllAcquisitionTimeout (s : State) : Host.Outcome State Fault Refusal :=
  .next (if s.cpllAcquires then s.flagClk CLK_FLAGS_CPLLFAIL else s)

def execCpllLoss (s : State) : Host.Outcome State Fault Refusal :=
  .next (if s.bit CLK_STAT_CPLLLOCK ∧ s.cpllOn then s.clkFail 3 else s)

/-- IRC_FAIL (12, R355): recorded, and no reset; what ran on the IRC has no clock. -/
def ircFail (s : State) : State := (((s.put CLK_STAT_IRCOK 0).flagClk CLK_FLAGS_IRCFAIL).daily 0x10 0 0).settleAll

def execIrcFail (s : State) : Host.Outcome State Fault Refusal :=
  .next (if s.bit CLK_STAT_XOSTABLE ∧ s.bit CLK_STAT_IRCOK then ircFail s else s)

/-! ### Domains (12, R356 to R359) -/

/-- A write of CLK_DOMd_CFG. -/
def State.domCfgWrite (s : State) (d : Nat) (w : Word) : State := (s.writeReg (CLK_DOM_CFG d) w fullMask).domSettle d

def execDomainCfgWrite (src : Source) (d : Fin 5) (w : Word) (s : State) : Host.Outcome State Fault Refusal := .next (s.rowWrite src (CLK_DOM_CFG d) w (fun u => u.domCfgWrite d w))

/-- A write of CLK_CPLLEN: a CPLL that is off is not locked. -/
def State.cpllWrite (s : State) (w : Word) : State :=
  let s1 := s.writeReg CLK_CPLLEN w fullMask
  (if s1.cpllOn then s1 else s1.put CLK_STAT_CPLLLOCK 0).settleAll

/-- The step in force of a domain's divider completes (12, R356): up to 32 on the way to another source or to a stop, else toward DIV. -/
def dividerStep (s : State) (d : Nat) : State :=
  let div := s.get (CLK_DOM_STAT_DIVACT d)
  let s1 := s.put (CLK_DOM_STAT_DIVACT d) (if s.pwr.up.contains d then div + 1 else div - 1)
  (({ s1 with pwr := { s1.pwr with up := s1.pwr.up.filter (fun e => e != d) } }).domSettle d).pllFollow.bootClocks

/-- FORCED_SWITCH of a domain's multiplexer, or of the AON domain's, number 5 (12, R358): AON goes from the IRC to the XO, or back after
the failure of the XO. -/
def forcedSwitch (s : State) (d : Nat) : State :=
  let back := !s.bit CLK_STAT_XOSTABLE
  let old := if d = 5 then b2n back else s.get (CLK_DOM_STAT_SRCACT d)
  let new := if d = 5 then b2n (!back) else s.wantSrc d
  let s1 := if d = 5 then { s.put CLK_STAT_AONSRC new with pwr := { s.pwr with aonBack := false } }
    else (({ s with pwr := { s.pwr with up := s.pwr.up.filter (fun e => e != d) } }.put (CLK_DOM_STAT_DIVACT d) 32).put (CLK_DOM_STAT_SRCACT d) new).domSettle d
  ((s1.flagClk CLK_FLAGS_FORCED_SWITCH).daily 0x11 d (old + new * 256)).pllFollow.bootClocks

end Sys2Proof.Machine
end

