-- ==== Sys2Proof/Machine/Tracker.lean ====
section
/-! DEFINITION. CALREF, calibration drive, trim slews, the drift tracker (10_calibration_and_ledger.md, R288, R289, R302, R306,
R309 to R313). -/

set_option Elab.async false

namespace Sys2Proof.Machine

/-! ### The CALREF monitor (10, R289) -/

def execCalrefAbsent (s : State) : Host.Outcome State Fault Refusal :=
  .next (if s.bit CAL_REFCFG_EN then
    let s1 := ((s.put CAL_REFSTAT_PRESENT 0).put CAL_REFSTAT_INWIN 0).put CAL_REFSTAT_LOSS 1
    { s1 with cal := { s1.cal with gap := true, refFails := s1.cal.refFails + 1 } }
  else s)

/-- c_exp and the window's tolerance. -/
def State.calExp (s : State) : Nat := if s.bit CAL_REFCFG_FREQ then 40960 else 409600

/-- A window of `count` CORE cycles ends. A deviation beyond QDEV's format is a free value. -/
def calrefWindow (s : State) (count : Nat) : State :=
  let d : Int := (count : Int) - s.calExp
  let pass := decide (d.natAbs ≤ s.calExp * 50 / 1000000)
  let q := if -32768 ≤ d ∧ d ≤ 32767 then wrapNat 16 d else Config.outOfRange count % 2 ^ 16
  let s1 := (s.put CAL_REFSTAT_INWIN (b2n (pass && !s.cal.gap))).put CAL_REFSTAT_QDEV q
  let s2 := if pass then s1 else s1.put CAL_REFSTAT_WINFAIL 1
  { s2 with cal := { s2.cal with gap := false, refFails := s2.cal.refFails + b2n (!pass) } }

def execCalrefWindowEnd (count : Nat) (s : State) : Host.Outcome State Fault Refusal :=
  .next (if s.bit CAL_REFCFG_EN then calrefWindow s count else s)

def execCalrefEdgesReturn (s : State) : Host.Outcome State Fault Refusal :=
  .next (if s.bit CAL_REFCFG_EN then s.put CAL_REFSTAT_PRESENT 1 else s)

/-- A write of CAL_REFCFG: a monitor that goes off has failed, to a run in progress (10, R291, R325). -/
def State.refcfgWrite (s : State) (w : Word) : State :=
  let s1 := s.writeReg CAL_REFCFG w fullMask
  if s.bit CAL_REFCFG_EN ∧ s1.bit CAL_REFCFG_EN = false then { s1 with cal := { s1.cal with refFails := s1.cal.refFails + 1 } } else s1

/-! ### Calibration drive mode (10, R302) -/

/-- The record in CHn_CALCTX. -/
def State.calRecord (s : State) (n : Nat) : Record :=
  BitVec.ofNat 256 ((List.range 8).foldl (fun a w => a + s.get (CH_CALCTX_REC n w) * 2 ^ (32 * w)) 0)

/-- CHn_CALCTRL takes a word (10, R302, R305): CDRV going to 1 releases NOGRP, its clearing parks the channel at its next cycle, at once
where its accumulator does not run; a DTC step that waited becomes a slew when it no longer may be taken. -/
def State.calctrlPut (s : State) (n : Nat) (w : Word) : State :=
  let on := s.bit (CH_CALCTRL_CDRV n)
  let s0 := s.writeReg (CH_CALCTRL n) w fullMask
  let s1 := if s.dtcWaits n ∧ s0.dtcWaits n = false then s0.dtcStart n else s0.dtcIdle n
  if wbit w 30 = on then s1
  else if wbit w 30 then (s1.putCause n causeNogrp false).modChan n (fun x => { x with drvAt := s.tbOf (n / 64) })
  else if (s1.chan n).cyc.on then s1.parkWant n causeNogrp (.cycle (s1.chan n).cyc.k)
  else s1.putCause n causeNogrp true

/-- A write of CHn_CALCTRL: CDRV = 1 asks for MEMBER = 0 and else nothing is written (10, R292, R302). -/
def State.calctrlWrite (s : State) (src : Source) (n : Nat) (w : Word) : State :=
  if s.heldBars src n ∨ (wbit w 30 ∧ s.bit (CH_GRP_MEMBER n)) then s.put (CH_CALFLAGS_WREF n) 1 else s.calctrlPut n w

def execCdrvWrite (src : Source) (n : Fin 512) (w : Word) (s : State) : Host.Outcome State Fault Refusal :=
  .next (s.rowWrite src (CH_CALCTRL n) w (fun u => u.calctrlWrite src n w))

/-- CDRV_START, in a bank that has a T-clock (02, R42): the accumulator starts 256 T-clock cycles after the write (05, R132; 10, R302). -/
def cdrvStart (s0 : State) (n : Nat) : State :=
  let t := (s0.chan n).drvAt + 256
  let s := s0.tbTo (n / 64) t
  let x := s.chan n
  let c := ({ x.cyc with drive := some (s.calRecord n), loads := [] }).startAt (s.gctx (s.groupOf n)) t
  (s.setChan n { x with cyc := c.1, sch := x.sch.restart, dtcOld := [] }).leaveIfFree n (.cycle 0)

def execCdrvStart (n : Fin 512) (s : State) : Host.Outcome State Fault Refusal :=
  .next (if s.bit (CH_CALCTRL_CDRV n) ∧ (s.chan n).cyc.on = false ∧ s.bit (CH_GRP_MEMBER n) = false ∧ s.clocked (n / 64) then
    cdrvStart s n else s)

/-! ### Root trims (10, R306) -/

/-- A trim for a root: in one step while no bank that selects it is active, else by slewing. -/
def State.applyTrim (s : State) (n : Nat) (v : Int) : State :=
  if (s.banksOf n).all (fun b => s.bankIdle b) then
    ({ s with cal := { s.cal with trim := tabSet none s.cal.trim n none } }.puti (SYN_FTRIM_TRIM n) v).noteVar n
  else { s with cal := { s.cal with trim := tabSet none s.cal.trim n (some v) } }

/-- The trim that a root has or is moving to. -/
def State.trimTarget (s : State) (n : Nat) : Int := (tabGet none s.cal.trim n).getD (s.geti (SYN_FTRIM_TRIM n))

/-- FTRIM_SLEW_STEP. -/
def trimStep (s : State) (n : Nat) (v : Int) : State :=
  let a := s.geti (SYN_FTRIM_TRIM n)
  let b := a + satSym (max 1 (s.get CAL_FTSTEP_UNITS)) (v - a)
  let s1 := if b = v then { s with cal := { s.cal with trim := tabSet none s.cal.trim n none } } else s
  (s1.puti (SYN_FTRIM_TRIM n) b).noteVar n

def execFtrimSlewStep (n : Fin 4) (s : State) : Host.Outcome State Fault Refusal :=
  match tabGet none s.cal.trim n with
  | none => .next s
  | some v => .next (trimStep s n v)

/-! ### The drift tracker (10, R309 to R313) -/

def State.trk (s : State) (b : Nat) : Trk := tabGet Trk.init s.cal.trks b
def State.setTrk (s : State) (b : Nat) (x : Trk) : State := { s with cal := { s.cal with trks := tabSet Trk.init s.cal.trks b x } }

/-- A signed 16-bit coefficient moves by the product of two signs, saturating. -/
def coeff (k a b : Int) : Int := max (-32768) (min 32767 (k + sgn a * sgn b))

/-- A value moved toward another by at most a step. -/
def toward (step : Nat) (a want : Int) : Int := a + satSym step (want - a)

def clampTo (lo hi v : Int) : Int := if v < lo then lo else if hi < v then hi else v

/-- The model wanted a value beyond a bound (10, R311): 0 GLO, 1 GHI, 2 OLO, 3 OHI. -/
def State.trkConflict (s : State) (b bound : Nat) : State :=
  let s1 := (s.put (BNK_TRKFLAGS_CONFLICT b) 1).inc (BNK_TRKCONF_COUNT b)
  if (s1.trk b).since.all (fun k => decide (1000 ≤ k)) then (s1.setTrk b { s1.trk b with since := some 0 }).log 0x08 b 0 bound else s1

/-- The outputs within their bounds: these act whatever is skipped (10, R310). -/
def State.trkClamp (s : State) (b : Nat) (g o : Int) : State :=
  let s1 := s.puti (BNK_TRKOUT_GC b) (clampTo (s.geti (BNK_TRKGB_GLO b)) (s.geti (BNK_TRKGB_GHI b)) g)
  s1.puti (BNK_TRKOUT_OC b) (clampTo (s.geti (BNK_TRKOB_OLO b)) (s.geti (BNK_TRKOB_OHI b)) o)

/-- An update that is not skipped: `mG`, `mO` are what the octet's tap measured. -/
def trkUpdate (s : State) (b : Nat) (mG mO : Int) : State :=
  let dc : Int := (s.get (BNK_DLLCW_CW b) : Int) - s.get (BNK_TRKREF_CW0 b)
  let dT := s.geti (BNK_TRKTEMP_T b) - s.geti (BNK_TRKREF_T0 b)
  let kgc := s.geti (BNK_TRKKG_KGC b)
  let kgt := s.geti (BNK_TRKKG_KGT b)
  let koc := s.geti (BNK_TRKKO_KOC b)
  let kot := s.geti (BNK_TRKKO_KOT b)
  let pG := tdiv (kgc * dc + kgt * dT) 256
  let pO := tdiv (koc * dc + kot * dT) 256
  let s1 := (s.puti (BNK_TRKKG_KGC b) (coeff kgc (mG - pG) dc)).puti (BNK_TRKKG_KGT b) (coeff kgt (mG - pG) dT)
  let s2 := (s1.puti (BNK_TRKKO_KOC b) (coeff koc (mO - pO) dc)).puti (BNK_TRKKO_KOT b) (coeff kot (mO - pO) dT)
  let wG := pG + s.geti (BNK_TRKBIAS_BG b)
  let wO := pO + s.geti (BNK_TRKBIAS_BO b)
  let st := max 1 (s.get (BNK_TRKCTRL_STEP b))
  let s3 := s2.trkClamp b (toward st (s.geti (BNK_TRKOUT_GC b)) wG) (toward st (s.geti (BNK_TRKOUT_OC b)) wO)
  if wG < s.geti (BNK_TRKGB_GLO b) then s3.trkConflict b 0
  else if s.geti (BNK_TRKGB_GHI b) < wG then s3.trkConflict b 1
  else if wO < s.geti (BNK_TRKOB_OLO b) then s3.trkConflict b 2
  else if s.geti (BNK_TRKOB_OHI b) < wO then s3.trkConflict b 3
  else s3

/-- Waiting DRIFT_SET commands take effect (10, R312). -/
def State.driftSets (s : State) (b : Nat) : State :=
  (s.trk b).want.foldl (fun u q => ((u.puti (BNK_TRKOUT_GC b) q.2.2.1).puti (BNK_TRKOUT_OC b) q.2.2.2).okCmd q.1 q.2.1 0)
    (s.setTrk b { s.trk b with want := [] })

/-- TRACKER_UPDATE of a bank: its temperature, whether the measuring window overlaps a taint interval, what the octet's
tap measured. The bank itself knows of the intervals that were open since the last update (04, R506). -/
def trackerUpdate (s : State) (b : Nat) (t : Nat) (overlap : Bool) (mG mO : Int) : State :=
  let v := signed 16 t
  let s0 := (s.driftSets b).modBank b (fun y => { y with dist := s.bit (BNK_STAT_TAINT b), tSpan := (min y.tSpan.1 v, max y.tSpan.2 v) })
  let s1 := (s0.put (BNK_TRKTEMP_T b) t).setTrk b { s0.trk b with u := (s0.trk b).u + 1, since := (s0.trk b).since.map (fun k => k + 1) }
  let hold := s.bit (BNK_TRKCTRL_FREEZE b) || s.bit GLB_MODE_DRIFTHOST
  let taint := overlap || s.bit (BNK_STAT_TAINT b) || (s.bank b).dist
  if hold = false ∧ taint = false then trkUpdate s1 b mG mO
  else
    let s2 := if hold = false then (s1.put (BNK_TRKFLAGS_SKIP b) 1).inc (BNK_TRKSKIP_COUNT b) else s1
    s2.trkClamp b (s2.geti (BNK_TRKOUT_GC b)) (s2.geti (BNK_TRKOUT_OC b))

def execTrackerUpdate (b : Fin 8) (t : BitVec 16) (overlap : Bool) (mG mO : Int) (s : State) : Host.Outcome State Fault Refusal :=
  .next (if s.domOn (64 + b) then trackerUpdate s b t.toNat overlap mG mO else s)

/-- A write of BNKb_TRKGB or BNKb_TRKOB (10, R310). -/
def State.trkBoundWrite (s : State) (b a : Nat) (w : Word) : State :=
  if signed 16 (fld w 16 16) < signed 16 (fld w 0 16) then s.put (BNK_TRKFLAGS_BNDREF b) 1 else s.writeReg a w fullMask

/-- DRIFT_SET (10, R312; 14, R429). -/
def driftSet (s : State) (f c b : Nat) (g o : Int) : State :=
  if 8 ≤ b then s.failCmd f c Code.BAD_PARAM
  else if s.domOn (64 + b) = false then s.failCmd f c Code.POWER_OFF
  else if s.bit GLB_MODE_DRIFTHOST = false then s.failCmd f c Code.BAD_PARAM
  else if clampTo (s.geti (BNK_TRKGB_GLO b)) (s.geti (BNK_TRKGB_GHI b)) g ≠ g ∨ clampTo (s.geti (BNK_TRKOB_OLO b)) (s.geti (BNK_TRKOB_OHI b)) o ≠ o then
    s.failCmd f c Code.VALUE_RANGE
  else s.setTrk b { s.trk b with want := (s.trk b).want ++ [(f, c, g, o)] }

def execDriftSet (f : Fin 64) (c : Nat) (s : State) : Host.Outcome State Fault Refusal :=
  .next (s.runCmd f c 0x0320 (fun e u => driftSet u f c (ent e 20 1) (signed 16 (ent e 22 2)) (signed 16 (ent e 24 2))))

end Sys2Proof.Machine
end

