-- ==== Sys2Proof/Machine/Ledger.lean ====
section
/-! DEFINITION. The ledger: its image, export, import, the folios and the save (10_calibration_and_ledger.md, R305,
R308, R314 to R320). -/

set_option Elab.async false

namespace Sys2Proof.Machine

/-! ### The image (10, R314, R315) -/

/-- A signed number as bytes. -/
def leInt (k : Nat) (v : Int) : List Nat := leBytes k (wrapNat (8 * k) v)

def zeros (k : Nat) : List Nat := List.replicate k 0

/-- Two 12-bit entries in each 3 bytes. -/
def pack12 : List Nat → List Nat
  | a :: b :: t => leBytes 3 (a % 4096 + b % 4096 * 4096) ++ pack12 t
  | _ => []

def unpack12 : List Nat → List Nat
  | a :: b :: c :: t => let v := ofLe [a, b, c]; v % 4096 :: v / 4096 :: unpack12 t
  | _ => []

/-- f_T of a bank's root with FTRIM, as a fraction in Hz (09, R279). -/
def State.bankHz (s : State) (b : Nat) : Nat × Nat :=
  let n := s.rootOf b
  s.fTnom n (s.wordInForce n) (s.geti (SYN_FTRIM_TRIM n))

def State.rootCal (s : State) (n : Nat) : RootCal := tabGet RootCal.init s.cal.roots n

def State.ledgerHeader (s : State) (time serial : Nat) : List Nat :=
  leBytes 4 0x444C4754 ++ leBytes 2 1 ++ leBytes 2 64 ++ leBytes 4 (s.get SEC_UIDLO_UID) ++ leBytes 4 (s.get SEC_UIDHI_UID) ++
    [s.get SEC_LCSTATE_LC] ++ zeros 3 ++ leBytes 8 time ++ leBytes 4 serial ++ leBytes 4 ledgerLen ++ leBytes 4 512 ++ zeros 24

def State.ledgerRoot (s : State) (n : Nat) : List Nat :=
  let k := s.rootCal n
  leInt 4 (s.trimTarget n) ++ leInt 4 k.ppb ++ leBytes 4 k.khz ++ [k.ref, s.get CAL_VALID_FREQ / 2 ^ n % 2] ++ zeros 18

def State.ledgerBank (s : State) (b : Nat) : List Nat :=
  leBytes 4 (tabGet 0 s.cal.khz b) ++ leBytes 4 (s.word (BNK_TRKREF b)).toNat ++ leBytes 4 (s.word (BNK_TRKKG b)).toNat ++
    leBytes 4 (s.word (BNK_TRKKO b)).toNat ++ leBytes 4 (s.word (BNK_TRKGB b)).toNat ++ leBytes 4 (s.word (BNK_TRKOB b)).toNat ++
    leBytes 4 (s.word (BNK_TRKBIAS b)).toNat ++ zeros 4

def State.ledgerLink (s : State) (p : Nat) : List Nat :=
  leBytes 4 (s.get (PRL_ASYM_ASYM p)) ++ [tabGet 0 s.cal.peer p, s.get CAL_VALID_LINK / 2 ^ p % 2] ++ zeros 10

def State.ledgerChan (s : State) (n : Nat) : List Nat :=
  leBytes 2 n ++ [s.get (CH_CALSTAT_VALID n), 0] ++ leInt 4 (s.geti (CH_DESKEW_TARGET n)) ++ leInt 4 (s.geti (CH_EVSKEW_SKEW n)) ++
    zeros 4 ++ pack12 (s.tableAt (CH_SINL0 n 0)) ++ pack12 (s.tableAt (CH_SINL1 n 0)) ++ pack12 (s.tableAt (CH_DINLT n 0))

/-- Bytes 0x0_0000 to 0x2_61FF of a ledger of the values in force, targets where a slew runs (10, R316). -/
def State.ledgerBody (s : State) (time serial : Nat) : List Nat :=
  s.ledgerHeader time serial ++ (List.range 4).flatMap s.ledgerRoot ++ (List.range 8).flatMap s.ledgerBank ++
    (List.range 4).flatMap s.ledgerLink ++ (List.range 512).flatMap s.ledgerChan

def sealOf (crc : Nat) : Nat := Nat.xor crc 0x5EA15EA1

/-- A body with its CRC-32 and its seal. -/
def sealed (body : List Nat) : List Nat := let c := crc32 body; body ++ leBytes 4 c ++ leBytes 4 (sealOf c)

/-- The number at an offset of an image. -/
def imgAt (img : List Nat) (off k : Nat) : Nat := ofLe ((img.drop off).take k)

/-- The checks of R317 in their order; `len` is the command's length. -/
def State.ledgerCheck (s : State) (len : Nat) (img : List Nat) : Nat :=
  let c := crc32 (img.take 156160)
  if len ≠ ledgerLen ∨ imgAt img 32 4 ≠ ledgerLen then Code.LEDGER_LENGTH
  else if imgAt img 0 4 ≠ 0x444C4754 ∨ imgAt img 6 2 ≠ 64 ∨ imgAt img 4 2 ≠ 1 then Code.LEDGER_VERSION
  else if imgAt img 8 4 ≠ s.get SEC_UIDLO_UID ∨ imgAt img 12 4 ≠ s.get SEC_UIDHI_UID then Code.LEDGER_UID
  else if imgAt img 156160 4 ≠ c then Code.LEDGER_CRC
  else if imgAt img 156164 4 ≠ sealOf c then Code.LEDGER_SEAL
  else Code.OK

/-! ### Bringing a ledger into force (10, R305 to R308, R313, R317) -/

/-- DESKEW for a channel as firmware writes it (10, R305). -/
def State.putDeskew (s : State) (n : Nat) (v : Int) : State :=
  let k := s.get CAL_SLEWN_N
  let s1 := ((s.put (CH_DSKCTRL_MODE n) (b2n (s.chan n).pk.parked)).put (CH_DSKCTRL_N n) k).put (CH_CALCTRL_N n) k
  s1.deskewWrite n (BitVec.ofNat 32 (wrapNat 18 v))

/-- DTC targets for a channel. -/
def State.putDtc (s : State) (n : Nat) (l : List Nat) : State := (s.putTable (CH_DINLT n 0) l).newDtc n (s.dtcBusy n)

/-- A time value of a calibration at `khz` in ticks of the bank's present T-clock; a bank whose root gives no T-clock, or a
ledger without the frequency, keeps it (10, R308). -/
def State.scaled (s : State) (b khz : Nat) (v : Int) : Int :=
  let f := s.bankHz b
  if khz = 0 ∨ (s.root (s.rootOf b)).tclk = false then v else roundDivI (v * f.1) (f.2 * khz * 1000)

/-- A channel record of a ledger; `khz` by bank. -/
def State.applyChan (s : State) (n khz : Nat) (r : List Nat) : State :=
  let s1 := s.put (CH_CALSTAT_VALID n) (imgAt r 2 1)
  let s2 := s1.putDeskew n (s.scaled (n / 64) khz (signed 32 (imgAt r 4 4)))
  let s3 := s2.puti (CH_EVSKEW_SKEW n) (s.scaled (n / 64) khz (signed 32 (imgAt r 8 4)))
  let s4 := (s3.putTable (CH_SINL0 n 0) (unpack12 ((r.drop 16).take 96))).putTable (CH_SINL1 n 0) (unpack12 ((r.drop 112).take 96))
  s4.putDtc n (unpack12 ((r.drop 208).take 96))

/-- One bit of a field. -/
def State.putBit (s : State) (r : Ref) (i v : Nat) : State := s.put ⟨r.addr, r.lo + i, 1⟩ v

def State.applyRoot (s : State) (img : List Nat) (n : Nat) : State :=
  let o := 0x40 + 32 * n
  let s1 := (s.applyTrim n (signed 32 (imgAt img o 4))).putBit CAL_VALID_FREQ n (imgAt img (o + 13) 1)
  { s1 with cal := { s1.cal with roots := tabSet RootCal.init s1.cal.roots n ⟨signed 32 (imgAt img (o + 4) 4), imgAt img (o + 8) 4, imgAt img (o + 12) 1⟩ } }

def State.applyBank (s : State) (img : List Nat) (b : Nat) : State :=
  let o := 0xC0 + 32 * b
  let w := fun (u : State) (a i : Nat) => u.setWord a (BitVec.ofNat 32 (imgAt img (o + i) 4))
  let s1 := w (w (w (w (w (w s (BNK_TRKREF b) 4) (BNK_TRKKG b) 8) (BNK_TRKKO b) 12) (BNK_TRKGB b) 16) (BNK_TRKOB b) 20) (BNK_TRKBIAS b) 24
  { s1 with cal := { s1.cal with khz := tabSet 0 s1.cal.khz b (imgAt img o 4) } }

def State.applyLink (s : State) (img : List Nat) (p : Nat) : State :=
  let o := 0x1C0 + 16 * p
  let s1 := (s.put (PRL_ASYM_ASYM p) (imgAt img o 4)).putBit CAL_VALID_LINK p (imgAt img (o + 5) 1)
  { s1 with cal := { s1.cal with peer := tabSet 0 s1.cal.peer p (imgAt img (o + 4) 1) } }

/-- Channel records in order from a channel on. -/
def State.applyChans (s : State) (khz : Nat → Nat) : Nat → Nat → List Nat → State
  | 0, _, _ => s
  | k + 1, n, r => (s.applyChan n (khz (n / 64)) (r.take 304)).applyChans khz k (n + 1) (r.drop 304)

/-- The frequency that a ledger records for a bank. -/
def ledgerKhz (img : List Nat) (b : Nat) : Nat := imgAt img (0xC0 + 32 * b) 4

/-- A ledger comes into force as a whole; the trackers run from then on (10, R313, R317). -/
def State.applyLedger (s : State) (img : List Nat) : State :=
  let s1 := (List.range 4).foldl (fun u n => u.applyRoot img n) s
  let s2 := (List.range 8).foldl (fun u b => (u.applyBank img b).put (BNK_TRKCTRL_FREEZE b) 0) s1
  let s3 := (List.range 4).foldl (fun u p => u.applyLink img p) s2
  let s4 := s3.applyChans (ledgerKhz img) 512 0 (img.drop 0x200)
  { s4 with cal := { s4.cal with ledger := img } }

/-- The channels of an octet take their values of the ledger in force (12, R364). -/
def State.octetLedger (s : State) (k : Nat) : State :=
  if s.cal.ledger.isEmpty then s
  else s.applyChans (ledgerKhz s.cal.ledger) 8 (8 * k) (s.cal.ledger.drop (0x200 + 304 * (8 * k)))

/-! ### Folios (10, R318 to R320) -/

/-- Folio A, 0, and B, 1, on the boot flash of SPT0: 256 KiB each, of which the ledger uses the first three 64 KiB blocks (10,
R318). -/
def folioBase (i : Nat) : Nat := 0xF80000 + 0x40000 * i
def folioBlock : Nat := 0x10000
def folioBlocks : Nat := 3

def State.folio (s : State) (i : Nat) : Folio := tabGet Folio.init s.cal.folios i
def State.setFolio (s : State) (i : Nat) (x : Folio) : State := { s with cal := { s.cal with folios := tabSet Folio.init s.cal.folios i x } }

/-- A folio passes the checks of R317. -/
def State.folioOk (s : State) (i : Nat) : Bool := s.ledgerCheck (s.folio i).img.length (s.folio i).img == Code.OK
def State.folioSerial (s : State) (i : Nat) : Nat := if s.folioOk i then imgAt (s.folio i).img 28 4 else 0

/-- Of two valid folios, is B the newer? -/
def State.newerB (s : State) : Bool := decide (0 < signed 32 (s.folioSerial 1 + 2 ^ 32 - s.folioSerial 0))

/-- The folio in use: the newer valid one. -/
def State.newestFolio (s : State) : Option Nat :=
  if s.folioOk 0 ∧ s.folioOk 1 then some (if s.newerB then 1 else 0)
  else if s.folioOk 0 then some 0
  else if s.folioOk 1 then some 1
  else none

/-- The folio that a save writes. -/
def State.saveTo (s : State) : Nat :=
  match s.newestFolio with
  | some i => 1 - i
  | none => 0

/-- What the CAL registers show of the folios (10, R325). -/
def State.showFolios (s : State) : State :=
  let s1 := (s.put CAL_FOLSTAT_AVALID (b2n (s.folioOk 0))).put CAL_FOLSTAT_BVALID (b2n (s.folioOk 1))
  let s2 := (s1.put CAL_SERA_SERIAL (s.folioSerial 0)).put CAL_SERB_SERIAL (s.folioSerial 1)
  s2.put CAL_FOLSTAT_ERASED (b2n (s.folio s.saveTo).erased)

/-- Boot brings a folio into force, or records LEDGER_NONE (10, R320; 13, R406). -/
def State.folioBoot (s : State) : State :=
  match s.newestFolio with
  | some i => (((s.applyLedger (s.folio i).img).showFolios).put CAL_FOLSTAT_INUSE i).put CAL_FOLSTAT_NONE 0
  | none => (s.showFolios.put CAL_FOLSTAT_NONE 1).daily 0x30 0 0

/-! ### Staging and the commands (10, R316, R317, R319; 16, R475) -/

/-- Bytes of the staging window, and the window with bytes put at its start. -/
def State.staged (s : State) (k : Nat) : List Nat := (List.range k).map (fun i => tabGet 0 s.staging i)

def State.stage0 (s : State) (bytes : List Nat) : State :=
  { s with staging := ((List.range bytes.length).zip bytes).filter (fun p => p.2 != 0) ++ s.staging.filter (fun p => decide (bytes.length ≤ p.1)) }

/-- A calibration run is in progress. -/
def State.calRuns (s : State) : Bool := s.cal.run.isSome

/-- A CAL_RUN, an import or a save. -/
def calOp (e : Nat) : Bool := entOp e == 0x0300 || entOp e == 0x0311 || entOp e == 0x0312

/-- A calibration run, a ledger save or a ledger import is in progress. -/
def State.calOpen (s : State) : Bool := s.calRuns || s.flows.any (fun p => p.2.cmds.any (fun k => k.st.busy && calOp k.entry))

/-- When a core took a command. -/
def State.tookOf (s : State) (f c : Nat) : Nat := match (s.flow f).cmds.find? (fun k => k.id == c) with
  | some k => k.took
  | none => 0

/-- A run, an import or a save is in progress for a command that arrives (10, R290): a run, or one of the three that a core took before
this one and that has not finished. -/
def State.calBusy (s : State) (f c : Nat) : Bool :=
  s.calRuns || s.flows.any (fun p => p.2.cmds.any (fun k =>
    !(p.1 == f && k.id == c) && k.st.busy && calOp k.entry && decide (k.took < s.tookOf f c)))

def execLedgerExport (f : Fin 64) (c : Nat) (s : State) : Host.Outcome State Fault Refusal :=
  .next (s.runCmd f c 0x0310 (fun _ u => (u.stage0 (sealed (u.ledgerBody 0 0))).okCmd f c ledgerLen))

/-- LEDGER_IMPORT (10, R317). -/
def ledgerImport (s : State) (f c len : Nat) : State :=
  if s.calBusy f c then s.failCmd f c Code.CAL_BUSY
  else
    let img := s.staged ledgerLen
    let code := s.ledgerCheck len img
    if code = Code.OK then (s.applyLedger img).okCmd f c 0 else s.failCmd f c code

def execLedgerImport (f : Fin 64) (c : Nat) (s : State) : Host.Outcome State Fault Refusal :=
  .next (s.runCmd f c 0x0311 (fun e u => ledgerImport u f c (ent e 20 4)))

/-- The blocks of a folio are erased, the highest address first (10, R319). -/
def State.eraseFolio (s : State) (i : Nat) : State :=
  (((List.range folioBlocks).reverse).foldl (fun u j => u.emit (.flashErase (folioBase i + folioBlock * j))) s).setFolio i Folio.init

/-- Bytes are programmed into a folio behind those it holds. -/
def State.programFolio (s : State) (i : Nat) (bytes : List Nat) : State :=
  let x := (s.folio i).img
  (s.emit (.flashWrite (folioBase i + x.length) bytes)).setFolio i ⟨x ++ bytes, false⟩

/-- Firmware's frames on SPT0 empty the read buffer of the execute-in-place window (15, R456, R457). -/
def State.flashFrames (s : State) : State := s.modSpt 0 (fun x => { x with lines := [] })

/-- A frame or a fetch holds the bus of SPT0: the frames of a save wait for their turn (15, R457). -/
def State.flashBusy (s : State) : Bool := (s.spt 0).frame || (s.spt 0).fetch

/-- LEDGER_SAVE (10, R319); whether the body, and then the seal, read back from flash as they were programmed. -/
def ledgerSave (s : State) (f c time : Nat) (body seal_ : Bool) : State :=
  if s.calBusy f c then s.failCmd f c Code.CAL_BUSY
  else if s.bit GLB_MODE_LEDGERHOST then s.failCmd f c Code.HOST_MODE
  else
    let dst := s.saveTo
    let serial := match s.newestFolio with
      | some i => (s.folioSerial i + 1) % 2 ^ 32
      | none => 1
    let b := s.ledgerBody time serial
    let s0 := if (s.folio dst).erased then s.flashFrames else s.flashFrames.eraseFolio dst
    let s1 := s0.programFolio dst (b ++ leBytes 4 (crc32 b))
    let s2 := if body && seal_ then s1.programFolio dst (leBytes 4 (sealOf (crc32 b)))
      else if body then s1.emit (.flashWrite (folioBase dst + b.length + 4) (leBytes 4 (sealOf (crc32 b))))
      else s1
    if body && seal_ then
      let s3 := if s2.bit CAL_CTRL_PREERASE then s2.eraseFolio (1 - dst) else s2
      s3.showFolios.okCmd f c serial
    else s2.showFolios.failCmd f c Code.LEDGER_FLASH

def execLedgerSave (f : Fin 64) (c : Nat) (body seal_ : Bool) (s : State) : Host.Outcome State Fault Refusal :=
  .next (if s.flashBusy then s else s.runCmd f c 0x0312 (fun e u => ledgerSave u f c (ent e 24 8) body seal_))

end Sys2Proof.Machine
end

