-- ==== Sys2Proof/Machine/PmBus.lean ====
section
/-! DEFINITION. PMBus regulator control and adaptive voltage scaling (12_control_clocks_and_power.md, R368 to R373). -/

set_option Elab.async false

namespace Sys2Proof.Machine

/-! ### Transactions (12, R368 to R370) -/

/-- The slot number that stands for the alert response address. -/
def araSlot : Nat := 8

/-- The bus address of a transaction. -/
def State.pmAddr (s : State) (x : PmTx) : Nat := if x.slot = araSlot then 0x0C else s.get (PMBR_CFG_ADDR x.slot)

/-- Does a transaction carry a packet error code (12, R368, R369)? The alert response does not. -/
def State.pmPec (s : State) (x : PmTx) : Bool := decide (x.slot ≠ araSlot) && s.bit (PMBR_CFG_PEC x.slot)

/-- The bytes that the device sends: address and write bit, command, data, PEC; before a read the address again with the read bit; the alert
response is a read alone (12, R368, R372). -/
def State.pmWire (s : State) (x : PmTx) : List Nat :=
  let a := 2 * s.pmAddr x
  let l := if x.slot = araSlot then [a + 1]
    else if x.kind = 1 ∨ x.kind = 2 then [a, x.cmd, a + 1]
    else a :: x.cmd :: (if x.kind = 0 then [] else if x.kind = 3 then [x.data % 256] else [x.data % 256, x.data / 256 % 256])
  if s.pmPec x = true ∧ ¬(x.kind = 1 ∨ x.kind = 2) then l ++ [pec l] else l

/-- The first transaction of the queue goes onto the bus; BUSY shows one (12, R378). -/
def State.pmStart (s : State) : State :=
  match s.pmb.q with
  | [] => s.put PMB_STAT_BUSY 0
  | x :: _ => (s.put PMB_STAT_BUSY 1).onBall (.pmbus (s.pmAddr x) x.kind x.cmd x.data (s.pmPec x) (s.pmWire x))

def State.setPmQ (s : State) (q : List PmTx) : State := { s with pmb := { s.pmb with q := q } }

/-- New transactions: behind those that wait, or next after the one on the bus. -/
def State.pmPush (s : State) (next : Bool) (l : List PmTx) : State :=
  match s.pmb.q with
  | [] => if l.isEmpty then s else (s.setPmQ l).pmStart
  | x :: t => s.setPmQ (if next then x :: (l ++ t) else (x :: t) ++ l)

def pmTx (slot kind cmd data : Nat) (why : PmWhy) : PmTx := { slot := slot, kind := kind, cmd := cmd, data := data, fails := 0, why := why }

def State.slotValid (s : State) (r : Nat) : Bool := s.bit (PMBR_CFG_VALID r)
def State.slotSilent (s : State) (r : Nat) : Bool := s.bit (PMBR_STAT_NORESP r)

/-- Valid slots to which the device sends. -/
def State.slots (s : State) : List Nat := (List.range 8).filter (fun r => s.slotValid r && !s.slotSilent r)

/-- The initialisation of the valid slots (12, R369). -/
def State.pmbInit (s : State) : State :=
  let s1 := (List.range 8).foldl (fun u r => (u.put (PMBR_STAT_PRESENT r) 0).put (PMBR_STAT_MODEBAD r) 0) (s.put PMB_STAT_PRESENT 0)
  s1.pmPush false (s.slots.flatMap (fun r =>
    [pmTx r 1 0x98 0 .init, pmTx r 1 0x20 0 .init, pmTx r 0 0x03 0 .init, pmTx r 2 0x79 0 .init, pmTx r 2 0x8B 0 .init]))

/-- The mailbox command that a transaction belongs to. -/
def PmWhy.cmd : PmWhy → Option (Nat × Nat)
  | .set f c => some (f, c)
  | .raw f c => some (f, c)
  | _ => none

/-- Transactions leave the queue undone: their mailbox commands complete with a code. -/
def State.pmFail (s : State) (l : List PmTx) (code : Nat) : State :=
  l.foldl (fun u x => match x.why.cmd with
    | some (f, c) => u.failCmd f c code
    | none => u) s

/-- A write of PMB_CTRL (12, R369): EN starts the host and initialises the slots; without it nothing more is sent. -/
def State.pmbCtrlWrite (s : State) (w : Word) : State :=
  let en := s.bit PMB_CTRL_EN
  let s1 := s.writeReg PMB_CTRL w fullMask
  if wbit w 0 = en then s1
  else if wbit w 0 then s1.pmbInit
  else ((s1.pmFail s.pmb.q Code.CANCELLED).setPmQ []).put PMB_STAT_BUSY 0

def execPmbEnable (src : Source) (w : Word) (s : State) : Host.Outcome State Fault Refusal := .next (s.rowWrite src PMB_CTRL w (fun u => u.pmbCtrlWrite w))

/-- A write of PMBr_CFG: the slot is spoken to again (12, R370). -/
def State.pmbCfgWrite (s : State) (r : Nat) (w : Word) : State :=
  let s1 := s.writeReg (PMBR_CFG r) w fullMask
  if s.bit PMB_CTRL_LOCK then s1 else s1.put (PMBR_STAT_NORESP r) 0

/-- PMB_POLL (12, R369). -/
def pmbPoll (s : State) : State := s.pmPush false (s.slots.flatMap (fun r => [pmTx r 2 0x79 0 .poll, pmTx r 2 0x8B 0 .poll]))

def execPmbPoll (s : State) : Host.Outcome State Fault Refusal := .next (if s.bit PMB_CTRL_EN then pmbPoll s else s)

/-- SMBALERT: the level of SMBALERT#; its assertion is answered by a read of the alert response address (12, R368). While
boundary scan drives the pins the device does not see it (13, R402). -/
def smbalert (s : State) (low : Bool) : State :=
  let s1 := s.put PMB_STAT_ALERT (b2n low)
  if low ∧ s.bit PMB_STAT_ALERT = false ∧ s.bit PMB_CTRL_EN then s1.pmPush true [pmTx araSlot 1 0 0 .alert] else s1

def execSmbalert (low : Bool) (s : State) : Host.Outcome State Fault Refusal := .next (if s.pinsCut then s else smbalert s low)

/-! ### What a transaction brings (12, R369, R370) -/

/-- A STATUS_WORD is read: it is latched, and a fault beside BUSY leads to the reads of the three status bytes, one after the other. -/
def State.statusWord (s : State) (r v : Nat) : State :=
  let s1 := s.put (PMBR_STAT_STATUS r) v
  if fieldPut v 7 1 0 % 2 ^ 16 = 0 then s1
  else
    (s1.flagPmb PMB_FLAGS_FAULT).pmPush true [pmTx r 1 0x7A 0 (.fault v [])]

/-- A status byte is read, and the next one follows; with the third the fault is recorded: DETAIL is the STATUS_WORD of this fault, then
its three bytes. -/
def State.statusByte (s : State) (r cmd v st : Nat) (bytes : List Nat) : State :=
  let l := bytes ++ [v % 256]
  if cmd = 0x7D then s.daily 0x20 (s.get (PMBR_CFG_ADDR r)) (st % 2 ^ 16 + 2 ^ 16 * ofLe l)
  else s.pmPush true [pmTx r 1 (if cmd = 0x7A then 0x7B else 0x7D) 0 (.fault st l)]

/-- The slot that answered an alert: the address is bits 7 to 1 of the byte. -/
def State.alertFrom (s : State) (v : Nat) : State :=
  match s.slots.find? (fun r => s.get (PMBR_CFG_ADDR r) == v / 2 % 128) with
  | none => s
  | some r => s.pmPush true [pmTx r 2 0x79 0 .alert]

/-- What a device's own read of a slot brings: PMBUS_REVISION and sent bytes nothing; VOUT_MODE; STATUS_WORD; READ_VOUT, the
last of an initialisation. -/
def State.pmRead (s : State) (x : PmTx) (v : Nat) : State :=
  let r := x.slot
  if x.cmd = 0x20 then (s.put (PMBR_STAT_EXP r) (v % 32)).put (PMBR_STAT_MODEBAD r) (b2n (v / 32 % 8 != 0))
  else if x.cmd = 0x79 then s.statusWord r v
  else if x.cmd = 0x8B then
    let s1 := s.put (PMBR_VOUT_VOUT r) v
    if x.why = .init then (s1.put (PMBR_STAT_PRESENT r) 1).put ⟨PMB_STAT, r, 1⟩ 1 else s1
  else s

/-- A transaction has succeeded; `s` has it still at the front. -/
def State.pmDone (s : State) (x : PmTx) (v : Nat) : State :=
  match x.why with
  | .init | .poll => s.pmRead x v
  | .fault st l => s.statusByte x.slot x.cmd v st l
  | .alert => if x.slot = araSlot then s.alertFrom v else s.pmRead x v
  | .avs => s
  | .set f c => if (s.pmb.q.filter (fun y => y.why = .set f c)).length ≤ 1 then s.okCmd f c (s.get PMB_AVSOUT_VSET) else s
  | .raw f c => s.okCmd f c (if x.kind = 1 then v % 256 else if x.kind = 2 then v else 0)

/-- The third failure (12, R370): the slot is silent; nothing more is sent to it. -/
def State.pmNoResp (s : State) (x : PmTx) : State :=
  let gone := s.pmb.q.filter (fun y => y.slot == x.slot)
  let s1 := s.setPmQ (s.pmb.q.filter (fun y => y.slot != x.slot))
  if x.slot = araSlot then s1
  else (((s1.put (PMBR_STAT_NORESP x.slot) 1).flagPmb PMB_FLAGS_NORESP).daily 0x21 x.slot x.cmd).pmFail gone Code.PMB_NORESP

/-- PMBUS_TRANSACTION_DONE, which fails while boundary scan drives the bus (13, R402): whether the transaction on the bus failed, and the data it read. -/
def pmbusDone (s : State) (x : PmTx) (fail : Bool) (v : Nat) : State :=
  if fail then
    let s1 := if x.slot = araSlot then s else s.inc (PMBR_ERRCNT_COUNT x.slot)
    if 2 ≤ x.fails then (s1.pmNoResp x).pmStart
    else (s1.setPmQ ({ x with fails := x.fails + 1 } :: s.pmb.q.drop 1)).pmStart
  else
    let s1 := s.pmDone x v
    (s1.setPmQ (s1.pmb.q.drop 1)).pmStart

def execPmbusTransactionDone (fail : Bool) (v : BitVec 16) (s : State) : Host.Outcome State Fault Refusal :=
  match s.pmb.q with
  | [] => .next s
  | x :: _ => .next (pmbusDone s x (fail || s.pinsCut) v.toNat)

/-! ### The adaptive loop (12, R371 to R373) -/

/-- Valid slots of the CORE rail. -/
def State.coreSlots (s : State) : List Nat := (List.range 8).filter (fun r => s.slotValid r && s.get (PMBR_CFG_RAIL r) == 0)

/-- A write of PMB_AVSCTRL: EN = 1 asks for a valid CORE slot. -/
def State.avsctrlWrite (s : State) (w : Word) : State :=
  let en := s.bit PMB_AVSCTRL_EN
  if wbit w 31 ∧ en = false ∧ s.coreSlots.isEmpty then
    (s.writeReg PMB_AVSCTRL (BitVec.ofNat 32 (w.toNat % 2 ^ 31)) fullMask).flagPmb PMB_FLAGS_AVSREF
  else
    let s1 := s.writeReg PMB_AVSCTRL w fullMask
    if wbit w 31 ∧ en = false then { s1 with pmb := { s1.pmb with known := false } } else s1

/-- A write of PMB_AVSBND (12, R372). -/
def State.avsbndWrite (s : State) (w : Word) : State :=
  if fld w 16 16 < fld w 0 16 then s.flagPmb PMB_FLAGS_BNDREF else s.writeReg PMB_AVSBND w fullMask

/-- The bounds as the device treats them (12, R372). -/
def avsLimit (v : Nat) : Nat := max 680 (min 820 v)
def State.vlo (s : State) : Nat := avsLimit (s.get PMB_AVSBND_VLO)
def State.vhi (s : State) : Nat := avsLimit (s.get PMB_AVSBND_VHI)

/-- V in mV from READ_VOUT, and VOUT_COMMAND from V, with the slot's exponent N (12, R371). -/
def State.vFrom (s : State) (r : Nat) : Nat :=
  let n := s.geti (PMBR_STAT_EXP r)
  if n < 0 then roundDiv (s.get (PMBR_VOUT_VOUT r) * 1000) (2 ^ n.natAbs) else s.get (PMBR_VOUT_VOUT r) * 1000 * 2 ^ n.natAbs

def State.voutCommand (s : State) (r mv : Nat) : Nat :=
  let n := s.geti (PMBR_STAT_EXP r)
  inFormat 16 (if n < 0 then roundDiv (mv * 2 ^ n.natAbs) 1000 else roundDiv mv (1000 * 2 ^ n.natAbs))

/-- VOUT_COMMAND for every valid CORE slot whose mode is linear, in slot order. -/
def State.voutTo (s : State) (mv : Nat) (why : PmWhy) : List PmTx :=
  (s.coreSlots.filter (fun r => !s.bit (PMBR_STAT_MODEBAD r) && !s.slotSilent r)).map (fun r => pmTx r 4 0x21 (s.voutCommand r mv) why)

/-- The loop's updates come: it is on, the device is in ACTIVE or IDLE, the PMBus host runs, and no CORE slot has stopped responding
(12, R371, R372). -/
def State.avsDue (s : State) : Bool :=
  s.bit PMB_AVSCTRL_EN && decide (s.get PWR_STATE_STATE ≤ 1) && s.bit PMB_CTRL_EN && s.coreSlots.all (fun r => !s.slotSilent r)

/-- AVS is not the host's: the loop may update. -/
def State.avsRuns (s : State) : Bool := s.avsDue && !s.bit GLB_MODE_AVSHOST

/-- V before an update. -/
def State.avsV (s : State) : Nat :=
  if s.pmb.known then s.get PMB_AVSOUT_VSET
  else match s.coreSlots with
    | [] => s.get PMB_AVSOUT_VSET
    | r :: _ => s.vFrom r

/-- The loop wanted a voltage beyond a bound (12, R372). -/
def State.avsConflict (s : State) (high : Bool) : State :=
  let s1 := (s.flagPmb PMB_FLAGS_CONFLICT).inc PMB_AVSCONF_COUNT
  if s.pmb.since.all (fun k => decide (1000 ≤ k)) then
    ({ s1 with pmb := { s1.pmb with since := some 0 } }).log 0x08 0x100 0 (if high then 5 else 4)
  else s1

/-- The loop moves V to what it wants, within the bounds in force; in band it wants what it has, and a bound that moved is no
conflict (12, R371, R372 and the worked example). -/
def State.avsMove (s : State) (want v : Int) : State :=
  let new := if want < s.pmb.lo then s.pmb.lo else if (s.pmb.hi : Int) < want then s.pmb.hi else want.toNat
  let s1 := if want ≠ v ∧ want ≠ new then s.avsConflict (decide ((new : Int) < want)) else s
  let s2 := { s1.put PMB_AVSOUT_VSET new with pmb := { s1.pmb with known := true } }
  if (new : Int) = v then s2 else s2.pmPush true (s.voutTo new .avs)

/-- AVS_UPDATE: `m` is the smallest slack since the last update; the bounds as written take effect (12, R372). -/
def avsUpdate (s : State) (m : Nat) : State :=
  let v : Int := s.avsV
  let want := if m < s.get PMB_AVSMARG_MLO then v + (max 1 (s.get PMB_AVSCTRL_UP) : Nat)
    else if s.get PMB_AVSMARG_MHI < m then v - (max 1 (s.get PMB_AVSCTRL_DN) : Nat)
    else v
  let s1 := s.put PMB_AVSOUT_MARGIN m
  ({ s1 with pmb := { s1.pmb with since := s1.pmb.since.map (fun k => k + 1), host := false, lo := s.vlo, hi := s.vhi } }).avsMove want v

/-- With AVSHOST 1 the update does nothing but latch it (01, R26). -/
def execAvsUpdate (m : BitVec 6) (s : State) : Host.Outcome State Fault Refusal :=
  .next (if s.avsRuns then avsUpdate s m.toNat else if s.avsDue then { s with pmb := { s.pmb with host := true } } else s)

/-- URGENT_RAISE: at most once per 100 us (12, R371), in the mode of the last update. -/
def urgentRaise (s : State) : State :=
  let v : Int := s.get PMB_AVSOUT_VSET
  ({ s with pmb := { s.pmb with urgent := some (s.get PWR_AONNOW_US) } }).avsMove (v + (max 1 (s.get PMB_AVSCTRL_UP) : Nat)) v

def State.urgentOk (s : State) (m : Nat) : Bool :=
  s.avsDue && !s.pmb.host && s.pmb.known && decide (m ≤ s.get PMB_AVSMARG_MCRIT) &&
    s.pmb.urgent.all (fun t => decide (100 ≤ (s.get PWR_AONNOW_US + 2 ^ 32 - t) % 2 ^ 32))

def execUrgentRaise (m : BitVec 6) (s : State) : Host.Outcome State Fault Refusal :=
  .next (if s.urgentOk m.toNat then urgentRaise s else s)

/-! ### Mailbox commands (14, R429; 12, R368, R373) -/

/-- The regulators can be reached: PD83 is ON and the PMBus host runs. -/
def State.pmbReady (s : State) : Bool := s.domOn 83 && s.bit PMB_CTRL_EN

/-- AVS_SET (12, R373). -/
def avsSet (s : State) (f c mv : Nat) : State :=
  if s.bit GLB_MODE_AVSHOST = false then s.failCmd f c Code.AVS_OWNED
  else if mv < s.vlo ∨ s.vhi < mv then s.failCmd f c Code.VALUE_RANGE
  else if s.pmbReady = false then s.failCmd f c Code.POWER_OFF
  else
    let l := s.voutTo mv (.set f c)
    let s1 := { s.put PMB_AVSOUT_VSET mv with pmb := { s.pmb with known := true } }
    if l.isEmpty then s1.okCmd f c mv else s1.pmPush true l

def execAvsSet (f : Fin 64) (c : Nat) (s : State) : Host.Outcome State Fault Refusal :=
  .next (s.runCmd f c 0x0501 (fun e u => avsSet u f c (ent e 20 2)))

/-- PMB_RAW (12, R368). -/
def pmbRaw (s : State) (f c slot kind cmd data : Nat) : State :=
  if 8 ≤ slot ∨ 5 ≤ kind ∨ s.slotValid slot = false then s.failCmd f c Code.BAD_PARAM
  else if s.pmbReady = false then s.failCmd f c Code.POWER_OFF
  else if 3 ≤ kind ∧ s.coreSlots.contains slot ∧ s.bit PMB_AVSCTRL_EN then s.failCmd f c Code.AVS_OWNED
  else if s.slotSilent slot then s.failCmd f c Code.PMB_NORESP
  else s.pmPush false [pmTx slot kind cmd data (.raw f c)]

def execPmbRaw (f : Fin 64) (c : Nat) (s : State) : Host.Outcome State Fault Refusal :=
  .next (s.runCmd f c 0x0502 (fun e u => pmbRaw u f c (ent e 20 1) (ent e 21 1) (ent e 22 1) (ent e 24 2)))

end Sys2Proof.Machine
end

