-- ==== Sys2Proof/Machine/Power.lean ====
section
/-! DEFINITION. Power domains, device states and wake (12_control_clocks_and_power.md, R360 to R367). States of a domain
are 0 OFF, 1 RETAIN, 2 ON, 3 UP, 4 DOWN, 5 GATE, 6 UNGATE, 7 QUEUED; device states 0 ACTIVE, 1 IDLE, 2 SLEEP,
3 DEEP-SLEEP. -/

set_option Elab.async false

namespace Sys2Proof.Machine

/-! ### What a domain holds (16, R461; 12, R363, R364) -/

/-- The table without the keys of a range. -/
def tabCut {α : Type} (t : Tab α) (lo n : Nat) : Tab α := t.filter (fun p => decide (p.1 < lo ∨ lo + n ≤ p.1))

/-- A domain's supply goes: its registers and units hold what a reset leaves; its memories are lost. A root keeps the
segments that firmware recorded through its index registers. A store half loses its live slots and shadows too (06, R188). -/
def State.domLost (s : State) (j : Nat) : State :=
  let s1 := { s with regs := s.regs.filter (fun p => domOf p.1 != some j) }
  if j < 64 then { s1 with chans := tabCut s1.chans (8 * j) 8, caps := tabCut s1.caps (8 * j) 8 }
  else if j < 72 then (s1.setBank (j - 64) Bank.init).setTrk (j - 64) Trk.init
  else if j < 76 then s1.setRoot (j - 72) { Root.init with segs := if (s.pd j).keep then (s.root (j - 72)).segs else [] }
  else if j < 80 then s1.setPl (j - 76) Pl.init
  else if j < 82 then
    (List.range 256).foldl (fun u i => u.modCyc (256 * (j - 80) + i) (fun c => { c with live := [], shad := [] }))
      { s1 with store := tabCut s1.store (2 ^ 19 * (j - 80)) (2 ^ 19), storeErr := tabCut s1.storeErr (2 ^ 19 * (j - 80)) (2 ^ 19) }
  else if j = 82 then { s1 with rgs := [] }
  else { s1 with spts := [], pmb := Pmb.init }

/-- Firmware records a domain's registers (12, R364). -/
def State.saveDom (s : State) (j : Nat) : State :=
  let old := s.pwr.saved.filter (fun p => domOf p.1 != some j)
  { s with pwr := { s.pwr with saved := (s.regs.filter (fun p => domOf p.1 == some j)).foldl (fun t p => tabSet (resetWord p.1) t p.1 p.2) old } }

/-- The RW and RWL fields of a word come from another. -/
def mergeFields : List FieldSpec → Nat → Nat → Nat
  | [], old, _ => old
  | f :: fs, old, w =>
    mergeFields fs (if f.acc = .rw ∨ f.acc = .rwl then fieldPut old f.lo f.len (w / 2 ^ f.lo % 2 ^ f.len) else old) w

def State.mergeReg (s : State) (a : Nat) (w : Word) : State :=
  s.setWord a (BitVec.ofNat 32 (mergeFields (fieldsAt a) (s.word a).toNat w.toNat))

/-- Firmware sets LOCK again where it was 1 (16, R472). -/
def State.lockBack (s : State) (p : Nat × Word) : State :=
  match lockOf p.1 with
  | none => s
  | some r => if r.addr = p.1 ∧ p.2.toNat / 2 ^ r.lo % 2 = 1 then s.put r 1 else s

/-- What a restored octet does with its calibration values. -/
def State.octetBack (s : State) (k : Nat) : State :=
  (List.range 8).foldl (fun u i =>
    let n := 8 * k + i
    let w := tabGet (resetWord (CH_CALSTAT n)) s.pwr.saved (CH_CALSTAT n)
    ((u.put (CH_CALSTAT_VALID n) (fld w 0 4)).newDtc n false).newDeskew n false) s

/-- The parked channels of an octet park again by their written CTRL.PARK (05, R152). -/
def State.octetParks (s : State) (k : Nat) : State :=
  (List.range 8).foldl (fun u i =>
    let n := 8 * k + i
    let w := tabGet (resetWord (CH_CTRL n)) s.pwr.saved (CH_CTRL n)
    u.chCtrlWrite n (BitVec.ofNat 32 (mergeFields (fieldsAt (CH_CTRL n)) 0 w.toNat))) s

/-- Firmware writes a domain's registers back (12, R364, R366; 16, R472): a bank selects its root again, a root's EN goes back to
what it was, a port trains, the PMBus host starts. -/
def State.restoreVals (s : State) (j : Nat) : State :=
  let mine := s.pwr.saved.filter (fun p => domOf p.1 == some j && !(decide (j < 64) && p.1 % 0x1000 == 0))
  let s1 := mine.foldl (fun u p => u.mergeReg p.1 p.2) s
  if j < 64 then (s1.octetBack j).octetParks j
  else if j < 72 then
    let b := j - 64
    if s1.get (BNK_ROOT_SEL b) = s1.get (BNK_STAT_ROOTACT b) then s1 else s1.changeRoot b (s1.get (BNK_ROOT_SEL b))
  else if j < 76 then
    let n := j - 72
    if s1.bit (SYN_CTRL_EN n) then (s1.put (SYN_CTRL_EN n) 0).rootEnable n else s1
  else if j < 80 then if s1.bit (PRL_CTRL_EN (j - 76)) then s1.put (PRL_STAT_LSTATE (j - 76)) 1 else s1
  else if j = 83 then if s1.bit PMB_CTRL_EN then s1.pmbInit else s1
  else s1

/-- What firmware wrote back is locked again. -/
def State.restoreDom (s : State) (j : Nat) : State :=
  (s.pwr.saved.filter (fun p => domOf p.1 == some j)).foldl (fun u p => u.lockBack p) (s.restoreVals j)

/-! ### Sequences (12, R360 to R362) -/

def State.pdState (s : State) (j : Nat) : Nat := s.get (PWR_PDSTAT_STATE j)

/-- The channels of an octet let it leave ON. -/
def State.octetFree (s : State) (k : Nat) : Bool :=
  (List.range 8).all (fun i =>
    let n := 8 * k + i
    (s.chan n).pk.parked && s.cause n causeNogrp && !s.chanInTake n && !s.bit (CH_CALCTRL_CDRV n) && !s.bit (CH_CALSTAT_HELD n))

/-- No serial port transfers, the window is closed, the PMBus host is off. -/
def State.serialFree (s : State) : Bool :=
  !s.bit PMB_CTRL_EN && !s.bit SPT0_XIPCFG_EN && (List.range 16).all (fun p => !s.bit (SPT_STAT_BUSY p) && !s.bit (SPT_STAT_SLVSEL p))

/-- Why a request that would start is refused; 0: it is not (12, R362). -/
def State.pdWhy (s : State) (j t : Nat) : Nat :=
  if j < 64 ∧ (t = 2 ∨ (t = 1 ∧ s.pdState j = 0)) ∧ s.domOn (64 + j / 8) = false then 1
  else if t = 2 then 0
  else if j < 64 then (if s.octetFree j then 0 else 3)
  else if j < 72 then (if (List.range 8).any (fun i => s.domOn (8 * (j - 64) + i)) then 2 else 0)
  else if j < 76 then (if s.bit (SYN_CTRL_EN (j - 72)) ∧ s.rootFree (j - 72) (fun b => s.bankIdle b) = false then 4 else 0)
  else if j < 80 then 0
  else if j < 82 then (if (List.range 4).all (fun i => s.bankIdle (4 * (j - 80) + i)) then 0 else 5)
  else if j = 82 then (if s.regQ.isEmpty then 0 else 6)
  else (if s.serialFree then 0 else 7)

/-- What waits for a domain, as PWR_PDSTATj shows it while a sequence runs (12, R361). -/
def State.pdShow (s : State) (j : Nat) : State :=
  let x := s.pd j
  match x.target with
  | none => (s.put (PWR_PDSTAT_PENDING_ON j) 0).put (PWR_PDSTAT_PENDREQ j) 0
  | some h =>
    let w := x.late.orElse (fun _ => x.wait)
    (s.put (PWR_PDSTAT_PENDING_ON j) (b2n (w == some 2 && h != 2))).put (PWR_PDSTAT_PENDREQ j) (w.getD h)

/-- OFF-to-ON sequences that run. -/
def State.rising (s : State) : Nat := ((List.range 84).filter (fun j => s.pdState j == 3)).length

/-- What a domain that is about to leave ON gives up first: a root's EN, a port's link (12, R362). -/
def State.leaveOn (s : State) (j : Nat) : State :=
  if 72 ≤ j ∧ j < 76 ∧ s.bit (SYN_CTRL_EN (j - 72)) then s.rootDisable (j - 72) (fun b => s.bankIdle b)
  else if 76 ≤ j ∧ j < 80 ∧ s.get (PRL_STAT_LSTATE (j - 76)) ≠ 0 then s.linkDown (j - 76) 0
  else s

/-- A sequence begins, or queues behind eight that rise. From OFF the way to RETAIN leads over ON. -/
def State.pdBegin (s : State) (j t : Nat) : State :=
  let st := s.pdState j
  let s1 := if t < 2 ∧ st = 2 then s.leaveOn j else s
  if st = 0 then
    ((s1.put (PWR_PDSTAT_STATE j) (if 8 ≤ s.rising then 7 else 3)).modPd j (fun x =>
      { x with target := some 2, wait := if t = 1 then some 1 else none })).pdShow j
  else
    ((s1.put (PWR_PDSTAT_STATE j) (if t = 2 then 6 else if st = 1 then 4 else 5)).modPd j (fun x => { x with target := some t })).pdShow j

/-- A request for a domain that may start now: whether it was refused. -/
def State.pdStart (s : State) (j t : Nat) : State × Bool :=
  if s.pdState j = t then (s, false)
  else
    let why := s.pdWhy j t
    if why ≠ 0 then ((s.put (PWR_PDSTAT_WHY j) why).flagPwr PWR_FLAGS_PDREF, true) else (s.pdBegin j t, false)

/-- A request: behind a running sequence it waits, unless it restates where that heads. -/
def State.pdAsk (s : State) (j t : Nat) : State × Bool :=
  match (s.pd j).target with
  | some h => if h = t then (s, false) else ((s.modPd j (fun x => { x with wait := some t })).pdShow j, false)
  | none => s.pdStart j t

/-- A write of PWR_PDREQj (12, R361, R362, R374): a refused request leaves REQ as it was; during a change of the device
state it waits behind firmware's own requests. -/
def State.pdreqWrite (s : State) (j : Nat) (w : Word) : State :=
  let old := s.word (PWR_PDREQ j)
  let s1 := s.writeReg (PWR_PDREQ j) w fullMask
  if s.bit PWR_CTRL_LOCK then s1
  else
    let t := min 2 (fld w 0 2)
    if s.bit PWR_STATE_BUSY then (s1.modPd j (fun x => { x with late := some t })).pdShow j
    else
      let r := s1.pdAsk j t
      if r.2 then r.1.setWord (PWR_PDREQ j) old else r.1

def execPdRequest (src : Source) (j : Fin 84) (w : Word) (s : State) : Host.Outcome State Fault Refusal := .next (s.rowWrite src (PWR_PDREQ j) w (fun u => u.pdreqWrite j w))

/-! ### Device-state changes (12, R364 to R366) -/

/-- The state a domain should have in a device state (12, R365). none: unchanged. An OFF octet whose hub is not ON stays OFF in IDLE and
SLEEP: R362 bars it from rising at the octets' turn (DESIGN CHOICE, log entry 128). -/
def State.pdGoal (s : State) (st j : Nat) : Option Nat :=
  let dark := decide (j < 64) && decide (s.get (PWR_PDSTAT_STATE j) = 0) && !s.domOn (64 + j / 8)
  if st = 0 then some (min 2 (s.get (PWR_PDREQ_REQ j)))
  else if st = 1 then (if dark then none else if j < 64 then some 1 else if j < 72 ∨ j = 80 ∨ j = 81 then some 2 else none)
  else if st = 2 then (if dark then none else if j < 72 ∨ j = 80 ∨ j = 81 then some 1 else if j = 83 then some 2 else some 0)
  else some 0

/-- The stages of a change in the order of entry: octets, hubs, roots and ports, store halves, PD82, PD83. -/
def pdStages : List (List Nat) :=
  [List.range 64, (List.range 8).map (fun i => 64 + i), (List.range 8).map (fun i => 72 + i), [80, 81], [82], [83]]

def State.stagesTo (s : State) (st : Nat) : List (List (Nat × Nat)) :=
  let all := pdStages.map (fun l => l.filterMap (fun j => (s.pdGoal st j).map (fun t => (j, t))))
  if s.get PWR_STATE_STATE < st then all else all.reverse

/-- Firmware writes SPT0_XIPCFG.EN = 0, which a LOCK of the block refuses (16, R470). -/
def State.xipClose (s : State) : State :=
  s.fwWrite SPT0_XIPCFG [(SPT0_XIPCFG_EN, 0)]

/-- Firmware's own request in a change: what it switches OFF it records first, and PD83 it makes ready. -/
def State.pdPlan (s : State) (j t : Nat) : State :=
  if t = 0 ∧ s.pdState j ≠ 0 then
    let s1 := (s.saveDom j).modPd j (fun x => { x with keep := true })
    let s2 := if j = 83 then (s1.pmbCtrlWrite (BitVec.ofNat 32 ((s1.word PMB_CTRL).toNat / 2 * 2))).xipClose else s1
    let r := s2.pdAsk j t
    if r.2 then r.1.modPd j (fun x => { x with keep := false }) else r.1
  else (s.pdAsk j t).1

/-- No sequence runs or is queued. -/
def State.pdQuiet (s : State) : Bool := s.pds.all (fun p => p.2.target.isNone)

/-- The next stage begins when no sequence runs. -/
def State.planGo (s : State) : Nat → State
  | 0 => s
  | k + 1 =>
    match s.pwr.plan with
    | [] => s
    | st :: rest =>
      if s.pdQuiet then
        (st.foldl (fun (u : State) q => u.pdPlan q.1 q.2) { s with pwr := { s.pwr with plan := rest } }).planGo k
      else s

/-- The clock enables of a device state come into force (12, R357). -/
def State.clkTo (s : State) (st : Nat) : State :=
  ({ s with pwr := { s.pwr with clk := st } }).settleAll.pllFollow

/-- The clocks stand where the enables in force want them. -/
def State.clkSettled (s : State) : Bool :=
  s.pwr.pll == s.pwr.clk && (!s.cpllOn || s.bit CLK_STAT_CPLLLOCK) && (List.range 5).all (fun d =>
    let src := s.get (CLK_DOM_STAT_SRCACT d)
    s.bit (CLK_DOM_STAT_RUN d) == (s.domainOn d && (if src = 2 then s.cpllOn else s.sourceRuns src)) && !s.bit (CLK_DOM_STAT_STEPPING d))

/-- A change of the device state is a rise. -/
def State.isRising (s : State) : Bool := decide (s.get PWR_STATE_TARGET < s.get PWR_STATE_STATE)

/-- The stages of the domains go on; a rise begins with the clocks, and its domains wait for them (12, R366). -/
def State.planOn (s : State) : State :=
  if s.bit PWR_STATE_BUSY = false ∨ (s.isRising = true ∧ s.clkSettled = false) then s else s.planGo 8

/-- A change to a device state begins; a rise begins with the clocks. -/
def State.changeTo (s : State) (st : Nat) (cmd : Option (Nat × Nat)) : State :=
  let s1 := (s.put PWR_STATE_TARGET st).put PWR_STATE_BUSY 1
  let s2 := { s1 with pwr := { s1.pwr with plan := s.stagesTo st, cmd := cmd } }
  (if st < s.get PWR_STATE_STATE then s2.clkTo st else s2).planOn

/-- A rise after a wake. -/
def State.wakeNow (s : State) (cause port : Nat) : State :=
  ({ s with pwr := { s.pwr with wake := none, waking := some (cause, port) } }).changeTo 0 none

/-- A wake source acts (12, R367): in SLEEP or DEEP-SLEEP at once, during an entry when it has completed. -/
def State.wakeBy (s : State) (cause port : Nat) : State :=
  let entering := s.bit PWR_STATE_BUSY && decide (2 ≤ s.get PWR_STATE_TARGET)
  let asleep := !s.bit PWR_STATE_BUSY && decide (2 ≤ s.get PWR_STATE_STATE)
  if (entering || asleep) && s.pwr.wake.isNone && s.pwr.waking.isNone then
    let s1 := (s.put PWR_WAKECAUSE_CAUSE cause).put PWR_WAKECAUSE_PORT port
    if entering then { s1 with pwr := { s1.pwr with wake := some (cause, port) } } else s1.wakeNow cause port
  else s

/-- Requests that waited for the change start. -/
def State.pdResume (s : State) : State :=
  (List.range 84).foldl (fun u j => match (u.pd j).late with
    | some t => ((u.modPd j (fun x => { x with late := none })).pdAsk j t).1
    | none => u) s

/-- Every stage is done and no sequence runs. -/
def State.changeDone (s : State) : Bool :=
  s.bit PWR_STATE_BUSY && s.pwr.plan.isEmpty && s.pdQuiet

/-- The last domain of an entry is there: its clocks follow. -/
def State.clkFollow (s : State) : State :=
  if s.changeDone ∧ s.pwr.clk ≠ s.get PWR_STATE_TARGET then s.clkTo (s.get PWR_STATE_TARGET) else s

/-- STATE_CHANGE_DONE. -/
def stateChangeDone (s : State) : State :=
  let t := s.get PWR_STATE_TARGET
  let s1 := ((s.put PWR_STATE_STATE t).put PWR_STATE_BUSY 0).put PWR_STATE_LASTCODE Code.OK
  let s2 := match s.pwr.cmd with
    | none => s1
    | some (f, c) => s1.okCmd f c 0
  let s3 := { s2 with pwr := { s2.pwr with cmd := none, waking := none } }
  let s4 := if s.pwr.waking.isSome then s3.flagPwr PWR_FLAGS_WAKE else s3
  match s.pwr.wake with
  | some (c, p) => s4.wakeNow c p
  | none => s4.pdResume

def execStateChangeDone (s : State) : Host.Outcome State Fault Refusal :=
  let u := s.clkFollow
  .next (if u.changeDone ∧ u.clkSettled then stateChangeDone u else u)

/-! ### The end of a sequence (12, R360, R361, R363) -/

/-- A slave frame begins: its header is awaited (15, R446). -/
def State.sptSelect (s : State) (p : Nat) : State :=
  (s.put (SPT_STAT_SLVSEL p) 1).modSpt p (fun x => { x with hdr := none, served := false, words := 0, used := false })

/-- A port answers selects. -/
def State.sptSlave (s : State) (p : Nat) : Bool := s.bit (SPT_CTRL_EN p) && s.bit (SPT_CTRL_ROLE p)

/-- The selects that fell while PD83 was sequenced are answered once it stands in ON, and no longer when it stands elsewhere (15, R458). -/
def State.sptSelects (s : State) : State :=
  if (s.pd 83).target.isSome then s
  else
    let s1 := { s with pwr := { s.pwr with selects := [] } }
    if s.domOn 83 then (s.pwr.selects.filter (fun p => s.sptSlave p)).foldl (fun u p => u.sptSelect p) s1 else s1

/-- What firmware recorded of a domain has been written back. -/
def State.forget (s : State) (j : Nat) : State := { s with pwr := { s.pwr with saved := s.pwr.saved.filter (fun p => domOf p.1 != some j) } }

/-- A domain reaches ON from OFF: it comes back restored, or with reset values, an octet then with the ledger's; a store
half is wiped. -/
def State.domBack (s : State) (j : Nat) : State :=
  let keep := (s.pd j).keep
  let s1 := s.modPd j (fun x => { x with keep := false })
  let s2 := if keep then (s1.restoreDom j).forget j else if j < 64 then s1.octetLedger j else s1
  if 64 ≤ j ∧ j < 72 then s2.dllTo (if (s2.root (s2.rootOf (j - 64))).tclk then 1 else 0) (j - 64)
  else if j = 80 ∨ j = 81 then (List.range 4).foldl (fun u i => u.put (BNK_CUESTAT_WIPING (4 * (j - 80) + i)) 1) s2
  else s2

/-- A queued sequence that may start: what R362 asks is asked again, and one that it refuses leaves the domain OFF. -/
def State.pdRise (s : State) (j : Nat) : State :=
  let why := s.pdWhy j 2
  if why = 0 then s.put (PWR_PDSTAT_STATE j) 3
  else ((((s.put (PWR_PDSTAT_STATE j) 0).modPd j (fun x => { x with target := none, wait := none })).pdShow j).put (PWR_PDSTAT_WHY j) why).flagPwr PWR_FLAGS_PDREF

/-- Queued sequences rise in domain order while fewer than eight do (12, R360, R362). -/
def State.pdDequeue (s : State) : State :=
  (List.range 84).foldl (fun u j => if u.pdState j = 7 ∧ u.rising < 8 then u.pdRise j else u) s

/-- The domain is where its sequence headed. -/
def State.pdArrive (s : State) (j t : Nat) : State :=
  let st := s.pdState j
  let s0 := if t < 2 ∧ 72 ≤ j ∧ j < 76 ∧ s.rootState (j - 72) ≠ stOff then s.enterOff (j - 72) else s
  let s1 := ((s0.put (PWR_PDSTAT_STATE j) t).modPd j (fun x => { x with target := none })).pdShow j
  if t = 0 then s1.domLost j
  else if t = 2 ∧ st = 3 then s1.domBack j
  else if t = 2 ∧ 76 ≤ j ∧ j < 80 ∧ s1.bit (PRL_CTRL_EN (j - 76)) then s1.put (PRL_STAT_LSTATE (j - 76)) 1
  else s1

/-- The request that waited starts when the sequence ends (12, R361). -/
def State.pdWaited (s : State) (j : Nat) : State :=
  match (s.pd j).wait with
  | none => s
  | some t => ((s.modPd j (fun x => { x with wait := none })).pdStart j t).1

/-- PD_SEQUENCE_DONE. -/
def pdSequenceDone (s : State) (j t : Nat) : State :=
  (((((s.pdArrive j t).pdWaited j).sptSelects).pdDequeue).planOn).clkFollow

def execPdSequenceDone (j : Fin 84) (s : State) : Host.Outcome State Fault Refusal :=
  match (s.pd j).target with
  | none => .next s
  | some t => .next (if s.pdState j = 7 then s else pdSequenceDone s j t)

/-! ### Clock events that a rise waits for (12, R353, R356, R358, R366) -/

def execCpllLock (s : State) : Host.Outcome State Fault Refusal := .next (if s.cpllAcquires then (cpllLock s).planOn else s)

def execDividerStep (d : Fin 5) (s : State) : Host.Outcome State Fault Refusal :=
  .next (if s.bit (CLK_DOM_STAT_STEPPING d) then (dividerStep s d).planOn else s)

def execForcedSwitch (d : Fin 6) (s : State) : Host.Outcome State Fault Refusal :=
  if d.val = 5 then .next (if s.bit CLK_STAT_XOSTABLE ∨ s.pwr.aonBack then forcedSwitch s 5 else s)
  else .next (if s.bit (CLK_DOM_STAT_SWITCHING d) ∧ s.sourceRuns (s.wantSrc d) then (forcedSwitch s d).planOn else s)

/-! ### PWR_STATE and the timer (12, R365 to R367; 14, R435) -/

/-- Another device's hop is under way here. -/
def Src.isLink : Src → Bool
  | .link _ _ => true
  | _ => false

/-- The conditions of R366; no firmware runs in BLANK and SCRAPPED (13, R404). -/
def State.pwrBusy (s : State) (st : Nat) : Bool :=
  decide (1 ≤ st) && ((List.range 64).any (fun g => s.running g) || (List.range 256).any (fun t => s.takeBusy t) || s.calRuns ||
    (List.range 8).any (fun p => s.bit (TSP_STAT_HELLO p))) ||
  decide (1 ≤ st) && (s.get SEC_LCSTATE_LC == 0 || s.get SEC_LCSTATE_LC == 4) ||
  decide (2 ≤ st) && (!s.board.xhops.isEmpty || !s.board.preps.isEmpty || !s.board.xtakes.isEmpty ||
    (List.range 4).any (fun n => ((s.root n).hop.any (fun q => q.1.src.isLink)) || (s.root n).pend.any (fun q => q.src.isLink)))

def State.pwrRefuse (s : State) (f c code : Nat) : State := (s.put PWR_STATE_LASTCODE code).failCmd f c code

def pwrState (s : State) (f c st : Nat) : State :=
  if 4 ≤ st then s.failCmd f c Code.BAD_PARAM
  else if s.bit PWR_STATE_BUSY then s.pwrRefuse f c Code.CANCELLED
  else if s.pwrBusy st then s.pwrRefuse f c Code.PWR_BUSY
  else if s.get PWR_STATE_STATE = st then (s.put PWR_STATE_LASTCODE Code.OK).okCmd f c 0
  else (s.changeTo st (some (f, c))).clkFollow

/-- Other commands that run. -/
def State.othersRun (s : State) (f c : Nat) : Bool :=
  s.flows.any (fun p => p.2.cmds.any (fun k => k.st.busy && !(p.1 == f && k.id == c)))

/-- PWR_STATE waits while another command runs, one to ACTIVE while a wake leads there, and on the way to a sleep while a core is halted by JTAG (13, R407). -/
def State.pwrWaits (s : State) (f c : Nat) : Bool :=
  s.othersRun f c || (s.bit PWR_STATE_BUSY && (s.running? f c 0x0500).any (fun k => ent k.entry 20 1 == 0)) || (!s.jtag.halted.isEmpty && (s.running? f c 0x0500).any (fun k => decide (2 ≤ ent k.entry 20 1)))

def execPwrState (f : Fin 64) (c : Nat) (s : State) : Host.Outcome State Fault Refusal :=
  .next (if s.pwrWaits f c then s else s.runCmd f c 0x0500 (fun e u => pwrState u f c (ent e 20 1)))

/-- AON_TIMER (12, R367): PWR_AONNOW reaches PWR_AONTIM. -/
def aonTimer (s : State) : State :=
  let s1 := s.put PWR_AONNOW_US (s.get PWR_AONTIM_US)
  if s.bit PWR_WAKECFG_TIMER then s1.wakeBy 4 0 else s1

def execAonTimer (s : State) : Host.Outcome State Fault Refusal := .next (if s.get PWR_AONTIM_US = 0 then s else aonTimer s)

end Sys2Proof.Machine
end

