-- ==== Sys2Proof/Machine/Boot.lean ====
section
/-! DEFINITION. Resets, the watchdog, the boot chain (13_boot_lifecycle_and_debug.md, R379 to R393; 17, R482, R502). Stages
are 0 RESET, 1 FUSE, 2 XO, 3 CLOCKS, 4 WIPE, 5 LOAD, 6 VERIFY, 7 PATCH, 8 INIT, 9 READY, 12 BLANK, 14 WAITPUSH,
15 HALT. -/

set_option Elab.async false

namespace Sys2Proof.Machine

/-! ### Reset sources (13, R382, R385, R386) -/

def State.hold (s : State) (l : List Nat) : State := { s with boot := { s.boot with held := l } }

/-- SUPPLY_FALL (17, R482): power-on reset, held until POR_RELEASE. Pins that hold reset still do. Which rail fell the command does not
say: whether VDD_CH is absent is a free value, and so is whether VDDIO is, without which the test access port resets (17, R505). -/
def supplyFall (s : State) : State :=
  let s1 := s.powerOn.hold (1 :: s.boot.held.filter (fun k => k != 1))
  let tapGone := Config.freeNat s.free 1 % 2 == 1
  { s1.draw with
    boot := { s1.boot with noCh := Config.freeNat s.free 0 % 2 == 1 }
    jtag := if tapGone then Jtag.init else { s.jtag with halted := [], err := false } }

def execSupplyFall (s : State) : Host.Outcome State Fault Refusal := .next (supplyFall s)

/-- POR_RELEASE: every rail is good. -/
def porRelease (s : State) : State :=
  let s1 := s.hold (s.boot.held.filter (fun k => k != 1))
  { s1 with boot := { s1.boot with noCh := false } }

def execPorRelease (s : State) : Host.Outcome State Fault Refusal := .next (porRelease s)

/-- A reset pin is asserted: the device resets. Under a power-on reset, and for RESET_N while PERST# holds, the lower code stands; PERST#
while RESET_N holds makes the reset under way one with the lower code (13, R385; DESIGN CHOICE: COUNT counts it once, log entry 129). RESET_N
in SLEEP or DEEP-SLEEP is a wake too (12, R367; DESIGN CHOICE: its cause is recorded after the reset). -/
def State.pinReset (s : State) (k : Nat) : State :=
  if s.boot.held.contains k then s
  else if s.boot.held.any (fun h => decide (h < k)) then s.hold (s.boot.held ++ [k])
  else if s.freed = false then ((s.put SEC_RSTCAUSE_LAST k).put ⟨SEC_RSTCAUSE, 7 + k, 1⟩ 1).hold (s.boot.held ++ [k])
  else
    let s1 := (s.deviceReset k).hold (s.boot.held ++ [k])
    if k = 3 ∧ 2 ≤ s.get PWR_STATE_STATE then s1.put PWR_WAKECAUSE_CAUSE 2 else s1

def execPerstAssert (s : State) : Host.Outcome State Fault Refusal := .next (s.pinReset 2)

def execResetNAssert (s : State) : Host.Outcome State Fault Refusal := .next (if s.pinsCut then s else s.pinReset 3)

/-- RESET_RELEASE of PERST# or of RESET_N; a ball that boundary scan drives the device does not see (13, R402). -/
def execResetRelease (perst : Bool) (s : State) : Host.Outcome State Fault Refusal :=
  .next (if perst = false ∧ s.pinsCut then s else s.hold (s.boot.held.filter (fun k => k != (if perst then 2 else 3))))

/-- The watchdog counts: enabled, not in DEEP-SLEEP, no core halted (13, R386). -/
def State.wdtRuns (s : State) : Bool := s.freed && s.bit SEC_WDTCTRL_EN && s.get PWR_STATE_STATE != 3 && s.jtag.halted.isEmpty

def execWatchdogExpiry (s : State) : Host.Outcome State Fault Refusal := .next (if s.wdtRuns then s.deviceReset 4 else s)

/-- A write of SEC_WDTCTRL; KICK restarts the count, which is outside the state: its expiry is a command. -/
def execKick (src : Source) (w : Word) (s : State) : Host.Outcome State Fault Refusal := .next (s.rowWrite src SEC_WDTCTRL w (fun u => u.writeReg SEC_WDTCTRL w fullMask))

/-- A write of SEC_RSTCTRL (13, R382). -/
def State.rstctrlWrite (s : State) (w : Word) : State := if fld w 8 8 = 0xA5 ∧ wbit w 0 then s.deviceReset 6 else s

def execSoftwareReset (src : Source) (w : Word) (s : State) : Host.Outcome State Fault Refusal := .next (s.rowWrite src SEC_RSTCTRL w (fun u => u.rstctrlWrite w))

/-- THERMTRIP (17, R502): the pin is driven until power is removed. -/
def execThermtrip (s : State) : Host.Outcome State Fault Refusal := .next ({ s with boot := { s.boot with therm := true } }.emit (.pin 0 false))

/-! ### Fuses and the start of boot (13, R379, R380, R385, R387) -/

/-- The bytes of fuse words. -/
def State.fuseBytes (s : State) (lo n : Nat) : List Nat := (List.range n).flatMap (fun i => leBytes 4 (s.fuseShadow (lo + i)).toNat)

/-- The regions with a CRC: first word, words, the word of the CRC, REGION. -/
def crcRegions : List (Nat × Nat × Nat × Nat) :=
  [(2, 29, 31, 1), (40, 16, 56, 2), (64, 31, 95, 3), (96, 64, 352, 4), (160, 64, 353, 5), (224, 64, 354, 6), (288, 64, 355, 7), (356, 123, 479, 8)]

/-- The first region whose CRC does not match. -/
def State.badRegion (s : State) : Option Nat :=
  (crcRegions.find? (fun r => crc32 (s.fuseBytes r.1 r.2.1) != (s.fuseShadow r.2.2.1).toNat)).map (fun r => r.2.2.2)

/-- A boot failure is recorded (13, R406: UNIT STAGE, DETAIL WHY and REGION). -/
def State.bootFail (s : State) (why : Nat) : State :=
  (s.put SEC_BOOTSTAT_WHY why).daily 0x03 (s.get SEC_BOOTSTAT_STAGE) (why + 256 * s.get SEC_BOOTSTAT_REGION)

/-- FUSE_READ_DONE: core 0 starts, posts RESET and checks the fuses. -/
def fuseReadDone (s : State) : State :=
  let s1 := { s with shadow := s.fuses, boot := { s.boot with fuseRead := true, scratch := [] } }
  let s2 := (s1.daily 0x01 (s1.get SEC_RSTCAUSE_LAST) (s1.word SEC_RSTCAUSE).toNat).stage 1
  let lc := s2.get SEC_LCSTATE_LC
  if lc = 0 then s2
  else match s2.badRegion with
    | some r => (s2.put SEC_BOOTSTAT_REGION r).bootFail 1
    | none => if lc = 4 then s2.stage 15 else s2.stage 2

def execFuseReadDone (s : State) : Host.Outcome State Fault Refusal :=
  .next (if s.freed ∧ s.boot.fuseRead = false then fuseReadDone s else s)

/-- Boot waits for a push, without the watchdog (13, R386). -/
def State.waitPush (s : State) : State := { (s.fwWrite SEC_WDTCTRL [(SEC_WDTCTRL_EN, 0)]).stage 14 with boot := { s.boot with push := none } }

/-- The boot ROM's watchdog (13, R386). -/
def State.bootWdt (s : State) : State := s.fwWrite SEC_WDTCTRL [(SEC_WDTCTRL_MS, 2000), (SEC_WDTCTRL_EN, 1)]

/-- Every slice that wipes is wiped. -/
def State.wipesDone (s : State) : State :=
  (List.range 8).foldl (fun u b => if u.bit (BNK_CUESTAT_WIPING b) then wipeDone u b else u) s

/-- RESET_WIPE_DONE: boot goes on to LOAD, with SPT0 an enabled master (15, R440); BLANK halts. -/
def resetWipeDone (s : State) : State :=
  let s2 := (s.wipesDone.stage 5).bootWdt.put (SPT_CTRL_EN 0) 1
  if s2.bit SEC_BOOTCTRL_PUSHREQ then s2.waitPush else s2

def execResetWipeDone (s : State) : Host.Outcome State Fault Refusal :=
  if s.get SEC_BOOTSTAT_STAGE = 4 then .next (resetWipeDone s)
  else if s.get SEC_BOOTSTAT_STAGE = 1 ∧ s.boot.fuseRead ∧ s.get SEC_LCSTATE_LC = 0 then .next (s.wipesDone.stage 12)
  else .next s

/-! ### Images (13, R388 to R391) -/

def bytesOf (l : List Byte) : List Nat := l.map (fun b => b.toNat)

/-- ROOTKEY of a slot as bytes (13, R379). -/
def State.rootKey (s : State) (k : Nat) : List Nat := s.fuseBytes (4 + 12 * k) 12

/-- `n` bytes at an offset. -/
def slice (l : List Nat) (off n : Nat) : List Nat := (l.drop off).take n

/-- Items 1 to 4 of R390 on a header; 0: they pass. -/
def State.hdrWhy (s : State) (h : List Nat) : Nat :=
  let body := imgAt h 16 4
  let key := imgAt h 13 1
  if imgAt h 0 4 ≠ 0x4D524754 ∨ imgAt h 4 2 ≠ 1 ∨ imgAt h 6 2 ≠ 512 ∨ body % 64 ≠ 0 ∨ body < 64 ∨ 1048064 < body ∨
      body < imgAt h 24 4 + imgAt h 28 4 ∨ 2 ≤ key then 3
  else if s.get SEC_LCSTATE_KEYREV / 2 ^ key % 2 = 1 then 4
  else if sha384 (slice h 32 96) ≠ s.rootKey key then 5
  else if imgAt h 12 1 < s.get SEC_SVN_FUSED then 6
  else 0

/-- The body that a header and the bytes after it give, and its patch bundle. -/
def imgBody (h body : List Nat) : List Nat := body.take (imgAt h 16 4)
def imgBundle (h body : List Nat) : List Nat := slice body (imgAt h 24 4) (imgAt h 28 4)

/-- Item 5: the signature over header bytes 0 to 383 and the body, with PUBKEY (13, R388, R390). -/
def sigOk (h body : List Nat) : Bool :=
  ecdsaOk (ofBe (slice h 32 48)) (ofBe (slice h 80 48)) (ofBe (slice h 384 48)) (ofBe (slice h 432 48)) (ofBe (sha384 (h.take 384 ++ imgBody h body)))

/-- PATCHKEY (13, R379); the ciphertext and the tag of a bundle, and item 6: the tag is that of AES-256-GCM (13, R392). -/
def State.patchKey (s : State) : List Nat := s.fuseBytes 48 8
def bundleText (b : List Nat) : List Nat := slice b 28 (imgAt b 12 4)
def State.bundleOk (s : State) (b : List Nat) : Bool :=
  gcmTag s.patchKey (slice b 16 12) (b.take 16) (bundleText b) == slice b (28 + imgAt b 12 4) 16

/-- Items 5 and 6 of R390; 0: they pass. -/
def State.verifyWhy (s : State) (h body : List Nat) : Nat :=
  if sigOk h body = false then 7 else if imgAt h 28 4 ≠ 0 ∧ s.bundleOk (imgBundle h body) = false then 8 else 0

/-- The patches of a bundle (13, R392; 03, R103). -/
def State.loadPatches (s : State) (b : List Nat) : State :=
  let plain := gcmOpen s.patchKey (slice b 16 12) (bundleText b)
  let n := min 512 ((imgAt b 12 4 - 256) / 8)
  if imgAt b 4 4 ≠ s.get SEQ_ROMVER_VER then
    (s.put SEC_BOOTSTAT_PATCH 2).daily 0x44 0 (imgAt b 4 4 + 2 ^ 32 * s.get SEQ_ROMVER_VER)
  else
    let s1 := (List.range 64).foldl (fun u i => u.mergeReg (SEQ_MATCH (i / 16) (i % 16)) (BitVec.ofNat 32 (imgAt plain (4 * i) 4))) s
    let s2 := (List.range n).foldl (fun u i =>
      (u.put (SEQ_PRAMLO_DATA i) (imgAt plain (256 + 8 * i) 4)).put (SEQ_PRAMHI_DATA i) (imgAt plain (260 + 8 * i) 4)) s1
    ((s2.put SEQ_PATCHVER_VER (imgAt b 8 4)).put SEQ_GCTRL_LOCK 1).put SEC_BOOTSTAT_PATCH 1

/-- Words of bytes, from a word of the Quorno RAM on. -/
def quornoCopy : Nat → List Nat → Tab Word → Tab Word
  | i, a :: b :: c :: d :: t, q => quornoCopy (i + 1) t (tabSet 0 q i (BitVec.ofNat 32 (ofLe [a, b, c, d])))
  | _, _, q => q

/-- Header and body of an image are copied to the Quorno RAM (13, R389, R391). -/
def State.copyImage (s : State) (h body : List Nat) : State := { s with quorno := quornoCopy 0 (h ++ imgBody h body) s.quorno }

/-- An image is accepted: it will run (13, R389, R391, R392). -/
def State.accept (s : State) (h body : List Nat) (slot : Nat) (pushed : Bool) : State :=
  let s1 := ((s.put SEC_BOOTSTAT_WHY 0).put SEC_BOOTSTAT_SLOT slot).put SEC_BOOTSTAT_PUSHED (b2n pushed)
  let s2 := (s1.put SEC_FWVER_VERSION (imgAt h 8 4)).put SEC_SVN_IMAGE (imgAt h 12 1)
  let s3 := { s2 with boot := { s2.boot with key := imgAt h 13 1, lockwin := imgAt h 14 1 % 2 == 1, push := none } }
  let s4 := if pushed then s3.put SEC_BOOTCTRL_PUSHREQ 0 else s3
  (if imgAt h 28 4 = 0 then s4 else s4.loadPatches (imgBundle h body)).stage 7

/-- The candidates in order: the slots whose headers pass, the higher VERSION first, A before B (13, R389). -/
def State.candidateSlots (s : State) (a b : BootImage) : List Nat :=
  let ok := fun (i : BootImage) => s.hdrWhy (bytesOf i.hdr) == 0
  let two := decide (imgAt (bytesOf a.hdr) 8 4 < imgAt (bytesOf b.hdr) 8 4)
  (if two then [1, 0] else [0, 1]).filter (fun k => if k = 0 then ok a else ok b)

/-- The copy and the checks of the next candidate end, those of R390 items 5 and 6 at stage VERIFY; with none left boot waits for a push. -/
def flashLoad (s : State) (a b : BootImage) : State :=
  let l := s.candidateSlots a b
  match l.filter (fun k => !s.boot.tried.contains k) with
  | [] => (if l.isEmpty then s.bootFail 2 else s).waitPush
  | k :: rest =>
    let i := if k = 0 then a else b
    let u := s.copyImage (bytesOf i.hdr) (bytesOf i.body)
    let why := u.verifyWhy (bytesOf i.hdr) (bytesOf i.body)
    if why = 0 then u.accept (bytesOf i.hdr) (bytesOf i.body) k false
    else
      let s1 := { ((u.stage 6).bootFail why).stage 5 with boot := { s.boot with tried := k :: s.boot.tried } }
      if rest.isEmpty then s1.waitPush else s1

/-- The copy and the checks of a pushed image of `len` bytes end; it stands in the staging window. -/
def pushLoad (s : State) (len : Nat) : State :=
  let l := s.staged len
  let h := l.take 512
  let body := l.drop 512
  let u := s.copyImage h body
  let w := u.hdrWhy h
  let why := if w ≠ 0 then w else u.verifyWhy h body
  if why = 0 then u.accept h body 0 true else ((u.stage 6).bootFail why).waitPush

/-- BOOT_IMAGE_LOAD_DONE: what the boot ROM finds in slots A and B; a pushed image is in the staging window. -/
def execBootImageLoadDone (a b : BootImage) (s : State) : Host.Outcome State Fault Refusal :=
  if s.get SEC_BOOTSTAT_STAGE ≠ 5 then .next s
  else match s.boot.push with
    | none => .next (flashLoad s a b)
    | some len => .next (pushLoad s len)

/-- FLASH_NORESP (13, R389). -/
def execFlashNoresp (s : State) : Host.Outcome State Fault Refusal :=
  .next (if s.get SEC_BOOTSTAT_STAGE = 5 ∧ s.boot.push = none ∧ s.boot.tried = [] then (s.bootFail 10).waitPush else s)

/-- A write of SEC_PUSHLEN (13, R386, R391): in WAITPUSH the copy of a staged image of that length begins, at LOAD. -/
def State.pushlenWrite (s : State) (w : Word) : State :=
  if s.get SEC_BOOTSTAT_STAGE ≠ 14 then s
  else
    let h := s.staged 32
    if w.toNat ≠ imgAt h 6 2 + imgAt h 16 4 ∨ 2 ^ 20 < w.toNat then s.bootFail 9
    else { (s.stage 5).bootWdt with boot := { s.boot with push := some w.toNat } }

def execPushlenWrite (src : Source) (w : Word) (s : State) : Host.Outcome State Fault Refusal := .next (s.rowWrite src SEC_PUSHLEN w (fun u => u.pushlenWrite w))

/-- The patches are written, and firmware runs: stage INIT, as time passes at stage PATCH (13, R387). -/
def State.bootRuns (s : State) : State := if s.get SEC_BOOTSTAT_STAGE = 7 then s.stage 8 else s

/-- FIRMWARE_READY: firmware has brought a folio into force, trains the links, applies LOCKWIN in FIELD (13, R387, R403,
R406; 10, R320; 11, R328). -/
def firmwareReady (s : State) : State :=
  let s1 := s.folioBoot
  let s2 := (List.range 4).foldl (fun u p =>
    if u.domOn (76 + p) then u.prlCtrlWrite p (BitVec.ofNat 32 (fieldPut (u.word (PRL_CTRL p)).toNat 0 1 1)) else u) s1
  let s3 := if s2.boot.lockwin ∧ s2.get SEC_LCSTATE_LC = 2 then
    (s2.fwWrite GLB_MODE [(GLB_MODE_CTXWIN, 0), (GLB_MODE_DRAINWIN, 0)]).put GLB_CTRL_LOCK 1 else s2
  (s3.daily 0x02 (s3.get SEC_BOOTSTAT_SLOT + 256 * s3.get SEC_BOOTSTAT_PUSHED)
    (s3.get SEC_FWVER_VERSION + 2 ^ 32 * s3.get SEC_SVN_IMAGE)).stage 9

def execFirmwareReady (s : State) : Host.Outcome State Fault Refusal :=
  .next (if s.get SEC_BOOTSTAT_STAGE = 7 ∨ s.get SEC_BOOTSTAT_STAGE = 8 then firmwareReady s else s)

/-! ### The balls while the device starts (17, R485) -/

/-- The groups of balls of R485; the outputs of the serial ports port by port. -/
inductive BallGroup where
  | channels | inputs | links | sptOutputs (p : Nat) | tdo | thermtrip
  deriving DecidableEq, Repr

/-- What a ball does: nothing drives it; it is driven at level 0; an input is ignored; electrical idle; high impedance; released; driven low;
or its unit decides. -/
inductive BallState where
  | undriven | level0 | ignored | idle | highZ | released | low | unit
  deriving DecidableEq, Repr

/-- The state of a group of balls; `good`: the supply of the group is good. A serial port drives nothing while PD83 is OFF (15, R447), and
after a master fault until the flag is cleared (15, R453). -/
def State.ballState (s : State) (good : Bool) : BallGroup → BallState
  | .channels => if good = false then .undriven else if s.freed then .unit else .level0
  | .inputs => if good ∧ s.freed then .unit else .ignored
  | .links => if good = false then .undriven else if s.freed then .unit else .idle
  | .sptOutputs p => if good = false ∨ s.freed = false ∨ s.domOn 83 = false ∨ s.bit (SPT_FLAGS_MASTER_FAULT p) then .highZ else .unit
  | .tdo => if good then .unit else .highZ
  | .thermtrip => if s.boot.therm then .low else .released

end Sys2Proof.Machine
end

