-- ==== Sys2Proof/Machine/Cal.lean ====
section
/-! DEFINITION. Calibration runs (10_calibration_and_ledger.md, R290 to R304; 14, R429). What the stampers and the regression
report of a pass is an operand of CAL_PASS_DONE; every result is computed from it here. -/

set_option Elab.async false

namespace Sys2Proof.Machine

/-! ### Measured quantities as fractions -/

def fracAdd (a b : Frac) : Frac := (a.1 * b.2 + b.1 * a.2, a.2 * b.2)
def fracNeg (a : Frac) : Frac := (-a.1, a.2)
def fracSub (a b : Frac) : Frac := fracAdd a (fracNeg b)
def fracInt (v : Int) : Frac := (v, 1)

/-- The nearest integer of a fraction times a scale. -/
def fracRound (k : Nat) (a : Frac) : Int := roundDivI (a.1 * k) a.2

/-- The mean of two passes. -/
def fracMean (a b : Frac) : Frac := let c := fracAdd a b; (c.1, 2 * c.2)

/-- |a - b| is at most a tolerance. -/
def fracNear (a b tol : Frac) : Bool := let d := fracSub a b; decide ((d.1.natAbs : Int) * tol.2 ≤ tol.1 * d.2)

/-- A time in fs as ticks of a bank's T-clock (10, R293). -/
def State.fsTicks (s : State) (b : Nat) (fs : Int) : Frac :=
  let f := s.bankHz b
  (fs * 4096 * f.1, f.2 * 10 ^ 15)

/-- A result as a signed field of a width holds it; one that does not fit is a free value. -/
def calField (len : Nat) (v : Int) : Nat :=
  if -(2 ^ (len - 1) : Int) ≤ v ∧ v < 2 ^ (len - 1) then wrapNat len v else Config.outOfRange v.natAbs % 2 ^ len

/-! ### Units and items (10, R290, R296 to R304) -/

/-- The unit in scope at an index, its PATH, its channel: the measuring channel of a root, the channel itself, the named
channel of a link. -/
def CalRun.unit (r : CalRun) (i : Nat) : Nat := (r.units.getD i (0, 0)).1
def CalRun.path (r : CalRun) (n : Nat) : Int := match r.units.find? (fun u => u.1 == n) with
  | some u => u.2
  | none => 0
def CalRun.chanOf (r : CalRun) (i : Nat) : Nat := if r.fam = 6 then r.ref else r.unit i

/-- A sum over a count, as a fraction. -/
def meanFrac (l : List Int) : Frac := (l.sum, l.length)

/-- Do the raw data of a unit have the form of its family (10, R296, R299 to R301, R303, R304)?
1: RGn_PER, in 2^-16 tick. 2: 2 x 256 bins of 2^27 stamps. 3: the count at which the drive starts, then the times of 2^20 stamps in the
order of the drive's cycles. 4: the times of 65,536 stamps. 5: the count at which the drive starts, then the times of 65,536 stamps of
REF. 6: how many common edges, their times on this and on the far device in turn, then the four times of each probe. -/
def rawOk (fam : Nat) (v : List Int) : Bool :=
  if fam = 1 then decide (v.length = 1 ∧ 0 < v.headD 0)
  else if fam = 2 then decide (v.length = 512 ∧ (v.take 256).sum = 2 ^ 27 ∧ (v.drop 256).sum = 2 ^ 27) && v.all (fun x => decide (0 ≤ x))
  else if fam = 3 then decide (v.length = 1 + 2 ^ 20)
  else if fam = 4 then decide (v.length = 65536)
  else if fam = 5 then decide (v.length = 65537)
  else
    let k := (v.headD 0).toNat
    decide (0 < k ∧ 1 + 2 * k < v.length ∧ (v.length - 1 - 2 * k) % 4 = 0)

/-- Has what a pass brings the raw data of each unit? -/
def CalRun.fits (r : CalRun) (vals : List (List Int)) : Bool :=
  decide (vals.length = r.units.length) && vals.all (rawOk r.fam)

/-- What a pass measured of the unit with a channel number. -/
def CalRun.rawOf (r : CalRun) (vals : List (List Int)) (n : Nat) : List Int :=
  match (r.units.zip vals).find? (fun u => u.1.1 == n) with
  | some u => u.2
  | none => []

/-- P_exp in ticks (10, R296): the word in force without FTRIM, the frequency that CAL_REFCFG.FREQ declares. -/
def State.pExp (s : State) (k : Nat) : Frac :=
  let f := s.fTnom k (s.wordInForce k) 0
  (4096 * f.1, f.2 * (if s.bit CAL_REFCFG_FREQ then 100000000 else 10000000))

/-- P_meas / P_exp - 1 of a period in 2^-16 tick (10, R296). -/
def State.freqError (s : State) (k : Nat) (per : Int) : Frac :=
  let p := s.pExp k
  (per * p.2 - p.1 * 2 ^ 16, (p.1 * 2 ^ 16).toNat)

/-- SINL of one stamper from the 256 bins of its histogram (10, R299): x(4j) - 64j. -/
def sinlOf (h : List Int) : List Frac :=
  (List.range 64).map (fun j => (4096 * (h.take (4 * j)).sum - 64 * j * h.sum, h.sum.toNat))

/-- The drive record of a DTC-INL pass (10, R300): PERIOD 16,449 ticks, D1 at 0 and D2 at 8,224, unanchored. -/
def dtcRecord : Record := BitVec.ofNat 256 (16449 * 2 ^ 16 + 2 ^ 25 * 2 ^ 74 + (2 ^ 25 + 8224) * 2 ^ 100)

/-- The programmed time of the i-th D1 of that drive without its deskew, for a drive that starts at a count. -/
def dtcEdge (t : Int) (i : Nat) : Int := 4096 * t + 16449 * i

/-- The histogram of a DTC-INL pass (10, R300): for each programmed fine position the sum of dev = t - t_D1 over its 256 stamps. -/
def devSums (dsk : Int) : List Int → List Int
  | [] => []
  | t :: st =>
    let dev := (st.zip (List.range st.length)).map (fun q => let e := dtcEdge t q.2 + dsk; ((e % 4096).toNat, q.1 - e))
    (List.range 4096).map (fun f => ((dev.filter (fun d => decide (d.1 = f))).map (fun d => d.2)).sum)

/-- DINL from the histogram: the mean of dev over [64j - 8, 64j + 8) against the mean over all, negated (10, R300). -/
def dinlOf (h : List Int) : List Frac :=
  (List.range 64).map (fun j =>
    let w := ((List.range 16).map (fun i => h.getD ((64 * j + 4088 + i) % 4096) 0)).sum
    (h.sum - 256 * w, 2 ^ 20))

/-- The stamp of REF that is nearest to a time; the first of equals. -/
def nearest (refs : List Int) (t : Int) : Int :=
  refs.foldl (fun a r => if (t - r).natAbs < (t - a).natAbs then r else a) (refs.headD 0)

/-- The differences of R301: each stamp of a channel against the nearest of REF. -/
def pairRef (refs v : List Int) : List Int := v.map (fun t => t - nearest refs t)

/-- EVS_n: `x` is the mean of t_n - t_REF (10, R301). -/
def State.evs (s : State) (r : CalRun) (n : Nat) (x : Frac) : Frac :=
  if n = r.ref then (0, 1)
  else fracSub (fracAdd x (fracInt (s.geti (CH_EVSKEW_SKEW n) - s.geti (CH_EVSKEW_SKEW r.ref)))) (s.fsTicks (n / 64) (r.path n - r.path r.ref))

/-- The latest programmed D1 of a channel's calibration drive, without its deskew, that could have been output by a time: the drive
starts at a count and runs the record in CHn_CALCTX (10, R302, R303; 05, R135, R138). -/
def State.driveEdge (s : State) (n : Nat) (start t : Int) : Int :=
  let d := s.calRecord n
  let p : Int := max (2048 * 2 ^ 16) (d.toNat % 2 ^ 48)
  let x := edgeOf d 1
  let off : Int := if edgeAnchor x then -(edgeOff x : Int) else edgeOff x
  let w := t - lOut - s.geti (CH_DSKACT_ACT n) - off
  let m := ((w + 1) * 2 ^ 16 - 1 - 2 ^ 15 - start * 2 ^ 28) / p
  (start * 2 ^ 28 + m * p + 2 ^ 15) / 2 ^ 16 + off

/-- The differences t - (t_e - DSKACT_n) of R303. -/
def State.drivePairs (s : State) (n : Nat) : List Int → List Int
  | [] => []
  | start :: st => st.map (fun t => t - s.driveEdge n start t)

/-- D_n: `x` is the mean of those (10, R303). -/
def State.driveDelay (s : State) (r : CalRun) (n : Nat) (x : Frac) : Frac := fracSub x (s.fsTicks (n / 64) (r.path n))

/-- The two offsets of a cross-device pass (10, R304; 11, R335): what the common edges give, and what the probes' round trips give. -/
def edgePairs : Nat → List Int → List Int
  | k + 1, a :: b :: t => (b - a) :: edgePairs k t
  | _, _ => []

def probePairs : List Int → List (Int × Int)
  | a :: b :: c :: d :: t => (b - a, d - c) :: probePairs t
  | _ => []

/-- ASYM in ticks: the offset of the common edges less (d1 - d2) / 2 (10, R304; 11, R335). -/
def asymOf (v : List Int) : Frac :=
  let k := (v.headD 0).toNat
  let d := probePairs (v.drop (1 + 2 * k))
  let rt : Frac := ((d.map (fun q => q.1 - q.2)).sum, 2 * d.length)
  fracSub (meanFrac (edgePairs k (v.drop 1))) rt

/-- The items of a pass, unit by unit: a frequency error as a ratio, INL entries and skews in ticks, an asymmetry in
2^-8 tick. -/
def State.calResult (s : State) (r : CalRun) (vals : List (List Int)) : List (List Frac) :=
  (r.units.zip vals).map (fun u =>
    let n := u.1.1
    if r.fam = 1 then [s.freqError (s.rootOf (n / 64)) (u.2.headD 0)]
    else if r.fam = 2 then sinlOf (u.2.take 256) ++ sinlOf (u.2.drop 256)
    else if r.fam = 3 then dinlOf (devSums (s.geti (CH_DSKACT_ACT n)) u.2)
    else if r.fam = 4 then [s.evs r n (meanFrac (pairRef (r.rawOf vals r.ref) u.2))]
    else if r.fam = 5 then
      [if n = r.ref then (0, 1)
       else fracSub (s.driveDelay r r.ref (meanFrac (s.drivePairs r.ref (r.rawOf vals r.ref)))) (s.driveDelay r n (meanFrac (s.drivePairs n u.2)))]
    else let a := asymOf u.2; [(a.1 * 256, a.2)])

/-- The tolerance of a unit's items (10, R293). -/
def State.calTol (s : State) (r : CalRun) (n : Nat) : Frac :=
  if r.fam = 1 then (s.get CAL_TOLFREQ_PPB, 10 ^ 9)
  else if r.fam = 2 ∨ r.fam = 3 then s.fsTicks (n / 64) (s.get CAL_TOLINL_FS)
  else
    let t := s.fsTicks (n / 64) (s.get CAL_TOLSKEW_FS)
    if r.fam = 6 then (t.1 * 256, t.2) else t

/-- The units of the items on which the passes disagree, one entry an item. -/
def State.disagree (s : State) (r : CalRun) (a b : List (List Frac)) : List Nat :=
  (List.range r.units.length).flatMap (fun i =>
    ((List.zip (a.getD i []) (b.getD i [])).filter (fun p => !fracNear p.1 p.2 (s.calTol r (r.chanOf i)))).map (fun _ => r.unit i))

/-! ### Start and end of a run (10, R291, R292) -/

def calBanks (chans : List Nat) : List Nat := (List.range 8).filter (fun b => chans.any (fun n => n / 64 == b))

/-- The channels that a family part uses. -/
def calChansOf (fam ref : Nat) (units : List (Nat × Int)) : List Nat :=
  if fam = 6 then [ref] else (units.map (fun u => u.1)).eraseDups

def State.calValid (s : State) (n i : Nat) : Bool := s.get (CH_CALSTAT_VALID n) / 2 ^ i % 2 == 1

/-- Item 1: the prerequisites. In family 5 REF has a step of its own and is a driving channel too (10, R290, R303). -/
def State.calOrder (s : State) (fam ref : Nat) (chans : List Nat) : Bool :=
  if fam = 3 ∨ fam = 4 then chans.all (fun n => s.calValid n 0)
  else if fam = 5 then chans.all (fun n => s.calValid n 1) && s.calValid ref 0 && s.calValid ref 2
  else if fam = 6 then chans.all (fun n => s.calValid n 2)
  else true

/-- Items 3 and 4, which hold for as long as the passes run. -/
def State.calClock (s : State) (fam : Nat) (chans : List Nat) : Nat :=
  let banks := calBanks chans
  if (fam = 1 ∨ fam = 2 ∨ fam = 4) ∧ ¬(s.bit CAL_REFCFG_EN ∧ s.bit CAL_REFSTAT_PRESENT ∧ s.bit CAL_REFSTAT_INWIN) then Code.PRECOND_CALREF
  else if banks.all (fun b => s.isLocked (s.rootOf b) && s.bit (BNK_STAT_DLLLOCK b) && !s.bit (BNK_STAT_TAINT b)) = false then Code.PRECOND_LOCK
  else if fam = 6 ∧ banks.any (fun b => s.bit (SYN_FLAGS_TBSLIP (s.rootOf b))) then Code.PRECOND_LOCK
  else Code.OK

/-- A count of transitions in 1 us lies within 1 % of an edge rate in Hz. -/
def rateNear (v rate : Nat) : Bool := decide (100 * ((v : Int) * 1000000 - rate).natAbs ≤ rate)

/-- No transition for ten complete windows of 1 us and since (10, R291). -/
def State.quiet10 (s : State) (n : Nat) : Bool := decide (10 ≤ (s.cap n).quiet) && (s.cap n).trans == 0

/-- Item 5: the activity of EVI; `rate` is the declared edge rate in Hz. -/
def State.calActivity (s : State) (fam ref rate : Nat) (chans : List Nat) : Bool :=
  if fam = 4 then chans.all (fun n => rateNear (s.get (CH_EVSTAT_EDG1US n)) rate)
  else if fam = 5 then s.quiet10 ref
  else true

/-- What the clocks of a set of channels have done so far: locks of their roots, taint intervals of their banks (10, R291). -/
def State.clockMarks (s : State) (chans : List Nat) : List Nat :=
  (calBanks chans).flatMap (fun b => [(s.root (s.rootOf b)).locks, (s.bank b).opens])

/-- Items 3 to 5 since the run began (10, R291): a failure that has passed again counts too. -/
def State.calKept (s : State) (r : CalRun) : Nat :=
  let clk := s.calClock r.fam r.chans
  if (r.fam = 1 ∨ r.fam = 2 ∨ r.fam = 4) ∧ s.cal.refFails ≠ r.refMark then Code.PRECOND_CALREF
  else if clk ≠ Code.OK then clk
  else if s.clockMarks r.chans ≠ r.marks then Code.PRECOND_LOCK
  else if r.fam = 4 ∧ r.chans.all (fun n => rateNear (s.cap n).edgLo r.rate && rateNear (s.cap n).edgHi r.rate) = false then Code.PRECOND_ACTIVITY
  else Code.OK

/-- The first precondition that fails (10, R291). -/
def State.calCheck (s : State) (fam ref rate : Nat) (chans : List Nat) : Nat :=
  let clk := s.calClock fam chans
  if s.calOrder fam ref chans = false then Code.PRECOND_ORDER
  else if chans.any (fun n => s.bit (CH_GRP_MEMBER n) || !(s.chan n).pk.parked || s.chanInTake n) then Code.PRECOND_BUSY
  else if clk ≠ Code.OK then clk
  else if s.calActivity fam ref rate chans = false then Code.PRECOND_ACTIVITY
  else Code.OK

def State.calStat (s : State) (st fam code ndis : Nat) : State :=
  (((s.put CAL_RUNSTAT_STATE st).put CAL_RUNSTAT_FAMILY fam).put CAL_RUNSTAT_CODE code).put CAL_RUNSTAT_NDIS ndis

/-! ### What firmware sets for a pass and puts back (10, R292, R296, R299, R300, R302, R303) -/

/-- Firmware writes a register of a channel in a run. -/
def State.calWriteReg (s : State) (a : Nat) (w : Word) : State :=
  let n := (a - 0x200000) / 0x1000
  if a = CH_EVCFG n then s.evcfgWrite n w else s.setWord a w

/-- The registers of a channel that a run saves: its receiver, take and regression settings. -/
def calSaved (n : Nat) : List Nat := [CH_EVCFG n, CH_TAKE n, RG_CFG n, RG_PREFLO n, RG_PREFHI n]

/-- Firmware sets SRC and EDGE of a channel's receiver, and enables it. -/
def State.calReceiver (s : State) (n src edge : Nat) : State :=
  let w := setField (setField (setField (s.word (CH_EVCFG n)).toNat (CH_EVCFG_SRC n) src) (CH_EVCFG_EDGE n) edge) (CH_EVCFG_EN n) 1
  s.evcfgWrite n (BitVec.ofNat 32 w)

/-- Firmware writes one field of CHn_CALCTRL, by the rule of its drive bit (10, R302). -/
def State.calCtl (s : State) (n : Nat) (r : Ref) (v : Nat) : State :=
  s.calctrlWrite .firmware n (BitVec.ofNat 32 (setField (s.word (CH_CALCTRL n)).toNat r v))

/-- The take that firmware runs on a channel of a pass (10, R296, R299, R301): START immediate; for a frequency pass STOP gate of 1 s in
T-clock cycles, for stamper INL RESLATE and 2^28 stamps, for event-path skew STOP count of 65,536. DESIGN CHOICE: the manual gives this
take no number; its settings stand in the run, and no TKt register of the host's takes shows it. -/
def State.calTake (s : State) (fam n : Nat) : List CalTake :=
  if fam = 1 then
    let f := s.bankHz (n / 64)
    [{ ch := n, cfg := 4, gate := (roundDivI f.1 f.2).toNat, count := 1 }]
  else if fam = 2 then [{ ch := n, cfg := 2 ^ 31, gate := 1, count := 2 ^ 28 }]
  else if fam = 4 then [{ ch := n, cfg := 0, gate := 1, count := 65536 }]
  else []

/-- The settings of a family on one of its channels. -/
def State.calSet (s : State) (fam n : Nat) : State :=
  if fam = 1 then
    let p := s.pExp (s.rootOf (n / 64))
    let s1 := (s.calReceiver n 2 0).put (RG_CFG_EN n) 1
    (s1.put (RG_CFG_DECIM n) 0).putPair (RG_PREFLO_P n) (RG_PREFHI_P n) (roundDivI p.1 p.2).toNat
  else if fam = 2 then
    ((s.calReceiver n 2 2).calCtl n ⟨CH_CALCTRL n, 16, 1⟩ 1).calCtl n (CH_CALCTRL_HIST n) 1
  else if fam = 3 then
    let s1 := (s.calReceiver n 1 0).calCtl n ⟨CH_CALCTRL n, 17, 1⟩ 1
    ((List.range 8).foldl (fun u w => u.put (CH_CALCTX_REC n w) (dtcRecord.toNat / 2 ^ (32 * w))) s1).calCtl n (CH_CALCTRL_CDRV n) 1
  else s

/-- What the banks of a run measure of their DLL and temperature starts from what stands (10, R300). -/
def State.calSpans (s : State) (b : Nat) : State :=
  let c := s.get (BNK_DLLCW_CW b)
  let t := s.geti (BNK_TRKTEMP_T b)
  s.modBank b (fun y => { y with cwSpan := (c, c), tSpan := (t, t) })

/-- The histograms of a pass and the activity counts start afresh. -/
def State.calClear (s : State) (n : Nat) : State :=
  let v := s.get (CH_EVSTAT_EDG1US n)
  s.modCap n (fun x => { x with hist := [], edgLo := v, edgHi := v })

/-- A channel leaves a run: HELD, the bypasses, HIST and the drive go, its registers come back. -/
def State.calUnset (s : State) (fam n : Nat) : State :=
  let s1 := if fam = 2 then (s.calCtl n ⟨CH_CALCTRL n, 16, 1⟩ 0).calCtl n (CH_CALCTRL_HIST n) 0
    else if fam = 3 then (s.calCtl n ⟨CH_CALCTRL n, 17, 1⟩ 0).calCtl n (CH_CALCTRL_CDRV n) 0
    else if fam = 5 then s.calCtl n (CH_CALCTRL_CDRV n) 0
    else s
  s1.put (CH_CALSTAT_HELD n) 0

/-- A run begins: the channels are HELD and set, the trackers frozen. -/
def State.calBegin (s : State) (r : CalRun) : State :=
  let s1 := r.chans.foldl (fun u n => (u.calClear n).put (CH_CALSTAT_HELD n) 1) s
  let s2 := (calBanks r.chans).foldl (fun u b => (u.put (BNK_TRKCTRL_FREEZE b) 1).calSpans b) s1
  let s3 := r.chans.foldl (fun u n => u.calSet r.fam n) s2
  ({ s3 with calChans := r.chans, cal := { s3.cal with run := some r } }).calStat 2 r.fam 0 0

/-- A run ends with a code: what firmware set is put back. -/
def State.calEnd (s : State) (r : CalRun) (code ndis : Nat) : State :=
  let s1 := r.chans.foldl (fun u n => u.calUnset r.fam n) s
  let s2 := r.saved.foldl (fun u q => u.calWriteReg q.1 q.2) s1
  let s3 := r.freeze.foldl (fun u q => u.put (BNK_TRKCTRL_FREEZE q.1) q.2) s2
  ({ s3 with calChans := [], cal := { s3.cal with run := none } }).calStat 0 r.fam code ndis

def State.calFail (s : State) (r : CalRun) (code : Nat) : State := (s.calEnd r code 0).failCmd r.f r.c code

/-! ### CAL_RUN and CAL_NEXT (10, R290, R291, R303; 14, R429) -/

/-- The entries of CAL_RUN's buffer. -/
def calScope : Nat → List Nat → List (Nat × Int)
  | 0, _ => []
  | k + 1, l => (ofLe (l.take 2), signed 32 (ofLe ((l.drop 4).take 4))) :: calScope k (l.drop 8)

/-- Do the operands of CAL_RUN name units that exist? -/
def calScopeOk (fam ref rate : Nat) (units : List (Nat × Int)) : Bool :=
  decide (1 ≤ fam ∧ fam ≤ 6) && !units.isEmpty && (fam < 4 || decide (ref < 512)) && (fam != 4 || decide (rate ≤ 100000000)) &&
    units.all (fun u => decide (u.1 < (if fam = 6 then 4 else 512)))

def calRun (s : State) (f c e : Nat) (buf : List Nat) : State :=
  let fam := ent e 20 1
  let ref := ent e 22 2
  let n := ent e 28 2
  let sc := calScope n buf
  let units := if (fam = 4 ∨ fam = 5) ∧ sc.all (fun u => u.1 != ref) then (ref, 0) :: sc else sc
  let chans := calChansOf fam ref units
  if bufOk e (8 * n) = false ∨ calScopeOk fam ref (ent e 24 4) sc = false then s.failCmd f c Code.BAD_PARAM
  else if (sc.all (fun u => fam == 6 || s.chanIn f u.1)) = false then s.failCmd f c Code.PARTITION
  else if s.calBusy f c then s.failCmd f c Code.CAL_BUSY
  else
    let code := s.calCheck fam ref (ent e 24 4) chans
    if code ≠ Code.OK then (s.calStat 0 fam code 0).failCmd f c code
    else s.calBegin { f := f, c := c, fam := fam, ref := ref, units := units, chans := chans, rate := ent e 24 4, pass := 1, first := [], step := 0,
                      host := s.bit GLB_MODE_CALHOST, freeze := (calBanks chans).map (fun b => (b, s.get (BNK_TRKCTRL_FREEZE b)))
                      saved := (chans.flatMap calSaved).map (fun a => (a, s.word a)), refMark := s.cal.refFails, marks := s.clockMarks chans, takes := chans.flatMap (s.calTake fam) }

def execCalRun (f : Fin 64) (c : Nat) (buf : List Byte) (s : State) : Host.Outcome State Fault Refusal :=
  .next (s.runBuf f c 0x0300 (fun e u => calRun u f c e (buf.map (fun b => b.toNat))))

/-- CAL_NEXT releases the next step of a drive-path pass: the channel of the step before stops, the named one drives (10, R302, R303).
With no step to release it is ignored. -/
def calNext (s : State) (f c : Nat) : State :=
  match s.cal.run with
  | none => s.failCmd f c Code.IGNORED
  | some r =>
    if r.fam ≠ 5 ∨ r.units.length ≤ r.step then s.failCmd f c Code.IGNORED
    else if s.calActivity 5 r.ref 0 [] = false then (s.calFail r Code.PRECOND_ACTIVITY).failCmd f c Code.PRECOND_ACTIVITY
    else
      let s1 := if r.step = 0 then s else s.calCtl (r.unit (r.step - 1)) (CH_CALCTRL_CDRV (r.unit (r.step - 1))) 0
      let s2 := s1.calCtl (r.unit r.step) (CH_CALCTRL_CDRV (r.unit r.step)) 1
      ({ s2 with cal := { s2.cal with run := some { r with step := r.step + 1 } } }).okCmd f c (r.step + 1)

def execCalNext (f : Fin 64) (c : Nat) (s : State) : Host.Outcome State Fault Refusal := .next (s.runCmd f c 0x0301 (fun _ u => calNext u f c))

/-! ### Results (10, R293 to R304) -/

/-- FTRIM for a mean error, in 2^-40 of the word (10, R297). -/
def State.newTrim (s : State) (n : Nat) (e : Frac) : Int :=
  let w : Int := s.wordInForce n
  roundDivI ((w + s.geti (SYN_FTRIM_TRIM n)) * e.2) (e.2 + e.1).toNat - w

/-- A mean result goes to the registers of its unit. -/
def State.calPut (s : State) (r : CalRun) (n : Nat) (m : List Frac) : State :=
  let x := m.headD (0, 1)
  if r.fam = 1 then
    let k := s.rootOf (n / 64)
    let s1 := (s.applyTrim k (s.newTrim k x)).putBit CAL_VALID_FREQ k 1
    let kept : RootCal := { ppb := fracRound (10 ^ 12) x, khz := s1.get (SYN_REFFREQ_KHZ k), ref := s1.get CAL_REFCFG_FREQ }
    { s1 with cal := { s1.cal with roots := tabSet RootCal.init s1.cal.roots k kept } }
  else if r.fam = 2 then
    let l := m.map (fun y => calField 12 (fracRound 16 y))
    ((s.putTable (CH_SINL0 n 0) (l.take 64)).putTable (CH_SINL1 n 0) (l.drop 64)).putBit (CH_CALSTAT_VALID n) 0 1
  else if r.fam = 3 then (s.putDtc n (m.map (fun y => calField 12 (fracRound 16 y)))).putBit (CH_CALSTAT_VALID n) 1 1
  else if r.fam = 4 then (s.put (CH_EVSKEW_SKEW n) (calField 18 (fracRound 1 x))).putBit (CH_CALSTAT_VALID n) 2 1
  else if r.fam = 5 then (s.putDeskew n (signed 18 (calField 18 (fracRound 1 x)))).putBit (CH_CALSTAT_VALID n) 3 1
  else
    let s1 := (s.put (PRL_ASYM_ASYM n) (calField 32 (fracRound 1 x))).putBit CAL_VALID_LINK n 1
    { s1 with cal := { s1.cal with peer := tabSet 0 s1.cal.peer n (s1.get (PRL_STAT_PEERID n)) } }

/-- The bank's T-clock is what its times are in (10, R308, R315). -/
def State.noteKhz (s : State) (b : Nat) : State :=
  let f := s.bankHz b
  { s with cal := { s.cal with khz := tabSet 0 s.cal.khz b (roundDiv f.1 (f.2 * 1000) % 2 ^ 32) } }

/-- The tracker reference after a DTC-INL run, and the tracker's output (10, R300): `refs` are means of DLLCW and of the
temperature by bank used. -/
def State.calRefs (s : State) (banks : List Nat) (refs : List (Nat × Int)) : State :=
  (banks.zip refs).foldl (fun u q =>
    (((u.put (BNK_TRKREF_CW0 q.1) q.2.1).puti (BNK_TRKREF_T0 q.1) q.2.2).put (BNK_TRKOUT_GC q.1) 0).put (BNK_TRKOUT_OC q.1) 0) s

/-- An agreeing run applies its means; it ends, and completes, once the writes are done (10, R294). -/
def State.calApply (s : State) (r : CalRun) (means : List (List Frac)) (refs : List (Nat × Int)) : State :=
  let u1 := (List.range r.units.length).foldl (fun v i => v.calPut r (r.unit i) (means.getD i [])) s
  let u2 := (calBanks r.chans).foldl (fun v b => v.noteKhz b) u1
  let u3 := if r.fam = 3 then u2.calRefs (calBanks r.chans) refs else u2
  (u3.calEnd r Code.OK 0).okCmd r.f r.c 0

/-- Any new trim beyond the format (10, R297). -/
def State.trimRange (s : State) (r : CalRun) (means : List (List Frac)) : Bool :=
  r.fam == 1 && (List.range r.units.length).any (fun i =>
    decide (2 ^ 31 ≤ (s.newTrim (s.rootOf (r.unit i / 64)) ((means.getD i []).headD (0, 1))).natAbs))

/-- The entry of a command. -/
def State.entryOf (s : State) (f c : Nat) : Nat := match (s.flow f).cmds.find? (fun k => k.id == c) with
  | some k => k.entry
  | none => 0

/-- Disagreement (10, R293; 14, R429): up to 64 units follow the scope in the buffer, as far as it reaches. -/
def State.calDisagree (s : State) (r : CalRun) (l : List Nat) : State :=
  let e := s.entryOf r.f r.c
  let off := 8 * ent e 28 2
  let bytes := ((l.take 64).flatMap (fun n => leBytes 2 n)).take (entLen e - off)
  let u := s.calEnd r Code.DISAGREE l.length
  if bytes.isEmpty then u.finishCmd r.f r.c Code.DISAGREE false false 0 l.length
  else u.finishData r.f r.c ⟨entAddr e + off, bytes, Code.DISAGREE, false, 0, l.length⟩

/-- Raw data of a pass in the staging window, each number in 8 bytes (10, R295): the regression result; the histograms; sums and counts;
the round-trip stamps. -/
def State.rawBytes (s : State) (r : CalRun) (vals : List (List Int)) : List Nat :=
  (r.units.zip vals).flatMap (fun u =>
    let l := if r.fam = 3 then devSums (s.geti (CH_DSKACT_ACT u.1.1)) u.2
      else if r.fam = 4 then [(pairRef (r.rawOf vals r.ref) u.2).sum, (u.2.length : Int)]
      else if r.fam = 5 then [(s.drivePairs u.1.1 u.2).sum, (u.2.length : Int) - 1]
      else if r.fam = 6 then u.2.drop (1 + 2 * (u.2.headD 0).toNat)
      else u.2
    l.flatMap (fun x => leBytes 8 (wrapNat 64 x)))

/-- The histograms of a stamper-INL pass stand in firmware memory (10, R299). -/
def State.calHist (s : State) (r : CalRun) (vals : List (List Int)) : State :=
  if r.fam = 2 then
    (r.units.zip vals).foldl (fun u q => u.modCap q.1.1 (fun x => { x with
      hist := ((List.range 512).zip q.2).foldl (fun t b => tabSet 0 t b.1 b.2.toNat) [] })) s
  else s

/-- A pass ends well: the first leads to the second, with the same settings; after the second the passes are compared. -/
def calPass (s0 : State) (r : CalRun) (vals : List (List Int)) (refs : List (Nat × Int)) : State :=
  let s := s0.calHist r vals
  if r.pass = 1 then
    let s1 := if r.fam = 5 ∧ r.step ≠ 0 then s.calCtl (r.unit (r.step - 1)) (CH_CALCTRL_CDRV (r.unit (r.step - 1))) 0 else s
    ({ s1 with cal := { s1.cal with run := some { r with pass := 2, first := vals, step := 0 } } }).put CAL_RUNSTAT_STATE 3
  else if r.host then ((s.stage0 (s.rawBytes r r.first ++ s.rawBytes r vals)).calEnd r Code.OK 0).okCmd r.f r.c 0
  else
    let a := s.calResult r r.first
    let b := s.calResult r vals
    let l := s.disagree r a b
    let means := List.zipWith (fun x y => List.zipWith fracMean x y) a b
    if l.isEmpty = false then s.calDisagree r l
    else if s.trimRange r means then s.calFail r Code.FTRIM_RANGE
    else s.calApply r means refs

/-- The means that a DTC-INL run brings, of every bank used, each between the extremes that the run has met (10, R300). -/
def State.refsFit (s : State) (banks : List Nat) (refs : List (Nat × Int)) : Bool :=
  decide (refs.length = banks.length) && (banks.zip refs).all (fun q =>
    let y := s.bank q.1
    decide (y.cwSpan.1 ≤ q.2.1 ∧ q.2.1 ≤ y.cwSpan.2 ∧ y.tSpan.1 ≤ q.2.2 ∧ q.2.2 ≤ y.tSpan.2))

/-- CAL_PASS_DONE: whether a result was tainted; whether the activity of item 5 held, or in family 6 the far device's root was LOCKED with
TBSLIP clear (10, R304); what the pass measured; means of DLLCW and of the temperature by bank used (R300). -/
def calPassDone (s : State) (r : CalRun) (tainted active : Bool) (vals : List (List Int)) (refs : List (Nat × Int)) : State :=
  let code := s.calKept r
  if tainted then s.calFail r Code.PRECOND_LOCK
  else if code ≠ Code.OK then s.calFail r code
  else if active = false then s.calFail r (if r.fam = 6 then Code.PRECOND_LOCK else Code.PRECOND_ACTIVITY)
  else if r.fits vals ∧ (r.fam ≠ 5 ∨ r.step = r.units.length) ∧ (r.fam ≠ 3 ∨ r.pass = 1 ∨ r.host ∨ s.refsFit (calBanks r.chans) refs) then
    calPass s r vals refs
  else s

def execCalPassDone (tainted active : Bool) (vals : List (List Int)) (refs : List (Nat × Int)) (s : State) : Host.Outcome State Fault Refusal :=
  match s.cal.run with
  | none => .next s
  | some r => .next (calPassDone s r tainted active vals refs)

/-! ### CAL_SUBMIT (10, R295) -/

def fitsS (len : Nat) (v : Int) : Bool := decide (-(2 ^ (len - 1) : Int) ≤ v ∧ v < 2 ^ (len - 1))

/-- What a submission gives for a channel: the items whose VALID bits are set. -/
def State.submitChan (s : State) (n : Nat) (r : List Nat) : State :=
  let v := imgAt r 2 1
  let s1 := if v % 2 = 1 then (s.putTable (CH_SINL0 n 0) (unpack12 ((r.drop 16).take 96))).putTable (CH_SINL1 n 0) (unpack12 ((r.drop 112).take 96)) else s
  let s2 := if v / 2 % 2 = 1 then s1.putDtc n (unpack12 ((r.drop 208).take 96)) else s1
  let s3 := if v / 4 % 2 = 1 then s2.puti (CH_EVSKEW_SKEW n) (signed 32 (imgAt r 8 4)) else s2
  let s4 := if v / 8 % 2 = 1 then s3.putDeskew n (signed 32 (imgAt r 4 4)) else s3
  s4.put (CH_CALSTAT_VALID n) (Nat.lor (s4.get (CH_CALSTAT_VALID n)) (v % 16))

def State.submitChans (s : State) : Nat → Nat → List Nat → State
  | 0, _, _ => s
  | k + 1, n, l => (s.submitChan n (l.take 304)).submitChans k (n + 1) (l.drop 304)

/-- Every submitted skew fits its register. -/
def submitFits : Nat → List Nat → Bool
  | 0, _ => true
  | k + 1, l =>
    let v := imgAt l 2 1
    (v / 4 % 2 == 0 || fitsS 18 (signed 32 (imgAt l 8 4))) && (v / 8 % 2 == 0 || fitsS 18 (signed 32 (imgAt l 4 4))) && submitFits k (l.drop 304)

/-- The bank has a submitted DTC table. -/
def submitDtc (img : List Nat) (b : Nat) : Bool :=
  (List.range 64).any (fun i => imgAt img (0x200 + 304 * (64 * b + i) + 2) 1 / 2 % 2 == 1)

/-- The bank has a submitted value. -/
def submitBank (img : List Nat) (b : Nat) : Bool :=
  (List.range 64).any (fun i => imgAt img (0x200 + 304 * (64 * b + i) + 2) 1 % 16 != 0)

def calSubmit (s : State) (f c e : Nat) (img : List Nat) : State :=
  if bufOk e ledgerLen = false then s.failCmd f c Code.BAD_PARAM
  else if submitFits 512 (img.drop 0x200) = false then s.failCmd f c Code.VALUE_RANGE
  else
    let s1 := (List.range 4).foldl (fun u n => if imgAt img (0x40 + 32 * n + 13) 1 % 2 = 1 then u.applyRoot img n else u) s
    let s2 := (List.range 4).foldl (fun u p => if imgAt img (0x1C0 + 16 * p + 5) 1 % 2 = 1 then u.applyLink img p else u) s1
    let s3 := (List.range 8).foldl (fun u b =>
      if submitDtc img b then u.calRefs [b] [(imgAt img (0xC0 + 32 * b + 4) 2, signed 16 (imgAt img (0xC0 + 32 * b + 6) 2))] else u) s2
    let s4 := (List.range 8).foldl (fun u b => if submitBank img b then u.noteKhz b else u) (s3.submitChans 512 0 (img.drop 0x200))
    s4.okCmd f c 0

def execCalSubmit (f : Fin 64) (c : Nat) (buf : List Byte) (s : State) : Host.Outcome State Fault Refusal :=
  .next (s.runBuf f c 0x0302 (fun e u => calSubmit u f c e (buf.map (fun b => b.toNat))))

end Sys2Proof.Machine
end

