-- ==== Sys2Proof/Machine/Coast.lean ====
section
/-! DEFINITION. Losing and regaining the reference: coasting, the carry and its work-off
(03_profiles_spread_and_coasting.md, R91 to R101). -/

set_option Elab.async false

namespace Sys2Proof.Machine

/-- The averager's mean (03, R93); where it is no whole unit its rounding is the free value `Config.meanUp`. -/
def avgMean (l : List Int) : Int :=
  let sum := l.foldl (· + ·) 0
  let k := l.length
  if k = 0 then 0
  else if sum % (k : Int) = 0 then sum / k
  else if Config.meanUp sum k then sum / k + 1 else sum / k

/-- The coast word: the base plus the averaged correction, over the last window (03, R93). -/
def State.coastWord (s : State) (n : Nat) : Nat := (((s.root n).base : Int) + avgMean ((s.root n).avg.take (s.avgWin n))).toNat

/-- Show a coast word (03, R107). -/
def State.putCoastWord (s : State) (n w : Nat) : State :=
  ((s.put (SYN_COASTWLO_FRAC n) w).put (SYN_COASTWHI_FRACHI n) (w / 2 ^ 32)).put (SYN_COASTWHI_INT n) (w / 2 ^ 40)

/-- What every loss declaration but one in OFF does at once (03, R77, R95): the monitor's flags, COAST, LOCK and COASTTIME, and
the freeze of the loop. DESIGN CHOICE: these are readable before the step boundary that the state waits for. -/
def State.declareLoss (s : State) (n : Nat) : State :=
  let s1 := (s.flagSyn n (SYN_FLAGS_REFLOSS n)).put (SYN_STAT_COAST n) 1
  let s2 := (s1.inc (SYN_COASTCNT_COUNT n)).put (SYN_STAT_LOCK n) 0
  ((s2.put (SYN_COASTTIME_US n) 0).put (SYN_CSTAT_REFOK n) 0).modRoot n (fun r =>
    { r with lock := false, coasting := true, frozen := true, timing := true, waitLoss := true,
             com := { r.com with lock := false, coasting := true, timing := true } })

/-- COASTIN commits: the coast word is loaded, and the root is in COAST (03, R77, R93, R100). -/
def State.coastIn (s : State) (n : Nat) : State :=
  let w := s.coastWord n
  ((s.setStNow n stCoast).modRoot n (fun r => { r with coastW := w, frozen := false })).putCoastWord n w

/-- REFERENCE_LOSS (03, R76, R77, R92, R95): the loss is declared; a sequencer between two steps takes it at once. -/
def referenceLoss (s : State) (n : Nat) : State :=
  let s0 := s.modRoot n (fun r => { r with lossInWin := true })
  if s.rootState n = stOff then (s0.flagSyn n (SYN_FLAGS_REFLOSS n)).put (SYN_CSTAT_REFOK n) 0
  else
    let s1 := s0.declareLoss n
    if s.between n then s1.atBoundary n else s1

/-- The reference monitor runs while the root's domain is ON (03, R91). -/
def execReferenceLoss (n : Fin 4) (s : State) : Host.Outcome State Fault Refusal :=
  if s.freed ∧ s.domOn (72 + n) then .next (referenceLoss s n) else .next s

/-- REFERENCE_EDGES_RETURN (03, R92, R100): in COAST, qualification starts with a new window. -/
def edgesReturn (s : State) (n : Nat) : State :=
  ((s.modRoot n (fun r => { r with lossInWin := false })).setSt n stQualify).routine n 8

def execReferenceEdgesReturn (n : Fin 4) (s : State) : Host.Outcome State Fault Refusal :=
  if s.rootState n = stCoast ∧ s.seqRuns n ∧ (s.root n).waitOff = false then .next (edgesReturn s n) else .next s

/-- The count expected in a frequency window and its tolerance (03, R91). -/
def State.windowExpect (s : State) (n : Nat) : Nat := roundDiv (4096 * 1000000) (s.get (SYN_REFFREQ_KHZ n))
def windowTol (cexp : Nat) : Nat := max 1 (cexp / 10000)

/-- A root in FREERUN has a qualified reference again (03, R81, R100): WAKE afresh, or a band search. -/
def State.leaveFreerun (s : State) (n : Nat) : State :=
  if s.bit (SEQ_STAT_FAULT n) ∨ (s.root n).waitOff then s
  else
    let s1 := (s.later n (.put (SYN_STAT_COAST n) 0)).modRoot n (fun r => { r with coasting := false, frozen := false, lostInWake := false })
    if (s.root n).lostInWake then (s1.setSt n stWake).routine n 1 else (s1.enterSearch n).routine n 2

/-- A frequency window ends well: the reference is qualified unless a loss was declared within it (03, R91, R92, R100). -/
def State.windowPass (s : State) (n : Nat) : State :=
  let st := s.rootState n
  if (s.root n).lossInWin then s
  else
    let s1 := s.put (SYN_CSTAT_REFOK n) 1
    if st = stQualify ∧ s.seqRuns n then s1.setSt n stMeasure
    else if st = stFreerun then s1.leaveFreerun n
    else s1

/-- A frequency window fails (03, R92, R100). -/
def State.windowFail (s : State) (n : Nat) : State :=
  let st := s.rootState n
  let s1 := s.put (SYN_CSTAT_REFOK n) 0
  if st = stQualify then s1.put (SYN_CSTAT_QUALFAIL n) 1
  else if st = stLocked ∨ st = stHop ∨ st = stRamp then s1.put (SYN_CSTAT_REFOFF n) 1
  else s1

/-- FREQ_WINDOW_END (03, R91, R92, R100): `count` CORE cycles were counted in 4,096 REFCLK cycles. No window passes
before the XO is stable. -/
def freqWindowEnd (s : State) (n count : Nat) : State :=
  let cexp := s.windowExpect n
  let dev : Int := (count : Int) - cexp
  let s1 := s.put (SYN_CSTAT_QDEV n) (showSigned 16 dev)
  let s2 := if s.bit CLK_STAT_XOSTABLE ∧ dev.natAbs ≤ windowTol cexp then s1.windowPass n else s1.windowFail n
  s2.modRoot n (fun r => { r with lossInWin := false })

def execFreqWindowEnd (n : Fin 4) (count : Nat) (s : State) : Host.Outcome State Fault Refusal :=
  if s.freed ∧ s.domOn (72 + n) then .next (freqWindowEnd s n count) else .next s

/-- S of R96: round(1024 x f_VCO / f_PD), the phase steps of an f_PD period. -/
def State.stepsPerPeriod (s : State) (n : Nat) : Nat := roundDiv (1024 * (s.modulatorIn n).toNat) (2 ^ 40)

/-- Wrap into [-S/2, S/2) (03, R96). -/
def wrapHalf (x : Int) (m : Nat) : Int :=
  let r := x % (m : Int)
  if (m : Int) ≤ 2 * r then r - m else r

/-- MEASURE (03, R96, R97, R100, R101): `theta` is the measured output phase less the reference's, in phase steps; POLICY is
sampled for this return. -/
def measurePhase (s : State) (n : Nat) (theta : Int) : State :=
  let pol := s.get (SYN_CCTRL_POLICY n)
  let carry := s.willi n (SYN_PHCARRY_CARRY n)
  let phi := wrapHalf (theta - carry) (s.stepsPerPeriod n)
  let s1 := s.lateri n (SYN_LASTJUMP_JUMP n) phi
  let s2 := (s1.setSt n stReclose).modRoot n (fun r => { r with cnt := 0, snap := decide (pol = 2), ret := some pol })
  if pol = 2 then s2
  else
    let v := carry + phi
    let c := satSym (2 ^ 31 - 1) v
    let s3 := s2.lateri n (SYN_PHCARRY_CARRY n) c
    if c ≠ v then s3.later n (.put (SYN_CSTAT_CARRYSAT n) 1) else s3

def execMeasure (n : Fin 4) (theta : Int) (s : State) : Host.Outcome State Fault Refusal :=
  if s.rootState n = stMeasure ∧ s.seqRuns n then .next (measurePhase s n theta) else .next s

/-- A write of SYNn_CCTRL (03, R98, R101, R107): a change of POLICY from SLEW to another stops a work-off, a change to SLEW makes
a one-shot a SLEW work-off, WORKOFF under HOLD or SNAP starts a one-shot. DESIGN CHOICE: a write that leaves SLEW with WORKOFF = 1
stops the SLEW work-off and starts a one-shot; WORKOFF = 1 under SLEW does nothing. AVG governs AVGVALID at once (R93). -/
def State.cctrlWrite (s : State) (n : Nat) (w : Word) : State :=
  let old := s.get (SYN_CCTRL_POLICY n)
  let s1 := (s.writeReg (SYN_CCTRL n) w fullMask).showAvg n
  let new := s1.get (SYN_CCTRL_POLICY n)
  let s2 := if old = 1 ∧ new ≠ 1 then s1.put (SYN_CSTAT_WORKING n) 0
    else if old ≠ 1 ∧ new = 1 then s1.modRoot n (fun r => { r with woShot := false })
    else s1
  if wbit w 3 ∧ new ≠ 1 ∧ s2.geti (SYN_PHCARRY_CARRY n) ≠ 0 ∧ s2.bit (SYN_CSTAT_WORKING n) = false then
    (s2.put (SYN_CSTAT_WORKING n) 1).modRoot n (fun r => { r with woShot := true, woCnt := 0 })
  else s2

def execWorkoff (src : Source) (n : Fin 4) (w : Word) (s : State) : Host.Outcome State Fault Refusal :=
  .next (s.rowWrite src (SYN_CCTRL n) w (fun u => u.cctrlWrite n w))

/-- WORKOFF_STEP (03, R75, R98): the step executes, or in the next cycle where a pending step had this one. -/
def workoffStep (s : State) (n : Nat) : State :=
  if (s.root n).stepped then s.modRoot n (fun r => { r with woDue := true }) else (s.workoffMove n).noteVar n

def execWorkoffStep (n : Fin 4) (s : State) : Host.Outcome State Fault Refusal :=
  if s.bit (SYN_CSTAT_WORKING n) ∧ s.stepperOn n ∧ max 1 (s.get (SYN_CCTRL_SLEWK n)) ≤ (s.root n).woCnt
  then .next (workoffStep s n) else .next s

end Sys2Proof.Machine
end

