-- ==== Sys2Proof/Machine/Debug.lean ====
section
/-! DEFINITION. Lifecycle and debug states (13_boot_lifecycle_and_debug.md, R394 to R401). What programming a fuse
leaves comes from the fuse array and is an operand. -/

set_option Elab.async false

namespace Sys2Proof.Machine

/-! ### Challenges and responses (13, R398, R399) -/

/-- Results as LASTRES shows them. -/
def State.lastRes (s : State) (k : Nat) : State := s.put SEC_DBGSTAT_LASTRES k

/-- Does the lifecycle lead to a target (13, R398): 1 AUTH-OPEN, 2 OPEN? -/
def State.leadsTo (s : State) (target : Nat) : Bool :=
  let lc := s.get SEC_LCSTATE_LC
  (lc == 1 && target == 2) || (lc == 2 && target == 1) || (lc == 3 && target == 2)

def State.awake (s : State) : Bool := decide (s.get PWR_STATE_STATE ≤ 1)

/-- A challenge: its result as a code of LASTRES, 0 when a nonce was drawn. The nonce is a free value. -/
def State.challenge (s : State) (target : Nat) : State × Nat :=
  if s.bit SEC_DBGSTAT_LOCKOUT then (s.lastRes 6, 6)
  else if s.leadsTo target = false then (s.lastRes 4, 4)
  else if s.awake = false then (s.lastRes 7, 7)
  else
    let s1 := (List.range 8).foldl (fun u i => u.put (SEC_DBGNONCE_N i) (Config.freeNat s.free i)) s.draw
    ({ s1.put SEC_DBGSTAT_NONCEVALID 1 with boot := { s1.boot with target := target } }, 0)

/-- What keeps a device from a debug entry or a fuse change: groups, takes, a calibration run, a ledger save or import (13, R395, R400). -/
def State.debugBusy (s : State) : Bool :=
  (List.range 64).any (fun g => s.running g) || (List.range 256).any (fun t => s.takeBusy t) || s.calOpen

/-- The bytes of a response as the responder computes them (13, R399): HMAC-SHA-384 under DEVSECRET over UID, nonce, LC and TARGET. -/
def State.respBytes (s : State) : List Nat :=
  (hmac384 (s.fuseBytes 40 8) (leBytes 4 (s.word SEC_UIDLO).toNat ++ leBytes 4 (s.word SEC_UIDHI).toNat ++
    (List.range 8).flatMap (fun i => leBytes 4 (s.word (SEC_DBGNONCE i)).toNat) ++
    [s.get SEC_LCSTATE_LC, s.boot.target] ++ List.replicate 22 0)).take 32

/-- The verdict on the response that stands in SEC_DBGRESP. -/
def State.respOk (s : State) : Bool :=
  (List.range 8).flatMap (fun i => leBytes 4 (tabGet (0 : Word) s.boot.resp i).toNat) == s.respBytes

/-- A write of SEC_DBGRESPi. -/
def State.respWrite (s : State) (i : Nat) (w : Word) : State := { s with boot := { s.boot with resp := tabSet 0 s.boot.resp i w } }

/-- A response matches: FAILS is 0, and the debug state is entered, in FIELD after the wipes of R400. -/
def State.authOk (s : State) (path : Nat) : State × Nat :=
  let s1 := s.put SEC_DBGSTAT_FAILS 0
  if s.get SEC_LCSTATE_LC = 2 then
    if s.debugBusy then (s1.lastRes 5, 5)
    else
      let s2 := (List.range 8).foldl (fun u b => u.put (BNK_CUESTAT_WIPING b) 1) (s1.lastRes 1)
      ({ s2 with boot := { s2.boot with entry := some path } }, 1)
  else (((s1.lastRes 1).put SEC_LCSTATE_DBG 2).daily 0x41 path 0, 1)

/-- A mismatch counts; the third in a row locks out. -/
def State.authFail (s : State) (path : Nat) : State :=
  let k := min 3 (s.get SEC_DBGSTAT_FAILS + 1)
  let s1 := ((s.put SEC_DBGSTAT_FAILS k).lastRes 2).daily 0x42 path k
  if k = 3 then s1.put SEC_DBGSTAT_LOCKOUT 1 else s1

/-- CHECK: `ok` is the verdict on the response. Without a valid nonce it is expired (13, R399, R407). -/
def State.checkResponse (s : State) (path : Nat) (ok : Bool) : State × Nat :=
  if s.awake = false then (s.lastRes 7, 7)
  else if s.bit SEC_DBGSTAT_NONCEVALID = false then (s.lastRes 3, 3)
  else
    let s1 := s.put SEC_DBGSTAT_NONCEVALID 0
    if ok then s1.authOk path else (s1.authFail path, 2)

/-- SEAL (13, R401). -/
def State.sealDebug (s : State) (path : Nat) : State :=
  { (s.put SEC_LCSTATE_DBG 0).daily 0x43 path 0 with jtag := { s.jtag with halted := [], err := false } }

def pathOf (src : Source) : Nat := if src = .jtag then 1 else 0

/-- A write of SEC_DBGCTRL: SEAL, then CHECK, then CHAL (13, R407). -/
def State.dbgctrlWrite (s : State) (src : Source) (w : Word) : State :=
  let s1 := if wbit w 2 then s.sealDebug (pathOf src) else s
  let s2 := if wbit w 1 then (s1.checkResponse (pathOf src) s1.respOk).1 else s1
  if wbit w 0 then (s2.challenge (fld w 8 2)).1 else s2

def execChal (src : Source) (w : Word) (_ok : Bool) (s : State) : Host.Outcome State Fault Refusal := .next (s.rowWrite src SEC_DBGCTRL w (fun u => u.dbgctrlWrite src w))
def execCheck (src : Source) (w : Word) (_ok : Bool) (s : State) : Host.Outcome State Fault Refusal := .next (s.rowWrite src SEC_DBGCTRL w (fun u => u.dbgctrlWrite src w))
def execSeal (src : Source) (w : Word) (_ok : Bool) (s : State) : Host.Outcome State Fault Refusal := .next (s.rowWrite src SEC_DBGCTRL w (fun u => u.dbgctrlWrite src w))

def execNonceExpiry (s : State) : Host.Outcome State Fault Refusal := .next (s.put SEC_DBGSTAT_NONCEVALID 0)

/-! ### Entry to AUTH-OPEN (13, R400) -/

/-- Every calibration value and VALID bit at its reset value, every tracker frozen (10, R287). -/
def State.calReset (s : State) : State :=
  let s1 := (List.range 4).foldl (fun u n => ((u.puti (SYN_FTRIM_TRIM n) 0).put (PRL_ASYM_ASYM n) 0).noteVar n) s
  let s2 := (List.range 8).foldl (fun u b =>
    (((u.setWord (BNK_TRKREF b) 0).setWord (BNK_TRKKG b) 0).setWord (BNK_TRKKO b) 0).put (BNK_TRKCTRL_FREEZE b) 1) s1
  let s3 := (List.range 512).foldl (fun u n =>
    let u1 := (((u.putTable (CH_SINL0 n 0) []).putTable (CH_SINL1 n 0) []).putTable (CH_DINLT n 0) []).putTable (CH_DINLA n 0) []
    let u2 := (u1.put (CH_CALSTAT_VALID n) 0).put (CH_EVSKEW_SKEW n) 0
    if u2.get (CH_DESKEW_TARGET n) = 0 ∧ u2.get (CH_DSKACT_ACT n) = 0 then u2 else (u2.put (CH_DESKEW_TARGET n) 0).takeTarget n) s2
  let s4 := (s3.put CAL_VALID_FREQ 0).put CAL_VALID_LINK 0
  { s4 with cal := { s4.cal with trim := [], roots := [], khz := [], peer := [], ledger := [] } }

/-- AUTH_OPEN_ENTRY_DONE. -/
def authOpenDone (s : State) (path : Nat) : State :=
  let s1 := (List.range 8).foldl (fun u b => wipeDone u b) s
  let s2 := (List.range 512).foldl (fun u n => u.put (CH_RTAIL_IDX n) (u.get (CH_RHEAD_IDX n))) s1
  { (s2.calReset.put SEC_LCSTATE_DBG 1).daily 0x41 path 0 with boot := { s2.boot with entry := none } }

/-! ### Mailbox commands (14, R429) -/

/-- The result code of a code of LASTRES. -/
def resCode (k : Nat) : Nat :=
  if k = 0 ∨ k = 1 then Code.OK else if k = 4 then Code.DEBUG_REFUSED else if k = 5 then Code.DEBUG_BUSY else if k = 6 then Code.AUTH_LOCKOUT
  else if k = 7 then Code.POWER_OFF else Code.AUTH_FAIL

def dbgChallenge (s : State) (f c e : Nat) : State :=
  if bufOk e 32 = false then s.failCmd f c Code.BAD_PARAM
  else
    let r := s.challenge (ent e 20 1)
    if r.2 = 0 then r.1.okData f c e (r.1.regBytes (SEC_DBGNONCE 0) 8) 0 0 else r.1.failCmd f c (resCode r.2)

def execDbgChallenge (f : Fin 64) (c : Nat) (s : State) : Host.Outcome State Fault Refusal :=
  .next (s.runBuf f c 0x0600 (fun e u => dbgChallenge u f c e))

/-- DBG_RESPOND: an expired nonce completes AUTH_FAIL. -/
def dbgRespond (s : State) (f c : Nat) (ok : Bool) : State :=
  let r := s.checkResponse 0 ok
  r.1.failCmd f c (resCode r.2)

/-- The response stands in bytes 32 to 63 of the command's entry. -/
def execDbgRespond (f : Fin 64) (c : Nat) (_ok : Bool) (s : State) : Host.Outcome State Fault Refusal :=
  .next (s.runCmd f c 0x0601 (fun e u => dbgRespond u f c (leBytes 32 (ent e 32 32) == u.respBytes)))

def execDbgSeal (f : Fin 64) (c : Nat) (s : State) : Host.Outcome State Fault Refusal :=
  .next (s.runCmd f c 0x0602 (fun _ u => (u.sealDebug 0).okCmd f c 0))

/-! ### Fuse changes (13, R395 to R397) -/

/-- The debug state that a lifecycle change by LC_ADVANCE asks for; none: the pair is not in the table. -/
def lcPair (old new : Nat) : Option Nat :=
  if old = 1 ∧ (new = 2 ∨ new = 4) then some 2
  else if old = 2 ∧ (new = 3 ∨ new = 4) then some 1
  else if old = 3 ∧ new = 4 then some 2
  else none

/-- POWER_OFF in SLEEP and DEEP-SLEEP, LC_BUSY and LC_SUPPLY, as every fuse command checks them (13, R395, R403); `supply`: VDD_FUSE is in range. -/
def State.fuseBar (s : State) (supply : Bool) : Option Nat :=
  if s.awake = false then some Code.POWER_OFF
  else if s.debugBusy then some Code.LC_BUSY else if supply = false then some Code.LC_SUPPLY else none

/-- Fuse bits that programming has set. -/
def State.burn (s : State) (i bits : Nat) : State :=
  { s with fuses := tabSet 0 s.fuses i (BitVec.ofNat 32 (Nat.lor (s.fuse i) bits)) }

/-- Both folios are erased, highest address first: B lies above A (10, R318; 13, R395). -/
def State.eraseFolios (s : State) : State := (s.flashFrames.eraseFolio 1).eraseFolio 0

/-- LC_ADVANCE: `bits` are those of the target byte that read back as 1 of those programmed. -/
def lcAdvance (s : State) (f c new : Nat) (supply : Bool) (bits : Nat) : State :=
  let old := s.get SEC_LCSTATE_LC
  if 5 ≤ new then s.failCmd f c Code.BAD_PARAM
  else match lcPair old new with
  | none => s.failCmd f c Code.LC_REFUSED
  | some dbg =>
    if s.get SEC_LCSTATE_DBG ≠ dbg then s.failCmd f c Code.DEBUG_REFUSED
    else match s.fuseBar supply with
      | some code => s.failCmd f c code
      | none =>
        let s1 := if old = 1 ∧ new = 2 then s else s.eraseFolios
        let s2 := s1.burn 0 (bits % 256 * 2 ^ (8 * (new - 1)))
        let k := bitCount 8 (s2.fuse 0 / 2 ^ (8 * (new - 1)) % 256)
        if k < 5 then s2.failCmd f c Code.LC_FUSE else (s2.daily 0x40 (old + 256 * new) k).deviceReset 7

/-- LC_ADVANCE erases the folios by frames on SPT0, which wait for their turn (15, R457). -/
def execLcAdvance (f : Fin 64) (c : Nat) (supply : Bool) (bits : BitVec 8) (s : State) : Host.Outcome State Fault Refusal :=
  .next (if s.flashBusy then s else s.runCmd f c 0x0610 (fun e u => lcAdvance u f c (ent e 20 1) supply bits.toNat))

/-- The fused SVN of a state's fuses once bits are programmed. -/
def State.svnWith (s : State) (bits : Nat) : Nat :=
  bitCount 64 (Nat.lor (s.fuse 32 + s.fuse 33 * 2 ^ 32) bits)

/-- SVN_COMMIT: `bits` are the SVN bits that programming has set; it stops at the running image's SVN. -/
def svnCommit (s : State) (f c : Nat) (supply : Bool) (bits : Nat) : State :=
  match s.fuseBar supply with
  | some code => s.failCmd f c code
  | none =>
    let old := s.fusedSvn
    let img := s.get SEC_SVN_IMAGE
    if img ≤ old then s.okCmd f c old
    else if img < s.svnWith bits then s.failCmd f c Code.LC_FUSE
    else
      let s1 := (s.burn 32 (bits % 2 ^ 32)).burn 33 (bits / 2 ^ 32)
      if s1.fusedSvn = img then (s1.daily 0x45 0 (old + 256 * img)).okCmd f c img else s1.failCmd f c Code.LC_FUSE

def execSvnCommit (f : Fin 64) (c : Nat) (supply : Bool) (bits : BitVec 64) (s : State) : Host.Outcome State Fault Refusal :=
  .next (s.runCmd f c 0x0611 (fun _ u => svnCommit u f c supply bits.toNat))

/-- KEY_REVOKE: `bits` are those of the nibble that programming has set. -/
def keyRevoke (s : State) (f c k : Nat) (supply : Bool) (bits : Nat) : State :=
  if 2 ≤ k then s.failCmd f c Code.BAD_PARAM
  else if k = s.boot.key then s.failCmd f c Code.LC_REFUSED
  else match s.fuseBar supply with
    | some code => s.failCmd f c code
    | none =>
      let s1 := s.burn 1 (bits % 16 * 2 ^ (4 * k))
      if s1.keyRevoked k then s1.okCmd f c 0 else s1.failCmd f c Code.LC_FUSE

def execKeyRevoke (f : Fin 64) (c : Nat) (supply : Bool) (bits : BitVec 4) (s : State) : Host.Outcome State Fault Refusal :=
  .next (s.runCmd f c 0x0612 (fun e u => keyRevoke u f c (ent e 20 1) supply bits.toNat))

end Sys2Proof.Machine
end

