-- ==== Sys2Proof/Machine/Spt.lean ====
section
/-! DEFINITION. Clocked serial ports (15_clocked_serial_ports.md, R440 to R458). A master frame takes its units from its FIFO at
once as far as the FIFOs allow; they are known to have left the device when the frame stalls or ends. The bits that come in on SDI
are operands. -/

set_option Elab.async false

namespace Sys2Proof.Machine

/-! ### Registers (15, R440, R441, R444) -/

def State.sptFault (s : State) (p : Nat) : Bool := s.bit (SPT_FLAGS_MASTER_FAULT p)
def State.sptRef (s : State) (p : Nat) : State := s.put (SPT_FLAGS_CFGREF p) 1

/-- STAT's fields that show the port's FIFOs and units. -/
def State.sptShow (s : State) (p : Nat) : State :=
  let x := s.spt p
  let s1 := (s.put (SPT_STAT_TXFILL p) x.tx.length).put (SPT_STAT_RXFILL p) x.rx.length
  (s1.put (SPT_STAT_UNITS p) (x.left + x.line.length)).put (SPT_STAT_BUSY p) (b2n (x.frame || x.fetch))

/-- The host's writes of MCMD and TXDATA are refused while firmware issues the frames (15, R441). -/
def State.sptHostBar (s : State) (src : Source) (p : Nat) : Bool := src != .firmware && !s.bit (SPT_CTRL_HOSTOWN p)

/-- Units leave the device, oldest first. -/
def State.sptSend (s : State) (p : Nat) (l : List Nat) : State := l.foldl (fun u v => u.onBall (.spt p v)) s

/-- The units on their way have all left. -/
def State.sptSent (s : State) (p : Nat) : State := (s.sptSend p (s.spt p).line).modSpt p (fun x => { x with line := [] })

/-- A frame is cut: how many of the units on their way had left is free; the others are not sent (15, R453). -/
def State.sptUnsent (s : State) (p : Nat) : State :=
  let l := (s.spt p).line
  if l.isEmpty then s
  else
    let k := Config.freeNat s.free 0 % (l.length + 1)
    (s.draw.sptSend p (l.take (l.length - k))).modSpt p (fun x => { x with line := [], left := x.left + k })

/-! ### Execute in place (15, R454 to R457) -/

def State.modXip (s : State) (f : Spt → Spt) : State := (s.modSpt 0 f).sptShow 0

/-- A read of the window ends with a bus error. -/
def State.xipError (s : State) (off : Nat) : State := s.emit (.xip off none)

/-- Another master holds SSTB_N low when the port would drive it low: what the port reads back is free; with MMDET 0 it declares nothing
(15, R452, R458). -/
def State.sptHeld (s : State) (p : Nat) : Bool := s.bit (SPT_CTRL_MMDET p) && Config.freeNat s.free 0 % 2 == 1

/-- A master fault (15, R453, R454): the frame or fetch is abandoned, the FIFOs empty, the reads of the window end with bus errors. -/
def masterFault (s : State) (p : Nat) : State :=
  let s1 := (((s.sptUnsent p).put (SPT_FLAGS_MASTER_FAULT p) 1).put (SPT_STAT_STALL p) 0).modSpt p (fun x =>
    { x with frame := false, fetch := false, tx := [], rx := [], want := [] })
  ((if p = 0 then (s.spt 0).want.foldl (fun u q => u.xipError q.2) s1 else s1).sptShow p).sptGate

/-- The next wanted line is fetched, when the bus is free: a Fast Read of the aligned line at slave XIPSEL, with an address of 24 bits,
or of 32 with ADDR4 (15, R455). -/
def State.xipNext (s : State) : State :=
  let x := s.spt 0
  if x.want.isEmpty = false ∧ x.frame = false ∧ x.fetch = false then
    if s.sptHeld 0 then masterFault s.draw 0
    else
      let s1 := if s.bit (SPT_CTRL_MMDET 0) then s.draw else s
      ((s1.modXip (fun y => { y with fetch := true })).incWrap SPT0_XIPSTAT_FETCHES).onBall
        (.fastRead (s.get SPT0_XIPCFG_XIPSEL) (if s.bit SPT0_XIPCFG_ADDR4 then 32 else 24) ((x.want.headD (0, 0)).1 * 64))
  else s

/-- A write of SPTp_CTRL: a change of role or format asks for BUSY = 0; HOSTOWN of SPT0 stays 0; a port that is switched
off in a frame drops it, and the reads of the window that waited for it go on. -/
def State.sptCtrlWrite (s : State) (p : Nat) (w : Word) : State :=
  let s1 := s.writeReg (SPT_CTRL p) w fullMask
  let s2 := if p = 0 then s1.put (SPT_CTRL_HOSTOWN 0) 0 else s1
  let same := [SPT_CTRL_ROLE p, SPT_CTRL_SCKDIV p, SPT_CTRL_CPOL p, SPT_CTRL_CPHA p, SPT_CTRL_LSBF p].all (fun r => s2.get r == s.get r)
  if s.bit (SPT_STAT_BUSY p) ∧ same = false then s.sptRef p
  else if wbit w 0 = false ∧ (s.spt p).frame then
    let s3 := (((s2.sptUnsent p).modSpt p (fun x => { x with frame := false })).put (SPT_STAT_STALL p) 0).sptShow p
    (if p = 0 then s3.xipNext else s3).sptGate
  else s2

/-- A word of the window out of a line. -/
def xipWord (line : List Nat) (off : Nat) : List Nat := (line.drop (off % 64 / 4 * 4)).take 4

/-- XIP_READ of a word at a window offset. -/
def xipRead (s : State) (off : Nat) : State :=
  if s.bit SPT0_XIPCFG_EN = false ∨ s.domOn 83 = false ∨ s.sptFault 0 then s.xipError off
  else if s.bit SPT0_XIPCFG_ADDR4 = false ∧ 0x1000000 ≤ off then (s.put (SPT_FLAGS_XIPRANGE 0) 1).xipError off
  else
    match (s.spt 0).lines.find? (fun l => l.1 == off / 64) with
    | some l => s.emit (.xip off (some (xipWord l.2 off)))
    | none => (s.modXip (fun x => { x with want := x.want ++ [(off / 64, off)] })).xipNext

def execXipRead (off : BitVec 28) (s : State) : Host.Outcome State Fault Refusal := .next (xipRead s off.toNat)

/-- XIP_LINE_FETCH: the line comes; of sixteen the oldest goes. -/
def xipLine (s : State) (bytes : List Nat) : State :=
  let x := s.spt 0
  let k := (x.want.headD (0, 0)).1
  let s1 := (x.want.filter (fun q => q.1 == k)).foldl (fun u q => u.emit (.xip q.2 (some (xipWord bytes q.2)))) s
  (s1.modXip (fun y => { y with fetch := false, want := y.want.filter (fun q => q.1 != k), lines := (y.lines ++ [(k, bytes)]).drop (y.lines.length - 15) })).xipNext.sptGate

def execXipLineFetch (bytes : List Byte) (s : State) : Host.Outcome State Fault Refusal :=
  .next (if (s.spt 0).fetch then xipLine s (bytes.map (fun b => b.toNat)) else s)

/-- A write of SPT0_XIPCFG (15, R456): it writes XIPSEL and ADDR4, so that the read buffer empties, unless they are locked. -/
def State.xipcfgWrite (s : State) (w : Word) : State :=
  if s.bit (SPT_STAT_BUSY 0) then (s.noteLock SPT0_XIPCFG).sptRef 0
  else
    let s1 := s.writeReg SPT0_XIPCFG w fullMask
    if s.bit (SPT_CTRL_LOCK 0) then s1 else s1.modXip (fun x => { x with lines := [] })

/-! ### Master frames (15, R443 to R445) -/

/-- Units go out while the FIFOs allow it: the words sent, oldest first; what is left of the port and of SDI; whether it
stalls. -/
def sptUnits : Nat → Spt → List Nat → List Nat → Spt × List Nat × Bool
  | 0, x, _, out => (x, out, false)
  | k + 1, x, ins, out =>
    match x.tx with
    | [] => (x, out, true)
    | v :: t =>
      if x.rxen ∧ 16 ≤ x.rx.length then (x, out, true)
      else
        sptUnits k { x with tx := t, left := k, rx := if x.rxen then x.rx ++ [ins.headD 0 % 2 ^ x.len] else x.rx } (ins.drop 1)
          (out ++ [v % 2 ^ x.len])

/-- The bits of SDI beyond those given are free. -/
def State.sdi (s : State) (k : Nat) (ins : List Nat) : List Nat :=
  let l := if s.pinsCut then [] else ins
  l ++ (List.range (k - l.length)).map (fun i => Config.freeNat s.free i)

/-- A frame runs on. The units before a stall have left by then; those of a frame that runs to its end are on their way. -/
def State.sptRun (s : State) (p : Nat) (ins : List Nat) : State :=
  let x := s.spt p
  let r := sptUnits x.left x (s.sdi x.left ins) []
  let s1 := s.draw.setSpt p { r.1 with line := x.line ++ r.2.1 }
  (if r.2.2 then ((s1.sptSent p).put (SPT_STAT_STALL p) 1).inc (SPT_STALLCNT_COUNT p) else s1.put (SPT_STAT_STALL p) 0).sptShow p

/-- MCMD with GO = 1 (15, R443): a frame starts, on SPT0 with the read buffer emptied (R456), unless another master holds the select: then
the port declares the fault and sends nothing (R452). -/
def sptFrame (s : State) (p : Nat) (w : Word) (ins : List Nat) : State :=
  let n := if fld w 0 12 = 0 then 4096 else fld w 0 12
  let s1 := (s.modSpt p (fun x => { x with frame := true, left := n, rxen := wbit w 30, len := max 3 (fld w 20 5) + 1, lines := [] })).put
    (SPT_STAT_SSELACT p) (fld w 16 4)
  if s.sptHeld p then masterFault s1.draw p else (if s.bit (SPT_CTRL_MMDET p) then s1.draw else s1).sptRun p ins

/-- A write of MCMD: refused while BUSY is 1 or a master fault stands, whatever it holds (15, R441, R443, R453). -/
def State.mcmdWrite (s : State) (src : Source) (p : Nat) (w : Word) (ins : List Nat) : State :=
  if s.sptHostBar src p then s.put (SPT_FLAGS_WREF p) 1
  else if s.bit (SPT_STAT_BUSY p) ∨ s.sptFault p then s.sptRef p
  else if wbit w 31 = false then s
  else if s.bit (SPT_CTRL_EN p) = false ∨ s.bit (SPT_CTRL_ROLE p) then s.sptRef p
  else sptFrame s p w ins

def execMcmd (src : Source) (p : Fin 16) (w : Word) (ins : List Word) (s : State) : Host.Outcome State Fault Refusal :=
  .next (s.rowWrite src (SPT_MCMD p) w (fun u => u.mcmdWrite src p w (ins.map (fun v => v.toNat))))

/-- A write of TXDATA (15, R441, R444). -/
def State.txdataWrite (s : State) (src : Source) (p : Nat) (w : Word) : State :=
  if s.sptHostBar src p then s.put (SPT_FLAGS_WREF p) 1
  else if 16 ≤ (s.spt p).tx.length then s.put (SPT_FLAGS_TXOVF p) 1
  else (s.modSpt p (fun x => { x with tx := x.tx ++ [w.toNat] })).sptShow p

def execTxdataWrite (src : Source) (p : Fin 16) (w : Word) (s : State) : Host.Outcome State Fault Refusal := .next (s.rowWrite src (SPT_TXDATA p) w (fun u => u.txdataWrite src p w))

/-- A read of RXDATA (15, R444). -/
def State.rxdataRead (s : State) (p : Nat) : State :=
  ((s.emit (.read (SPT_RXDATA p) [(s.spt p).rx.headD 0])).modSpt p (fun x => { x with rx := x.rx.drop 1 })).sptShow p

def execRxdataRead (src : Source) (p : Fin 16) (s : State) : Host.Outcome State Fault Refusal := .next (s.rowRead src (SPT_RXDATA p) (fun u => u.rxdataRead p))

/-- STALL_RESUME: the condition of the stall has ended (15, R444). -/
def State.stallOver (s : State) (p : Nat) : Bool :=
  let x := s.spt p
  s.bit (SPT_STAT_STALL p) && !x.tx.isEmpty && !(x.rxen && decide (16 ≤ x.rx.length))

def execStallResume (p : Fin 16) (ins : List Word) (s : State) : Host.Outcome State Fault Refusal :=
  .next (if s.stallOver p then s.sptRun p (ins.map (fun v => v.toNat)) else s)

/-- MASTER_FRAME_DONE (15, R445): the last unit and LAG are over. -/
def frameDone (s : State) (p : Nat) : State :=
  let s1 := (((s.sptSent p).modSpt p (fun x => { x with frame := false })).put (SPT_FLAGS_DONE p) 1).sptShow p
  (if p = 0 then s1.xipNext else s1).sptGate

def execMasterFrameDone (p : Fin 16) (s : State) : Host.Outcome State Fault Refusal :=
  .next (if (s.spt p).frame ∧ (s.spt p).left = 0 then frameDone s p else s)

/-- MASTER_FAULT (15, R452 to R454). -/
def execMasterFault (p : Fin 16) (s : State) : Host.Outcome State Fault Refusal :=
  .next (if s.bit (SPT_CTRL_MMDET p) ∧ s.bit (SPT_CTRL_EN p) ∧ s.bit (SPT_CTRL_ROLE p) = false ∧ s.sptFault p = false ∧
      s.pinsCut = false then masterFault s p
    else s)

/-! ### Slave frames (15, R446 to R451) -/

/-- READY for a frame on a port (15, R447): boot has reached WIPE (it has not in BLANK and SCRAPPED, which halt before), no wake that the port triggered is in progress. -/
def State.sptReady (s : State) (p : Nat) : Bool :=
  decide (4 ≤ s.get SEC_BOOTSTAT_STAGE) && s.get SEC_BOOTSTAT_STAGE != 12 && s.get SEC_BOOTSTAT_STAGE != 15 && s.pwr.waking != some (3, p) && s.pwr.wake != some (3, p) && !s.bit (SPT_STAT_BUSY p)

/-- The status byte; the bits that wait are reported in a frame that is served (15, R446). -/
def State.sptStatus (s : State) (p : Nat) : Nat :=
  b2n (s.sptReady p) * 128 + (if s.sptReady p then (s.spt p).status else 0) + b2n ((List.range 16).any (fun q => s.sptFault q)) * 16 + 2

/-- SLAVE_SELECT: it may wake the device (12, R367); while PD83 is sequenced the frame waits for the end of the sequence (15, R458). -/
def slaveSelect (s : State) (p : Nat) : State :=
  let wakes := s.bit PWR_WAKECFG_SPT && s.get PWR_WAKECFG_SPTMASK / 2 ^ p % 2 == 1
  let s1 := if (s.pd 83).target.isSome then { s with pwr := { s.pwr with selects := s.pwr.selects.filter (fun q => q != p) ++ [p] } }
    else if s.domOn 83 ∧ s.sptSlave p then s.sptSelect p
    else s
  if wakes ∧ (s.domOn 83 = false ∨ s.sptSlave p) then s1.wakeBy 3 p else s1

def execSlaveSelect (p : Fin 16) (s : State) : Host.Outcome State Fault Refusal := .next (if s.pinsCut then s else slaveSelect s p)

/-- SLAVE_HEADER: the header is in; the status byte is returned. -/
def slaveHeader (s : State) (p h : Nat) : State :=
  let rdy := s.sptReady p
  let s1 := (s.onBall (.spt p (s.sptStatus p))).modSpt p (fun x => { x with hdr := some h, served := rdy, addr := h % 64 })
  if rdy then s1.inc (SPT_SFRAMES_COUNT p) else s1

def execSlaveHeader (p : Fin 16) (h : BitVec 8) (s : State) : Host.Outcome State Fault Refusal :=
  .next (if s.bit (SPT_STAT_SLVSEL p) ∧ (s.spt p).hdr = none ∧ s.pinsCut = false then slaveHeader s p h.toNat else s)

/-- The register behind a word of the map (15, R448). -/
def sptSource (p i : Nat) : Option Nat :=
  if i = 0 then some GLB_ID else if i = 1 then some SEC_BOOTSTAT else if i = 2 then some SEC_RSTCAUSE else if i = 3 then some PWR_STATE
  else if i = 4 then some CLK_FAILCAUSE else if i = 5 then some SEC_LCSTATE else if i = 6 then some SEC_FWVER else if i = 7 then some PRL_BDID
  else if i < 16 then some (BNK_TRKTEMP (i - 8))
  else if i < 20 then some (SYN_STAT (i - 16))
  else if i = 20 then some SEC_DLYHEAD else if i = 21 then some PMB_FLAGS
  else if i < 32 then none
  else if i < 48 then some (SPT_BMIN p (i - 32))
  else some (SPT_BMOUT p (i - 48))

/-- What a read of a map word returns. -/
def State.sptWord (s : State) (p i : Nat) : Nat :=
  match sptSource p i with
  | none => 0
  | some a => match domOf a with
    | none => s.readWord a
    | some j => if s.domOn j then s.readWord a else 0

def allOnes : Nat := 0xFFFFFFFF

/-- A status bit for the next frame that is served: 6 ERROR, 5 OVERRUN, 3 EOM. -/
def State.sptMark (s : State) (p i : Nat) : State := s.modSpt p (fun x => { x with status := Nat.lor x.status (2 ^ i) })

/-- The status bits that this frame has reported are consumed. -/
def State.sptUse (s : State) (p : Nat) : State :=
  let x := s.spt p
  if x.served ∧ x.used = false then s.setSpt p { x with status := 0, used := true } else s

/-- Edges beyond the one word of a frame without INC (15, R450). -/
def State.sptExtra (s : State) (p k : Nat) : State :=
  if k = 0 then s else ((s.incBy (SPT_EXTRACNT_COUNT p) k).put (SPT_FLAGS_OVERRUN p) 1).sptMark p 5

/-- A write of a map word (15, R448). -/
def State.sptMapWrite (s : State) (p a : Nat) (w : Word) : State :=
  if 32 ≤ a ∧ a < 48 then
    let s1 := s.setWord (SPT_BMIN p (a - 32)) w
    if a = 47 then s1.put (SPT_FLAGS_BMIN p) 1 else s1
  else s.sptMark p 6

/-- A word of a frame that is served: past word 63 a read gives all ones and a write is discarded (15, R449). -/
def State.sptData (s : State) (p h a : Nat) (w : Word) : State :=
  let rnw := decide (128 ≤ h)
  let inc := decide (64 ≤ h % 128)
  let s1 := (s.onBall (.spt p (if rnw && decide (a < 64) then s.sptWord p a else allOnes))).modSpt p (fun x =>
    { x with addr := if inc then min 64 (a + 1) else a, words := 1 })
  if 64 ≤ a then s1.sptMark p 3 else if rnw then s1 else s1.sptMapWrite p a w

/-- SLAVE_DATA_WORD: a word is complete; `edges` are the sampling edges after the word of a frame without INC, which count as extra in a
frame that is not served too (15, R450). -/
def slaveWord (s : State) (p h : Nat) (w : Word) (edges : Nat) : State :=
  let x := s.spt p
  if x.served = false then
    let s1 := ((s.onBall (.spt p allOnes)).modSpt p (fun y => { y with words := 1 })).sptMark p 6
    if 64 ≤ h % 128 then s1
    else if x.words = 0 then s1.sptExtra p edges
    else s1.sptExtra p (32 + edges)
  else
    let s1 := s.sptUse p
    if 64 ≤ h % 128 then s1.sptData p h x.addr w
    else if x.words = 0 then (s1.sptData p h x.addr w).sptExtra p edges
    else s1.sptExtra p (32 + edges)

def execSlaveDataWord (p : Fin 16) (w : Word) (edges : Nat) (s : State) : Host.Outcome State Fault Refusal :=
  match (s.spt p).hdr with
  | none => .next s
  | some h => .next (if s.bit (SPT_STAT_SLVSEL p) ∧ s.pinsCut = false then slaveWord s p h w edges else s)

/-- A frame without INC has had its one word: what follows are extra edges, and no unit (15, R450). -/
def Spt.wordDone (x : Spt) : Bool := x.hdr.any (fun h => decide (h % 128 < 64)) && decide (0 < x.words)

/-- SLAVE_DESELECT: `slot` says that the frame got past its status slot, `part` that a unit is cut (15, R451). -/
def slaveDeselect (s : State) (p : Nat) (slot part : Bool) : State :=
  let s1 := if slot ∧ (s.spt p).hdr.isSome then s.sptUse p else s
  let s2 := if part && !(s.spt p).wordDone then (s1.inc (SPT_PARTCNT_COUNT p)).put (SPT_FLAGS_PARTIAL p) 1 else s1
  ((s2.put (SPT_STAT_SLVSEL p) 0).modSpt p (fun x => { x with hdr := none })).sptGate

def execSlaveDeselect (p : Fin 16) (slot part : Bool) (s : State) : Host.Outcome State Fault Refusal :=
  .next (if s.pinsCut then s
    else if s.bit (SPT_STAT_SLVSEL p) then slaveDeselect s p slot part
    else { s with pwr := { s.pwr with selects := s.pwr.selects.filter (fun q => q != p.val) } })

/-! ### Gates (12, R359; 15, R458) -/

/-- The gate of the SPT domain closes on the frames that still run: a slave frame is cut where it stands, which the model does not
know: whether past its status slot, whether within a unit are free. -/
def State.sptCut (s : State) : State :=
  (List.range 16).foldl (fun u p => if u.bit (SPT_STAT_SLVSEL p) then
      slaveDeselect u p (Config.freeNat s.free (2 * p) % 2 == 1) (Config.freeNat s.free (2 * p + 1) % 2 == 1)
    else u) s.draw

/-- The gate closes: a power domain goes on toward its state, a control domain's clock stops. -/
def State.gateClose (s : State) (block : Nat) : State :=
  if block < 84 then (if (s.pd block).target = some 0 then s.put (PWR_PDSTAT_STATE block) 4 else s)
  else if block = 88 then s.sptCut.domSettle 4
  else s

/-- GATE_TIMEOUT of a block: a power domain 0 to 83, or 84 + d for control domain d; `addr` is the open access, which completes with an
error response; whose it is, and whether it is a write, the command does not say: for a host's it is that of an aborted request (12, R359). -/
def gateTimeout (s : State) (block addr : Nat) : State :=
  let s1 := if Config.freeNat s.free 0 % 2 = 1 then s.draw.abortReq 0 addr (Config.freeNat s.free 1 % 2 == 1) else s.draw
  (((s1.flagClk CLK_FLAGS_GATETO).daily 0x12 block addr).gateClose block).pllFollow

def execGateTimeout (block : Fin 89) (addr : BitVec 32) (s : State) : Host.Outcome State Fault Refusal :=
  let waits := if block.val < 84 then s.get (PWR_PDSTAT_STATE block) == 5
    else !s.domainOn (block - 84) && s.bit (CLK_DOM_STAT_RUN (block - 84))
  .next (if waits then gateTimeout s block addr.toNat else s)

end Sys2Proof.Machine
end

