-- ==== Sys2Proof/Machine/Endpoint.lean ====
section
/-! DEFINITION. The PCIe endpoint (14_mailboxes_and_commands.md, R410, R414 to R416, R418 to R421, R427, R428; 16, R413, R414,
R473 to R476; 12, R367): its reset, its configuration, the doorbells, the staging window. -/

set_option Elab.async false

namespace Sys2Proof.Machine

/-! ### MSI-X messages that were held (14, R416, R418) -/

/-- May the message of a vector leave? -/
def State.msixFree (s : State) (v : Nat) : Bool :=
  s.ep.msixEn && !s.ep.fmask && s.ep.bme && !s.ep.d3hot && tabGet (msixReset 3) s.msix (4 * v + 3) % 2 == 0

/-- Held messages that may leave are sent, lowest vector first. -/
def State.msixFlush (s : State) : State :=
  (s.msixPend.map (fun p => p.1)).foldl (fun u v =>
    if u.msixFree v then ({ u with msixPend := tabSet false u.msixPend v false }).emit (.msix v) else u) s

/-! ### The configuration header (14, R411, R415) -/

/-- The dwords of the configuration header whose contents the manual gives, by their offset in the header of the PCI Express specification
(PRESUMED: the offsets): device and vendor ID, class code and revision, subsystem ID and subsystem vendor ID. -/
def configHeader : List (Nat × Word) := [(0x00, 0x51201FB3), (0x08, 0x118000B1), (0x2C, 0x51201FB3)]

/-- What a configuration read of a dword of the header returns: nothing before boot stage CLOCKS, in a reset, or where the endpoint is
held in reset (14, R411, R415). The table has no command that reads it; the dwords that the manual does not give are not in the model. -/
def State.configRead (s : State) (off : Nat) : Option Word :=
  if s.epUp then configHeader.lookup off else none

/-- The Device Serial Number capability reads the UID (14, R410). -/
def State.serialNumber (s : State) : Nat := s.get SEC_UIDLO_UID + s.get SEC_UIDHI_UID * 2 ^ 32

/-- The completions of every drain ring that waited are written, as far as there is room (08, R257; 14, R416). -/
def State.ringsFlush (s : State) : State := s.rings.foldl (fun u p => u.ringComps p.1 p.2.wait) s

/-- A configuration write: Bus Master Enable, the power state, MSI-X Enable and Function Mask as they now stand;
what waited for the bus or for a mask goes out. -/
def configurationWrite (s : State) (bme d3hot msixEn fmask : Bool) : State :=
  { s with ep := { s.ep with bme := bme, d3hot := d3hot, msixEn := msixEn, fmask := fmask } }.dataFlush.ringsFlush.logFlush.msixFlush

/-- CONFIGURATION_WRITE: the endpoint answers from boot stage CLOCKS on (14, R415). -/
def execConfigurationWrite (bme d3hot msixEn fmask : Bool) (s : State) : Host.Outcome State Fault Refusal :=
  .next (if s.epUp then configurationWrite s bme d3hot msixEn fmask else s)

/-! ### Endpoint reset (14, R416, R428, R439; 16, R473) -/

/-- A flow after an endpoint reset: what a core has runs on and its completion is discarded; all else is gone. -/
def Flow.epReset (x : Flow) : Flow :=
  { Flow.init with cmds := (x.cmds.filter (fun k => k.st.busy && k.hold.isNone)).map (fun k => { k with orphan := true })
                   nextId := x.nextId, core := x.core, ring := x.ring }

/-- Is an address one of the MBX block or of a flow page? -/
def mbxAddr (a : Nat) : Bool := decide ((0x40000 ≤ a ∧ a < 0x50000) ∨ 0x10000000 ≤ a)

/-- The registers of the MBX block and the flow pages after an endpoint reset. -/
def State.mbxReset (s : State) : State :=
  let s1 := { s with regs := s.regs.filter (fun p => !mbxAddr p.1) }.put MBX_CTRL_LOCK (s.get MBX_CTRL_LOCK)
  (List.range 64).foldl (fun u f =>
    ((u.put (FL_CTRL_PRIV f) (s.get (FL_CTRL_PRIV f))).setWord (FL_PARTLO f) (s.word (FL_PARTLO f))).setWord (FL_PARTHI f) (s.word (FL_PARTHI f))) s1

/-- Every drain ring is disabled and its ring state cleared. -/
def State.ringsReset (s : State) : State :=
  (List.range 64).foldl (fun u r =>
    (((((u.put (DR_CTRL_EN r) 0).setWord (DR_DTAIL r) 0).setWord (DR_DHEAD r) 0).setWord (DR_CHEAD r) 0).setWord (DR_CTAIL r) 0).showRing r)
    { s with rings := [] }

/-- ENDPOINT_RESET: a Function Level Reset, a hot reset or a link-down event. -/
def endpointReset (s : State) : State :=
  { s.mbxReset.ringsReset with
    flows := s.flows.map (fun p => (p.1, p.2.epReset)), ep := { Ep.init with resdrop := s.ep.resdrop }, msix := [], msixPend := []
    boot := { s.boot with waits := [] } }

def execEndpointReset (s : State) : Host.Outcome State Fault Refusal := .next (endpointReset s)

/-! ### Doorbells (12, R367; 14, R415, R416, R421, R427) -/

/-- A doorbell write reaches BAR4: unsupported in D3hot, discarded before READY; it may wake the device, and it is kept. -/
def State.doorbell (s : State) (f off : Nat) (g : State → State) : State :=
  if s.hostReaches = false then s.missed .host (0x4000 * f + off)
  else if s.profileF then s.abortReq 2 (0x4000 * f + off) true
  else if s.ready = false then s
  else
    let s1 := g s
    if s.bit PWR_WAKECFG_PCIE then s1.wakeBy 1 0 else s1

def execSqtailWrite (f : Fin 64) (w : Word) (s : State) : Host.Outcome State Fault Refusal :=
  .next (s.doorbell f 0 (fun u => u.sqtailWrite f w))

def execCqheadWrite (f : Fin 64) (w : Word) (s : State) : Host.Outcome State Fault Refusal :=
  .next (s.doorbell f 4 (fun u => u.cqheadWrite f w))

/-- Does R429 let a running command be cancelled? -/
def cancellable (e : Nat) : Bool :=
  (entOp e == 0x0200 && ent e 21 1 == 1) || [0x0300, 0x0310, 0x0312, 0x0401, 0x0405, 0x0500, 0x0610].contains (entOp e)

/-- The arm of a take that a mailbox command waits for is aborted, or withdrawn where it still waits (08, R245). -/
def State.cancelArm (s : State) (t : Nat) : State :=
  match (s.take t).waitArm with
  | some _ => s.modTake t (fun k => { k with waitArm := none })
  | none => s.takeAbort t

/-- Cancel a command whose effect is under way: a take arm and a calibration run end here, board work at its next step. -/
def State.cancelStarted (s : State) (f : Nat) (k : Cmd) : State :=
  let op := entOp k.entry
  if op = 0x0200 then (s.failCmd f k.id Code.CANCELLED).cancelArm (ent k.entry 20 1)
  else if op = 0x0300 then
    match s.cal.run with
    | some r => if r.f = f ∧ r.c = k.id then s.calFail r Code.CANCELLED else s
    | none => s
  else s.modCmd f k.id (fun y => { y with cancel := true })

/-- Cancel a fetched command by its state (14, R427). -/
def State.cancelCmd (s : State) (f : Nat) (k : Cmd) : State :=
  if k.st = .waiting ∨ k.st = .ready then s.failCmd f k.id Code.CANCELLED
  else if cancellable k.entry = false then s
  else if k.st = .running then s.failCmd f k.id Code.CANCELLED
  else if k.st = .started then s.cancelStarted f k
  else s

/-- A write of FLf_CANCEL (14, R427; 16, R476). Counts are free-running: `c` is behind SQTAIL by less than half their range. -/
def State.cancelWrite (s : State) (f : Nat) (w : Word) : State :=
  let tail := s.get (FL_SQTAIL_CNT f)
  let behind := (tail + 2 ^ 32 - w.toNat) % 2 ^ 32
  if s.bit (FL_CTRL_EN f) = false ∨ behind = 0 ∨ 2 ^ 31 ≤ behind then s.dberr f
  else if behind ≤ (tail + 2 ^ 32 - s.get (FL_SQHEAD_CNT f)) % 2 ^ 32 then
    s.modFlow f (fun x => { x with cancels := x.cancels.filter (fun c => c != w.toNat) ++ [w.toNat] })
  else
    match (s.flow f).mine.find? (fun k => k.cnt == w.toNat) with
    | none => s
    | some k => s.cancelCmd f k

def execFlowCancel (f : Fin 64) (w : Word) (s : State) : Host.Outcome State Fault Refusal :=
  .next (s.doorbell f 8 (fun u => u.cancelWrite f w))

/-! ### The staging window (16, R474, R475) -/

/-- A command owns the window: a ledger transfer that firmware has accepted, a calibration run that the host solves. -/
def State.stagingOwned (s : State) : Bool :=
  s.flows.any (fun p => p.2.cmds.any (fun k => k.st.busy && (entOp k.entry == 0x0310 || entOp k.entry == 0x0311 ||
    (entOp k.entry == 0x0300 && s.cal.run.isNone && s.bit GLB_MODE_CALHOST)))) ||
  s.cal.run.any (fun r => r.host)

/-- Bytes of the window. -/
def State.stageAt (s : State) (off : Nat) (bytes : List Nat) : State :=
  { s with staging := (bytes.foldl (fun (p : Tab Nat × Nat) b => (tabSet 0 p.1 p.2 b, p.2 + 1)) (s.staging, off)).1 }

/-- A BAR2 request that is not served, and what it leaves: no host reaches the device or no BAR holds the offset, it is aborted
before READY but for the staging window and in profile F, or the device is in DEEP-SLEEP (12, R367; 13, R403; 14, R412, R415). -/
def State.bar2Refuse (s : State) (off : Nat) (wr : Bool) : Option State :=
  if s.hostReaches = false ∨ 0x4000000 ≤ off then some (s.missed .host off)
  else if s.profileF ∨ (s.ready = false ∧ ¬(0x2400000 ≤ off ∧ off < 0x2500000)) then some (s.abortReq 1 off wr)
  else if s.get PWR_STATE_STATE = 3 then some (s.offAccess.abortReq 1 off wr)
  else none

/-- A write that lies in one range of R474. The reels take no writes: one is discarded and counted as R28 says of the context
window (DESIGN CHOICE). -/
def State.bar2Part (s : State) (off : Nat) (bytes : List Nat) : State :=
  if off < 0x2000000 then contextWindowWrite s off bytes
  else if off < 0x2400000 ∨ 0x2500000 ≤ off ∨ s.stagingOwned then s.inc GLB_WINVIOL_COUNT
  else s.stageAt (off - 0x2400000) bytes

/-- The octets whose reels a read touches are ON: 64 KiB of the range belong to each. -/
def State.reelsOn (s : State) (off len : Nat) : Bool :=
  (List.range 64).all (fun j => decide (j < (off - 0x2000000) / 0x10000 ∨ (off + len - 1 - 0x2000000) / 0x10000 < j) || s.domOn j)

/-- A read that lies in one range of R474; a read of a reel waits while an entry to AUTH-OPEN empties it (13, R400), and one of an octet
that is not ON is refused and counted (12, R363). -/
def State.bar2Get (s : State) (off len : Nat) : State :=
  if off < 0x2000000 then contextWindowRead s off len
  else if off < 0x2400000 then
    (if s.reelsOn off len = false then s.offAccess.abortReq 1 off false
     else if s.boot.entry.isSome then { s with boot := { s.boot with waits := s.boot.waits ++ [.bar2 off len] } }
     else s.emit (.read off (s.reelBytes (off - 0x2000000) len)))
  else if off < 0x2500000 then s.emit (.read off ((List.range len).map (fun i => tabGet 0 s.staging (off - 0x2400000 + i))))
  else s.emit (.read off (List.replicate len 0))

/-- The bytes to the end of the range that an offset lies in: every range of R474, and every slice of the store, begins at a
multiple of 1 MiB. -/
def rangeLeft (off : Nat) : Nat := 0x100000 - off % 0x100000

/-- A write of any size and alignment, range by range. -/
def State.bar2Parts (s : State) : Nat → Nat → List Nat → State
  | 0, _, _ => s
  | k + 1, off, bytes =>
    if bytes.isEmpty then s else (s.bar2Part off (bytes.take (rangeLeft off))).bar2Parts k (off + rangeLeft off) (bytes.drop (rangeLeft off))

/-- A read of any size and alignment, range by range. -/
def State.bar2Gets (s : State) : Nat → Nat → Nat → State
  | 0, _, _ => s
  | k + 1, off, len => if len = 0 then s else (s.bar2Get off (min len (rangeLeft off))).bar2Gets k (off + rangeLeft off) (len - rangeLeft off)

/-- A BAR2 write. -/
def State.bar2Write (s : State) (off : Nat) (bytes : List Nat) : State :=
  match s.bar2Refuse off true with
  | some t => t
  | none => s.bar2Parts bytes.length off bytes

/-- A BAR2 read. -/
def State.bar2Read (s : State) (off len : Nat) : State :=
  match s.bar2Refuse off false with
  | some t => t
  | none => s.bar2Gets len off len

def execContextWindowWrite (off : Nat) (bytes : List Byte) (s : State) : Host.Outcome State Fault Refusal :=
  .next (s.bar2Write off (bytes.map (fun x => x.toNat)))

/-- CONTEXT_WINDOW_READ: at an offset of another range of BAR2 it reads that range (16, R474); the table has no row of its own for
it. -/
def execContextWindowRead (off len : Nat) (s : State) : Host.Outcome State Fault Refusal :=
  .next (s.bar2Read off len)

def execStagingWindowWrite (off : Nat) (bytes : List Byte) (s : State) : Host.Outcome State Fault Refusal :=
  .next (s.bar2Write off (bytes.map (fun x => x.toNat)))

end Sys2Proof.Machine
end

