-- ==== Sys2Proof/Machine/Sequencer.lean ====
section
/-! DEFINITION. The clock sequencers' steps: the commit, the interruptions at a step boundary, faults, microword fetches
(03_profiles_spread_and_coasting.md, R73 to R81, R84, R102). -/

set_option Elab.async false

namespace Sys2Proof.Machine

/-! ### Fetches (03, R102) -/

/-- The address a microword is fetched from: a ROM address that an enabled match register holds goes to patch RAM
(8,192 + PADDR), the lowest-numbered match winning; addresses in patch RAM are never matched (03, R102). -/
def State.fetchAddr (s : State) (n a : Nat) : Nat :=
  if 8192 ≤ a then a
  else match (List.range 16).find? (fun m => s.bit (SEQ_MATCH_EN n m) && s.get (SEQ_MATCH_RADDR n m) == a) with
    | none => a
    | some m => 8192 + s.get (SEQ_MATCH_PADDR n m)

/-- The address after one, in the ROM or in the patch RAM; what follows the last word of either is the free value
`Config.microWrap`. -/
def nextMicro (a : Nat) : Nat := if a = 8191 ∨ a = 8703 then Config.microWrap a % 8704 else a + 1

/-- The microwords of a step: each is fetched from where the one before jumps to, or else sequentially (03, R102). -/
def State.fetches (s : State) (n : Nat) : Nat → List (Option Nat) → Nat
  | upc, [] => upc
  | upc, j :: t => s.fetches n (s.fetchAddr n (j.getD (nextMicro upc))) t

/-! ### Steps -/

/-- A step is not committed (03, R81): its effects are gone, a hop that it completed has not completed, and the loop keeps
running on the values last committed. -/
def Root.rollback (r : Root) : Root :=
  { r with st := r.com.st, band := r.com.band, base := r.com.base, ss := r.com.ss, lock := r.com.lock, coasting := r.com.coasting,
           everLock := r.com.everLock, snap := r.com.snap, timing := r.com.timing,
           hop := r.eff.foldl (fun h e => match e with
             | .hop q _ _ _ => some (q, .search)
             | _ => h) r.hop,
           eff := [], ramp := if r.rt = 5 then none else r.ramp, waitRamp := none }

/-- FAULT ends the routine (03, R81); a clear of EN that waits is taken (R76). -/
def seqFault (s : State) (n : Nat) : State :=
  ((((s.modRoot n Root.rollback).routineEnd n).put (SEQ_STAT_FAULT n) 1).commitWord n).atBoundary n

/-- The step is counted: STEP within the segment of a ramp, the steps of the routine (03, R79, R84). -/
def State.countStep (s : State) (n : Nat) : State :=
  (s.incWrap (SEQ_STAT_STEP n)).modRoot n (fun r => { r with nstep := r.nstep + 1, stepDue := false })

/-- What the end of the step does to the routine: the single-step routines end, the others when they have come to their end. -/
def State.endRoutine (s : State) (n : Nat) : State :=
  let rt := (s.root n).rt
  if rt = 7 then (s.coastIn n).routineEnd n
  else if rt = 9 ∧ (s.root n).waitOff then s.enterOff n
  else if rt = 6 ∨ rt = 9 ∨ (s.root n).done then s.routineEnd n
  else s

/-- What the loop runs on is committed (03, R73, R81). -/
def State.commitLoop (s : State) (n : Nat) : State :=
  (s.modRoot n Root.sync).commitWord n

/-- SEQUENCER_STEP_COMMIT: `words` are the step's microwords, each with the address it was jumped to; `invalid` says that the step
decoded an invalid microinstruction (03, R73, R81, R102). What waits for the boundary is taken, and then a ramp that waited begins. -/
def stepCommit (s : State) (n : Nat) (invalid : Bool) (words : List (Option Nat)) : State :=
  let s0 := s.modRoot n (fun r => { r with upc := s.fetches n r.upc words })
  if (s.root n).rt = 0 then (s0.commitLoop n).atBoundary n
  else if invalid then seqFault s0 n
  else (((((((s0.commitEff n).countStep n).commitRamp n).endRoutine n).commitLoop n).atBoundary n).rampTurn n)

/-- A step of a ramp ends at its STEPLEN or with its slope or dwell (03, R84). -/
def execSequencerStepCommit (n : Fin 4) (invalid : Bool) (words : List (Option Nat)) (s : State) : Host.Outcome State Fault Refusal :=
  if (s.root n).rt = 5 ∧ (s.root n).stepDue = false then .next s else .next (stepCommit s n invalid words)

end Sys2Proof.Machine
end

