-- ==== Sys2Proof/Machine/RegisterWrite.lean ====
section
/-! DEFINITION. Accesses to registers by address (00, R11 to R14; 12, R359, R363, R367; 13, R403, R408; 14, R413 to R415;
16, R461, R462, R466 to R471, R476): which are served, which meaning a write of each register has, what a read changes. A
BAR4 offset o stands at the key 0x1000_0000 + o. -/

set_option Elab.async false

namespace Sys2Proof.Machine

/-! ### Writes by block -/

/-- CLK, PWR and SEC. -/
def State.ctlWrite (s : State) (src : Source) (a : Nat) (w : Word) : State :=
  if a = CLK_CPLLEN then s.cpllWrite w
  else if 0x10100 ≤ a ∧ a < 0x10150 ∧ a % 16 = 0 then s.domCfgWrite ((a - 0x10100) / 16) w
  else if PWR_PDREQ 0 ≤ a ∧ a < PWR_PDREQ 84 then s.pdreqWrite ((a - PWR_PDREQ 0) / 4) w
  else if a = SEC_RSTCTRL then s.rstctrlWrite w
  else if a = SEC_PUSHLEN then s.pushlenWrite w
  else if a = SEC_DBGCTRL then s.dbgctrlWrite src w
  else if SEC_DBGRESP 0 ≤ a ∧ a < SEC_DBGRESP 8 then s.respWrite ((a - SEC_DBGRESP 0) / 4) w
  else s.writeReg a w fullMask

/-- MBX: the error log, the flows, the MSI-X table. -/
def State.mbxBlockWrite (s : State) (a : Nat) (w : Word) : State :=
  let o := a - 0x40000
  if a = MBX_ELTAIL then s.eltailWrite w
  else if 0x1000 ≤ o ∧ o < 0x2000 then
    let f := (o - 0x1000) / 0x40
    let r := o % 0x40
    if r = 0 then s.flowCtrlWrite f w else if r ≤ 0x14 then s.flowCfgWrite f a w else s.writeReg a w fullMask
  else if 0x8000 ≤ o ∧ o < 0x9000 then
    { s with msix := tabSet (msixReset ((o - 0x8000) / 4)) s.msix ((o - 0x8000) / 4) (msixKept ((o - 0x8000) / 4) w.toNat) }.msixFlush
  else s.writeReg a w fullMask

/-- Firmware refits the banks of a root where a write has changed its register or segment (04, R119; 05, R145; 08, R230). -/
def State.refitFrom (s t : State) (n a : Nat) : State :=
  if t.word a = s.word a ∧ (t.root n).segs = (s.root n).segs then t else t.refit n

/-- SYNn. -/
def State.synWrite (s : State) (src : Source) (n a : Nat) (w : Word) : State :=
  if a = SYN_CTRL n then s.synCtrlWrite src n w (fun b => s.bankIdle b)
  else if a = SYN_REF n ∨ a = SYN_REFFREQ n then s.refitFrom (s.synRefWrite n a w) n a
  else if a = SYN_LOOP n then s.synLoopWrite n w
  else if a = SYN_HOP n then s.hopWrite n w .none
  else if a = SYN_FTRIM n then (s.writeReg a w fullMask).noteVar n
  else if a = SYN_PHSTEP n then s.phstepWrite src n w
  else if a = SYN_RCTRL n then s.rctrlWrite n w
  else if a = SYN_RSLO n then s.refitFrom (s.segWrite n 0 w) n a
  else if a = SYN_RSHI n then s.refitFrom (s.segWrite n 1 w) n a
  else if a = SYN_RSSLOPE n then s.refitFrom (s.segWrite n 2 w) n a
  else if a = SYN_RSDWELL n then s.refitFrom (s.segWrite n 3 w) n a
  else if a = SYN_CCTRL n then s.cctrlWrite n w
  else if a = SYN_SSCTRL n ∨ a = SYN_SSDEV n ∨ a = SYN_SSRATE n ∨ (SYN_SSTAB n 0 ≤ a ∧ a ≤ SYN_SSTAB n 31) then
    s.refitFrom (s.spreadWrite n a w) n a
  else if SYN_PWLO n 0 ≤ a ∧ a ≤ SYN_PWHI n 15 then s.refitFrom (s.writeReg a w fullMask) n a
  else s.writeReg a w fullMask

/-- SEQ. -/
def State.seqWrite (s : State) (a : Nat) (w : Word) : State :=
  let o := a - 0x90000
  if o = 8 ∨ (0x1000 ≤ o ∧ o < 0x2000) then s.patchWrite a w
  else if 0x100 ≤ o ∧ o < 0x500 then
    if o % 0x100 = 0 then s.seqCtrlWrite ((o - 0x100) / 0x100) w
    else if 0x40 ≤ o % 0x100 ∧ o % 0x100 < 0x80 then s.patchWrite a w
    else s.writeReg a w fullMask
  else s.writeReg a w fullMask

/-- BNKb. -/
def State.bnkWrite (s : State) (b a : Nat) (w : Word) : State :=
  if a = BNK_ROOT b then s.bnkRootWrite b w
  else if a = BNK_CUECTRL b then s.cuectrlWrite b w
  else if a = BNK_TRKGB b ∨ a = BNK_TRKOB b then s.trkBoundWrite b a w
  else s.writeReg a w fullMask

/-- MSR: takes, drain rings, interval units, regression. -/
def State.msrWrite (s : State) (a : Nat) (w : Word) : State :=
  let o := a - 0x100000
  if o < 0x4000 then
    let t := o / 0x40
    if o % 0x40 = 0 then s.tkCtrlWrite t w else if o % 0x40 ≤ 0x14 then s.tkCfgWrite t a w else s.writeReg a w fullMask
  else if o < 0x5000 then
    let r := (o - 0x4000) / 0x40
    if a = DR_CTRL r then s.drCtrlWrite r w
    else if a = DR_CTAIL r then s.ctailWrite r w
    else if [DR_DBASELO r, DR_DBASEHI r, DR_SIZE r, DR_CBASELO r, DR_CBASEHI r].contains a then s.drCfgWrite r a w
    else s.writeReg a w fullMask
  else if o < 0x7000 then
    let i := (o - 0x5000) / 0x80
    if a = IV_CFG i ∨ a = IV_CH i then s.ivCfgWrite i a w else s.writeReg a w fullMask
  else if a = REG_SEL then s.regSelWrite w
  else if 0x8000 ≤ o then
    let n := (o - 0x8000) / 0x40
    if o % 0x40 ≤ 8 then s.rgCfgWrite n a w else s.writeReg a w fullMask
  else s.writeReg a w fullMask

/-- PRL ports and the common set. -/
def State.prlWrite (s : State) (a : Nat) (w : Word) : State :=
  let o := a - 0x120000
  if o < 0x4000 then (if o % 0x1000 = 0 then s.prlCtrlWrite (o / 0x1000) w else s.writeReg a w fullMask)
  else if 0x8040 ≤ o ∧ o < 0x8080 ∧ o % 16 = 4 then s.tbadjWrite ((o - 0x8040) / 16) w
  else s.writeReg a w fullMask

/-- SPTp; the bits that come back on a frame's SDI are free. -/
def State.sptWrite (s : State) (src : Source) (p a : Nat) (w : Word) : State :=
  if a = SPT_CTRL p then s.sptCtrlWrite p w
  else if a = SPT_MCMD p then s.mcmdWrite src p w []
  else if a = SPT_TXDATA p then s.txdataWrite src p w
  else if a = SPT0_XIPCFG then s.xipcfgWrite w
  else s.writeReg a w fullMask

/-- PMB. -/
def State.pmbWrite (s : State) (a : Nat) (w : Word) : State :=
  if a = PMB_CTRL then s.pmbCtrlWrite w
  else if a = PMB_AVSCTRL then s.avsctrlWrite w
  else if a = PMB_AVSBND then s.avsbndWrite w
  else if PMBR_CFG 0 ≤ a ∧ a < PMBR_CFG 8 ∧ a % 16 = 0 then s.pmbCfgWrite ((a - PMBR_CFG 0) / 16) w
  else s.writeReg a w fullMask

/-- CHn_CALCTXw, and a channel in calibration drive runs the record as it now stands (10, R302). -/
def State.calctxWrite (s : State) (n a : Nat) (w : Word) : State :=
  let s1 := s.writeReg a w fullMask
  if (s.chan n).cyc.drive.isSome then s1.modChan n (fun x => { x with cyc := { x.cyc with drive := some (s1.calRecord n) } }) else s1

/-- CHn. Offsets 0x0800 to 0x0FFF and CHn_DESKEW of a HELD channel bar everyone but firmware (10, R292). -/
def State.chWrite (s : State) (src : Source) (n a : Nat) (w : Word) : State :=
  let o := a % 0x1000
  if (0x800 ≤ o ∨ a = CH_DESKEW n) ∧ s.heldBars src n then s.put (CH_CALFLAGS_WREF n) 1
  else if a = CH_CTRL n then s.chCtrlWrite n w
  else if a = CH_DESKEW n then s.deskewWrite n w
  else if a = CH_DSKCTRL n then s.dskctrlWrite n w
  else if a = CH_PMCTRL n then s.pmCtrlWrite n w
  else if a = CH_GRP n then s.grpWrite n w
  else if a = CH_EVCFG n then s.evcfgWrite n w
  else if a = CH_TAKE n then s.takeJoinWrite n w
  else if a = CH_RTAIL n then s.rtailWrite n w
  else if a = CH_RCTRL n then s.reelCtrlWrite n w
  else if a = CH_CALCTRL n then s.calctrlWrite src n w
  else if CH_CALCTX n 0 ≤ a ∧ a < CH_CALCTX n 8 then s.calctxWrite n a w
  else if CH_DINLT n 0 ≤ a ∧ a < CH_DINLT n 32 then (s.writeReg a w fullMask).newDtc n (s.dtcBusy n)
  else s.writeReg a w fullMask

/-- The vector whose enables a register holds (14, R417). -/
def irqenVector (a : Nat) : Option Nat :=
  if a = CLK_IRQEN then some 223 else if a = PWR_IRQEN then some 222 else if a = PMB_IRQEN then some 224
  else if 0x80000 ≤ a ∧ a < 0x90000 then (let n := (a - 0x80000) / 0x4000; if a = SYN_IRQEN n then some (200 + n) else none)
  else if 0xA0000 ≤ a ∧ a < 0xB0000 then (let b := (a - 0xA0000) / 0x2000; if a = BNK_IRQEN b then some (192 + b) else none)
  else if 0xC0000 ≤ a ∧ a < 0xE0000 then (let p := (a - 0xC0000) / 0x4000; if a = TSP_IRQEN p then some (204 + p) else none)
  else if 0x120000 ≤ a ∧ a < 0x124000 then (let p := (a - 0x120000) / 0x1000; if a = PRL_IRQEN p then some (212 + p) else none)
  else if 0x200000 ≤ a ∧ a < 0x400000 then
    (let n := (a - 0x200000) / 0x1000
     if a = CH_IRQEN n ∨ a = CH_CIRQEN n ∨ a = CH_EIRQEN n then some (128 + n / 8) else none)
  else none

/-- A write of a register by the meaning that its rule gives it. -/
def State.regWrite (s : State) (src : Source) (a : Nat) (w : Word) : State :=
  match irqenVector a with
  | some v => (s.writeReg a w fullMask).rose v s
  | none =>
    if a < 0x10000 then s.writeReg a w fullMask
    else if a < 0x40000 then s.ctlWrite src a w
    else if a < 0x50000 then s.mbxBlockWrite a w
    else if a < 0x80000 then s
    else if a < 0x90000 then s.synWrite src ((a - 0x80000) / 0x4000) a w
    else if a < 0xA0000 then s.seqWrite a w
    else if a < 0xB0000 then s.bnkWrite ((a - 0xA0000) / 0x2000) a w
    else if a < 0xE0000 then
      (let p := (a - 0xC0000) / 0x4000
       if a = TSP_CTRL p then s.tspCtrlWrite p w else s.writeReg a w fullMask)
    else if a < 0x100000 then
      (let g := (a - 0xE0000) / 0x100
       if a = GRP_HALT g then s.haltWrite g w else if a = GRP_CUECFG g then s.cuecfgWrite g w else s.writeReg a w fullMask)
    else if a < 0x110000 then s.msrWrite a w
    else if a < 0x120000 then (if a = CAL_REFCFG then s.refcfgWrite w else s.writeReg a w fullMask)
    else if a < 0x130000 then s.prlWrite a w
    else if a < 0x140000 then s.sptWrite src ((a - 0x130000) / 0x400) a w
    else if a < 0x200000 then s.pmbWrite a w
    else if a < 0x400000 then s.chWrite src ((a - 0x200000) / 0x1000) a w
    else s

/-! ### Requests -/

/-- The dwords of a request in ascending order (14, R413; 16, R466); a software reset ends it. -/
def State.writeAll (s : State) (src : Source) : Nat → List Word → State
  | _, [] => s
  | a, w :: t =>
    let s1 := s.regWrite src a w
    if a = SEC_RSTCTRL ∧ fld w 8 8 = 0xA5 ∧ wbit w 0 then s1 else s1.writeAll src (a + 4) t

/-- A dword for a flow page (14, R413, R415, R419; 16, R476): a doorbell, bytes of a small ring, or a reserved offset. -/
def State.pageWrite (s : State) (o : Nat) (w : Word) (en : BitVec 4) : State :=
  let f := o / 0x4000
  let r := o % 0x4000
  if 0x1000 ≤ r ∧ r < 0x2400 then
    if s.profileF ∨ s.ready = false then s.abortReq 2 o true
    else s.modFlow f (fun x => { x with ring := (enabledBytes r w en).foldl (fun t q => tabSet 0 t q.1 q.2) x.ring })
  else if r = 0 ∨ r = 4 ∨ r = 8 then
    if en ≠ 15 then s.abortReq 2 o true
    else s.doorbell f r (fun u => if r = 0 then u.sqtailWrite f w else if r = 4 then u.cqheadWrite f w else u.cancelWrite f w)
  else if s.profileF ∨ s.ready = false then s.abortReq 2 o true
  else s

/-- The dwords of a request for a flow page. -/
def State.pageAll (s : State) : Nat → List (Word × BitVec 4) → State
  | _, [] => s
  | o, q :: t => (s.pageWrite o q.1 q.2).pageAll (o + 4) t

/-- REGISTER_WRITE of dwords with their byte enables. One that is not dword-aligned leaves byte enables of its first dword clear: it
is aborted (14, R413). -/
def registerWrite (s : State) (src : Source) (a : Nat) (ws : List (Word × BitVec 4)) : State :=
  if s.unseen src a ws.length then s.missed src a
  else if 0x10000000 ≤ a then (if a % 4 ≠ 0 then s.abortReq 2 (a - 0x10000000) true else s.pageAll (a - 0x10000000) ws)
  else
    let x := s.accessAll src a ws.length
    if (List.range ws.length).any (fun i => s.jtagBars src (a + 4 * i) true) then s.tapRefuse
    else if x ≠ .served then s.refuseAccess src x a true
    else if a % 4 ≠ 0 ∨ ws.any (fun q => q.2 != 15) then s.refuseAccess src .aborted a true
    else if s.authWaits src a ws.length then s.hostWait (.write a ws)
    else s.writeAll src a (ws.map (fun q => q.1))

def execRegisterWrite (src : Source) (a : Nat) (ws : List (Word × BitVec 4)) (s : State) : Host.Outcome State Fault Refusal :=
  .next (registerWrite s src a ws)

/-- One dword is read, with what the read changes (16, R467). -/
def State.readOne (s : State) (a : Nat) : State :=
  if 0x200000 ≤ a ∧ a < 0x400000 ∧ a = CH_CYCLO ((a - 0x200000) / 0x1000) then cycloRead s ((a - 0x200000) / 0x1000)
  else if 0x105000 ≤ a ∧ a < 0x107000 ∧ a = IV_FIFOLO ((a - 0x105000) / 0x80) then fifoloRead s ((a - 0x105000) / 0x80)
  else if 0x105000 ≤ a ∧ a < 0x107000 ∧ a = IV_FIFOHI ((a - 0x105000) / 0x80) then fifohiRead s ((a - 0x105000) / 0x80)
  else if 0x130000 ≤ a ∧ a < 0x134000 ∧ a = SPT_RXDATA ((a - 0x130000) / 0x400) then s.rxdataRead ((a - 0x130000) / 0x400)
  else (s.emit (.read a [s.readWord a])).clearRc a

/-- One dword of a flow page is read. -/
def State.pageRead (s : State) (a : Nat) : State :=
  let f := (a - 0x10000000) / 0x4000
  let r := (a - 0x10000000) % 0x4000
  s.emit (.read a [if 0x1000 ≤ r ∧ r < 0x2400 then ofLe (ringBytes (s.flow f).ring r 4) else hideWo (fieldsAt a) (s.word a).toNat])

/-- RC_READ of dwords, in ascending order. A read of BAR0 that is not dword-aligned or is of more than 16 dwords is not accepted:
it is aborted (14, R413, R414). -/
def rcRead (s : State) (src : Source) (a n : Nat) : State :=
  if s.unseen src a n then s.missed src a
  else if 0x10000000 ≤ a then
    if s.profileF ∨ s.ready = false then s.abortReq 2 (a - 0x10000000) false
    else (List.range n).foldl (fun u i => u.pageRead (a + 4 * i)) s
  else
    let x := s.accessAll src a n
    if (List.range n).any (fun i => s.jtagBars src (a + 4 * i) false) then s.tapRefuse
    else if x ≠ .served then s.refuseAccess src x a false
    else if a % 4 ≠ 0 ∨ 16 < n then s.refuseAccess src .aborted a false
    else if s.authWaits src a n then s.hostWait (.read a n)
    else (List.range n).foldl (fun u i => u.readOne (a + 4 * i)) s

def execRcRead (src : Source) (a n : Nat) (s : State) : Host.Outcome State Fault Refusal :=
  .next (rcRead s src a n)

/-- A host access that waited is handled. -/
def State.hostServe (s : State) : HostReq → State
  | .write a ws => registerWrite s .host a ws
  | .read a n => rcRead s .host a n
  | .bar2 off len => s.bar2Read off len

/-- AUTH_OPEN_ENTRY_DONE: the state is entered, and the host accesses that waited follow in their order (13, R400). -/
def authOpenServe (s : State) (path : Nat) : State :=
  s.boot.waits.foldl (fun u q => u.hostServe q) { authOpenDone s path with boot := { (authOpenDone s path).boot with waits := [] } }

def execAuthOpenEntryDone (s : State) : Host.Outcome State Fault Refusal :=
  match s.boot.entry with
  | none => .next s
  | some path => .next (authOpenServe s path)

/-! ### Block locks (16, R470, R471) -/

/-- The register with a block's LOCK bit. -/
def lockReg : LockBlock → Nat
  | .glb => GLB_CTRL
  | .clk => CLK_CTRL
  | .pwr => PWR_CTRL
  | .sec => SEC_CTRL
  | .mbx => MBX_CTRL
  | .syn n => SYN_CTRL n
  | .seq => SEQ_GCTRL
  | .bnk b => BNK_ROOT b
  | .tsp p => TSP_CTRL p
  | .cal => CAL_CTRL
  | .prl p => PRL_CTRL p
  | .spt p => SPT_CTRL p
  | .pmb => PMB_CTRL
  | .ch n => CH_CTRL n

/-- BLOCK_LOCK_SET: the write that sets LOCK, with the rest of its word. -/
def execBlockLockSet (src : Source) (k : LockBlock) (w : Word) (s : State) : Host.Outcome State Fault Refusal :=
  .next (s.rowWrite src (lockReg k) (w ||| 0x80000000) (fun u => u.regWrite src (lockReg k) (w ||| 0x80000000)))

end Sys2Proof.Machine
end

