-- ==== Sys2Proof/Machine/Jtag.lean ====
section
/-! DEFINITION. The JTAG test access port and the access matrix (13_boot_lifecycle_and_debug.md, R402 to R404; 16, R477). -/

set_option Elab.async false

namespace Sys2Proof.Machine

/-- A word is shifted out. -/
def State.tdo (s : State) (v : Nat) : State := s.emit (.jtag v)

/-- Test-Logic-Reset selects IDCODE. -/
def execTestLogicReset (s : State) : Host.Outcome State Fault Refusal := .next (s.tap 0x01)
def execBypass (s : State) : Host.Outcome State Fault Refusal := .next (s.tap 0xFF)
def execIdcode (s : State) : Host.Outcome State Fault Refusal := .next ((s.tap 0x01).tdo 0x25120C4D)

/-- The cells capture the balls, and the levels are shifted out as those of the next scan come in: the order of the chain is outside the
manual, so each bit is a free value (log entry 130). -/
def State.capture (s : State) (n : Nat) : State :=
  (s.draw).emit (.scanOut ((List.range n).map (fun i => Config.freeNat s.free i % 2 == 1)))

/-- The covered balls follow the cells; without VDD_CH those of the channels stay undriven (17, R505). -/
def State.driveCells (s : State) : State := s.emit (.cells s.jtag.cells (!s.boot.noCh))

/-- SAMPLE/PRELOAD captures the balls and loads the boundary cells that EXTEST and CLAMP drive. -/
def execSamplePreload (cells : List Bool) (s : State) : Host.Outcome State Fault Refusal :=
  .next ({ s with jtag := { s.jtag with ir := 0x02, cells := cells } }.capture cells.length)

def execExtest (s : State) : Host.Outcome State Fault Refusal := .next ((s.tap 0x03).driveCells.capture s.jtag.cells.length)
def execClamp (s : State) : Host.Outcome State Fault Refusal := .next (s.tap 0x04).driveCells
def execHighz (s : State) : Host.Outcome State Fault Refusal := .next (s.tap 0x05)

/-! ### Profiles (13, R403, R404) -/

/-- SECACC: a word at an offset of the SEC block, which answers 0 in a reset that is held. -/
def secacc (s : State) (off : Nat) (wr : Bool) (w : Word) : State :=
  let a := 0x30000 + off / 4 * 4
  if s.freed = false then (s.tap 0x20).tdo 0
  else if secaccOk s.profile a wr = false then s.tapRefuse
  else
    let s1 := s.tap 0x20
    let x := s1.domAccess a
    if x ≠ .served then (s1.refuseAccess .jtag x a wr).tdo 0
    else if wr = false then ((s1.tdo (s1.readWord a)).clearRc a)
    else s1.regWrite .jtag a w

def execSecacc (off : BitVec 16) (wr : Bool) (w : Word) (_ok : Bool) (s : State) : Host.Outcome State Fault Refusal :=
  .next (secacc s off.toNat wr w)

/-- The address of a word of the Quorno RAM (16, R477). -/
def quornoWord (addr : Nat) : Option Nat := if 0x10000000 ≤ addr ∧ addr < 0x10200000 then some ((addr - 0x10000000) / 4) else none

def State.bridgeErr (s : State) (e : Bool) : State := { s with jtag := { s.jtag with err := e } }

/-- A core stops or runs (13, R403). -/
def State.coreRun (s : State) (c : Nat) (halt : Bool) : State :=
  let l := s.jtag.halted.filter (fun i => i != c)
  { s with jtag := { s.jtag with halted := if halt then l ++ [c] else l } }

/-- What the last read of a register returned. -/
def State.lastRead (s : State) : Nat :=
  match s.out with
  | .read _ l :: _ => l.headD 0
  | _ => 0

/-- The word on an access of the bridge: BAR0 outside the SEC block, by whole words (13, R403; 14, R413; 16, R477). -/
def State.bridgeAccess (s : State) (a : Nat) : Access :=
  if 0x1000000 ≤ a ∨ inSec a ∨ a % 4 ≠ 0 then .aborted else s.access .jtag a

/-- A read or a write of the bridge that would be aborted sets the error bit. -/
def State.bridgeRead (s : State) (addr : Nat) : State :=
  match quornoWord addr with
  | some i => (s.tdo (tabGet (0 : Word) s.quorno i).toNat).bridgeErr false
  | none =>
    let a := addr
    let x := s.bridgeAccess a
    if x ≠ .served then ((s.refuseAccess .jtag x a false).tdo 0).bridgeErr true else ((s.readOne a).tdo (s.readOne a).lastRead).bridgeErr false

def State.bridgeWrite (s : State) (addr : Nat) (w : Word) : State :=
  match quornoWord addr with
  | some i => { s with quorno := tabSet 0 s.quorno i w }.bridgeErr false
  | none =>
    let a := addr
    let x := s.bridgeAccess a
    if x ≠ .served then (s.refuseAccess .jtag x a true).bridgeErr true else (s.regWrite .jtag a w).bridgeErr false

/-- DBGACC, in profiles A and O outside DEEP-SLEEP. A core that steps stands again after its step. -/
def dbgacc (s : State) (op : DbgOp) : State :=
  if s.freed = false then ((s.tap 0x21).tdo 0).bridgeErr true
  else if (s.profile ≠ .A ∧ s.profile ≠ .O) ∨ s.get PWR_STATE_STATE = 3 then s.tapRefuse
  else
    let s1 := s.tap 0x21
    match op with
    | .read a => s1.bridgeRead a
    | .write a w => s1.bridgeWrite a w
    | .halt c => s1.coreRun c true
    | .step c => s1.coreRun c true
    | .resume c => s1.coreRun c false

def execDbgacc (op : DbgOp) (s : State) : Host.Outcome State Fault Refusal := .next (dbgacc s op)

/-! ### FUSEPROG (13, R379, R395, R396, R403) -/

/-- The lifecycle byte that FUSEPROG may program in a lifecycle state: its place, and whether the folios go first. -/
def fuseLcByte (lc i : Nat) : Bool :=
  (lc == 0 && i == 0) || (lc == 1 && (i == 1 || i == 3)) || (lc == 3 && i == 3)

/-- A mask of word 0 that names only such bytes. -/
def fuseLcOk (lc mask : Nat) : Bool := (List.range 4).all (fun i => mask / 2 ^ (8 * i) % 256 == 0 || fuseLcByte lc i)

/-- The words that a profile may program. -/
def fuseprogOk (p : Profile) (lc i mask : Nat) : Bool :=
  match p with
  | .F => i != 0 || fuseLcOk lc mask
  | .O => if i = 0 then fuseLcOk lc mask else !(decide (2 ≤ i ∧ i ≤ 31) || decide (40 ≤ i ∧ i ≤ 56))
  | .S | .A | .X => false

/-- FUSEPROG: `mask` names the bits of a word to program; those of `took` read back as 1. -/
def fuseprog (s : State) (i mask took : Nat) : State :=
  let lc := s.get SEC_LCSTATE_LC
  if s.freed = false then s.tap 0x22
  else if fuseprogOk s.profile lc i mask = false ∨ 2 ≤ s.get PWR_STATE_STATE then s.tapRefuse
  else
    let s1 := s.tap 0x22
    let s2 := if i = 0 ∧ mask / 2 ^ 24 ≠ 0 then s1.eraseFolios else s1
    s2.burn i (Nat.land mask took)

def execFuseprog (word : Fin 512) (mask took : Word) (s : State) : Host.Outcome State Fault Refusal :=
  .next (fuseprog s word mask.toNat took.toNat)

end Sys2Proof.Machine
end

