-- ==== Sys2Proof/Machine/Dispatch.lean ====
section
/-! DEFINITION. What each command does: one arm per constructor. -/

namespace Sys2Proof.Machine

/-- The effect of a command on everything but the queue. -/
def exec (i : Instr) (s : State) : Host.Outcome State Fault Refusal :=
  match i with
  | .registerWrite src a ws => Sys2Proof.Machine.execRegisterWrite src a ws s
  | .rcRead src a n => Sys2Proof.Machine.execRcRead src a n s
  | .blockLockSet src k w => Sys2Proof.Machine.execBlockLockSet src k w s
  | .rootEnable src n w => Sys2Proof.Machine.execRootEnable src n w s
  | .rootDisable src n w => Sys2Proof.Machine.execRootDisable src n w s
  | .wakeDone n => Sys2Proof.Machine.execWakeDone n s
  | .bandSearchTrial n edges => Sys2Proof.Machine.execBandSearchTrial n edges s
  | .fpdCycle n e corr => Sys2Proof.Machine.execFpdCycle n e corr s
  | .lockDeclared n => Sys2Proof.Machine.execLockDeclared n s
  | .lossOfLock n => Sys2Proof.Machine.execLossOfLock n s
  | .acquisitionTimeout n => Sys2Proof.Machine.execAcquisitionTimeout n s
  | .relock src n w => Sys2Proof.Machine.execRelock src n w s
  | .phclr src n w => Sys2Proof.Machine.execPhclr src n w s
  | .hopRequest src n w => Sys2Proof.Machine.execHopRequest src n w s
  | .hopStart n => Sys2Proof.Machine.execHopStart n s
  | .hopSettled n => Sys2Proof.Machine.execHopSettled n s
  | .phstep src n w => Sys2Proof.Machine.execPhstep src n w s
  | .sequencerStepCommit n invalid words => Sys2Proof.Machine.execSequencerStepCommit n invalid words s
  | .seqAbort src n w => Sys2Proof.Machine.execSeqAbort src n w s
  | .resume src n w => Sys2Proof.Machine.execResume src n w s
  | .drop src n w => Sys2Proof.Machine.execDrop src n w s
  | .rampStart src n w => Sys2Proof.Machine.execRampStart src n w s
  | .rampArm src n w => Sys2Proof.Machine.execRampArm src n w s
  | .rampDwellEnd n => Sys2Proof.Machine.execRampDwellEnd n s
  | .spreadPeriodBoundary n => Sys2Proof.Machine.execSpreadPeriodBoundary n s
  | .referenceLoss n => Sys2Proof.Machine.execReferenceLoss n s
  | .referenceEdgesReturn n => Sys2Proof.Machine.execReferenceEdgesReturn n s
  | .freqWindowEnd n count => Sys2Proof.Machine.execFreqWindowEnd n count s
  | .measure n theta => Sys2Proof.Machine.execMeasure n theta s
  | .workoff src n w => Sys2Proof.Machine.execWorkoff src n w s
  | .workoffStep n => Sys2Proof.Machine.execWorkoffStep n s
  | .rootSelect src b w => Sys2Proof.Machine.execRootSelect src b w s
  | .dllSearchDone b cw => Sys2Proof.Machine.execDllSearchDone b cw s
  | .dllComparison b e cw => Sys2Proof.Machine.execDllComparison b e cw s
  | .dllAcquisitionTimeout b => Sys2Proof.Machine.execDllAcquisitionTimeout b s
  | .taintIntervalOpen b => Sys2Proof.Machine.execTaintIntervalOpen b s
  | .taintIntervalClose b => Sys2Proof.Machine.execTaintIntervalClose b s
  | .haltNotice g b => Sys2Proof.Machine.execHaltNotice g b s
  | .haltRelease src g w => Sys2Proof.Machine.execHaltRelease src g w s
  | .taintStageRelease b => Sys2Proof.Machine.execTaintStageRelease b s
  | .cycleStart n => Sys2Proof.Machine.execCycleStart n s
  | .eventSchedule n => Sys2Proof.Machine.execEventSchedule n s
  | .eventOutput n => Sys2Proof.Machine.execEventOutput n s
  | .parkCycle n => Sys2Proof.Machine.execParkCycle n s
  | .leavePark n => Sys2Proof.Machine.execLeavePark n s
  | .park src n w => Sys2Proof.Machine.execPark src n w s
  | .clrovr src n w => Sys2Proof.Machine.execClrovr src n w s
  | .deskewTargetWrite src n w => Sys2Proof.Machine.execDeskewTargetWrite src n w s
  | .deskewSlewStep n => Sys2Proof.Machine.execDeskewSlewStep n s
  | .pmGo src n w => Sys2Proof.Machine.execPmGo src n w s
  | .cycloRead src n => Sys2Proof.Machine.execCycloRead src n s
  | .groupStartTime g => Sys2Proof.Machine.execGroupStartTime g s
  | .membershipWrite src n w => Sys2Proof.Machine.execMembershipWrite src n w s
  | .contextWindowWrite off bytes => Sys2Proof.Machine.execContextWindowWrite off bytes s
  | .contextWindowRead off len => Sys2Proof.Machine.execContextWindowRead off len s
  | .scrubRow b => Sys2Proof.Machine.execScrubRow b s
  | .wipe src b w => Sys2Proof.Machine.execWipe src b w s
  | .wipeDone b => Sys2Proof.Machine.execWipeDone b s
  | .cueEngineTake b => Sys2Proof.Machine.execCueEngineTake b s
  | .cueCompletion b => Sys2Proof.Machine.execCueCompletion b s
  | .groupDecision g => Sys2Proof.Machine.execGroupDecision g s
  | .tspEnWrite src p w => Sys2Proof.Machine.execTspEnWrite src p w s
  | .retrain src p w => Sys2Proof.Machine.execRetrain src p w s
  | .tspDetachWrite src p w => Sys2Proof.Machine.execTspDetachWrite src p w s
  | .receiverDetected p => Sys2Proof.Machine.execReceiverDetected p s
  | .detectTimeout p => Sys2Proof.Machine.execDetectTimeout p s
  | .equalisationDone p => Sys2Proof.Machine.execEqualisationDone p s
  | .equaliseTimeout p => Sys2Proof.Machine.execEqualiseTimeout p s
  | .alignDone p => Sys2Proof.Machine.execAlignDone p s
  | .alignTimeout p => Sys2Proof.Machine.execAlignTimeout p s
  | .blockLockLost p lane => Sys2Proof.Machine.execBlockLockLost p lane s
  | .recoverTimeout p => Sys2Proof.Machine.execRecoverTimeout p s
  | .inboundFrame p frame invalid => Sys2Proof.Machine.execInboundFrame p frame invalid s
  | .selectFrame p => Sys2Proof.Machine.execSelectFrame p s
  | .outboundFrame p => Sys2Proof.Machine.execOutboundFrame p s
  | .hello p => Sys2Proof.Machine.execHello p s
  | .claim p => Sys2Proof.Machine.execClaim p s
  | .release p => Sys2Proof.Machine.execRelease p s
  | .detach p => Sys2Proof.Machine.execDetach p s
  | .tspNop p => Sys2Proof.Machine.execTspNop p s
  | .tspCue p => Sys2Proof.Machine.execTspCue p s
  | .tspPcue p => Sys2Proof.Machine.execTspPcue p s
  | .tspCommit p => Sys2Proof.Machine.execTspCommit p s
  | .tspCancel p => Sys2Proof.Machine.execTspCancel p s
  | .tspStart p => Sys2Proof.Machine.execTspStart p s
  | .tspStop p => Sys2Proof.Machine.execTspStop p s
  | .tspHop p => Sys2Proof.Machine.execTspHop p s
  | .tspRamp p => Sys2Proof.Machine.execTspRamp p s
  | .tspTakeArm p => Sys2Proof.Machine.execTspTakeArm p s
  | .tspTakeStart p => Sys2Proof.Machine.execTspTakeStart p s
  | .tspClap p => Sys2Proof.Machine.execTspClap p s
  | .eventEdge n input rising ref code => Sys2Proof.Machine.execEventEdge n input rising ref code s
  | .activityWindowEnd n => Sys2Proof.Machine.execActivityWindowEnd n s
  | .quietTimeout n => Sys2Proof.Machine.execQuietTimeout n s
  | .tktCtrlArm src t w => Sys2Proof.Machine.execTktCtrlArm src t w s
  | .tktCtrlAbort src t w => Sys2Proof.Machine.execTktCtrlAbort src t w s
  | .takeArmResume t => Sys2Proof.Machine.execTakeArmResume t s
  | .prerollHalfDone n c1 c2 => Sys2Proof.Machine.execPrerollHalfDone n c1 c2 s
  | .reslateTimer n => Sys2Proof.Machine.execReslateTimer n s
  | .takeStopReached t => Sys2Proof.Machine.execTakeStopReached t s
  | .takeTimeout t => Sys2Proof.Machine.execTakeTimeout t s
  | .takeDone t => Sys2Proof.Machine.execTakeDone t s
  | .takeJoinWrite src n w => Sys2Proof.Machine.execTakeJoinWrite src n w s
  | .rtailWrite src n w => Sys2Proof.Machine.execRtailWrite src n w s
  | .reelFlush src n w => Sys2Proof.Machine.execReelFlush src n w s
  | .drEnWrite src r w => Sys2Proof.Machine.execDrEnWrite src r w s
  | .dtailWrite src r w => Sys2Proof.Machine.execDtailWrite src r w s
  | .ctailWrite src r w => Sys2Proof.Machine.execCtailWrite src r w s
  | .bufferOpen r addr len cookie => Sys2Proof.Machine.execBufferOpen r addr len cookie s
  | .drainBurst r => Sys2Proof.Machine.execDrainBurst r s
  | .bufferFlushTimeout r n => Sys2Proof.Machine.execBufferFlushTimeout r n s
  | .drainEventTimeout r => Sys2Proof.Machine.execDrainEventTimeout r s
  | .fifoloRead src unit => Sys2Proof.Machine.execFifoloRead src unit s
  | .fifohiRead src unit => Sys2Proof.Machine.execFifohiRead src unit s
  | .regressionSolve => Sys2Proof.Machine.execRegressionSolve s
  | .regSelWrite src w => Sys2Proof.Machine.execRegSelWrite src w s
  | .calrefAbsent => Sys2Proof.Machine.execCalrefAbsent s
  | .calrefWindowEnd count => Sys2Proof.Machine.execCalrefWindowEnd count s
  | .calPassDone tainted active vals refs => Sys2Proof.Machine.execCalPassDone tainted active vals refs s
  | .cdrvWrite src n w => Sys2Proof.Machine.execCdrvWrite src n w s
  | .cdrvStart n => Sys2Proof.Machine.execCdrvStart n s
  | .dtcSlewStep n => Sys2Proof.Machine.execDtcSlewStep n s
  | .ftrimSlewStep n => Sys2Proof.Machine.execFtrimSlewStep n s
  | .trackerUpdate b t overlap mG mO => Sys2Proof.Machine.execTrackerUpdate b t overlap mG mO s
  | .linkFrameReceived p header bad items => Sys2Proof.Machine.execLinkFrameReceived p header bad items s
  | .resendTimeout p => Sys2Proof.Machine.execResendTimeout p s
  | .prlEnWrite src p w => Sys2Proof.Machine.execPrlEnWrite src p w s
  | .prlRetrain src p w => Sys2Proof.Machine.execPrlRetrain src p w s
  | .ident p => Sys2Proof.Machine.execIdent p s
  | .topo p => Sys2Proof.Machine.execTopo p s
  | .probedata p => Sys2Proof.Machine.execProbedata p s
  | .linkClap p => Sys2Proof.Machine.execLinkClap p s
  | .clapack p => Sys2Proof.Machine.execClapack p s
  | .xhopprep p => Sys2Proof.Machine.execXhopprep p s
  | .xhopgo p => Sys2Proof.Machine.execXhopgo p s
  | .xhopack p => Sys2Proof.Machine.execXhopack p s
  | .xtakearm p => Sys2Proof.Machine.execXtakearm p s
  | .xtakedone p => Sys2Proof.Machine.execXtakedone p s
  | .alignvoid p => Sys2Proof.Machine.execAlignvoid p s
  | .firmwareMessage p => Sys2Proof.Machine.execFirmwareMessage p s
  | .probe src p w => Sys2Proof.Machine.execProbe src p w s
  | .probeInterval p tx => Sys2Proof.Machine.execProbeInterval p tx s
  | .probeBlockReceived p index reply stamp tx => Sys2Proof.Machine.execProbeBlockReceived p index reply stamp tx s
  | .tbadjWrite src n w => Sys2Proof.Machine.execTbadjWrite src n w s
  | .alignTracking n => Sys2Proof.Machine.execAlignTracking n s
  | .clapperFire n => Sys2Proof.Machine.execClapperFire n s
  | .clapCompletionTimeout tag => Sys2Proof.Machine.execClapCompletionTimeout tag s
  | .xoGap => Sys2Proof.Machine.execXoGap s
  | .xoWindowEnd count => Sys2Proof.Machine.execXoWindowEnd count s
  | .xoStable => Sys2Proof.Machine.execXoStable s
  | .cpllLock => Sys2Proof.Machine.execCpllLock s
  | .cpllAcquisitionTimeout => Sys2Proof.Machine.execCpllAcquisitionTimeout s
  | .cpllLoss => Sys2Proof.Machine.execCpllLoss s
  | .ircFail => Sys2Proof.Machine.execIrcFail s
  | .domainCfgWrite src d w => Sys2Proof.Machine.execDomainCfgWrite src d w s
  | .dividerStep d => Sys2Proof.Machine.execDividerStep d s
  | .forcedSwitch d => Sys2Proof.Machine.execForcedSwitch d s
  | .gateTimeout block addr => Sys2Proof.Machine.execGateTimeout block addr s
  | .pdRequest src j w => Sys2Proof.Machine.execPdRequest src j w s
  | .pdSequenceDone j => Sys2Proof.Machine.execPdSequenceDone j s
  | .stateChangeDone => Sys2Proof.Machine.execStateChangeDone s
  | .aonTimer => Sys2Proof.Machine.execAonTimer s
  | .pmbEnable src w => Sys2Proof.Machine.execPmbEnable src w s
  | .pmbPoll => Sys2Proof.Machine.execPmbPoll s
  | .smbalert low => Sys2Proof.Machine.execSmbalert low s
  | .pmbusTransactionDone fail v => Sys2Proof.Machine.execPmbusTransactionDone fail v s
  | .avsUpdate m => Sys2Proof.Machine.execAvsUpdate m s
  | .urgentRaise m => Sys2Proof.Machine.execUrgentRaise m s
  | .supplyFall => Sys2Proof.Machine.execSupplyFall s
  | .porRelease => Sys2Proof.Machine.execPorRelease s
  | .perstAssert => Sys2Proof.Machine.execPerstAssert s
  | .resetNAssert => Sys2Proof.Machine.execResetNAssert s
  | .watchdogExpiry => Sys2Proof.Machine.execWatchdogExpiry s
  | .kick src w => Sys2Proof.Machine.execKick src w s
  | .softwareReset src w => Sys2Proof.Machine.execSoftwareReset src w s
  | .fuseReadDone => Sys2Proof.Machine.execFuseReadDone s
  | .resetWipeDone => Sys2Proof.Machine.execResetWipeDone s
  | .bootImageLoadDone a b => Sys2Proof.Machine.execBootImageLoadDone a b s
  | .flashNoresp => Sys2Proof.Machine.execFlashNoresp s
  | .firmwareReady => Sys2Proof.Machine.execFirmwareReady s
  | .pushlenWrite src w => Sys2Proof.Machine.execPushlenWrite src w s
  | .chal src w ok => Sys2Proof.Machine.execChal src w ok s
  | .check src w ok => Sys2Proof.Machine.execCheck src w ok s
  | .authOpenEntryDone => Sys2Proof.Machine.execAuthOpenEntryDone s
  | .seal src w ok => Sys2Proof.Machine.execSeal src w ok s
  | .nonceExpiry => Sys2Proof.Machine.execNonceExpiry s
  | .testLogicReset => Sys2Proof.Machine.execTestLogicReset s
  | .bypass => Sys2Proof.Machine.execBypass s
  | .idcode => Sys2Proof.Machine.execIdcode s
  | .samplePreload cells => Sys2Proof.Machine.execSamplePreload cells s
  | .extest => Sys2Proof.Machine.execExtest s
  | .clamp => Sys2Proof.Machine.execClamp s
  | .highz => Sys2Proof.Machine.execHighz s
  | .secacc off wr w ok => Sys2Proof.Machine.execSecacc off wr w ok s
  | .dbgacc op => Sys2Proof.Machine.execDbgacc op s
  | .fuseprog word mask took => Sys2Proof.Machine.execFuseprog word mask took s
  | .thermtrip => Sys2Proof.Machine.execThermtrip s
  | .endpointReset => Sys2Proof.Machine.execEndpointReset s
  | .flowCtrlWrite src f w => Sys2Proof.Machine.execFlowCtrlWrite src f w s
  | .sqtailWrite f w => Sys2Proof.Machine.execSqtailWrite f w s
  | .cqheadWrite f w => Sys2Proof.Machine.execCqheadWrite f w s
  | .flowCancel f w => Sys2Proof.Machine.execFlowCancel f w s
  | .schedulingCycle entry asks => Sys2Proof.Machine.execSchedulingCycle entry asks s
  | .completionWrite f => Sys2Proof.Machine.execCompletionWrite f s
  | .flowEventTimeout f => Sys2Proof.Machine.execFlowEventTimeout f s
  | .eltailWrite src w => Sys2Proof.Machine.execEltailWrite src w s
  | .errorLogEventTimeout => Sys2Proof.Machine.execErrorLogEventTimeout s
  | .nop f c => Sys2Proof.Machine.execNop f c s
  | .devInfo f c => Sys2Proof.Machine.execDevInfo f c s
  | .ctxWrite f c buf => Sys2Proof.Machine.execCtxWrite f c buf s
  | .ctxRead f c => Sys2Proof.Machine.execCtxRead f c s
  | .grpMembers f c => Sys2Proof.Machine.execGrpMembers f c s
  | .cue f c => Sys2Proof.Machine.execCue f c s
  | .pcue f c => Sys2Proof.Machine.execPcue f c s
  | .commit f c => Sys2Proof.Machine.execCommit f c s
  | .cancel f c => Sys2Proof.Machine.execCancel f c s
  | .start f c => Sys2Proof.Machine.execStart f c s
  | .stop f c => Sys2Proof.Machine.execStop f c s
  | .hop f c => Sys2Proof.Machine.execHop f c s
  | .ramp f c => Sys2Proof.Machine.execRamp f c s
  | .takeArm f c => Sys2Proof.Machine.execTakeArm f c s
  | .takeAbort f c => Sys2Proof.Machine.execTakeAbort f c s
  | .takeRead f c => Sys2Proof.Machine.execTakeRead f c s
  | .intvRead f c => Sys2Proof.Machine.execIntvRead f c s
  | .regrRead f c => Sys2Proof.Machine.execRegrRead f c s
  | .regrSums f c => Sys2Proof.Machine.execRegrSums f c s
  | .calRun f c buf => Sys2Proof.Machine.execCalRun f c buf s
  | .calNext f c => Sys2Proof.Machine.execCalNext f c s
  | .calSubmit f c buf => Sys2Proof.Machine.execCalSubmit f c buf s
  | .ledgerExport f c => Sys2Proof.Machine.execLedgerExport f c s
  | .ledgerImport f c => Sys2Proof.Machine.execLedgerImport f c s
  | .ledgerSave f c body seal_ => Sys2Proof.Machine.execLedgerSave f c body seal_ s
  | .driftSet f c => Sys2Proof.Machine.execDriftSet f c s
  | .boardEnum f c => Sys2Proof.Machine.execBoardEnum f c s
  | .boardAlign f c => Sys2Proof.Machine.execBoardAlign f c s
  | .alignSet f c => Sys2Proof.Machine.execAlignSet f c s
  | .clap f c => Sys2Proof.Machine.execClap f c s
  | .xhop f c => Sys2Proof.Machine.execXhop f c s
  | .xtake f c => Sys2Proof.Machine.execXtake f c s
  | .pwrState f c => Sys2Proof.Machine.execPwrState f c s
  | .avsSet f c => Sys2Proof.Machine.execAvsSet f c s
  | .pmbRaw f c => Sys2Proof.Machine.execPmbRaw f c s
  | .dbgChallenge f c => Sys2Proof.Machine.execDbgChallenge f c s
  | .dbgRespond f c ok => Sys2Proof.Machine.execDbgRespond f c ok s
  | .dbgSeal f c => Sys2Proof.Machine.execDbgSeal f c s
  | .lcAdvance f c supply bits => Sys2Proof.Machine.execLcAdvance f c supply bits s
  | .svnCommit f c supply bits => Sys2Proof.Machine.execSvnCommit f c supply bits s
  | .keyRevoke f c supply bits => Sys2Proof.Machine.execKeyRevoke f c supply bits s
  | .mcmd src p w ins => Sys2Proof.Machine.execMcmd src p w ins s
  | .txdataWrite src p w => Sys2Proof.Machine.execTxdataWrite src p w s
  | .rxdataRead src p => Sys2Proof.Machine.execRxdataRead src p s
  | .stallResume p ins => Sys2Proof.Machine.execStallResume p ins s
  | .masterFrameDone p => Sys2Proof.Machine.execMasterFrameDone p s
  | .masterFault p => Sys2Proof.Machine.execMasterFault p s
  | .slaveSelect p => Sys2Proof.Machine.execSlaveSelect p s
  | .slaveHeader p h => Sys2Proof.Machine.execSlaveHeader p h s
  | .slaveDataWord p w edges => Sys2Proof.Machine.execSlaveDataWord p w edges s
  | .slaveDeselect p slot part => Sys2Proof.Machine.execSlaveDeselect p slot part s
  | .xipRead off => Sys2Proof.Machine.execXipRead off s
  | .xipLineFetch bytes => Sys2Proof.Machine.execXipLineFetch bytes s
  | .invalidBlock p lane => Sys2Proof.Machine.execInvalidBlock p lane s
  | .calrefEdgesReturn => Sys2Proof.Machine.execCalrefEdgesReturn s
  | .configurationWrite bme d3hot msixEn fmask => Sys2Proof.Machine.execConfigurationWrite bme d3hot msixEn fmask s
  | .resetRelease perst => Sys2Proof.Machine.execResetRelease perst s
  | .dmaErrorCompletion f c got => Sys2Proof.Machine.execDmaErrorCompletion f c got s
  | .dmaWriteTimeout f c => Sys2Proof.Machine.execDmaWriteTimeout f c s
  | .stagingWindowWrite off bytes => Sys2Proof.Machine.execStagingWindowWrite off bytes s

end Sys2Proof.Machine
end

