-- ==== Sys2Proof/Machine/Tick.lean ====
section
/-! DEFINITION. The passage of time when no command waits (00, R3; 01, R17; 03, R95; 12, R367, R377): one T-clock cycle. -/

set_option Elab.async false

namespace Sys2Proof.Machine

/-- Every root whose T-clock runs counts one cycle of its timebase (01, R17). -/
def State.tickRoots (s : State) : State :=
  (List.range 4).foldl (fun u n => if (u.root n).tclk then u.modRoot n (fun r => { r with tb := r.tb + 1 }) else u) s

/-- T-clock cycles in a microsecond at the nominal 3.2 GHz (00, R3). -/
def tickUs : Nat := 3200

/-- A microsecond ends: PWR_AONNOW counts, the coasts of roots last longer, the AON timer may wake the device. -/
def State.tickMicro (s : State) : State :=
  let s1 := (List.range 4).foldl (fun u n => if (u.root n).timing then u.inc (SYN_COASTTIME_US n) else u) (s.incWrap PWR_AONNOW_US)
  if s1.get PWR_AONTIM_US ≠ 0 ∧ s1.get PWR_AONNOW_US = s1.get PWR_AONTIM_US then aonTimer s1 else s1

/-- One T-clock cycle passes; a power-on reset holds everything. -/
def tick (s : State) : State :=
  let s1 := s.tickRoots.bootRuns
  if s.boot.held.contains 1 then s
  else if tickUs ≤ s1.pwr.sub + 1 then ({ s1 with pwr := { s1.pwr with sub := 0 } }).tickMicro
  else { s1 with pwr := { s1.pwr with sub := s1.pwr.sub + 1 } }

end Sys2Proof.Machine
end

