-- ==== Sys2Proof/Safety.lean ====
section
/-! DEFINITION. What a command leaves alone, and what holds of every state: the terms in which statements are made. A
frame names the registers by address and the units by number that may differ; which fields of the state may differ at all
stands in the statement as `t = { s with … }`. -/

set_option Elab.async false

namespace Sys2Proof.Machine

/-- No register but the listed ones differs. -/
def SameWords (l : List Nat) (s t : State) : Prop := ∀ a, a ∉ l → t.word a = s.word a

/-- Nothing but the listed registers differs. -/
def RegsOnly (l : List Nat) (s t : State) : Prop := t = { s with regs := t.regs } ∧ SameWords l s t

/-- Nothing differs but the listed registers and what raising an interrupt leaves: its message, or its pending bit. -/
def RegsIrq (l : List Nat) (s t : State) : Prop :=
  t = { s with regs := t.regs, msixPend := t.msixPend, out := t.out } ∧ SameWords l s t

/-- No unit but the listed ones differs: roots, banks, groups, channels. -/
def SameRoots (l : List Nat) (s t : State) : Prop := ∀ m, m ∉ l → t.root m = s.root m
def SameBanks (l : List Nat) (s t : State) : Prop := ∀ m, m ∉ l → t.bank m = s.bank m
def SameGroups (l : List Nat) (s t : State) : Prop := ∀ m, m ∉ l → t.group m = s.group m
def SameChans (l : List Nat) (s t : State) : Prop := ∀ m, m ∉ l → t.chan m = s.chan m
/-- The channels of banks. -/
def bankChans (l : List Nat) : List Nat := l.flatMap (fun b => (List.range 64).map (fun i => 64 * b + i))
/-- Capture sides of channels, takes, rings of reels, interval units, regression units. -/
def SameCaps (l : List Nat) (s t : State) : Prop := ∀ m, m ∉ l → t.cap m = s.cap m
def SameTakes (l : List Nat) (s t : State) : Prop := ∀ m, m ∉ l → t.take m = s.take m
def SameRings (l : List Nat) (s t : State) : Prop := ∀ m, m ∉ l → t.ring m = s.ring m
def SameIvs (l : List Nat) (s t : State) : Prop := ∀ m, m ∉ l → t.iv m = s.iv m
def SameRgs (l : List Nat) (s t : State) : Prop := ∀ m, m ∉ l → t.rg m = s.rg m
/-- Timing select ports, flows, links, power domains, side ports. -/
def SameTsps (l : List Nat) (s t : State) : Prop := ∀ m, m ∉ l → t.tsp m = s.tsp m
def SameFlows (l : List Nat) (s t : State) : Prop := ∀ m, m ∉ l → t.flow m = s.flow m
def SamePls (l : List Nat) (s t : State) : Prop := ∀ m, m ∉ l → t.pl m = s.pl m
def SamePds (l : List Nat) (s t : State) : Prop := ∀ m, m ∉ l → t.pd m = s.pd m
def SameSpts (l : List Nat) (s t : State) : Prop := ∀ m, m ∉ l → t.spt m = s.spt m
/-- No record of the context store but the listed ones differs, with its error pattern. -/
def SameRecords (l : List Nat) (s t : State) : Prop :=
  ∀ k, k ∉ l → tabGet 0 t.store k = tabGet 0 s.store k ∧ tabGet 0 t.storeErr k = tabGet 0 s.storeErr k

/-- The registers that an entry of the dailies is written to (13, R405). -/
def dailyWords (s : State) : List Nat :=
  let i := s.get SEC_DLYHEAD_NEXT
  [SEC_DLYHEAD, SEC_DLY (4 * i), SEC_DLY (4 * i + 1), SEC_DLY (4 * i + 2), SEC_DLY (4 * i + 3)]

/-- `t` holds a new entry of the dailies: time, code, reset count and UNIT, DETAIL; NEXT has moved on (13, R405). -/
def DailyIn (code unit detail : Nat) (s t : State) : Prop :=
  t.word (SEC_DLY (4 * s.get SEC_DLYHEAD_NEXT)) = s.word PWR_AONNOW ∧
  t.word (SEC_DLY (4 * s.get SEC_DLYHEAD_NEXT + 1)) = BitVec.ofNat 32 (code + s.get SEC_RSTCAUSE_COUNT * 2 ^ 8 + unit * 2 ^ 16) ∧
  t.word (SEC_DLY (4 * s.get SEC_DLYHEAD_NEXT + 2)) = BitVec.ofNat 32 detail ∧
  t.get SEC_DLYHEAD_NEXT = (s.get SEC_DLYHEAD_NEXT + 1) % 2 ^ SEC_DLYHEAD_NEXT.len

/-- `t` is `s` after a reset other than power-on, with its code in RSTCAUSE (13, R382, R385). -/
def ResetBy (code : Nat) (s t : State) : Prop :=
  t = { s.afterReset with regs := t.regs } ∧ SameWords [SEC_RSTCAUSE] s.afterReset t ∧ t.get SEC_RSTCAUSE_LAST = code ∧
  t.bit ⟨SEC_RSTCAUSE, 7 + code, 1⟩ = true ∧
  t.get SEC_RSTCAUSE_COUNT = min (s.get SEC_RSTCAUSE_COUNT + 1) (2 ^ SEC_RSTCAUSE_COUNT.len - 1)

/-- A core has the command `k` with number `c` and opcode `op` of flow `f`; its effect has not begun. The other commands of
the flow are `a` before it and `b` after it (14, R423, R426). -/
abbrev Runs (s : State) (f c op : Nat) (a b : List Cmd) (k : Cmd) : Prop :=
  (s.flow f).cmds = a ++ k :: b ∧ (∀ q ∈ a ++ b, q.id ≠ c) ∧ k.id = c ∧ k.st = .running ∧ k.orphan = false ∧ entOp k.entry = op

/-- In `t` that command stands at `x`; the other commands, the rest of the flow and the other flows are as in `s`. -/
def CmdNow (s t : State) (f : Nat) (a b : List Cmd) (x : Cmd) : Prop :=
  t.flow f = { s.flow f with cmds := a ++ x :: b } ∧ SameFlows [f] s t

/-- A command that has finished with a code, TAINT, DATA, AUX and RESULT (14, R423). -/
def Cmd.done (k : Cmd) (code : Nat) (taint data : Bool) (aux res : Nat) : Cmd :=
  { k with st := .finished, code := code, taint := taint, data := data, aux := aux, res := res }

/-- An item that a select port has taken in and that a row of the command table stands for (07, R210, R214, R215): at the head
of what a port has taken in stands no other, for those are answered as soon as they get there. -/
def TspItem.hasRow : TspItem → Bool
  | .select _ _ => true
  | .cmd v => knownOp (cmdOp v)
  | .ctrl v => knownMsg (cmdOp v)

end Sys2Proof.Machine
end

