-- ==== Sys2Proof/Certificates/Slice0/Obligations.lean ====
section
/-! DEFINITION. The statements for the provers, one or more for every family of commands and every kind of state. Where a
command changes part of a table, the frame names the units that may differ, and `t = { s with … }` the fields of the state. -/

set_option Elab.async false

open Sys2Proof Sys2Proof.Machine

/-- While the sequencer has no fault and no declared loss waits: WAKE_DONE in WAKE with a qualified reference enters
SEARCH with BAND 32 and trial 0, starts the T-clock unless a test divider is in force, and then starts the DLLs that
have no clock of the banks that select the root. BAND_SEARCH_TRIAL in SEARCH halves the band range by the counted
edges against base x window and, after the sixth trial, enters ACQUIRE. LOCK_DECLARED in COUNT or RECLOSE with N
cycles counted enters LOCKED, with LOCK 1 and COAST 0 to be shown. ACQUISITION_TIMEOUT in ACQUIRE, COUNT or RECLOSE
sets BANDFAIL and searches again, out of RECLOSE as routine 2. LOSS_OF_LOCK in LOCKED, HOP or RAMP with its cycles
counted and the loop not frozen clears LOCK, sets LOL, counts LOLCNT and searches again as routine 2; under FAULT it
shows the loss at once and searches not. What a step shows in registers waits, in order, for its commit. The last
clause: the commit of a step of a routine, not a ramp's unended one, shows BANDFAIL, LOL and the state of the search
that waited alone. Each names the registers and units it may touch. The model's choices here, which are no rule of
the spec, by their log entries: which registers wait for the commit of a step (97), what goes on under FAULT (99),
that a loss declared while no routine runs is taken at once (98). -/
def Obligations.RootAcquiresLock : Prop :=
  (∀ (n : Fin 4) (s : State), s.rootState n = stWake → s.bit (SYN_CSTAT_REFOK n) = true → s.seqRuns n = true → 
      ∃ t, exec (.wakeDone n) s = .next t ∧ (t.root n).st = stSearch ∧ (t.root n).band = 32 ∧ (t.root n).trial = 0 ∧ (t.root n).lo = 0 ∧ (t.root n).hi = 63 ∧ (t.root n).lock = false ∧ (t.root n).tclk = !(s.root n).testDiv ∧ (t.root n).eff = (s.root n).eff ++ [.put (SYN_STAT_STATE n) stSearch, .put (SYN_STAT_LOCK n) 0, .count (SYN_SRCHCNT_COUNT n), .put (SYN_STAT_BAND n) 32, .put (SYN_CSTAT_AVGVALID n) 0] ++ (if (s.root n).everLock then [Eff.slip] else []) ∧
      (∀ b : Fin 8, s.get (BNK_STAT_ROOTACT b) = n.val → s.get (BNK_STAT_DLLSTATE b) = 0 →
        t.get (BNK_STAT_DLLSTATE b) = if (s.root n).testDiv then 0 else 1) ∧
      t = { s with regs := t.regs, roots := t.roots, banks := t.banks, caps := t.caps } ∧ SameRoots [n.val] s t ∧ SameBanks (s.banksOf n) s t ∧
      SameCaps (bankChans (s.banksOf n)) s t ∧ SameWords (SYN_CSTAT n :: (s.banksOf n).map BNK_STAT) s t) ∧
  (∀ (n : Fin 4) (edges : Nat) (s : State), s.rootState n = stSearch → s.seqRuns n = true → 
      ∃ t, exec (.bandSearchTrial n edges) s = .next t ∧ 
      (let mid := ((s.root n).lo + (s.root n).hi + 1) / 2
       let up := decide (16 * edges * 2 ^ 40 ≤ (s.root n).base * s.countWindow n)
       (t.root n).lo = (if up then mid else (s.root n).lo) ∧ (t.root n).hi = (if up then (s.root n).hi else mid - 1)) ∧
      (t.root n).trial = min ((s.root n).trial + 1) 6 ∧
      ((s.root n).trial < 5 → t.rootState n = stSearch ∧ (t.root n).band = ((t.root n).lo + (t.root n).hi + 1) / 2 ∧
        (t.root n).eff = (s.root n).eff ++ [.put (SYN_STAT_BAND n) (t.root n).band]) ∧
      (5 ≤ (s.root n).trial → t.rootState n = stAcquire ∧ (t.root n).band = (t.root n).lo ∧
        (t.root n).eff = (s.root n).eff ++ [.put (SYN_STAT_BAND n) (t.root n).band, .put (SYN_STAT_STATE n) stAcquire]) ∧
      t = { s with roots := t.roots } ∧ SameRoots [n.val] s t) ∧
  (∀ (n : Fin 4) (s : State), (s.rootState n = stCount ∨ s.rootState n = stReclose) → s.lockN n ≤ (s.root n).cnt → s.seqRuns n = true → 
      ∃ t, exec (.lockDeclared n) s = .next t ∧ t.rootState n = stLocked ∧ (t.root n).lock = true ∧ (t.root n).coasting = false ∧ (t.root n).everLock = true ∧
      (t.root n).done = true ∧ (t.root n).eff = (s.root n).eff ++ [.put (SYN_STAT_STATE n) stLocked, .put (SYN_STAT_LOCK n) 1, .put (SYN_STAT_COAST n) 0] ++
        (if s.rootState n = stReclose then [Eff.slip] else []) ++
        (if (s.root n).ret = some 1 ∧ s.willi n (SYN_PHCARRY_CARRY n) ≠ 0 then [.put (SYN_CSTAT_WORKING n) 1] else []) ++
        (match (s.root n).hop with
         | some (q, .search) => [.put (SYN_STAT_HOPBUSY n) 0, .hop q 2 Code.OK true]
         | some (q, .ended) => [.put (SYN_STAT_HOPBUSY n) 0, .hop q 1 Code.OK true]
         | _ => []) ∧
      ((s.root n).hop.map (fun q => q.2) = some .search ∨ (s.root n).hop.map (fun q => q.2) = some .ended → (t.root n).hop = none) ∧
      t = { s with regs := t.regs, roots := t.roots } ∧ SameRoots [n.val] s t ∧ SameWords [SYN_CSTAT n] s t) ∧
  (∀ (n : Fin 4) (s : State), (s.rootState n = stAcquire ∨ s.rootState n = stCount ∨ s.rootState n = stReclose) → s.seqRuns n = true → 
      ∃ t, exec (.acquisitionTimeout n) s = .next t ∧ (t.root n).st = stSearch ∧ (t.root n).band = 32 ∧ (t.root n).trial = 0 ∧ (t.root n).lo = 0 ∧ (t.root n).hi = 63 ∧ (t.root n).lock = false ∧ (t.root n).eff = (s.root n).eff ++ [.flag (SYN_FLAGS_BANDFAIL n)] ++ [.put (SYN_STAT_STATE n) stSearch, .put (SYN_STAT_LOCK n) 0, .count (SYN_SRCHCNT_COUNT n), .put (SYN_STAT_BAND n) 32, .put (SYN_CSTAT_AVGVALID n) 0] ++ (if (s.root n).everLock then [Eff.slip] else []) ∧
      (s.rootState n = stReclose → (t.root n).rt = 2 ∧ t.get (SEQ_STAT_ROUTINE n) = 2) ∧ (s.rootState n ≠ stReclose → (t.root n).rt = (s.root n).rt) ∧
      t = { s with regs := t.regs, roots := t.roots } ∧ SameRoots [n.val] s t ∧ SameWords [SYN_CSTAT n, SEQ_STAT n] s t) ∧
  (∀ (n : Fin 4) (s : State), (s.rootState n = stLocked ∨ s.rootState n = stHop ∨ s.rootState n = stRamp) → s.lossN n ≤ (s.root n).loss → (s.root n).frozen = false → s.bit (SEQ_STAT_FAULT n) = false → 
      ∃ t, exec (.lossOfLock n) s = .next t ∧ (t.root n).st = stSearch ∧ (t.root n).band = 32 ∧ (t.root n).trial = 0 ∧ (t.root n).lo = 0 ∧ (t.root n).hi = 63 ∧ (t.root n).lock = false ∧ (t.root n).rt = 2 ∧ t.get (SEQ_STAT_ROUTINE n) = 2 ∧ (t.root n).eff = (s.root n).eff ++
        [.put (SYN_STAT_LOCK n) 0, .flag (SYN_FLAGS_LOL n), .count (SYN_LOLCNT_COUNT n)] ++ [.put (SYN_STAT_STATE n) stSearch, .put (SYN_STAT_LOCK n) 0, .count (SYN_SRCHCNT_COUNT n), .put (SYN_STAT_BAND n) 32, .put (SYN_CSTAT_AVGVALID n) 0] ++ (if (s.root n).everLock then [Eff.slip] else []) ∧
      (s.rootState n = stRamp → t.bit (SEQ_STAT_SUSP n) = true ∧ (t.root n).ramp = (s.root n).com.ramp ∧ (t.root n).base = (s.root n).com.base) ∧
      ((s.root n).hop = none → t = { s with regs := t.regs, roots := t.roots } ∧ SameRoots [n.val] s t ∧ SameWords [SYN_CSTAT n, SEQ_STAT n, SYN_RSTAT n] s t)) ∧
  (∀ (n : Fin 4) (s : State), (s.rootState n = stLocked ∨ s.rootState n = stHop ∨ s.rootState n = stRamp) → s.lossN n ≤ (s.root n).loss → (s.root n).frozen = false → s.bit (SEQ_STAT_FAULT n) = true → (s.root n).eff = [] → 
      ∃ t, exec (.lossOfLock n) s = .next t ∧ t.rootState n = s.rootState n ∧ (t.root n).lock = false ∧ t.bit (SYN_STAT_LOCK n) = false ∧ t.bit (SYN_FLAGS_LOL n) = true ∧
      t.get (SYN_LOLCNT_COUNT n) = min (s.get (SYN_LOLCNT_COUNT n) + 1) 0xFFFF ∧ t.get (SEQ_STAT_ROUTINE n) = s.get (SEQ_STAT_ROUTINE n) ∧
      ((s.root n).hop = none → t = { s with regs := t.regs, roots := t.roots, msixPend := t.msixPend, out := t.out } ∧ SameRoots [n.val] s t ∧ SameWords [SYN_STAT n, SYN_FLAGS n, SYN_LOLCNT n] s t)) ∧
  (∀ (n : Fin 4) (words : List (Option Nat)) (s : State), (s.root n).rt = 2 → (s.root n).eff = [.put (SYN_STAT_LOCK n) 0, .flag (SYN_FLAGS_LOL n), .count (SYN_LOLCNT_COUNT n)] ++
      [.put (SYN_STAT_STATE n) stSearch, .put (SYN_STAT_LOCK n) 0, .count (SYN_SRCHCNT_COUNT n), .put (SYN_STAT_BAND n) 32, .put (SYN_CSTAT_AVGVALID n) 0] → (s.root n).st = stSearch → (s.root n).waitOff = false → (s.root n).waitLoss = false → (s.root n).waitRamp = none → 
      ∃ t, exec (.sequencerStepCommit n false words) s = .next t ∧ t.bit (SYN_FLAGS_LOL n) = true ∧ t.get (SYN_LOLCNT_COUNT n) = min (s.get (SYN_LOLCNT_COUNT n) + 1) 0xFFFF ∧
      t.get (SYN_SRCHCNT_COUNT n) = min (s.get (SYN_SRCHCNT_COUNT n) + 1) 0xFFFF ∧ t.get (SYN_STAT_STATE n) = stSearch ∧
      t.get (SYN_STAT_BAND n) = 32 ∧ t.bit (SYN_STAT_LOCK n) = false ∧ t.bit (SYN_CSTAT_AVGVALID n) = false ∧ (t.root n).eff = []) ∧
  (∀ (n : Fin 4) (words : List (Option Nat)) (s : State), (s.root n).rt = 2 → (s.root n).eff = [.put (SYN_STAT_STATE n) stLocked, .put (SYN_STAT_LOCK n) 1, .put (SYN_STAT_COAST n) 0] → (s.root n).st = stLocked → (s.root n).waitOff = false → (s.root n).waitLoss = false → (s.root n).waitRamp = none → 
      ∃ t, exec (.sequencerStepCommit n false words) s = .next t ∧ t.get (SYN_STAT_STATE n) = stLocked ∧ t.bit (SYN_STAT_LOCK n) = true ∧ t.bit (SYN_STAT_COAST n) = false ∧ (t.root n).eff = [])

/-- LOCK_DECLARED in RECLOSE, with N cycles counted and a routine running, enters LOCKED, and the commit of that step
shows STAT.LOCK 1, sets FLAGS.TBSLIP and leaves PRL_ALIGN.ALIGNED of the root 0, whatever policy was sampled at
MEASURE, whatever CCTRL.POLICY holds and whatever hop executes. -/
def Obligations.RecloseSlipsTheTimebase : Prop :=
  (∀ (n : Fin 4) (words : List (Option Nat)) (s : State), s.rootState n = stReclose → s.lockN n ≤ (s.root n).cnt → s.seqRuns n = true → (s.root n).rt = 8 → (s.root n).eff = [] → (s.root n).waitOff = false → 
      ∃ t, exec (.lockDeclared n) s = .next t ∧ t.rootState n = stLocked ∧ ∃ u, exec (.sequencerStepCommit n false words) t = .next u ∧
      u.bit (SYN_STAT_LOCK n) = true ∧ u.bit (SYN_FLAGS_TBSLIP n) = true ∧ u.get (PRL_ALIGN_ALIGNED n) = 0)

/-- A write of EN = 1 to a disabled root is checked on the settings as written: the first failing check gives CFGERR and
its CFGWHY with EN still 0; with none failing the root enters WAKE with EN 1, a zero timebase and the preset word as
base. A write of EN = 0 is refused with CFGWHY 6 while a bank that selects the root is not idle; else EN goes to 0,
no hop pends, and while a routine runs the root waits for OFF at the next step boundary. A write that keeps EN 1
with another ODIV is refused with CFGWHY 5 (ODIV held). RELOCK in LOCKED or HOP, without FAULT and with the loop not
frozen, starts a band search as routine 2 and leaves LOL as it was. PHCLR leaves PHPEND 0; from software it also
voids the alignment. The model's choices here, which are no rule of the spec, by their log entries: that the other
fields of a refused write take their values and that an enable keeps PHPEND (132), that CFGWHY keeps its code (88),
what an enable before the OFF step does (87), that an idle sequencer takes an EN clear at once (98). -/
def Obligations.RootControlWrites : Prop :=
  (∀ (src : Source) (n : Fin 4) (w : Word) (s : State), s.rowServed src (SYN_CTRL n) true = true → s.bit (SYN_CTRL_EN n) = false → wbit w 0 = true → wbit w 1 = false → wbit w 2 = false → (s.writeReg (SYN_CTRL n) (BitVec.ofNat 32 (fieldPut w.toNat 0 1 0)) fullMask).enableWhy n = 0 → 
      ∃ t, exec (.rootEnable src n w) s = .next t ∧ t.bit (SYN_CTRL_EN n) = true ∧ t.rootState n = stWake ∧ t.get (SYN_STAT_STATE n) = stWake ∧ (t.root n).tb = 0 ∧ (t.root n).tclk = false ∧
      (t.root n).base = (s.writeReg (SYN_CTRL n) (BitVec.ofNat 32 (fieldPut w.toNat 0 1 0)) fullMask).presetWord n ((s.writeReg (SYN_CTRL n) (BitVec.ofNat 32 (fieldPut w.toNat 0 1 0)) fullMask).get (SYN_CTRL_PRESET n)) ∧ t.get (SYN_STAT_PRESETACT n) = (s.writeReg (SYN_CTRL n) (BitVec.ofNat 32 (fieldPut w.toNat 0 1 0)) fullMask).get (SYN_CTRL_PRESET n) ∧
      t.geti (SYN_PHCARRY_CARRY n) = 0 ∧ t.geti (SYN_PHPOS_POS n) = 0 ∧ t.get (SEQ_STAT_FAULT n) = 0 ∧ (t.root n).rt = 1 ∧
      (s.rootState n = stOff → t = { s with regs := t.regs, roots := t.roots, banks := t.banks, msixPend := t.msixPend, out := t.out } ∧ SameRoots [n.val] s t ∧ SameBanks (s.banksOf n) s t ∧
        SameWords [SYN_CTRL n, SYN_STAT n, SEQ_STAT n, SYN_PHCARRY n, SYN_PHPOS n, SYN_CSTAT n, SYN_FLAGS n, GLB_LOCKVIOL, SYN_FWACTLO n, SYN_FWACTHI n, SYN_SSSTAT n] s t)) ∧
  (∀ (src : Source) (n : Fin 4) (w : Word) (s : State), s.rowServed src (SYN_CTRL n) true = true → s.bit (SYN_CTRL_EN n) = false → wbit w 0 = true → wbit w 1 = false → wbit w 2 = false → (s.writeReg (SYN_CTRL n) (BitVec.ofNat 32 (fieldPut w.toNat 0 1 0)) fullMask).enableWhy n ≠ 0 → 
      ∃ t, exec (.rootEnable src n w) s = .next t ∧ t.bit (SYN_CTRL_EN n) = false ∧ t.bit (SYN_FLAGS_CFGERR n) = true ∧ t.get (SYN_STAT_CFGWHY n) = (s.writeReg (SYN_CTRL n) (BitVec.ofNat 32 (fieldPut w.toNat 0 1 0)) fullMask).enableWhy n ∧
      RegsIrq [SYN_CTRL n, SYN_STAT n, SYN_FLAGS n, GLB_LOCKVIOL] s t) ∧
  (∀ (src : Source) (n : Fin 4) (w : Word) (s : State), s.rowServed src (SYN_CTRL n) true = true → s.bit (SYN_CTRL_EN n) = true → wbit w 0 = false → wbit w 1 = false → wbit w 2 = false → fld w 4 3 = s.get (SYN_CTRL_ODIV n) → (s.rootFree n (fun b => s.bankIdle b) = true) → 
      ∃ t, exec (.rootDisable src n w) s = .next t ∧ t.bit (SYN_CTRL_EN n) = false ∧ (t.root n).pend = none ∧ t.get (PRL_ALIGN_ALIGNED n) = 0 ∧ t.get (PRL_ALIGN_WHY n) = 8 ∧
      ((s.root n).rt ≠ 0 → t.rootState n = s.rootState n ∧ (t.root n).waitOff = true) ∧
      ((s.root n).rt = 0 → s.bit (SEQ_STAT_FAULT n) = false → (t.root n).rt = 9 ∧ (t.root n).waitOff = true ∧ t.get (SEQ_STAT_ROUTINE n) = 9) ∧
      ((s.root n).rt = 0 → s.bit (SEQ_STAT_FAULT n) = true → t.rootState n = stOff ∧ t.get (SYN_STAT_STATE n) = stOff ∧ (t.root n).tclk = false) ∧
      SameRoots [n.val] s t ∧
      ((s.root n).pend = none → s.bit PRL_TREE_MASTER = false → s.bit (SEQ_STAT_FAULT n) = false → t = { s with regs := t.regs, roots := t.roots } ∧
        SameWords [SYN_CTRL n, SYN_HOPSTAT n, PRL_ALIGN n, SEQ_STAT n, GLB_LOCKVIOL] s t)) ∧
  (∀ (src : Source) (n : Fin 4) (w : Word) (s : State), s.rowServed src (SYN_CTRL n) true = true → s.bit (SYN_CTRL_EN n) = true → wbit w 0 = false → wbit w 1 = false → wbit w 2 = false → fld w 4 3 = s.get (SYN_CTRL_ODIV n) → (s.rootFree n (fun b => s.bankIdle b) = false) → 
      ∃ t, exec (.rootDisable src n w) s = .next t ∧ t.bit (SYN_CTRL_EN n) = true ∧ t.bit (SYN_FLAGS_CFGERR n) = true ∧ t.get (SYN_STAT_CFGWHY n) = 6 ∧
      RegsIrq [SYN_CTRL n, SYN_STAT n, SYN_FLAGS n, GLB_LOCKVIOL] s t) ∧
  (∀ (src : Source) (n : Fin 4) (w : Word) (s : State), s.rowServed src (SYN_CTRL n) true = true → s.bit (SYN_CTRL_EN n) = true → s.bit (SYN_CTRL_LOCK n) = false → wbit w 0 = true → wbit w 1 = false → wbit w 2 = false → fld w 4 3 ≠ s.get (SYN_CTRL_ODIV n) → 
      ∃ t, exec (.rootEnable src n w) s = .next t ∧ t.get (SYN_CTRL_ODIV n) = s.get (SYN_CTRL_ODIV n) ∧ t.bit (SYN_CTRL_EN n) = true ∧ t.bit (SYN_FLAGS_CFGERR n) = true ∧ t.get (SYN_STAT_CFGWHY n) = 5 ∧
      RegsIrq [SYN_CTRL n, SYN_STAT n, SYN_FLAGS n] s t) ∧
  (∀ (src : Source) (n : Fin 4) (w : Word) (s : State), s.rowServed src (SYN_CTRL n) true = true → s.bit (SYN_CTRL_EN n) = true → wbit w 0 = true → wbit w 1 = true → wbit w 2 = false → fld w 4 3 = s.get (SYN_CTRL_ODIV n) → (s.rootState n = stLocked ∨ s.rootState n = stHop) → s.bit (SEQ_STAT_FAULT n) = false → (s.root n).frozen = false → 
      ∃ t, exec (.relock src n w) s = .next t ∧ (t.root n).st = stSearch ∧ (t.root n).band = 32 ∧ (t.root n).trial = 0 ∧ (t.root n).lo = 0 ∧ (t.root n).hi = 63 ∧ (t.root n).lock = false ∧ t.bit (SYN_FLAGS_LOL n) = s.bit (SYN_FLAGS_LOL n) ∧ (t.root n).eff = (s.root n).eff ++ [.put (SYN_STAT_STATE n) stSearch, .put (SYN_STAT_LOCK n) 0, .count (SYN_SRCHCNT_COUNT n), .put (SYN_STAT_BAND n) 32, .put (SYN_CSTAT_AVGVALID n) 0] ++ (if (s.root n).everLock then [Eff.slip] else []) ∧
      (t.root n).rt = 2 ∧ t.get (SEQ_STAT_ROUTINE n) = 2 ∧ (s.rootState n = stHop → (s.root n).hop.map (fun q => q.2) ≠ some .waiting → (t.root n).hop = (s.root n).hop.map (fun q => (q.1, .search))) ∧
      ((s.root n).hop = none → t = { s with regs := t.regs, roots := t.roots } ∧ SameRoots [n.val] s t ∧ SameWords [SYN_CTRL n, SEQ_STAT n, SYN_CSTAT n, GLB_LOCKVIOL] s t)) ∧
  (∀ (src : Source) (n : Fin 4) (w : Word) (s : State), s.rowServed src (SYN_CTRL n) true = true → wbit w 0 = s.bit (SYN_CTRL_EN n) → wbit w 1 = false → wbit w 2 = true → (s.bit (SYN_CTRL_EN n) = true → fld w 4 3 = s.get (SYN_CTRL_ODIV n)) → 
      ∃ t, exec (.phclr src n w) s = .next t ∧ t.geti (SYN_PHPEND_PEND n) = 0 ∧
      (src = .firmware → RegsOnly [SYN_CTRL n, SYN_PHPEND n, GLB_LOCKVIOL] s t) ∧
      (src ≠ .firmware → t.get (PRL_ALIGN_ALIGNED n) = 0 ∧ t.get (PRL_ALIGN_WHY n) = 6 ∧
        (s.bit PRL_TREE_MASTER = false → t = { s with regs := t.regs, roots := t.roots } ∧ SameRoots [n.val] s t ∧ SameWords [SYN_CTRL n, SYN_PHPEND n, PRL_ALIGN n, GLB_LOCKVIOL] s t)))

/-- HOP_REQUEST with GO 1 on a root whose lock stands in LOCKED, with no executing and no pending hop, becomes the
executing hop and HOPBUSY is 1. Otherwise, with none pending, it pends and HOPSTAT shows PEND and its preset. A
second request replaces the pending one, which ends CANCELLED with RESULT 5, unless the pending one has PRIO 1 and
the new one PRIO 0: then the new one ends so. GO 0 does nothing. The frame of the third is stated where nobody waits
for the hop that ends. The model's choices here, which are no rule of the spec, by their log entries: that a hop
that has not started can become the pending one (20). -/
def Obligations.HopRequestIsExecutedOrPends : Prop :=
  (∀ (src : Source) (n : Fin 4) (w : Word) (s : State), s.rowServed src (SYN_HOP n) true = true → wbit w 31 = true → s.isLocked n = true → (s.root n).hop = none → (s.root n).pend = none → 
      ∃ t, exec (.hopRequest src n w) s = .next t ∧ (t.root n).hop = some (⟨fld w 0 4, wbit w 8, .none, none⟩, .waiting) ∧ (t.root n).pend = none ∧ t.bit (SYN_STAT_HOPBUSY n) = true ∧
      t = { s with regs := t.regs, roots := t.roots } ∧ SameRoots [n.val] s t ∧ SameWords [SYN_STAT n] s t) ∧
  (∀ (src : Source) (n : Fin 4) (w : Word) (s : State), s.rowServed src (SYN_HOP n) true = true → wbit w 31 = true → (s.isLocked n = false ∨ (s.root n).hop ≠ none) → (s.root n).pend = none → 
      ∃ t, exec (.hopRequest src n w) s = .next t ∧ (t.root n).pend = some ⟨fld w 0 4, wbit w 8, .none, none⟩ ∧ (t.root n).hop = (s.root n).hop ∧
      t.get (SYN_HOPSTAT_PEND n) = 1 ∧ t.get (SYN_HOPSTAT_PENDPRESET n) = fld w 0 4 ∧
      t = { s with regs := t.regs, roots := t.roots } ∧ SameRoots [n.val] s t ∧ SameWords [SYN_HOPSTAT n] s t) ∧
  (∀ (src : Source) (n : Fin 4) (w : Word) (s : State) (p : HopReq), s.rowServed src (SYN_HOP n) true = true → wbit w 31 = true → (s.root n).pend = some p → (¬ (p.prio = true ∧ wbit w 8 = false)) → 
      ∃ t, exec (.hopRequest src n w) s = .next t ∧ (t.root n).pend = some ⟨fld w 0 4, wbit w 8, .none, none⟩ ∧ t.get (SYN_HOPSTAT_RESULT n) = 5 ∧ t.get (SYN_HOPSTAT_LASTPRESET n) = p.preset % 16 ∧
      t.get (SYN_HOPSTAT_PENDPRESET n) = fld w 0 4 ∧ (p.src = .none → t = { s with regs := t.regs, roots := t.roots } ∧ SameRoots [n.val] s t ∧ SameWords [SYN_HOPSTAT n] s t)) ∧
  (∀ (src : Source) (n : Fin 4) (w : Word) (s : State) (p : HopReq), s.rowServed src (SYN_HOP n) true = true → wbit w 31 = true → (s.root n).pend = some p → p.prio = true → wbit w 8 = false → 
      ∃ t, exec (.hopRequest src n w) s = .next t ∧ (t.root n).pend = some p ∧ t.get (SYN_HOPSTAT_RESULT n) = 5 ∧ t.get (SYN_HOPSTAT_LASTPRESET n) = fld w 0 4 ∧
      RegsOnly [SYN_HOPSTAT n] s t) ∧
  (∀ (src : Source) (n : Fin 4) (w : Word) (s : State), s.rowServed src (SYN_HOP n) true = true → wbit w 31 = false → 
      exec (.hopRequest src n w) s = .next s)

/-- HOP_START while the sequencer may start a routine takes the hop that was accepted, or on a locked root without one
the pending hop; a hop with a start count moves the timebase to it at least. A preset word that leaves the VCO or
T-clock range ends it with RESULT 4 and sets HOPREF; a LOCKED root stays so with its base word. A word in the range
and in the band in use becomes the base of a root that does not search, which enters HOP as routine 3. A word out of
the band, or any word of a root that searches, starts a band search as routine 4; out of the band with CTRL.PIN 1
the hop ends with RESULT 3 where the root does not search. HOP_SETTLED in HOP after 16 settled cycles returns to
LOCKED; HOPBUSY 0, RESULT 1 and one more in HOPCNT wait for the commit of the step. The frames of refused hops are
stated where nobody waits for their completion. The model's choices here, which are no rule of the spec, by their
log entries: what a refused hop leaves of a root that searched (20) or settled in band (132), that the loss count
starts afresh (91), what waits for the commit (97). -/
def Obligations.HopStartsByItsPreset : Prop :=
  (∀ (n : Fin 4) (s : State) (q : HopReq), s.seqFree n = true → ((s.root n).hop = some (q, .waiting) ∨ ((s.root n).hop = none ∧ (s.root n).pend = some q ∧ s.isLocked n = true)) → s.hopTime n q = true → s.rangeOk n (s.root n).ss (s.presetWord n q.preset) = false → s.rootState n = stLocked → 
      ∃ t, exec (.hopStart n) s = .next t ∧ (t.root n).hop = none ∧ (t.root n).pend = (if (s.root n).hop = none then none else (s.root n).pend) ∧ (t.root n).base = (s.root n).base ∧ t.rootState n = stLocked ∧
      t.bit (SYN_STAT_HOPBUSY n) = false ∧ t.bit (SYN_FLAGS_HOPREF n) = true ∧ t.get (SYN_HOPSTAT_RESULT n) = 4 ∧ t.get (SYN_HOPSTAT_LASTPRESET n) = q.preset % 16 ∧
      t.get (SYN_HOPSTAT_HOPCNT n) = s.get (SYN_HOPSTAT_HOPCNT n) ∧
      (q.src = .none → t = { s with regs := t.regs, roots := t.roots, msixPend := t.msixPend, out := t.out } ∧ SameRoots [n.val] s t ∧ SameWords [SYN_STAT n, SYN_FLAGS n, SYN_HOPSTAT n] s t)) ∧
  (∀ (n : Fin 4) (s : State) (q : HopReq), s.seqFree n = true → ((s.root n).hop = some (q, .waiting) ∨ ((s.root n).hop = none ∧ (s.root n).pend = some q ∧ s.isLocked n = true)) → s.hopTime n q = true → s.rangeOk n (s.root n).ss (s.presetWord n q.preset) = true → (¬ (s.rootState n = stSearch ∨ s.rootState n = stAcquire ∨ s.rootState n = stCount)) → s.inBand n (s.root n).ss (s.presetWord n q.preset) = true → 
      ∃ t, exec (.hopStart n) s = .next t ∧ (t.root n).hop = some (q, .inBand) ∧ (t.root n).base = s.presetWord n q.preset ∧ (t.root n).settle = 0 ∧ (t.root n).loss = 0 ∧ t.rootState n = stHop ∧
      (t.root n).tb = max (s.root n).tb (q.notBefore.getD 0) ∧ (t.root n).eff = (s.root n).eff ++ [.put (SYN_STAT_PRESETACT n) q.preset, .put (SYN_STAT_STATE n) stHop] ∧
      t.bit (SYN_STAT_HOPBUSY n) = true ∧ (t.root n).rt = 3 ∧ t.get (SEQ_STAT_ROUTINE n) = 3 ∧ (q.src.isLink = false → t.get (PRL_ALIGN_ALIGNED n) = 0 ∧ t.get (PRL_ALIGN_WHY n) = 4) ∧
      SameRoots [n.val] s t ∧ SameBanks (s.banksOf n) s t ∧
      (s.bit PRL_TREE_MASTER = false → t = { s with regs := t.regs, roots := t.roots, banks := t.banks, free := t.free } ∧
        SameWords ([SYN_STAT n, SYN_HOPSTAT n, SEQ_STAT n, PRL_ALIGN n] ++ (s.banksOf n).map BNK_DLLCW) s t)) ∧
  (∀ (n : Fin 4) (s : State) (q : HopReq), s.seqFree n = true → ((s.root n).hop = some (q, .waiting) ∨ ((s.root n).hop = none ∧ (s.root n).pend = some q ∧ s.isLocked n = true)) → s.hopTime n q = true → s.rangeOk n (s.root n).ss (s.presetWord n q.preset) = true → ((s.rootState n = stSearch ∨ s.rootState n = stAcquire ∨ s.rootState n = stCount) ∨ (s.inBand n (s.root n).ss (s.presetWord n q.preset) = false ∧ s.bit (SYN_CTRL_PIN n) = false)) → 
      ∃ t, exec (.hopStart n) s = .next t ∧ (t.root n).hop = some (q, .search) ∧ (t.root n).base = s.presetWord n q.preset ∧ t.rootState n = stSearch ∧ (t.root n).band = 32 ∧ (t.root n).lock = false ∧
      (t.root n).eff = (s.root n).eff ++ [.put (SYN_STAT_PRESETACT n) q.preset] ++ [.put (SYN_STAT_STATE n) stSearch, .put (SYN_STAT_LOCK n) 0, .count (SYN_SRCHCNT_COUNT n), .put (SYN_STAT_BAND n) 32, .put (SYN_CSTAT_AVGVALID n) 0] ++ (if (s.root n).everLock then [Eff.slip] else []) ∧
      t.bit (SYN_FLAGS_LOL n) = s.bit (SYN_FLAGS_LOL n) ∧ (t.root n).rt = 4 ∧ t.get (SEQ_STAT_ROUTINE n) = 4 ∧
      (q.src.isLink = false → t.get (PRL_ALIGN_ALIGNED n) = 0 ∧ t.get (PRL_ALIGN_WHY n) = 4) ∧ SameRoots [n.val] s t ∧
      (s.bit PRL_TREE_MASTER = false → t = { s with regs := t.regs, roots := t.roots } ∧ SameWords [SYN_STAT n, SYN_HOPSTAT n, SYN_CSTAT n, SEQ_STAT n, PRL_ALIGN n] s t)) ∧
  (∀ (n : Fin 4) (s : State) (q : HopReq), s.seqFree n = true → ((s.root n).hop = some (q, .waiting) ∨ ((s.root n).hop = none ∧ (s.root n).pend = some q ∧ s.isLocked n = true)) → s.hopTime n q = true → s.rangeOk n (s.root n).ss (s.presetWord n q.preset) = true → s.rootState n = stLocked → s.inBand n (s.root n).ss (s.presetWord n q.preset) = false → s.bit (SYN_CTRL_PIN n) = true → 
      ∃ t, exec (.hopStart n) s = .next t ∧ (t.root n).hop = none ∧ t.rootState n = stLocked ∧ (t.root n).base = (s.root n).base ∧ t.get (SYN_HOPSTAT_RESULT n) = 3 ∧
      t.bit (SYN_FLAGS_HOPREF n) = true ∧ t.bit (SYN_STAT_HOPBUSY n) = false) ∧
  (∀ (n : Fin 4) (s : State), s.rootState n = stHop → s.hopInBand n = true → 16 ≤ (s.root n).settle → s.seqRuns n = true → 
      ∃ t, exec (.hopSettled n) s = .next t ∧ t.rootState n = stLocked ∧ (t.root n).hop = none ∧ (t.root n).done = true ∧
      (t.root n).eff = (s.root n).eff ++ [.put (SYN_STAT_STATE n) stLocked] ++ (match (s.root n).hop with
        | some q => [.put (SYN_STAT_HOPBUSY n) 0, .hop q.1 1 Code.OK true]
        | none => []) ∧
      t = { s with roots := t.roots } ∧ SameRoots [n.val] s t)

/-- PHSTEP adds its signed 24-bit value to PHPEND, which saturates at plus or minus 2^31 - 1 and then sets PHSAT; from
software it voids the alignment. FPD_CYCLE outside OFF and WAKE: the divide value stays within 16 to 255. With an
edge and the loop not frozen, in ACQUIRE it enters COUNT on the first error within W and in COUNT counts it up to N
or falls back, without FAULT; in LOCKED, HOP and RAMP it counts errors beyond 2W toward the loss. In LOCKED or RAMP
with a loop that is neither faulted nor frozen PHPEND moves one toward 0 and PHPOS with it, unless a work-off step
that the cycle before put off takes this cycle's place; else neither moves. A cycle touches this root, the banks
that select it, and the registers CSTAT, PHPEND, PHPOS, PHCARRY and those banks' DLLCW only. SEQUENCER_STEP_COMMIT
of a valid step of a routine (a ramp's where the step has ended) shows the effects that waited: a settled hop of
SYNn_HOP becomes STATE LOCKED, HOPBUSY 0, RESULT 1 and one more in HOPCNT modulo its field, and with that, its last
step, the routine ends. A step of a ramp counts SEQn_STAT.STEP and shows the word in force in FWACTLO and FWACTHI.
With a disable waiting the routine of the boundary gives way to the OFF step, and the root is OFF: STATE OFF, LOCK
and HOPBUSY 0, no T-clock, the DLLs of its banks without a clock. While no routine runs a commit shows the word in
force alone. The model's choices here, which are no rule of the spec, by their log entries: what waits for the
commit and what an idle commit shows (97, 98), what a cycle without an edge leaves (102), which of two steps that
meet is put off (103). -/
def Obligations.PhaseStepsCyclesAndStepBoundaries : Prop :=
  (∀ (src : Source) (n : Fin 4) (w : Word) (s : State), s.rowServed src (SYN_PHSTEP n) true = true → -(2 ^ 31 - 1 : Int) ≤ s.geti (SYN_PHPEND_PEND n) + signed 24 (fld w 0 24) → s.geti (SYN_PHPEND_PEND n) + signed 24 (fld w 0 24) ≤ 2 ^ 31 - 1 → 
      ∃ t, exec (.phstep src n w) s = .next t ∧ t.geti (SYN_PHPEND_PEND n) = s.geti (SYN_PHPEND_PEND n) + signed 24 (fld w 0 24) ∧
      (src = .firmware → RegsOnly [SYN_PHPEND n] s t) ∧
      (src ≠ .firmware → t.get (PRL_ALIGN_ALIGNED n) = 0 ∧ t.get (PRL_ALIGN_WHY n) = 6 ∧
        (s.bit PRL_TREE_MASTER = false → t = { s with regs := t.regs, roots := t.roots } ∧ SameRoots [n.val] s t ∧ SameWords [SYN_PHPEND n, PRL_ALIGN n] s t))) ∧
  (∀ (n : Fin 4) (w : Word) (s : State), s.rowServed .firmware (SYN_PHSTEP n) true = true → 2 ^ 31 - 1 < s.geti (SYN_PHPEND_PEND n) + signed 24 (fld w 0 24) → 
      ∃ t, exec (.phstep .firmware n w) s = .next t ∧ t.geti (SYN_PHPEND_PEND n) = 2 ^ 31 - 1 ∧ t.bit (SYN_FLAGS_PHSAT n) = true ∧ RegsIrq [SYN_PHPEND n, SYN_FLAGS n] s t) ∧
  (∀ (n : Fin 4) (e : Option Int) (corr : Int) (s : State), s.rootState n ≠ stOff → s.rootState n ≠ stWake → 
      ∃ t, exec (.fpdCycle n e corr) s = .next t ∧ 16 ≤ (t.root n).divv ∧ (t.root n).divv ≤ 255 ∧
      t.geti (SYN_PHPEND_PEND n) = s.geti (SYN_PHPEND_PEND n) -
        (if s.stepperOn n = true ∧ ¬((s.root n).woDue = true ∧ s.bit (SYN_CSTAT_WORKING n) = true) then sgn (s.geti (SYN_PHPEND_PEND n)) else 0) ∧
      (s.stepperOn n = false → t.geti (SYN_PHPOS_POS n) = s.geti (SYN_PHPOS_POS n)) ∧
      t = { s with regs := t.regs, roots := t.roots, banks := t.banks, free := t.free } ∧ SameRoots [n.val] s t ∧ SameBanks (s.banksOf n) s t ∧
      SameWords ([SYN_CSTAT n, SYN_PHPEND n, SYN_PHPOS n, SYN_PHCARRY n] ++ (s.banksOf n).map BNK_DLLCW) s t) ∧
  (∀ (n : Fin 4) (x corr : Int) (s : State), (s.rootState n = stAcquire ∨ s.rootState n = stCount) → (s.root n).frozen = false → s.bit (SEQ_STAT_FAULT n) = false → 
      ∃ t, exec (.fpdCycle n (some x) corr) s = .next t ∧ (x.natAbs ≤ s.lockW n → t.rootState n = stCount ∧
        (t.root n).cnt = (if s.rootState n = stAcquire then 1 else min ((s.root n).cnt + 1) (s.lockN n))) ∧
      (s.lockW n < x.natAbs → t.rootState n = stAcquire ∧ (s.rootState n = stCount → (t.root n).cnt = 0))) ∧
  (∀ (n : Fin 4) (x corr : Int) (s : State), (s.rootState n = stLocked ∨ s.rootState n = stHop ∨ s.rootState n = stRamp) → (s.root n).frozen = false → 
      ∃ t, exec (.fpdCycle n (some x) corr) s = .next t ∧ t.rootState n = s.rootState n ∧
     (t.root n).loss = (if 2 * s.lockW n < x.natAbs then min ((s.root n).loss + 1) (s.lossN n) else 0)) ∧
  (∀ (n : Fin 4) (corr : Int) (s : State), s.rootState n ≠ stOff → s.rootState n ≠ stWake → 
      ∃ t, exec (.fpdCycle n none corr) s = .next t ∧ t.rootState n = s.rootState n ∧ (t.root n).cnt = (s.root n).cnt ∧ (t.root n).loss = (s.root n).loss) ∧
  (∀ (n : Fin 4) (words : List (Option Nat)) (s : State) (q : HopReq), (s.root n).rt = 3 → (s.root n).done = true → q.src = .none → (s.root n).eff = [.put (SYN_STAT_STATE n) stLocked, .put (SYN_STAT_HOPBUSY n) 0, .hop q 1 Code.OK true] → (s.root n).waitOff = false → (s.root n).waitLoss = false → (s.root n).waitAbort = false → (s.root n).pend = none → (s.root n).waitRamp = none → 
      ∃ t, exec (.sequencerStepCommit n false words) s = .next t ∧ t.get (SYN_STAT_STATE n) = stLocked ∧ t.bit (SYN_STAT_HOPBUSY n) = false ∧ t.get (SYN_HOPSTAT_RESULT n) = 1 ∧
      t.get (SYN_HOPSTAT_LASTPRESET n) = q.preset % 16 ∧ t.get (SYN_HOPSTAT_HOPCNT n) = (s.get (SYN_HOPSTAT_HOPCNT n) + 1) % 2 ^ (SYN_HOPSTAT_HOPCNT n).len ∧
      (t.root n).rt = 0 ∧ t.bit (SEQ_STAT_BUSY n) = false ∧ (t.root n).eff = [] ∧
      t = { s with regs := t.regs, roots := t.roots } ∧ SameRoots [n.val] s t ∧ SameWords [SYN_STAT n, SYN_HOPSTAT n, SEQ_STAT n, SYN_RSTAT n, SYN_FWACTLO n, SYN_FWACTHI n, SYN_SSSTAT n] s t) ∧
  (∀ (n : Fin 4) (words : List (Option Nat)) (s : State), (s.root n).rt = 5 → (s.root n).stepDue = true → (s.root n).done = false → (s.root n).eff = [] → (s.root n).waitOff = false → (s.root n).waitLoss = false → (s.root n).waitAbort = false → (s.root n).pend = none → (s.root n).waitRamp = none → 
      ∃ t, exec (.sequencerStepCommit n false words) s = .next t ∧ t.get (SYN_FWACTLO_FRAC n) = s.wordInForce n % 2 ^ 32 ∧ t.get (SYN_FWACTHI_FRACHI n) = s.wordInForce n / 2 ^ 32 % 2 ^ 8 ∧
      t.get (SYN_FWACTHI_INT n) = s.wordInForce n / 2 ^ 40 % 2 ^ (SYN_FWACTHI_INT n).len ∧ (t.root n).stepDue = false ∧ (t.root n).rt = 5 ∧
      t.get (SEQ_STAT_STEP n) = (s.get (SEQ_STAT_STEP n) + 1) % 2 ^ 24 ∧ (t.root n).com.st = s.rootState n ∧ (t.root n).com.base = (s.root n).base ∧ (t.root n).com.ramp = (s.root n).ramp ∧
      t = { s with regs := t.regs, roots := t.roots } ∧ SameRoots [n.val] s t ∧ SameWords [SEQ_STAT n, SYN_RSTAT n, SYN_FWACTLO n, SYN_FWACTHI n, SYN_SSSTAT n] s t) ∧
  (∀ (n : Fin 4) (invalid : Bool) (words : List (Option Nat)) (s : State), (s.root n).rt = 0 → (s.root n).waitOff = false → (s.root n).waitLoss = false → (s.root n).waitAbort = false → (s.root n).pend = none → (s.root n).waitRamp = none → 
      ∃ t, exec (.sequencerStepCommit n invalid words) s = .next t ∧ t.get (SYN_FWACTLO_FRAC n) = s.wordInForce n % 2 ^ 32 ∧ t.rootState n = s.rootState n ∧ (t.root n).eff = (s.root n).eff ∧
      t = { s with regs := t.regs, roots := t.roots } ∧ SameRoots [n.val] s t ∧ SameWords [SYN_FWACTLO n, SYN_FWACTHI n, SYN_SSSTAT n] s t) ∧
  (∀ (n : Fin 4) (words : List (Option Nat)) (s : State), (s.root n).waitOff = true → (s.root n).hop = none → (s.root n).eff = [] → ((s.root n).rt = 9 ∨ (s.root n).rt = 1 ∨ (s.root n).rt = 2) → 
      ∃ t, exec (.sequencerStepCommit n false words) s = .next t ∧ t.rootState n = stOff ∧ t.get (SYN_STAT_STATE n) = stOff ∧ t.bit (SYN_STAT_LOCK n) = false ∧ t.bit (SYN_STAT_HOPBUSY n) = false ∧
      (t.root n).tclk = false ∧ (t.root n).ramp = none ∧ (t.root n).waitOff = false ∧ t.get (SEQ_STAT_ROUTINE n) = (if (s.root n).rt = 9 then 0 else 9) ∧
      (∀ b : Fin 8, s.get (BNK_STAT_ROOTACT b) = n.val → t.get (BNK_STAT_DLLSTATE b) = 0) ∧
      t = { s with regs := t.regs, roots := t.roots, banks := t.banks, caps := t.caps } ∧ SameRoots [n.val] s t ∧ SameBanks (s.banksOf n) s t ∧
      SameCaps (bankChans (s.banksOf n)) s t)

/-- SEQUENCER_STEP_COMMIT of a step of a routine (a ramp's where the step has ended) that decoded an invalid
microinstruction sets SEQn_STAT.FAULT, ends the routine (no routine runs, BUSY 0) and commits none of the step: what
waited for the commit is gone, and the state, the band and the base word are those last committed, with the word in
force shown as it was. With FAULT 1 no routine starts: WAKE_DONE, HOP_START, REFERENCE_EDGES_RETURN,
ACQUISITION_TIMEOUT and SPREAD_PERIOD_BOUNDARY change nothing, LOSS_OF_LOCK, FREQ_WINDOW_END and a ramp start leave
the routine as it is; a phase-detector cycle leaves PHPEND and PHPOS. EN going from 0 to 1 with no failing check
clears FAULT. -/
def Obligations.InvalidMicroinstructionFaults : Prop :=
  (∀ (n : Fin 4) (words : List (Option Nat)) (s : State), (s.root n).rt ≠ 0 → ((s.root n).rt = 5 → (s.root n).stepDue = true) → (s.root n).waitOff = false → 
      ∃ t, exec (.sequencerStepCommit n true words) s = .next t ∧ t.bit (SEQ_STAT_FAULT n) = true ∧ t.bit (SEQ_STAT_BUSY n) = false ∧ (t.root n).rt = 0 ∧ (t.root n).eff = [] ∧
      ((s.root n).intr = none → t.get (SEQ_STAT_ROUTINE n) = 0) ∧ t.rootState n = (s.root n).com.st ∧ (t.root n).band = (s.root n).com.band ∧
      (t.root n).base = (s.root n).com.base ∧ ((s.root n).rt = 5 → (t.root n).ramp = none) ∧ (t.root n).ss = (s.root n).com.ss ∧ (t.root n).lock = (s.root n).com.lock ∧
      (t.root n).coasting = (s.root n).com.coasting ∧ t = { s with regs := t.regs, roots := t.roots } ∧ SameRoots [n.val] s t ∧ SameWords [SEQ_STAT n, SYN_FWACTLO n, SYN_FWACTHI n, SYN_SSSTAT n] s t) ∧
  (∀ (n : Fin 4) (s : State), s.bit (SEQ_STAT_FAULT n) = true → 
      exec (.wakeDone n) s = .next s ∧ exec (.hopStart n) s = .next s ∧ exec (.referenceEdgesReturn n) s = .next s ∧ exec (.acquisitionTimeout n) s = .next s ∧
      exec (.spreadPeriodBoundary n) s = .next s) ∧
  (∀ (n : Fin 4) (s : State) (src : Source) (w : Word) (count : Nat), s.rowServed src (SYN_RCTRL n) true = true → s.bit (SEQ_STAT_FAULT n) = true → s.bit (SEQ_STAT_SUSP n) = false → 
      (∃ t, exec (.lossOfLock n) s = .next t ∧ (t.root n).rt = (s.root n).rt) ∧ (∃ t, exec (.freqWindowEnd n count) s = .next t ∧ (t.root n).rt = (s.root n).rt) ∧
      (∃ t, exec (.rampStart src n w) s = .next t ∧ (t.root n).rt = (s.root n).rt ∧ t.rootState n = s.rootState n)) ∧
  (∀ (n : Fin 4) (e : Option Int) (corr : Int) (s : State), s.bit (SEQ_STAT_FAULT n) = true → s.rootState n ≠ stOff → s.rootState n ≠ stWake → 
      ∃ t, exec (.fpdCycle n e corr) s = .next t ∧ t.get (SYN_PHPEND_PEND n) = s.get (SYN_PHPEND_PEND n) ∧ t.get (SYN_PHPOS_POS n) = s.get (SYN_PHPOS_POS n)) ∧
  (∀ (src : Source) (n : Fin 4) (w : Word) (s : State), s.rowServed src (SYN_CTRL n) true = true → s.bit (SYN_CTRL_EN n) = false → wbit w 0 = true → wbit w 1 = false → wbit w 2 = false → (s.writeReg (SYN_CTRL n) (BitVec.ofNat 32 (fieldPut w.toNat 0 1 0)) fullMask).enableWhy n = 0 → 
      ∃ t, exec (.rootEnable src n w) s = .next t ∧ t.bit (SEQ_STAT_FAULT n) = false)

/-- A write of SYNn_RCTRL.START with TRIG 0 or 3, with no check failing, starts the ramp on an idle sequencer, a
suspended one dropped first: RAMP, segment 0 copied from the table, PASS 0, routine 5, ARM 0; while a step of a
routine runs the accepted start waits for its commit. A start that fails a check leaves the state of the root,
clears ARM and shows LASTRES 3, 4, 5 or 6 as the first failing check gives. A write of ARM alone arms and clears
IGNCNT. RAMP_DWELL_END at the end of a dwell whose step has been committed: on a segment before the last it starts
the next segment of the same pass, or ends the ramp where its target is refused; on the last segment it counts the
pass and starts the next from segment 0 or, on the last pass, ends in LOCKED with LASTRES 1 and the base word as it
is. SPREAD_PERIOD_BOUNDARY at the start of a period, while the sequencer runs routines, with a written change: with
EN 1 the settings that the registers hold come into force from cycle 0 when they pass their checks, with LASTRES 1
and PERIOD to be shown; settings that fail their checks leave the spread, whose DEPTH follows the base, with LASTRES
2, 3 or 4 to be shown; with EN 0 the spread ends with LASTRES 1 to be shown. Each is the SPREAD step, routine 6, or
goes with the step of the routine that runs; the commit of a SPREAD step shows them and ends it. The change is
looked at once: without a new write the next boundary changes the DEPTH alone. The model's choices here, which are
no rule of the spec, by their log entries: when NSEG and REPEAT are read (22), when spread settings are read (23),
which registers wait for the commit (97), a SPREAD change that comes due within another routine (98), a ramp that
meets a single step (133). -/
def Obligations.RampsAndSpread : Prop :=
  (∀ (src : Source) (n : Fin 4) (w : Word) (s : State), s.rowServed src (SYN_RCTRL n) true = true → wbit w 0 = true → ((s.writeReg (SYN_RCTRL n) w fullMask).get (SYN_RCTRL_TRIG n) = 0 ∨ (s.writeReg (SYN_RCTRL n) w fullMask).get (SYN_RCTRL_TRIG n) = 3) → (s.writeReg (SYN_RCTRL n) w fullMask).rampWhy n = 0 → (s.root n).rt = 0 → 
      ∃ t, exec (.rampStart src n w) s = .next t ∧ t.rootState n = stRamp ∧ t.get (SYN_STAT_STATE n) = stRamp ∧
      (t.root n).ramp = some { seg := 0, pass := 0, passes := (if fld w 16 8 = 255 then none else some (fld w 16 8 + 1)), cur := s.seg n 0, dwelling := decide ((s.seg n 0).slope ≠ 0 ∧ (s.root n).base = (s.seg n 0).target), left := (s.seg n 0).dwell } ∧
      t.bit (SYN_RCTRL_ARM n) = false ∧ t.get (SYN_RSTAT_PASS n) = 0 ∧ t.get (SYN_RSTAT_SEG n) = 0 ∧ (t.root n).rt = 5 ∧ t.get (SEQ_STAT_ROUTINE n) = 5 ∧
      t.get (SEQ_STAT_STEP n) = 0 ∧ t.bit (SEQ_STAT_SUSP n) = false ∧ t.get (PRL_ALIGN_ALIGNED n) = 0 ∧ SameRoots [n.val] s t ∧
      (s.bit PRL_TREE_MASTER = false → (s.root n).hop = none → t = { s with regs := t.regs, roots := t.roots } ∧
        SameWords [SYN_RCTRL n, SYN_RSTAT n, SYN_STAT n, SEQ_STAT n, PRL_ALIGN n, SYN_FWACTLO n, SYN_FWACTHI n, SYN_SSSTAT n] s t)) ∧
  (∀ (src : Source) (n : Fin 4) (w : Word) (s : State), s.rowServed src (SYN_RCTRL n) true = true → wbit w 0 = true → ((s.writeReg (SYN_RCTRL n) w fullMask).get (SYN_RCTRL_TRIG n) = 0 ∨ (s.writeReg (SYN_RCTRL n) w fullMask).get (SYN_RCTRL_TRIG n) = 3) → (s.writeReg (SYN_RCTRL n) w fullMask).rampWhy n = 0 → (s.root n).rt ≠ 0 → 
      ∃ t, exec (.rampStart src n w) s = .next t ∧ (t.root n).waitRamp = some (.start false) ∧ t.rootState n = s.rootState n ∧ (t.root n).rt = (s.root n).rt ∧ (t.root n).base = (s.root n).base ∧ t.bit (SYN_RCTRL_ARM n) = false ∧
      t = { s with regs := t.regs, roots := t.roots } ∧ SameRoots [n.val] s t ∧ SameWords [SYN_RCTRL n, SYN_RSTAT n, SEQ_STAT n] s t) ∧
  (∀ (src : Source) (n : Fin 4) (w : Word) (s : State), s.rowServed src (SYN_RCTRL n) true = true → wbit w 0 = true → ((s.writeReg (SYN_RCTRL n) w fullMask).get (SYN_RCTRL_TRIG n) = 0 ∨ (s.writeReg (SYN_RCTRL n) w fullMask).get (SYN_RCTRL_TRIG n) = 3) → (s.writeReg (SYN_RCTRL n) w fullMask).rampWhy n ≠ 0 → 
      ∃ t, exec (.rampStart src n w) s = .next t ∧ t.get (SYN_RSTAT_LASTRES n) = (s.writeReg (SYN_RCTRL n) w fullMask).rampWhy n ∧ t.rootState n = s.rootState n ∧ t.bit (SYN_RCTRL_ARM n) = false ∧ (t.root n).base = (s.root n).base ∧
      (s.bit (SEQ_STAT_SUSP n) = false → RegsOnly [SYN_RCTRL n, SYN_RSTAT n] s t) ∧ t = { s with regs := t.regs, roots := t.roots } ∧ SameRoots [n.val] s t ∧ SameWords [SYN_RCTRL n, SYN_RSTAT n, SEQ_STAT n] s t) ∧
  (∀ (src : Source) (n : Fin 4) (w : Word) (s : State), s.rowServed src (SYN_RCTRL n) true = true → wbit w 0 = false → wbit w 3 = true → 
      ∃ t, exec (.rampArm src n w) s = .next t ∧ t.bit (SYN_RCTRL_ARM n) = true ∧ t.get (SYN_RSTAT_IGNCNT n) = 0 ∧ t.rootState n = s.rootState n ∧
      RegsOnly [SYN_RCTRL n, SYN_RSTAT n] s t) ∧
  (∀ (n : Fin 4) (s : State) (q : Ramp), (s.root n).ramp = some q → s.rootState n = stRamp → (s.root n).rt = 5 → q.dwelling = true → q.left = 0 → (s.root n).stepDue = false → s.seqRuns n = true → q.seg < s.get (SYN_RCTRL_NSEG n) → s.targetWhy n (s.seg n (q.seg + 1)).target = 0 → 
      ∃ t, exec (.rampDwellEnd n) s = .next t ∧ (t.root n).ramp = some { seg := q.seg + 1, pass := q.pass, passes := q.passes, cur := s.seg n (q.seg + 1), dwelling := decide ((s.seg n (q.seg + 1)).slope ≠ 0 ∧ (s.root n).base = (s.seg n (q.seg + 1)).target), left := (s.seg n (q.seg + 1)).dwell } ∧
      t.rootState n = stRamp ∧ t.get (SYN_RSTAT_SEG n) = (q.seg + 1) % 2 ^ (SYN_RSTAT_SEG n).len ∧ t.get (SEQ_STAT_STEP n) = 0 ∧ (t.root n).base = (s.root n).base ∧
      t = { s with regs := t.regs, roots := t.roots } ∧ SameRoots [n.val] s t ∧ SameWords [SYN_RSTAT n, SEQ_STAT n, SYN_FWACTLO n, SYN_FWACTHI n, SYN_SSSTAT n] s t) ∧
  (∀ (n : Fin 4) (s : State) (q : Ramp), (s.root n).ramp = some q → s.rootState n = stRamp → (s.root n).rt = 5 → q.dwelling = true → q.left = 0 → (s.root n).stepDue = false → s.seqRuns n = true → (s.root n).eff = [] → (s.root n).waitOff = false → q.seg < s.get (SYN_RCTRL_NSEG n) → s.targetWhy n (s.seg n (q.seg + 1)).target ≠ 0 → 
      ∃ t, exec (.rampDwellEnd n) s = .next t ∧ t.rootState n = stLocked ∧ (t.root n).ramp = none ∧ (t.root n).base = (s.root n).base ∧ t.get (SYN_RSTAT_LASTRES n) = s.targetWhy n (s.seg n (q.seg + 1)).target ∧
      (t.root n).rt = 0 ∧ t = { s with regs := t.regs, roots := t.roots } ∧ SameRoots [n.val] s t ∧ SameWords [SYN_STAT n, SYN_RSTAT n, SEQ_STAT n, SYN_FWACTLO n, SYN_FWACTHI n, SYN_SSSTAT n] s t) ∧
  (∀ (n : Fin 4) (s : State) (q : Ramp), (s.root n).ramp = some q → s.rootState n = stRamp → (s.root n).rt = 5 → q.dwelling = true → q.left = 0 → (s.root n).stepDue = false → s.seqRuns n = true → s.get (SYN_RCTRL_NSEG n) ≤ q.seg → (q.passes.all (fun k => decide (q.pass + 1 < k)) = true) → s.targetWhy n (s.seg n 0).target = 0 → 
      ∃ t, exec (.rampDwellEnd n) s = .next t ∧ t.rootState n = stRamp ∧ ((t.root n).ramp.map (fun r => (r.seg, r.pass, r.passes, r.cur))) = some (0, q.pass + 1, q.passes, s.seg n 0) ∧
      t.get (SYN_RSTAT_PASS n) = (s.get (SYN_RSTAT_PASS n) + 1) % 2 ^ (SYN_RSTAT_PASS n).len ∧ t.get (SYN_RSTAT_SEG n) = 0 ∧
      t = { s with regs := t.regs, roots := t.roots } ∧ SameRoots [n.val] s t ∧ SameWords [SYN_RSTAT n, SEQ_STAT n, SYN_FWACTLO n, SYN_FWACTHI n, SYN_SSSTAT n] s t) ∧
  (∀ (n : Fin 4) (s : State) (q : Ramp) (k : Nat), (s.root n).ramp = some q → s.rootState n = stRamp → (s.root n).rt = 5 → q.dwelling = true → q.left = 0 → (s.root n).stepDue = false → s.seqRuns n = true → (s.root n).eff = [] → (s.root n).waitOff = false → s.get (SYN_RCTRL_NSEG n) ≤ q.seg → q.passes = some k → k ≤ q.pass + 1 → 
      ∃ t, exec (.rampDwellEnd n) s = .next t ∧ t.rootState n = stLocked ∧ t.get (SYN_STAT_STATE n) = stLocked ∧ (t.root n).ramp = none ∧ (t.root n).base = (s.root n).base ∧ t.get (SYN_RSTAT_LASTRES n) = 1 ∧
      t.get (SYN_RSTAT_PASS n) = (s.get (SYN_RSTAT_PASS n) + 1) % 2 ^ (SYN_RSTAT_PASS n).len ∧ (t.root n).rt = 0 ∧ t.bit (SEQ_STAT_BUSY n) = false ∧
      t = { s with regs := t.regs, roots := t.roots } ∧ SameRoots [n.val] s t ∧ SameWords [SYN_STAT n, SYN_RSTAT n, SEQ_STAT n, SYN_FWACTLO n, SYN_FWACTHI n, SYN_SSSTAT n] s t) ∧
  (∀ (n : Fin 4) (s : State), spreadRuns (s.rootState n) = true → ((s.root n).ss = none ∨ (s.root n).ssk = 0) → s.seqRuns n = true → s.spreadPending n = true → s.bit (SYN_SSCTRL_EN n) = true → s.spreadWhy n (s.spreadWanted n) = 0 → 
      ∃ t, exec (.spreadPeriodBoundary n) s = .next t ∧ (t.root n).ss = some (s.spreadWanted n) ∧ (t.root n).ssk = 0 ∧ (t.root n).ssReq = false ∧ (t.root n).base = (s.root n).base ∧ (t.root n).rt = (if (s.root n).rt = 0 then 6 else (s.root n).rt) ∧
      (t.root n).eff = (s.root n).eff ++ [.put (SYN_SSSTAT_LASTRES n) 1, .put (SYN_SSSTAT_PERIOD n) (s.spreadWanted n).period] ∧
      ((s.root n).ss = none → t.get (PRL_ALIGN_ALIGNED n) = 0 ∧ t.get (PRL_ALIGN_WHY n) = 5) ∧ SameRoots [n.val] s t ∧
      ((s.root n).ss ≠ none ∨ s.bit PRL_TREE_MASTER = false → t = { s with regs := t.regs, roots := t.roots, banks := t.banks, free := t.free } ∧ SameBanks (s.banksOf n) s t ∧ SameWords ([SEQ_STAT n, PRL_ALIGN n] ++ (s.banksOf n).map BNK_DLLCW) s t)) ∧
  (∀ (n : Fin 4) (s : State), spreadRuns (s.rootState n) = true → ((s.root n).ss = none ∨ (s.root n).ssk = 0) → s.seqRuns n = true → s.spreadPending n = true → s.bit (SYN_SSCTRL_EN n) = true → s.spreadWhy n (s.spreadWanted n) ≠ 0 → 
      ∃ t, exec (.spreadPeriodBoundary n) s = .next t ∧ (t.root n).ss = (s.root n).ss.map (fun sp => { sp with depth := spreadDepth (s.root n).base sp.ppm }) ∧ (t.root n).ssReq = false ∧ (t.root n).base = (s.root n).base ∧ (t.root n).rt = (if (s.root n).rt = 0 then 6 else (s.root n).rt) ∧
      (t.root n).eff = (s.root n).eff ++ [.put (SYN_SSSTAT_LASTRES n) (s.spreadWhy n (s.spreadWanted n))] ∧
      t = { s with regs := t.regs, roots := t.roots, banks := t.banks, free := t.free } ∧ SameBanks (s.banksOf n) s t ∧ SameRoots [n.val] s t ∧ SameWords (SEQ_STAT n :: (s.banksOf n).map BNK_DLLCW) s t) ∧
  (∀ (n : Fin 4) (s : State), spreadRuns (s.rootState n) = true → ((s.root n).ss = none ∨ (s.root n).ssk = 0) → s.seqRuns n = true → s.spreadPending n = true → s.bit (SYN_SSCTRL_EN n) = false → 
      ∃ t, exec (.spreadPeriodBoundary n) s = .next t ∧ (t.root n).ss = none ∧ (t.root n).ssk = 0 ∧ (t.root n).ssReq = false ∧ (t.root n).rt = (if (s.root n).rt = 0 then 6 else (s.root n).rt) ∧ (t.root n).eff = (s.root n).eff ++ [.put (SYN_SSSTAT_LASTRES n) 1] ∧
      t = { s with regs := t.regs, roots := t.roots, banks := t.banks, free := t.free } ∧ SameBanks (s.banksOf n) s t ∧ SameRoots [n.val] s t ∧ SameWords (SEQ_STAT n :: (s.banksOf n).map BNK_DLLCW) s t) ∧
  (∀ (n : Fin 4) (s : State), spreadRuns (s.rootState n) = true → ((s.root n).ss = none ∨ (s.root n).ssk = 0) → s.seqRuns n = true → s.spreadPending n = false → 
      ∃ t, exec (.spreadPeriodBoundary n) s = .next t ∧ (t.root n).ss = (s.root n).ss.map (fun sp => { sp with depth := spreadDepth (s.root n).base sp.ppm }) ∧ (t.root n).ssReq = false ∧ (t.root n).eff = (s.root n).eff ∧ (t.root n).rt = (s.root n).rt ∧
      t = { s with regs := t.regs, roots := t.roots, banks := t.banks, free := t.free } ∧ SameBanks (s.banksOf n) s t ∧ SameRoots [n.val] s t ∧ SameWords ((s.banksOf n).map BNK_DLLCW) s t) ∧
  (∀ (n : Fin 4) (words : List (Option Nat)) (p : Nat) (s : State), (s.root n).rt = 6 → (s.root n).eff = [.put (SYN_SSSTAT_LASTRES n) 1, .put (SYN_SSSTAT_PERIOD n) p] → (s.root n).waitOff = false → (s.root n).waitLoss = false → (s.root n).waitRamp = none → 
      ∃ t, exec (.sequencerStepCommit n false words) s = .next t ∧ t.get (SYN_SSSTAT_LASTRES n) = 1 ∧ t.get (SYN_SSSTAT_PERIOD n) = p % 2 ^ (SYN_SSSTAT_PERIOD n).len ∧
      t.bit (SYN_SSSTAT_ACTIVE n) = ((s.root n).ss.isSome && spreadRuns (s.rootState n)) ∧ (t.root n).rt = 0 ∧
      t = { s with regs := t.regs, roots := t.roots } ∧ SameRoots [n.val] s t ∧ SameWords [SEQ_STAT n, SYN_RSTAT n, SYN_FWACTLO n, SYN_FWACTHI n, SYN_SSSTAT n] s t)

/-- SEQ_ABORT while a step runs waits, and between two steps of a ramp suspends it at once; at the next valid step
boundary of a ramp with no disable, no loss and no hop waiting the ramp is suspended: SUSP 1, the base word
committed there is the checkpoint and the root is LOCKED; without a routine ABORT does nothing. RESUME of a
suspended ramp on a locked root with no executing hop and the base at the checkpoint returns to RAMP with its
segment, its pass and its STEP; with another base LASTRES is 7, and not locked or with a hop LASTRES is 8. DROP of a
suspended ramp clears SUSP with LASTRES 2 and leaves the base word; DROP of a running one ends it in LOCKED so. The
model's choices here, which are no rule of the spec, by their log entries: RESUME with nothing suspended (21), 8
before 7 (92), how an interrupted routine is shown (98), RESUME behind a single step (133). -/
def Obligations.SequencerControls : Prop :=
  (∀ (src : Source) (n : Fin 4) (w : Word) (s : State), s.rowServed src (SEQ_CTRL n) true = true → wbit w 0 = true → wbit w 1 = false → wbit w 2 = false → (s.root n).rt = 0 → 
      exec (.seqAbort src n w) s = .next s) ∧
  (∀ (src : Source) (n : Fin 4) (w : Word) (s : State), s.rowServed src (SEQ_CTRL n) true = true → wbit w 0 = true → wbit w 1 = false → wbit w 2 = false → s.between n = false → 
      ∃ t, exec (.seqAbort src n w) s = .next t ∧ (t.root n).waitAbort = true ∧ t.rootState n = s.rootState n ∧ t = { s with roots := t.roots } ∧ SameRoots [n.val] s t) ∧
  (∀ (src : Source) (n : Fin 4) (w : Word) (s : State), s.rowServed src (SEQ_CTRL n) true = true → wbit w 0 = true → wbit w 1 = false → wbit w 2 = false → (s.root n).rt = 5 → s.between n = true → (s.root n).waitOff = false → (s.root n).waitLoss = false → (s.root n).pend = none → s.bit (SEQ_STAT_FAULT n) = false → 
      ∃ t, exec (.seqAbort src n w) s = .next t ∧ t.bit (SEQ_STAT_SUSP n) = true ∧ t.rootState n = stLocked ∧ (t.root n).checkpoint = (s.root n).com.base ∧ (t.root n).ramp = (s.root n).com.ramp ∧ (t.root n).waitAbort = false ∧ (t.root n).rt = 0 ∧ t = { s with regs := t.regs, roots := t.roots } ∧ SameRoots [n.val] s t ∧ SameWords [SYN_STAT n, SYN_RSTAT n, SEQ_STAT n] s t) ∧
  (∀ (n : Fin 4) (words : List (Option Nat)) (s : State), (s.root n).waitAbort = true → (s.root n).waitOff = false → (s.root n).waitLoss = false → (s.root n).pend = none → s.rootState n = stRamp → (s.root n).rt = 5 → (s.root n).stepDue = true → (s.root n).done = false → (s.root n).eff = [] → (s.root n).waitRamp = none → 
      ∃ t, exec (.sequencerStepCommit n false words) s = .next t ∧ t.bit (SEQ_STAT_SUSP n) = true ∧ t.rootState n = stLocked ∧ t.get (SYN_STAT_STATE n) = stLocked ∧ (t.root n).checkpoint = (s.root n).base ∧
      (t.root n).base = (s.root n).base ∧ (t.root n).ramp = (s.root n).ramp ∧ (t.root n).waitAbort = false ∧ (t.root n).rt = 0 ∧ t.get (SYN_RSTAT_PHASE n) = 3 ∧
      t = { s with regs := t.regs, roots := t.roots } ∧ SameRoots [n.val] s t ∧ SameWords [SYN_STAT n, SYN_RSTAT n, SEQ_STAT n, SYN_FWACTLO n, SYN_FWACTHI n, SYN_SSSTAT n] s t) ∧
  (∀ (src : Source) (n : Fin 4) (w : Word) (s : State), s.rowServed src (SEQ_CTRL n) true = true → wbit w 0 = false → wbit w 1 = true → wbit w 2 = false → s.bit (SEQ_STAT_SUSP n) = true → s.bit (SEQ_STAT_FAULT n) = false → s.rampLocked n = true → (s.root n).hop = none → (s.root n).base = (s.root n).checkpoint → (s.root n).rt = 0 → 
      ∃ t, exec (.resume src n w) s = .next t ∧ t.rootState n = stRamp ∧ t.get (SYN_STAT_STATE n) = stRamp ∧ t.bit (SEQ_STAT_SUSP n) = false ∧ t.bit (SEQ_STAT_BUSY n) = true ∧ (t.root n).rt = 5 ∧ t.get (SEQ_STAT_ROUTINE n) = 5 ∧
      t.get (SEQ_STAT_STEP n) = ((s.root n).intr.getD ⟨5, 0, false⟩).step % 2 ^ 24 ∧ (t.root n).ramp = (s.root n).ramp ∧ (t.root n).base = (s.root n).base ∧
      t = { s with regs := t.regs, roots := t.roots } ∧ SameRoots [n.val] s t ∧ SameWords [SYN_STAT n, SEQ_STAT n, SYN_RSTAT n] s t) ∧
  (∀ (src : Source) (n : Fin 4) (w : Word) (s : State), s.rowServed src (SEQ_CTRL n) true = true → wbit w 0 = false → wbit w 1 = true → wbit w 2 = false → s.bit (SEQ_STAT_SUSP n) = true → s.bit (SEQ_STAT_FAULT n) = false → s.rampLocked n = true → (s.root n).hop = none → (s.root n).base ≠ (s.root n).checkpoint → 
      ∃ t, exec (.resume src n w) s = .next t ∧ t.get (SYN_RSTAT_LASTRES n) = 7 ∧ RegsOnly [SYN_RSTAT n] s t) ∧
  (∀ (src : Source) (n : Fin 4) (w : Word) (s : State), s.rowServed src (SEQ_CTRL n) true = true → wbit w 0 = false → wbit w 1 = true → wbit w 2 = false → s.bit (SEQ_STAT_SUSP n) = true → s.bit (SEQ_STAT_FAULT n) = false → (s.rampLocked n = false ∨ (s.root n).hop ≠ none) → 
      ∃ t, exec (.resume src n w) s = .next t ∧ t.get (SYN_RSTAT_LASTRES n) = 8 ∧ RegsOnly [SYN_RSTAT n] s t) ∧
  (∀ (src : Source) (n : Fin 4) (w : Word) (s : State), s.rowServed src (SEQ_CTRL n) true = true → wbit w 0 = false → wbit w 1 = false → wbit w 2 = true → s.bit (SEQ_STAT_SUSP n) = true → (¬(s.rootState n = stRamp ∧ (s.root n).rt = 5)) → 
      ∃ t, exec (.drop src n w) s = .next t ∧ t.bit (SEQ_STAT_SUSP n) = false ∧ t.get (SYN_RSTAT_LASTRES n) = 2 ∧ t.get (SYN_RSTAT_PHASE n) = 0 ∧ (t.root n).ramp = none ∧ (t.root n).base = (s.root n).base ∧ t.rootState n = s.rootState n ∧
      t = { s with regs := t.regs, roots := t.roots } ∧ SameRoots [n.val] s t ∧ SameWords [SEQ_STAT n, SYN_RSTAT n] s t) ∧
  (∀ (src : Source) (n : Fin 4) (w : Word) (s : State), s.rowServed src (SEQ_CTRL n) true = true → wbit w 0 = false → wbit w 1 = false → wbit w 2 = true → s.rootState n = stRamp → (s.root n).rt = 5 → (s.root n).waitLoss = false → (s.root n).eff = [] → (s.root n).waitOff = false → 
      ∃ t, exec (.drop src n w) s = .next t ∧ t.rootState n = stLocked ∧ t.get (SYN_RSTAT_LASTRES n) = 2 ∧ (t.root n).ramp = none ∧ (t.root n).rt = 0 ∧ (t.root n).base = (s.root n).base ∧
      t = { s with regs := t.regs, roots := t.roots } ∧ SameRoots [n.val] s t ∧ SameWords [SYN_STAT n, SEQ_STAT n, SYN_RSTAT n, SYN_FWACTLO n, SYN_FWACTHI n, SYN_SSSTAT n] s t)

/-- While the root's domain is ON: REFERENCE_LOSS outside OFF sets REFLOSS and COAST, clears LOCK and REFOK, counts
COASTCNT, restarts COASTTIME and freezes the loop at once; an idle sequencer takes it in LOCKED as the COASTIN step,
routine 7, and in WAKE, SEARCH, ACQUIRE or COUNT by FREERUN; a routine that runs takes it at its boundary. The
commit of COASTIN enters COAST on the averaged word, which it shows. In OFF REFLOSS is set and REFOK cleared only.
REFERENCE_EDGES_RETURN in COAST enters QUALIFY as routine 8. A window that passes, with no loss declared within it,
sets REFOK and in QUALIFY enters MEASURE, in FREERUN leaves it; one that fails clears REFOK and sets QUALFAIL in
QUALIFY or REFOFF in LOCKED, HOP and RAMP. MEASURE computes the jump, samples POLICY, enters RECLOSE and, but under
SNAP, adds the jump to the carry. WORKOFF starts a one-shot; WORKOFF_STEP moves the carry one step toward 0 and
PHPOS opposite, or in the next cycle where a pending step had this one. Readable states that a step computes wait
for its commit. The model's choices here, which are no rule of the spec, by their log entries: what of a loss is
readable at once (97), the loss taken by an idle sequencer (98), the sampled POLICY (101), the frozen word and
COASTTIME (102), the step put off (103), WORKOFF in a write that leaves SLEW and FWACT while coasting (132). -/
def Obligations.CoastingAndReturn : Prop :=
  (∀ (n : Fin 4) (s : State), s.domOn (72 + n) = true → s.freed = true → s.rootState n ≠ stOff → (s.root n).waitOff = false → 
      ∃ t, exec (.referenceLoss n) s = .next t ∧ t.bit (SYN_STAT_COAST n) = true ∧ t.bit (SYN_STAT_LOCK n) = false ∧ t.bit (SYN_CSTAT_REFOK n) = false ∧ t.bit (SYN_FLAGS_REFLOSS n) = true ∧
      t.get (SYN_COASTTIME_US n) = 0 ∧ t.get (SYN_COASTCNT_COUNT n) = min (s.get (SYN_COASTCNT_COUNT n) + 1) 0xFFFF ∧ (t.root n).coasting = true ∧ (t.root n).lock = false ∧
      (t.root n).lossInWin = true ∧ (t.root n).base = (s.root n).base ∧
      (s.between n = false ∨ s.bit (SEQ_STAT_FAULT n) = true → (t.root n).waitLoss = true ∧ (t.root n).frozen = true ∧ t.rootState n = s.rootState n) ∧
      ((s.root n).rt = 0 → s.bit (SEQ_STAT_FAULT n) = false → s.rootState n = stLocked → (t.root n).rt = 7 ∧ t.get (SEQ_STAT_ROUTINE n) = 7 ∧ (t.root n).frozen = true ∧ t.rootState n = stLocked) ∧
      ((s.root n).rt = 0 → s.bit (SEQ_STAT_FAULT n) = false → s.rootState n = stWake ∨ s.rootState n = stSearch ∨ s.rootState n = stAcquire ∨ s.rootState n = stCount →
        t.rootState n = stFreerun ∧ t.get (SYN_STAT_STATE n) = stFreerun ∧ (t.root n).lostInWake = decide (s.rootState n = stWake)) ∧
      ((s.root n).hop = none → s.rootState n ≠ stRamp → t = { s with regs := t.regs, roots := t.roots, msixPend := t.msixPend, out := t.out } ∧ SameRoots [n.val] s t ∧
        SameWords [SYN_STAT n, SYN_FLAGS n, SYN_COASTCNT n, SYN_COASTTIME n, SYN_CSTAT n, SEQ_STAT n] s t)) ∧
  (∀ (n : Fin 4) (words : List (Option Nat)) (s : State), (s.root n).rt = 7 → (s.root n).eff = [] → (s.root n).waitOff = false → (s.root n).waitLoss = false → 
      ∃ t, exec (.sequencerStepCommit n false words) s = .next t ∧ t.rootState n = stCoast ∧ t.get (SYN_STAT_STATE n) = stCoast ∧ (t.root n).frozen = false ∧ (t.root n).coastW = s.coastWord n ∧
      t.get (SYN_COASTWLO_FRAC n) = s.coastWord n % 2 ^ 32 ∧ (t.root n).rt = 0 ∧ (t.root n).base = (s.root n).base ∧
      t = { s with regs := t.regs, roots := t.roots } ∧ SameRoots [n.val] s t ∧ SameWords [SYN_STAT n, SYN_RSTAT n, SEQ_STAT n, SYN_COASTWLO n, SYN_COASTWHI n, SYN_FWACTLO n, SYN_FWACTHI n, SYN_SSSTAT n] s t) ∧
  (∀ (n : Fin 4) (s : State), s.domOn (72 + n) = true → s.freed = true → s.rootState n = stOff → 
      ∃ t, exec (.referenceLoss n) s = .next t ∧ t.bit (SYN_FLAGS_REFLOSS n) = true ∧ t.bit (SYN_CSTAT_REFOK n) = false ∧ t.rootState n = stOff ∧ t = { s with regs := t.regs, roots := t.roots, msixPend := t.msixPend, out := t.out } ∧ SameRoots [n.val] s t ∧ SameWords [SYN_FLAGS n, SYN_CSTAT n] s t) ∧
  (∀ (n : Fin 4) (s : State), s.rootState n = stCoast → s.seqRuns n = true → (s.root n).waitOff = false → 
      ∃ t, exec (.referenceEdgesReturn n) s = .next t ∧ t.rootState n = stQualify ∧ (t.root n).rt = 8 ∧ t.get (SEQ_STAT_ROUTINE n) = 8 ∧ (t.root n).lossInWin = false ∧
      (t.root n).eff = (s.root n).eff ++ [.put (SYN_STAT_STATE n) stQualify] ∧ t = { s with regs := t.regs, roots := t.roots } ∧ SameRoots [n.val] s t ∧ SameWords [SEQ_STAT n] s t) ∧
  (∀ (n : Fin 4) (count : Nat) (s : State), s.domOn (72 + n) = true → s.freed = true → s.bit CLK_STAT_XOSTABLE = true → ((count : Int) - s.windowExpect n).natAbs ≤ windowTol (s.windowExpect n) → (s.root n).lossInWin = false → s.rootState n ≠ stFreerun → 
      ∃ t, exec (.freqWindowEnd n count) s = .next t ∧ t.bit (SYN_CSTAT_REFOK n) = true ∧
      t.rootState n = (if s.rootState n = stQualify ∧ s.seqRuns n = true then stMeasure else s.rootState n) ∧
      (t.root n).eff = (s.root n).eff ++ (if s.rootState n = stQualify ∧ s.seqRuns n = true then [.put (SYN_STAT_STATE n) stMeasure] else []) ∧
      t = { s with regs := t.regs, roots := t.roots } ∧ SameRoots [n.val] s t ∧ SameWords [SYN_CSTAT n] s t) ∧
  (∀ (n : Fin 4) (count : Nat) (s : State), s.domOn (72 + n) = true → s.freed = true → s.bit CLK_STAT_XOSTABLE = true → ((count : Int) - s.windowExpect n).natAbs ≤ windowTol (s.windowExpect n) → (s.root n).lossInWin = false → s.rootState n = stFreerun → s.bit (SEQ_STAT_FAULT n) = false → (s.root n).waitOff = false → 
      ∃ t, exec (.freqWindowEnd n count) s = .next t ∧ t.bit (SYN_CSTAT_REFOK n) = true ∧ (t.root n).coasting = false ∧ (t.root n).eff = (s.root n).eff ++ [.put (SYN_STAT_COAST n) 0] ++ (if (s.root n).lostInWake then [.put (SYN_STAT_STATE n) stWake] else [.put (SYN_STAT_STATE n) stSearch, .put (SYN_STAT_LOCK n) 0, .count (SYN_SRCHCNT_COUNT n), .put (SYN_STAT_BAND n) 32, .put (SYN_CSTAT_AVGVALID n) 0] ++ (if (s.root n).everLock then [Eff.slip] else [])) ∧
      t.rootState n = (if (s.root n).lostInWake then stWake else stSearch) ∧ (t.root n).rt = (if (s.root n).lostInWake then 1 else 2) ∧ t = { s with regs := t.regs, roots := t.roots } ∧ SameRoots [n.val] s t ∧
      SameWords [SYN_STAT n, SYN_CSTAT n, SEQ_STAT n] s t) ∧
  (∀ (n : Fin 4) (count : Nat) (s : State), s.domOn (72 + n) = true → s.freed = true → s.bit CLK_STAT_XOSTABLE = true → ((count : Int) - s.windowExpect n).natAbs ≤ windowTol (s.windowExpect n) → (s.root n).lossInWin = true → 
      ∃ t, exec (.freqWindowEnd n count) s = .next t ∧ t.bit (SYN_CSTAT_REFOK n) = s.bit (SYN_CSTAT_REFOK n) ∧ t.rootState n = s.rootState n ∧ (t.root n).lossInWin = false ∧ t = { s with regs := t.regs, roots := t.roots } ∧ SameRoots [n.val] s t ∧ SameWords [SYN_CSTAT n] s t) ∧
  (∀ (n : Fin 4) (count : Nat) (s : State), s.domOn (72 + n) = true → s.freed = true → (s.bit CLK_STAT_XOSTABLE = false ∨ windowTol (s.windowExpect n) < ((count : Int) - s.windowExpect n).natAbs) → 
      ∃ t, exec (.freqWindowEnd n count) s = .next t ∧ t.bit (SYN_CSTAT_REFOK n) = false ∧ t.rootState n = s.rootState n ∧
      (s.rootState n = stQualify → t.bit (SYN_CSTAT_QUALFAIL n) = true) ∧
      (s.rootState n = stLocked ∨ s.rootState n = stHop ∨ s.rootState n = stRamp → t.bit (SYN_CSTAT_REFOFF n) = true) ∧
      (-32768 ≤ (count : Int) - s.windowExpect n → (count : Int) - s.windowExpect n ≤ 32767 → t.geti (SYN_CSTAT_QDEV n) = (count : Int) - s.windowExpect n) ∧
      t = { s with regs := t.regs, roots := t.roots } ∧ SameRoots [n.val] s t ∧ SameWords [SYN_CSTAT n] s t) ∧
  (∀ (n : Fin 4) (theta : Int) (s : State), s.rootState n = stMeasure → s.seqRuns n = true → s.get (SYN_CCTRL_POLICY n) ≠ 2 → 
      ∃ t, exec (.measure n theta) s = .next t ∧ t.rootState n = stReclose ∧ (t.root n).cnt = 0 ∧ (t.root n).snap = false ∧ (t.root n).ret = some (s.get (SYN_CCTRL_POLICY n)) ∧
      (let c := s.willi n (SYN_PHCARRY_CARRY n)
       let phi := wrapHalf (theta - c) (s.stepsPerPeriod n)
       (t.root n).eff = (s.root n).eff ++ [.put (SYN_LASTJUMP_JUMP n) (wrapNat (SYN_LASTJUMP_JUMP n).len phi), .put (SYN_STAT_STATE n) stReclose,
         .put (SYN_PHCARRY_CARRY n) (wrapNat (SYN_PHCARRY_CARRY n).len (satSym (2 ^ 31 - 1) (c + phi)))] ++
         (if satSym (2 ^ 31 - 1) (c + phi) ≠ c + phi then [.put (SYN_CSTAT_CARRYSAT n) 1] else [])) ∧
      t = { s with roots := t.roots } ∧ SameRoots [n.val] s t) ∧
  (∀ (n : Fin 4) (theta : Int) (s : State), s.rootState n = stMeasure → s.seqRuns n = true → s.get (SYN_CCTRL_POLICY n) = 2 → 
      ∃ t, exec (.measure n theta) s = .next t ∧ t.rootState n = stReclose ∧ (t.root n).snap = true ∧ (t.root n).ret = some 2 ∧ (t.root n).eff = (s.root n).eff ++ [.put (SYN_LASTJUMP_JUMP n) (wrapNat (SYN_LASTJUMP_JUMP n).len (wrapHalf (theta - s.willi n (SYN_PHCARRY_CARRY n)) (s.stepsPerPeriod n))), .put (SYN_STAT_STATE n) stReclose] ∧
      t = { s with roots := t.roots } ∧ SameRoots [n.val] s t) ∧
  (∀ (src : Source) (n : Fin 4) (w : Word) (s : State), s.rowServed src (SYN_CCTRL n) true = true → wbit w 3 = true → fld w 0 2 ≠ 1 → (s.get (SYN_CCTRL_POLICY n) = 1 ∨ s.bit (SYN_CSTAT_WORKING n) = false) → s.geti (SYN_PHCARRY_CARRY n) ≠ 0 → 
      ∃ t, exec (.workoff src n w) s = .next t ∧ t.bit (SYN_CSTAT_WORKING n) = true ∧ (t.root n).woShot = true ∧ (t.root n).woCnt = 0 ∧ t.get (SYN_CCTRL_POLICY n) = fld w 0 2 ∧
      t = { s with regs := t.regs, roots := t.roots } ∧ SameRoots [n.val] s t ∧ SameWords [SYN_CCTRL n, SYN_CSTAT n] s t) ∧
  (∀ (n : Fin 4) (s : State), s.bit (SYN_CSTAT_WORKING n) = true → s.stepperOn n = true → max 1 (s.get (SYN_CCTRL_SLEWK n)) ≤ (s.root n).woCnt → (s.root n).stepped = false → 
      ∃ t, exec (.workoffStep n) s = .next t ∧ t.geti (SYN_PHCARRY_CARRY n) = s.geti (SYN_PHCARRY_CARRY n) - sgn (s.geti (SYN_PHCARRY_CARRY n)) ∧
      t.get (SYN_PHPOS_POS n) = wrapNat 32 (s.geti (SYN_PHPOS_POS n) - sgn (s.geti (SYN_PHCARRY_CARRY n))) ∧
      t.bit (SYN_CSTAT_WORKING n) = decide (s.geti (SYN_PHCARRY_CARRY n) - sgn (s.geti (SYN_PHCARRY_CARRY n)) ≠ 0) ∧ (t.root n).woCnt = 0 ∧
      (t.root n).fbPhase = (s.root n).fbPhase - sgn (s.geti (SYN_PHCARRY_CARRY n)) ∧ t = { s with regs := t.regs, roots := t.roots, banks := t.banks } ∧ SameRoots [n.val] s t ∧ SameBanks (s.banksOf n) s t ∧
      SameWords [SYN_PHCARRY n, SYN_PHPOS n, SYN_CSTAT n] s t) ∧
  (∀ (n : Fin 4) (s : State), s.bit (SYN_CSTAT_WORKING n) = true → s.stepperOn n = true → max 1 (s.get (SYN_CCTRL_SLEWK n)) ≤ (s.root n).woCnt → (s.root n).stepped = true → 
      ∃ t, exec (.workoffStep n) s = .next t ∧ (t.root n).woDue = true ∧ t = { s with roots := t.roots } ∧ SameRoots [n.val] s t)

/-- TAINT_INTERVAL_OPEN with a source active and no interval open sets TAINT, counts TAINTCNT up to its largest value,
sets TOPENED, shows the count less the guard time in TOPEN and all ones in TCLOSE, and begins the interval there;
every group that halts on it shows HALTED and the bank as CAUSE, and where none does nothing else changes.
TAINT_INTERVAL_CLOSE with no source left clears TAINT and shows the count in TCLOSE. The guard in force is at least
64. HALT_NOTICE takes the notice of hub b: every member of the group in that hub whose cycles run and for which HALT
does not already stand is to park with cause HALT at the first cycle at least 48 T-clock cycles after the count the
notice carries, and while the halt stands with no release taken nothing else changes. HALT_RELEASE while a member
bank has an open interval sets RELREF and changes nothing else. With none open and the group halted, it takes the
release at the count of the lowest member bank: HALT stands for no member that it had parked. Where the lowest
member runs, HALTED stays for it to leave park; where it runs no cycle the halt ends at once. A second release, or
one of a group not halted, changes the written register alone. The model's choices here, which are no rule of the
spec, by their log entries: when HALTED, CAUSE and the counts are written and when a release ends (29, 135). -/
def Obligations.TaintIntervalsHaltNoticesAndRelease : Prop :=
  (∀ (b : Fin 8) (s : State), s.bit (BNK_STAT_TAINT b) = false → s.taintSrc b ≠ 0 → 
      ∃ t, exec (.taintIntervalOpen b) s = .next t ∧ t.bit (BNK_STAT_TAINT b) = true ∧ t.bit (BNK_FLAGS_TOPENED b) = true ∧
      t.get (BNK_TAINTCNT_COUNT b) = min (s.get (BNK_TAINTCNT_COUNT b) + 1) (2 ^ (BNK_TAINTCNT_COUNT b).len - 1) ∧
      t.get (BNK_TOPENLO_CNT b) + t.get (BNK_TOPENHI_CNT b) * 2 ^ 32 = (((s.tbOf b : Int) - s.guardOf b) % 2 ^ 48).toNat ∧
      t.get (BNK_TCLOSELO_CNT b) = 0xFFFFFFFF ∧ t.get (BNK_TCLOSEHI_CNT b) = 0xFFFF ∧ (t.bank b).openAt = some (s.tbOf b - s.guardOf b) ∧
      64 ≤ s.guardOf b ∧ (∀ g : Fin 64, s.haltsOn b g = true → t.bit (GRP_HALT_HALTED g) = true ∧ t.get (GRP_HALT_CAUSE g) = b.val) ∧
      ((∀ g : Fin 64, s.haltsOn b g = false) → t = { s with regs := t.regs, banks := t.banks, msixPend := t.msixPend, out := t.out } ∧ SameBanks [b.val] s t ∧ SameWords [BNK_STAT b, BNK_TAINTCNT b, BNK_FLAGS b, BNK_TOPENLO b, BNK_TOPENHI b, BNK_TCLOSELO b, BNK_TCLOSEHI b] s t)) ∧
  (∀ (b : Fin 8) (s : State), s.bit (BNK_STAT_TAINT b) = true → s.taintSrc b = 0 → 
      ∃ t, exec (.taintIntervalClose b) s = .next t ∧ t.bit (BNK_STAT_TAINT b) = false ∧ t.get (BNK_TCLOSELO_CNT b) = s.tbOf b % 2 ^ 32 ∧
      t.get (BNK_TCLOSEHI_CNT b) = s.tbOf b / 2 ^ 32 % 2 ^ 16 ∧ (t.bank b).openAt = none ∧
      (∀ o, (s.bank b).openAt = some o → (t.bank b).past.head? = some (o, s.tbOf b)) ∧
      t = { s with regs := t.regs, banks := t.banks } ∧ SameBanks [b.val] s t ∧ SameWords [BNK_STAT b, BNK_TCLOSELO b, BNK_TCLOSEHI b] s t) ∧
  (∀ (g : Fin 64) (b : Fin 8) (x : Nat) (s : State), ((s.group g).notices.find? (fun p => p.1 == b.val) = some (b.val, x)) → 
      ∃ t, exec (.haltNotice g b) s = .next t ∧ (t.group g).notices = (s.group g).notices.filter (fun p => p.1 != b.val) ∧
      (∀ n ∈ s.membersIn g b, (s.chan n).cyc.on = true → s.causeStands n causeHalt = false → (⟨causeHalt, .time (x + 48), true⟩ : ParkChg) ∈ (t.chan n).pk.chg) ∧
      ((s.group g).relAcc = false → s.bit (GRP_HALT_HALTED g) = true → ∀ n ∈ s.membersIn g b, (s.chan n).cyc.on = false → t.chan n = s.chan n) ∧
      t = { s with groups := t.groups, chans := t.chans } ∧ SameGroups [g.val] s t ∧ SameChans (s.membersIn g b) s t) ∧
  (∀ (src : Source) (g : Fin 64) (w : Word) (s : State), s.rowServed src (GRP_HALT g) true = true → wbit w 1 = true → ((s.memberBanks g).any (fun b => s.bit (BNK_STAT_TAINT b)) = true) → 
      ∃ t, exec (.haltRelease src g w) s = .next t ∧ t.bit (GRP_HALT_RELREF g) = true ∧ t.bit (GRP_HALT_HALTED g) = s.bit (GRP_HALT_HALTED g) ∧ RegsOnly [GRP_HALT g] s t) ∧
  (∀ (src : Source) (g : Fin 64) (w : Word) (s : State) (n : Fin 512), s.rowServed src (GRP_HALT g) true = true → wbit w 1 = true → ((s.memberBanks g).any (fun b => s.bit (BNK_STAT_TAINT b)) = false) → s.bit (GRP_HALT_HALTED g) = true → (s.group g).relAcc = false → s.lowest g = some n.val → 
      ∃ t, exec (.haltRelease src g w) s = .next t ∧ (∀ m ∈ s.members g, s.cause m causeHalt = true → t.cause m causeHalt = false) ∧ (t.group g).relAt = s.tbOf (s.leadBank g) ∧
      ((s.chan n).cyc.on = true → t.bit (GRP_HALT_HALTED g) = true ∧ (t.group g).relAcc = true ∧
        t = { s with regs := t.regs, groups := t.groups, chans := t.chans } ∧ SameWords (GRP_HALT g :: (s.members g).map CH_STAT) s t) ∧
      ((s.chan n).cyc.on = false → t.bit (GRP_HALT_HALTED g) = false ∧ (t.group g).relAcc = false) ∧
      SameGroups [g.val] s t ∧ SameChans (s.members g) s t) ∧
  (∀ (src : Source) (g : Fin 64) (w : Word) (s : State), s.rowServed src (GRP_HALT g) true = true → wbit w 1 = true → ((s.memberBanks g).any (fun b => s.bit (BNK_STAT_TAINT b)) = false) → (s.bit (GRP_HALT_HALTED g) = false ∨ (s.group g).relAcc = true) → 
      ∃ t, exec (.haltRelease src g w) s = .next t ∧ t.bit (GRP_HALT_HALTED g) = s.bit (GRP_HALT_HALTED g) ∧ RegsOnly [GRP_HALT g] s t)

/-- ROOT_SELECT with another SEL on an unlocked idle bank puts the new root in force in SEL and ROOTACT, restarts the
DLL (SEARCH where the root has a T-clock, else without a clock) opens a taint interval on the new timebase and fits
the guard, and MINSP and SEPMIN of its channels that are not locked, to the highest T-clock of the new root; DLLLOL
stays. On an active bank it changes no selection, sets ROOTREF and shows ROOTWHY 1. With SEL as it is, or locked,
the selection stays. WIPE starts on an idle bank; on an active one it sets WIPEREF and nothing else; DLLLOL stays.
The model's choices here, which are no rule of the spec, by their log entries: that ROOTWHY returns to 0 (25), a DLL
without a clock at a running root (96), what counts as the highest T-clock (104). -/
def Obligations.RootSelectionAsksForAnIdleBank : Prop :=
  (∀ (src : Source) (b : Fin 8) (w : Word) (s : State), s.rowServed src (BNK_ROOT b) true = true → s.bit (BNK_ROOT_LOCK b) = false → fld w 0 2 ≠ s.get (BNK_ROOT_SEL b) → s.bankIdle b = true → 
      ∃ t, exec (.rootSelect src b w) s = .next t ∧ t.get (BNK_ROOT_SEL b) = fld w 0 2 ∧ t.get (BNK_STAT_ROOTACT b) = fld w 0 2 ∧ t.bit (BNK_STAT_DLLLOCK b) = false ∧
      t.get (BNK_STAT_DLLSTATE b) = (if (s.root (fld w 0 2)).tclk then 1 else 0) ∧ t.bit (BNK_STAT_TAINT b) = true ∧
      (t.bank b).openAt = some ((s.root (fld w 0 2)).tb - s.guardOf b) ∧ (t.bank b).past = [] ∧
      (let o := 2 ^ 40 * max 1 (odivOf (s.get (SYN_CTRL_ODIV (fld w 0 2))))
       t.get (BNK_GUARD_CYC b) = min 1023 ((8 * s.topWord (fld w 0 2) + o - 1) / o + 64)) ∧
      (∀ n ∈ bankChans [b.val], s.bit (CH_CTRL_LOCK n) = false → t.get (CH_MINSP_TICKS n) = min 65535 (s.topTicks (fld w 0 2) 125) ∧
        t.get (CH_SEPMIN_TICKS n) = min 65535 (s.topTicks (fld w 0 2) 600)) ∧ t.bit (BNK_FLAGS_DLLLOL b) = s.bit (BNK_FLAGS_DLLLOL b) ∧
      t = { s with regs := t.regs, banks := t.banks, caps := t.caps, msixPend := t.msixPend, out := t.out } ∧ SameBanks [b.val] s t ∧ SameCaps (bankChans [b.val]) s t ∧
      SameWords ([BNK_ROOT b, GLB_LOCKVIOL, BNK_GUARD b, BNK_STAT b, BNK_TAINTCNT b, BNK_FLAGS b, BNK_TOPENLO b, BNK_TOPENHI b, BNK_TCLOSELO b, BNK_TCLOSEHI b] ++ (bankChans [b.val]).map CH_MINSP ++ (bankChans [b.val]).map CH_SEPMIN) s t) ∧
  (∀ (src : Source) (b : Fin 8) (w : Word) (s : State), s.rowServed src (BNK_ROOT b) true = true → s.bit (BNK_ROOT_LOCK b) = false → fld w 0 2 ≠ s.get (BNK_ROOT_SEL b) → s.bankIdle b = false → 
      ∃ t, exec (.rootSelect src b w) s = .next t ∧ t.get (BNK_ROOT_SEL b) = s.get (BNK_ROOT_SEL b) ∧ t.get (BNK_STAT_ROOTACT b) = s.get (BNK_STAT_ROOTACT b) ∧
      t.bit (BNK_FLAGS_ROOTREF b) = true ∧ t.get (BNK_STAT_ROOTWHY b) = 1 ∧ RegsIrq [BNK_ROOT b, BNK_FLAGS b, BNK_STAT b, GLB_LOCKVIOL] s t) ∧
  (∀ (src : Source) (b : Fin 8) (w : Word) (s : State), s.rowServed src (BNK_ROOT b) true = true → (fld w 0 2 = s.get (BNK_ROOT_SEL b) ∨ s.bit (BNK_ROOT_LOCK b) = true) → 
      ∃ t, exec (.rootSelect src b w) s = .next t ∧ t.get (BNK_ROOT_SEL b) = s.get (BNK_ROOT_SEL b) ∧ RegsOnly [BNK_ROOT b, GLB_LOCKVIOL] s t) ∧
  (∀ (src : Source) (b : Fin 8) (w : Word) (s : State), s.rowServed src (BNK_CUECTRL b) true = true → wbit w 8 = true → s.bankIdle b = true → 
      ∃ t, exec (.wipe src b w) s = .next t ∧ t.bit (BNK_CUESTAT_WIPING b) = true ∧ t.bit (BNK_FLAGS_DLLLOL b) = s.bit (BNK_FLAGS_DLLLOL b) ∧ RegsOnly [BNK_CUECTRL b, BNK_CUESTAT b, GLB_LOCKVIOL] s t) ∧
  (∀ (src : Source) (b : Fin 8) (w : Word) (s : State), s.rowServed src (BNK_CUECTRL b) true = true → wbit w 8 = true → s.bankIdle b = false → 
      ∃ t, exec (.wipe src b w) s = .next t ∧ t.bit (BNK_CUESTAT_WIPEREF b) = true ∧ t.bit (BNK_CUESTAT_WIPING b) = s.bit (BNK_CUESTAT_WIPING b) ∧
      RegsOnly [BNK_CUESTAT b] s t)

/-- A comparison beyond twice the window that completes the loss count clears DLLLOCK and returns the DLL to SEARCH.
With the LOCK of the root of the bank 1 it also sets DLLLOL and counts it; with LOCK 0 DLLLOL and the count stay. In
both cases no taint interval opens by it and no channel, group or line changes. -/
def Obligations.DllComparisonReportsItsOwnLoss : Prop :=
  (∀ (b : Fin 8) (e : Int) (cw : BitVec 16) (s : State), s.get (BNK_STAT_DLLSTATE b) = 3 → 2 * max 1 (s.get (BNK_DLLCFG_WIN b)) < s.dllError b e → s.get (BNK_DLLCFG_LCNT b) ≤ (s.bank b).dllLoss → (s.root (s.rootOf b)).lock = true → 
      ∃ t, exec (.dllComparison b e cw) s = .next t ∧ t.bit (BNK_STAT_DLLLOCK b) = false ∧ t.get (BNK_STAT_DLLSTATE b) = 1 ∧ t.bit (BNK_FLAGS_DLLLOL b) = true ∧
      t.get (BNK_DLLLOLCNT_COUNT b) = min (s.get (BNK_DLLLOLCNT_COUNT b) + 1) (2 ^ (BNK_DLLLOLCNT_COUNT b).len - 1) ∧
      t.bit (BNK_STAT_TAINT b) = s.bit (BNK_STAT_TAINT b) ∧ t = { s with regs := t.regs, banks := t.banks, caps := t.caps, msixPend := t.msixPend, out := t.out } ∧ SameBanks [b.val] s t ∧ SameCaps (bankChans [b.val]) s t ∧ SameWords [BNK_STAT b, BNK_DLLCW b, BNK_FLAGS b, BNK_DLLLOLCNT b] s t) ∧
  (∀ (b : Fin 8) (e : Int) (cw : BitVec 16) (s : State), s.get (BNK_STAT_DLLSTATE b) = 3 → 2 * max 1 (s.get (BNK_DLLCFG_WIN b)) < s.dllError b e → s.get (BNK_DLLCFG_LCNT b) ≤ (s.bank b).dllLoss → (s.root (s.rootOf b)).lock = false → 
      ∃ t, exec (.dllComparison b e cw) s = .next t ∧ t.bit (BNK_STAT_DLLLOCK b) = false ∧ t.get (BNK_STAT_DLLSTATE b) = 1 ∧ t.bit (BNK_STAT_TAINT b) = s.bit (BNK_STAT_TAINT b) ∧
      t = { s with regs := t.regs, banks := t.banks, caps := t.caps } ∧ SameBanks [b.val] s t ∧ SameCaps (bankChans [b.val]) s t ∧ SameWords [BNK_STAT b, BNK_DLLCW b] s t)

/-- DLL_SEARCH_DONE in SEARCH enters COUNT with its control code. DLL_COMPARISON shows the control code, in SEARCH the
one under trial and nothing else; in COUNT an error beyond the window restarts the count and the NLOCK-th comparison
within it locks. DLL_ACQUISITION_TIMEOUT in SEARCH or COUNT searches again and sets DLLFAIL. -/
def Obligations.DllAcquires : Prop :=
  (∀ (b : Fin 8) (cw : BitVec 16) (s : State), s.get (BNK_STAT_DLLSTATE b) = 1 → 
      ∃ t, exec (.dllSearchDone b cw) s = .next t ∧ t.get (BNK_STAT_DLLSTATE b) = 2 ∧ t.get (BNK_DLLCW_CW b) = cw.toNat ∧ (t.bank b).dllCnt = 0 ∧ t.bit (BNK_STAT_DLLLOCK b) = false ∧ t = { s with regs := t.regs, banks := t.banks, caps := t.caps } ∧ SameBanks [b.val] s t ∧ SameCaps (bankChans [b.val]) s t ∧ SameWords [BNK_STAT b, BNK_DLLCW b] s t) ∧
  (∀ (b : Fin 8) (e : Int) (cw : BitVec 16) (s : State), s.get (BNK_STAT_DLLSTATE b) = 2 → s.dllError b e ≤ max 1 (s.get (BNK_DLLCFG_WIN b)) → max 8 (s.get (BNK_DLLCFG_NLOCK b)) ≤ (s.bank b).dllCnt + 1 → 
      ∃ t, exec (.dllComparison b e cw) s = .next t ∧ t.get (BNK_STAT_DLLSTATE b) = 3 ∧ t.bit (BNK_STAT_DLLLOCK b) = true ∧ t.get (BNK_DLLCW_CW b) = cw.toNat ∧ t = { s with regs := t.regs, banks := t.banks } ∧ SameBanks [b.val] s t ∧ SameWords [BNK_STAT b, BNK_DLLCW b] s t) ∧
  (∀ (b : Fin 8) (e : Int) (cw : BitVec 16) (s : State), s.get (BNK_STAT_DLLSTATE b) = 2 → s.dllError b e ≤ max 1 (s.get (BNK_DLLCFG_WIN b)) → (s.bank b).dllCnt + 1 < max 8 (s.get (BNK_DLLCFG_NLOCK b)) → 
      ∃ t, exec (.dllComparison b e cw) s = .next t ∧ t.get (BNK_STAT_DLLSTATE b) = 2 ∧ (t.bank b).dllCnt = (s.bank b).dllCnt + 1 ∧ t = { s with regs := t.regs, banks := t.banks } ∧ SameBanks [b.val] s t ∧ SameWords [BNK_DLLCW b] s t) ∧
  (∀ (b : Fin 8) (e : Int) (cw : BitVec 16) (s : State), s.get (BNK_STAT_DLLSTATE b) = 2 → max 1 (s.get (BNK_DLLCFG_WIN b)) < s.dllError b e → 
      ∃ t, exec (.dllComparison b e cw) s = .next t ∧ t.get (BNK_STAT_DLLSTATE b) = 2 ∧ (t.bank b).dllCnt = 0 ∧ t = { s with regs := t.regs, banks := t.banks } ∧ SameBanks [b.val] s t ∧ SameWords [BNK_DLLCW b] s t) ∧
  (∀ (b : Fin 8) (e : Int) (cw : BitVec 16) (s : State), s.get (BNK_STAT_DLLSTATE b) = 1 → 
      ∃ t, exec (.dllComparison b e cw) s = .next t ∧ t.get (BNK_DLLCW_CW b) = cw.toNat ∧ t = { s with regs := t.regs, banks := t.banks } ∧ SameBanks [b.val] s t ∧ SameWords [BNK_DLLCW b] s t) ∧
  (∀ (b : Fin 8) (s : State), (s.get (BNK_STAT_DLLSTATE b) = 1 ∨ s.get (BNK_STAT_DLLSTATE b) = 2) → 
      ∃ t, exec (.dllAcquisitionTimeout b) s = .next t ∧ t.get (BNK_STAT_DLLSTATE b) = 1 ∧ t.bit (BNK_FLAGS_DLLFAIL b) = true ∧ (t.bank b).dllCnt = 0 ∧ t = { s with regs := t.regs, banks := t.banks, caps := t.caps, msixPend := t.msixPend, out := t.out } ∧ SameBanks [b.val] s t ∧ SameCaps (bankChans [b.val]) s t ∧ SameWords [BNK_STAT b, BNK_FLAGS b] s t)

/-- CYCLE_START of a channel that can enter its coming cycle k enters it: the next cycle is k + 1 and its start is S(k)
plus the effective period of what was read for cycle k. Without modulation and carry that period is the PERIOD of
the record exactly. The cycle and its start head the window that a read of CYCLO shows. Other channels and groups
stay, and so do the context store and the fuses. EVENT_SCHEDULE of the head event that cannot be preceded, with no
overrun waiting for its park cycle, removes an event that does not overrun and places its toggle at the pushed time
t2 >= its ideal time, at or after the last toggle of its line plus the minimum spacing. An event that would be
pushed by 8 or more T-clock cycles sets ENGOVR: where the cycle after its own is to come, OVR is to park the channel
there; where it has been entered, the lines park with cause OVR and no event is left. EVENT_OUTPUT takes the
earliest toggle, inverts its line, shows it unless boundary scan cuts the pins, and moves the timebase to its output
time, never back; the clip and the pushes of an event count in CLIPCNT, COLLIDE and EPUSH when it leaves. The
model's choices here, which are no rule of the spec, by their log entries: when the edges of a cycle are computed
(32), what an overrun makes void (33), when clips and pushes count (134). -/
def Obligations.CyclesAccumulateAndEventsLeave : Prop :=
  (∀ (n : Fin 512) (s : State), s.canEnter n = true → 
      ∃ t, exec (.cycleStart n) s = .next t ∧ 
      (let x := s.chan n
       let a := x.cyc.ahead.headD { k := x.cyc.k, slot := x.cyc.applied, data := 0, void := false }
       (t.chan n).cyc.k = x.cyc.k + 1 ∧ (t.chan n).cyc.s = x.cyc.s + (cyclePeriod a x.cyc.r x.md x.cyc.k).p ∧
       (t.chan n).cyc.r = (cyclePeriod a x.cyc.r x.md x.cyc.k).r ∧
       ((t.chan n).cyc.win.head?.map (fun w => (w.k, w.start))) = some (x.cyc.k, x.cyc.s) ∧
       (x.md = Mod.init → x.cyc.r = 0 → 2048 * 2 ^ 16 ≤ a.data.toNat % 2 ^ 48 → (t.chan n).cyc.s = x.cyc.s + a.data.toNat % 2 ^ 48)) ∧
      SameChans [n.val] s t ∧ SameGroups [s.groupOf n] s t ∧ t.store = s.store ∧ t.fuses = s.fuses) ∧
  (∀ (n : Fin 512) (s : State) (e : Ev) (rest : List Ev), s.headSafe n = true → s.ovrWaits n = false → (s.chan n).sch.evs = e :: rest → ((s.chan n).sch.times (lineOf e.e) e.t (minSpacing (s.get (CH_MINSP_TICKS n)))).2.2 = false → 
      ∃ t, exec (.eventSchedule n) s = .next t ∧ (t.chan n).sch.evs = rest ∧
      (let t2 := ((s.chan n).sch.times (lineOf e.e) e.t (minSpacing (s.get (CH_MINSP_TICKS n)))).2.1
       (t.chan n).sch.queue.dropLast = (s.chan n).sch.queue ∧ ((t.chan n).sch.queue.getLast?.map (fun p => (p.line, p.t))) = some (lineOf e.e, t2) ∧
       e.t ≤ t2 ∧ ((s.chan n).sch.lastL.getD (lineOf e.e) none).all (fun l => decide (l + minSpacing (s.get (CH_MINSP_TICKS n)) ≤ t2)) = true) ∧
      (t.chan n).cyc = (s.chan n).cyc ∧ SameChans [n.val] s t) ∧
  (∀ (n : Fin 512) (s : State) (e : Ev) (rest : List Ev), s.headSafe n = true → s.ovrWaits n = false → (s.chan n).sch.evs = e :: rest → ((s.chan n).sch.times (lineOf e.e) e.t (minSpacing (s.get (CH_MINSP_TICKS n)))).2.2 = true → (((s.chan n).cyc.win.all (fun w => w.k != e.k + 1)) = true) → 
      ∃ t, exec (.eventSchedule n) s = .next t ∧ t.bit (CH_FLAGS_ENGOVR n) = true ∧ t.causeStands n causeOvr = true ∧ (t.chan n).sch = (s.chan n).sch ∧
      (s.causeStands n causeOvr = false → (t.chan n).pk.chg = (s.chan n).pk.chg ++ [⟨causeOvr, .cycle (e.k + 1), true⟩]) ∧
      (t.chan n).pk.parked = (s.chan n).pk.parked ∧ SameChans [n.val] s t) ∧
  (∀ (n : Fin 512) (s : State) (e : Ev) (rest : List Ev), s.headSafe n = true → s.ovrWaits n = false → (s.chan n).sch.evs = e :: rest → ((s.chan n).sch.times (lineOf e.e) e.t (minSpacing (s.get (CH_MINSP_TICKS n)))).2.2 = true → (((s.chan n).cyc.win.any (fun w => w.k == e.k + 1)) = true) → 
      ∃ t, exec (.eventSchedule n) s = .next t ∧ t.bit (CH_FLAGS_ENGOVR n) = true ∧ t.cause n causeOvr = true ∧ t.bit (CH_STAT_PARKED n) = true ∧ (t.chan n).pk.parked = true ∧
      (t.chan n).sch.evs = [] ∧ SameChans [n.val] s t) ∧
  (∀ (n : Fin 512) (s : State) (p : Placed), earliest (s.chan n).sch.queue = some p → 
      ∃ t, exec (.eventOutput n) s = .next t ∧ (t.chan n).sch.queue = (s.chan n).sch.queue.erase p ∧ (p.line < 3 → t.bit ⟨CH_STAT n, p.line, 1⟩ = (!s.bit ⟨CH_STAT n, p.line, 1⟩)) ∧
      (t.root (s.rootOf (n / 64))).tb = max (s.root (s.rootOf (n / 64))).tb ((p.t + lOut).toNat / 4096) ∧ SameChans [n.val] s t ∧ SameRoots [s.rootOf (n / 64)] s t ∧
      ((p.ev.all (fun e => e.clip == 0 && !p.spaced && !p.pushed)) = true →
        t.out = (if s.pinsCut then s.out else .toggle n p.line (p.t + lOut).toNat (!s.bit ⟨CH_STAT n, p.line, 1⟩) (s.fineDelay n p) :: s.out) ∧
        t = { s with regs := t.regs, roots := t.roots, chans := t.chans, out := t.out } ∧ SameWords [CH_STAT n] s t)) ∧
  (∀ (n : Fin 512) (s : State) (p : Placed) (e : Ev), earliest (s.chan n).sch.queue = some p → p.ev = some e → 
      ∃ t, exec (.eventOutput n) s = .next t ∧ (e.clip = 1 → t.bit (CH_FLAGS_CLIP n) = true ∧ t.get (CH_CLIPCNT_EARLY n) = min (s.get (CH_CLIPCNT_EARLY n) + 1) (2 ^ 16 - 1)) ∧
      (1 < e.clip → t.bit (CH_FLAGS_CLIP n) = true ∧ t.get (CH_CLIPCNT_LATE n) = min (s.get (CH_CLIPCNT_LATE n) + 1) (2 ^ 16 - 1)) ∧
      (p.spaced = true → t.bit (CH_FLAGS_COLLIDE n) = true ∧ t.get (CH_COLLIDE_COUNT n) = min (s.get (CH_COLLIDE_COUNT n) + 1) (2 ^ 32 - 1)) ∧
      (p.pushed = true → t.bit (CH_FLAGS_EPUSH n) = true ∧ t.get (CH_EPUSH_COUNT n) = min (s.get (CH_EPUSH_COUNT n) + 1) (2 ^ 32 - 1)))

/-- PARK_CYCLE of a running channel with causes due at the coming cycle and no move of its deskew or DTC slew due parks
its lines and takes those changes; with NOGRP not due the due causes are in force beside the ones before and its
cycles go on, and with NOGRP due NOGRP is in force and the accumulator stops. A channel at rest with level 0 parks
with MAN alone so. LEAVE_PARK, with no park due, takes the releases that are due, and with a leave due and no cause
left it clears PARKED, starts the spacing rules afresh and, for the lowest member of a halted group whose release
was taken, ends the halt. A write of CTRL.PARK 1 makes MAN stand: at once where no cycle runs, else at the first
cycle 48 T-clock cycles later; PARK 0 releases MAN; CLROVR releases an OVR in force. A release that leaves a parked
channel no cause sets its leave 48 T-clock cycles later. The model's choices here, which are no rule of the spec, by
their log entries: when a park, a leave or a move is due before a cycle (32), MAN and CLROVR where no cycle runs
(33), the first cycle of a leave (135). -/
def Obligations.ParkingAndLeaving : Prop :=
  (∀ (n : Fin 512) (s : State), (s.chan n).cyc.on = true → s.wantDue n ≠ [] → s.slewDue n = false → s.dtcSlewDue n = false → (s.wantDue n).contains causeNogrp = false → 
      ∃ t, exec (.parkCycle n) s = .next t ∧ (∀ c : Fin 7, (s.wantDue n).contains c.val = true ∨ s.cause n c = true → t.cause n c = true) ∧ (t.chan n).pk.parked = true ∧ t.wantDue n = [] ∧
      ((s.chan n).pk.parked = false → t.bit (CH_STAT_PARKED n) = true) ∧ (t.chan n).cyc = (s.chan n).cyc ∧ SameChans [n.val] s t ∧
      ((s.wantDue n).contains causeHalt = false → (s.chan n).pk.parked = true → t = { s with regs := t.regs, chans := t.chans } ∧ SameChans [n.val] s t ∧ SameWords [CH_STAT n] s t ∧
        ∀ c : Fin 7, t.cause n c = true → (s.wantDue n).contains c.val = true ∨ s.cause n c = true)) ∧
  (∀ (n : Fin 512) (s : State), (s.chan n).cyc.on = true → s.wantDue n ≠ [] → s.slewDue n = false → s.dtcSlewDue n = false → (s.wantDue n).contains causeNogrp = true → 
      ∃ t, exec (.parkCycle n) s = .next t ∧ t.cause n causeNogrp = true ∧ (t.chan n).cyc.on = false ∧ (t.chan n).cyc.ahead = [] ∧ (t.chan n).pk.parked = true ∧ (t.chan n).pk.chg = [] ∧
      t.bit (CH_GRP_MEMBER n) = s.bit (CH_GRP_MEMBER n)) ∧
  (∀ (n : Fin 512) (s : State), (s.chan n).cyc.on = true → s.wantDue n = [causeMan] → s.slewDue n = false → s.dtcSlewDue n = false → (s.chan n).pk.parked = false → (s.chan n).sch = Sched.init → s.bit ⟨CH_STAT n, 0, 1⟩ = false → s.bit ⟨CH_STAT n, 2, 1⟩ = false → 
      ∃ t, exec (.parkCycle n) s = .next t ∧ t.cause n causeMan = true ∧ t.bit (CH_STAT_PARKED n) = true ∧ (t.chan n).pk.parked = true ∧ (t.chan n).cyc = (s.chan n).cyc ∧
      t = { s with regs := t.regs, chans := t.chans } ∧ SameChans [n.val] s t ∧ SameWords [CH_STAT n, CH_PARKDISC n] s t) ∧
  (∀ (n : Fin 512) (s : State), (s.chan n).cyc.on = true → s.wantDue n = [] → s.slewDue n = false → s.dtcSlewDue n = false → s.relDue n ≠ [] → 
      ∃ t, exec (.leavePark n) s = .next t ∧ (∀ c : Fin 7, (s.relDue n).contains c.val = true → t.cause n c = false) ∧ t.relDue n = [] ∧ (t.chan n).cyc = (s.chan n).cyc ∧ SameChans [n.val] s t) ∧
  (∀ (n : Fin 512) (s : State), (s.chan n).cyc.on = true → s.wantDue n = [] → s.slewDue n = false → s.dtcSlewDue n = false → s.relDue n = [] → s.leaveDue n = true → s.get (CH_STAT_PCAUSE n) = 0 → 
      ∃ t, exec (.leavePark n) s = .next t ∧ t.bit (CH_STAT_PARKED n) = false ∧ (t.chan n).pk.parked = false ∧ (t.chan n).pk.leave = none ∧ (t.chan n).sch.lastL = [none, none, none] ∧
      (t.chan n).cyc = (s.chan n).cyc ∧ SameChans [n.val] s t ∧
      (s.bit (GRP_HALT_HALTED (s.groupOf n)) = true → (s.group (s.groupOf n)).relAcc = true → s.lowest (s.groupOf n) = some n.val → t.bit (GRP_HALT_HALTED (s.groupOf n)) = false) ∧
      (s.bit (GRP_HALT_HALTED (s.groupOf n)) = false → s.stepDue n = false → s.dtcStepDue n = false → t = { s with regs := t.regs, chans := t.chans } ∧ SameChans [n.val] s t ∧ SameWords [CH_STAT n, CH_PARKDISC n] s t)) ∧
  (∀ (src : Source) (n : Fin 512) (w : Word) (s : State), s.rowServed src (CH_CTRL n) true = true → wbit w 0 = true → 
      ∃ t, exec (.park src n w) s = .next t ∧ t.causeStands n causeMan = true ∧ (s.causeStands n causeMan = false → (s.chan n).cyc.on = false → t.cause n causeMan = true) ∧
      (s.causeStands n causeMan = false → (s.chan n).cyc.on = true → t.cause n causeMan = s.cause n causeMan ∧
        (⟨causeMan, .time (s.tbOf (n / 64) + 48), true⟩ : ParkChg) ∈ (t.chan n).pk.chg) ∧ (t.chan n).cyc = (s.chan n).cyc ∧
      t = { s with regs := t.regs, chans := t.chans } ∧ SameChans [n.val] s t ∧ SameWords [CH_CTRL n, CH_STAT n, GLB_LOCKVIOL] s t) ∧
  (∀ (src : Source) (n : Fin 512) (w : Word) (s : State), s.rowServed src (CH_CTRL n) true = true → wbit w 0 = false → 
      ∃ t, exec (.park src n w) s = .next t ∧ t.cause n causeMan = false ∧ t.causeStands n causeMan = false ∧ (t.chan n).cyc = (s.chan n).cyc ∧
      (s.cause n causeMan = true → (s.chan n).pk.parked = true → (s.chan n).pk.leave = none → t.get (CH_STAT_PCAUSE n) = 0 →
        (t.chan n).pk.leave = some (.time (s.tbOf (n / 64) + 48))) ∧
      t = { s with regs := t.regs, chans := t.chans } ∧ SameChans [n.val] s t ∧ SameWords [CH_CTRL n, CH_STAT n, GLB_LOCKVIOL] s t) ∧
  (∀ (src : Source) (n : Fin 512) (w : Word) (s : State), s.rowServed src (CH_CTRL n) true = true → wbit w 2 = true → 
      ∃ t, exec (.clrovr src n w) s = .next t ∧ (t.cause n causeOvr = false) ∧ (s.cause n causeOvr = true → (s.chan n).pk.parked = true → (s.chan n).pk.leave = none → t.get (CH_STAT_PCAUSE n) = 0 →
        (t.chan n).pk.leave = some (.time (s.tbOf (n / 64) + 48))) ∧ (t.chan n).cyc = (s.chan n).cyc ∧
      t = { s with regs := t.regs, chans := t.chans } ∧ SameChans [n.val] s t ∧ SameWords [CH_CTRL n, CH_STAT n, GLB_LOCKVIOL] s t)

/-- A DESKEW write by the host to a HELD channel sets WREF and changes nothing else. Any other writes the target, and
DSKBUSY shows whether DSKACT differs; without STEP, or in STEP on a channel that is not parked, which sets
STEP2SLEW, DSKACT itself stays until it slews, and in STEP on a parked channel that runs no cycle and parked before
now it takes the target at once. DESKEW_SLEW_STEP, its move due, moves DSKACT one tick toward the target. PM_GO arms
the staged settings. A read of CYCLO returns the cycle modulo 2^32 and latches CYCHI and SACC0 to SACC2. The model's
choices here, which are no rule of the spec, by their log entries: STEP where no cycle runs (34). -/
def Obligations.ChannelRegisterCommands : Prop :=
  (∀ (src : Source) (n : Fin 512) (w : Word) (s : State), s.rowServed src (CH_DESKEW n) true = true → s.heldBars src n = true → 
      ∃ t, exec (.deskewTargetWrite src n w) s = .next t ∧ t.bit (CH_CALFLAGS_WREF n) = true ∧ t.get (CH_DESKEW_TARGET n) = s.get (CH_DESKEW_TARGET n) ∧ RegsOnly [CH_CALFLAGS n] s t) ∧
  (∀ (src : Source) (n : Fin 512) (w : Word) (s : State), s.rowServed src (CH_DESKEW n) true = true → s.heldBars src n = false → 
      ∃ t, exec (.deskewTargetWrite src n w) s = .next t ∧ t.get (CH_DESKEW_TARGET n) = fld w (CH_DESKEW_TARGET n).lo (CH_DESKEW_TARGET n).len ∧
      t.bit (CH_STAT_DSKBUSY n) = decide (t.get (CH_DSKACT_ACT n) ≠ t.get (CH_DESKEW_TARGET n)) ∧
      (s.bit (CH_DSKCTRL_MODE n) = false ∨ (s.chan n).pk.parked = false → t.get (CH_DSKACT_ACT n) = s.get (CH_DSKACT_ACT n)) ∧
      (s.bit (CH_DSKCTRL_MODE n) = true → (s.chan n).pk.parked = true → (s.chan n).pk.fresh = false → (s.chan n).cyc.on = false → t.get (CH_DSKACT_ACT n) = t.get (CH_DESKEW_TARGET n)) ∧
      (s.bit (CH_DSKCTRL_MODE n) = true → (s.chan n).pk.parked = false → t.bit (CH_FLAGS_STEP2SLEW n) = true) ∧
      (t.chan n).cyc = (s.chan n).cyc ∧ t = { s with regs := t.regs, chans := t.chans, msixPend := t.msixPend, out := t.out } ∧ SameChans [n.val] s t ∧ SameWords [CH_DESKEW n, CH_DSKACT n, CH_STAT n, CH_FLAGS n, GLB_LOCKVIOL] s t) ∧
  (∀ (n : Fin 512) (s : State), s.slewDue n = true → 
      ∃ t, exec (.deskewSlewStep n) s = .next t ∧ t.get (CH_DSKACT_ACT n) = wrapNat (CH_DSKACT_ACT n).len (s.geti (CH_DSKACT_ACT n) + sgn (s.geti (CH_DESKEW_TARGET n) - s.geti (CH_DSKACT_ACT n))) ∧
      t.get (CH_DESKEW_TARGET n) = s.get (CH_DESKEW_TARGET n) ∧ t.bit (CH_STAT_DSKBUSY n) = decide (t.get (CH_DSKACT_ACT n) ≠ t.get (CH_DESKEW_TARGET n)) ∧
      t = { s with regs := t.regs, chans := t.chans } ∧ SameChans [n.val] s t ∧ SameWords [CH_DSKACT n, CH_STAT n] s t) ∧
  (∀ (src : Source) (n : Fin 512) (w : Word) (s : State), s.rowServed src (CH_PMCTRL n) true = true → wbit w 31 = true → 
      ∃ t, exec (.pmGo src n w) s = .next t ∧ (t.chan n).md.armed = some ((s.writeReg (CH_PMCTRL n) w fullMask).stagedPm n) ∧ (t.chan n).cyc = (s.chan n).cyc ∧
      t = { s with regs := t.regs, chans := t.chans } ∧ SameChans [n.val] s t ∧ SameWords [CH_PMCTRL n, GLB_LOCKVIOL] s t) ∧
  (∀ (src : Source) (n : Fin 512) (s : State), s.rowServed src (CH_CYCLO n) false = true → 
      ∃ t, exec (.cycloRead src n) s = .next t ∧ t.out = .read (CH_CYCLO n) [(s.curCycle n).1 % 2 ^ 32] :: s.out ∧ t.get (CH_CYCHI_CYC n) = (s.curCycle n).1 / 2 ^ 32 % 2 ^ (CH_CYCHI_CYC n).len ∧
      t.get (CH_SACC0_ACC n) = (s.curCycle n).2 % 2 ^ 32 ∧ t.get (CH_SACC1_ACC n) = (s.curCycle n).2 / 2 ^ 32 % 2 ^ 32 ∧
      t.get (CH_SACC2_ACC n) = (s.curCycle n).2 / 2 ^ 64 % 2 ^ (CH_SACC2_ACC n).len ∧ t = { s with regs := t.regs, out := t.out } ∧
      SameWords [CH_CYCLO n, CH_CYCHI n, CH_SACC0 n, CH_SACC1 n, CH_SACC2 n] s t)

/-- CONTEXT_WINDOW_WRITE of any bytes that cross no 4 KiB border, which BAR2 serves, with CTXWIN 1, the half of the bank
ON, no wipe and nothing waiting at the hub, over a store without errors, puts exactly those bytes into the store and
changes no other byte, register or channel; a whole record is stored so over any error, with fresh ECC.
CONTEXT_WINDOW_READ so returns exactly the bytes of the store and changes nothing. During a wipe either waits at the
hub. With CTXWIN 0 or the half not ON a write changes nothing but WINVIOL, and a read of a half that is not ON
returns zeros. SCRUB_ROW moves to the next row, counting a pass after row 65,535; without errors it changes nothing
else. WIPE_DONE ends the wipe; with nothing held every record of the slice is 0, every other as it was. The model's
choices here, which are no rule of the spec, by their log entries: the order of the checks of a window access (86),
what waits behind a wipe or a cue (107), the row of a scrub (30). -/
def Obligations.ContextStoreReadAfterWrite : Prop :=
  (∀ (off : Nat) (bytes : List Byte) (s : State), s.bar2Refuse off true = none → off + bytes.length ≤ 0x2000000 → off % 4096 + bytes.length ≤ 4096 → 0 < bytes.length → s.bit GLB_MODE_CTXWIN = true → s.domOn (halfOf (off / 0x400000)) = true → s.bit (BNK_CUESTAT_WIPING (off / 0x400000)) = false → ((s.bank (off / 0x400000)).cueq.any (fun i => s.ordersStore i) = false) → s.storeErr = [] → 
      ∃ t, exec (.contextWindowWrite off bytes) s = .next t ∧ 
      (let byteAt := (fun (u : State) (x : Nat) => (tabGet 0 u.store (x / 32)).toNat / 256 ^ (x % 32) % 256)
       ∀ x : Nat, byteAt t x = if off ≤ x ∧ x < off + bytes.length then (bytes.getD (x - off) 0).toNat else byteAt s x) ∧
      t = { s with store := t.store }) ∧
  (∀ (b : Fin 8) (key : Fin 131072) (bytes : Vector Byte 32) (s : State), s.bar2Refuse (0x400000 * b.val + 32 * key.val) true = none → s.bit GLB_MODE_CTXWIN = true → s.domOn (halfOf b) = true → s.bit (BNK_CUESTAT_WIPING b) = false → ((s.bank b).cueq.any (fun i => s.ordersStore i) = false) → 
      ∃ t, exec (.contextWindowWrite (0x400000 * b.val + 32 * key.val) bytes.toList) s = .next t ∧ 
      tabGet 0 t.store (131072 * b.val + key.val) = BitVec.ofNat 256 (ofLe (bytes.toList.map (fun x => x.toNat))) ∧
      tabGet 0 t.storeErr (131072 * b.val + key.val) = 0 ∧
      SameRecords [131072 * b.val + key.val] s t ∧
      t = { s with store := t.store, storeErr := t.storeErr }) ∧
  (∀ (off len : Nat) (s : State), s.bar2Refuse off false = none → off + len ≤ 0x2000000 → off % 4096 + len ≤ 4096 → 0 < len → s.domOn (halfOf (off / 0x400000)) = true → s.bit (BNK_CUESTAT_WIPING (off / 0x400000)) = false → ((s.bank (off / 0x400000)).cueq.any (fun i => s.ordersStore i) = false) → s.storeErr = [] → 
      exec (.contextWindowRead off len) s = .next { s with
        out := .read off ((List.range len).map (fun i => (fun (u : State) (x : Nat) => (tabGet 0 u.store (x / 32)).toNat / 256 ^ (x % 32) % 256) s (off + i))) :: s.out }) ∧
  (∀ (off : Nat) (bytes : List Byte) (s : State), s.bar2Refuse off true = none → off + bytes.length ≤ 0x2000000 → off % 4096 + bytes.length ≤ 4096 → 0 < bytes.length → (s.bit GLB_MODE_CTXWIN = false ∨ s.domOn (halfOf (off / 0x400000)) = false) → 
      ∃ t, exec (.contextWindowWrite off bytes) s = .next t ∧ 
      t.get GLB_WINVIOL_COUNT = min (s.get GLB_WINVIOL_COUNT + 1) (2 ^ GLB_WINVIOL_COUNT.len - 1) ∧ RegsOnly [GLB_WINVIOL] s t) ∧
  (∀ (off : Nat) (bytes : List Byte) (s : State), s.bar2Refuse off true = none → off + bytes.length ≤ 0x2000000 → off % 4096 + bytes.length ≤ 4096 → 0 < bytes.length → s.bit GLB_MODE_CTXWIN = true → s.domOn (halfOf (off / 0x400000)) = true → (s.bit (BNK_CUESTAT_WIPING (off / 0x400000)) = true ∨ (s.bank (off / 0x400000)).cueq.any (fun i => s.ordersStore i) = true) → 
      ∃ t, exec (.contextWindowWrite off bytes) s = .next t ∧ (t.bank (off / 0x400000)).cueq = (s.bank (off / 0x400000)).cueq ++ [.access (.write off (bytes.map (fun x => x.toNat)))] ∧
      t = { s with banks := t.banks } ∧ SameBanks [off / 0x400000] s t) ∧
  (∀ (off len : Nat) (s : State), s.bar2Refuse off false = none → off + len ≤ 0x2000000 → off % 4096 + len ≤ 4096 → 0 < len → s.domOn (halfOf (off / 0x400000)) = false → 
      exec (.contextWindowRead off len) s = .next { s with out := .read off (List.replicate len 0) :: s.out }) ∧
  (∀ (off len : Nat) (s : State), s.bar2Refuse off false = none → off + len ≤ 0x2000000 → off % 4096 + len ≤ 4096 → 0 < len → s.domOn (halfOf (off / 0x400000)) = true → (s.bit (BNK_CUESTAT_WIPING (off / 0x400000)) = true ∨ (s.bank (off / 0x400000)).cueq.any (fun i => s.ordersStore i) = true) → 
      ∃ t, exec (.contextWindowRead off len) s = .next t ∧ (t.bank (off / 0x400000)).cueq = (s.bank (off / 0x400000)).cueq ++ [.access (.read off len)] ∧ t = { s with banks := t.banks } ∧ SameBanks [off / 0x400000] s t) ∧
  (∀ (b : Fin 8) (s : State), s.bit (BNK_CUECTRL_SCRUBEN b) = true → s.get (BNK_STAT_DLLSTATE b) ≠ 0 → s.bit (BNK_CUESTAT_WIPING b) = false → 
      ∃ t, exec (.scrubRow b) s = .next t ∧ t.get (BNK_SCRUBPOS_ROW b) = (s.get (BNK_SCRUBPOS_ROW b) + 1) % 65536 ∧
      t.get (BNK_SCRUBPOS_PASSES b) = (if s.get (BNK_SCRUBPOS_ROW b) = 65535 then (s.get (BNK_SCRUBPOS_PASSES b) + 1) % 2 ^ (BNK_SCRUBPOS_PASSES b).len else s.get (BNK_SCRUBPOS_PASSES b)) ∧
      (s.storeErr = [] → RegsOnly [BNK_SCRUBPOS b] s t)) ∧
  (∀ (b : Fin 8) (s : State), s.bit (BNK_CUESTAT_WIPING b) = true → 
      ∃ t, exec (.wipeDone b) s = .next t ∧ t.bit (BNK_CUESTAT_WIPING b) = false ∧ ((s.bank b).cueq = [] → (∀ p ∈ t.store, p.1 / 131072 ≠ b.val) ∧ (∀ p ∈ s.store, p.1 / 131072 ≠ b.val → p ∈ t.store) ∧
      (∀ i : Fin 64, (t.chan (64 * b.val + i.val)).cyc.live = [] ∧ (t.chan (64 * b.val + i.val)).cyc.shad = []) ∧
      t = { s with regs := t.regs, store := t.store, storeErr := t.storeErr, chans := t.chans } ∧ SameWords [BNK_CUESTAT b] s t))

/-- CUE_ENGINE_TAKE, the bank with a clock and no wipe, takes the command at the front, counts CUECNT and lets the
accesses ordered behind it follow. One that is no cue, or that a rule refuses, is reported by this hub; a CUE that
no rule refuses, over clean records, has the record of every member of the bank read. CUE_COMPLETION ends the oldest
cue that the bank loads. Of the last hub on a stopped group it puts those records into the slot of each member at
once, on a running group into its loads from the earliest eligible cycle; of a provisional cue it puts them into the
shadow with PEND. None of these touches the store. The model's choices here, which are no rule of the spec, by their
log entries: the order of accesses and commands at a hub (107), that CUECNT counts at the take (136), a provisional
load of a projected cycle (28). -/
def Obligations.CueEngineLoadsRecords : Prop :=
  (∀ (b : Fin 8) (g : Fin 64) (id : Nat) (rest : List HubItem) (s : State), (s.bank b).cueq = .cmd g.val id :: rest → s.get (BNK_STAT_DLLSTATE b) ≠ 0 → s.bit (BNK_CUESTAT_WIPING b) = false → 
      ∃ t, exec (.cueEngineTake b) s = .next t ∧ t.get (BNK_CUECNT_COUNT b) = min (s.get (BNK_CUECNT_COUNT b) + 1) (2 ^ (BNK_CUECNT_COUNT b).len - 1) ∧ ((rest.all (fun i => match i with | .cmd _ _ => true | .access _ => false)) = true → (t.bank b).cueq = rest)) ∧
  (∀ (b : Fin 8) (g : Fin 64) (id : Nat) (rest : List HubItem) (op : GOp) (s : State), (s.bank b).cueq = .cmd g.val id :: rest → s.get (BNK_STAT_DLLSTATE b) ≠ 0 → s.bit (BNK_CUESTAT_WIPING b) = false → s.opOf g id = some op → (op.cmd.slotCtx = none ∨ (op.checked = true ∧ op.refused ≠ none)) → ((rest.all (fun i => match i with | .cmd _ _ => true | .access _ => false)) = true) → 
      ∃ t, exec (.cueEngineTake b) s = .next t ∧ t.opOf g id = some { op with waiting := op.waiting.erase b.val } ∧ (t.bank b).jobs = (s.bank b).jobs ∧
      t = { s with regs := t.regs, banks := t.banks, groups := t.groups } ∧ SameBanks [b.val] s t ∧ SameGroups [g.val] s t ∧ SameWords [BNK_CUECNT b] s t) ∧
  (∀ (b : Fin 8) (g : Fin 64) (id : Nat) (rest : List HubItem) (op : GOp) (slot ctx : Nat) (s : State), (s.bank b).cueq = .cmd g.val id :: rest → s.get (BNK_STAT_DLLSTATE b) ≠ 0 → s.bit (BNK_CUESTAT_WIPING b) = false → s.opOf g id = some op → op.cmd.slotCtx = some (slot, ctx) → op.checked = false → s.cueRefusal g op.cmd = none → s.storeErr = [] → ((rest.all (fun i => match i with | .cmd _ _ => true | .access _ => false)) = true) → 
      ∃ t, exec (.cueEngineTake b) s = .next t ∧ (t.bank b).jobs = (s.bank b).jobs ++ [{ g := g.val, id := id, loaded := (s.membersIn g b).map (fun n => (n, s.rawRecord n ctx, false)), ces := 0 }] ∧
      (t.bank b).cueq = rest ∧ t.get (BNK_CUECNT_COUNT b) = min (s.get (BNK_CUECNT_COUNT b) + 1) (2 ^ (BNK_CUECNT_COUNT b).len - 1) ∧
      t = { s with regs := t.regs, banks := t.banks, groups := t.groups } ∧ SameBanks [b.val] s t ∧ SameGroups [g.val] s t ∧ SameWords [BNK_CUECNT b] s t) ∧
  (∀ (b : Fin 8) (j : CueJob) (js : List CueJob) (s : State), (s.bank b).jobs = j :: js → 
      ∃ t, exec (.cueCompletion b) s = .next t ∧ (t.bank b).jobs = js ∧ SameBanks [b.val] s t ∧ SameGroups [j.g] s t ∧ t.store = s.store) ∧
  (∀ (b : Fin 8) (j : CueJob) (js : List CueJob) (op : GOp) (slot ctx : Nat) (s : State), (s.bank b).jobs = j :: js → s.opOf j.g j.id = some op → op.cmd = .cue slot ctx → op.waiting = [b.val] → op.data = [] → ((j.loaded.map (fun m => m.1)).Nodup) → (∀ m ∈ j.loaded, m.2.2 = false) → 
      ∃ t, exec (.cueCompletion b) s = .next t ∧ (s.running j.g = false → ∀ m ∈ j.loaded, (t.chan m.1).cyc.liveSlot slot = { data := m.2.1, ctx := ctx, void := false, lzero := false }) ∧
      (s.running j.g = true → ∀ m ∈ j.loaded, (t.chan m.1).cyc.loads = (s.chan m.1).cyc.loads ++ [.cue slot ctx m.2.1 false (s.eligible j.g (s.tbOf b))] ∧ (t.chan m.1).cyc.live = (s.chan m.1).cyc.live) ∧
      SameChans (j.loaded.map (fun m => m.1)) s t) ∧
  (∀ (b : Fin 8) (j : CueJob) (js : List CueJob) (op : GOp) (slot ctx ep : Nat) (s : State), (s.bank b).jobs = j :: js → s.opOf j.g j.id = some op → op.cmd = .pcue slot ctx ep → ((j.loaded.map (fun m => m.1)).Nodup) → (∀ m ∈ j.loaded, m.2.2 = false) → 
      ∃ t, exec (.cueCompletion b) s = .next t ∧ (∀ m ∈ j.loaded, (t.chan m.1).cyc.shadow slot = { data := m.2.1, ctx := ctx, pend := true, void := false } ∧ (t.chan m.1).cyc.live = (s.chan m.1).cyc.live) ∧
      t = { s with banks := t.banks, groups := t.groups, chans := t.chans } ∧
      SameChans (j.loaded.map (fun m => m.1)) s t)

/-- GROUP_DECISION of the oldest command, reported by every member hub, ends it. A START with T at least 256 cycles
ahead sets RUN and holds T; nearer it is refused with START_LATE, on a running group with GROUP_RUNNING. A STOP of a
running group with no commit scheduled, of a cycle that is eligible, holds its cycle and lets the members park
there; on a stopped group it is refused with NOT_RUNNING. A COMMIT whose epoch is not the next is refused with
EPOCH_MISMATCH; on a stopped group it advances the epoch and takes the pending shadows at once; on a running group
with no stop it is scheduled for an eligible cycle, CPEND 1. A CANCEL of the next epoch with none scheduled discards
the pending shadows. Each of these refusals counts CUEREF and shows LASTREF; each decision but that of the scheduled
COMMIT puts its completion into the taint stage of the lead bank. GROUP_START_TIME with a T-clock starts every
member at cycle 0 with its accumulator at T. A membership write is taken by stopped groups and refused with GRPREF
otherwise. The model's choices here, which are no rule of the spec, by their log entries: a COMMIT on a stopped
group and the effect cycle 0 (27, 136), the projected eligible cycle (28). -/
def Obligations.GroupDecisions : Prop :=
  (∀ (g : Fin 64) (op : GOp) (rest : List GOp) (s : State), (s.group g).ops = op :: rest → op.waiting = [] → 
      ∃ t, exec (.groupDecision g) s = .next t ∧ (t.group g).ops = rest.filter (fun o => o.id != op.id) ∧ t.store = s.store ∧ t.roots = s.roots ∧ SameGroups [g.val] s t) ∧
  (∀ (g : Fin 64) (op : GOp) (rest : List GOp) (T : Nat) (s : State), (s.group g).ops = op :: rest → op.waiting = [] → op.cmd = .start T → s.commonRefusal g op.cmd = none → s.running g = false → (s.tbOf (s.leadBank g) : Int) + 256 ≤ nearCount (s.tbOf (s.leadBank g)) T → 
      ∃ t, exec (.groupDecision g) s = .next t ∧ t.bit (GRP_STAT_RUN g) = true ∧ (t.group g).start = some (nearCount (s.tbOf (s.leadBank g)) T).toNat ∧ t.get (GRP_STARTLO_CNT g) = T % 2 ^ 32 ∧
      (t.bank (s.leadBank g)).stage = (s.bank (s.leadBank g)).stage ++ [⟨s.tbOf (s.leadBank g), s.tbOf (s.leadBank g), .comp (s.compOf g op.src Code.OK (T % 2 ^ 48) 0 0)⟩] ∧
      t = { s with regs := t.regs, groups := t.groups, banks := t.banks } ∧ SameGroups [g.val] s t ∧ SameBanks [s.leadBank g] s t ∧
      SameWords [GRP_STAT g, GRP_STARTLO g, GRP_STARTHI g] s t) ∧
  (∀ (g : Fin 64) (op : GOp) (rest : List GOp) (T : Nat) (s : State), (s.group g).ops = op :: rest → op.waiting = [] → op.cmd = .start T → s.commonRefusal g op.cmd = none → s.running g = true → 
      ∃ t, exec (.groupDecision g) s = .next t ∧ t.get (GRP_LASTREF_WHY g) = 7 ∧ t.get (GRP_CUEREF_COUNT g) = min (s.get (GRP_CUEREF_COUNT g) + 1) (2 ^ (GRP_CUEREF_COUNT g).len - 1) ∧
      (t.group g).start = (s.group g).start ∧ (t.bank (s.leadBank g)).stage = (s.bank (s.leadBank g)).stage ++ [⟨s.tbOf (s.leadBank g), s.tbOf (s.leadBank g), .comp (s.compOf g op.src Code.GROUP_RUNNING (0) 0 0)⟩] ∧
      t = { s with regs := t.regs, groups := t.groups, banks := t.banks } ∧ SameGroups [g.val] s t ∧ SameBanks [s.leadBank g] s t ∧
      SameWords [GRP_LASTREF g, GRP_CUEREF g] s t) ∧
  (∀ (g : Fin 64) (op : GOp) (rest : List GOp) (T : Nat) (s : State), (s.group g).ops = op :: rest → op.waiting = [] → op.cmd = .start T → s.commonRefusal g op.cmd = none → s.running g = false → nearCount (s.tbOf (s.leadBank g)) T < (s.tbOf (s.leadBank g) : Int) + 256 → 
      ∃ t, exec (.groupDecision g) s = .next t ∧ t.get (GRP_LASTREF_WHY g) = 9 ∧ t.get (GRP_CUEREF_COUNT g) = min (s.get (GRP_CUEREF_COUNT g) + 1) (2 ^ (GRP_CUEREF_COUNT g).len - 1) ∧ t.bit (GRP_STAT_RUN g) = false ∧ (t.group g).start = (s.group g).start ∧ (t.bank (s.leadBank g)).stage = (s.bank (s.leadBank g)).stage ++ [⟨s.tbOf (s.leadBank g), s.tbOf (s.leadBank g), .comp (s.compOf g op.src Code.START_LATE (0) 0 0)⟩] ∧
      t = { s with regs := t.regs, groups := t.groups, banks := t.banks } ∧ SameGroups [g.val] s t ∧ SameBanks [s.leadBank g] s t ∧ SameWords [GRP_LASTREF g, GRP_CUEREF g] s t) ∧
  (∀ (g : Fin 64) (op : GOp) (rest : List GOp) (k : Option Nat) (s : State), (s.group g).ops = op :: rest → op.waiting = [] → op.cmd = .stop k → s.running g = true → (s.group g).commit = none → s.eligible g (s.tbOf (s.leadBank g)) ≤ k.getD (s.eligible g (s.tbOf (s.leadBank g))) → 
      ∃ t, exec (.groupDecision g) s = .next t ∧ (let j := k.getD (s.eligible g (s.tbOf (s.leadBank g)))
       (t.group g).stopAt = some (match (s.group g).stopAt with | some o => min o j | none => j) ∧ (t.bank (s.leadBank g)).stage = (s.bank (s.leadBank g)).stage ++ [⟨s.tbOf (s.leadBank g), s.tbOf (s.leadBank g), .comp (s.compOf g op.src Code.OK (j) 0 0)⟩] ∧
       ((s.group g).stopAt = none → ∀ n ∈ s.members g, (s.chan n).cyc.on = true → (⟨causeNogrp, .cycle j, true⟩ : ParkChg) ∈ (t.chan n).pk.chg)) ∧ t.bit (GRP_STAT_RUN g) = true ∧
      t = { s with groups := t.groups, banks := t.banks, chans := t.chans } ∧ SameGroups [g.val] s t ∧ SameBanks [s.leadBank g] s t ∧ SameChans (s.members g) s t) ∧
  (∀ (g : Fin 64) (op : GOp) (rest : List GOp) (k : Option Nat) (s : State), (s.group g).ops = op :: rest → op.waiting = [] → op.cmd = .stop k → s.running g = false → 
      ∃ t, exec (.groupDecision g) s = .next t ∧ t.get (GRP_LASTREF_WHY g) = 8 ∧ t.get (GRP_CUEREF_COUNT g) = min (s.get (GRP_CUEREF_COUNT g) + 1) (2 ^ (GRP_CUEREF_COUNT g).len - 1) ∧  t.bit (GRP_STAT_RUN g) = false ∧ (t.bank (s.leadBank g)).stage = (s.bank (s.leadBank g)).stage ++ [⟨s.tbOf (s.leadBank g), s.tbOf (s.leadBank g), .comp (s.compOf g op.src Code.NOT_RUNNING (0) 0 0)⟩] ∧
      t = { s with regs := t.regs, groups := t.groups, banks := t.banks } ∧ SameGroups [g.val] s t ∧ SameWords [GRP_LASTREF g, GRP_CUEREF g] s t) ∧
  (∀ (g : Fin 64) (op : GOp) (rest : List GOp) (ep : Nat) (k : Option Nat) (s : State), (s.group g).ops = op :: rest → op.waiting = [] → op.cmd = .commit ep k → s.commonRefusal g op.cmd = none → ep % 2 ^ 16 ≠ (s.get (GRP_EPOCH_EPOCH g) + 1) % 2 ^ 16 → 
      ∃ t, exec (.groupDecision g) s = .next t ∧ t.get (GRP_LASTREF_WHY g) = 4 ∧ t.get (GRP_CUEREF_COUNT g) = min (s.get (GRP_CUEREF_COUNT g) + 1) (2 ^ (GRP_CUEREF_COUNT g).len - 1) ∧  t.get (GRP_EPOCH_EPOCH g) = s.get (GRP_EPOCH_EPOCH g) ∧ (t.group g).commit = (s.group g).commit ∧ (t.bank (s.leadBank g)).stage = (s.bank (s.leadBank g)).stage ++ [⟨s.tbOf (s.leadBank g), s.tbOf (s.leadBank g), .comp (s.compOf g op.src Code.EPOCH_MISMATCH (0) 0 0)⟩] ∧
      t = { s with regs := t.regs, groups := t.groups, banks := t.banks } ∧ SameGroups [g.val] s t ∧ SameWords [GRP_LASTREF g, GRP_CUEREF g] s t) ∧
  (∀ (g : Fin 64) (op : GOp) (rest : List GOp) (ep : Nat) (k : Option Nat) (s : State), (s.group g).ops = op :: rest → op.waiting = [] → op.cmd = .commit ep k → s.commonRefusal g op.cmd = none → ep % 2 ^ 16 = (s.get (GRP_EPOCH_EPOCH g) + 1) % 2 ^ 16 → (s.group g).commit = none → s.running g = false → 
      ∃ t, exec (.groupDecision g) s = .next t ∧ t.get (GRP_EPOCH_EPOCH g) = ep % 2 ^ 16 ∧ t.bit (GRP_STAT_CPEND g) = s.bit (GRP_STAT_CPEND g) ∧ (t.bank (s.leadBank g)).stage = (s.bank (s.leadBank g)).stage ++ [⟨s.tbOf (s.leadBank g), s.tbOf (s.leadBank g), .comp { s.compOf g op.src Code.OK 0 0 0 with epoch := ep % 2 ^ 16 }⟩] ∧
      (∀ n ∈ s.members g, ∀ i : Fin 32, ((t.chan n).cyc.shadow i).pend = false ∧ (((s.chan n).cyc.shadow i).pend = true →
        ((t.chan n).cyc.liveSlot i).data = ((s.chan n).cyc.shadow i).data ∧ ((t.chan n).cyc.liveSlot i).ctx = ((s.chan n).cyc.shadow i).ctx)) ∧ SameChans (s.members g) s t ∧ SameGroups [g.val] s t) ∧
  (∀ (g : Fin 64) (op : GOp) (rest : List GOp) (ep : Nat) (k : Option Nat) (s : State), (s.group g).ops = op :: rest → op.waiting = [] → op.cmd = .commit ep k → s.commonRefusal g op.cmd = none → ep % 2 ^ 16 = (s.get (GRP_EPOCH_EPOCH g) + 1) % 2 ^ 16 → (s.group g).commit = none → s.running g = true → (s.group g).stopAt = none → s.eligible g (s.tbOf (s.leadBank g)) ≤ k.getD (s.eligible g (s.tbOf (s.leadBank g))) → 
      ∃ t, exec (.groupDecision g) s = .next t ∧ (let j := k.getD (s.eligible g (s.tbOf (s.leadBank g)))
       (t.group g).commit = some (j, ep % 2 ^ 16, op.src) ∧ t.get (GRP_COMMITLO_K g) = j % 2 ^ 32 ∧ (∀ n ∈ s.members g, (t.chan n).cyc.loads = (s.chan n).cyc.loads ++ [.commit j])) ∧
      t.bit (GRP_STAT_CPEND g) = true ∧ t.get (GRP_EPOCH_EPOCH g) = s.get (GRP_EPOCH_EPOCH g) ∧
      t = { s with regs := t.regs, groups := t.groups, chans := t.chans } ∧ SameGroups [g.val] s t ∧ SameChans (s.members g) s t ∧ SameWords [GRP_STAT g, GRP_COMMITLO g, GRP_COMMITHI g] s t) ∧
  (∀ (g : Fin 64) (op : GOp) (rest : List GOp) (ep : Nat) (s : State), (s.group g).ops = op :: rest → op.waiting = [] → op.cmd = .cancel ep → ep % 2 ^ 16 = (s.get (GRP_EPOCH_EPOCH g) + 1) % 2 ^ 16 → (s.group g).commit = none → 
      ∃ t, exec (.groupDecision g) s = .next t ∧ (∀ n ∈ s.members g, ∀ i : Fin 32, ((t.chan n).cyc.shadow i).pend = false ∧ (t.chan n).cyc.liveSlot i = (s.chan n).cyc.liveSlot i) ∧ t.get (GRP_EPOCH_EPOCH g) = s.get (GRP_EPOCH_EPOCH g) ∧ (t.bank (s.leadBank g)).stage = (s.bank (s.leadBank g)).stage ++ [⟨s.tbOf (s.leadBank g), s.tbOf (s.leadBank g), .comp { s.compOf g op.src Code.OK 0 0 0 with slots := some (ones 32 (s.pendSet g)) }⟩] ∧
      t = { s with groups := t.groups, banks := t.banks, chans := t.chans } ∧ SameChans (s.members g) s t ∧ SameGroups [g.val] s t) ∧
  (∀ (g : Fin 64) (T : Nat) (s : State), (s.group g).start = some T → s.clocked (s.leadBank g) = true → 
      ∃ t, exec (.groupStartTime g) s = .next t ∧ (∀ n ∈ s.members g, (t.chan n).cyc.on = true ∧ (t.chan n).cyc.k = 0 ∧ (t.chan n).cyc.s = T * 2 ^ 28 ∧ (t.chan n).cyc.ahead.length = 4 ∧ t.cause n causeNogrp = false) ∧
      (t.group g).start = none ∧ T ≤ (t.root (s.rootOf (s.leadBank g))).tb ∧ SameChans (s.members g) s t ∧ SameGroups [g.val] s t ∧ SameRoots [s.rootOf (s.leadBank g)] s t) ∧
  (∀ (src : Source) (n : Fin 512) (w : Word) (s : State), s.rowServed src (CH_GRP n) true = true → s.grpWriteOk n w = true → 
      ∃ t, exec (.membershipWrite src n w) s = .next t ∧ t.bit (CH_GRP_MEMBER n) = wbit w 7 ∧ t.get (CH_GRP_GROUP n) = fld w 0 6 ∧ RegsOnly [CH_GRP n] s t) ∧
  (∀ (src : Source) (n : Fin 512) (w : Word) (s : State), s.rowServed src (CH_GRP n) true = true → s.grpWriteOk n w = false → 
      ∃ t, exec (.membershipWrite src n w) s = .next t ∧ t.bit (CH_CFLAGS_GRPREF n) = true ∧ t.word (CH_GRP n) = s.word (CH_GRP n) ∧ RegsIrq [CH_CFLAGS n] s t)

/-- An arm by TKt_CTRL whose checks pass puts the take in PREROLL with CODE 0, latches its joined channels, COUNT, gate,
timeout and modes, shows their number in NCH and all ones in TSTART and TSTOP. An arm that fails a check shows the
code of the first failing check and changes nothing else, TAKE_BUSY for a busy take or one for which an arm waits.
An ABORT in the same write comes first: a take that captures then closes, with CODE TAKE_BUSY for the arm. While
solves of its channels are queued an arm waits, and TAKE_ARM_RESUME, with none queued, then arms or refuses it by
the same checks. The model's choices here, which are no rule of the spec, by their log entries: CODE of a refusal
while a take runs, a second arm (42), BAD_CHANNEL before HOST_MODE and what is latched (45). -/
def Obligations.TakeArmIsCheckedAndLatched : Prop :=
  (∀ (src : Source) (k : Fin 256) (w : Word) (s : State), s.rowServed src (TK_CTRL k) true = true → wbit w 1 = false → wbit w 0 = true → (s.take k).waitArm = none → s.solvesQueued k = false → s.armCheck k ArmReq.init = Code.OK → 
      ∃ t, exec (.tktCtrlArm src k w) s = .next t ∧ t.takeState k = 1 ∧ (t.take k).chans = s.joined k ∧ t.get (TK_STAT_NCH k) = (s.joined k).length % 2 ^ (TK_STAT_NCH k).len ∧
      t.get (TK_STAT_CODE k) = 0 ∧ (t.take k).cfg = (s.word (TK_CFG k)).toNat ∧ (t.take k).count = max 1 (s.get (TK_COUNT_N k)) ∧ (t.take k).gate = max 1 (s.get (TK_GATELO_CYC k) + s.get (TK_GATEHI_CYC k) * 2 ^ 32) ∧
      (t.take k).timeout = s.get (TK_TIMEOUT_US k) ∧ (t.take k).raw = s.bit GLB_MODE_STAMPRAW ∧ (t.take k).drainWin = s.bit GLB_MODE_DRAINWIN ∧
      (t.take k).tstart = none ∧ (t.take k).tstop = none ∧ t.get (TK_TSTARTLO_T k) = 0xFFFFFFFF ∧ t.get (TK_TSTOPLO_T k) = 0xFFFFFFFF ∧
      (∀ n ∈ s.joined k, (t.cap n).cal.map (fun q => (q.kind, q.stamper)) = some (0, 0)) ∧ t = { s with regs := t.regs, takes := t.takes, caps := t.caps, ivs := t.ivs, rgs := t.rgs } ∧ SameTakes [k.val] s t ∧
      SameCaps (s.joined k) s t ∧ SameRgs (s.joined k) s t) ∧
  (∀ (src : Source) (k : Fin 256) (w : Word) (s : State), s.rowServed src (TK_CTRL k) true = true → wbit w 1 = false → wbit w 0 = true → (s.take k).waitArm = none → s.solvesQueued k = false → s.armCheck k ArmReq.init ≠ Code.OK → 
      ∃ t, exec (.tktCtrlArm src k w) s = .next t ∧ t.get (TK_STAT_CODE k) = s.armCheck k ArmReq.init % 2 ^ (TK_STAT_CODE k).len ∧ t.takeState k = s.takeState k ∧ RegsOnly [TK_STAT k] s t) ∧
  (∀ (src : Source) (k : Fin 256) (w : Word) (s : State), s.rowServed src (TK_CTRL k) true = true → wbit w 1 = false → wbit w 0 = true → (s.takeBusy k = true ∨ (s.take k).waitArm ≠ none) → 
      ∃ t, exec (.tktCtrlArm src k w) s = .next t ∧ t.get (TK_STAT_CODE k) = Code.TAKE_BUSY ∧ t.takeState k = s.takeState k ∧ RegsOnly [TK_STAT k] s t) ∧
  (∀ (src : Source) (k : Fin 256) (w : Word) (s : State), s.rowServed src (TK_CTRL k) true = true → wbit w 1 = true → wbit w 0 = true → s.takeState k = 3 → 
      ∃ t, exec (.tktCtrlArm src k w) s = .next t ∧ t.takeState k = 4 ∧ t.get (TK_STAT_CODE k) = Code.TAKE_BUSY ∧ SameTakes [k.val] s t) ∧
  (∀ (src : Source) (k : Fin 256) (w : Word) (s : State), s.rowServed src (TK_CTRL k) true = true → wbit w 1 = false → wbit w 0 = true → (s.take k).waitArm = none → s.takeBusy k = false → s.solvesQueued k = true → 
      ∃ t, exec (.tktCtrlArm src k w) s = .next t ∧ (t.take k).waitArm = some ArmReq.init ∧ t = { s with takes := t.takes } ∧ SameTakes [k.val] s t) ∧
  (∀ (k : Fin 256) (req : ArmReq) (s : State), (s.take k).waitArm = some req → s.solvesQueued k = false → s.armCheck k req = Code.OK → 
      ∃ t, exec (.takeArmResume k) s = .next t ∧ t.takeState k = 1 ∧ (t.take k).waitArm = none ∧ (t.take k).req = req ∧ (t.take k).chans = s.joined k ∧ t.get (TK_STAT_CODE k) = 0 ∧
      (req.src = .none → t = { s with regs := t.regs, takes := t.takes, caps := t.caps, ivs := t.ivs, rgs := t.rgs }) ∧ SameTakes [k.val] s t) ∧
  (∀ (k : Fin 256) (req : ArmReq) (s : State), (s.take k).waitArm = some req → s.solvesQueued k = false → s.armCheck k req ≠ Code.OK → 
      ∃ t, exec (.takeArmResume k) s = .next t ∧ t.takeState k = s.takeState k ∧ t.take k = { s.take k with waitArm := none } ∧ t.get (TK_STAT_CODE k) = s.armCheck k req % 2 ^ (TK_STAT_CODE k).len ∧
      (req.src = .none → t = { s with regs := t.regs, takes := t.takes } ∧ SameWords [TK_STAT k] s t) ∧ SameTakes [k.val] s t)

/-- TAKE_STOP_REACHED in CAPTURE with t_stop fixed enters CLOSING. TAKE_DONE in CLOSING, with no stamp of the window
left to be written, enters DONE with the closing code, stops the stampers of its channels, drops a held start and
sets the TKPEND bit of the take. TAKE_TIMEOUT with a limit set and an abort close a take in PREROLL or ARMED at
once, with TIMEOUT or CANCELLED, and bring one in CAPTURE to CLOSING: t_stop moves to the present cycle unless an
earlier one is fixed; the code is TIMEOUT unless a stop falls in that cycle or earlier, which a timeout leaves as it
is, and of an abort OK for a take that an abort stops, else CANCELLED. An abort in another state does nothing. The
model's choices here, which are no rule of the spec, by their log entries: abort and timeout beside a fixed t_stop
(42), stamps that wait at DONE (43), when TKPEND rises (48). -/
def Obligations.TakeStopsAndCloses : Prop :=
  (∀ (k : Fin 256) (v : Int) (s : State), s.takeState k = 3 → (s.take k).tstop = some v → 
      ∃ t, exec (.takeStopReached k) s = .next t ∧ t.takeState k = 4 ∧ (t.take k).tstop = some v ∧ t = { s with regs := t.regs, takes := t.takes, roots := t.roots } ∧ SameTakes [k.val] s t ∧ SameWords [TK_STAT k] s t) ∧
  (∀ (k : Fin 256) (s : State), s.takeState k = 4 → s.stampsLeft k = false → 
      ∃ t, exec (.takeDone k) s = .next t ∧ t.takeState k = 5 ∧ t.get (TK_STAT_CODE k) = (s.take k).code % 2 ^ (TK_STAT_CODE k).len ∧ t.bit ⟨MBX_TKPEND (k.val / 32), k.val % 32, 1⟩ = true ∧
      (∀ n ∈ (s.take k).chans, t.bit (CH_EVSTAT_RUN n) = false) ∧ (t.take k).held = none ∧ (t.take k).waiters = [] ∧ SameTakes [k.val] s t) ∧
  (∀ (k : Fin 256) (s : State), (s.take k).timeout ≠ 0 → (s.takeState k = 1 ∨ s.takeState k = 2) → 
      ∃ t, exec (.takeTimeout k) s = .next t ∧ t.takeState k = 5 ∧ t.get (TK_STAT_CODE k) = Code.TIMEOUT ∧ (t.take k).tstop = none ∧ SameTakes [k.val] s t) ∧
  (∀ (k : Fin 256) (s : State), (s.take k).timeout ≠ 0 → s.takeState k = 3 → ((s.take k).tstop.any (fun v => decide (v ≤ 4096 * ((s.takeTb k : Int) + 1))) = false) → 
      ∃ t, exec (.takeTimeout k) s = .next t ∧ t.takeState k = 4 ∧ (t.take k).code = Code.TIMEOUT ∧ (t.take k).tstop = some ((s.take k).tstop.elim (4096 * (s.takeTb k : Int)) (min (4096 * (s.takeTb k : Int)))) ∧ SameTakes [k.val] s t ∧
      t = { s with regs := t.regs, takes := t.takes, roots := t.roots } ∧ SameWords [TK_STAT k, TK_TSTOPLO k, TK_TSTOPHI k] s t) ∧
  (∀ (k : Fin 256) (s : State), (s.take k).timeout ≠ 0 → s.takeState k = 3 → ((s.take k).tstop.any (fun v => decide (v ≤ 4096 * ((s.takeTb k : Int) + 1))) = true) → 
      ∃ t, exec (.takeTimeout k) s = .next t ∧ t.takeState k = 4 ∧ (t.take k).code = (s.take k).code ∧ (t.take k).tstop = (s.take k).tstop ∧ SameTakes [k.val] s t ∧
      t = { s with regs := t.regs, takes := t.takes, roots := t.roots } ∧ SameWords [TK_STAT k] s t) ∧
  (∀ (src : Source) (k : Fin 256) (w : Word) (s : State), s.rowServed src (TK_CTRL k) true = true → wbit w 1 = true → wbit w 0 = false → (s.takeState k = 1 ∨ s.takeState k = 2) → 
      ∃ t, exec (.tktCtrlAbort src k w) s = .next t ∧ t.takeState k = 5 ∧ t.get (TK_STAT_CODE k) = Code.CANCELLED ∧ SameTakes [k.val] s t) ∧
  (∀ (src : Source) (k : Fin 256) (w : Word) (s : State), s.rowServed src (TK_CTRL k) true = true → wbit w 1 = true → wbit w 0 = false → s.takeState k = 3 → 
      ∃ t, exec (.tktCtrlAbort src k w) s = .next t ∧ t.takeState k = 4 ∧ (t.take k).code = (if (s.take k).stop = 3 then Code.OK else Code.CANCELLED) ∧
      (t.take k).tstop = some ((s.take k).tstop.elim (4096 * (s.takeTb k : Int)) (min (4096 * (s.takeTb k : Int)))) ∧ SameTakes [k.val] s t ∧
      t = { s with regs := t.regs, takes := t.takes, roots := t.roots } ∧ SameWords [TK_STAT k, TK_TSTOPLO k, TK_TSTOPHI k] s t) ∧
  (∀ (src : Source) (k : Fin 256) (w : Word) (s : State), s.rowServed src (TK_CTRL k) true = true → wbit w 1 = true → wbit w 0 = false → (s.takeState k = 0 ∨ s.takeState k = 4 ∨ s.takeState k = 5) → 
      exec (.tktCtrlAbort src k w) s = .next s)

/-- A write of CHn_RCTRL.FLUSH = 1 while the take the channel has joined is IDLE or DONE, or the channel has joined
none, leaves RTAIL equal to RHEAD and changes nothing else. Otherwise it changes nothing and sets EFLAGS.FLUSHREF.
After power-on and after every other reset every reel holds 0 words. -/
def Obligations.ReelFlushEmptiesTheReel : Prop :=
  (∀ (src : Source) (n : Fin 512) (w : Word) (s : State), s.rowServed src (CH_RCTRL n) true = true → wbit w 0 = true → s.chanInTake n = false → 
      ∃ t, exec (.reelFlush src n w) s = .next t ∧ t.get (CH_RTAIL_IDX n) = s.get (CH_RHEAD_IDX n) ∧ t.get (CH_RHEAD_IDX n) = s.get (CH_RHEAD_IDX n) ∧ t.reelCount n = 0 ∧ RegsOnly [CH_RTAIL n] s t) ∧
  (∀ (src : Source) (n : Fin 512) (w : Word) (s : State), s.rowServed src (CH_RCTRL n) true = true → wbit w 0 = true → s.chanInTake n = true → 
      ∃ t, exec (.reelFlush src n w) s = .next t ∧ t.bit (CH_EFLAGS_FLUSHREF n) = true ∧ t.get (CH_RTAIL_IDX n) = s.get (CH_RTAIL_IDX n) ∧ RegsIrq [CH_EFLAGS n] s t) ∧
  (∀ (n : Fin 512) (s : State), 
      State.reset.reelCount n = 0 ∧ s.afterReset.reelCount n = 0)

/-- In window drain mode a write of RTAIL within the words the reel holds that does not land on the payload of a slate
is taken; another is refused with BADTAIL. With drain rings in force a write of RTAIL does nothing. A write of
CHn_TAKE is taken when it changes nothing or neither the take it leaves nor the take it joins runs, else it sets
JOINREF and changes nothing. The model's choices here, which are no rule of the spec, by their log entries: that
RTAIL with DRAINWIN 0 is ignored (47). -/
def Obligations.ReelTailAndTakeMembership : Prop :=
  (∀ (src : Source) (n : Fin 512) (w : Word) (s : State), s.rowServed src (CH_RTAIL n) true = true → s.drainWin n = true → (fld w 0 11 + 2048 - s.get (CH_RTAIL_IDX n)) % 2048 ≤ s.reelCount n → ((fld w 0 11 + 2048 - s.get (CH_RTAIL_IDX n)) % 2048 = s.reelCount n ∨ ((s.cap n).word (fld w 0 11)).pay = false) → 
      ∃ t, exec (.rtailWrite src n w) s = .next t ∧ t.get (CH_RTAIL_IDX n) = fld w 0 11 ∧ RegsOnly [CH_RTAIL n] s t) ∧
  (∀ (src : Source) (n : Fin 512) (w : Word) (s : State), s.rowServed src (CH_RTAIL n) true = true → s.drainWin n = true → (s.reelCount n < (fld w 0 11 + 2048 - s.get (CH_RTAIL_IDX n)) % 2048 ∨ ((fld w 0 11 + 2048 - s.get (CH_RTAIL_IDX n)) % 2048 ≠ s.reelCount n ∧ ((s.cap n).word (fld w 0 11)).pay = true)) → 
      ∃ t, exec (.rtailWrite src n w) s = .next t ∧ t.bit (CH_EFLAGS_BADTAIL n) = true ∧ RegsIrq [CH_EFLAGS n] s t) ∧
  (∀ (src : Source) (n : Fin 512) (w : Word) (s : State), s.rowServed src (CH_RTAIL n) true = true → s.drainWin n = false → 
      exec (.rtailWrite src n w) s = .next s) ∧
  (∀ (src : Source) (n : Fin 512) (w : Word) (s : State), s.rowServed src (CH_TAKE n) true = true → ((s.bit (CH_TAKE_JOIN n) = wbit w 31 ∧ s.get (CH_TAKE_TAKE n) = fld w 0 8) ∨ (s.chanInTake n = false ∧ (wbit w 31 = false ∨ s.takeBusy (fld w 0 8) = false))) → 
      ∃ t, exec (.takeJoinWrite src n w) s = .next t ∧ t.bit (CH_TAKE_JOIN n) = wbit w 31 ∧ t.get (CH_TAKE_TAKE n) = fld w 0 8 ∧ RegsOnly [CH_TAKE n] s t) ∧
  (∀ (src : Source) (n : Fin 512) (w : Word) (s : State), s.rowServed src (CH_TAKE n) true = true → (s.bit (CH_TAKE_JOIN n) ≠ wbit w 31 ∨ s.get (CH_TAKE_TAKE n) ≠ fld w 0 8) → (s.chanInTake n = true ∨ (wbit w 31 = true ∧ s.takeBusy (fld w 0 8) = true)) → 
      ∃ t, exec (.takeJoinWrite src n w) s = .next t ∧ t.bit (CH_EFLAGS_JOINREF n) = true ∧ t.word (CH_TAKE n) = s.word (CH_TAKE n) ∧ RegsIrq [CH_EFLAGS n] s t)

/-- EVENT_EDGE at the selected input shows its polarity after INV in LEVEL, clears QUIET and counts in the activity
window; at another input, or with EN 0, only the input's level is kept. With the stampers not running, or with an
edge that EDGE does not select, that is all. Running and selected, one within the hold-off of the last accepted edge
counts in LOSTHOLD and one within the separation, or with the output queue full, in LOSTSEP, and both set LOST; any
other becomes a stamp in the taint stage at its time, by the stamper whose turn it is. ACTIVITY_WINDOW_END shows at
most 65,535 transitions and starts anew. QUIET_TIMEOUT sets QUIET and, where a take uses the channel, flags it.
RESLATE_TIMER of a take with RESLATE or of a raw one starts a calibration with stamper 0 of kind 2.
PREROLL_HALF_DONE of an accepted half shows its gain and offset and puts its slate into the taint stage; stamper 0
goes on with stamper 1; with the last head half of its channels the take is armed, and captures at once when it
starts so. A head half that fails is repeated once; a second failure closes the take with PREROLL_FAIL. The model's
choices here, which are no rule of the spec, by their log entries: how the output queue is counted (41), what a
change of EVCFG does (111), the re-slate and the interrupted half (112). -/
def Obligations.EdgesBecomeStamps : Prop :=
  (∀ (n : Fin 512) (input : Fin 3) (rising : Bool) (ref : Nat) (code : BitVec 14) (s : State), (s.bit (CH_EVCFG_EN n) = false ∨ s.evSource n ≠ input.val) → (input.val ≠ 0 ∨ s.pinsCut = false) → 
      ∃ t, exec (.eventEdge n input rising ref code) s = .next t ∧ t.cap n = { s.cap n with inputs := (s.cap n).inputs.set input rising } ∧ t = { s with caps := t.caps } ∧ SameCaps [n.val] s t) ∧
  (∀ (n : Fin 512) (input : Fin 3) (rising : Bool) (ref : Nat) (code : BitVec 14) (s : State), s.bit (CH_EVCFG_EN n) = true → s.evSource n = input.val → (input.val ≠ 0 ∨ s.pinsCut = false) → s.bit (CH_EVSTAT_RUN n) = false → 
      ∃ t, exec (.eventEdge n input rising ref code) s = .next t ∧ t.get (CH_EVSTAT_LEVEL n) = b2n (rising != s.bit (CH_EVCFG_INV n)) ∧ t.bit (CH_EVSTAT_QUIET n) = false ∧ (t.cap n).trans = (s.cap n).trans + 1 ∧
      t = { s with regs := t.regs, caps := t.caps } ∧ SameCaps [n.val] s t ∧ SameWords [CH_EVSTAT n] s t) ∧
  (∀ (n : Fin 512) (input : Fin 3) (rising : Bool) (ref : Nat) (code : BitVec 14) (s : State), s.bit (CH_EVCFG_EN n) = true → s.evSource n = input.val → (input.val ≠ 0 ∨ s.pinsCut = false) → s.bit (CH_EVSTAT_RUN n) = true → ((s.get (CH_EVCFG_EDGE n) = 0 → rising ≠ s.bit (CH_EVCFG_INV n)) ∧ (s.get (CH_EVCFG_EDGE n) = 1 → rising = s.bit (CH_EVCFG_INV n))) → ((s.cap n).tAcc.any (fun a => decide ((s.edgeTime n (match (s.cap n).cal with | some q => 1 - q.stamper | none => (s.cap n).nextSt) ref code.toNat).1 < a + 4096 * s.get (CH_EVCFG_HOLDOFF n))) = true) → 
      ∃ t, exec (.eventEdge n input rising ref code) s = .next t ∧ t.get (CH_LOSTHOLD_COUNT n) = min (s.get (CH_LOSTHOLD_COUNT n) + 1) (2 ^ (CH_LOSTHOLD_COUNT n).len - 1) ∧ t.bit (CH_EFLAGS_LOST n) = true ∧
      (t.cap n).tAcc = (s.cap n).tAcc ∧ (t.cap n).lostAt = some (s.edgeTime n (match (s.cap n).cal with | some q => 1 - q.stamper | none => (s.cap n).nextSt) ref code.toNat).1 ∧ t = { s with regs := t.regs, caps := t.caps, roots := t.roots, msixPend := t.msixPend, out := t.out } ∧ SameCaps [n.val] s t ∧ SameWords [CH_EVSTAT n, CH_LOSTHOLD n, CH_EFLAGS n] s t) ∧
  (∀ (n : Fin 512) (input : Fin 3) (rising : Bool) (ref : Nat) (code : BitVec 14) (s : State), s.bit (CH_EVCFG_EN n) = true → s.evSource n = input.val → (input.val ≠ 0 ∨ s.pinsCut = false) → s.bit (CH_EVSTAT_RUN n) = true → ((s.get (CH_EVCFG_EDGE n) = 0 → rising ≠ s.bit (CH_EVCFG_INV n)) ∧ (s.get (CH_EVCFG_EDGE n) = 1 → rising = s.bit (CH_EVCFG_INV n))) → ((s.cap n).tAcc.any (fun a => decide ((s.edgeTime n (match (s.cap n).cal with | some q => 1 - q.stamper | none => (s.cap n).nextSt) ref code.toNat).1 < a + 4096 * s.get (CH_EVCFG_HOLDOFF n))) = false) → ((s.cap n).tAcc.any (fun a => decide ((s.edgeTime n (match (s.cap n).cal with | some q => 1 - q.stamper | none => (s.cap n).nextSt) ref code.toNat).1 < a + (max 5899 (s.get (CH_SEPMIN_TICKS n)) * (if (s.cap n).cal.isSome then 2 else 1)))) = true ∨ (s.edgeTime n (match (s.cap n).cal with | some q => 1 - q.stamper | none => (s.cap n).nextSt) ref code.toNat).1 + 7 * s.drainTicks n < (s.cap n).qEnd) → 
      ∃ t, exec (.eventEdge n input rising ref code) s = .next t ∧ t.get (CH_LOSTSEP_COUNT n) = min (s.get (CH_LOSTSEP_COUNT n) + 1) (2 ^ (CH_LOSTSEP_COUNT n).len - 1) ∧ t.bit (CH_EFLAGS_LOST n) = true ∧
      (t.cap n).tAcc = (s.cap n).tAcc ∧ (t.cap n).lostAt = some (s.edgeTime n (match (s.cap n).cal with | some q => 1 - q.stamper | none => (s.cap n).nextSt) ref code.toNat).1 ∧ t = { s with regs := t.regs, caps := t.caps, roots := t.roots, msixPend := t.msixPend, out := t.out } ∧ SameCaps [n.val] s t ∧ SameWords [CH_EVSTAT n, CH_LOSTSEP n, CH_EFLAGS n] s t) ∧
  (∀ (n : Fin 512) (input : Fin 3) (rising : Bool) (ref : Nat) (code : BitVec 14) (s : State), s.bit (CH_EVCFG_EN n) = true → s.evSource n = input.val → (input.val ≠ 0 ∨ s.pinsCut = false) → s.bit (CH_EVSTAT_RUN n) = true → ((s.get (CH_EVCFG_EDGE n) = 0 → rising ≠ s.bit (CH_EVCFG_INV n)) ∧ (s.get (CH_EVCFG_EDGE n) = 1 → rising = s.bit (CH_EVCFG_INV n))) → ((s.cap n).tAcc.any (fun a => decide ((s.edgeTime n (match (s.cap n).cal with | some q => 1 - q.stamper | none => (s.cap n).nextSt) ref code.toNat).1 < a + 4096 * s.get (CH_EVCFG_HOLDOFF n))) = false) → ((s.cap n).tAcc.all (fun a => decide (a + (max 5899 (s.get (CH_SEPMIN_TICKS n)) * (if (s.cap n).cal.isSome then 2 else 1)) ≤ (s.edgeTime n (match (s.cap n).cal with | some q => 1 - q.stamper | none => (s.cap n).nextSt) ref code.toNat).1)) = true) → ((s.cap n).qEnd ≤ (s.edgeTime n (match (s.cap n).cal with | some q => 1 - q.stamper | none => (s.cap n).nextSt) ref code.toNat).1 + 7 * s.drainTicks n) → 
      ∃ t, exec (.eventEdge n input rising ref code) s = .next t ∧ (t.cap n).tAcc = some (s.edgeTime n (match (s.cap n).cal with | some q => 1 - q.stamper | none => (s.cap n).nextSt) ref code.toNat).1 ∧ (t.cap n).lostAt = none ∧ (t.cap n).nextSt = 1 - (match (s.cap n).cal with | some q => 1 - q.stamper | none => (s.cap n).nextSt) ∧
      (t.bank (n / 64)).stage.length = (s.bank (n / 64)).stage.length + 1 ∧ (t.bank (n / 64)).stage.getLast?.map (fun i => i.time) = some ((s.edgeTime n (match (s.cap n).cal with | some q => 1 - q.stamper | none => (s.cap n).nextSt) ref code.toNat).1 / 4096).toNat ∧
      ((s.takeOf n).all (fun k => s.takeState k == 3 && (s.take k).stop != 2 && !(s.take k).reslate) = true →
        t = { s with regs := t.regs, caps := t.caps, roots := t.roots, banks := t.banks } ∧ SameWords [CH_EVSTAT n] s t) ∧ SameCaps [n.val] s t ∧ SameBanks [n.val / 64] s t) ∧
  (∀ (n : Fin 512) (s : State), 
      ∃ t, exec (.activityWindowEnd n) s = .next t ∧ t.get (CH_EVSTAT_EDG1US n) = min 65535 (s.cap n).trans ∧ (t.cap n).trans = 0 ∧ t = { s with regs := t.regs, caps := t.caps } ∧ SameCaps [n.val] s t ∧ SameWords [CH_EVSTAT n] s t) ∧
  (∀ (n : Fin 512) (s : State), 
      ∃ t, exec (.quietTimeout n) s = .next t ∧ t.bit (CH_EVSTAT_QUIET n) = true ∧ (s.bit (CH_EVSTAT_QUIET n) = false → (s.takeOf n).isSome → t.bit (CH_EFLAGS_QUIET n) = true) ∧ RegsIrq [CH_EVSTAT n, CH_EFLAGS n] s t) ∧
  (∀ (n : Fin 512) (k : Nat) (s : State), s.takeOf n = some k → s.bit (CH_EVSTAT_RUN n) = true → (s.cap n).cal = none → ((s.take k).reslate = true ∨ (s.take k).raw = true) → 
      ∃ t, exec (.reslateTimer n) s = .next t ∧ (t.cap n).cal.map (fun q => (q.kind, q.stamper, q.again)) = some (2, 0, false) ∧ (t.cap n).nextSt = (s.cap n).nextSt ∧
      t = { s with caps := t.caps, roots := t.roots } ∧ SameCaps [n.val] s t ∧ SameRoots [s.rootOf (n / 64)] s t) ∧
  (∀ (n : Fin 512) (k : Nat) (q : Calib) (c1 c2 : Vector (BitVec 14) 8) (s : State), s.takeOf n = some k → (s.cap n).cal = some q → s.get (BNK_STAT_DLLSTATE (n.val / 64)) ≠ 0 → q.stamper = 0 → q.wait = false → (measureHalf c1.toList c2.toList).ok = true → 
      ∃ t, exec (.prerollHalfDone n c1 c2) s = .next t ∧ t.get (CH_SLGAIN_G n 0) = ((measureHalf c1.toList c2.toList).g * 128).toNat % 2 ^ (CH_SLGAIN_G n 0).len ∧
      t.get (CH_SLOFF_O n 0) = ((measureHalf c1.toList c2.toList).o * 128).toNat % 2 ^ (CH_SLOFF_O n 0).len ∧
      (t.cap n).cal = some { q with stamper := 1, again := false, begin := q.begin + 64, wait := false } ∧
      (t.bank (n / 64)).stage.length = (s.bank (n / 64)).stage.length + 1 ∧
      t = { s with regs := t.regs, caps := t.caps, roots := t.roots, banks := t.banks } ∧ SameCaps [n.val] s t ∧ SameBanks [n.val / 64] s t ∧
      SameWords [CH_SLGAIN n 0, CH_SLOFF n 0] s t) ∧
  (∀ (n : Fin 512) (k : Nat) (q : Calib) (c1 c2 : Vector (BitVec 14) 8) (s : State), s.takeOf n = some k → (s.cap n).cal = some q → s.get (BNK_STAT_DLLSTATE (n.val / 64)) ≠ 0 → q.wait = false → q.stamper ≠ 0 → q.kind = 0 → (measureHalf c1.toList c2.toList).ok = true → 
      ∃ t, exec (.prerollHalfDone n c1 c2) s = .next t ∧ (t.cap n).cal = none ∧ (t.cap n).preEnd = q.begin + 64 ∧ (t.bank (n / 64)).stage.length = (s.bank (n / 64)).stage.length + 1 ∧
      (q.stamper = 1 → t.get (CH_SLGAIN_G n 1) = ((measureHalf c1.toList c2.toList).g * 128).toNat % 2 ^ (CH_SLGAIN_G n 1).len ∧
      t.get (CH_SLOFF_O n 1) = ((measureHalf c1.toList c2.toList).o * 128).toNat % 2 ^ (CH_SLOFF_O n 1).len) ∧
      ((∀ m ∈ (s.take k).chans, m ≠ n.val → (s.cap m).cal = none) → (∀ m ∈ (s.take k).chans, t.bit (CH_EVSTAT_RUN m) = true) ∧ ((s.take k).start = 0 → t.takeState k = 3) ∧ (2 ≤ (s.take k).start → t.takeState k = 2))) ∧
  (∀ (n : Fin 512) (k : Nat) (q : Calib) (c1 c2 : Vector (BitVec 14) 8) (s : State), s.takeOf n = some k → (s.cap n).cal = some q → s.get (BNK_STAT_DLLSTATE (n.val / 64)) ≠ 0 → q.wait = false → q.kind = 0 → q.again = false → (measureHalf c1.toList c2.toList).ok = false → 
      ∃ t, exec (.prerollHalfDone n c1 c2) s = .next t ∧ (t.cap n).cal = some { q with again := true, begin := q.begin + 64, wait := false } ∧ t = { s with caps := t.caps, roots := t.roots } ∧ SameCaps [n.val] s t) ∧
  (∀ (n : Fin 512) (k : Nat) (q : Calib) (c1 c2 : Vector (BitVec 14) 8) (s : State), s.takeOf n = some k → (s.cap n).cal = some q → s.get (BNK_STAT_DLLSTATE (n.val / 64)) ≠ 0 → q.wait = false → q.kind = 0 → q.again = true → (measureHalf c1.toList c2.toList).ok = false → 
      ∃ t, exec (.prerollHalfDone n c1 c2) s = .next t ∧ t.takeState k = 5 ∧ t.get (TK_STAT_CODE k) = Code.PREROLL_FAIL ∧ t.bit (CH_EFLAGS_PREFAIL n) = true ∧ (t.cap n).cal = none)

/-- TAINT_STAGE_RELEASE takes the oldest item of the stage of a bank whose DLL has a clock and moves the timebase at
least to its entry plus the guard. A completion nobody waits for leaves no other trace. That of a mailbox command
finishes it with its code, its taint mark, its counts, its effect cycle and its epoch. A stamp whose channel uses no
take leaves none either. With no stamp or slate of its take waiting, a stamp of a take waits where an earlier one of
the take can still come; else, outside the window, it is dropped, and in the window, with room in the reel, it is
written at RHEAD with its taint and lost-before marks and counts in STAMPCNT. The model's choices here, which are no
rule of the spec, by their log entries: the order of a take over its channels (43). -/
def Obligations.TaintStageReleasesInOrder : Prop :=
  (∀ (b : Fin 8) (it : StageItem) (rest : List StageItem) (s : State), s.get (BNK_STAT_DLLSTATE b) ≠ 0 → (s.bank b).stage = it :: rest → 
      ∃ t, exec (.taintStageRelease b) s = .next t ∧ (t.bank b).stage.length = rest.length ∧ it.enter + s.guardOf b ≤ t.tbOf b ∧ SameRoots [s.rootOf b] s t) ∧
  (∀ (b : Fin 8) (it : StageItem) (rest : List StageItem) (c : Comp) (s : State), s.get (BNK_STAT_DLLSTATE b) ≠ 0 → (s.bank b).stage = it :: rest → it.body = .comp c → c.src = .none → 
      ∃ t, exec (.taintStageRelease b) s = .next t ∧ (t.bank b).stage = rest ∧ t = { s with roots := t.roots, banks := t.banks } ∧ SameBanks [b.val] s t ∧ SameRoots [s.rootOf b] s t) ∧
  (∀ (b : Fin 8) (it : StageItem) (rest : List StageItem) (c : Comp) (f n : Nat) (p q : List Cmd) (k : Cmd) (s : State), s.get (BNK_STAT_DLLSTATE b) ≠ 0 → (s.bank b).stage = it :: rest → it.body = .comp c → c.src = .flow f n → (s.flow f).cmds = p ++ k :: q → k.id = n → k.st ≠ .finished → (∀ j ∈ p ++ q, j.id ≠ n) → k.orphan = false → 
      ∃ t, exec (.taintStageRelease b) s = .next t ∧ (t.bank b).stage = rest ∧ t.flow f = { s.flow f with cmds := p ++ { k with st := .finished, code := c.code, taint := c.banks.any (fun d => s.tainted d it.time), data := false, aux := c.slots.getD c.members % 1024 * 64 + min 7 c.voids * 8 + min 7 c.ces, res := c.cyc % 2 ^ 48 + c.epoch * 2 ^ 48 } :: q } ∧
      t = { s with roots := t.roots, banks := t.banks, flows := t.flows } ∧ SameBanks [b.val] s t ∧ SameRoots [s.rootOf b] s t ∧ SameFlows [f] s t) ∧
  (∀ (b : Fin 8) (it : StageItem) (rest : List StageItem) (n k : Nat) (x : Stamp) (s : State), s.get (BNK_STAT_DLLSTATE b) ≠ 0 → (s.bank b).stage = it :: rest → it.body = .stamp n x → s.takeOf n = some k → (s.take k).merge = [] → ((s.take k).chans.all (fun m => decide (x.t < ((s.tbTo b (it.enter + s.guardOf b)).modBank b (fun y => { y with stage := rest })).safeBefore m)) = true) → s.inWindow k n x.t = true → s.bit (CH_CALCTRL_HIST n) = false → (s.cap n).blocked = false → s.reelCount n < 1024 → 
      ∃ t, exec (.taintStageRelease b) s = .next t ∧ (t.bank b).stage = rest ∧ t.get (CH_RHEAD_IDX n) = (s.get (CH_RHEAD_IDX n) + 1) % 2048 ∧
      ((t.cap n).word (s.get (CH_RHEAD_IDX n))).w = (if (s.cap n).mark then markLostb (stampWord (s.take k).raw x (s.tainted b it.time) (x.lostAt.any (fun l => decide ((s.take k).tstart.getD 0 ≤ l)))) else stampWord (s.take k).raw x (s.tainted b it.time) (x.lostAt.any (fun l => decide ((s.take k).tstart.getD 0 ≤ l)))) ∧ (t.cap n).mark = false ∧
      t.get (CH_STAMPCNT_COUNT n) = min (s.get (CH_STAMPCNT_COUNT n) + 1) (2 ^ (CH_STAMPCNT_COUNT n).len - 1) ∧ (t.cap n).n = (s.cap n).n + 1 ∧
      (t.take k).merge = [] ∧ SameCaps [n] s t ∧ SameTakes [k] s t ∧ t.chans = s.chans) ∧
  (∀ (b : Fin 8) (it : StageItem) (rest : List StageItem) (n k : Nat) (x : Stamp) (s : State), s.get (BNK_STAT_DLLSTATE b) ≠ 0 → (s.bank b).stage = it :: rest → it.body = .stamp n x → s.takeOf n = some k → (s.take k).merge = [] → ((s.take k).chans.all (fun m => decide (x.t < ((s.tbTo b (it.enter + s.guardOf b)).modBank b (fun y => { y with stage := rest })).safeBefore m)) = true) → s.inWindow k n x.t = false → 
      ∃ t, exec (.taintStageRelease b) s = .next t ∧ (t.bank b).stage = rest ∧ (t.take k).merge = [] ∧ t.get (CH_RHEAD_IDX n) = s.get (CH_RHEAD_IDX n) ∧ t.get (CH_STAMPCNT_COUNT n) = s.get (CH_STAMPCNT_COUNT n) ∧ t.caps = s.caps ∧ SameTakes [k] s t) ∧
  (∀ (b : Fin 8) (it : StageItem) (rest : List StageItem) (n k : Nat) (x : Stamp) (s : State), s.get (BNK_STAT_DLLSTATE b) ≠ 0 → (s.bank b).stage = it :: rest → it.body = .stamp n x → s.takeOf n = some k → (s.take k).merge = [] → ((s.take k).chans.all (fun m => decide (x.t < ((s.tbTo b (it.enter + s.guardOf b)).modBank b (fun y => { y with stage := rest })).safeBefore m)) = false) → 
      ∃ t, exec (.taintStageRelease b) s = .next t ∧ (t.bank b).stage = rest ∧ (t.take k).merge = [⟨x.t, .stamp n x, s.tainted b it.time⟩] ∧ t.get (CH_RHEAD_IDX n) = s.get (CH_RHEAD_IDX n) ∧ t.caps = s.caps ∧ SameTakes [k] s t) ∧
  (∀ (b : Fin 8) (it : StageItem) (rest : List StageItem) (n : Nat) (x : Stamp) (s : State), s.get (BNK_STAT_DLLSTATE b) ≠ 0 → (s.bank b).stage = it :: rest → it.body = .stamp n x → s.takeOf n = none → 
      ∃ t, exec (.taintStageRelease b) s = .next t ∧ (t.bank b).stage = rest ∧ t = { s with roots := t.roots, banks := t.banks } ∧ SameBanks [b.val] s t)

/-- A read of FIFOLO returns the low word of the oldest entry, or 0 of an empty FIFO, and latches its high word; a read
of FIFOHI returns the latched word and removes the entry, or returns 0 of an empty FIFO. REGRESSION_SOLVE takes the
oldest queued channel, sets DONE and SOLVED and, with fewer than 3 stamps in the sums, shows TOO_FEW or, after an
overflow, SUM_OVF; with more, and a positive period, the frequency rounded and at most 2^64 - 1, with VALUE_RANGE
for a period or a frequency outside its range and SUM_OVF after an overflow. A write of REG_SEL shows the sums of
the selected channel, each in 128-bit two-complement form. The model's choices here, which are no rule of the spec,
by their log entries: an exact half in rounding (11), a result beyond its field (12). -/
def Obligations.IntervalAndRegressionReads : Prop :=
  (∀ (src : Source) (i : Fin 64) (w : Nat) (rest : List Nat) (s : State), s.rowServed src (IV_FIFOLO i) false = true → (s.iv i).fifo = w :: rest → 
      ∃ t, exec (.fifoloRead src i) s = .next t ∧ t.out = .read (IV_FIFOLO i) [w % 2 ^ 32] :: s.out ∧ t.get (IV_FIFOHI_W i) = w / 2 ^ 32 % 2 ^ 32 ∧ t.iv i = s.iv i ∧
      t = { s with regs := t.regs, out := t.out } ∧ SameWords [IV_FIFOHI i] s t) ∧
  (∀ (src : Source) (i : Fin 64) (s : State), s.rowServed src (IV_FIFOLO i) false = true → (s.iv i).fifo = [] → 
      ∃ t, exec (.fifoloRead src i) s = .next t ∧ t.out = .read (IV_FIFOLO i) [0] :: s.out ∧ t.get (IV_FIFOHI_W i) = 0 ∧ t = { s with regs := t.regs, out := t.out } ∧ SameWords [IV_FIFOHI i] s t) ∧
  (∀ (src : Source) (i : Fin 64) (w : Nat) (rest : List Nat) (s : State), s.rowServed src (IV_FIFOHI i) false = true → (s.iv i).fifo = w :: rest → 
      ∃ t, exec (.fifohiRead src i) s = .next t ∧ t.out = .read (IV_FIFOHI i) [s.get (IV_FIFOHI_W i)] :: s.out ∧ (t.iv i).fifo = rest ∧
      t.get (IV_FIFOSTAT_FILL i) = rest.length % 2 ^ (IV_FIFOSTAT_FILL i).len ∧
      t = { s with regs := t.regs, ivs := t.ivs, out := t.out } ∧ SameIvs [i.val] s t ∧ SameWords [IV_FIFOSTAT i] s t) ∧
  (∀ (src : Source) (i : Fin 64) (s : State), s.rowServed src (IV_FIFOHI i) false = true → (s.iv i).fifo = [] → 
      exec (.fifohiRead src i) s = .next { s with out := .read (IV_FIFOHI i) [0] :: s.out }) ∧
  (∀ (n : Nat) (rest : List Nat) (s : State), s.regQ = n :: rest → (s.rg n).n < 3 → 
      ∃ t, exec (.regressionSolve) s = .next t ∧ t.bit (RG_STAT_DONE n) = true ∧ t.bit (RG_STAT_SOLVED n) = true ∧ t.regQ = rest ∧
      t.get (RG_STAT_CODE n) = (if s.bit (RG_STAT_OVF n) then Code.SUM_OVF else Code.TOO_FEW) ∧
      t = { s with regs := t.regs, regQ := t.regQ, msixPend := t.msixPend, out := t.out } ∧ SameWords [RG_STAT n] s t) ∧
  (∀ (n : Nat) (rest : List Nat) (s : State), s.regQ = n :: rest → 3 ≤ (s.rg n).n → 
      ∃ t, exec (.regressionSolve) s = .next t ∧ t.bit (RG_STAT_DONE n) = true ∧ t.bit (RG_STAT_SOLVED n) = true ∧ t.regQ = rest ∧
      (let x := s.rg n
       let d : Int := (x.n * x.sjj : Nat) - (x.sj * x.sj : Nat)
       let pn : Int := x.used * d + (x.n * x.sje - x.sj * x.se)
       let f := roundDiv (4096 * x.fnum * (d * x.decim).toNat * 2 ^ 32) (x.fden * pn.toNat)
       t.get (RG_STAT_CODE n) = (if s.bit (RG_STAT_OVF n) then Code.SUM_OVF else if pn ≤ 0 ∨ 2 ^ 64 ≤ f then Code.VALUE_RANGE else Code.OK) ∧
       (0 < pn → (t.word (RG_FREQLO n)).toNat = min f (2 ^ 64 - 1) % 2 ^ 32 ∧ (t.word (RG_FREQLO n + 4)).toNat = min f (2 ^ 64 - 1) / 2 ^ 32)) ∧
      t = { s with regs := t.regs, regQ := t.regQ, msixPend := t.msixPend, out := t.out } ∧
      SameWords [RG_STAT n, RG_SIGLO n, RG_SIGLO n + 4, RG_PERLO n, RG_PERLO n + 4, RG_FREQLO n, RG_FREQLO n + 4] s t) ∧
  (∀ (src : Source) (w : Word) (s : State), s.rowServed src REG_SEL true = true → 
      ∃ t, exec (.regSelWrite src w) s = .next t ∧ (∀ k : Fin 6, ∀ j : Fin 4, (t.word (REG_ACC k j)).toNat = wrapNat 128 ((s.rg (fld w 0 9)).snap.getD k 0) / 2 ^ (32 * j.val) % 2 ^ 32) ∧
      RegsOnly (REG_SEL :: (List.range 6).flatMap (fun k => (List.range 4).map (fun j => REG_ACC k j))) s t)

/-- BUFFER_OPEN for the first waiting channel of a ring that runs, with a descriptor free and valid, opens a buffer at
its 64-byte address and counts DHEAD. With none free it counts the starved channels and sets STARVE. A descriptor
whose length is no multiple of 64 to 1 MiB sets DESCERR and completes with flag 16. DRAIN_BURST writes the words
from RTAIL by DMA behind those sent before and moves RTAIL past them; a buffer whose last word ended a take closes.
BUFFER_FLUSH_TIMEOUT closes an open buffer that holds words. Each completion takes its 16 bytes to the entry CHEAD
of the completion ring. DRAIN_EVENT_TIMEOUT sends or holds vector 64 + r, the event of the ring, and leaves no
completion unsignalled. DTAIL and CTAIL take the written counts; EN 1 starts a stopped ring with the drain mode of
now; EN 0 closes every open buffer. The model's choices here, which are no rule of the spec, by their log entries: a
ring that waits (47), which drain mode governs (114), descriptors as operands (115), the ERROR completion without a
word (136). -/
def Obligations.DrainRingsMoveWords : Prop :=
  (∀ (r : Fin 64) (addr len cookie n : Nat) (s : State), s.firstWaiting r = some n → s.ringGoes r = true → (s.ring r).bufs.length < 16 → s.get (DR_DTAIL_CNT r) ≠ s.get (DR_DHEAD_CNT r) → len % 64 = 0 → 0 < len → len ≤ 1048576 → 
      ∃ t, exec (.bufferOpen r addr len cookie) s = .next t ∧ t.get (DR_DHEAD_CNT r) = (s.get (DR_DHEAD_CNT r) + 1) % 2 ^ 32 ∧ (t.ring r).bufs.length = (s.ring r).bufs.length + 1 ∧
      (t.ring r).bufs.getLast?.map (fun b => (b.ch, b.addr, b.len, b.cookie, b.words)) = some (n, addr / 64 * 64, len, cookie, 0) ∧
      t.get (DR_STAT_OPEN r) = ((s.ring r).bufs.length + 1) % 2 ^ (DR_STAT_OPEN r).len ∧
      t.out = .dmaRead (s.descAt r) 16 :: s.out ∧ t = { s with regs := t.regs, rings := t.rings, out := t.out } ∧ SameRings [r.val] s t ∧ SameWords [DR_DHEAD r, DR_STAT r] s t) ∧
  (∀ (r : Fin 64) (addr len cookie n : Nat) (s : State), s.firstWaiting r = some n → s.ringGoes r = true → (s.ring r).bufs.length < 16 → s.get (DR_DTAIL_CNT r) = s.get (DR_DHEAD_CNT r) → 
      ∃ t, exec (.bufferOpen r addr len cookie) s = .next t ∧ t.bit (DR_STAT_STARVE r) = true ∧ t.get (DR_STARVE_COUNT r) = min (s.get (DR_STARVE_COUNT r) + ((s.waitingChans r).filter (fun m => !(s.ring r).starved.contains m)).length) (2 ^ (DR_STARVE_COUNT r).len - 1) ∧ (t.ring r).bufs = (s.ring r).bufs ∧ t = { s with regs := t.regs, rings := t.rings } ∧ SameRings [r.val] s t ∧ SameWords [DR_STARVE r, DR_STAT r] s t) ∧
  (∀ (r : Fin 64) (addr len cookie n : Nat) (s : State), s.firstWaiting r = some n → s.ringGoes r = true → (s.ring r).bufs.length < 16 → s.get (DR_DTAIL_CNT r) ≠ s.get (DR_DHEAD_CNT r) → (len % 64 ≠ 0 ∨ len = 0 ∨ 1048576 < len) → 
      ∃ t, exec (.bufferOpen r addr len cookie) s = .next t ∧ t.bit (DR_STAT_DESCERR r) = true ∧ t.get (DR_DHEAD_CNT r) = (s.get (DR_DHEAD_CNT r) + 1) % 2 ^ 32 ∧ (t.ring r).bufs = (s.ring r).bufs ∧
      Output.dma (s.get (DR_CBASELO_ADDR r) / 16 * 16 + s.get (DR_CBASEHI_ADDR r) * 2 ^ 32 + s.get (DR_CHEAD_CNT r) % s.ringSize r * 16) (RingComp.bytes { cookie := cookie, words := 0, ch := n, take := ((s.cap n).word (s.get (CH_RTAIL_IDX n))).take, flags := 2 * b2n (s.cap n).ovfC + 8 * b2n ((s.cap n).word (s.get (CH_RTAIL_IDX n))).raw + 16 } (1 - s.get (DR_CHEAD_CNT r) / s.ringSize r % 2)) ∈ t.out ∧ t.get (DR_CHEAD_CNT r) = (s.get (DR_CHEAD_CNT r) + 1) % 2 ^ 32 ∧ SameRings [r.val] s t ∧ SameCaps [n] s t) ∧
  (∀ (r : Fin 64) (b : Buf) (s : State), s.nextBuf r = some b → s.ringGoes r = true → b.ended = false → 
      ∃ t, exec (.drainBurst r) s = .next t ∧ 
      (let ws := (s.cap b.ch).burst (s.get (CH_RTAIL_IDX b.ch)) (min 32 (min (s.reelCount b.ch) (b.len / 8 - b.words)))
       t.get (CH_RTAIL_IDX b.ch) = (s.get (CH_RTAIL_IDX b.ch) + ws.length) % 2048 ∧
       Output.dma (b.addr + 8 * b.words) (ws.flatMap (fun w => leBytes 8 w.w)) ∈ t.out ∧ ws.length ≤ 32) ∧ SameRings [r.val] s t) ∧
  (∀ (r : Fin 64) (b : Buf) (s : State), s.nextBuf r = some b → s.ringGoes r = true → b.ended = true → 
      ∃ t, exec (.drainBurst r) s = .next t ∧ (t.ring r).bufs = (s.ring r).bufs.filter (fun c => c.ch != b.ch) ∧ Output.dma (s.get (DR_CBASELO_ADDR r) / 16 * 16 + s.get (DR_CBASEHI_ADDR r) * 2 ^ 32 + s.get (DR_CHEAD_CNT r) % s.ringSize r * 16) (RingComp.bytes { cookie := b.cookie, words := b.words, ch := b.ch, take := b.take, flags := 1 + 2 * b2n (s.cap b.ch).ovfC + 4 * b2n b.taint + 8 * b2n b.raw } (1 - s.get (DR_CHEAD_CNT r) / s.ringSize r % 2)) ∈ t.out ∧ t.get (DR_CHEAD_CNT r) = (s.get (DR_CHEAD_CNT r) + 1) % 2 ^ 32 ∧ t.get (CH_RTAIL_IDX b.ch) = s.get (CH_RTAIL_IDX b.ch) ∧ SameRings [r.val] s t ∧ SameCaps [b.ch] s t) ∧
  (∀ (r : Fin 64) (b : Buf) (ws : List RWord) (s : State), s.nextBuf r = some b → s.ringGoes r = true → b.ended = false → ws = (s.cap b.ch).burst (s.get (CH_RTAIL_IDX b.ch)) (min 32 (min (s.reelCount b.ch) (b.len / 8 - b.words))) → (ws.getLastD RWord.init).last = true → 
      ∃ t, exec (.drainBurst r) s = .next t ∧ (t.ring r).bufs = ((s.ring r).bufs.filter (fun c => c.ch != b.ch)) ∧ Output.dma (s.get (DR_CBASELO_ADDR r) / 16 * 16 + s.get (DR_CBASEHI_ADDR r) * 2 ^ 32 + s.get (DR_CHEAD_CNT r) % s.ringSize r * 16) (RingComp.bytes { cookie := b.cookie, words := b.words + ws.length, ch := b.ch, take := if b.words = 0 then (ws.headD RWord.init).take else b.take, flags := 1 + 2 * b2n (s.cap b.ch).ovfC + 4 * b2n (b.taint || ws.any (fun w => !w.pay && w.w / 2 ^ 63 % 2 == 1)) + 8 * b2n (if b.words = 0 then (ws.headD RWord.init).raw else b.raw) } (1 - s.get (DR_CHEAD_CNT r) / s.ringSize r % 2)) ∈ t.out ∧ t.get (DR_CHEAD_CNT r) = (s.get (DR_CHEAD_CNT r) + 1) % 2 ^ 32 ∧ SameRings [r.val] s t ∧ SameCaps [b.ch] s t) ∧
  (∀ (r : Fin 64) (n : Fin 512) (b : Buf) (s : State), ((s.ring r).bufs.find? (fun b => b.ch == n.val && b.words != 0) = some b) → (s.ring r).wait = [] → s.ringFull r = false → s.dmaOn = true → 
      ∃ t, exec (.bufferFlushTimeout r n) s = .next t ∧ Output.dma (s.get (DR_CBASELO_ADDR r) / 16 * 16 + s.get (DR_CBASEHI_ADDR r) * 2 ^ 32 + s.get (DR_CHEAD_CNT r) % s.ringSize r * 16) (RingComp.bytes { cookie := b.cookie, words := b.words, ch := b.ch, take := b.take, flags := b2n b.ended + 2 * b2n (s.cap b.ch).ovfC + 4 * b2n b.taint + 8 * b2n b.raw } (1 - s.get (DR_CHEAD_CNT r) / s.ringSize r % 2)) ∈ t.out ∧ t.get (DR_CHEAD_CNT r) = (s.get (DR_CHEAD_CNT r) + 1) % 2 ^ 32) ∧
  (∀ (r : Fin 64) (n : Fin 512) (b : Buf) (s : State), ((s.ring r).bufs.find? (fun b => b.ch == n.val && b.words != 0) = some b) → 
      ∃ t, exec (.bufferFlushTimeout r n) s = .next t ∧ (t.ring r).bufs = (s.ring r).bufs.filter (fun c => c.ch != n.val) ∧ t.get (CH_RTAIL_IDX n) = s.get (CH_RTAIL_IDX n) ∧ SameRings [r.val] s t ∧ SameCaps [n.val] s t) ∧
  (∀ (r : Fin 64) (s : State), (s.ring r).unsig ≠ 0 → 
      ∃ t, exec (.drainEventTimeout r) s = .next t ∧ (t.ring r).unsig = 0 ∧ (s.ep.msixEn = true → .msix (64 + r.val) ∈ t.out ∨ tabGet false t.msixPend (64 + r.val) = true) ∧ t = { s with rings := t.rings, msixPend := t.msixPend, out := t.out } ∧ SameRings [r.val] s t) ∧
  (∀ (src : Source) (r : Fin 64) (w : Word) (s : State), s.rowServed src (DR_CTRL r) true = true → wbit w 31 = true → 
      ∃ t, exec (.drEnWrite src r w) s = .next t ∧ t.bit (DR_CTRL_EN r) = true ∧ (t.ring r).win = (if s.bit (DR_CTRL_EN r) then (s.ring r).win else s.bit GLB_MODE_DRAINWIN) ∧ t = { s with regs := t.regs, rings := t.rings } ∧ SameRings [r.val] s t ∧ SameWords [DR_CTRL r] s t) ∧
  (∀ (src : Source) (r : Fin 64) (w : Word) (s : State), s.rowServed src (DR_CTRL r) true = true → wbit w 31 = false → 
      ∃ t, exec (.drEnWrite src r w) s = .next t ∧ t.bit (DR_CTRL_EN r) = false ∧ (t.ring r).bufs = [] ∧ (t.ring r).starved = [] ∧ SameRings [r.val] s t) ∧
  (∀ (src : Source) (r : Fin 64) (w : Word) (s : State), s.rowServed src (DR_DTAIL r) true = true → 
      ∃ t, exec (.dtailWrite src r w) s = .next t ∧ t.get (DR_DTAIL_CNT r) = w.toNat ∧ RegsOnly [DR_DTAIL r] s t) ∧
  (∀ (src : Source) (r : Fin 64) (w : Word) (s : State), s.rowServed src (DR_CTAIL r) true = true → 
      ∃ t, exec (.ctailWrite src r w) s = .next t ∧ t.get (DR_CTAIL_CNT r) = w.toNat ∧ ((s.ring r).wait = [] → RegsOnly [DR_CTAIL r] s t) ∧ SameRings [r.val] s t)

/-- A write of EN = 1 to a disabled select port enters DETECT, EN = 0 DISABLED, RETRAIN DETECT. A detected receiver
leads from DETECT to EQUALISE, a timeout of detection repeats it; equalisation leads to ALIGN and sends FA sets, its
timeout sets EQFAIL and leads to DETECT; alignment leads from ALIGN and RECOVER to UP, a link with nothing queued
then sends its IDENT frame when it comes from ALIGN; the timeouts of ALIGN and RECOVER lead to DETECT; lost block
lock leads from UP to RECOVER, sets RECOVER and sends FA sets. An invalid block on a lane of an UP select port
counts in its error counter. A port in DETECT or DISABLED has its queue and its numbering cleared; a select port
that leaves UP or RECOVER is no longer attached, and a link has no measurement and tells its firmware. The frames
name what else may change of a port not attached, or of a link with nothing queued or measured. The model's choices
here, which are no rule of the spec, by their log entries: the number of the first frame (36), that four lanes lock
at ALIGN_DONE (40). -/
def Obligations.PortsTrain : Prop :=
  (∀ (src : Source) (p : Fin 8) (w : Word) (s : State), s.rowServed src (TSP_CTRL p) true = true → s.bit (TSP_CTRL_EN p) = false → wbit w 0 = true → 
      ∃ t, exec (.tspEnWrite src p w) s = .next t ∧ t.lstate p = 1 ∧ t.bit (TSP_CTRL_EN p) = true ∧ (wbit w 1 = false ∨ s.hello p = false → RegsOnly [TSP_CTRL p, TSP_STAT p] s t)) ∧
  (∀ (src : Source) (p : Fin 8) (w : Word) (s : State), s.rowServed src (TSP_CTRL p) true = true → s.bit (TSP_CTRL_EN p) = true → wbit w 0 = false → 
      ∃ t, exec (.tspEnWrite src p w) s = .next t ∧ t.lstate p = 0 ∧ t.bit (TSP_CTRL_EN p) = false ∧ (t.tsp p).results = [] ∧ (t.tsp p).rxLast = none ∧ (t.tsp p).txNext = 0 ∧ t.get (TSP_STAT_LANELOCK p) = 0 ∧ t.hello p = false ∧ (s.hello p = false → t = { s with regs := t.regs, tsps := t.tsps, msixPend := t.msixPend, out := t.out, ep := t.ep } ∧ SameTsps [p.val] s t ∧ SameWords [TSP_CTRL p, TSP_STAT p, TSP_FLAGS p, TSP_RESDROP p] s t)) ∧
  (∀ (src : Source) (p : Fin 8) (w : Word) (s : State), s.rowServed src (TSP_CTRL p) true = true → s.bit (TSP_CTRL_EN p) = true → wbit w 0 = true → wbit w 2 = true → 
      ∃ t, exec (.retrain src p w) s = .next t ∧ t.lstate p = 1 ∧ t.bit (TSP_CTRL_EN p) = true ∧ (t.tsp p).results = [] ∧ (t.tsp p).rxLast = none ∧ (t.tsp p).txNext = 0 ∧ t.get (TSP_STAT_LANELOCK p) = 0 ∧ t.hello p = false ∧ (s.hello p = false → t = { s with regs := t.regs, tsps := t.tsps, msixPend := t.msixPend, out := t.out, ep := t.ep } ∧ SameTsps [p.val] s t ∧ SameWords [TSP_CTRL p, TSP_STAT p, TSP_FLAGS p, TSP_RESDROP p] s t)) ∧
  (∀ (p : Fin 12) (s : State), p.val < 8 → s.lstate p = 1 → 
      ∃ t, exec (.receiverDetected p) s = .next t ∧ t.lstate p = 2 ∧ RegsOnly [TSP_STAT p] s t) ∧
  (∀ (p : Fin 12) (s : State), 8 ≤ p.val → s.plState (p.val - 8) = 1 → 
      ∃ t, exec (.receiverDetected p) s = .next t ∧ t.plState (p.val - 8) = 2 ∧ RegsOnly [PRL_STAT (p.val - 8)] s t) ∧
  (∀ (p : Fin 12) (s : State), p.val < 8 → s.lstate p = 1 → 
      ∃ t, exec (.detectTimeout p) s = .next t ∧ t.lstate p = 1 ∧ RegsOnly [TSP_STAT p] s t) ∧
  (∀ (p : Fin 12) (s : State), 8 ≤ p.val → s.plState (p.val - 8) = 1 → 
      ∃ t, exec (.detectTimeout p) s = .next t ∧ t.plState (p.val - 8) = 1 ∧ RegsOnly [PRL_STAT (p.val - 8)] s t) ∧
  (∀ (p : Fin 12) (s : State), p.val < 8 → s.lstate p = 2 → 
      ∃ t, exec (.equalisationDone p) s = .next t ∧ t.lstate p = 3 ∧ t = { s with regs := t.regs, out := .faSets p.val :: s.out } ∧ SameWords [TSP_STAT p] s t) ∧
  (∀ (p : Fin 12) (s : State), 8 ≤ p.val → s.plState (p.val - 8) = 2 → 
      ∃ t, exec (.equalisationDone p) s = .next t ∧ t.plState (p.val - 8) = 3 ∧ t = { s with regs := t.regs, out := .faSets p.val :: s.out } ∧ SameWords [PRL_STAT (p.val - 8)] s t) ∧
  (∀ (p : Fin 12) (s : State), p.val < 8 → s.lstate p = 2 → 
      ∃ t, exec (.equaliseTimeout p) s = .next t ∧ t.lstate p = 1 ∧ (t.tsp p).results = [] ∧ (t.tsp p).rxLast = none ∧ (t.tsp p).txNext = 0 ∧ t.get (TSP_STAT_LANELOCK p) = 0 ∧ t.bit (TSP_FLAGS_EQFAIL p) = true ∧ (s.hello p = false → t = { s with regs := t.regs, tsps := t.tsps, msixPend := t.msixPend, out := t.out, ep := t.ep } ∧ SameTsps [p.val] s t ∧ SameWords [TSP_STAT p, TSP_FLAGS p, TSP_RESDROP p] s t)) ∧
  (∀ (p : Fin 12) (s : State), 8 ≤ p.val → s.plState (p.val - 8) = 2 → 
      ∃ t, exec (.equaliseTimeout p) s = .next t ∧ t.plState (p.val - 8) = 1 ∧ (t.pl (p.val - 8)).unacked = [] ∧ (t.pl (p.val - 8)).txNext = 1 ∧ (t.pl (p.val - 8)).meas = none ∧ t.get (PRL_STAT_RXSEQ (p.val - 8)) = 0 ∧ t.bit (PRL_STAT_IDENT (p.val - 8)) = false ∧ (s.me, LinkItem.message (.portDown (p.val - 8))) ∈ (t.pl loopback).inbox ∧ t.bit (PRL_FLAGS_EQFAIL (p.val - 8)) = true ∧ ((s.pl (p.val - 8)).unacked = [] ∧ (s.pl (p.val - 8)).wait = [] ∧ (s.pl (p.val - 8)).meas = none ∧ (s.pl (p.val - 8)).child = none → t = { s with regs := t.regs, pls := t.pls, msixPend := t.msixPend, out := t.out } ∧ SamePls [(p.val - 8), loopback] s t ∧ SameWords [PRL_STAT (p.val - 8), PRL_FLAGS (p.val - 8)] s t)) ∧
  (∀ (p : Fin 12) (s : State), p.val < 8 → s.lstate p = 3 → 
      ∃ t, exec (.alignTimeout p) s = .next t ∧ t.lstate p = 1 ∧ (t.tsp p).results = [] ∧ (t.tsp p).rxLast = none ∧ (t.tsp p).txNext = 0 ∧ t.get (TSP_STAT_LANELOCK p) = 0 ∧ (s.hello p = false → t = { s with regs := t.regs, tsps := t.tsps, msixPend := t.msixPend, out := t.out, ep := t.ep } ∧ SameTsps [p.val] s t ∧ SameWords [TSP_STAT p, TSP_FLAGS p, TSP_RESDROP p] s t)) ∧
  (∀ (p : Fin 12) (s : State), 8 ≤ p.val → s.plState (p.val - 8) = 3 → 
      ∃ t, exec (.alignTimeout p) s = .next t ∧ t.plState (p.val - 8) = 1 ∧ (t.pl (p.val - 8)).unacked = [] ∧ (t.pl (p.val - 8)).txNext = 1 ∧ (t.pl (p.val - 8)).meas = none ∧ t.get (PRL_STAT_RXSEQ (p.val - 8)) = 0 ∧ t.bit (PRL_STAT_IDENT (p.val - 8)) = false ∧ (s.me, LinkItem.message (.portDown (p.val - 8))) ∈ (t.pl loopback).inbox ∧ ((s.pl (p.val - 8)).unacked = [] ∧ (s.pl (p.val - 8)).wait = [] ∧ (s.pl (p.val - 8)).meas = none ∧ (s.pl (p.val - 8)).child = none → t = { s with regs := t.regs, pls := t.pls, msixPend := t.msixPend, out := t.out } ∧ SamePls [(p.val - 8), loopback] s t ∧ SameWords [PRL_STAT (p.val - 8)] s t)) ∧
  (∀ (p : Fin 12) (s : State), p.val < 8 → s.lstate p = 3 → 
      ∃ t, exec (.alignDone p) s = .next t ∧ t.lstate p = 4 ∧ t.get (TSP_STAT_LANELOCK p) = 15 ∧ RegsOnly [TSP_STAT p] s t) ∧
  (∀ (p : Fin 12) (s : State), 8 ≤ p.val → s.plState (p.val - 8) = 3 → 
      ∃ t, exec (.alignDone p) s = .next t ∧ t.plState (p.val - 8) = 4 ∧ t.get (PRL_STAT_LANELOCK (p.val - 8)) = 3 ∧ ((s.pl (p.val - 8)).unacked = [] ∧ (s.pl (p.val - 8)).wait = [] ∧ (s.pl (p.val - 8)).meas = none ∧ (s.pl (p.val - 8)).child = none → (t.pl (p.val - 8)).unacked.map (fun q => q.2) = framesOf 15 s.me true (.ident s.me (p.val - 8) (s.get SEC_UIDLO_UID + s.get SEC_UIDHI_UID * 2 ^ 32) (s.word GLB_ID).toNat)) ∧ t = { s with regs := t.regs, pls := t.pls, out := t.out } ∧ SamePls [(p.val - 8)] s t ∧ SameWords [PRL_STAT (p.val - 8)] s t) ∧
  (∀ (p : Fin 12) (s : State), p.val < 8 → s.lstate p = 5 → 
      ∃ t, exec (.alignDone p) s = .next t ∧ t.lstate p = 4 ∧ t.get (TSP_STAT_LANELOCK p) = 15 ∧ RegsOnly [TSP_STAT p] s t) ∧
  (∀ (p : Fin 12) (s : State), 8 ≤ p.val → s.plState (p.val - 8) = 5 → 
      ∃ t, exec (.alignDone p) s = .next t ∧ t.plState (p.val - 8) = 4 ∧ t.get (PRL_STAT_LANELOCK (p.val - 8)) = 3 ∧ ((s.pl (p.val - 8)).wait = [] → RegsOnly [PRL_STAT (p.val - 8)] s t) ∧ t = { s with regs := t.regs, pls := t.pls, out := t.out } ∧ SamePls [(p.val - 8)] s t ∧ SameWords [PRL_STAT (p.val - 8)] s t) ∧
  (∀ (p : Fin 12) (lane : Fin 4) (s : State), p.val < 8 → s.lstate p = 4 → 
      ∃ t, exec (.blockLockLost p lane) s = .next t ∧ t.lstate p = 5 ∧ t.bit ⟨TSP_STAT p, 8 + lane.val, 1⟩ = false ∧ t.get (TSP_RECOVCNT_COUNT p) = min (s.get (TSP_RECOVCNT_COUNT p) + 1) (2 ^ (TSP_RECOVCNT_COUNT p).len - 1) ∧ t.bit (TSP_FLAGS_RECOVER p) = true ∧ t.out.head? = some (.faSets p.val) ∧ RegsIrq [TSP_STAT p, TSP_RECOVCNT p, TSP_FLAGS p] s t) ∧
  (∀ (p : Fin 12) (lane : Fin 4) (s : State), 8 ≤ p.val → s.plState (p.val - 8) = 4 → lane.val < 2 → 
      ∃ t, exec (.blockLockLost p lane) s = .next t ∧ t.plState (p.val - 8) = 5 ∧ t.bit ⟨PRL_STAT (p.val - 8), 8 + lane.val, 1⟩ = false ∧ t.bit (PRL_FLAGS_RECOVER (p.val - 8)) = true ∧ t.out.head? = some (.faSets p.val) ∧ RegsIrq [PRL_STAT (p.val - 8), PRL_FLAGS (p.val - 8)] s t) ∧
  (∀ (p : Fin 12) (s : State), p.val < 8 → s.lstate p = 5 → 
      ∃ t, exec (.recoverTimeout p) s = .next t ∧ t.lstate p = 1 ∧ (t.tsp p).results = [] ∧ (t.tsp p).rxLast = none ∧ (t.tsp p).txNext = 0 ∧ t.get (TSP_STAT_LANELOCK p) = 0 ∧ t.hello p = false ∧ (s.hello p = false → t = { s with regs := t.regs, tsps := t.tsps, msixPend := t.msixPend, out := t.out, ep := t.ep } ∧ SameTsps [p.val] s t ∧ SameWords [TSP_STAT p, TSP_FLAGS p, TSP_RESDROP p] s t)) ∧
  (∀ (p : Fin 12) (s : State), 8 ≤ p.val → s.plState (p.val - 8) = 5 → 
      ∃ t, exec (.recoverTimeout p) s = .next t ∧ t.plState (p.val - 8) = 1 ∧ (t.pl (p.val - 8)).unacked = [] ∧ (t.pl (p.val - 8)).txNext = 1 ∧ (t.pl (p.val - 8)).meas = none ∧ t.get (PRL_STAT_RXSEQ (p.val - 8)) = 0 ∧ t.bit (PRL_STAT_IDENT (p.val - 8)) = false ∧ (s.me, LinkItem.message (.portDown (p.val - 8))) ∈ (t.pl loopback).inbox ∧ ((s.pl (p.val - 8)).unacked = [] ∧ (s.pl (p.val - 8)).wait = [] ∧ (s.pl (p.val - 8)).meas = none ∧ (s.pl (p.val - 8)).child = none → t = { s with regs := t.regs, pls := t.pls, msixPend := t.msixPend, out := t.out } ∧ SamePls [(p.val - 8), loopback] s t ∧ SameWords [PRL_STAT (p.val - 8)] s t)) ∧
  (∀ (p : Fin 12) (lane : Fin 4) (s : State), p.val < 8 → s.lstate p = 4 → 
      ∃ t, exec (.invalidBlock p lane) s = .next t ∧ t.get (TSP_LANEERR_COUNT p lane) = min (s.get (TSP_LANEERR_COUNT p lane) + 1) (2 ^ (TSP_LANEERR_COUNT p lane).len - 1) ∧ RegsOnly [TSP_LANEERR p lane] s t) ∧
  (∀ (p : Fin 12) (lane : Fin 4) (s : State), 8 ≤ p.val → 
      exec (.invalidBlock p lane) s = .next s)

/-- EN 1 on a disabled link leads to DETECT, EN 0 to DISABLED, RETRAIN to DETECT. A write of PROBE over an enabled link
that is not UP sets PROBEFAIL, over one that is UP starts a measurement of at least 64 probes with ALIGNING set.
LINK_FRAME_RECEIVED with an invalid block, a bad CRC or an unknown type counts CRCERR and sets CRC; an IDLE frame
acknowledges alone; a data frame out of sequence counts RETRYCNT and is dropped; the next in sequence moves RXSEQ
and is acknowledged: one for this device or a broadcast delivers its messages, another goes on by the port that
leads to its destination. RESEND_TIMEOUT sends the unacknowledged frames again, sets RETRY and spoils a measurement;
after 8 resends it takes the link to DETECT with LINKFAIL and fails this device's own messages. PROBE_INTERVAL sends
the next request with its stamp; after the last one it fails the batch or repeats one that met a retry.
PROBE_BLOCK_RECEIVED stamps and answers a request, or stamps the next reply. The model's choices here, which are no
rule of the spec, by their log entries: the first DATA SEQ and which IDLE frames are shown (54), the payload bytes
(55), the limits of resends and probes (56). -/
def Obligations.LinksCarryFramesAndProbes : Prop :=
  (∀ (src : Source) (p : Fin 4) (w : Word) (s : State), s.rowServed src (PRL_CTRL p) true = true → s.bit (PRL_CTRL_EN p) = false → wbit w 0 = true → 
      ∃ t, exec (.prlEnWrite src p w) s = .next t ∧ t.plState p = 1 ∧ t.bit (PRL_CTRL_EN p) = true ∧ (wbit w 3 = false → RegsOnly [PRL_CTRL p, PRL_STAT p] s t)) ∧
  (∀ (src : Source) (p : Fin 4) (w : Word) (s : State), s.rowServed src (PRL_CTRL p) true = true → s.bit (PRL_CTRL_EN p) = true → wbit w 0 = false → wbit w 3 = false → 
      ∃ t, exec (.prlEnWrite src p w) s = .next t ∧ t.plState p = 0 ∧ t.bit (PRL_CTRL_EN p) = false ∧ t.get (PRL_STAT_IDENT p) = 0 ∧ (t.pl p).unacked = [] ∧ ((s.pl p).unacked = [] ∧ (s.pl p).wait = [] ∧ (s.pl p).meas = none ∧ (s.pl p).child = none → t = { s with regs := t.regs, pls := t.pls, msixPend := t.msixPend, out := t.out } ∧ SamePls [p, loopback] s t ∧ SameWords [PRL_CTRL p, PRL_STAT p] s t)) ∧
  (∀ (src : Source) (p : Fin 4) (w : Word) (s : State), s.rowServed src (PRL_CTRL p) true = true → s.bit (PRL_CTRL_EN p) = true → wbit w 0 = true → wbit w 2 = true → wbit w 3 = false → 
      ∃ t, exec (.prlRetrain src p w) s = .next t ∧ t.plState p = 1 ∧ t.get (PRL_STAT_IDENT p) = 0 ∧ (t.pl p).txNext = 1 ∧ (t.pl p).unacked = [] ∧ ((s.pl p).unacked = [] ∧ (s.pl p).wait = [] ∧ (s.pl p).meas = none ∧ (s.pl p).child = none → t = { s with regs := t.regs, pls := t.pls, msixPend := t.msixPend, out := t.out } ∧ SamePls [p, loopback] s t ∧ SameWords [PRL_CTRL p, PRL_STAT p] s t)) ∧
  (∀ (src : Source) (p : Fin 4) (w : Word) (s : State), s.rowServed src (PRL_CTRL p) true = true → s.bit (PRL_CTRL_EN p) = true → wbit w 0 = true → wbit w 2 = false → wbit w 3 = true → s.plState p ≠ 4 → (s.pl p).meas = none → 
      ∃ t, exec (.probe src p w) s = .next t ∧ t.bit (PRL_FLAGS_PROBEFAIL p) = true ∧ (t.pl p).meas = none ∧ t.bit (PRL_ALIGN_ALIGNING (fld w 4 2)) = false ∧ t.plState p = s.plState p ∧ (s.plState p < 4 → t = { s with regs := t.regs, pls := t.pls, msixPend := t.msixPend, out := t.out } ∧ SamePls [p.val] s t ∧ SameWords [PRL_CTRL p, PRL_FLAGS p, PRL_ALIGN (fld w 4 2)] s t)) ∧
  (∀ (src : Source) (p : Fin 4) (w : Word) (s : State), s.rowServed src (PRL_CTRL p) true = true → s.bit (PRL_CTRL_EN p) = true → wbit w 0 = true → wbit w 2 = false → wbit w 3 = true → s.plState p = 4 → (s.pl p).meas = none → 
      ∃ t, exec (.probe src p w) s = .next t ∧ (t.pl p).meas = some { root := fld w 4 2, why := 0, req := s.me, child := s.get (PRL_STAT_PEERID p), n := max 64 (s.get (PRL_NPROBE_N p)), phase := 1, tx := [], rx := [], spoilt := false, tries := 0, idle := false, data := [] } ∧
      t.bit (PRL_ALIGN_ALIGNING (fld w 4 2)) = true ∧ t.get (PRL_CTRL_ROOT p) = fld w 4 2 ∧ SamePls [p.val] s t ∧ t = { s with regs := t.regs, pls := t.pls, out := t.out } ∧ SameWords [PRL_CTRL p, PRL_ALIGN (fld w 4 2)] s t) ∧
  (∀ (p : Fin 4) (f : BitVec 2048) (invalid : Bool) (items : List LinkItem) (s : State), s.plState p = 4 → (invalid = true ∨ frameOk f.toNat = false ∨ 1 < f.toNat % 2 ^ 32 / 2 ^ 28) → 
      ∃ t, exec (.linkFrameReceived p f invalid items) s = .next t ∧ t.get (PRL_CRCERR_COUNT p) = min (s.get (PRL_CRCERR_COUNT p) + 1) (2 ^ (PRL_CRCERR_COUNT p).len - 1) ∧ t.bit (PRL_FLAGS_CRC p) = true ∧ RegsIrq [PRL_CRCERR p, PRL_FLAGS p] s t) ∧
  (∀ (p : Fin 4) (f : BitVec 2048) (items : List LinkItem) (s : State), s.plState p = 4 → frameOk f.toNat = true → (f.toNat % 2 ^ 32) / 2 ^ 28 = 0 → 
      ∃ t, exec (.linkFrameReceived p f false items) s = .next t ∧ (t.pl p).inbox = (s.pl p).inbox ∧ ((s.pl p).wait = [] → (t.pl p).unacked = ackDrop (s.pl p).unacked ((f.toNat % 2 ^ 32) / 2 ^ 4 % 256)) ∧ t = { s with pls := t.pls, out := t.out } ∧ SamePls [p.val] s t) ∧
  (∀ (p : Fin 4) (f : BitVec 2048) (items : List LinkItem) (s : State), s.plState p = 4 → frameOk f.toNat = true → (f.toNat % 2 ^ 32) / 2 ^ 28 = 1 → (f.toNat % 2 ^ 32) / 2 ^ 12 % 256 ≠ (s.get (PRL_STAT_RXSEQ p) + 1) % 256 → 
      ∃ t, exec (.linkFrameReceived p f false items) s = .next t ∧ t.get (PRL_RETRYCNT_COUNT p) = min (s.get (PRL_RETRYCNT_COUNT p) + 1) (2 ^ (PRL_RETRYCNT_COUNT p).len - 1) ∧ (t.pl p).inbox = (s.pl p).inbox ∧ t.get (PRL_STAT_RXSEQ p) = s.get (PRL_STAT_RXSEQ p) ∧ t.out ≠ s.out ∧ t = { s with regs := t.regs, pls := t.pls, out := t.out } ∧ SamePls [p.val] s t ∧ SameWords [PRL_RETRYCNT p] s t) ∧
  (∀ (p : Fin 4) (f : BitVec 2048) (items : List LinkItem) (s : State), s.plState p = 4 → frameOk f.toNat = true → (f.toNat % 2 ^ 32) / 2 ^ 28 = 1 → (f.toNat % 2 ^ 32) / 2 ^ 12 % 256 = (s.get (PRL_STAT_RXSEQ p) + 1) % 256 → (f.toNat % 2 ^ 32) / 8 % 2 = 0 → ((f.toNat % 2 ^ 32) / 2 ^ 24 % 16 = s.me ∨ oneHop (frameItems f.toNat) = true) → 
      ∃ t, exec (.linkFrameReceived p f false items) s = .next t ∧ t.get (PRL_STAT_RXSEQ p) = (f.toNat % 2 ^ 32) / 2 ^ 12 % 256 ∧ (t.pl p).inbox = (s.pl p).inbox ++ items.map (fun i => ((f.toNat % 2 ^ 32) / 2 ^ 20 % 16, i)) ∧ t.out ≠ s.out ∧ t = { s with regs := t.regs, pls := t.pls, out := t.out } ∧ SamePls [p.val] s t ∧ SameWords [PRL_STAT p] s t) ∧
  (∀ (p : Fin 4) (f : BitVec 2048) (items : List LinkItem) (s : State), s.plState p = 4 → frameOk f.toNat = true → (f.toNat % 2 ^ 32) / 2 ^ 28 = 1 → (f.toNat % 2 ^ 32) / 2 ^ 12 % 256 = (s.get (PRL_STAT_RXSEQ p) + 1) % 256 → (f.toNat % 2 ^ 32) / 8 % 2 = 1 → 
      ∃ t, exec (.linkFrameReceived p f false items) s = .next t ∧ t.get (PRL_STAT_RXSEQ p) = (f.toNat % 2 ^ 32) / 2 ^ 12 % 256 ∧ (t.pl p).inbox = (s.pl p).inbox ++ items.map (fun i => ((f.toNat % 2 ^ 32) / 2 ^ 20 % 16, i)) ∧ t = { s with regs := t.regs, pls := t.pls, out := t.out } ∧ SameWords [PRL_STAT p] s t) ∧
  (∀ (p : Fin 4) (f : BitVec 2048) (items : List LinkItem) (s : State) (q : Fin 4), s.plState p = 4 → frameOk f.toNat = true → (f.toNat % 2 ^ 32) / 2 ^ 28 = 1 → (f.toNat % 2 ^ 32) / 2 ^ 12 % 256 = (s.get (PRL_STAT_RXSEQ p) + 1) % 256 → (f.toNat % 2 ^ 32) / 8 % 2 = 0 → (f.toNat % 2 ^ 32) / 2 ^ 24 % 16 ≠ s.me → oneHop (frameItems f.toNat) = false → s.portTo ((f.toNat % 2 ^ 32) / 2 ^ 24 % 16) = some q.val → q ≠ p → 
      ∃ t, exec (.linkFrameReceived p f false items) s = .next t ∧ t.get (PRL_STAT_RXSEQ p) = (f.toNat % 2 ^ 32) / 2 ^ 12 % 256 ∧ (t.pl p).inbox = (s.pl p).inbox ∧ (⟨(f.toNat % 2 ^ 32) / 2 ^ 24 % 16, (f.toNat % 2 ^ 32) / 2 ^ 20 % 16, false, items, frameItems f.toNat⟩ : LFrame) ∈ (t.pl q).unacked.map (fun u => u.2) ++ (t.pl q).wait ∧ t = { s with regs := t.regs, pls := t.pls, out := t.out } ∧ SamePls [p.val, q.val] s t ∧ SameWords [PRL_STAT p] s t) ∧
  (∀ (p : Fin 4) (s : State), s.plState p = 4 → (s.pl p).unacked ≠ [] → (s.pl p).resends < 8 → 
      ∃ t, exec (.resendTimeout p) s = .next t ∧ (t.pl p).unacked = (s.pl p).unacked ∧ (t.pl p).resends = (s.pl p).resends + 1 ∧ (t.pl p).meas = (s.pl p).meas.map (fun m => { m with spoilt := true }) ∧ s.out.length + (s.pl p).unacked.length ≤ t.out.length ∧ t.plState p = 4 ∧ t.bit (PRL_FLAGS_RETRY p) = true ∧ t = { s with regs := t.regs, pls := t.pls, msixPend := t.msixPend, out := t.out } ∧ SamePls [p.val] s t ∧ SameWords [PRL_FLAGS p] s t) ∧
  (∀ (p : Fin 4) (s : State), s.plState p = 4 → (s.pl p).unacked ≠ [] → 8 ≤ (s.pl p).resends → 
      ∃ t, exec (.resendTimeout p) s = .next t ∧ (t.pl p).unacked = [] ∧ (t.pl p).meas = none ∧ t.plState p = 1 ∧ t.bit (PRL_FLAGS_LINKFAIL p) = true ∧
      ((s.pl p).unacked.length = 1 → ∀ q ∈ (s.pl p).unacked, ∀ i ∈ q.2.items, q.2.src = s.me → itemFailure i = false → (q.2.dst, downReply q.2.dst i) ∈ (t.pl loopback).inbox)) ∧
  (∀ (p : Fin 4) (tx : Nat) (m : Meas) (s : State), (s.pl p).meas = some m → m.phase = 1 → m.tx.length < m.n → s.plState p = 4 → 
      ∃ t, exec (.probeInterval p tx) s = .next t ∧ (t.pl p).meas = some { m with tx := m.tx ++ [tx % 2 ^ 60] } ∧ t.out = .linkProbe p (m.tx.length % 256) false :: s.out ∧ t = { s with pls := t.pls, out := t.out } ∧ SamePls [p.val] s t) ∧
  (∀ (p : Fin 4) (tx : Nat) (m : Meas) (s : State), (s.pl p).meas = some m → m.phase = 1 → m.tx.length = m.n → 
      ∃ t, exec (.probeInterval p tx) s = .next t ∧ (m.spoilt = true ∧ m.tries < 3 → (t.pl p).meas = some { m with tries := m.tries + 1, phase := 1, tx := [], rx := [], spoilt := false }) ∧
      (m.spoilt = false ∨ 3 ≤ m.tries → (t.pl p).meas = none ∧ t.bit (PRL_FLAGS_PROBEFAIL p) = true ∧ t.bit (PRL_ALIGN_ALIGNING m.root) = false)) ∧
  (∀ (p : Fin 4) (index stamp tx : Nat) (s : State), s.plState p = 4 → 
      ∃ t, exec (.probeBlockReceived p index false stamp tx) s = .next t ∧ (t.pl p).stamps = (s.pl p).stamps ++ [(stamp % 2 ^ 60, tx % 2 ^ 60)] ∧ t.out = .linkProbe p (index % 256) true :: s.out ∧ t = { s with pls := t.pls, out := t.out } ∧ SamePls [p.val] s t) ∧
  (∀ (p : Fin 4) (index stamp tx : Nat) (m : Meas) (s : State), s.plState p = 4 → (s.pl p).meas = some m → m.phase = 1 → m.rx.length < m.tx.length → index % 256 = m.rx.length % 256 → 
      ∃ t, exec (.probeBlockReceived p index true stamp tx) s = .next t ∧ (t.pl p).meas = some { m with rx := m.rx ++ [stamp % 2 ^ 60], phase := if m.rx.length + 1 = m.n then 2 else 1 } ∧ (m.rx.length + 1 ≠ m.n → t = { s with pls := t.pls }) ∧ t = { s with pls := t.pls, out := t.out } ∧ SamePls [p.val] s t)

/-- With the command at the head of what the port has taken in, CUE, PCUE, COMMIT, CANCEL, START and STOP of a group
that the port owns and that has members append the command, with its fields and the port, the group and the tag as
its source, to the commands of the group, and to the queue of the hub of every bank that holds a member. On a group
that the port does not own every command but NOP is answered NOT_OWNER, of an owned group with no members a timing
command is answered NO_MEMBERS; these refusals of timing commands count in CUEREF. Before HELLO every command is
answered PROTOCOL; NOP is answered OK. The answer joins the records of a port in UP or RECOVER whose queue has room;
what the item behind the command does to it and to the rest is said where that item has a row of its own (another is
answered at once). The model's choices here, which are no rule of the spec, by their log entries: the order of items
(35), the fields of an answer of a port itself (37), refusals at the source (26). -/
def Obligations.PortCommandsReachTheirGroups : Prop :=
  (∀ (p : Fin 8) (v : Nat) (rest : List TspItem) (s : State), (s.tsp p).inbox = .cmd v :: rest → cmdOp v = 1 → s.hello p = true → s.ownsGroup p (cmdGroup v) = true → s.members (cmdGroup v) ≠ [] → 
      ∃ t, exec (.tspCue p) s = .next t ∧ (t.group (cmdGroup v)).ops = (s.group (cmdGroup v)).ops ++ [{ id := (s.group (cmdGroup v)).nextId, cmd := .cue (cmdSlot v) (cmdCtx v), src := (.port p (cmdGroup v) (cmdTag v)), waiting := s.memberBanks (cmdGroup v), checked := false, refused := none, ces := 0, voids := 0, data := [], effect := 0, finished := false, epoch := 0, doneAt := 0 }] ∧
      (∀ b : Fin 8, (t.bank b).cueq = (s.bank b).cueq ++ (if b.val ∈ s.memberBanks (cmdGroup v) then [.cmd (cmdGroup v) (s.group (cmdGroup v)).nextId] else [])) ∧
      (rest.head?.all TspItem.hasRow = true → (t.tsp p).inbox = rest ∧ t = { s with tsps := t.tsps, groups := t.groups, banks := t.banks } ∧ SameTsps [p.val] s t ∧ SameGroups [cmdGroup v] s t)) ∧
  (∀ (p : Fin 8) (v : Nat) (rest : List TspItem) (s : State), (s.tsp p).inbox = .cmd v :: rest → cmdOp v = 2 → s.hello p = true → s.ownsGroup p (cmdGroup v) = true → s.members (cmdGroup v) ≠ [] → 
      ∃ t, exec (.tspPcue p) s = .next t ∧ (t.group (cmdGroup v)).ops = (s.group (cmdGroup v)).ops ++ [{ id := (s.group (cmdGroup v)).nextId, cmd := .pcue (cmdSlot v) (cmdCtx v) (cmdEpoch v), src := (.port p (cmdGroup v) (cmdTag v)), waiting := s.memberBanks (cmdGroup v), checked := false, refused := none, ces := 0, voids := 0, data := [], effect := 0, finished := false, epoch := 0, doneAt := 0 }] ∧
      (∀ b : Fin 8, (t.bank b).cueq = (s.bank b).cueq ++ (if b.val ∈ s.memberBanks (cmdGroup v) then [.cmd (cmdGroup v) (s.group (cmdGroup v)).nextId] else [])) ∧
      (rest.head?.all TspItem.hasRow = true → (t.tsp p).inbox = rest ∧ t = { s with tsps := t.tsps, groups := t.groups, banks := t.banks } ∧ SameTsps [p.val] s t ∧ SameGroups [cmdGroup v] s t)) ∧
  (∀ (p : Fin 8) (v : Nat) (rest : List TspItem) (s : State), (s.tsp p).inbox = .cmd v :: rest → cmdOp v = 3 → s.hello p = true → s.ownsGroup p (cmdGroup v) = true → s.members (cmdGroup v) ≠ [] → 
      ∃ t, exec (.tspCommit p) s = .next t ∧ (t.group (cmdGroup v)).ops = (s.group (cmdGroup v)).ops ++ [{ id := (s.group (cmdGroup v)).nextId, cmd := .commit (cmdEpoch v) (if cmdFlag v then none else some (cmdCyc v)), src := (.port p (cmdGroup v) (cmdTag v)), waiting := s.memberBanks (cmdGroup v), checked := false, refused := none, ces := 0, voids := 0, data := [], effect := 0, finished := false, epoch := 0, doneAt := 0 }] ∧
      (∀ b : Fin 8, (t.bank b).cueq = (s.bank b).cueq ++ (if b.val ∈ s.memberBanks (cmdGroup v) then [.cmd (cmdGroup v) (s.group (cmdGroup v)).nextId] else [])) ∧
      (rest.head?.all TspItem.hasRow = true → (t.tsp p).inbox = rest ∧ t = { s with tsps := t.tsps, groups := t.groups, banks := t.banks } ∧ SameTsps [p.val] s t ∧ SameGroups [cmdGroup v] s t)) ∧
  (∀ (p : Fin 8) (v : Nat) (rest : List TspItem) (s : State), (s.tsp p).inbox = .cmd v :: rest → cmdOp v = 4 → s.hello p = true → s.ownsGroup p (cmdGroup v) = true → s.members (cmdGroup v) ≠ [] → 
      ∃ t, exec (.tspCancel p) s = .next t ∧ (t.group (cmdGroup v)).ops = (s.group (cmdGroup v)).ops ++ [{ id := (s.group (cmdGroup v)).nextId, cmd := .cancel (cmdEpoch v), src := (.port p (cmdGroup v) (cmdTag v)), waiting := s.memberBanks (cmdGroup v), checked := false, refused := none, ces := 0, voids := 0, data := [], effect := 0, finished := false, epoch := 0, doneAt := 0 }] ∧
      (∀ b : Fin 8, (t.bank b).cueq = (s.bank b).cueq ++ (if b.val ∈ s.memberBanks (cmdGroup v) then [.cmd (cmdGroup v) (s.group (cmdGroup v)).nextId] else [])) ∧
      (rest.head?.all TspItem.hasRow = true → (t.tsp p).inbox = rest ∧ t = { s with tsps := t.tsps, groups := t.groups, banks := t.banks } ∧ SameTsps [p.val] s t ∧ SameGroups [cmdGroup v] s t)) ∧
  (∀ (p : Fin 8) (v : Nat) (rest : List TspItem) (s : State), (s.tsp p).inbox = .cmd v :: rest → cmdOp v = 5 → s.hello p = true → s.ownsGroup p (cmdGroup v) = true → s.members (cmdGroup v) ≠ [] → 
      ∃ t, exec (.tspStart p) s = .next t ∧ (t.group (cmdGroup v)).ops = (s.group (cmdGroup v)).ops ++ [{ id := (s.group (cmdGroup v)).nextId, cmd := .start (cmdCyc v), src := (.port p (cmdGroup v) (cmdTag v)), waiting := s.memberBanks (cmdGroup v), checked := false, refused := none, ces := 0, voids := 0, data := [], effect := 0, finished := false, epoch := 0, doneAt := 0 }] ∧
      (∀ b : Fin 8, (t.bank b).cueq = (s.bank b).cueq ++ (if b.val ∈ s.memberBanks (cmdGroup v) then [.cmd (cmdGroup v) (s.group (cmdGroup v)).nextId] else [])) ∧
      (rest.head?.all TspItem.hasRow = true → (t.tsp p).inbox = rest ∧ t = { s with tsps := t.tsps, groups := t.groups, banks := t.banks } ∧ SameTsps [p.val] s t ∧ SameGroups [cmdGroup v] s t)) ∧
  (∀ (p : Fin 8) (v : Nat) (rest : List TspItem) (s : State), (s.tsp p).inbox = .cmd v :: rest → cmdOp v = 6 → s.hello p = true → s.ownsGroup p (cmdGroup v) = true → s.members (cmdGroup v) ≠ [] → 
      ∃ t, exec (.tspStop p) s = .next t ∧ (t.group (cmdGroup v)).ops = (s.group (cmdGroup v)).ops ++ [{ id := (s.group (cmdGroup v)).nextId, cmd := .stop (if cmdFlag v then none else some (cmdCyc v)), src := (.port p (cmdGroup v) (cmdTag v)), waiting := s.memberBanks (cmdGroup v), checked := false, refused := none, ces := 0, voids := 0, data := [], effect := 0, finished := false, epoch := 0, doneAt := 0 }] ∧
      (∀ b : Fin 8, (t.bank b).cueq = (s.bank b).cueq ++ (if b.val ∈ s.memberBanks (cmdGroup v) then [.cmd (cmdGroup v) (s.group (cmdGroup v)).nextId] else [])) ∧
      (rest.head?.all TspItem.hasRow = true → (t.tsp p).inbox = rest ∧ t = { s with tsps := t.tsps, groups := t.groups, banks := t.banks } ∧ SameTsps [p.val] s t ∧ SameGroups [cmdGroup v] s t)) ∧
  (∀ (p : Fin 8) (v : Nat) (rest : List TspItem) (s : State), (s.tsp p).inbox = .cmd v :: rest → s.hello p = true → s.ownsGroup p (cmdGroup v) = false → 
      ∀ q ∈ ([(Instr.tspCue p, 1), (.tspPcue p, 2), (.tspCommit p, 3), (.tspCancel p, 4), (.tspStart p, 5), (.tspStop p, 6)] : List (Instr × Nat)), cmdOp v = q.2 → ∃ t, exec q.1 s = .next t ∧ t.get (GRP_CUEREF_COUNT (cmdGroup v)) = min (s.get (GRP_CUEREF_COUNT (cmdGroup v)) + 1) (2 ^ (GRP_CUEREF_COUNT (cmdGroup v)).len - 1) ∧ (rest.head?.all TspItem.hasRow = true → (t.tsp p).inbox = rest ∧ (4 ≤ s.lstate p ∧ (s.tsp p).results.length < 4096 → (t.tsp p).results = (s.tsp p).results ++ [resultRecord 0x01 (cmdGroup v) false (cmdTag v) (s.get (GRP_EPOCH_EPOCH (cmdGroup v))) Code.NOT_OWNER (completionBody 0 (s.members (cmdGroup v)).length 0 0)] ∧ (t.tsp p).replies = (s.tsp p).replies ∧ SameTsps [p.val] s t ∧ t = { s with regs := t.regs, tsps := t.tsps, free := t.free } ∧ SameWords [GRP_CUEREF (cmdGroup v), GRP_LASTREF (cmdGroup v)] s t))) ∧
  (∀ (p : Fin 8) (v : Nat) (rest : List TspItem) (s : State), (s.tsp p).inbox = .cmd v :: rest → s.hello p = true → s.ownsGroup p (cmdGroup v) = false → 
      ∀ q ∈ ([(Instr.tspHop p, 0x10), (.tspRamp p, 0x11), (.tspClap p, 0x30), (if cmdFlag v then .tspTakeStart p else .tspTakeArm p, 0x20)] : List (Instr × Nat)), cmdOp v = q.2 → ∃ t, exec q.1 s = .next t ∧ (rest.head?.all TspItem.hasRow = true → (t.tsp p).inbox = rest ∧ (4 ≤ s.lstate p ∧ (s.tsp p).results.length < 4096 → (t.tsp p).results = (s.tsp p).results ++ [resultRecord 0x01 (cmdGroup v) false (cmdTag v) (s.get (GRP_EPOCH_EPOCH (cmdGroup v))) Code.NOT_OWNER (completionBody 0 (s.members (cmdGroup v)).length 0 0)] ∧ (t.tsp p).replies = (s.tsp p).replies ∧ SameTsps [p.val] s t ∧ t = { s with tsps := t.tsps }))) ∧
  (∀ (p : Fin 8) (v : Nat) (rest : List TspItem) (s : State), (s.tsp p).inbox = .cmd v :: rest → s.hello p = true → s.ownsGroup p (cmdGroup v) = true → s.members (cmdGroup v) = [] → 
      ∀ q ∈ ([(Instr.tspCue p, 1), (.tspPcue p, 2), (.tspCommit p, 3), (.tspCancel p, 4), (.tspStart p, 5), (.tspStop p, 6)] : List (Instr × Nat)), cmdOp v = q.2 → ∃ t, exec q.1 s = .next t ∧ t.get (GRP_CUEREF_COUNT (cmdGroup v)) = min (s.get (GRP_CUEREF_COUNT (cmdGroup v)) + 1) (2 ^ (GRP_CUEREF_COUNT (cmdGroup v)).len - 1) ∧ t.get (GRP_LASTREF_WHY (cmdGroup v)) = 3 ∧ (rest.head?.all TspItem.hasRow = true → (t.tsp p).inbox = rest ∧ (4 ≤ s.lstate p ∧ (s.tsp p).results.length < 4096 → (t.tsp p).results = (s.tsp p).results ++ [resultRecord 0x01 (cmdGroup v) false (cmdTag v) (s.get (GRP_EPOCH_EPOCH (cmdGroup v))) Code.NO_MEMBERS (completionBody 0 (s.members (cmdGroup v)).length 0 0)] ∧ (t.tsp p).replies = (s.tsp p).replies ∧ SameTsps [p.val] s t ∧ t = { s with regs := t.regs, tsps := t.tsps } ∧ SameWords [GRP_CUEREF (cmdGroup v), GRP_LASTREF (cmdGroup v)] s t))) ∧
  (∀ (p : Fin 8) (v : Nat) (rest : List TspItem) (s : State), (s.tsp p).inbox = .cmd v :: rest → s.hello p = false → 
      ∀ q ∈ ([(Instr.tspNop p, 0), (.tspCue p, 1), (.tspPcue p, 2), (.tspCommit p, 3), (.tspCancel p, 4), (.tspStart p, 5), (.tspStop p, 6), (.tspHop p, 0x10), (.tspRamp p, 0x11), (.tspClap p, 0x30), (if cmdFlag v then .tspTakeStart p else .tspTakeArm p, 0x20)] : List (Instr × Nat)), cmdOp v = q.2 → ∃ t, exec q.1 s = .next t ∧ (rest.head?.all TspItem.hasRow = true → (t.tsp p).inbox = rest ∧ (4 ≤ s.lstate p ∧ (s.tsp p).results.length < 4096 → (t.tsp p).results = (s.tsp p).results ++ [resultRecord 0x01 (cmdGroup v) false (cmdTag v) (s.get (GRP_EPOCH_EPOCH (cmdGroup v))) Code.PROTOCOL (completionBody 0 (s.members (cmdGroup v)).length 0 0)] ∧ (t.tsp p).replies = (s.tsp p).replies ∧ SameTsps [p.val] s t ∧ t = { s with tsps := t.tsps }))) ∧
  (∀ (p : Fin 8) (v : Nat) (rest : List TspItem) (s : State), (s.tsp p).inbox = .cmd v :: rest → s.hello p = true → cmdOp v = 0 → 
      ∃ t, exec (.tspNop p) s = .next t ∧ (rest.head?.all TspItem.hasRow = true → (t.tsp p).inbox = rest ∧ (4 ≤ s.lstate p ∧ (s.tsp p).results.length < 4096 → (t.tsp p).results = (s.tsp p).results ++ [resultRecord 0x01 (cmdGroup v) false (cmdTag v) (s.get (GRP_EPOCH_EPOCH (cmdGroup v))) Code.OK (completionBody 0 (s.members (cmdGroup v)).length 0 0)] ∧ (t.tsp p).replies = (s.tsp p).replies ∧ SameTsps [p.val] s t ∧ t = { s with tsps := t.tsps })))

/-- HOP, RAMP and CLAP of a group with no members are answered NO_MEMBERS, of a split group ROOT_MISMATCH. HOP on an
idle LOCKED root becomes the executing hop with its preset, priority and source, otherwise the pending one. RAMP on
a root not armed for a select-port trigger is answered IGNORED and counted; on an armed one it disarms, and starts
the ramp and voids the alignment, behind a single step that runs it waits (log 133), or is answered with the first
failing check. TAKE with FLAG 0 waits while solves of its channels are queued, is answered TAKE_BUSY while another
arm waits or the take runs, with CODE, and otherwise latches the settings, enters PREROLL and is answered OK. TAKE
with FLAG 1 for a take in PREROLL is held with its cycle; for one not armed for it, it is refused. CLAP far enough
ahead asks every device of the board, nearer it is answered CLAP_LATE. The model's choices here, which are no rule
of the spec, by their log entries: the fields of an answer of a port itself (37), refusals of arms (42), a trigger
that meets another TRIG and a ramp behind a single step (133). -/
def Obligations.PortCommandsForRootsAndTakes : Prop :=
  (∀ (p : Fin 8) (v : Nat) (rest : List TspItem) (s : State), (s.tsp p).inbox = .cmd v :: rest → s.hello p = true → s.ownsGroup p (cmdGroup v) = true → s.members (cmdGroup v) = [] → 
      ∀ q ∈ ([(Instr.tspHop p, 0x10), (.tspRamp p, 0x11), (.tspClap p, 0x30)] : List (Instr × Nat)), cmdOp v = q.2 → ∃ t, exec q.1 s = .next t ∧ (rest.head?.all TspItem.hasRow = true → (t.tsp p).inbox = rest ∧ (4 ≤ s.lstate p ∧ (s.tsp p).results.length < 4096 → (t.tsp p).results = (s.tsp p).results ++ [resultRecord 0x01 (cmdGroup v) false (cmdTag v) (s.get (GRP_EPOCH_EPOCH (cmdGroup v))) Code.NO_MEMBERS (completionBody 0 (s.members (cmdGroup v)).length 0 0)] ∧ (t.tsp p).replies = (s.tsp p).replies ∧ SameTsps [p.val] s t ∧ t = { s with tsps := t.tsps }))) ∧
  (∀ (p : Fin 8) (v : Nat) (rest : List TspItem) (s : State), (s.tsp p).inbox = .cmd v :: rest → s.hello p = true → s.ownsGroup p (cmdGroup v) = true → s.members (cmdGroup v) ≠ [] → s.split (cmdGroup v) = true → 
      ∀ q ∈ ([(Instr.tspHop p, 0x10), (.tspRamp p, 0x11), (.tspClap p, 0x30)] : List (Instr × Nat)), cmdOp v = q.2 → ∃ t, exec q.1 s = .next t ∧ (rest.head?.all TspItem.hasRow = true → (t.tsp p).inbox = rest ∧ (4 ≤ s.lstate p ∧ (s.tsp p).results.length < 4096 → (t.tsp p).results = (s.tsp p).results ++ [resultRecord 0x01 (cmdGroup v) false (cmdTag v) (s.get (GRP_EPOCH_EPOCH (cmdGroup v))) Code.ROOT_MISMATCH (completionBody 0 (s.members (cmdGroup v)).length 0 0)] ∧ (t.tsp p).replies = (s.tsp p).replies ∧ SameTsps [p.val] s t ∧ t = { s with tsps := t.tsps }))) ∧
  (∀ (p : Fin 8) (v : Nat) (rest : List TspItem) (s : State), (s.tsp p).inbox = .cmd v :: rest → s.hello p = true → s.ownsGroup p (cmdGroup v) = true → s.members (cmdGroup v) ≠ [] → s.split (cmdGroup v) = false → cmdOp v = 0x10 → s.isLocked (s.rootOf (s.leadBank (cmdGroup v))) = true → (s.root (s.rootOf (s.leadBank (cmdGroup v)))).hop = none → (s.root (s.rootOf (s.leadBank (cmdGroup v)))).pend = none → 
      ∃ t, exec (.tspHop p) s = .next t ∧ (t.root (s.rootOf (s.leadBank (cmdGroup v)))).hop = some (⟨cmdCtx v % 16, cmdFlag v, (.port p (cmdGroup v) (cmdTag v)), none⟩, .waiting) ∧ t.bit (SYN_STAT_HOPBUSY (s.rootOf (s.leadBank (cmdGroup v)))) = true ∧ (rest.head?.all TspItem.hasRow = true → (t.tsp p).inbox = rest ∧ t = { s with regs := t.regs, roots := t.roots, tsps := t.tsps } ∧ SameRoots [(s.rootOf (s.leadBank (cmdGroup v)))] s t ∧ SameTsps [p.val] s t ∧ SameWords [SYN_STAT (s.rootOf (s.leadBank (cmdGroup v))), SYN_HOPSTAT (s.rootOf (s.leadBank (cmdGroup v)))] s t)) ∧
  (∀ (p : Fin 8) (v : Nat) (rest : List TspItem) (s : State), (s.tsp p).inbox = .cmd v :: rest → s.hello p = true → s.ownsGroup p (cmdGroup v) = true → s.members (cmdGroup v) ≠ [] → s.split (cmdGroup v) = false → cmdOp v = 0x10 → (s.isLocked (s.rootOf (s.leadBank (cmdGroup v))) = false ∨ (s.root (s.rootOf (s.leadBank (cmdGroup v)))).hop ≠ none) → (s.root (s.rootOf (s.leadBank (cmdGroup v)))).pend = none → 
      ∃ t, exec (.tspHop p) s = .next t ∧ (t.root (s.rootOf (s.leadBank (cmdGroup v)))).hop = (s.root (s.rootOf (s.leadBank (cmdGroup v)))).hop ∧ (t.root (s.rootOf (s.leadBank (cmdGroup v)))).pend = some ⟨cmdCtx v % 16, cmdFlag v, (.port p (cmdGroup v) (cmdTag v)), none⟩ ∧ (rest.head?.all TspItem.hasRow = true → (t.tsp p).inbox = rest ∧ t = { s with regs := t.regs, roots := t.roots, tsps := t.tsps } ∧ SameRoots [(s.rootOf (s.leadBank (cmdGroup v)))] s t ∧ SameTsps [p.val] s t ∧ SameWords [SYN_STAT (s.rootOf (s.leadBank (cmdGroup v))), SYN_HOPSTAT (s.rootOf (s.leadBank (cmdGroup v)))] s t)) ∧
  (∀ (p : Fin 8) (v : Nat) (rest : List TspItem) (s : State), (s.tsp p).inbox = .cmd v :: rest → s.hello p = true → s.ownsGroup p (cmdGroup v) = true → s.members (cmdGroup v) ≠ [] → s.split (cmdGroup v) = false → cmdOp v = 0x11 → (s.bit (SYN_RCTRL_ARM (s.rootOf (s.leadBank (cmdGroup v)))) = false ∨ s.get (SYN_RCTRL_TRIG (s.rootOf (s.leadBank (cmdGroup v)))) ≠ 1) → 
      ∃ t, exec (.tspRamp p) s = .next t ∧ t.get (SYN_RSTAT_IGNCNT (s.rootOf (s.leadBank (cmdGroup v)))) = min (s.get (SYN_RSTAT_IGNCNT (s.rootOf (s.leadBank (cmdGroup v)))) + 1) (2 ^ (SYN_RSTAT_IGNCNT (s.rootOf (s.leadBank (cmdGroup v)))).len - 1) ∧ (rest.head?.all TspItem.hasRow = true → (t.tsp p).inbox = rest ∧ (4 ≤ s.lstate p ∧ (s.tsp p).results.length < 4096 → (t.tsp p).results = (s.tsp p).results ++ [resultRecord 0x01 (cmdGroup v) false (cmdTag v) (s.get (GRP_EPOCH_EPOCH (cmdGroup v))) Code.IGNORED (completionBody 0 (s.members (cmdGroup v)).length 0 0)] ∧ (t.tsp p).replies = (s.tsp p).replies ∧ SameTsps [p.val] s t ∧ t = { s with regs := t.regs, tsps := t.tsps } ∧ SameWords [SYN_RSTAT (s.rootOf (s.leadBank (cmdGroup v)))] s t))) ∧
  (∀ (p : Fin 8) (v : Nat) (rest : List TspItem) (s : State), (s.tsp p).inbox = .cmd v :: rest → s.hello p = true → s.ownsGroup p (cmdGroup v) = true → s.members (cmdGroup v) ≠ [] → s.split (cmdGroup v) = false → cmdOp v = 0x11 → s.bit (SYN_RCTRL_ARM (s.rootOf (s.leadBank (cmdGroup v)))) = true → s.get (SYN_RCTRL_TRIG (s.rootOf (s.leadBank (cmdGroup v)))) = 1 → s.bit (SEQ_STAT_SUSP (s.rootOf (s.leadBank (cmdGroup v)))) = false → s.rampWhy (s.rootOf (s.leadBank (cmdGroup v))) ≠ 0 → 
      ∃ t, exec (.tspRamp p) s = .next t ∧ t.get (SYN_RSTAT_LASTRES (s.rootOf (s.leadBank (cmdGroup v)))) = s.rampWhy (s.rootOf (s.leadBank (cmdGroup v))) ∧ t.bit (SYN_RCTRL_ARM (s.rootOf (s.leadBank (cmdGroup v)))) = false ∧ (rest.head?.all TspItem.hasRow = true → (t.tsp p).inbox = rest ∧ (4 ≤ s.lstate p ∧ (s.tsp p).results.length < 4096 → (t.tsp p).results = (s.tsp p).results ++ [resultRecord 0x01 (cmdGroup v) false (cmdTag v) (s.get (GRP_EPOCH_EPOCH (cmdGroup v))) (rampCode (s.rampWhy (s.rootOf (s.leadBank (cmdGroup v))))) (completionBody 0 (s.members (cmdGroup v)).length 0 0)] ∧ (t.tsp p).replies = (s.tsp p).replies ∧ SameTsps [p.val] s t ∧ t = { s with regs := t.regs, tsps := t.tsps } ∧ SameWords [SYN_RSTAT (s.rootOf (s.leadBank (cmdGroup v))), SYN_RCTRL (s.rootOf (s.leadBank (cmdGroup v)))] s t))) ∧
  (∀ (p : Fin 8) (v : Nat) (rest : List TspItem) (s : State), (s.tsp p).inbox = .cmd v :: rest → s.hello p = true → s.ownsGroup p (cmdGroup v) = true → s.members (cmdGroup v) ≠ [] → s.split (cmdGroup v) = false → cmdOp v = 0x11 → s.bit (SYN_RCTRL_ARM (s.rootOf (s.leadBank (cmdGroup v)))) = true → s.get (SYN_RCTRL_TRIG (s.rootOf (s.leadBank (cmdGroup v)))) = 1 → s.bit (SEQ_STAT_SUSP (s.rootOf (s.leadBank (cmdGroup v)))) = false → s.rampWhy (s.rootOf (s.leadBank (cmdGroup v))) = 0 → (s.root (s.rootOf (s.leadBank (cmdGroup v)))).rt = 0 → 
      ∃ t, exec (.tspRamp p) s = .next t ∧ t.rootState (s.rootOf (s.leadBank (cmdGroup v))) = stRamp ∧ t.get (SYN_RSTAT_PASS (s.rootOf (s.leadBank (cmdGroup v)))) = 0 ∧ t.bit (SYN_RCTRL_ARM (s.rootOf (s.leadBank (cmdGroup v)))) = false ∧ (t.root (s.rootOf (s.leadBank (cmdGroup v)))).ramp.isSome = true ∧ t.bit (PRL_ALIGN_ALIGNED (s.rootOf (s.leadBank (cmdGroup v)))) = false ∧ (rest.head?.all TspItem.hasRow = true → (t.tsp p).inbox = rest ∧ (4 ≤ s.lstate p ∧ (s.tsp p).results.length < 4096 → (t.tsp p).results = (s.tsp p).results ++ [resultRecord 0x01 (cmdGroup v) false (cmdTag v) (s.get (GRP_EPOCH_EPOCH (cmdGroup v))) Code.OK (completionBody 0 (s.members (cmdGroup v)).length 0 0)]))) ∧
  (∀ (p : Fin 8) (v : Nat) (rest : List TspItem) (s : State), (s.tsp p).inbox = .cmd v :: rest → s.hello p = true → s.ownsGroup p (cmdGroup v) = true → s.members (cmdGroup v) ≠ [] → s.split (cmdGroup v) = false → cmdOp v = 0x11 → s.bit (SYN_RCTRL_ARM (s.rootOf (s.leadBank (cmdGroup v)))) = true → s.get (SYN_RCTRL_TRIG (s.rootOf (s.leadBank (cmdGroup v)))) = 1 → s.bit (SEQ_STAT_SUSP (s.rootOf (s.leadBank (cmdGroup v)))) = false → s.rampWhy (s.rootOf (s.leadBank (cmdGroup v))) = 0 → (s.root (s.rootOf (s.leadBank (cmdGroup v)))).rt ≠ 0 → 
      ∃ t, exec (.tspRamp p) s = .next t ∧ t.rootState (s.rootOf (s.leadBank (cmdGroup v))) = s.rootState (s.rootOf (s.leadBank (cmdGroup v))) ∧ (t.root (s.rootOf (s.leadBank (cmdGroup v)))).rt = (s.root (s.rootOf (s.leadBank (cmdGroup v)))).rt ∧ (t.root (s.rootOf (s.leadBank (cmdGroup v)))).waitRamp = some (.start false) ∧ t.bit (SYN_RCTRL_ARM (s.rootOf (s.leadBank (cmdGroup v)))) = false ∧ (rest.head?.all TspItem.hasRow = true → (t.tsp p).inbox = rest ∧ (4 ≤ s.lstate p ∧ (s.tsp p).results.length < 4096 → (t.tsp p).results = (s.tsp p).results ++ [resultRecord 0x01 (cmdGroup v) false (cmdTag v) (s.get (GRP_EPOCH_EPOCH (cmdGroup v))) Code.OK (completionBody 0 (s.members (cmdGroup v)).length 0 0)]))) ∧
  (∀ (p : Fin 8) (v : Nat) (rest : List TspItem) (s : State), (s.tsp p).inbox = .cmd v :: rest → s.hello p = true → s.ownsGroup p (cmdGroup v) = true → cmdOp v = 0x20 → cmdFlag v = false → (s.take (cmdCtx v % 256)).waitArm = none → s.takeBusy (cmdCtx v % 256) = false → s.solvesQueued (cmdCtx v % 256) = true → 
      ∃ t, exec (.tspTakeArm p) s = .next t ∧ (t.take (cmdCtx v % 256)).waitArm = some { src := (.port p (cmdGroup v) (cmdTag v)), group := some (cmdGroup v), wait := false } ∧ (rest.head?.all TspItem.hasRow = true → (t.tsp p).inbox = rest ∧ t = { s with takes := t.takes, tsps := t.tsps } ∧ SameTakes [(cmdCtx v % 256)] s t ∧ SameTsps [p.val] s t)) ∧
  (∀ (p : Fin 8) (v : Nat) (rest : List TspItem) (s : State), (s.tsp p).inbox = .cmd v :: rest → s.hello p = true → s.ownsGroup p (cmdGroup v) = true → cmdOp v = 0x20 → cmdFlag v = false → ((s.take (cmdCtx v % 256)).waitArm.isSome = true ∨ s.takeBusy (cmdCtx v % 256) = true) → 
      ∃ t, exec (.tspTakeArm p) s = .next t ∧ t.get (TK_STAT_CODE (cmdCtx v % 256)) = Code.TAKE_BUSY ∧ (t.take (cmdCtx v % 256)) = s.take (cmdCtx v % 256) ∧ (rest.head?.all TspItem.hasRow = true → (t.tsp p).inbox = rest ∧ (4 ≤ s.lstate p ∧ (s.tsp p).results.length < 4096 → (t.tsp p).results = (s.tsp p).results ++ [resultRecord 0x01 (cmdGroup v) false (cmdTag v) (s.get (GRP_EPOCH_EPOCH (cmdGroup v))) Code.TAKE_BUSY (completionBody 0 0 0 0)] ∧ (t.tsp p).replies = (s.tsp p).replies ∧ SameTsps [p.val] s t ∧ t = { s with regs := t.regs, tsps := t.tsps } ∧ SameWords [TK_STAT (cmdCtx v % 256)] s t))) ∧
  (∀ (p : Fin 8) (v : Nat) (rest : List TspItem) (s : State), (s.tsp p).inbox = .cmd v :: rest → s.hello p = true → s.ownsGroup p (cmdGroup v) = true → cmdOp v = 0x20 → cmdFlag v = false → (s.take (cmdCtx v % 256)).waitArm = none → s.takeBusy (cmdCtx v % 256) = false → s.solvesQueued (cmdCtx v % 256) = false → s.joined (cmdCtx v % 256) ≠ [] → s.get (TK_CFG_START (cmdCtx v % 256)) ≠ 3 → s.get (TK_CFG_STOP (cmdCtx v % 256)) ≠ 2 → ((s.joined (cmdCtx v % 256)).all (fun n => s.rootOf (n / 64) == s.rootOf ((s.joined (cmdCtx v % 256)).headD 0 / 64)) = true) → s.split (cmdGroup v) = false → s.bit (TK_CFG_GRPEN (cmdCtx v % 256)) = true → s.get (TK_CFG_GROUP (cmdCtx v % 256)) = cmdGroup v → 
      ∃ t, exec (.tspTakeArm p) s = .next t ∧ t.takeState (cmdCtx v % 256) = 1 ∧ t.get (TK_STAT_CODE (cmdCtx v % 256)) = 0 ∧ t.get (TK_STAT_NCH (cmdCtx v % 256)) = (s.joined (cmdCtx v % 256)).length % 2 ^ (TK_STAT_NCH (cmdCtx v % 256)).len ∧ (t.take (cmdCtx v % 256)).chans = s.joined (cmdCtx v % 256) ∧ (t.take (cmdCtx v % 256)).req = { src := (.port p (cmdGroup v) (cmdTag v)), group := some (cmdGroup v), wait := false } ∧
      (t.take (cmdCtx v % 256)).count = max 1 (s.get (TK_COUNT_N (cmdCtx v % 256))) ∧ (t.take (cmdCtx v % 256)).raw = s.bit GLB_MODE_STAMPRAW ∧ SameTakes [(cmdCtx v % 256)] s t ∧ (rest.head?.all TspItem.hasRow = true → (t.tsp p).inbox = rest ∧ (4 ≤ s.lstate p ∧ (s.tsp p).results.length < 4096 → (t.tsp p).results = (s.tsp p).results ++ [resultRecord 0x01 (cmdGroup v) false (cmdTag v) (s.get (GRP_EPOCH_EPOCH (cmdGroup v))) Code.OK (completionBody (s.tbOf ((s.joined (cmdCtx v % 256)).headD 0 / 64)) (s.joined (cmdCtx v % 256)).length 0 0)]))) ∧
  (∀ (p : Fin 8) (v : Nat) (rest : List TspItem) (s : State), (s.tsp p).inbox = .cmd v :: rest → s.hello p = true → s.ownsGroup p (cmdGroup v) = true → cmdOp v = 0x20 → cmdFlag v = true → s.members (cmdGroup v) ≠ [] → s.takeState (cmdCtx v % 256) = 1 → (s.take (cmdCtx v % 256)).start = 1 → (s.take (cmdCtx v % 256)).held = none → (((s.word (TK_CFG (cmdCtx v % 256))).toNat / 2 ^ 30 % 2 = 1 ∧ (s.word (TK_CFG (cmdCtx v % 256))).toNat / 2 ^ 24 % 64 = cmdGroup v)) → 
      ∃ t, exec (.tspTakeStart p) s = .next t ∧ (t.take (cmdCtx v % 256)).held = some ((.port p (cmdGroup v) (cmdTag v)), cmdCyc v) ∧ (t.take (cmdCtx v % 256)).heldObs = none ∧ t.takeState (cmdCtx v % 256) = 1 ∧ (rest.head?.all TspItem.hasRow = true → (t.tsp p).inbox = rest ∧ t = { s with takes := t.takes, tsps := t.tsps } ∧ SameTakes [(cmdCtx v % 256)] s t ∧ SameTsps [p.val] s t)) ∧
  (∀ (p : Fin 8) (v : Nat) (rest : List TspItem) (s : State), (s.tsp p).inbox = .cmd v :: rest → s.hello p = true → s.ownsGroup p (cmdGroup v) = true → cmdOp v = 0x20 → cmdFlag v = true → (¬ ((s.word (TK_CFG (cmdCtx v % 256))).toNat / 2 ^ 30 % 2 = 1 ∧ (s.word (TK_CFG (cmdCtx v % 256))).toNat / 2 ^ 24 % 64 = cmdGroup v) ∨ s.members (cmdGroup v) = [] ∨ ¬(s.takeState (cmdCtx v % 256) = 1 ∨ s.takeState (cmdCtx v % 256) = 2) ∨ (s.take (cmdCtx v % 256)).start ≠ 1 ∨ (s.take (cmdCtx v % 256)).held ≠ none) → 
      ∃ t, exec (.tspTakeStart p) s = .next t ∧ (rest.head?.all TspItem.hasRow = true → (t.tsp p).inbox = rest ∧ (4 ≤ s.lstate p ∧ (s.tsp p).results.length < 4096 → (t.tsp p).results = (s.tsp p).results ++ [resultRecord 0x01 (cmdGroup v) false (cmdTag v) (s.get (GRP_EPOCH_EPOCH (cmdGroup v))) (if ¬ ((s.word (TK_CFG (cmdCtx v % 256))).toNat / 2 ^ 30 % 2 = 1 ∧ (s.word (TK_CFG (cmdCtx v % 256))).toNat / 2 ^ 24 % 64 = cmdGroup v) then Code.NOT_OWNER else if s.members (cmdGroup v) = [] then Code.NO_MEMBERS else Code.NOT_ARMED) (completionBody 0 (s.members (cmdGroup v)).length 0 0)] ∧ (t.tsp p).replies = (s.tsp p).replies ∧ SameTsps [p.val] s t ∧ t = { s with tsps := t.tsps }))) ∧
  (∀ (p : Fin 8) (v : Nat) (rest : List TspItem) (s : State), (s.tsp p).inbox = .cmd v :: rest → s.hello p = true → s.ownsGroup p (cmdGroup v) = true → s.members (cmdGroup v) ≠ [] → s.split (cmdGroup v) = false → cmdOp v = 0x30 → ((s.root (s.rootOf (s.leadBank (cmdGroup v)))).tb : Int) + max 8192 (s.get PRL_CLAPLEAD_CYC) ≤ nearCount (s.root (s.rootOf (s.leadBank (cmdGroup v)))).tb (cmdCyc v) → 
      ∃ t, exec (.tspClap p) s = .next t ∧ t.board.reqs = s.board.reqs ++ [{ src := (.port p (cmdGroup v) (cmdTag v)), tag := s.board.tag, root := (s.rootOf (s.leadBank (cmdGroup v))), t := (nearCount (s.root (s.rootOf (s.leadBank (cmdGroup v)))).tb (cmdCyc v)).toNat, targets := devMask s.devices, answered := 0, voided := 0, late := 0 }] ∧
      t.board.tag = s.board.tag + 1 ∧ (devMask s.devices / 2 ^ s.me % 2 = 1 → t.board.claps = s.board.claps ++ [⟨(s.rootOf (s.leadBank (cmdGroup v))), (nearCount (s.root (s.rootOf (s.leadBank (cmdGroup v)))).tb (cmdCyc v)).toNat, s.me, s.board.tag⟩]) ∧ (rest.head?.all TspItem.hasRow = true → (t.tsp p).inbox = rest)) ∧
  (∀ (p : Fin 8) (v : Nat) (rest : List TspItem) (s : State), (s.tsp p).inbox = .cmd v :: rest → s.hello p = true → s.ownsGroup p (cmdGroup v) = true → s.members (cmdGroup v) ≠ [] → s.split (cmdGroup v) = false → cmdOp v = 0x30 → nearCount (s.root (s.rootOf (s.leadBank (cmdGroup v)))).tb (cmdCyc v) < ((s.root (s.rootOf (s.leadBank (cmdGroup v)))).tb : Int) + max 8192 (s.get PRL_CLAPLEAD_CYC) → 
      ∃ t, exec (.tspClap p) s = .next t ∧ (rest.head?.all TspItem.hasRow = true → (t.tsp p).inbox = rest ∧ (4 ≤ s.lstate p ∧ (s.tsp p).results.length < 4096 → (t.tsp p).results = (s.tsp p).results ++ [resultRecord 0x01 (cmdGroup v) false (cmdTag v) (s.get (GRP_EPOCH_EPOCH (cmdGroup v))) Code.CLAP_LATE (completionBody (cmdCyc v % 2 ^ 48) (s.members (cmdGroup v)).length 0 0)] ∧ (t.tsp p).replies = (s.tsp p).replies ∧ SameTsps [p.val] s t ∧ t = { s with tsps := t.tsps })))

/-- HELLO in UP with version 1 detaches an attached port first, then sets HELLO, shows the far ID, and is answered;
another version is answered code 1 and changes nothing; outside UP it is dropped. CLAIM and RELEASE answer every
group they name, in byte order, before HELLO with PROTOCOL. CLAIM of a group that no rule refuses makes the port its
owner, empties its select buffer, sets NEXT 0 and its OWN bit, and answers OK; another claim changes nothing but the
answer. RELEASE of an owned stopped group gives it back; another is answered NOT_OWNER or GROUP_RUNNING. DETACH, as
a message or as a register write, ends the attachment, gives every owned group back, a running one with a stop, a
stopped one with an empty buffer, and frees the hops it asked for from the port; on an UP link DETACHED is sent with
the number of groups. One that is not attached is not changed. The model's choices here, which are no rule of the
spec, by their log entries: HELLO and DETACH out of their turn (38), LEAD of a claim (39, 137), a withdrawn commit
(27), entries flushed at a RELEASE (137). -/
def Obligations.AttachClaimReleaseDetach : Prop :=
  (∀ (p : Fin 8) (v : Nat) (rest : List TspItem) (s : State), (s.tsp p).inbox = .ctrl v :: rest → cmdOp v = 1 → s.lstate p = 4 → v / 2 ^ 32 % 16 ≠ 1 → 
      ∃ t, exec (.hello p) s = .next t ∧ (t.tsp p).replies = (s.tsp p).replies ++ [s.helloAck p 1] ∧ (rest.head?.all TspItem.hasRow = true → (t.tsp p).inbox = rest ∧ t = { s with tsps := t.tsps } ∧ SameTsps [p.val] s t)) ∧
  (∀ (p : Fin 8) (v : Nat) (rest : List TspItem) (s : State), (s.tsp p).inbox = .ctrl v :: rest → cmdOp v = 1 → s.lstate p ≠ 4 → 
      ∃ t, exec (.hello p) s = .next t ∧ (t.tsp p).replies = (s.tsp p).replies ∧ t.hello p = s.hello p ∧ (rest.head?.all TspItem.hasRow = true → (t.tsp p).inbox = rest ∧ t = { s with tsps := t.tsps } ∧ SameTsps [p.val] s t)) ∧
  (∀ (p : Fin 8) (v : Nat) (rest : List TspItem) (s : State), (s.tsp p).inbox = .ctrl v :: rest → cmdOp v = 1 → s.lstate p = 4 → v / 2 ^ 32 % 16 = 1 → 
      ∃ t, exec (.hello p) s = .next t ∧ (t.tsp p).replies = (s.tsp p).replies ++ (if s.hello p = true then [detachedMsg (s.owned p).length] else []) ++ [s.helloAck p 0] ∧ t.hello p = true ∧ (s.hello p = true → t.owned p = []) ∧ t.get (TSP_FARID_ID p) = v % 2 ^ (TSP_FARID_ID p).len ∧ (t.tsp p).sinceStatus = 0 ∧ (s.hello p = false → (rest.head?.all TspItem.hasRow = true → (t.tsp p).inbox = rest ∧ t = { s with regs := t.regs, tsps := t.tsps } ∧ SameTsps [p.val] s t ∧ SameWords [TSP_STAT p, TSP_FARID p] s t))) ∧
  (∀ (p : Fin 8) (v : Nat) (rest : List TspItem) (s : State), (s.tsp p).inbox = .ctrl v :: rest → (s.lstate p = 4 ∨ s.lstate p = 5) → cmdOp v = 2 → 
      ∃ t, exec (.claim p) s = .next t ∧ ∃ l, (t.tsp p).replies = (s.tsp p).replies ++ l ∧ l.map (fun r => r / 2 ^ 114 % 64) = namedGroups v ∧ (∀ r ∈ l, r / 2 ^ 120 = 0x82) ∧ (s.hello p = false → l = (namedGroups v).map (fun g => claimReply 0x82 g Code.PROTOCOL) ∧ (rest.head?.all TspItem.hasRow = true → t = { s with tsps := t.tsps } ∧ SameTsps [p.val] s t)) ∧ (rest.head?.all TspItem.hasRow = true → (t.tsp p).inbox = rest)) ∧
  (∀ (p : Fin 8) (v : Nat) (rest : List TspItem) (s : State), (s.tsp p).inbox = .ctrl v :: rest → (s.lstate p = 4 ∨ s.lstate p = 5) → cmdOp v = 3 → 
      ∃ t, exec (.release p) s = .next t ∧ ∃ l, (t.tsp p).replies = (s.tsp p).replies ++ l ∧ l.map (fun r => r / 2 ^ 114 % 64) = namedGroups v ∧ (∀ r ∈ l, r / 2 ^ 120 = 0x83) ∧ (s.hello p = false → l = (namedGroups v).map (fun g => claimReply 0x83 g Code.PROTOCOL) ∧ (rest.head?.all TspItem.hasRow = true → t = { s with tsps := t.tsps } ∧ SameTsps [p.val] s t)) ∧ (rest.head?.all TspItem.hasRow = true → (t.tsp p).inbox = rest)) ∧
  (∀ (p : Fin 8) (v : Nat) (rest : List TspItem) (s : State) (g : Fin 64), (s.tsp p).inbox = .ctrl v :: rest → (s.lstate p = 4 ∨ s.lstate p = 5) → cmdOp v = 2 → namedGroups v = [g.val] → s.hello p = true → s.claimCode p g = Code.OK → s.bit (GRP_STAT_OWNED g) = false → 
      ∃ t, exec (.claim p) s = .next t ∧ (t.tsp p).replies = (s.tsp p).replies ++ [claimReply 0x82 g Code.OK] ∧ t.bit (GRP_STAT_OWNED g) = true ∧ t.get (GRP_STAT_OWNER g) = p ∧ (t.group g).buf = [] ∧ (t.group g).next = 0 ∧
      (if g.val < 32 then t.bit ⟨TSP_OWNLO p, g.val, 1⟩ = true else t.bit ⟨TSP_OWNHI p, g.val - 32, 1⟩ = true) ∧ t.get (TSP_STAT_NGRP p) = (t.owned p).length % 2 ^ (TSP_STAT_NGRP p).len ∧
      (rest.head?.all TspItem.hasRow = true → (t.tsp p).inbox = rest ∧ t = { s with regs := t.regs, groups := t.groups, tsps := t.tsps } ∧ SameTsps [p.val] s t ∧ SameGroups [g.val] s t ∧ SameWords [GRP_STAT g, GRP_TSPCFG g, TSP_OWNLO p, TSP_OWNHI p, TSP_STAT p] s t)) ∧
  (∀ (p : Fin 8) (v : Nat) (rest : List TspItem) (s : State) (g : Fin 64), (s.tsp p).inbox = .ctrl v :: rest → (s.lstate p = 4 ∨ s.lstate p = 5) → cmdOp v = 2 → namedGroups v = [g.val] → s.hello p = true → (s.claimCode p g ≠ Code.OK ∨ s.bit (GRP_STAT_OWNED g) = true) → 
      ∃ t, exec (.claim p) s = .next t ∧ (t.tsp p).replies = (s.tsp p).replies ++ [claimReply 0x82 g (s.claimCode p g)] ∧ (rest.head?.all TspItem.hasRow = true → (t.tsp p).inbox = rest ∧ t = { s with tsps := t.tsps } ∧ SameTsps [p.val] s t)) ∧
  (∀ (p : Fin 8) (v : Nat) (rest : List TspItem) (s : State) (g : Fin 64), (s.tsp p).inbox = .ctrl v :: rest → (s.lstate p = 4 ∨ s.lstate p = 5) → cmdOp v = 3 → namedGroups v = [g.val] → s.hello p = true → s.ownsGroup p g = true → s.running g = false → 
      ∃ t, exec (.release p) s = .next t ∧ (t.tsp p).replies = (s.tsp p).replies ++ [claimReply 0x83 g Code.OK] ∧ t.bit (GRP_STAT_OWNED g) = false ∧ (if g.val < 32 then t.bit ⟨TSP_OWNLO p, g.val, 1⟩ = false else t.bit ⟨TSP_OWNHI p, g.val - 32, 1⟩ = false) ∧
      (rest.head?.all TspItem.hasRow = true → (t.tsp p).inbox = rest ∧ t = { s with regs := t.regs, tsps := t.tsps } ∧ SameTsps [p.val] s t ∧ SameWords [GRP_STAT g, TSP_OWNLO p, TSP_OWNHI p, TSP_STAT p] s t)) ∧
  (∀ (p : Fin 8) (v : Nat) (rest : List TspItem) (s : State) (g : Fin 64), (s.tsp p).inbox = .ctrl v :: rest → (s.lstate p = 4 ∨ s.lstate p = 5) → cmdOp v = 3 → namedGroups v = [g.val] → s.hello p = true → (s.ownsGroup p g = false ∨ s.running g = true) → 
      ∃ t, exec (.release p) s = .next t ∧ (t.tsp p).replies = (s.tsp p).replies ++ [claimReply 0x83 g (if s.ownsGroup p g = false then Code.NOT_OWNER else Code.GROUP_RUNNING)] ∧ (rest.head?.all TspItem.hasRow = true → (t.tsp p).inbox = rest ∧ t = { s with tsps := t.tsps } ∧ SameTsps [p.val] s t)) ∧
  (∀ (p : Fin 8) (v : Nat) (rest : List TspItem) (s : State), (s.tsp p).inbox = .ctrl v :: rest → cmdOp v = 4 → s.hello p = true → 
      ∃ t, exec (.detach p) s = .next t ∧ (t.tsp p).replies = (s.tsp p).replies ++ (if s.lstate p = 4 then [detachedMsg (s.owned p).length] else []) ∧ t.hello p = false ∧ t.bit (TSP_FLAGS_DETACHED p) = true ∧ t.lstate p = s.lstate p ∧ (∀ g ∈ s.owned p, t.bit (GRP_STAT_OWNED g) = false ∧ (s.running g = true → (t.group g).stopAt.isSome = true) ∧ (s.running g = false → (t.group g).buf = [] ∧ (t.group g).next = 0)) ∧
      (∀ n : Fin 4, (t.root n).hop.any (fun h => h.1.src.ofPort p) = false ∧ (t.root n).pend.any (fun h => h.src.ofPort p) = false)) ∧
  (∀ (p : Fin 8) (v : Nat) (rest : List TspItem) (s : State), (s.tsp p).inbox = .ctrl v :: rest → cmdOp v = 4 → s.hello p = false → 
      ∃ t, exec (.detach p) s = .next t ∧ (t.tsp p).replies = (s.tsp p).replies ∧ (rest.head?.all TspItem.hasRow = true → (t.tsp p).inbox = rest ∧ t = { s with tsps := t.tsps } ∧ SameTsps [p.val] s t)) ∧
  (∀ (src : Source) (p : Fin 8) (w : Word) (s : State), s.rowServed src (TSP_CTRL p) true = true → wbit w 0 = true → wbit w 1 = true → wbit w 2 = false → s.bit (TSP_CTRL_EN p) = true → s.hello p = true → 
      ∃ t, exec (.tspDetachWrite src p w) s = .next t ∧ t.hello p = false ∧ t.bit (TSP_FLAGS_DETACHED p) = true ∧ t.lstate p = s.lstate p ∧ (∀ g ∈ s.owned p, t.bit (GRP_STAT_OWNED g) = false ∧ (s.running g = true → (t.group g).stopAt.isSome = true) ∧ (s.running g = false → (t.group g).buf = [] ∧ (t.group g).next = 0)) ∧
      (t.tsp p).replies = (s.tsp p).replies ++ (if s.lstate p = 4 then [detachedMsg (s.owned p).length] else [])) ∧
  (∀ (src : Source) (p : Fin 8) (w : Word) (s : State), s.rowServed src (TSP_CTRL p) true = true → wbit w 0 = true → wbit w 1 = true → wbit w 2 = false → s.bit (TSP_CTRL_EN p) = true → s.hello p = false → 
      ∃ t, exec (.tspDetachWrite src p w) s = .next t ∧ t.lstate p = s.lstate p ∧ RegsOnly [TSP_CTRL p] s t)

/-- A frame with a bad CRC or an invalid block counts CRCERR and sets CRC. IDLE frames have no effect. A COMMAND or CTRL
frame in sequence is taken in item by item. A frame out of sequence counts SEQGAP by the frames missing, sets its
flag and queues FRAME_LOST; a SELECT frame is taken in with its stamp. A frame of an unknown type counts BADCMD. A
SELECT frame for a group the port does not own counts FOREIGN; an entry that begins at NEXT joins the buffer with
its cycles and stamp and moves NEXT. OUTBOUND_FRAME sends up to 15 CTRL replies, else up to 15 results when no
STATUS is due, else IDLE with the SEQ of the last frame; after 23 frames a SKP ordered set. The model's choices
here, which are no rule of the spec, by their log entries: the order of items (35), the first SEQ (36), a FRAME_LOST
record (37), CUR and the SEQ of IDLE (40), late entries (110), the stamp of a group without members (137). -/
def Obligations.FramesOfASelectPort : Prop :=
  (∀ (p : Fin 8) (f : BitVec 2048) (invalid : Bool) (s : State), s.lstate p ≠ 4 → 
      exec (.inboundFrame p f invalid) s = .next s) ∧
  (∀ (p : Fin 8) (f : BitVec 2048) (invalid : Bool) (s : State), s.lstate p = 4 → (invalid = true ∨ frameOk f.toNat = false) → 
      ∃ t, exec (.inboundFrame p f invalid) s = .next t ∧ t.get (TSP_CRCERR_COUNT p) = min (s.get (TSP_CRCERR_COUNT p) + 1) (2 ^ (TSP_CRCERR_COUNT p).len - 1) ∧ t.bit (TSP_FLAGS_CRC p) = true ∧ RegsIrq [TSP_CRCERR p, TSP_FLAGS p] s t) ∧
  (∀ (p : Fin 8) (f : BitVec 2048) (s : State), s.lstate p = 4 → frameOk f.toNat = true → f.toNat / 2 ^ 28 % 16 = 0 → 
      exec (.inboundFrame p f false) s = .next s) ∧
  (∀ (p : Fin 8) (f : BitVec 2048) (s : State), s.lstate p = 4 → frameOk f.toNat = true → f.toNat / 2 ^ 28 % 16 ≠ 0 → ((f.toNat / 2 ^ 12 % 256) = ((s.tsp p).rxLast.elim 0 (fun l => (l + 1) % 256))) → 
      ∃ t, exec (.inboundFrame p f false) s = .next t ∧ (t.tsp p).rxLast = some (f.toNat / 2 ^ 12 % 256) ∧ t.get (TSP_STAT_RXSEQ p) = (f.toNat / 2 ^ 12 % 256) ∧ t.get (TSP_SEQGAP_COUNT p) = s.get (TSP_SEQGAP_COUNT p)) ∧
  (∀ (p : Fin 8) (f : BitVec 2048) (s : State), s.lstate p = 4 → frameOk f.toNat = true → f.toNat / 2 ^ 28 % 16 ≠ 0 → ((f.toNat / 2 ^ 12 % 256) ≠ ((s.tsp p).rxLast.elim 0 (fun l => (l + 1) % 256))) → 
      ∃ t, exec (.inboundFrame p f false) s = .next t ∧ (t.tsp p).rxLast = some (f.toNat / 2 ^ 12 % 256) ∧ t.get (TSP_STAT_RXSEQ p) = (f.toNat / 2 ^ 12 % 256) ∧ t.get (TSP_SEQGAP_COUNT p) = min (s.get (TSP_SEQGAP_COUNT p) + (((f.toNat / 2 ^ 12 % 256) + 256 - ((s.tsp p).rxLast.elim 0 (fun l => (l + 1) % 256))) % 256)) (2 ^ (TSP_SEQGAP_COUNT p).len - 1) ∧ t.bit (TSP_FLAGS_SEQGAP p) = true ∧ ((s.tsp p).results.length < 4096 → (t.tsp p).results.take ((s.tsp p).results.length + 1) = (s.tsp p).results ++ [frameLost ((s.tsp p).rxLast.elim 0 (fun l => (l + 1) % 256)) (f.toNat / 2 ^ 12 % 256) (((f.toNat / 2 ^ 12 % 256) + 256 - ((s.tsp p).rxLast.elim 0 (fun l => (l + 1) % 256))) % 256)])) ∧
  (∀ (p : Fin 8) (f : BitVec 2048) (s : State), s.lstate p = 4 → frameOk f.toNat = true → (f.toNat / 2 ^ 28 % 16 = 2 ∨ f.toNat / 2 ^ 28 % 16 = 3) → ((f.toNat / 2 ^ 12 % 256) = ((s.tsp p).rxLast.elim 0 (fun l => (l + 1) % 256))) → (((s.tsp p).inbox ++ ((List.range (min 15 (f.toNat % 128))).map (fun i => if f.toNat / 2 ^ 28 % 16 = 2 then TspItem.cmd (frameItem f.toNat i) else .ctrl (frameItem f.toNat i)))).head?.all TspItem.hasRow = true) → 
      ∃ t, exec (.inboundFrame p f false) s = .next t ∧ (t.tsp p).inbox = (s.tsp p).inbox ++ ((List.range (min 15 (f.toNat % 128))).map (fun i => if f.toNat / 2 ^ 28 % 16 = 2 then TspItem.cmd (frameItem f.toNat i) else .ctrl (frameItem f.toNat i))) ∧ t = { s with regs := t.regs, tsps := t.tsps } ∧ SameTsps [p.val] s t ∧ SameWords [TSP_STAT p] s t) ∧
  (∀ (p : Fin 8) (f : BitVec 2048) (s : State), s.lstate p = 4 → frameOk f.toNat = true → f.toNat / 2 ^ 28 % 16 = 2 → s.hello p = true → (s.tsp p).inbox = [] → f.toNat % 128 = 1 → knownOp (cmdOp (frameItem f.toNat 0)) = false → ((f.toNat / 2 ^ 12 % 256) = ((s.tsp p).rxLast.elim 0 (fun l => (l + 1) % 256))) → 
      ∃ t, exec (.inboundFrame p f false) s = .next t ∧ t.get (TSP_BADCMD_COUNT p) = min (s.get (TSP_BADCMD_COUNT p) + 1) (2 ^ (TSP_BADCMD_COUNT p).len - 1) ∧ t.bit (TSP_FLAGS_BADCMD p) = true ∧ (t.tsp p).inbox = [] ∧ ((s.tsp p).results.length < 4096 → let v := frameItem f.toNat 0; (t.tsp p).results = (s.tsp p).results ++ [resultRecord 0x01 (cmdGroup v) false (cmdTag v) (s.get (GRP_EPOCH_EPOCH (cmdGroup v))) Code.BAD_OPCODE (completionBody 0 (s.members (cmdGroup v)).length 0 0)])) ∧
  (∀ (p : Fin 8) (f : BitVec 2048) (s : State), s.lstate p = 4 → frameOk f.toNat = true → f.toNat / 2 ^ 28 % 16 = 1 → (s.ownsGroup p (f.toNat / 2 ^ 20 % 64) = true ∨ s.claimWaits p (f.toNat / 2 ^ 20 % 64) = false) → 
      ∃ t, exec (.inboundFrame p f false) s = .next t ∧ (t.tsp p).inbox = (s.tsp p).inbox ++ [.select f.toNat (s.tbOf (s.leadBank (f.toNat / 2 ^ 20 % 64)))] ∧ SameTsps [p.val] s t) ∧
  (∀ (p : Fin 8) (f : BitVec 2048) (s : State), s.lstate p = 4 → frameOk f.toNat = true → f.toNat / 2 ^ 28 % 16 = 1 → s.ownsGroup p (f.toNat / 2 ^ 20 % 64) = false → s.claimWaits p (f.toNat / 2 ^ 20 % 64) = true → 
      ∃ t, exec (.inboundFrame p f false) s = .next t ∧ t.get (TSP_FOREIGN_COUNT p) = min (s.get (TSP_FOREIGN_COUNT p) + 1) (2 ^ (TSP_FOREIGN_COUNT p).len - 1) ∧ t.bit (TSP_FLAGS_FOREIGN p) = true ∧ (t.tsp p).inbox = (s.tsp p).inbox ∧ SameTsps [p.val] s t) ∧
  (∀ (p : Fin 8) (f : BitVec 2048) (s : State), s.lstate p = 4 → frameOk f.toNat = true → 3 < f.toNat / 2 ^ 28 % 16 → ((f.toNat / 2 ^ 12 % 256) = ((s.tsp p).rxLast.elim 0 (fun l => (l + 1) % 256))) → 
      ∃ t, exec (.inboundFrame p f false) s = .next t ∧ t.get (TSP_BADCMD_COUNT p) = min (s.get (TSP_BADCMD_COUNT p) + 1) (2 ^ (TSP_BADCMD_COUNT p).len - 1) ∧ t.bit (TSP_FLAGS_BADCMD p) = true ∧ (t.tsp p).inbox = (s.tsp p).inbox ∧ SameTsps [p.val] s t ∧ SameWords [TSP_STAT p, TSP_BADCMD p, TSP_FLAGS p] s t) ∧
  (∀ (p : Fin 8) (f stamp : Nat) (rest : List TspItem) (s : State), (s.tsp p).inbox = .select f stamp :: rest → (s.hello p = false ∨ s.ownsGroup p (f / 2 ^ 20 % 64) = false) → 
      ∃ t, exec (.selectFrame p) s = .next t ∧ t.get (TSP_FOREIGN_COUNT p) = min (s.get (TSP_FOREIGN_COUNT p) + 1) (2 ^ (TSP_FOREIGN_COUNT p).len - 1) ∧ t.bit (TSP_FLAGS_FOREIGN p) = true ∧ (rest.head?.all TspItem.hasRow = true → (t.tsp p).inbox = rest ∧ SameTsps [p.val] s t ∧ t = { s with regs := t.regs, tsps := t.tsps, msixPend := t.msixPend, out := t.out } ∧ SameWords [TSP_FOREIGN p, TSP_FLAGS p] s t)) ∧
  (∀ (p : Fin 8) (f stamp : Nat) (rest : List TspItem) (s : State), (s.tsp p).inbox = .select f stamp :: rest → s.hello p = true → s.ownsGroup p (f / 2 ^ 20 % 64) = true → s.split (f / 2 ^ 20 % 64) = true → 
      ∃ t, exec (.selectFrame p) s = .next t ∧ t.get (GRP_SELDISC_COUNT (f / 2 ^ 20 % 64)) = min (s.get (GRP_SELDISC_COUNT (f / 2 ^ 20 % 64)) + (selectEntries f).length) (2 ^ (GRP_SELDISC_COUNT (f / 2 ^ 20 % 64)).len - 1) ∧ (t.group (f / 2 ^ 20 % 64)) = s.group (f / 2 ^ 20 % 64) ∧ (rest.head?.all TspItem.hasRow = true → (t.tsp p).inbox = rest ∧ t = { s with groups := t.groups, tsps := t.tsps, regs := t.regs } ∧ SameGroups [(f / 2 ^ 20 % 64)] s t ∧ SameTsps [p.val] s t ∧ SameWords [GRP_SELDISC (f / 2 ^ 20 % 64)] s t)) ∧
  (∀ (p : Fin 8) (f stamp slot run : Nat) (rest : List TspItem) (s : State), (s.tsp p).inbox = .select f stamp :: rest → s.hello p = true → s.ownsGroup p (f / 2 ^ 20 % 64) = true → s.split (f / 2 ^ 20 % 64) = false → selectEntries f = [(slot, run)] → (s.group (f / 2 ^ 20 % 64)).next ≤ (f / 2 ^ 32 % 2 ^ 48) → 0 < run → s.selFill (f / 2 ^ 20 % 64) < 4096 → 
      ∃ t, exec (.selectFrame p) s = .next t ∧ (t.group (f / 2 ^ 20 % 64)).buf = (s.group (f / 2 ^ 20 % 64)).buf ++ [⟨slot, (f / 2 ^ 32 % 2 ^ 48), (f / 2 ^ 32 % 2 ^ 48) + run - 1, stamp⟩] ∧ (t.group (f / 2 ^ 20 % 64)).next = (f / 2 ^ 32 % 2 ^ 48) + run ∧ t.get (GRP_GAPCNT_COUNT (f / 2 ^ 20 % 64)) = min (s.get (GRP_GAPCNT_COUNT (f / 2 ^ 20 % 64)) + (if (s.group (f / 2 ^ 20 % 64)).next = (f / 2 ^ 32 % 2 ^ 48) then 0 else 1)) (2 ^ (GRP_GAPCNT_COUNT (f / 2 ^ 20 % 64)).len - 1) ∧
      t.get (GRP_LATECNT_COUNT (f / 2 ^ 20 % 64)) = min (s.get (GRP_LATECNT_COUNT (f / 2 ^ 20 % 64)) + (min ((f / 2 ^ 32 % 2 ^ 48) + run) (((s.members (f / 2 ^ 20 % 64)).map (fun n => s.nextRead n)).foldl max 0) - (f / 2 ^ 32 % 2 ^ 48))) (2 ^ (GRP_LATECNT_COUNT (f / 2 ^ 20 % 64)).len - 1) ∧ (rest.head?.all TspItem.hasRow = true → (t.tsp p).inbox = rest ∧ t = { s with groups := t.groups, tsps := t.tsps, regs := t.regs } ∧ SameGroups [(f / 2 ^ 20 % 64)] s t ∧ SameTsps [p.val] s t ∧ SameWords [GRP_GAPCNT (f / 2 ^ 20 % 64), GRP_LATECNT (f / 2 ^ 20 % 64)] s t)) ∧
  (∀ (p : Fin 8) (f stamp slot run : Nat) (rest : List TspItem) (s : State), (s.tsp p).inbox = .select f stamp :: rest → s.hello p = true → s.ownsGroup p (f / 2 ^ 20 % 64) = true → s.split (f / 2 ^ 20 % 64) = false → selectEntries f = [(slot, run)] → (f / 2 ^ 32 % 2 ^ 48) + run ≤ (s.group (f / 2 ^ 20 % 64)).next → 
      ∃ t, exec (.selectFrame p) s = .next t ∧ (t.group (f / 2 ^ 20 % 64)).buf = (s.group (f / 2 ^ 20 % 64)).buf ∧ (t.group (f / 2 ^ 20 % 64)).next = (s.group (f / 2 ^ 20 % 64)).next ∧ t.get (GRP_OVLCNT_COUNT (f / 2 ^ 20 % 64)) = min (s.get (GRP_OVLCNT_COUNT (f / 2 ^ 20 % 64)) + run) (2 ^ (GRP_OVLCNT_COUNT (f / 2 ^ 20 % 64)).len - 1) ∧ (rest.head?.all TspItem.hasRow = true → (t.tsp p).inbox = rest ∧ t = { s with groups := t.groups, tsps := t.tsps, regs := t.regs } ∧ SameGroups [(f / 2 ^ 20 % 64)] s t ∧ SameTsps [p.val] s t ∧ SameWords [GRP_OVLCNT (f / 2 ^ 20 % 64)] s t)) ∧
  (∀ (p : Fin 8) (f stamp slot run : Nat) (rest : List TspItem) (s : State), (s.tsp p).inbox = .select f stamp :: rest → s.hello p = true → s.ownsGroup p (f / 2 ^ 20 % 64) = true → s.split (f / 2 ^ 20 % 64) = false → selectEntries f = [(slot, run)] → (f / 2 ^ 32 % 2 ^ 48) < (s.group (f / 2 ^ 20 % 64)).next → (s.group (f / 2 ^ 20 % 64)).next < (f / 2 ^ 32 % 2 ^ 48) + run → s.selFill (f / 2 ^ 20 % 64) < 4096 → 
      ∃ t, exec (.selectFrame p) s = .next t ∧ (t.group (f / 2 ^ 20 % 64)).buf = (s.group (f / 2 ^ 20 % 64)).buf ++ [⟨slot, (s.group (f / 2 ^ 20 % 64)).next, (f / 2 ^ 32 % 2 ^ 48) + run - 1, stamp⟩] ∧ (t.group (f / 2 ^ 20 % 64)).next = (f / 2 ^ 32 % 2 ^ 48) + run ∧ t.get (GRP_OVLCNT_COUNT (f / 2 ^ 20 % 64)) = min (s.get (GRP_OVLCNT_COUNT (f / 2 ^ 20 % 64)) + ((s.group (f / 2 ^ 20 % 64)).next - (f / 2 ^ 32 % 2 ^ 48))) (2 ^ (GRP_OVLCNT_COUNT (f / 2 ^ 20 % 64)).len - 1) ∧ (rest.head?.all TspItem.hasRow = true → (t.tsp p).inbox = rest ∧ t = { s with groups := t.groups, tsps := t.tsps, regs := t.regs } ∧ SameGroups [(f / 2 ^ 20 % 64)] s t ∧ SameTsps [p.val] s t ∧ SameWords [GRP_OVLCNT (f / 2 ^ 20 % 64), GRP_LATECNT (f / 2 ^ 20 % 64)] s t)) ∧
  (∀ (p : Fin 8) (f stamp slot run : Nat) (rest : List TspItem) (s : State), (s.tsp p).inbox = .select f stamp :: rest → s.hello p = true → s.ownsGroup p (f / 2 ^ 20 % 64) = true → s.split (f / 2 ^ 20 % 64) = false → selectEntries f = [(slot, run)] → (s.group (f / 2 ^ 20 % 64)).next = (f / 2 ^ 32 % 2 ^ 48) → 0 < run → 4096 ≤ s.selFill (f / 2 ^ 20 % 64) → 
      ∃ t, exec (.selectFrame p) s = .next t ∧ (t.group (f / 2 ^ 20 % 64)).buf = (s.group (f / 2 ^ 20 % 64)).buf ∧ (t.group (f / 2 ^ 20 % 64)).next = (f / 2 ^ 32 % 2 ^ 48) ∧ t.get (GRP_SELOVF_COUNT (f / 2 ^ 20 % 64)) = min (s.get (GRP_SELOVF_COUNT (f / 2 ^ 20 % 64)) + 1) (2 ^ (GRP_SELOVF_COUNT (f / 2 ^ 20 % 64)).len - 1) ∧ (rest.head?.all TspItem.hasRow = true → (t.tsp p).inbox = rest ∧ t = { s with groups := t.groups, tsps := t.tsps, regs := t.regs } ∧ SameGroups [(f / 2 ^ 20 % 64)] s t ∧ SameTsps [p.val] s t ∧ SameWords [GRP_SELOVF (f / 2 ^ 20 % 64)] s t)) ∧
  (∀ (p : Fin 8) (s : State), s.lstate p = 4 → (s.tsp p).replies ≠ [] → (s.tsp p).sinceSkp + 1 < 23 → 
      ∃ t, exec (.outboundFrame p) s = .next t ∧ t.out = .tspFrame p (frameBytes 3 (s.tsp p).txNext ((s.tsp p).replies.take 15)) :: s.out ∧ (t.tsp p).replies = (s.tsp p).replies.drop 15 ∧ (t.tsp p).txNext = ((s.tsp p).txNext + 1) % 256 ∧ (t.tsp p).results = (s.tsp p).results ∧ (t.tsp p).txAny = true ∧
      t = { s with tsps := t.tsps, out := t.out, free := t.free } ∧ SameTsps [p.val] s t) ∧
  (∀ (p : Fin 8) (s : State), s.lstate p = 4 → (s.tsp p).replies = [] → s.statusDue p = false → (s.tsp p).results ≠ [] → (s.tsp p).sinceSkp + 1 < 23 → 
      ∃ t, exec (.outboundFrame p) s = .next t ∧ t.out = .tspFrame p (frameBytes 4 (s.tsp p).txNext ((s.tsp p).results.take 15)) :: s.out ∧ (t.tsp p).results = (s.tsp p).results.drop 15 ∧ (t.tsp p).txNext = ((s.tsp p).txNext + 1) % 256 ∧
      t = { s with tsps := t.tsps, out := t.out, free := t.free } ∧ SameTsps [p.val] s t) ∧
  (∀ (p : Fin 8) (s : State), s.lstate p = 4 → (s.tsp p).replies = [] → s.statusDue p = false → (s.tsp p).results = [] → (s.tsp p).txAny = true → 22 ≤ (s.tsp p).sinceSkp → 
      ∃ t, exec (.outboundFrame p) s = .next t ∧ t.out = .tspSkp p :: .tspFrame p (frameBytes 0 (((s.tsp p).txNext + 255) % 256) []) :: s.out ∧ (t.tsp p).txNext = (s.tsp p).txNext ∧ (t.tsp p).sinceSkp = 0 ∧
      t = { s with tsps := t.tsps, out := t.out, free := t.free } ∧ SameTsps [p.val] s t)

/-- A dispatched NOP finishes OK. DEV_INFO finishes with firmware version, SVN, board ID, lifecycle and debug state as
RESULT. An inline CTX_WRITE of an existing channel stores its 32 bytes as the record with fresh ECC, or waits in
order behind what its hub or a wipe still holds; a range outside the store or a bad buffer is BAD_PARAM; a store
half not ON is POWER_OFF; one whose buffer has not been read whole waits. CTX_READ of clean records writes them to
the buffer. A command that transfers a buffer waits while the device may not master the bus. GRP_MEMBERS adds a
channel to a stopped group or removes it and returns the number of members; a running group refuses; bad parameters
change nothing. The model's choices here, which are no rule of the spec, by their log entries: what becomes of a
short buffer (85), the order of the checks of the store (86, 107), transfers without Bus Master Enable (120). -/
def Obligations.MailboxInformationAndContexts : Prop :=
  (∀ (f : Fin 64) (c : Nat) (a b : List Cmd) (k : Cmd) (s : State), Runs s f c 0x0000 a b k → 
      ∃ t, exec (.nop f c) s = .next t ∧ CmdNow s t f a b (k.done Code.OK false false 0 0) ∧ t = { s with flows := t.flows }) ∧
  (∀ (f : Fin 64) (c : Nat) (a b : List Cmd) (k : Cmd) (s : State), Runs s f c 0x0001 a b k → 
      ∃ t, exec (.devInfo f c) s = .next t ∧ CmdNow s t f a b (k.done Code.OK false false 0 (s.get SEC_FWVER_VERSION + s.get SEC_SVN_IMAGE * 2 ^ 32 + s.get PRL_BDID_ID * 2 ^ 40 + s.get SEC_LCSTATE_LC * 2 ^ 44 + s.get SEC_LCSTATE_DBG * 2 ^ 48)) ∧ t = { s with flows := t.flows }) ∧
  (∀ (f : Fin 64) (c : Nat) (a b : List Cmd) (k : Cmd) (s : State) (buf : List Byte), Runs s f c 0x0100 a b k → ctxInline k.entry = true → ctxOk k.entry = true → s.domOn (halfOf ((ent k.entry 20 2) / 64)) = true → s.bit (BNK_CUESTAT_WIPING ((ent k.entry 20 2) / 64)) = false → ((s.bank ((ent k.entry 20 2) / 64)).cueq.any (fun i => s.ordersStore i) = false) → 
      ∃ t, exec (.ctxWrite f c buf) s = .next t ∧ CmdNow s t f a b (k.done Code.OK false false 0 1) ∧ tabGet 0 t.store (recKey (ent k.entry 20 2) (ent k.entry 22 2)) = BitVec.ofNat 256 (ent k.entry 32 32) ∧ tabGet 0 t.storeErr (recKey (ent k.entry 20 2) (ent k.entry 22 2)) = 0 ∧
      SameRecords [recKey (ent k.entry 20 2) (ent k.entry 22 2)] s t ∧ t = { s with flows := t.flows, store := t.store, storeErr := t.storeErr }) ∧
  (∀ (f : Fin 64) (c : Nat) (a b : List Cmd) (k : Cmd) (s : State) (buf : List Byte), Runs s f c 0x0100 a b k → ctxInline k.entry = true → ctxOk k.entry = false → 
      ∃ t, exec (.ctxWrite f c buf) s = .next t ∧ CmdNow s t f a b (k.done Code.BAD_PARAM false false 0 0) ∧ t = { s with flows := t.flows }) ∧
  (∀ (f : Fin 64) (c : Nat) (a b : List Cmd) (k : Cmd) (s : State) (buf : List Byte), Runs s f c 0x0100 a b k → ctxInline k.entry = false → ctxOk k.entry = true → bufOk k.entry (32 * (ent k.entry 24 2)) = true → buf.length = 32 * (ent k.entry 24 2) → s.dmaOn = true → s.domOn (halfOf ((ent k.entry 20 2) / 64)) = false → 
      ∃ t, exec (.ctxWrite f c buf) s = .next t ∧ CmdNow s t f a b (k.done Code.POWER_OFF false false 0 0) ∧ t = { s with flows := t.flows }) ∧
  (∀ (f : Fin 64) (c : Nat) (a b : List Cmd) (k : Cmd) (s : State) (buf : List Byte), Runs s f c 0x0100 a b k → ctxInline k.entry = true → ctxOk k.entry = true → s.domOn (halfOf ((ent k.entry 20 2) / 64)) = true → (s.bit (BNK_CUESTAT_WIPING ((ent k.entry 20 2) / 64)) = true ∨ (s.bank ((ent k.entry 20 2) / 64)).cueq.any (fun i => s.ordersStore i) = true) → 
      ∃ t, exec (.ctxWrite f c buf) s = .next t ∧ (t.bank ((ent k.entry 20 2) / 64)).cueq = (s.bank ((ent k.entry 20 2) / 64)).cueq ++ [.access (.mbxWrite f c (ent k.entry 20 2) (ent k.entry 22 2) [BitVec.ofNat 256 (ent k.entry 32 32)])] ∧ CmdNow s t f a b { k with st := .started } ∧ t = { s with flows := t.flows, banks := t.banks } ∧ SameBanks [(ent k.entry 20 2) / 64] s t) ∧
  (∀ (f : Fin 64) (c : Nat) (a b : List Cmd) (k : Cmd) (s : State) (buf : List Byte), Runs s f c 0x0100 a b k → ctxInline k.entry = false → (ctxOk k.entry = false ∨ bufOk k.entry (32 * (ent k.entry 24 2)) = false) → s.dmaOn = true → 
      ∃ t, exec (.ctxWrite f c buf) s = .next t ∧ CmdNow s t f a b (k.done Code.BAD_PARAM false false 0 0) ∧ t = { s with flows := t.flows }) ∧
  (∀ (f : Fin 64) (c : Nat) (a b : List Cmd) (k : Cmd) (s : State) (buf : List Byte), Runs s f c 0x0100 a b k → ctxInline k.entry = false → ctxOk k.entry = true → bufOk k.entry (32 * (ent k.entry 24 2)) = true → buf.length < 32 * (ent k.entry 24 2) → 
      exec (.ctxWrite f c buf) s = .next s) ∧
  (∀ (f : Fin 64) (c : Nat) (a b : List Cmd) (k : Cmd) (s : State), Runs s f c 0x0101 a b k → ctxOk k.entry = true → bufOk k.entry (32 * (ent k.entry 24 2)) = true → s.dmaOn = true → s.domOn (halfOf ((ent k.entry 20 2) / 64)) = true → s.bit (BNK_CUESTAT_WIPING ((ent k.entry 20 2) / 64)) = false → ((s.bank ((ent k.entry 20 2) / 64)).cueq.any (fun i => s.ordersStore i) = false) → s.storeErr = [] → 
      ∃ t, exec (.ctxRead f c) s = .next t ∧ CmdNow s t f a b (k.done Code.OK false true 0 (ent k.entry 24 2)) ∧ t.out = .dma (entAddr k.entry) ((List.range (ent k.entry 24 2)).flatMap (fun i => leBytes 32 (tabGet 0 s.store (recKey (ent k.entry 20 2) ((ent k.entry 22 2) + i))).toNat)) :: s.out ∧ t = { s with flows := t.flows, out := t.out }) ∧
  (∀ (f : Fin 64) (c : Nat) (a b : List Cmd) (k : Cmd) (s : State), Runs s f c 0x0101 a b k → s.dmaOn = true → (ctxOk k.entry = false ∨ bufOk k.entry (32 * (ent k.entry 24 2)) = false ∨ s.domOn (halfOf ((ent k.entry 20 2) / 64)) = false) → 
      ∃ t, exec (.ctxRead f c) s = .next t ∧ CmdNow s t f a b (k.done (if ctxOk k.entry = false ∨ bufOk k.entry (32 * (ent k.entry 24 2)) = false then Code.BAD_PARAM else Code.POWER_OFF) false false 0 0) ∧ t = { s with flows := t.flows }) ∧
  (∀ (f : Fin 64) (c : Nat) (a b : List Cmd) (k : Cmd) (s : State), Runs s f c (entOp k.entry) a b k → s.dmaOn = false → 
      ∀ q ∈ ([(Instr.ctxRead f c, 0x0101), (.takeRead f c, 0x0202), (.intvRead f c, 0x0210), (.regrRead f c, 0x0211), (.regrSums f c, 0x0212)] : List (Instr × Nat)), entOp k.entry = q.2 → exec q.1 s = .next s) ∧
  (∀ (f : Fin 64) (c : Nat) (a b : List Cmd) (k : Cmd) (s : State), Runs s f c 0x0102 a b k → ent k.entry 20 2 < 64 → ent k.entry 22 1 = 0 → ent k.entry 26 2 = 1 → ent k.entry 24 2 < 512 → s.grpWriteOk (ent k.entry 24 2) (BitVec.ofNat 32 (128 + ent k.entry 20 2)) = true → 
      ∃ t, exec (.grpMembers f c) s = .next t ∧ (CmdNow s t f a b (k.done Code.OK false false 0 (t.members (ent k.entry 20 2)).length)) ∧ t.bit (CH_GRP_MEMBER (ent k.entry 24 2)) = true ∧ t.get (CH_GRP_GROUP (ent k.entry 24 2)) = ent k.entry 20 2 ∧ t = { s with regs := t.regs, flows := t.flows } ∧ SameWords [CH_GRP (ent k.entry 24 2)] s t) ∧
  (∀ (f : Fin 64) (c : Nat) (a b : List Cmd) (k : Cmd) (s : State), Runs s f c 0x0102 a b k → ent k.entry 20 2 < 64 → ent k.entry 22 1 = 1 → ent k.entry 26 2 = 1 → ent k.entry 24 2 < 512 → s.isMember (ent k.entry 20 2) (ent k.entry 24 2) = true → s.grpWriteOk (ent k.entry 24 2) 0 = true → 
      ∃ t, exec (.grpMembers f c) s = .next t ∧ CmdNow s t f a b (k.done Code.OK false false 0 (t.members (ent k.entry 20 2)).length) ∧ t.bit (CH_GRP_MEMBER (ent k.entry 24 2)) = false ∧ t = { s with regs := t.regs, flows := t.flows } ∧ SameWords [CH_GRP (ent k.entry 24 2)] s t) ∧
  (∀ (f : Fin 64) (c : Nat) (a b : List Cmd) (k : Cmd) (s : State), Runs s f c 0x0102 a b k → ent k.entry 20 2 < 64 → ent k.entry 22 1 = 1 → ent k.entry 26 2 = 1 → ent k.entry 24 2 < 512 → s.isMember (ent k.entry 20 2) (ent k.entry 24 2) = false → 
      ∃ t, exec (.grpMembers f c) s = .next t ∧ CmdNow s t f a b (k.done Code.OK false false 0 (s.members (ent k.entry 20 2)).length) ∧ t = { s with flows := t.flows }) ∧
  (∀ (f : Fin 64) (c : Nat) (a b : List Cmd) (k : Cmd) (s : State), Runs s f c 0x0102 a b k → ent k.entry 20 2 < 64 → ent k.entry 22 1 = 0 → ent k.entry 26 2 = 1 → ent k.entry 24 2 < 512 → s.grpWriteOk (ent k.entry 24 2) (BitVec.ofNat 32 (128 + ent k.entry 20 2)) = false → 
      ∃ t, exec (.grpMembers f c) s = .next t ∧ CmdNow s t f a b (k.done Code.GROUP_RUNNING false false 0 (s.members (ent k.entry 20 2)).length) ∧ t.bit (CH_CFLAGS_GRPREF (ent k.entry 24 2)) = true ∧ t = { s with regs := t.regs, flows := t.flows, msixPend := t.msixPend, out := t.out } ∧ SameWords [CH_CFLAGS (ent k.entry 24 2)] s t) ∧
  (∀ (f : Fin 64) (c : Nat) (a b : List Cmd) (k : Cmd) (s : State), Runs s f c 0x0102 a b k → (64 ≤ ent k.entry 20 2 ∨ 1 < ent k.entry 22 1 ∨ ent k.entry 26 2 = 0 ∨ 512 < ent k.entry 24 2 + ent k.entry 26 2) → 
      ∃ t, exec (.grpMembers f c) s = .next t ∧ CmdNow s t f a b (k.done Code.BAD_PARAM false false 0 0) ∧ t = { s with flows := t.flows })

/-- A dispatched timing command for a group with members that no port owns starts, and appends its command, with its
fields and the flow and the command as its source, to the commands of the group and to the queue of the hub of every
bank that holds a member. START with REL = 1 adds its lead to the count of the lead bank, modulo 2^48. A group
number above 63 or another parameter out of range finishes BAD_PARAM. For a group that a port owns every one of them
finishes PORT_OWNED, for a group with no members NO_MEMBERS, with the members in AUX and the epoch in RESULT, and
CUEREF and LASTREF show it. Nothing else changes. The model's choices here, which are no rule of the spec, by their
log entries: that a refusal at the source is no hub's (26), what a refused command carries (52). -/
def Obligations.MailboxTimingCommands : Prop :=
  (∀ (f : Fin 64) (c : Nat) (a b : List Cmd) (k : Cmd) (s : State), Runs s f c 0x0110 a b k → (ent k.entry 20 2) < 64 → s.bit (GRP_STAT_OWNED (ent k.entry 20 2)) = false → s.members (ent k.entry 20 2) ≠ [] → ent k.entry 22 1 < 32 → ent k.entry 24 2 < 2048 → 
      ∃ t, exec (.cue f c) s = .next t ∧ (t.group (ent k.entry 20 2)).ops = (s.group (ent k.entry 20 2)).ops ++ [{ id := (s.group (ent k.entry 20 2)).nextId, cmd := .cue (ent k.entry 22 1) (ent k.entry 24 2), src := .flow f c, waiting := s.memberBanks (ent k.entry 20 2), checked := false, refused := none, ces := 0, voids := 0, data := [], effect := 0, finished := false, epoch := 0, doneAt := 0 }] ∧
      (∀ i : Fin 8, (t.bank i).cueq = (s.bank i).cueq ++ (if i.val ∈ s.memberBanks (ent k.entry 20 2) then [.cmd (ent k.entry 20 2) (s.group (ent k.entry 20 2)).nextId] else [])) ∧
      CmdNow s t f a b { k with st := .started } ∧ t = { s with flows := t.flows, groups := t.groups, banks := t.banks } ∧ SameGroups [(ent k.entry 20 2)] s t) ∧
  (∀ (f : Fin 64) (c : Nat) (a b : List Cmd) (k : Cmd) (s : State), Runs s f c 0x0111 a b k → (ent k.entry 20 2) < 64 → s.bit (GRP_STAT_OWNED (ent k.entry 20 2)) = false → s.members (ent k.entry 20 2) ≠ [] → ent k.entry 22 1 < 32 → ent k.entry 24 2 < 2048 → 
      ∃ t, exec (.pcue f c) s = .next t ∧ (t.group (ent k.entry 20 2)).ops = (s.group (ent k.entry 20 2)).ops ++ [{ id := (s.group (ent k.entry 20 2)).nextId, cmd := .pcue (ent k.entry 22 1) (ent k.entry 24 2) (ent k.entry 26 2), src := .flow f c, waiting := s.memberBanks (ent k.entry 20 2), checked := false, refused := none, ces := 0, voids := 0, data := [], effect := 0, finished := false, epoch := 0, doneAt := 0 }] ∧
      (∀ i : Fin 8, (t.bank i).cueq = (s.bank i).cueq ++ (if i.val ∈ s.memberBanks (ent k.entry 20 2) then [.cmd (ent k.entry 20 2) (s.group (ent k.entry 20 2)).nextId] else [])) ∧
      CmdNow s t f a b { k with st := .started } ∧ t = { s with flows := t.flows, groups := t.groups, banks := t.banks } ∧ SameGroups [(ent k.entry 20 2)] s t) ∧
  (∀ (f : Fin 64) (c : Nat) (a b : List Cmd) (k : Cmd) (s : State), Runs s f c 0x0112 a b k → (ent k.entry 20 2) < 64 → s.bit (GRP_STAT_OWNED (ent k.entry 20 2)) = false → s.members (ent k.entry 20 2) ≠ [] → ent k.entry 28 1 < 2 → 
      ∃ t, exec (.commit f c) s = .next t ∧ (t.group (ent k.entry 20 2)).ops = (s.group (ent k.entry 20 2)).ops ++ [{ id := (s.group (ent k.entry 20 2)).nextId, cmd := .commit (ent k.entry 26 2) (if ent k.entry 28 1 = 1 then none else some (ent k.entry 32 6)), src := .flow f c, waiting := s.memberBanks (ent k.entry 20 2), checked := false, refused := none, ces := 0, voids := 0, data := [], effect := 0, finished := false, epoch := 0, doneAt := 0 }] ∧
      (∀ i : Fin 8, (t.bank i).cueq = (s.bank i).cueq ++ (if i.val ∈ s.memberBanks (ent k.entry 20 2) then [.cmd (ent k.entry 20 2) (s.group (ent k.entry 20 2)).nextId] else [])) ∧
      CmdNow s t f a b { k with st := .started } ∧ t = { s with flows := t.flows, groups := t.groups, banks := t.banks } ∧ SameGroups [(ent k.entry 20 2)] s t) ∧
  (∀ (f : Fin 64) (c : Nat) (a b : List Cmd) (k : Cmd) (s : State), Runs s f c 0x0113 a b k → (ent k.entry 20 2) < 64 → s.bit (GRP_STAT_OWNED (ent k.entry 20 2)) = false → s.members (ent k.entry 20 2) ≠ [] → 
      ∃ t, exec (.cancel f c) s = .next t ∧ (t.group (ent k.entry 20 2)).ops = (s.group (ent k.entry 20 2)).ops ++ [{ id := (s.group (ent k.entry 20 2)).nextId, cmd := .cancel (ent k.entry 26 2), src := .flow f c, waiting := s.memberBanks (ent k.entry 20 2), checked := false, refused := none, ces := 0, voids := 0, data := [], effect := 0, finished := false, epoch := 0, doneAt := 0 }] ∧
      (∀ i : Fin 8, (t.bank i).cueq = (s.bank i).cueq ++ (if i.val ∈ s.memberBanks (ent k.entry 20 2) then [.cmd (ent k.entry 20 2) (s.group (ent k.entry 20 2)).nextId] else [])) ∧
      CmdNow s t f a b { k with st := .started } ∧ t = { s with flows := t.flows, groups := t.groups, banks := t.banks } ∧ SameGroups [(ent k.entry 20 2)] s t) ∧
  (∀ (f : Fin 64) (c : Nat) (a b : List Cmd) (k : Cmd) (s : State), Runs s f c 0x0114 a b k → (ent k.entry 20 2) < 64 → s.bit (GRP_STAT_OWNED (ent k.entry 20 2)) = false → s.members (ent k.entry 20 2) ≠ [] → ent k.entry 28 1 = 0 → 
      ∃ t, exec (.start f c) s = .next t ∧ (t.group (ent k.entry 20 2)).ops = (s.group (ent k.entry 20 2)).ops ++ [{ id := (s.group (ent k.entry 20 2)).nextId, cmd := .start (ent k.entry 32 6), src := .flow f c, waiting := s.memberBanks (ent k.entry 20 2), checked := false, refused := none, ces := 0, voids := 0, data := [], effect := 0, finished := false, epoch := 0, doneAt := 0 }] ∧
      (∀ i : Fin 8, (t.bank i).cueq = (s.bank i).cueq ++ (if i.val ∈ s.memberBanks (ent k.entry 20 2) then [.cmd (ent k.entry 20 2) (s.group (ent k.entry 20 2)).nextId] else [])) ∧
      CmdNow s t f a b { k with st := .started } ∧ t = { s with flows := t.flows, groups := t.groups, banks := t.banks } ∧ SameGroups [(ent k.entry 20 2)] s t) ∧
  (∀ (f : Fin 64) (c : Nat) (a b : List Cmd) (k : Cmd) (s : State), Runs s f c 0x0114 a b k → (ent k.entry 20 2) < 64 → s.bit (GRP_STAT_OWNED (ent k.entry 20 2)) = false → s.members (ent k.entry 20 2) ≠ [] → ent k.entry 28 1 = 1 → 
      ∃ t, exec (.start f c) s = .next t ∧ (t.group (ent k.entry 20 2)).ops = (s.group (ent k.entry 20 2)).ops ++ [{ id := (s.group (ent k.entry 20 2)).nextId, cmd := .start ((s.tbOf (s.leadBank (ent k.entry 20 2)) + ent k.entry 32 6) % 2 ^ 48), src := .flow f c, waiting := s.memberBanks (ent k.entry 20 2), checked := false, refused := none, ces := 0, voids := 0, data := [], effect := 0, finished := false, epoch := 0, doneAt := 0 }] ∧
      (∀ i : Fin 8, (t.bank i).cueq = (s.bank i).cueq ++ (if i.val ∈ s.memberBanks (ent k.entry 20 2) then [.cmd (ent k.entry 20 2) (s.group (ent k.entry 20 2)).nextId] else [])) ∧
      CmdNow s t f a b { k with st := .started } ∧ t = { s with flows := t.flows, groups := t.groups, banks := t.banks } ∧ SameGroups [(ent k.entry 20 2)] s t) ∧
  (∀ (f : Fin 64) (c : Nat) (a b : List Cmd) (k : Cmd) (s : State), Runs s f c 0x0115 a b k → (ent k.entry 20 2) < 64 → s.bit (GRP_STAT_OWNED (ent k.entry 20 2)) = false → s.members (ent k.entry 20 2) ≠ [] → ent k.entry 28 1 < 2 → 
      ∃ t, exec (.stop f c) s = .next t ∧ (t.group (ent k.entry 20 2)).ops = (s.group (ent k.entry 20 2)).ops ++ [{ id := (s.group (ent k.entry 20 2)).nextId, cmd := .stop (if ent k.entry 28 1 = 1 then none else some (ent k.entry 32 6)), src := .flow f c, waiting := s.memberBanks (ent k.entry 20 2), checked := false, refused := none, ces := 0, voids := 0, data := [], effect := 0, finished := false, epoch := 0, doneAt := 0 }] ∧
      (∀ i : Fin 8, (t.bank i).cueq = (s.bank i).cueq ++ (if i.val ∈ s.memberBanks (ent k.entry 20 2) then [.cmd (ent k.entry 20 2) (s.group (ent k.entry 20 2)).nextId] else [])) ∧
      CmdNow s t f a b { k with st := .started } ∧ t = { s with flows := t.flows, groups := t.groups, banks := t.banks } ∧ SameGroups [(ent k.entry 20 2)] s t) ∧
  (∀ (f : Fin 64) (c : Nat) (a b : List Cmd) (k : Cmd) (s : State) (op : Nat), Runs s f c op a b k → 
      ∀ q ∈ ([(Instr.cue f c, 0x0110, cueOk k.entry), (.pcue f c, 0x0111, cueOk k.entry), (.commit f c, 0x0112, flagOk k.entry), (.cancel f c, 0x0113, true), (.start f c, 0x0114, flagOk k.entry), (.stop f c, 0x0115, flagOk k.entry)] : List (Instr × Nat × Bool)), op = q.2.1 → (64 ≤ (ent k.entry 20 2) ∨ q.2.2 = false) → ∃ t, exec q.1 s = .next t ∧ CmdNow s t f a b (k.done Code.BAD_PARAM false false 0 0) ∧ t = { s with flows := t.flows }) ∧
  (∀ (f : Fin 64) (c : Nat) (a b : List Cmd) (k : Cmd) (s : State) (op : Nat), Runs s f c op a b k → (ent k.entry 20 2) < 64 → s.bit (GRP_STAT_OWNED (ent k.entry 20 2)) = true → 
      ∀ q ∈ ([(Instr.cue f c, 0x0110, cueOk k.entry), (.pcue f c, 0x0111, cueOk k.entry), (.commit f c, 0x0112, flagOk k.entry), (.cancel f c, 0x0113, true), (.start f c, 0x0114, flagOk k.entry), (.stop f c, 0x0115, flagOk k.entry)] : List (Instr × Nat × Bool)), op = q.2.1 → q.2.2 = true → ∃ t, exec q.1 s = .next t ∧ CmdNow s t f a b (k.done Code.PORT_OWNED false false ((s.members (ent k.entry 20 2)).length % 1024 * 64) (s.get (GRP_EPOCH_EPOCH (ent k.entry 20 2)) * 2 ^ 48)) ∧ t.get (GRP_LASTREF_WHY (ent k.entry 20 2)) = 2 ∧ t.get (GRP_CUEREF_COUNT (ent k.entry 20 2)) = min (s.get (GRP_CUEREF_COUNT (ent k.entry 20 2)) + 1) (2 ^ (GRP_CUEREF_COUNT (ent k.entry 20 2)).len - 1) ∧ t = { s with regs := t.regs, flows := t.flows } ∧ SameWords [GRP_LASTREF (ent k.entry 20 2), GRP_CUEREF (ent k.entry 20 2)] s t) ∧
  (∀ (f : Fin 64) (c : Nat) (a b : List Cmd) (k : Cmd) (s : State) (op : Nat), Runs s f c op a b k → (ent k.entry 20 2) < 64 → s.bit (GRP_STAT_OWNED (ent k.entry 20 2)) = false → s.members (ent k.entry 20 2) = [] → 
      ∀ q ∈ ([(Instr.cue f c, 0x0110, cueOk k.entry), (.pcue f c, 0x0111, cueOk k.entry), (.commit f c, 0x0112, flagOk k.entry), (.cancel f c, 0x0113, true), (.start f c, 0x0114, flagOk k.entry), (.stop f c, 0x0115, flagOk k.entry)] : List (Instr × Nat × Bool)), op = q.2.1 → q.2.2 = true → ∃ t, exec q.1 s = .next t ∧ CmdNow s t f a b (k.done Code.NO_MEMBERS false false 0 (s.get (GRP_EPOCH_EPOCH (ent k.entry 20 2)) * 2 ^ 48)) ∧ t.get (GRP_LASTREF_WHY (ent k.entry 20 2)) = 3 ∧ t.get (GRP_CUEREF_COUNT (ent k.entry 20 2)) = min (s.get (GRP_CUEREF_COUNT (ent k.entry 20 2)) + 1) (2 ^ (GRP_CUEREF_COUNT (ent k.entry 20 2)).len - 1) ∧ t = { s with regs := t.regs, flows := t.flows } ∧ SameWords [GRP_LASTREF (ent k.entry 20 2), GRP_CUEREF (ent k.entry 20 2)] s t)

/-- HOP on an idle LOCKED root becomes its executing hop, otherwise the pending one; out of range it is BAD_PARAM. RAMP
on a root that another trigger starts finishes IGNORED, otherwise it starts the ramp, or waits for a single step
that runs (log 133), or finishes with the first failing check. TAKE_ARM waits while solves of the channels are
queued, is refused with the first failing check, or puts the take in PREROLL and finishes, with WAIT when the take
is done. TAKE_ABORT of a take that is not busy finishes with its code, of one in PREROLL or ARMED closes it
CANCELLED, of one in CAPTURE or CLOSING waits for DONE. TAKE_READ, INTV_READ, REGR_READ and REGR_SUMS write the
records, registers, FIFO words and sums to the buffer and finish with their number; INTV_READ empties the FIFO it
read. A transfer that fails ends the command with DMA_ERROR, the records a context write had read stored, and sets
DMAERR. The model's choices here, which are no rule of the spec, by their log entries: hops that have not started
(20), refusals of arms (42), RAMP and the RESULT of HOP (52), a ramp behind a single step (133), transfers without
Bus Master Enable (120). -/
def Obligations.MailboxRootsTakesAndResults : Prop :=
  (∀ (f : Fin 64) (c : Nat) (a b : List Cmd) (k : Cmd) (s : State), Runs s f c 0x0120 a b k → (ent k.entry 20 1) < 4 → ent k.entry 21 1 < 16 → ent k.entry 22 1 < 2 → s.isLocked (ent k.entry 20 1) = true → (s.root (ent k.entry 20 1)).hop = none → (s.root (ent k.entry 20 1)).pend = none → 
      ∃ t, exec (.hop f c) s = .next t ∧ (t.root (ent k.entry 20 1)).hop = some (⟨ent k.entry 21 1, ent k.entry 22 1 == 1, .flow f c, none⟩, .waiting) ∧ t.bit (SYN_STAT_HOPBUSY (ent k.entry 20 1)) = true ∧ CmdNow s t f a b { k with st := .started } ∧ t = { s with regs := t.regs, roots := t.roots, flows := t.flows } ∧ SameRoots [(ent k.entry 20 1)] s t ∧ SameWords [SYN_STAT (ent k.entry 20 1)] s t) ∧
  (∀ (f : Fin 64) (c : Nat) (a b : List Cmd) (k : Cmd) (s : State), Runs s f c 0x0120 a b k → (ent k.entry 20 1) < 4 → ent k.entry 21 1 < 16 → ent k.entry 22 1 < 2 → (s.isLocked (ent k.entry 20 1) = false ∨ (s.root (ent k.entry 20 1)).hop ≠ none) → (s.root (ent k.entry 20 1)).pend = none → 
      ∃ t, exec (.hop f c) s = .next t ∧ (t.root (ent k.entry 20 1)).hop = (s.root (ent k.entry 20 1)).hop ∧ (t.root (ent k.entry 20 1)).pend = some ⟨ent k.entry 21 1, ent k.entry 22 1 == 1, .flow f c, none⟩ ∧ CmdNow s t f a b { k with st := .started } ∧ t = { s with regs := t.regs, roots := t.roots, flows := t.flows } ∧ SameRoots [(ent k.entry 20 1)] s t ∧ SameWords [SYN_HOPSTAT (ent k.entry 20 1)] s t) ∧
  (∀ (f : Fin 64) (c : Nat) (a b : List Cmd) (k : Cmd) (s : State), Runs s f c 0x0120 a b k → (4 ≤ (ent k.entry 20 1) ∨ 16 ≤ ent k.entry 21 1 ∨ 2 ≤ ent k.entry 22 1) → 
      ∃ t, exec (.hop f c) s = .next t ∧ CmdNow s t f a b (k.done Code.BAD_PARAM false false 0 0) ∧ t = { s with flows := t.flows }) ∧
  (∀ (f : Fin 64) (c : Nat) (a b : List Cmd) (k : Cmd) (s : State), Runs s f c 0x0121 a b k → (ent k.entry 20 1) < 4 → (s.get (SYN_RCTRL_TRIG (ent k.entry 20 1)) = 1 ∨ s.get (SYN_RCTRL_TRIG (ent k.entry 20 1)) = 2) → 
      ∃ t, exec (.ramp f c) s = .next t ∧ CmdNow s t f a b (k.done Code.IGNORED false false 0 (s.get (SYN_RSTAT_LASTRES (ent k.entry 20 1)))) ∧ t = { s with flows := t.flows }) ∧
  (∀ (f : Fin 64) (c : Nat) (a b : List Cmd) (k : Cmd) (s : State), Runs s f c 0x0121 a b k → (ent k.entry 20 1) < 4 → (s.get (SYN_RCTRL_TRIG (ent k.entry 20 1)) = 0 ∨ s.get (SYN_RCTRL_TRIG (ent k.entry 20 1)) = 3) → s.bit (SEQ_STAT_SUSP (ent k.entry 20 1)) = false → s.rampWhy (ent k.entry 20 1) ≠ 0 → 
      ∃ t, exec (.ramp f c) s = .next t ∧ CmdNow s t f a b (k.done (rampCode (s.rampWhy (ent k.entry 20 1))) false false 0 (s.rampWhy (ent k.entry 20 1))) ∧ t.get (SYN_RSTAT_LASTRES (ent k.entry 20 1)) = s.rampWhy (ent k.entry 20 1) ∧ t.bit (SYN_RCTRL_ARM (ent k.entry 20 1)) = false ∧ t = { s with regs := t.regs, flows := t.flows } ∧ SameWords [SYN_RSTAT (ent k.entry 20 1), SYN_RCTRL (ent k.entry 20 1)] s t) ∧
  (∀ (f : Fin 64) (c : Nat) (a b : List Cmd) (k : Cmd) (s : State), Runs s f c 0x0121 a b k → (ent k.entry 20 1) < 4 → (s.get (SYN_RCTRL_TRIG (ent k.entry 20 1)) = 0 ∨ s.get (SYN_RCTRL_TRIG (ent k.entry 20 1)) = 3) → s.bit (SEQ_STAT_SUSP (ent k.entry 20 1)) = false → s.rampWhy (ent k.entry 20 1) = 0 → (s.root (ent k.entry 20 1)).rt = 0 → 
      ∃ t, exec (.ramp f c) s = .next t ∧ CmdNow s t f a b (k.done Code.OK false false 0 (t.get (SYN_RSTAT_LASTRES (ent k.entry 20 1)))) ∧ t.rootState (ent k.entry 20 1) = stRamp ∧ t.get (SYN_RSTAT_PASS (ent k.entry 20 1)) = 0 ∧ t.bit (SYN_RCTRL_ARM (ent k.entry 20 1)) = false ∧ (t.root (ent k.entry 20 1)).ramp.isSome = true ∧ SameRoots [(ent k.entry 20 1)] s t) ∧
  (∀ (f : Fin 64) (c : Nat) (a b : List Cmd) (k : Cmd) (s : State), Runs s f c 0x0121 a b k → (ent k.entry 20 1) < 4 → (s.get (SYN_RCTRL_TRIG (ent k.entry 20 1)) = 0 ∨ s.get (SYN_RCTRL_TRIG (ent k.entry 20 1)) = 3) → s.bit (SEQ_STAT_SUSP (ent k.entry 20 1)) = false → s.rampWhy (ent k.entry 20 1) = 0 → (s.root (ent k.entry 20 1)).rt ≠ 0 → 
      ∃ t, exec (.ramp f c) s = .next t ∧ CmdNow s t f a b (k.done Code.OK false false 0 (t.get (SYN_RSTAT_LASTRES (ent k.entry 20 1)))) ∧ t.rootState (ent k.entry 20 1) = s.rootState (ent k.entry 20 1) ∧ (t.root (ent k.entry 20 1)).rt = (s.root (ent k.entry 20 1)).rt ∧ (t.root (ent k.entry 20 1)).waitRamp = some (.start false) ∧ t.bit (SYN_RCTRL_ARM (ent k.entry 20 1)) = false ∧ SameRoots [(ent k.entry 20 1)] s t) ∧
  (∀ (f : Fin 64) (c : Nat) (a b : List Cmd) (k : Cmd) (s : State), Runs s f c 0x0121 a b k → 4 ≤ (ent k.entry 20 1) → 
      ∃ t, exec (.ramp f c) s = .next t ∧ CmdNow s t f a b (k.done Code.BAD_PARAM false false 0 0) ∧ t = { s with flows := t.flows }) ∧
  (∀ (f : Fin 64) (c : Nat) (a b : List Cmd) (k : Cmd) (s : State), Runs s f c 0x0200 a b k → ent k.entry 21 1 < 2 → (s.take (ent k.entry 20 1)).waitArm = none → s.takeBusy (ent k.entry 20 1) = false → s.solvesQueued (ent k.entry 20 1) = true → 
      ∃ t, exec (.takeArm f c) s = .next t ∧ (t.take (ent k.entry 20 1)).waitArm = some { src := .flow f c, group := none, wait := ent k.entry 21 1 == 1 } ∧ CmdNow s t f a b { k with st := .started } ∧ t = { s with takes := t.takes, flows := t.flows } ∧ SameTakes [(ent k.entry 20 1)] s t) ∧
  (∀ (f : Fin 64) (c : Nat) (a b : List Cmd) (k : Cmd) (s : State), Runs s f c 0x0200 a b k → ent k.entry 21 1 < 2 → (s.take (ent k.entry 20 1)).waitArm = none → (s.takeBusy (ent k.entry 20 1) = true ∨ s.solvesQueued (ent k.entry 20 1) = false) → s.armCheck (ent k.entry 20 1) { src := .flow f c, group := none, wait := ent k.entry 21 1 == 1 } ≠ Code.OK → 
      ∃ t, exec (.takeArm f c) s = .next t ∧ CmdNow s t f a b (k.done (s.armCheck (ent k.entry 20 1) { src := .flow f c, group := none, wait := ent k.entry 21 1 == 1 }) false false 0 0) ∧ t.get (TK_STAT_CODE (ent k.entry 20 1)) = s.armCheck (ent k.entry 20 1) { src := .flow f c, group := none, wait := ent k.entry 21 1 == 1 } ∧ t.take (ent k.entry 20 1) = s.take (ent k.entry 20 1) ∧ t = { s with regs := t.regs, flows := t.flows } ∧ SameWords [TK_STAT (ent k.entry 20 1)] s t) ∧
  (∀ (f : Fin 64) (c : Nat) (a b : List Cmd) (k : Cmd) (s : State), Runs s f c 0x0200 a b k → ent k.entry 21 1 < 2 → (s.take (ent k.entry 20 1)).waitArm = none → s.takeBusy (ent k.entry 20 1) = false → s.solvesQueued (ent k.entry 20 1) = false → s.armCheck (ent k.entry 20 1) { src := .flow f c, group := none, wait := ent k.entry 21 1 == 1 } = Code.OK → 
      ∃ t, exec (.takeArm f c) s = .next t ∧ t.takeState (ent k.entry 20 1) = 1 ∧ t.get (TK_STAT_CODE (ent k.entry 20 1)) = 0 ∧ (t.take (ent k.entry 20 1)).chans = s.joined (ent k.entry 20 1) ∧ (t.take (ent k.entry 20 1)).req = { src := .flow f c, group := none, wait := ent k.entry 21 1 == 1 } ∧ SameTakes [(ent k.entry 20 1)] s t ∧ (if ent k.entry 21 1 = 1 then CmdNow s t f a b { k with st := .started } else CmdNow s t f a b (k.done Code.OK false false 0 (s.tbOf ((s.joined (ent k.entry 20 1)).headD 0 / 64) % 2 ^ 48)))) ∧
  (∀ (f : Fin 64) (c : Nat) (a b : List Cmd) (k : Cmd) (s : State), Runs s f c 0x0200 a b k → 2 ≤ ent k.entry 21 1 → 
      ∃ t, exec (.takeArm f c) s = .next t ∧ CmdNow s t f a b (k.done Code.BAD_PARAM false false 0 0) ∧ t = { s with flows := t.flows }) ∧
  (∀ (f : Fin 64) (c : Nat) (a b : List Cmd) (k : Cmd) (s : State), Runs s f c 0x0201 a b k → s.takeBusy (ent k.entry 20 1) = false → 
      ∃ t, exec (.takeAbort f c) s = .next t ∧ CmdNow s t f a b (k.done Code.OK false false 0 (s.get (TK_STAT_CODE (ent k.entry 20 1)))) ∧ t = { s with flows := t.flows }) ∧
  (∀ (f : Fin 64) (c : Nat) (a b : List Cmd) (k : Cmd) (s : State), Runs s f c 0x0201 a b k → (s.takeState (ent k.entry 20 1) = 1 ∨ s.takeState (ent k.entry 20 1) = 2) → (s.take (ent k.entry 20 1)).req = ArmReq.init → (s.take (ent k.entry 20 1)).waiters = [] → (s.take (ent k.entry 20 1)).held = none → 
      ∃ t, exec (.takeAbort f c) s = .next t ∧ t.takeState (ent k.entry 20 1) = 5 ∧ t.get (TK_STAT_CODE (ent k.entry 20 1)) = Code.CANCELLED ∧ CmdNow s t f a b (k.done Code.OK false false 0 Code.CANCELLED)) ∧
  (∀ (f : Fin 64) (c : Nat) (a b : List Cmd) (k : Cmd) (s : State), Runs s f c 0x0201 a b k → s.takeState (ent k.entry 20 1) = 3 → 
      ∃ t, exec (.takeAbort f c) s = .next t ∧ t.takeState (ent k.entry 20 1) = 4 ∧ (t.take (ent k.entry 20 1)).waiters = (s.take (ent k.entry 20 1)).waiters ++ [(f.val, c)] ∧ CmdNow s t f a b { k with st := .started } ∧ SameTakes [(ent k.entry 20 1)] s t) ∧
  (∀ (f : Fin 64) (c : Nat) (a b : List Cmd) (k : Cmd) (s : State), Runs s f c 0x0201 a b k → s.takeState (ent k.entry 20 1) = 4 → 
      ∃ t, exec (.takeAbort f c) s = .next t ∧ (t.take (ent k.entry 20 1)).waiters = (s.take (ent k.entry 20 1)).waiters ++ [(f.val, c)] ∧ t.takeState (ent k.entry 20 1) = 4 ∧ CmdNow s t f a b { k with st := .started } ∧ t = { s with takes := t.takes, flows := t.flows } ∧ SameTakes [(ent k.entry 20 1)] s t) ∧
  (∀ (f : Fin 64) (c : Nat) (a b : List Cmd) (k : Cmd) (s : State), Runs s f c 0x0202 a b k → s.dmaOn = true → bufOk k.entry (16 * (s.take (ent k.entry 20 1)).recs.length) = true → 
      ∃ t, exec (.takeRead f c) s = .next t ∧ CmdNow s t f a b (k.done Code.OK false true 0 (s.take (ent k.entry 20 1)).recs.length) ∧ t.out = .dma (entAddr k.entry) ((s.take (ent k.entry 20 1)).recs.flatMap (fun v => leBytes 16 v)) :: s.out ∧ t = { s with flows := t.flows, out := t.out }) ∧
  (∀ (f : Fin 64) (c : Nat) (a b : List Cmd) (k : Cmd) (s : State), Runs s f c 0x0202 a b k → s.dmaOn = true → bufOk k.entry (16 * (s.take (ent k.entry 20 1)).recs.length) = false → 
      ∃ t, exec (.takeRead f c) s = .next t ∧ CmdNow s t f a b (k.done Code.BAD_PARAM false false 0 0) ∧ t = { s with flows := t.flows }) ∧
  (∀ (f : Fin 64) (c : Nat) (a b : List Cmd) (k : Cmd) (s : State), Runs s f c 0x0210 a b k → s.dmaOn = true → (64 ≤ (ent k.entry 20 1) ∨ 2 ≤ ent k.entry 21 1) → 
      ∃ t, exec (.intvRead f c) s = .next t ∧ CmdNow s t f a b (k.done Code.BAD_PARAM false false 0 0) ∧ t = { s with flows := t.flows }) ∧
  (∀ (f : Fin 64) (c : Nat) (a b : List Cmd) (k : Cmd) (s : State), Runs s f c 0x0210 a b k → s.dmaOn = true → (ent k.entry 20 1) < 64 → ent k.entry 21 1 = 0 → bufOk k.entry 112 = true → 
      ∃ t, exec (.intvRead f c) s = .next t ∧ CmdNow s t f a b (k.done Code.OK false true 0 0) ∧ t.out = .dma (entAddr k.entry) (s.regBytes (IV_CFG (ent k.entry 20 1)) 28) :: s.out ∧ t = { s with flows := t.flows, out := t.out }) ∧
  (∀ (f : Fin 64) (c : Nat) (a b : List Cmd) (k : Cmd) (s : State), Runs s f c 0x0210 a b k → s.dmaOn = true → (ent k.entry 20 1) < 64 → ent k.entry 21 1 = 1 → bufOk k.entry (112 + 8 * (s.iv (ent k.entry 20 1)).fifo.length) = true → 
      ∃ t, exec (.intvRead f c) s = .next t ∧ CmdNow s t f a b (k.done Code.OK false true 0 (s.iv (ent k.entry 20 1)).fifo.length) ∧ (t.iv (ent k.entry 20 1)).fifo = [] ∧ t.get (IV_FIFOSTAT_FILL (ent k.entry 20 1)) = 0 ∧ t.out = .dma (entAddr k.entry) (s.regBytes (IV_CFG (ent k.entry 20 1)) 28 ++ (s.iv (ent k.entry 20 1)).fifo.flatMap (fun w => leBytes 8 w)) :: s.out ∧ t = { s with regs := t.regs, ivs := t.ivs, flows := t.flows, out := t.out } ∧ SameIvs [(ent k.entry 20 1)] s t ∧ SameWords [IV_FIFOSTAT (ent k.entry 20 1)] s t) ∧
  (∀ (f : Fin 64) (c : Nat) (a b : List Cmd) (k : Cmd) (s : State), Runs s f c 0x0211 a b k → s.dmaOn = true → rangeChansOk k.entry = true → bufOk k.entry (64 * ent k.entry 22 2) = true → 
      ∃ t, exec (.regrRead f c) s = .next t ∧ CmdNow s t f a b (k.done Code.OK false true 0 (ent k.entry 22 2)) ∧ t.out = .dma (entAddr k.entry) (s.regBytes (RG_CFG (ent k.entry 20 2)) (16 * ent k.entry 22 2)) :: s.out ∧ t = { s with flows := t.flows, out := t.out }) ∧
  (∀ (f : Fin 64) (c : Nat) (a b : List Cmd) (k : Cmd) (s : State), Runs s f c 0x0212 a b k → s.dmaOn = true → rangeChansOk k.entry = true → ent k.entry 22 2 = 1 → bufOk k.entry 96 = true → 
      ∃ t, exec (.regrSums f c) s = .next t ∧ CmdNow s t f a b (k.done Code.OK false true 0 1) ∧ t.out = .dma (entAddr k.entry) ((s.regSelWrite (BitVec.ofNat 32 (ent k.entry 20 2))).regBytes (REG_ACC 0 0) 24) :: s.out ∧ t.get REG_SEL_CH = ent k.entry 20 2) ∧
  (∀ (f : Fin 64) (c : Nat) (a b : List Cmd) (k : Cmd) (s : State), Runs s f c (entOp k.entry) a b k → readsBuf k.entry = false → s.transfer? f c = some k → s.transfers k = true → 
      ∃ t, exec (.dmaWriteTimeout f c) s = .next t ∧ CmdNow s t f a b (k.done Code.DMA_ERROR false false 0 0) ∧ t.bit (FL_STAT_DMAERR f) = true) ∧
  (∀ (f : Fin 64) (c : Nat) (a b : List Cmd) (k : Cmd) (s : State) (got : List Byte), Runs s f c 0x0100 a b k → ctxInline k.entry = false → ctxOk k.entry = true → s.domOn (halfOf ((ent k.entry 20 2) / 64)) = true → s.bit (BNK_CUESTAT_WIPING ((ent k.entry 20 2) / 64)) = false → got.length = 32 → (ent k.entry 24 2) = 2 → 
      ∃ t, exec (.dmaErrorCompletion f c got) s = .next t ∧ CmdNow s t f a b (k.done Code.DMA_ERROR false false 0 1) ∧ t.bit (FL_STAT_DMAERR f) = true ∧ tabGet 0 t.store (recKey (ent k.entry 20 2) (ent k.entry 22 2)) = BitVec.ofNat 256 (ofLe (got.map (fun x => x.toNat))) ∧ SameRecords [recKey (ent k.entry 20 2) (ent k.entry 22 2)] s t) ∧
  (∀ (f : Fin 64) (c : Nat) (s : State) (got : List Byte), s.transfer? f c = none → 
      exec (.dmaErrorCompletion f c got) s = .next s ∧ exec (.dmaWriteTimeout f c) s = .next s) ∧
  (∀ (f : Fin 64) (c : Nat) (a b : List Cmd) (k : Cmd) (s : State) (got : List Byte), Runs s f c (entOp k.entry) a b k → readsBuf k.entry = true → s.transfer? f c = some k → s.transfers k = true → k.hold = none → entOp k.entry ≠ 0x0100 → 
      ∃ t, exec (.dmaErrorCompletion f c got) s = .next t ∧ CmdNow s t f a b (k.done Code.DMA_ERROR false false 0 0) ∧ t.bit (FL_STAT_DMAERR f) = true ∧ SameRecords [] s t) ∧
  (∀ (f : Fin 64) (c : Nat) (a b : List Cmd) (k : Cmd) (s : State) (got : List Byte), Runs s f c (entOp k.entry) a b k → s.transfer? f c = some k → s.transfers k = false → 
      exec (.dmaErrorCompletion f c got) s = .next s ∧ exec (.dmaWriteTimeout f c) s = .next s)

/-- IDENT shows the peer and its port, with WIRING set where the link joins other ports than it may. TOPO shows the
result of an enumeration and ends the commands that wait for it; a failed one leaves the map, and links that no such
board names are marked. ALIGNVOID clears ALIGNED with WHY 3. A write of TBADJ moves the timebase of a root whose
banks are idle, else sets ADJREF. A tracking root of a child asks its parent. PROBEDATA repeats a batch that met a
retry, up to 3 times; one that is short sets PROBEFAIL; a good one shows RTT and theta and ends the measurement or
goes on to the correction. LINK_CLAP schedules a clapper far enough ahead at a target, not one that is late. CLAPACK
notes an answer, the last one finishes the command. CLAPPER_FIRE at T of the next clapper of a root counts, shows T
and the root, and starts the takes that wait for it. CLAP_COMPLETION_TIMEOUT finishes the command CLAP_PARTIAL with
the devices that did not answer. The model's choices here, which are no rule of the spec, by their log entries:
retries of a batch (56), enumeration with faults and tracking that finds whole cycles (57), the clapper on an
unarmed root (59), what WIRING compares (139). -/
def Obligations.BoardAlignmentAndClapper : Prop :=
  (∀ (p : Fin 4) (src : Nat) (rest : List (Nat × LinkItem)) (s : State) (dev port uid glb : Nat), (s.pl p).inbox = (src, .ident dev port uid glb) :: rest → 
      ∃ t, exec (.ident p) s = .next t ∧ t.bit (PRL_STAT_IDENT p) = true ∧ t.get (PRL_STAT_PEERID p) = dev % 2 ^ ((PRL_STAT_PEERID p)).len ∧ t.get (PRL_STAT_PEERPORT p) = port % 2 ^ ((PRL_STAT_PEERPORT p)).len ∧ (wiringOk allBoards s.me p dev port = false → t.bit (PRL_FLAGS_WIRING p) = true) ∧ (t.pl p).inbox = rest ∧ SameWords [PRL_STAT p, PRL_FLAGS p] s t ∧ (wiringOk allBoards s.me p dev port = true → t.word (PRL_FLAGS p) = s.word (PRL_FLAGS p)) ∧ (s.board.broken = [] → t = { s with regs := t.regs, pls := t.pls, msixPend := t.msixPend, out := t.out } ∧ SamePls [p.val] s t)) ∧
  (∀ (p : Fin 5) (src : Nat) (rest : List (Nat × LinkItem)) (s : State) (topo ndev code : Nat) (links : List (Nat × Nat × Nat × Nat)), (s.pl p).inbox = (src, .topo topo ndev code links) :: rest → code ≠ Code.OK → 
      ∃ t, exec (.topo p) s = .next t ∧ t.get PRL_ENUM_STATE = 3 ∧ t.get PRL_ENUM_CODE = code % 2 ^ (PRL_ENUM_CODE).len ∧ t.get PRL_MAP_PRESENT = s.get PRL_MAP_PRESENT ∧ t.board.enums = [] ∧ (t.pl p).inbox = rest ∧ t = { s with regs := t.regs, pls := t.pls, board := t.board, flows := t.flows, msixPend := t.msixPend, out := t.out } ∧ SameWords [PRL_ENUM, PRL_FLAGS 0, PRL_FLAGS 1, PRL_FLAGS 2, PRL_FLAGS 3] s t ∧ (∀ j : Fin 4, code = Code.TOPO_BAD → s.bit (PRL_STAT_IDENT j) = true → wiringOk (boardsOf ndev) s.me j (s.get (PRL_STAT_PEERID j)) (s.get (PRL_STAT_PEERPORT j)) = false → t.bit (PRL_FLAGS_WIRING j) = true) ∧ (code ≠ Code.TOPO_BAD → SameWords [PRL_ENUM] s t)) ∧
  (∀ (p : Fin 5) (src : Nat) (rest : List (Nat × LinkItem)) (s : State) (topo ndev : Nat) (links : List (Nat × Nat × Nat × Nat)), (s.pl p).inbox = (src, .topo topo ndev Code.OK links) :: rest → 
      ∃ t, exec (.topo p) s = .next t ∧ t.get PRL_ENUM_STATE = 2 ∧ t.get PRL_ENUM_CODE = Code.OK ∧ t.get PRL_ENUM_NDEV = ndev % 2 ^ (PRL_ENUM_NDEV).len ∧ t.get PRL_ENUM_TOPO = topo % 2 ^ (PRL_ENUM_TOPO).len ∧ t.get PRL_MAP_PRESENT = (2 ^ ndev - 1) % 2 ^ PRL_MAP_PRESENT.len ∧ t.bit PRL_TREE_MASTER = (s.me == 0) ∧ t.board.enums = [] ∧ t.board.broken = [] ∧ (t.pl p).inbox = rest ∧ t = { s with regs := t.regs, pls := t.pls, board := t.board, flows := t.flows, msixPend := t.msixPend, out := t.out } ∧ SameWords [PRL_ENUM, PRL_MAP, PRL_TREE, PRL_FLAGS 0, PRL_FLAGS 1, PRL_FLAGS 2, PRL_FLAGS 3] s t ∧ (∀ j : Fin 4, s.bit (PRL_STAT_IDENT j) = true → wiringOk [(topo, ndev)] s.me j (s.get (PRL_STAT_PEERID j)) (s.get (PRL_STAT_PEERPORT j)) = false → t.bit (PRL_FLAGS_WIRING j) = true)) ∧
  (∀ (p : Fin 5) (src : Nat) (rest : List (Nat × LinkItem)) (s : State) (root : Nat), (s.pl p).inbox = (src, .alignvoid root) :: rest → root < 4 → 
      ∃ t, exec (.alignvoid p) s = .next t ∧ t.bit (PRL_ALIGN_ALIGNED root) = false ∧ t.get (PRL_ALIGN_WHY root) = 3 ∧ (t.root root).voids = (s.root root).voids + s.get (PRL_ALIGN_ALIGNED root) ∧ (t.pl p).inbox = rest ∧ SamePls [p.val] s t ∧ t = { s with regs := t.regs, pls := t.pls, roots := t.roots } ∧ SameRoots [root] s t ∧ SameWords [PRL_ALIGN root] s t) ∧
  (∀ (src : Source) (n : Fin 4) (w : Word) (s : State), s.rowServed src (PRL_TBADJ n) true = true → s.rootIdle n = true → 
      ∃ t, exec (.tbadjWrite src n w) s = .next t ∧ ((t.root n).tb : Int) = (if 0 ≤ ((s.root n).tb : Int) + signed 32 w.toNat then ((s.root n).tb : Int) + signed 32 w.toNat else (((s.root n).tb : Int) + signed 32 w.toNat) % 2 ^ 48) ∧ t = { s with roots := t.roots } ∧ SameRoots [n.val] s t) ∧
  (∀ (src : Source) (n : Fin 4) (w : Word) (s : State), s.rowServed src (PRL_TBADJ n) true = true → s.rootIdle n = false → 
      ∃ t, exec (.tbadjWrite src n w) s = .next t ∧ t.bit (PRL_ALIGN_ADJREF n) = true ∧ RegsOnly [PRL_ALIGN n] s t) ∧
  (∀ (n : Fin 4) (s : State), s.bit (PRL_ALIGN_TRACK n) = true → s.bit (PRL_ALIGN_ALIGNED n) = true → s.me ≠ 0 → s.plState (s.get PRL_TREE_PARENT) = 4 → 
      ∃ t, exec (.alignTracking n) s = .next t ∧ (t.pl (s.get PRL_TREE_PARENT)).unacked.map (fun u => u.2) ++ (t.pl (s.get PRL_TREE_PARENT)).wait = (s.pl (s.get PRL_TREE_PARENT)).unacked.map (fun u => u.2) ++ (s.pl (s.get PRL_TREE_PARENT)).wait ++ framesOf (s.get (PRL_STAT_PEERID (s.get PRL_TREE_PARENT))) s.me false (.message (.track n)) ∧
      t = { s with pls := t.pls, out := t.out } ∧ SamePls [s.get PRL_TREE_PARENT] s t) ∧
  (∀ (n : Fin 4) (s : State), (s.bit (PRL_ALIGN_TRACK n) = false ∨ s.bit (PRL_ALIGN_ALIGNED n) = false ∨ s.me = 0) → 
      exec (.alignTracking n) s = .next s) ∧
  (∀ (p : Fin 4) (src : Nat) (rest : List (Nat × LinkItem)) (s : State) (st : List (Nat × Nat)) (m : Meas), (s.pl p).inbox = (src, .probedata st) :: rest → (s.pl p).meas = some m → m.phase = 2 → (m.spoilt = true ∨ st.length ≠ m.n) → (m.spoilt = false ∨ 3 ≤ m.tries) → 
      ∃ t, exec (.probedata p) s = .next t ∧ (t.pl p).meas = none ∧ t.bit (PRL_FLAGS_PROBEFAIL p) = true ∧ t.bit (PRL_ALIGN_ALIGNING m.root) = false ∧ (t.pl p).inbox = rest ∧ SameWords [PRL_FLAGS p, PRL_ALIGN m.root] s t) ∧
  (∀ (p : Fin 4) (src : Nat) (rest : List (Nat × LinkItem)) (s : State) (st : List (Nat × Nat)) (m : Meas), (s.pl p).inbox = (src, .probedata st) :: rest → (s.pl p).meas = some m → m.phase = 2 → m.spoilt = true → m.tries < 3 → 
      ∃ t, exec (.probedata p) s = .next t ∧ (t.pl p).meas = some { m with tries := m.tries + 1, phase := 1, tx := [], rx := [], spoilt := false } ∧ (t.pl p).inbox = rest ∧ SameWords [PRL_CTRL p] s t) ∧
  (∀ (p : Fin 4) (src : Nat) (rest : List (Nat × LinkItem)) (s : State) (st : List (Nat × Nat)) (m : Meas), (s.pl p).inbox = (src, .probedata st) :: rest → (s.pl p).meas = some m → m.phase = 2 → m.spoilt = false → st.length = m.n → ¬ (16 * (m.n : Int) * m.n < (m.n : Int) * (batchSums m.tx m.rx st).sxx - (batchSums m.tx m.rx st).sx * (batchSums m.tx m.rx st).sx) → 
      ∃ t, exec (.probedata p) s = .next t ∧ t.get (PRL_RTT_RTT p) = show32 (roundDivI (256 * ((batchSums m.tx m.rx st).s1 + (batchSums m.tx m.rx st).s2)) m.n) % 2 ^ (PRL_RTT_RTT p).len ∧
      t.get (PRL_THCLO_C p) + t.get (PRL_THCHI_C p) * 2 ^ 32 = wrapNat 48 (wholeCycles (roundDivI (128 * ((batchSums m.tx m.rx st).s1 - (batchSums m.tx m.rx st).s2)) m.n)) ∧
      (m.why = 0 → (t.pl p).meas = none ∧ t.bit (PRL_ALIGN_ALIGNING m.root) = false ∧ t.bit (PRL_FLAGS_PROBEFAIL p) = s.bit (PRL_FLAGS_PROBEFAIL p)) ∧
      (m.why = 2 → (t.pl p).meas.map (fun x => x.phase) = some 3) ∧ (t.pl p).inbox = rest) ∧
  (∀ (p : Fin 5) (src : Nat) (rest : List (Nat × LinkItem)) (s : State) (org root tt tag mask : Nat), (s.pl p).inbox = (src, .clap org root tt tag mask) :: rest → mask / 2 ^ s.me % 2 = 1 → ((s.root root).tb : Int) + 256 ≤ nearCount (s.root root).tb tt → 
      ∃ t, exec (.linkClap p) s = .next t ∧ t.board.claps = s.board.claps ++ [⟨root, (nearCount (s.root root).tb tt).toNat, org, tag⟩] ∧ (t.pl p).inbox = rest ∧ SamePls [p.val] s t ∧ t = { s with pls := t.pls, board := t.board }) ∧
  (∀ (p : Fin 5) (src : Nat) (rest : List (Nat × LinkItem)) (s : State) (org root tt tag mask : Nat), (s.pl p).inbox = (src, .clap org root tt tag mask) :: rest → mask / 2 ^ s.me % 2 = 1 → nearCount (s.root root).tb tt < ((s.root root).tb : Int) + 256 → 
      ∃ t, exec (.linkClap p) s = .next t ∧ t.board.claps = s.board.claps ∧ (org ≠ s.me → t.board = s.board)) ∧
  (∀ (p : Fin 5) (src : Nat) (rest : List (Nat × LinkItem)) (s : State) (org root tt tag mask : Nat), (s.pl p).inbox = (src, .clap org root tt tag mask) :: rest → mask / 2 ^ s.me % 2 = 0 → 
      ∃ t, exec (.linkClap p) s = .next t ∧ t.board.claps = s.board.claps ∧ (t.pl p).inbox = rest ∧ SamePls [p.val] s t ∧ t = { s with pls := t.pls }) ∧
  (∀ (p : Fin 5) (src : Nat) (rest : List (Nat × LinkItem)) (s : State) (dev tag code : Nat) (q : ClapReq), (s.pl p).inbox = (src, .clapack dev tag code) :: rest → (s.board.reqs.find? (fun r => r.tag == tag) = some q) → q.targets / 2 ^ dev % 2 = 1 → q.answered / 2 ^ dev % 2 = 0 → q.answered + 2 ^ dev ≠ q.targets → 
      ∃ t, exec (.clapack p) s = .next t ∧ t.board.reqs = s.board.reqs.map (fun r => if r.tag = tag then { q with answered := q.answered + 2 ^ dev, voided := q.voided + (if code = Code.ALIGN_VOID then 2 ^ dev else 0), late := q.late + (if code = Code.CLAP_LATE then 2 ^ dev else 0) } else r) ∧ (t.pl p).inbox = rest ∧ SamePls [p.val] s t ∧ t = { s with pls := t.pls, board := t.board }) ∧
  (∀ (p : Fin 5) (src : Nat) (rest : List (Nat × LinkItem)) (s : State) (dev tag code : Nat) (q : ClapReq) (f : Nat) (c : Nat) (a b : List Cmd) (k : Cmd), (s.pl p).inbox = (src, .clapack dev tag code) :: rest → (s.board.reqs.find? (fun r => r.tag == tag) = some q) → q.targets / 2 ^ dev % 2 = 1 → q.answered / 2 ^ dev % 2 = 0 → q.answered + 2 ^ dev = q.targets → q.src = .flow f c → code = Code.OK → q.late = 0 → q.voided = 0 → (s.flow f).cmds = a ++ k :: b → (∀ x ∈ a ++ b, x.id ≠ c) → k.id = c → k.st = .started → k.orphan = false → 
      ∃ t, exec (.clapack p) s = .next t ∧ t.board.reqs = s.board.reqs.filter (fun r => r.tag != q.tag) ∧ CmdNow s t f a b (k.done Code.OK false false q.targets (q.t % 2 ^ 48)) ∧ (t.pl p).inbox = rest) ∧
  (∀ (n : Fin 4) (T : Nat) (s : State), s.nextClap n = some T → (s.root n).tclk = true → 
      ∃ t, exec (.clapperFire n) s = .next t ∧ t.get PRL_CLAPCNT_COUNT = min (s.get PRL_CLAPCNT_COUNT + 1) (2 ^ PRL_CLAPCNT_COUNT.len - 1) ∧ t.get PRL_CLAPLO_T = T % 2 ^ 32 ∧ t.get PRL_CLAPHI_T = T / 2 ^ 32 % 2 ^ PRL_CLAPHI_T.len ∧ t.get PRL_CLAPHI_ROOT = n ∧
      T ≤ (t.root n).tb ∧ t.board.claps = s.board.claps.filter (fun q => !(q.root == n.val && q.t == T)) ∧ (∀ k ∈ s.clapTakes n, t.takeState k = 3 ∧ (t.take k).tstart = some ((4096 * T : Nat) : Int)) ∧
      (s.clapTakes n = [] → s.board.reqs = [] → (∀ q ∈ s.board.claps, q.org = s.me) → s.bit (SYN_RCTRL_ARM n) = false → t = { s with regs := t.regs, roots := t.roots, board := t.board } ∧ SameRoots [n.val] s t ∧ SameWords [PRL_CLAPCNT, PRL_CLAPLO, PRL_CLAPHI, SYN_RSTAT n] s t)) ∧
  (∀ (n : Fin 4) (s : State), (s.nextClap n = none ∨ (s.root n).tclk = false) → 
      exec (.clapperFire n) s = .next s) ∧
  (∀ (tag : Nat) (q : ClapReq) (f : Nat) (c : Nat) (a b : List Cmd) (k : Cmd) (s : State), (s.board.reqs.find? (fun r => r.tag == tag) = some q) → q.src = .flow f c → (s.flow f).cmds = a ++ k :: b → (∀ x ∈ a ++ b, x.id ≠ c) → k.id = c → k.st = .started → k.orphan = false → q.answered ≠ q.targets → 
      ∃ t, exec (.clapCompletionTimeout tag) s = .next t ∧ CmdNow s t f a b (k.done Code.CLAP_PARTIAL false false (q.targets - q.answered) (q.t % 2 ^ 48)) ∧ t.board.reqs = s.board.reqs.filter (fun r => r.tag != q.tag) ∧ t = { s with board := t.board, flows := t.flows }) ∧
  (∀ (tag : Nat) (s : State), (s.board.reqs.find? (fun r => r.tag == tag) = none) → 
      exec (.clapCompletionTimeout tag) s = .next s)

/-- XHOPPREP is answered by the check of the hop, to this device itself or over the port that leads to the asker; XHOPGO
is a link hop request of its preset, not before T; XHOPACK notes an answer, the last one lets the hop go or finishes
the command, refused with the device or with its code. XTAKEARM on a root not aligned is answered ALIGN_VOID, else
it arms the take, waits for solves, or answers the failing check; XTAKEDONE is noted, the last one finishes the
command with the records. Firmware messages are taken in order; those of a measurement, of alignment and of a
gathering act as written. A device alone that is device 0 enumerates to a board of one, another finishes NO_MASTER;
with links the reports are asked for. BOARD_ALIGN is for device 0, which counts as aligned, and goes on to the first
child; ALIGN_SET sets ALIGNED and clears TBSLIP. CLAP too near is CLAP_LATE, else it is scheduled. XHOP and XTAKE of
device 0 start and send the first items; bad parameters finish BAD_PARAM. The model's choices here, which are no
rule of the spec, by their log entries: the messages of firmware (55), gathering and alignment with faults (57), the
answers of XHOP and XTAKE (58), the end of a preparation (127), routes without a table (139). -/
def Obligations.BoardCommandsAndItems : Prop :=
  (∀ (p : Fin 5) (src : Nat) (rest : List (Nat × LinkItem)) (s : State) (root preset tag : Nat), (s.pl p).inbox = (src, .xhopprep root preset tag) :: rest → src = s.me → 
      ∃ t, exec (.xhopprep p) s = .next t ∧ (t.pl 4).inbox = (if p.val = 4 then rest else (s.pl 4).inbox) ++ [(s.me, .xhopack s.me tag (s.xhopCheck root preset))] ∧ t.board = (if s.xhopCheck root preset = Code.OK then { s.board with preps := s.board.preps ++ [tag] } else s.board) ∧ (p.val ≠ 4 → (t.pl p).inbox = rest) ∧ t = { s with pls := t.pls, board := t.board } ∧ SamePls [p.val, 4] s t) ∧
  (∀ (p : Fin 5) (src : Nat) (rest : List (Nat × LinkItem)) (s : State) (root preset tag : Nat) (q : Fin 4), (s.pl p).inbox = (src, .xhopprep root preset tag) :: rest → src ≠ s.me → s.portTo src = some q.val → 
      ∃ t, exec (.xhopprep p) s = .next t ∧ (t.pl q).unacked.map (fun u => u.2) ++ (t.pl q).wait = (s.pl q).unacked.map (fun u => u.2) ++ (s.pl q).wait ++ framesOf src s.me false (.xhopack s.me tag (s.xhopCheck root preset)) ∧ (t.pl p).inbox = rest ∧ t = { s with pls := t.pls, out := t.out, board := t.board } ∧ t.board = (if s.xhopCheck root preset = Code.OK then { s.board with preps := s.board.preps ++ [tag] } else s.board) ∧ SamePls [p.val, q.val] s t) ∧
  (∀ (p : Fin 5) (src : Nat) (rest : List (Nat × LinkItem)) (s : State) (root preset tt tag : Nat), (s.pl p).inbox = (src, .xhopgo root preset tt tag) :: rest → s.isLocked root = true → (s.root root).hop = none → (s.root root).pend = none → 
      ∃ t, exec (.xhopgo p) s = .next t ∧ (t.root root).hop = some (⟨preset, false, .link src tag, some (nearCount (s.root root).tb tt).toNat⟩, .waiting) ∧ t.bit (SYN_STAT_HOPBUSY root) = true ∧ (t.pl p).inbox = rest ∧ SamePls [p.val] s t ∧ t = { s with regs := t.regs, roots := t.roots, pls := t.pls, board := { s.board with preps := s.board.preps.filter (fun k => k != tag) } } ∧ SameRoots [root] s t ∧ SameWords [SYN_STAT root] s t) ∧
  (∀ (p : Fin 5) (src : Nat) (rest : List (Nat × LinkItem)) (s : State) (root preset tt tag : Nat), (s.pl p).inbox = (src, .xhopgo root preset tt tag) :: rest → (s.isLocked root = false ∨ (s.root root).hop ≠ none) → (s.root root).pend = none → 
      ∃ t, exec (.xhopgo p) s = .next t ∧ (t.root root).hop = (s.root root).hop ∧ (t.root root).pend = some ⟨preset, false, .link src tag, some (nearCount (s.root root).tb tt).toNat⟩ ∧ (t.pl p).inbox = rest ∧ SamePls [p.val] s t ∧ t = { s with regs := t.regs, roots := t.roots, pls := t.pls, board := { s.board with preps := s.board.preps.filter (fun k => k != tag) } } ∧ SameRoots [root] s t ∧ SameWords [SYN_HOPSTAT root] s t) ∧
  (∀ (p : Fin 5) (src : Nat) (rest : List (Nat × LinkItem)) (s : State) (dev tag code : Nat) (x : XHopRun), (s.pl p).inbox = (src, .xhopack dev tag code) :: rest → (s.board.xhops.find? (fun y => y.tag == tag) = some x) → x.targets / 2 ^ dev % 2 = 1 → x.answered / 2 ^ dev % 2 = 0 → x.answered + 2 ^ dev ≠ x.targets → 
      ∃ t, exec (.xhopack p) s = .next t ∧ t.board.xhops = s.board.xhops.map (fun y => if y.tag = x.tag then { x with answered := x.answered + 2 ^ dev, refuser := if code ≠ Code.OK ∧ x.refuser.all (fun d => decide (dev < d)) = true then some dev else x.refuser, code := if code ≠ Code.OK ∧ x.refuser.all (fun d => decide (dev < d)) = true then code else x.code } else y) ∧ (t.pl p).inbox = rest ∧ SamePls [p.val] s t ∧ t = { s with pls := t.pls, board := t.board }) ∧
  (∀ (p : Fin 5) (src : Nat) (rest : List (Nat × LinkItem)) (s : State) (dev tag code : Nat) (x : XHopRun), (s.pl p).inbox = (src, .xhopack dev tag code) :: rest → (s.board.xhops.find? (fun y => y.tag == tag) = some x) → x.targets / 2 ^ dev % 2 = 1 → x.answered / 2 ^ dev % 2 = 0 → x.answered + 2 ^ dev = x.targets → code = Code.OK → x.went = false → x.refuser = none → 
      ∃ t, exec (.xhopack p) s = .next t ∧ t.board.xhops = s.board.xhops.map (fun y => if y.tag = x.tag then { x with answered := 0, code := x.code, went := true } else y) ∧ (p.val ≠ 4 → (t.pl p).inbox = rest) ∧ t = { s with pls := t.pls, board := t.board, out := t.out }) ∧
  (∀ (p : Fin 5) (src : Nat) (rest : List (Nat × LinkItem)) (s : State) (dev tag code : Nat) (x : XHopRun) (a b : List Cmd) (k : Cmd), (s.pl p).inbox = (src, .xhopack dev tag code) :: rest → (s.board.xhops.find? (fun y => y.tag == tag) = some x) → x.targets / 2 ^ dev % 2 = 1 → x.answered / 2 ^ dev % 2 = 0 → (s.flow x.f).cmds = a ++ k :: b → (∀ y ∈ a ++ b, y.id ≠ x.c) → k.id = x.c → k.st = .started → k.orphan = false → x.answered + 2 ^ dev = x.targets → x.went = false → code ≠ Code.OK → x.refuser = none → 
      ∃ t, exec (.xhopack p) s = .next t ∧ t.board.xhops = s.board.xhops.filter (fun y => y.tag != x.tag) ∧ CmdNow s t x.f a b (k.done Code.XHOP_REFUSED false false dev code) ∧ (p.val ≠ 4 → (t.pl p).inbox = rest) ∧ (p.val ≠ 4 ∧ s.me < 16 ∧ x.targets / 2 ^ s.me % 2 = 1 ∧ s.devices.contains s.me = true → (t.pl 4).inbox = (s.pl 4).inbox ++ [(s.me, .message (.xhopEnd x.tag))]) ∧ t = { s with pls := t.pls, board := t.board, flows := t.flows, out := t.out }) ∧
  (∀ (p : Fin 5) (src : Nat) (rest : List (Nat × LinkItem)) (s : State) (dev tag code : Nat) (x : XHopRun) (a b : List Cmd) (k : Cmd), (s.pl p).inbox = (src, .xhopack dev tag code) :: rest → (s.board.xhops.find? (fun y => y.tag == tag) = some x) → x.targets / 2 ^ dev % 2 = 1 → x.answered / 2 ^ dev % 2 = 0 → (s.flow x.f).cmds = a ++ k :: b → (∀ y ∈ a ++ b, y.id ≠ x.c) → k.id = x.c → k.st = .started → k.orphan = false → x.answered + 2 ^ dev = x.targets → x.went = true → code = Code.OK → 
      ∃ t, exec (.xhopack p) s = .next t ∧ t.board.xhops = s.board.xhops.filter (fun y => y.tag != x.tag) ∧ CmdNow s t x.f a b (k.done x.code false false (x.refuser.getD 0) 0) ∧ (t.pl p).inbox = rest ∧ SamePls [p.val] s t ∧ t = { s with pls := t.pls, board := t.board, flows := t.flows }) ∧
  (∀ (p : Fin 5) (src : Nat) (rest : List (Nat × LinkItem)) (s : State) (root k tag idx : Nat), (s.pl p).inbox = (src, .xtakearm root k tag idx) :: rest → s.bit (PRL_ALIGN_ALIGNED root) = false → src = s.me → 
      ∃ t, exec (.xtakearm p) s = .next t ∧ (t.pl 4).inbox = (if p.val = 4 then rest else (s.pl 4).inbox) ++ [(s.me, .message (.armed s.me tag idx Code.ALIGN_VOID))] ∧ (p.val ≠ 4 → (t.pl p).inbox = rest) ∧ t = { s with pls := t.pls } ∧ SamePls [p.val, 4] s t) ∧
  (∀ (p : Fin 5) (src : Nat) (rest : List (Nat × LinkItem)) (s : State) (root k tag idx : Nat), (s.pl p).inbox = (src, .xtakearm root k tag idx) :: rest → s.bit (PRL_ALIGN_ALIGNED root) = true → k < 256 → (s.take k).waitArm = none → s.takeBusy k = false → s.solvesQueued k = true → 
      ∃ t, exec (.xtakearm p) s = .next t ∧ (t.take k).waitArm = some { src := .xtake src tag idx, group := none, wait := false, root := some root } ∧ (t.pl p).inbox = rest ∧ SamePls [p.val] s t ∧ t = { s with takes := t.takes, pls := t.pls } ∧ SameTakes [k] s t) ∧
  (∀ (p : Fin 5) (src : Nat) (rest : List (Nat × LinkItem)) (s : State) (root k tag idx : Nat), (s.pl p).inbox = (src, .xtakearm root k tag idx) :: rest → s.bit (PRL_ALIGN_ALIGNED root) = true → src = s.me → k < 256 → (s.take k).waitArm = none → s.solvesQueued k = false → s.armCheck k { src := .xtake src tag idx, group := none, wait := false, root := some root } ≠ Code.OK → 
      ∃ t, exec (.xtakearm p) s = .next t ∧ (t.pl 4).inbox = (if p.val = 4 then rest else (s.pl 4).inbox) ++ [(s.me, .message (.armed s.me tag idx (s.armCheck k { src := .xtake src tag idx, group := none, wait := false, root := some root })))] ∧ t.get (TK_STAT_CODE k) = s.armCheck k { src := .xtake src tag idx, group := none, wait := false, root := some root } % 2 ^ (TK_STAT_CODE k).len ∧ t.take k = s.take k ∧ (p.val ≠ 4 → (t.pl p).inbox = rest) ∧ t = { s with regs := t.regs, pls := t.pls } ∧ SameWords [TK_STAT k] s t ∧ SamePls [p.val, 4] s t) ∧
  (∀ (p : Fin 5) (src : Nat) (rest : List (Nat × LinkItem)) (s : State) (root k tag idx : Nat), (s.pl p).inbox = (src, .xtakearm root k tag idx) :: rest → s.bit (PRL_ALIGN_ALIGNED root) = true → src = s.me → k < 256 → (s.take k).waitArm = none → s.takeBusy k = false → s.solvesQueued k = false → s.armCheck k { src := .xtake src tag idx, group := none, wait := false, root := some root } = Code.OK → 
      ∃ t, exec (.xtakearm p) s = .next t ∧ (t.pl 4).inbox = (if p.val = 4 then rest else (s.pl 4).inbox) ++ [(s.me, .message (.armed s.me tag idx Code.OK))] ∧ t.takeState k = 1 ∧ (t.take k).chans = s.joined k ∧ (t.take k).req = { src := .xtake src tag idx, group := none, wait := false, root := some root }) ∧
  (∀ (p : Fin 5) (src : Nat) (rest : List (Nat × LinkItem)) (s : State) (dev tag idx code : Nat) (taint voided : Bool) (records : List Nat) (x : XTakeRun), (s.pl p).inbox = (src, .xtakedone dev tag idx code taint voided records) :: rest → (s.board.xtakes.find? (fun y => y.tag == tag) = some x) → x.t.isSome = true → ((x.dones.set idx (some ⟨code, taint, voided, records⟩)).all (fun d => d.isSome) = false) → 
      ∃ t, exec (.xtakedone p) s = .next t ∧ t.board.xtakes = s.board.xtakes.map (fun y => if y.tag = x.tag then { x with dones := x.dones.set idx (some ⟨code, taint, voided, records⟩) } else y) ∧ (t.pl p).inbox = rest ∧ SamePls [p.val] s t ∧ t = { s with pls := t.pls, board := t.board }) ∧
  (∀ (p : Fin 5) (src : Nat) (rest : List (Nat × LinkItem)) (s : State) (dev tag idx code : Nat) (taint voided : Bool) (records : List Nat) (x : XTakeRun) (a b : List Cmd) (k : Cmd), (s.pl p).inbox = (src, .xtakedone dev tag idx code taint voided records) :: rest → (s.board.xtakes.find? (fun y => y.tag == tag) = some x) → x.t.isSome = true → x.dones = [none] → idx = 0 → s.dmaOn = true → (s.flow x.f).cmds = a ++ k :: b → (∀ y ∈ a ++ b, y.id ≠ x.c) → k.id = x.c → k.st = .started → k.orphan = false → bufOk k.entry (16 * records.length) = true → 
      ∃ t, exec (.xtakedone p) s = .next t ∧ t.board.xtakes = s.board.xtakes.filter (fun y => y.tag != x.tag) ∧ CmdNow s t x.f a b (k.done (if voided = true then Code.ALIGN_VOID else code) taint true 0 (x.t.getD 0 % 2 ^ 48)) ∧ t.out = .dma (entAddr k.entry) (records.flatMap (fun r => leBytes 16 r)) :: s.out ∧ (t.pl p).inbox = rest ∧ SamePls [p.val] s t) ∧
  (∀ (p : Fin 5) (src : Nat) (rest : List (Nat × LinkItem)) (s : State) (m : FwMsg), (s.pl p).inbox = (src, .message m) :: rest → 
      ∃ t, exec (.firmwareMessage p) s = .next t ∧ rest <+: (t.pl p).inbox ∧ (p.val < 4 → (t.pl p).inbox = rest)) ∧
  (∀ (p : Fin 5) (src : Nat) (rest : List (Nat × LinkItem)) (s : State) (root : Nat), (s.pl p).inbox = (src, .message (.probeBegin root)) :: rest → p.val < 4 → root < 4 → 
      ∃ t, exec (.firmwareMessage p) s = .next t ∧ (t.pl p).stamps = [] ∧ (t.pl p).child = some root ∧ t.get (PRL_CTRL_ROOT p) = root ∧ t.bit (PRL_ALIGN_ALIGNING root) = true ∧ (t.pl p).inbox = rest ∧ SamePls [p.val] s t ∧ t = { s with regs := t.regs, pls := t.pls } ∧ SameWords [PRL_CTRL p, PRL_ALIGN root] s t) ∧
  (∀ (p : Fin 5) (src : Nat) (rest : List (Nat × LinkItem)) (s : State) (root r : Nat), (s.pl p).inbox = (src, .message (.measOver r)) :: rest → (s.pl p).child = some root → root < 4 → 
      ∃ t, exec (.firmwareMessage p) s = .next t ∧ (t.pl p).child = none ∧ t.bit (PRL_ALIGN_ALIGNING root) = false ∧ (t.pl p).inbox = rest ∧ SamePls [p.val] s t ∧ t = { s with regs := t.regs, pls := t.pls } ∧ SameWords [PRL_ALIGN root] s t) ∧
  (∀ (p : Fin 5) (src : Nat) (rest : List (Nat × LinkItem)) (s : State) (root tag idx : Nat), (s.pl p).inbox = (src, .message (.alignedAsk root tag idx)) :: rest → src = s.me → 
      ∃ t, exec (.firmwareMessage p) s = .next t ∧ (t.pl 4).inbox = (if p.val = 4 then rest else (s.pl 4).inbox) ++ [(s.me, .message (.alignedIs s.me tag idx (if s.bit (PRL_ALIGN_ALIGNED root) = true then Code.OK else Code.ALIGN_VOID)))] ∧ (p.val ≠ 4 → (t.pl p).inbox = rest) ∧ t = { s with pls := t.pls } ∧ SamePls [p.val, 4] s t) ∧
  (∀ (p : Fin 5) (src : Nat) (rest : List (Nat × LinkItem)) (s : State) (org tag : Nat), (s.pl p).inbox = (src, .message (.gather org tag)) :: rest → (s.gatherOf org tag).isSome = true → 
      ∃ t, exec (.firmwareMessage p) s = .next t ∧ (t.pl p).unacked.map (fun u => u.2) ++ (t.pl p).wait = (s.pl p).unacked.map (fun u => u.2) ++ (s.pl p).wait ++ framesOf (s.get (PRL_STAT_PEERID p)) s.me false (.message (.reports org tag [] [])) ∧ (t.pl p).inbox = rest ∧ SamePls [p.val] s t ∧ t = { s with pls := t.pls, out := t.out }) ∧
  (∀ (p : Fin 5) (src : Nat) (rest : List (Nat × LinkItem)) (s : State) (org tag : Nat), (s.pl p).inbox = (src, .message (.gather org tag)) :: rest → (s.gatherOf org tag) = none → s.me ≠ 0 → s.identPorts = [p.val] → 
      ∃ t, exec (.firmwareMessage p) s = .next t ∧ t.get PRL_ENUM_STATE = 1 ∧ (t.gatherOf org tag).isSome = true ∧ (t.pl p).unacked.map (fun u => u.2) ++ (t.pl p).wait = (s.pl p).unacked.map (fun u => u.2) ++ (s.pl p).wait ++ framesOf (s.get (PRL_STAT_PEERID p)) s.me false (.message (.reports org tag [s.me] s.myLinks)) ∧ (t.pl p).inbox = rest ∧ SamePls [p.val] s t ∧ t = { s with regs := t.regs, pls := t.pls, out := t.out, board := t.board } ∧ SameWords [PRL_ENUM] s t) ∧
  (∀ (f : Fin 64) (c : Nat) (a b : List Cmd) (k : Cmd) (s : State), Runs s f c 0x0400 a b k → s.me ≠ 0 → s.board.enums = [] → s.identPorts = [] → 
      ∃ t, exec (.boardEnum f c) s = .next t ∧ CmdNow s t f a b (k.done Code.NO_MASTER false false 0 (t.word PRL_ENUM).toNat) ∧ t.get PRL_ENUM_STATE = 3 ∧ t.get PRL_ENUM_CODE = Code.NO_MASTER ∧ t.board.enums = [] ∧ t = { s with regs := t.regs, flows := t.flows, board := t.board } ∧ SameWords [PRL_ENUM] s t) ∧
  (∀ (f : Fin 64) (c : Nat) (a b : List Cmd) (k : Cmd) (s : State), Runs s f c 0x0400 a b k → s.me = 0 → s.board.enums = [] → s.identPorts = [] → (s.board.gathers.any (fun g => g.org == 0 && !g.ended) = false) → 
      ∃ t, exec (.boardEnum f c) s = .next t ∧ CmdNow s t f a b (k.done Code.OK false false 0 (t.word PRL_ENUM).toNat) ∧ t.get PRL_ENUM_STATE = 2 ∧ t.get PRL_ENUM_NDEV = 1 ∧ t.get PRL_MAP_PRESENT = 1 ∧ t.bit PRL_TREE_MASTER = true ∧ t.board.enums = [] ∧ SameWords [PRL_ENUM, PRL_MAP, PRL_TREE] s t) ∧
  (∀ (f : Fin 64) (c : Nat) (a b : List Cmd) (k : Cmd) (s : State), Runs s f c 0x0400 a b k → s.me ≠ 0 → (s.identPorts.filter (fun p => s.linkServes p) ≠ []) → 
      ∃ t, exec (.boardEnum f c) s = .next t ∧ t.board.enums = s.board.enums ++ [(f.val, c)] ∧ t.get PRL_ENUM_STATE = 1 ∧ t.board.gathers.map (fun g => (g.org, g.wait, g.ended)) = (s.board.gathers.filter (fun h => h.org != s.me)).map (fun g => (g.org, g.wait, g.ended)) ++ [(s.me, s.identPorts.filter (fun p => s.linkServes p), false)] ∧ CmdNow s t f a b { k with st := .started } ∧ t = { s with regs := t.regs, flows := t.flows, board := t.board, pls := t.pls, out := t.out } ∧ SameWords [PRL_ENUM] s t) ∧
  (∀ (f : Fin 64) (c : Nat) (a b : List Cmd) (k : Cmd) (s : State), Runs s f c 0x0401 a b k → (ent k.entry 20 1) < 4 → (s.bit GLB_MODE_ALIGNHOST = false ∨ bufOk k.entry (32 * (s.devices.length - 1)) = true) → s.me ≠ 0 → 
      ∃ t, exec (.boardAlign f c) s = .next t ∧ CmdNow s t f a b (k.done Code.NO_MASTER false false 0 0) ∧ t = { s with flows := t.flows }) ∧
  (∀ (f : Fin 64) (c : Nat) (a b : List Cmd) (k : Cmd) (s : State), Runs s f c 0x0401 a b k → (4 ≤ (ent k.entry 20 1) ∨ (s.bit GLB_MODE_ALIGNHOST = true ∧ bufOk k.entry (32 * (s.devices.length - 1)) = false)) → 
      ∃ t, exec (.boardAlign f c) s = .next t ∧ CmdNow s t f a b (k.done Code.BAD_PARAM false false 0 0) ∧ t = { s with flows := t.flows }) ∧
  (∀ (f : Fin 64) (c : Nat) (a b : List Cmd) (k : Cmd) (s : State), Runs s f c 0x0401 a b k → (ent k.entry 20 1) < 4 → s.bit GLB_MODE_ALIGNHOST = false → s.me = 0 → s.alignOrder = [] → 
      ∃ t, exec (.boardAlign f c) s = .next t ∧ CmdNow s t f a b (k.done Code.OK false false 0 1) ∧ t.bit (PRL_ALIGN_ALIGNED (ent k.entry 20 1)) = true ∧ t.bit (SYN_FLAGS_TBSLIP (ent k.entry 20 1)) = false ∧ SameWords [PRL_ALIGN (ent k.entry 20 1), SYN_FLAGS (ent k.entry 20 1)] s t) ∧
  (∀ (f : Fin 64) (c : Nat) (a b : List Cmd) (k : Cmd) (s : State) (d : Nat) (ds : List Nat), Runs s f c 0x0401 a b k → (ent k.entry 20 1) < 4 → s.bit GLB_MODE_ALIGNHOST = false → s.me = 0 → s.alignOrder = d :: ds → k.cancel = false → 
      ∃ t, exec (.boardAlign f c) s = .next t ∧ t.board.aligns = s.board.aligns.filter (fun y => !(y.f == f.val && y.c == c)) ++ [⟨f, c, (ent k.entry 20 1), ds, some d, 1, 0, Code.OK, false, []⟩] ∧ t.bit (PRL_ALIGN_ALIGNED (ent k.entry 20 1)) = true ∧ CmdNow s t f a b { k with st := .started } ∧ SameWords [PRL_ALIGN (ent k.entry 20 1), SYN_FLAGS (ent k.entry 20 1)] s t) ∧
  (∀ (f : Fin 64) (c : Nat) (a b : List Cmd) (k : Cmd) (s : State), Runs s f c 0x0402 a b k → (ent k.entry 20 1) < 4 → 
      ∃ t, exec (.alignSet f c) s = .next t ∧ CmdNow s t f a b (k.done Code.OK false false 0 0) ∧ t.bit (PRL_ALIGN_ALIGNED (ent k.entry 20 1)) = true ∧ t.bit (SYN_FLAGS_TBSLIP (ent k.entry 20 1)) = false ∧ t.get (PRL_ALIGN_ALCNT (ent k.entry 20 1)) = (s.get (PRL_ALIGN_ALCNT (ent k.entry 20 1)) + 1) % 2 ^ (PRL_ALIGN_ALCNT (ent k.entry 20 1)).len ∧ t = { s with regs := t.regs, flows := t.flows } ∧ SameWords [PRL_ALIGN (ent k.entry 20 1), SYN_FLAGS (ent k.entry 20 1)] s t) ∧
  (∀ (f : Fin 64) (c : Nat) (a b : List Cmd) (k : Cmd) (s : State), Runs s f c 0x0402 a b k → 4 ≤ (ent k.entry 20 1) → 
      ∃ t, exec (.alignSet f c) s = .next t ∧ CmdNow s t f a b (k.done Code.BAD_PARAM false false 0 0) ∧ t = { s with flows := t.flows }) ∧
  (∀ (f : Fin 64) (c : Nat) (a b : List Cmd) (k : Cmd) (s : State), Runs s f c 0x0403 a b k → 4 ≤ (ent k.entry 20 1) → 
      ∃ t, exec (.clap f c) s = .next t ∧ CmdNow s t f a b (k.done Code.BAD_PARAM false false 0 0) ∧ t = { s with flows := t.flows }) ∧
  (∀ (f : Fin 64) (c : Nat) (a b : List Cmd) (k : Cmd) (s : State), Runs s f c 0x0403 a b k → (ent k.entry 20 1) < 4 → nearCount (s.root (ent k.entry 20 1)).tb (ent k.entry 32 6) < ((s.root (ent k.entry 20 1)).tb : Int) + max 8192 (s.get PRL_CLAPLEAD_CYC) → 
      ∃ t, exec (.clap f c) s = .next t ∧ CmdNow s t f a b (k.done Code.CLAP_LATE false false 0 (ent k.entry 32 6 % 2 ^ 48)) ∧ t = { s with flows := t.flows }) ∧
  (∀ (f : Fin 64) (c : Nat) (a b : List Cmd) (k : Cmd) (s : State), Runs s f c 0x0403 a b k → (ent k.entry 20 1) < 4 → ((s.root (ent k.entry 20 1)).tb : Int) + max 8192 (s.get PRL_CLAPLEAD_CYC) ≤ nearCount (s.root (ent k.entry 20 1)).tb (ent k.entry 32 6) → ent k.entry 22 2 ≠ 0 → 
      ∃ t, exec (.clap f c) s = .next t ∧ t.board.reqs = s.board.reqs ++ [⟨.flow f c, s.board.tag, (ent k.entry 20 1), (nearCount (s.root (ent k.entry 20 1)).tb (ent k.entry 32 6)).toNat, ent k.entry 22 2, 0, 0, 0⟩] ∧ t.board.tag = s.board.tag + 1 ∧
      t.board.claps = s.board.claps ++ (if ent k.entry 22 2 / 2 ^ s.me % 2 = 1 then [⟨(ent k.entry 20 1), (nearCount (s.root (ent k.entry 20 1)).tb (ent k.entry 32 6)).toNat, s.me, s.board.tag⟩] else []) ∧ CmdNow s t f a b { k with st := .started } ∧ t = { s with board := t.board, flows := t.flows, pls := t.pls, out := t.out }) ∧
  (∀ (f : Fin 64) (c : Nat) (a b : List Cmd) (k : Cmd) (s : State), Runs s f c 0x0404 a b k → (4 ≤ (ent k.entry 20 1) ∨ 16 ≤ ent k.entry 21 1 ∨ ent k.entry 22 2 = 0) → 
      ∃ t, exec (.xhop f c) s = .next t ∧ CmdNow s t f a b (k.done Code.BAD_PARAM false false 0 0) ∧ t = { s with flows := t.flows }) ∧
  (∀ (f : Fin 64) (c : Nat) (a b : List Cmd) (k : Cmd) (s : State), Runs s f c 0x0404 a b k → (ent k.entry 20 1) < 4 → ent k.entry 21 1 < 16 → ent k.entry 22 2 ≠ 0 → s.me ≠ 0 → 
      ∃ t, exec (.xhop f c) s = .next t ∧ CmdNow s t f a b (k.done Code.NO_MASTER false false 0 0) ∧ t = { s with flows := t.flows }) ∧
  (∀ (f : Fin 64) (c : Nat) (a b : List Cmd) (k : Cmd) (s : State), Runs s f c 0x0404 a b k → (ent k.entry 20 1) < 4 → ent k.entry 21 1 < 16 → ent k.entry 22 2 ≠ 0 → s.me = 0 → 
      ∃ t, exec (.xhop f c) s = .next t ∧ t.board.xhops = s.board.xhops ++ [⟨f, c, s.board.tag, (ent k.entry 20 1), ent k.entry 21 1, ent k.entry 22 2, 0, none, Code.OK, false⟩] ∧ t.board.tag = s.board.tag + 1 ∧
      (ent k.entry 22 2 = 1 → s.get PRL_MAP_PRESENT = 0 → (t.pl 4).inbox = (s.pl 4).inbox ++ [(0, .xhopprep (ent k.entry 20 1) (ent k.entry 21 1) s.board.tag)]) ∧ CmdNow s t f a b { k with st := .started } ∧ t = { s with board := t.board, flows := t.flows, pls := t.pls, out := t.out }) ∧
  (∀ (f : Fin 64) (c : Nat) (a b : List Cmd) (k : Cmd) (s : State), Runs s f c 0x0405 a b k → (4 ≤ (ent k.entry 20 1) ∨ ent k.entry 21 1 = 0 ∨ 16 < ent k.entry 21 1 ∨ entAddr k.entry % 8 ≠ 0) → 
      ∃ t, exec (.xtake f c) s = .next t ∧ CmdNow s t f a b (k.done Code.BAD_PARAM false false 0 0) ∧ t = { s with flows := t.flows }) ∧
  (∀ (f : Fin 64) (c : Nat) (a b : List Cmd) (k : Cmd) (s : State), Runs s f c 0x0405 a b k → (ent k.entry 20 1) < 4 → ent k.entry 21 1 = 1 → ent k.entry 32 1 < 16 → entAddr k.entry % 8 = 0 → s.me ≠ 0 → 
      ∃ t, exec (.xtake f c) s = .next t ∧ CmdNow s t f a b (k.done Code.NO_MASTER false false 0 0) ∧ t = { s with flows := t.flows }) ∧
  (∀ (f : Fin 64) (c : Nat) (a b : List Cmd) (k : Cmd) (s : State), Runs s f c 0x0405 a b k → (ent k.entry 20 1) < 4 → 0 < ent k.entry 21 1 → ent k.entry 21 1 ≤ 16 → (((List.range (ent k.entry 21 1)).all (fun i => decide (ent k.entry (32 + 2 * i) 1 < 16))) = true) → entAddr k.entry % 8 = 0 → s.me = 0 → 
      ∃ t, exec (.xtake f c) s = .next t ∧ t.board.xtakes = s.board.xtakes ++ [⟨f, c, s.board.tag, (ent k.entry 20 1), (List.range (ent k.entry 21 1)).map (fun i => (ent k.entry (32 + 2 * i) 1, ent k.entry (33 + 2 * i) 1)), List.replicate (ent k.entry 21 1) none, List.replicate (ent k.entry 21 1) none, false, none, List.replicate (ent k.entry 21 1) none⟩] ∧
      (ent k.entry 21 1 = 1 → ent k.entry 32 1 = 0 → s.get PRL_MAP_PRESENT = 0 → (t.pl 4).inbox = (s.pl 4).inbox ++ [(0, .message (.alignedAsk (ent k.entry 20 1) s.board.tag 0))]) ∧ CmdNow s t f a b { k with st := .started } ∧ t = { s with board := t.board, flows := t.flows, pls := t.pls, out := t.out })

/-- Before the XO is stable a gap or a failed window clears XORUN and sets XOWIN, a good window adds its edges, after a
gap in it no more than those (model choice, log 121); at boot stage 2 the window that reaches 65,536, or XO_STABLE
within a window of it, moves AON to the XO and boot to stage 3. Once it is stable a gap, a failed window or a loss
of the CPLL lock records its cause and resets the device with code 5; AON then may switch back. No monitor runs in a
held reset or with neither IRC nor CORE (log 140). CPLL lock sets CPLLLOCK, at stage 3 with the targets of the
domains; its acquisition timeout CPLLFAIL. An IRC failure sets IRCFAIL, stops the domains on it and enters the
dailies without a reset. A domain steps its divider down toward DIV, and up while an up-step is in force, switching
at 32 (log 60); a forced switch sets DIVACT 32 and the new source, a flag and an entry; after these the stages of a
device-state change go on. A gate timeout sets GATETO and an entry, cuts the slave frames of the SPT domain and lets
its domain go on. The model's choices here, which are no rule of the spec, by their log entries: XORUN after a gap
(121), the monitor after IRC_FAIL (140), switching at 32 and the fields of an entry (60). -/
def Obligations.ClocksStartSwitchAndFail : Prop :=
  (∀ (s : State), s.bit CLK_STAT_XOSTABLE = false → s.xoWatched = true → 
      ∃ t, exec (.xoGap) s = .next t ∧ t.get CLK_STAT_XORUN = 0 ∧ t.bit CLK_FLAGS_XOWIN = true ∧ t = { s with regs := t.regs, msixPend := t.msixPend, out := t.out, pwr := { s.pwr with xoCut := true } } ∧ SameWords [CLK_STAT, CLK_FLAGS] s t) ∧
  (∀ (s : State), s.bit CLK_STAT_XOSTABLE = true → s.xoWatched = true → 
      ∃ t, exec (.xoGap) s = .next t ∧ t.get CLK_FAILCAUSE_CAUSE = 1 ∧ t.bit CLK_FAILCAUSE_VALID = true ∧ t.get CLK_FAILCAUSE_COUNT = min (s.get CLK_FAILCAUSE_COUNT + 1) (2 ^ CLK_FAILCAUSE_COUNT.len - 1) ∧ (let r := (((s.put CLK_FAILCAUSE_VALID 1).put CLK_FAILCAUSE_CAUSE 1).inc CLK_FAILCAUSE_COUNT).deviceReset 5; ResetBy 5 (((s.put CLK_FAILCAUSE_VALID 1).put CLK_FAILCAUSE_CAUSE 1).inc CLK_FAILCAUSE_COUNT) r ∧ t = { r with pwr := { r.pwr with aonBack := true } })) ∧
  (∀ (count : Nat) (s : State), s.bit CLK_STAT_XOSTABLE = true → s.xoWatched = true → (count < 4096 - 160 ∨ 4096 + 160 < count) → 
      ∃ t, exec (.xoWindowEnd count) s = .next t ∧ t.get CLK_FAILCAUSE_CAUSE = 2 ∧ t.bit CLK_FAILCAUSE_VALID = true ∧ t.get CLK_FAILCAUSE_COUNT = min (s.get CLK_FAILCAUSE_COUNT + 1) (2 ^ CLK_FAILCAUSE_COUNT.len - 1) ∧ (let r := (((s.put CLK_FAILCAUSE_VALID 1).put CLK_FAILCAUSE_CAUSE 2).inc CLK_FAILCAUSE_COUNT).deviceReset 5; ResetBy 5 (((s.put CLK_FAILCAUSE_VALID 1).put CLK_FAILCAUSE_CAUSE 2).inc CLK_FAILCAUSE_COUNT) r ∧ t = { r with pwr := { r.pwr with aonBack := true } })) ∧
  (∀ (s : State), s.bit CLK_STAT_CPLLLOCK = true → s.cpllOn = true → 
      ∃ t, exec (.cpllLoss) s = .next t ∧ t.get CLK_FAILCAUSE_CAUSE = 3 ∧ t.bit CLK_FAILCAUSE_VALID = true ∧ t.get CLK_FAILCAUSE_COUNT = min (s.get CLK_FAILCAUSE_COUNT + 1) (2 ^ CLK_FAILCAUSE_COUNT.len - 1) ∧ ResetBy 5 (((s.put CLK_FAILCAUSE_VALID 1).put CLK_FAILCAUSE_CAUSE 3).inc CLK_FAILCAUSE_COUNT) t) ∧
  (∀ (count : Nat) (s : State), s.xoWatched = false → 
      exec (.xoWindowEnd count) s = .next s ∧ exec .xoGap s = .next s) ∧
  (∀ (count : Nat) (s : State), s.bit CLK_STAT_XOSTABLE = false → s.xoWatched = true → 4096 - 160 ≤ count → count ≤ 4096 + 160 → s.pwr.xoCut = false → (s.get CLK_STAT_XORUN + count < 65536 ∨ s.get SEC_BOOTSTAT_STAGE ≠ 2) → 
      ∃ t, exec (.xoWindowEnd count) s = .next t ∧ t.get CLK_STAT_XORUN = min 65536 (s.get CLK_STAT_XORUN + count) ∧ RegsOnly [CLK_STAT] s t) ∧
  (∀ (count : Nat) (s : State), s.bit CLK_STAT_XOSTABLE = false → s.xoWatched = true → 4096 - 160 ≤ count → count ≤ 4096 + 160 → s.pwr.xoCut = false → 65536 ≤ s.get CLK_STAT_XORUN + count → s.get SEC_BOOTSTAT_STAGE = 2 → 
      ∃ t, exec (.xoWindowEnd count) s = .next t ∧ t.bit CLK_STAT_XOSTABLE = true ∧ t.get CLK_STAT_AONSRC = 1 ∧ t.get CLK_STAT_XORUN = 65536 ∧ t.get SEC_BOOTSTAT_STAGE = 3 ∧ t = { s with regs := t.regs, pwr := { s.pwr with up := t.pwr.up, aonBack := false } } ∧ SameWords ([CLK_STAT, SEC_BOOTSTAT] ++ (List.range 5).map CLK_DOM_STAT) s t) ∧
  (∀ (count : Nat) (s : State), s.bit CLK_STAT_XOSTABLE = false → s.xoWatched = true → (count < 4096 - 160 ∨ 4096 + 160 < count) → 
      ∃ t, exec (.xoWindowEnd count) s = .next t ∧ t.get CLK_STAT_XORUN = 0 ∧ t.bit CLK_FLAGS_XOWIN = true ∧ t = { s with regs := t.regs, msixPend := t.msixPend, out := t.out, pwr := { s.pwr with xoCut := false } } ∧ SameWords [CLK_STAT, CLK_FLAGS] s t) ∧
  (∀ (count : Nat) (s : State), s.bit CLK_STAT_XOSTABLE = false → s.xoWatched = true → 4096 - 160 ≤ count → count ≤ 4096 + 160 → s.pwr.xoCut = true → s.get SEC_BOOTSTAT_STAGE ≠ 2 → 
      ∃ t, exec (.xoWindowEnd count) s = .next t ∧ t.get CLK_STAT_XORUN ≤ 65536 ∧ t.get CLK_STAT_XORUN ≤ s.get CLK_STAT_XORUN + count ∧ t = { s with regs := t.regs, free := t.free, pwr := { s.pwr with xoCut := false } } ∧ SameWords [CLK_STAT] s t) ∧
  (∀ (count : Nat) (s : State), s.bit CLK_STAT_XOSTABLE = true → 4096 - 160 ≤ count → count ≤ 4096 + 160 → 
      exec (.xoWindowEnd count) s = .next s) ∧
  (∀ (s : State), s.get SEC_BOOTSTAT_STAGE = 2 → s.bit CLK_STAT_XOSTABLE = false → 65536 ≤ s.get CLK_STAT_XORUN + (4096 + 160) → 
      ∃ t, exec (.xoStable) s = .next t ∧ t.bit CLK_STAT_XOSTABLE = true ∧ t.get CLK_STAT_AONSRC = 1 ∧ t.get CLK_STAT_XORUN = 65536 ∧ t.get SEC_BOOTSTAT_STAGE = 3 ∧ t = { s with regs := t.regs, pwr := { s.pwr with up := t.pwr.up, aonBack := false } } ∧ SameWords ([CLK_STAT, SEC_BOOTSTAT] ++ (List.range 5).map CLK_DOM_STAT) s t) ∧
  (∀ (s : State), (s.get SEC_BOOTSTAT_STAGE ≠ 2 ∨ s.bit CLK_STAT_XOSTABLE = true ∨ s.get CLK_STAT_XORUN + (4096 + 160) < 65536) → 
      exec .xoStable s = .next s) ∧
  (∀ (s : State), s.cpllAcquires = true → s.get SEC_BOOTSTAT_STAGE ≠ 3 → 
      (let t := cpllLock s; exec (.cpllLock) s = .next t.planOn ∧ (s.bit PWR_STATE_BUSY = false → exec (.cpllLock) s = .next t) ∧ t.bit CLK_STAT_CPLLLOCK = true ∧ t = { s with regs := t.regs, pwr := { s.pwr with up := t.pwr.up } } ∧ SameWords (CLK_STAT :: (List.range 5).map CLK_DOM_STAT) s t)) ∧
  (∀ (s : State), s.cpllAcquires = true → s.get SEC_BOOTSTAT_STAGE = 3 → s.bit CLK_CTRL_LOCK = false → 
      (let t := cpllLock s; exec (.cpllLock) s = .next t.planOn ∧ (s.bit PWR_STATE_BUSY = false → exec (.cpllLock) s = .next t) ∧ t.bit CLK_STAT_CPLLLOCK = true ∧ (∀ d : Fin 5, t.get (CLK_DOM_CFG_SRC d) = 2 ∧ t.get (CLK_DOM_CFG_DIV d) = [1, 2, 4, 4, 5].getD d.val 0))) ∧
  (∀ (s : State), s.cpllAcquires = false → 
      exec .cpllLock s = .next s ∧ exec .cpllAcquisitionTimeout s = .next s) ∧
  (∀ (s : State), s.cpllAcquires = true → 
      ∃ t, exec (.cpllAcquisitionTimeout) s = .next t ∧ t.bit CLK_FLAGS_CPLLFAIL = true ∧ t.bit CLK_STAT_CPLLLOCK = false ∧ RegsIrq [CLK_FLAGS] s t) ∧
  (∀ (s : State), s.bit CLK_STAT_XOSTABLE = true → s.bit CLK_STAT_IRCOK = true → 
      ∃ t, exec (.ircFail) s = .next t ∧ t.bit CLK_FLAGS_IRCFAIL = true ∧ t.bit CLK_STAT_IRCOK = false ∧ (∀ d : Fin 5, s.get (CLK_DOM_STAT_SRCACT d) = 0 → t.bit (CLK_DOM_STAT_RUN d) = false) ∧ DailyIn 0x10 0 0 s t ∧ t.get SEC_RSTCAUSE_COUNT = s.get SEC_RSTCAUSE_COUNT ∧ t = { s with regs := t.regs, msixPend := t.msixPend, out := t.out, pwr := { s.pwr with up := t.pwr.up } } ∧ SameWords ([CLK_STAT, CLK_FLAGS] ++ (List.range 5).map CLK_DOM_STAT ++ dailyWords s) s t) ∧
  (∀ (src : Source) (d : Fin 5) (w : Word) (s : State), s.rowServed src (CLK_DOM_CFG d) true = true → s.bit (CLK_DOM_STAT_RUN d) = true → s.bit CLK_CTRL_LOCK = false → wbit w 31 = true → s.pwr.clk < 2 → s.sourceRuns (s.get (CLK_DOM_STAT_SRCACT d)) = true → s.get (CLK_DOM_STAT_DIVACT d) < 32 → min 2 (fld w 16 2) = s.get (CLK_DOM_STAT_SRCACT d) → 
      ∃ t, exec (.domainCfgWrite src d w) s = .next t ∧ t.bit (CLK_DOM_STAT_RUN d) = true ∧ t.get (CLK_DOM_STAT_SRCACT d) = s.get (CLK_DOM_STAT_SRCACT d) ∧ t.bit (CLK_DOM_STAT_SWITCHING d) = false ∧ t.bit (CLK_DOM_STAT_STEPPING d) = (s.pwr.up.contains d.val || decide (s.get (CLK_DOM_STAT_DIVACT d) ≠ max 1 (min 32 (fld w 0 6)))) ∧ t = { s with regs := t.regs, pwr := { s.pwr with up := t.pwr.up } } ∧ SameWords [CLK_DOM_CFG d, CLK_DOM_STAT d] s t) ∧
  (∀ (d : Fin 5) (s : State), s.bit (CLK_DOM_STAT_STEPPING d) = true → s.bit (CLK_DOM_STAT_RUN d) = true → s.sourceRuns (s.get (CLK_DOM_STAT_SRCACT d)) = true → s.get SEC_BOOTSTAT_STAGE ≠ 3 → s.pwr.up.contains d.val = false → s.domainOn d = true → s.get (CLK_DOM_STAT_SRCACT d) = s.wantSrc d → s.wantDiv d < s.get (CLK_DOM_STAT_DIVACT d) → 
      (let t := dividerStep s d; exec (.dividerStep d) s = .next t.planOn ∧ (s.bit PWR_STATE_BUSY = false → exec (.dividerStep d) s = .next t) ∧ t.get (CLK_DOM_STAT_DIVACT d) = s.get (CLK_DOM_STAT_DIVACT d) - 1 ∧ t.get (CLK_DOM_STAT_SRCACT d) = s.get (CLK_DOM_STAT_SRCACT d) ∧ (s.pwr.pll = s.pwr.clk → t = { s with regs := t.regs, pwr := { s.pwr with up := t.pwr.up } } ∧ SameWords [CLK_DOM_STAT d] s t))) ∧
  (∀ (d : Fin 5) (s : State), s.bit (CLK_DOM_STAT_STEPPING d) = true → s.bit (CLK_DOM_STAT_RUN d) = true → s.sourceRuns (s.get (CLK_DOM_STAT_SRCACT d)) = true → s.get SEC_BOOTSTAT_STAGE ≠ 3 → s.pwr.up.contains d.val = true → s.get (CLK_DOM_STAT_DIVACT d) < 32 → 
      (let t := dividerStep s d; exec (.dividerStep d) s = .next t.planOn ∧ (s.bit PWR_STATE_BUSY = false → exec (.dividerStep d) s = .next t) ∧ t.get (CLK_DOM_STAT_DIVACT d) = s.get (CLK_DOM_STAT_DIVACT d) + 1 ∧ (s.pwr.pll = s.pwr.clk → t.get (CLK_DOM_STAT_SRCACT d) = (if s.domainOn d = true ∧ s.get (CLK_DOM_STAT_DIVACT d) = 31 ∧ s.sourceRuns (s.wantSrc d) = true then s.wantSrc d else s.get (CLK_DOM_STAT_SRCACT d)) ∧ t = { s with regs := t.regs, pwr := { s.pwr with up := t.pwr.up } } ∧ SameWords [CLK_DOM_STAT d] s t))) ∧
  (∀ (d : Fin 5) (s : State), s.bit (CLK_DOM_STAT_STEPPING d) = false → 
      exec (.dividerStep d) s = .next s) ∧
  (∀ (d : Fin 6) (s : State), d.val = 5 → (s.bit CLK_STAT_XOSTABLE = true ∨ s.pwr.aonBack = true) → s.get SEC_BOOTSTAT_STAGE ≠ 3 → 
      ∃ t, exec (.forcedSwitch d) s = .next t ∧ t.get CLK_STAT_AONSRC = b2n (s.bit CLK_STAT_XOSTABLE) ∧ t.bit CLK_FLAGS_FORCED_SWITCH = true ∧ DailyIn 0x11 5 (if s.bit CLK_STAT_XOSTABLE = true then 256 else 1) s t ∧ (s.pwr.pll = s.pwr.clk → t = { s with regs := t.regs, msixPend := t.msixPend, out := t.out, pwr := { s.pwr with aonBack := false } } ∧ SameWords ([CLK_STAT, CLK_FLAGS] ++ dailyWords s) s t)) ∧
  (∀ (d : Fin 6) (s : State), (if d.val = 5 then s.bit CLK_STAT_XOSTABLE = false ∧ s.pwr.aonBack = false else s.bit (CLK_DOM_STAT_SWITCHING d) = false ∨ s.sourceRuns (s.wantSrc d) = false) → 
      exec (.forcedSwitch d) s = .next s) ∧
  (∀ (d : Fin 6) (s : State), d.val < 5 → s.bit (CLK_DOM_STAT_SWITCHING d) = true → s.sourceRuns (s.wantSrc d) = true → s.domainOn d = true → s.get SEC_BOOTSTAT_STAGE ≠ 3 → 
      (let t := forcedSwitch s d; exec (.forcedSwitch d) s = .next t.planOn ∧ (s.bit PWR_STATE_BUSY = false → exec (.forcedSwitch d) s = .next t) ∧ t.get (CLK_DOM_STAT_DIVACT d) = 32 ∧ t.get (CLK_DOM_STAT_SRCACT d) = s.wantSrc d ∧ t.bit (CLK_DOM_STAT_SWITCHING d) = false ∧ t.bit CLK_FLAGS_FORCED_SWITCH = true ∧ DailyIn 0x11 d (s.get (CLK_DOM_STAT_SRCACT d) + s.wantSrc d * 256) s t ∧ (s.pwr.pll = s.pwr.clk → t = { s with regs := t.regs, msixPend := t.msixPend, out := t.out, pwr := { s.pwr with up := t.pwr.up } } ∧ SameWords ([CLK_DOM_STAT d, CLK_FLAGS] ++ dailyWords s) s t))) ∧
  (∀ (block : Fin 89) (addr : BitVec 32) (s : State), block.val < 84 → s.get (PWR_PDSTAT_STATE block) = 5 → 
      ∃ t, exec (.gateTimeout block addr) s = .next t ∧ t.bit CLK_FLAGS_GATETO = true ∧ DailyIn 0x12 block addr.toNat s t ∧ t.get (PWR_PDSTAT_STATE block) = (if (s.pd block).target = some 0 then 4 else 5) ∧ t.free = s.free + 1) ∧
  (∀ (block : Fin 89) (addr : BitVec 32) (s : State), 84 ≤ block.val → s.domainOn (block - 84) = false → s.bit (CLK_DOM_STAT_RUN (block - 84)) = true → 
      ∃ t, exec (.gateTimeout block addr) s = .next t ∧ t.bit CLK_FLAGS_GATETO = true ∧ DailyIn 0x12 block addr.toNat s t ∧ s.free < t.free ∧ (block.val = 88 → ∀ p : Fin 16, t.bit (SPT_STAT_SLVSEL p) = false) ∧ (s.pwr.pll = s.pwr.clk → t.bit (CLK_DOM_STAT_RUN 4) = (if block.val = 88 then s.sourceRuns (s.get (CLK_DOM_STAT_SRCACT 4)) && (decide (s.get (CLK_DOM_STAT_DIVACT 4) < 32) || (List.range 16).any (fun p => s.bit (SPT_STAT_BUSY p))) else s.bit (CLK_DOM_STAT_RUN 4)))) ∧
  (∀ (block : Fin 89) (addr : BitVec 32) (s : State), ((if block.val < 84 then s.get (PWR_PDSTAT_STATE block) == 5 else !s.domainOn (block - 84) && s.bit (CLK_DOM_STAT_RUN (block - 84))) = false) → 
      exec (.gateTimeout block addr) s = .next s)

/-- CALREF_ABSENT clears PRESENT and INWIN and sets LOSS; returning edges set PRESENT; a window within 50 ppm with no
gap sets INWIN and shows its deviation, another sets WINFAIL. A write of CDRV of a held channel, or CDRV = 1 for a
member of a group, is refused with WREF; CDRV = 1 of a free channel releases NOGRP. CDRV_START starts the channel at
cycle 0, 256 T-clock cycles after the write. A DTC slew step that is due moves every entry by at most 16 toward its
target; a trim step moves FTRIM by at most FTSTEP toward its target and ends there. A tracker update in a window
with taint, open or closed since the last one, counts SKIP and only clamps the outputs; frozen or with the host as
tracker it changes no coefficient; with zero coefficients and the bias in bounds it keeps GC at the bias and learns
the signs; a DRIFT_SET that waits takes effect. DRIFT_SET waits for the next update, or finishes POWER_OFF,
BAD_PARAM or VALUE_RANGE. The model's choices here, which are no rule of the spec, by their log entries: refused
CDRV, DTC STEP without a cycle and DRIFT_SET (66), the window of a tracker and taint (106). -/
def Obligations.CalibrationDriveTrimAndTracking : Prop :=
  (∀ (s : State), s.bit CAL_REFCFG_EN = true → 
      ∃ t, exec (.calrefAbsent) s = .next t ∧ t.bit CAL_REFSTAT_PRESENT = false ∧ t.bit CAL_REFSTAT_INWIN = false ∧ t.bit CAL_REFSTAT_LOSS = true ∧ t.cal = { s.cal with gap := true, refFails := s.cal.refFails + 1 } ∧ t = { s with regs := t.regs, cal := t.cal } ∧ SameWords [CAL_REFSTAT] s t) ∧
  (∀ (s : State), s.bit CAL_REFCFG_EN = true → 
      ∃ t, exec (.calrefEdgesReturn) s = .next t ∧ t.bit CAL_REFSTAT_PRESENT = true ∧ RegsOnly [CAL_REFSTAT] s t) ∧
  (∀ (count : Nat) (s : State), s.bit CAL_REFCFG_EN = true → s.bit CAL_REFCFG_FREQ = true → 40958 ≤ count → count ≤ 40962 → s.cal.gap = false → 
      ∃ t, exec (.calrefWindowEnd count) s = .next t ∧ t.bit CAL_REFSTAT_INWIN = true ∧ t.geti CAL_REFSTAT_QDEV = (count : Int) - 40960 ∧ t.bit CAL_REFSTAT_WINFAIL = s.bit CAL_REFSTAT_WINFAIL ∧ RegsOnly [CAL_REFSTAT] s t) ∧
  (∀ (count : Nat) (s : State), s.bit CAL_REFCFG_EN = true → s.bit CAL_REFCFG_FREQ = false → (count < 409580 ∨ 409620 < count) → 
      ∃ t, exec (.calrefWindowEnd count) s = .next t ∧ t.bit CAL_REFSTAT_INWIN = false ∧ t.bit CAL_REFSTAT_WINFAIL = true ∧ t.cal = { s.cal with gap := false, refFails := s.cal.refFails + 1 } ∧ t = { s with regs := t.regs, cal := t.cal } ∧ SameWords [CAL_REFSTAT] s t) ∧
  (∀ (src : Source) (n : Fin 512) (w : Word) (s : State), s.rowServed src (CH_CALCTRL n) true = true → s.heldBars src n = false → wbit w 30 = true → s.bit (CH_CALCTRL_CDRV n) = false → s.bit (CH_GRP_MEMBER n) = true → 
      ∃ t, exec (.cdrvWrite src n w) s = .next t ∧ t.bit (CH_CALFLAGS_WREF n) = true ∧ t.word (CH_CALCTRL n) = s.word (CH_CALCTRL n) ∧ RegsOnly [CH_CALFLAGS n] s t) ∧
  (∀ (src : Source) (n : Fin 512) (w : Word) (s : State), s.rowServed src (CH_CALCTRL n) true = true → s.heldBars src n = false → wbit w 30 = true → s.bit (CH_CALCTRL_CDRV n) = true → 
      ∃ t, exec (.cdrvWrite src n w) s = .next t ∧ t.bit (CH_CALCTRL_CDRV n) = true ∧ RegsOnly [CH_CALCTRL n] s t) ∧
  (∀ (src : Source) (n : Fin 512) (w : Word) (s : State), s.rowServed src (CH_CALCTRL n) true = true → s.heldBars src n = false → wbit w 30 = true → s.bit (CH_CALCTRL_CDRV n) = false → s.bit (CH_GRP_MEMBER n) = false → 
      ∃ t, exec (.cdrvWrite src n w) s = .next t ∧ t.bit (CH_CALCTRL_CDRV n) = true ∧ t.cause n causeNogrp = false ∧ (t.chan n).drvAt = s.tbOf (n / 64) ∧ SameChans [n.val] s t) ∧
  (∀ (src : Source) (n : Fin 512) (w : Word) (s : State), s.rowServed src (CH_CALCTRL n) true = true → s.heldBars src n = true → 
      ∃ t, exec (.cdrvWrite src n w) s = .next t ∧ t.bit (CH_CALFLAGS_WREF n) = true ∧ RegsOnly [CH_CALFLAGS n] s t) ∧
  (∀ (n : Fin 512) (s : State), s.bit (CH_CALCTRL_CDRV n) = true → (s.chan n).cyc.on = false → s.bit (CH_GRP_MEMBER n) = false → s.clocked (n / 64) = true → 
      ∃ t, exec (.cdrvStart n) s = .next t ∧ (t.chan n).cyc.on = true ∧ (t.chan n).cyc.k = 0 ∧ (t.chan n).cyc.s = ((s.chan n).drvAt + 256) * 2 ^ 28 ∧ (t.chan n).cyc.drive = some (s.calRecord n) ∧ SameChans [n.val] s t) ∧
  (∀ (n : Fin 512) (s : State), (s.bit (CH_CALCTRL_CDRV n) = false ∨ (s.chan n).cyc.on = true ∨ s.bit (CH_GRP_MEMBER n) = true ∨ s.clocked (n / 64) = false) → 
      exec (.cdrvStart n) s = .next s) ∧
  (∀ (n : Fin 512) (s : State), s.dtcSlewDue n = true → 
      ∃ t, exec (.dtcSlewStep n) s = .next t ∧ (∀ i : Fin 32, t.get ⟨CH_DINLA n i, 0, 12⟩ = dtcMove (s.get ⟨CH_DINLA n i, 0, 12⟩) (s.get ⟨CH_DINLT n i, 0, 12⟩) ∧ t.get ⟨CH_DINLA n i, 16, 12⟩ = dtcMove (s.get ⟨CH_DINLA n i, 16, 12⟩) (s.get ⟨CH_DINLT n i, 16, 12⟩)) ∧ (t.chan n).dtcDone = true ∧ (t.chan n).dtcN = max 1 (s.get (CH_CALCTRL_N n)) ∧ (t.chan n).cyc = (s.chan n).cyc ∧ t = { s with regs := t.regs, chans := t.chans } ∧ SameChans [n.val] s t ∧ SameWords ((List.range 32).map (fun i => CH_DINLA n i)) s t) ∧
  (∀ (n : Fin 512) (s : State), s.dtcSlewDue n = false → 
      exec (.dtcSlewStep n) s = .next s) ∧
  (∀ (n : Fin 4) (v : Int) (s : State), (tabGet none s.cal.trim n) = some v → 
      ∃ t, exec (.ftrimSlewStep n) s = .next t ∧ (let q := s.geti (SYN_FTRIM_TRIM n) + satSym (max 1 (s.get CAL_FTSTEP_UNITS)) (v - s.geti (SYN_FTRIM_TRIM n)); (-(2 ^ 31) ≤ v → v < 2 ^ 31 → t.geti (SYN_FTRIM_TRIM n) = q) ∧ (tabGet none t.cal.trim n = none ↔ q = v)) ∧ (∀ m : Fin 4, m ≠ n → tabGet none t.cal.trim m = tabGet none s.cal.trim m) ∧ SameWords [SYN_FTRIM n] s t) ∧
  (∀ (n : Fin 4) (s : State), (tabGet none s.cal.trim n) = none → 
      exec (.ftrimSlewStep n) s = .next s) ∧
  (∀ (b : Fin 8) (tw : BitVec 16) (overlap : Bool) (mG mO : Int) (s : State), s.domOn (64 + b) = true → (s.trk b).want = [] → s.bit (BNK_TRKCTRL_FREEZE b) = false → s.bit GLB_MODE_DRIFTHOST = false → (overlap = true ∨ s.bit (BNK_STAT_TAINT b) = true ∨ (s.bank b).dist = true) → 
      ∃ t, exec (.trackerUpdate b tw overlap mG mO) s = .next t ∧ t.bit (BNK_TRKFLAGS_SKIP b) = true ∧ t.get (BNK_TRKSKIP_COUNT b) = min (s.get (BNK_TRKSKIP_COUNT b) + 1) (2 ^ (BNK_TRKSKIP_COUNT b).len - 1) ∧ t.get (BNK_TRKTEMP_T b) = tw.toNat ∧ t.word (BNK_TRKKG b) = s.word (BNK_TRKKG b) ∧
      t.geti (BNK_TRKOUT_GC b) = clampTo (s.geti (BNK_TRKGB_GLO b)) (s.geti (BNK_TRKGB_GHI b)) (s.geti (BNK_TRKOUT_GC b)) ∧ t.geti (BNK_TRKOUT_OC b) = clampTo (s.geti (BNK_TRKOB_OLO b)) (s.geti (BNK_TRKOB_OHI b)) (s.geti (BNK_TRKOUT_OC b)) ∧
      t = { s with regs := t.regs, cal := t.cal, banks := t.banks } ∧ SameBanks [b.val] s t ∧ SameWords [BNK_TRKFLAGS b, BNK_TRKSKIP b, BNK_TRKTEMP b, BNK_TRKOUT b] s t) ∧
  (∀ (b : Fin 8) (tw : BitVec 16) (overlap : Bool) (mG mO : Int) (s : State), s.domOn (64 + b) = false → 
      exec (.trackerUpdate b tw overlap mG mO) s = .next s) ∧
  (∀ (b : Fin 8) (tw : BitVec 16) (overlap : Bool) (mG mO : Int) (s : State), s.domOn (64 + b) = true → (s.trk b).want = [] → (s.bit (BNK_TRKCTRL_FREEZE b) = true ∨ s.bit GLB_MODE_DRIFTHOST = true) → 
      ∃ t, exec (.trackerUpdate b tw overlap mG mO) s = .next t ∧ t.word (BNK_TRKFLAGS b) = s.word (BNK_TRKFLAGS b) ∧ t.word (BNK_TRKKG b) = s.word (BNK_TRKKG b) ∧ t.word (BNK_TRKKO b) = s.word (BNK_TRKKO b) ∧ t.get (BNK_TRKTEMP_T b) = tw.toNat ∧ (t.bank b).dist = s.bit (BNK_STAT_TAINT b) ∧
      t = { s with regs := t.regs, cal := t.cal, banks := t.banks } ∧ SameBanks [b.val] s t ∧ SameWords [BNK_TRKTEMP b, BNK_TRKOUT b] s t) ∧
  (∀ (b : Fin 8) (tw : BitVec 16) (overlap : Bool) (mG mO g o : Int) (f : Nat) (c : Nat) (s : State), s.domOn (64 + b) = true → (s.trk b).want = [(f, c, g, o)] → s.bit GLB_MODE_DRIFTHOST = true → s.geti (BNK_TRKGB_GLO b) ≤ g → g ≤ s.geti (BNK_TRKGB_GHI b) → s.geti (BNK_TRKOB_OLO b) ≤ o → o ≤ s.geti (BNK_TRKOB_OHI b) → 
      ∃ t, exec (.trackerUpdate b tw overlap mG mO) s = .next t ∧ t.geti (BNK_TRKOUT_GC b) = g ∧ t.geti (BNK_TRKOUT_OC b) = o ∧ (t.trk b).want = []) ∧
  (∀ (b : Fin 8) (tw : BitVec 16) (mG mO : Int) (s : State), s.domOn (64 + b) = true → (s.trk b).want = [] → s.bit (BNK_TRKCTRL_FREEZE b) = false → s.bit GLB_MODE_DRIFTHOST = false → s.bit (BNK_STAT_TAINT b) = false → (s.bank b).dist = false → s.word (BNK_TRKKG b) = 0 → s.word (BNK_TRKKO b) = 0 → s.geti (BNK_TRKGB_GLO b) ≤ s.geti (BNK_TRKBIAS_BG b) → s.geti (BNK_TRKBIAS_BG b) ≤ s.geti (BNK_TRKGB_GHI b) → s.geti (BNK_TRKOB_OLO b) ≤ s.geti (BNK_TRKBIAS_BO b) → s.geti (BNK_TRKBIAS_BO b) ≤ s.geti (BNK_TRKOB_OHI b) → s.geti (BNK_TRKOUT_GC b) = s.geti (BNK_TRKBIAS_BG b) → 
      ∃ t, exec (.trackerUpdate b tw false mG mO) s = .next t ∧ t.geti (BNK_TRKOUT_GC b) = s.geti (BNK_TRKBIAS_BG b) ∧ t.geti (BNK_TRKKG_KGC b) = sgn mG * sgn ((s.get (BNK_DLLCW_CW b) : Int) - s.get (BNK_TRKREF_CW0 b)) ∧
      t.geti (BNK_TRKKO_KOC b) = sgn mO * sgn ((s.get (BNK_DLLCW_CW b) : Int) - s.get (BNK_TRKREF_CW0 b)) ∧ t = { s with regs := t.regs, cal := t.cal, banks := t.banks } ∧ SameBanks [b.val] s t ∧ SameWords [BNK_TRKKG b, BNK_TRKKO b, BNK_TRKTEMP b, BNK_TRKOUT b] s t) ∧
  (∀ (f : Fin 64) (c : Nat) (a b : List Cmd) (k : Cmd) (s : State), Runs s f c 0x0320 a b k → 8 ≤ (ent k.entry 20 1) → 
      ∃ t, exec (.driftSet f c) s = .next t ∧ CmdNow s t f a b (k.done Code.BAD_PARAM false false 0 0) ∧ t = { s with flows := t.flows }) ∧
  (∀ (f : Fin 64) (c : Nat) (a b : List Cmd) (k : Cmd) (s : State), Runs s f c 0x0320 a b k → (ent k.entry 20 1) < 8 → (s.domOn (64 + (ent k.entry 20 1)) = false ∨ s.bit GLB_MODE_DRIFTHOST = false) → 
      ∃ t, exec (.driftSet f c) s = .next t ∧ CmdNow s t f a b (k.done (if s.domOn (64 + (ent k.entry 20 1)) = false then Code.POWER_OFF else Code.BAD_PARAM) false false 0 0) ∧ t = { s with flows := t.flows }) ∧
  (∀ (f : Fin 64) (c : Nat) (a b : List Cmd) (k : Cmd) (s : State), Runs s f c 0x0320 a b k → (ent k.entry 20 1) < 8 → s.domOn (64 + (ent k.entry 20 1)) = true → s.bit GLB_MODE_DRIFTHOST = true → (clampTo (s.geti (BNK_TRKGB_GLO (ent k.entry 20 1))) (s.geti (BNK_TRKGB_GHI (ent k.entry 20 1))) (signed 16 (ent k.entry 22 2)) ≠ signed 16 (ent k.entry 22 2) ∨ clampTo (s.geti (BNK_TRKOB_OLO (ent k.entry 20 1))) (s.geti (BNK_TRKOB_OHI (ent k.entry 20 1))) (signed 16 (ent k.entry 24 2)) ≠ signed 16 (ent k.entry 24 2)) → 
      ∃ t, exec (.driftSet f c) s = .next t ∧ CmdNow s t f a b (k.done Code.VALUE_RANGE false false 0 0) ∧ t = { s with flows := t.flows }) ∧
  (∀ (f : Fin 64) (c : Nat) (a b : List Cmd) (k : Cmd) (s : State), Runs s f c 0x0320 a b k → (ent k.entry 20 1) < 8 → s.domOn (64 + (ent k.entry 20 1)) = true → s.bit GLB_MODE_DRIFTHOST = true → s.geti (BNK_TRKGB_GLO (ent k.entry 20 1)) ≤ signed 16 (ent k.entry 22 2) → signed 16 (ent k.entry 22 2) ≤ s.geti (BNK_TRKGB_GHI (ent k.entry 20 1)) → s.geti (BNK_TRKOB_OLO (ent k.entry 20 1)) ≤ signed 16 (ent k.entry 24 2) → signed 16 (ent k.entry 24 2) ≤ s.geti (BNK_TRKOB_OHI (ent k.entry 20 1)) → 
      ∃ t, exec (.driftSet f c) s = .next t ∧ (t.trk (ent k.entry 20 1)).want = (s.trk (ent k.entry 20 1)).want ++ [(f.val, c, signed 16 (ent k.entry 22 2), signed 16 (ent k.entry 24 2))] ∧ CmdNow s t f a b { k with st := .started } ∧ t = { s with flows := t.flows, cal := t.cal })

/-- LEDGER_EXPORT builds the sealed ledger of the values in force in the staging window and finishes with its length.
LEDGER_IMPORT of a staged image that passes every check brings it into force whole, and the trackers run from then
on; a wrong length finishes LEDGER_LENGTH. LEDGER_SAVE erases the folio not in use unless it is erased, programs the
ledger with the next serial number and its CRC, then its seal, leaves the other folio, or with PREERASE erases it,
and finishes with the serial; one that does not read back finishes LEDGER_FLASH; with LEDGERHOST it is HOST_MODE. A
save empties the read buffer of the execute-in-place window and waits while a frame or a fetch holds SPT0 (model
choice, log 144). An export has TIME 0 (log 68). While a run, an import or a save is in progress IMPORT and SAVE
finish CAL_BUSY. The model's choices here, which are no rule of the spec, by their log entries: TIME 0, one step and
the order of an erase (68), who owns the staging window (80), the wait for SPT0 (144). -/
def Obligations.LedgersAreExportedImportedAndSaved : Prop :=
  (∀ (f : Fin 64) (c : Nat) (a b : List Cmd) (k : Cmd) (s : State), Runs s f c 0x0310 a b k → 
      ∃ t, exec (.ledgerExport f c) s = .next t ∧ CmdNow s t f a b (k.done Code.OK false false 0 ledgerLen) ∧ t.staged ledgerLen = (sealed (s.ledgerBody 0 0)) ∧ t = { s with flows := t.flows, staging := t.staging }) ∧
  (∀ (f : Fin 64) (c : Nat) (a b : List Cmd) (k : Cmd) (s : State), Runs s f c 0x0311 a b k → s.calBusy f c = false → s.ledgerCheck (ent k.entry 20 4) (s.staged ledgerLen) = Code.OK → 
      ∃ t, exec (.ledgerImport f c) s = .next t ∧ CmdNow s t f a b (k.done Code.OK false false 0 0) ∧ t.cal.ledger = s.staged ledgerLen ∧ (∀ i : Fin 8, t.bit (BNK_TRKCTRL_FREEZE i) = false) ∧ t.staging = s.staging ∧ t.store = s.store) ∧
  (∀ (f : Fin 64) (c : Nat) (a b : List Cmd) (k : Cmd) (s : State), Runs s f c 0x0311 a b k → s.calBusy f c = false → ent k.entry 20 4 ≠ ledgerLen → 
      ∃ t, exec (.ledgerImport f c) s = .next t ∧ CmdNow s t f a b (k.done Code.LEDGER_LENGTH false false 0 0) ∧ t = { s with flows := t.flows }) ∧
  (∀ (f : Fin 64) (c : Nat) (a b : List Cmd) (k : Cmd) (s : State), Runs s f c 0x0312 a b k → s.calBusy f c = false → s.flashBusy = false → s.bit GLB_MODE_LEDGERHOST = false → s.bit CAL_CTRL_PREERASE = false → 
      ∃ t, exec (.ledgerSave f c true true) s = .next t ∧ CmdNow s t f a b (k.done Code.OK false false 0 (match s.newestFolio with | some i => (s.folioSerial i + 1) % 2 ^ 32 | none => 1)) ∧ t.folio s.saveTo = ⟨(if (s.folio s.saveTo).erased then (s.folio s.saveTo).img else []) ++ ((s.ledgerBody (ent k.entry 24 8) (match s.newestFolio with | some i => (s.folioSerial i + 1) % 2 ^ 32 | none => 1)) ++ leBytes 4 (crc32 (s.ledgerBody (ent k.entry 24 8) (match s.newestFolio with | some i => (s.folioSerial i + 1) % 2 ^ 32 | none => 1)))) ++ leBytes 4 (sealOf (crc32 (s.ledgerBody (ent k.entry 24 8) (match s.newestFolio with | some i => (s.folioSerial i + 1) % 2 ^ 32 | none => 1)))), false⟩ ∧
      t.folio (1 - s.saveTo) = s.folio (1 - s.saveTo) ∧
      t.out = [.flashWrite (folioBase s.saveTo + (if (s.folio s.saveTo).erased then (s.folio s.saveTo).img else []).length + ((s.ledgerBody (ent k.entry 24 8) (match s.newestFolio with | some i => (s.folioSerial i + 1) % 2 ^ 32 | none => 1)) ++ leBytes 4 (crc32 (s.ledgerBody (ent k.entry 24 8) (match s.newestFolio with | some i => (s.folioSerial i + 1) % 2 ^ 32 | none => 1)))).length) (leBytes 4 (sealOf (crc32 (s.ledgerBody (ent k.entry 24 8) (match s.newestFolio with | some i => (s.folioSerial i + 1) % 2 ^ 32 | none => 1))))), .flashWrite (folioBase s.saveTo + (if (s.folio s.saveTo).erased then (s.folio s.saveTo).img else []).length) ((s.ledgerBody (ent k.entry 24 8) (match s.newestFolio with | some i => (s.folioSerial i + 1) % 2 ^ 32 | none => 1)) ++ leBytes 4 (crc32 (s.ledgerBody (ent k.entry 24 8) (match s.newestFolio with | some i => (s.folioSerial i + 1) % 2 ^ 32 | none => 1))))] ++ (if (s.folio s.saveTo).erased then [] else (List.range 3).map (fun j => Output.flashErase (folioBase s.saveTo + 0x10000 * j))) ++ s.out ∧
      t.spt 0 = { s.spt 0 with lines := [] } ∧ SameSpts [0] s t ∧ t = { s with regs := t.regs, flows := t.flows, cal := t.cal, out := t.out, spts := t.spts } ∧ SameWords [CAL_FOLSTAT, CAL_SERA, CAL_SERB] s t) ∧
  (∀ (f : Fin 64) (c : Nat) (a b : List Cmd) (k : Cmd) (s : State), Runs s f c 0x0312 a b k → s.calBusy f c = false → s.flashBusy = false → s.bit GLB_MODE_LEDGERHOST = false → s.bit CAL_CTRL_PREERASE = true → 
      ∃ t, exec (.ledgerSave f c true true) s = .next t ∧ CmdNow s t f a b (k.done Code.OK false false 0 (match s.newestFolio with | some i => (s.folioSerial i + 1) % 2 ^ 32 | none => 1)) ∧ t.folio (1 - s.saveTo) = ⟨[], true⟩ ∧ t.folio s.saveTo = ⟨(if (s.folio s.saveTo).erased then (s.folio s.saveTo).img else []) ++ ((s.ledgerBody (ent k.entry 24 8) (match s.newestFolio with | some i => (s.folioSerial i + 1) % 2 ^ 32 | none => 1)) ++ leBytes 4 (crc32 (s.ledgerBody (ent k.entry 24 8) (match s.newestFolio with | some i => (s.folioSerial i + 1) % 2 ^ 32 | none => 1)))) ++ leBytes 4 (sealOf (crc32 (s.ledgerBody (ent k.entry 24 8) (match s.newestFolio with | some i => (s.folioSerial i + 1) % 2 ^ 32 | none => 1)))), false⟩ ∧
      t.spt 0 = { s.spt 0 with lines := [] } ∧ SameSpts [0] s t ∧ t = { s with regs := t.regs, flows := t.flows, cal := t.cal, out := t.out, spts := t.spts } ∧ SameWords [CAL_FOLSTAT, CAL_SERA, CAL_SERB] s t) ∧
  (∀ (f : Fin 64) (c : Nat) (a b : List Cmd) (k : Cmd) (s : State) (p q : Bool), Runs s f c 0x0312 a b k → s.calBusy f c = false → s.flashBusy = false → s.bit GLB_MODE_LEDGERHOST = false → (p && q) = false → 
      ∃ t, exec (.ledgerSave f c p q) s = .next t ∧ CmdNow s t f a b (k.done Code.LEDGER_FLASH false false 0 0) ∧ (t.folio s.saveTo).erased = false ∧ t.folio (1 - s.saveTo) = s.folio (1 - s.saveTo) ∧ t.spt 0 = { s.spt 0 with lines := [] } ∧ SameSpts [0] s t ∧ t = { s with regs := t.regs, flows := t.flows, cal := t.cal, out := t.out, spts := t.spts } ∧ SameWords [CAL_FOLSTAT, CAL_SERA, CAL_SERB] s t) ∧
  (∀ (f : Fin 64) (c : Nat) (a b : List Cmd) (k : Cmd) (s : State) (p q : Bool), Runs s f c 0x0312 a b k → s.calBusy f c = false → s.flashBusy = false → s.bit GLB_MODE_LEDGERHOST = true → 
      ∃ t, exec (.ledgerSave f c p q) s = .next t ∧ CmdNow s t f a b (k.done Code.HOST_MODE false false 0 0) ∧ t = { s with flows := t.flows }) ∧
  (∀ (f : Fin 64) (c : Nat) (a b : List Cmd) (k : Cmd) (s : State) (p q : Bool) (op : Nat), Runs s f c op a b k → s.calBusy f c = true → s.flashBusy = false → 
      ∀ x ∈ ([(Instr.ledgerImport f c, 0x0311), (.ledgerSave f c p q, 0x0312)] : List (Instr × Nat)), op = x.2 → ∃ t, exec x.1 s = .next t ∧ CmdNow s t f a b (k.done Code.CAL_BUSY false false 0 0) ∧ t = { s with flows := t.flows }) ∧
  (∀ (f : Fin 64) (c : Nat) (p q : Bool) (s : State), s.flashBusy = true → 
      exec (.ledgerSave f c p q) s = .next s)

/-- CAL_RUN over existing units whose preconditions hold, with no run, import or save in progress, starts pass 1:
RUNSTAT shows it, the channels are HELD and set for the family, the trackers of their banks frozen, what is to come
back is kept. Else it finishes BAD_PARAM, PARTITION, CAL_BUSY or the first failing precondition. A first pass that
fits its family, with its preconditions kept, leads to the second; after the second the run ends OK, DISAGREE or
FTRIM_RANGE, and agreeing event skews are applied. A tainted pass or a precondition that failed ends the run with
its code and releases its channels. CAL_NEXT drives the next channel of a drive-path pass and stops the one before;
with none to release it is IGNORED; where REF is not quiet, both end PRECOND_ACTIVITY. CAL_SUBMIT of values that fit
applies every event skew marked valid and finishes OK; else BAD_PARAM or VALUE_RANGE. The model's choices here,
which are no rule of the spec, by their log entries: units and their checks (67), the form of raw data (116), the
settings of a run (117), the take of a pass and the extremes of R300 (138), overlap before the buffer is read (131). -/
def Obligations.CalibrationRuns : Prop :=
  (∀ (f : Fin 64) (c : Nat) (a b : List Cmd) (k : Cmd) (s : State) (buf : List Byte) (fam ref : Nat) (sc units : List (Nat × Int)) (chans : List Nat), Runs s f c 0x0300 a b k → s.dmaOn = true → bufOk k.entry (8 * ent k.entry 28 2) = true → ent k.entry 20 1 = fam → ent k.entry 22 2 = ref → (calScope (ent k.entry 28 2) (buf.map (fun x : Byte => x.toNat)) = sc) → ((if (fam = 4 ∨ fam = 5) ∧ sc.all (fun u => u.1 != ref) = true then (ref, 0) :: sc else sc) = units) → calChansOf fam ref units = chans → calScopeOk fam ref (ent k.entry 24 4) sc = true → ((sc.all (fun u => fam == 6 || s.chanIn f u.1)) = true) → s.calBusy f c = false → s.calCheck fam ref (ent k.entry 24 4) chans = Code.OK → 
      ∃ t, exec (.calRun f c buf) s = .next t ∧ t.cal.run = some { f := f, c := c, fam := fam, ref := ref, units := units, chans := chans, rate := ent k.entry 24 4, pass := 1, first := [], step := 0, host := s.bit GLB_MODE_CALHOST, freeze := (calBanks chans).map (fun b => (b, s.get (BNK_TRKCTRL_FREEZE b))), saved := (chans.flatMap calSaved).map (fun a => (a, s.word a)), refMark := s.cal.refFails, marks := s.clockMarks chans, takes := chans.flatMap (s.calTake fam) } ∧
      t.calChans = chans ∧ t.get CAL_RUNSTAT_STATE = 2 ∧ t.get CAL_RUNSTAT_FAMILY = fam ∧ (∀ n ∈ chans, t.bit (CH_CALSTAT_HELD n) = true) ∧ (∀ i ∈ calBanks chans, t.bit (BNK_TRKCTRL_FREEZE i) = true) ∧ CmdNow s t f a b { k with st := .started } ∧
      (fam = 1 → ∀ n ∈ chans, t.get (CH_EVCFG_SRC n) = 2 ∧ t.get (CH_EVCFG_EDGE n) = 0 ∧ t.bit (RG_CFG_EN n) = true ∧ t.get (RG_CFG_DECIM n) = 0) ∧
      (fam = 2 → ∀ n ∈ chans, t.get (CH_EVCFG_SRC n) = 2 ∧ t.get (CH_EVCFG_EDGE n) = 2 ∧ t.bit (CH_CALCTRL_HIST n) = true) ∧
      (fam = 3 → ∀ n ∈ chans, t.get (CH_EVCFG_SRC n) = 1 ∧ t.get (CH_EVCFG_EDGE n) = 0 ∧ t.bit (CH_CALCTRL_CDRV n) = true ∧ t.calRecord n = dtcRecord) ∧
      (3 < fam → t = { s with regs := t.regs, caps := t.caps, banks := t.banks, calChans := t.calChans, cal := t.cal, flows := t.flows } ∧ SameCaps chans s t ∧ SameBanks (calBanks chans) s t) ∧
      t = { s with regs := t.regs, free := t.free, banks := t.banks, chans := t.chans, caps := t.caps, takes := t.takes, out := t.out, msixPend := t.msixPend, calChans := t.calChans, cal := t.cal, flows := t.flows }) ∧
  (∀ (f : Fin 64) (c : Nat) (a b : List Cmd) (k : Cmd) (s : State) (buf : List Byte) (fam ref : Nat) (sc units : List (Nat × Int)) (chans : List Nat), Runs s f c 0x0300 a b k → s.dmaOn = true → bufOk k.entry (8 * ent k.entry 28 2) = true → ent k.entry 20 1 = fam → ent k.entry 22 2 = ref → (calScope (ent k.entry 28 2) (buf.map (fun x : Byte => x.toNat)) = sc) → ((if (fam = 4 ∨ fam = 5) ∧ sc.all (fun u => u.1 != ref) = true then (ref, 0) :: sc else sc) = units) → calChansOf fam ref units = chans → calScopeOk fam ref (ent k.entry 24 4) sc = true → ((sc.all (fun u => fam == 6 || s.chanIn f u.1)) = true) → s.calBusy f c = false → s.calCheck fam ref (ent k.entry 24 4) chans ≠ Code.OK → 
      ∃ t, exec (.calRun f c buf) s = .next t ∧ CmdNow s t f a b (k.done (s.calCheck fam ref (ent k.entry 24 4) chans) false false 0 0) ∧ t.get CAL_RUNSTAT_STATE = 0 ∧ t.get CAL_RUNSTAT_CODE = s.calCheck fam ref (ent k.entry 24 4) chans ∧ t = { s with regs := t.regs, flows := t.flows } ∧ SameWords [CAL_RUNSTAT] s t) ∧
  (∀ (f : Fin 64) (c : Nat) (a b : List Cmd) (k : Cmd) (s : State) (buf : List Byte) (fam ref : Nat) (sc units : List (Nat × Int)) (chans : List Nat), Runs s f c 0x0300 a b k → s.dmaOn = true → bufOk k.entry (8 * ent k.entry 28 2) = true → ent k.entry 20 1 = fam → ent k.entry 22 2 = ref → (calScope (ent k.entry 28 2) (buf.map (fun x : Byte => x.toNat)) = sc) → ((if (fam = 4 ∨ fam = 5) ∧ sc.all (fun u => u.1 != ref) = true then (ref, 0) :: sc else sc) = units) → calChansOf fam ref units = chans → calScopeOk fam ref (ent k.entry 24 4) sc = true → ((sc.all (fun u => fam == 6 || s.chanIn f u.1)) = true) → s.calBusy f c = true → 
      ∃ t, exec (.calRun f c buf) s = .next t ∧ CmdNow s t f a b (k.done Code.CAL_BUSY false false 0 0) ∧ t = { s with flows := t.flows }) ∧
  (∀ (f : Fin 64) (c : Nat) (a b : List Cmd) (k : Cmd) (s : State) (buf : List Byte) (fam ref : Nat) (sc units : List (Nat × Int)) (chans : List Nat), Runs s f c 0x0300 a b k → s.dmaOn = true → bufOk k.entry (8 * ent k.entry 28 2) = true → ent k.entry 20 1 = fam → ent k.entry 22 2 = ref → (calScope (ent k.entry 28 2) (buf.map (fun x : Byte => x.toNat)) = sc) → ((if (fam = 4 ∨ fam = 5) ∧ sc.all (fun u => u.1 != ref) = true then (ref, 0) :: sc else sc) = units) → calChansOf fam ref units = chans → calScopeOk fam ref (ent k.entry 24 4) sc = true → ((sc.all (fun u => fam == 6 || s.chanIn f u.1)) = false) → 
      ∃ t, exec (.calRun f c buf) s = .next t ∧ CmdNow s t f a b (k.done Code.PARTITION false false 0 0) ∧ t = { s with flows := t.flows }) ∧
  (∀ (f : Fin 64) (c : Nat) (a b : List Cmd) (k : Cmd) (s : State) (buf : List Byte), Runs s f c 0x0300 a b k → s.dmaOn = true → (bufOk k.entry (8 * ent k.entry 28 2) = false ∨ calScopeOk (ent k.entry 20 1) (ent k.entry 22 2) (ent k.entry 24 4) (calScope (ent k.entry 28 2) (buf.map (fun x : Byte => x.toNat))) = false) → 
      ∃ t, exec (.calRun f c buf) s = .next t ∧ CmdNow s t f a b (k.done Code.BAD_PARAM false false 0 0) ∧ t = { s with flows := t.flows }) ∧
  (∀ (f : Fin 64) (c : Nat) (a b : List Cmd) (k : Cmd) (s : State) (r : CalRun), Runs s f c 0x0301 a b k → s.cal.run = some r → r.fam = 5 → r.step < r.units.length → s.calActivity 5 r.ref 0 [] = true → s.bit (CH_GRP_MEMBER (r.unit r.step)) = false → 
      ∃ t, exec (.calNext f c) s = .next t ∧ CmdNow s t f a b (k.done Code.OK false false 0 (r.step + 1)) ∧ t.cal = { s.cal with run := some { r with step := r.step + 1 } } ∧ t.bit (CH_CALCTRL_CDRV (r.unit r.step)) = true ∧
      (r.step ≠ 0 → r.unit (r.step - 1) ≠ (r.unit r.step) → t.bit (CH_CALCTRL_CDRV (r.unit (r.step - 1))) = false) ∧
      t = { s with regs := t.regs, chans := t.chans, flows := t.flows, cal := t.cal } ∧ SameChans [(r.unit r.step), r.unit (r.step - 1)] s t) ∧
  (∀ (f : Fin 64) (c : Nat) (a b : List Cmd) (k : Cmd) (s : State), Runs s f c 0x0301 a b k → (s.cal.run = none ∨ s.cal.run.any (fun r => decide (r.fam ≠ 5 ∨ r.units.length ≤ r.step)) = true) → 
      ∃ t, exec (.calNext f c) s = .next t ∧ CmdNow s t f a b (k.done Code.IGNORED false false 0 0) ∧ t = { s with flows := t.flows }) ∧
  (∀ (f : Fin 64) (c : Nat) (a b : List Cmd) (k : Cmd) (s : State) (r : CalRun), Runs s f c 0x0301 a b k → s.cal.run = some r → r.fam = 5 → r.step < r.units.length → s.calActivity 5 r.ref 0 [] = false → r.f ≠ f → 
      ∃ t, exec (.calNext f c) s = .next t ∧ (t.flow f) = { s.flow f with cmds := a ++ k.done Code.PRECOND_ACTIVITY false false 0 0 :: b } ∧ SameFlows [f, r.f] s t ∧ t.cal.run = none ∧ t.calChans = [] ∧ t.get CAL_RUNSTAT_STATE = 0 ∧ t.get CAL_RUNSTAT_FAMILY = r.fam % 8 ∧ t.get CAL_RUNSTAT_CODE = Code.PRECOND_ACTIVITY) ∧
  (∀ (tainted active : Bool) (vals : List (List Int)) (refs : List (Nat × Int)) (r : CalRun) (a b : List Cmd) (k : Cmd) (s : State), s.cal.run = some r → (s.flow r.f).cmds = a ++ k :: b → (∀ x ∈ a ++ b, x.id ≠ r.c) → k.id = r.c → k.st = .started → k.orphan = false → (tainted = true ∨ s.calKept r ≠ Code.OK ∨ active = false) → 
      ∃ t, exec (.calPassDone tainted active vals refs) s = .next t ∧ CmdNow s t r.f a b (k.done (t.get CAL_RUNSTAT_CODE) false false 0 0) ∧ t.cal.run = none ∧ t.calChans = [] ∧ t.get CAL_RUNSTAT_STATE = 0 ∧ t.get CAL_RUNSTAT_FAMILY = r.fam % 8 ∧
      t.get CAL_RUNSTAT_CODE = (if tainted then Code.PRECOND_LOCK else if s.calKept r ≠ Code.OK then s.calKept r else if r.fam = 6 then Code.PRECOND_LOCK else Code.PRECOND_ACTIVITY) ∧
      (r.saved.all (fun q => r.chans.any (fun n => (calSaved n).contains q.1)) = true → ∀ n ∈ r.chans, t.bit (CH_CALSTAT_HELD n) = false) ∧ t = { s with regs := t.regs, free := t.free, banks := t.banks, chans := t.chans, caps := t.caps, takes := t.takes, out := t.out, msixPend := t.msixPend, calChans := t.calChans, cal := t.cal, flows := t.flows }) ∧
  (∀ (vals : List (List Int)) (refs : List (Nat × Int)) (r : CalRun) (s : State), s.cal.run = some r → s.calKept r = Code.OK → r.fits vals = true → r.pass = 1 → (r.fam ≠ 5 ∨ r.step = r.units.length) → 
      ∃ t, exec (.calPassDone false true vals refs) s = .next t ∧ t.cal = { s.cal with run := some { r with pass := 2, first := vals, step := 0 } } ∧ t.get CAL_RUNSTAT_STATE = 3 ∧
      (r.fam ≠ 5 → t = { s with regs := t.regs, caps := t.caps, cal := t.cal } ∧ SameWords [CAL_RUNSTAT] s t) ∧ t = { s with regs := t.regs, chans := t.chans, caps := t.caps, cal := t.cal } ∧ SameCaps r.chans s t) ∧
  (∀ (vals : List (List Int)) (refs : List (Nat × Int)) (r : CalRun) (s : State), s.cal.run = some r → s.calKept r = Code.OK → r.fits vals = true → r.pass ≠ 1 → (r.fam ≠ 5 ∨ r.step = r.units.length) → (r.fam ≠ 3 ∨ r.host = true ∨ s.refsFit (calBanks r.chans) refs = true) → 
      ∃ t, exec (.calPassDone false true vals refs) s = .next t ∧ t.cal.run = none ∧ t.calChans = [] ∧ t.get CAL_RUNSTAT_STATE = 0 ∧ t.get CAL_RUNSTAT_FAMILY = r.fam % 8 ∧
      t.get CAL_RUNSTAT_CODE = (if r.host then Code.OK else if (s.calHist r vals).disagree r ((s.calHist r vals).calResult r r.first) ((s.calHist r vals).calResult r vals) ≠ [] then Code.DISAGREE
        else if (s.calHist r vals).trimRange r (List.zipWith (fun x y => List.zipWith fracMean x y) ((s.calHist r vals).calResult r r.first) ((s.calHist r vals).calResult r vals)) then Code.FTRIM_RANGE else Code.OK) ∧
      t.store = s.store ∧ t.groups = s.groups ∧ SameFlows [r.f] s t) ∧
  (∀ (p q m : Int) (vals : List (List Int)) (refs : List (Nat × Int)) (r : CalRun) (n : Fin 512) (s : State), s.cal.run = some r → s.calKept r = Code.OK → r.fits vals = true → r.pass = 2 → r.fam = 4 → r.host = false → r.units = [(r.ref, p), (n, q)] → n ≠ r.ref → vals = [List.replicate 65536 0, List.replicate 65536 m] → r.first = vals → (r.saved.all (fun x => [r.ref, n].any (fun i => (calSaved i).contains x.1)) = true) → 
      ∃ t, exec (.calPassDone false true vals refs) s = .next t ∧ t.get CAL_RUNSTAT_CODE = Code.OK ∧ (p = q → m = 100 → s.geti (CH_EVSKEW_SKEW n) = s.geti (CH_EVSKEW_SKEW r.ref) → t.geti (CH_EVSKEW_SKEW n) = 100) ∧ t.get (CH_CALSTAT_VALID n) / 4 % 2 = 1) ∧
  (∀ (vals : List (List Int)) (refs : List (Nat × Int)) (r : CalRun) (s : State), s.cal.run = some r → s.calKept r = Code.OK → (r.fits vals = false ∨ (r.fam = 5 ∧ r.step ≠ r.units.length) ∨ (r.fam = 3 ∧ r.pass ≠ 1 ∧ r.host = false ∧ s.refsFit (calBanks r.chans) refs = false)) → 
      exec (.calPassDone false true vals refs) s = .next s) ∧
  (∀ (tainted active : Bool) (vals : List (List Int)) (refs : List (Nat × Int)) (s : State), s.cal.run = none → 
      exec (.calPassDone tainted active vals refs) s = .next s) ∧
  (∀ (f : Fin 64) (c : Nat) (a b : List Cmd) (k : Cmd) (s : State) (buf : List Byte), Runs s f c 0x0302 a b k → s.dmaOn = true → bufOk k.entry ledgerLen = true → (submitFits 512 ((buf.map (fun x : Byte => x.toNat)).drop 0x200) = true) → 
      ∃ t, exec (.calSubmit f c buf) s = .next t ∧ CmdNow s t f a b (k.done Code.OK false false 0 0) ∧ (∀ n : Fin 512, imgAt (buf.map (fun x : Byte => x.toNat)) (0x200 + 304 * n.val + 2) 1 / 4 % 2 = 1 →
        t.geti (CH_EVSKEW_SKEW n) = signed 32 (imgAt (buf.map (fun x : Byte => x.toNat)) (0x200 + 304 * n.val + 8) 4) ∧ t.get (CH_CALSTAT_VALID n) / 4 % 2 = 1) ∧ t.store = s.store ∧ t.takes = s.takes) ∧
  (∀ (f : Fin 64) (c : Nat) (a b : List Cmd) (k : Cmd) (s : State) (buf : List Byte), Runs s f c 0x0302 a b k → s.dmaOn = true → (bufOk k.entry ledgerLen = false ∨ submitFits 512 ((buf.map (fun x : Byte => x.toNat)).drop 0x200) = false) → 
      ∃ t, exec (.calSubmit f c buf) s = .next t ∧ CmdNow s t f a b (k.done (if bufOk k.entry ledgerLen then Code.VALUE_RANGE else Code.BAD_PARAM) false false 0 0) ∧ t = { s with flows := t.flows })

/-- PMB_ENABLE clears what was present and queues the initialisation of every valid slot; disabling drops the queue. A
poll queues STATUS_WORD and READ_VOUT of every slot, and on an idle bus the first goes out. SMBALERT reads the alert
response address. A READ_VOUT is latched; a failure counts and is retried; the third makes the slot silent, with
NORESP and an entry of the dailies. A STATUS_WORD with a fault sets FAULT and is followed by the reads of its three
bytes, the last of which enters the dailies. An update takes the bounds as written (model choice of the moment, log
63); in band it keeps V; with too little slack it raises V by UP and sends VOUT_COMMAND; URGENT_RAISE raises at
once, within the bounds of the last update. AVS_SET in host mode within the bounds sets V and queues VOUT_COMMAND
next after the transaction on the bus, or with no slot to tell finishes; outside it is VALUE_RANGE. PMB_RAW queues
its transaction, or is BAD_PARAM. The model's choices here, which are no rule of the spec, by their log entries: the
STATUS_WORD (62, PRESUMED), failures, enables and the moment of the bounds (63). -/
def Obligations.RegulatorsAndAdaptiveVoltage : Prop :=
  (∀ (src : Source) (w : Word) (s : State), s.rowServed src PMB_CTRL true = true → s.bit PMB_CTRL_EN = false → wbit w 0 = true → s.bit PMB_CTRL_LOCK = false → 
      ∃ t, exec (.pmbEnable src w) s = .next t ∧ t.bit PMB_CTRL_EN = true ∧ t.get PMB_STAT_PRESENT = 0 ∧ (∀ r : Fin 8, t.bit (PMBR_STAT_PRESENT r) = false) ∧ t.pmb.q = s.pmb.q ++ s.slots.flatMap (fun r => [pmTx r 1 0x98 0 .init, pmTx r 1 0x20 0 .init, pmTx r 0 0x03 0 .init, pmTx r 2 0x79 0 .init, pmTx r 2 0x8B 0 .init]) ∧ t = { s with regs := t.regs, pmb := t.pmb, out := t.out } ∧ SameWords ([PMB_CTRL, PMB_STAT] ++ (List.range 8).map PMBR_STAT) s t) ∧
  (∀ (src : Source) (w : Word) (s : State), s.rowServed src PMB_CTRL true = true → s.bit PMB_CTRL_EN = true → wbit w 0 = false → s.bit PMB_CTRL_LOCK = false → (s.pmb.q.all (fun x => x.why.cmd.isNone) = true) → 
      ∃ t, exec (.pmbEnable src w) s = .next t ∧ t.bit PMB_CTRL_EN = false ∧ t.pmb = { s.pmb with q := [] } ∧ t.bit PMB_STAT_BUSY = false ∧ t = { s with regs := t.regs, pmb := t.pmb } ∧ SameWords [PMB_CTRL, PMB_STAT] s t) ∧
  (∀ (r : Nat) (s : State), r < 8 → s.bit PMB_CTRL_EN = true → s.slots = [r] → s.pmb.q = [] → s.pinsCut = false → 
      ∃ t, exec (.pmbPoll) s = .next t ∧ t.pmb.q = [pmTx r 2 0x79 0 .poll, pmTx r 2 0x8B 0 .poll] ∧ t.bit PMB_STAT_BUSY = true ∧ t.out = .pmbus (s.get (PMBR_CFG_ADDR r)) 2 0x79 0 (s.bit (PMBR_CFG_PEC r)) [2 * s.get (PMBR_CFG_ADDR r), 0x79, 2 * s.get (PMBR_CFG_ADDR r) + 1] :: s.out ∧ t = { s with regs := t.regs, pmb := t.pmb, out := t.out } ∧ SameWords [PMB_STAT] s t) ∧
  (∀ (s : State), s.bit PMB_CTRL_EN = true → 
      ∃ t, exec (.pmbPoll) s = .next t ∧ t.pmb.q = s.pmb.q ++ s.slots.flatMap (fun r => [pmTx r 2 0x79 0 .poll, pmTx r 2 0x8B 0 .poll]) ∧ t = { s with regs := t.regs, pmb := t.pmb, out := t.out } ∧ SameWords [PMB_STAT] s t) ∧
  (∀ (s : State), s.pinsCut = false → s.bit PMB_STAT_ALERT = false → s.bit PMB_CTRL_EN = true → s.pmb.q = [] → 
      ∃ t, exec (.smbalert true) s = .next t ∧ t.bit PMB_STAT_ALERT = true ∧ t.pmb.q = [pmTx araSlot 1 0 0 .alert] ∧ t.out = .pmbus 0x0C 1 0 0 false [0x19] :: s.out ∧ t = { s with regs := t.regs, pmb := t.pmb, out := t.out } ∧ SameWords [PMB_STAT] s t) ∧
  (∀ (s : State), s.pinsCut = false → 
      ∃ t, exec (.smbalert false) s = .next t ∧ t.bit PMB_STAT_ALERT = false ∧ RegsOnly [PMB_STAT] s t) ∧
  (∀ (v : BitVec 16) (x : PmTx) (s : State), s.pinsCut = false → s.pmb.q = [x] → x.why = .poll → x.cmd = 0x8B → x.slot < 8 → 
      ∃ t, exec (.pmbusTransactionDone false v) s = .next t ∧ t.get (PMBR_VOUT_VOUT x.slot) = v.toNat ∧ t.pmb.q = [] ∧ t.bit PMB_STAT_BUSY = false ∧ t = { s with regs := t.regs, pmb := t.pmb } ∧ SameWords [PMBR_VOUT x.slot, PMB_STAT] s t) ∧
  (∀ (v : BitVec 16) (x : PmTx) (s : State), s.pinsCut = false → s.pmb.q = [x] → x.why = .poll → x.cmd = 0x79 → x.slot < 8 → v.toNat ≠ 0 → v.toNat ≠ 128 → 
      ∃ t, exec (.pmbusTransactionDone false v) s = .next t ∧ t.get (PMBR_STAT_STATUS x.slot) = v.toNat ∧ t.bit PMB_FLAGS_FAULT = true ∧ t.pmb.q = [pmTx x.slot 1 0x7A 0 (.fault v.toNat [])] ∧ t.bit PMB_STAT_BUSY = true ∧ t = { s with regs := t.regs, pmb := t.pmb, out := t.out, msixPend := t.msixPend } ∧ SameWords [PMBR_STAT x.slot, PMB_STAT, PMB_FLAGS] s t) ∧
  (∀ (v : BitVec 16) (x : PmTx) (st b1 b2 : Nat) (s : State), s.pinsCut = false → s.pmb.q = [x] → x.why = .fault st [b1, b2] → x.cmd = 0x7D → x.slot < 8 → 
      ∃ t, exec (.pmbusTransactionDone false v) s = .next t ∧ DailyIn 0x20 (s.get (PMBR_CFG_ADDR x.slot)) (st % 2 ^ 16 + 2 ^ 16 * ofLe [b1, b2, v.toNat % 256]) s t ∧ t.pmb.q = [] ∧ t.bit PMB_STAT_BUSY = false ∧ t = { s with regs := t.regs, pmb := t.pmb, out := t.out, msixPend := t.msixPend } ∧ SameWords ([PMB_STAT] ++ dailyWords s) s t) ∧
  (∀ (v : BitVec 16) (x : PmTx) (s : State), s.pmb.q = [x] → x.slot < 8 → x.fails < 2 → 
      ∃ t, exec (.pmbusTransactionDone true v) s = .next t ∧ t.pmb.q = [{ x with fails := x.fails + 1 }] ∧ t.get (PMBR_ERRCNT_COUNT x.slot) = min (s.get (PMBR_ERRCNT_COUNT x.slot) + 1) (2 ^ (PMBR_ERRCNT_COUNT x.slot).len - 1) ∧ t.bit PMB_STAT_BUSY = true ∧ t = { s with regs := t.regs, pmb := t.pmb, out := t.out } ∧ SameWords [PMBR_ERRCNT x.slot, PMB_STAT] s t) ∧
  (∀ (v : BitVec 16) (x : PmTx) (s : State), s.pmb.q = [x] → x.slot < 8 → 2 ≤ x.fails → x.why = .poll → 
      ∃ t, exec (.pmbusTransactionDone true v) s = .next t ∧ t.pmb.q = [] ∧ t.bit (PMBR_STAT_NORESP x.slot) = true ∧ t.bit PMB_FLAGS_NORESP = true ∧ DailyIn 0x21 x.slot x.cmd s t ∧ t = { s with regs := t.regs, pmb := t.pmb, out := t.out, msixPend := t.msixPend } ∧ SameWords ([PMBR_ERRCNT x.slot, PMBR_STAT x.slot, PMB_STAT, PMB_FLAGS] ++ dailyWords s) s t) ∧
  (∀ (m : BitVec 6) (s : State), s.avsRuns = true → s.pmb.q = [] → s.pmb.known = true → 680 ≤ s.get PMB_AVSBND_VLO → s.get PMB_AVSBND_VHI ≤ 820 → s.get PMB_AVSBND_VLO ≤ s.get PMB_AVSOUT_VSET → s.get PMB_AVSOUT_VSET ≤ s.get PMB_AVSBND_VHI → s.get PMB_AVSMARG_MLO ≤ m.toNat → m.toNat ≤ s.get PMB_AVSMARG_MHI → 
      ∃ t, exec (.avsUpdate m) s = .next t ∧ t.get PMB_AVSOUT_VSET = s.get PMB_AVSOUT_VSET ∧ t.get PMB_AVSOUT_MARGIN = m.toNat ∧ t.pmb.lo = s.get PMB_AVSBND_VLO ∧ t.pmb.hi = s.get PMB_AVSBND_VHI ∧ t.pmb.q = [] ∧ t = { s with regs := t.regs, pmb := t.pmb } ∧ SameWords [PMB_AVSOUT] s t) ∧
  (∀ (m : BitVec 6) (s : State), s.avsRuns = true → s.pmb.q = [] → s.pmb.known = true → 680 ≤ s.get PMB_AVSBND_VLO → s.get PMB_AVSBND_VHI ≤ 820 → s.get PMB_AVSBND_VLO ≤ s.get PMB_AVSOUT_VSET → s.get PMB_AVSOUT_VSET ≤ s.get PMB_AVSBND_VHI → m.toNat < s.get PMB_AVSMARG_MLO → s.get PMB_AVSOUT_VSET + max 1 (s.get PMB_AVSCTRL_UP) ≤ s.get PMB_AVSBND_VHI → 
      ∃ t, exec (.avsUpdate m) s = .next t ∧ t.get PMB_AVSOUT_VSET = s.get PMB_AVSOUT_VSET + max 1 (s.get PMB_AVSCTRL_UP) ∧ t.pmb.q = s.voutTo (s.get PMB_AVSOUT_VSET + max 1 (s.get PMB_AVSCTRL_UP)) .avs ∧ t = { s with regs := t.regs, pmb := t.pmb, out := t.out } ∧ SameWords [PMB_AVSOUT, PMB_STAT] s t) ∧
  (∀ (m : BitVec 6) (s : State), s.urgentOk m.toNat = true → s.pmb.q = [] → s.pmb.lo ≤ s.get PMB_AVSOUT_VSET → s.get PMB_AVSOUT_VSET + max 1 (s.get PMB_AVSCTRL_UP) ≤ s.pmb.hi → s.pmb.hi ≤ 820 → 
      ∃ t, exec (.urgentRaise m) s = .next t ∧ t.get PMB_AVSOUT_VSET = s.get PMB_AVSOUT_VSET + max 1 (s.get PMB_AVSCTRL_UP) ∧ t.pmb.urgent = some (s.get PWR_AONNOW_US) ∧ t = { s with regs := t.regs, pmb := t.pmb, out := t.out } ∧ SameWords [PMB_AVSOUT, PMB_STAT] s t) ∧
  (∀ (f : Fin 64) (c : Nat) (a b : List Cmd) (k : Cmd) (s : State), Runs s f c 0x0501 a b k → s.bit GLB_MODE_AVSHOST = true → s.vlo ≤ ent k.entry 20 2 → ent k.entry 20 2 ≤ s.vhi → s.pmbReady = true → s.voutTo (ent k.entry 20 2) (.set f c) = [] → 
      ∃ t, exec (.avsSet f c) s = .next t ∧ CmdNow s t f a b (k.done Code.OK false false 0 (ent k.entry 20 2)) ∧ t.get PMB_AVSOUT_VSET = ent k.entry 20 2 ∧ t = { s with regs := t.regs, pmb := t.pmb, flows := t.flows } ∧ SameWords [PMB_AVSOUT] s t) ∧
  (∀ (f : Fin 64) (c : Nat) (a b : List Cmd) (k : Cmd) (s : State), Runs s f c 0x0501 a b k → s.bit GLB_MODE_AVSHOST = true → s.vlo ≤ ent k.entry 20 2 → ent k.entry 20 2 ≤ s.vhi → s.pmbReady = true → s.voutTo (ent k.entry 20 2) (.set f c) ≠ [] → 
      ∃ t, exec (.avsSet f c) s = .next t ∧ t.pmb.q = s.pmb.q.take 1 ++ s.voutTo (ent k.entry 20 2) (.set f c) ++ s.pmb.q.drop 1 ∧ t.get PMB_AVSOUT_VSET = ent k.entry 20 2 ∧ CmdNow s t f a b { k with st := .started } ∧ t = { s with regs := t.regs, pmb := t.pmb, flows := t.flows, out := t.out } ∧ SameWords [PMB_AVSOUT, PMB_STAT] s t) ∧
  (∀ (f : Fin 64) (c : Nat) (a b : List Cmd) (k : Cmd) (s : State), Runs s f c 0x0501 a b k → s.bit GLB_MODE_AVSHOST = true → (ent k.entry 20 2 < s.vlo ∨ s.vhi < ent k.entry 20 2) → 
      ∃ t, exec (.avsSet f c) s = .next t ∧ CmdNow s t f a b (k.done Code.VALUE_RANGE false false 0 0) ∧ t = { s with flows := t.flows }) ∧
  (∀ (f : Fin 64) (c : Nat) (a b : List Cmd) (k : Cmd) (s : State), Runs s f c 0x0502 a b k → ent k.entry 20 1 < 8 → ent k.entry 21 1 < 5 → s.slotValid (ent k.entry 20 1) = true → s.pmbReady = true → (ent k.entry 21 1 < 3 ∨ s.coreSlots.contains (ent k.entry 20 1) = false ∨ s.bit PMB_AVSCTRL_EN = false) → s.slotSilent (ent k.entry 20 1) = false → 
      ∃ t, exec (.pmbRaw f c) s = .next t ∧ t.pmb.q = s.pmb.q ++ [pmTx (ent k.entry 20 1) (ent k.entry 21 1) (ent k.entry 22 1) (ent k.entry 24 2) (.raw f c)] ∧ (s.pmb.q = [] → t.bit PMB_STAT_BUSY = true) ∧ CmdNow s t f a b { k with st := .started } ∧ t = { s with regs := t.regs, pmb := t.pmb, out := t.out, flows := t.flows } ∧ SameWords [PMB_STAT] s t) ∧
  (∀ (f : Fin 64) (c : Nat) (a b : List Cmd) (k : Cmd) (s : State), Runs s f c 0x0502 a b k → (8 ≤ ent k.entry 20 1 ∨ 5 ≤ ent k.entry 21 1) → 
      ∃ t, exec (.pmbRaw f c) s = .next t ∧ CmdNow s t f a b (k.done Code.BAD_PARAM false false 0 0) ∧ t = { s with flows := t.flows })

/-- A request of ON for a domain that is OFF starts a rise, or queues behind eight; one that R362 refuses shows WHY,
sets PDREF and leaves REQ; one during a sequence waits and shows PENDREQ. When an octet arrives OFF its channels and
registers hold what a reset leaves. STATE_CHANGE_DONE with every stage done and the clocks where they should be
shows the new state and clears BUSY. AON_TIMER with no timer wake only moves the AON time. PWR_STATE waits for the
commands that run, is refused with PWR_BUSY by a running group, take, run or attachment, completes OK in the state
it is in, CANCELLED while a change runs (model choice, log 65), BAD_PARAM for a state above 3; else it starts the
change: with every domain and clock where it is to be, TARGET and BUSY show it. The model's choices here, which are
no rule of the spec, by their log entries: the order of sequences and requests in a change (64), PWR_STATE (65),
clocks of blocks (122), an octet without its hub (128). -/
def Obligations.PowerDomainsAndStates : Prop :=
  (∀ (src : Source) (j : Fin 84) (w : Word) (s : State), s.rowServed src (PWR_PDREQ j) true = true → s.bit PWR_CTRL_LOCK = false → s.bit PWR_STATE_BUSY = false → (s.pd j).target = none → s.pdState j = 0 → fld w 0 2 = 2 → s.pdWhy j 2 = 0 → s.rising < 8 → 
      ∃ t, exec (.pdRequest src j w) s = .next t ∧ t.pdState j = 3 ∧ (t.pd j).target = some 2 ∧ (t.pd j).wait = none ∧ t.get (PWR_PDREQ_REQ j) = 2 ∧ t = { s with regs := t.regs, pds := t.pds } ∧ SamePds [j.val] s t ∧ SameWords [PWR_PDREQ j, PWR_PDSTAT j] s t) ∧
  (∀ (src : Source) (j : Fin 84) (w : Word) (s : State), s.rowServed src (PWR_PDREQ j) true = true → s.bit PWR_CTRL_LOCK = false → s.bit PWR_STATE_BUSY = false → (s.pd j).target = none → s.pdState j = 0 → fld w 0 2 = 2 → s.pdWhy j 2 = 0 → 8 ≤ s.rising → 
      ∃ t, exec (.pdRequest src j w) s = .next t ∧ t.pdState j = 7 ∧ (t.pd j).target = some 2 ∧ SamePds [j.val] s t ∧ SameWords [PWR_PDREQ j, PWR_PDSTAT j] s t) ∧
  (∀ (src : Source) (j : Fin 84) (w : Word) (s : State), s.rowServed src (PWR_PDREQ j) true = true → s.bit PWR_CTRL_LOCK = false → s.bit PWR_STATE_BUSY = false → (s.pd j).target = none → s.pdState j = 2 → fld w 0 2 < 2 → s.pdWhy j (fld w 0 2) ≠ 0 → 
      ∃ t, exec (.pdRequest src j w) s = .next t ∧ t.get (PWR_PDSTAT_WHY j) = s.pdWhy j (fld w 0 2) ∧ t.bit PWR_FLAGS_PDREF = true ∧ t.word (PWR_PDREQ j) = s.word (PWR_PDREQ j) ∧ t.pdState j = 2 ∧ RegsIrq [PWR_PDSTAT j, PWR_FLAGS] s t) ∧
  (∀ (src : Source) (j : Fin 84) (w : Word) (h : Nat) (s : State), s.rowServed src (PWR_PDREQ j) true = true → s.bit PWR_CTRL_LOCK = false → s.bit PWR_STATE_BUSY = false → (s.pd j).target = some h → h ≠ min 2 (fld w 0 2) → 
      ∃ t, exec (.pdRequest src j w) s = .next t ∧ (t.pd j).target = some h ∧ (t.pd j).wait = some (min 2 (fld w 0 2)) ∧ t.get (PWR_PDSTAT_PENDREQ j) = ((s.pd j).late.getD (min 2 (fld w 0 2))) % 4 ∧ t.pdState j = s.pdState j ∧ t = { s with regs := t.regs, pds := t.pds } ∧ SamePds [j.val] s t ∧ SameWords [PWR_PDREQ j, PWR_PDSTAT j] s t) ∧
  (∀ (j : Fin 84) (s : State), j.val < 64 → (s.pd j).target = some 0 → (s.pd j).wait = none → s.pdState j = 5 → s.pwr.plan = [] → s.pwr.selects = [] → s.bit PWR_STATE_BUSY = false → (∀ i : Fin 84, s.pdState i ≠ 7) → 
      ∃ t, exec (.pdSequenceDone j) s = .next t ∧ t.pdState j = 0 ∧ (t.pd j).target = none ∧ (∀ i : Fin 8, t.chan (8 * j.val + i.val) = Chan.init ∧ t.cap (8 * j.val + i.val) = Cap.init) ∧ SameChans ((List.range 8).map (fun i => 8 * j.val + i)) s t ∧ SamePds [j.val] s t ∧ (∀ a, domOf a = some j.val → t.word a = resetWord a) ∧ (∀ a, domOf a ≠ some j.val → a ≠ PWR_PDSTAT j → t.word a = s.word a) ∧ t = { s with regs := t.regs, chans := t.chans, caps := t.caps, pds := t.pds }) ∧
  (∀ (s : State), s.pwr.plan = [] → s.bit PWR_STATE_BUSY = true → s.pdQuiet = true → s.get PWR_STATE_TARGET = s.pwr.clk → s.clkSettled = true → s.pwr.cmd = none → s.pwr.wake = none → s.pwr.waking = none → (∀ i : Fin 84, (s.pd i).late = none) → 
      ∃ t, exec (.stateChangeDone) s = .next t ∧ t.get PWR_STATE_STATE = s.get PWR_STATE_TARGET ∧ t.bit PWR_STATE_BUSY = false ∧ t.get PWR_STATE_LASTCODE = Code.OK ∧ t = { s with regs := t.regs, pwr := t.pwr } ∧ SameWords [PWR_STATE] s t) ∧
  (∀ (s : State), s.get PWR_AONTIM_US ≠ 0 → s.bit PWR_WAKECFG_TIMER = false → 
      ∃ t, exec (.aonTimer) s = .next t ∧ t.get PWR_AONNOW_US = s.get PWR_AONTIM_US ∧ RegsOnly [PWR_AONNOW] s t) ∧
  (∀ (f : Fin 64) (c : Nat) (a b : List Cmd) (k : Cmd) (s : State), Runs s f c 0x0500 a b k → s.pwrWaits f c = false → (ent k.entry 20 1) < 4 → s.bit PWR_STATE_BUSY = false → s.pwrBusy (ent k.entry 20 1) = true → 
      ∃ t, exec (.pwrState f c) s = .next t ∧ CmdNow s t f a b (k.done Code.PWR_BUSY false false 0 0) ∧ t.get PWR_STATE_LASTCODE = Code.PWR_BUSY ∧ t.get PWR_STATE_STATE = s.get PWR_STATE_STATE ∧ t = { s with regs := t.regs, flows := t.flows } ∧ SameWords [PWR_STATE] s t) ∧
  (∀ (f : Fin 64) (c : Nat) (a b : List Cmd) (k : Cmd) (s : State), Runs s f c 0x0500 a b k → s.pwrWaits f c = false → (ent k.entry 20 1) < 4 → s.bit PWR_STATE_BUSY = false → s.pwrBusy (ent k.entry 20 1) = false → s.get PWR_STATE_STATE = (ent k.entry 20 1) → 
      ∃ t, exec (.pwrState f c) s = .next t ∧ CmdNow s t f a b (k.done Code.OK false false 0 0) ∧ t.get PWR_STATE_LASTCODE = Code.OK ∧ t.get PWR_STATE_STATE = s.get PWR_STATE_STATE ∧ t = { s with regs := t.regs, flows := t.flows } ∧ SameWords [PWR_STATE] s t) ∧
  (∀ (f : Fin 64) (c : Nat) (a b : List Cmd) (k : Cmd) (s : State), Runs s f c 0x0500 a b k → s.pwrWaits f c = false → (ent k.entry 20 1) < 4 → s.bit PWR_STATE_BUSY = true → (ent k.entry 20 1) ≠ 0 → 
      ∃ t, exec (.pwrState f c) s = .next t ∧ CmdNow s t f a b (k.done Code.CANCELLED false false 0 0) ∧ t.get PWR_STATE_LASTCODE = Code.CANCELLED ∧ t = { s with regs := t.regs, flows := t.flows } ∧ SameWords [PWR_STATE] s t) ∧
  (∀ (f : Fin 64) (c : Nat) (a b : List Cmd) (k : Cmd) (s : State), Runs s f c 0x0500 a b k → s.pwrWaits f c = false → (ent k.entry 20 1) < 4 → s.bit PWR_STATE_BUSY = false → s.pwrBusy (ent k.entry 20 1) = false → s.get PWR_STATE_STATE ≠ (ent k.entry 20 1) → 
      exec (.pwrState f c) s = .next (((s.setFlow f { s.flow f with cmds := a ++ { k with st := .started } :: b }).changeTo (ent k.entry 20 1) (some (f.val, c))).clkFollow)) ∧
  (∀ (f : Fin 64) (c : Nat) (a b : List Cmd) (k : Cmd) (s : State), Runs s f c 0x0500 a b k → s.pwrWaits f c = false → (ent k.entry 20 1) < 4 → s.bit PWR_STATE_BUSY = false → s.pwrBusy (ent k.entry 20 1) = false → s.get PWR_STATE_STATE ≠ (ent k.entry 20 1) → s.get PWR_STATE_STATE < (ent k.entry 20 1) → s.pdQuiet = true → (∀ i : Fin 84, s.pdGoal (ent k.entry 20 1) i = none ∨ s.pdGoal (ent k.entry 20 1) i = some (s.pdState i)) → s.pwr.clk = (ent k.entry 20 1) → 
      ∃ t, exec (.pwrState f c) s = .next t ∧ CmdNow s t f a b { k with st := .started } ∧ t.get PWR_STATE_TARGET = (ent k.entry 20 1) ∧ t.bit PWR_STATE_BUSY = true ∧ t.get PWR_STATE_STATE = s.get PWR_STATE_STATE ∧ t.pwr = { s.pwr with plan := [], cmd := some (f.val, c) } ∧ t = { s with regs := t.regs, flows := t.flows, pwr := t.pwr } ∧ SameWords [PWR_STATE] s t) ∧
  (∀ (f : Fin 64) (c : Nat) (s : State), s.pwrWaits f c = true → 
      exec (.pwrState f c) s = .next s) ∧
  (∀ (f : Fin 64) (c : Nat) (a b : List Cmd) (k : Cmd) (s : State), Runs s f c 0x0500 a b k → s.pwrWaits f c = false → 4 ≤ (ent k.entry 20 1) → 
      ∃ t, exec (.pwrState f c) s = .next t ∧ CmdNow s t f a b (k.done Code.BAD_PARAM false false 0 0) ∧ t = { s with flows := t.flows })

/-- A fall of a supply asserts power-on reset, which also clears the survivors but keeps fuses, flash and the straps,
until POR_RELEASE. PERST# and RESET_N reset with codes 2 and 3 and hold the device until they are released; a pin
that meets a held reset only holds, and PERST# behind RESET_N gives the reset its lower code without counting it
(model choice, log 129). The watchdog, while it counts, resets with code 4, a software reset with its key with code
6; without key or GO nothing happens. Each shows its code in LAST, sets its history bit and counts. After a reset
the channels, the store and the flows are as at reset, the fuses, RSTCAUSE, the AON time and the dailies stay, and
LC is what the fuses say. THERMTRIP drives its pin. The model's choices here, which are no rule of the spec, by
their log entries: fuses that shadow registers (61), contents after a wipe (18), two pins (129), the rail that fell
(130). -/
def Obligations.ResetsAndWhatSurvivesThem : Prop :=
  (∀ (s : State), s.boot.held = [] → 
      ∃ t, exec (.supplyFall) s = .next t ∧ t.boot.held = [1] ∧ t.fuses = s.fuses ∧ t.cal.folios = s.cal.folios ∧ t.pending = s.pending ∧ t.chans = [] ∧ t.store = [] ∧ t.get SEC_RSTCAUSE_COUNT = 1 ∧ t.get SEC_RSTCAUSE_LAST = 1 ∧ t.word PRL_BDID = s.word PRL_BDID ∧ t.get SEC_BOOTSTAT_STAGE = 0) ∧
  (∀ (s : State), s.boot.held = [1] → 
      ∃ t, exec (.porRelease) s = .next t ∧ t = { s with boot := { s.boot with held := [], noCh := false } }) ∧
  (∀ (s : State), s.boot.held = [] → 
      ∃ t, exec (.perstAssert) s = .next t ∧ t.boot.held = [2] ∧ t = { s.deviceReset 2 with boot := { (s.deviceReset 2).boot with held := [2] } } ∧ ResetBy 2 s (s.deviceReset 2)) ∧
  (∀ (s : State), s.boot.held = [] → s.pinsCut = false → 2 ≤ s.get PWR_STATE_STATE → 
      ∃ t, exec (.resetNAssert) s = .next t ∧ t.boot.held = [3] ∧ t.get PWR_WAKECAUSE_CAUSE = 2 ∧ t = { s.deviceReset 3 with boot := { (s.deviceReset 3).boot with held := [3] }, regs := t.regs } ∧ SameWords [PWR_WAKECAUSE] (s.deviceReset 3) t) ∧
  (∀ (s : State), s.boot.held = [] → s.pinsCut = false → s.get PWR_STATE_STATE < 2 → 
      ∃ t, exec (.resetNAssert) s = .next t ∧ t.boot.held = [3] ∧ t = { s.deviceReset 3 with boot := { (s.deviceReset 3).boot with held := [3] } } ∧ ResetBy 3 s (s.deviceReset 3)) ∧
  (∀ (s : State), s.boot.held = [3] → 
      ∃ t, exec (.perstAssert) s = .next t ∧ t.boot.held = [3, 2] ∧ t.get SEC_RSTCAUSE_LAST = 2 ∧ t.bit ⟨SEC_RSTCAUSE, 9, 1⟩ = true ∧ t.get SEC_RSTCAUSE_COUNT = s.get SEC_RSTCAUSE_COUNT ∧ t = { s with regs := t.regs, boot := { s.boot with held := [3, 2] } } ∧ SameWords [SEC_RSTCAUSE] s t) ∧
  (∀ (s : State), s.boot.held = [2] → s.pinsCut = false → 
      exec .resetNAssert s = .next { s with boot := { s.boot with held := [2, 3] } } ∧ exec .perstAssert s = .next s) ∧
  (∀ (s : State), s.boot.held = [1] → s.pinsCut = false → 
      exec .resetNAssert s = .next { s with boot := { s.boot with held := [1, 3] } } ∧ exec .perstAssert s = .next { s with boot := { s.boot with held := [1, 2] } }) ∧
  (∀ (s : State), s.pinsCut = true → 
      exec .resetNAssert s = .next s ∧ exec (.resetRelease false) s = .next s) ∧
  (∀ (perst : Bool) (s : State), (s.boot.held = [if perst then 2 else 3]) → (perst = true ∨ s.pinsCut = false) → 
      ∃ t, exec (.resetRelease perst) s = .next t ∧ t.boot.held = [] ∧ t = { s with boot := { s.boot with held := t.boot.held } }) ∧
  (∀ (s : State), s.wdtRuns = true → 
      ∃ t, exec (.watchdogExpiry) s = .next t ∧ ResetBy 4 s t) ∧
  (∀ (src : Source) (w : Word) (s : State), s.rowServed src SEC_RSTCTRL true = true → fld w 8 8 = 0xA5 → wbit w 0 = true → 
      ∃ t, exec (.softwareReset src w) s = .next t ∧ ResetBy 6 s t) ∧
  (∀ (src : Source) (w : Word) (s : State), s.rowServed src SEC_RSTCTRL true = true → (fld w 8 8 ≠ 0xA5 ∨ wbit w 0 = false) → 
      exec (.softwareReset src w) s = .next s) ∧
  (∀ (src : Source) (w : Word) (s : State), s.rowServed src SEC_WDTCTRL true = true → s.bit SEC_CTRL_LOCK = false → 
      ∃ t, exec (.kick src w) s = .next t ∧ t.get SEC_WDTCTRL_MS = fld w 0 SEC_WDTCTRL_MS.len ∧ t.bit SEC_WDTCTRL_EN = wbit w SEC_WDTCTRL_EN.lo ∧ RegsOnly [SEC_WDTCTRL] s t) ∧
  (∀ (s : State), 
      ∃ t, exec (.thermtrip) s = .next t ∧ t.boot = { s.boot with therm := true } ∧ t.out = .pin 0 false :: s.out ∧ t = { s with boot := t.boot, out := t.out }) ∧
  (∀ (n : Fin 512) (k : Nat) (s : State), 
      (s.afterReset.chan n = Chan.init ∧ s.afterReset.cap n = Cap.init ∧ s.afterReset.store = [] ∧ s.afterReset.flows = [] ∧ s.afterReset.fuses = s.fuses ∧ s.afterReset.word SEC_RSTCAUSE = s.word SEC_RSTCAUSE ∧ s.afterReset.word PWR_AONNOW = s.word PWR_AONNOW ∧ (k < 1024 → s.afterReset.word (SEC_DLY k) = s.word (SEC_DLY k)) ∧ s.afterReset.get SEC_BOOTSTAT_STAGE = State.reset.get SEC_BOOTSTAT_STAGE ∧ s.afterReset.get SEC_LCSTATE_LC = s.lifecycle))

/-- FUSE_READ_DONE shadows the fuses, enters RESET in the dailies, and stops at FUSE in BLANK or with a CRC that fails,
in HALT when SCRAPPED. RESET_WIPE_DONE leads BLANK to its stage, else to LOAD with the watchdog at 2,000 ms and SPT0
enabled. With no header that passes boot waits for a push with WHY 2 and an entry; an image that verifies (log 126)
is copied to the Quorno RAM, shown with its version and SVN, and boot goes to PATCH; the last one that does not
shows its WHY and boot waits. Of a block that is locked the watchdog stays as it is. A silent flash is WHY 10. A
push length that matches the staged header goes to LOAD, another is WHY 9. FIRMWARE_READY with no valid folio shows
NONE, writes two entries and reaches READY. The model's choices here, which are no rule of the spec, by their log
entries: when CRCs are checked (73), the algorithms of R390 (126, PRESUMED), the order of boot (72), the entries of
a failure (124), PATCH to INIT (143). -/
def Obligations.BootReadsLoadsAndBecomesReady : Prop :=
  (∀ (s : State), s.freed = true → s.boot.fuseRead = false → s.get SEC_LCSTATE_LC = 0 → 
      ∃ t, exec (.fuseReadDone) s = .next t ∧ t.shadow = s.fuses ∧ t.boot = { s.boot with fuseRead := true, scratch := [] } ∧ t.get SEC_BOOTSTAT_STAGE = 1 ∧ DailyIn 0x01 (s.get SEC_RSTCAUSE_LAST) (s.word SEC_RSTCAUSE).toNat s t ∧ t = { s with regs := t.regs, shadow := t.shadow, boot := t.boot } ∧ SameWords ([SEC_BOOTSTAT] ++ dailyWords s) s t) ∧
  (∀ (s : State), s.freed = true → s.boot.fuseRead = false → s.get SEC_LCSTATE_LC ≠ 0 → ({ s with shadow := s.fuses } : State).badRegion = none → 
      ∃ t, exec (.fuseReadDone) s = .next t ∧ t.get SEC_BOOTSTAT_STAGE = (if s.get SEC_LCSTATE_LC = 4 then 15 else 2) ∧ t.shadow = s.fuses ∧ DailyIn 0x01 (s.get SEC_RSTCAUSE_LAST) (s.word SEC_RSTCAUSE).toNat s t) ∧
  (∀ (r : Nat) (s : State), s.freed = true → s.boot.fuseRead = false → s.get SEC_LCSTATE_LC ≠ 0 → ({ s with shadow := s.fuses } : State).badRegion = some r → 
      ∃ t, exec (.fuseReadDone) s = .next t ∧ t.get SEC_BOOTSTAT_STAGE = 1 ∧ t.get SEC_BOOTSTAT_WHY = 1 ∧ t.get SEC_BOOTSTAT_REGION = r % 2 ^ SEC_BOOTSTAT_REGION.len ∧ t.shadow = s.fuses) ∧
  (∀ (s : State), s.get SEC_BOOTSTAT_STAGE = 1 → s.boot.fuseRead = true → s.get SEC_LCSTATE_LC = 0 → 
      ∃ t, exec (.resetWipeDone) s = .next t ∧ t.get SEC_BOOTSTAT_STAGE = 12 ∧ ((∀ b : Fin 8, s.bit (BNK_CUESTAT_WIPING b) = false) → RegsOnly [SEC_BOOTSTAT] s t)) ∧
  (∀ (s : State), s.get SEC_BOOTSTAT_STAGE = 4 → s.bit SEC_CTRL_LOCK = false → 
      ∃ t, exec (.resetWipeDone) s = .next t ∧ t.get SEC_BOOTSTAT_STAGE = (if t.bit SEC_BOOTCTRL_PUSHREQ then 14 else 5) ∧ t.bit SEC_WDTCTRL_EN = !t.bit SEC_BOOTCTRL_PUSHREQ ∧ t.get SEC_WDTCTRL_MS = 2000 ∧ t.bit (SPT_CTRL_EN 0) = true ∧
      ((∀ b : Fin 8, s.bit (BNK_CUESTAT_WIPING b) = false) → s.bit SEC_BOOTCTRL_PUSHREQ = false → RegsOnly [SEC_BOOTSTAT, SEC_WDTCTRL, SPT_CTRL 0] s t)) ∧
  (∀ (a b : BootImage) (s : State), s.get SEC_BOOTSTAT_STAGE = 5 → s.bit SEC_CTRL_LOCK = false → s.boot.push = none → s.candidateSlots a b = [] → 
      ∃ t, exec (.bootImageLoadDone a b) s = .next t ∧ t.get SEC_BOOTSTAT_STAGE = 14 ∧ t.get SEC_BOOTSTAT_WHY = 2 ∧ t.bit SEC_WDTCTRL_EN = false ∧ DailyIn 0x03 5 (2 + 256 * s.get SEC_BOOTSTAT_REGION) s t) ∧
  (∀ (a b : BootImage) (k : Nat) (rest : List Nat) (s : State), s.get SEC_BOOTSTAT_STAGE = 5 → s.bit SEC_CTRL_LOCK = false → s.boot.push = none → ((s.candidateSlots a b).filter (fun i => !s.boot.tried.contains i) = k :: rest) → (s.verifyWhy (bytesOf (if k = 0 then a else b).hdr) (bytesOf (if k = 0 then a else b).body) = 0) → (imgAt (bytesOf (if k = 0 then a else b).hdr) 28 4 = 0) → 
      ∃ t, exec (.bootImageLoadDone a b) s = .next t ∧ t.get SEC_BOOTSTAT_STAGE = 7 ∧ t.get SEC_BOOTSTAT_WHY = 0 ∧ t.get SEC_BOOTSTAT_SLOT = k % 2 ^ SEC_BOOTSTAT_SLOT.len ∧ t.bit SEC_BOOTSTAT_PUSHED = false ∧ t.get SEC_FWVER_VERSION = imgAt (bytesOf (if k = 0 then a else b).hdr) 8 4 ∧
      t.get SEC_SVN_IMAGE = imgAt (bytesOf (if k = 0 then a else b).hdr) 12 1 ∧ t.quorno = quornoCopy 0 (bytesOf (if k = 0 then a else b).hdr ++ imgBody (bytesOf (if k = 0 then a else b).hdr) (bytesOf (if k = 0 then a else b).body)) s.quorno ∧ t = { s with regs := t.regs, boot := t.boot, quorno := t.quorno } ∧ SameWords [SEC_BOOTSTAT, SEC_FWVER, SEC_SVN] s t) ∧
  (∀ (a b : BootImage) (k : Nat) (s : State), s.get SEC_BOOTSTAT_STAGE = 5 → s.bit SEC_CTRL_LOCK = false → s.boot.push = none → ((s.candidateSlots a b).filter (fun i => !s.boot.tried.contains i) = [k]) → (s.verifyWhy (bytesOf (if k = 0 then a else b).hdr) (bytesOf (if k = 0 then a else b).body) ≠ 0) → 
      ∃ t, exec (.bootImageLoadDone a b) s = .next t ∧ t.get SEC_BOOTSTAT_STAGE = 14 ∧ t.get SEC_BOOTSTAT_WHY = s.verifyWhy (bytesOf (if k = 0 then a else b).hdr) (bytesOf (if k = 0 then a else b).body) ∧ t.bit SEC_WDTCTRL_EN = false) ∧
  (∀ (s : State), s.get SEC_BOOTSTAT_STAGE = 5 → s.bit SEC_CTRL_LOCK = false → s.boot.push = none → s.boot.tried = [] → 
      ∃ t, exec (.flashNoresp) s = .next t ∧ t.get SEC_BOOTSTAT_STAGE = 14 ∧ t.get SEC_BOOTSTAT_WHY = 10 ∧ t.bit SEC_WDTCTRL_EN = false ∧ DailyIn 0x03 5 (10 + 256 * s.get SEC_BOOTSTAT_REGION) s t) ∧
  (∀ (src : Source) (w : Word) (s : State), s.rowServed src SEC_PUSHLEN true = true → s.bit SEC_CTRL_LOCK = false → s.get SEC_BOOTSTAT_STAGE = 14 → w.toNat = imgAt (s.staged 32) 6 2 + imgAt (s.staged 32) 16 4 → w.toNat ≤ 2 ^ 20 → 
      ∃ t, exec (.pushlenWrite src w) s = .next t ∧ t.get SEC_BOOTSTAT_STAGE = 5 ∧ t.boot = { s.boot with push := some w.toNat } ∧ t.bit SEC_WDTCTRL_EN = true ∧ t.get SEC_WDTCTRL_MS = 2000 ∧ t = { s with regs := t.regs, boot := t.boot } ∧ SameWords [SEC_BOOTSTAT, SEC_WDTCTRL] s t) ∧
  (∀ (src : Source) (w : Word) (s : State), s.rowServed src SEC_PUSHLEN true = true → s.get SEC_BOOTSTAT_STAGE = 14 → (w.toNat ≠ imgAt (s.staged 32) 6 2 + imgAt (s.staged 32) 16 4 ∨ 2 ^ 20 < w.toNat) → 
      ∃ t, exec (.pushlenWrite src w) s = .next t ∧ t.get SEC_BOOTSTAT_STAGE = 14 ∧ t.get SEC_BOOTSTAT_WHY = 9 ∧ DailyIn 0x03 14 (9 + 256 * s.get SEC_BOOTSTAT_REGION) s t ∧ RegsOnly ([SEC_BOOTSTAT] ++ dailyWords s) s t) ∧
  (∀ (s : State), (s.get SEC_BOOTSTAT_STAGE = 7 ∨ s.get SEC_BOOTSTAT_STAGE = 8) → s.newestFolio = none → (∀ p : Fin 4, s.domOn (76 + p) = false) → 
      ∃ t, exec (.firmwareReady) s = .next t ∧ t.get SEC_BOOTSTAT_STAGE = 9 ∧ t.ready = true ∧ t.bit CAL_FOLSTAT_NONE = true ∧ t.get SEC_DLYHEAD_NEXT = (s.get SEC_DLYHEAD_NEXT + 2) % 2 ^ SEC_DLYHEAD_NEXT.len ∧ t = { s with regs := t.regs, msixPend := t.msixPend, out := t.out })

/-- CHAL of a target the lifecycle leads to draws a nonce and makes it valid; in lockout it shows LASTRES 6. A matching
response outside FIELD opens the debug state and enters it in the dailies; in FIELD it starts the wipes. A mismatch
uses up the nonce, counts, and the third locks out. SEAL clears the debug state, resumes halted cores and is
recorded. AUTH_OPEN_ENTRY_DONE leaves the store and reels empty, the calibration invalid and the trackers frozen.
SVN_COMMIT and KEY_REVOKE set fuse bits as programmed; LC_ADVANCE from VENDOR to FIELD sets the bits and resets with
code 7; a pair that R395 does not name is LC_REFUSED, a value above 4 BAD_PARAM (log 75); while a frame or a fetch
holds SPT0 it waits (log 144). The response is that of R399 by HMAC-SHA-384 (log 126); the nonce is a free value
(log 74). The model's choices here, which are no rule of the spec, by their log entries: the nonce and late answers
(74), what programming leaves (75), HMAC-SHA-384 (126, PRESUMED), the unused operand ok (143). -/
def Obligations.DebugLifecycleAndFuses : Prop :=
  (∀ (src : Source) (w : Word) (ok : Bool) (s : State), s.rowServed src SEC_DBGCTRL true = true → wbit w 0 = true → wbit w 1 = false → wbit w 2 = false → s.bit SEC_DBGSTAT_LOCKOUT = false → s.leadsTo (fld w 8 2) = true → s.awake = true → 
      ∃ t, exec (.chal src w ok) s = .next t ∧ t.bit SEC_DBGSTAT_NONCEVALID = true ∧ t.boot = { s.boot with target := fld w 8 2 } ∧ t.free = s.free + 1 ∧ t = { s with regs := t.regs, boot := t.boot, free := t.free } ∧ SameWords (SEC_DBGSTAT :: (List.range 8).map SEC_DBGNONCE) s t) ∧
  (∀ (src : Source) (w : Word) (ok : Bool) (s : State), s.rowServed src SEC_DBGCTRL true = true → wbit w 0 = true → wbit w 1 = false → wbit w 2 = false → s.bit SEC_DBGSTAT_LOCKOUT = true → 
      ∃ t, exec (.chal src w ok) s = .next t ∧ t.get SEC_DBGSTAT_LASTRES = 6 ∧ RegsOnly [SEC_DBGSTAT] s t) ∧
  (∀ (src : Source) (w : Word) (ok : Bool) (s : State), s.rowServed src SEC_DBGCTRL true = true → wbit w 0 = false → wbit w 1 = true → wbit w 2 = false → s.awake = true → s.bit SEC_DBGSTAT_NONCEVALID = true → s.get SEC_LCSTATE_LC ≠ 2 → s.respOk = true → 
      ∃ t, exec (.check src w ok) s = .next t ∧ t.get SEC_LCSTATE_DBG = 2 ∧ t.get SEC_DBGSTAT_FAILS = 0 ∧ t.get SEC_DBGSTAT_LASTRES = 1 ∧ t.bit SEC_DBGSTAT_NONCEVALID = false ∧ DailyIn 0x41 (pathOf src) 0 s t ∧ RegsOnly ([SEC_DBGSTAT, SEC_LCSTATE] ++ dailyWords s) s t) ∧
  (∀ (src : Source) (w : Word) (ok : Bool) (s : State), s.rowServed src SEC_DBGCTRL true = true → wbit w 0 = false → wbit w 1 = true → wbit w 2 = false → s.awake = true → s.bit SEC_DBGSTAT_NONCEVALID = true → s.get SEC_LCSTATE_LC = 2 → s.debugBusy = false → s.respOk = true → 
      ∃ t, exec (.check src w ok) s = .next t ∧ t.boot = { s.boot with entry := some (pathOf src) } ∧ (∀ b : Fin 8, t.bit (BNK_CUESTAT_WIPING b) = true) ∧ t.get SEC_LCSTATE_DBG = s.get SEC_LCSTATE_DBG ∧ t.get SEC_DBGSTAT_FAILS = 0 ∧ t = { s with regs := t.regs, boot := t.boot } ∧ SameWords (SEC_DBGSTAT :: (List.range 8).map BNK_CUESTAT) s t) ∧
  (∀ (src : Source) (w : Word) (ok : Bool) (s : State), s.rowServed src SEC_DBGCTRL true = true → wbit w 0 = false → wbit w 1 = true → wbit w 2 = false → s.awake = true → s.bit SEC_DBGSTAT_NONCEVALID = true → s.respOk = false → 
      ∃ t, exec (.check src w ok) s = .next t ∧ t.get SEC_DBGSTAT_FAILS = min 3 (s.get SEC_DBGSTAT_FAILS + 1) ∧ t.get SEC_DBGSTAT_LASTRES = 2 ∧ (2 ≤ s.get SEC_DBGSTAT_FAILS → t.bit SEC_DBGSTAT_LOCKOUT = true) ∧ t.bit SEC_DBGSTAT_NONCEVALID = false ∧ DailyIn 0x42 (pathOf src) (min 3 (s.get SEC_DBGSTAT_FAILS + 1)) s t ∧ RegsOnly ([SEC_DBGSTAT] ++ dailyWords s) s t) ∧
  (∀ (src : Source) (w : Word) (ok : Bool) (s : State), s.rowServed src SEC_DBGCTRL true = true → wbit w 0 = false → wbit w 1 = false → wbit w 2 = true → 
      ∃ t, exec (.seal src w ok) s = .next t ∧ t.get SEC_LCSTATE_DBG = 0 ∧ t.jtag = { s.jtag with halted := [], err := false } ∧ DailyIn 0x43 (pathOf src) 0 s t ∧ t = { s with regs := t.regs, jtag := t.jtag } ∧ SameWords (SEC_LCSTATE :: dailyWords s) s t) ∧
  (∀ (s : State), 
      ∃ t, exec (.nonceExpiry) s = .next t ∧ t.bit SEC_DBGSTAT_NONCEVALID = false ∧ RegsOnly [SEC_DBGSTAT] s t) ∧
  (∀ (path : Nat) (s : State), s.boot.entry = some path → 
      ∃ t, exec (.authOpenEntryDone) s = .next t ∧ t.fuses = s.fuses ∧ (s.boot.waits = [] → t.get SEC_LCSTATE_DBG = 1 ∧ t.boot = { s.boot with entry := none, waits := [] } ∧
      (∀ n : Fin 512, t.reelCount n = 0 ∧ t.get (CH_CALSTAT_VALID n) = 0) ∧ (∀ b : Fin 8, t.bit (BNK_TRKCTRL_FREEZE b) = true) ∧ t.cal.ledger = [] ∧
      ((∀ b : Fin 8, (s.bank b).cueq = []) → (∀ b : Fin 8, t.bit (BNK_CUESTAT_WIPING b) = false) ∧ (∀ n : Fin 512, ∀ x : Fin 2048, tabGet 0 t.store (recKey n x) = 0)))) ∧
  (∀ (f : Fin 64) (c : Nat) (a b : List Cmd) (k : Cmd) (s : State), Runs s f c 0x0600 a b k → s.dmaOn = true → bufOk k.entry 32 = true → s.bit SEC_DBGSTAT_LOCKOUT = false → s.leadsTo (ent k.entry 20 1) = true → s.awake = true → 
      ∃ t, exec (.dbgChallenge f c) s = .next t ∧ CmdNow s t f a b (k.done Code.OK false true 0 0) ∧ t.bit SEC_DBGSTAT_NONCEVALID = true ∧ t.out = .dma (entAddr k.entry) (t.regBytes (SEC_DBGNONCE 0) 8) :: s.out) ∧
  (∀ (f : Fin 64) (c : Nat) (a b : List Cmd) (k : Cmd) (s : State) (ok : Bool), Runs s f c 0x0601 a b k → s.awake = true → s.bit SEC_DBGSTAT_NONCEVALID = true → leBytes 32 (ent k.entry 32 32) ≠ s.respBytes → 
      ∃ t, exec (.dbgRespond f c ok) s = .next t ∧ CmdNow s t f a b (k.done Code.AUTH_FAIL false false 0 0) ∧ t.get SEC_DBGSTAT_LASTRES = 2 ∧ t.get SEC_DBGSTAT_FAILS = min 3 (s.get SEC_DBGSTAT_FAILS + 1) ∧ DailyIn 0x42 0 (min 3 (s.get SEC_DBGSTAT_FAILS + 1)) s t) ∧
  (∀ (f : Fin 64) (c : Nat) (a b : List Cmd) (k : Cmd) (s : State) (ok : Bool), Runs s f c 0x0601 a b k → s.awake = true → s.bit SEC_DBGSTAT_NONCEVALID = true → s.get SEC_LCSTATE_LC ≠ 2 → leBytes 32 (ent k.entry 32 32) = s.respBytes → 
      ∃ t, exec (.dbgRespond f c ok) s = .next t ∧ CmdNow s t f a b (k.done Code.OK false false 0 0) ∧ t.get SEC_LCSTATE_DBG = 2 ∧ t.get SEC_DBGSTAT_FAILS = 0 ∧ DailyIn 0x41 0 0 s t) ∧
  (∀ (f : Fin 64) (c : Nat) (a b : List Cmd) (k : Cmd) (s : State), Runs s f c 0x0602 a b k → 
      ∃ t, exec (.dbgSeal f c) s = .next t ∧ CmdNow s t f a b (k.done Code.OK false false 0 0) ∧ t.get SEC_LCSTATE_DBG = 0 ∧ DailyIn 0x43 0 0 s t ∧ t = { s with regs := t.regs, jtag := t.jtag, flows := t.flows } ∧ SameWords (SEC_LCSTATE :: dailyWords s) s t) ∧
  (∀ (f : Fin 64) (c : Nat) (a b : List Cmd) (k : Cmd) (s : State) (bits : BitVec 64), Runs s f c 0x0611 a b k → s.awake = true → s.debugBusy = false → s.get SEC_SVN_IMAGE ≤ s.fusedSvn → 
      ∃ t, exec (.svnCommit f c true bits) s = .next t ∧ CmdNow s t f a b (k.done Code.OK false false 0 s.fusedSvn) ∧ t = { s with flows := t.flows }) ∧
  (∀ (f : Fin 64) (c : Nat) (a b : List Cmd) (k : Cmd) (s : State) (bits : BitVec 64), Runs s f c 0x0611 a b k → s.awake = true → s.debugBusy = false → s.fusedSvn < s.get SEC_SVN_IMAGE → s.svnWith bits.toNat = s.get SEC_SVN_IMAGE → ((s.burn 32 (bits.toNat % 2 ^ 32)).burn 33 (bits.toNat / 2 ^ 32)).fusedSvn = s.get SEC_SVN_IMAGE → 
      ∃ t, exec (.svnCommit f c true bits) s = .next t ∧ CmdNow s t f a b (k.done Code.OK false false 0 (s.get SEC_SVN_IMAGE)) ∧ (t.fuse 32 = Nat.lor (s.fuse 32) (bits.toNat % 2 ^ 32) ∧ t.fuse 33 = Nat.lor (s.fuse 33) (bits.toNat / 2 ^ 32)) ∧ t.shadow = s.shadow ∧ t = { s with regs := t.regs, fuses := t.fuses, flows := t.flows } ∧ SameWords (dailyWords s) s t) ∧
  (∀ (f : Fin 64) (c : Nat) (a b : List Cmd) (k : Cmd) (s : State) (bits : BitVec 4), Runs s f c 0x0612 a b k → s.awake = true → s.debugBusy = false → ent k.entry 20 1 < 2 → ent k.entry 20 1 ≠ s.boot.key → 3 ≤ bitCount 4 bits.toNat → 
      ∃ t, exec (.keyRevoke f c true bits) s = .next t ∧ CmdNow s t f a b (k.done Code.OK false false 0 0) ∧ t.fuse 1 = Nat.lor (s.fuse 1) (bits.toNat * 2 ^ (4 * ent k.entry 20 1)) ∧ t = { s with fuses := t.fuses, flows := t.flows }) ∧
  (∀ (f : Fin 64) (c : Nat) (a b : List Cmd) (k : Cmd) (s : State) (bits : BitVec 8), Runs s f c 0x0610 a b k → s.awake = true → s.debugBusy = false → s.flashBusy = false → s.get SEC_LCSTATE_LC = 1 → ent k.entry 20 1 = 2 → s.get SEC_LCSTATE_DBG = 2 → 5 ≤ bitCount 8 bits.toNat → 
      ∃ t, exec (.lcAdvance f c true bits) s = .next t ∧ t.fuse 0 = Nat.lor (s.fuse 0) (bits.toNat * 2 ^ 8) ∧ t.get SEC_RSTCAUSE_LAST = 7 ∧ t.get SEC_LCSTATE_LC = (if t.lcByte 3 then 4 else if t.lcByte 2 then 3 else 2) ∧ t.cal.folios = s.cal.folios ∧ t.flows = []) ∧
  (∀ (f : Fin 64) (c : Nat) (a b : List Cmd) (k : Cmd) (s : State) (supply : Bool) (bits : BitVec 8), Runs s f c 0x0610 a b k → s.flashBusy = false → 5 ≤ ent k.entry 20 1 → 
      ∃ t, exec (.lcAdvance f c supply bits) s = .next t ∧ CmdNow s t f a b (k.done Code.BAD_PARAM false false 0 0) ∧ t = { s with flows := t.flows }) ∧
  (∀ (f : Fin 64) (c : Nat) (supply : Bool) (bits : BitVec 8) (s : State), s.flashBusy = true → 
      exec (.lcAdvance f c supply bits) s = .next s) ∧
  (∀ (f : Fin 64) (c : Nat) (a b : List Cmd) (k : Cmd) (s : State) (supply : Bool) (bits : BitVec 8), Runs s f c 0x0610 a b k → s.flashBusy = false → ent k.entry 20 1 < 5 → lcPair (s.get SEC_LCSTATE_LC) (ent k.entry 20 1) = none → 
      ∃ t, exec (.lcAdvance f c supply bits) s = .next t ∧ CmdNow s t f a b (k.done Code.LC_REFUSED false false 0 0) ∧ t = { s with flows := t.flows })

/-- MCMD by who may not write it sets WREF, on a busy port CFGREF. On an enabled idle master with MMDET 0 a frame of one
unit whose data waits takes it to the line, UNITS 1 until the frame ends; with the transmit FIFO empty it stalls and
counts the stall. With MMDET 1 the frame starts, or another master holds the select: then the port declares the
fault and the FIFOs are empty. TXDATA joins a FIFO of 16 or sets TXOVF; RXDATA gives the oldest unit, 0 when there
is none. STALL_RESUME sends on; MASTER_FRAME_DONE sets DONE and clears BUSY, and the units on the line have left,
unless boundary scan cuts the pins; another master ends the frame, empties the FIFOs and sets MASTER_FAULT, with
UNITS raised by at most what was on the line. A window read gives the word of a held line, else fetches its line by
a Fast Read at slave XIPSEL, or ends with a bus error while the window is off or another master holds the select.
The line that comes answers the read and is held. The model's choices here, which are no rule of the spec, by their
log entries: frames take no time as far as FIFOs allow (69), the order of fetches (70), the pins under boundary scan
(71), what has left and the readback before a select (144). -/
def Obligations.SerialMastersAndTheWindow : Prop :=
  (∀ (src : Source) (p : Fin 16) (w : Word) (ins : List Word) (s : State), s.rowServed src (SPT_MCMD p) true = true → s.sptHostBar src p = false → wbit w 31 = true → s.bit (SPT_STAT_BUSY p) = true → 
      ∃ t, exec (.mcmd src p w ins) s = .next t ∧ t.bit (SPT_FLAGS_CFGREF p) = true ∧ RegsOnly [SPT_FLAGS p] s t) ∧
  (∀ (src : Source) (p : Fin 16) (w : Word) (ins : List Word) (s : State), s.rowServed src (SPT_MCMD p) true = true → s.sptHostBar src p = true → 
      ∃ t, exec (.mcmd src p w ins) s = .next t ∧ t.bit (SPT_FLAGS_WREF p) = true ∧ RegsOnly [SPT_FLAGS p] s t) ∧
  (∀ (src : Source) (p : Fin 16) (w : Word) (ins : List Word) (v : Nat) (s : State), s.rowServed src (SPT_MCMD p) true = true → s.sptHostBar src p = false → wbit w 31 = true → wbit w 30 = false → fld w 0 12 = 1 → s.bit (SPT_STAT_BUSY p) = false → s.sptFault p = false → s.bit (SPT_CTRL_EN p) = true → s.bit (SPT_CTRL_ROLE p) = false → (s.spt p).tx = [v] → (s.spt p).line = [] → s.bit (SPT_CTRL_MMDET p) = false → 
      ∃ t, exec (.mcmd src p w ins) s = .next t ∧ (t.spt p).frame = true ∧ (t.spt p).left = 0 ∧ (t.spt p).tx = [] ∧ (t.spt p).rx = (s.spt p).rx ∧ (t.spt p).lines = [] ∧ (t.spt p).line = [v % 2 ^ (max 3 (fld w 20 5) + 1)] ∧ t.bit (SPT_STAT_STALL p) = false ∧ t.bit (SPT_STAT_BUSY p) = true ∧ t.get (SPT_STAT_UNITS p) = 1 ∧ t.get (SPT_STAT_SSELACT p) = fld w 16 4 ∧ t = { s with regs := t.regs, spts := t.spts, free := t.free } ∧ SameSpts [p.val] s t ∧ SameWords [SPT_STAT p] s t) ∧
  (∀ (src : Source) (p : Fin 16) (w : Word) (ins : List Word) (s : State), s.rowServed src (SPT_MCMD p) true = true → s.sptHostBar src p = false → wbit w 31 = true → s.bit (SPT_STAT_BUSY p) = false → s.sptFault p = false → s.bit (SPT_CTRL_EN p) = true → s.bit (SPT_CTRL_ROLE p) = false → s.bit (SPT_CTRL_MMDET p) = true → 
      ∃ t, exec (.mcmd src p w ins) s = .next t ∧ ((t.sptFault p = true ∧ (t.spt p).frame = false ∧ (t.spt p).tx = [] ∧ (t.spt p).rx = [] ∧ (t.spt p).line = [] ∧ t.bit (SPT_STAT_BUSY p) = false) ∨ ((t.spt p).frame = true ∧ t.sptFault p = false ∧ t.bit (SPT_STAT_BUSY p) = true ∧ (t.spt p).rxen = wbit w 30))) ∧
  (∀ (src : Source) (p : Fin 16) (w : Word) (ins : List Word) (s : State), s.rowServed src (SPT_MCMD p) true = true → s.sptHostBar src p = false → wbit w 31 = true → s.bit (SPT_STAT_BUSY p) = false → s.sptFault p = false → s.bit (SPT_CTRL_EN p) = true → s.bit (SPT_CTRL_ROLE p) = false → s.bit (SPT_CTRL_MMDET p) = false → (s.spt p).tx = [] → (s.spt p).line = [] → 
      ∃ t, exec (.mcmd src p w ins) s = .next t ∧ (t.spt p).frame = true ∧ (t.spt p).left = (if fld w 0 12 = 0 then 4096 else fld w 0 12) ∧ (t.spt p).rxen = wbit w 30 ∧ t.bit (SPT_STAT_STALL p) = true ∧ t.get (SPT_STALLCNT_COUNT p) = min (s.get (SPT_STALLCNT_COUNT p) + 1) (2 ^ (SPT_STALLCNT_COUNT p).len - 1) ∧ t.out = s.out ∧ t = { s with regs := t.regs, spts := t.spts, free := t.free } ∧ SameSpts [p.val] s t ∧ SameWords [SPT_STAT p, SPT_STALLCNT p] s t) ∧
  (∀ (src : Source) (p : Fin 16) (w : Word) (s : State), s.rowServed src (SPT_TXDATA p) true = true → s.sptHostBar src p = false → (s.spt p).tx.length < 16 → 
      ∃ t, exec (.txdataWrite src p w) s = .next t ∧ (t.spt p).tx = (s.spt p).tx ++ [w.toNat] ∧ t.get (SPT_STAT_TXFILL p) = (t.spt p).tx.length % 2 ^ (SPT_STAT_TXFILL p).len ∧ t.get (SPT_STAT_RXFILL p) = (t.spt p).rx.length % 2 ^ (SPT_STAT_RXFILL p).len ∧ t = { s with regs := t.regs, spts := t.spts } ∧ SameSpts [p.val] s t ∧ SameWords [SPT_STAT p] s t) ∧
  (∀ (src : Source) (p : Fin 16) (w : Word) (s : State), s.rowServed src (SPT_TXDATA p) true = true → s.sptHostBar src p = false → 16 ≤ (s.spt p).tx.length → 
      ∃ t, exec (.txdataWrite src p w) s = .next t ∧ t.bit (SPT_FLAGS_TXOVF p) = true ∧ RegsOnly [SPT_FLAGS p] s t) ∧
  (∀ (src : Source) (p : Fin 16) (s : State), s.rowServed src (SPT_RXDATA p) false = true → 
      ∃ t, exec (.rxdataRead src p) s = .next t ∧ t.out = .read (SPT_RXDATA p) [(s.spt p).rx.headD 0] :: s.out ∧ (t.spt p).rx = (s.spt p).rx.drop 1 ∧ t.get (SPT_STAT_TXFILL p) = (t.spt p).tx.length % 2 ^ (SPT_STAT_TXFILL p).len ∧ t.get (SPT_STAT_RXFILL p) = (t.spt p).rx.length % 2 ^ (SPT_STAT_RXFILL p).len ∧ t = { s with regs := t.regs, spts := t.spts, out := t.out } ∧ SameSpts [p.val] s t ∧ SameWords [SPT_STAT p] s t) ∧
  (∀ (p : Fin 16) (ins : List Word) (v : Nat) (s : State), s.bit (SPT_STAT_STALL p) = true → (s.spt p).tx = [v] → (s.spt p).rxen = false → (s.spt p).left = 1 → 
      ∃ t, exec (.stallResume p ins) s = .next t ∧ (t.spt p).tx = [] ∧ (t.spt p).left = 0 ∧ (t.spt p).line = (s.spt p).line ++ [v % 2 ^ (s.spt p).len] ∧ t.bit (SPT_STAT_STALL p) = false ∧ t.get (SPT_STAT_UNITS p) = ((s.spt p).line.length + 1) % 2 ^ (SPT_STAT_UNITS p).len ∧ t = { s with regs := t.regs, spts := t.spts, free := t.free } ∧ SameSpts [p.val] s t ∧ SameWords [SPT_STAT p] s t) ∧
  (∀ (p : Fin 16) (s : State), (s.spt p).frame = true → (s.spt p).left = 0 → 
      ∃ t, exec (.masterFrameDone p) s = .next t ∧ (t.spt p).frame = false ∧ (t.spt p).line = [] ∧ t.bit (SPT_FLAGS_DONE p) = true ∧ SameSpts [p.val] s t ∧ ((s.spt p).fetch = false ∧ (p ≠ 0 ∨ (s.spt 0).want = []) → t.bit (SPT_STAT_BUSY p) = false ∧ (s.domainOn 4 = true → t.out = (if s.pinsCut then [] else ((s.spt p).line.map (fun v => Output.spt p v)).reverse) ++ s.out ∧ t = { s with regs := t.regs, spts := t.spts, out := t.out } ∧ SameWords [SPT_STAT p, SPT_FLAGS p] s t))) ∧
  (∀ (p : Fin 16) (s : State), s.bit (SPT_CTRL_MMDET p) = true → s.bit (SPT_CTRL_EN p) = true → s.bit (SPT_CTRL_ROLE p) = false → s.sptFault p = false → s.pinsCut = false → 
      ∃ t, exec (.masterFault p) s = .next t ∧ t.sptFault p = true ∧ (t.spt p).frame = false ∧ (t.spt p).tx = [] ∧ (t.spt p).rx = [] ∧ (t.spt p).line = [] ∧ t.bit (SPT_STAT_BUSY p) = false ∧ t.bit (SPT_STAT_STALL p) = false ∧ (t.spt p).want = [] ∧ (s.spt p).left ≤ (t.spt p).left ∧ (t.spt p).left ≤ (s.spt p).left + (s.spt p).line.length ∧ SameSpts [p.val] s t ∧ ((s.spt p).line = [] ∧ (p ≠ 0 ∨ (s.spt 0).want = []) → t.out = s.out) ∧ (s.domainOn 4 = true → t = { s with regs := t.regs, spts := t.spts, free := t.free, out := t.out } ∧ SameWords [SPT_STAT p, SPT_FLAGS p] s t)) ∧
  (∀ (off : BitVec 28) (s : State), (s.bit SPT0_XIPCFG_EN = false ∨ s.domOn 83 = false ∨ s.sptFault 0 = true) → 
      exec (.xipRead off) s = .next { s with out := .xip off.toNat none :: s.out }) ∧
  (∀ (off : BitVec 28) (l : Nat × List Nat) (s : State), s.bit SPT0_XIPCFG_EN = true → s.domOn 83 = true → s.sptFault 0 = false → s.bit SPT0_XIPCFG_ADDR4 = true → (s.spt 0).lines = [l] → l.1 = off.toNat / 64 → 
      exec (.xipRead off) s = .next { s with out := .xip off.toNat (some ((l.2.drop (off.toNat % 64 / 4 * 4)).take 4)) :: s.out }) ∧
  (∀ (off : BitVec 28) (s : State), s.bit SPT0_XIPCFG_EN = true → s.domOn 83 = true → s.sptFault 0 = false → s.bit SPT0_XIPCFG_ADDR4 = true → (s.spt 0).lines = [] → (s.spt 0).want = [] → (s.spt 0).frame = false → (s.spt 0).fetch = false → s.bit (SPT_CTRL_MMDET 0) = false → 
      ∃ t, exec (.xipRead off) s = .next t ∧ (t.spt 0).want = [(off.toNat / 64, off.toNat)] ∧ (t.spt 0).fetch = true ∧ t.bit (SPT_STAT_BUSY 0) = true ∧ t.get SPT0_XIPSTAT_FETCHES = (s.get SPT0_XIPSTAT_FETCHES + 1) % 2 ^ SPT0_XIPSTAT_FETCHES.len ∧ t.out = (if s.pinsCut then s.out else .fastRead (s.get SPT0_XIPCFG_XIPSEL) 32 (off.toNat / 64 * 64) :: s.out) ∧ t = { s with regs := t.regs, spts := t.spts, out := t.out } ∧ SameSpts [0] s t ∧ SameWords [SPT_STAT 0, SPT0_XIPSTAT] s t) ∧
  (∀ (off : BitVec 28) (s : State), s.bit SPT0_XIPCFG_EN = true → s.domOn 83 = true → s.sptFault 0 = false → s.bit SPT0_XIPCFG_ADDR4 = true → (s.spt 0).lines = [] → (s.spt 0).want = [] → (s.spt 0).line = [] → (s.spt 0).frame = false → (s.spt 0).fetch = false → s.bit (SPT_CTRL_MMDET 0) = true → 
      ∃ t, exec (.xipRead off) s = .next t ∧ (((t.spt 0).fetch = true ∧ (t.spt 0).want = [(off.toNat / 64, off.toNat)] ∧ t.out = (if s.pinsCut then s.out else .fastRead (s.get SPT0_XIPCFG_XIPSEL) 32 (off.toNat / 64 * 64) :: s.out)) ∨ (t.sptFault 0 = true ∧ (t.spt 0).want = [] ∧ (t.spt 0).fetch = false ∧ t.out = .xip off.toNat none :: s.out))) ∧
  (∀ (bytes : Vector Byte 64) (k off : Nat) (s : State), (s.spt 0).fetch = true → (s.spt 0).frame = false → (s.spt 0).want = [(k, off)] → (s.spt 0).lines = [] → 
      ∃ t, exec (.xipLineFetch bytes.toList) s = .next t ∧ t.out = .xip off (some (((bytes.toList.map (fun b : Byte => b.toNat)).drop (off % 64 / 4 * 4)).take 4)) :: s.out ∧ (t.spt 0).lines = [(k, bytes.toList.map (fun b : Byte => b.toNat))] ∧ (t.spt 0).want = [] ∧ (t.spt 0).fetch = false ∧ t.bit (SPT_STAT_BUSY 0) = false ∧ SameSpts [0] s t ∧ (s.domainOn 4 = true → t = { s with regs := t.regs, spts := t.spts, out := t.out } ∧ SameWords [SPT_STAT 0] s t))

/-- SLAVE_SELECT of an enabled slave starts a frame; while PD83 is sequenced it waits, until a deselect withdraws it;
under boundary scan it is not seen. SLAVE_HEADER takes the header, returns the status byte and serves the frame when
the port is ready. A word of a frame not served reads all ones and leaves ERROR for the next status; with INC = 0
its further edges count as extra. With INC = 1 a read gives the map word and moves on; past word 63 it reads all
ones, a write is discarded, and EOM waits. With INC = 0 a write to BMIN stores its word, and edges beyond it count
in EXTRACNT with OVERRUN. SLAVE_DESELECT in a unit counts PARTCNT; after the status slot of a served frame it
consumes the status bits. The model's choices here, which are no rule of the spec, by their log entries: the pins
under boundary scan (71), selects while PD83 is sequenced and extra edges of a frame not served (144). -/
def Obligations.SerialSlaves : Prop :=
  (∀ (p : Fin 16) (s : State), s.pinsCut = true → 
      exec (.slaveSelect p) s = .next s) ∧
  (∀ (p : Fin 16) (d : Nat) (s : State), s.pinsCut = false → (s.pd 83).target = some d → s.bit PWR_WAKECFG_SPT = false → 
      ∃ t, exec (.slaveSelect p) s = .next t ∧ t.pwr.selects = s.pwr.selects.filter (fun q => q != p.val) ++ [p.val] ∧ t = { s with pwr := { s.pwr with selects := t.pwr.selects } }) ∧
  (∀ (p : Fin 16) (s : State), s.pinsCut = false → s.bit (SPT_STAT_SLVSEL p) = false → 
      (∀ slot part : Bool, exec (.slaveDeselect p slot part) s = .next { s with pwr := { s.pwr with selects := s.pwr.selects.filter (fun q => q != p.val) } })) ∧
  (∀ (p : Fin 16) (s : State), s.pinsCut = false → (s.pd 83).target = none → s.domOn 83 = true → s.bit (SPT_CTRL_EN p) = true → s.bit (SPT_CTRL_ROLE p) = true → (s.bit PWR_WAKECFG_SPT = false ∨ (s.bit PWR_STATE_BUSY = false ∧ s.get PWR_STATE_STATE < 2)) → 
      ∃ t, exec (.slaveSelect p) s = .next t ∧ t.bit (SPT_STAT_SLVSEL p) = true ∧ t.spt p = { s.spt p with hdr := none, served := false, words := 0, used := false } ∧ t = { s with regs := t.regs, spts := t.spts } ∧ SameSpts [p.val] s t ∧ SameWords [SPT_STAT p] s t) ∧
  (∀ (p : Fin 16) (h : BitVec 8) (s : State), s.bit (SPT_STAT_SLVSEL p) = true → s.pinsCut = false → (s.spt p).hdr = none → 
      ∃ t, exec (.slaveHeader p h) s = .next t ∧ (t.spt p).hdr = some h.toNat ∧ (t.spt p).addr = h.toNat % 64 ∧ (t.spt p).served = s.sptReady p ∧ (t.spt p).status = (s.spt p).status ∧ t.out = .spt p (s.sptStatus p) :: s.out ∧ t.get (SPT_SFRAMES_COUNT p) = (if s.sptReady p then min (s.get (SPT_SFRAMES_COUNT p) + 1) (2 ^ (SPT_SFRAMES_COUNT p).len - 1) else s.get (SPT_SFRAMES_COUNT p)) ∧ t = { s with regs := t.regs, spts := t.spts, out := t.out } ∧ SameSpts [p.val] s t ∧ SameWords [SPT_SFRAMES p] s t) ∧
  (∀ (p : Fin 16) (h : Nat) (w : Word) (edges : Nat) (s : State), s.bit (SPT_STAT_SLVSEL p) = true → s.pinsCut = false → (s.spt p).hdr = some h → (s.spt p).served = false → (64 ≤ h % 128 ∨ ((s.spt p).words = 0 ∧ edges = 0)) → 
      ∃ t, exec (.slaveDataWord p w edges) s = .next t ∧ t.out = .spt p 0xFFFFFFFF :: s.out ∧ (t.spt p).status = Nat.lor (s.spt p).status 64 ∧ t = { s with spts := t.spts, out := t.out } ∧ SameSpts [p.val] s t) ∧
  (∀ (p : Fin 16) (h : Nat) (w : Word) (edges : Nat) (s : State), s.bit (SPT_STAT_SLVSEL p) = true → s.pinsCut = false → (s.spt p).hdr = some h → (s.spt p).served = false → h % 128 < 64 → (0 < edges ∨ 0 < (s.spt p).words) → 
      ∃ t, exec (.slaveDataWord p w edges) s = .next t ∧ t.out = .spt p 0xFFFFFFFF :: s.out ∧ t.get (SPT_EXTRACNT_COUNT p) = min (s.get (SPT_EXTRACNT_COUNT p) + (if (s.spt p).words = 0 then edges else 32 + edges)) (2 ^ (SPT_EXTRACNT_COUNT p).len - 1) ∧ t.bit (SPT_FLAGS_OVERRUN p) = true ∧ (t.spt p).status = Nat.lor (Nat.lor (s.spt p).status 64) 32 ∧ t = { s with regs := t.regs, spts := t.spts, out := t.out } ∧ SameSpts [p.val] s t ∧ SameWords [SPT_EXTRACNT p, SPT_FLAGS p] s t) ∧
  (∀ (p : Fin 16) (h : Nat) (w : Word) (edges : Nat) (s : State), s.bit (SPT_STAT_SLVSEL p) = true → s.pinsCut = false → (s.spt p).hdr = some h → (s.spt p).served = true → 64 ≤ h % 128 → (s.spt p).addr < 64 → 128 ≤ h → 
      ∃ t, exec (.slaveDataWord p w edges) s = .next t ∧ t.out = .spt p (s.sptWord p (s.spt p).addr) :: s.out ∧ (t.spt p).addr = (s.spt p).addr + 1 ∧ (t.spt p).status = (if (s.spt p).used then (s.spt p).status else 0) ∧ (t.spt p).used = true ∧ t = { s with spts := t.spts, out := t.out } ∧ SameSpts [p.val] s t) ∧
  (∀ (p : Fin 16) (h : Nat) (w : Word) (edges : Nat) (s : State), s.bit (SPT_STAT_SLVSEL p) = true → s.pinsCut = false → (s.spt p).hdr = some h → (s.spt p).served = true → 64 ≤ h % 128 → 64 ≤ (s.spt p).addr → 
      ∃ t, exec (.slaveDataWord p w edges) s = .next t ∧ t.out = .spt p 0xFFFFFFFF :: s.out ∧ (t.spt p).status = Nat.lor (if (s.spt p).used then (s.spt p).status else 0) 8 ∧ (t.spt p).addr = 64 ∧ t = { s with spts := t.spts, out := t.out } ∧ SameSpts [p.val] s t) ∧
  (∀ (p : Fin 16) (h : Nat) (w : Word) (edges : Nat) (s : State), s.bit (SPT_STAT_SLVSEL p) = true → s.pinsCut = false → (s.spt p).hdr = some h → (s.spt p).served = true → (s.spt p).words = 0 → h < 64 → 32 ≤ (s.spt p).addr → (s.spt p).addr < 47 → 0 < edges → 
      ∃ t, exec (.slaveDataWord p w edges) s = .next t ∧ t.word (SPT_BMIN p ((s.spt p).addr - 32)) = w ∧ t.get (SPT_EXTRACNT_COUNT p) = min (s.get (SPT_EXTRACNT_COUNT p) + edges) (2 ^ (SPT_EXTRACNT_COUNT p).len - 1) ∧ t.bit (SPT_FLAGS_OVERRUN p) = true ∧ (t.spt p).status = Nat.lor (if (s.spt p).used then (s.spt p).status else 0) 32 ∧ t = { s with regs := t.regs, spts := t.spts, out := t.out } ∧ SameSpts [p.val] s t ∧ SameWords [SPT_BMIN p ((s.spt p).addr - 32), SPT_EXTRACNT p, SPT_FLAGS p] s t) ∧
  (∀ (p : Fin 16) (slot : Bool) (s : State), s.bit (SPT_STAT_SLVSEL p) = true → s.pinsCut = false → (slot = false ∨ (s.spt p).hdr = none) → (s.spt p).wordDone = false → 
      ∃ t, exec (.slaveDeselect p slot true) s = .next t ∧ t.get (SPT_PARTCNT_COUNT p) = min (s.get (SPT_PARTCNT_COUNT p) + 1) (2 ^ (SPT_PARTCNT_COUNT p).len - 1) ∧ t.bit (SPT_FLAGS_PARTIAL p) = true ∧ t.bit (SPT_STAT_SLVSEL p) = false ∧ t.spt p = { s.spt p with hdr := none } ∧ SameSpts [p.val] s t ∧ (s.domainOn 4 = true → t = { s with regs := t.regs, spts := t.spts } ∧ SameWords [SPT_PARTCNT p, SPT_FLAGS p, SPT_STAT p] s t)) ∧
  (∀ (p : Fin 16) (h : Nat) (s : State), s.bit (SPT_STAT_SLVSEL p) = true → s.pinsCut = false → (s.spt p).hdr = some h → (s.spt p).served = true → (s.spt p).used = false → 
      ∃ t, exec (.slaveDeselect p true false) s = .next t ∧ (t.spt p).status = 0 ∧ (t.spt p).hdr = none ∧ t.bit (SPT_STAT_SLVSEL p) = false ∧ SameSpts [p.val] s t ∧ (s.domainOn 4 = true → t = { s with regs := t.regs, spts := t.spts } ∧ SameWords [SPT_STAT p] s t))

/-- TEST_LOGIC_RESET and IDCODE select IDCODE, which reads 0x25120C4D; BYPASS, SAMPLE/PRELOAD, EXTEST, CLAMP and HIGHZ
are selected, SAMPLE/PRELOAD loads the cells, EXTEST and CLAMP drive the balls by them, without VDD_CH but those of
the channels, and SAMPLE/PRELOAD and EXTEST shift as many captured levels out. In a held reset SECACC and DBGACC
read 0, DBGACC with the error bit, and FUSEPROG programs nothing. SECACC reads a word of the SEC block. In profile X
it reads LCSTATE only; what the profile forbids selects BYPASS and counts JREF. DBGACC is refused while the debug
state is sealed; in an open one it writes the Quorno RAM and halts cores. FUSEPROG in BLANK sets the bits of a word
that read back and no other word; in FIELD it is refused. The model's choices here, which are no rule of the spec,
by their log entries: the error bit and a held reset (76), the captured levels (130), the unused operand ok (143). -/
def Obligations.TheTestAccessPort : Prop :=
  (∀ (s : State), 
      ∃ t, exec .testLogicReset s = .next t ∧ t.jtag.ir = 0x01 ∧ t.jtag.cells = s.jtag.cells ∧ t.jtag.halted = s.jtag.halted ∧ t = { s with jtag := t.jtag }) ∧
  (∀ (s : State), 
      ∃ t, exec (.bypass) s = .next t ∧ t.jtag.ir = 0xFF ∧ t.jtag.cells = s.jtag.cells ∧ t.jtag.halted = s.jtag.halted ∧ t = { s with jtag := t.jtag }) ∧
  (∀ (s : State), 
      ∃ t, exec (.clamp) s = .next t ∧ t.jtag = { s.jtag with ir := 0x04 } ∧ t.out = .cells s.jtag.cells (!s.boot.noCh) :: s.out ∧ t = { s with jtag := t.jtag, out := t.out }) ∧
  (∀ (s : State), 
      ∃ t l, exec .extest s = .next t ∧ l.length = s.jtag.cells.length ∧ t.jtag = { s.jtag with ir := 0x03 } ∧ t.out = .scanOut l :: .cells s.jtag.cells (!s.boot.noCh) :: s.out ∧ t = { s with jtag := t.jtag, out := t.out, free := t.free }) ∧
  (∀ (s : State), 
      ∃ t, exec (.highz) s = .next t ∧ t.jtag.ir = 0x05 ∧ t.jtag.cells = s.jtag.cells ∧ t.jtag.halted = s.jtag.halted ∧ t = { s with jtag := t.jtag }) ∧
  (∀ (s : State), 
      ∃ t, exec (.idcode) s = .next t ∧ t.jtag.ir = 0x01 ∧ t.out = .jtag 0x25120C4D :: s.out ∧ t = { s with jtag := t.jtag, out := t.out }) ∧
  (∀ (cells : List Bool) (s : State), 
      ∃ t l, exec (.samplePreload cells) s = .next t ∧ l.length = cells.length ∧ t.jtag = { s.jtag with ir := 0x02, cells := cells } ∧ t.out = .scanOut l :: s.out ∧ t = { s with jtag := t.jtag, out := t.out, free := t.free }) ∧
  (∀ (off : BitVec 16) (w : Word) (ok wr : Bool) (s : State), s.freed = false → 
      ∃ t, exec (.secacc off wr w ok) s = .next t ∧ t.out = .jtag 0 :: s.out ∧ t.jtag = { s.jtag with ir := 0x20 } ∧ t = { s with jtag := t.jtag, out := t.out }) ∧
  (∀ (op : DbgOp) (s : State), s.freed = false → 
      ∃ t, exec (.dbgacc op) s = .next t ∧ t.out = .jtag 0 :: s.out ∧ t.jtag = { s.jtag with ir := 0x21, err := true } ∧ t = { s with jtag := t.jtag, out := t.out }) ∧
  (∀ (i : Fin 512) (mask took : Word) (s : State), s.freed = false → 
      exec (.fuseprog i mask took) s = .next { s with jtag := { s.jtag with ir := 0x22 } }) ∧
  (∀ (off : BitVec 16) (w : Word) (ok : Bool) (s : State), s.freed = true → s.get SEC_LCSTATE_LC ≠ 4 → s.domAccess (0x30000 + off.toNat / 4 * 4) = .served → 
      ∃ t, exec (.secacc off false w ok) s = .next t ∧ t.jtag.ir = 0x20 ∧ t.out = .jtag (s.readWord (0x30000 + off.toNat / 4 * 4)) :: s.out) ∧
  (∀ (off : BitVec 16) (w : Word) (ok wr : Bool) (s : State), s.freed = true → s.get SEC_LCSTATE_LC = 4 → (off.toNat / 4 * 4 ≠ SEC_LCSTATE - 0x30000 ∨ wr = true) → 
      ∃ t, exec (.secacc off wr w ok) s = .next t ∧ t.jtag.ir = 0xFF ∧ t.get SEC_DBGSTAT_JREF = min (s.get SEC_DBGSTAT_JREF + 1) (2 ^ SEC_DBGSTAT_JREF.len - 1) ∧ t = { s with regs := t.regs, jtag := t.jtag } ∧ SameWords [SEC_DBGSTAT] s t) ∧
  (∀ (op : DbgOp) (s : State), s.freed = true → s.get SEC_LCSTATE_DBG = 0 → 
      ∃ t, exec (.dbgacc op) s = .next t ∧ t.jtag.ir = 0xFF ∧ t.get SEC_DBGSTAT_JREF = min (s.get SEC_DBGSTAT_JREF + 1) (2 ^ SEC_DBGSTAT_JREF.len - 1) ∧ t = { s with regs := t.regs, jtag := t.jtag } ∧ SameWords [SEC_DBGSTAT] s t) ∧
  (∀ (i : Fin 524288) (w : Word) (s : State), s.freed = true → s.get SEC_LCSTATE_LC ≠ 0 → s.get SEC_LCSTATE_LC ≠ 4 → (s.get SEC_LCSTATE_DBG = 1 ∨ s.get SEC_LCSTATE_DBG = 2) → s.get PWR_STATE_STATE ≠ 3 → 
      ∃ t, exec (.dbgacc (.write (0x10000000 + 4 * i.val) w)) s = .next t ∧ tabGet (0 : Word) t.quorno i.val = w ∧ (∀ k : Fin 64, k.val ≠ i.val → tabGet (0 : Word) t.quorno k.val = tabGet (0 : Word) s.quorno k.val) ∧ t.jtag.err = false ∧ t = { s with jtag := t.jtag, quorno := t.quorno }) ∧
  (∀ (c : Fin 4) (s : State), s.freed = true → s.get SEC_LCSTATE_LC ≠ 0 → s.get SEC_LCSTATE_LC ≠ 4 → (s.get SEC_LCSTATE_DBG = 1 ∨ s.get SEC_LCSTATE_DBG = 2) → s.get PWR_STATE_STATE ≠ 3 → 
      ∃ t, exec (.dbgacc (.halt c)) s = .next t ∧ c.val ∈ t.jtag.halted ∧ t = { s with jtag := t.jtag }) ∧
  (∀ (i : Fin 512) (mask took : Word) (s : State), s.freed = true → s.get SEC_LCSTATE_LC = 0 → s.get PWR_STATE_STATE < 2 → i ≠ 0 → 
      ∃ t, exec (.fuseprog i mask took) s = .next t ∧ t.fuse i = Nat.lor (s.fuse i) (Nat.land mask.toNat took.toNat) ∧ t.jtag.ir = 0x22 ∧ t = { s with fuses := t.fuses, jtag := t.jtag } ∧ (∀ k : Fin 512, k ≠ i → t.fuse k = s.fuse k)) ∧
  (∀ (i : Fin 512) (mask took : Word) (s : State), s.freed = true → s.get SEC_LCSTATE_LC = 2 → s.get SEC_LCSTATE_DBG ≠ 2 → 
      ∃ t, exec (.fuseprog i mask took) s = .next t ∧ t.jtag.ir = 0xFF ∧ t.fuses = s.fuses ∧ t.get SEC_DBGSTAT_JREF = min (s.get SEC_DBGSTAT_JREF + 1) (2 ^ SEC_DBGSTAT_JREF.len - 1))

/-- A write of EN = 1 to an idle flow of an unlocked block puts its fields in force, clears its counts and sets ACTIVE;
EN = 0 with all else unchanged on a running flow with no command ends it; a change of another field of an active
flow sets CFGREF and changes nothing else. SQTAIL and CQHEAD are taken up to the room of the ring and to CQTAIL;
beyond, DBERR. Before READY doorbells are discarded. FLf_CANCEL beyond SQTAIL sets DBERR, of a waiting command
completes it CANCELLED, of one not yet fetched is kept. ELTAIL beyond ELHEAD is ignored. The model's choices here,
which are no rule of the spec, by their log entries: free-running counts (53), what reaches a BAR when (78). -/
def Obligations.FlowRegistersAndDoorbells : Prop :=
  (∀ (src : Source) (f : Fin 64) (w : Word) (s : State), s.rowServed src (FL_CTRL f) true = true → s.bit (FL_CTRL_EN f) = false → s.bit (FL_STAT_ACTIVE f) = false → wbit w 31 = true → s.bit MBX_CTRL_LOCK = false → 
      ∃ t, exec (.flowCtrlWrite src f w) s = .next t ∧ t.word (FL_CTRL f) = w &&& 0xE0FFFFFF ∧ t.get (FL_SQTAIL_CNT f) = 0 ∧ t.get (FL_CQHEAD_CNT f) = 0 ∧ t.get (FL_SQHEAD_CNT f) = 0 ∧ t.get (FL_CQTAIL_CNT f) = 0 ∧ t.bit (FL_STAT_ACTIVE f) = true ∧ t.flow f = { s.flow f with unsig := 0, cancels := [] } ∧ t = { s with regs := t.regs, flows := t.flows } ∧ SameFlows [f.val] s t ∧ SameWords [FL_CTRL f, FL_SQTAIL f, FL_CQHEAD f, FL_SQHEAD f, FL_CQTAIL f, FL_STAT f] s t) ∧
  (∀ (src : Source) (f : Fin 64) (w : Word) (s : State), s.rowServed src (FL_CTRL f) true = true → s.bit (FL_CTRL_EN f) = true → Nat.land (Nat.xor (s.word (FL_CTRL f)).toNat w.toNat) 0x60FFFFFF = 0 → wbit w 31 = false → s.bit MBX_CTRL_LOCK = false → (s.flow f).cmds = [] → 
      ∃ t, exec (.flowCtrlWrite src f w) s = .next t ∧ t.bit (FL_CTRL_EN f) = false ∧ t.bit (FL_STAT_ACTIVE f) = false ∧ RegsOnly [FL_CTRL f, FL_STAT f] s t) ∧
  (∀ (src : Source) (f : Fin 64) (w : Word) (s : State), s.rowServed src (FL_CTRL f) true = true → (s.bit (FL_CTRL_EN f) = true ∨ s.bit (FL_STAT_ACTIVE f) = true) → Nat.land (Nat.xor (s.word (FL_CTRL f)).toNat w.toNat) 0x60FFFFFF ≠ 0 → 
      ∃ t, exec (.flowCtrlWrite src f w) s = .next t ∧ t.bit (FL_STAT_CFGREF f) = true ∧ RegsOnly [FL_STAT f, GLB_LOCKVIOL] s t ∧ (s.bit MBX_CTRL_LOCK = false → RegsOnly [FL_STAT f] s t) ∧ (s.bit MBX_CTRL_LOCK = true → t.get GLB_LOCKVIOL_COUNT = min (s.get GLB_LOCKVIOL_COUNT + 1) (2 ^ GLB_LOCKVIOL_COUNT.len - 1))) ∧
  (∀ (f : Fin 64) (w : Word) (s : State), s.hostReaches = true → s.profileF = false → s.ready = true → s.get PWR_STATE_STATE < 2 → s.bit PWR_STATE_BUSY = false → s.bit (FL_CTRL_EN f) = true → ((w.toNat + 2 ^ 32 - s.get (FL_SQHEAD_CNT f)) % 2 ^ 32 ≤ 2 ^ (if s.bit (FL_CTRL_LOC f) then 6 else max 4 (min 12 (s.get (FL_SIZE_SLOG f))))) → 
      ∃ t, exec (.sqtailWrite f w) s = .next t ∧ t.get (FL_SQTAIL_CNT f) = w.toNat ∧ RegsOnly [FL_SQTAIL f] s t) ∧
  (∀ (f : Fin 64) (w : Word) (s : State), s.hostReaches = true → s.profileF = false → s.ready = true → s.get PWR_STATE_STATE < 2 → s.bit PWR_STATE_BUSY = false → (s.bit (FL_CTRL_EN f) = false ∨ 2 ^ (if s.bit (FL_CTRL_LOC f) then 6 else max 4 (min 12 (s.get (FL_SIZE_SLOG f)))) < (w.toNat + 2 ^ 32 - s.get (FL_SQHEAD_CNT f)) % 2 ^ 32) → 
      ∃ t, exec (.sqtailWrite f w) s = .next t ∧ t.bit (FL_STAT_DBERR f) = true ∧ RegsOnly [FL_STAT f] s t) ∧
  (∀ (f : Fin 64) (w : Word) (s : State), s.hostReaches = true → s.profileF = false → s.ready = true → s.get PWR_STATE_STATE < 2 → s.bit PWR_STATE_BUSY = false → (w.toNat + 2 ^ 32 - s.get (FL_CQHEAD_CNT f)) % 2 ^ 32 ≤ (s.get (FL_CQTAIL_CNT f) + 2 ^ 32 - s.get (FL_CQHEAD_CNT f)) % 2 ^ 32 → 
      ∃ t, exec (.cqheadWrite f w) s = .next t ∧ t.get (FL_CQHEAD_CNT f) = w.toNat ∧ RegsOnly [FL_CQHEAD f] s t) ∧
  (∀ (f : Fin 64) (w : Word) (s : State), s.hostReaches = true → s.profileF = false → s.ready = true → s.get PWR_STATE_STATE < 2 → s.bit PWR_STATE_BUSY = false → (s.get (FL_CQTAIL_CNT f) + 2 ^ 32 - s.get (FL_CQHEAD_CNT f)) % 2 ^ 32 < (w.toNat + 2 ^ 32 - s.get (FL_CQHEAD_CNT f)) % 2 ^ 32 → 
      ∃ t, exec (.cqheadWrite f w) s = .next t ∧ t.bit (FL_STAT_DBERR f) = true ∧ RegsOnly [FL_STAT f] s t) ∧
  (∀ (f : Fin 64) (w : Word) (s : State), s.hostReaches = true → s.profileF = false → s.ready = false → 
      exec (.sqtailWrite f w) s = .next s ∧ exec (.cqheadWrite f w) s = .next s ∧ exec (.flowCancel f w) s = .next s) ∧
  (∀ (f : Fin 64) (w : Word) (s : State), s.hostReaches = true → s.profileF = false → s.ready = true → s.get PWR_STATE_STATE < 2 → s.bit PWR_STATE_BUSY = false → s.bit (FL_CTRL_EN f) = true → ((s.get (FL_SQTAIL_CNT f) + 2 ^ 32 - w.toNat) % 2 ^ 32 = 0 ∨ 2 ^ 31 ≤ (s.get (FL_SQTAIL_CNT f) + 2 ^ 32 - w.toNat) % 2 ^ 32) → 
      ∃ t, exec (.flowCancel f w) s = .next t ∧ t.bit (FL_STAT_DBERR f) = true ∧ RegsOnly [FL_STAT f] s t) ∧
  (∀ (f : Fin 64) (w : Word) (a b : List Cmd) (k : Cmd) (s : State), s.hostReaches = true → s.profileF = false → s.ready = true → s.get PWR_STATE_STATE < 2 → s.bit PWR_STATE_BUSY = false → s.bit (FL_CTRL_EN f) = true → 0 < (s.get (FL_SQTAIL_CNT f) + 2 ^ 32 - w.toNat) % 2 ^ 32 → (s.get (FL_SQTAIL_CNT f) + 2 ^ 32 - w.toNat) % 2 ^ 32 < 2 ^ 31 → (s.get (FL_SQTAIL_CNT f) + 2 ^ 32 - s.get (FL_SQHEAD_CNT f)) % 2 ^ 32 < (s.get (FL_SQTAIL_CNT f) + 2 ^ 32 - w.toNat) % 2 ^ 32 → (s.flow f).cmds = a ++ k :: b → (∀ q ∈ a ++ b, q.id ≠ k.id ∧ q.cnt ≠ k.cnt) → k.cnt = w.toNat → k.st = .waiting → k.orphan = false → 
      ∃ t, exec (.flowCancel f w) s = .next t ∧ CmdNow s t f a b (k.done Code.CANCELLED false false 0 0) ∧ t = { s with flows := t.flows }) ∧
  (∀ (f : Fin 64) (w : Word) (s : State), s.hostReaches = true → s.profileF = false → s.ready = true → s.get PWR_STATE_STATE < 2 → s.bit PWR_STATE_BUSY = false → s.bit (FL_CTRL_EN f) = true → 0 < (s.get (FL_SQTAIL_CNT f) + 2 ^ 32 - w.toNat) % 2 ^ 32 → (s.get (FL_SQTAIL_CNT f) + 2 ^ 32 - w.toNat) % 2 ^ 32 < 2 ^ 31 → (s.get (FL_SQTAIL_CNT f) + 2 ^ 32 - w.toNat) % 2 ^ 32 ≤ (s.get (FL_SQTAIL_CNT f) + 2 ^ 32 - s.get (FL_SQHEAD_CNT f)) % 2 ^ 32 → 
      ∃ t, exec (.flowCancel f w) s = .next t ∧ w.toNat ∈ (t.flow f).cancels ∧ (t.flow f).cmds = (s.flow f).cmds ∧ t = { s with flows := t.flows } ∧ SameFlows [f.val] s t) ∧
  (∀ (src : Source) (w : Word) (s : State), s.rowServed src MBX_ELTAIL true = true → (w.toNat + 2 ^ 32 - s.get MBX_ELTAIL_CNT) % 2 ^ 32 ≤ (s.get MBX_ELHEAD_CNT + 2 ^ 32 - s.get MBX_ELTAIL_CNT) % 2 ^ 32 → 
      ∃ t, exec (.eltailWrite src w) s = .next t ∧ t.word MBX_ELTAIL = w ∧ RegsOnly [MBX_ELTAIL] s t) ∧
  (∀ (src : Source) (w : Word) (s : State), s.rowServed src MBX_ELTAIL true = true → (s.get MBX_ELHEAD_CNT + 2 ^ 32 - s.get MBX_ELTAIL_CNT) % 2 ^ 32 < (w.toNat + 2 ^ 32 - s.get MBX_ELTAIL_CNT) % 2 ^ 32 → 
      exec (.eltailWrite src w) s = .next s)

/-- A SCHEDULING_CYCLE with one flow in turn takes its next entry as a command, moves SQHEAD on and, with nothing ahead
of it in the flow, makes it ready. With one ready command a core that asks gets it: it runs, or finishes BAD_OPCODE
or PARTITION. COMPLETION_WRITE of a finished oldest command puts its 16 bytes at CQTAIL, in the small ring or in
host memory, moves CQTAIL on and counts toward the event; with a full ring it sets CFULL and waits; with an
unfinished oldest command nothing happens. The event timeouts send or hold vector f and vector 221. The model's
choices here, which are no rule of the spec, by their log entries: which core asks (49), when BAD_OPCODE and
PARTITION are found (50), a dropped completion (51, 141), transfers without Bus Master Enable (120). -/
def Obligations.CommandsAreFetchedDispatchedAndCompleted : Prop :=
  (∀ (e : BitVec 512) (f : Fin 64) (s : State), s.bit (CLK_DOM_STAT_RUN 0) = true → s.sched.asking = [] → s.nextFlow = some f.val → (s.flow f).cmds = [] → s.bit (FL_CTRL_LOC f) = false → s.get (FL_SQHEAD_CNT f) ∉ (s.flow f).cancels → (∀ p ∈ s.flows, p.1 ≠ f.val → p.2.cmds = []) → (f.val, s.flow f) ∈ s.flows → (s.flows.Pairwise (fun p q => p.1 ≠ q.1)) → 
      ∃ t, exec (.schedulingCycle e []) s = .next t ∧ (t.flow f).cmds = [{ id := (s.flow f).nextId, cnt := s.get (FL_SQHEAD_CNT f), entry := e.toNat, st := .ready, rdy := s.sched.nextRdy, age := 0, took := 0, cancel := false, orphan := false, code := 0, taint := false, data := false, aux := 0, res := 0, hold := none }] ∧ (t.flow f).nextId = (s.flow f).nextId + 1 ∧ t.get (FL_SQHEAD_CNT f) = (s.get (FL_SQHEAD_CNT f) + 1) % 2 ^ 32 ∧ t.sched = { turn := f, asking := [], nextRdy := s.sched.nextRdy + 1, nextTook := s.sched.nextTook } ∧ t = { s with regs := t.regs, flows := t.flows, sched := t.sched } ∧ SameFlows [f.val] s t ∧ SameWords [FL_SQHEAD f] s t) ∧
  (∀ (e : BitVec 512) (c : Fin 4) (f : Fin 64) (k : Cmd) (s : State), s.bit (CLK_DOM_STAT_RUN 0) = true → s.stateChange = false → c.val ∉ s.jtag.halted → s.nextFlow = none → s.flows = [(f.val, s.flow f)] → (s.flow f).cmds = [k] → k.st = .ready → k.orphan = false → s.sched.asking = [] → ((s.flow f).core = none ∨ (s.flow f).core = some c.val) → entOp k.entry ∈ mbxOps → s.partitionOk f k.entry = true → 
      ∃ t, exec (.schedulingCycle e [c]) s = .next t ∧ t.flow f = { s.flow f with cmds := [{ k with st := .running, age := k.age + 1, took := s.sched.nextTook }], core := some c.val } ∧ t = { s with flows := t.flows, sched := t.sched } ∧ t.sched = { s.sched with nextTook := s.sched.nextTook + 1 } ∧ SameFlows [f.val] s t) ∧
  (∀ (e : BitVec 512) (c : Fin 4) (f : Fin 64) (k : Cmd) (s : State), s.bit (CLK_DOM_STAT_RUN 0) = true → s.stateChange = false → c.val ∉ s.jtag.halted → s.nextFlow = none → s.flows = [(f.val, s.flow f)] → (s.flow f).cmds = [k] → k.st = .ready → k.orphan = false → s.sched.asking = [] → ((s.flow f).core = none ∨ (s.flow f).core = some c.val) → (entOp k.entry ∉ mbxOps ∨ s.partitionOk f k.entry = false) → 
      ∃ t, exec (.schedulingCycle e [c]) s = .next t ∧ (t.flow f).cmds = [{ k with st := .finished, age := k.age + 1, took := s.sched.nextTook, code := (if entOp k.entry ∈ mbxOps then Code.PARTITION else Code.BAD_OPCODE), taint := false, data := false, aux := 0, res := 0 }] ∧ t = { s with regs := t.regs, free := t.free, flows := t.flows, sched := t.sched } ∧ SameWords [GRP_CUEREF (ent k.entry 20 2), GRP_LASTREF (ent k.entry 20 2)] s t ∧ (¬(0x0110 ≤ entOp k.entry ∧ entOp k.entry ≤ 0x0115 ∧ ent k.entry 20 2 < 64) → t.regs = s.regs ∧ t.free = s.free) ∧ (0x0110 ≤ entOp k.entry → entOp k.entry ≤ 0x0115 → ent k.entry 20 2 < 64 → t.get (GRP_CUEREF_COUNT (ent k.entry 20 2)) = min (s.get (GRP_CUEREF_COUNT (ent k.entry 20 2)) + 1) (2 ^ (GRP_CUEREF_COUNT (ent k.entry 20 2)).len - 1)) ∧ SameFlows [f.val] s t) ∧
  (∀ (f : Fin 64) (k : Cmd) (rest : List Cmd) (s : State), (s.flow f).cmds = k :: rest → k.orphan = false → k.st = .finished → (∀ q ∈ rest, q.id ≠ k.id) → s.bit (FL_CTRL_EN f) = true → s.bit (FL_CTRL_LOC f) = true → (s.get (FL_CQTAIL_CNT f) + 2 ^ 32 - s.get (FL_CQHEAD_CNT f)) % 2 ^ 32 < 64 → (s.flow f).unsig + 1 < s.get (FL_CTRL_COAL f) → 
      ∃ t, exec (.completionWrite f) s = .next t ∧ (∀ i : Fin 16, tabGet 0 (t.flow f).ring (0x2000 + 16 * (s.get (FL_CQTAIL_CNT f) % 64) + i) = (leBytes 2 (entTag k.entry) ++ leBytes 2 k.cnt ++ [k.code % 256, b2n k.taint + 2 * b2n k.data + 128 * (1 - s.get (FL_CQTAIL_CNT f) / 2 ^ (if s.bit (FL_CTRL_LOC f) then 6 else max 4 (min 12 (s.get (FL_SIZE_CLOG f)))) % 2)] ++ leBytes 2 k.aux ++ leBytes 8 k.res).getD i 0) ∧ (t.flow f).cmds = rest ∧ (t.flow f).unsig = (s.flow f).unsig + 1 ∧ t.get (FL_CQTAIL_CNT f) = (s.get (FL_CQTAIL_CNT f) + 1) % 2 ^ 32 ∧ t = { s with regs := t.regs, flows := t.flows } ∧ SameFlows [f.val] s t ∧ SameWords [FL_CQTAIL f] s t) ∧
  (∀ (f : Fin 64) (k : Cmd) (rest : List Cmd) (s : State), (s.flow f).cmds = k :: rest → k.orphan = false → k.st = .finished → (∀ q ∈ rest, q.id ≠ k.id) → s.bit (FL_CTRL_EN f) = true → s.bit (FL_CTRL_LOC f) = false → s.dmaOn = true → ((s.get (FL_CQTAIL_CNT f) + 2 ^ 32 - s.get (FL_CQHEAD_CNT f)) % 2 ^ 32 < 2 ^ (if s.bit (FL_CTRL_LOC f) then 6 else max 4 (min 12 (s.get (FL_SIZE_CLOG f))))) → s.get (FL_CTRL_COAL f) ≤ (s.flow f).unsig + 1 → s.ep.msixEn = false → 
      ∃ t, exec (.completionWrite f) s = .next t ∧ t.out = .dma (s.get (FL_CQBASELO_ADDR f) / 16 * 16 + s.get (FL_CQBASEHI_ADDR f) * 2 ^ 32 + 16 * (s.get (FL_CQTAIL_CNT f) % 2 ^ (if s.bit (FL_CTRL_LOC f) then 6 else max 4 (min 12 (s.get (FL_SIZE_CLOG f)))))) (leBytes 2 (entTag k.entry) ++ leBytes 2 k.cnt ++ [k.code % 256, b2n k.taint + 2 * b2n k.data + 128 * (1 - s.get (FL_CQTAIL_CNT f) / 2 ^ (if s.bit (FL_CTRL_LOC f) then 6 else max 4 (min 12 (s.get (FL_SIZE_CLOG f)))) % 2)] ++ leBytes 2 k.aux ++ leBytes 8 k.res) :: s.out ∧ t.flow f = { s.flow f with cmds := rest, unsig := 0 } ∧ t.get (FL_CQTAIL_CNT f) = (s.get (FL_CQTAIL_CNT f) + 1) % 2 ^ 32 ∧ t = { s with regs := t.regs, flows := t.flows, out := t.out } ∧ SameFlows [f.val] s t ∧ SameWords [FL_CQTAIL f] s t) ∧
  (∀ (f : Fin 64) (k : Cmd) (rest : List Cmd) (s : State), (s.flow f).cmds = k :: rest → k.orphan = false → k.st = .finished → (∀ q ∈ rest, q.id ≠ k.id) → s.bit (FL_CTRL_EN f) = true → (2 ^ (if s.bit (FL_CTRL_LOC f) then 6 else max 4 (min 12 (s.get (FL_SIZE_CLOG f)))) ≤ (s.get (FL_CQTAIL_CNT f) + 2 ^ 32 - s.get (FL_CQHEAD_CNT f)) % 2 ^ 32) → 
      ∃ t, exec (.completionWrite f) s = .next t ∧ t.bit (FL_STAT_CFULL f) = true ∧ RegsOnly [FL_STAT f] s t) ∧
  (∀ (f : Fin 64) (k : Cmd) (rest : List Cmd) (s : State), (s.flow f).cmds = k :: rest → k.orphan = false → k.st ≠ .finished → 
      exec (.completionWrite f) s = .next s) ∧
  (∀ (f : Fin 64) (s : State), (s.flow f).unsig ≠ 0 → s.ep.msixEn = true → s.ep.fmask = false → s.ep.bme = true → s.ep.d3hot = false → tabGet (msixReset 3) s.msix (4 * f.val + 3) % 2 = 0 → 
      ∃ t, exec (.flowEventTimeout f) s = .next t ∧ t.flow f = { s.flow f with unsig := 0 } ∧ t.out = .msix f.val :: s.out ∧ t = { s with flows := t.flows, out := t.out } ∧ SameFlows [f.val] s t) ∧
  (∀ (s : State), s.ep.elUnsig ≠ 0 → s.ep.msixEn = true → s.ep.fmask = true → 
      ∃ t, exec (.errorLogEventTimeout) s = .next t ∧ tabGet false t.msixPend 221 = true ∧ t = { s with ep := { s.ep with elUnsig := 0 }, msixPend := t.msixPend })

/-- A host request before the endpoint is up changes nothing; in D3hot it is answered Unsupported Request. A write of
TXDATA with PD83 not ON counts OFFACC, is aborted for a host, and leaves the port. A write of a CAL register acts by
the access codes of its fields and counts LOCKVIOL where it reaches RWL fields of a locked block; SCRATCH takes the
word; a write of a register with a row of its own acts as that row. Before READY, and with a byte enable clear or
not dword-aligned, BAR0 requests are aborted and counted. During an entry to AUTH-OPEN a read of what it resets
waits. A register of a domain that is not ON counts OFFACC. A write to the small ring of a flow page stores its
bytes. A read returns the value and clears the RC fields. A block lock sets LOCK; on blocks whose LOCK shares a
register with a command it is that write. The model's choices here, which are no rule of the spec, by their log
entries: requests of several dwords (77), what reaches a BAR when (78), reads without an effect (82), what an entry
to AUTH-OPEN holds (123), the severity of an abort (141). -/
def Obligations.RegisterAccessesByAddress : Prop :=
  (∀ (a : Nat) (ws : List (Word × BitVec 4)) (n : Nat) (s : State), s.epUp = false → 
      exec (.registerWrite .host a ws) s = .next s ∧ exec (.rcRead .host a n) s = .next s) ∧
  (∀ (a : Nat) (ws : List (Word × BitVec 4)) (n : Nat) (s : State), s.epUp = true → s.ep.d3hot = true → 
      exec (.registerWrite .host a ws) s = .next { s with out := .unsupported a :: s.out } ∧ exec (.rcRead .host a n) s = .next { s with out := .unsupported a :: s.out }) ∧
  (∀ (src : Source) (p : Fin 16) (a : Nat) (w : Word) (s : State), s.unseen src a 1 = false → s.jtagBars src a true = false → s.access src a = .off → a = SPT_TXDATA p → 
      ∃ t, exec (Instr.txdataWrite src p w) s = .next t ∧ t.get PWR_OFFACC_COUNT = min (s.get PWR_OFFACC_COUNT + 1) (2 ^ PWR_OFFACC_COUNT.len - 1) ∧ t.bit PWR_FLAGS_OFFACC = true ∧ (src = .host → t.out.head? = some (.abort a true s.ep.caFatal)) ∧ t.spts = s.spts ∧ t.get (SPT_STAT_TXFILL p) = s.get (SPT_STAT_TXFILL p)) ∧
  (∀ (src : Source) (a : Nat) (w : Word) (s : State), (src = .host → s.hostReaches = true) → regRequest a 1 = true → 0x110000 ≤ a → a < 0x120000 → a ≠ CAL_REFCFG → s.access src a = .served → s.authWaits src a 1 = false → 
      ∃ t, exec (.registerWrite src a [(w, 15#4)]) s = .next t ∧ t.word a = BitVec.ofNat 32 (writeFields (fieldsAt a) (s.word a).toNat w.toNat fullMask (s.locked a)) ∧ t.get GLB_LOCKVIOL_COUNT = (if s.locked a && reachesRwl (fieldsAt a) fullMask then min (s.get GLB_LOCKVIOL_COUNT + 1) (2 ^ GLB_LOCKVIOL_COUNT.len - 1) else s.get GLB_LOCKVIOL_COUNT) ∧ RegsOnly [a, GLB_LOCKVIOL] s t) ∧
  (∀ (src : Source) (w : Word) (s : State), (src = .host → s.hostReaches = true) → s.access src GLB_SCRATCH = .served → 
      ∃ t, exec (.registerWrite src GLB_SCRATCH [(w, 15#4)]) s = .next t ∧ t.word GLB_SCRATCH = w ∧ RegsOnly [GLB_SCRATCH] s t) ∧
  (∀ (src : Source) (n : Fin 512) (w : Word) (s : State), s.rowServed src (CH_DESKEW n) true = true → (src = .host → s.hostReaches = true) → s.access src (CH_DESKEW n) = .served → s.authWaits src (CH_DESKEW n) 1 = false → 
      ∃ t, exec (.registerWrite src (CH_DESKEW n) [(w, 15#4)]) s = .next t ∧ exec (.deskewTargetWrite src n w) s = .next t) ∧
  (∀ (src : Source) (b : Fin 8) (w : Word) (s : State), s.rowServed src (BNK_ROOT b) true = true → (src = .host → s.hostReaches = true) → s.access src (BNK_ROOT b) = .served → 
      ∃ t, exec (.registerWrite src (BNK_ROOT b) [(w, 15#4)]) s = .next t ∧ exec (.rootSelect src b w) s = .next t) ∧
  (∀ (src : Source) (n : Fin 4) (w : Word) (s : State), s.rowServed src (SYN_HOP n) true = true → (src = .host → s.hostReaches = true) → s.access src (SYN_HOP n) = .served → 
      ∃ t, exec (.registerWrite src (SYN_HOP n) [(w, 15#4)]) s = .next t ∧ exec (.hopRequest src n w) s = .next t) ∧
  (∀ (a : Nat) (ws : List (Word × BitVec 4)) (s : State), s.hostReaches = true → regRequest a ws.length = true → s.ready = false → 0x40000 ≤ a → a < 0x400000 → isHole a = false → 
      ∃ t, exec (.registerWrite .host a ws) s = .next t ∧ t.get MBX_ABORTCNT_COUNT = min (s.get MBX_ABORTCNT_COUNT + 1) (2 ^ MBX_ABORTCNT_COUNT.len - 1) ∧ t.get MBX_ABORTADDR_BAR = 0 ∧ t.get MBX_ABORTADDR_OFF = (a) % 2 ^ 30 ∧ t.out = .abort (a) true s.ep.caFatal :: s.out ∧ t = { s with regs := t.regs, out := t.out, ep := { s.ep with caStatus := true } } ∧ SameWords [MBX_ABORTCNT, MBX_ABORTADDR] s t) ∧
  (∀ (a : Nat) (ws : List (Word × BitVec 4)) (s : State), s.hostReaches = true → 0 < ws.length → a < 0x400000 → s.accessAll .host a ws.length = .served → a % 4 ≠ 0 → 
      ∃ t, exec (.registerWrite .host a ws) s = .next t ∧ t.get MBX_ABORTCNT_COUNT = min (s.get MBX_ABORTCNT_COUNT + 1) (2 ^ MBX_ABORTCNT_COUNT.len - 1) ∧ t.get MBX_ABORTADDR_BAR = 0 ∧ t.get MBX_ABORTADDR_OFF = (a) % 2 ^ 30 ∧ t.out = .abort (a) true s.ep.caFatal :: s.out ∧ t = { s with regs := t.regs, out := t.out, ep := { s.ep with caStatus := true } } ∧ SameWords [MBX_ABORTCNT, MBX_ABORTADDR] s t) ∧
  (∀ (src : Source) (a n : Nat) (s : State), (src = .host → s.hostReaches = true) → s.boot.entry ≠ none → src = .host → regRequest a n = true → n ≤ 16 → a < 0x400000 → s.accessAll src a n = .served → s.authWaits src a n = true → 
      exec (.rcRead src a n) s = .next { s with boot := { s.boot with waits := s.boot.waits ++ [.read a n] } }) ∧
  (∀ (a : Nat) (w : Word) (en : BitVec 4) (s : State), s.hostReaches = true → regRequest a 1 = true → a < 0x400000 → en ≠ 15 → s.access .host a = .served → 
      ∃ t, exec (.registerWrite .host a [(w, en)]) s = .next t ∧ t.get MBX_ABORTCNT_COUNT = min (s.get MBX_ABORTCNT_COUNT + 1) (2 ^ MBX_ABORTCNT_COUNT.len - 1) ∧ t.get MBX_ABORTADDR_BAR = 0 ∧ t.get MBX_ABORTADDR_OFF = (a) % 2 ^ 30 ∧ t.out = .abort (a) true s.ep.caFatal :: s.out ∧ t = { s with regs := t.regs, out := t.out, ep := { s.ep with caStatus := true } } ∧ SameWords [MBX_ABORTCNT, MBX_ABORTADDR] s t) ∧
  (∀ (a : Nat) (w : Word) (s : State), regRequest a 1 = true → a < 0x400000 → s.access .firmware a = .off → 
      ∃ t, exec (.registerWrite .firmware a [(w, 15#4)]) s = .next t ∧ t.get PWR_OFFACC_COUNT = min (s.get PWR_OFFACC_COUNT + 1) (2 ^ PWR_OFFACC_COUNT.len - 1) ∧ t.bit PWR_FLAGS_OFFACC = true ∧ RegsIrq [PWR_OFFACC, PWR_FLAGS] s t) ∧
  (∀ (f : Fin 64) (r : Fin 1280) (w : Word) (s : State), s.hostReaches = true → s.profileF = false → s.ready = true → 
      ∃ t, exec (.registerWrite .host (0x10000000 + 0x4000 * f.val + 0x1000 + 4 * r.val) [(w, 15#4)]) s = .next t ∧ (∀ i : Fin 4, tabGet 0 (t.flow f).ring (0x1000 + 4 * r.val + i) = w.toNat / 2 ^ (8 * i.val) % 256) ∧ (t.flow f).cmds = (s.flow f).cmds ∧ t = { s with flows := t.flows } ∧ SameFlows [f.val] s t) ∧
  (∀ (src : Source) (a : Nat) (s : State), (src = .host → s.hostReaches = true) → regRequest a 1 = true → (a < 0x105000 ∨ (0x107000 ≤ a ∧ a < 0x130000)) → s.access src a = .served → s.authWaits src a 1 = false → 
      ∃ t, exec (.rcRead src a 1) s = .next t ∧ t.out = .read a [s.readWord a] :: s.out ∧ t.word a = BitVec.ofNat 32 ((fieldsAt a).foldl (fun o f => if f.acc = .rc then fieldPut o f.lo f.len 0 else o) (s.word a).toNat) ∧ t = { s with regs := t.regs, out := t.out } ∧ SameWords [a] s t) ∧
  (∀ (k : LockBlock) (src : Source) (w : Word) (s : State), s.rowServed src (lockReg k) true = true → k ∈ [LockBlock.glb, .clk, .pwr, .sec, .mbx, .seq, .cal] → 
      ∃ t, exec (.blockLockSet src k w) s = .next t ∧ wbit (t.word (lockReg k)) 31 = true ∧ (s.locked (lockReg k) = false → t.word GLB_LOCKVIOL = s.word GLB_LOCKVIOL) ∧ RegsOnly [lockReg k, GLB_LOCKVIOL] s t) ∧
  (∀ (src : Source) (n : Fin 4) (b p : Fin 8) (q : Fin 16) (m : Fin 512) (w : Word) (s : State), s.rowServed src (lockReg (.syn n)) true = true → s.rowServed src (SYN_CTRL n) true = true → s.rowServed src (lockReg (.bnk b)) true = true → s.rowServed src (BNK_ROOT b) true = true → s.rowServed src (lockReg (.tsp p)) true = true → s.rowServed src (TSP_CTRL p) true = true → s.rowServed src (lockReg (.prl n)) true = true → s.rowServed src (PRL_CTRL n) true = true → s.rowServed src (lockReg .pmb) true = true → s.rowServed src PMB_CTRL true = true → s.rowServed src (lockReg (.spt q)) true = true → s.rowServed src (lockReg (.ch m)) true = true → 
      (∃ t, exec (.blockLockSet src (.syn n) w) s = .next t ∧ exec (.rootEnable src n (w ||| 0x80000000)) s = .next t) ∧ (∃ t, exec (.blockLockSet src (.bnk b) w) s = .next t ∧ exec (.rootSelect src b (w ||| 0x80000000)) s = .next t) ∧ (∃ t, exec (.blockLockSet src (.tsp p) w) s = .next t ∧ exec (.tspEnWrite src p (w ||| 0x80000000)) s = .next t) ∧ (∃ t, exec (.blockLockSet src (.prl n) w) s = .next t ∧ exec (.prlEnWrite src n (w ||| 0x80000000)) s = .next t) ∧ (∃ t, exec (.blockLockSet src .pmb w) s = .next t ∧ exec (.pmbEnable src (w ||| 0x80000000)) s = .next t) ∧ exec (.blockLockSet src (.spt q) w) s = .next (s.sptCtrlWrite q (w ||| 0x80000000)) ∧ exec (.blockLockSet src (.ch m) w) s = .next (s.chWrite src m (CH_CTRL m) (w ||| 0x80000000)))

/-- ENDPOINT_RESET disables every flow, drain ring and the error log; PRIV, the partitions and MBX_CTRL.LOCK keep their
values; what a core runs goes on with its completion lost; channels and banks stay. A CONFIGURATION_WRITE before the
endpoint is up does nothing; else it puts Bus Master Enable, the power state, MSI-X Enable and Function Mask in
force; a buffer that waited is written, with Bus Master Enable, and its command finishes; a held message leaves once
none of them holds it, its vector unmasked, and stays otherwise. A write to the staging window stores its bytes and
no other; one that a command owns, or beyond the window, counts WINVIOL. The model's choices here, which are no rule
of the spec, by their log entries: MSI-X (16, 119, PRESUMED), what an endpoint reset leaves (79), the owner of the
staging window (80), windows of any length (85), what waits for the bus (120). -/
def Obligations.EndpointConfigurationAndStaging : Prop :=
  (∀ (s : State), 
      ∃ t, exec (.endpointReset) s = .next t ∧ (∀ f : Fin 64, t.flow f = { Flow.init with cmds := ((s.flow f).cmds.filter (fun k => k.st.busy && k.hold.isNone)).map (fun k => { k with orphan := true }), nextId := (s.flow f).nextId, core := (s.flow f).core, ring := (s.flow f).ring } ∧ t.bit (FL_CTRL_EN f) = false ∧ t.bit (FL_STAT_ACTIVE f) = false ∧ t.bit (FL_CTRL_PRIV f) = s.bit (FL_CTRL_PRIV f) ∧ t.word (FL_PARTLO f) = s.word (FL_PARTLO f) ∧ t.word (FL_PARTHI f) = s.word (FL_PARTHI f) ∧ t.bit (DR_CTRL_EN f) = false ∧ t.word (DR_DHEAD f) = 0 ∧ t.word (DR_CTAIL f) = 0 ∧ t.ring f = Ring.init) ∧ t.bit MBX_CTRL_LOCK = s.bit MBX_CTRL_LOCK ∧ t.bit MBX_ELCTRL_EN = false ∧ t.ep = { Ep.init with resdrop := s.ep.resdrop } ∧ t = { s with regs := t.regs, rings := [], flows := t.flows, ep := t.ep, msix := [], msixPend := [], boot := { s.boot with waits := [] } } ∧ (∀ n : Fin 512, t.word (CH_CTRL n) = s.word (CH_CTRL n)) ∧ (∀ b : Fin 8, t.word (BNK_STAT b) = s.word (BNK_STAT b))) ∧
  (∀ (bme d3 en fm : Bool) (s : State), s.epUp = false → 
      exec (.configurationWrite bme d3 en fm) s = .next s) ∧
  (∀ (bme d3 en fm : Bool) (s : State), s.epUp = true → s.rings = [] → s.msixPend = [] → s.ep.elHeld = [] → (s.flows.all (fun p => p.2.cmds.all (fun k => k.hold.isNone)) = true) → 
      exec (.configurationWrite bme d3 en fm) s = .next { s with ep := { s.ep with bme := bme, d3hot := d3, msixEn := en, fmask := fm } }) ∧
  (∀ (v : Fin 226) (s : State), s.epUp = true → s.rings = [] → s.msixPend = [(v.val, true)] → s.ep.elHeld = [] → (s.flows.all (fun p => p.2.cmds.all (fun k => k.hold.isNone)) = true) → tabGet (msixReset 3) s.msix (4 * v.val + 3) % 2 = 0 → 
      ∃ t, exec (.configurationWrite true false true false) s = .next t ∧ t.out = .msix v.val :: s.out ∧ t.msixPend = [] ∧ t = { s with ep := { s.ep with bme := true, d3hot := false, msixEn := true, fmask := false }, out := t.out, msixPend := [] }) ∧
  (∀ (v : Fin 226) (bme d3 en fm : Bool) (s : State), s.epUp = true → s.rings = [] → s.msixPend = [(v.val, true)] → s.ep.elHeld = [] → (s.flows.all (fun p => p.2.cmds.all (fun k => k.hold.isNone)) = true) → (bme = false ∨ d3 = true ∨ en = false ∨ fm = true) → 
      exec (.configurationWrite bme d3 en fm) s = .next { s with ep := { s.ep with bme := bme, d3hot := d3, msixEn := en, fmask := fm } }) ∧
  (∀ (en fm : Bool) (f : Fin 64) (k : Cmd) (d : DataOut) (s : State), s.epUp = true → s.rings = [] → s.msixPend = [] → s.ep.elHeld = [] → s.flows = [(f.val, s.flow f)] → (s.flow f).cmds = [k] → k.hold = some d → k.orphan = false → k.st = .started → 
      ∃ t, exec (.configurationWrite true false en fm) s = .next t ∧ t.out = .dma d.addr d.bytes :: s.out ∧ (t.flow f).cmds.map (fun q => (q.id, q.st, q.code, q.data, q.res)) = [(k.id, .finished, d.code, true, d.res)]) ∧
  (∀ (off : Nat) (bytes : List Byte) (s : State), 0x2400000 ≤ off → off + bytes.length ≤ 0x2500000 → s.hostReaches = true → s.profileF = false → s.get PWR_STATE_STATE ≠ 3 → s.stagingOwned = false → 
      ∃ t, exec (.stagingWindowWrite off bytes) s = .next t ∧ (∀ i : Nat, i < bytes.length → tabGet 0 t.staging (off - 0x2400000 + i) = (bytes.getD i 0).toNat) ∧ (∀ a : Nat, a < off - 0x2400000 ∨ off - 0x2400000 + bytes.length ≤ a → tabGet 0 t.staging a = tabGet 0 s.staging a) ∧ t = { s with staging := t.staging }) ∧
  (∀ (off : Nat) (bytes : List Byte) (s : State), 0x2400000 ≤ off → off < 0x4000000 → bytes ≠ [] → off % 0x100000 + bytes.length ≤ 0x100000 → s.hostReaches = true → s.profileF = false → s.get PWR_STATE_STATE ≠ 3 → s.ready = true → (0x2500000 ≤ off ∨ s.stagingOwned = true) → 
      ∃ t, exec (.stagingWindowWrite off bytes) s = .next t ∧ t.get GLB_WINVIOL_COUNT = min (s.get GLB_WINVIOL_COUNT + 1) (2 ^ GLB_WINVIOL_COUNT.len - 1) ∧ RegsOnly [GLB_WINVIOL] s t)

/-- For every command c and every state s whose queue is c followed by q, step of s is exec of c on s with the queue q.
The model's choices here, which are no rule of the spec, by their log entries: that the commands stand in one queue
(1). -/
def Obligations.StepRunsTheFrontCommand : Prop :=
  (∀ (c : Instr) (q : List Instr) (s : State), s.pending = c :: q → 
      step s = exec c { s with pending := q })

/-- For every state with a waiting command, if a step answers a next state, its queue is the old queue without its
front; for every command and state, if exec answers a next state, the queue is as it was. The queue is the form in
which the model holds R21: commands are handled in the order of their arrival. The model's choices here, which are
no rule of the spec, by their log entries: that the commands stand in one queue (1). -/
def Obligations.CommandsLeaveInTheOrderTheyCame : Prop :=
  (∀ (s t : State), s.pending ≠ [] → step s = .next t → 
      t.pending = s.pending.tail) ∧
  (∀ (c : Instr) (s t : State), exec c s = .next t → 
      t.pending = s.pending)

/-- For every state, every fuse word i and every bit b: if the bit is 1 and a step answers a next state, the bit is 1
there, whichever command ran, a reset and every way of programming included. -/
def Obligations.ProgrammedFusesStay : Prop :=
  (∀ (s t : State) (i b : Nat), step s = .next t → (s.fuse i).testBit b = true → 
      (t.fuse i).testBit b = true)

/-- With ROOTACT showing SEL, the root whose T-clock and timebase bank b uses is the one SEL names. After a reset of any
source, from every state, SEL and ROOTACT of every bank are 0, the bank uses SYN0, SYN0 is off with EN 0, and the
bank DLL is without a clock. -/
def Obligations.BanksSelectSyn0AfterEveryReset : Prop :=
  (∀ (b : Fin 8) (s : State), s.get (BNK_STAT_ROOTACT b) = s.get (BNK_ROOT_SEL b) → 
      s.rootOf b = s.get (BNK_ROOT_SEL b)) ∧
  (∀ (s : State), 
      (∀ b : Fin 8, s.afterReset.get (BNK_ROOT_SEL b) = 0 ∧ s.afterReset.get (BNK_STAT_ROOTACT b) = 0 ∧ s.afterReset.rootOf b = 0 ∧ s.afterReset.get (BNK_STAT_DLLSTATE b) = 0) ∧ s.afterReset.bit (SYN_CTRL_EN 0) = false ∧ s.afterReset.rootState 0 = stOff)

/-- The machine after reset has no waiting command and has sent nothing. F00 has PRIV and every group, the other flows
have none, and no flow runs. The roots are off, every bank selects SYN0, SPT15 is the only slave port, and the
device is not READY. Every fuse reads 0: R379 says so of an unprogrammed bit, and a blank device is the choice of
the model (log entry 3). The model's choices here, which are no rule of the spec, by their log entries: blank fuses
(3), straps (4), which reset it was (7), values that no rule gives (125). -/
def Obligations.ResetState : Prop :=
  (∀ (s : State), s = State.reset → 
      s.pending = [] ∧ s.out = [] ∧ (∀ f : Fin 64, s.bit (FL_CTRL_PRIV f) = (f == 0) ∧ s.get (FL_PARTLO_MASK f) = (if f = 0 then 2 ^ 32 - 1 else 0) ∧ s.get (FL_PARTHI_MASK f) = (if f = 0 then 2 ^ 32 - 1 else 0) ∧ s.bit (FL_CTRL_EN f) = false) ∧ (∀ n : Fin 4, s.rootState n = stOff ∧ s.bit (SYN_CTRL_EN n) = false) ∧ (∀ p : Fin 16, s.bit (SPT_CTRL_ROLE p) = (p == 15)) ∧ (∀ b : Fin 8, s.get (BNK_ROOT_SEL b) = 0) ∧ (∀ i : Fin 512, s.fuse i = 0) ∧ s.ready = false)
end

