-- ==== Sys2Proof/Laws/Crc.lean ====
section
/-! SUPPORT. The CRC: it takes one byte after the other and stays within 32 bits. Numbers at an offset of a staged image. -/

set_option Elab.async false

namespace Sys2Proof.Machine

theorem crcBytes_cons (c b : Nat) (t : List Nat) : crcBytes c (b :: t) = crcBytes (crcByte c b) t := by
  show (match crcByte c b with | 0 => crcBytes 0 t | k + 1 => crcBytes (k + 1) t) = _
  cases crcByte c b <;> rfl

theorem crcBytes_append (c : Nat) (a b : List Nat) : crcBytes c (a ++ b) = crcBytes (crcBytes c a) b := by
  induction a generalizing c with
  | nil => rfl
  | cons x t ih => rw [List.cons_append, crcBytes_cons, crcBytes_cons, ih]

theorem crcBit_lt {c : Nat} (h : c < 2 ^ 32) : crcBit c < 2 ^ 32 := by
  have h2 : c % 2 < 2 := Nat.mod_lt _ (by decide)
  exact Nat.xor_lt_two_pow (by omega) (by omega)

theorem crcByte_lt {c : Nat} (b : Nat) (h : c < 2 ^ 32) : crcByte c b < 2 ^ 32 := by
  have h0 : Nat.xor c (b % 256) < 2 ^ 32 := Nat.xor_lt_two_pow h (by omega)
  exact crcBit_lt (crcBit_lt (crcBit_lt (crcBit_lt (crcBit_lt (crcBit_lt (crcBit_lt (crcBit_lt h0)))))))

theorem crcBytes_lt {c : Nat} (l : List Nat) (h : c < 2 ^ 32) : crcBytes c l < 2 ^ 32 := by
  induction l generalizing c with
  | nil => exact h
  | cons b t ih => rw [crcBytes_cons]; exact ih (crcByte_lt b h)

theorem crc32_lt (l : List Nat) : crc32 l < 2 ^ 32 := Nat.xor_lt_two_pow (crcBytes_lt l (by decide)) (by decide)

theorem sealOf_lt {c : Nat} (h : c < 2 ^ 32) : sealOf c < 2 ^ 32 := Nat.xor_lt_two_pow h (by decide)

/-- Bytes written in little-endian order read back as the number. -/
theorem ofLe_leBytes (n v : Nat) : ofLe (leBytes n v) = v % 2 ^ (8 * n) := by
  induction n generalizing v with
  | zero => simp [leBytes, ofLe, Nat.mod_one]
  | succ n ih =>
    have e : 2 ^ (8 * (n + 1)) = 256 * 2 ^ (8 * n) := by rw [Nat.mul_add, pow_add]; ring
    rw [leBytes, ofLe, ih, e, Nat.mod_mul]
    simp

/-- The number at an offset of what is staged. -/
theorem imgAt_staged (s : State) {n off k : Nat} (h : off + k ≤ n) :
    imgAt (s.staged n) off k = ofLe ((List.range' off k).map (tabGet 0 s.staging)) := by
  unfold imgAt State.staged
  rw [← List.map_drop, ← List.map_take, List.range_eq_range', List.drop_range', List.take_range'_of_length_ge (by omega)]
  simp

end Sys2Proof.Machine
end

