-- ==== Sys2Proof/Laws/Tab.lean ====
section
/-! SUPPORT. Laws of sparse tables: a read after a write, and the canonical form. -/

set_option Elab.async false

namespace Sys2Proof.Machine

theorem tabGet_tabErase_same {α : Type} (d : α) (t : Tab α) (i : Nat) : tabGet d (tabErase t i) i = d := by
  induction t with
  | nil => rfl
  | cons p t ih =>
    obtain ⟨k, v⟩ := p
    by_cases h : k = i <;> simp [tabErase, tabGet, h, ih]

theorem tabGet_tabErase_other {α : Type} (d : α) (t : Tab α) {i j : Nat} (h : j ≠ i) :
    tabGet d (tabErase t i) j = tabGet d t j := by
  induction t with
  | nil => rfl
  | cons p t ih =>
    obtain ⟨k, v⟩ := p
    by_cases hk : k = i
    · subst hk; simp [tabErase, tabGet, ih, Ne.symm h]
    · simp only [tabErase, hk, ↓reduceIte, tabGet, ih]

theorem tabGet_tabInsert_other {α : Type} (d : α) (t : Tab α) {i j : Nat} (v : α) (h : j ≠ i) :
    tabGet d (tabInsert t i v) j = tabGet d t j := by
  induction t with
  | nil => simp [tabInsert, tabGet, Ne.symm h]
  | cons p t ih =>
    obtain ⟨k, w⟩ := p
    by_cases hk : i < k
    · simp [tabInsert, hk, tabGet, Ne.symm h]
    · simp only [tabInsert, hk, ↓reduceIte, tabGet, ih]

theorem tabGet_tabInsert_erased {α : Type} (d : α) (t : Tab α) (i : Nat) (v : α) :
    tabGet d (tabInsert (tabErase t i) i v) i = v := by
  induction t with
  | nil => simp [tabErase, tabInsert, tabGet]
  | cons p t ih =>
    obtain ⟨k, w⟩ := p
    by_cases h : k = i
    · simpa [tabErase, h] using ih
    · by_cases hk : i < k <;> simp [tabErase, h, tabInsert, hk, tabGet, ih]

/-- A read after a write to the same key gives the value written. -/
@[simp] theorem tabGet_tabSet_same {α : Type} [DecidableEq α] (d : α) (t : Tab α) (i : Nat) (v : α) :
    tabGet d (tabSet d t i v) i = v := by
  unfold tabSet
  split
  · next h => rw [tabGet_tabErase_same, h]
  · exact tabGet_tabInsert_erased d t i v

/-- A write leaves every other key alone, whatever an unlisted key reads as. -/
theorem tabGet_tabSet_other {α : Type} [DecidableEq α] (d e : α) (t : Tab α) {i j : Nat} (v : α) (h : j ≠ i) :
    tabGet e (tabSet d t i v) j = tabGet e t j := by
  unfold tabSet
  split
  · exact tabGet_tabErase_other e t h
  · rw [tabGet_tabInsert_other e _ v h, tabGet_tabErase_other e t h]

/-! ### The canonical form -/

theorem tabRising_weaken {α : Type} {a b : Nat} (h : a ≤ b) : ∀ {t : Tab α}, tabRising (some b) t = true → tabRising (some a) t = true
  | [], _ => rfl
  | (k, _) :: t, hr => by
    simp only [tabRising, Bool.and_eq_true, decide_eq_true_eq] at hr ⊢
    exact ⟨by omega, hr.2⟩

theorem tabRising_tail {α : Type} {o : Option Nat} {k : Nat} {v : α} {t : Tab α} (h : tabRising o ((k, v) :: t) = true) :
    tabRising (some k) t = true := by
  cases o <;> simp_all [tabRising]

theorem tabRising_erase {α : Type} (i : Nat) : ∀ (o : Option Nat) (t : Tab α), tabRising o t = true → tabRising o (tabErase t i) = true
  | _, [], _ => by simp [tabErase, tabRising]
  | none, (k, v) :: t, h => by
    have ht := tabRising_tail h
    by_cases hk : k = i
    · simp only [tabErase, hk, ↓reduceIte]
      have := tabRising_erase i (some k) t ht
      generalize tabErase t i = u at *
      cases u <;> simp_all [tabRising]
    · simp only [tabErase, hk, ↓reduceIte]
      simpa [tabRising] using tabRising_erase i (some k) t ht
  | some b, (k, v) :: t, h => by
    have ht := tabRising_tail h
    simp only [tabRising, Bool.and_eq_true, decide_eq_true_eq] at h
    by_cases hk : k = i
    · simp only [tabErase, hk, ↓reduceIte]
      exact tabRising_erase i (some b) t (tabRising_weaken (by omega) h.2)
    · simp only [tabErase, hk, ↓reduceIte, tabRising, Bool.and_eq_true, decide_eq_true_eq]
      exact ⟨h.1, tabRising_erase i (some k) t ht⟩

/-- Does a table list a key? -/
def tabHas {α : Type} (t : Tab α) (i : Nat) : Prop := ∃ v, (i, v) ∈ t

theorem not_tabHas_erase {α : Type} (t : Tab α) (i : Nat) : ¬ tabHas (tabErase t i) i := by
  induction t with
  | nil => rintro ⟨v, h⟩; simp [tabErase] at h
  | cons p t ih =>
    obtain ⟨k, w⟩ := p
    rintro ⟨v, h⟩
    by_cases hk : k = i
    · simp only [tabErase, hk, ↓reduceIte] at h; exact ih ⟨v, h⟩
    · simp only [tabErase, hk, ↓reduceIte, List.mem_cons, Prod.mk.injEq] at h
      rcases h with h | h
      · exact hk h.1.symm
      · exact ih ⟨v, h⟩

theorem tabRising_insert {α : Type} (i : Nat) (v : α) : ∀ (o : Option Nat) (t : Tab α), tabRising o t = true → ¬ tabHas t i →
    (∀ b, o = some b → b < i) → tabRising o (tabInsert t i v) = true
  | none, [], _, _, _ => by simp [tabInsert, tabRising]
  | some b, [], _, _, hb => by simpa [tabInsert, tabRising] using hb b rfl
  | o, (k, w) :: t, h, hn, hb => by
    have hki : k ≠ i := fun e => hn ⟨w, by simp [e]⟩
    have ht := tabRising_tail h
    have hnt : ¬ tabHas t i := fun ⟨u, hu⟩ => hn ⟨u, List.mem_cons_of_mem _ hu⟩
    by_cases hlt : i < k
    · simp only [tabInsert, hlt, ↓reduceIte]
      cases o with
      | none => simpa [tabRising, hlt] using ht
      | some b => simpa [tabRising, hlt, hb b rfl] using ht
    · simp only [tabInsert, hlt, ↓reduceIte]
      have := tabRising_insert i v (some k) t ht hnt (by intro b e; cases e; omega)
      cases o with
      | none => simpa [tabRising] using this
      | some b =>
        simp only [tabRising, Bool.and_eq_true, decide_eq_true_eq] at h ⊢
        exact ⟨h.1, this⟩

theorem tabSparse_erase {α : Type} [DecidableEq α] (d : Nat → α) (i : Nat) : ∀ (t : Tab α), tabSparse d t = true → tabSparse d (tabErase t i) = true
  | [], _ => by simp [tabErase, tabSparse]
  | (k, v) :: t, h => by
    simp only [tabSparse, Bool.and_eq_true] at h
    by_cases hk : k = i
    · simpa [tabErase, hk] using tabSparse_erase d i t h.2
    · simp only [tabErase, hk, ↓reduceIte, tabSparse, Bool.and_eq_true]
      exact ⟨h.1, tabSparse_erase d i t h.2⟩

theorem tabSparse_insert {α : Type} [DecidableEq α] (d : Nat → α) (i : Nat) (v : α) (hv : v ≠ d i) :
    ∀ (t : Tab α), tabSparse d t = true → tabSparse d (tabInsert t i v) = true
  | [], _ => by simpa [tabInsert, tabSparse] using hv
  | (k, w) :: t, h => by
    by_cases hk : i < k
    · simp only [tabInsert, hk, ↓reduceIte, tabSparse, Bool.and_eq_true, decide_eq_true_eq] at h ⊢
      exact ⟨hv, h⟩
    · simp only [tabInsert, hk, ↓reduceIte, tabSparse, Bool.and_eq_true] at h ⊢
      exact ⟨h.1, tabSparse_insert d i v hv t h.2⟩

/-- A write keeps the canonical form. -/
theorem Tab.wf_tabSet {α : Type} [DecidableEq α] (d : Nat → α) (t : Tab α) (i : Nat) (v : α) (h : Tab.wf d t = true) :
    Tab.wf d (tabSet (d i) t i v) = true := by
  simp only [Tab.wf, Bool.and_eq_true] at h ⊢
  unfold tabSet
  split
  · exact ⟨tabRising_erase i none t h.1, tabSparse_erase d i t h.2⟩
  · next hv =>
    exact ⟨tabRising_insert i v none _ (tabRising_erase i none t h.1) (not_tabHas_erase t i) (by simp),
      tabSparse_insert d i v hv _ (tabSparse_erase d i t h.2)⟩

/-- The part of a table that a test of the keys keeps has the canonical form. -/
theorem Tab.wf_filter {α : Type} [DecidableEq α] (d : Nat → α) (f : Nat → Bool) (t : Tab α) (h : Tab.wf d t = true) :
    Tab.wf d (t.filter (fun p => f p.1)) = true := by
  simp only [Tab.wf, Bool.and_eq_true] at h ⊢
  refine ⟨?_, ?_⟩
  · have : ∀ (o : Option Nat) (u : Tab α), tabRising o u = true → tabRising o (u.filter (fun p => f p.1)) = true := by
      intro o u
      induction u generalizing o with
      | nil => intro _; simp [tabRising]
      | cons p u ih =>
        obtain ⟨k, v⟩ := p
        intro hr
        have ht := tabRising_tail hr
        by_cases hf : f k = true
        · simp only [List.filter_cons, hf, ↓reduceIte]
          cases o with
          | none => simpa [tabRising] using ih (some k) ht
          | some b =>
            simp only [tabRising, Bool.and_eq_true, decide_eq_true_eq] at hr ⊢
            exact ⟨hr.1, ih (some k) ht⟩
        · simp only [List.filter_cons, hf]
          cases o with
          | none =>
            have := ih (some k) ht
            generalize List.filter (fun p : Nat × α => f p.1) u = w at *
            cases w <;> simp_all [tabRising]
          | some b =>
            simp only [tabRising, Bool.and_eq_true, decide_eq_true_eq] at hr
            exact ih (some b) (tabRising_weaken (by omega) hr.2)
    exact this none t h.1
  · have : ∀ (u : Tab α), tabSparse d u = true → tabSparse d (u.filter (fun p => f p.1)) = true := by
      intro u
      induction u with
      | nil => intro _; rfl
      | cons p u ih =>
        obtain ⟨k, v⟩ := p
        intro hs
        simp only [tabSparse, Bool.and_eq_true] at hs
        by_cases hf : f k = true
        · simp only [List.filter_cons, hf, ↓reduceIte, tabSparse, Bool.and_eq_true]; exact ⟨hs.1, ih hs.2⟩
        · simpa [List.filter_cons, hf] using ih hs.2
    exact this t h.2

end Sys2Proof.Machine
end

