-- ==== Sys2Proof/Laws/State.lean ====
section
/-! SUPPORT. What each update of the state leaves as it was: one lemma per field and update. -/

set_option Elab.async false

namespace Sys2Proof.Machine

/-! `setWord` -/

@[simp] theorem State.setWord_roots (s : State) (a : Nat) (w : Word) : (s.setWord a w).roots = s.roots := by cases s; rfl
@[simp] theorem State.setWord_banks (s : State) (a : Nat) (w : Word) : (s.setWord a w).banks = s.banks := by cases s; rfl
@[simp] theorem State.setWord_groups (s : State) (a : Nat) (w : Word) : (s.setWord a w).groups = s.groups := by cases s; rfl
@[simp] theorem State.setWord_chans (s : State) (a : Nat) (w : Word) : (s.setWord a w).chans = s.chans := by cases s; rfl
@[simp] theorem State.setWord_store (s : State) (a : Nat) (w : Word) : (s.setWord a w).store = s.store := by cases s; rfl
@[simp] theorem State.setWord_storeErr (s : State) (a : Nat) (w : Word) : (s.setWord a w).storeErr = s.storeErr := by cases s; rfl
@[simp] theorem State.setWord_calChans (s : State) (a : Nat) (w : Word) : (s.setWord a w).calChans = s.calChans := by cases s; rfl
@[simp] theorem State.setWord_caps (s : State) (a : Nat) (w : Word) : (s.setWord a w).caps = s.caps := by cases s; rfl
@[simp] theorem State.setWord_takes (s : State) (a : Nat) (w : Word) : (s.setWord a w).takes = s.takes := by cases s; rfl
@[simp] theorem State.setWord_rings (s : State) (a : Nat) (w : Word) : (s.setWord a w).rings = s.rings := by cases s; rfl
@[simp] theorem State.setWord_reelSeq (s : State) (a : Nat) (w : Word) : (s.setWord a w).reelSeq = s.reelSeq := by cases s; rfl
@[simp] theorem State.setWord_ivs (s : State) (a : Nat) (w : Word) : (s.setWord a w).ivs = s.ivs := by cases s; rfl
@[simp] theorem State.setWord_rgs (s : State) (a : Nat) (w : Word) : (s.setWord a w).rgs = s.rgs := by cases s; rfl
@[simp] theorem State.setWord_regQ (s : State) (a : Nat) (w : Word) : (s.setWord a w).regQ = s.regQ := by cases s; rfl
@[simp] theorem State.setWord_tsps (s : State) (a : Nat) (w : Word) : (s.setWord a w).tsps = s.tsps := by cases s; rfl
@[simp] theorem State.setWord_flows (s : State) (a : Nat) (w : Word) : (s.setWord a w).flows = s.flows := by cases s; rfl
@[simp] theorem State.setWord_sched (s : State) (a : Nat) (w : Word) : (s.setWord a w).sched = s.sched := by cases s; rfl
@[simp] theorem State.setWord_ep (s : State) (a : Nat) (w : Word) : (s.setWord a w).ep = s.ep := by cases s; rfl
@[simp] theorem State.setWord_msix (s : State) (a : Nat) (w : Word) : (s.setWord a w).msix = s.msix := by cases s; rfl
@[simp] theorem State.setWord_msixPend (s : State) (a : Nat) (w : Word) : (s.setWord a w).msixPend = s.msixPend := by cases s; rfl
@[simp] theorem State.setWord_fuses (s : State) (a : Nat) (w : Word) : (s.setWord a w).fuses = s.fuses := by cases s; rfl
@[simp] theorem State.setWord_shadow (s : State) (a : Nat) (w : Word) : (s.setWord a w).shadow = s.shadow := by cases s; rfl
@[simp] theorem State.setWord_pls (s : State) (a : Nat) (w : Word) : (s.setWord a w).pls = s.pls := by cases s; rfl
@[simp] theorem State.setWord_board (s : State) (a : Nat) (w : Word) : (s.setWord a w).board = s.board := by cases s; rfl
@[simp] theorem State.setWord_pds (s : State) (a : Nat) (w : Word) : (s.setWord a w).pds = s.pds := by cases s; rfl
@[simp] theorem State.setWord_pwr (s : State) (a : Nat) (w : Word) : (s.setWord a w).pwr = s.pwr := by cases s; rfl
@[simp] theorem State.setWord_pmb (s : State) (a : Nat) (w : Word) : (s.setWord a w).pmb = s.pmb := by cases s; rfl
@[simp] theorem State.setWord_boot (s : State) (a : Nat) (w : Word) : (s.setWord a w).boot = s.boot := by cases s; rfl
@[simp] theorem State.setWord_jtag (s : State) (a : Nat) (w : Word) : (s.setWord a w).jtag = s.jtag := by cases s; rfl
@[simp] theorem State.setWord_quorno (s : State) (a : Nat) (w : Word) : (s.setWord a w).quorno = s.quorno := by cases s; rfl
@[simp] theorem State.setWord_spts (s : State) (a : Nat) (w : Word) : (s.setWord a w).spts = s.spts := by cases s; rfl
@[simp] theorem State.setWord_cal (s : State) (a : Nat) (w : Word) : (s.setWord a w).cal = s.cal := by cases s; rfl
@[simp] theorem State.setWord_staging (s : State) (a : Nat) (w : Word) : (s.setWord a w).staging = s.staging := by cases s; rfl
@[simp] theorem State.setWord_pending (s : State) (a : Nat) (w : Word) : (s.setWord a w).pending = s.pending := by cases s; rfl
@[simp] theorem State.setWord_free (s : State) (a : Nat) (w : Word) : (s.setWord a w).free = s.free := by cases s; rfl
@[simp] theorem State.setWord_out (s : State) (a : Nat) (w : Word) : (s.setWord a w).out = s.out := by cases s; rfl
@[simp] theorem State.setWord_root (s : State) (a : Nat) (w : Word) (m : Nat) : (s.setWord a w).root m = s.root m := by cases s; rfl
@[simp] theorem State.setWord_bank (s : State) (a : Nat) (w : Word) (m : Nat) : (s.setWord a w).bank m = s.bank m := by cases s; rfl
@[simp] theorem State.setWord_group (s : State) (a : Nat) (w : Word) (m : Nat) : (s.setWord a w).group m = s.group m := by cases s; rfl
@[simp] theorem State.setWord_chan (s : State) (a : Nat) (w : Word) (m : Nat) : (s.setWord a w).chan m = s.chan m := by cases s; rfl
@[simp] theorem State.setWord_tsp (s : State) (a : Nat) (w : Word) (m : Nat) : (s.setWord a w).tsp m = s.tsp m := by cases s; rfl
@[simp] theorem State.setWord_flow (s : State) (a : Nat) (w : Word) (m : Nat) : (s.setWord a w).flow m = s.flow m := by cases s; rfl
@[simp] theorem State.setWord_cap (s : State) (a : Nat) (w : Word) (m : Nat) : (s.setWord a w).cap m = s.cap m := by cases s; rfl
@[simp] theorem State.setWord_take (s : State) (a : Nat) (w : Word) (m : Nat) : (s.setWord a w).take m = s.take m := by cases s; rfl
@[simp] theorem State.setWord_ring (s : State) (a : Nat) (w : Word) (m : Nat) : (s.setWord a w).ring m = s.ring m := by cases s; rfl
@[simp] theorem State.setWord_iv (s : State) (a : Nat) (w : Word) (m : Nat) : (s.setWord a w).iv m = s.iv m := by cases s; rfl
@[simp] theorem State.setWord_pl (s : State) (a : Nat) (w : Word) (m : Nat) : (s.setWord a w).pl m = s.pl m := by cases s; rfl
@[simp] theorem State.setWord_pd (s : State) (a : Nat) (w : Word) (m : Nat) : (s.setWord a w).pd m = s.pd m := by cases s; rfl
@[simp] theorem State.setWord_spt (s : State) (a : Nat) (w : Word) (m : Nat) : (s.setWord a w).spt m = s.spt m := by cases s; rfl
@[simp] theorem State.setWord_rg (s : State) (a : Nat) (w : Word) (m : Nat) : (s.setWord a w).rg m = s.rg m := by cases s; rfl

/-! `put` -/

@[simp] theorem State.put_roots (s : State) (r : Ref) (v : Nat) : (s.put r v).roots = s.roots := by cases s; rfl
@[simp] theorem State.put_banks (s : State) (r : Ref) (v : Nat) : (s.put r v).banks = s.banks := by cases s; rfl
@[simp] theorem State.put_groups (s : State) (r : Ref) (v : Nat) : (s.put r v).groups = s.groups := by cases s; rfl
@[simp] theorem State.put_chans (s : State) (r : Ref) (v : Nat) : (s.put r v).chans = s.chans := by cases s; rfl
@[simp] theorem State.put_store (s : State) (r : Ref) (v : Nat) : (s.put r v).store = s.store := by cases s; rfl
@[simp] theorem State.put_storeErr (s : State) (r : Ref) (v : Nat) : (s.put r v).storeErr = s.storeErr := by cases s; rfl
@[simp] theorem State.put_calChans (s : State) (r : Ref) (v : Nat) : (s.put r v).calChans = s.calChans := by cases s; rfl
@[simp] theorem State.put_caps (s : State) (r : Ref) (v : Nat) : (s.put r v).caps = s.caps := by cases s; rfl
@[simp] theorem State.put_takes (s : State) (r : Ref) (v : Nat) : (s.put r v).takes = s.takes := by cases s; rfl
@[simp] theorem State.put_rings (s : State) (r : Ref) (v : Nat) : (s.put r v).rings = s.rings := by cases s; rfl
@[simp] theorem State.put_reelSeq (s : State) (r : Ref) (v : Nat) : (s.put r v).reelSeq = s.reelSeq := by cases s; rfl
@[simp] theorem State.put_ivs (s : State) (r : Ref) (v : Nat) : (s.put r v).ivs = s.ivs := by cases s; rfl
@[simp] theorem State.put_rgs (s : State) (r : Ref) (v : Nat) : (s.put r v).rgs = s.rgs := by cases s; rfl
@[simp] theorem State.put_regQ (s : State) (r : Ref) (v : Nat) : (s.put r v).regQ = s.regQ := by cases s; rfl
@[simp] theorem State.put_tsps (s : State) (r : Ref) (v : Nat) : (s.put r v).tsps = s.tsps := by cases s; rfl
@[simp] theorem State.put_flows (s : State) (r : Ref) (v : Nat) : (s.put r v).flows = s.flows := by cases s; rfl
@[simp] theorem State.put_sched (s : State) (r : Ref) (v : Nat) : (s.put r v).sched = s.sched := by cases s; rfl
@[simp] theorem State.put_ep (s : State) (r : Ref) (v : Nat) : (s.put r v).ep = s.ep := by cases s; rfl
@[simp] theorem State.put_msix (s : State) (r : Ref) (v : Nat) : (s.put r v).msix = s.msix := by cases s; rfl
@[simp] theorem State.put_msixPend (s : State) (r : Ref) (v : Nat) : (s.put r v).msixPend = s.msixPend := by cases s; rfl
@[simp] theorem State.put_fuses (s : State) (r : Ref) (v : Nat) : (s.put r v).fuses = s.fuses := by cases s; rfl
@[simp] theorem State.put_shadow (s : State) (r : Ref) (v : Nat) : (s.put r v).shadow = s.shadow := by cases s; rfl
@[simp] theorem State.put_pls (s : State) (r : Ref) (v : Nat) : (s.put r v).pls = s.pls := by cases s; rfl
@[simp] theorem State.put_board (s : State) (r : Ref) (v : Nat) : (s.put r v).board = s.board := by cases s; rfl
@[simp] theorem State.put_pds (s : State) (r : Ref) (v : Nat) : (s.put r v).pds = s.pds := by cases s; rfl
@[simp] theorem State.put_pwr (s : State) (r : Ref) (v : Nat) : (s.put r v).pwr = s.pwr := by cases s; rfl
@[simp] theorem State.put_pmb (s : State) (r : Ref) (v : Nat) : (s.put r v).pmb = s.pmb := by cases s; rfl
@[simp] theorem State.put_boot (s : State) (r : Ref) (v : Nat) : (s.put r v).boot = s.boot := by cases s; rfl
@[simp] theorem State.put_jtag (s : State) (r : Ref) (v : Nat) : (s.put r v).jtag = s.jtag := by cases s; rfl
@[simp] theorem State.put_quorno (s : State) (r : Ref) (v : Nat) : (s.put r v).quorno = s.quorno := by cases s; rfl
@[simp] theorem State.put_spts (s : State) (r : Ref) (v : Nat) : (s.put r v).spts = s.spts := by cases s; rfl
@[simp] theorem State.put_cal (s : State) (r : Ref) (v : Nat) : (s.put r v).cal = s.cal := by cases s; rfl
@[simp] theorem State.put_staging (s : State) (r : Ref) (v : Nat) : (s.put r v).staging = s.staging := by cases s; rfl
@[simp] theorem State.put_pending (s : State) (r : Ref) (v : Nat) : (s.put r v).pending = s.pending := by cases s; rfl
@[simp] theorem State.put_free (s : State) (r : Ref) (v : Nat) : (s.put r v).free = s.free := by cases s; rfl
@[simp] theorem State.put_out (s : State) (r : Ref) (v : Nat) : (s.put r v).out = s.out := by cases s; rfl
@[simp] theorem State.put_root (s : State) (r : Ref) (v : Nat) (m : Nat) : (s.put r v).root m = s.root m := by cases s; rfl
@[simp] theorem State.put_bank (s : State) (r : Ref) (v : Nat) (m : Nat) : (s.put r v).bank m = s.bank m := by cases s; rfl
@[simp] theorem State.put_group (s : State) (r : Ref) (v : Nat) (m : Nat) : (s.put r v).group m = s.group m := by cases s; rfl
@[simp] theorem State.put_chan (s : State) (r : Ref) (v : Nat) (m : Nat) : (s.put r v).chan m = s.chan m := by cases s; rfl
@[simp] theorem State.put_tsp (s : State) (r : Ref) (v : Nat) (m : Nat) : (s.put r v).tsp m = s.tsp m := by cases s; rfl
@[simp] theorem State.put_flow (s : State) (r : Ref) (v : Nat) (m : Nat) : (s.put r v).flow m = s.flow m := by cases s; rfl
@[simp] theorem State.put_cap (s : State) (r : Ref) (v : Nat) (m : Nat) : (s.put r v).cap m = s.cap m := by cases s; rfl
@[simp] theorem State.put_take (s : State) (r : Ref) (v : Nat) (m : Nat) : (s.put r v).take m = s.take m := by cases s; rfl
@[simp] theorem State.put_ring (s : State) (r : Ref) (v : Nat) (m : Nat) : (s.put r v).ring m = s.ring m := by cases s; rfl
@[simp] theorem State.put_iv (s : State) (r : Ref) (v : Nat) (m : Nat) : (s.put r v).iv m = s.iv m := by cases s; rfl
@[simp] theorem State.put_pl (s : State) (r : Ref) (v : Nat) (m : Nat) : (s.put r v).pl m = s.pl m := by cases s; rfl
@[simp] theorem State.put_pd (s : State) (r : Ref) (v : Nat) (m : Nat) : (s.put r v).pd m = s.pd m := by cases s; rfl
@[simp] theorem State.put_spt (s : State) (r : Ref) (v : Nat) (m : Nat) : (s.put r v).spt m = s.spt m := by cases s; rfl
@[simp] theorem State.put_rg (s : State) (r : Ref) (v : Nat) (m : Nat) : (s.put r v).rg m = s.rg m := by cases s; rfl

/-! `emit` -/

@[simp] theorem State.emit_regs (s : State) (o : Output) : (s.emit o).regs = s.regs := by cases s; rfl
@[simp] theorem State.emit_roots (s : State) (o : Output) : (s.emit o).roots = s.roots := by cases s; rfl
@[simp] theorem State.emit_banks (s : State) (o : Output) : (s.emit o).banks = s.banks := by cases s; rfl
@[simp] theorem State.emit_groups (s : State) (o : Output) : (s.emit o).groups = s.groups := by cases s; rfl
@[simp] theorem State.emit_chans (s : State) (o : Output) : (s.emit o).chans = s.chans := by cases s; rfl
@[simp] theorem State.emit_store (s : State) (o : Output) : (s.emit o).store = s.store := by cases s; rfl
@[simp] theorem State.emit_storeErr (s : State) (o : Output) : (s.emit o).storeErr = s.storeErr := by cases s; rfl
@[simp] theorem State.emit_calChans (s : State) (o : Output) : (s.emit o).calChans = s.calChans := by cases s; rfl
@[simp] theorem State.emit_caps (s : State) (o : Output) : (s.emit o).caps = s.caps := by cases s; rfl
@[simp] theorem State.emit_takes (s : State) (o : Output) : (s.emit o).takes = s.takes := by cases s; rfl
@[simp] theorem State.emit_rings (s : State) (o : Output) : (s.emit o).rings = s.rings := by cases s; rfl
@[simp] theorem State.emit_reelSeq (s : State) (o : Output) : (s.emit o).reelSeq = s.reelSeq := by cases s; rfl
@[simp] theorem State.emit_ivs (s : State) (o : Output) : (s.emit o).ivs = s.ivs := by cases s; rfl
@[simp] theorem State.emit_rgs (s : State) (o : Output) : (s.emit o).rgs = s.rgs := by cases s; rfl
@[simp] theorem State.emit_regQ (s : State) (o : Output) : (s.emit o).regQ = s.regQ := by cases s; rfl
@[simp] theorem State.emit_tsps (s : State) (o : Output) : (s.emit o).tsps = s.tsps := by cases s; rfl
@[simp] theorem State.emit_flows (s : State) (o : Output) : (s.emit o).flows = s.flows := by cases s; rfl
@[simp] theorem State.emit_sched (s : State) (o : Output) : (s.emit o).sched = s.sched := by cases s; rfl
@[simp] theorem State.emit_ep (s : State) (o : Output) : (s.emit o).ep = s.ep := by cases s; rfl
@[simp] theorem State.emit_msix (s : State) (o : Output) : (s.emit o).msix = s.msix := by cases s; rfl
@[simp] theorem State.emit_msixPend (s : State) (o : Output) : (s.emit o).msixPend = s.msixPend := by cases s; rfl
@[simp] theorem State.emit_fuses (s : State) (o : Output) : (s.emit o).fuses = s.fuses := by cases s; rfl
@[simp] theorem State.emit_shadow (s : State) (o : Output) : (s.emit o).shadow = s.shadow := by cases s; rfl
@[simp] theorem State.emit_pls (s : State) (o : Output) : (s.emit o).pls = s.pls := by cases s; rfl
@[simp] theorem State.emit_board (s : State) (o : Output) : (s.emit o).board = s.board := by cases s; rfl
@[simp] theorem State.emit_pds (s : State) (o : Output) : (s.emit o).pds = s.pds := by cases s; rfl
@[simp] theorem State.emit_pwr (s : State) (o : Output) : (s.emit o).pwr = s.pwr := by cases s; rfl
@[simp] theorem State.emit_pmb (s : State) (o : Output) : (s.emit o).pmb = s.pmb := by cases s; rfl
@[simp] theorem State.emit_boot (s : State) (o : Output) : (s.emit o).boot = s.boot := by cases s; rfl
@[simp] theorem State.emit_jtag (s : State) (o : Output) : (s.emit o).jtag = s.jtag := by cases s; rfl
@[simp] theorem State.emit_quorno (s : State) (o : Output) : (s.emit o).quorno = s.quorno := by cases s; rfl
@[simp] theorem State.emit_spts (s : State) (o : Output) : (s.emit o).spts = s.spts := by cases s; rfl
@[simp] theorem State.emit_cal (s : State) (o : Output) : (s.emit o).cal = s.cal := by cases s; rfl
@[simp] theorem State.emit_staging (s : State) (o : Output) : (s.emit o).staging = s.staging := by cases s; rfl
@[simp] theorem State.emit_pending (s : State) (o : Output) : (s.emit o).pending = s.pending := by cases s; rfl
@[simp] theorem State.emit_free (s : State) (o : Output) : (s.emit o).free = s.free := by cases s; rfl
@[simp] theorem State.emit_root (s : State) (o : Output) (m : Nat) : (s.emit o).root m = s.root m := by cases s; rfl
@[simp] theorem State.emit_bank (s : State) (o : Output) (m : Nat) : (s.emit o).bank m = s.bank m := by cases s; rfl
@[simp] theorem State.emit_group (s : State) (o : Output) (m : Nat) : (s.emit o).group m = s.group m := by cases s; rfl
@[simp] theorem State.emit_chan (s : State) (o : Output) (m : Nat) : (s.emit o).chan m = s.chan m := by cases s; rfl
@[simp] theorem State.emit_tsp (s : State) (o : Output) (m : Nat) : (s.emit o).tsp m = s.tsp m := by cases s; rfl
@[simp] theorem State.emit_flow (s : State) (o : Output) (m : Nat) : (s.emit o).flow m = s.flow m := by cases s; rfl
@[simp] theorem State.emit_cap (s : State) (o : Output) (m : Nat) : (s.emit o).cap m = s.cap m := by cases s; rfl
@[simp] theorem State.emit_take (s : State) (o : Output) (m : Nat) : (s.emit o).take m = s.take m := by cases s; rfl
@[simp] theorem State.emit_ring (s : State) (o : Output) (m : Nat) : (s.emit o).ring m = s.ring m := by cases s; rfl
@[simp] theorem State.emit_iv (s : State) (o : Output) (m : Nat) : (s.emit o).iv m = s.iv m := by cases s; rfl
@[simp] theorem State.emit_pl (s : State) (o : Output) (m : Nat) : (s.emit o).pl m = s.pl m := by cases s; rfl
@[simp] theorem State.emit_pd (s : State) (o : Output) (m : Nat) : (s.emit o).pd m = s.pd m := by cases s; rfl
@[simp] theorem State.emit_spt (s : State) (o : Output) (m : Nat) : (s.emit o).spt m = s.spt m := by cases s; rfl
@[simp] theorem State.emit_rg (s : State) (o : Output) (m : Nat) : (s.emit o).rg m = s.rg m := by cases s; rfl
@[simp] theorem State.emit_word (s : State) (o : Output) (q : Nat) : (s.emit o).word q = s.word q := by cases s; rfl
@[simp] theorem State.emit_get (s : State) (o : Output) (q : Ref) : (s.emit o).get q = s.get q := by cases s; rfl
@[simp] theorem State.emit_geti (s : State) (o : Output) (q : Ref) : (s.emit o).geti q = s.geti q := by cases s; rfl
@[simp] theorem State.emit_bit (s : State) (o : Output) (q : Ref) : (s.emit o).bit q = s.bit q := by cases s; rfl

/-! `draw` -/

@[simp] theorem State.draw_regs (s : State) : (s.draw).regs = s.regs := by cases s; rfl
@[simp] theorem State.draw_roots (s : State) : (s.draw).roots = s.roots := by cases s; rfl
@[simp] theorem State.draw_banks (s : State) : (s.draw).banks = s.banks := by cases s; rfl
@[simp] theorem State.draw_groups (s : State) : (s.draw).groups = s.groups := by cases s; rfl
@[simp] theorem State.draw_chans (s : State) : (s.draw).chans = s.chans := by cases s; rfl
@[simp] theorem State.draw_store (s : State) : (s.draw).store = s.store := by cases s; rfl
@[simp] theorem State.draw_storeErr (s : State) : (s.draw).storeErr = s.storeErr := by cases s; rfl
@[simp] theorem State.draw_calChans (s : State) : (s.draw).calChans = s.calChans := by cases s; rfl
@[simp] theorem State.draw_caps (s : State) : (s.draw).caps = s.caps := by cases s; rfl
@[simp] theorem State.draw_takes (s : State) : (s.draw).takes = s.takes := by cases s; rfl
@[simp] theorem State.draw_rings (s : State) : (s.draw).rings = s.rings := by cases s; rfl
@[simp] theorem State.draw_reelSeq (s : State) : (s.draw).reelSeq = s.reelSeq := by cases s; rfl
@[simp] theorem State.draw_ivs (s : State) : (s.draw).ivs = s.ivs := by cases s; rfl
@[simp] theorem State.draw_rgs (s : State) : (s.draw).rgs = s.rgs := by cases s; rfl
@[simp] theorem State.draw_regQ (s : State) : (s.draw).regQ = s.regQ := by cases s; rfl
@[simp] theorem State.draw_tsps (s : State) : (s.draw).tsps = s.tsps := by cases s; rfl
@[simp] theorem State.draw_flows (s : State) : (s.draw).flows = s.flows := by cases s; rfl
@[simp] theorem State.draw_sched (s : State) : (s.draw).sched = s.sched := by cases s; rfl
@[simp] theorem State.draw_ep (s : State) : (s.draw).ep = s.ep := by cases s; rfl
@[simp] theorem State.draw_msix (s : State) : (s.draw).msix = s.msix := by cases s; rfl
@[simp] theorem State.draw_msixPend (s : State) : (s.draw).msixPend = s.msixPend := by cases s; rfl
@[simp] theorem State.draw_fuses (s : State) : (s.draw).fuses = s.fuses := by cases s; rfl
@[simp] theorem State.draw_shadow (s : State) : (s.draw).shadow = s.shadow := by cases s; rfl
@[simp] theorem State.draw_pls (s : State) : (s.draw).pls = s.pls := by cases s; rfl
@[simp] theorem State.draw_board (s : State) : (s.draw).board = s.board := by cases s; rfl
@[simp] theorem State.draw_pds (s : State) : (s.draw).pds = s.pds := by cases s; rfl
@[simp] theorem State.draw_pwr (s : State) : (s.draw).pwr = s.pwr := by cases s; rfl
@[simp] theorem State.draw_pmb (s : State) : (s.draw).pmb = s.pmb := by cases s; rfl
@[simp] theorem State.draw_boot (s : State) : (s.draw).boot = s.boot := by cases s; rfl
@[simp] theorem State.draw_jtag (s : State) : (s.draw).jtag = s.jtag := by cases s; rfl
@[simp] theorem State.draw_quorno (s : State) : (s.draw).quorno = s.quorno := by cases s; rfl
@[simp] theorem State.draw_spts (s : State) : (s.draw).spts = s.spts := by cases s; rfl
@[simp] theorem State.draw_cal (s : State) : (s.draw).cal = s.cal := by cases s; rfl
@[simp] theorem State.draw_staging (s : State) : (s.draw).staging = s.staging := by cases s; rfl
@[simp] theorem State.draw_pending (s : State) : (s.draw).pending = s.pending := by cases s; rfl
@[simp] theorem State.draw_out (s : State) : (s.draw).out = s.out := by cases s; rfl
@[simp] theorem State.draw_root (s : State) (m : Nat) : (s.draw).root m = s.root m := by cases s; rfl
@[simp] theorem State.draw_bank (s : State) (m : Nat) : (s.draw).bank m = s.bank m := by cases s; rfl
@[simp] theorem State.draw_group (s : State) (m : Nat) : (s.draw).group m = s.group m := by cases s; rfl
@[simp] theorem State.draw_chan (s : State) (m : Nat) : (s.draw).chan m = s.chan m := by cases s; rfl
@[simp] theorem State.draw_tsp (s : State) (m : Nat) : (s.draw).tsp m = s.tsp m := by cases s; rfl
@[simp] theorem State.draw_flow (s : State) (m : Nat) : (s.draw).flow m = s.flow m := by cases s; rfl
@[simp] theorem State.draw_cap (s : State) (m : Nat) : (s.draw).cap m = s.cap m := by cases s; rfl
@[simp] theorem State.draw_take (s : State) (m : Nat) : (s.draw).take m = s.take m := by cases s; rfl
@[simp] theorem State.draw_ring (s : State) (m : Nat) : (s.draw).ring m = s.ring m := by cases s; rfl
@[simp] theorem State.draw_iv (s : State) (m : Nat) : (s.draw).iv m = s.iv m := by cases s; rfl
@[simp] theorem State.draw_pl (s : State) (m : Nat) : (s.draw).pl m = s.pl m := by cases s; rfl
@[simp] theorem State.draw_pd (s : State) (m : Nat) : (s.draw).pd m = s.pd m := by cases s; rfl
@[simp] theorem State.draw_spt (s : State) (m : Nat) : (s.draw).spt m = s.spt m := by cases s; rfl
@[simp] theorem State.draw_rg (s : State) (m : Nat) : (s.draw).rg m = s.rg m := by cases s; rfl
@[simp] theorem State.draw_word (s : State) (q : Nat) : (s.draw).word q = s.word q := by cases s; rfl
@[simp] theorem State.draw_get (s : State) (q : Ref) : (s.draw).get q = s.get q := by cases s; rfl
@[simp] theorem State.draw_geti (s : State) (q : Ref) : (s.draw).geti q = s.geti q := by cases s; rfl
@[simp] theorem State.draw_bit (s : State) (q : Ref) : (s.draw).bit q = s.bit q := by cases s; rfl

/-! `setRoot` -/

@[simp] theorem State.setRoot_regs (s : State) (n : Nat) (x : Root) : (s.setRoot n x).regs = s.regs := by cases s; rfl
@[simp] theorem State.setRoot_banks (s : State) (n : Nat) (x : Root) : (s.setRoot n x).banks = s.banks := by cases s; rfl
@[simp] theorem State.setRoot_groups (s : State) (n : Nat) (x : Root) : (s.setRoot n x).groups = s.groups := by cases s; rfl
@[simp] theorem State.setRoot_chans (s : State) (n : Nat) (x : Root) : (s.setRoot n x).chans = s.chans := by cases s; rfl
@[simp] theorem State.setRoot_store (s : State) (n : Nat) (x : Root) : (s.setRoot n x).store = s.store := by cases s; rfl
@[simp] theorem State.setRoot_storeErr (s : State) (n : Nat) (x : Root) : (s.setRoot n x).storeErr = s.storeErr := by cases s; rfl
@[simp] theorem State.setRoot_calChans (s : State) (n : Nat) (x : Root) : (s.setRoot n x).calChans = s.calChans := by cases s; rfl
@[simp] theorem State.setRoot_caps (s : State) (n : Nat) (x : Root) : (s.setRoot n x).caps = s.caps := by cases s; rfl
@[simp] theorem State.setRoot_takes (s : State) (n : Nat) (x : Root) : (s.setRoot n x).takes = s.takes := by cases s; rfl
@[simp] theorem State.setRoot_rings (s : State) (n : Nat) (x : Root) : (s.setRoot n x).rings = s.rings := by cases s; rfl
@[simp] theorem State.setRoot_reelSeq (s : State) (n : Nat) (x : Root) : (s.setRoot n x).reelSeq = s.reelSeq := by cases s; rfl
@[simp] theorem State.setRoot_ivs (s : State) (n : Nat) (x : Root) : (s.setRoot n x).ivs = s.ivs := by cases s; rfl
@[simp] theorem State.setRoot_rgs (s : State) (n : Nat) (x : Root) : (s.setRoot n x).rgs = s.rgs := by cases s; rfl
@[simp] theorem State.setRoot_regQ (s : State) (n : Nat) (x : Root) : (s.setRoot n x).regQ = s.regQ := by cases s; rfl
@[simp] theorem State.setRoot_tsps (s : State) (n : Nat) (x : Root) : (s.setRoot n x).tsps = s.tsps := by cases s; rfl
@[simp] theorem State.setRoot_flows (s : State) (n : Nat) (x : Root) : (s.setRoot n x).flows = s.flows := by cases s; rfl
@[simp] theorem State.setRoot_sched (s : State) (n : Nat) (x : Root) : (s.setRoot n x).sched = s.sched := by cases s; rfl
@[simp] theorem State.setRoot_ep (s : State) (n : Nat) (x : Root) : (s.setRoot n x).ep = s.ep := by cases s; rfl
@[simp] theorem State.setRoot_msix (s : State) (n : Nat) (x : Root) : (s.setRoot n x).msix = s.msix := by cases s; rfl
@[simp] theorem State.setRoot_msixPend (s : State) (n : Nat) (x : Root) : (s.setRoot n x).msixPend = s.msixPend := by cases s; rfl
@[simp] theorem State.setRoot_fuses (s : State) (n : Nat) (x : Root) : (s.setRoot n x).fuses = s.fuses := by cases s; rfl
@[simp] theorem State.setRoot_shadow (s : State) (n : Nat) (x : Root) : (s.setRoot n x).shadow = s.shadow := by cases s; rfl
@[simp] theorem State.setRoot_pls (s : State) (n : Nat) (x : Root) : (s.setRoot n x).pls = s.pls := by cases s; rfl
@[simp] theorem State.setRoot_board (s : State) (n : Nat) (x : Root) : (s.setRoot n x).board = s.board := by cases s; rfl
@[simp] theorem State.setRoot_pds (s : State) (n : Nat) (x : Root) : (s.setRoot n x).pds = s.pds := by cases s; rfl
@[simp] theorem State.setRoot_pwr (s : State) (n : Nat) (x : Root) : (s.setRoot n x).pwr = s.pwr := by cases s; rfl
@[simp] theorem State.setRoot_pmb (s : State) (n : Nat) (x : Root) : (s.setRoot n x).pmb = s.pmb := by cases s; rfl
@[simp] theorem State.setRoot_boot (s : State) (n : Nat) (x : Root) : (s.setRoot n x).boot = s.boot := by cases s; rfl
@[simp] theorem State.setRoot_jtag (s : State) (n : Nat) (x : Root) : (s.setRoot n x).jtag = s.jtag := by cases s; rfl
@[simp] theorem State.setRoot_quorno (s : State) (n : Nat) (x : Root) : (s.setRoot n x).quorno = s.quorno := by cases s; rfl
@[simp] theorem State.setRoot_spts (s : State) (n : Nat) (x : Root) : (s.setRoot n x).spts = s.spts := by cases s; rfl
@[simp] theorem State.setRoot_cal (s : State) (n : Nat) (x : Root) : (s.setRoot n x).cal = s.cal := by cases s; rfl
@[simp] theorem State.setRoot_staging (s : State) (n : Nat) (x : Root) : (s.setRoot n x).staging = s.staging := by cases s; rfl
@[simp] theorem State.setRoot_pending (s : State) (n : Nat) (x : Root) : (s.setRoot n x).pending = s.pending := by cases s; rfl
@[simp] theorem State.setRoot_free (s : State) (n : Nat) (x : Root) : (s.setRoot n x).free = s.free := by cases s; rfl
@[simp] theorem State.setRoot_out (s : State) (n : Nat) (x : Root) : (s.setRoot n x).out = s.out := by cases s; rfl
@[simp] theorem State.setRoot_bank (s : State) (n : Nat) (x : Root) (m : Nat) : (s.setRoot n x).bank m = s.bank m := by cases s; rfl
@[simp] theorem State.setRoot_group (s : State) (n : Nat) (x : Root) (m : Nat) : (s.setRoot n x).group m = s.group m := by cases s; rfl
@[simp] theorem State.setRoot_chan (s : State) (n : Nat) (x : Root) (m : Nat) : (s.setRoot n x).chan m = s.chan m := by cases s; rfl
@[simp] theorem State.setRoot_tsp (s : State) (n : Nat) (x : Root) (m : Nat) : (s.setRoot n x).tsp m = s.tsp m := by cases s; rfl
@[simp] theorem State.setRoot_flow (s : State) (n : Nat) (x : Root) (m : Nat) : (s.setRoot n x).flow m = s.flow m := by cases s; rfl
@[simp] theorem State.setRoot_cap (s : State) (n : Nat) (x : Root) (m : Nat) : (s.setRoot n x).cap m = s.cap m := by cases s; rfl
@[simp] theorem State.setRoot_take (s : State) (n : Nat) (x : Root) (m : Nat) : (s.setRoot n x).take m = s.take m := by cases s; rfl
@[simp] theorem State.setRoot_ring (s : State) (n : Nat) (x : Root) (m : Nat) : (s.setRoot n x).ring m = s.ring m := by cases s; rfl
@[simp] theorem State.setRoot_iv (s : State) (n : Nat) (x : Root) (m : Nat) : (s.setRoot n x).iv m = s.iv m := by cases s; rfl
@[simp] theorem State.setRoot_pl (s : State) (n : Nat) (x : Root) (m : Nat) : (s.setRoot n x).pl m = s.pl m := by cases s; rfl
@[simp] theorem State.setRoot_pd (s : State) (n : Nat) (x : Root) (m : Nat) : (s.setRoot n x).pd m = s.pd m := by cases s; rfl
@[simp] theorem State.setRoot_spt (s : State) (n : Nat) (x : Root) (m : Nat) : (s.setRoot n x).spt m = s.spt m := by cases s; rfl
@[simp] theorem State.setRoot_rg (s : State) (n : Nat) (x : Root) (m : Nat) : (s.setRoot n x).rg m = s.rg m := by cases s; rfl
@[simp] theorem State.setRoot_word (s : State) (n : Nat) (x : Root) (q : Nat) : (s.setRoot n x).word q = s.word q := by cases s; rfl
@[simp] theorem State.setRoot_get (s : State) (n : Nat) (x : Root) (q : Ref) : (s.setRoot n x).get q = s.get q := by cases s; rfl
@[simp] theorem State.setRoot_geti (s : State) (n : Nat) (x : Root) (q : Ref) : (s.setRoot n x).geti q = s.geti q := by cases s; rfl
@[simp] theorem State.setRoot_bit (s : State) (n : Nat) (x : Root) (q : Ref) : (s.setRoot n x).bit q = s.bit q := by cases s; rfl

/-! `setBank` -/

@[simp] theorem State.setBank_regs (s : State) (n : Nat) (x : Bank) : (s.setBank n x).regs = s.regs := by cases s; rfl
@[simp] theorem State.setBank_roots (s : State) (n : Nat) (x : Bank) : (s.setBank n x).roots = s.roots := by cases s; rfl
@[simp] theorem State.setBank_groups (s : State) (n : Nat) (x : Bank) : (s.setBank n x).groups = s.groups := by cases s; rfl
@[simp] theorem State.setBank_chans (s : State) (n : Nat) (x : Bank) : (s.setBank n x).chans = s.chans := by cases s; rfl
@[simp] theorem State.setBank_store (s : State) (n : Nat) (x : Bank) : (s.setBank n x).store = s.store := by cases s; rfl
@[simp] theorem State.setBank_storeErr (s : State) (n : Nat) (x : Bank) : (s.setBank n x).storeErr = s.storeErr := by cases s; rfl
@[simp] theorem State.setBank_calChans (s : State) (n : Nat) (x : Bank) : (s.setBank n x).calChans = s.calChans := by cases s; rfl
@[simp] theorem State.setBank_caps (s : State) (n : Nat) (x : Bank) : (s.setBank n x).caps = s.caps := by cases s; rfl
@[simp] theorem State.setBank_takes (s : State) (n : Nat) (x : Bank) : (s.setBank n x).takes = s.takes := by cases s; rfl
@[simp] theorem State.setBank_rings (s : State) (n : Nat) (x : Bank) : (s.setBank n x).rings = s.rings := by cases s; rfl
@[simp] theorem State.setBank_reelSeq (s : State) (n : Nat) (x : Bank) : (s.setBank n x).reelSeq = s.reelSeq := by cases s; rfl
@[simp] theorem State.setBank_ivs (s : State) (n : Nat) (x : Bank) : (s.setBank n x).ivs = s.ivs := by cases s; rfl
@[simp] theorem State.setBank_rgs (s : State) (n : Nat) (x : Bank) : (s.setBank n x).rgs = s.rgs := by cases s; rfl
@[simp] theorem State.setBank_regQ (s : State) (n : Nat) (x : Bank) : (s.setBank n x).regQ = s.regQ := by cases s; rfl
@[simp] theorem State.setBank_tsps (s : State) (n : Nat) (x : Bank) : (s.setBank n x).tsps = s.tsps := by cases s; rfl
@[simp] theorem State.setBank_flows (s : State) (n : Nat) (x : Bank) : (s.setBank n x).flows = s.flows := by cases s; rfl
@[simp] theorem State.setBank_sched (s : State) (n : Nat) (x : Bank) : (s.setBank n x).sched = s.sched := by cases s; rfl
@[simp] theorem State.setBank_ep (s : State) (n : Nat) (x : Bank) : (s.setBank n x).ep = s.ep := by cases s; rfl
@[simp] theorem State.setBank_msix (s : State) (n : Nat) (x : Bank) : (s.setBank n x).msix = s.msix := by cases s; rfl
@[simp] theorem State.setBank_msixPend (s : State) (n : Nat) (x : Bank) : (s.setBank n x).msixPend = s.msixPend := by cases s; rfl
@[simp] theorem State.setBank_fuses (s : State) (n : Nat) (x : Bank) : (s.setBank n x).fuses = s.fuses := by cases s; rfl
@[simp] theorem State.setBank_shadow (s : State) (n : Nat) (x : Bank) : (s.setBank n x).shadow = s.shadow := by cases s; rfl
@[simp] theorem State.setBank_pls (s : State) (n : Nat) (x : Bank) : (s.setBank n x).pls = s.pls := by cases s; rfl
@[simp] theorem State.setBank_board (s : State) (n : Nat) (x : Bank) : (s.setBank n x).board = s.board := by cases s; rfl
@[simp] theorem State.setBank_pds (s : State) (n : Nat) (x : Bank) : (s.setBank n x).pds = s.pds := by cases s; rfl
@[simp] theorem State.setBank_pwr (s : State) (n : Nat) (x : Bank) : (s.setBank n x).pwr = s.pwr := by cases s; rfl
@[simp] theorem State.setBank_pmb (s : State) (n : Nat) (x : Bank) : (s.setBank n x).pmb = s.pmb := by cases s; rfl
@[simp] theorem State.setBank_boot (s : State) (n : Nat) (x : Bank) : (s.setBank n x).boot = s.boot := by cases s; rfl
@[simp] theorem State.setBank_jtag (s : State) (n : Nat) (x : Bank) : (s.setBank n x).jtag = s.jtag := by cases s; rfl
@[simp] theorem State.setBank_quorno (s : State) (n : Nat) (x : Bank) : (s.setBank n x).quorno = s.quorno := by cases s; rfl
@[simp] theorem State.setBank_spts (s : State) (n : Nat) (x : Bank) : (s.setBank n x).spts = s.spts := by cases s; rfl
@[simp] theorem State.setBank_cal (s : State) (n : Nat) (x : Bank) : (s.setBank n x).cal = s.cal := by cases s; rfl
@[simp] theorem State.setBank_staging (s : State) (n : Nat) (x : Bank) : (s.setBank n x).staging = s.staging := by cases s; rfl
@[simp] theorem State.setBank_pending (s : State) (n : Nat) (x : Bank) : (s.setBank n x).pending = s.pending := by cases s; rfl
@[simp] theorem State.setBank_free (s : State) (n : Nat) (x : Bank) : (s.setBank n x).free = s.free := by cases s; rfl
@[simp] theorem State.setBank_out (s : State) (n : Nat) (x : Bank) : (s.setBank n x).out = s.out := by cases s; rfl
@[simp] theorem State.setBank_root (s : State) (n : Nat) (x : Bank) (m : Nat) : (s.setBank n x).root m = s.root m := by cases s; rfl
@[simp] theorem State.setBank_group (s : State) (n : Nat) (x : Bank) (m : Nat) : (s.setBank n x).group m = s.group m := by cases s; rfl
@[simp] theorem State.setBank_chan (s : State) (n : Nat) (x : Bank) (m : Nat) : (s.setBank n x).chan m = s.chan m := by cases s; rfl
@[simp] theorem State.setBank_tsp (s : State) (n : Nat) (x : Bank) (m : Nat) : (s.setBank n x).tsp m = s.tsp m := by cases s; rfl
@[simp] theorem State.setBank_flow (s : State) (n : Nat) (x : Bank) (m : Nat) : (s.setBank n x).flow m = s.flow m := by cases s; rfl
@[simp] theorem State.setBank_cap (s : State) (n : Nat) (x : Bank) (m : Nat) : (s.setBank n x).cap m = s.cap m := by cases s; rfl
@[simp] theorem State.setBank_take (s : State) (n : Nat) (x : Bank) (m : Nat) : (s.setBank n x).take m = s.take m := by cases s; rfl
@[simp] theorem State.setBank_ring (s : State) (n : Nat) (x : Bank) (m : Nat) : (s.setBank n x).ring m = s.ring m := by cases s; rfl
@[simp] theorem State.setBank_iv (s : State) (n : Nat) (x : Bank) (m : Nat) : (s.setBank n x).iv m = s.iv m := by cases s; rfl
@[simp] theorem State.setBank_pl (s : State) (n : Nat) (x : Bank) (m : Nat) : (s.setBank n x).pl m = s.pl m := by cases s; rfl
@[simp] theorem State.setBank_pd (s : State) (n : Nat) (x : Bank) (m : Nat) : (s.setBank n x).pd m = s.pd m := by cases s; rfl
@[simp] theorem State.setBank_spt (s : State) (n : Nat) (x : Bank) (m : Nat) : (s.setBank n x).spt m = s.spt m := by cases s; rfl
@[simp] theorem State.setBank_rg (s : State) (n : Nat) (x : Bank) (m : Nat) : (s.setBank n x).rg m = s.rg m := by cases s; rfl
@[simp] theorem State.setBank_word (s : State) (n : Nat) (x : Bank) (q : Nat) : (s.setBank n x).word q = s.word q := by cases s; rfl
@[simp] theorem State.setBank_get (s : State) (n : Nat) (x : Bank) (q : Ref) : (s.setBank n x).get q = s.get q := by cases s; rfl
@[simp] theorem State.setBank_geti (s : State) (n : Nat) (x : Bank) (q : Ref) : (s.setBank n x).geti q = s.geti q := by cases s; rfl
@[simp] theorem State.setBank_bit (s : State) (n : Nat) (x : Bank) (q : Ref) : (s.setBank n x).bit q = s.bit q := by cases s; rfl

/-! `setGroup` -/

@[simp] theorem State.setGroup_regs (s : State) (n : Nat) (x : Group) : (s.setGroup n x).regs = s.regs := by cases s; rfl
@[simp] theorem State.setGroup_roots (s : State) (n : Nat) (x : Group) : (s.setGroup n x).roots = s.roots := by cases s; rfl
@[simp] theorem State.setGroup_banks (s : State) (n : Nat) (x : Group) : (s.setGroup n x).banks = s.banks := by cases s; rfl
@[simp] theorem State.setGroup_chans (s : State) (n : Nat) (x : Group) : (s.setGroup n x).chans = s.chans := by cases s; rfl
@[simp] theorem State.setGroup_store (s : State) (n : Nat) (x : Group) : (s.setGroup n x).store = s.store := by cases s; rfl
@[simp] theorem State.setGroup_storeErr (s : State) (n : Nat) (x : Group) : (s.setGroup n x).storeErr = s.storeErr := by cases s; rfl
@[simp] theorem State.setGroup_calChans (s : State) (n : Nat) (x : Group) : (s.setGroup n x).calChans = s.calChans := by cases s; rfl
@[simp] theorem State.setGroup_caps (s : State) (n : Nat) (x : Group) : (s.setGroup n x).caps = s.caps := by cases s; rfl
@[simp] theorem State.setGroup_takes (s : State) (n : Nat) (x : Group) : (s.setGroup n x).takes = s.takes := by cases s; rfl
@[simp] theorem State.setGroup_rings (s : State) (n : Nat) (x : Group) : (s.setGroup n x).rings = s.rings := by cases s; rfl
@[simp] theorem State.setGroup_reelSeq (s : State) (n : Nat) (x : Group) : (s.setGroup n x).reelSeq = s.reelSeq := by cases s; rfl
@[simp] theorem State.setGroup_ivs (s : State) (n : Nat) (x : Group) : (s.setGroup n x).ivs = s.ivs := by cases s; rfl
@[simp] theorem State.setGroup_rgs (s : State) (n : Nat) (x : Group) : (s.setGroup n x).rgs = s.rgs := by cases s; rfl
@[simp] theorem State.setGroup_regQ (s : State) (n : Nat) (x : Group) : (s.setGroup n x).regQ = s.regQ := by cases s; rfl
@[simp] theorem State.setGroup_tsps (s : State) (n : Nat) (x : Group) : (s.setGroup n x).tsps = s.tsps := by cases s; rfl
@[simp] theorem State.setGroup_flows (s : State) (n : Nat) (x : Group) : (s.setGroup n x).flows = s.flows := by cases s; rfl
@[simp] theorem State.setGroup_sched (s : State) (n : Nat) (x : Group) : (s.setGroup n x).sched = s.sched := by cases s; rfl
@[simp] theorem State.setGroup_ep (s : State) (n : Nat) (x : Group) : (s.setGroup n x).ep = s.ep := by cases s; rfl
@[simp] theorem State.setGroup_msix (s : State) (n : Nat) (x : Group) : (s.setGroup n x).msix = s.msix := by cases s; rfl
@[simp] theorem State.setGroup_msixPend (s : State) (n : Nat) (x : Group) : (s.setGroup n x).msixPend = s.msixPend := by cases s; rfl
@[simp] theorem State.setGroup_fuses (s : State) (n : Nat) (x : Group) : (s.setGroup n x).fuses = s.fuses := by cases s; rfl
@[simp] theorem State.setGroup_shadow (s : State) (n : Nat) (x : Group) : (s.setGroup n x).shadow = s.shadow := by cases s; rfl
@[simp] theorem State.setGroup_pls (s : State) (n : Nat) (x : Group) : (s.setGroup n x).pls = s.pls := by cases s; rfl
@[simp] theorem State.setGroup_board (s : State) (n : Nat) (x : Group) : (s.setGroup n x).board = s.board := by cases s; rfl
@[simp] theorem State.setGroup_pds (s : State) (n : Nat) (x : Group) : (s.setGroup n x).pds = s.pds := by cases s; rfl
@[simp] theorem State.setGroup_pwr (s : State) (n : Nat) (x : Group) : (s.setGroup n x).pwr = s.pwr := by cases s; rfl
@[simp] theorem State.setGroup_pmb (s : State) (n : Nat) (x : Group) : (s.setGroup n x).pmb = s.pmb := by cases s; rfl
@[simp] theorem State.setGroup_boot (s : State) (n : Nat) (x : Group) : (s.setGroup n x).boot = s.boot := by cases s; rfl
@[simp] theorem State.setGroup_jtag (s : State) (n : Nat) (x : Group) : (s.setGroup n x).jtag = s.jtag := by cases s; rfl
@[simp] theorem State.setGroup_quorno (s : State) (n : Nat) (x : Group) : (s.setGroup n x).quorno = s.quorno := by cases s; rfl
@[simp] theorem State.setGroup_spts (s : State) (n : Nat) (x : Group) : (s.setGroup n x).spts = s.spts := by cases s; rfl
@[simp] theorem State.setGroup_cal (s : State) (n : Nat) (x : Group) : (s.setGroup n x).cal = s.cal := by cases s; rfl
@[simp] theorem State.setGroup_staging (s : State) (n : Nat) (x : Group) : (s.setGroup n x).staging = s.staging := by cases s; rfl
@[simp] theorem State.setGroup_pending (s : State) (n : Nat) (x : Group) : (s.setGroup n x).pending = s.pending := by cases s; rfl
@[simp] theorem State.setGroup_free (s : State) (n : Nat) (x : Group) : (s.setGroup n x).free = s.free := by cases s; rfl
@[simp] theorem State.setGroup_out (s : State) (n : Nat) (x : Group) : (s.setGroup n x).out = s.out := by cases s; rfl
@[simp] theorem State.setGroup_root (s : State) (n : Nat) (x : Group) (m : Nat) : (s.setGroup n x).root m = s.root m := by cases s; rfl
@[simp] theorem State.setGroup_bank (s : State) (n : Nat) (x : Group) (m : Nat) : (s.setGroup n x).bank m = s.bank m := by cases s; rfl
@[simp] theorem State.setGroup_chan (s : State) (n : Nat) (x : Group) (m : Nat) : (s.setGroup n x).chan m = s.chan m := by cases s; rfl
@[simp] theorem State.setGroup_tsp (s : State) (n : Nat) (x : Group) (m : Nat) : (s.setGroup n x).tsp m = s.tsp m := by cases s; rfl
@[simp] theorem State.setGroup_flow (s : State) (n : Nat) (x : Group) (m : Nat) : (s.setGroup n x).flow m = s.flow m := by cases s; rfl
@[simp] theorem State.setGroup_cap (s : State) (n : Nat) (x : Group) (m : Nat) : (s.setGroup n x).cap m = s.cap m := by cases s; rfl
@[simp] theorem State.setGroup_take (s : State) (n : Nat) (x : Group) (m : Nat) : (s.setGroup n x).take m = s.take m := by cases s; rfl
@[simp] theorem State.setGroup_ring (s : State) (n : Nat) (x : Group) (m : Nat) : (s.setGroup n x).ring m = s.ring m := by cases s; rfl
@[simp] theorem State.setGroup_iv (s : State) (n : Nat) (x : Group) (m : Nat) : (s.setGroup n x).iv m = s.iv m := by cases s; rfl
@[simp] theorem State.setGroup_pl (s : State) (n : Nat) (x : Group) (m : Nat) : (s.setGroup n x).pl m = s.pl m := by cases s; rfl
@[simp] theorem State.setGroup_pd (s : State) (n : Nat) (x : Group) (m : Nat) : (s.setGroup n x).pd m = s.pd m := by cases s; rfl
@[simp] theorem State.setGroup_spt (s : State) (n : Nat) (x : Group) (m : Nat) : (s.setGroup n x).spt m = s.spt m := by cases s; rfl
@[simp] theorem State.setGroup_rg (s : State) (n : Nat) (x : Group) (m : Nat) : (s.setGroup n x).rg m = s.rg m := by cases s; rfl
@[simp] theorem State.setGroup_word (s : State) (n : Nat) (x : Group) (q : Nat) : (s.setGroup n x).word q = s.word q := by cases s; rfl
@[simp] theorem State.setGroup_get (s : State) (n : Nat) (x : Group) (q : Ref) : (s.setGroup n x).get q = s.get q := by cases s; rfl
@[simp] theorem State.setGroup_geti (s : State) (n : Nat) (x : Group) (q : Ref) : (s.setGroup n x).geti q = s.geti q := by cases s; rfl
@[simp] theorem State.setGroup_bit (s : State) (n : Nat) (x : Group) (q : Ref) : (s.setGroup n x).bit q = s.bit q := by cases s; rfl

/-! `setChan` -/

@[simp] theorem State.setChan_regs (s : State) (n : Nat) (x : Chan) : (s.setChan n x).regs = s.regs := by cases s; rfl
@[simp] theorem State.setChan_roots (s : State) (n : Nat) (x : Chan) : (s.setChan n x).roots = s.roots := by cases s; rfl
@[simp] theorem State.setChan_banks (s : State) (n : Nat) (x : Chan) : (s.setChan n x).banks = s.banks := by cases s; rfl
@[simp] theorem State.setChan_groups (s : State) (n : Nat) (x : Chan) : (s.setChan n x).groups = s.groups := by cases s; rfl
@[simp] theorem State.setChan_store (s : State) (n : Nat) (x : Chan) : (s.setChan n x).store = s.store := by cases s; rfl
@[simp] theorem State.setChan_storeErr (s : State) (n : Nat) (x : Chan) : (s.setChan n x).storeErr = s.storeErr := by cases s; rfl
@[simp] theorem State.setChan_calChans (s : State) (n : Nat) (x : Chan) : (s.setChan n x).calChans = s.calChans := by cases s; rfl
@[simp] theorem State.setChan_caps (s : State) (n : Nat) (x : Chan) : (s.setChan n x).caps = s.caps := by cases s; rfl
@[simp] theorem State.setChan_takes (s : State) (n : Nat) (x : Chan) : (s.setChan n x).takes = s.takes := by cases s; rfl
@[simp] theorem State.setChan_rings (s : State) (n : Nat) (x : Chan) : (s.setChan n x).rings = s.rings := by cases s; rfl
@[simp] theorem State.setChan_reelSeq (s : State) (n : Nat) (x : Chan) : (s.setChan n x).reelSeq = s.reelSeq := by cases s; rfl
@[simp] theorem State.setChan_ivs (s : State) (n : Nat) (x : Chan) : (s.setChan n x).ivs = s.ivs := by cases s; rfl
@[simp] theorem State.setChan_rgs (s : State) (n : Nat) (x : Chan) : (s.setChan n x).rgs = s.rgs := by cases s; rfl
@[simp] theorem State.setChan_regQ (s : State) (n : Nat) (x : Chan) : (s.setChan n x).regQ = s.regQ := by cases s; rfl
@[simp] theorem State.setChan_tsps (s : State) (n : Nat) (x : Chan) : (s.setChan n x).tsps = s.tsps := by cases s; rfl
@[simp] theorem State.setChan_flows (s : State) (n : Nat) (x : Chan) : (s.setChan n x).flows = s.flows := by cases s; rfl
@[simp] theorem State.setChan_sched (s : State) (n : Nat) (x : Chan) : (s.setChan n x).sched = s.sched := by cases s; rfl
@[simp] theorem State.setChan_ep (s : State) (n : Nat) (x : Chan) : (s.setChan n x).ep = s.ep := by cases s; rfl
@[simp] theorem State.setChan_msix (s : State) (n : Nat) (x : Chan) : (s.setChan n x).msix = s.msix := by cases s; rfl
@[simp] theorem State.setChan_msixPend (s : State) (n : Nat) (x : Chan) : (s.setChan n x).msixPend = s.msixPend := by cases s; rfl
@[simp] theorem State.setChan_fuses (s : State) (n : Nat) (x : Chan) : (s.setChan n x).fuses = s.fuses := by cases s; rfl
@[simp] theorem State.setChan_shadow (s : State) (n : Nat) (x : Chan) : (s.setChan n x).shadow = s.shadow := by cases s; rfl
@[simp] theorem State.setChan_pls (s : State) (n : Nat) (x : Chan) : (s.setChan n x).pls = s.pls := by cases s; rfl
@[simp] theorem State.setChan_board (s : State) (n : Nat) (x : Chan) : (s.setChan n x).board = s.board := by cases s; rfl
@[simp] theorem State.setChan_pds (s : State) (n : Nat) (x : Chan) : (s.setChan n x).pds = s.pds := by cases s; rfl
@[simp] theorem State.setChan_pwr (s : State) (n : Nat) (x : Chan) : (s.setChan n x).pwr = s.pwr := by cases s; rfl
@[simp] theorem State.setChan_pmb (s : State) (n : Nat) (x : Chan) : (s.setChan n x).pmb = s.pmb := by cases s; rfl
@[simp] theorem State.setChan_boot (s : State) (n : Nat) (x : Chan) : (s.setChan n x).boot = s.boot := by cases s; rfl
@[simp] theorem State.setChan_jtag (s : State) (n : Nat) (x : Chan) : (s.setChan n x).jtag = s.jtag := by cases s; rfl
@[simp] theorem State.setChan_quorno (s : State) (n : Nat) (x : Chan) : (s.setChan n x).quorno = s.quorno := by cases s; rfl
@[simp] theorem State.setChan_spts (s : State) (n : Nat) (x : Chan) : (s.setChan n x).spts = s.spts := by cases s; rfl
@[simp] theorem State.setChan_cal (s : State) (n : Nat) (x : Chan) : (s.setChan n x).cal = s.cal := by cases s; rfl
@[simp] theorem State.setChan_staging (s : State) (n : Nat) (x : Chan) : (s.setChan n x).staging = s.staging := by cases s; rfl
@[simp] theorem State.setChan_pending (s : State) (n : Nat) (x : Chan) : (s.setChan n x).pending = s.pending := by cases s; rfl
@[simp] theorem State.setChan_free (s : State) (n : Nat) (x : Chan) : (s.setChan n x).free = s.free := by cases s; rfl
@[simp] theorem State.setChan_out (s : State) (n : Nat) (x : Chan) : (s.setChan n x).out = s.out := by cases s; rfl
@[simp] theorem State.setChan_root (s : State) (n : Nat) (x : Chan) (m : Nat) : (s.setChan n x).root m = s.root m := by cases s; rfl
@[simp] theorem State.setChan_bank (s : State) (n : Nat) (x : Chan) (m : Nat) : (s.setChan n x).bank m = s.bank m := by cases s; rfl
@[simp] theorem State.setChan_group (s : State) (n : Nat) (x : Chan) (m : Nat) : (s.setChan n x).group m = s.group m := by cases s; rfl
@[simp] theorem State.setChan_tsp (s : State) (n : Nat) (x : Chan) (m : Nat) : (s.setChan n x).tsp m = s.tsp m := by cases s; rfl
@[simp] theorem State.setChan_flow (s : State) (n : Nat) (x : Chan) (m : Nat) : (s.setChan n x).flow m = s.flow m := by cases s; rfl
@[simp] theorem State.setChan_cap (s : State) (n : Nat) (x : Chan) (m : Nat) : (s.setChan n x).cap m = s.cap m := by cases s; rfl
@[simp] theorem State.setChan_take (s : State) (n : Nat) (x : Chan) (m : Nat) : (s.setChan n x).take m = s.take m := by cases s; rfl
@[simp] theorem State.setChan_ring (s : State) (n : Nat) (x : Chan) (m : Nat) : (s.setChan n x).ring m = s.ring m := by cases s; rfl
@[simp] theorem State.setChan_iv (s : State) (n : Nat) (x : Chan) (m : Nat) : (s.setChan n x).iv m = s.iv m := by cases s; rfl
@[simp] theorem State.setChan_pl (s : State) (n : Nat) (x : Chan) (m : Nat) : (s.setChan n x).pl m = s.pl m := by cases s; rfl
@[simp] theorem State.setChan_pd (s : State) (n : Nat) (x : Chan) (m : Nat) : (s.setChan n x).pd m = s.pd m := by cases s; rfl
@[simp] theorem State.setChan_spt (s : State) (n : Nat) (x : Chan) (m : Nat) : (s.setChan n x).spt m = s.spt m := by cases s; rfl
@[simp] theorem State.setChan_rg (s : State) (n : Nat) (x : Chan) (m : Nat) : (s.setChan n x).rg m = s.rg m := by cases s; rfl
@[simp] theorem State.setChan_word (s : State) (n : Nat) (x : Chan) (q : Nat) : (s.setChan n x).word q = s.word q := by cases s; rfl
@[simp] theorem State.setChan_get (s : State) (n : Nat) (x : Chan) (q : Ref) : (s.setChan n x).get q = s.get q := by cases s; rfl
@[simp] theorem State.setChan_geti (s : State) (n : Nat) (x : Chan) (q : Ref) : (s.setChan n x).geti q = s.geti q := by cases s; rfl
@[simp] theorem State.setChan_bit (s : State) (n : Nat) (x : Chan) (q : Ref) : (s.setChan n x).bit q = s.bit q := by cases s; rfl

/-! `setTsp` -/

@[simp] theorem State.setTsp_regs (s : State) (n : Nat) (x : Tsp) : (s.setTsp n x).regs = s.regs := by cases s; rfl
@[simp] theorem State.setTsp_roots (s : State) (n : Nat) (x : Tsp) : (s.setTsp n x).roots = s.roots := by cases s; rfl
@[simp] theorem State.setTsp_banks (s : State) (n : Nat) (x : Tsp) : (s.setTsp n x).banks = s.banks := by cases s; rfl
@[simp] theorem State.setTsp_groups (s : State) (n : Nat) (x : Tsp) : (s.setTsp n x).groups = s.groups := by cases s; rfl
@[simp] theorem State.setTsp_chans (s : State) (n : Nat) (x : Tsp) : (s.setTsp n x).chans = s.chans := by cases s; rfl
@[simp] theorem State.setTsp_store (s : State) (n : Nat) (x : Tsp) : (s.setTsp n x).store = s.store := by cases s; rfl
@[simp] theorem State.setTsp_storeErr (s : State) (n : Nat) (x : Tsp) : (s.setTsp n x).storeErr = s.storeErr := by cases s; rfl
@[simp] theorem State.setTsp_calChans (s : State) (n : Nat) (x : Tsp) : (s.setTsp n x).calChans = s.calChans := by cases s; rfl
@[simp] theorem State.setTsp_caps (s : State) (n : Nat) (x : Tsp) : (s.setTsp n x).caps = s.caps := by cases s; rfl
@[simp] theorem State.setTsp_takes (s : State) (n : Nat) (x : Tsp) : (s.setTsp n x).takes = s.takes := by cases s; rfl
@[simp] theorem State.setTsp_rings (s : State) (n : Nat) (x : Tsp) : (s.setTsp n x).rings = s.rings := by cases s; rfl
@[simp] theorem State.setTsp_reelSeq (s : State) (n : Nat) (x : Tsp) : (s.setTsp n x).reelSeq = s.reelSeq := by cases s; rfl
@[simp] theorem State.setTsp_ivs (s : State) (n : Nat) (x : Tsp) : (s.setTsp n x).ivs = s.ivs := by cases s; rfl
@[simp] theorem State.setTsp_rgs (s : State) (n : Nat) (x : Tsp) : (s.setTsp n x).rgs = s.rgs := by cases s; rfl
@[simp] theorem State.setTsp_regQ (s : State) (n : Nat) (x : Tsp) : (s.setTsp n x).regQ = s.regQ := by cases s; rfl
@[simp] theorem State.setTsp_flows (s : State) (n : Nat) (x : Tsp) : (s.setTsp n x).flows = s.flows := by cases s; rfl
@[simp] theorem State.setTsp_sched (s : State) (n : Nat) (x : Tsp) : (s.setTsp n x).sched = s.sched := by cases s; rfl
@[simp] theorem State.setTsp_ep (s : State) (n : Nat) (x : Tsp) : (s.setTsp n x).ep = s.ep := by cases s; rfl
@[simp] theorem State.setTsp_msix (s : State) (n : Nat) (x : Tsp) : (s.setTsp n x).msix = s.msix := by cases s; rfl
@[simp] theorem State.setTsp_msixPend (s : State) (n : Nat) (x : Tsp) : (s.setTsp n x).msixPend = s.msixPend := by cases s; rfl
@[simp] theorem State.setTsp_fuses (s : State) (n : Nat) (x : Tsp) : (s.setTsp n x).fuses = s.fuses := by cases s; rfl
@[simp] theorem State.setTsp_shadow (s : State) (n : Nat) (x : Tsp) : (s.setTsp n x).shadow = s.shadow := by cases s; rfl
@[simp] theorem State.setTsp_pls (s : State) (n : Nat) (x : Tsp) : (s.setTsp n x).pls = s.pls := by cases s; rfl
@[simp] theorem State.setTsp_board (s : State) (n : Nat) (x : Tsp) : (s.setTsp n x).board = s.board := by cases s; rfl
@[simp] theorem State.setTsp_pds (s : State) (n : Nat) (x : Tsp) : (s.setTsp n x).pds = s.pds := by cases s; rfl
@[simp] theorem State.setTsp_pwr (s : State) (n : Nat) (x : Tsp) : (s.setTsp n x).pwr = s.pwr := by cases s; rfl
@[simp] theorem State.setTsp_pmb (s : State) (n : Nat) (x : Tsp) : (s.setTsp n x).pmb = s.pmb := by cases s; rfl
@[simp] theorem State.setTsp_boot (s : State) (n : Nat) (x : Tsp) : (s.setTsp n x).boot = s.boot := by cases s; rfl
@[simp] theorem State.setTsp_jtag (s : State) (n : Nat) (x : Tsp) : (s.setTsp n x).jtag = s.jtag := by cases s; rfl
@[simp] theorem State.setTsp_quorno (s : State) (n : Nat) (x : Tsp) : (s.setTsp n x).quorno = s.quorno := by cases s; rfl
@[simp] theorem State.setTsp_spts (s : State) (n : Nat) (x : Tsp) : (s.setTsp n x).spts = s.spts := by cases s; rfl
@[simp] theorem State.setTsp_cal (s : State) (n : Nat) (x : Tsp) : (s.setTsp n x).cal = s.cal := by cases s; rfl
@[simp] theorem State.setTsp_staging (s : State) (n : Nat) (x : Tsp) : (s.setTsp n x).staging = s.staging := by cases s; rfl
@[simp] theorem State.setTsp_pending (s : State) (n : Nat) (x : Tsp) : (s.setTsp n x).pending = s.pending := by cases s; rfl
@[simp] theorem State.setTsp_free (s : State) (n : Nat) (x : Tsp) : (s.setTsp n x).free = s.free := by cases s; rfl
@[simp] theorem State.setTsp_out (s : State) (n : Nat) (x : Tsp) : (s.setTsp n x).out = s.out := by cases s; rfl
@[simp] theorem State.setTsp_root (s : State) (n : Nat) (x : Tsp) (m : Nat) : (s.setTsp n x).root m = s.root m := by cases s; rfl
@[simp] theorem State.setTsp_bank (s : State) (n : Nat) (x : Tsp) (m : Nat) : (s.setTsp n x).bank m = s.bank m := by cases s; rfl
@[simp] theorem State.setTsp_group (s : State) (n : Nat) (x : Tsp) (m : Nat) : (s.setTsp n x).group m = s.group m := by cases s; rfl
@[simp] theorem State.setTsp_chan (s : State) (n : Nat) (x : Tsp) (m : Nat) : (s.setTsp n x).chan m = s.chan m := by cases s; rfl
@[simp] theorem State.setTsp_flow (s : State) (n : Nat) (x : Tsp) (m : Nat) : (s.setTsp n x).flow m = s.flow m := by cases s; rfl
@[simp] theorem State.setTsp_cap (s : State) (n : Nat) (x : Tsp) (m : Nat) : (s.setTsp n x).cap m = s.cap m := by cases s; rfl
@[simp] theorem State.setTsp_take (s : State) (n : Nat) (x : Tsp) (m : Nat) : (s.setTsp n x).take m = s.take m := by cases s; rfl
@[simp] theorem State.setTsp_ring (s : State) (n : Nat) (x : Tsp) (m : Nat) : (s.setTsp n x).ring m = s.ring m := by cases s; rfl
@[simp] theorem State.setTsp_iv (s : State) (n : Nat) (x : Tsp) (m : Nat) : (s.setTsp n x).iv m = s.iv m := by cases s; rfl
@[simp] theorem State.setTsp_pl (s : State) (n : Nat) (x : Tsp) (m : Nat) : (s.setTsp n x).pl m = s.pl m := by cases s; rfl
@[simp] theorem State.setTsp_pd (s : State) (n : Nat) (x : Tsp) (m : Nat) : (s.setTsp n x).pd m = s.pd m := by cases s; rfl
@[simp] theorem State.setTsp_spt (s : State) (n : Nat) (x : Tsp) (m : Nat) : (s.setTsp n x).spt m = s.spt m := by cases s; rfl
@[simp] theorem State.setTsp_rg (s : State) (n : Nat) (x : Tsp) (m : Nat) : (s.setTsp n x).rg m = s.rg m := by cases s; rfl
@[simp] theorem State.setTsp_word (s : State) (n : Nat) (x : Tsp) (q : Nat) : (s.setTsp n x).word q = s.word q := by cases s; rfl
@[simp] theorem State.setTsp_get (s : State) (n : Nat) (x : Tsp) (q : Ref) : (s.setTsp n x).get q = s.get q := by cases s; rfl
@[simp] theorem State.setTsp_geti (s : State) (n : Nat) (x : Tsp) (q : Ref) : (s.setTsp n x).geti q = s.geti q := by cases s; rfl
@[simp] theorem State.setTsp_bit (s : State) (n : Nat) (x : Tsp) (q : Ref) : (s.setTsp n x).bit q = s.bit q := by cases s; rfl

/-! `setFlow` -/

@[simp] theorem State.setFlow_regs (s : State) (n : Nat) (x : Flow) : (s.setFlow n x).regs = s.regs := by cases s; rfl
@[simp] theorem State.setFlow_roots (s : State) (n : Nat) (x : Flow) : (s.setFlow n x).roots = s.roots := by cases s; rfl
@[simp] theorem State.setFlow_banks (s : State) (n : Nat) (x : Flow) : (s.setFlow n x).banks = s.banks := by cases s; rfl
@[simp] theorem State.setFlow_groups (s : State) (n : Nat) (x : Flow) : (s.setFlow n x).groups = s.groups := by cases s; rfl
@[simp] theorem State.setFlow_chans (s : State) (n : Nat) (x : Flow) : (s.setFlow n x).chans = s.chans := by cases s; rfl
@[simp] theorem State.setFlow_store (s : State) (n : Nat) (x : Flow) : (s.setFlow n x).store = s.store := by cases s; rfl
@[simp] theorem State.setFlow_storeErr (s : State) (n : Nat) (x : Flow) : (s.setFlow n x).storeErr = s.storeErr := by cases s; rfl
@[simp] theorem State.setFlow_calChans (s : State) (n : Nat) (x : Flow) : (s.setFlow n x).calChans = s.calChans := by cases s; rfl
@[simp] theorem State.setFlow_caps (s : State) (n : Nat) (x : Flow) : (s.setFlow n x).caps = s.caps := by cases s; rfl
@[simp] theorem State.setFlow_takes (s : State) (n : Nat) (x : Flow) : (s.setFlow n x).takes = s.takes := by cases s; rfl
@[simp] theorem State.setFlow_rings (s : State) (n : Nat) (x : Flow) : (s.setFlow n x).rings = s.rings := by cases s; rfl
@[simp] theorem State.setFlow_reelSeq (s : State) (n : Nat) (x : Flow) : (s.setFlow n x).reelSeq = s.reelSeq := by cases s; rfl
@[simp] theorem State.setFlow_ivs (s : State) (n : Nat) (x : Flow) : (s.setFlow n x).ivs = s.ivs := by cases s; rfl
@[simp] theorem State.setFlow_rgs (s : State) (n : Nat) (x : Flow) : (s.setFlow n x).rgs = s.rgs := by cases s; rfl
@[simp] theorem State.setFlow_regQ (s : State) (n : Nat) (x : Flow) : (s.setFlow n x).regQ = s.regQ := by cases s; rfl
@[simp] theorem State.setFlow_tsps (s : State) (n : Nat) (x : Flow) : (s.setFlow n x).tsps = s.tsps := by cases s; rfl
@[simp] theorem State.setFlow_sched (s : State) (n : Nat) (x : Flow) : (s.setFlow n x).sched = s.sched := by cases s; rfl
@[simp] theorem State.setFlow_ep (s : State) (n : Nat) (x : Flow) : (s.setFlow n x).ep = s.ep := by cases s; rfl
@[simp] theorem State.setFlow_msix (s : State) (n : Nat) (x : Flow) : (s.setFlow n x).msix = s.msix := by cases s; rfl
@[simp] theorem State.setFlow_msixPend (s : State) (n : Nat) (x : Flow) : (s.setFlow n x).msixPend = s.msixPend := by cases s; rfl
@[simp] theorem State.setFlow_fuses (s : State) (n : Nat) (x : Flow) : (s.setFlow n x).fuses = s.fuses := by cases s; rfl
@[simp] theorem State.setFlow_shadow (s : State) (n : Nat) (x : Flow) : (s.setFlow n x).shadow = s.shadow := by cases s; rfl
@[simp] theorem State.setFlow_pls (s : State) (n : Nat) (x : Flow) : (s.setFlow n x).pls = s.pls := by cases s; rfl
@[simp] theorem State.setFlow_board (s : State) (n : Nat) (x : Flow) : (s.setFlow n x).board = s.board := by cases s; rfl
@[simp] theorem State.setFlow_pds (s : State) (n : Nat) (x : Flow) : (s.setFlow n x).pds = s.pds := by cases s; rfl
@[simp] theorem State.setFlow_pwr (s : State) (n : Nat) (x : Flow) : (s.setFlow n x).pwr = s.pwr := by cases s; rfl
@[simp] theorem State.setFlow_pmb (s : State) (n : Nat) (x : Flow) : (s.setFlow n x).pmb = s.pmb := by cases s; rfl
@[simp] theorem State.setFlow_boot (s : State) (n : Nat) (x : Flow) : (s.setFlow n x).boot = s.boot := by cases s; rfl
@[simp] theorem State.setFlow_jtag (s : State) (n : Nat) (x : Flow) : (s.setFlow n x).jtag = s.jtag := by cases s; rfl
@[simp] theorem State.setFlow_quorno (s : State) (n : Nat) (x : Flow) : (s.setFlow n x).quorno = s.quorno := by cases s; rfl
@[simp] theorem State.setFlow_spts (s : State) (n : Nat) (x : Flow) : (s.setFlow n x).spts = s.spts := by cases s; rfl
@[simp] theorem State.setFlow_cal (s : State) (n : Nat) (x : Flow) : (s.setFlow n x).cal = s.cal := by cases s; rfl
@[simp] theorem State.setFlow_staging (s : State) (n : Nat) (x : Flow) : (s.setFlow n x).staging = s.staging := by cases s; rfl
@[simp] theorem State.setFlow_pending (s : State) (n : Nat) (x : Flow) : (s.setFlow n x).pending = s.pending := by cases s; rfl
@[simp] theorem State.setFlow_free (s : State) (n : Nat) (x : Flow) : (s.setFlow n x).free = s.free := by cases s; rfl
@[simp] theorem State.setFlow_out (s : State) (n : Nat) (x : Flow) : (s.setFlow n x).out = s.out := by cases s; rfl
@[simp] theorem State.setFlow_root (s : State) (n : Nat) (x : Flow) (m : Nat) : (s.setFlow n x).root m = s.root m := by cases s; rfl
@[simp] theorem State.setFlow_bank (s : State) (n : Nat) (x : Flow) (m : Nat) : (s.setFlow n x).bank m = s.bank m := by cases s; rfl
@[simp] theorem State.setFlow_group (s : State) (n : Nat) (x : Flow) (m : Nat) : (s.setFlow n x).group m = s.group m := by cases s; rfl
@[simp] theorem State.setFlow_chan (s : State) (n : Nat) (x : Flow) (m : Nat) : (s.setFlow n x).chan m = s.chan m := by cases s; rfl
@[simp] theorem State.setFlow_tsp (s : State) (n : Nat) (x : Flow) (m : Nat) : (s.setFlow n x).tsp m = s.tsp m := by cases s; rfl
@[simp] theorem State.setFlow_cap (s : State) (n : Nat) (x : Flow) (m : Nat) : (s.setFlow n x).cap m = s.cap m := by cases s; rfl
@[simp] theorem State.setFlow_take (s : State) (n : Nat) (x : Flow) (m : Nat) : (s.setFlow n x).take m = s.take m := by cases s; rfl
@[simp] theorem State.setFlow_ring (s : State) (n : Nat) (x : Flow) (m : Nat) : (s.setFlow n x).ring m = s.ring m := by cases s; rfl
@[simp] theorem State.setFlow_iv (s : State) (n : Nat) (x : Flow) (m : Nat) : (s.setFlow n x).iv m = s.iv m := by cases s; rfl
@[simp] theorem State.setFlow_pl (s : State) (n : Nat) (x : Flow) (m : Nat) : (s.setFlow n x).pl m = s.pl m := by cases s; rfl
@[simp] theorem State.setFlow_pd (s : State) (n : Nat) (x : Flow) (m : Nat) : (s.setFlow n x).pd m = s.pd m := by cases s; rfl
@[simp] theorem State.setFlow_spt (s : State) (n : Nat) (x : Flow) (m : Nat) : (s.setFlow n x).spt m = s.spt m := by cases s; rfl
@[simp] theorem State.setFlow_rg (s : State) (n : Nat) (x : Flow) (m : Nat) : (s.setFlow n x).rg m = s.rg m := by cases s; rfl
@[simp] theorem State.setFlow_word (s : State) (n : Nat) (x : Flow) (q : Nat) : (s.setFlow n x).word q = s.word q := by cases s; rfl
@[simp] theorem State.setFlow_get (s : State) (n : Nat) (x : Flow) (q : Ref) : (s.setFlow n x).get q = s.get q := by cases s; rfl
@[simp] theorem State.setFlow_geti (s : State) (n : Nat) (x : Flow) (q : Ref) : (s.setFlow n x).geti q = s.geti q := by cases s; rfl
@[simp] theorem State.setFlow_bit (s : State) (n : Nat) (x : Flow) (q : Ref) : (s.setFlow n x).bit q = s.bit q := by cases s; rfl

/-! `setCap` -/

@[simp] theorem State.setCap_regs (s : State) (n : Nat) (x : Cap) : (s.setCap n x).regs = s.regs := by cases s; rfl
@[simp] theorem State.setCap_roots (s : State) (n : Nat) (x : Cap) : (s.setCap n x).roots = s.roots := by cases s; rfl
@[simp] theorem State.setCap_banks (s : State) (n : Nat) (x : Cap) : (s.setCap n x).banks = s.banks := by cases s; rfl
@[simp] theorem State.setCap_groups (s : State) (n : Nat) (x : Cap) : (s.setCap n x).groups = s.groups := by cases s; rfl
@[simp] theorem State.setCap_chans (s : State) (n : Nat) (x : Cap) : (s.setCap n x).chans = s.chans := by cases s; rfl
@[simp] theorem State.setCap_store (s : State) (n : Nat) (x : Cap) : (s.setCap n x).store = s.store := by cases s; rfl
@[simp] theorem State.setCap_storeErr (s : State) (n : Nat) (x : Cap) : (s.setCap n x).storeErr = s.storeErr := by cases s; rfl
@[simp] theorem State.setCap_calChans (s : State) (n : Nat) (x : Cap) : (s.setCap n x).calChans = s.calChans := by cases s; rfl
@[simp] theorem State.setCap_takes (s : State) (n : Nat) (x : Cap) : (s.setCap n x).takes = s.takes := by cases s; rfl
@[simp] theorem State.setCap_rings (s : State) (n : Nat) (x : Cap) : (s.setCap n x).rings = s.rings := by cases s; rfl
@[simp] theorem State.setCap_reelSeq (s : State) (n : Nat) (x : Cap) : (s.setCap n x).reelSeq = s.reelSeq := by cases s; rfl
@[simp] theorem State.setCap_ivs (s : State) (n : Nat) (x : Cap) : (s.setCap n x).ivs = s.ivs := by cases s; rfl
@[simp] theorem State.setCap_rgs (s : State) (n : Nat) (x : Cap) : (s.setCap n x).rgs = s.rgs := by cases s; rfl
@[simp] theorem State.setCap_regQ (s : State) (n : Nat) (x : Cap) : (s.setCap n x).regQ = s.regQ := by cases s; rfl
@[simp] theorem State.setCap_tsps (s : State) (n : Nat) (x : Cap) : (s.setCap n x).tsps = s.tsps := by cases s; rfl
@[simp] theorem State.setCap_flows (s : State) (n : Nat) (x : Cap) : (s.setCap n x).flows = s.flows := by cases s; rfl
@[simp] theorem State.setCap_sched (s : State) (n : Nat) (x : Cap) : (s.setCap n x).sched = s.sched := by cases s; rfl
@[simp] theorem State.setCap_ep (s : State) (n : Nat) (x : Cap) : (s.setCap n x).ep = s.ep := by cases s; rfl
@[simp] theorem State.setCap_msix (s : State) (n : Nat) (x : Cap) : (s.setCap n x).msix = s.msix := by cases s; rfl
@[simp] theorem State.setCap_msixPend (s : State) (n : Nat) (x : Cap) : (s.setCap n x).msixPend = s.msixPend := by cases s; rfl
@[simp] theorem State.setCap_fuses (s : State) (n : Nat) (x : Cap) : (s.setCap n x).fuses = s.fuses := by cases s; rfl
@[simp] theorem State.setCap_shadow (s : State) (n : Nat) (x : Cap) : (s.setCap n x).shadow = s.shadow := by cases s; rfl
@[simp] theorem State.setCap_pls (s : State) (n : Nat) (x : Cap) : (s.setCap n x).pls = s.pls := by cases s; rfl
@[simp] theorem State.setCap_board (s : State) (n : Nat) (x : Cap) : (s.setCap n x).board = s.board := by cases s; rfl
@[simp] theorem State.setCap_pds (s : State) (n : Nat) (x : Cap) : (s.setCap n x).pds = s.pds := by cases s; rfl
@[simp] theorem State.setCap_pwr (s : State) (n : Nat) (x : Cap) : (s.setCap n x).pwr = s.pwr := by cases s; rfl
@[simp] theorem State.setCap_pmb (s : State) (n : Nat) (x : Cap) : (s.setCap n x).pmb = s.pmb := by cases s; rfl
@[simp] theorem State.setCap_boot (s : State) (n : Nat) (x : Cap) : (s.setCap n x).boot = s.boot := by cases s; rfl
@[simp] theorem State.setCap_jtag (s : State) (n : Nat) (x : Cap) : (s.setCap n x).jtag = s.jtag := by cases s; rfl
@[simp] theorem State.setCap_quorno (s : State) (n : Nat) (x : Cap) : (s.setCap n x).quorno = s.quorno := by cases s; rfl
@[simp] theorem State.setCap_spts (s : State) (n : Nat) (x : Cap) : (s.setCap n x).spts = s.spts := by cases s; rfl
@[simp] theorem State.setCap_cal (s : State) (n : Nat) (x : Cap) : (s.setCap n x).cal = s.cal := by cases s; rfl
@[simp] theorem State.setCap_staging (s : State) (n : Nat) (x : Cap) : (s.setCap n x).staging = s.staging := by cases s; rfl
@[simp] theorem State.setCap_pending (s : State) (n : Nat) (x : Cap) : (s.setCap n x).pending = s.pending := by cases s; rfl
@[simp] theorem State.setCap_free (s : State) (n : Nat) (x : Cap) : (s.setCap n x).free = s.free := by cases s; rfl
@[simp] theorem State.setCap_out (s : State) (n : Nat) (x : Cap) : (s.setCap n x).out = s.out := by cases s; rfl
@[simp] theorem State.setCap_root (s : State) (n : Nat) (x : Cap) (m : Nat) : (s.setCap n x).root m = s.root m := by cases s; rfl
@[simp] theorem State.setCap_bank (s : State) (n : Nat) (x : Cap) (m : Nat) : (s.setCap n x).bank m = s.bank m := by cases s; rfl
@[simp] theorem State.setCap_group (s : State) (n : Nat) (x : Cap) (m : Nat) : (s.setCap n x).group m = s.group m := by cases s; rfl
@[simp] theorem State.setCap_chan (s : State) (n : Nat) (x : Cap) (m : Nat) : (s.setCap n x).chan m = s.chan m := by cases s; rfl
@[simp] theorem State.setCap_tsp (s : State) (n : Nat) (x : Cap) (m : Nat) : (s.setCap n x).tsp m = s.tsp m := by cases s; rfl
@[simp] theorem State.setCap_flow (s : State) (n : Nat) (x : Cap) (m : Nat) : (s.setCap n x).flow m = s.flow m := by cases s; rfl
@[simp] theorem State.setCap_take (s : State) (n : Nat) (x : Cap) (m : Nat) : (s.setCap n x).take m = s.take m := by cases s; rfl
@[simp] theorem State.setCap_ring (s : State) (n : Nat) (x : Cap) (m : Nat) : (s.setCap n x).ring m = s.ring m := by cases s; rfl
@[simp] theorem State.setCap_iv (s : State) (n : Nat) (x : Cap) (m : Nat) : (s.setCap n x).iv m = s.iv m := by cases s; rfl
@[simp] theorem State.setCap_pl (s : State) (n : Nat) (x : Cap) (m : Nat) : (s.setCap n x).pl m = s.pl m := by cases s; rfl
@[simp] theorem State.setCap_pd (s : State) (n : Nat) (x : Cap) (m : Nat) : (s.setCap n x).pd m = s.pd m := by cases s; rfl
@[simp] theorem State.setCap_spt (s : State) (n : Nat) (x : Cap) (m : Nat) : (s.setCap n x).spt m = s.spt m := by cases s; rfl
@[simp] theorem State.setCap_rg (s : State) (n : Nat) (x : Cap) (m : Nat) : (s.setCap n x).rg m = s.rg m := by cases s; rfl
@[simp] theorem State.setCap_word (s : State) (n : Nat) (x : Cap) (q : Nat) : (s.setCap n x).word q = s.word q := by cases s; rfl
@[simp] theorem State.setCap_get (s : State) (n : Nat) (x : Cap) (q : Ref) : (s.setCap n x).get q = s.get q := by cases s; rfl
@[simp] theorem State.setCap_geti (s : State) (n : Nat) (x : Cap) (q : Ref) : (s.setCap n x).geti q = s.geti q := by cases s; rfl
@[simp] theorem State.setCap_bit (s : State) (n : Nat) (x : Cap) (q : Ref) : (s.setCap n x).bit q = s.bit q := by cases s; rfl

/-! `setTake` -/

@[simp] theorem State.setTake_regs (s : State) (n : Nat) (x : Take) : (s.setTake n x).regs = s.regs := by cases s; rfl
@[simp] theorem State.setTake_roots (s : State) (n : Nat) (x : Take) : (s.setTake n x).roots = s.roots := by cases s; rfl
@[simp] theorem State.setTake_banks (s : State) (n : Nat) (x : Take) : (s.setTake n x).banks = s.banks := by cases s; rfl
@[simp] theorem State.setTake_groups (s : State) (n : Nat) (x : Take) : (s.setTake n x).groups = s.groups := by cases s; rfl
@[simp] theorem State.setTake_chans (s : State) (n : Nat) (x : Take) : (s.setTake n x).chans = s.chans := by cases s; rfl
@[simp] theorem State.setTake_store (s : State) (n : Nat) (x : Take) : (s.setTake n x).store = s.store := by cases s; rfl
@[simp] theorem State.setTake_storeErr (s : State) (n : Nat) (x : Take) : (s.setTake n x).storeErr = s.storeErr := by cases s; rfl
@[simp] theorem State.setTake_calChans (s : State) (n : Nat) (x : Take) : (s.setTake n x).calChans = s.calChans := by cases s; rfl
@[simp] theorem State.setTake_caps (s : State) (n : Nat) (x : Take) : (s.setTake n x).caps = s.caps := by cases s; rfl
@[simp] theorem State.setTake_rings (s : State) (n : Nat) (x : Take) : (s.setTake n x).rings = s.rings := by cases s; rfl
@[simp] theorem State.setTake_reelSeq (s : State) (n : Nat) (x : Take) : (s.setTake n x).reelSeq = s.reelSeq := by cases s; rfl
@[simp] theorem State.setTake_ivs (s : State) (n : Nat) (x : Take) : (s.setTake n x).ivs = s.ivs := by cases s; rfl
@[simp] theorem State.setTake_rgs (s : State) (n : Nat) (x : Take) : (s.setTake n x).rgs = s.rgs := by cases s; rfl
@[simp] theorem State.setTake_regQ (s : State) (n : Nat) (x : Take) : (s.setTake n x).regQ = s.regQ := by cases s; rfl
@[simp] theorem State.setTake_tsps (s : State) (n : Nat) (x : Take) : (s.setTake n x).tsps = s.tsps := by cases s; rfl
@[simp] theorem State.setTake_flows (s : State) (n : Nat) (x : Take) : (s.setTake n x).flows = s.flows := by cases s; rfl
@[simp] theorem State.setTake_sched (s : State) (n : Nat) (x : Take) : (s.setTake n x).sched = s.sched := by cases s; rfl
@[simp] theorem State.setTake_ep (s : State) (n : Nat) (x : Take) : (s.setTake n x).ep = s.ep := by cases s; rfl
@[simp] theorem State.setTake_msix (s : State) (n : Nat) (x : Take) : (s.setTake n x).msix = s.msix := by cases s; rfl
@[simp] theorem State.setTake_msixPend (s : State) (n : Nat) (x : Take) : (s.setTake n x).msixPend = s.msixPend := by cases s; rfl
@[simp] theorem State.setTake_fuses (s : State) (n : Nat) (x : Take) : (s.setTake n x).fuses = s.fuses := by cases s; rfl
@[simp] theorem State.setTake_shadow (s : State) (n : Nat) (x : Take) : (s.setTake n x).shadow = s.shadow := by cases s; rfl
@[simp] theorem State.setTake_pls (s : State) (n : Nat) (x : Take) : (s.setTake n x).pls = s.pls := by cases s; rfl
@[simp] theorem State.setTake_board (s : State) (n : Nat) (x : Take) : (s.setTake n x).board = s.board := by cases s; rfl
@[simp] theorem State.setTake_pds (s : State) (n : Nat) (x : Take) : (s.setTake n x).pds = s.pds := by cases s; rfl
@[simp] theorem State.setTake_pwr (s : State) (n : Nat) (x : Take) : (s.setTake n x).pwr = s.pwr := by cases s; rfl
@[simp] theorem State.setTake_pmb (s : State) (n : Nat) (x : Take) : (s.setTake n x).pmb = s.pmb := by cases s; rfl
@[simp] theorem State.setTake_boot (s : State) (n : Nat) (x : Take) : (s.setTake n x).boot = s.boot := by cases s; rfl
@[simp] theorem State.setTake_jtag (s : State) (n : Nat) (x : Take) : (s.setTake n x).jtag = s.jtag := by cases s; rfl
@[simp] theorem State.setTake_quorno (s : State) (n : Nat) (x : Take) : (s.setTake n x).quorno = s.quorno := by cases s; rfl
@[simp] theorem State.setTake_spts (s : State) (n : Nat) (x : Take) : (s.setTake n x).spts = s.spts := by cases s; rfl
@[simp] theorem State.setTake_cal (s : State) (n : Nat) (x : Take) : (s.setTake n x).cal = s.cal := by cases s; rfl
@[simp] theorem State.setTake_staging (s : State) (n : Nat) (x : Take) : (s.setTake n x).staging = s.staging := by cases s; rfl
@[simp] theorem State.setTake_pending (s : State) (n : Nat) (x : Take) : (s.setTake n x).pending = s.pending := by cases s; rfl
@[simp] theorem State.setTake_free (s : State) (n : Nat) (x : Take) : (s.setTake n x).free = s.free := by cases s; rfl
@[simp] theorem State.setTake_out (s : State) (n : Nat) (x : Take) : (s.setTake n x).out = s.out := by cases s; rfl
@[simp] theorem State.setTake_root (s : State) (n : Nat) (x : Take) (m : Nat) : (s.setTake n x).root m = s.root m := by cases s; rfl
@[simp] theorem State.setTake_bank (s : State) (n : Nat) (x : Take) (m : Nat) : (s.setTake n x).bank m = s.bank m := by cases s; rfl
@[simp] theorem State.setTake_group (s : State) (n : Nat) (x : Take) (m : Nat) : (s.setTake n x).group m = s.group m := by cases s; rfl
@[simp] theorem State.setTake_chan (s : State) (n : Nat) (x : Take) (m : Nat) : (s.setTake n x).chan m = s.chan m := by cases s; rfl
@[simp] theorem State.setTake_tsp (s : State) (n : Nat) (x : Take) (m : Nat) : (s.setTake n x).tsp m = s.tsp m := by cases s; rfl
@[simp] theorem State.setTake_flow (s : State) (n : Nat) (x : Take) (m : Nat) : (s.setTake n x).flow m = s.flow m := by cases s; rfl
@[simp] theorem State.setTake_cap (s : State) (n : Nat) (x : Take) (m : Nat) : (s.setTake n x).cap m = s.cap m := by cases s; rfl
@[simp] theorem State.setTake_ring (s : State) (n : Nat) (x : Take) (m : Nat) : (s.setTake n x).ring m = s.ring m := by cases s; rfl
@[simp] theorem State.setTake_iv (s : State) (n : Nat) (x : Take) (m : Nat) : (s.setTake n x).iv m = s.iv m := by cases s; rfl
@[simp] theorem State.setTake_pl (s : State) (n : Nat) (x : Take) (m : Nat) : (s.setTake n x).pl m = s.pl m := by cases s; rfl
@[simp] theorem State.setTake_pd (s : State) (n : Nat) (x : Take) (m : Nat) : (s.setTake n x).pd m = s.pd m := by cases s; rfl
@[simp] theorem State.setTake_spt (s : State) (n : Nat) (x : Take) (m : Nat) : (s.setTake n x).spt m = s.spt m := by cases s; rfl
@[simp] theorem State.setTake_rg (s : State) (n : Nat) (x : Take) (m : Nat) : (s.setTake n x).rg m = s.rg m := by cases s; rfl
@[simp] theorem State.setTake_word (s : State) (n : Nat) (x : Take) (q : Nat) : (s.setTake n x).word q = s.word q := by cases s; rfl
@[simp] theorem State.setTake_get (s : State) (n : Nat) (x : Take) (q : Ref) : (s.setTake n x).get q = s.get q := by cases s; rfl
@[simp] theorem State.setTake_geti (s : State) (n : Nat) (x : Take) (q : Ref) : (s.setTake n x).geti q = s.geti q := by cases s; rfl
@[simp] theorem State.setTake_bit (s : State) (n : Nat) (x : Take) (q : Ref) : (s.setTake n x).bit q = s.bit q := by cases s; rfl

/-! `setRing` -/

@[simp] theorem State.setRing_regs (s : State) (n : Nat) (x : Ring) : (s.setRing n x).regs = s.regs := by cases s; rfl
@[simp] theorem State.setRing_roots (s : State) (n : Nat) (x : Ring) : (s.setRing n x).roots = s.roots := by cases s; rfl
@[simp] theorem State.setRing_banks (s : State) (n : Nat) (x : Ring) : (s.setRing n x).banks = s.banks := by cases s; rfl
@[simp] theorem State.setRing_groups (s : State) (n : Nat) (x : Ring) : (s.setRing n x).groups = s.groups := by cases s; rfl
@[simp] theorem State.setRing_chans (s : State) (n : Nat) (x : Ring) : (s.setRing n x).chans = s.chans := by cases s; rfl
@[simp] theorem State.setRing_store (s : State) (n : Nat) (x : Ring) : (s.setRing n x).store = s.store := by cases s; rfl
@[simp] theorem State.setRing_storeErr (s : State) (n : Nat) (x : Ring) : (s.setRing n x).storeErr = s.storeErr := by cases s; rfl
@[simp] theorem State.setRing_calChans (s : State) (n : Nat) (x : Ring) : (s.setRing n x).calChans = s.calChans := by cases s; rfl
@[simp] theorem State.setRing_caps (s : State) (n : Nat) (x : Ring) : (s.setRing n x).caps = s.caps := by cases s; rfl
@[simp] theorem State.setRing_takes (s : State) (n : Nat) (x : Ring) : (s.setRing n x).takes = s.takes := by cases s; rfl
@[simp] theorem State.setRing_reelSeq (s : State) (n : Nat) (x : Ring) : (s.setRing n x).reelSeq = s.reelSeq := by cases s; rfl
@[simp] theorem State.setRing_ivs (s : State) (n : Nat) (x : Ring) : (s.setRing n x).ivs = s.ivs := by cases s; rfl
@[simp] theorem State.setRing_rgs (s : State) (n : Nat) (x : Ring) : (s.setRing n x).rgs = s.rgs := by cases s; rfl
@[simp] theorem State.setRing_regQ (s : State) (n : Nat) (x : Ring) : (s.setRing n x).regQ = s.regQ := by cases s; rfl
@[simp] theorem State.setRing_tsps (s : State) (n : Nat) (x : Ring) : (s.setRing n x).tsps = s.tsps := by cases s; rfl
@[simp] theorem State.setRing_flows (s : State) (n : Nat) (x : Ring) : (s.setRing n x).flows = s.flows := by cases s; rfl
@[simp] theorem State.setRing_sched (s : State) (n : Nat) (x : Ring) : (s.setRing n x).sched = s.sched := by cases s; rfl
@[simp] theorem State.setRing_ep (s : State) (n : Nat) (x : Ring) : (s.setRing n x).ep = s.ep := by cases s; rfl
@[simp] theorem State.setRing_msix (s : State) (n : Nat) (x : Ring) : (s.setRing n x).msix = s.msix := by cases s; rfl
@[simp] theorem State.setRing_msixPend (s : State) (n : Nat) (x : Ring) : (s.setRing n x).msixPend = s.msixPend := by cases s; rfl
@[simp] theorem State.setRing_fuses (s : State) (n : Nat) (x : Ring) : (s.setRing n x).fuses = s.fuses := by cases s; rfl
@[simp] theorem State.setRing_shadow (s : State) (n : Nat) (x : Ring) : (s.setRing n x).shadow = s.shadow := by cases s; rfl
@[simp] theorem State.setRing_pls (s : State) (n : Nat) (x : Ring) : (s.setRing n x).pls = s.pls := by cases s; rfl
@[simp] theorem State.setRing_board (s : State) (n : Nat) (x : Ring) : (s.setRing n x).board = s.board := by cases s; rfl
@[simp] theorem State.setRing_pds (s : State) (n : Nat) (x : Ring) : (s.setRing n x).pds = s.pds := by cases s; rfl
@[simp] theorem State.setRing_pwr (s : State) (n : Nat) (x : Ring) : (s.setRing n x).pwr = s.pwr := by cases s; rfl
@[simp] theorem State.setRing_pmb (s : State) (n : Nat) (x : Ring) : (s.setRing n x).pmb = s.pmb := by cases s; rfl
@[simp] theorem State.setRing_boot (s : State) (n : Nat) (x : Ring) : (s.setRing n x).boot = s.boot := by cases s; rfl
@[simp] theorem State.setRing_jtag (s : State) (n : Nat) (x : Ring) : (s.setRing n x).jtag = s.jtag := by cases s; rfl
@[simp] theorem State.setRing_quorno (s : State) (n : Nat) (x : Ring) : (s.setRing n x).quorno = s.quorno := by cases s; rfl
@[simp] theorem State.setRing_spts (s : State) (n : Nat) (x : Ring) : (s.setRing n x).spts = s.spts := by cases s; rfl
@[simp] theorem State.setRing_cal (s : State) (n : Nat) (x : Ring) : (s.setRing n x).cal = s.cal := by cases s; rfl
@[simp] theorem State.setRing_staging (s : State) (n : Nat) (x : Ring) : (s.setRing n x).staging = s.staging := by cases s; rfl
@[simp] theorem State.setRing_pending (s : State) (n : Nat) (x : Ring) : (s.setRing n x).pending = s.pending := by cases s; rfl
@[simp] theorem State.setRing_free (s : State) (n : Nat) (x : Ring) : (s.setRing n x).free = s.free := by cases s; rfl
@[simp] theorem State.setRing_out (s : State) (n : Nat) (x : Ring) : (s.setRing n x).out = s.out := by cases s; rfl
@[simp] theorem State.setRing_root (s : State) (n : Nat) (x : Ring) (m : Nat) : (s.setRing n x).root m = s.root m := by cases s; rfl
@[simp] theorem State.setRing_bank (s : State) (n : Nat) (x : Ring) (m : Nat) : (s.setRing n x).bank m = s.bank m := by cases s; rfl
@[simp] theorem State.setRing_group (s : State) (n : Nat) (x : Ring) (m : Nat) : (s.setRing n x).group m = s.group m := by cases s; rfl
@[simp] theorem State.setRing_chan (s : State) (n : Nat) (x : Ring) (m : Nat) : (s.setRing n x).chan m = s.chan m := by cases s; rfl
@[simp] theorem State.setRing_tsp (s : State) (n : Nat) (x : Ring) (m : Nat) : (s.setRing n x).tsp m = s.tsp m := by cases s; rfl
@[simp] theorem State.setRing_flow (s : State) (n : Nat) (x : Ring) (m : Nat) : (s.setRing n x).flow m = s.flow m := by cases s; rfl
@[simp] theorem State.setRing_cap (s : State) (n : Nat) (x : Ring) (m : Nat) : (s.setRing n x).cap m = s.cap m := by cases s; rfl
@[simp] theorem State.setRing_take (s : State) (n : Nat) (x : Ring) (m : Nat) : (s.setRing n x).take m = s.take m := by cases s; rfl
@[simp] theorem State.setRing_iv (s : State) (n : Nat) (x : Ring) (m : Nat) : (s.setRing n x).iv m = s.iv m := by cases s; rfl
@[simp] theorem State.setRing_pl (s : State) (n : Nat) (x : Ring) (m : Nat) : (s.setRing n x).pl m = s.pl m := by cases s; rfl
@[simp] theorem State.setRing_pd (s : State) (n : Nat) (x : Ring) (m : Nat) : (s.setRing n x).pd m = s.pd m := by cases s; rfl
@[simp] theorem State.setRing_spt (s : State) (n : Nat) (x : Ring) (m : Nat) : (s.setRing n x).spt m = s.spt m := by cases s; rfl
@[simp] theorem State.setRing_rg (s : State) (n : Nat) (x : Ring) (m : Nat) : (s.setRing n x).rg m = s.rg m := by cases s; rfl
@[simp] theorem State.setRing_word (s : State) (n : Nat) (x : Ring) (q : Nat) : (s.setRing n x).word q = s.word q := by cases s; rfl
@[simp] theorem State.setRing_get (s : State) (n : Nat) (x : Ring) (q : Ref) : (s.setRing n x).get q = s.get q := by cases s; rfl
@[simp] theorem State.setRing_geti (s : State) (n : Nat) (x : Ring) (q : Ref) : (s.setRing n x).geti q = s.geti q := by cases s; rfl
@[simp] theorem State.setRing_bit (s : State) (n : Nat) (x : Ring) (q : Ref) : (s.setRing n x).bit q = s.bit q := by cases s; rfl

/-! `setIv` -/

@[simp] theorem State.setIv_regs (s : State) (n : Nat) (x : Iv) : (s.setIv n x).regs = s.regs := by cases s; rfl
@[simp] theorem State.setIv_roots (s : State) (n : Nat) (x : Iv) : (s.setIv n x).roots = s.roots := by cases s; rfl
@[simp] theorem State.setIv_banks (s : State) (n : Nat) (x : Iv) : (s.setIv n x).banks = s.banks := by cases s; rfl
@[simp] theorem State.setIv_groups (s : State) (n : Nat) (x : Iv) : (s.setIv n x).groups = s.groups := by cases s; rfl
@[simp] theorem State.setIv_chans (s : State) (n : Nat) (x : Iv) : (s.setIv n x).chans = s.chans := by cases s; rfl
@[simp] theorem State.setIv_store (s : State) (n : Nat) (x : Iv) : (s.setIv n x).store = s.store := by cases s; rfl
@[simp] theorem State.setIv_storeErr (s : State) (n : Nat) (x : Iv) : (s.setIv n x).storeErr = s.storeErr := by cases s; rfl
@[simp] theorem State.setIv_calChans (s : State) (n : Nat) (x : Iv) : (s.setIv n x).calChans = s.calChans := by cases s; rfl
@[simp] theorem State.setIv_caps (s : State) (n : Nat) (x : Iv) : (s.setIv n x).caps = s.caps := by cases s; rfl
@[simp] theorem State.setIv_takes (s : State) (n : Nat) (x : Iv) : (s.setIv n x).takes = s.takes := by cases s; rfl
@[simp] theorem State.setIv_rings (s : State) (n : Nat) (x : Iv) : (s.setIv n x).rings = s.rings := by cases s; rfl
@[simp] theorem State.setIv_reelSeq (s : State) (n : Nat) (x : Iv) : (s.setIv n x).reelSeq = s.reelSeq := by cases s; rfl
@[simp] theorem State.setIv_rgs (s : State) (n : Nat) (x : Iv) : (s.setIv n x).rgs = s.rgs := by cases s; rfl
@[simp] theorem State.setIv_regQ (s : State) (n : Nat) (x : Iv) : (s.setIv n x).regQ = s.regQ := by cases s; rfl
@[simp] theorem State.setIv_tsps (s : State) (n : Nat) (x : Iv) : (s.setIv n x).tsps = s.tsps := by cases s; rfl
@[simp] theorem State.setIv_flows (s : State) (n : Nat) (x : Iv) : (s.setIv n x).flows = s.flows := by cases s; rfl
@[simp] theorem State.setIv_sched (s : State) (n : Nat) (x : Iv) : (s.setIv n x).sched = s.sched := by cases s; rfl
@[simp] theorem State.setIv_ep (s : State) (n : Nat) (x : Iv) : (s.setIv n x).ep = s.ep := by cases s; rfl
@[simp] theorem State.setIv_msix (s : State) (n : Nat) (x : Iv) : (s.setIv n x).msix = s.msix := by cases s; rfl
@[simp] theorem State.setIv_msixPend (s : State) (n : Nat) (x : Iv) : (s.setIv n x).msixPend = s.msixPend := by cases s; rfl
@[simp] theorem State.setIv_fuses (s : State) (n : Nat) (x : Iv) : (s.setIv n x).fuses = s.fuses := by cases s; rfl
@[simp] theorem State.setIv_shadow (s : State) (n : Nat) (x : Iv) : (s.setIv n x).shadow = s.shadow := by cases s; rfl
@[simp] theorem State.setIv_pls (s : State) (n : Nat) (x : Iv) : (s.setIv n x).pls = s.pls := by cases s; rfl
@[simp] theorem State.setIv_board (s : State) (n : Nat) (x : Iv) : (s.setIv n x).board = s.board := by cases s; rfl
@[simp] theorem State.setIv_pds (s : State) (n : Nat) (x : Iv) : (s.setIv n x).pds = s.pds := by cases s; rfl
@[simp] theorem State.setIv_pwr (s : State) (n : Nat) (x : Iv) : (s.setIv n x).pwr = s.pwr := by cases s; rfl
@[simp] theorem State.setIv_pmb (s : State) (n : Nat) (x : Iv) : (s.setIv n x).pmb = s.pmb := by cases s; rfl
@[simp] theorem State.setIv_boot (s : State) (n : Nat) (x : Iv) : (s.setIv n x).boot = s.boot := by cases s; rfl
@[simp] theorem State.setIv_jtag (s : State) (n : Nat) (x : Iv) : (s.setIv n x).jtag = s.jtag := by cases s; rfl
@[simp] theorem State.setIv_quorno (s : State) (n : Nat) (x : Iv) : (s.setIv n x).quorno = s.quorno := by cases s; rfl
@[simp] theorem State.setIv_spts (s : State) (n : Nat) (x : Iv) : (s.setIv n x).spts = s.spts := by cases s; rfl
@[simp] theorem State.setIv_cal (s : State) (n : Nat) (x : Iv) : (s.setIv n x).cal = s.cal := by cases s; rfl
@[simp] theorem State.setIv_staging (s : State) (n : Nat) (x : Iv) : (s.setIv n x).staging = s.staging := by cases s; rfl
@[simp] theorem State.setIv_pending (s : State) (n : Nat) (x : Iv) : (s.setIv n x).pending = s.pending := by cases s; rfl
@[simp] theorem State.setIv_free (s : State) (n : Nat) (x : Iv) : (s.setIv n x).free = s.free := by cases s; rfl
@[simp] theorem State.setIv_out (s : State) (n : Nat) (x : Iv) : (s.setIv n x).out = s.out := by cases s; rfl
@[simp] theorem State.setIv_root (s : State) (n : Nat) (x : Iv) (m : Nat) : (s.setIv n x).root m = s.root m := by cases s; rfl
@[simp] theorem State.setIv_bank (s : State) (n : Nat) (x : Iv) (m : Nat) : (s.setIv n x).bank m = s.bank m := by cases s; rfl
@[simp] theorem State.setIv_group (s : State) (n : Nat) (x : Iv) (m : Nat) : (s.setIv n x).group m = s.group m := by cases s; rfl
@[simp] theorem State.setIv_chan (s : State) (n : Nat) (x : Iv) (m : Nat) : (s.setIv n x).chan m = s.chan m := by cases s; rfl
@[simp] theorem State.setIv_tsp (s : State) (n : Nat) (x : Iv) (m : Nat) : (s.setIv n x).tsp m = s.tsp m := by cases s; rfl
@[simp] theorem State.setIv_flow (s : State) (n : Nat) (x : Iv) (m : Nat) : (s.setIv n x).flow m = s.flow m := by cases s; rfl
@[simp] theorem State.setIv_cap (s : State) (n : Nat) (x : Iv) (m : Nat) : (s.setIv n x).cap m = s.cap m := by cases s; rfl
@[simp] theorem State.setIv_take (s : State) (n : Nat) (x : Iv) (m : Nat) : (s.setIv n x).take m = s.take m := by cases s; rfl
@[simp] theorem State.setIv_ring (s : State) (n : Nat) (x : Iv) (m : Nat) : (s.setIv n x).ring m = s.ring m := by cases s; rfl
@[simp] theorem State.setIv_pl (s : State) (n : Nat) (x : Iv) (m : Nat) : (s.setIv n x).pl m = s.pl m := by cases s; rfl
@[simp] theorem State.setIv_pd (s : State) (n : Nat) (x : Iv) (m : Nat) : (s.setIv n x).pd m = s.pd m := by cases s; rfl
@[simp] theorem State.setIv_spt (s : State) (n : Nat) (x : Iv) (m : Nat) : (s.setIv n x).spt m = s.spt m := by cases s; rfl
@[simp] theorem State.setIv_rg (s : State) (n : Nat) (x : Iv) (m : Nat) : (s.setIv n x).rg m = s.rg m := by cases s; rfl
@[simp] theorem State.setIv_word (s : State) (n : Nat) (x : Iv) (q : Nat) : (s.setIv n x).word q = s.word q := by cases s; rfl
@[simp] theorem State.setIv_get (s : State) (n : Nat) (x : Iv) (q : Ref) : (s.setIv n x).get q = s.get q := by cases s; rfl
@[simp] theorem State.setIv_geti (s : State) (n : Nat) (x : Iv) (q : Ref) : (s.setIv n x).geti q = s.geti q := by cases s; rfl
@[simp] theorem State.setIv_bit (s : State) (n : Nat) (x : Iv) (q : Ref) : (s.setIv n x).bit q = s.bit q := by cases s; rfl

/-! `setPl` -/

@[simp] theorem State.setPl_regs (s : State) (n : Nat) (x : Pl) : (s.setPl n x).regs = s.regs := by cases s; rfl
@[simp] theorem State.setPl_roots (s : State) (n : Nat) (x : Pl) : (s.setPl n x).roots = s.roots := by cases s; rfl
@[simp] theorem State.setPl_banks (s : State) (n : Nat) (x : Pl) : (s.setPl n x).banks = s.banks := by cases s; rfl
@[simp] theorem State.setPl_groups (s : State) (n : Nat) (x : Pl) : (s.setPl n x).groups = s.groups := by cases s; rfl
@[simp] theorem State.setPl_chans (s : State) (n : Nat) (x : Pl) : (s.setPl n x).chans = s.chans := by cases s; rfl
@[simp] theorem State.setPl_store (s : State) (n : Nat) (x : Pl) : (s.setPl n x).store = s.store := by cases s; rfl
@[simp] theorem State.setPl_storeErr (s : State) (n : Nat) (x : Pl) : (s.setPl n x).storeErr = s.storeErr := by cases s; rfl
@[simp] theorem State.setPl_calChans (s : State) (n : Nat) (x : Pl) : (s.setPl n x).calChans = s.calChans := by cases s; rfl
@[simp] theorem State.setPl_caps (s : State) (n : Nat) (x : Pl) : (s.setPl n x).caps = s.caps := by cases s; rfl
@[simp] theorem State.setPl_takes (s : State) (n : Nat) (x : Pl) : (s.setPl n x).takes = s.takes := by cases s; rfl
@[simp] theorem State.setPl_rings (s : State) (n : Nat) (x : Pl) : (s.setPl n x).rings = s.rings := by cases s; rfl
@[simp] theorem State.setPl_reelSeq (s : State) (n : Nat) (x : Pl) : (s.setPl n x).reelSeq = s.reelSeq := by cases s; rfl
@[simp] theorem State.setPl_ivs (s : State) (n : Nat) (x : Pl) : (s.setPl n x).ivs = s.ivs := by cases s; rfl
@[simp] theorem State.setPl_rgs (s : State) (n : Nat) (x : Pl) : (s.setPl n x).rgs = s.rgs := by cases s; rfl
@[simp] theorem State.setPl_regQ (s : State) (n : Nat) (x : Pl) : (s.setPl n x).regQ = s.regQ := by cases s; rfl
@[simp] theorem State.setPl_tsps (s : State) (n : Nat) (x : Pl) : (s.setPl n x).tsps = s.tsps := by cases s; rfl
@[simp] theorem State.setPl_flows (s : State) (n : Nat) (x : Pl) : (s.setPl n x).flows = s.flows := by cases s; rfl
@[simp] theorem State.setPl_sched (s : State) (n : Nat) (x : Pl) : (s.setPl n x).sched = s.sched := by cases s; rfl
@[simp] theorem State.setPl_ep (s : State) (n : Nat) (x : Pl) : (s.setPl n x).ep = s.ep := by cases s; rfl
@[simp] theorem State.setPl_msix (s : State) (n : Nat) (x : Pl) : (s.setPl n x).msix = s.msix := by cases s; rfl
@[simp] theorem State.setPl_msixPend (s : State) (n : Nat) (x : Pl) : (s.setPl n x).msixPend = s.msixPend := by cases s; rfl
@[simp] theorem State.setPl_fuses (s : State) (n : Nat) (x : Pl) : (s.setPl n x).fuses = s.fuses := by cases s; rfl
@[simp] theorem State.setPl_shadow (s : State) (n : Nat) (x : Pl) : (s.setPl n x).shadow = s.shadow := by cases s; rfl
@[simp] theorem State.setPl_board (s : State) (n : Nat) (x : Pl) : (s.setPl n x).board = s.board := by cases s; rfl
@[simp] theorem State.setPl_pds (s : State) (n : Nat) (x : Pl) : (s.setPl n x).pds = s.pds := by cases s; rfl
@[simp] theorem State.setPl_pwr (s : State) (n : Nat) (x : Pl) : (s.setPl n x).pwr = s.pwr := by cases s; rfl
@[simp] theorem State.setPl_pmb (s : State) (n : Nat) (x : Pl) : (s.setPl n x).pmb = s.pmb := by cases s; rfl
@[simp] theorem State.setPl_boot (s : State) (n : Nat) (x : Pl) : (s.setPl n x).boot = s.boot := by cases s; rfl
@[simp] theorem State.setPl_jtag (s : State) (n : Nat) (x : Pl) : (s.setPl n x).jtag = s.jtag := by cases s; rfl
@[simp] theorem State.setPl_quorno (s : State) (n : Nat) (x : Pl) : (s.setPl n x).quorno = s.quorno := by cases s; rfl
@[simp] theorem State.setPl_spts (s : State) (n : Nat) (x : Pl) : (s.setPl n x).spts = s.spts := by cases s; rfl
@[simp] theorem State.setPl_cal (s : State) (n : Nat) (x : Pl) : (s.setPl n x).cal = s.cal := by cases s; rfl
@[simp] theorem State.setPl_staging (s : State) (n : Nat) (x : Pl) : (s.setPl n x).staging = s.staging := by cases s; rfl
@[simp] theorem State.setPl_pending (s : State) (n : Nat) (x : Pl) : (s.setPl n x).pending = s.pending := by cases s; rfl
@[simp] theorem State.setPl_free (s : State) (n : Nat) (x : Pl) : (s.setPl n x).free = s.free := by cases s; rfl
@[simp] theorem State.setPl_out (s : State) (n : Nat) (x : Pl) : (s.setPl n x).out = s.out := by cases s; rfl
@[simp] theorem State.setPl_root (s : State) (n : Nat) (x : Pl) (m : Nat) : (s.setPl n x).root m = s.root m := by cases s; rfl
@[simp] theorem State.setPl_bank (s : State) (n : Nat) (x : Pl) (m : Nat) : (s.setPl n x).bank m = s.bank m := by cases s; rfl
@[simp] theorem State.setPl_group (s : State) (n : Nat) (x : Pl) (m : Nat) : (s.setPl n x).group m = s.group m := by cases s; rfl
@[simp] theorem State.setPl_chan (s : State) (n : Nat) (x : Pl) (m : Nat) : (s.setPl n x).chan m = s.chan m := by cases s; rfl
@[simp] theorem State.setPl_tsp (s : State) (n : Nat) (x : Pl) (m : Nat) : (s.setPl n x).tsp m = s.tsp m := by cases s; rfl
@[simp] theorem State.setPl_flow (s : State) (n : Nat) (x : Pl) (m : Nat) : (s.setPl n x).flow m = s.flow m := by cases s; rfl
@[simp] theorem State.setPl_cap (s : State) (n : Nat) (x : Pl) (m : Nat) : (s.setPl n x).cap m = s.cap m := by cases s; rfl
@[simp] theorem State.setPl_take (s : State) (n : Nat) (x : Pl) (m : Nat) : (s.setPl n x).take m = s.take m := by cases s; rfl
@[simp] theorem State.setPl_ring (s : State) (n : Nat) (x : Pl) (m : Nat) : (s.setPl n x).ring m = s.ring m := by cases s; rfl
@[simp] theorem State.setPl_iv (s : State) (n : Nat) (x : Pl) (m : Nat) : (s.setPl n x).iv m = s.iv m := by cases s; rfl
@[simp] theorem State.setPl_pd (s : State) (n : Nat) (x : Pl) (m : Nat) : (s.setPl n x).pd m = s.pd m := by cases s; rfl
@[simp] theorem State.setPl_spt (s : State) (n : Nat) (x : Pl) (m : Nat) : (s.setPl n x).spt m = s.spt m := by cases s; rfl
@[simp] theorem State.setPl_rg (s : State) (n : Nat) (x : Pl) (m : Nat) : (s.setPl n x).rg m = s.rg m := by cases s; rfl
@[simp] theorem State.setPl_word (s : State) (n : Nat) (x : Pl) (q : Nat) : (s.setPl n x).word q = s.word q := by cases s; rfl
@[simp] theorem State.setPl_get (s : State) (n : Nat) (x : Pl) (q : Ref) : (s.setPl n x).get q = s.get q := by cases s; rfl
@[simp] theorem State.setPl_geti (s : State) (n : Nat) (x : Pl) (q : Ref) : (s.setPl n x).geti q = s.geti q := by cases s; rfl
@[simp] theorem State.setPl_bit (s : State) (n : Nat) (x : Pl) (q : Ref) : (s.setPl n x).bit q = s.bit q := by cases s; rfl

/-! `setPd` -/

@[simp] theorem State.setPd_regs (s : State) (n : Nat) (x : Pd) : (s.setPd n x).regs = s.regs := by cases s; rfl
@[simp] theorem State.setPd_roots (s : State) (n : Nat) (x : Pd) : (s.setPd n x).roots = s.roots := by cases s; rfl
@[simp] theorem State.setPd_banks (s : State) (n : Nat) (x : Pd) : (s.setPd n x).banks = s.banks := by cases s; rfl
@[simp] theorem State.setPd_groups (s : State) (n : Nat) (x : Pd) : (s.setPd n x).groups = s.groups := by cases s; rfl
@[simp] theorem State.setPd_chans (s : State) (n : Nat) (x : Pd) : (s.setPd n x).chans = s.chans := by cases s; rfl
@[simp] theorem State.setPd_store (s : State) (n : Nat) (x : Pd) : (s.setPd n x).store = s.store := by cases s; rfl
@[simp] theorem State.setPd_storeErr (s : State) (n : Nat) (x : Pd) : (s.setPd n x).storeErr = s.storeErr := by cases s; rfl
@[simp] theorem State.setPd_calChans (s : State) (n : Nat) (x : Pd) : (s.setPd n x).calChans = s.calChans := by cases s; rfl
@[simp] theorem State.setPd_caps (s : State) (n : Nat) (x : Pd) : (s.setPd n x).caps = s.caps := by cases s; rfl
@[simp] theorem State.setPd_takes (s : State) (n : Nat) (x : Pd) : (s.setPd n x).takes = s.takes := by cases s; rfl
@[simp] theorem State.setPd_rings (s : State) (n : Nat) (x : Pd) : (s.setPd n x).rings = s.rings := by cases s; rfl
@[simp] theorem State.setPd_reelSeq (s : State) (n : Nat) (x : Pd) : (s.setPd n x).reelSeq = s.reelSeq := by cases s; rfl
@[simp] theorem State.setPd_ivs (s : State) (n : Nat) (x : Pd) : (s.setPd n x).ivs = s.ivs := by cases s; rfl
@[simp] theorem State.setPd_rgs (s : State) (n : Nat) (x : Pd) : (s.setPd n x).rgs = s.rgs := by cases s; rfl
@[simp] theorem State.setPd_regQ (s : State) (n : Nat) (x : Pd) : (s.setPd n x).regQ = s.regQ := by cases s; rfl
@[simp] theorem State.setPd_tsps (s : State) (n : Nat) (x : Pd) : (s.setPd n x).tsps = s.tsps := by cases s; rfl
@[simp] theorem State.setPd_flows (s : State) (n : Nat) (x : Pd) : (s.setPd n x).flows = s.flows := by cases s; rfl
@[simp] theorem State.setPd_sched (s : State) (n : Nat) (x : Pd) : (s.setPd n x).sched = s.sched := by cases s; rfl
@[simp] theorem State.setPd_ep (s : State) (n : Nat) (x : Pd) : (s.setPd n x).ep = s.ep := by cases s; rfl
@[simp] theorem State.setPd_msix (s : State) (n : Nat) (x : Pd) : (s.setPd n x).msix = s.msix := by cases s; rfl
@[simp] theorem State.setPd_msixPend (s : State) (n : Nat) (x : Pd) : (s.setPd n x).msixPend = s.msixPend := by cases s; rfl
@[simp] theorem State.setPd_fuses (s : State) (n : Nat) (x : Pd) : (s.setPd n x).fuses = s.fuses := by cases s; rfl
@[simp] theorem State.setPd_shadow (s : State) (n : Nat) (x : Pd) : (s.setPd n x).shadow = s.shadow := by cases s; rfl
@[simp] theorem State.setPd_pls (s : State) (n : Nat) (x : Pd) : (s.setPd n x).pls = s.pls := by cases s; rfl
@[simp] theorem State.setPd_board (s : State) (n : Nat) (x : Pd) : (s.setPd n x).board = s.board := by cases s; rfl
@[simp] theorem State.setPd_pwr (s : State) (n : Nat) (x : Pd) : (s.setPd n x).pwr = s.pwr := by cases s; rfl
@[simp] theorem State.setPd_pmb (s : State) (n : Nat) (x : Pd) : (s.setPd n x).pmb = s.pmb := by cases s; rfl
@[simp] theorem State.setPd_boot (s : State) (n : Nat) (x : Pd) : (s.setPd n x).boot = s.boot := by cases s; rfl
@[simp] theorem State.setPd_jtag (s : State) (n : Nat) (x : Pd) : (s.setPd n x).jtag = s.jtag := by cases s; rfl
@[simp] theorem State.setPd_quorno (s : State) (n : Nat) (x : Pd) : (s.setPd n x).quorno = s.quorno := by cases s; rfl
@[simp] theorem State.setPd_spts (s : State) (n : Nat) (x : Pd) : (s.setPd n x).spts = s.spts := by cases s; rfl
@[simp] theorem State.setPd_cal (s : State) (n : Nat) (x : Pd) : (s.setPd n x).cal = s.cal := by cases s; rfl
@[simp] theorem State.setPd_staging (s : State) (n : Nat) (x : Pd) : (s.setPd n x).staging = s.staging := by cases s; rfl
@[simp] theorem State.setPd_pending (s : State) (n : Nat) (x : Pd) : (s.setPd n x).pending = s.pending := by cases s; rfl
@[simp] theorem State.setPd_free (s : State) (n : Nat) (x : Pd) : (s.setPd n x).free = s.free := by cases s; rfl
@[simp] theorem State.setPd_out (s : State) (n : Nat) (x : Pd) : (s.setPd n x).out = s.out := by cases s; rfl
@[simp] theorem State.setPd_root (s : State) (n : Nat) (x : Pd) (m : Nat) : (s.setPd n x).root m = s.root m := by cases s; rfl
@[simp] theorem State.setPd_bank (s : State) (n : Nat) (x : Pd) (m : Nat) : (s.setPd n x).bank m = s.bank m := by cases s; rfl
@[simp] theorem State.setPd_group (s : State) (n : Nat) (x : Pd) (m : Nat) : (s.setPd n x).group m = s.group m := by cases s; rfl
@[simp] theorem State.setPd_chan (s : State) (n : Nat) (x : Pd) (m : Nat) : (s.setPd n x).chan m = s.chan m := by cases s; rfl
@[simp] theorem State.setPd_tsp (s : State) (n : Nat) (x : Pd) (m : Nat) : (s.setPd n x).tsp m = s.tsp m := by cases s; rfl
@[simp] theorem State.setPd_flow (s : State) (n : Nat) (x : Pd) (m : Nat) : (s.setPd n x).flow m = s.flow m := by cases s; rfl
@[simp] theorem State.setPd_cap (s : State) (n : Nat) (x : Pd) (m : Nat) : (s.setPd n x).cap m = s.cap m := by cases s; rfl
@[simp] theorem State.setPd_take (s : State) (n : Nat) (x : Pd) (m : Nat) : (s.setPd n x).take m = s.take m := by cases s; rfl
@[simp] theorem State.setPd_ring (s : State) (n : Nat) (x : Pd) (m : Nat) : (s.setPd n x).ring m = s.ring m := by cases s; rfl
@[simp] theorem State.setPd_iv (s : State) (n : Nat) (x : Pd) (m : Nat) : (s.setPd n x).iv m = s.iv m := by cases s; rfl
@[simp] theorem State.setPd_pl (s : State) (n : Nat) (x : Pd) (m : Nat) : (s.setPd n x).pl m = s.pl m := by cases s; rfl
@[simp] theorem State.setPd_spt (s : State) (n : Nat) (x : Pd) (m : Nat) : (s.setPd n x).spt m = s.spt m := by cases s; rfl
@[simp] theorem State.setPd_rg (s : State) (n : Nat) (x : Pd) (m : Nat) : (s.setPd n x).rg m = s.rg m := by cases s; rfl
@[simp] theorem State.setPd_word (s : State) (n : Nat) (x : Pd) (q : Nat) : (s.setPd n x).word q = s.word q := by cases s; rfl
@[simp] theorem State.setPd_get (s : State) (n : Nat) (x : Pd) (q : Ref) : (s.setPd n x).get q = s.get q := by cases s; rfl
@[simp] theorem State.setPd_geti (s : State) (n : Nat) (x : Pd) (q : Ref) : (s.setPd n x).geti q = s.geti q := by cases s; rfl
@[simp] theorem State.setPd_bit (s : State) (n : Nat) (x : Pd) (q : Ref) : (s.setPd n x).bit q = s.bit q := by cases s; rfl

/-! `setSpt` -/

@[simp] theorem State.setSpt_regs (s : State) (n : Nat) (x : Spt) : (s.setSpt n x).regs = s.regs := by cases s; rfl
@[simp] theorem State.setSpt_roots (s : State) (n : Nat) (x : Spt) : (s.setSpt n x).roots = s.roots := by cases s; rfl
@[simp] theorem State.setSpt_banks (s : State) (n : Nat) (x : Spt) : (s.setSpt n x).banks = s.banks := by cases s; rfl
@[simp] theorem State.setSpt_groups (s : State) (n : Nat) (x : Spt) : (s.setSpt n x).groups = s.groups := by cases s; rfl
@[simp] theorem State.setSpt_chans (s : State) (n : Nat) (x : Spt) : (s.setSpt n x).chans = s.chans := by cases s; rfl
@[simp] theorem State.setSpt_store (s : State) (n : Nat) (x : Spt) : (s.setSpt n x).store = s.store := by cases s; rfl
@[simp] theorem State.setSpt_storeErr (s : State) (n : Nat) (x : Spt) : (s.setSpt n x).storeErr = s.storeErr := by cases s; rfl
@[simp] theorem State.setSpt_calChans (s : State) (n : Nat) (x : Spt) : (s.setSpt n x).calChans = s.calChans := by cases s; rfl
@[simp] theorem State.setSpt_caps (s : State) (n : Nat) (x : Spt) : (s.setSpt n x).caps = s.caps := by cases s; rfl
@[simp] theorem State.setSpt_takes (s : State) (n : Nat) (x : Spt) : (s.setSpt n x).takes = s.takes := by cases s; rfl
@[simp] theorem State.setSpt_rings (s : State) (n : Nat) (x : Spt) : (s.setSpt n x).rings = s.rings := by cases s; rfl
@[simp] theorem State.setSpt_reelSeq (s : State) (n : Nat) (x : Spt) : (s.setSpt n x).reelSeq = s.reelSeq := by cases s; rfl
@[simp] theorem State.setSpt_ivs (s : State) (n : Nat) (x : Spt) : (s.setSpt n x).ivs = s.ivs := by cases s; rfl
@[simp] theorem State.setSpt_rgs (s : State) (n : Nat) (x : Spt) : (s.setSpt n x).rgs = s.rgs := by cases s; rfl
@[simp] theorem State.setSpt_regQ (s : State) (n : Nat) (x : Spt) : (s.setSpt n x).regQ = s.regQ := by cases s; rfl
@[simp] theorem State.setSpt_tsps (s : State) (n : Nat) (x : Spt) : (s.setSpt n x).tsps = s.tsps := by cases s; rfl
@[simp] theorem State.setSpt_flows (s : State) (n : Nat) (x : Spt) : (s.setSpt n x).flows = s.flows := by cases s; rfl
@[simp] theorem State.setSpt_sched (s : State) (n : Nat) (x : Spt) : (s.setSpt n x).sched = s.sched := by cases s; rfl
@[simp] theorem State.setSpt_ep (s : State) (n : Nat) (x : Spt) : (s.setSpt n x).ep = s.ep := by cases s; rfl
@[simp] theorem State.setSpt_msix (s : State) (n : Nat) (x : Spt) : (s.setSpt n x).msix = s.msix := by cases s; rfl
@[simp] theorem State.setSpt_msixPend (s : State) (n : Nat) (x : Spt) : (s.setSpt n x).msixPend = s.msixPend := by cases s; rfl
@[simp] theorem State.setSpt_fuses (s : State) (n : Nat) (x : Spt) : (s.setSpt n x).fuses = s.fuses := by cases s; rfl
@[simp] theorem State.setSpt_shadow (s : State) (n : Nat) (x : Spt) : (s.setSpt n x).shadow = s.shadow := by cases s; rfl
@[simp] theorem State.setSpt_pls (s : State) (n : Nat) (x : Spt) : (s.setSpt n x).pls = s.pls := by cases s; rfl
@[simp] theorem State.setSpt_board (s : State) (n : Nat) (x : Spt) : (s.setSpt n x).board = s.board := by cases s; rfl
@[simp] theorem State.setSpt_pds (s : State) (n : Nat) (x : Spt) : (s.setSpt n x).pds = s.pds := by cases s; rfl
@[simp] theorem State.setSpt_pwr (s : State) (n : Nat) (x : Spt) : (s.setSpt n x).pwr = s.pwr := by cases s; rfl
@[simp] theorem State.setSpt_pmb (s : State) (n : Nat) (x : Spt) : (s.setSpt n x).pmb = s.pmb := by cases s; rfl
@[simp] theorem State.setSpt_boot (s : State) (n : Nat) (x : Spt) : (s.setSpt n x).boot = s.boot := by cases s; rfl
@[simp] theorem State.setSpt_jtag (s : State) (n : Nat) (x : Spt) : (s.setSpt n x).jtag = s.jtag := by cases s; rfl
@[simp] theorem State.setSpt_quorno (s : State) (n : Nat) (x : Spt) : (s.setSpt n x).quorno = s.quorno := by cases s; rfl
@[simp] theorem State.setSpt_cal (s : State) (n : Nat) (x : Spt) : (s.setSpt n x).cal = s.cal := by cases s; rfl
@[simp] theorem State.setSpt_staging (s : State) (n : Nat) (x : Spt) : (s.setSpt n x).staging = s.staging := by cases s; rfl
@[simp] theorem State.setSpt_pending (s : State) (n : Nat) (x : Spt) : (s.setSpt n x).pending = s.pending := by cases s; rfl
@[simp] theorem State.setSpt_free (s : State) (n : Nat) (x : Spt) : (s.setSpt n x).free = s.free := by cases s; rfl
@[simp] theorem State.setSpt_out (s : State) (n : Nat) (x : Spt) : (s.setSpt n x).out = s.out := by cases s; rfl
@[simp] theorem State.setSpt_root (s : State) (n : Nat) (x : Spt) (m : Nat) : (s.setSpt n x).root m = s.root m := by cases s; rfl
@[simp] theorem State.setSpt_bank (s : State) (n : Nat) (x : Spt) (m : Nat) : (s.setSpt n x).bank m = s.bank m := by cases s; rfl
@[simp] theorem State.setSpt_group (s : State) (n : Nat) (x : Spt) (m : Nat) : (s.setSpt n x).group m = s.group m := by cases s; rfl
@[simp] theorem State.setSpt_chan (s : State) (n : Nat) (x : Spt) (m : Nat) : (s.setSpt n x).chan m = s.chan m := by cases s; rfl
@[simp] theorem State.setSpt_tsp (s : State) (n : Nat) (x : Spt) (m : Nat) : (s.setSpt n x).tsp m = s.tsp m := by cases s; rfl
@[simp] theorem State.setSpt_flow (s : State) (n : Nat) (x : Spt) (m : Nat) : (s.setSpt n x).flow m = s.flow m := by cases s; rfl
@[simp] theorem State.setSpt_cap (s : State) (n : Nat) (x : Spt) (m : Nat) : (s.setSpt n x).cap m = s.cap m := by cases s; rfl
@[simp] theorem State.setSpt_take (s : State) (n : Nat) (x : Spt) (m : Nat) : (s.setSpt n x).take m = s.take m := by cases s; rfl
@[simp] theorem State.setSpt_ring (s : State) (n : Nat) (x : Spt) (m : Nat) : (s.setSpt n x).ring m = s.ring m := by cases s; rfl
@[simp] theorem State.setSpt_iv (s : State) (n : Nat) (x : Spt) (m : Nat) : (s.setSpt n x).iv m = s.iv m := by cases s; rfl
@[simp] theorem State.setSpt_pl (s : State) (n : Nat) (x : Spt) (m : Nat) : (s.setSpt n x).pl m = s.pl m := by cases s; rfl
@[simp] theorem State.setSpt_pd (s : State) (n : Nat) (x : Spt) (m : Nat) : (s.setSpt n x).pd m = s.pd m := by cases s; rfl
@[simp] theorem State.setSpt_rg (s : State) (n : Nat) (x : Spt) (m : Nat) : (s.setSpt n x).rg m = s.rg m := by cases s; rfl
@[simp] theorem State.setSpt_word (s : State) (n : Nat) (x : Spt) (q : Nat) : (s.setSpt n x).word q = s.word q := by cases s; rfl
@[simp] theorem State.setSpt_get (s : State) (n : Nat) (x : Spt) (q : Ref) : (s.setSpt n x).get q = s.get q := by cases s; rfl
@[simp] theorem State.setSpt_geti (s : State) (n : Nat) (x : Spt) (q : Ref) : (s.setSpt n x).geti q = s.geti q := by cases s; rfl
@[simp] theorem State.setSpt_bit (s : State) (n : Nat) (x : Spt) (q : Ref) : (s.setSpt n x).bit q = s.bit q := by cases s; rfl

/-! `setRg` -/

@[simp] theorem State.setRg_regs (s : State) (n : Nat) (x : Rg) : (s.setRg n x).regs = s.regs := by cases s; rfl
@[simp] theorem State.setRg_roots (s : State) (n : Nat) (x : Rg) : (s.setRg n x).roots = s.roots := by cases s; rfl
@[simp] theorem State.setRg_banks (s : State) (n : Nat) (x : Rg) : (s.setRg n x).banks = s.banks := by cases s; rfl
@[simp] theorem State.setRg_groups (s : State) (n : Nat) (x : Rg) : (s.setRg n x).groups = s.groups := by cases s; rfl
@[simp] theorem State.setRg_chans (s : State) (n : Nat) (x : Rg) : (s.setRg n x).chans = s.chans := by cases s; rfl
@[simp] theorem State.setRg_store (s : State) (n : Nat) (x : Rg) : (s.setRg n x).store = s.store := by cases s; rfl
@[simp] theorem State.setRg_storeErr (s : State) (n : Nat) (x : Rg) : (s.setRg n x).storeErr = s.storeErr := by cases s; rfl
@[simp] theorem State.setRg_calChans (s : State) (n : Nat) (x : Rg) : (s.setRg n x).calChans = s.calChans := by cases s; rfl
@[simp] theorem State.setRg_caps (s : State) (n : Nat) (x : Rg) : (s.setRg n x).caps = s.caps := by cases s; rfl
@[simp] theorem State.setRg_takes (s : State) (n : Nat) (x : Rg) : (s.setRg n x).takes = s.takes := by cases s; rfl
@[simp] theorem State.setRg_rings (s : State) (n : Nat) (x : Rg) : (s.setRg n x).rings = s.rings := by cases s; rfl
@[simp] theorem State.setRg_reelSeq (s : State) (n : Nat) (x : Rg) : (s.setRg n x).reelSeq = s.reelSeq := by cases s; rfl
@[simp] theorem State.setRg_ivs (s : State) (n : Nat) (x : Rg) : (s.setRg n x).ivs = s.ivs := by cases s; rfl
@[simp] theorem State.setRg_regQ (s : State) (n : Nat) (x : Rg) : (s.setRg n x).regQ = s.regQ := by cases s; rfl
@[simp] theorem State.setRg_tsps (s : State) (n : Nat) (x : Rg) : (s.setRg n x).tsps = s.tsps := by cases s; rfl
@[simp] theorem State.setRg_flows (s : State) (n : Nat) (x : Rg) : (s.setRg n x).flows = s.flows := by cases s; rfl
@[simp] theorem State.setRg_sched (s : State) (n : Nat) (x : Rg) : (s.setRg n x).sched = s.sched := by cases s; rfl
@[simp] theorem State.setRg_ep (s : State) (n : Nat) (x : Rg) : (s.setRg n x).ep = s.ep := by cases s; rfl
@[simp] theorem State.setRg_msix (s : State) (n : Nat) (x : Rg) : (s.setRg n x).msix = s.msix := by cases s; rfl
@[simp] theorem State.setRg_msixPend (s : State) (n : Nat) (x : Rg) : (s.setRg n x).msixPend = s.msixPend := by cases s; rfl
@[simp] theorem State.setRg_fuses (s : State) (n : Nat) (x : Rg) : (s.setRg n x).fuses = s.fuses := by cases s; rfl
@[simp] theorem State.setRg_shadow (s : State) (n : Nat) (x : Rg) : (s.setRg n x).shadow = s.shadow := by cases s; rfl
@[simp] theorem State.setRg_pls (s : State) (n : Nat) (x : Rg) : (s.setRg n x).pls = s.pls := by cases s; rfl
@[simp] theorem State.setRg_board (s : State) (n : Nat) (x : Rg) : (s.setRg n x).board = s.board := by cases s; rfl
@[simp] theorem State.setRg_pds (s : State) (n : Nat) (x : Rg) : (s.setRg n x).pds = s.pds := by cases s; rfl
@[simp] theorem State.setRg_pwr (s : State) (n : Nat) (x : Rg) : (s.setRg n x).pwr = s.pwr := by cases s; rfl
@[simp] theorem State.setRg_pmb (s : State) (n : Nat) (x : Rg) : (s.setRg n x).pmb = s.pmb := by cases s; rfl
@[simp] theorem State.setRg_boot (s : State) (n : Nat) (x : Rg) : (s.setRg n x).boot = s.boot := by cases s; rfl
@[simp] theorem State.setRg_jtag (s : State) (n : Nat) (x : Rg) : (s.setRg n x).jtag = s.jtag := by cases s; rfl
@[simp] theorem State.setRg_quorno (s : State) (n : Nat) (x : Rg) : (s.setRg n x).quorno = s.quorno := by cases s; rfl
@[simp] theorem State.setRg_spts (s : State) (n : Nat) (x : Rg) : (s.setRg n x).spts = s.spts := by cases s; rfl
@[simp] theorem State.setRg_cal (s : State) (n : Nat) (x : Rg) : (s.setRg n x).cal = s.cal := by cases s; rfl
@[simp] theorem State.setRg_staging (s : State) (n : Nat) (x : Rg) : (s.setRg n x).staging = s.staging := by cases s; rfl
@[simp] theorem State.setRg_pending (s : State) (n : Nat) (x : Rg) : (s.setRg n x).pending = s.pending := by cases s; rfl
@[simp] theorem State.setRg_free (s : State) (n : Nat) (x : Rg) : (s.setRg n x).free = s.free := by cases s; rfl
@[simp] theorem State.setRg_out (s : State) (n : Nat) (x : Rg) : (s.setRg n x).out = s.out := by cases s; rfl
@[simp] theorem State.setRg_root (s : State) (n : Nat) (x : Rg) (m : Nat) : (s.setRg n x).root m = s.root m := by cases s; rfl
@[simp] theorem State.setRg_bank (s : State) (n : Nat) (x : Rg) (m : Nat) : (s.setRg n x).bank m = s.bank m := by cases s; rfl
@[simp] theorem State.setRg_group (s : State) (n : Nat) (x : Rg) (m : Nat) : (s.setRg n x).group m = s.group m := by cases s; rfl
@[simp] theorem State.setRg_chan (s : State) (n : Nat) (x : Rg) (m : Nat) : (s.setRg n x).chan m = s.chan m := by cases s; rfl
@[simp] theorem State.setRg_tsp (s : State) (n : Nat) (x : Rg) (m : Nat) : (s.setRg n x).tsp m = s.tsp m := by cases s; rfl
@[simp] theorem State.setRg_flow (s : State) (n : Nat) (x : Rg) (m : Nat) : (s.setRg n x).flow m = s.flow m := by cases s; rfl
@[simp] theorem State.setRg_cap (s : State) (n : Nat) (x : Rg) (m : Nat) : (s.setRg n x).cap m = s.cap m := by cases s; rfl
@[simp] theorem State.setRg_take (s : State) (n : Nat) (x : Rg) (m : Nat) : (s.setRg n x).take m = s.take m := by cases s; rfl
@[simp] theorem State.setRg_ring (s : State) (n : Nat) (x : Rg) (m : Nat) : (s.setRg n x).ring m = s.ring m := by cases s; rfl
@[simp] theorem State.setRg_iv (s : State) (n : Nat) (x : Rg) (m : Nat) : (s.setRg n x).iv m = s.iv m := by cases s; rfl
@[simp] theorem State.setRg_pl (s : State) (n : Nat) (x : Rg) (m : Nat) : (s.setRg n x).pl m = s.pl m := by cases s; rfl
@[simp] theorem State.setRg_pd (s : State) (n : Nat) (x : Rg) (m : Nat) : (s.setRg n x).pd m = s.pd m := by cases s; rfl
@[simp] theorem State.setRg_spt (s : State) (n : Nat) (x : Rg) (m : Nat) : (s.setRg n x).spt m = s.spt m := by cases s; rfl
@[simp] theorem State.setRg_word (s : State) (n : Nat) (x : Rg) (q : Nat) : (s.setRg n x).word q = s.word q := by cases s; rfl
@[simp] theorem State.setRg_get (s : State) (n : Nat) (x : Rg) (q : Ref) : (s.setRg n x).get q = s.get q := by cases s; rfl
@[simp] theorem State.setRg_geti (s : State) (n : Nat) (x : Rg) (q : Ref) : (s.setRg n x).geti q = s.geti q := by cases s; rfl
@[simp] theorem State.setRg_bit (s : State) (n : Nat) (x : Rg) (q : Ref) : (s.setRg n x).bit q = s.bit q := by cases s; rfl

/-! A unit after it is set; another of its kind. -/

@[simp] theorem State.setRoot_root (s : State) (n : Nat) (x : Root) : (s.setRoot n x).root n = x := tabGet_tabSet_same _ _ _ _
theorem State.setRoot_root_other (s : State) {n m : Nat} (x : Root) (h : m ≠ n) : (s.setRoot n x).root m = s.root m := tabGet_tabSet_other _ _ _ _ h
@[simp] theorem State.setBank_bank (s : State) (n : Nat) (x : Bank) : (s.setBank n x).bank n = x := tabGet_tabSet_same _ _ _ _
theorem State.setBank_bank_other (s : State) {n m : Nat} (x : Bank) (h : m ≠ n) : (s.setBank n x).bank m = s.bank m := tabGet_tabSet_other _ _ _ _ h
@[simp] theorem State.setGroup_group (s : State) (n : Nat) (x : Group) : (s.setGroup n x).group n = x := tabGet_tabSet_same _ _ _ _
theorem State.setGroup_group_other (s : State) {n m : Nat} (x : Group) (h : m ≠ n) : (s.setGroup n x).group m = s.group m := tabGet_tabSet_other _ _ _ _ h
@[simp] theorem State.setChan_chan (s : State) (n : Nat) (x : Chan) : (s.setChan n x).chan n = x := tabGet_tabSet_same _ _ _ _
theorem State.setChan_chan_other (s : State) {n m : Nat} (x : Chan) (h : m ≠ n) : (s.setChan n x).chan m = s.chan m := tabGet_tabSet_other _ _ _ _ h
@[simp] theorem State.setTsp_tsp (s : State) (n : Nat) (x : Tsp) : (s.setTsp n x).tsp n = x := tabGet_tabSet_same _ _ _ _
theorem State.setTsp_tsp_other (s : State) {n m : Nat} (x : Tsp) (h : m ≠ n) : (s.setTsp n x).tsp m = s.tsp m := tabGet_tabSet_other _ _ _ _ h
@[simp] theorem State.setFlow_flow (s : State) (n : Nat) (x : Flow) : (s.setFlow n x).flow n = x := tabGet_tabSet_same _ _ _ _
theorem State.setFlow_flow_other (s : State) {n m : Nat} (x : Flow) (h : m ≠ n) : (s.setFlow n x).flow m = s.flow m := tabGet_tabSet_other _ _ _ _ h
@[simp] theorem State.setCap_cap (s : State) (n : Nat) (x : Cap) : (s.setCap n x).cap n = x := tabGet_tabSet_same _ _ _ _
theorem State.setCap_cap_other (s : State) {n m : Nat} (x : Cap) (h : m ≠ n) : (s.setCap n x).cap m = s.cap m := tabGet_tabSet_other _ _ _ _ h
@[simp] theorem State.setTake_take (s : State) (n : Nat) (x : Take) : (s.setTake n x).take n = x := tabGet_tabSet_same _ _ _ _
theorem State.setTake_take_other (s : State) {n m : Nat} (x : Take) (h : m ≠ n) : (s.setTake n x).take m = s.take m := tabGet_tabSet_other _ _ _ _ h
@[simp] theorem State.setRing_ring (s : State) (n : Nat) (x : Ring) : (s.setRing n x).ring n = x := tabGet_tabSet_same _ _ _ _
theorem State.setRing_ring_other (s : State) {n m : Nat} (x : Ring) (h : m ≠ n) : (s.setRing n x).ring m = s.ring m := tabGet_tabSet_other _ _ _ _ h
@[simp] theorem State.setIv_iv (s : State) (n : Nat) (x : Iv) : (s.setIv n x).iv n = x := tabGet_tabSet_same _ _ _ _
theorem State.setIv_iv_other (s : State) {n m : Nat} (x : Iv) (h : m ≠ n) : (s.setIv n x).iv m = s.iv m := tabGet_tabSet_other _ _ _ _ h
@[simp] theorem State.setPl_pl (s : State) (n : Nat) (x : Pl) : (s.setPl n x).pl n = x := tabGet_tabSet_same _ _ _ _
theorem State.setPl_pl_other (s : State) {n m : Nat} (x : Pl) (h : m ≠ n) : (s.setPl n x).pl m = s.pl m := tabGet_tabSet_other _ _ _ _ h
@[simp] theorem State.setPd_pd (s : State) (n : Nat) (x : Pd) : (s.setPd n x).pd n = x := tabGet_tabSet_same _ _ _ _
theorem State.setPd_pd_other (s : State) {n m : Nat} (x : Pd) (h : m ≠ n) : (s.setPd n x).pd m = s.pd m := tabGet_tabSet_other _ _ _ _ h
@[simp] theorem State.setSpt_spt (s : State) (n : Nat) (x : Spt) : (s.setSpt n x).spt n = x := tabGet_tabSet_same _ _ _ _
theorem State.setSpt_spt_other (s : State) {n m : Nat} (x : Spt) (h : m ≠ n) : (s.setSpt n x).spt m = s.spt m := tabGet_tabSet_other _ _ _ _ h
@[simp] theorem State.setRg_rg (s : State) (n : Nat) (x : Rg) : (s.setRg n x).rg n = x := tabGet_tabSet_same _ _ _ _
theorem State.setRg_rg_other (s : State) {n m : Nat} (x : Rg) (h : m ≠ n) : (s.setRg n x).rg m = s.rg m := tabGet_tabSet_other _ _ _ _ h

/-! The other updates in terms of these. -/

@[simp] theorem State.modRoot_eq (s : State) (n : Nat) (f : Root → Root) : s.modRoot n f = s.setRoot n (f (s.root n)) := by cases s; rfl
@[simp] theorem State.modBank_eq (s : State) (n : Nat) (f : Bank → Bank) : s.modBank n f = s.setBank n (f (s.bank n)) := by cases s; rfl
@[simp] theorem State.modGroup_eq (s : State) (n : Nat) (f : Group → Group) : s.modGroup n f = s.setGroup n (f (s.group n)) := by cases s; rfl
@[simp] theorem State.modChan_eq (s : State) (n : Nat) (f : Chan → Chan) : s.modChan n f = s.setChan n (f (s.chan n)) := by cases s; rfl
@[simp] theorem State.modTsp_eq (s : State) (n : Nat) (f : Tsp → Tsp) : s.modTsp n f = s.setTsp n (f (s.tsp n)) := by cases s; rfl
@[simp] theorem State.modFlow_eq (s : State) (n : Nat) (f : Flow → Flow) : s.modFlow n f = s.setFlow n (f (s.flow n)) := by cases s; rfl
@[simp] theorem State.modCap_eq (s : State) (n : Nat) (f : Cap → Cap) : s.modCap n f = s.setCap n (f (s.cap n)) := by cases s; rfl
@[simp] theorem State.modTake_eq (s : State) (n : Nat) (f : Take → Take) : s.modTake n f = s.setTake n (f (s.take n)) := by cases s; rfl
@[simp] theorem State.modRing_eq (s : State) (n : Nat) (f : Ring → Ring) : s.modRing n f = s.setRing n (f (s.ring n)) := by cases s; rfl
@[simp] theorem State.modIv_eq (s : State) (n : Nat) (f : Iv → Iv) : s.modIv n f = s.setIv n (f (s.iv n)) := by cases s; rfl
@[simp] theorem State.modPl_eq (s : State) (n : Nat) (f : Pl → Pl) : s.modPl n f = s.setPl n (f (s.pl n)) := by cases s; rfl
@[simp] theorem State.modPd_eq (s : State) (n : Nat) (f : Pd → Pd) : s.modPd n f = s.setPd n (f (s.pd n)) := by cases s; rfl
@[simp] theorem State.modSpt_eq (s : State) (n : Nat) (f : Spt → Spt) : s.modSpt n f = s.setSpt n (f (s.spt n)) := by cases s; rfl
@[simp] theorem State.modRg_eq (s : State) (n : Nat) (f : Rg → Rg) : s.modRg n f = s.setRg n (f (s.rg n)) := by cases s; rfl
@[simp] theorem State.puti_eq (s : State) (r : Ref) (v : Int) : s.puti r v = s.put r (wrapNat r.len v) := by cases s; rfl
@[simp] theorem State.inc_eq (s : State) (r : Ref) : s.inc r = s.put r (min (s.get r + 1) (2 ^ r.len - 1)) := by cases s; rfl
@[simp] theorem State.incBy_eq (s : State) (r : Ref) (k : Nat) : s.incBy r k = s.put r (min (s.get r + k) (2 ^ r.len - 1)) := by cases s; rfl
@[simp] theorem State.incWrap_eq (s : State) (r : Ref) : s.incWrap r = s.put r (s.get r + 1) := by cases s; rfl
@[simp] theorem State.putPair_eq (s : State) (lo hi : Ref) (v : Nat) : s.putPair lo hi v = (s.put lo (v % 2 ^ 32)).put hi (v / 2 ^ 32) := by cases s; rfl

end Sys2Proof.Machine
end

