-- ==== Sys2Proof/Laws/Kept/Base.lean ====
section
/-! SUPPORT. Branches and folds: what holds the queue and the fuses in every case holds them in the whole. -/

set_option Elab.async false

namespace Sys2Proof.Machine

@[simp] theorem State.ite_pending (c : Prop) [Decidable c] (a b : State) :
    (if c then a else b).pending = if c then a.pending else b.pending := by split <;> rfl
@[simp] theorem State.ite_fuses (c : Prop) [Decidable c] (a b : State) :
    (if c then a else b).fuses = if c then a.fuses else b.fuses := by split <;> rfl
@[simp] theorem State.ite_fst {β : Type} (c : Prop) [Decidable c] (a b : State × β) :
    (if c then a else b).1 = if c then a.1 else b.1 := by split <;> rfl

/-- A fold of operations that leave the queue alone leaves it alone. -/
@[simp] theorem State.foldl_pending {α : Type} (l : List α) (g : State → α → State) (s : State) (h : ∀ u x, (g u x).pending = u.pending) :
    (l.foldl g s).pending = s.pending := by
  induction l generalizing s with
  | nil => rfl
  | cons x l ih => rw [List.foldl_cons, ih, h]

@[simp] theorem State.foldl_fuses {α : Type} (l : List α) (g : State → α → State) (s : State) (h : ∀ u x, (g u x).fuses = u.fuses) :
    (l.foldl g s).fuses = s.fuses := by
  induction l generalizing s with
  | nil => rfl
  | cons x l ih => rw [List.foldl_cons, ih, h]

/-- The same for folds that carry more than the state. -/
@[simp] theorem State.foldl_fst_pending {α β : Type} (l : List α) (g : State × β → α → State × β) (p : State × β)
    (h : ∀ u x, (g u x).1.pending = u.1.pending) : (l.foldl g p).1.pending = p.1.pending := by
  induction l generalizing p with
  | nil => rfl
  | cons x l ih => rw [List.foldl_cons, ih, h]

@[simp] theorem State.foldl_fst_fuses {α β : Type} (l : List α) (g : State × β → α → State × β) (p : State × β)
    (h : ∀ u x, (g u x).1.fuses = u.1.fuses) : (l.foldl g p).1.fuses = p.1.fuses := by
  induction l generalizing p with
  | nil => rfl
  | cons x l ih => rw [List.foldl_cons, ih, h]

end Sys2Proof.Machine
end

