-- ==== Sys2Proof/Laws/Kept/Ops.lean ====
section
/-! SUPPORT. No operation of Machine/Ops.lean touches the queue of commands or the fuses. -/

set_option Elab.async false

namespace Sys2Proof.Machine

@[simp] theorem State.puti_pending (s : State) (r : Ref) (v : Int) : (State.puti s r v).pending = s.pending := by
  simp [State.puti]

@[simp] theorem State.puti_fuses (s : State) (r : Ref) (v : Int) : (State.puti s r v).fuses = s.fuses := by
  simp [State.puti]

@[simp] theorem State.inc_pending (s : State) (r : Ref) : (State.inc s r).pending = s.pending := by
  simp [State.inc]

@[simp] theorem State.inc_fuses (s : State) (r : Ref) : (State.inc s r).fuses = s.fuses := by
  simp [State.inc]

@[simp] theorem State.incBy_pending (s : State) (r : Ref) (k : Nat) : (State.incBy s r k).pending = s.pending := by
  simp [State.incBy]

@[simp] theorem State.incBy_fuses (s : State) (r : Ref) (k : Nat) : (State.incBy s r k).fuses = s.fuses := by
  simp [State.incBy]

@[simp] theorem State.incWrap_pending (s : State) (r : Ref) : (State.incWrap s r).pending = s.pending := by
  simp [State.incWrap]

@[simp] theorem State.incWrap_fuses (s : State) (r : Ref) : (State.incWrap s r).fuses = s.fuses := by
  simp [State.incWrap]

@[simp] theorem State.putPair_pending (s : State) (lo hi : Ref) (v : Nat) : (State.putPair s lo hi v).pending = s.pending := by
  simp [State.putPair]

@[simp] theorem State.putPair_fuses (s : State) (lo hi : Ref) (v : Nat) : (State.putPair s lo hi v).fuses = s.fuses := by
  simp [State.putPair]

@[simp] theorem State.writeReg_pending (s : State) (a : Nat) (w : Word) (m : Nat) : (State.writeReg s a w m).pending = s.pending := by
  simp [State.writeReg]

@[simp] theorem State.writeReg_fuses (s : State) (a : Nat) (w : Word) (m : Nat) : (State.writeReg s a w m).fuses = s.fuses := by
  simp [State.writeReg]

@[simp] theorem State.noteLock_pending (s : State) (a : Nat) : (State.noteLock s a).pending = s.pending := by
  simp [State.noteLock]

@[simp] theorem State.noteLock_fuses (s : State) (a : Nat) : (State.noteLock s a).fuses = s.fuses := by
  simp [State.noteLock]

@[simp] theorem State.clearRc_pending (s : State) (a : Nat) : (State.clearRc s a).pending = s.pending := by
  simp [State.clearRc]

@[simp] theorem State.clearRc_fuses (s : State) (a : Nat) : (State.clearRc s a).fuses = s.fuses := by
  simp [State.clearRc]

@[simp] theorem State.onBall_pending (s : State) (o : Output) : (State.onBall s o).pending = s.pending := by
  simp [State.onBall]

@[simp] theorem State.onBall_fuses (s : State) (o : Output) : (State.onBall s o).fuses = s.fuses := by
  simp [State.onBall]

@[simp] theorem State.fwWrite_pending (s : State) (a : Nat) (l : List (Ref × Nat)) : (State.fwWrite s a l).pending = s.pending := by
  simp [State.fwWrite]

@[simp] theorem State.fwWrite_fuses (s : State) (a : Nat) (l : List (Ref × Nat)) : (State.fwWrite s a l).fuses = s.fuses := by
  simp [State.fwWrite]

end Sys2Proof.Machine
end

