-- ==== Sys2Proof/Laws/Kept/Flags.lean ====
section
/-! SUPPORT. No operation of Machine/Flags.lean touches the queue of commands or the fuses. -/

set_option Elab.async false

namespace Sys2Proof.Machine

@[simp] theorem State.irq_pending (s : State) (v : Nat) : (State.irq s v).pending = s.pending := by
  simp [State.irq]

@[simp] theorem State.irq_fuses (s : State) (v : Nat) : (State.irq s v).fuses = s.fuses := by
  simp [State.irq]

@[simp] theorem State.rose_pending (s' : State) (v : Nat) (s : State) : (State.rose s' v s).pending = s'.pending := by
  simp [State.rose]

@[simp] theorem State.rose_fuses (s' : State) (v : Nat) (s : State) : (State.rose s' v s).fuses = s'.fuses := by
  simp [State.rose]

@[simp] theorem State.flag_pending (s : State) (v : Nat) (r : Ref) : (State.flag s v r).pending = s.pending := by
  simp [State.flag]

@[simp] theorem State.flag_fuses (s : State) (v : Nat) (r : Ref) : (State.flag s v r).fuses = s.fuses := by
  simp [State.flag]

@[simp] theorem State.flagCh_pending (s : State) (n : Nat) (r : Ref) : (State.flagCh s n r).pending = s.pending := by
  simp [State.flagCh]

@[simp] theorem State.flagCh_fuses (s : State) (n : Nat) (r : Ref) : (State.flagCh s n r).fuses = s.fuses := by
  simp [State.flagCh]

@[simp] theorem State.flagBnk_pending (s : State) (b : Nat) (r : Ref) : (State.flagBnk s b r).pending = s.pending := by
  simp [State.flagBnk]

@[simp] theorem State.flagBnk_fuses (s : State) (b : Nat) (r : Ref) : (State.flagBnk s b r).fuses = s.fuses := by
  simp [State.flagBnk]

@[simp] theorem State.flagSyn_pending (s : State) (n : Nat) (r : Ref) : (State.flagSyn s n r).pending = s.pending := by
  simp [State.flagSyn]

@[simp] theorem State.flagSyn_fuses (s : State) (n : Nat) (r : Ref) : (State.flagSyn s n r).fuses = s.fuses := by
  simp [State.flagSyn]

@[simp] theorem State.flagTsp_pending (s : State) (p : Nat) (r : Ref) : (State.flagTsp s p r).pending = s.pending := by
  simp [State.flagTsp]

@[simp] theorem State.flagTsp_fuses (s : State) (p : Nat) (r : Ref) : (State.flagTsp s p r).fuses = s.fuses := by
  simp [State.flagTsp]

@[simp] theorem State.flagPrl_pending (s : State) (p : Nat) (r : Ref) : (State.flagPrl s p r).pending = s.pending := by
  simp [State.flagPrl]

@[simp] theorem State.flagPrl_fuses (s : State) (p : Nat) (r : Ref) : (State.flagPrl s p r).fuses = s.fuses := by
  simp [State.flagPrl]

@[simp] theorem State.flagPwr_pending (s : State) (r : Ref) : (State.flagPwr s r).pending = s.pending := by
  simp [State.flagPwr]

@[simp] theorem State.flagPwr_fuses (s : State) (r : Ref) : (State.flagPwr s r).fuses = s.fuses := by
  simp [State.flagPwr]

@[simp] theorem State.flagClk_pending (s : State) (r : Ref) : (State.flagClk s r).pending = s.pending := by
  simp [State.flagClk]

@[simp] theorem State.flagClk_fuses (s : State) (r : Ref) : (State.flagClk s r).fuses = s.fuses := by
  simp [State.flagClk]

@[simp] theorem State.flagPmb_pending (s : State) (r : Ref) : (State.flagPmb s r).pending = s.pending := by
  simp [State.flagPmb]

@[simp] theorem State.flagPmb_fuses (s : State) (r : Ref) : (State.flagPmb s r).fuses = s.fuses := by
  simp [State.flagPmb]

end Sys2Proof.Machine
end

