-- ==== Sys2Proof/Laws/Kept/Post.lean ====
section
/-! SUPPORT. No operation of Machine/Post.lean touches the queue of commands or the fuses. -/

set_option Elab.async false

namespace Sys2Proof.Machine

@[simp] theorem State.logWrite_pending (s : State) (time kind unit cycle detail : Nat) : (State.logWrite s time kind unit cycle detail).pending = s.pending := by
  simp [State.logWrite]

@[simp] theorem State.logWrite_fuses (s : State) (time kind unit cycle detail : Nat) : (State.logWrite s time kind unit cycle detail).fuses = s.fuses := by
  simp [State.logWrite]

@[simp] theorem State.log_pending (s : State) (kind unit cycle detail : Nat) : (State.log s kind unit cycle detail).pending = s.pending := by
  simp [State.log]

@[simp] theorem State.log_fuses (s : State) (kind unit cycle detail : Nat) : (State.log s kind unit cycle detail).fuses = s.fuses := by
  simp [State.log]

@[simp] theorem State.logHeld_pending (s : State) (q : Nat × Nat × Nat × Nat × Nat) : (State.logHeld s q).pending = s.pending := by
  simp [State.logHeld]

@[simp] theorem State.logHeld_fuses (s : State) (q : Nat × Nat × Nat × Nat × Nat) : (State.logHeld s q).fuses = s.fuses := by
  simp [State.logHeld]

@[simp] theorem State.logFlush_pending (s : State) : (State.logFlush s).pending = s.pending := by
  unfold State.logFlush
  split
  · exact (State.foldl_pending _ State.logHeld _ (fun u q => by simp)).trans rfl
  · rfl

@[simp] theorem State.logFlush_fuses (s : State) : (State.logFlush s).fuses = s.fuses := by
  unfold State.logFlush
  split
  · exact (State.foldl_fuses _ State.logHeld _ (fun u q => by simp)).trans rfl
  · rfl

@[simp] theorem State.modRoot_pending (s : State) (n : Nat) (f : Root → Root) : (State.modRoot s n f).pending = s.pending := by
  simp [State.modRoot]

@[simp] theorem State.modRoot_fuses (s : State) (n : Nat) (f : Root → Root) : (State.modRoot s n f).fuses = s.fuses := by
  simp [State.modRoot]

@[simp] theorem State.modBank_pending (s : State) (n : Nat) (f : Bank → Bank) : (State.modBank s n f).pending = s.pending := by
  simp [State.modBank]

@[simp] theorem State.modBank_fuses (s : State) (n : Nat) (f : Bank → Bank) : (State.modBank s n f).fuses = s.fuses := by
  simp [State.modBank]

@[simp] theorem State.modGroup_pending (s : State) (n : Nat) (f : Group → Group) : (State.modGroup s n f).pending = s.pending := by
  simp [State.modGroup]

@[simp] theorem State.modGroup_fuses (s : State) (n : Nat) (f : Group → Group) : (State.modGroup s n f).fuses = s.fuses := by
  simp [State.modGroup]

@[simp] theorem State.modChan_pending (s : State) (n : Nat) (f : Chan → Chan) : (State.modChan s n f).pending = s.pending := by
  simp [State.modChan]

@[simp] theorem State.modChan_fuses (s : State) (n : Nat) (f : Chan → Chan) : (State.modChan s n f).fuses = s.fuses := by
  simp [State.modChan]

@[simp] theorem State.modTsp_pending (s : State) (n : Nat) (f : Tsp → Tsp) : (State.modTsp s n f).pending = s.pending := by
  simp [State.modTsp]

@[simp] theorem State.modTsp_fuses (s : State) (n : Nat) (f : Tsp → Tsp) : (State.modTsp s n f).fuses = s.fuses := by
  simp [State.modTsp]

@[simp] theorem State.modFlow_pending (s : State) (n : Nat) (f : Flow → Flow) : (State.modFlow s n f).pending = s.pending := by
  simp [State.modFlow]

@[simp] theorem State.modFlow_fuses (s : State) (n : Nat) (f : Flow → Flow) : (State.modFlow s n f).fuses = s.fuses := by
  simp [State.modFlow]

@[simp] theorem State.modCap_pending (s : State) (n : Nat) (f : Cap → Cap) : (State.modCap s n f).pending = s.pending := by
  simp [State.modCap]

@[simp] theorem State.modCap_fuses (s : State) (n : Nat) (f : Cap → Cap) : (State.modCap s n f).fuses = s.fuses := by
  simp [State.modCap]

@[simp] theorem State.modTake_pending (s : State) (n : Nat) (f : Take → Take) : (State.modTake s n f).pending = s.pending := by
  simp [State.modTake]

@[simp] theorem State.modTake_fuses (s : State) (n : Nat) (f : Take → Take) : (State.modTake s n f).fuses = s.fuses := by
  simp [State.modTake]

@[simp] theorem State.modRing_pending (s : State) (n : Nat) (f : Ring → Ring) : (State.modRing s n f).pending = s.pending := by
  simp [State.modRing]

@[simp] theorem State.modRing_fuses (s : State) (n : Nat) (f : Ring → Ring) : (State.modRing s n f).fuses = s.fuses := by
  simp [State.modRing]

@[simp] theorem State.modIv_pending (s : State) (n : Nat) (f : Iv → Iv) : (State.modIv s n f).pending = s.pending := by
  simp [State.modIv]

@[simp] theorem State.modIv_fuses (s : State) (n : Nat) (f : Iv → Iv) : (State.modIv s n f).fuses = s.fuses := by
  simp [State.modIv]

@[simp] theorem State.modPl_pending (s : State) (n : Nat) (f : Pl → Pl) : (State.modPl s n f).pending = s.pending := by
  simp [State.modPl]

@[simp] theorem State.modPl_fuses (s : State) (n : Nat) (f : Pl → Pl) : (State.modPl s n f).fuses = s.fuses := by
  simp [State.modPl]

@[simp] theorem State.modPd_pending (s : State) (n : Nat) (f : Pd → Pd) : (State.modPd s n f).pending = s.pending := by
  simp [State.modPd]

@[simp] theorem State.modPd_fuses (s : State) (n : Nat) (f : Pd → Pd) : (State.modPd s n f).fuses = s.fuses := by
  simp [State.modPd]

@[simp] theorem State.modSpt_pending (s : State) (n : Nat) (f : Spt → Spt) : (State.modSpt s n f).pending = s.pending := by
  simp [State.modSpt]

@[simp] theorem State.modSpt_fuses (s : State) (n : Nat) (f : Spt → Spt) : (State.modSpt s n f).fuses = s.fuses := by
  simp [State.modSpt]

@[simp] theorem State.modRg_pending (s : State) (n : Nat) (f : Rg → Rg) : (State.modRg s n f).pending = s.pending := by
  simp [State.modRg]

@[simp] theorem State.modRg_fuses (s : State) (n : Nat) (f : Rg → Rg) : (State.modRg s n f).fuses = s.fuses := by
  simp [State.modRg]

@[simp] theorem State.sendFrame_pending (s : State) (p h : Nat) (raw : List Nat) : (State.sendFrame s p h raw).pending = s.pending := by
  simp [State.sendFrame]

@[simp] theorem State.sendFrame_fuses (s : State) (p h : Nat) (raw : List Nat) : (State.sendFrame s p h raw).fuses = s.fuses := by
  simp [State.sendFrame]

@[simp] theorem State.sendData_pending (s : State) (p seq : Nat) (fr : LFrame) : (State.sendData s p seq fr).pending = s.pending := by
  simp [State.sendData]

@[simp] theorem State.sendData_fuses (s : State) (p seq : Nat) (fr : LFrame) : (State.sendData s p seq fr).fuses = s.fuses := by
  simp [State.sendData]

@[simp] theorem State.sendIdle_pending (s : State) (p : Nat) : (State.sendIdle s p).pending = s.pending := by
  simp [State.sendIdle]

@[simp] theorem State.sendIdle_fuses (s : State) (p : Nat) : (State.sendIdle s p).fuses = s.fuses := by
  simp [State.sendIdle]

@[simp] theorem State.txPump_pending (s : State) (p : Nat) (x0 : Nat) : (State.txPump s p x0).pending = s.pending := by
  induction x0 generalizing s with
  | zero => rfl
  | succ k ih =>
    unfold State.txPump; dsimp only
    split
    · rfl
    · split
      · rw [ih]; simp
      · rfl

@[simp] theorem State.txPump_fuses (s : State) (p : Nat) (x0 : Nat) : (State.txPump s p x0).fuses = s.fuses := by
  induction x0 generalizing s with
  | zero => rfl
  | succ k ih =>
    unfold State.txPump; dsimp only
    split
    · rfl
    · split
      · rw [ih]; simp
      · rfl

@[simp] theorem State.txFrame_pending (s : State) (p : Nat) (fr : LFrame) : (State.txFrame s p fr).pending = s.pending := by
  simp [State.txFrame]

@[simp] theorem State.txFrame_fuses (s : State) (p : Nat) (fr : LFrame) : (State.txFrame s p fr).fuses = s.fuses := by
  simp [State.txFrame]

@[simp] theorem State.txItem_pending (s : State) (p dst : Nat) (bcast : Bool) (i : LinkItem) : (State.txItem s p dst bcast i).pending = s.pending := by
  simp [State.txItem]

@[simp] theorem State.txItem_fuses (s : State) (p dst : Nat) (bcast : Bool) (i : LinkItem) : (State.txItem s p dst bcast i).fuses = s.fuses := by
  simp [State.txItem]

@[simp] theorem State.deliverItem_pending (s : State) (p src : Nat) (i : LinkItem) : (State.deliverItem s p src i).pending = s.pending := by
  simp [State.deliverItem]

@[simp] theorem State.deliverItem_fuses (s : State) (p src : Nat) (i : LinkItem) : (State.deliverItem s p src i).fuses = s.fuses := by
  simp [State.deliverItem]

@[simp] theorem State.failFrame_pending (s : State) (fr : LFrame) : (State.failFrame s fr).pending = s.pending := by
  unfold State.failFrame
  refine State.foldl_pending _ _ s (fun u i => ?_)
  dsimp only
  split
  · simp
  · split <;> simp

@[simp] theorem State.failFrame_fuses (s : State) (fr : LFrame) : (State.failFrame s fr).fuses = s.fuses := by
  unfold State.failFrame
  refine State.foldl_fuses _ _ s (fun u i => ?_)
  dsimp only
  split
  · simp
  · split <;> simp

@[simp] theorem State.routeFrame_pending (s : State) (fr : LFrame) : (State.routeFrame s fr).pending = s.pending := by
  simp only [State.routeFrame]; split <;> simp

@[simp] theorem State.routeFrame_fuses (s : State) (fr : LFrame) : (State.routeFrame s fr).fuses = s.fuses := by
  simp only [State.routeFrame]; split <;> simp

@[simp] theorem State.sendItem_pending (s : State) (dst : Nat) (i : LinkItem) : (State.sendItem s dst i).pending = s.pending := by
  simp [State.sendItem]

@[simp] theorem State.sendItem_fuses (s : State) (dst : Nat) (i : LinkItem) : (State.sendItem s dst i).fuses = s.fuses := by
  simp [State.sendItem]

@[simp] theorem State.castFrame_pending (s : State) (fr : LFrame) (but : Option Nat) : (State.castFrame s fr but).pending = s.pending := by
  simp [State.castFrame]

@[simp] theorem State.castFrame_fuses (s : State) (fr : LFrame) (but : Option Nat) : (State.castFrame s fr but).fuses = s.fuses := by
  simp [State.castFrame]

@[simp] theorem State.broadcast_pending (s : State) (i : LinkItem) : (State.broadcast s i).pending = s.pending := by
  simp [State.broadcast]

@[simp] theorem State.broadcast_fuses (s : State) (i : LinkItem) : (State.broadcast s i).fuses = s.fuses := by
  simp [State.broadcast]

@[simp] theorem State.dropRecords_pending (s : State) (p k : Nat) : (State.dropRecords s p k).pending = s.pending := by
  simp [State.dropRecords]

@[simp] theorem State.dropRecords_fuses (s : State) (p k : Nat) : (State.dropRecords s p k).fuses = s.fuses := by
  simp [State.dropRecords]

@[simp] theorem State.pushResult_pending (s : State) (p rec_ : Nat) : (State.pushResult s p rec_).pending = s.pending := by
  simp [State.pushResult]

@[simp] theorem State.pushResult_fuses (s : State) (p rec_ : Nat) : (State.pushResult s p rec_).fuses = s.fuses := by
  simp [State.pushResult]

@[simp] theorem State.finishCmd_pending (s : State) (f c code : Nat) (taint data : Bool) (aux res : Nat) : (State.finishCmd s f c code taint data aux res).pending = s.pending := by
  simp [State.finishCmd]

@[simp] theorem State.finishCmd_fuses (s : State) (f c code : Nat) (taint data : Bool) (aux res : Nat) : (State.finishCmd s f c code taint data aux res).fuses = s.fuses := by
  simp [State.finishCmd]

@[simp] theorem State.finishData_pending (s : State) (f c : Nat) (d : DataOut) : (State.finishData s f c d).pending = s.pending := by
  simp [State.finishData]

@[simp] theorem State.finishData_fuses (s : State) (f c : Nat) (d : DataOut) : (State.finishData s f c d).fuses = s.fuses := by
  simp [State.finishData]

@[simp] theorem State.flushCmd_pending (f : Nat) (s : State) (k : Cmd) : (State.flushCmd f s k).pending = s.pending := by
  simp only [State.flushCmd]; split <;> simp

@[simp] theorem State.flushCmd_fuses (f : Nat) (s : State) (k : Cmd) : (State.flushCmd f s k).fuses = s.fuses := by
  simp only [State.flushCmd]; split <;> simp

@[simp] theorem State.flushFlow_pending (s : State) (p : Nat × Flow) : (State.flushFlow s p).pending = s.pending := by
  exact State.foldl_pending _ (State.flushCmd p.1) s (fun u k => by simp)

@[simp] theorem State.flushFlow_fuses (s : State) (p : Nat × Flow) : (State.flushFlow s p).fuses = s.fuses := by
  exact State.foldl_fuses _ (State.flushCmd p.1) s (fun u k => by simp)

@[simp] theorem State.dataFlush_pending (s : State) : (State.dataFlush s).pending = s.pending := by
  unfold State.dataFlush
  split
  · exact State.foldl_pending _ State.flushFlow s (fun u p => by simp)
  · rfl

@[simp] theorem State.dataFlush_fuses (s : State) : (State.dataFlush s).fuses = s.fuses := by
  unfold State.dataFlush
  split
  · exact State.foldl_fuses _ State.flushFlow s (fun u p => by simp)
  · rfl

@[simp] theorem State.answer_pending (s : State) (src : Src) (code cyc res : Nat) : (State.answer s src code cyc res).pending = s.pending := by
  simp only [State.answer]; split <;> simp

@[simp] theorem State.answer_fuses (s : State) (src : Src) (code cyc res : Nat) : (State.answer s src code cyc res).fuses = s.fuses := by
  simp only [State.answer]; split <;> simp

@[simp] theorem State.alignVoid_pending (s : State) (n why : Nat) : (State.alignVoid s n why).pending = s.pending := by
  simp [State.alignVoid]

@[simp] theorem State.alignVoid_fuses (s : State) (n why : Nat) : (State.alignVoid s n why).fuses = s.fuses := by
  simp [State.alignVoid]

@[simp] theorem State.abortReq_pending (s : State) (bar off : Nat) (posted : Bool) : (State.abortReq s bar off posted).pending = s.pending := by
  simp [State.abortReq]

@[simp] theorem State.abortReq_fuses (s : State) (bar off : Nat) (posted : Bool) : (State.abortReq s bar off posted).fuses = s.fuses := by
  simp [State.abortReq]

end Sys2Proof.Machine
end

