-- ==== Sys2Proof/Laws/Kept/Access.lean ====
section
/-! SUPPORT. No operation of Machine/Access.lean touches the queue of commands or the fuses. -/

set_option Elab.async false

namespace Sys2Proof.Machine

@[simp] theorem State.missed_pending (s : State) (src : Source) (a : Nat) : (State.missed s src a).pending = s.pending := by
  simp [State.missed]

@[simp] theorem State.missed_fuses (s : State) (src : Source) (a : Nat) : (State.missed s src a).fuses = s.fuses := by
  simp [State.missed]

@[simp] theorem State.tap_pending (s : State) (ir : Nat) : (State.tap s ir).pending = s.pending := by
  simp [State.tap]

@[simp] theorem State.tap_fuses (s : State) (ir : Nat) : (State.tap s ir).fuses = s.fuses := by
  simp [State.tap]

@[simp] theorem State.tapRefuse_pending (s : State) : (State.tapRefuse s).pending = s.pending := by
  simp [State.tapRefuse]

@[simp] theorem State.tapRefuse_fuses (s : State) : (State.tapRefuse s).fuses = s.fuses := by
  simp [State.tapRefuse]

@[simp] theorem State.offAccess_pending (s : State) : (State.offAccess s).pending = s.pending := by
  simp [State.offAccess]

@[simp] theorem State.offAccess_fuses (s : State) : (State.offAccess s).fuses = s.fuses := by
  simp [State.offAccess]

@[simp] theorem State.refuseAccess_pending (s : State) (src : Source) (x : Access) (a : Nat) (wr : Bool) : (State.refuseAccess s src x a wr).pending = s.pending := by
  simp [State.refuseAccess]

@[simp] theorem State.refuseAccess_fuses (s : State) (src : Source) (x : Access) (a : Nat) (wr : Bool) : (State.refuseAccess s src x a wr).fuses = s.fuses := by
  simp [State.refuseAccess]

@[simp] theorem State.hostWait_pending (s : State) (q : HostReq) : (State.hostWait s q).pending = s.pending := by
  simp [State.hostWait]

@[simp] theorem State.hostWait_fuses (s : State) (q : HostReq) : (State.hostWait s q).fuses = s.fuses := by
  simp [State.hostWait]

@[simp] theorem State.rowAccess_pending (s : State) (src : Source) (a : Nat) (wr : Bool) (q : HostReq) (k : State → State) (hf : ∀ u, (k u).pending = u.pending) : (State.rowAccess s src a wr q k).pending = s.pending := by
  unfold State.rowAccess
  repeat' split
  all_goals simp [hf]

@[simp] theorem State.rowAccess_fuses (s : State) (src : Source) (a : Nat) (wr : Bool) (q : HostReq) (k : State → State) (hf : ∀ u, (k u).fuses = u.fuses) : (State.rowAccess s src a wr q k).fuses = s.fuses := by
  unfold State.rowAccess
  repeat' split
  all_goals simp [hf]

@[simp] theorem State.rowWrite_pending (s : State) (src : Source) (a : Nat) (w : Word) (k : State → State) (hf : ∀ u, (k u).pending = u.pending) : (State.rowWrite s src a w k).pending = s.pending := by
  simp [State.rowWrite, State.rowAccess_pending _ _ _ _ _ _ hf]

@[simp] theorem State.rowWrite_fuses (s : State) (src : Source) (a : Nat) (w : Word) (k : State → State) (hf : ∀ u, (k u).fuses = u.fuses) : (State.rowWrite s src a w k).fuses = s.fuses := by
  simp [State.rowWrite, State.rowAccess_fuses _ _ _ _ _ _ hf]

@[simp] theorem State.rowRead_pending (s : State) (src : Source) (a : Nat) (k : State → State) (hf : ∀ u, (k u).pending = u.pending) : (State.rowRead s src a k).pending = s.pending := by
  simp [State.rowRead, State.rowAccess_pending _ _ _ _ _ _ hf]

@[simp] theorem State.rowRead_fuses (s : State) (src : Source) (a : Nat) (k : State → State) (hf : ∀ u, (k u).fuses = u.fuses) : (State.rowRead s src a k).fuses = s.fuses := by
  simp [State.rowRead, State.rowAccess_fuses _ _ _ _ _ _ hf]

end Sys2Proof.Machine
end

