-- ==== Sys2Proof/Laws/Kept/Roots.lean ====
section
/-! SUPPORT. No operation of Machine/Roots.lean touches the queue of commands or the fuses. -/

set_option Elab.async false

namespace Sys2Proof.Machine

@[simp] theorem State.noteVar_pending (s : State) (n : Nat) : (State.noteVar s n).pending = s.pending := by
  simp [State.noteVar]

@[simp] theorem State.noteVar_fuses (s : State) (n : Nat) : (State.noteVar s n).fuses = s.fuses := by
  simp [State.noteVar]

@[simp] theorem State.commitWord_pending (s : State) (n : Nat) : (State.commitWord s n).pending = s.pending := by
  simp [State.commitWord]

@[simp] theorem State.commitWord_fuses (s : State) (n : Nat) : (State.commitWord s n).fuses = s.fuses := by
  simp [State.commitWord]

@[simp] theorem State.each_pending (s : State) (l : List Nat) (f : State → Nat → State) (hf : ∀ u x, (f u x).pending = u.pending) : (State.each s l f).pending = s.pending := by
  exact State.foldl_pending l f s hf

@[simp] theorem State.each_fuses (s : State) (l : List Nat) (f : State → Nat → State) (hf : ∀ u x, (f u x).fuses = u.fuses) : (State.each s l f).fuses = s.fuses := by
  exact State.foldl_fuses l f s hf

@[simp] theorem State.fit_pending (s : State) (r : Ref) (v : Nat) : (State.fit s r v).pending = s.pending := by
  simp [State.fit]

@[simp] theorem State.fit_fuses (s : State) (r : Ref) (v : Nat) : (State.fit s r v).fuses = s.fuses := by
  simp [State.fit]

@[simp] theorem State.refitChan_pending (s : State) (n sp sep : Nat) : (State.refitChan s n sp sep).pending = s.pending := by
  simp [State.refitChan]

@[simp] theorem State.refitChan_fuses (s : State) (n sp sep : Nat) : (State.refitChan s n sp sep).fuses = s.fuses := by
  simp [State.refitChan]

@[simp] theorem State.refitBank_pending (s : State) (n b : Nat) : (State.refitBank s n b).pending = s.pending := by
  simp [State.refitBank]

@[simp] theorem State.refitBank_fuses (s : State) (n b : Nat) : (State.refitBank s n b).fuses = s.fuses := by
  simp [State.refitBank]

@[simp] theorem State.refit_pending (s : State) (n : Nat) : (State.refit s n).pending = s.pending := by
  simp [State.refit]

@[simp] theorem State.refit_fuses (s : State) (n : Nat) : (State.refit s n).fuses = s.fuses := by
  simp [State.refit]

@[simp] theorem State.feedForward_pending (s : State) (n old : Nat) (pull : Bool) : (State.feedForward s n old pull).pending = s.pending := by
  simp [State.feedForward]

@[simp] theorem State.feedForward_fuses (s : State) (n old : Nat) (pull : Bool) : (State.feedForward s n old pull).fuses = s.fuses := by
  simp [State.feedForward]

@[simp] theorem State.phaseForward_pending (s : State) (n : Nat) : (State.phaseForward s n).pending = s.pending := by
  simp [State.phaseForward]

@[simp] theorem State.phaseForward_fuses (s : State) (n : Nat) : (State.phaseForward s n).fuses = s.fuses := by
  simp [State.phaseForward]

@[simp] theorem State.cfgErr_pending (s : State) (n why : Nat) : (State.cfgErr s n why).pending = s.pending := by
  simp [State.cfgErr]

@[simp] theorem State.cfgErr_fuses (s : State) (n why : Nat) : (State.cfgErr s n why).fuses = s.fuses := by
  simp [State.cfgErr]

@[simp] theorem State.tbslip_pending (s : State) (n : Nat) : (State.tbslip s n).pending = s.pending := by
  simp [State.tbslip]

@[simp] theorem State.tbslip_fuses (s : State) (n : Nat) : (State.tbslip s n).fuses = s.fuses := by
  simp [State.tbslip]

@[simp] theorem State.later_pending (s : State) (n : Nat) (e : Eff) : (State.later s n e).pending = s.pending := by
  simp [State.later]

@[simp] theorem State.later_fuses (s : State) (n : Nat) (e : Eff) : (State.later s n e).fuses = s.fuses := by
  simp [State.later]

@[simp] theorem State.lateri_pending (s : State) (n : Nat) (r : Ref) (v : Int) : (State.lateri s n r v).pending = s.pending := by
  simp [State.lateri]

@[simp] theorem State.lateri_fuses (s : State) (n : Nat) (r : Ref) (v : Int) : (State.lateri s n r v).fuses = s.fuses := by
  simp [State.lateri]

@[simp] theorem State.setSt_pending (s : State) (n st : Nat) : (State.setSt s n st).pending = s.pending := by
  simp [State.setSt]

@[simp] theorem State.setSt_fuses (s : State) (n st : Nat) : (State.setSt s n st).fuses = s.fuses := by
  simp [State.setSt]

@[simp] theorem State.setStNow_pending (s : State) (n st : Nat) : (State.setStNow s n st).pending = s.pending := by
  simp [State.setStNow]

@[simp] theorem State.setStNow_fuses (s : State) (n st : Nat) : (State.setStNow s n st).fuses = s.fuses := by
  simp [State.setStNow]

@[simp] theorem State.showIntr_pending (s : State) (n : Nat) : (State.showIntr s n).pending = s.pending := by
  simp [State.showIntr]

@[simp] theorem State.showIntr_fuses (s : State) (n : Nat) : (State.showIntr s n).fuses = s.fuses := by
  simp [State.showIntr]

@[simp] theorem State.routine_pending (s : State) (n code : Nat) : (State.routine s n code).pending = s.pending := by
  simp [State.routine]

@[simp] theorem State.routine_fuses (s : State) (n code : Nat) : (State.routine s n code).fuses = s.fuses := by
  simp [State.routine]

@[simp] theorem State.lastStep_pending (s : State) (n : Nat) : (State.lastStep s n).pending = s.pending := by
  simp [State.lastStep]

@[simp] theorem State.lastStep_fuses (s : State) (n : Nat) : (State.lastStep s n).fuses = s.fuses := by
  simp [State.lastStep]

@[simp] theorem State.routineEnd_pending (s : State) (n : Nat) : (State.routineEnd s n).pending = s.pending := by
  simp [State.routineEnd]

@[simp] theorem State.routineEnd_fuses (s : State) (n : Nat) : (State.routineEnd s n).fuses = s.fuses := by
  simp [State.routineEnd]

@[simp] theorem State.interrupt_pending (s : State) (n : Nat) : (State.interrupt s n).pending = s.pending := by
  simp [State.interrupt]

@[simp] theorem State.interrupt_fuses (s : State) (n : Nat) : (State.interrupt s n).fuses = s.fuses := by
  simp [State.interrupt]

@[simp] theorem State.enterSearch_pending (s : State) (n : Nat) : (State.enterSearch s n).pending = s.pending := by
  simp [State.enterSearch]

@[simp] theorem State.enterSearch_fuses (s : State) (n : Nat) : (State.enterSearch s n).fuses = s.fuses := by
  simp [State.enterSearch]

@[simp] theorem State.showPend_pending (s : State) (n : Nat) : (State.showPend s n).pending = s.pending := by
  simp only [State.showPend]; split <;> simp

@[simp] theorem State.showPend_fuses (s : State) (n : Nat) : (State.showPend s n).fuses = s.fuses := by
  simp only [State.showPend]; split <;> simp

@[simp] theorem State.hopResult_pending (s : State) (n : Nat) (q : HopReq) (result code : Nat) : (State.hopResult s n q result code).pending = s.pending := by
  simp [State.hopResult]

@[simp] theorem State.hopResult_fuses (s : State) (n : Nat) (q : HopReq) (result code : Nat) : (State.hopResult s n q result code).fuses = s.fuses := by
  simp [State.hopResult]

@[simp] theorem State.hopDone_pending (s : State) (n : Nat) (result : Nat) : (State.hopDone s n result).pending = s.pending := by
  simp only [State.hopDone]; split <;> simp

@[simp] theorem State.hopDone_fuses (s : State) (n : Nat) (result : Nat) : (State.hopDone s n result).fuses = s.fuses := by
  simp only [State.hopDone]; split <;> simp

@[simp] theorem State.pendHop_pending (s : State) (n : Nat) (old new : HopReq) : (State.pendHop s n old new).pending = s.pending := by
  simp [State.pendHop]

@[simp] theorem State.pendHop_fuses (s : State) (n : Nat) (old new : HopReq) : (State.pendHop s n old new).fuses = s.fuses := by
  simp [State.pendHop]

@[simp] theorem State.requestHop_pending (s : State) (n : Nat) (q : HopReq) : (State.requestHop s n q).pending = s.pending := by
  simp only [State.requestHop]; repeat' split
  all_goals simp

@[simp] theorem State.requestHop_fuses (s : State) (n : Nat) (q : HopReq) : (State.requestHop s n q).fuses = s.fuses := by
  simp only [State.requestHop]; repeat' split
  all_goals simp

@[simp] theorem State.unstartHop_pending (s : State) (n : Nat) : (State.unstartHop s n).pending = s.pending := by
  simp only [State.unstartHop]; repeat' split
  all_goals simp

@[simp] theorem State.unstartHop_fuses (s : State) (n : Nat) : (State.unstartHop s n).fuses = s.fuses := by
  simp only [State.unstartHop]; repeat' split
  all_goals simp

@[simp] theorem State.suspendRamp_pending (s : State) (n : Nat) : (State.suspendRamp s n).pending = s.pending := by
  simp [State.suspendRamp]

@[simp] theorem State.suspendRamp_fuses (s : State) (n : Nat) : (State.suspendRamp s n).fuses = s.fuses := by
  simp [State.suspendRamp]

@[simp] theorem State.capClock_pending (s : State) (b : Nat) (on : Bool) : (State.capClock s b on).pending = s.pending := by
  simp [State.capClock]

@[simp] theorem State.capClock_fuses (s : State) (b : Nat) (on : Bool) : (State.capClock s b on).fuses = s.fuses := by
  simp [State.capClock]

@[simp] theorem State.dllTo_pending (s : State) (code b : Nat) : (State.dllTo s code b).pending = s.pending := by
  simp [State.dllTo]

@[simp] theorem State.dllTo_fuses (s : State) (code b : Nat) : (State.dllTo s code b).fuses = s.fuses := by
  simp [State.dllTo]

@[simp] theorem State.enterOff_pending (s : State) (n : Nat) : (State.enterOff s n).pending = s.pending := by
  simp only [State.enterOff]; split <;> simp

@[simp] theorem State.enterOff_fuses (s : State) (n : Nat) : (State.enterOff s n).fuses = s.fuses := by
  simp only [State.enterOff]; split <;> simp

@[simp] theorem State.startOff_pending (s : State) (n : Nat) : (State.startOff s n).pending = s.pending := by
  simp [State.startOff]

@[simp] theorem State.startOff_fuses (s : State) (n : Nat) : (State.startOff s n).fuses = s.fuses := by
  simp [State.startOff]

@[simp] theorem State.takeOff_pending (s : State) (n : Nat) : (State.takeOff s n).pending = s.pending := by
  simp [State.takeOff]

@[simp] theorem State.takeOff_fuses (s : State) (n : Nat) : (State.takeOff s n).fuses = s.fuses := by
  simp [State.takeOff]

@[simp] theorem State.bwClamp_pending (s : State) (n : Nat) : (State.bwClamp s n).pending = s.pending := by
  simp [State.bwClamp]

@[simp] theorem State.bwClamp_fuses (s : State) (n : Nat) : (State.bwClamp s n).fuses = s.fuses := by
  simp [State.bwClamp]

@[simp] theorem State.rootEnable_pending (s : State) (n : Nat) : (State.rootEnable s n).pending = s.pending := by
  simp [State.rootEnable]

@[simp] theorem State.rootEnable_fuses (s : State) (n : Nat) : (State.rootEnable s n).fuses = s.fuses := by
  simp [State.rootEnable]

@[simp] theorem State.rootDisable_pending (s : State) (n : Nat) (idle : Nat → Bool) : (State.rootDisable s n idle).pending = s.pending := by
  simp only [State.rootDisable]; repeat' split
  all_goals simp

@[simp] theorem State.rootDisable_fuses (s : State) (n : Nat) (idle : Nat → Bool) : (State.rootDisable s n idle).fuses = s.fuses := by
  simp only [State.rootDisable]; repeat' split
  all_goals simp

@[simp] theorem State.relock_pending (s : State) (n : Nat) : (State.relock s n).pending = s.pending := by
  simp [State.relock]

@[simp] theorem State.relock_fuses (s : State) (n : Nat) : (State.relock s n).fuses = s.fuses := by
  simp [State.relock]

@[simp] theorem State.phclr_pending (s : State) (src : Source) (n : Nat) : (State.phclr s src n).pending = s.pending := by
  simp [State.phclr]

@[simp] theorem State.phclr_fuses (s : State) (src : Source) (n : Nat) : (State.phclr s src n).fuses = s.fuses := by
  simp [State.phclr]

@[simp] theorem State.synCtrlWrite_pending (s : State) (src : Source) (n : Nat) (w : Word) (idle : Nat → Bool) : (State.synCtrlWrite s src n w idle).pending = s.pending := by
  simp [State.synCtrlWrite]

@[simp] theorem State.synCtrlWrite_fuses (s : State) (src : Source) (n : Nat) (w : Word) (idle : Nat → Bool) : (State.synCtrlWrite s src n w idle).fuses = s.fuses := by
  simp [State.synCtrlWrite]

@[simp] theorem State.synRefWrite_pending (s : State) (n : Nat) (a : Nat) (w : Word) : (State.synRefWrite s n a w).pending = s.pending := by
  simp [State.synRefWrite]

@[simp] theorem State.synRefWrite_fuses (s : State) (n : Nat) (a : Nat) (w : Word) : (State.synRefWrite s n a w).fuses = s.fuses := by
  simp [State.synRefWrite]

@[simp] theorem State.synLoopWrite_pending (s : State) (n : Nat) (w : Word) : (State.synLoopWrite s n w).pending = s.pending := by
  simp [State.synLoopWrite]

@[simp] theorem State.synLoopWrite_fuses (s : State) (n : Nat) (w : Word) : (State.synLoopWrite s n w).fuses = s.fuses := by
  simp [State.synLoopWrite]

@[simp] theorem wakeDone_pending (s : State) (n : Nat) : (wakeDone s n).pending = s.pending := by
  simp [wakeDone]

@[simp] theorem wakeDone_fuses (s : State) (n : Nat) : (wakeDone s n).fuses = s.fuses := by
  simp [wakeDone]

@[simp] theorem State.setBand_pending (s : State) (n b : Nat) : (State.setBand s n b).pending = s.pending := by
  simp [State.setBand]

@[simp] theorem State.setBand_fuses (s : State) (n b : Nat) : (State.setBand s n b).fuses = s.fuses := by
  simp [State.setBand]

@[simp] theorem bandTrial_pending (s : State) (n edges : Nat) : (bandTrial s n edges).pending = s.pending := by
  simp [bandTrial]

@[simp] theorem bandTrial_fuses (s : State) (n edges : Nat) : (bandTrial s n edges).fuses = s.fuses := by
  simp [bandTrial]

@[simp] theorem State.enterLocked_pending (s : State) (n : Nat) : (State.enterLocked s n).pending = s.pending := by
  simp [State.enterLocked]

@[simp] theorem State.enterLocked_fuses (s : State) (n : Nat) : (State.enterLocked s n).fuses = s.fuses := by
  simp [State.enterLocked]

@[simp] theorem lockDeclared_pending (s : State) (n : Nat) : (lockDeclared s n).pending = s.pending := by
  simp only [lockDeclared]; split <;> simp

@[simp] theorem lockDeclared_fuses (s : State) (n : Nat) : (lockDeclared s n).fuses = s.fuses := by
  simp only [lockDeclared]; split <;> simp

@[simp] theorem State.lossEffects_pending (s : State) (n : Nat) : (State.lossEffects s n).pending = s.pending := by
  simp [State.lossEffects]

@[simp] theorem State.lossEffects_fuses (s : State) (n : Nat) : (State.lossEffects s n).fuses = s.fuses := by
  simp [State.lossEffects]

@[simp] theorem lossOfLock_pending (s : State) (n : Nat) : (lossOfLock s n).pending = s.pending := by
  simp [lossOfLock]

@[simp] theorem lossOfLock_fuses (s : State) (n : Nat) : (lossOfLock s n).fuses = s.fuses := by
  simp [lossOfLock]

@[simp] theorem State.applyEff_pending (n : Nat) (s : State) (x0 : Eff) : (State.applyEff n s x0).pending = s.pending := by
  simp only [State.applyEff]; split <;> simp

@[simp] theorem State.applyEff_fuses (n : Nat) (s : State) (x0 : Eff) : (State.applyEff n s x0).fuses = s.fuses := by
  simp only [State.applyEff]; split <;> simp

@[simp] theorem State.commitEff_pending (s : State) (n : Nat) : (State.commitEff s n).pending = s.pending := by
  simp [State.commitEff]

@[simp] theorem State.commitEff_fuses (s : State) (n : Nat) : (State.commitEff s n).fuses = s.fuses := by
  simp [State.commitEff]

@[simp] theorem lossUnderFault_pending (s : State) (n : Nat) : (lossUnderFault s n).pending = s.pending := by
  simp [lossUnderFault]

@[simp] theorem lossUnderFault_fuses (s : State) (n : Nat) : (lossUnderFault s n).fuses = s.fuses := by
  simp [lossUnderFault]

@[simp] theorem acquisitionTimeout_pending (s : State) (n : Nat) : (acquisitionTimeout s n).pending = s.pending := by
  simp [acquisitionTimeout]

@[simp] theorem acquisitionTimeout_fuses (s : State) (n : Nat) : (acquisitionTimeout s n).fuses = s.fuses := by
  simp [acquisitionTimeout]

@[simp] theorem State.refuseHop_pending (s : State) (n : Nat) (q : HopReq) (result code : Nat) : (State.refuseHop s n q result code).pending = s.pending := by
  simp [State.refuseHop]

@[simp] theorem State.refuseHop_fuses (s : State) (n : Nat) (q : HopReq) (result code : Nat) : (State.refuseHop s n q result code).fuses = s.fuses := by
  simp [State.refuseHop]

@[simp] theorem hopStart_pending (s0 : State) (n : Nat) (q : HopReq) : (hopStart s0 n q).pending = s0.pending := by
  simp only [hopStart]; repeat' split
  all_goals simp

@[simp] theorem hopStart_fuses (s0 : State) (n : Nat) (q : HopReq) : (hopStart s0 n q).fuses = s0.fuses := by
  simp only [hopStart]; repeat' split
  all_goals simp

@[simp] theorem hopSettled_pending (s : State) (n : Nat) : (hopSettled s n).pending = s.pending := by
  simp [hopSettled]

@[simp] theorem hopSettled_fuses (s : State) (n : Nat) : (hopSettled s n).fuses = s.fuses := by
  simp [hopSettled]

@[simp] theorem State.hopWrite_pending (s : State) (n : Nat) (w : Word) (src : Src) : (State.hopWrite s n w src).pending = s.pending := by
  simp [State.hopWrite]

@[simp] theorem State.hopWrite_fuses (s : State) (n : Nat) (w : Word) (src : Src) : (State.hopWrite s n w src).fuses = s.fuses := by
  simp [State.hopWrite]

@[simp] theorem State.phstepWrite_pending (s : State) (src : Source) (n : Nat) (w : Word) : (State.phstepWrite s src n w).pending = s.pending := by
  simp [State.phstepWrite]

@[simp] theorem State.phstepWrite_fuses (s : State) (src : Source) (n : Nat) (w : Word) : (State.phstepWrite s src n w).fuses = s.fuses := by
  simp [State.phstepWrite]

@[simp] theorem fpdModulator_pending (s : State) (n : Nat) : (fpdModulator s n).pending = s.pending := by
  simp [fpdModulator]

@[simp] theorem fpdModulator_fuses (s : State) (n : Nat) : (fpdModulator s n).fuses = s.fuses := by
  simp [fpdModulator]

@[simp] theorem fpdCounters_pending (s : State) (n : Nat) (e : Int) : (fpdCounters s n e).pending = s.pending := by
  simp [fpdCounters]

@[simp] theorem fpdCounters_fuses (s : State) (n : Nat) (e : Int) : (fpdCounters s n e).fuses = s.fuses := by
  simp [fpdCounters]

@[simp] theorem State.showAvg_pending (s : State) (n : Nat) : (State.showAvg s n).pending = s.pending := by
  simp [State.showAvg]

@[simp] theorem State.showAvg_fuses (s : State) (n : Nat) : (State.showAvg s n).fuses = s.fuses := by
  simp [State.showAvg]

@[simp] theorem fpdAverager_pending (s : State) (n : Nat) (corr : Int) : (fpdAverager s n corr).pending = s.pending := by
  simp [fpdAverager]

@[simp] theorem fpdAverager_fuses (s : State) (n : Nat) (corr : Int) : (fpdAverager s n corr).fuses = s.fuses := by
  simp [fpdAverager]

@[simp] theorem fpdSpread_pending (s : State) (n : Nat) : (fpdSpread s n).pending = s.pending := by
  simp only [fpdSpread]; split <;> simp

@[simp] theorem fpdSpread_fuses (s : State) (n : Nat) : (fpdSpread s n).fuses = s.fuses := by
  simp only [fpdSpread]; split <;> simp

@[simp] theorem State.phaseStep_pending (s : State) (n : Nat) (d : Int) : (State.phaseStep s n d).pending = s.pending := by
  simp [State.phaseStep]

@[simp] theorem State.phaseStep_fuses (s : State) (n : Nat) (d : Int) : (State.phaseStep s n d).fuses = s.fuses := by
  simp [State.phaseStep]

@[simp] theorem State.workoffCount_pending (s : State) (n : Nat) : (State.workoffCount s n).pending = s.pending := by
  simp [State.workoffCount]

@[simp] theorem State.workoffCount_fuses (s : State) (n : Nat) : (State.workoffCount s n).fuses = s.fuses := by
  simp [State.workoffCount]

@[simp] theorem State.workoffEnd_pending (s : State) (n : Nat) : (State.workoffEnd s n).pending = s.pending := by
  simp [State.workoffEnd]

@[simp] theorem State.workoffEnd_fuses (s : State) (n : Nat) : (State.workoffEnd s n).fuses = s.fuses := by
  simp [State.workoffEnd]

@[simp] theorem State.workoffMove_pending (s : State) (n : Nat) : (State.workoffMove s n).pending = s.pending := by
  simp [State.workoffMove]

@[simp] theorem State.workoffMove_fuses (s : State) (n : Nat) : (State.workoffMove s n).fuses = s.fuses := by
  simp [State.workoffMove]

@[simp] theorem fpdStepper_pending (s : State) (n : Nat) : (fpdStepper s n).pending = s.pending := by
  simp [fpdStepper]

@[simp] theorem fpdStepper_fuses (s : State) (n : Nat) : (fpdStepper s n).fuses = s.fuses := by
  simp [fpdStepper]

@[simp] theorem fpdRamp_pending (s : State) (n : Nat) : (fpdRamp s n).pending = s.pending := by
  simp only [fpdRamp]; split <;> simp

@[simp] theorem fpdRamp_fuses (s : State) (n : Nat) : (fpdRamp s n).fuses = s.fuses := by
  simp only [fpdRamp]; split <;> simp

@[simp] theorem fpdFine_pending (s : State) (n : Nat) (corr : Int) : (fpdFine s n corr).pending = s.pending := by
  simp [fpdFine]

@[simp] theorem fpdFine_fuses (s : State) (n : Nat) (corr : Int) : (fpdFine s n corr).fuses = s.fuses := by
  simp [fpdFine]

@[simp] theorem fpdCycle_pending (s : State) (n : Nat) (e : Option Int) (corr : Int) : (fpdCycle s n e corr).pending = s.pending := by
  simp only [fpdCycle]; repeat' split
  all_goals simp

@[simp] theorem fpdCycle_fuses (s : State) (n : Nat) (e : Option Int) (corr : Int) : (fpdCycle s n e corr).fuses = s.fuses := by
  simp only [fpdCycle]; repeat' split
  all_goals simp

end Sys2Proof.Machine
end

