-- ==== Sys2Proof/Laws/Kept/Channels.lean ====
section
/-! SUPPORT. No operation of Machine/Channels.lean touches the queue of commands or the fuses. -/

set_option Elab.async false

namespace Sys2Proof.Machine

@[simp] theorem State.tbTo_pending (s : State) (b t : Nat) : (State.tbTo s b t).pending = s.pending := by
  simp [State.tbTo]

@[simp] theorem State.tbTo_fuses (s : State) (b t : Nat) : (State.tbTo s b t).fuses = s.fuses := by
  simp [State.tbTo]

@[simp] theorem State.putCause_pending (s : State) (n c : Nat) (v : Bool) : (State.putCause s n c v).pending = s.pending := by
  simp [State.putCause]

@[simp] theorem State.putCause_fuses (s : State) (n c : Nat) (v : Bool) : (State.putCause s n c v).fuses = s.fuses := by
  simp [State.putCause]

@[simp] theorem State.modPark_pending (s : State) (n : Nat) (f : Park → Park) : (State.modPark s n f).pending = s.pending := by
  simp [State.modPark]

@[simp] theorem State.modPark_fuses (s : State) (n : Nat) (f : Park → Park) : (State.modPark s n f).fuses = s.fuses := by
  simp [State.modPark]

@[simp] theorem State.modSch_pending (s : State) (n : Nat) (f : Sched → Sched) : (State.modSch s n f).pending = s.pending := by
  simp [State.modSch]

@[simp] theorem State.modSch_fuses (s : State) (n : Nat) (f : Sched → Sched) : (State.modSch s n f).fuses = s.fuses := by
  simp [State.modSch]

@[simp] theorem State.modCyc_pending (s : State) (n : Nat) (f : Cyc → Cyc) : (State.modCyc s n f).pending = s.pending := by
  simp [State.modCyc]

@[simp] theorem State.modCyc_fuses (s : State) (n : Nat) (f : Cyc → Cyc) : (State.modCyc s n f).fuses = s.fuses := by
  simp [State.modCyc]

@[simp] theorem State.parkWant_pending (s : State) (n c : Nat) (d : Due) : (State.parkWant s n c d).pending = s.pending := by
  simp [State.parkWant]

@[simp] theorem State.parkWant_fuses (s : State) (n c : Nat) (d : Due) : (State.parkWant s n c d).fuses = s.fuses := by
  simp [State.parkWant]

@[simp] theorem State.leaveIfFree_pending (s : State) (n : Nat) (d : Due) : (State.leaveIfFree s n d).pending = s.pending := by
  simp [State.leaveIfFree]

@[simp] theorem State.leaveIfFree_fuses (s : State) (n : Nat) (d : Due) : (State.leaveIfFree s n d).fuses = s.fuses := by
  simp [State.leaveIfFree]

@[simp] theorem State.parkRelease_pending (s : State) (n c : Nat) : (State.parkRelease s n c).pending = s.pending := by
  simp [State.parkRelease]

@[simp] theorem State.parkRelease_fuses (s : State) (n c : Nat) : (State.parkRelease s n c).fuses = s.fuses := by
  simp [State.parkRelease]

@[simp] theorem State.parkReleaseAt_pending (s : State) (n c k : Nat) : (State.parkReleaseAt s n c k).pending = s.pending := by
  simp [State.parkReleaseAt]

@[simp] theorem State.parkReleaseAt_fuses (s : State) (n c k : Nat) : (State.parkReleaseAt s n c k).fuses = s.fuses := by
  simp [State.parkReleaseAt]

@[simp] theorem State.dropDue_pending (s : State) (n : Nat) (park : Bool) : (State.dropDue s n park).pending = s.pending := by
  simp [State.dropDue]

@[simp] theorem State.dropDue_fuses (s : State) (n : Nat) (park : Bool) : (State.dropDue s n park).fuses = s.fuses := by
  simp [State.dropDue]

@[simp] theorem State.showDsk_pending (s : State) (n : Nat) : (State.showDsk s n).pending = s.pending := by
  simp [State.showDsk]

@[simp] theorem State.showDsk_fuses (s : State) (n : Nat) : (State.showDsk s n).fuses = s.fuses := by
  simp [State.showDsk]

@[simp] theorem State.takeTarget_pending (s : State) (n : Nat) : (State.takeTarget s n).pending = s.pending := by
  simp [State.takeTarget]

@[simp] theorem State.takeTarget_fuses (s : State) (n : Nat) : (State.takeTarget s n).fuses = s.fuses := by
  simp [State.takeTarget]

@[simp] theorem State.stepBoundary_pending (s : State) (n : Nat) : (State.stepBoundary s n).pending = s.pending := by
  simp [State.stepBoundary]

@[simp] theorem State.stepBoundary_fuses (s : State) (n : Nat) : (State.stepBoundary s n).fuses = s.fuses := by
  simp [State.stepBoundary]

@[simp] theorem State.stepIdle_pending (s : State) (n : Nat) : (State.stepIdle s n).pending = s.pending := by
  simp [State.stepIdle]

@[simp] theorem State.stepIdle_fuses (s : State) (n : Nat) : (State.stepIdle s n).fuses = s.fuses := by
  simp [State.stepIdle]

@[simp] theorem State.slewStart_pending (s : State) (n : Nat) : (State.slewStart s n).pending = s.pending := by
  simp [State.slewStart]

@[simp] theorem State.slewStart_fuses (s : State) (n : Nat) : (State.slewStart s n).fuses = s.fuses := by
  simp [State.slewStart]

@[simp] theorem State.newDeskew_pending (s : State) (n : Nat) (busy : Bool) : (State.newDeskew s n busy).pending = s.pending := by
  simp [State.newDeskew]

@[simp] theorem State.newDeskew_fuses (s : State) (n : Nat) (busy : Bool) : (State.newDeskew s n busy).fuses = s.fuses := by
  simp [State.newDeskew]

@[simp] theorem State.deskewWrite_pending (s : State) (n : Nat) (w : Word) : (State.deskewWrite s n w).pending = s.pending := by
  simp [State.deskewWrite]

@[simp] theorem State.deskewWrite_fuses (s : State) (n : Nat) (w : Word) : (State.deskewWrite s n w).fuses = s.fuses := by
  simp [State.deskewWrite]

@[simp] theorem State.dskctrlWrite_pending (s : State) (n : Nat) (w : Word) : (State.dskctrlWrite s n w).pending = s.pending := by
  simp [State.dskctrlWrite]

@[simp] theorem State.dskctrlWrite_fuses (s : State) (n : Nat) (w : Word) : (State.dskctrlWrite s n w).fuses = s.fuses := by
  simp [State.dskctrlWrite]

@[simp] theorem slewStep_pending (s : State) (n : Nat) : (slewStep s n).pending = s.pending := by
  simp [slewStep]

@[simp] theorem slewStep_fuses (s : State) (n : Nat) : (slewStep s n).fuses = s.fuses := by
  simp [slewStep]

@[simp] theorem State.putTable_pending (s : State) (a : Nat) (l : List Nat) : (State.putTable s a l).pending = s.pending := by
  simp [State.putTable]

@[simp] theorem State.putTable_fuses (s : State) (a : Nat) (l : List Nat) : (State.putTable s a l).fuses = s.fuses := by
  simp [State.putTable]

@[simp] theorem State.dtcKeep_pending (s : State) (n : Nat) : (State.dtcKeep s n).pending = s.pending := by
  simp [State.dtcKeep]

@[simp] theorem State.dtcKeep_fuses (s : State) (n : Nat) : (State.dtcKeep s n).fuses = s.fuses := by
  simp [State.dtcKeep]

@[simp] theorem State.takeDtc_pending (s : State) (n : Nat) : (State.takeDtc s n).pending = s.pending := by
  simp [State.takeDtc]

@[simp] theorem State.takeDtc_fuses (s : State) (n : Nat) : (State.takeDtc s n).fuses = s.fuses := by
  simp [State.takeDtc]

@[simp] theorem State.dtcBoundary_pending (s : State) (n : Nat) : (State.dtcBoundary s n).pending = s.pending := by
  simp [State.dtcBoundary]

@[simp] theorem State.dtcBoundary_fuses (s : State) (n : Nat) : (State.dtcBoundary s n).fuses = s.fuses := by
  simp [State.dtcBoundary]

@[simp] theorem State.dtcIdle_pending (s : State) (n : Nat) : (State.dtcIdle s n).pending = s.pending := by
  simp [State.dtcIdle]

@[simp] theorem State.dtcIdle_fuses (s : State) (n : Nat) : (State.dtcIdle s n).fuses = s.fuses := by
  simp [State.dtcIdle]

@[simp] theorem State.dtcStart_pending (s : State) (n : Nat) : (State.dtcStart s n).pending = s.pending := by
  simp [State.dtcStart]

@[simp] theorem State.dtcStart_fuses (s : State) (n : Nat) : (State.dtcStart s n).fuses = s.fuses := by
  simp [State.dtcStart]

@[simp] theorem State.newDtc_pending (s : State) (n : Nat) (busy : Bool) : (State.newDtc s n busy).pending = s.pending := by
  simp [State.newDtc]

@[simp] theorem State.newDtc_fuses (s : State) (n : Nat) (busy : Bool) : (State.newDtc s n busy).fuses = s.fuses := by
  simp [State.newDtc]

@[simp] theorem dtcSlew_pending (s : State) (n : Nat) : (dtcSlew s n).pending = s.pending := by
  simp [dtcSlew]

@[simp] theorem dtcSlew_fuses (s : State) (n : Nat) : (dtcSlew s n).fuses = s.fuses := by
  simp [dtcSlew]

@[simp] theorem State.clip_pending (s : State) (n k kind : Nat) : (State.clip s n k kind).pending = s.pending := by
  simp [State.clip]

@[simp] theorem State.clip_fuses (s : State) (n k kind : Nat) : (State.clip s n k kind).fuses = s.fuses := by
  simp [State.clip]

@[simp] theorem State.bentRecord_pending (s : State) (n k detail : Nat) : (State.bentRecord s n k detail).pending = s.pending := by
  simp [State.bentRecord]

@[simp] theorem State.bentRecord_fuses (s : State) (n k detail : Nat) : (State.bentRecord s n k detail).fuses = s.fuses := by
  simp [State.bentRecord]

@[simp] theorem State.bend_pending (s : State) (n k : Nat) (detail : Nat) : (State.bend s n k detail).pending = s.pending := by
  simp [State.bend]

@[simp] theorem State.bend_fuses (s : State) (n k : Nat) (detail : Nat) : (State.bend s n k detail).fuses = s.fuses := by
  simp [State.bend]

@[simp] theorem State.restToggle_pending (s : State) (n line : Nat) (pt : Int) : (State.restToggle s n line pt).pending = s.pending := by
  simp [State.restToggle]

@[simp] theorem State.restToggle_fuses (s : State) (n line : Nat) (pt : Int) : (State.restToggle s n line pt).fuses = s.fuses := by
  simp [State.restToggle]

@[simp] theorem State.emitted_pending (s : State) (n : Nat) (p : Placed) : (State.emitted s n p).pending = s.pending := by
  simp only [State.emitted]; split <;> simp

@[simp] theorem State.emitted_fuses (s : State) (n : Nat) (p : Placed) : (State.emitted s n p).fuses = s.fuses := by
  simp only [State.emitted]; split <;> simp

@[simp] theorem State.parkLines_pending (s : State) (n : Nat) (pt : Int) (c : Nat) : (State.parkLines s n pt c).pending = s.pending := by
  simp only [State.parkLines, State.restToggle_pending]
  rw [State.foldl_pending _ _ _ (fun u p => by simp)]
  simp

@[simp] theorem State.parkLines_fuses (s : State) (n : Nat) (pt : Int) (c : Nat) : (State.parkLines s n pt c).fuses = s.fuses := by
  simp only [State.parkLines, State.restToggle_fuses]
  rw [State.foldl_fuses _ _ _ (fun u p => by simp)]
  simp

@[simp] theorem State.overrun_pending (s : State) (n : Nat) (e : Ev) : (State.overrun s n e).pending = s.pending := by
  simp only [State.overrun]; split <;> simp

@[simp] theorem State.overrun_fuses (s : State) (n : Nat) (e : Ev) : (State.overrun s n e).fuses = s.fuses := by
  simp only [State.overrun]; split <;> simp

@[simp] theorem State.scheduleHead_pending (s : State) (n : Nat) : (State.scheduleHead s n).pending = s.pending := by
  simp only [State.scheduleHead]; split <;> simp

@[simp] theorem State.scheduleHead_fuses (s : State) (n : Nat) : (State.scheduleHead s n).fuses = s.fuses := by
  simp only [State.scheduleHead]; split <;> simp

@[simp] theorem eventOutput_pending (s : State) (n : Nat) (p : Placed) : (eventOutput s n p).pending = s.pending := by
  simp [eventOutput]

@[simp] theorem eventOutput_fuses (s : State) (n : Nat) (p : Placed) : (eventOutput s n p).fuses = s.fuses := by
  simp [eventOutput]

@[simp] theorem State.errRecord_pending (s : State) (g code cyc count : Nat) : (State.errRecord s g code cyc count).pending = s.pending := by
  simp [State.errRecord]

@[simp] theorem State.errRecord_fuses (s : State) (g code cyc count : Nat) : (State.errRecord s g code cyc count).fuses = s.fuses := by
  simp [State.errRecord]

@[simp] theorem State.underrun_pending (s : State) (g n j : Nat) : (State.underrun s g n j).pending = s.pending := by
  simp [State.underrun]

@[simp] theorem State.underrun_fuses (s : State) (g n j : Nat) : (State.underrun s g n j).fuses = s.fuses := by
  simp [State.underrun]

@[simp] theorem State.coveredAt_pending (s : State) (g n j : Nat) : (State.coveredAt s g n j).pending = s.pending := by
  simp [State.coveredAt]

@[simp] theorem State.coveredAt_fuses (s : State) (g n j : Nat) : (State.coveredAt s g n j).fuses = s.fuses := by
  simp [State.coveredAt]

@[simp] theorem State.flushSelect_pending (s : State) (g : Nat) : (State.flushSelect s g).pending = s.pending := by
  simp [State.flushSelect]

@[simp] theorem State.flushSelect_fuses (s : State) (g : Nat) : (State.flushSelect s g).fuses = s.fuses := by
  simp [State.flushSelect]

@[simp] theorem State.stopRead_pending (s : State) (g n : Nat) : (State.stopRead s g n).pending = s.pending := by
  simp [State.stopRead]

@[simp] theorem State.stopRead_fuses (s : State) (g n : Nat) : (State.stopRead s g n).fuses = s.fuses := by
  simp [State.stopRead]

@[simp] theorem State.noteRead_pending (s : State) (g n j : Nat) (o : ReadOut) : (State.noteRead s g n j o).pending = s.pending := by
  simp [State.noteRead]

@[simp] theorem State.noteRead_fuses (s : State) (g n j : Nat) (o : ReadOut) : (State.noteRead s g n j o).fuses = s.fuses := by
  simp [State.noteRead]

@[simp] theorem State.freeEntries_pending (s : State) (g : Nat) : (State.freeEntries s g).pending = s.pending := by
  simp [State.freeEntries]

@[simp] theorem State.freeEntries_fuses (s : State) (g : Nat) : (State.freeEntries s g).fuses = s.fuses := by
  simp [State.freeEntries]

@[simp] theorem cycleStart_pending (s0 : State) (n : Nat) : (cycleStart s0 n).pending = s0.pending := by
  simp [cycleStart]

@[simp] theorem cycleStart_fuses (s0 : State) (n : Nat) : (cycleStart s0 n).fuses = s0.fuses := by
  simp [cycleStart]

@[simp] theorem State.commitAt_pending (s : State) (n k : Nat) (done : State → Nat → Nat → Src → State) (hf : ∀ u a b c, (done u a b c).pending = u.pending) : (State.commitAt s n k done).pending = s.pending := by
  unfold State.commitAt; dsimp only; repeat' split
  all_goals simp_all

@[simp] theorem State.commitAt_fuses (s : State) (n k : Nat) (done : State → Nat → Nat → Src → State) (hf : ∀ u a b c, (done u a b c).fuses = u.fuses) : (State.commitAt s n k done).fuses = s.fuses := by
  unfold State.commitAt; dsimp only; repeat' split
  all_goals simp_all

@[simp] theorem State.flushEvents_pending (s : State) (n : Nat) (x0 : Nat) : (State.flushEvents s n x0).pending = s.pending := by
  induction x0 generalizing s with
  | zero => rfl
  | succ k ih =>
    unfold State.flushEvents
    split
    · rfl
    · rw [ih]; simp

@[simp] theorem State.flushEvents_fuses (s : State) (n : Nat) (x0 : Nat) : (State.flushEvents s n x0).fuses = s.fuses := by
  induction x0 generalizing s with
  | zero => rfl
  | succ k ih =>
    unfold State.flushEvents
    split
    · rfl
    · rw [ih]; simp

@[simp] theorem State.parkAtCycle_pending (s : State) (n : Nat) : (State.parkAtCycle s n).pending = s.pending := by
  simp [State.parkAtCycle]

@[simp] theorem State.parkAtCycle_fuses (s : State) (n : Nat) : (State.parkAtCycle s n).fuses = s.fuses := by
  simp [State.parkAtCycle]

@[simp] theorem State.leaveLines_pending (s0 : State) (n : Nat) : (State.leaveLines s0 n).pending = s0.pending := by
  simp [State.leaveLines]

@[simp] theorem State.leaveLines_fuses (s0 : State) (n : Nat) : (State.leaveLines s0 n).fuses = s0.fuses := by
  simp [State.leaveLines]

@[simp] theorem State.takeReleases_pending (s : State) (n : Nat) : (State.takeReleases s n).pending = s.pending := by
  simp [State.takeReleases]

@[simp] theorem State.takeReleases_fuses (s : State) (n : Nat) : (State.takeReleases s n).fuses = s.fuses := by
  simp [State.takeReleases]

@[simp] theorem State.chCtrlWrite_pending (s : State) (n : Nat) (w : Word) : (State.chCtrlWrite s n w).pending = s.pending := by
  simp [State.chCtrlWrite]

@[simp] theorem State.chCtrlWrite_fuses (s : State) (n : Nat) (w : Word) : (State.chCtrlWrite s n w).fuses = s.fuses := by
  simp [State.chCtrlWrite]

@[simp] theorem State.pmCtrlWrite_pending (s : State) (n : Nat) (w : Word) : (State.pmCtrlWrite s n w).pending = s.pending := by
  simp [State.pmCtrlWrite]

@[simp] theorem State.pmCtrlWrite_fuses (s : State) (n : Nat) (w : Word) : (State.pmCtrlWrite s n w).fuses = s.fuses := by
  simp [State.pmCtrlWrite]

@[simp] theorem cycloRead_pending (s : State) (n : Nat) : (cycloRead s n).pending = s.pending := by
  simp [cycloRead]

@[simp] theorem cycloRead_fuses (s : State) (n : Nat) : (cycloRead s n).fuses = s.fuses := by
  simp [cycloRead]

end Sys2Proof.Machine
end

