-- ==== Sys2Proof/Laws/Kept/Store.lean ====
section
/-! SUPPORT. No operation of Machine/Store.lean touches the queue of commands or the fuses. -/

set_option Elab.async false

namespace Sys2Proof.Machine

@[simp] theorem State.putRecord_pending (s : State) (ch ctx : Nat) (d : Record) : (State.putRecord s ch ctx d).pending = s.pending := by
  simp [State.putRecord]

@[simp] theorem State.putRecord_fuses (s : State) (ch ctx : Nat) (d : Record) : (State.putRecord s ch ctx d).fuses = s.fuses := by
  simp [State.putRecord]

@[simp] theorem State.eccLast_pending (s : State) (b ue src ch ctx err : Nat) : (State.eccLast s b ue src ch ctx err).pending = s.pending := by
  simp [State.eccLast]

@[simp] theorem State.eccLast_fuses (s : State) (b ue src ch ctx err : Nat) : (State.eccLast s b ue src ch ctx err).fuses = s.fuses := by
  simp [State.eccLast]

@[simp] theorem State.readRecord_pending (s : State) (ch ctx src : Nat) : (State.readRecord s ch ctx src).1.pending = s.pending := by
  unfold State.readRecord; dsimp only; repeat' split
  all_goals simp_all

@[simp] theorem State.readRecord_fuses (s : State) (ch ctx src : Nat) : (State.readRecord s ch ctx src).1.fuses = s.fuses := by
  unfold State.readRecord; dsimp only; repeat' split
  all_goals simp_all

@[simp] theorem State.ctxue_pending (s : State) (ch ctx src : Nat) : (State.ctxue s ch ctx src).pending = s.pending := by
  simp [State.ctxue]

@[simp] theorem State.ctxue_fuses (s : State) (ch ctx src : Nat) : (State.ctxue s ch ctx src).fuses = s.fuses := by
  simp [State.ctxue]

@[simp] theorem State.readPosted_pending (s : State) (ch ctx src : Nat) : (State.readPosted s ch ctx src).1.pending = s.pending := by
  unfold State.readPosted; dsimp only; repeat' split
  all_goals simp_all

@[simp] theorem State.readPosted_fuses (s : State) (ch ctx src : Nat) : (State.readPosted s ch ctx src).1.fuses = s.fuses := by
  unfold State.readPosted; dsimp only; repeat' split
  all_goals simp_all

@[simp] theorem State.writePart_pending (s : State) (key i : Nat) (bytes : List Nat) : (State.writePart s key i bytes).pending = s.pending := by
  simp [State.writePart]

@[simp] theorem State.writePart_fuses (s : State) (key i : Nat) (bytes : List Nat) : (State.writePart s key i bytes).fuses = s.fuses := by
  simp [State.writePart]

@[simp] theorem State.windowWrite_pending (s : State) (off : Nat) (bytes : List Nat) (x0 : Nat) : (State.windowWrite s off bytes x0).pending = s.pending := by
  induction x0 generalizing s off bytes with
  | zero => rfl
  | succ f ih =>
    unfold State.windowWrite; dsimp only
    split
    · rfl
    · rw [ih]; simp

@[simp] theorem State.windowWrite_fuses (s : State) (off : Nat) (bytes : List Nat) (x0 : Nat) : (State.windowWrite s off bytes x0).fuses = s.fuses := by
  induction x0 generalizing s off bytes with
  | zero => rfl
  | succ f ih =>
    unfold State.windowWrite; dsimp only
    split
    · rfl
    · rw [ih]; simp

@[simp] theorem State.windowRead_pending (s : State) (off len : Nat) (x0 : Nat) : (State.windowRead s off len x0).1.pending = s.pending := by
  induction x0 generalizing s off len with
  | zero => rfl
  | succ f ih =>
    unfold State.windowRead; dsimp only
    split
    · rfl
    · dsimp only; rw [ih]; simp

@[simp] theorem State.windowRead_fuses (s : State) (off len : Nat) (x0 : Nat) : (State.windowRead s off len x0).1.fuses = s.fuses := by
  induction x0 generalizing s off len with
  | zero => rfl
  | succ f ih =>
    unfold State.windowRead; dsimp only
    split
    · rfl
    · dsimp only; rw [ih]; simp

@[simp] theorem State.answerRead_pending (s : State) (off len : Nat) : (State.answerRead s off len).pending = s.pending := by
  simp [State.answerRead]

@[simp] theorem State.answerRead_fuses (s : State) (off len : Nat) : (State.answerRead s off len).fuses = s.fuses := by
  simp [State.answerRead]

@[simp] theorem State.mbxWrite_pending (s : State) (f c ch first : Nat) (recs : List Record) : (State.mbxWrite s f c ch first recs).pending = s.pending := by
  simp [State.mbxWrite]

@[simp] theorem State.mbxWrite_fuses (s : State) (f c ch first : Nat) (recs : List Record) : (State.mbxWrite s f c ch first recs).fuses = s.fuses := by
  simp [State.mbxWrite]

@[simp] theorem State.mbxRead_pending (s : State) (f c ch first count buf : Nat) : (State.mbxRead s f c ch first count buf).pending = s.pending := by
  simp [State.mbxRead]

@[simp] theorem State.mbxRead_fuses (s : State) (f c ch first count buf : Nat) : (State.mbxRead s f c ch first count buf).fuses = s.fuses := by
  simp [State.mbxRead]

@[simp] theorem State.doHeld_pending (s : State) (x0 : Held) : (State.doHeld s x0).pending = s.pending := by
  simp only [State.doHeld]; split <;> simp

@[simp] theorem State.doHeld_fuses (s : State) (x0 : Held) : (State.doHeld s x0).fuses = s.fuses := by
  simp only [State.doHeld]; split <;> simp

@[simp] theorem State.storeAccess_pending (s : State) (b : Nat) (h : Held) : (State.storeAccess s b h).pending = s.pending := by
  simp [State.storeAccess]

@[simp] theorem State.storeAccess_fuses (s : State) (b : Nat) (h : Held) : (State.storeAccess s b h).fuses = s.fuses := by
  simp [State.storeAccess]

@[simp] theorem State.drainHub_pending (s : State) (b : Nat) (x0 : Nat) : (State.drainHub s b x0).pending = s.pending := by
  induction x0 generalizing s with
  | zero => rfl
  | succ k ih =>
    unfold State.drainHub
    split
    · rw [ih]; simp
    · rfl

@[simp] theorem State.drainHub_fuses (s : State) (b : Nat) (x0 : Nat) : (State.drainHub s b x0).fuses = s.fuses := by
  induction x0 generalizing s with
  | zero => rfl
  | succ k ih =>
    unfold State.drainHub
    split
    · rw [ih]; simp
    · rfl

@[simp] theorem contextWindowWrite_pending (s : State) (off : Nat) (bytes : List Nat) : (contextWindowWrite s off bytes).pending = s.pending := by
  simp [contextWindowWrite]

@[simp] theorem contextWindowWrite_fuses (s : State) (off : Nat) (bytes : List Nat) : (contextWindowWrite s off bytes).fuses = s.fuses := by
  simp [contextWindowWrite]

@[simp] theorem contextWindowRead_pending (s : State) (off len : Nat) : (contextWindowRead s off len).pending = s.pending := by
  simp [contextWindowRead]

@[simp] theorem contextWindowRead_fuses (s : State) (off len : Nat) : (contextWindowRead s off len).fuses = s.fuses := by
  simp [contextWindowRead]

@[simp] theorem scrubRow_pending (s : State) (b : Nat) : (scrubRow s b).pending = s.pending := by
  simp [scrubRow]

@[simp] theorem scrubRow_fuses (s : State) (b : Nat) : (scrubRow s b).fuses = s.fuses := by
  simp [scrubRow]

@[simp] theorem State.clearSlice_pending (s : State) (b : Nat) : (State.clearSlice s b).pending = s.pending := by
  simp [State.clearSlice]

@[simp] theorem State.clearSlice_fuses (s : State) (b : Nat) : (State.clearSlice s b).fuses = s.fuses := by
  simp [State.clearSlice]

@[simp] theorem wipeDone_pending (s : State) (b : Nat) : (wipeDone s b).pending = s.pending := by
  simp [wipeDone]

@[simp] theorem wipeDone_fuses (s : State) (b : Nat) : (wipeDone s b).fuses = s.fuses := by
  simp [wipeDone]

end Sys2Proof.Machine
end

