-- ==== Sys2Proof/Laws/Kept/Groups.lean ====
section
/-! SUPPORT. No operation of Machine/Groups.lean touches the queue of commands or the fuses. -/

set_option Elab.async false

namespace Sys2Proof.Machine

@[simp] theorem State.deliver_pending (s : State) (c : Comp) (taint : Bool) : (State.deliver s c taint).pending = s.pending := by
  simp only [State.deliver]; split <;> simp

@[simp] theorem State.deliver_fuses (s : State) (c : Comp) (taint : Bool) : (State.deliver s c taint).fuses = s.fuses := by
  simp only [State.deliver]; split <;> simp

@[simp] theorem State.noteRefusal_pending (s : State) (g code : Nat) : (State.noteRefusal s g code).pending = s.pending := by
  simp only [State.noteRefusal]; split <;> simp

@[simp] theorem State.noteRefusal_fuses (s : State) (g code : Nat) : (State.noteRefusal s g code).fuses = s.fuses := by
  simp only [State.noteRefusal]; split <;> simp

@[simp] theorem State.refuseAtSource_pending (s : State) (g : Nat) (src : Src) (code : Nat) : (State.refuseAtSource s g src code).pending = s.pending := by
  simp [State.refuseAtSource]

@[simp] theorem State.refuseAtSource_fuses (s : State) (g : Nat) (src : Src) (code : Nat) : (State.refuseAtSource s g src code).fuses = s.fuses := by
  simp [State.refuseAtSource]

@[simp] theorem State.stageCompAt_pending (s : State) (c : Comp) (time : Nat) : (State.stageCompAt s c time).pending = s.pending := by
  simp [State.stageCompAt]

@[simp] theorem State.stageCompAt_fuses (s : State) (c : Comp) (time : Nat) : (State.stageCompAt s c time).fuses = s.fuses := by
  simp [State.stageCompAt]

@[simp] theorem State.stageComp_pending (s : State) (c : Comp) : (State.stageComp s c).pending = s.pending := by
  simp [State.stageComp]

@[simp] theorem State.stageComp_fuses (s : State) (c : Comp) : (State.stageComp s c).fuses = s.fuses := by
  simp [State.stageComp]

@[simp] theorem State.issueTiming_pending (s : State) (g : Nat) (src : Src) (cmd : TCmd) : (State.issueTiming s g src cmd).pending = s.pending := by
  simp [State.issueTiming]

@[simp] theorem State.issueTiming_fuses (s : State) (g : Nat) (src : Src) (cmd : TCmd) : (State.issueTiming s g src cmd).fuses = s.fuses := by
  simp [State.issueTiming]

@[simp] theorem State.modOp_pending (s : State) (g id : Nat) (f : GOp → GOp) : (State.modOp s g id f).pending = s.pending := by
  simp [State.modOp]

@[simp] theorem State.modOp_fuses (s : State) (g id : Nat) (f : GOp → GOp) : (State.modOp s g id f).fuses = s.fuses := by
  simp [State.modOp]

@[simp] theorem State.cueReads_pending (s : State) (ns : List Nat) (ctx : Nat) : (State.cueReads s ns ctx).1.pending = s.pending := by
  refine State.foldl_fst_pending ns _ _ (fun u n => ?_)
  dsimp only
  split <;> simp

@[simp] theorem State.cueReads_fuses (s : State) (ns : List Nat) (ctx : Nat) : (State.cueReads s ns ctx).1.fuses = s.fuses := by
  refine State.foldl_fst_fuses ns _ _ (fun u n => ?_)
  dsimp only
  split <;> simp

@[simp] theorem State.takeCmd_pending (s : State) (b g id : Nat) : (State.takeCmd s b g id).pending = s.pending := by
  simp only [State.takeCmd]; repeat' split
  all_goals simp

@[simp] theorem State.takeCmd_fuses (s : State) (b g id : Nat) : (State.takeCmd s b g id).fuses = s.fuses := by
  simp only [State.takeCmd]; repeat' split
  all_goals simp

@[simp] theorem cueEngineTake_pending (s : State) (b g id : Nat) : (cueEngineTake s b g id).pending = s.pending := by
  simp only [cueEngineTake]; repeat' split
  all_goals simp

@[simp] theorem cueEngineTake_fuses (s : State) (b g id : Nat) : (cueEngineTake s b g id).fuses = s.fuses := by
  simp only [cueEngineTake]; repeat' split
  all_goals simp

@[simp] theorem State.cueVoid_pending (s : State) (n slot ctx : Nat) : (State.cueVoid s n slot ctx).pending = s.pending := by
  simp [State.cueVoid]

@[simp] theorem State.cueVoid_fuses (s : State) (n slot ctx : Nat) : (State.cueVoid s n slot ctx).fuses = s.fuses := by
  simp [State.cueVoid]

@[simp] theorem State.loadMember_pending (s : State) (n slot ctx : Nat) (d : Record) (void : Bool) (e : Option Nat) : (State.loadMember s n slot ctx d void e).pending = s.pending := by
  simp only [State.loadMember]; split <;> simp

@[simp] theorem State.loadMember_fuses (s : State) (n slot ctx : Nat) (d : Record) (void : Bool) (e : Option Nat) : (State.loadMember s n slot ctx d void e).fuses = s.fuses := by
  simp only [State.loadMember]; split <;> simp

@[simp] theorem cueCompletion_pending (s : State) (b : Nat) (j : CueJob) (op : GOp) : (cueCompletion s b j op).pending = s.pending := by
  unfold cueCompletion; repeat' split
  all_goals simp

@[simp] theorem cueCompletion_fuses (s : State) (b : Nat) (j : CueJob) (op : GOp) : (cueCompletion s b j op).fuses = s.fuses := by
  unfold cueCompletion; repeat' split
  all_goals simp

@[simp] theorem State.withdrawCommit_pending (s : State) (g : Nat) : (State.withdrawCommit s g).pending = s.pending := by
  simp only [State.withdrawCommit]; split <;> simp

@[simp] theorem State.withdrawCommit_fuses (s : State) (g : Nat) : (State.withdrawCommit s g).fuses = s.fuses := by
  simp only [State.withdrawCommit]; split <;> simp

@[simp] theorem State.stopAtCycle_pending (s : State) (g k : Nat) (detach : Bool) : (State.stopAtCycle s g k detach).pending = s.pending := by
  simp only [State.stopAtCycle]; split <;> simp

@[simp] theorem State.stopAtCycle_fuses (s : State) (g k : Nat) (detach : Bool) : (State.stopAtCycle s g k detach).fuses = s.fuses := by
  simp only [State.stopAtCycle]; split <;> simp

@[simp] theorem State.groupStopped_pending (s : State) (g : Nat) : (State.groupStopped s g).pending = s.pending := by
  simp [State.groupStopped]

@[simp] theorem State.groupStopped_fuses (s : State) (g : Nat) : (State.groupStopped s g).fuses = s.fuses := by
  simp [State.groupStopped]

@[simp] theorem State.memberStop_pending (s : State) (g n : Nat) : (State.memberStop s g n).pending = s.pending := by
  simp [State.memberStop]

@[simp] theorem State.memberStop_fuses (s : State) (g n : Nat) : (State.memberStop s g n).fuses = s.fuses := by
  simp [State.memberStop]

@[simp] theorem State.haltRecord_pending (s : State) (g c : Nat) (release : Bool) : (State.haltRecord s g c release).pending = s.pending := by
  simp [State.haltRecord]

@[simp] theorem State.haltRecord_fuses (s : State) (g c : Nat) (release : Bool) : (State.haltRecord s g c release).fuses = s.fuses := by
  simp [State.haltRecord]

@[simp] theorem State.haltAt_pending (s : State) (g c : Nat) : (State.haltAt s g c).pending = s.pending := by
  simp [State.haltAt]

@[simp] theorem State.haltAt_fuses (s : State) (g c : Nat) : (State.haltAt s g c).fuses = s.fuses := by
  simp [State.haltAt]

@[simp] theorem State.haltEnd_pending (s : State) (g c : Nat) : (State.haltEnd s g c).pending = s.pending := by
  simp [State.haltEnd]

@[simp] theorem State.haltEnd_fuses (s : State) (g c : Nat) : (State.haltEnd s g c).fuses = s.fuses := by
  simp [State.haltEnd]

@[simp] theorem State.haltStop_pending (s : State) (g n k : Nat) : (State.haltStop s g n k).pending = s.pending := by
  simp [State.haltStop]

@[simp] theorem State.haltStop_fuses (s : State) (g n k : Nat) : (State.haltStop s g n k).fuses = s.fuses := by
  simp [State.haltStop]

@[simp] theorem State.driveStop_pending (s : State) (n : Nat) : (State.driveStop s n).pending = s.pending := by
  simp [State.driveStop]

@[simp] theorem State.driveStop_fuses (s : State) (n : Nat) : (State.driveStop s n).fuses = s.fuses := by
  simp [State.driveStop]

@[simp] theorem parkCycle_pending (s : State) (n : Nat) : (parkCycle s n).pending = s.pending := by
  simp [parkCycle]

@[simp] theorem parkCycle_fuses (s : State) (n : Nat) : (parkCycle s n).fuses = s.fuses := by
  simp [parkCycle]

@[simp] theorem leavePark_pending (s : State) (n : Nat) : (leavePark s n).pending = s.pending := by
  simp [leavePark]

@[simp] theorem leavePark_fuses (s : State) (n : Nat) : (leavePark s n).fuses = s.fuses := by
  simp [leavePark]

@[simp] theorem State.decideCmd_pending (s : State) (g x : Nat) (op : GOp) : (s.decideCmd g x op).st.pending = s.pending := by
  unfold State.decideCmd
  repeat' split
  all_goals simp [State.decideStart, State.decideStop, State.decideCommit, State.decideCancel, refusedBy]
  all_goals repeat' split
  all_goals simp

@[simp] theorem groupDecision_pending (s : State) (g : Nat) (op : GOp) : (groupDecision s g op).pending = s.pending := by
  unfold groupDecision; dsimp only
  repeat' split
  all_goals simp

@[simp] theorem State.decideCmd_fuses (s : State) (g x : Nat) (op : GOp) : (s.decideCmd g x op).st.fuses = s.fuses := by
  unfold State.decideCmd
  repeat' split
  all_goals simp [State.decideStart, State.decideStop, State.decideCommit, State.decideCancel, refusedBy]
  all_goals repeat' split
  all_goals simp

@[simp] theorem groupDecision_fuses (s : State) (g : Nat) (op : GOp) : (groupDecision s g op).fuses = s.fuses := by
  unfold groupDecision; dsimp only
  repeat' split
  all_goals simp

@[simp] theorem State.memberStart_pending (s : State) (g t n : Nat) : (State.memberStart s g t n).pending = s.pending := by
  simp [State.memberStart]

@[simp] theorem State.memberStart_fuses (s : State) (g t n : Nat) : (State.memberStart s g t n).fuses = s.fuses := by
  simp [State.memberStart]

@[simp] theorem groupStart_pending (s : State) (g t : Nat) : (groupStart s g t).pending = s.pending := by
  simp [groupStart]

@[simp] theorem groupStart_fuses (s : State) (g t : Nat) : (groupStart s g t).fuses = s.fuses := by
  simp [groupStart]

@[simp] theorem State.grpWrite_pending (s : State) (n : Nat) (w : Word) : (State.grpWrite s n w).pending = s.pending := by
  simp [State.grpWrite]

@[simp] theorem State.grpWrite_fuses (s : State) (n : Nat) (w : Word) : (State.grpWrite s n w).fuses = s.fuses := by
  simp [State.grpWrite]

@[simp] theorem State.cuecfgWrite_pending (s : State) (g : Nat) (w : Word) : (State.cuecfgWrite s g w).pending = s.pending := by
  simp [State.cuecfgWrite]

@[simp] theorem State.cuecfgWrite_fuses (s : State) (g : Nat) (w : Word) : (State.cuecfgWrite s g w).fuses = s.fuses := by
  simp [State.cuecfgWrite]

end Sys2Proof.Machine
end

