-- ==== Sys2Proof/Laws/Kept/Banks.lean ====
section
/-! SUPPORT. No operation of Machine/Banks.lean touches the queue of commands or the fuses. -/

set_option Elab.async false

namespace Sys2Proof.Machine

@[simp] theorem State.cuectrlWrite_pending (s : State) (b : Nat) (w : Word) : (State.cuectrlWrite s b w).pending = s.pending := by
  simp [State.cuectrlWrite]

@[simp] theorem State.cuectrlWrite_fuses (s : State) (b : Nat) (w : Word) : (State.cuectrlWrite s b w).fuses = s.fuses := by
  simp [State.cuectrlWrite]

@[simp] theorem State.openTaint_pending (s : State) (b x : Nat) : (State.openTaint s b x).pending = s.pending := by
  simp [State.openTaint]

@[simp] theorem State.openTaint_fuses (s : State) (b x : Nat) : (State.openTaint s b x).fuses = s.fuses := by
  simp [State.openTaint]

@[simp] theorem State.haltLater_pending (s : State) (g n : Nat) : (State.haltLater s g n).pending = s.pending := by
  simp [State.haltLater]

@[simp] theorem State.haltLater_fuses (s : State) (g n : Nat) : (State.haltLater s g n).fuses = s.fuses := by
  simp [State.haltLater]

@[simp] theorem State.haltMembers_pending (s : State) (g b x : Nat) : (State.haltMembers s g b x).pending = s.pending := by
  simp [State.haltMembers]

@[simp] theorem State.haltMembers_fuses (s : State) (g b x : Nat) : (State.haltMembers s g b x).fuses = s.fuses := by
  simp [State.haltMembers]

@[simp] theorem State.haltPast_pending (s : State) (g : Nat) : (State.haltPast s g).pending = s.pending := by
  unfold State.haltPast
  split
  · rfl
  · split <;> simp

@[simp] theorem State.haltPast_fuses (s : State) (g : Nat) : (State.haltPast s g).fuses = s.fuses := by
  unfold State.haltPast
  split
  · rfl
  · split <;> simp

@[simp] theorem State.haltGroup_pending (s : State) (b x g : Nat) : (State.haltGroup s b x g).pending = s.pending := by
  simp [State.haltGroup]

@[simp] theorem State.haltGroup_fuses (s : State) (b x g : Nat) : (State.haltGroup s b x g).fuses = s.fuses := by
  simp [State.haltGroup]

@[simp] theorem taintOpen_pending (s : State) (b : Nat) : (taintOpen s b).pending = s.pending := by
  unfold taintOpen; repeat' split
  all_goals simp

@[simp] theorem taintOpen_fuses (s : State) (b : Nat) : (taintOpen s b).fuses = s.fuses := by
  unfold taintOpen; repeat' split
  all_goals simp

@[simp] theorem State.closeTaint_pending (s : State) (b x : Nat) : (State.closeTaint s b x).pending = s.pending := by
  simp [State.closeTaint]

@[simp] theorem State.closeTaint_fuses (s : State) (b x : Nat) : (State.closeTaint s b x).fuses = s.fuses := by
  simp [State.closeTaint]

@[simp] theorem State.changeRoot_pending (s : State) (b m : Nat) : (State.changeRoot s b m).pending = s.pending := by
  simp [State.changeRoot]

@[simp] theorem State.changeRoot_fuses (s : State) (b m : Nat) : (State.changeRoot s b m).fuses = s.fuses := by
  simp [State.changeRoot]

@[simp] theorem State.bnkRootWrite_pending (s : State) (b : Nat) (w : Word) : (State.bnkRootWrite s b w).pending = s.pending := by
  simp [State.bnkRootWrite]

@[simp] theorem State.bnkRootWrite_fuses (s : State) (b : Nat) (w : Word) : (State.bnkRootWrite s b w).fuses = s.fuses := by
  simp [State.bnkRootWrite]

@[simp] theorem dllSearchDone_pending (s : State) (b cw : Nat) : (dllSearchDone s b cw).pending = s.pending := by
  simp [dllSearchDone]

@[simp] theorem dllSearchDone_fuses (s : State) (b cw : Nat) : (dllSearchDone s b cw).fuses = s.fuses := by
  simp [dllSearchDone]

@[simp] theorem dllCount_pending (s : State) (b e : Nat) : (dllCount s b e).pending = s.pending := by
  simp [dllCount]

@[simp] theorem dllCount_fuses (s : State) (b e : Nat) : (dllCount s b e).fuses = s.fuses := by
  simp [dllCount]

@[simp] theorem dllWatch_pending (s : State) (b e : Nat) : (dllWatch s b e).pending = s.pending := by
  simp [dllWatch]

@[simp] theorem dllWatch_fuses (s : State) (b e : Nat) : (dllWatch s b e).fuses = s.fuses := by
  simp [dllWatch]

@[simp] theorem State.noteCw_pending (s : State) (b cw : Nat) : (State.noteCw s b cw).pending = s.pending := by
  simp [State.noteCw]

@[simp] theorem State.noteCw_fuses (s : State) (b cw : Nat) : (State.noteCw s b cw).fuses = s.fuses := by
  simp [State.noteCw]

@[simp] theorem State.ffDone_pending (s : State) (b : Nat) (e : Int) : (State.ffDone s b e).pending = s.pending := by
  simp [State.ffDone]

@[simp] theorem State.ffDone_fuses (s : State) (b : Nat) (e : Int) : (State.ffDone s b e).fuses = s.fuses := by
  simp [State.ffDone]

@[simp] theorem dllTimeout_pending (s : State) (b : Nat) : (dllTimeout s b).pending = s.pending := by
  simp [dllTimeout]

@[simp] theorem dllTimeout_fuses (s : State) (b : Nat) : (dllTimeout s b).fuses = s.fuses := by
  simp [dllTimeout]

@[simp] theorem haltNotice_pending (s : State) (g b x : Nat) : (haltNotice s g b x).pending = s.pending := by
  simp [haltNotice]

@[simp] theorem haltNotice_fuses (s : State) (g b x : Nat) : (haltNotice s g b x).fuses = s.fuses := by
  simp [haltNotice]

@[simp] theorem State.releaseHalt_pending (s : State) (g : Nat) : (State.releaseHalt s g).pending = s.pending := by
  simp only [State.releaseHalt]; repeat' split
  all_goals simp

@[simp] theorem State.releaseHalt_fuses (s : State) (g : Nat) : (State.releaseHalt s g).fuses = s.fuses := by
  simp only [State.releaseHalt]; repeat' split
  all_goals simp

@[simp] theorem State.haltWrite_pending (s : State) (g : Nat) (w : Word) : (State.haltWrite s g w).pending = s.pending := by
  simp [State.haltWrite]

@[simp] theorem State.haltWrite_fuses (s : State) (g : Nat) (w : Word) : (State.haltWrite s g w).fuses = s.fuses := by
  simp [State.haltWrite]

end Sys2Proof.Machine
end

