-- ==== Sys2Proof/Laws/Kept/Boundary.lean ====
section
/-! SUPPORT. No operation of Machine/Boundary.lean touches the queue of commands or the fuses. -/

set_option Elab.async false

namespace Sys2Proof.Machine

@[simp] theorem State.takeLoss_pending (s : State) (n : Nat) : (State.takeLoss s n).pending = s.pending := by
  simp [State.takeLoss]

@[simp] theorem State.takeLoss_fuses (s : State) (n : Nat) : (State.takeLoss s n).fuses = s.fuses := by
  simp [State.takeLoss]

@[simp] theorem State.takePrio_pending (s : State) (n : Nat) (q : HopReq) : (State.takePrio s n q).pending = s.pending := by
  simp only [State.takePrio]; split <;> simp

@[simp] theorem State.takePrio_fuses (s : State) (n : Nat) (q : HopReq) : (State.takePrio s n q).fuses = s.fuses := by
  simp only [State.takePrio]; split <;> simp

@[simp] theorem State.atBoundary_pending (s : State) (n : Nat) : (State.atBoundary s n).pending = s.pending := by
  simp only [State.atBoundary]; repeat' split
  all_goals simp

@[simp] theorem State.atBoundary_fuses (s : State) (n : Nat) : (State.atBoundary s n).fuses = s.fuses := by
  simp only [State.atBoundary]; repeat' split
  all_goals simp

end Sys2Proof.Machine
end

