-- ==== Sys2Proof/Laws/Kept/Profiles.lean ====
section
/-! SUPPORT. No operation of Machine/Profiles.lean touches the queue of commands or the fuses. -/

set_option Elab.async false

namespace Sys2Proof.Machine

@[simp] theorem State.rampEnd_pending (s : State) (n lastres : Nat) : (State.rampEnd s n lastres).pending = s.pending := by
  simp [State.rampEnd]

@[simp] theorem State.rampEnd_fuses (s : State) (n lastres : Nat) : (State.rampEnd s n lastres).fuses = s.fuses := by
  simp [State.rampEnd]

@[simp] theorem State.beginSeg_pending (s : State) (n i pass : Nat) (passes : Option Nat) : (State.beginSeg s n i pass passes).pending = s.pending := by
  simp [State.beginSeg]

@[simp] theorem State.beginSeg_fuses (s : State) (n i pass : Nat) (passes : Option Nat) : (State.beginSeg s n i pass passes).fuses = s.fuses := by
  simp [State.beginSeg]

@[simp] theorem State.dropSuspended_pending (s : State) (n : Nat) : (State.dropSuspended s n).pending = s.pending := by
  simp [State.dropSuspended]

@[simp] theorem State.dropSuspended_fuses (s : State) (n : Nat) : (State.dropSuspended s n).fuses = s.fuses := by
  simp [State.dropSuspended]

@[simp] theorem State.dropRamp_pending (s : State) (n : Nat) : (State.dropRamp s n).pending = s.pending := by
  simp [State.dropRamp]

@[simp] theorem State.dropRamp_fuses (s : State) (n : Nat) : (State.dropRamp s n).fuses = s.fuses := by
  simp [State.dropRamp]

@[simp] theorem State.beginRamp_pending (s : State) (n : Nat) (clap : Bool) : (State.beginRamp s n clap).pending = s.pending := by
  simp [State.beginRamp]

@[simp] theorem State.beginRamp_fuses (s : State) (n : Nat) (clap : Bool) : (State.beginRamp s n clap).fuses = s.fuses := by
  simp [State.beginRamp]

@[simp] theorem State.rampWaits_pending (s : State) (n : Nat) (q : RampReq) : (State.rampWaits s n q).pending = s.pending := by
  simp [State.rampWaits]

@[simp] theorem State.rampWaits_fuses (s : State) (n : Nat) (q : RampReq) : (State.rampWaits s n q).fuses = s.fuses := by
  simp [State.rampWaits]

@[simp] theorem State.startRamp_pending (s : State) (n : Nat) (clap : Bool) : (State.startRamp s n clap).1.pending = s.pending := by
  simp [State.startRamp]

@[simp] theorem State.startRamp_fuses (s : State) (n : Nat) (clap : Bool) : (State.startRamp s n clap).1.fuses = s.fuses := by
  simp [State.startRamp]

@[simp] theorem State.rampTrigger_pending (s : State) (n trig : Nat) : (State.rampTrigger s n trig).1.pending = s.pending := by
  simp [State.rampTrigger]

@[simp] theorem State.rampTrigger_fuses (s : State) (n trig : Nat) : (State.rampTrigger s n trig).1.fuses = s.fuses := by
  simp [State.rampTrigger]

@[simp] theorem State.rctrlWrite_pending (s : State) (n : Nat) (w : Word) : (State.rctrlWrite s n w).pending = s.pending := by
  simp [State.rctrlWrite]

@[simp] theorem State.rctrlWrite_fuses (s : State) (n : Nat) (w : Word) : (State.rctrlWrite s n w).fuses = s.fuses := by
  simp [State.rctrlWrite]

@[simp] theorem rampDwellEnd_pending (s : State) (n : Nat) (q : Ramp) : (rampDwellEnd s n q).pending = s.pending := by
  simp [rampDwellEnd]

@[simp] theorem rampDwellEnd_fuses (s : State) (n : Nat) (q : Ramp) : (rampDwellEnd s n q).fuses = s.fuses := by
  simp [rampDwellEnd]

@[simp] theorem State.segWrite_pending (s : State) (n k : Nat) (w : Word) : (State.segWrite s n k w).pending = s.pending := by
  simp [State.segWrite]

@[simp] theorem State.segWrite_fuses (s : State) (n k : Nat) (w : Word) : (State.segWrite s n k w).fuses = s.fuses := by
  simp [State.segWrite]

@[simp] theorem State.commitRamp_pending (s : State) (n : Nat) : (State.commitRamp s n).pending = s.pending := by
  simp only [State.commitRamp]; split <;> simp

@[simp] theorem State.commitRamp_fuses (s : State) (n : Nat) : (State.commitRamp s n).fuses = s.fuses := by
  simp only [State.commitRamp]; split <;> simp

@[simp] theorem State.continueRamp_pending (s : State) (n : Nat) : (State.continueRamp s n).pending = s.pending := by
  simp [State.continueRamp]

@[simp] theorem State.continueRamp_fuses (s : State) (n : Nat) : (State.continueRamp s n).fuses = s.fuses := by
  simp [State.continueRamp]

@[simp] theorem State.resumeRamp_pending (s : State) (n : Nat) : (State.resumeRamp s n).pending = s.pending := by
  simp [State.resumeRamp]

@[simp] theorem State.resumeRamp_fuses (s : State) (n : Nat) : (State.resumeRamp s n).fuses = s.fuses := by
  simp [State.resumeRamp]

@[simp] theorem State.rampTurn_pending (s : State) (n : Nat) : (State.rampTurn s n).pending = s.pending := by
  simp only [State.rampTurn]; repeat' split
  all_goals simp

@[simp] theorem State.rampTurn_fuses (s : State) (n : Nat) : (State.rampTurn s n).fuses = s.fuses := by
  simp only [State.rampTurn]; repeat' split
  all_goals simp

@[simp] theorem State.seqAbort_pending (s : State) (n : Nat) : (State.seqAbort s n).pending = s.pending := by
  simp [State.seqAbort]

@[simp] theorem State.seqAbort_fuses (s : State) (n : Nat) : (State.seqAbort s n).fuses = s.fuses := by
  simp [State.seqAbort]

@[simp] theorem State.seqCtrlWrite_pending (s : State) (n : Nat) (w : Word) : (State.seqCtrlWrite s n w).pending = s.pending := by
  simp [State.seqCtrlWrite]

@[simp] theorem State.seqCtrlWrite_fuses (s : State) (n : Nat) (w : Word) : (State.seqCtrlWrite s n w).fuses = s.fuses := by
  simp [State.seqCtrlWrite]

@[simp] theorem State.redepth_pending (s : State) (n : Nat) : (State.redepth s n).pending = s.pending := by
  simp [State.redepth]

@[simp] theorem State.redepth_fuses (s : State) (n : Nat) : (State.redepth s n).fuses = s.fuses := by
  simp [State.redepth]

@[simp] theorem State.spreadStep_pending (s : State) (n : Nat) : (State.spreadStep s n).pending = s.pending := by
  simp [State.spreadStep]

@[simp] theorem State.spreadStep_fuses (s : State) (n : Nat) : (State.spreadStep s n).fuses = s.fuses := by
  simp [State.spreadStep]

@[simp] theorem spreadBoundary_pending (s : State) (n : Nat) : (spreadBoundary s n).pending = s.pending := by
  simp only [spreadBoundary]; split <;> simp

@[simp] theorem spreadBoundary_fuses (s : State) (n : Nat) : (spreadBoundary s n).fuses = s.fuses := by
  simp only [spreadBoundary]; split <;> simp

@[simp] theorem State.spreadWrite_pending (s : State) (n a : Nat) (w : Word) : (State.spreadWrite s n a w).pending = s.pending := by
  simp [State.spreadWrite]

@[simp] theorem State.spreadWrite_fuses (s : State) (n a : Nat) (w : Word) : (State.spreadWrite s n a w).fuses = s.fuses := by
  simp [State.spreadWrite]

@[simp] theorem State.patchWrite_pending (s : State) (a : Nat) (w : Word) : (State.patchWrite s a w).pending = s.pending := by
  simp [State.patchWrite]

@[simp] theorem State.patchWrite_fuses (s : State) (a : Nat) (w : Word) : (State.patchWrite s a w).fuses = s.fuses := by
  simp [State.patchWrite]

end Sys2Proof.Machine
end

