-- ==== Sys2Proof/Laws/Kept/Reels.lean ====
section
/-! SUPPORT. No operation of Machine/Reels.lean touches the queue of commands or the fuses. -/

set_option Elab.async false

namespace Sys2Proof.Machine

@[simp] theorem State.appendWords_pending (s : State) (n take : Nat) (raw : Bool) (x0 : List (Nat × Bool)) : (State.appendWords s n take raw x0).pending = s.pending := by
  induction x0 generalizing s with
  | nil => rfl
  | cons a l ih =>
    obtain ⟨w, pay⟩ := a
    unfold State.appendWords; dsimp only
    rw [ih]; simp

@[simp] theorem State.appendWords_fuses (s : State) (n take : Nat) (raw : Bool) (x0 : List (Nat × Bool)) : (State.appendWords s n take raw x0).fuses = s.fuses := by
  induction x0 generalizing s with
  | nil => rfl
  | cons a l ih =>
    obtain ⟨w, pay⟩ := a
    unfold State.appendWords; dsimp only
    rw [ih]; simp

@[simp] theorem State.dropOldest_pending (s : State) (n take : Nat) : (State.dropOldest s n take).pending = s.pending := by
  simp [State.dropOldest]

@[simp] theorem State.dropOldest_fuses (s : State) (n take : Nat) : (State.dropOldest s n take).fuses = s.fuses := by
  simp [State.dropOldest]

@[simp] theorem State.putRecordWords_pending (s : State) (n take : Nat) (raw stamp : Bool) (ws : List (Nat × Bool)) : (State.putRecordWords s n take raw stamp ws).pending = s.pending := by
  simp [State.putRecordWords]

@[simp] theorem State.putRecordWords_fuses (s : State) (n take : Nat) (raw stamp : Bool) (ws : List (Nat × Bool)) : (State.putRecordWords s n take raw stamp ws).fuses = s.fuses := by
  simp [State.putRecordWords]

@[simp] theorem State.writeRecord_pending (s : State) (n take : Nat) (raw stamp : Bool) (ws : List (Nat × Bool)) : (State.writeRecord s n take raw stamp ws).1.pending = s.pending := by
  simp [State.writeRecord]

@[simp] theorem State.writeRecord_fuses (s : State) (n take : Nat) (raw stamp : Bool) (ws : List (Nat × Bool)) : (State.writeRecord s n take raw stamp ws).1.fuses = s.fuses := by
  simp [State.writeRecord]

@[simp] theorem State.rtailWrite_pending (s : State) (n : Nat) (w : Word) : (State.rtailWrite s n w).pending = s.pending := by
  simp [State.rtailWrite]

@[simp] theorem State.rtailWrite_fuses (s : State) (n : Nat) (w : Word) : (State.rtailWrite s n w).fuses = s.fuses := by
  simp [State.rtailWrite]

@[simp] theorem State.reelCtrlWrite_pending (s : State) (n : Nat) (w : Word) : (State.reelCtrlWrite s n w).pending = s.pending := by
  simp [State.reelCtrlWrite]

@[simp] theorem State.reelCtrlWrite_fuses (s : State) (n : Nat) (w : Word) : (State.reelCtrlWrite s n w).fuses = s.fuses := by
  simp [State.reelCtrlWrite]

@[simp] theorem State.takeJoinWrite_pending (s : State) (n : Nat) (w : Word) : (State.takeJoinWrite s n w).pending = s.pending := by
  simp [State.takeJoinWrite]

@[simp] theorem State.takeJoinWrite_fuses (s : State) (n : Nat) (w : Word) : (State.takeJoinWrite s n w).fuses = s.fuses := by
  simp [State.takeJoinWrite]

end Sys2Proof.Machine
end

