-- ==== Sys2Proof/Laws/Kept/Intervals.lean ====
section
/-! SUPPORT. No operation of Machine/Intervals.lean touches the queue of commands or the fuses. -/

set_option Elab.async false

namespace Sys2Proof.Machine

@[simp] theorem State.clearRegs_pending (s : State) (a k : Nat) : (State.clearRegs s a k).pending = s.pending := by
  simp [State.clearRegs]

@[simp] theorem State.clearRegs_fuses (s : State) (a k : Nat) : (State.clearRegs s a k).fuses = s.fuses := by
  simp [State.clearRegs]

@[simp] theorem State.ivArm1_pending (s : State) (chans : List Nat) (i : Nat) : (State.ivArm1 s chans i).pending = s.pending := by
  simp [State.ivArm1]

@[simp] theorem State.ivArm1_fuses (s : State) (chans : List Nat) (i : Nat) : (State.ivArm1 s chans i).fuses = s.fuses := by
  simp [State.ivArm1]

@[simp] theorem State.ivArm_pending (s : State) (t : Nat) (chans : List Nat) : (State.ivArm s t chans).pending = s.pending := by
  simp [State.ivArm]

@[simp] theorem State.ivArm_fuses (s : State) (t : Nat) (chans : List Nat) : (State.ivArm s t chans).fuses = s.fuses := by
  simp [State.ivArm]

@[simp] theorem State.put64_pending (s : State) (a v : Nat) : (State.put64 s a v).pending = s.pending := by
  simp [State.put64]

@[simp] theorem State.put64_fuses (s : State) (a v : Nat) : (State.put64 s a v).fuses = s.fuses := by
  simp [State.put64]

@[simp] theorem State.putWords_pending (s : State) (a v : Nat) (x0 : Nat) : (State.putWords s a v x0).pending = s.pending := by
  induction x0 generalizing s a v with
  | zero => rfl
  | succ k ih => unfold State.putWords; rw [ih]; simp

@[simp] theorem State.putWords_fuses (s : State) (a v : Nat) (x0 : Nat) : (State.putWords s a v x0).fuses = s.fuses := by
  induction x0 generalizing s a v with
  | zero => rfl
  | succ k ih => unfold State.putWords; rw [ih]; simp

@[simp] theorem State.ivStats_pending (s : State) (i : Nat) (x : Int) (taint : Bool) : (State.ivStats s i x taint).pending = s.pending := by
  simp [State.ivStats]

@[simp] theorem State.ivStats_fuses (s : State) (i : Nat) (x : Int) (taint : Bool) : (State.ivStats s i x taint).fuses = s.fuses := by
  simp [State.ivStats]

@[simp] theorem State.ivFifo_pending (s : State) (i w : Nat) : (State.ivFifo s i w).pending = s.pending := by
  simp [State.ivFifo]

@[simp] theorem State.ivFifo_fuses (s : State) (i w : Nat) : (State.ivFifo s i w).fuses = s.fuses := by
  simp [State.ivFifo]

@[simp] theorem State.ivPair_pending (s : State) (i : Nat) (a b : IvStamp) : (State.ivPair s i a b).pending = s.pending := by
  simp [State.ivPair]

@[simp] theorem State.ivPair_fuses (s : State) (i : Nat) (a b : IvStamp) : (State.ivPair s i a b).fuses = s.fuses := by
  simp [State.ivPair]

@[simp] theorem State.ivPush_pending (s : State) (i : Nat) (start : Bool) (x : IvStamp) : (State.ivPush s i start x).pending = s.pending := by
  simp [State.ivPush]

@[simp] theorem State.ivPush_fuses (s : State) (i : Nat) (start : Bool) (x : IvStamp) : (State.ivPush s i start x).fuses = s.fuses := by
  simp [State.ivPush]

@[simp] theorem State.ivStart_pending (s : State) (i : Nat) (x : IvStamp) : (State.ivStart s i x).pending = s.pending := by
  simp only [State.ivStart]; split <;> simp

@[simp] theorem State.ivStart_fuses (s : State) (i : Nat) (x : IvStamp) : (State.ivStart s i x).fuses = s.fuses := by
  simp only [State.ivStart]; split <;> simp

@[simp] theorem State.ivStop_pending (s : State) (i : Nat) (x : IvStamp) : (State.ivStop s i x).pending = s.pending := by
  simp only [State.ivStop]; split <;> simp

@[simp] theorem State.ivStop_fuses (s : State) (i : Nat) (x : IvStamp) : (State.ivStop s i x).fuses = s.fuses := by
  simp only [State.ivStop]; split <;> simp

@[simp] theorem State.ivIndex_pending (s : State) (i : Nat) (x : IvStamp) : (State.ivIndex s i x).pending = s.pending := by
  simp [State.ivIndex]

@[simp] theorem State.ivIndex_fuses (s : State) (i : Nat) (x : IvStamp) : (State.ivIndex s i x).fuses = s.fuses := by
  simp [State.ivIndex]

@[simp] theorem State.ivArmStart_pending (s : State) (i : Nat) (x : IvStamp) : (State.ivArmStart s i x).pending = s.pending := by
  simp only [State.ivArmStart]; split <;> simp

@[simp] theorem State.ivArmStart_fuses (s : State) (i : Nat) (x : IvStamp) : (State.ivArmStart s i x).fuses = s.fuses := by
  simp only [State.ivArmStart]; split <;> simp

@[simp] theorem State.ivTake_pending (s : State) (i : Nat) (x : IvStamp) : (State.ivTake s i x).pending = s.pending := by
  simp [State.ivTake]

@[simp] theorem State.ivTake_fuses (s : State) (i : Nat) (x : IvStamp) : (State.ivTake s i x).fuses = s.fuses := by
  simp [State.ivTake]

@[simp] theorem State.ivFeed1_pending (s : State) (t n : Nat) (x : Stamp) (taint lostb : Bool) (i : Nat) : (State.ivFeed1 s t n x taint lostb i).pending = s.pending := by
  simp [State.ivFeed1]

@[simp] theorem State.ivFeed1_fuses (s : State) (t n : Nat) (x : Stamp) (taint lostb : Bool) (i : Nat) : (State.ivFeed1 s t n x taint lostb i).fuses = s.fuses := by
  simp [State.ivFeed1]

@[simp] theorem State.ivRun_pending (s : State) (i : Nat) (lim : Option Int) : (State.ivRun s i lim).pending = s.pending := by
  simp [State.ivRun]

@[simp] theorem State.ivRun_fuses (s : State) (i : Nat) (lim : Option Int) : (State.ivRun s i lim).fuses = s.fuses := by
  simp [State.ivRun]

@[simp] theorem State.ivAdvance_pending (s : State) (t : Nat) : (State.ivAdvance s t).pending = s.pending := by
  simp [State.ivAdvance]

@[simp] theorem State.ivAdvance_fuses (s : State) (t : Nat) : (State.ivAdvance s t).fuses = s.fuses := by
  simp [State.ivAdvance]

@[simp] theorem State.ivFeed_pending (s : State) (t n : Nat) (x : Stamp) (taint lostb : Bool) : (State.ivFeed s t n x taint lostb).pending = s.pending := by
  simp [State.ivFeed]

@[simp] theorem State.ivFeed_fuses (s : State) (t n : Nat) (x : Stamp) (taint lostb : Bool) : (State.ivFeed s t n x taint lostb).fuses = s.fuses := by
  simp [State.ivFeed]

@[simp] theorem State.ivSolve_pending (s : State) (i : Nat) : (State.ivSolve s i).pending = s.pending := by
  simp [State.ivSolve]

@[simp] theorem State.ivSolve_fuses (s : State) (i : Nat) : (State.ivSolve s i).fuses = s.fuses := by
  simp [State.ivSolve]

@[simp] theorem State.ivDone1_pending (s : State) (tstop : Option Int) (i : Nat) : (State.ivDone1 s tstop i).pending = s.pending := by
  simp [State.ivDone1]

@[simp] theorem State.ivDone1_fuses (s : State) (tstop : Option Int) (i : Nat) : (State.ivDone1 s tstop i).fuses = s.fuses := by
  simp [State.ivDone1]

@[simp] theorem State.ivDone_pending (s : State) (t : Nat) (tstop : Option Int) : (State.ivDone s t tstop).pending = s.pending := by
  simp [State.ivDone]

@[simp] theorem State.ivDone_fuses (s : State) (t : Nat) (tstop : Option Int) : (State.ivDone s t tstop).fuses = s.fuses := by
  simp [State.ivDone]

@[simp] theorem fifoloRead_pending (s : State) (i : Nat) : (fifoloRead s i).pending = s.pending := by
  simp only [fifoloRead]; split <;> simp

@[simp] theorem fifoloRead_fuses (s : State) (i : Nat) : (fifoloRead s i).fuses = s.fuses := by
  simp only [fifoloRead]; split <;> simp

@[simp] theorem fifohiRead_pending (s : State) (i : Nat) : (fifohiRead s i).pending = s.pending := by
  simp only [fifohiRead]; split <;> simp

@[simp] theorem fifohiRead_fuses (s : State) (i : Nat) : (fifohiRead s i).fuses = s.fuses := by
  simp only [fifohiRead]; split <;> simp

@[simp] theorem State.ivCfgWrite_pending (s : State) (i a : Nat) (w : Word) : (State.ivCfgWrite s i a w).pending = s.pending := by
  simp [State.ivCfgWrite]

@[simp] theorem State.ivCfgWrite_fuses (s : State) (i a : Nat) (w : Word) : (State.ivCfgWrite s i a w).fuses = s.fuses := by
  simp [State.ivCfgWrite]

@[simp] theorem State.rgArm_pending (s : State) (n : Nat) : (State.rgArm s n).pending = s.pending := by
  simp [State.rgArm]

@[simp] theorem State.rgArm_fuses (s : State) (n : Nat) : (State.rgArm s n).fuses = s.fuses := by
  simp [State.rgArm]

@[simp] theorem State.rgAdd_pending (s : State) (n : Nat) (t : Int) (taint lostb : Bool) : (State.rgAdd s n t taint lostb).pending = s.pending := by
  simp [State.rgAdd]

@[simp] theorem State.rgAdd_fuses (s : State) (n : Nat) (t : Int) (taint lostb : Bool) : (State.rgAdd s n t taint lostb).fuses = s.fuses := by
  simp [State.rgAdd]

@[simp] theorem State.rgCfgWrite_pending (s : State) (n a : Nat) (w : Word) : (State.rgCfgWrite s n a w).pending = s.pending := by
  simp [State.rgCfgWrite]

@[simp] theorem State.rgCfgWrite_fuses (s : State) (n a : Nat) (w : Word) : (State.rgCfgWrite s n a w).fuses = s.fuses := by
  simp [State.rgCfgWrite]

@[simp] theorem State.rgDone_pending (s : State) (t n : Nat) : (State.rgDone s t n).pending = s.pending := by
  simp [State.rgDone]

@[simp] theorem State.rgDone_fuses (s : State) (t n : Nat) : (State.rgDone s t n).fuses = s.fuses := by
  simp [State.rgDone]

@[simp] theorem State.rgSolve_pending (s : State) (n : Nat) : (State.rgSolve s n).pending = s.pending := by
  simp [State.rgSolve]

@[simp] theorem State.rgSolve_fuses (s : State) (n : Nat) : (State.rgSolve s n).fuses = s.fuses := by
  simp [State.rgSolve]

@[simp] theorem regressionSolve_pending (s : State) (n : Nat) (rest : List Nat) : (regressionSolve s n rest).pending = s.pending := by
  simp [regressionSolve]

@[simp] theorem regressionSolve_fuses (s : State) (n : Nat) (rest : List Nat) : (regressionSolve s n rest).fuses = s.fuses := by
  simp [regressionSolve]

@[simp] theorem State.regSelWrite_pending (s : State) (w : Word) : (State.regSelWrite s w).pending = s.pending := by
  simp [State.regSelWrite]

@[simp] theorem State.regSelWrite_fuses (s : State) (w : Word) : (State.regSelWrite s w).fuses = s.fuses := by
  simp [State.regSelWrite]

end Sys2Proof.Machine
end

