-- ==== Sys2Proof/Laws/Kept/Takes.lean ====
section
/-! SUPPORT. No operation of Machine/Takes.lean touches the queue of commands or the fuses. -/

set_option Elab.async false

namespace Sys2Proof.Machine

@[simp] theorem State.putT60_pending (s : State) (lo hi : Ref) (t : Option Int) : (State.putT60 s lo hi t).pending = s.pending := by
  simp [State.putT60]

@[simp] theorem State.putT60_fuses (s : State) (lo hi : Ref) (t : Option Int) : (State.putT60 s lo hi t).fuses = s.fuses := by
  simp [State.putT60]

@[simp] theorem State.armChan_pending (s : State) (n : Nat) : (State.armChan s n).pending = s.pending := by
  simp [State.armChan]

@[simp] theorem State.armChan_fuses (s : State) (n : Nat) : (State.armChan s n).fuses = s.fuses := by
  simp [State.armChan]

@[simp] theorem State.armTake_pending (s : State) (t : Nat) (req : ArmReq) : (State.armTake s t req).pending = s.pending := by
  simp [State.armTake]

@[simp] theorem State.armTake_fuses (s : State) (t : Nat) (req : ArmReq) : (State.armTake s t req).fuses = s.fuses := by
  simp [State.armTake]

@[simp] theorem State.armAnswer_pending (s : State) (t : Nat) (req : ArmReq) (code : Nat) : (State.armAnswer s t req code).pending = s.pending := by
  simp only [State.armAnswer]; split <;> simp

@[simp] theorem State.armAnswer_fuses (s : State) (t : Nat) (req : ArmReq) (code : Nat) : (State.armAnswer s t req code).fuses = s.fuses := by
  simp only [State.armAnswer]; split <;> simp

@[simp] theorem State.refuseArm_pending (s : State) (t : Nat) (req : ArmReq) (code : Nat) : (State.refuseArm s t req code).pending = s.pending := by
  simp [State.refuseArm]

@[simp] theorem State.refuseArm_fuses (s : State) (t : Nat) (req : ArmReq) (code : Nat) : (State.refuseArm s t req code).fuses = s.fuses := by
  simp [State.refuseArm]

@[simp] theorem State.tryArm_pending (s : State) (t : Nat) (req : ArmReq) : (State.tryArm s t req).pending = s.pending := by
  simp [State.tryArm]

@[simp] theorem State.tryArm_fuses (s : State) (t : Nat) (req : ArmReq) : (State.tryArm s t req).fuses = s.fuses := by
  simp [State.tryArm]

@[simp] theorem State.requestArm_pending (s : State) (t : Nat) (req : ArmReq) : (State.requestArm s t req).pending = s.pending := by
  simp [State.requestArm]

@[simp] theorem State.requestArm_fuses (s : State) (t : Nat) (req : ArmReq) : (State.requestArm s t req).fuses = s.fuses := by
  simp [State.requestArm]

@[simp] theorem State.takeWaiters_pending (s : State) (t : Nat) (k : Take) : (State.takeWaiters s t k).pending = s.pending := by
  simp only [State.takeWaiters]; split <;> simp

@[simp] theorem State.takeWaiters_fuses (s : State) (t : Nat) (k : Take) : (State.takeWaiters s t k).fuses = s.fuses := by
  simp only [State.takeWaiters]; split <;> simp

@[simp] theorem State.markLast_pending (s : State) (t n : Nat) : (State.markLast s t n).pending = s.pending := by
  simp [State.markLast]

@[simp] theorem State.markLast_fuses (s : State) (t n : Nat) : (State.markLast s t n).fuses = s.fuses := by
  simp [State.markLast]

@[simp] theorem State.flushMerge_pending (s : State) (t : Nat) : (State.flushMerge s t).pending = s.pending := by
  simp only [State.flushMerge, State.modTake_eq, State.setTake_pending]
  refine State.foldl_pending _ _ s (fun u p => ?_)
  split <;> simp

@[simp] theorem State.flushMerge_fuses (s : State) (t : Nat) : (State.flushMerge s t).fuses = s.fuses := by
  simp only [State.flushMerge, State.modTake_eq, State.setTake_fuses]
  refine State.foldl_fuses _ _ s (fun u p => ?_)
  split <;> simp

@[simp] theorem State.leaveSlates_pending (s : State) (t : Nat) : (State.leaveSlates s t).pending = s.pending := by
  simp [State.leaveSlates]

@[simp] theorem State.leaveSlates_fuses (s : State) (t : Nat) : (State.leaveSlates s t).fuses = s.fuses := by
  simp [State.leaveSlates]

@[simp] theorem State.chanDone_pending (s : State) (t n : Nat) : (State.chanDone s t n).pending = s.pending := by
  simp [State.chanDone]

@[simp] theorem State.chanDone_fuses (s : State) (t n : Nat) : (State.chanDone s t n).fuses = s.fuses := by
  simp [State.chanDone]

@[simp] theorem State.dropHeld_pending (s : State) (t : Nat) : (State.dropHeld s t).pending = s.pending := by
  simp only [State.dropHeld]; split <;> simp

@[simp] theorem State.dropHeld_fuses (s : State) (t : Nat) : (State.dropHeld s t).fuses = s.fuses := by
  simp only [State.dropHeld]; split <;> simp

@[simp] theorem State.takeDone_pending (s0 : State) (t : Nat) : (State.takeDone s0 t).pending = s0.pending := by
  simp only [State.takeDone]; split <;> simp

@[simp] theorem State.takeDone_fuses (s0 : State) (t : Nat) : (State.takeDone s0 t).fuses = s0.fuses := by
  simp only [State.takeDone]; split <;> simp

@[simp] theorem State.takeCloseEarly_pending (s : State) (t code : Nat) : (State.takeCloseEarly s t code).pending = s.pending := by
  simp [State.takeCloseEarly]

@[simp] theorem State.takeCloseEarly_fuses (s : State) (t code : Nat) : (State.takeCloseEarly s t code).fuses = s.fuses := by
  simp [State.takeCloseEarly]

@[simp] theorem State.setStop_pending (s : State) (t : Nat) (v : Int) : (State.setStop s t v).pending = s.pending := by
  simp [State.setStop]

@[simp] theorem State.setStop_fuses (s : State) (t : Nat) (v : Int) : (State.setStop s t v).fuses = s.fuses := by
  simp [State.setStop]

@[simp] theorem State.takeStop_pending (s : State) (t : Nat) : (State.takeStop s t).pending = s.pending := by
  simp [State.takeStop]

@[simp] theorem State.takeStop_fuses (s : State) (t : Nat) : (State.takeStop s t).fuses = s.fuses := by
  simp [State.takeStop]

@[simp] theorem State.takeForce_pending (s : State) (t code : Nat) : (State.takeForce s t code).pending = s.pending := by
  simp [State.takeForce]

@[simp] theorem State.takeForce_fuses (s : State) (t code : Nat) : (State.takeForce s t code).fuses = s.fuses := by
  simp [State.takeForce]

@[simp] theorem State.takeExpire_pending (s : State) (t : Nat) : (State.takeExpire s t).pending = s.pending := by
  simp [State.takeExpire]

@[simp] theorem State.takeExpire_fuses (s : State) (t : Nat) : (State.takeExpire s t).fuses = s.fuses := by
  simp [State.takeExpire]

@[simp] theorem State.takeAbort_pending (s : State) (t : Nat) : (State.takeAbort s t).pending = s.pending := by
  simp [State.takeAbort]

@[simp] theorem State.takeAbort_fuses (s : State) (t : Nat) : (State.takeAbort s t).fuses = s.fuses := by
  simp [State.takeAbort]

@[simp] theorem State.setStart_pending (s : State) (t : Nat) (v : Int) (late : Bool) : (State.setStart s t v late).pending = s.pending := by
  simp only [State.setStart]; repeat' split
  all_goals simp

@[simp] theorem State.setStart_fuses (s : State) (t : Nat) (v : Int) (late : Bool) : (State.setStart s t v late).fuses = s.fuses := by
  simp only [State.setStart]; repeat' split
  all_goals simp

@[simp] theorem State.resolveStart_pending (s : State) (t : Nat) : (State.resolveStart s t).pending = s.pending := by
  simp only [State.resolveStart]; repeat' split
  all_goals simp

@[simp] theorem State.resolveStart_fuses (s : State) (t : Nat) : (State.resolveStart s t).fuses = s.fuses := by
  simp only [State.resolveStart]; repeat' split
  all_goals simp

@[simp] theorem State.startCmd_pending (s : State) (t p g tag kk : Nat) : (State.startCmd s t p g tag kk).pending = s.pending := by
  simp [State.startCmd]

@[simp] theorem State.startCmd_fuses (s : State) (t p g tag kk : Nat) : (State.startCmd s t p g tag kk).fuses = s.fuses := by
  simp [State.startCmd]

@[simp] theorem State.takeArmed_pending (s : State) (t : Nat) : (State.takeArmed s t).pending = s.pending := by
  simp [State.takeArmed]

@[simp] theorem State.takeArmed_fuses (s : State) (t : Nat) : (State.takeArmed s t).fuses = s.fuses := by
  simp [State.takeArmed]

@[simp] theorem State.resolveStarts_pending (s : State) : (State.resolveStarts s).pending = s.pending := by
  simp [State.resolveStarts]

@[simp] theorem State.resolveStarts_fuses (s : State) : (State.resolveStarts s).fuses = s.fuses := by
  simp [State.resolveStarts]

@[simp] theorem State.noteEpoch_pending (s : State) (g : Nat) (time : Int) : (State.noteEpoch s g time).pending = s.pending := by
  simp [State.noteEpoch]

@[simp] theorem State.noteEpoch_fuses (s : State) (g : Nat) (time : Int) : (State.noteEpoch s g time).fuses = s.fuses := by
  simp [State.noteEpoch]

@[simp] theorem State.tkCtrlWrite_pending (s : State) (t : Nat) (w : Word) : (State.tkCtrlWrite s t w).pending = s.pending := by
  simp [State.tkCtrlWrite]

@[simp] theorem State.tkCtrlWrite_fuses (s : State) (t : Nat) (w : Word) : (State.tkCtrlWrite s t w).fuses = s.fuses := by
  simp [State.tkCtrlWrite]

@[simp] theorem State.tkCfgWrite_pending (s : State) (t a : Nat) (w : Word) : (State.tkCfgWrite s t a w).pending = s.pending := by
  simp [State.tkCfgWrite]

@[simp] theorem State.tkCfgWrite_fuses (s : State) (t a : Nat) (w : Word) : (State.tkCfgWrite s t a w).fuses = s.fuses := by
  simp [State.tkCfgWrite]

@[simp] theorem State.closePortTake_pending (s : State) (p t : Nat) : (State.closePortTake s p t).pending = s.pending := by
  simp [State.closePortTake]

@[simp] theorem State.closePortTake_fuses (s : State) (p t : Nat) : (State.closePortTake s p t).fuses = s.fuses := by
  simp [State.closePortTake]

@[simp] theorem State.dropWaitArm_pending (s : State) (p t : Nat) : (State.dropWaitArm s p t).pending = s.pending := by
  simp [State.dropWaitArm]

@[simp] theorem State.dropWaitArm_fuses (s : State) (p t : Nat) : (State.dropWaitArm s p t).fuses = s.fuses := by
  simp [State.dropWaitArm]

@[simp] theorem State.closePortTakes_pending (s : State) (p : Nat) : (State.closePortTakes s p).pending = s.pending := by
  simp [State.closePortTakes]

@[simp] theorem State.closePortTakes_fuses (s : State) (p : Nat) : (State.closePortTakes s p).fuses = s.fuses := by
  simp [State.closePortTakes]

end Sys2Proof.Machine
end

