-- ==== Sys2Proof/Laws/Kept/Tsp.lean ====
section
/-! SUPPORT. No operation of Machine/Tsp.lean touches the queue of commands or the fuses. -/

set_option Elab.async false

namespace Sys2Proof.Machine

@[simp] theorem State.tspDown_pending (s : State) (p st : Nat) : (State.tspDown s p st).pending = s.pending := by
  simp [State.tspDown]

@[simp] theorem State.tspDown_fuses (s : State) (p st : Nat) : (State.tspDown s p st).fuses = s.fuses := by
  simp [State.tspDown]

@[simp] theorem State.tspReply_pending (s : State) (p v : Nat) : (State.tspReply s p v).pending = s.pending := by
  simp [State.tspReply]

@[simp] theorem State.tspReply_fuses (s : State) (p v : Nat) : (State.tspReply s p v).fuses = s.fuses := by
  simp [State.tspReply]

@[simp] theorem State.endCommands_pending (s : State) (p : Nat) : (State.endCommands s p).pending = s.pending := by
  simp [State.endCommands]

@[simp] theorem State.endCommands_fuses (s : State) (p : Nat) : (State.endCommands s p).fuses = s.fuses := by
  simp [State.endCommands]

@[simp] theorem State.setOwner_pending (s : State) (p g : Nat) (v : Bool) : (State.setOwner s p g v).pending = s.pending := by
  simp [State.setOwner]

@[simp] theorem State.setOwner_fuses (s : State) (p g : Nat) (v : Bool) : (State.setOwner s p g v).fuses = s.fuses := by
  simp [State.setOwner]

@[simp] theorem State.detachGroup_pending (s : State) (p g : Nat) : (State.detachGroup s p g).pending = s.pending := by
  simp [State.detachGroup]

@[simp] theorem State.detachGroup_fuses (s : State) (p g : Nat) : (State.detachGroup s p g).fuses = s.fuses := by
  simp [State.detachGroup]

@[simp] theorem State.detachPort_pending (s : State) (p : Nat) : (State.detachPort s p).pending = s.pending := by
  simp [State.detachPort]

@[simp] theorem State.detachPort_fuses (s : State) (p : Nat) : (State.detachPort s p).fuses = s.fuses := by
  simp [State.detachPort]

@[simp] theorem State.tspCtrlWrite_pending (s : State) (p : Nat) (w : Word) : (State.tspCtrlWrite s p w).pending = s.pending := by
  simp [State.tspCtrlWrite]

@[simp] theorem State.tspCtrlWrite_fuses (s : State) (p : Nat) (w : Word) : (State.tspCtrlWrite s p w).fuses = s.fuses := by
  simp [State.tspCtrlWrite]

@[simp] theorem State.tspDetected_pending (s : State) (p : Nat) : (State.tspDetected s p).pending = s.pending := by
  simp [State.tspDetected]

@[simp] theorem State.tspDetected_fuses (s : State) (p : Nat) : (State.tspDetected s p).fuses = s.fuses := by
  simp [State.tspDetected]

@[simp] theorem State.tspNotDetected_pending (s : State) (p : Nat) : (State.tspNotDetected s p).pending = s.pending := by
  simp [State.tspNotDetected]

@[simp] theorem State.tspNotDetected_fuses (s : State) (p : Nat) : (State.tspNotDetected s p).fuses = s.fuses := by
  simp [State.tspNotDetected]

@[simp] theorem State.tspEqualised_pending (s : State) (p : Nat) : (State.tspEqualised s p).pending = s.pending := by
  simp [State.tspEqualised]

@[simp] theorem State.tspEqualised_fuses (s : State) (p : Nat) : (State.tspEqualised s p).fuses = s.fuses := by
  simp [State.tspEqualised]

@[simp] theorem State.tspEqFail_pending (s : State) (p : Nat) : (State.tspEqFail s p).pending = s.pending := by
  simp [State.tspEqFail]

@[simp] theorem State.tspEqFail_fuses (s : State) (p : Nat) : (State.tspEqFail s p).fuses = s.fuses := by
  simp [State.tspEqFail]

@[simp] theorem State.tspAligned_pending (s : State) (p : Nat) : (State.tspAligned s p).pending = s.pending := by
  simp [State.tspAligned]

@[simp] theorem State.tspAligned_fuses (s : State) (p : Nat) : (State.tspAligned s p).fuses = s.fuses := by
  simp [State.tspAligned]

@[simp] theorem State.tspNotAligned_pending (s : State) (p : Nat) : (State.tspNotAligned s p).pending = s.pending := by
  simp [State.tspNotAligned]

@[simp] theorem State.tspNotAligned_fuses (s : State) (p : Nat) : (State.tspNotAligned s p).fuses = s.fuses := by
  simp [State.tspNotAligned]

@[simp] theorem State.tspLockLost_pending (s : State) (p lane : Nat) : (State.tspLockLost s p lane).pending = s.pending := by
  simp [State.tspLockLost]

@[simp] theorem State.tspLockLost_fuses (s : State) (p lane : Nat) : (State.tspLockLost s p lane).fuses = s.fuses := by
  simp [State.tspLockLost]

@[simp] theorem State.tspNotRecovered_pending (s : State) (p : Nat) : (State.tspNotRecovered s p).pending = s.pending := by
  simp [State.tspNotRecovered]

@[simp] theorem State.tspNotRecovered_fuses (s : State) (p : Nat) : (State.tspNotRecovered s p).fuses = s.fuses := by
  simp [State.tspNotRecovered]

@[simp] theorem State.tspInvalidBlock_pending (s : State) (p lane : Nat) : (State.tspInvalidBlock s p lane).pending = s.pending := by
  simp [State.tspInvalidBlock]

@[simp] theorem State.tspInvalidBlock_fuses (s : State) (p lane : Nat) : (State.tspInvalidBlock s p lane).fuses = s.fuses := by
  simp [State.tspInvalidBlock]

@[simp] theorem State.tspSeq_pending (s : State) (p seq : Nat) : (State.tspSeq s p seq).pending = s.pending := by
  simp [State.tspSeq]

@[simp] theorem State.tspSeq_fuses (s : State) (p seq : Nat) : (State.tspSeq s p seq).fuses = s.fuses := by
  simp [State.tspSeq]

@[simp] theorem State.badCmd_pending (s : State) (p : Nat) : (State.badCmd s p).pending = s.pending := by
  simp [State.badCmd]

@[simp] theorem State.badCmd_fuses (s : State) (p : Nat) : (State.badCmd s p).fuses = s.fuses := by
  simp [State.badCmd]

@[simp] theorem State.portAnswer_pending (s : State) (p v code : Nat) : (State.portAnswer s p v code).pending = s.pending := by
  simp [State.portAnswer]

@[simp] theorem State.portAnswer_fuses (s : State) (p v code : Nat) : (State.portAnswer s p v code).fuses = s.fuses := by
  simp [State.portAnswer]

@[simp] theorem State.drainBad_pending (s : State) (p : Nat) (x0 : Nat) : (State.drainBad s p x0).pending = s.pending := by
  induction x0 generalizing s with
  | zero => rfl
  | succ k ih =>
    unfold State.drainBad; dsimp only
    repeat' split
    all_goals first | rfl | (rw [ih]; simp)

@[simp] theorem State.drainBad_fuses (s : State) (p : Nat) (x0 : Nat) : (State.drainBad s p x0).fuses = s.fuses := by
  induction x0 generalizing s with
  | zero => rfl
  | succ k ih =>
    unfold State.drainBad; dsimp only
    repeat' split
    all_goals first | rfl | (rw [ih]; simp)

@[simp] theorem State.popInbox_pending (s : State) (p : Nat) : (State.popInbox s p).pending = s.pending := by
  simp [State.popInbox]

@[simp] theorem State.popInbox_fuses (s : State) (p : Nat) : (State.popInbox s p).fuses = s.fuses := by
  simp [State.popInbox]

@[simp] theorem State.settle_pending (s : State) (p : Nat) : (State.settle s p).pending = s.pending := by
  simp [State.settle]

@[simp] theorem State.settle_fuses (s : State) (p : Nat) : (State.settle s p).fuses = s.fuses := by
  simp [State.settle]

@[simp] theorem State.foreign_pending (s : State) (p : Nat) : (State.foreign s p).pending = s.pending := by
  simp [State.foreign]

@[simp] theorem State.foreign_fuses (s : State) (p : Nat) : (State.foreign s p).fuses = s.fuses := by
  simp [State.foreign]

@[simp] theorem inboundFrame_pending (s : State) (p f : Nat) (invalid : Bool) : (inboundFrame s p f invalid).pending = s.pending := by
  simp [inboundFrame]

@[simp] theorem inboundFrame_fuses (s : State) (p f : Nat) (invalid : Bool) : (inboundFrame s p f invalid).fuses = s.fuses := by
  simp [inboundFrame]

@[simp] theorem State.pastReads_pending (s : State) (g first stop : Nat) : (State.pastReads s g first stop).pending = s.pending := by
  simp [State.pastReads]

@[simp] theorem State.pastReads_fuses (s : State) (g first stop : Nat) : (State.pastReads s g first stop).fuses = s.fuses := by
  simp [State.pastReads]

@[simp] theorem State.appendEntry_pending (s : State) (g c slot run stamp : Nat) : (State.appendEntry s g c slot run stamp).1.pending = s.pending := by
  simp [State.appendEntry]

@[simp] theorem State.appendEntry_fuses (s : State) (g c slot run stamp : Nat) : (State.appendEntry s g c slot run stamp).1.fuses = s.fuses := by
  simp [State.appendEntry]

@[simp] theorem selectFrame_pending (s : State) (p f stamp : Nat) : (selectFrame s p f stamp).pending = s.pending := by
  simp [selectFrame]

@[simp] theorem selectFrame_fuses (s : State) (p f stamp : Nat) : (selectFrame s p f stamp).fuses = s.fuses := by
  simp [selectFrame]

@[simp] theorem helloMsg_pending (s : State) (p v : Nat) : (helloMsg s p v).pending = s.pending := by
  simp [helloMsg]

@[simp] theorem helloMsg_fuses (s : State) (p v : Nat) : (helloMsg s p v).fuses = s.fuses := by
  simp [helloMsg]

@[simp] theorem State.claimLead_pending (s : State) (g : Nat) : (State.claimLead s g).pending = s.pending := by
  simp [State.claimLead]

@[simp] theorem State.claimLead_fuses (s : State) (g : Nat) : (State.claimLead s g).fuses = s.fuses := by
  simp [State.claimLead]

@[simp] theorem State.claimOne_pending (s : State) (p g : Nat) : (State.claimOne s p g).pending = s.pending := by
  simp [State.claimOne]

@[simp] theorem State.claimOne_fuses (s : State) (p g : Nat) : (State.claimOne s p g).fuses = s.fuses := by
  simp [State.claimOne]

@[simp] theorem State.releaseOne_pending (s : State) (p g : Nat) : (State.releaseOne s p g).pending = s.pending := by
  simp [State.releaseOne]

@[simp] theorem State.releaseOne_fuses (s : State) (p g : Nat) : (State.releaseOne s p g).fuses = s.fuses := by
  simp [State.releaseOne]

@[simp] theorem State.portRun_pending (s : State) (p v : Nat) (f : State → State) (hf : ∀ u, (f u).pending = u.pending) : (State.portRun s p v f).pending = s.pending := by
  unfold State.portRun; dsimp only; repeat' split
  all_goals simp_all

@[simp] theorem State.portRun_fuses (s : State) (p v : Nat) (f : State → State) (hf : ∀ u, (f u).fuses = u.fuses) : (State.portRun s p v f).fuses = s.fuses := by
  unfold State.portRun; dsimp only; repeat' split
  all_goals simp_all

@[simp] theorem State.tspCmd_pending (s : State) (p op : Nat) (f : Nat → State → State) (hf : ∀ v u, (f v u).pending = u.pending) : (State.tspCmd s p op f).pending = s.pending := by
  unfold State.tspCmd
  split
  · exact State.portRun_pending s p _ _ (hf _)
  · rfl

@[simp] theorem State.tspCmd_fuses (s : State) (p op : Nat) (f : Nat → State → State) (hf : ∀ v u, (f v u).fuses = u.fuses) : (State.tspCmd s p op f).fuses = s.fuses := by
  unfold State.tspCmd
  split
  · exact State.portRun_fuses s p _ _ (hf _)
  · rfl

@[simp] theorem State.tspTiming_pending (s : State) (p op : Nat) (cmd : Nat → TCmd) : (State.tspTiming s p op cmd).pending = s.pending := by
  simp [State.tspTiming]

@[simp] theorem State.tspTiming_fuses (s : State) (p op : Nat) (cmd : Nat → TCmd) : (State.tspTiming s p op cmd).fuses = s.fuses := by
  simp [State.tspTiming]

@[simp] theorem State.tspRoot_pending (s : State) (p op : Nat) (f : Nat → Nat → State → State) (hf : ∀ v n u, (f v n u).pending = u.pending) : (State.tspRoot s p op f).pending = s.pending := by
  unfold State.tspRoot; dsimp only; repeat' split
  all_goals simp_all

@[simp] theorem State.tspRoot_fuses (s : State) (p op : Nat) (f : Nat → Nat → State → State) (hf : ∀ v n u, (f v n u).fuses = u.fuses) : (State.tspRoot s p op f).fuses = s.fuses := by
  unfold State.tspRoot; dsimp only; repeat' split
  all_goals simp_all

@[simp] theorem outboundFrame_pending (s : State) (p : Nat) : (outboundFrame s p).pending = s.pending := by
  simp [outboundFrame]

@[simp] theorem outboundFrame_fuses (s : State) (p : Nat) : (outboundFrame s p).fuses = s.fuses := by
  simp [outboundFrame]

end Sys2Proof.Machine
end

