-- ==== Sys2Proof/Laws/Kept/Links.lean ====
section
/-! SUPPORT. No operation of Machine/Links.lean touches the queue of commands or the fuses. -/

set_option Elab.async false

namespace Sys2Proof.Machine

@[simp] theorem State.sendOver_pending (s : State) (p : Nat) (i : LinkItem) : (State.sendOver s p i).pending = s.pending := by
  simp [State.sendOver]

@[simp] theorem State.sendOver_fuses (s : State) (p : Nat) (i : LinkItem) : (State.sendOver s p i).fuses = s.fuses := by
  simp [State.sendOver]

@[simp] theorem State.measEnd_pending (s : State) (p code : Nat) (data : List Int) : (State.measEnd s p code data).pending = s.pending := by
  simp only [State.measEnd]; split <;> simp

@[simp] theorem State.measEnd_fuses (s : State) (p code : Nat) (data : List Int) : (State.measEnd s p code data).fuses = s.fuses := by
  simp only [State.measEnd]; split <;> simp

@[simp] theorem State.measFail_pending (s : State) (p : Nat) : (State.measFail s p).pending = s.pending := by
  simp [State.measFail]

@[simp] theorem State.measFail_fuses (s : State) (p : Nat) : (State.measFail s p).fuses = s.fuses := by
  simp [State.measFail]

@[simp] theorem State.childOver_pending (s : State) (p : Nat) : (State.childOver s p).pending = s.pending := by
  simp only [State.childOver]; split <;> simp

@[simp] theorem State.childOver_fuses (s : State) (p : Nat) : (State.childOver s p).fuses = s.fuses := by
  simp only [State.childOver]; split <;> simp

@[simp] theorem State.linkDown_pending (s : State) (p st : Nat) : (State.linkDown s p st).pending = s.pending := by
  simp only [State.linkDown]; split <;> simp

@[simp] theorem State.linkDown_fuses (s : State) (p st : Nat) : (State.linkDown s p st).fuses = s.fuses := by
  simp only [State.linkDown]; split <;> simp

@[simp] theorem State.measBatch_pending (s : State) (p : Nat) : (State.measBatch s p).pending = s.pending := by
  simp only [State.measBatch]; split <;> simp

@[simp] theorem State.measBatch_fuses (s : State) (p : Nat) : (State.measBatch s p).fuses = s.fuses := by
  simp only [State.measBatch]; split <;> simp

@[simp] theorem State.probeWrite_pending (s : State) (p : Nat) : (State.probeWrite s p).pending = s.pending := by
  simp [State.probeWrite]

@[simp] theorem State.probeWrite_fuses (s : State) (p : Nat) : (State.probeWrite s p).fuses = s.fuses := by
  simp [State.probeWrite]

@[simp] theorem State.prlCtrlWrite_pending (s : State) (p : Nat) (w : Word) : (State.prlCtrlWrite s p w).pending = s.pending := by
  simp [State.prlCtrlWrite]

@[simp] theorem State.prlCtrlWrite_fuses (s : State) (p : Nat) (w : Word) : (State.prlCtrlWrite s p w).fuses = s.fuses := by
  simp [State.prlCtrlWrite]

@[simp] theorem State.linkUp_pending (s : State) (q : Nat) : (State.linkUp s q).pending = s.pending := by
  simp [State.linkUp]

@[simp] theorem State.linkUp_fuses (s : State) (q : Nat) : (State.linkUp s q).fuses = s.fuses := by
  simp [State.linkUp]

@[simp] theorem State.linkAck_pending (s : State) (p ack : Nat) : (State.linkAck s p ack).pending = s.pending := by
  simp [State.linkAck]

@[simp] theorem State.linkAck_fuses (s : State) (p ack : Nat) : (State.linkAck s p ack).fuses = s.fuses := by
  simp [State.linkAck]

@[simp] theorem State.linkDeliver_pending (s : State) (p : Nat) (fr : LFrame) : (State.linkDeliver s p fr).pending = s.pending := by
  simp [State.linkDeliver]

@[simp] theorem State.linkDeliver_fuses (s : State) (p : Nat) (fr : LFrame) : (State.linkDeliver s p fr).fuses = s.fuses := by
  simp [State.linkDeliver]

@[simp] theorem State.ackBack_pending (s : State) (p txNext : Nat) : (State.ackBack s p txNext).pending = s.pending := by
  simp [State.ackBack]

@[simp] theorem State.ackBack_fuses (s : State) (p txNext : Nat) : (State.ackBack s p txNext).fuses = s.fuses := by
  simp [State.ackBack]

@[simp] theorem linkFrame_pending (s : State) (p frame : Nat) (invalid : Bool) (items : List LinkItem) : (linkFrame s p frame invalid items).pending = s.pending := by
  simp [linkFrame]

@[simp] theorem linkFrame_fuses (s : State) (p frame : Nat) (invalid : Bool) (items : List LinkItem) : (linkFrame s p frame invalid items).fuses = s.fuses := by
  simp [linkFrame]

@[simp] theorem State.linkResend_pending (s : State) (p : Nat) : (State.linkResend s p).pending = s.pending := by
  simp [State.linkResend]

@[simp] theorem State.linkResend_fuses (s : State) (p : Nat) : (State.linkResend s p).fuses = s.fuses := by
  simp [State.linkResend]

@[simp] theorem State.batchLost_pending (s : State) (p : Nat) (m : Meas) : (State.batchLost s p m).pending = s.pending := by
  simp [State.batchLost]

@[simp] theorem State.batchLost_fuses (s : State) (p : Nat) (m : Meas) : (State.batchLost s p m).fuses = s.fuses := by
  simp [State.batchLost]

@[simp] theorem State.probeReply_pending (s : State) (p index stamp : Nat) : (State.probeReply s p index stamp).pending = s.pending := by
  simp only [State.probeReply]; split <;> simp

@[simp] theorem State.probeReply_fuses (s : State) (p index stamp : Nat) : (State.probeReply s p index stamp).fuses = s.fuses := by
  simp only [State.probeReply]; split <;> simp

@[simp] theorem State.putMeas_pending (s : State) (p n : Nat) (b : BatchSums) : (State.putMeas s p n b).pending = s.pending := by
  simp [State.putMeas]

@[simp] theorem State.putMeas_fuses (s : State) (p n : Nat) (b : BatchSums) : (State.putMeas s p n b).fuses = s.fuses := by
  simp [State.putMeas]

@[simp] theorem probeData_pending (s : State) (p : Nat) (m : Meas) (st : List (Nat × Nat)) : (probeData s p m st).pending = s.pending := by
  simp [probeData]

@[simp] theorem probeData_fuses (s : State) (p : Nat) (m : Meas) (st : List (Nat × Nat)) : (probeData s p m st).fuses = s.fuses := by
  simp [probeData]

end Sys2Proof.Machine
end

