-- ==== Sys2Proof/Laws/Kept/Capture.lean ====
section
/-! SUPPORT. No operation of Machine/Capture.lean touches the queue of commands or the fuses. -/

set_option Elab.async false

namespace Sys2Proof.Machine

@[simp] theorem activityWindowEnd_pending (s : State) (n : Nat) : (activityWindowEnd s n).pending = s.pending := by
  simp [activityWindowEnd]

@[simp] theorem activityWindowEnd_fuses (s : State) (n : Nat) : (activityWindowEnd s n).fuses = s.fuses := by
  simp [activityWindowEnd]

@[simp] theorem quietTimeout_pending (s : State) (n : Nat) : (quietTimeout s n).pending = s.pending := by
  simp [quietTimeout]

@[simp] theorem quietTimeout_fuses (s : State) (n : Nat) : (quietTimeout s n).fuses = s.fuses := by
  simp [quietTimeout]

@[simp] theorem State.loseEdge_pending (s : State) (n : Nat) (r : Ref) (t : Int) : (State.loseEdge s n r t).pending = s.pending := by
  simp [State.loseEdge]

@[simp] theorem State.loseEdge_fuses (s : State) (n : Nat) (r : Ref) (t : Int) : (State.loseEdge s n r t).fuses = s.fuses := by
  simp [State.loseEdge]

@[simp] theorem State.beginReslate_pending (s : State) (n kind : Nat) : (State.beginReslate s n kind).pending = s.pending := by
  simp [State.beginReslate]

@[simp] theorem State.beginReslate_fuses (s : State) (n kind : Nat) : (State.beginReslate s n kind).fuses = s.fuses := by
  simp [State.beginReslate]

@[simp] theorem State.edgeTriggers_pending (s : State) (n : Nat) (t : Int) : (State.edgeTriggers s n t).pending = s.pending := by
  simp only [State.edgeTriggers]; split <;> simp

@[simp] theorem State.edgeTriggers_fuses (s : State) (n : Nat) (t : Int) : (State.edgeTriggers s n t).fuses = s.fuses := by
  simp only [State.edgeTriggers]; split <;> simp

@[simp] theorem State.countReslate_pending (s : State) (n : Nat) : (State.countReslate s n).pending = s.pending := by
  simp [State.countReslate]

@[simp] theorem State.countReslate_fuses (s : State) (n : Nat) : (State.countReslate s n).fuses = s.fuses := by
  simp [State.countReslate]

@[simp] theorem State.acceptEdge_pending (s : State) (n st ref c : Nat) (pol : Bool) (t : Int) (bin : Nat) : (State.acceptEdge s n st ref c pol t bin).pending = s.pending := by
  simp only [State.acceptEdge]; split <;> simp

@[simp] theorem State.acceptEdge_fuses (s : State) (n st ref c : Nat) (pol : Bool) (t : Int) (bin : Nat) : (State.acceptEdge s n st ref c pol t bin).fuses = s.fuses := by
  simp only [State.acceptEdge]; split <;> simp

@[simp] theorem State.judgeEdge_pending (s : State) (n ref c : Nat) (pol : Bool) : (State.judgeEdge s n ref c pol).pending = s.pending := by
  simp [State.judgeEdge]

@[simp] theorem State.judgeEdge_fuses (s : State) (n ref c : Nat) (pol : Bool) : (State.judgeEdge s n ref c pol).fuses = s.fuses := by
  simp [State.judgeEdge]

@[simp] theorem State.outputEdge_pending (s : State) (n : Nat) (pol : Bool) (ref c : Nat) : (State.outputEdge s n pol ref c).pending = s.pending := by
  simp [State.outputEdge]

@[simp] theorem State.outputEdge_fuses (s : State) (n : Nat) (pol : Bool) (ref c : Nat) : (State.outputEdge s n pol ref c).fuses = s.fuses := by
  simp [State.outputEdge]

@[simp] theorem eventEdge_pending (s : State) (n input : Nat) (rising : Bool) (ref c : Nat) : (eventEdge s n input rising ref c).pending = s.pending := by
  simp [eventEdge]

@[simp] theorem eventEdge_fuses (s : State) (n input : Nat) (rising : Bool) (ref c : Nat) : (eventEdge s n input rising ref c).fuses = s.fuses := by
  simp [eventEdge]

@[simp] theorem State.evcfgWrite_pending (s : State) (n : Nat) (w : Word) : (State.evcfgWrite s n w).pending = s.pending := by
  simp [State.evcfgWrite]

@[simp] theorem State.evcfgWrite_fuses (s : State) (n : Nat) (w : Word) : (State.evcfgWrite s n w).fuses = s.fuses := by
  simp [State.evcfgWrite]

@[simp] theorem State.pushSlate_pending (s : State) (n tk : Nat) (q : Calib) (coarse : Nat) (h : HalfOut) : (State.pushSlate s n tk q coarse h).pending = s.pending := by
  simp [State.pushSlate]

@[simp] theorem State.pushSlate_fuses (s : State) (n tk : Nat) (q : Calib) (coarse : Nat) (h : HalfOut) : (State.pushSlate s n tk q coarse h).fuses = s.fuses := by
  simp [State.pushSlate]

@[simp] theorem State.halfStands_pending (s : State) (n tk : Nat) (q : Calib) (coarse : Nat) (h : HalfOut) : (State.halfStands s n tk q coarse h).pending = s.pending := by
  simp [State.halfStands]

@[simp] theorem State.halfStands_fuses (s : State) (n tk : Nat) (q : Calib) (coarse : Nat) (h : HalfOut) : (State.halfStands s n tk q coarse h).fuses = s.fuses := by
  simp [State.halfStands]

@[simp] theorem halfDone_pending (s : State) (n tk : Nat) (q : Calib) (c1 c2 : List (BitVec 14)) : (halfDone s n tk q c1 c2).pending = s.pending := by
  simp [halfDone]

@[simp] theorem halfDone_fuses (s : State) (n tk : Nat) (q : Calib) (c1 c2 : List (BitVec 14)) : (halfDone s n tk q c1 c2).fuses = s.fuses := by
  simp [halfDone]

@[simp] theorem reslateTimer_pending (s : State) (n gap : Nat) : (reslateTimer s n gap).pending = s.pending := by
  simp [reslateTimer]

@[simp] theorem reslateTimer_fuses (s : State) (n gap : Nat) : (reslateTimer s n gap).fuses = s.fuses := by
  simp [reslateTimer]

@[simp] theorem State.reelFull_pending (s : State) (tk : Nat) (t : Int) : (State.reelFull s tk t).pending = s.pending := by
  simp [State.reelFull]

@[simp] theorem State.reelFull_fuses (s : State) (tk : Nat) (t : Int) : (State.reelFull s tk t).fuses = s.fuses := by
  simp [State.reelFull]

@[simp] theorem State.countStamp_pending (s : State) (tk n : Nat) (t : Int) (taint lostb : Bool) : (State.countStamp s tk n t taint lostb).pending = s.pending := by
  simp [State.countStamp]

@[simp] theorem State.countStamp_fuses (s : State) (tk n : Nat) (t : Int) (taint lostb : Bool) : (State.countStamp s tk n t taint lostb).fuses = s.fuses := by
  simp [State.countStamp]

@[simp] theorem State.admitStamp_pending (s : State) (tk n : Nat) (x : Stamp) (taint lostb : Bool) : (State.admitStamp s tk n x taint lostb).pending = s.pending := by
  simp only [State.admitStamp]; repeat' split
  all_goals simp

@[simp] theorem State.admitStamp_fuses (s : State) (tk n : Nat) (x : Stamp) (taint lostb : Bool) : (State.admitStamp s tk n x taint lostb).fuses = s.fuses := by
  simp only [State.admitStamp]; repeat' split
  all_goals simp

@[simp] theorem State.takeStamp_pending (s : State) (tk n : Nat) (x : Stamp) (taint : Bool) : (State.takeStamp s tk n x taint).pending = s.pending := by
  simp [State.takeStamp]

@[simp] theorem State.takeStamp_fuses (s : State) (tk n : Nat) (x : Stamp) (taint : Bool) : (State.takeStamp s tk n x taint).fuses = s.fuses := by
  simp [State.takeStamp]

@[simp] theorem State.takeSlate_pending (s : State) (tk n : Nat) (t : Int) (x : Slate) (taint : Bool) : (State.takeSlate s tk n t x taint).pending = s.pending := by
  simp only [State.takeSlate]; split <;> simp

@[simp] theorem State.takeSlate_fuses (s : State) (tk n : Nat) (t : Int) (x : Slate) (taint : Bool) : (State.takeSlate s tk n t x taint).fuses = s.fuses := by
  simp only [State.takeSlate]; split <;> simp

@[simp] theorem State.takeItem_pending (s : State) (tk : Nat) (m : Merged) : (State.takeItem s tk m).pending = s.pending := by
  simp only [State.takeItem]; split <;> simp

@[simp] theorem State.takeItem_fuses (s : State) (tk : Nat) (m : Merged) : (State.takeItem s tk m).fuses = s.fuses := by
  simp only [State.takeItem]; split <;> simp

@[simp] theorem State.mergeRun_pending (s : State) (tk : Nat) (x0 : Nat) : (State.mergeRun s tk x0).pending = s.pending := by
  induction x0 generalizing s with
  | zero => rfl
  | succ k ih =>
    unfold State.mergeRun
    split
    · rfl
    · split
      · rw [ih]; simp
      · rfl

@[simp] theorem State.mergeRun_fuses (s : State) (tk : Nat) (x0 : Nat) : (State.mergeRun s tk x0).fuses = s.fuses := by
  induction x0 generalizing s with
  | zero => rfl
  | succ k ih =>
    unfold State.mergeRun
    split
    · rfl
    · split
      · rw [ih]; simp
      · rfl

@[simp] theorem State.enterMerge_pending (s : State) (tk : Nat) (m : Merged) : (State.enterMerge s tk m).pending = s.pending := by
  simp [State.enterMerge]

@[simp] theorem State.enterMerge_fuses (s : State) (tk : Nat) (m : Merged) : (State.enterMerge s tk m).fuses = s.fuses := by
  simp [State.enterMerge]

@[simp] theorem State.releaseStamp_pending (s : State) (n : Nat) (x : Stamp) (taint : Bool) : (State.releaseStamp s n x taint).pending = s.pending := by
  simp only [State.releaseStamp]; split <;> simp

@[simp] theorem State.releaseStamp_fuses (s : State) (n : Nat) (x : Stamp) (taint : Bool) : (State.releaseStamp s n x taint).fuses = s.fuses := by
  simp only [State.releaseStamp]; split <;> simp

@[simp] theorem State.releaseSlate_pending (s : State) (n coarse : Nat) (x : Slate) (taint : Bool) : (State.releaseSlate s n coarse x taint).pending = s.pending := by
  simp only [State.releaseSlate]; split <;> simp

@[simp] theorem State.releaseSlate_fuses (s : State) (n coarse : Nat) (x : Slate) (taint : Bool) : (State.releaseSlate s n coarse x taint).fuses = s.fuses := by
  simp only [State.releaseSlate]; split <;> simp

@[simp] theorem taintStageRelease_pending (s : State) (b : Nat) (it : StageItem) : (taintStageRelease s b it).pending = s.pending := by
  simp only [taintStageRelease]; split <;> simp

@[simp] theorem taintStageRelease_fuses (s : State) (b : Nat) (it : StageItem) : (taintStageRelease s b it).fuses = s.fuses := by
  simp only [taintStageRelease]; split <;> simp

end Sys2Proof.Machine
end

