-- ==== Sys2Proof/Laws/Kept/Rings.lean ====
section
/-! SUPPORT. No operation of Machine/Rings.lean touches the queue of commands or the fuses. -/

set_option Elab.async false

namespace Sys2Proof.Machine

@[simp] theorem State.showRing_pending (s : State) (r : Nat) : (State.showRing s r).pending = s.pending := by
  simp [State.showRing]

@[simp] theorem State.showRing_fuses (s : State) (r : Nat) : (State.showRing s r).fuses = s.fuses := by
  simp [State.showRing]

@[simp] theorem State.ringComps_pending (s0 : State) (r : Nat) (x0 : List RingComp) : (State.ringComps s0 r x0).pending = s0.pending := by
  induction x0 generalizing s0 with
  | nil => unfold State.ringComps; split <;> simp
  | cons c t ih =>
    unfold State.ringComps
    dsimp only
    generalize hs : (if s0.ringFull r = true then s0.put (DR_STAT_CFULL r) 1 else s0) = s
    have e : s.pending = s0.pending := by rw [← hs]; split <;> simp
    rw [← e]
    split
    · simp
    · rw [ih]
      split <;> simp

@[simp] theorem State.ringComps_fuses (s0 : State) (r : Nat) (x0 : List RingComp) : (State.ringComps s0 r x0).fuses = s0.fuses := by
  induction x0 generalizing s0 with
  | nil => unfold State.ringComps; split <;> simp
  | cons c t ih =>
    unfold State.ringComps
    dsimp only
    generalize hs : (if s0.ringFull r = true then s0.put (DR_STAT_CFULL r) 1 else s0) = s
    have e : s.fuses = s0.fuses := by rw [← hs]; split <;> simp
    rw [← e]
    split
    · simp
    · rw [ih]
      split <;> simp

@[simp] theorem State.ringComp_pending (s : State) (r : Nat) (c : RingComp) : (State.ringComp s r c).pending = s.pending := by
  simp [State.ringComp]

@[simp] theorem State.ringComp_fuses (s : State) (r : Nat) (c : RingComp) : (State.ringComp s r c).fuses = s.fuses := by
  simp [State.ringComp]

@[simp] theorem State.closeBuf_pending (s : State) (r : Nat) (b : Buf) (ended : Bool) : (State.closeBuf s r b ended).pending = s.pending := by
  simp [State.closeBuf]

@[simp] theorem State.closeBuf_fuses (s : State) (r : Nat) (b : Buf) (ended : Bool) : (State.closeBuf s r b ended).fuses = s.fuses := by
  simp [State.closeBuf]

@[simp] theorem State.starve_pending (s : State) (r : Nat) : (State.starve s r).pending = s.pending := by
  simp [State.starve]

@[simp] theorem State.starve_fuses (s : State) (r : Nat) : (State.starve s r).fuses = s.fuses := by
  simp [State.starve]

@[simp] theorem bufferOpen_pending (s : State) (r n addr len cookie : Nat) : (bufferOpen s r n addr len cookie).pending = s.pending := by
  simp [bufferOpen]

@[simp] theorem bufferOpen_fuses (s : State) (r n addr len cookie : Nat) : (bufferOpen s r n addr len cookie).fuses = s.fuses := by
  simp [bufferOpen]

@[simp] theorem drainBurst_pending (s : State) (r : Nat) (b : Buf) : (drainBurst s r b).pending = s.pending := by
  simp [drainBurst]

@[simp] theorem drainBurst_fuses (s : State) (r : Nat) (b : Buf) : (drainBurst s r b).fuses = s.fuses := by
  simp [drainBurst]

@[simp] theorem State.drCtrlWrite_pending (s : State) (r : Nat) (w : Word) : (State.drCtrlWrite s r w).pending = s.pending := by
  simp [State.drCtrlWrite]

@[simp] theorem State.drCtrlWrite_fuses (s : State) (r : Nat) (w : Word) : (State.drCtrlWrite s r w).fuses = s.fuses := by
  simp [State.drCtrlWrite]

@[simp] theorem State.ctailWrite_pending (s : State) (r : Nat) (w : Word) : (State.ctailWrite s r w).pending = s.pending := by
  simp [State.ctailWrite]

@[simp] theorem State.ctailWrite_fuses (s : State) (r : Nat) (w : Word) : (State.ctailWrite s r w).fuses = s.fuses := by
  simp [State.ctailWrite]

@[simp] theorem State.drCfgWrite_pending (s : State) (r a : Nat) (w : Word) : (State.drCfgWrite s r a w).pending = s.pending := by
  simp [State.drCfgWrite]

@[simp] theorem State.drCfgWrite_fuses (s : State) (r a : Nat) (w : Word) : (State.drCfgWrite s r a w).fuses = s.fuses := by
  simp [State.drCfgWrite]

end Sys2Proof.Machine
end

