-- ==== Sys2Proof/Laws/Kept/Mailbox.lean ====
section
/-! SUPPORT. No operation of Machine/Mailbox.lean touches the queue of commands or the fuses. -/

set_option Elab.async false

namespace Sys2Proof.Machine

@[simp] theorem State.modCmd_pending (s : State) (f c : Nat) (g : Cmd → Cmd) : (State.modCmd s f c g).pending = s.pending := by
  simp [State.modCmd]

@[simp] theorem State.modCmd_fuses (s : State) (f c : Nat) (g : Cmd → Cmd) : (State.modCmd s f c g).fuses = s.fuses := by
  simp [State.modCmd]

@[simp] theorem State.failCmd_pending (s : State) (f c code : Nat) : (State.failCmd s f c code).pending = s.pending := by
  simp [State.failCmd]

@[simp] theorem State.failCmd_fuses (s : State) (f c code : Nat) : (State.failCmd s f c code).fuses = s.fuses := by
  simp [State.failCmd]

@[simp] theorem State.okCmd_pending (s : State) (f c res : Nat) : (State.okCmd s f c res).pending = s.pending := by
  simp [State.okCmd]

@[simp] theorem State.okCmd_fuses (s : State) (f c res : Nat) : (State.okCmd s f c res).fuses = s.fuses := by
  simp [State.okCmd]

@[simp] theorem State.fetchOne_pending (s : State) (entry : Nat) : (State.fetchOne s entry).pending = s.pending := by
  simp only [State.fetchOne]; split <;> simp

@[simp] theorem State.fetchOne_fuses (s : State) (entry : Nat) : (State.fetchOne s entry).fuses = s.fuses := by
  simp only [State.fetchOne]; split <;> simp

@[simp] theorem State.promote_pending (s : State) (f : Nat) : (State.promote s f).pending = s.pending := by
  simp [State.promote]

@[simp] theorem State.promote_fuses (s : State) (f : Nat) : (State.promote s f).fuses = s.fuses := by
  simp [State.promote]

@[simp] theorem State.timingRefused_pending (s : State) (e : Nat) : (State.timingRefused s e).pending = s.pending := by
  simp [State.timingRefused]

@[simp] theorem State.timingRefused_fuses (s : State) (e : Nat) : (State.timingRefused s e).fuses = s.fuses := by
  simp [State.timingRefused]

@[simp] theorem State.dispatch_pending (s : State) : (State.dispatch s).pending = s.pending := by
  unfold State.dispatch; repeat' split
  all_goals simp

@[simp] theorem State.dispatch_fuses (s : State) : (State.dispatch s).fuses = s.fuses := by
  unfold State.dispatch; repeat' split
  all_goals simp

@[simp] theorem schedulingCycle_pending (s : State) (entry : Nat) (asks : List Nat) : (schedulingCycle s entry asks).pending = s.pending := by
  simp [schedulingCycle]

@[simp] theorem schedulingCycle_fuses (s : State) (entry : Nat) (asks : List Nat) : (schedulingCycle s entry asks).fuses = s.fuses := by
  simp [schedulingCycle]

@[simp] theorem State.ringWrite_pending (s : State) (f off : Nat) (bytes : List Nat) : (State.ringWrite s f off bytes).pending = s.pending := by
  simp [State.ringWrite]

@[simp] theorem State.ringWrite_fuses (s : State) (f off : Nat) (bytes : List Nat) : (State.ringWrite s f off bytes).fuses = s.fuses := by
  simp [State.ringWrite]

@[simp] theorem State.drained_pending (s : State) (f : Nat) : (State.drained s f).pending = s.pending := by
  simp [State.drained]

@[simp] theorem State.drained_fuses (s : State) (f : Nat) : (State.drained s f).fuses = s.fuses := by
  simp [State.drained]

@[simp] theorem State.dropFirst_pending (s : State) (f id : Nat) : (State.dropFirst s f id).pending = s.pending := by
  simp [State.dropFirst]

@[simp] theorem State.dropFirst_fuses (s : State) (f id : Nat) : (State.dropFirst s f id).fuses = s.fuses := by
  simp [State.dropFirst]

@[simp] theorem State.writeCompletion_pending (s : State) (f : Nat) (k : Cmd) : (State.writeCompletion s f k).pending = s.pending := by
  simp [State.writeCompletion]

@[simp] theorem State.writeCompletion_fuses (s : State) (f : Nat) (k : Cmd) : (State.writeCompletion s f k).fuses = s.fuses := by
  simp [State.writeCompletion]

@[simp] theorem completionWrite_pending (s : State) (f : Nat) (k : Cmd) : (completionWrite s f k).pending = s.pending := by
  simp [completionWrite]

@[simp] theorem completionWrite_fuses (s : State) (f : Nat) (k : Cmd) : (completionWrite s f k).fuses = s.fuses := by
  simp [completionWrite]

@[simp] theorem State.eltailWrite_pending (s : State) (w : Word) : (State.eltailWrite s w).pending = s.pending := by
  simp [State.eltailWrite]

@[simp] theorem State.eltailWrite_fuses (s : State) (w : Word) : (State.eltailWrite s w).fuses = s.fuses := by
  simp [State.eltailWrite]

@[simp] theorem State.cancelWaiting_pending (s : State) (f : Nat) : (State.cancelWaiting s f).pending = s.pending := by
  simp [State.cancelWaiting]

@[simp] theorem State.cancelWaiting_fuses (s : State) (f : Nat) : (State.cancelWaiting s f).fuses = s.fuses := by
  simp [State.cancelWaiting]

@[simp] theorem State.flowRefuse_pending (s : State) (f a : Nat) : (State.flowRefuse s f a).pending = s.pending := by
  simp [State.flowRefuse]

@[simp] theorem State.flowRefuse_fuses (s : State) (f a : Nat) : (State.flowRefuse s f a).fuses = s.fuses := by
  simp [State.flowRefuse]

@[simp] theorem State.flowCtrlWrite_pending (s : State) (f : Nat) (w : Word) : (State.flowCtrlWrite s f w).pending = s.pending := by
  simp [State.flowCtrlWrite]

@[simp] theorem State.flowCtrlWrite_fuses (s : State) (f : Nat) (w : Word) : (State.flowCtrlWrite s f w).fuses = s.fuses := by
  simp [State.flowCtrlWrite]

@[simp] theorem State.flowCfgWrite_pending (s : State) (f a : Nat) (w : Word) : (State.flowCfgWrite s f a w).pending = s.pending := by
  simp [State.flowCfgWrite]

@[simp] theorem State.flowCfgWrite_fuses (s : State) (f a : Nat) (w : Word) : (State.flowCfgWrite s f a w).fuses = s.fuses := by
  simp [State.flowCfgWrite]

@[simp] theorem State.dberr_pending (s : State) (f : Nat) : (State.dberr s f).pending = s.pending := by
  simp [State.dberr]

@[simp] theorem State.dberr_fuses (s : State) (f : Nat) : (State.dberr s f).fuses = s.fuses := by
  simp [State.dberr]

@[simp] theorem State.sqtailWrite_pending (s : State) (f : Nat) (w : Word) : (State.sqtailWrite s f w).pending = s.pending := by
  simp [State.sqtailWrite]

@[simp] theorem State.sqtailWrite_fuses (s : State) (f : Nat) (w : Word) : (State.sqtailWrite s f w).fuses = s.fuses := by
  simp [State.sqtailWrite]

@[simp] theorem State.cqheadWrite_pending (s : State) (f : Nat) (w : Word) : (State.cqheadWrite s f w).pending = s.pending := by
  simp [State.cqheadWrite]

@[simp] theorem State.cqheadWrite_fuses (s : State) (f : Nat) (w : Word) : (State.cqheadWrite s f w).fuses = s.fuses := by
  simp [State.cqheadWrite]

@[simp] theorem State.runCmd_pending (s : State) (f c op : Nat) (g : Nat → State → State) (hf : ∀ e u, (g e u).pending = u.pending) : (State.runCmd s f c op g).pending = s.pending := by
  unfold State.runCmd
  split
  · rfl
  · rw [hf]; simp

@[simp] theorem State.runCmd_fuses (s : State) (f c op : Nat) (g : Nat → State → State) (hf : ∀ e u, (g e u).fuses = u.fuses) : (State.runCmd s f c op g).fuses = s.fuses := by
  unfold State.runCmd
  split
  · rfl
  · rw [hf]; simp

@[simp] theorem State.runBuf_pending (s : State) (f c op : Nat) (g : Nat → State → State) (hf : ∀ e u, (g e u).pending = u.pending) : (State.runBuf s f c op g).pending = s.pending := by
  unfold State.runBuf
  split
  · exact State.runCmd_pending s f c op g hf
  · rfl

@[simp] theorem State.runBuf_fuses (s : State) (f c op : Nat) (g : Nat → State → State) (hf : ∀ e u, (g e u).fuses = u.fuses) : (State.runBuf s f c op g).fuses = s.fuses := by
  unfold State.runBuf
  split
  · exact State.runCmd_fuses s f c op g hf
  · rfl

@[simp] theorem State.okData_pending (s : State) (f c e : Nat) (bytes : List Nat) (aux res : Nat) : (State.okData s f c e bytes aux res).pending = s.pending := by
  simp [State.okData]

@[simp] theorem State.okData_fuses (s : State) (f c e : Nat) (bytes : List Nat) (aux res : Nat) : (State.okData s f c e bytes aux res).fuses = s.fuses := by
  simp [State.okData]

@[simp] theorem ctxWrite_pending (s : State) (f c e : Nat) (buf : List Nat) : (ctxWrite s f c e buf).pending = s.pending := by
  simp [ctxWrite]

@[simp] theorem ctxWrite_fuses (s : State) (f c e : Nat) (buf : List Nat) : (ctxWrite s f c e buf).fuses = s.fuses := by
  simp [ctxWrite]

@[simp] theorem State.memberChange_pending (s : State) (g op n : Nat) : (State.memberChange s g op n).1.pending = s.pending := by
  simp [State.memberChange]

@[simp] theorem State.memberChange_fuses (s : State) (g op n : Nat) : (State.memberChange s g op n).1.fuses = s.fuses := by
  simp [State.memberChange]

@[simp] theorem grpMembers_pending (s : State) (f c e : Nat) : (grpMembers s f c e).pending = s.pending := by
  simp [grpMembers]

@[simp] theorem grpMembers_fuses (s : State) (f c e : Nat) : (grpMembers s f c e).fuses = s.fuses := by
  simp [grpMembers]

@[simp] theorem State.mbxTiming_pending (s : State) (f c op : Nat) (ok : Nat → Bool) (cmd : State → Nat → TCmd) : (State.mbxTiming s f c op ok cmd).pending = s.pending := by
  simp [State.mbxTiming]

@[simp] theorem State.mbxTiming_fuses (s : State) (f c op : Nat) (ok : Nat → Bool) (cmd : State → Nat → TCmd) : (State.mbxTiming s f c op ok cmd).fuses = s.fuses := by
  simp [State.mbxTiming]

@[simp] theorem takeAbortCmd_pending (s : State) (f c t : Nat) : (takeAbortCmd s f c t).pending = s.pending := by
  simp [takeAbortCmd]

@[simp] theorem takeAbortCmd_fuses (s : State) (f c t : Nat) : (takeAbortCmd s f c t).fuses = s.fuses := by
  simp [takeAbortCmd]

@[simp] theorem intvRead_pending (s : State) (f c e : Nat) : (intvRead s f c e).pending = s.pending := by
  simp [intvRead]

@[simp] theorem intvRead_fuses (s : State) (f c e : Nat) : (intvRead s f c e).fuses = s.fuses := by
  simp [intvRead]

@[simp] theorem State.dmaFault_pending (s : State) (f c addr res : Nat) : (State.dmaFault s f c addr res).pending = s.pending := by
  simp [State.dmaFault]

@[simp] theorem State.dmaFault_fuses (s : State) (f c addr res : Nat) : (State.dmaFault s f c addr res).fuses = s.fuses := by
  simp [State.dmaFault]

@[simp] theorem dmaError_pending (s : State) (f c e : Nat) (got : List Nat) : (dmaError s f c e got).pending = s.pending := by
  simp [dmaError]

@[simp] theorem dmaError_fuses (s : State) (f c e : Nat) (got : List Nat) : (dmaError s f c e got).fuses = s.fuses := by
  simp [dmaError]

end Sys2Proof.Machine
end

