-- ==== Sys2Proof/Laws/Kept/Board.lean ====
section
/-! SUPPORT. No operation of Machine/Board.lean touches the queue of commands or the fuses. -/

set_option Elab.async false

namespace Sys2Proof.Machine

@[simp] theorem State.modBoard_pending (s : State) (f : Board → Board) : (State.modBoard s f).pending = s.pending := by
  simp [State.modBoard]

@[simp] theorem State.modBoard_fuses (s : State) (f : Board → Board) : (State.modBoard s f).fuses = s.fuses := by
  simp [State.modBoard]

@[simp] theorem State.newTag_pending (s : State) : (State.newTag s).2.pending = s.pending := by
  simp [State.newTag]

@[simp] theorem State.newTag_fuses (s : State) : (State.newTag s).2.fuses = s.fuses := by
  simp [State.newTag]

@[simp] theorem State.popItem_pending (s : State) (p : Nat) : (State.popItem s p).pending = s.pending := by
  simp [State.popItem]

@[simp] theorem State.popItem_fuses (s : State) (p : Nat) : (State.popItem s p).fuses = s.fuses := by
  simp [State.popItem]

@[simp] theorem State.onItem_pending (s : State) (p : Nat) (f : Nat → LinkItem → Option (State → State)) (hf : ∀ a i h, f a i = some h → ∀ u, (h u).pending = u.pending) : (State.onItem s p f).pending = s.pending := by
  unfold State.onItem
  split
  · rfl
  · split
    · rfl
    · rename_i h
      rw [hf _ _ _ h]; simp

@[simp] theorem State.onItem_fuses (s : State) (p : Nat) (f : Nat → LinkItem → Option (State → State)) (hf : ∀ a i h, f a i = some h → ∀ u, (h u).fuses = u.fuses) : (State.onItem s p f).fuses = s.fuses := by
  unfold State.onItem
  split
  · rfl
  · split
    · rfl
    · rename_i h
      rw [hf _ _ _ h]; simp

@[simp] theorem State.noteWiring_pending (s : State) (boards : List (Nat × Nat)) : (State.noteWiring s boards).pending = s.pending := by
  simp [State.noteWiring]

@[simp] theorem State.noteWiring_fuses (s : State) (boards : List (Nat × Nat)) : (State.noteWiring s boards).fuses = s.fuses := by
  simp [State.noteWiring]

@[simp] theorem State.enumResult_pending (s : State) (topo ndev code : Nat) : (State.enumResult s topo ndev code).pending = s.pending := by
  simp [State.enumResult]

@[simp] theorem State.enumResult_fuses (s : State) (topo ndev code : Nat) : (State.enumResult s topo ndev code).fuses = s.fuses := by
  simp [State.enumResult]

@[simp] theorem State.spread_pending (s : State) (but : Nat) (i : LinkItem) : (State.spread s but i).pending = s.pending := by
  simp [State.spread]

@[simp] theorem State.spread_fuses (s : State) (but : Nat) (i : LinkItem) : (State.spread s but i).fuses = s.fuses := by
  simp [State.spread]

@[simp] theorem State.enumCheck_pending (s : State) (devs : List Nat) (links : List (Nat × Nat × Nat × Nat)) : (State.enumCheck s devs links).pending = s.pending := by
  simp [State.enumCheck]

@[simp] theorem State.enumCheck_fuses (s : State) (devs : List Nat) (links : List (Nat × Nat × Nat × Nat)) : (State.enumCheck s devs links).fuses = s.fuses := by
  simp [State.enumCheck]

@[simp] theorem State.putGather_pending (s : State) (g : Gather) : (State.putGather s g).pending = s.pending := by
  simp [State.putGather]

@[simp] theorem State.putGather_fuses (s : State) (g : Gather) : (State.putGather s g).fuses = s.fuses := by
  simp [State.putGather]

@[simp] theorem State.gatherStep_pending (s : State) (g : Gather) : (State.gatherStep s g).pending = s.pending := by
  simp only [State.gatherStep]; repeat' split
  all_goals simp

@[simp] theorem State.gatherStep_fuses (s : State) (g : Gather) : (State.gatherStep s g).fuses = s.fuses := by
  simp only [State.gatherStep]; repeat' split
  all_goals simp

@[simp] theorem State.gatherJoin_pending (s : State) (org tag : Nat) (parent : Option Nat) : (State.gatherJoin s org tag parent).pending = s.pending := by
  simp [State.gatherJoin]

@[simp] theorem State.gatherJoin_fuses (s : State) (org tag : Nat) (parent : Option Nat) : (State.gatherJoin s org tag parent).fuses = s.fuses := by
  simp [State.gatherJoin]

@[simp] theorem State.gatherStart_pending (s : State) : (State.gatherStart s).pending = s.pending := by
  simp [State.gatherStart]

@[simp] theorem State.gatherStart_fuses (s : State) : (State.gatherStart s).fuses = s.fuses := by
  simp [State.gatherStart]

@[simp] theorem State.enumStart_pending (s : State) : (State.enumStart s).pending = s.pending := by
  simp [State.enumStart]

@[simp] theorem State.enumStart_fuses (s : State) : (State.enumStart s).fuses = s.fuses := by
  simp [State.enumStart]

@[simp] theorem State.onGather_pending (s : State) (p org tag : Nat) : (State.onGather s p org tag).pending = s.pending := by
  simp only [State.onGather]; split <;> simp

@[simp] theorem State.onGather_fuses (s : State) (p org tag : Nat) : (State.onGather s p org tag).fuses = s.fuses := by
  simp only [State.onGather]; split <;> simp

@[simp] theorem State.onReports_pending (s : State) (p org tag : Nat) (devs : List Nat) (links : List (Nat × Nat × Nat × Nat)) : (State.onReports s p org tag devs links).pending = s.pending := by
  simp only [State.onReports]; split <;> simp

@[simp] theorem State.onReports_fuses (s : State) (p org tag : Nat) (devs : List Nat) (links : List (Nat × Nat × Nat × Nat)) : (State.onReports s p org tag devs links).fuses = s.fuses := by
  simp only [State.onReports]; split <;> simp

@[simp] theorem State.gatherLost_pending (s : State) (p : Nat) : (State.gatherLost s p).pending = s.pending := by
  simp [State.gatherLost]

@[simp] theorem State.gatherLost_fuses (s : State) (p : Nat) : (State.gatherLost s p).fuses = s.fuses := by
  simp [State.gatherLost]

@[simp] theorem boardEnum_pending (s : State) (f c : Nat) : (boardEnum s f c).pending = s.pending := by
  unfold boardEnum; repeat' split
  all_goals simp

@[simp] theorem boardEnum_fuses (s : State) (f c : Nat) : (boardEnum s f c).fuses = s.fuses := by
  unfold boardEnum; repeat' split
  all_goals simp

@[simp] theorem State.noteLink_pending (s : State) (dev port but : Nat) (up : Bool) : (State.noteLink s dev port but up).pending = s.pending := by
  simp only [State.noteLink]; split <;> simp

@[simp] theorem State.noteLink_fuses (s : State) (dev port but : Nat) (up : Bool) : (State.noteLink s dev port but up).fuses = s.fuses := by
  simp only [State.noteLink]; split <;> simp

@[simp] theorem State.setAligned_pending (s : State) (n : Nat) : (State.setAligned s n).pending = s.pending := by
  simp [State.setAligned]

@[simp] theorem State.setAligned_fuses (s : State) (n : Nat) : (State.setAligned s n).fuses = s.fuses := by
  simp [State.setAligned]

@[simp] theorem State.addTb_pending (s : State) (n : Nat) (c : Int) : (State.addTb s n c).pending = s.pending := by
  simp [State.addTb]

@[simp] theorem State.addTb_fuses (s : State) (n : Nat) (c : Int) : (State.addTb s n c).fuses = s.fuses := by
  simp [State.addTb]

@[simp] theorem State.tbadjWrite_pending (s : State) (n : Nat) (w : Word) : (State.tbadjWrite s n w).pending = s.pending := by
  simp [State.tbadjWrite]

@[simp] theorem State.tbadjWrite_fuses (s : State) (n : Nat) (w : Word) : (State.tbadjWrite s n w).fuses = s.fuses := by
  simp [State.tbadjWrite]

@[simp] theorem State.alignBegin_pending (s : State) (p root dev why req n : Nat) : (State.alignBegin s p root dev why req n).pending = s.pending := by
  simp [State.alignBegin]

@[simp] theorem State.alignBegin_fuses (s : State) (p root dev why req n : Nat) : (State.alignBegin s p root dev why req n).fuses = s.fuses := by
  simp [State.alignBegin]

@[simp] theorem State.alignChild_pending (s : State) (req root dev : Nat) : (State.alignChild s req root dev).pending = s.pending := by
  simp only [State.alignChild]; split <;> simp

@[simp] theorem State.alignChild_fuses (s : State) (req root dev : Nat) : (State.alignChild s req root dev).fuses = s.fuses := by
  simp only [State.alignChild]; split <;> simp

@[simp] theorem State.alignInfo_pending (s : State) (p root : Nat) (locked : Bool) (settings : List Nat) (idle : Bool) : (State.alignInfo s p root locked settings idle).pending = s.pending := by
  simp only [State.alignInfo]; split <;> simp

@[simp] theorem State.alignInfo_fuses (s : State) (p root : Nat) (locked : Bool) (settings : List Nat) (idle : Bool) : (State.alignInfo s p root locked settings idle).fuses = s.fuses := by
  simp only [State.alignInfo]; split <;> simp

@[simp] theorem State.correctSelf_pending (s : State) (root : Nat) (c k res : Int) (track : Bool) : (State.correctSelf s root c k res track).1.pending = s.pending := by
  simp [State.correctSelf]

@[simp] theorem State.correctSelf_fuses (s : State) (root : Nat) (c k res : Int) (track : Bool) : (State.correctSelf s root c k res track).1.fuses = s.fuses := by
  simp [State.correctSelf]

@[simp] theorem State.alignNext_pending (s : State) (a : AlignRun) (x0 : Nat) : (State.alignNext s a x0).pending = s.pending := by
  induction x0 generalizing s a with
  | zero => rfl
  | succ k ih =>
    unfold State.alignNext; dsimp only
    repeat' split
    all_goals first | rfl | (rw [ih]; done) | simp

@[simp] theorem State.alignNext_fuses (s : State) (a : AlignRun) (x0 : Nat) : (State.alignNext s a x0).fuses = s.fuses := by
  induction x0 generalizing s a with
  | zero => rfl
  | succ k ih =>
    unfold State.alignNext; dsimp only
    repeat' split
    all_goals first | rfl | (rw [ih]; done) | simp

@[simp] theorem State.alignResult_pending (s : State) (root dev code : Nat) (data : List Int) : (State.alignResult s root dev code data).pending = s.pending := by
  simp only [State.alignResult]; split <;> simp

@[simp] theorem State.alignResult_fuses (s : State) (root dev code : Nat) (data : List Int) : (State.alignResult s root dev code data).fuses = s.fuses := by
  simp only [State.alignResult]; split <;> simp

@[simp] theorem boardAlign_pending (s : State) (f c e : Nat) : (boardAlign s f c e).pending = s.pending := by
  simp [boardAlign]

@[simp] theorem boardAlign_fuses (s : State) (f c e : Nat) : (boardAlign s f c e).fuses = s.fuses := by
  simp [boardAlign]

@[simp] theorem State.clapDone_pending (s : State) (q : ClapReq) : (State.clapDone s q).pending = s.pending := by
  simp only [State.clapDone]; split <;> simp

@[simp] theorem State.clapDone_fuses (s : State) (q : ClapReq) : (State.clapDone s q).fuses = s.fuses := by
  simp only [State.clapDone]; split <;> simp

@[simp] theorem State.startClap_pending (s : State) (src : Src) (root t targets : Nat) : (State.startClap s src root t targets).pending = s.pending := by
  simp only [State.startClap]; repeat' split
  all_goals simp

@[simp] theorem State.startClap_fuses (s : State) (src : Src) (root t targets : Nat) : (State.startClap s src root t targets).fuses = s.fuses := by
  simp only [State.startClap]; repeat' split
  all_goals simp

@[simp] theorem State.clapAnswer_pending (s : State) (tag dev code : Nat) : (State.clapAnswer s tag dev code).pending = s.pending := by
  simp only [State.clapAnswer]; split <;> simp

@[simp] theorem State.clapAnswer_fuses (s : State) (tag dev code : Nat) : (State.clapAnswer s tag dev code).fuses = s.fuses := by
  simp only [State.clapAnswer]; split <;> simp

@[simp] theorem State.clapReply_pending (s : State) (org tag code : Nat) : (State.clapReply s org tag code).pending = s.pending := by
  simp [State.clapReply]

@[simp] theorem State.clapReply_fuses (s : State) (org tag code : Nat) : (State.clapReply s org tag code).fuses = s.fuses := by
  simp [State.clapReply]

@[simp] theorem clapperFire_pending (s : State) (n t : Nat) : (clapperFire s n t).pending = s.pending := by
  simp [clapperFire]

@[simp] theorem clapperFire_fuses (s : State) (n t : Nat) : (clapperFire s n t).fuses = s.fuses := by
  simp [clapperFire]

@[simp] theorem State.dropPrep_pending (s : State) (tag : Nat) : (State.dropPrep s tag).pending = s.pending := by
  simp [State.dropPrep]

@[simp] theorem State.dropPrep_fuses (s : State) (tag : Nat) : (State.dropPrep s tag).fuses = s.fuses := by
  simp [State.dropPrep]

@[simp] theorem State.putXhop_pending (s : State) (x : XHopRun) : (State.putXhop s x).pending = s.pending := by
  simp [State.putXhop]

@[simp] theorem State.putXhop_fuses (s : State) (x : XHopRun) : (State.putXhop s x).fuses = s.fuses := by
  simp [State.putXhop]

@[simp] theorem State.xhopStep_pending (s : State) (x : XHopRun) : (State.xhopStep s x).pending = s.pending := by
  simp [State.xhopStep]

@[simp] theorem State.xhopStep_fuses (s : State) (x : XHopRun) : (State.xhopStep s x).fuses = s.fuses := by
  simp [State.xhopStep]

@[simp] theorem State.xhopAnswer_pending (s : State) (tag dev code : Nat) : (State.xhopAnswer s tag dev code).pending = s.pending := by
  simp only [State.xhopAnswer]; split <;> simp

@[simp] theorem State.xhopAnswer_fuses (s : State) (tag dev code : Nat) : (State.xhopAnswer s tag dev code).fuses = s.fuses := by
  simp only [State.xhopAnswer]; split <;> simp

@[simp] theorem xhop_pending (s : State) (f c e : Nat) : (xhop s f c e).pending = s.pending := by
  simp [xhop]

@[simp] theorem xhop_fuses (s : State) (f c e : Nat) : (xhop s f c e).fuses = s.fuses := by
  simp [xhop]

@[simp] theorem State.putXtake_pending (s : State) (x : XTakeRun) : (State.putXtake s x).pending = s.pending := by
  simp [State.putXtake]

@[simp] theorem State.putXtake_fuses (s : State) (x : XTakeRun) : (State.putXtake s x).fuses = s.fuses := by
  simp [State.putXtake]

@[simp] theorem State.dropXtake_pending (s : State) (tag : Nat) : (State.dropXtake s tag).pending = s.pending := by
  simp [State.dropXtake]

@[simp] theorem State.dropXtake_fuses (s : State) (tag : Nat) : (State.dropXtake s tag).fuses = s.fuses := by
  simp [State.dropXtake]

@[simp] theorem State.xtakeEnd_pending (s : State) (x : XTakeRun) (ds : List XDone) : (State.xtakeEnd s x ds).pending = s.pending := by
  simp [State.xtakeEnd]

@[simp] theorem State.xtakeEnd_fuses (s : State) (x : XTakeRun) (ds : List XDone) : (State.xtakeEnd s x ds).fuses = s.fuses := by
  simp [State.xtakeEnd]

@[simp] theorem State.xtakeRefuse_pending (s : State) (x : XTakeRun) (codes : List Nat) (i : Nat) : (State.xtakeRefuse s x codes i).pending = s.pending := by
  simp [State.xtakeRefuse]

@[simp] theorem State.xtakeRefuse_fuses (s : State) (x : XTakeRun) (codes : List Nat) (i : Nat) : (State.xtakeRefuse s x codes i).fuses = s.fuses := by
  simp [State.xtakeRefuse]

@[simp] theorem State.xtakeAll_pending (s : State) (x : XTakeRun) (ask : Nat × Nat → Nat → LinkItem) (lost : Nat → Nat → LinkItem) : (State.xtakeAll s x ask lost).pending = s.pending := by
  simp [State.xtakeAll]

@[simp] theorem State.xtakeAll_fuses (s : State) (x : XTakeRun) (ask : Nat × Nat → Nat → LinkItem) (lost : Nat → Nat → LinkItem) : (State.xtakeAll s x ask lost).fuses = s.fuses := by
  simp [State.xtakeAll]

@[simp] theorem State.xtakeStep_pending (s : State) (x : XTakeRun) : (State.xtakeStep s x).pending = s.pending := by
  simp only [State.xtakeStep]; repeat' split
  all_goals simp

@[simp] theorem State.xtakeStep_fuses (s : State) (x : XTakeRun) : (State.xtakeStep s x).fuses = s.fuses := by
  simp only [State.xtakeStep]; repeat' split
  all_goals simp

@[simp] theorem State.xtakeAsked_pending (s : State) (tag idx code : Nat) : (State.xtakeAsked s tag idx code).pending = s.pending := by
  simp only [State.xtakeAsked]; split <;> simp

@[simp] theorem State.xtakeAsked_fuses (s : State) (tag idx code : Nat) : (State.xtakeAsked s tag idx code).fuses = s.fuses := by
  simp only [State.xtakeAsked]; split <;> simp

@[simp] theorem State.xtakeArmed_pending (s : State) (tag idx code : Nat) : (State.xtakeArmed s tag idx code).pending = s.pending := by
  simp only [State.xtakeArmed]; split <;> simp

@[simp] theorem State.xtakeArmed_fuses (s : State) (tag idx code : Nat) : (State.xtakeArmed s tag idx code).fuses = s.fuses := by
  simp only [State.xtakeArmed]; split <;> simp

@[simp] theorem xtake_pending (s : State) (f c e : Nat) : (xtake s f c e).pending = s.pending := by
  simp [xtake]

@[simp] theorem xtake_fuses (s : State) (f c e : Nat) : (xtake s f c e).fuses = s.fuses := by
  simp [xtake]

@[simp] theorem State.failXhop_pending (gone : List Nat) (s : State) (x : XHopRun) : (State.failXhop gone s x).pending = s.pending := by
  exact State.foldl_pending _ _ s (fun u d => by simp)

@[simp] theorem State.failXhop_fuses (gone : List Nat) (s : State) (x : XHopRun) : (State.failXhop gone s x).fuses = s.fuses := by
  exact State.foldl_fuses _ _ s (fun u d => by simp)

@[simp] theorem State.failXpair_pending (tag : Nat) (s : State) (q : Nat × Nat × Nat) : (State.failXpair tag s q).pending = s.pending := by
  simp only [State.failXpair]; split <;> simp

@[simp] theorem State.failXpair_fuses (tag : Nat) (s : State) (q : Nat × Nat × Nat) : (State.failXpair tag s q).fuses = s.fuses := by
  simp only [State.failXpair]; split <;> simp

@[simp] theorem State.failXtake_pending (gone : List Nat) (s : State) (x : XTakeRun) : (State.failXtake gone s x).pending = s.pending := by
  exact State.foldl_pending _ (State.failXpair x.tag) s (fun u q => by simp)

@[simp] theorem State.failXtake_fuses (gone : List Nat) (s : State) (x : XTakeRun) : (State.failXtake gone s x).fuses = s.fuses := by
  exact State.foldl_fuses _ (State.failXpair x.tag) s (fun u q => by simp)

@[simp] theorem State.failAlign_pending (gone : List Nat) (s : State) (a : AlignRun) : (State.failAlign gone s a).pending = s.pending := by
  simp only [State.failAlign]; split <;> simp

@[simp] theorem State.failAlign_fuses (gone : List Nat) (s : State) (a : AlignRun) : (State.failAlign gone s a).fuses = s.fuses := by
  simp only [State.failAlign]; split <;> simp

@[simp] theorem State.failLost_pending (s : State) : (State.failLost s).pending = s.pending := by
  unfold State.failLost
  exact (State.foldl_pending _ (State.failAlign _) _ (fun u a => by simp)).trans
    ((State.foldl_pending _ (State.failXtake _) _ (fun u x => by simp)).trans (State.foldl_pending _ (State.failXhop _) _ (fun u x => by simp)))

@[simp] theorem State.failLost_fuses (s : State) : (State.failLost s).fuses = s.fuses := by
  unfold State.failLost
  exact (State.foldl_fuses _ (State.failAlign _) _ (fun u a => by simp)).trans
    ((State.foldl_fuses _ (State.failXtake _) _ (fun u x => by simp)).trans (State.foldl_fuses _ (State.failXhop _) _ (fun u x => by simp)))

@[simp] theorem State.onLinkState_pending (s : State) (p dev port : Nat) (up : Bool) : (State.onLinkState s p dev port up).pending = s.pending := by
  simp [State.onLinkState]

@[simp] theorem State.onLinkState_fuses (s : State) (p dev port : Nat) (up : Bool) : (State.onLinkState s p dev port up).fuses = s.fuses := by
  simp [State.onLinkState]

@[simp] theorem State.childBegin_pending (s : State) (p root : Nat) : (State.childBegin s p root).pending = s.pending := by
  simp [State.childBegin]

@[simp] theorem State.childBegin_fuses (s : State) (p root : Nat) : (State.childBegin s p root).fuses = s.fuses := by
  simp [State.childBegin]

@[simp] theorem State.onMessage_pending (s : State) (p src : Nat) (x0 : FwMsg) : (State.onMessage s p src x0).pending = s.pending := by
  unfold State.onMessage; repeat' split
  all_goals simp

@[simp] theorem State.onMessage_fuses (s : State) (p src : Nat) (x0 : FwMsg) : (State.onMessage s p src x0).fuses = s.fuses := by
  unfold State.onMessage; repeat' split
  all_goals simp

end Sys2Proof.Machine
end

