-- ==== Sys2Proof/Laws/Kept/Resets.lean ====
section
/-! SUPPORT. No operation of Machine/Resets.lean touches the queue of commands or the fuses. -/

set_option Elab.async false

namespace Sys2Proof.Machine

@[simp] theorem State.daily_pending (s : State) (code unit detail : Nat) : (State.daily s code unit detail).pending = s.pending := by
  simp [State.daily]

@[simp] theorem State.daily_fuses (s : State) (code unit detail : Nat) : (State.daily s code unit detail).fuses = s.fuses := by
  simp [State.daily]

@[simp] theorem State.fuseRegs_pending (s : State) : (State.fuseRegs s).pending = s.pending := by
  simp [State.fuseRegs]

@[simp] theorem State.fuseRegs_fuses (s : State) : (State.fuseRegs s).fuses = s.fuses := by
  simp [State.fuseRegs]

@[simp] theorem State.afterReset_pending (s : State) : (State.afterReset s).pending = s.pending := by
  simp [State.afterReset]

@[simp] theorem State.afterReset_fuses (s : State) : (State.afterReset s).fuses = s.fuses := by
  simp [State.afterReset]

@[simp] theorem State.deviceReset_pending (s : State) (code : Nat) : (State.deviceReset s code).pending = s.pending := by
  simp [State.deviceReset]

@[simp] theorem State.deviceReset_fuses (s : State) (code : Nat) : (State.deviceReset s code).fuses = s.fuses := by
  simp [State.deviceReset]

@[simp] theorem State.powerOn_pending (s : State) : (State.powerOn s).pending = s.pending := by
  simp [State.powerOn]

@[simp] theorem State.powerOn_fuses (s : State) : (State.powerOn s).fuses = s.fuses := by
  simp [State.powerOn]

@[simp] theorem State.stage_pending (s : State) (k : Nat) : (State.stage s k).pending = s.pending := by
  simp [State.stage]

@[simp] theorem State.stage_fuses (s : State) (k : Nat) : (State.stage s k).fuses = s.fuses := by
  simp [State.stage]

end Sys2Proof.Machine
end

