-- ==== Sys2Proof/Laws/Kept/Clocks.lean ====
section
/-! SUPPORT. No operation of Machine/Clocks.lean touches the queue of commands or the fuses. -/

set_option Elab.async false

namespace Sys2Proof.Machine

@[simp] theorem State.domSettle_pending (s : State) (d : Nat) : (State.domSettle s d).pending = s.pending := by
  simp [State.domSettle]

@[simp] theorem State.domSettle_fuses (s : State) (d : Nat) : (State.domSettle s d).fuses = s.fuses := by
  simp [State.domSettle]

@[simp] theorem State.settleAll_pending (s : State) : (State.settleAll s).pending = s.pending := by
  simp [State.settleAll]

@[simp] theorem State.settleAll_fuses (s : State) : (State.settleAll s).fuses = s.fuses := by
  simp [State.settleAll]

@[simp] theorem State.sptGate_pending (s : State) : (State.sptGate s).pending = s.pending := by
  simp [State.sptGate]

@[simp] theorem State.sptGate_fuses (s : State) : (State.sptGate s).fuses = s.fuses := by
  simp [State.sptGate]

@[simp] theorem State.pllFollow_pending (s : State) : (State.pllFollow s).pending = s.pending := by
  simp [State.pllFollow]

@[simp] theorem State.pllFollow_fuses (s : State) : (State.pllFollow s).fuses = s.fuses := by
  simp [State.pllFollow]

@[simp] theorem State.bootClocks_pending (s : State) : (State.bootClocks s).pending = s.pending := by
  simp [State.bootClocks]

@[simp] theorem State.bootClocks_fuses (s : State) : (State.bootClocks s).fuses = s.fuses := by
  simp [State.bootClocks]

@[simp] theorem State.bootTargets_pending (s : State) : (State.bootTargets s).pending = s.pending := by
  simp [State.bootTargets]

@[simp] theorem State.bootTargets_fuses (s : State) : (State.bootTargets s).fuses = s.fuses := by
  simp [State.bootTargets]

@[simp] theorem State.clkFail_pending (s : State) (cause : Nat) : (State.clkFail s cause).pending = s.pending := by
  simp [State.clkFail]

@[simp] theorem State.clkFail_fuses (s : State) (cause : Nat) : (State.clkFail s cause).fuses = s.fuses := by
  simp [State.clkFail]

@[simp] theorem State.xoAgain_pending (s : State) (cut : Bool) : (State.xoAgain s cut).pending = s.pending := by
  simp [State.xoAgain]

@[simp] theorem State.xoAgain_fuses (s : State) (cut : Bool) : (State.xoAgain s cut).fuses = s.fuses := by
  simp [State.xoAgain]

@[simp] theorem State.xoPass_pending (s : State) (count : Nat) : (State.xoPass s count).pending = s.pending := by
  simp [State.xoPass]

@[simp] theorem State.xoPass_fuses (s : State) (count : Nat) : (State.xoPass s count).fuses = s.fuses := by
  simp [State.xoPass]

@[simp] theorem xoStable_pending (s : State) : (xoStable s).pending = s.pending := by
  simp [xoStable]

@[simp] theorem xoStable_fuses (s : State) : (xoStable s).fuses = s.fuses := by
  simp [xoStable]

@[simp] theorem State.xoPassed_pending (s : State) (count : Nat) : (State.xoPassed s count).pending = s.pending := by
  simp [State.xoPassed]

@[simp] theorem State.xoPassed_fuses (s : State) (count : Nat) : (State.xoPassed s count).fuses = s.fuses := by
  simp [State.xoPassed]

@[simp] theorem cpllLock_pending (s : State) : (cpllLock s).pending = s.pending := by
  simp [cpllLock]

@[simp] theorem cpllLock_fuses (s : State) : (cpllLock s).fuses = s.fuses := by
  simp [cpllLock]

@[simp] theorem ircFail_pending (s : State) : (ircFail s).pending = s.pending := by
  simp [ircFail]

@[simp] theorem ircFail_fuses (s : State) : (ircFail s).fuses = s.fuses := by
  simp [ircFail]

@[simp] theorem State.domCfgWrite_pending (s : State) (d : Nat) (w : Word) : (State.domCfgWrite s d w).pending = s.pending := by
  simp [State.domCfgWrite]

@[simp] theorem State.domCfgWrite_fuses (s : State) (d : Nat) (w : Word) : (State.domCfgWrite s d w).fuses = s.fuses := by
  simp [State.domCfgWrite]

@[simp] theorem State.cpllWrite_pending (s : State) (w : Word) : (State.cpllWrite s w).pending = s.pending := by
  simp [State.cpllWrite]

@[simp] theorem State.cpllWrite_fuses (s : State) (w : Word) : (State.cpllWrite s w).fuses = s.fuses := by
  simp [State.cpllWrite]

@[simp] theorem dividerStep_pending (s : State) (d : Nat) : (dividerStep s d).pending = s.pending := by
  simp [dividerStep]

@[simp] theorem dividerStep_fuses (s : State) (d : Nat) : (dividerStep s d).fuses = s.fuses := by
  simp [dividerStep]

@[simp] theorem forcedSwitch_pending (s : State) (d : Nat) : (forcedSwitch s d).pending = s.pending := by
  simp [forcedSwitch]

@[simp] theorem forcedSwitch_fuses (s : State) (d : Nat) : (forcedSwitch s d).fuses = s.fuses := by
  simp [forcedSwitch]

end Sys2Proof.Machine
end

