-- ==== Sys2Proof/Laws/Kept/Tracker.lean ====
section
/-! SUPPORT. No operation of Machine/Tracker.lean touches the queue of commands or the fuses. -/

set_option Elab.async false

namespace Sys2Proof.Machine

@[simp] theorem calrefWindow_pending (s : State) (count : Nat) : (calrefWindow s count).pending = s.pending := by
  simp [calrefWindow]

@[simp] theorem calrefWindow_fuses (s : State) (count : Nat) : (calrefWindow s count).fuses = s.fuses := by
  simp [calrefWindow]

@[simp] theorem State.refcfgWrite_pending (s : State) (w : Word) : (State.refcfgWrite s w).pending = s.pending := by
  simp [State.refcfgWrite]

@[simp] theorem State.refcfgWrite_fuses (s : State) (w : Word) : (State.refcfgWrite s w).fuses = s.fuses := by
  simp [State.refcfgWrite]

@[simp] theorem State.calctrlPut_pending (s : State) (n : Nat) (w : Word) : (State.calctrlPut s n w).pending = s.pending := by
  simp [State.calctrlPut]

@[simp] theorem State.calctrlPut_fuses (s : State) (n : Nat) (w : Word) : (State.calctrlPut s n w).fuses = s.fuses := by
  simp [State.calctrlPut]

@[simp] theorem State.calctrlWrite_pending (s : State) (src : Source) (n : Nat) (w : Word) : (State.calctrlWrite s src n w).pending = s.pending := by
  simp [State.calctrlWrite]

@[simp] theorem State.calctrlWrite_fuses (s : State) (src : Source) (n : Nat) (w : Word) : (State.calctrlWrite s src n w).fuses = s.fuses := by
  simp [State.calctrlWrite]

@[simp] theorem cdrvStart_pending (s0 : State) (n : Nat) : (cdrvStart s0 n).pending = s0.pending := by
  simp [cdrvStart]

@[simp] theorem cdrvStart_fuses (s0 : State) (n : Nat) : (cdrvStart s0 n).fuses = s0.fuses := by
  simp [cdrvStart]

@[simp] theorem State.applyTrim_pending (s : State) (n : Nat) (v : Int) : (State.applyTrim s n v).pending = s.pending := by
  simp [State.applyTrim]

@[simp] theorem State.applyTrim_fuses (s : State) (n : Nat) (v : Int) : (State.applyTrim s n v).fuses = s.fuses := by
  simp [State.applyTrim]

@[simp] theorem trimStep_pending (s : State) (n : Nat) (v : Int) : (trimStep s n v).pending = s.pending := by
  simp [trimStep]

@[simp] theorem trimStep_fuses (s : State) (n : Nat) (v : Int) : (trimStep s n v).fuses = s.fuses := by
  simp [trimStep]

@[simp] theorem State.setTrk_pending (s : State) (b : Nat) (x : Trk) : (State.setTrk s b x).pending = s.pending := by
  simp [State.setTrk]

@[simp] theorem State.setTrk_fuses (s : State) (b : Nat) (x : Trk) : (State.setTrk s b x).fuses = s.fuses := by
  simp [State.setTrk]

@[simp] theorem State.trkConflict_pending (s : State) (b bound : Nat) : (State.trkConflict s b bound).pending = s.pending := by
  simp [State.trkConflict]

@[simp] theorem State.trkConflict_fuses (s : State) (b bound : Nat) : (State.trkConflict s b bound).fuses = s.fuses := by
  simp [State.trkConflict]

@[simp] theorem State.trkClamp_pending (s : State) (b : Nat) (g o : Int) : (State.trkClamp s b g o).pending = s.pending := by
  simp [State.trkClamp]

@[simp] theorem State.trkClamp_fuses (s : State) (b : Nat) (g o : Int) : (State.trkClamp s b g o).fuses = s.fuses := by
  simp [State.trkClamp]

@[simp] theorem trkUpdate_pending (s : State) (b : Nat) (mG mO : Int) : (trkUpdate s b mG mO).pending = s.pending := by
  simp [trkUpdate]

@[simp] theorem trkUpdate_fuses (s : State) (b : Nat) (mG mO : Int) : (trkUpdate s b mG mO).fuses = s.fuses := by
  simp [trkUpdate]

@[simp] theorem State.driftSets_pending (s : State) (b : Nat) : (State.driftSets s b).pending = s.pending := by
  simp [State.driftSets]

@[simp] theorem State.driftSets_fuses (s : State) (b : Nat) : (State.driftSets s b).fuses = s.fuses := by
  simp [State.driftSets]

@[simp] theorem trackerUpdate_pending (s : State) (b : Nat) (t : Nat) (overlap : Bool) (mG mO : Int) : (trackerUpdate s b t overlap mG mO).pending = s.pending := by
  simp [trackerUpdate]

@[simp] theorem trackerUpdate_fuses (s : State) (b : Nat) (t : Nat) (overlap : Bool) (mG mO : Int) : (trackerUpdate s b t overlap mG mO).fuses = s.fuses := by
  simp [trackerUpdate]

@[simp] theorem State.trkBoundWrite_pending (s : State) (b a : Nat) (w : Word) : (State.trkBoundWrite s b a w).pending = s.pending := by
  simp [State.trkBoundWrite]

@[simp] theorem State.trkBoundWrite_fuses (s : State) (b a : Nat) (w : Word) : (State.trkBoundWrite s b a w).fuses = s.fuses := by
  simp [State.trkBoundWrite]

@[simp] theorem driftSet_pending (s : State) (f c b : Nat) (g o : Int) : (driftSet s f c b g o).pending = s.pending := by
  simp [driftSet]

@[simp] theorem driftSet_fuses (s : State) (f c b : Nat) (g o : Int) : (driftSet s f c b g o).fuses = s.fuses := by
  simp [driftSet]

end Sys2Proof.Machine
end

