-- ==== Sys2Proof/Laws/Kept/Ledger.lean ====
section
/-! SUPPORT. No operation of Machine/Ledger.lean touches the queue of commands or the fuses. -/

set_option Elab.async false

namespace Sys2Proof.Machine

@[simp] theorem State.putDeskew_pending (s : State) (n : Nat) (v : Int) : (State.putDeskew s n v).pending = s.pending := by
  simp [State.putDeskew]

@[simp] theorem State.putDeskew_fuses (s : State) (n : Nat) (v : Int) : (State.putDeskew s n v).fuses = s.fuses := by
  simp [State.putDeskew]

@[simp] theorem State.putDtc_pending (s : State) (n : Nat) (l : List Nat) : (State.putDtc s n l).pending = s.pending := by
  simp [State.putDtc]

@[simp] theorem State.putDtc_fuses (s : State) (n : Nat) (l : List Nat) : (State.putDtc s n l).fuses = s.fuses := by
  simp [State.putDtc]

@[simp] theorem State.applyChan_pending (s : State) (n khz : Nat) (r : List Nat) : (State.applyChan s n khz r).pending = s.pending := by
  simp [State.applyChan]

@[simp] theorem State.applyChan_fuses (s : State) (n khz : Nat) (r : List Nat) : (State.applyChan s n khz r).fuses = s.fuses := by
  simp [State.applyChan]

@[simp] theorem State.putBit_pending (s : State) (r : Ref) (i v : Nat) : (State.putBit s r i v).pending = s.pending := by
  simp [State.putBit]

@[simp] theorem State.putBit_fuses (s : State) (r : Ref) (i v : Nat) : (State.putBit s r i v).fuses = s.fuses := by
  simp [State.putBit]

@[simp] theorem State.applyRoot_pending (s : State) (img : List Nat) (n : Nat) : (State.applyRoot s img n).pending = s.pending := by
  simp [State.applyRoot]

@[simp] theorem State.applyRoot_fuses (s : State) (img : List Nat) (n : Nat) : (State.applyRoot s img n).fuses = s.fuses := by
  simp [State.applyRoot]

@[simp] theorem State.applyBank_pending (s : State) (img : List Nat) (b : Nat) : (State.applyBank s img b).pending = s.pending := by
  simp [State.applyBank]

@[simp] theorem State.applyBank_fuses (s : State) (img : List Nat) (b : Nat) : (State.applyBank s img b).fuses = s.fuses := by
  simp [State.applyBank]

@[simp] theorem State.applyLink_pending (s : State) (img : List Nat) (p : Nat) : (State.applyLink s img p).pending = s.pending := by
  simp [State.applyLink]

@[simp] theorem State.applyLink_fuses (s : State) (img : List Nat) (p : Nat) : (State.applyLink s img p).fuses = s.fuses := by
  simp [State.applyLink]

@[simp] theorem State.applyChans_pending (s : State) (khz : Nat → Nat) (x0 : Nat) (x1 : Nat) (x2 : List Nat) : (State.applyChans s khz x0 x1 x2).pending = s.pending := by
  induction x0 generalizing s x1 x2 with
  | zero => rfl
  | succ k ih => unfold State.applyChans; rw [ih]; simp

@[simp] theorem State.applyChans_fuses (s : State) (khz : Nat → Nat) (x0 : Nat) (x1 : Nat) (x2 : List Nat) : (State.applyChans s khz x0 x1 x2).fuses = s.fuses := by
  induction x0 generalizing s x1 x2 with
  | zero => rfl
  | succ k ih => unfold State.applyChans; rw [ih]; simp

@[simp] theorem State.applyLedger_pending (s : State) (img : List Nat) : (State.applyLedger s img).pending = s.pending := by
  simp [State.applyLedger]

@[simp] theorem State.applyLedger_fuses (s : State) (img : List Nat) : (State.applyLedger s img).fuses = s.fuses := by
  simp [State.applyLedger]

@[simp] theorem State.octetLedger_pending (s : State) (k : Nat) : (State.octetLedger s k).pending = s.pending := by
  simp [State.octetLedger]

@[simp] theorem State.octetLedger_fuses (s : State) (k : Nat) : (State.octetLedger s k).fuses = s.fuses := by
  simp [State.octetLedger]

@[simp] theorem State.setFolio_pending (s : State) (i : Nat) (x : Folio) : (State.setFolio s i x).pending = s.pending := by
  simp [State.setFolio]

@[simp] theorem State.setFolio_fuses (s : State) (i : Nat) (x : Folio) : (State.setFolio s i x).fuses = s.fuses := by
  simp [State.setFolio]

@[simp] theorem State.showFolios_pending (s : State) : (State.showFolios s).pending = s.pending := by
  simp [State.showFolios]

@[simp] theorem State.showFolios_fuses (s : State) : (State.showFolios s).fuses = s.fuses := by
  simp [State.showFolios]

@[simp] theorem State.folioBoot_pending (s : State) : (State.folioBoot s).pending = s.pending := by
  simp only [State.folioBoot]; split <;> simp

@[simp] theorem State.folioBoot_fuses (s : State) : (State.folioBoot s).fuses = s.fuses := by
  simp only [State.folioBoot]; split <;> simp

@[simp] theorem State.stage0_pending (s : State) (bytes : List Nat) : (State.stage0 s bytes).pending = s.pending := by
  simp [State.stage0]

@[simp] theorem State.stage0_fuses (s : State) (bytes : List Nat) : (State.stage0 s bytes).fuses = s.fuses := by
  simp [State.stage0]

@[simp] theorem ledgerImport_pending (s : State) (f c len : Nat) : (ledgerImport s f c len).pending = s.pending := by
  simp [ledgerImport]

@[simp] theorem ledgerImport_fuses (s : State) (f c len : Nat) : (ledgerImport s f c len).fuses = s.fuses := by
  simp [ledgerImport]

@[simp] theorem State.eraseFolio_pending (s : State) (i : Nat) : (State.eraseFolio s i).pending = s.pending := by
  unfold State.eraseFolio
  rw [State.setFolio_pending]
  exact State.foldl_pending _ _ s (fun u j => by simp)

@[simp] theorem State.eraseFolio_fuses (s : State) (i : Nat) : (State.eraseFolio s i).fuses = s.fuses := by
  unfold State.eraseFolio
  rw [State.setFolio_fuses]
  exact State.foldl_fuses _ _ s (fun u j => by simp)

@[simp] theorem State.programFolio_pending (s : State) (i : Nat) (bytes : List Nat) : (State.programFolio s i bytes).pending = s.pending := by
  simp [State.programFolio]

@[simp] theorem State.programFolio_fuses (s : State) (i : Nat) (bytes : List Nat) : (State.programFolio s i bytes).fuses = s.fuses := by
  simp [State.programFolio]

@[simp] theorem State.flashFrames_pending (s : State) : (State.flashFrames s).pending = s.pending := by
  simp [State.flashFrames]

@[simp] theorem State.flashFrames_fuses (s : State) : (State.flashFrames s).fuses = s.fuses := by
  simp [State.flashFrames]

@[simp] theorem ledgerSave_pending (s : State) (f c time : Nat) (body seal_ : Bool) : (ledgerSave s f c time body seal_).pending = s.pending := by
  simp [ledgerSave]

@[simp] theorem ledgerSave_fuses (s : State) (f c time : Nat) (body seal_ : Bool) : (ledgerSave s f c time body seal_).fuses = s.fuses := by
  simp [ledgerSave]

end Sys2Proof.Machine
end

