-- ==== Sys2Proof/Laws/Kept/PmBus.lean ====
section
/-! SUPPORT. No operation of Machine/PmBus.lean touches the queue of commands or the fuses. -/

set_option Elab.async false

namespace Sys2Proof.Machine

@[simp] theorem State.pmStart_pending (s : State) : (State.pmStart s).pending = s.pending := by
  simp only [State.pmStart]; split <;> simp

@[simp] theorem State.pmStart_fuses (s : State) : (State.pmStart s).fuses = s.fuses := by
  simp only [State.pmStart]; split <;> simp

@[simp] theorem State.setPmQ_pending (s : State) (q : List PmTx) : (State.setPmQ s q).pending = s.pending := by
  simp [State.setPmQ]

@[simp] theorem State.setPmQ_fuses (s : State) (q : List PmTx) : (State.setPmQ s q).fuses = s.fuses := by
  simp [State.setPmQ]

@[simp] theorem State.pmPush_pending (s : State) (next : Bool) (l : List PmTx) : (State.pmPush s next l).pending = s.pending := by
  simp only [State.pmPush]; split <;> simp

@[simp] theorem State.pmPush_fuses (s : State) (next : Bool) (l : List PmTx) : (State.pmPush s next l).fuses = s.fuses := by
  simp only [State.pmPush]; split <;> simp

@[simp] theorem State.pmbInit_pending (s : State) : (State.pmbInit s).pending = s.pending := by
  simp [State.pmbInit]

@[simp] theorem State.pmbInit_fuses (s : State) : (State.pmbInit s).fuses = s.fuses := by
  simp [State.pmbInit]

@[simp] theorem State.pmFail_pending (s : State) (l : List PmTx) (code : Nat) : (State.pmFail s l code).pending = s.pending := by
  unfold State.pmFail
  refine State.foldl_pending l _ s (fun u x => ?_)
  split <;> simp

@[simp] theorem State.pmFail_fuses (s : State) (l : List PmTx) (code : Nat) : (State.pmFail s l code).fuses = s.fuses := by
  unfold State.pmFail
  refine State.foldl_fuses l _ s (fun u x => ?_)
  split <;> simp

@[simp] theorem State.pmbCtrlWrite_pending (s : State) (w : Word) : (State.pmbCtrlWrite s w).pending = s.pending := by
  simp [State.pmbCtrlWrite]

@[simp] theorem State.pmbCtrlWrite_fuses (s : State) (w : Word) : (State.pmbCtrlWrite s w).fuses = s.fuses := by
  simp [State.pmbCtrlWrite]

@[simp] theorem State.pmbCfgWrite_pending (s : State) (r : Nat) (w : Word) : (State.pmbCfgWrite s r w).pending = s.pending := by
  simp [State.pmbCfgWrite]

@[simp] theorem State.pmbCfgWrite_fuses (s : State) (r : Nat) (w : Word) : (State.pmbCfgWrite s r w).fuses = s.fuses := by
  simp [State.pmbCfgWrite]

@[simp] theorem pmbPoll_pending (s : State) : (pmbPoll s).pending = s.pending := by
  simp [pmbPoll]

@[simp] theorem pmbPoll_fuses (s : State) : (pmbPoll s).fuses = s.fuses := by
  simp [pmbPoll]

@[simp] theorem smbalert_pending (s : State) (low : Bool) : (smbalert s low).pending = s.pending := by
  simp [smbalert]

@[simp] theorem smbalert_fuses (s : State) (low : Bool) : (smbalert s low).fuses = s.fuses := by
  simp [smbalert]

@[simp] theorem State.statusWord_pending (s : State) (r v : Nat) : (State.statusWord s r v).pending = s.pending := by
  simp [State.statusWord]

@[simp] theorem State.statusWord_fuses (s : State) (r v : Nat) : (State.statusWord s r v).fuses = s.fuses := by
  simp [State.statusWord]

@[simp] theorem State.statusByte_pending (s : State) (r cmd v st : Nat) (bytes : List Nat) : (State.statusByte s r cmd v st bytes).pending = s.pending := by
  simp [State.statusByte]

@[simp] theorem State.statusByte_fuses (s : State) (r cmd v st : Nat) (bytes : List Nat) : (State.statusByte s r cmd v st bytes).fuses = s.fuses := by
  simp [State.statusByte]

@[simp] theorem State.alertFrom_pending (s : State) (v : Nat) : (State.alertFrom s v).pending = s.pending := by
  simp only [State.alertFrom]; split <;> simp

@[simp] theorem State.alertFrom_fuses (s : State) (v : Nat) : (State.alertFrom s v).fuses = s.fuses := by
  simp only [State.alertFrom]; split <;> simp

@[simp] theorem State.pmRead_pending (s : State) (x : PmTx) (v : Nat) : (State.pmRead s x v).pending = s.pending := by
  simp [State.pmRead]

@[simp] theorem State.pmRead_fuses (s : State) (x : PmTx) (v : Nat) : (State.pmRead s x v).fuses = s.fuses := by
  simp [State.pmRead]

@[simp] theorem State.pmDone_pending (s : State) (x : PmTx) (v : Nat) : (State.pmDone s x v).pending = s.pending := by
  simp only [State.pmDone]; split <;> simp

@[simp] theorem State.pmDone_fuses (s : State) (x : PmTx) (v : Nat) : (State.pmDone s x v).fuses = s.fuses := by
  simp only [State.pmDone]; split <;> simp

@[simp] theorem State.pmNoResp_pending (s : State) (x : PmTx) : (State.pmNoResp s x).pending = s.pending := by
  simp [State.pmNoResp]

@[simp] theorem State.pmNoResp_fuses (s : State) (x : PmTx) : (State.pmNoResp s x).fuses = s.fuses := by
  simp [State.pmNoResp]

@[simp] theorem pmbusDone_pending (s : State) (x : PmTx) (fail : Bool) (v : Nat) : (pmbusDone s x fail v).pending = s.pending := by
  simp [pmbusDone]

@[simp] theorem pmbusDone_fuses (s : State) (x : PmTx) (fail : Bool) (v : Nat) : (pmbusDone s x fail v).fuses = s.fuses := by
  simp [pmbusDone]

@[simp] theorem State.avsctrlWrite_pending (s : State) (w : Word) : (State.avsctrlWrite s w).pending = s.pending := by
  simp [State.avsctrlWrite]

@[simp] theorem State.avsctrlWrite_fuses (s : State) (w : Word) : (State.avsctrlWrite s w).fuses = s.fuses := by
  simp [State.avsctrlWrite]

@[simp] theorem State.avsbndWrite_pending (s : State) (w : Word) : (State.avsbndWrite s w).pending = s.pending := by
  simp [State.avsbndWrite]

@[simp] theorem State.avsbndWrite_fuses (s : State) (w : Word) : (State.avsbndWrite s w).fuses = s.fuses := by
  simp [State.avsbndWrite]

@[simp] theorem State.avsConflict_pending (s : State) (high : Bool) : (State.avsConflict s high).pending = s.pending := by
  simp [State.avsConflict]

@[simp] theorem State.avsConflict_fuses (s : State) (high : Bool) : (State.avsConflict s high).fuses = s.fuses := by
  simp [State.avsConflict]

@[simp] theorem State.avsMove_pending (s : State) (want v : Int) : (State.avsMove s want v).pending = s.pending := by
  simp [State.avsMove]

@[simp] theorem State.avsMove_fuses (s : State) (want v : Int) : (State.avsMove s want v).fuses = s.fuses := by
  simp [State.avsMove]

@[simp] theorem avsUpdate_pending (s : State) (m : Nat) : (avsUpdate s m).pending = s.pending := by
  simp [avsUpdate]

@[simp] theorem avsUpdate_fuses (s : State) (m : Nat) : (avsUpdate s m).fuses = s.fuses := by
  simp [avsUpdate]

@[simp] theorem urgentRaise_pending (s : State) : (urgentRaise s).pending = s.pending := by
  simp [urgentRaise]

@[simp] theorem urgentRaise_fuses (s : State) : (urgentRaise s).fuses = s.fuses := by
  simp [urgentRaise]

@[simp] theorem avsSet_pending (s : State) (f c mv : Nat) : (avsSet s f c mv).pending = s.pending := by
  simp [avsSet]

@[simp] theorem avsSet_fuses (s : State) (f c mv : Nat) : (avsSet s f c mv).fuses = s.fuses := by
  simp [avsSet]

@[simp] theorem pmbRaw_pending (s : State) (f c slot kind cmd data : Nat) : (pmbRaw s f c slot kind cmd data).pending = s.pending := by
  simp [pmbRaw]

@[simp] theorem pmbRaw_fuses (s : State) (f c slot kind cmd data : Nat) : (pmbRaw s f c slot kind cmd data).fuses = s.fuses := by
  simp [pmbRaw]

end Sys2Proof.Machine
end

