-- ==== Sys2Proof/Laws/Kept/Power.lean ====
section
/-! SUPPORT. No operation of Machine/Power.lean touches the queue of commands or the fuses. -/

set_option Elab.async false

namespace Sys2Proof.Machine

@[simp] theorem State.domLost_pending (s : State) (j : Nat) : (State.domLost s j).pending = s.pending := by
  simp [State.domLost]

@[simp] theorem State.domLost_fuses (s : State) (j : Nat) : (State.domLost s j).fuses = s.fuses := by
  simp [State.domLost]

@[simp] theorem State.saveDom_pending (s : State) (j : Nat) : (State.saveDom s j).pending = s.pending := by
  simp [State.saveDom]

@[simp] theorem State.saveDom_fuses (s : State) (j : Nat) : (State.saveDom s j).fuses = s.fuses := by
  simp [State.saveDom]

@[simp] theorem State.mergeReg_pending (s : State) (a : Nat) (w : Word) : (State.mergeReg s a w).pending = s.pending := by
  simp [State.mergeReg]

@[simp] theorem State.mergeReg_fuses (s : State) (a : Nat) (w : Word) : (State.mergeReg s a w).fuses = s.fuses := by
  simp [State.mergeReg]

@[simp] theorem State.lockBack_pending (s : State) (p : Nat × Word) : (State.lockBack s p).pending = s.pending := by
  simp only [State.lockBack]; split <;> simp

@[simp] theorem State.lockBack_fuses (s : State) (p : Nat × Word) : (State.lockBack s p).fuses = s.fuses := by
  simp only [State.lockBack]; split <;> simp

@[simp] theorem State.octetBack_pending (s : State) (k : Nat) : (State.octetBack s k).pending = s.pending := by
  simp [State.octetBack]

@[simp] theorem State.octetBack_fuses (s : State) (k : Nat) : (State.octetBack s k).fuses = s.fuses := by
  simp [State.octetBack]

@[simp] theorem State.octetParks_pending (s : State) (k : Nat) : (State.octetParks s k).pending = s.pending := by
  simp [State.octetParks]

@[simp] theorem State.octetParks_fuses (s : State) (k : Nat) : (State.octetParks s k).fuses = s.fuses := by
  simp [State.octetParks]

@[simp] theorem State.restoreVals_pending (s : State) (j : Nat) : (State.restoreVals s j).pending = s.pending := by
  simp [State.restoreVals]

@[simp] theorem State.restoreVals_fuses (s : State) (j : Nat) : (State.restoreVals s j).fuses = s.fuses := by
  simp [State.restoreVals]

@[simp] theorem State.restoreDom_pending (s : State) (j : Nat) : (State.restoreDom s j).pending = s.pending := by
  simp [State.restoreDom]

@[simp] theorem State.restoreDom_fuses (s : State) (j : Nat) : (State.restoreDom s j).fuses = s.fuses := by
  simp [State.restoreDom]

@[simp] theorem State.pdShow_pending (s : State) (j : Nat) : (State.pdShow s j).pending = s.pending := by
  simp only [State.pdShow]; split <;> simp

@[simp] theorem State.pdShow_fuses (s : State) (j : Nat) : (State.pdShow s j).fuses = s.fuses := by
  simp only [State.pdShow]; split <;> simp

@[simp] theorem State.leaveOn_pending (s : State) (j : Nat) : (State.leaveOn s j).pending = s.pending := by
  simp [State.leaveOn]

@[simp] theorem State.leaveOn_fuses (s : State) (j : Nat) : (State.leaveOn s j).fuses = s.fuses := by
  simp [State.leaveOn]

@[simp] theorem State.pdBegin_pending (s : State) (j t : Nat) : (State.pdBegin s j t).pending = s.pending := by
  simp [State.pdBegin]

@[simp] theorem State.pdBegin_fuses (s : State) (j t : Nat) : (State.pdBegin s j t).fuses = s.fuses := by
  simp [State.pdBegin]

@[simp] theorem State.pdStart_pending (s : State) (j t : Nat) : (State.pdStart s j t).1.pending = s.pending := by
  simp [State.pdStart]

@[simp] theorem State.pdStart_fuses (s : State) (j t : Nat) : (State.pdStart s j t).1.fuses = s.fuses := by
  simp [State.pdStart]

@[simp] theorem State.pdAsk_pending (s : State) (j t : Nat) : (State.pdAsk s j t).1.pending = s.pending := by
  simp only [State.pdAsk]; split <;> simp

@[simp] theorem State.pdAsk_fuses (s : State) (j t : Nat) : (State.pdAsk s j t).1.fuses = s.fuses := by
  simp only [State.pdAsk]; split <;> simp

@[simp] theorem State.pdreqWrite_pending (s : State) (j : Nat) (w : Word) : (State.pdreqWrite s j w).pending = s.pending := by
  simp [State.pdreqWrite]

@[simp] theorem State.pdreqWrite_fuses (s : State) (j : Nat) (w : Word) : (State.pdreqWrite s j w).fuses = s.fuses := by
  simp [State.pdreqWrite]

@[simp] theorem State.xipClose_pending (s : State) : (State.xipClose s).pending = s.pending := by
  simp [State.xipClose]

@[simp] theorem State.xipClose_fuses (s : State) : (State.xipClose s).fuses = s.fuses := by
  simp [State.xipClose]

@[simp] theorem State.pdPlan_pending (s : State) (j t : Nat) : (State.pdPlan s j t).pending = s.pending := by
  simp [State.pdPlan]

@[simp] theorem State.pdPlan_fuses (s : State) (j t : Nat) : (State.pdPlan s j t).fuses = s.fuses := by
  simp [State.pdPlan]

@[simp] theorem State.planGo_pending (s : State) (x0 : Nat) : (State.planGo s x0).pending = s.pending := by
  induction x0 generalizing s with
  | zero => rfl
  | succ k ih =>
    unfold State.planGo
    split
    · rfl
    · split
      · rw [ih, State.foldl_pending _ _ _ (fun u q => by simp)]
      · rfl

@[simp] theorem State.planGo_fuses (s : State) (x0 : Nat) : (State.planGo s x0).fuses = s.fuses := by
  induction x0 generalizing s with
  | zero => rfl
  | succ k ih =>
    unfold State.planGo
    split
    · rfl
    · split
      · rw [ih, State.foldl_fuses _ _ _ (fun u q => by simp)]
      · rfl

@[simp] theorem State.clkTo_pending (s : State) (st : Nat) : (State.clkTo s st).pending = s.pending := by
  simp [State.clkTo]

@[simp] theorem State.clkTo_fuses (s : State) (st : Nat) : (State.clkTo s st).fuses = s.fuses := by
  simp [State.clkTo]

@[simp] theorem State.planOn_pending (s : State) : (State.planOn s).pending = s.pending := by
  simp [State.planOn]

@[simp] theorem State.planOn_fuses (s : State) : (State.planOn s).fuses = s.fuses := by
  simp [State.planOn]

@[simp] theorem State.changeTo_pending (s : State) (st : Nat) (cmd : Option (Nat × Nat)) : (State.changeTo s st cmd).pending = s.pending := by
  simp [State.changeTo]

@[simp] theorem State.changeTo_fuses (s : State) (st : Nat) (cmd : Option (Nat × Nat)) : (State.changeTo s st cmd).fuses = s.fuses := by
  simp [State.changeTo]

@[simp] theorem State.wakeNow_pending (s : State) (cause port : Nat) : (State.wakeNow s cause port).pending = s.pending := by
  simp [State.wakeNow]

@[simp] theorem State.wakeNow_fuses (s : State) (cause port : Nat) : (State.wakeNow s cause port).fuses = s.fuses := by
  simp [State.wakeNow]

@[simp] theorem State.wakeBy_pending (s : State) (cause port : Nat) : (State.wakeBy s cause port).pending = s.pending := by
  simp [State.wakeBy]

@[simp] theorem State.wakeBy_fuses (s : State) (cause port : Nat) : (State.wakeBy s cause port).fuses = s.fuses := by
  simp [State.wakeBy]

@[simp] theorem State.pdResume_pending (s : State) : (State.pdResume s).pending = s.pending := by
  unfold State.pdResume
  refine State.foldl_pending _ _ s (fun u x => ?_)
  split <;> simp

@[simp] theorem State.pdResume_fuses (s : State) : (State.pdResume s).fuses = s.fuses := by
  unfold State.pdResume
  refine State.foldl_fuses _ _ s (fun u x => ?_)
  split <;> simp

@[simp] theorem State.clkFollow_pending (s : State) : (State.clkFollow s).pending = s.pending := by
  simp [State.clkFollow]

@[simp] theorem State.clkFollow_fuses (s : State) : (State.clkFollow s).fuses = s.fuses := by
  simp [State.clkFollow]

@[simp] theorem stateChangeDone_pending (s : State) : (stateChangeDone s).pending = s.pending := by
  unfold stateChangeDone; repeat' split
  all_goals simp

@[simp] theorem stateChangeDone_fuses (s : State) : (stateChangeDone s).fuses = s.fuses := by
  unfold stateChangeDone; repeat' split
  all_goals simp

@[simp] theorem State.sptSelect_pending (s : State) (p : Nat) : (State.sptSelect s p).pending = s.pending := by
  simp [State.sptSelect]

@[simp] theorem State.sptSelect_fuses (s : State) (p : Nat) : (State.sptSelect s p).fuses = s.fuses := by
  simp [State.sptSelect]

@[simp] theorem State.sptSelects_pending (s : State) : (State.sptSelects s).pending = s.pending := by
  simp [State.sptSelects]

@[simp] theorem State.sptSelects_fuses (s : State) : (State.sptSelects s).fuses = s.fuses := by
  simp [State.sptSelects]

@[simp] theorem State.forget_pending (s : State) (j : Nat) : (State.forget s j).pending = s.pending := by
  simp [State.forget]

@[simp] theorem State.forget_fuses (s : State) (j : Nat) : (State.forget s j).fuses = s.fuses := by
  simp [State.forget]

@[simp] theorem State.domBack_pending (s : State) (j : Nat) : (State.domBack s j).pending = s.pending := by
  simp [State.domBack]

@[simp] theorem State.domBack_fuses (s : State) (j : Nat) : (State.domBack s j).fuses = s.fuses := by
  simp [State.domBack]

@[simp] theorem State.pdRise_pending (s : State) (j : Nat) : (State.pdRise s j).pending = s.pending := by
  simp [State.pdRise]

@[simp] theorem State.pdRise_fuses (s : State) (j : Nat) : (State.pdRise s j).fuses = s.fuses := by
  simp [State.pdRise]

@[simp] theorem State.pdDequeue_pending (s : State) : (State.pdDequeue s).pending = s.pending := by
  simp [State.pdDequeue]

@[simp] theorem State.pdDequeue_fuses (s : State) : (State.pdDequeue s).fuses = s.fuses := by
  simp [State.pdDequeue]

@[simp] theorem State.pdArrive_pending (s : State) (j t : Nat) : (State.pdArrive s j t).pending = s.pending := by
  simp [State.pdArrive]

@[simp] theorem State.pdArrive_fuses (s : State) (j t : Nat) : (State.pdArrive s j t).fuses = s.fuses := by
  simp [State.pdArrive]

@[simp] theorem State.pdWaited_pending (s : State) (j : Nat) : (State.pdWaited s j).pending = s.pending := by
  simp only [State.pdWaited]; split <;> simp

@[simp] theorem State.pdWaited_fuses (s : State) (j : Nat) : (State.pdWaited s j).fuses = s.fuses := by
  simp only [State.pdWaited]; split <;> simp

@[simp] theorem pdSequenceDone_pending (s : State) (j t : Nat) : (pdSequenceDone s j t).pending = s.pending := by
  simp [pdSequenceDone]

@[simp] theorem pdSequenceDone_fuses (s : State) (j t : Nat) : (pdSequenceDone s j t).fuses = s.fuses := by
  simp [pdSequenceDone]

@[simp] theorem State.pwrRefuse_pending (s : State) (f c code : Nat) : (State.pwrRefuse s f c code).pending = s.pending := by
  simp [State.pwrRefuse]

@[simp] theorem State.pwrRefuse_fuses (s : State) (f c code : Nat) : (State.pwrRefuse s f c code).fuses = s.fuses := by
  simp [State.pwrRefuse]

@[simp] theorem pwrState_pending (s : State) (f c st : Nat) : (pwrState s f c st).pending = s.pending := by
  simp [pwrState]

@[simp] theorem pwrState_fuses (s : State) (f c st : Nat) : (pwrState s f c st).fuses = s.fuses := by
  simp [pwrState]

@[simp] theorem aonTimer_pending (s : State) : (aonTimer s).pending = s.pending := by
  simp [aonTimer]

@[simp] theorem aonTimer_fuses (s : State) : (aonTimer s).fuses = s.fuses := by
  simp [aonTimer]

end Sys2Proof.Machine
end

