-- ==== Sys2Proof/Laws/Kept/Boot.lean ====
section
/-! SUPPORT. No operation of Machine/Boot.lean touches the queue of commands or the fuses. -/

set_option Elab.async false

namespace Sys2Proof.Machine

@[simp] theorem State.hold_pending (s : State) (l : List Nat) : (State.hold s l).pending = s.pending := by
  simp [State.hold]

@[simp] theorem State.hold_fuses (s : State) (l : List Nat) : (State.hold s l).fuses = s.fuses := by
  simp [State.hold]

@[simp] theorem supplyFall_pending (s : State) : (supplyFall s).pending = s.pending := by
  simp [supplyFall]

@[simp] theorem supplyFall_fuses (s : State) : (supplyFall s).fuses = s.fuses := by
  simp [supplyFall]

@[simp] theorem porRelease_pending (s : State) : (porRelease s).pending = s.pending := by
  simp [porRelease]

@[simp] theorem porRelease_fuses (s : State) : (porRelease s).fuses = s.fuses := by
  simp [porRelease]

@[simp] theorem State.pinReset_pending (s : State) (k : Nat) : (State.pinReset s k).pending = s.pending := by
  simp [State.pinReset]

@[simp] theorem State.pinReset_fuses (s : State) (k : Nat) : (State.pinReset s k).fuses = s.fuses := by
  simp [State.pinReset]

@[simp] theorem State.rstctrlWrite_pending (s : State) (w : Word) : (State.rstctrlWrite s w).pending = s.pending := by
  simp [State.rstctrlWrite]

@[simp] theorem State.rstctrlWrite_fuses (s : State) (w : Word) : (State.rstctrlWrite s w).fuses = s.fuses := by
  simp [State.rstctrlWrite]

@[simp] theorem State.bootFail_pending (s : State) (why : Nat) : (State.bootFail s why).pending = s.pending := by
  simp [State.bootFail]

@[simp] theorem State.bootFail_fuses (s : State) (why : Nat) : (State.bootFail s why).fuses = s.fuses := by
  simp [State.bootFail]

@[simp] theorem fuseReadDone_pending (s : State) : (fuseReadDone s).pending = s.pending := by
  simp only [fuseReadDone]; repeat' split
  all_goals simp

@[simp] theorem fuseReadDone_fuses (s : State) : (fuseReadDone s).fuses = s.fuses := by
  simp only [fuseReadDone]; repeat' split
  all_goals simp

@[simp] theorem State.waitPush_pending (s : State) : (State.waitPush s).pending = s.pending := by
  simp [State.waitPush]

@[simp] theorem State.waitPush_fuses (s : State) : (State.waitPush s).fuses = s.fuses := by
  simp [State.waitPush]

@[simp] theorem State.bootWdt_pending (s : State) : (State.bootWdt s).pending = s.pending := by
  simp [State.bootWdt]

@[simp] theorem State.bootWdt_fuses (s : State) : (State.bootWdt s).fuses = s.fuses := by
  simp [State.bootWdt]

@[simp] theorem State.wipesDone_pending (s : State) : (State.wipesDone s).pending = s.pending := by
  simp [State.wipesDone]

@[simp] theorem State.wipesDone_fuses (s : State) : (State.wipesDone s).fuses = s.fuses := by
  simp [State.wipesDone]

@[simp] theorem resetWipeDone_pending (s : State) : (resetWipeDone s).pending = s.pending := by
  simp [resetWipeDone]

@[simp] theorem resetWipeDone_fuses (s : State) : (resetWipeDone s).fuses = s.fuses := by
  simp [resetWipeDone]

@[simp] theorem State.loadPatches_pending (s : State) (b : List Nat) : (State.loadPatches s b).pending = s.pending := by
  simp [State.loadPatches]

@[simp] theorem State.loadPatches_fuses (s : State) (b : List Nat) : (State.loadPatches s b).fuses = s.fuses := by
  simp [State.loadPatches]

@[simp] theorem State.copyImage_pending (s : State) (h body : List Nat) : (State.copyImage s h body).pending = s.pending := by
  simp [State.copyImage]

@[simp] theorem State.copyImage_fuses (s : State) (h body : List Nat) : (State.copyImage s h body).fuses = s.fuses := by
  simp [State.copyImage]

@[simp] theorem State.accept_pending (s : State) (h body : List Nat) (slot : Nat) (pushed : Bool) : (State.accept s h body slot pushed).pending = s.pending := by
  simp [State.accept]

@[simp] theorem State.accept_fuses (s : State) (h body : List Nat) (slot : Nat) (pushed : Bool) : (State.accept s h body slot pushed).fuses = s.fuses := by
  simp [State.accept]

@[simp] theorem flashLoad_pending (s : State) (a b : BootImage) : (flashLoad s a b).pending = s.pending := by
  simp only [flashLoad]; split <;> simp

@[simp] theorem flashLoad_fuses (s : State) (a b : BootImage) : (flashLoad s a b).fuses = s.fuses := by
  simp only [flashLoad]; split <;> simp

@[simp] theorem pushLoad_pending (s : State) (len : Nat) : (pushLoad s len).pending = s.pending := by
  simp [pushLoad]

@[simp] theorem pushLoad_fuses (s : State) (len : Nat) : (pushLoad s len).fuses = s.fuses := by
  simp [pushLoad]

@[simp] theorem State.pushlenWrite_pending (s : State) (w : Word) : (State.pushlenWrite s w).pending = s.pending := by
  simp [State.pushlenWrite]

@[simp] theorem State.pushlenWrite_fuses (s : State) (w : Word) : (State.pushlenWrite s w).fuses = s.fuses := by
  simp [State.pushlenWrite]

@[simp] theorem State.bootRuns_pending (s : State) : (State.bootRuns s).pending = s.pending := by
  simp [State.bootRuns]

@[simp] theorem State.bootRuns_fuses (s : State) : (State.bootRuns s).fuses = s.fuses := by
  simp [State.bootRuns]

@[simp] theorem firmwareReady_pending (s : State) : (firmwareReady s).pending = s.pending := by
  simp [firmwareReady]

@[simp] theorem firmwareReady_fuses (s : State) : (firmwareReady s).fuses = s.fuses := by
  simp [firmwareReady]

end Sys2Proof.Machine
end

