-- ==== Sys2Proof/Laws/Kept/Cal.lean ====
section
/-! SUPPORT. No operation of Machine/Cal.lean touches the queue of commands or the fuses. -/

set_option Elab.async false

namespace Sys2Proof.Machine

@[simp] theorem State.calStat_pending (s : State) (st fam code ndis : Nat) : (State.calStat s st fam code ndis).pending = s.pending := by
  simp [State.calStat]

@[simp] theorem State.calStat_fuses (s : State) (st fam code ndis : Nat) : (State.calStat s st fam code ndis).fuses = s.fuses := by
  simp [State.calStat]

@[simp] theorem State.calWriteReg_pending (s : State) (a : Nat) (w : Word) : (State.calWriteReg s a w).pending = s.pending := by
  simp [State.calWriteReg]

@[simp] theorem State.calWriteReg_fuses (s : State) (a : Nat) (w : Word) : (State.calWriteReg s a w).fuses = s.fuses := by
  simp [State.calWriteReg]

@[simp] theorem State.calReceiver_pending (s : State) (n src edge : Nat) : (State.calReceiver s n src edge).pending = s.pending := by
  simp [State.calReceiver]

@[simp] theorem State.calReceiver_fuses (s : State) (n src edge : Nat) : (State.calReceiver s n src edge).fuses = s.fuses := by
  simp [State.calReceiver]

@[simp] theorem State.calCtl_pending (s : State) (n : Nat) (r : Ref) (v : Nat) : (State.calCtl s n r v).pending = s.pending := by
  simp [State.calCtl]

@[simp] theorem State.calCtl_fuses (s : State) (n : Nat) (r : Ref) (v : Nat) : (State.calCtl s n r v).fuses = s.fuses := by
  simp [State.calCtl]

@[simp] theorem State.calSet_pending (s : State) (fam n : Nat) : (State.calSet s fam n).pending = s.pending := by
  simp [State.calSet]

@[simp] theorem State.calSet_fuses (s : State) (fam n : Nat) : (State.calSet s fam n).fuses = s.fuses := by
  simp [State.calSet]

@[simp] theorem State.calSpans_pending (s : State) (b : Nat) : (State.calSpans s b).pending = s.pending := by
  simp [State.calSpans]

@[simp] theorem State.calSpans_fuses (s : State) (b : Nat) : (State.calSpans s b).fuses = s.fuses := by
  simp [State.calSpans]

@[simp] theorem State.calClear_pending (s : State) (n : Nat) : (State.calClear s n).pending = s.pending := by
  simp [State.calClear]

@[simp] theorem State.calClear_fuses (s : State) (n : Nat) : (State.calClear s n).fuses = s.fuses := by
  simp [State.calClear]

@[simp] theorem State.calUnset_pending (s : State) (fam n : Nat) : (State.calUnset s fam n).pending = s.pending := by
  simp [State.calUnset]

@[simp] theorem State.calUnset_fuses (s : State) (fam n : Nat) : (State.calUnset s fam n).fuses = s.fuses := by
  simp [State.calUnset]

@[simp] theorem State.calBegin_pending (s : State) (r : CalRun) : (State.calBegin s r).pending = s.pending := by
  simp [State.calBegin]

@[simp] theorem State.calBegin_fuses (s : State) (r : CalRun) : (State.calBegin s r).fuses = s.fuses := by
  simp [State.calBegin]

@[simp] theorem State.calEnd_pending (s : State) (r : CalRun) (code ndis : Nat) : (State.calEnd s r code ndis).pending = s.pending := by
  simp [State.calEnd]

@[simp] theorem State.calEnd_fuses (s : State) (r : CalRun) (code ndis : Nat) : (State.calEnd s r code ndis).fuses = s.fuses := by
  simp [State.calEnd]

@[simp] theorem State.calFail_pending (s : State) (r : CalRun) (code : Nat) : (State.calFail s r code).pending = s.pending := by
  simp [State.calFail]

@[simp] theorem State.calFail_fuses (s : State) (r : CalRun) (code : Nat) : (State.calFail s r code).fuses = s.fuses := by
  simp [State.calFail]

@[simp] theorem calRun_pending (s : State) (f c e : Nat) (buf : List Nat) : (calRun s f c e buf).pending = s.pending := by
  simp [calRun]

@[simp] theorem calRun_fuses (s : State) (f c e : Nat) (buf : List Nat) : (calRun s f c e buf).fuses = s.fuses := by
  simp [calRun]

@[simp] theorem calNext_pending (s : State) (f c : Nat) : (calNext s f c).pending = s.pending := by
  simp only [calNext]; split <;> simp

@[simp] theorem calNext_fuses (s : State) (f c : Nat) : (calNext s f c).fuses = s.fuses := by
  simp only [calNext]; split <;> simp

@[simp] theorem State.calPut_pending (s : State) (r : CalRun) (n : Nat) (m : List Frac) : (State.calPut s r n m).pending = s.pending := by
  simp [State.calPut]

@[simp] theorem State.calPut_fuses (s : State) (r : CalRun) (n : Nat) (m : List Frac) : (State.calPut s r n m).fuses = s.fuses := by
  simp [State.calPut]

@[simp] theorem State.noteKhz_pending (s : State) (b : Nat) : (State.noteKhz s b).pending = s.pending := by
  simp [State.noteKhz]

@[simp] theorem State.noteKhz_fuses (s : State) (b : Nat) : (State.noteKhz s b).fuses = s.fuses := by
  simp [State.noteKhz]

@[simp] theorem State.calRefs_pending (s : State) (banks : List Nat) (refs : List (Nat × Int)) : (State.calRefs s banks refs).pending = s.pending := by
  simp [State.calRefs]

@[simp] theorem State.calRefs_fuses (s : State) (banks : List Nat) (refs : List (Nat × Int)) : (State.calRefs s banks refs).fuses = s.fuses := by
  simp [State.calRefs]

@[simp] theorem State.calApply_pending (s : State) (r : CalRun) (means : List (List Frac)) (refs : List (Nat × Int)) : (State.calApply s r means refs).pending = s.pending := by
  simp [State.calApply]

@[simp] theorem State.calApply_fuses (s : State) (r : CalRun) (means : List (List Frac)) (refs : List (Nat × Int)) : (State.calApply s r means refs).fuses = s.fuses := by
  simp [State.calApply]

@[simp] theorem State.calDisagree_pending (s : State) (r : CalRun) (l : List Nat) : (State.calDisagree s r l).pending = s.pending := by
  simp [State.calDisagree]

@[simp] theorem State.calDisagree_fuses (s : State) (r : CalRun) (l : List Nat) : (State.calDisagree s r l).fuses = s.fuses := by
  simp [State.calDisagree]

@[simp] theorem State.calHist_pending (s : State) (r : CalRun) (vals : List (List Int)) : (State.calHist s r vals).pending = s.pending := by
  simp [State.calHist]

@[simp] theorem State.calHist_fuses (s : State) (r : CalRun) (vals : List (List Int)) : (State.calHist s r vals).fuses = s.fuses := by
  simp [State.calHist]

@[simp] theorem calPass_pending (s0 : State) (r : CalRun) (vals : List (List Int)) (refs : List (Nat × Int)) : (calPass s0 r vals refs).pending = s0.pending := by
  simp [calPass]

@[simp] theorem calPass_fuses (s0 : State) (r : CalRun) (vals : List (List Int)) (refs : List (Nat × Int)) : (calPass s0 r vals refs).fuses = s0.fuses := by
  simp [calPass]

@[simp] theorem calPassDone_pending (s : State) (r : CalRun) (tainted active : Bool) (vals : List (List Int)) (refs : List (Nat × Int)) : (calPassDone s r tainted active vals refs).pending = s.pending := by
  simp [calPassDone]

@[simp] theorem calPassDone_fuses (s : State) (r : CalRun) (tainted active : Bool) (vals : List (List Int)) (refs : List (Nat × Int)) : (calPassDone s r tainted active vals refs).fuses = s.fuses := by
  simp [calPassDone]

@[simp] theorem State.submitChan_pending (s : State) (n : Nat) (r : List Nat) : (State.submitChan s n r).pending = s.pending := by
  simp [State.submitChan]

@[simp] theorem State.submitChan_fuses (s : State) (n : Nat) (r : List Nat) : (State.submitChan s n r).fuses = s.fuses := by
  simp [State.submitChan]

@[simp] theorem State.submitChans_pending (s : State) (x0 : Nat) (x1 : Nat) (x2 : List Nat) : (State.submitChans s x0 x1 x2).pending = s.pending := by
  induction x0 generalizing s x1 x2 with
  | zero => rfl
  | succ k ih => unfold State.submitChans; rw [ih]; simp

@[simp] theorem State.submitChans_fuses (s : State) (x0 : Nat) (x1 : Nat) (x2 : List Nat) : (State.submitChans s x0 x1 x2).fuses = s.fuses := by
  induction x0 generalizing s x1 x2 with
  | zero => rfl
  | succ k ih => unfold State.submitChans; rw [ih]; simp

@[simp] theorem calSubmit_pending (s : State) (f c e : Nat) (img : List Nat) : (calSubmit s f c e img).pending = s.pending := by
  simp [calSubmit]

@[simp] theorem calSubmit_fuses (s : State) (f c e : Nat) (img : List Nat) : (calSubmit s f c e img).fuses = s.fuses := by
  simp [calSubmit]

end Sys2Proof.Machine
end

