-- ==== Sys2Proof/Laws/Kept/Coast.lean ====
section
/-! SUPPORT. No operation of Machine/Coast.lean touches the queue of commands or the fuses. -/

set_option Elab.async false

namespace Sys2Proof.Machine

@[simp] theorem State.putCoastWord_pending (s : State) (n w : Nat) : (State.putCoastWord s n w).pending = s.pending := by
  simp [State.putCoastWord]

@[simp] theorem State.putCoastWord_fuses (s : State) (n w : Nat) : (State.putCoastWord s n w).fuses = s.fuses := by
  simp [State.putCoastWord]

@[simp] theorem State.declareLoss_pending (s : State) (n : Nat) : (State.declareLoss s n).pending = s.pending := by
  simp [State.declareLoss]

@[simp] theorem State.declareLoss_fuses (s : State) (n : Nat) : (State.declareLoss s n).fuses = s.fuses := by
  simp [State.declareLoss]

@[simp] theorem State.coastIn_pending (s : State) (n : Nat) : (State.coastIn s n).pending = s.pending := by
  simp [State.coastIn]

@[simp] theorem State.coastIn_fuses (s : State) (n : Nat) : (State.coastIn s n).fuses = s.fuses := by
  simp [State.coastIn]

@[simp] theorem referenceLoss_pending (s : State) (n : Nat) : (referenceLoss s n).pending = s.pending := by
  simp [referenceLoss]

@[simp] theorem referenceLoss_fuses (s : State) (n : Nat) : (referenceLoss s n).fuses = s.fuses := by
  simp [referenceLoss]

@[simp] theorem edgesReturn_pending (s : State) (n : Nat) : (edgesReturn s n).pending = s.pending := by
  simp [edgesReturn]

@[simp] theorem edgesReturn_fuses (s : State) (n : Nat) : (edgesReturn s n).fuses = s.fuses := by
  simp [edgesReturn]

@[simp] theorem State.leaveFreerun_pending (s : State) (n : Nat) : (State.leaveFreerun s n).pending = s.pending := by
  simp [State.leaveFreerun]

@[simp] theorem State.leaveFreerun_fuses (s : State) (n : Nat) : (State.leaveFreerun s n).fuses = s.fuses := by
  simp [State.leaveFreerun]

@[simp] theorem State.windowPass_pending (s : State) (n : Nat) : (State.windowPass s n).pending = s.pending := by
  simp [State.windowPass]

@[simp] theorem State.windowPass_fuses (s : State) (n : Nat) : (State.windowPass s n).fuses = s.fuses := by
  simp [State.windowPass]

@[simp] theorem State.windowFail_pending (s : State) (n : Nat) : (State.windowFail s n).pending = s.pending := by
  simp [State.windowFail]

@[simp] theorem State.windowFail_fuses (s : State) (n : Nat) : (State.windowFail s n).fuses = s.fuses := by
  simp [State.windowFail]

@[simp] theorem freqWindowEnd_pending (s : State) (n count : Nat) : (freqWindowEnd s n count).pending = s.pending := by
  simp [freqWindowEnd]

@[simp] theorem freqWindowEnd_fuses (s : State) (n count : Nat) : (freqWindowEnd s n count).fuses = s.fuses := by
  simp [freqWindowEnd]

@[simp] theorem measurePhase_pending (s : State) (n : Nat) (theta : Int) : (measurePhase s n theta).pending = s.pending := by
  simp [measurePhase]

@[simp] theorem measurePhase_fuses (s : State) (n : Nat) (theta : Int) : (measurePhase s n theta).fuses = s.fuses := by
  simp [measurePhase]

@[simp] theorem State.cctrlWrite_pending (s : State) (n : Nat) (w : Word) : (State.cctrlWrite s n w).pending = s.pending := by
  simp [State.cctrlWrite]

@[simp] theorem State.cctrlWrite_fuses (s : State) (n : Nat) (w : Word) : (State.cctrlWrite s n w).fuses = s.fuses := by
  simp [State.cctrlWrite]

@[simp] theorem workoffStep_pending (s : State) (n : Nat) : (workoffStep s n).pending = s.pending := by
  simp [workoffStep]

@[simp] theorem workoffStep_fuses (s : State) (n : Nat) : (workoffStep s n).fuses = s.fuses := by
  simp [workoffStep]

end Sys2Proof.Machine
end

