-- ==== Sys2Proof/Laws/Kept/Debug.lean ====
section
/-! SUPPORT. No operation of Machine/Debug.lean touches the queue of commands or the fuses. -/

set_option Elab.async false

namespace Sys2Proof.Machine

@[simp] theorem State.lastRes_pending (s : State) (k : Nat) : (State.lastRes s k).pending = s.pending := by
  simp [State.lastRes]

@[simp] theorem State.lastRes_fuses (s : State) (k : Nat) : (State.lastRes s k).fuses = s.fuses := by
  simp [State.lastRes]

@[simp] theorem State.challenge_pending (s : State) (target : Nat) : (State.challenge s target).1.pending = s.pending := by
  simp [State.challenge]

@[simp] theorem State.challenge_fuses (s : State) (target : Nat) : (State.challenge s target).1.fuses = s.fuses := by
  simp [State.challenge]

@[simp] theorem State.respWrite_pending (s : State) (i : Nat) (w : Word) : (State.respWrite s i w).pending = s.pending := by
  simp [State.respWrite]

@[simp] theorem State.respWrite_fuses (s : State) (i : Nat) (w : Word) : (State.respWrite s i w).fuses = s.fuses := by
  simp [State.respWrite]

@[simp] theorem State.authOk_pending (s : State) (path : Nat) : (State.authOk s path).1.pending = s.pending := by
  simp [State.authOk]

@[simp] theorem State.authOk_fuses (s : State) (path : Nat) : (State.authOk s path).1.fuses = s.fuses := by
  simp [State.authOk]

@[simp] theorem State.authFail_pending (s : State) (path : Nat) : (State.authFail s path).pending = s.pending := by
  simp [State.authFail]

@[simp] theorem State.authFail_fuses (s : State) (path : Nat) : (State.authFail s path).fuses = s.fuses := by
  simp [State.authFail]

@[simp] theorem State.checkResponse_pending (s : State) (path : Nat) (ok : Bool) : (State.checkResponse s path ok).1.pending = s.pending := by
  simp [State.checkResponse]

@[simp] theorem State.checkResponse_fuses (s : State) (path : Nat) (ok : Bool) : (State.checkResponse s path ok).1.fuses = s.fuses := by
  simp [State.checkResponse]

@[simp] theorem State.sealDebug_pending (s : State) (path : Nat) : (State.sealDebug s path).pending = s.pending := by
  simp [State.sealDebug]

@[simp] theorem State.sealDebug_fuses (s : State) (path : Nat) : (State.sealDebug s path).fuses = s.fuses := by
  simp [State.sealDebug]

@[simp] theorem State.dbgctrlWrite_pending (s : State) (src : Source) (w : Word) : (State.dbgctrlWrite s src w).pending = s.pending := by
  simp [State.dbgctrlWrite]

@[simp] theorem State.dbgctrlWrite_fuses (s : State) (src : Source) (w : Word) : (State.dbgctrlWrite s src w).fuses = s.fuses := by
  simp [State.dbgctrlWrite]

@[simp] theorem State.calReset_pending (s : State) : (State.calReset s).pending = s.pending := by
  simp [State.calReset]

@[simp] theorem State.calReset_fuses (s : State) : (State.calReset s).fuses = s.fuses := by
  simp [State.calReset]

@[simp] theorem authOpenDone_pending (s : State) (path : Nat) : (authOpenDone s path).pending = s.pending := by
  simp [authOpenDone]

@[simp] theorem authOpenDone_fuses (s : State) (path : Nat) : (authOpenDone s path).fuses = s.fuses := by
  simp [authOpenDone]

@[simp] theorem dbgChallenge_pending (s : State) (f c e : Nat) : (dbgChallenge s f c e).pending = s.pending := by
  simp [dbgChallenge]

@[simp] theorem dbgChallenge_fuses (s : State) (f c e : Nat) : (dbgChallenge s f c e).fuses = s.fuses := by
  simp [dbgChallenge]

@[simp] theorem dbgRespond_pending (s : State) (f c : Nat) (ok : Bool) : (dbgRespond s f c ok).pending = s.pending := by
  simp [dbgRespond]

@[simp] theorem dbgRespond_fuses (s : State) (f c : Nat) (ok : Bool) : (dbgRespond s f c ok).fuses = s.fuses := by
  simp [dbgRespond]

@[simp] theorem State.burn_pending (s : State) (i bits : Nat) : (State.burn s i bits).pending = s.pending := by
  simp [State.burn]

@[simp] theorem State.eraseFolios_pending (s : State) : (State.eraseFolios s).pending = s.pending := by
  simp [State.eraseFolios]

@[simp] theorem State.eraseFolios_fuses (s : State) : (State.eraseFolios s).fuses = s.fuses := by
  simp [State.eraseFolios]

@[simp] theorem lcAdvance_pending (s : State) (f c new : Nat) (supply : Bool) (bits : Nat) : (lcAdvance s f c new supply bits).pending = s.pending := by
  simp only [lcAdvance]; repeat' split
  all_goals simp

@[simp] theorem svnCommit_pending (s : State) (f c : Nat) (supply : Bool) (bits : Nat) : (svnCommit s f c supply bits).pending = s.pending := by
  simp only [svnCommit]; split <;> simp

@[simp] theorem keyRevoke_pending (s : State) (f c k : Nat) (supply : Bool) (bits : Nat) : (keyRevoke s f c k supply bits).pending = s.pending := by
  unfold keyRevoke; repeat' split
  all_goals simp

end Sys2Proof.Machine
end

