-- ==== Sys2Proof/Laws/Kept/Spt.lean ====
section
/-! SUPPORT. No operation of Machine/Spt.lean touches the queue of commands or the fuses. -/

set_option Elab.async false

namespace Sys2Proof.Machine

@[simp] theorem State.sptRef_pending (s : State) (p : Nat) : (State.sptRef s p).pending = s.pending := by
  simp [State.sptRef]

@[simp] theorem State.sptRef_fuses (s : State) (p : Nat) : (State.sptRef s p).fuses = s.fuses := by
  simp [State.sptRef]

@[simp] theorem State.sptShow_pending (s : State) (p : Nat) : (State.sptShow s p).pending = s.pending := by
  simp [State.sptShow]

@[simp] theorem State.sptShow_fuses (s : State) (p : Nat) : (State.sptShow s p).fuses = s.fuses := by
  simp [State.sptShow]

@[simp] theorem State.sptSend_pending (s : State) (p : Nat) (l : List Nat) : (State.sptSend s p l).pending = s.pending := by
  simp [State.sptSend]

@[simp] theorem State.sptSend_fuses (s : State) (p : Nat) (l : List Nat) : (State.sptSend s p l).fuses = s.fuses := by
  simp [State.sptSend]

@[simp] theorem State.sptSent_pending (s : State) (p : Nat) : (State.sptSent s p).pending = s.pending := by
  simp [State.sptSent]

@[simp] theorem State.sptSent_fuses (s : State) (p : Nat) : (State.sptSent s p).fuses = s.fuses := by
  simp [State.sptSent]

@[simp] theorem State.sptUnsent_pending (s : State) (p : Nat) : (State.sptUnsent s p).pending = s.pending := by
  simp [State.sptUnsent]

@[simp] theorem State.sptUnsent_fuses (s : State) (p : Nat) : (State.sptUnsent s p).fuses = s.fuses := by
  simp [State.sptUnsent]

@[simp] theorem State.modXip_pending (s : State) (f : Spt → Spt) : (State.modXip s f).pending = s.pending := by
  simp [State.modXip]

@[simp] theorem State.modXip_fuses (s : State) (f : Spt → Spt) : (State.modXip s f).fuses = s.fuses := by
  simp [State.modXip]

@[simp] theorem State.xipError_pending (s : State) (off : Nat) : (State.xipError s off).pending = s.pending := by
  simp [State.xipError]

@[simp] theorem State.xipError_fuses (s : State) (off : Nat) : (State.xipError s off).fuses = s.fuses := by
  simp [State.xipError]

@[simp] theorem masterFault_pending (s : State) (p : Nat) : (masterFault s p).pending = s.pending := by
  simp [masterFault]

@[simp] theorem masterFault_fuses (s : State) (p : Nat) : (masterFault s p).fuses = s.fuses := by
  simp [masterFault]

@[simp] theorem State.xipNext_pending (s : State) : (State.xipNext s).pending = s.pending := by
  simp [State.xipNext]

@[simp] theorem State.xipNext_fuses (s : State) : (State.xipNext s).fuses = s.fuses := by
  simp [State.xipNext]

@[simp] theorem State.sptCtrlWrite_pending (s : State) (p : Nat) (w : Word) : (State.sptCtrlWrite s p w).pending = s.pending := by
  simp [State.sptCtrlWrite]

@[simp] theorem State.sptCtrlWrite_fuses (s : State) (p : Nat) (w : Word) : (State.sptCtrlWrite s p w).fuses = s.fuses := by
  simp [State.sptCtrlWrite]

@[simp] theorem xipRead_pending (s : State) (off : Nat) : (xipRead s off).pending = s.pending := by
  unfold xipRead; repeat' split
  all_goals simp

@[simp] theorem xipRead_fuses (s : State) (off : Nat) : (xipRead s off).fuses = s.fuses := by
  unfold xipRead; repeat' split
  all_goals simp

@[simp] theorem xipLine_pending (s : State) (bytes : List Nat) : (xipLine s bytes).pending = s.pending := by
  simp [xipLine]

@[simp] theorem xipLine_fuses (s : State) (bytes : List Nat) : (xipLine s bytes).fuses = s.fuses := by
  simp [xipLine]

@[simp] theorem State.xipcfgWrite_pending (s : State) (w : Word) : (State.xipcfgWrite s w).pending = s.pending := by
  simp [State.xipcfgWrite]

@[simp] theorem State.xipcfgWrite_fuses (s : State) (w : Word) : (State.xipcfgWrite s w).fuses = s.fuses := by
  simp [State.xipcfgWrite]

@[simp] theorem State.sptRun_pending (s : State) (p : Nat) (ins : List Nat) : (State.sptRun s p ins).pending = s.pending := by
  simp [State.sptRun]

@[simp] theorem State.sptRun_fuses (s : State) (p : Nat) (ins : List Nat) : (State.sptRun s p ins).fuses = s.fuses := by
  simp [State.sptRun]

@[simp] theorem sptFrame_pending (s : State) (p : Nat) (w : Word) (ins : List Nat) : (sptFrame s p w ins).pending = s.pending := by
  simp [sptFrame]

@[simp] theorem sptFrame_fuses (s : State) (p : Nat) (w : Word) (ins : List Nat) : (sptFrame s p w ins).fuses = s.fuses := by
  simp [sptFrame]

@[simp] theorem State.mcmdWrite_pending (s : State) (src : Source) (p : Nat) (w : Word) (ins : List Nat) : (State.mcmdWrite s src p w ins).pending = s.pending := by
  simp [State.mcmdWrite]

@[simp] theorem State.mcmdWrite_fuses (s : State) (src : Source) (p : Nat) (w : Word) (ins : List Nat) : (State.mcmdWrite s src p w ins).fuses = s.fuses := by
  simp [State.mcmdWrite]

@[simp] theorem State.txdataWrite_pending (s : State) (src : Source) (p : Nat) (w : Word) : (State.txdataWrite s src p w).pending = s.pending := by
  simp [State.txdataWrite]

@[simp] theorem State.txdataWrite_fuses (s : State) (src : Source) (p : Nat) (w : Word) : (State.txdataWrite s src p w).fuses = s.fuses := by
  simp [State.txdataWrite]

@[simp] theorem State.rxdataRead_pending (s : State) (p : Nat) : (State.rxdataRead s p).pending = s.pending := by
  simp [State.rxdataRead]

@[simp] theorem State.rxdataRead_fuses (s : State) (p : Nat) : (State.rxdataRead s p).fuses = s.fuses := by
  simp [State.rxdataRead]

@[simp] theorem frameDone_pending (s : State) (p : Nat) : (frameDone s p).pending = s.pending := by
  simp [frameDone]

@[simp] theorem frameDone_fuses (s : State) (p : Nat) : (frameDone s p).fuses = s.fuses := by
  simp [frameDone]

@[simp] theorem slaveSelect_pending (s : State) (p : Nat) : (slaveSelect s p).pending = s.pending := by
  simp [slaveSelect]

@[simp] theorem slaveSelect_fuses (s : State) (p : Nat) : (slaveSelect s p).fuses = s.fuses := by
  simp [slaveSelect]

@[simp] theorem slaveHeader_pending (s : State) (p h : Nat) : (slaveHeader s p h).pending = s.pending := by
  simp [slaveHeader]

@[simp] theorem slaveHeader_fuses (s : State) (p h : Nat) : (slaveHeader s p h).fuses = s.fuses := by
  simp [slaveHeader]

@[simp] theorem State.sptMark_pending (s : State) (p i : Nat) : (State.sptMark s p i).pending = s.pending := by
  simp [State.sptMark]

@[simp] theorem State.sptMark_fuses (s : State) (p i : Nat) : (State.sptMark s p i).fuses = s.fuses := by
  simp [State.sptMark]

@[simp] theorem State.sptUse_pending (s : State) (p : Nat) : (State.sptUse s p).pending = s.pending := by
  simp [State.sptUse]

@[simp] theorem State.sptUse_fuses (s : State) (p : Nat) : (State.sptUse s p).fuses = s.fuses := by
  simp [State.sptUse]

@[simp] theorem State.sptExtra_pending (s : State) (p k : Nat) : (State.sptExtra s p k).pending = s.pending := by
  simp [State.sptExtra]

@[simp] theorem State.sptExtra_fuses (s : State) (p k : Nat) : (State.sptExtra s p k).fuses = s.fuses := by
  simp [State.sptExtra]

@[simp] theorem State.sptMapWrite_pending (s : State) (p a : Nat) (w : Word) : (State.sptMapWrite s p a w).pending = s.pending := by
  simp [State.sptMapWrite]

@[simp] theorem State.sptMapWrite_fuses (s : State) (p a : Nat) (w : Word) : (State.sptMapWrite s p a w).fuses = s.fuses := by
  simp [State.sptMapWrite]

@[simp] theorem State.sptData_pending (s : State) (p h a : Nat) (w : Word) : (State.sptData s p h a w).pending = s.pending := by
  simp [State.sptData]

@[simp] theorem State.sptData_fuses (s : State) (p h a : Nat) (w : Word) : (State.sptData s p h a w).fuses = s.fuses := by
  simp [State.sptData]

@[simp] theorem slaveWord_pending (s : State) (p h : Nat) (w : Word) (edges : Nat) : (slaveWord s p h w edges).pending = s.pending := by
  simp [slaveWord]

@[simp] theorem slaveWord_fuses (s : State) (p h : Nat) (w : Word) (edges : Nat) : (slaveWord s p h w edges).fuses = s.fuses := by
  simp [slaveWord]

@[simp] theorem slaveDeselect_pending (s : State) (p : Nat) (slot part : Bool) : (slaveDeselect s p slot part).pending = s.pending := by
  simp [slaveDeselect]

@[simp] theorem slaveDeselect_fuses (s : State) (p : Nat) (slot part : Bool) : (slaveDeselect s p slot part).fuses = s.fuses := by
  simp [slaveDeselect]

@[simp] theorem State.sptCut_pending (s : State) : (State.sptCut s).pending = s.pending := by
  simp [State.sptCut]

@[simp] theorem State.sptCut_fuses (s : State) : (State.sptCut s).fuses = s.fuses := by
  simp [State.sptCut]

@[simp] theorem State.gateClose_pending (s : State) (block : Nat) : (State.gateClose s block).pending = s.pending := by
  simp [State.gateClose]

@[simp] theorem State.gateClose_fuses (s : State) (block : Nat) : (State.gateClose s block).fuses = s.fuses := by
  simp [State.gateClose]

@[simp] theorem gateTimeout_pending (s : State) (block addr : Nat) : (gateTimeout s block addr).pending = s.pending := by
  simp [gateTimeout]

@[simp] theorem gateTimeout_fuses (s : State) (block addr : Nat) : (gateTimeout s block addr).fuses = s.fuses := by
  simp [gateTimeout]

end Sys2Proof.Machine
end

