-- ==== Sys2Proof/Laws/Kept/Endpoint.lean ====
section
/-! SUPPORT. No operation of Machine/Endpoint.lean touches the queue of commands or the fuses. -/

set_option Elab.async false

namespace Sys2Proof.Machine

@[simp] theorem State.msixFlush_pending (s : State) : (State.msixFlush s).pending = s.pending := by
  simp [State.msixFlush]

@[simp] theorem State.msixFlush_fuses (s : State) : (State.msixFlush s).fuses = s.fuses := by
  simp [State.msixFlush]

@[simp] theorem State.ringsFlush_pending (s : State) : (State.ringsFlush s).pending = s.pending := by
  simp [State.ringsFlush]

@[simp] theorem State.ringsFlush_fuses (s : State) : (State.ringsFlush s).fuses = s.fuses := by
  simp [State.ringsFlush]

@[simp] theorem configurationWrite_pending (s : State) (bme d3hot msixEn fmask : Bool) : (configurationWrite s bme d3hot msixEn fmask).pending = s.pending := by
  simp [configurationWrite]

@[simp] theorem configurationWrite_fuses (s : State) (bme d3hot msixEn fmask : Bool) : (configurationWrite s bme d3hot msixEn fmask).fuses = s.fuses := by
  simp [configurationWrite]

@[simp] theorem State.mbxReset_pending (s : State) : (State.mbxReset s).pending = s.pending := by
  simp [State.mbxReset]

@[simp] theorem State.mbxReset_fuses (s : State) : (State.mbxReset s).fuses = s.fuses := by
  simp [State.mbxReset]

@[simp] theorem State.ringsReset_pending (s : State) : (State.ringsReset s).pending = s.pending := by
  simp [State.ringsReset]

@[simp] theorem State.ringsReset_fuses (s : State) : (State.ringsReset s).fuses = s.fuses := by
  simp [State.ringsReset]

@[simp] theorem endpointReset_pending (s : State) : (endpointReset s).pending = s.pending := by
  simp [endpointReset]

@[simp] theorem endpointReset_fuses (s : State) : (endpointReset s).fuses = s.fuses := by
  simp [endpointReset]

@[simp] theorem State.doorbell_pending (s : State) (f off : Nat) (g : State → State) (hf : ∀ u, (g u).pending = u.pending) : (State.doorbell s f off g).pending = s.pending := by
  unfold State.doorbell; dsimp only; repeat' split
  all_goals simp_all

@[simp] theorem State.doorbell_fuses (s : State) (f off : Nat) (g : State → State) (hf : ∀ u, (g u).fuses = u.fuses) : (State.doorbell s f off g).fuses = s.fuses := by
  unfold State.doorbell; dsimp only; repeat' split
  all_goals simp_all

@[simp] theorem State.cancelArm_pending (s : State) (t : Nat) : (State.cancelArm s t).pending = s.pending := by
  simp only [State.cancelArm]; split <;> simp

@[simp] theorem State.cancelArm_fuses (s : State) (t : Nat) : (State.cancelArm s t).fuses = s.fuses := by
  simp only [State.cancelArm]; split <;> simp

@[simp] theorem State.cancelStarted_pending (s : State) (f : Nat) (k : Cmd) : (State.cancelStarted s f k).pending = s.pending := by
  unfold State.cancelStarted; repeat' split
  all_goals simp

@[simp] theorem State.cancelStarted_fuses (s : State) (f : Nat) (k : Cmd) : (State.cancelStarted s f k).fuses = s.fuses := by
  unfold State.cancelStarted; repeat' split
  all_goals simp

@[simp] theorem State.cancelCmd_pending (s : State) (f : Nat) (k : Cmd) : (State.cancelCmd s f k).pending = s.pending := by
  simp [State.cancelCmd]

@[simp] theorem State.cancelCmd_fuses (s : State) (f : Nat) (k : Cmd) : (State.cancelCmd s f k).fuses = s.fuses := by
  simp [State.cancelCmd]

@[simp] theorem State.cancelWrite_pending (s : State) (f : Nat) (w : Word) : (State.cancelWrite s f w).pending = s.pending := by
  unfold State.cancelWrite; repeat' split
  all_goals simp

@[simp] theorem State.cancelWrite_fuses (s : State) (f : Nat) (w : Word) : (State.cancelWrite s f w).fuses = s.fuses := by
  unfold State.cancelWrite; repeat' split
  all_goals simp

@[simp] theorem State.stageAt_pending (s : State) (off : Nat) (bytes : List Nat) : (State.stageAt s off bytes).pending = s.pending := by
  simp [State.stageAt]

@[simp] theorem State.stageAt_fuses (s : State) (off : Nat) (bytes : List Nat) : (State.stageAt s off bytes).fuses = s.fuses := by
  simp [State.stageAt]

@[simp] theorem State.bar2Part_pending (s : State) (off : Nat) (bytes : List Nat) : (State.bar2Part s off bytes).pending = s.pending := by
  simp [State.bar2Part]

@[simp] theorem State.bar2Part_fuses (s : State) (off : Nat) (bytes : List Nat) : (State.bar2Part s off bytes).fuses = s.fuses := by
  simp [State.bar2Part]

@[simp] theorem State.bar2Get_pending (s : State) (off len : Nat) : (State.bar2Get s off len).pending = s.pending := by
  simp [State.bar2Get]

@[simp] theorem State.bar2Get_fuses (s : State) (off len : Nat) : (State.bar2Get s off len).fuses = s.fuses := by
  simp [State.bar2Get]

@[simp] theorem State.bar2Parts_pending (s : State) (x0 : Nat) (x1 : Nat) (x2 : List Nat) : (State.bar2Parts s x0 x1 x2).pending = s.pending := by
  induction x0 generalizing s x1 x2 with
  | zero => rfl
  | succ k ih =>
    unfold State.bar2Parts
    split
    · rfl
    · rw [ih]; simp

@[simp] theorem State.bar2Parts_fuses (s : State) (x0 : Nat) (x1 : Nat) (x2 : List Nat) : (State.bar2Parts s x0 x1 x2).fuses = s.fuses := by
  induction x0 generalizing s x1 x2 with
  | zero => rfl
  | succ k ih =>
    unfold State.bar2Parts
    split
    · rfl
    · rw [ih]; simp

@[simp] theorem State.bar2Gets_pending (s : State) (x0 : Nat) (x1 : Nat) (x2 : Nat) : (State.bar2Gets s x0 x1 x2).pending = s.pending := by
  induction x0 generalizing s x1 x2 with
  | zero => rfl
  | succ k ih =>
    unfold State.bar2Gets
    split
    · rfl
    · rw [ih]; simp

@[simp] theorem State.bar2Gets_fuses (s : State) (x0 : Nat) (x1 : Nat) (x2 : Nat) : (State.bar2Gets s x0 x1 x2).fuses = s.fuses := by
  induction x0 generalizing s x1 x2 with
  | zero => rfl
  | succ k ih =>
    unfold State.bar2Gets
    split
    · rfl
    · rw [ih]; simp

theorem State.bar2Refuse_pending {s t : State} {off : Nat} {wr : Bool} (h : s.bar2Refuse off wr = some t) : t.pending = s.pending := by
  unfold State.bar2Refuse at h
  repeat' split at h
  all_goals first | (cases h; simp) | cases h

@[simp] theorem State.bar2Write_pending (s : State) (off : Nat) (bytes : List Nat) : (State.bar2Write s off bytes).pending = s.pending := by
  unfold State.bar2Write
  split
  · exact State.bar2Refuse_pending ‹_›
  · simp

theorem State.bar2Refuse_fuses {s t : State} {off : Nat} {wr : Bool} (h : s.bar2Refuse off wr = some t) : t.fuses = s.fuses := by
  unfold State.bar2Refuse at h
  repeat' split at h
  all_goals first | (cases h; simp) | cases h

@[simp] theorem State.bar2Write_fuses (s : State) (off : Nat) (bytes : List Nat) : (State.bar2Write s off bytes).fuses = s.fuses := by
  unfold State.bar2Write
  split
  · exact State.bar2Refuse_fuses ‹_›
  · simp

@[simp] theorem State.bar2Read_pending (s : State) (off len : Nat) : (State.bar2Read s off len).pending = s.pending := by
  unfold State.bar2Read
  split
  · exact State.bar2Refuse_pending ‹_›
  · simp

@[simp] theorem State.bar2Read_fuses (s : State) (off len : Nat) : (State.bar2Read s off len).fuses = s.fuses := by
  unfold State.bar2Read
  split
  · exact State.bar2Refuse_fuses ‹_›
  · simp

end Sys2Proof.Machine
end

