-- ==== Sys2Proof/Laws/Kept/Sequencer.lean ====
section
/-! SUPPORT. No operation of Machine/Sequencer.lean touches the queue of commands or the fuses. -/

set_option Elab.async false

namespace Sys2Proof.Machine

@[simp] theorem seqFault_pending (s : State) (n : Nat) : (seqFault s n).pending = s.pending := by
  simp [seqFault]

@[simp] theorem seqFault_fuses (s : State) (n : Nat) : (seqFault s n).fuses = s.fuses := by
  simp [seqFault]

@[simp] theorem State.countStep_pending (s : State) (n : Nat) : (State.countStep s n).pending = s.pending := by
  simp [State.countStep]

@[simp] theorem State.countStep_fuses (s : State) (n : Nat) : (State.countStep s n).fuses = s.fuses := by
  simp [State.countStep]

@[simp] theorem State.endRoutine_pending (s : State) (n : Nat) : (State.endRoutine s n).pending = s.pending := by
  simp [State.endRoutine]

@[simp] theorem State.endRoutine_fuses (s : State) (n : Nat) : (State.endRoutine s n).fuses = s.fuses := by
  simp [State.endRoutine]

@[simp] theorem State.commitLoop_pending (s : State) (n : Nat) : (State.commitLoop s n).pending = s.pending := by
  simp [State.commitLoop]

@[simp] theorem State.commitLoop_fuses (s : State) (n : Nat) : (State.commitLoop s n).fuses = s.fuses := by
  simp [State.commitLoop]

@[simp] theorem stepCommit_pending (s : State) (n : Nat) (invalid : Bool) (words : List (Option Nat)) : (stepCommit s n invalid words).pending = s.pending := by
  simp only [stepCommit]; repeat' split
  all_goals simp

@[simp] theorem stepCommit_fuses (s : State) (n : Nat) (invalid : Bool) (words : List (Option Nat)) : (stepCommit s n invalid words).fuses = s.fuses := by
  simp only [stepCommit]; repeat' split
  all_goals simp

end Sys2Proof.Machine
end

