-- ==== Sys2Proof/Laws/Kept/RegisterWrite.lean ====
section
/-! SUPPORT. No operation of Machine/RegisterWrite.lean touches the queue of commands or the fuses. -/

set_option Elab.async false

namespace Sys2Proof.Machine

@[simp] theorem State.ctlWrite_pending (s : State) (src : Source) (a : Nat) (w : Word) : (State.ctlWrite s src a w).pending = s.pending := by
  simp [State.ctlWrite]

@[simp] theorem State.ctlWrite_fuses (s : State) (src : Source) (a : Nat) (w : Word) : (State.ctlWrite s src a w).fuses = s.fuses := by
  simp [State.ctlWrite]

@[simp] theorem State.mbxBlockWrite_pending (s : State) (a : Nat) (w : Word) : (State.mbxBlockWrite s a w).pending = s.pending := by
  simp [State.mbxBlockWrite]

@[simp] theorem State.mbxBlockWrite_fuses (s : State) (a : Nat) (w : Word) : (State.mbxBlockWrite s a w).fuses = s.fuses := by
  simp [State.mbxBlockWrite]

@[simp] theorem State.refitFrom_pending (s t : State) (n a : Nat) : (s.refitFrom t n a).pending = t.pending := by
  unfold State.refitFrom
  split <;> simp

@[simp] theorem State.synWrite_pending (s : State) (src : Source) (n a : Nat) (w : Word) : (State.synWrite s src n a w).pending = s.pending := by
  simp [State.synWrite]

@[simp] theorem State.refitFrom_fuses (s t : State) (n a : Nat) : (s.refitFrom t n a).fuses = t.fuses := by
  unfold State.refitFrom
  split <;> simp

@[simp] theorem State.synWrite_fuses (s : State) (src : Source) (n a : Nat) (w : Word) : (State.synWrite s src n a w).fuses = s.fuses := by
  simp [State.synWrite]

@[simp] theorem State.seqWrite_pending (s : State) (a : Nat) (w : Word) : (State.seqWrite s a w).pending = s.pending := by
  simp [State.seqWrite]

@[simp] theorem State.seqWrite_fuses (s : State) (a : Nat) (w : Word) : (State.seqWrite s a w).fuses = s.fuses := by
  simp [State.seqWrite]

@[simp] theorem State.bnkWrite_pending (s : State) (b a : Nat) (w : Word) : (State.bnkWrite s b a w).pending = s.pending := by
  simp [State.bnkWrite]

@[simp] theorem State.bnkWrite_fuses (s : State) (b a : Nat) (w : Word) : (State.bnkWrite s b a w).fuses = s.fuses := by
  simp [State.bnkWrite]

@[simp] theorem State.msrWrite_pending (s : State) (a : Nat) (w : Word) : (State.msrWrite s a w).pending = s.pending := by
  simp [State.msrWrite]

@[simp] theorem State.msrWrite_fuses (s : State) (a : Nat) (w : Word) : (State.msrWrite s a w).fuses = s.fuses := by
  simp [State.msrWrite]

@[simp] theorem State.prlWrite_pending (s : State) (a : Nat) (w : Word) : (State.prlWrite s a w).pending = s.pending := by
  simp [State.prlWrite]

@[simp] theorem State.prlWrite_fuses (s : State) (a : Nat) (w : Word) : (State.prlWrite s a w).fuses = s.fuses := by
  simp [State.prlWrite]

@[simp] theorem State.sptWrite_pending (s : State) (src : Source) (p a : Nat) (w : Word) : (State.sptWrite s src p a w).pending = s.pending := by
  simp [State.sptWrite]

@[simp] theorem State.sptWrite_fuses (s : State) (src : Source) (p a : Nat) (w : Word) : (State.sptWrite s src p a w).fuses = s.fuses := by
  simp [State.sptWrite]

@[simp] theorem State.pmbWrite_pending (s : State) (a : Nat) (w : Word) : (State.pmbWrite s a w).pending = s.pending := by
  simp [State.pmbWrite]

@[simp] theorem State.pmbWrite_fuses (s : State) (a : Nat) (w : Word) : (State.pmbWrite s a w).fuses = s.fuses := by
  simp [State.pmbWrite]

@[simp] theorem State.calctxWrite_pending (s : State) (n a : Nat) (w : Word) : (State.calctxWrite s n a w).pending = s.pending := by
  simp [State.calctxWrite]

@[simp] theorem State.calctxWrite_fuses (s : State) (n a : Nat) (w : Word) : (State.calctxWrite s n a w).fuses = s.fuses := by
  simp [State.calctxWrite]

@[simp] theorem State.chWrite_pending (s : State) (src : Source) (n a : Nat) (w : Word) : (State.chWrite s src n a w).pending = s.pending := by
  simp [State.chWrite]

@[simp] theorem State.chWrite_fuses (s : State) (src : Source) (n a : Nat) (w : Word) : (State.chWrite s src n a w).fuses = s.fuses := by
  simp [State.chWrite]

@[simp] theorem State.regWrite_pending (s : State) (src : Source) (a : Nat) (w : Word) : (State.regWrite s src a w).pending = s.pending := by
  simp only [State.regWrite]; split <;> simp

@[simp] theorem State.regWrite_fuses (s : State) (src : Source) (a : Nat) (w : Word) : (State.regWrite s src a w).fuses = s.fuses := by
  simp only [State.regWrite]; split <;> simp

@[simp] theorem State.writeAll_pending (s : State) (src : Source) (x0 : Nat) (x1 : List Word) : (State.writeAll s src x0 x1).pending = s.pending := by
  induction x1 generalizing s x0 with
  | nil => rfl
  | cons w t ih =>
    unfold State.writeAll; dsimp only
    split
    · simp
    · rw [ih]; simp

@[simp] theorem State.writeAll_fuses (s : State) (src : Source) (x0 : Nat) (x1 : List Word) : (State.writeAll s src x0 x1).fuses = s.fuses := by
  induction x1 generalizing s x0 with
  | nil => rfl
  | cons w t ih =>
    unfold State.writeAll; dsimp only
    split
    · simp
    · rw [ih]; simp

@[simp] theorem State.pageWrite_pending (s : State) (o : Nat) (w : Word) (en : BitVec 4) : (State.pageWrite s o w en).pending = s.pending := by
  simp [State.pageWrite]

@[simp] theorem State.pageWrite_fuses (s : State) (o : Nat) (w : Word) (en : BitVec 4) : (State.pageWrite s o w en).fuses = s.fuses := by
  simp [State.pageWrite]

@[simp] theorem State.pageAll_pending (s : State) (x0 : Nat) (x1 : List (Word × BitVec 4)) : (State.pageAll s x0 x1).pending = s.pending := by
  induction x1 generalizing s x0 with
  | nil => rfl
  | cons w t ih => unfold State.pageAll; rw [ih]; simp

@[simp] theorem State.pageAll_fuses (s : State) (x0 : Nat) (x1 : List (Word × BitVec 4)) : (State.pageAll s x0 x1).fuses = s.fuses := by
  induction x1 generalizing s x0 with
  | nil => rfl
  | cons w t ih => unfold State.pageAll; rw [ih]; simp

@[simp] theorem registerWrite_pending (s : State) (src : Source) (a : Nat) (ws : List (Word × BitVec 4)) : (registerWrite s src a ws).pending = s.pending := by
  simp [registerWrite]

@[simp] theorem registerWrite_fuses (s : State) (src : Source) (a : Nat) (ws : List (Word × BitVec 4)) : (registerWrite s src a ws).fuses = s.fuses := by
  simp [registerWrite]

@[simp] theorem State.readOne_pending (s : State) (a : Nat) : (State.readOne s a).pending = s.pending := by
  simp [State.readOne]

@[simp] theorem State.readOne_fuses (s : State) (a : Nat) : (State.readOne s a).fuses = s.fuses := by
  simp [State.readOne]

@[simp] theorem State.pageRead_pending (s : State) (a : Nat) : (State.pageRead s a).pending = s.pending := by
  simp [State.pageRead]

@[simp] theorem State.pageRead_fuses (s : State) (a : Nat) : (State.pageRead s a).fuses = s.fuses := by
  simp [State.pageRead]

@[simp] theorem rcRead_pending (s : State) (src : Source) (a n : Nat) : (rcRead s src a n).pending = s.pending := by
  simp [rcRead]

@[simp] theorem rcRead_fuses (s : State) (src : Source) (a n : Nat) : (rcRead s src a n).fuses = s.fuses := by
  simp [rcRead]

@[simp] theorem State.hostServe_pending (s : State) (x0 : HostReq) : (State.hostServe s x0).pending = s.pending := by
  cases x0 <;> simp [State.hostServe]

@[simp] theorem State.hostServe_fuses (s : State) (x0 : HostReq) : (State.hostServe s x0).fuses = s.fuses := by
  cases x0 <;> simp [State.hostServe]

@[simp] theorem authOpenServe_pending (s : State) (path : Nat) : (authOpenServe s path).pending = s.pending := by
  simp [authOpenServe]

@[simp] theorem authOpenServe_fuses (s : State) (path : Nat) : (authOpenServe s path).fuses = s.fuses := by
  simp [authOpenServe]

end Sys2Proof.Machine
end

