-- ==== Sys2Proof/Laws/Kept/Jtag.lean ====
section
/-! SUPPORT. No operation of Machine/Jtag.lean touches the queue of commands or the fuses. -/

set_option Elab.async false

namespace Sys2Proof.Machine

@[simp] theorem State.tdo_pending (s : State) (v : Nat) : (State.tdo s v).pending = s.pending := by
  simp [State.tdo]

@[simp] theorem State.tdo_fuses (s : State) (v : Nat) : (State.tdo s v).fuses = s.fuses := by
  simp [State.tdo]

@[simp] theorem State.capture_pending (s : State) (n : Nat) : (State.capture s n).pending = s.pending := by
  simp [State.capture]

@[simp] theorem State.capture_fuses (s : State) (n : Nat) : (State.capture s n).fuses = s.fuses := by
  simp [State.capture]

@[simp] theorem State.driveCells_pending (s : State) : (State.driveCells s).pending = s.pending := by
  simp [State.driveCells]

@[simp] theorem State.driveCells_fuses (s : State) : (State.driveCells s).fuses = s.fuses := by
  simp [State.driveCells]

@[simp] theorem secacc_pending (s : State) (off : Nat) (wr : Bool) (w : Word) : (secacc s off wr w).pending = s.pending := by
  simp [secacc]

@[simp] theorem secacc_fuses (s : State) (off : Nat) (wr : Bool) (w : Word) : (secacc s off wr w).fuses = s.fuses := by
  simp [secacc]

@[simp] theorem State.bridgeErr_pending (s : State) (e : Bool) : (State.bridgeErr s e).pending = s.pending := by
  simp [State.bridgeErr]

@[simp] theorem State.bridgeErr_fuses (s : State) (e : Bool) : (State.bridgeErr s e).fuses = s.fuses := by
  simp [State.bridgeErr]

@[simp] theorem State.coreRun_pending (s : State) (c : Nat) (halt : Bool) : (State.coreRun s c halt).pending = s.pending := by
  simp [State.coreRun]

@[simp] theorem State.coreRun_fuses (s : State) (c : Nat) (halt : Bool) : (State.coreRun s c halt).fuses = s.fuses := by
  simp [State.coreRun]

@[simp] theorem State.bridgeRead_pending (s : State) (addr : Nat) : (State.bridgeRead s addr).pending = s.pending := by
  simp only [State.bridgeRead]; split <;> simp

@[simp] theorem State.bridgeRead_fuses (s : State) (addr : Nat) : (State.bridgeRead s addr).fuses = s.fuses := by
  simp only [State.bridgeRead]; split <;> simp

@[simp] theorem State.bridgeWrite_pending (s : State) (addr : Nat) (w : Word) : (State.bridgeWrite s addr w).pending = s.pending := by
  simp only [State.bridgeWrite]; split <;> simp

@[simp] theorem State.bridgeWrite_fuses (s : State) (addr : Nat) (w : Word) : (State.bridgeWrite s addr w).fuses = s.fuses := by
  simp only [State.bridgeWrite]; split <;> simp

@[simp] theorem dbgacc_pending (s : State) (op : DbgOp) : (dbgacc s op).pending = s.pending := by
  unfold dbgacc; repeat' split
  all_goals simp

@[simp] theorem dbgacc_fuses (s : State) (op : DbgOp) : (dbgacc s op).fuses = s.fuses := by
  unfold dbgacc; repeat' split
  all_goals simp

@[simp] theorem fuseprog_pending (s : State) (i mask took : Nat) : (fuseprog s i mask took).pending = s.pending := by
  simp [fuseprog]

end Sys2Proof.Machine
end

