-- ==== Sys2Proof/Laws/Kept/Tick.lean ====
section
/-! SUPPORT. No operation of Machine/Tick.lean touches the queue of commands or the fuses. -/

set_option Elab.async false

namespace Sys2Proof.Machine

@[simp] theorem State.tickRoots_pending (s : State) : (State.tickRoots s).pending = s.pending := by
  simp [State.tickRoots]

@[simp] theorem State.tickRoots_fuses (s : State) : (State.tickRoots s).fuses = s.fuses := by
  simp [State.tickRoots]

@[simp] theorem State.tickMicro_pending (s : State) : (State.tickMicro s).pending = s.pending := by
  simp [State.tickMicro]

@[simp] theorem State.tickMicro_fuses (s : State) : (State.tickMicro s).fuses = s.fuses := by
  simp [State.tickMicro]

@[simp] theorem tick_pending (s : State) : (tick s).pending = s.pending := by
  simp [tick]

@[simp] theorem tick_fuses (s : State) : (tick s).fuses = s.fuses := by
  simp [tick]

end Sys2Proof.Machine
end

