-- ==== Sys2Proof/Laws/Registers.lean ====
section
/-! SUPPORT. Registers and their fields: a read after a write, and what a write leaves alone. -/

set_option Elab.async false

namespace Sys2Proof.Machine

/-! ### Whole words -/

/-- A register after it is set. -/
@[simp] theorem State.setWord_word (s : State) (a : Nat) (w : Word) : (s.setWord a w).word a = w := tabGet_tabSet_same _ _ _ _

/-- Every other register after one is set. -/
theorem State.setWord_word_other (s : State) {a b : Nat} (w : Word) (h : b ≠ a) : (s.setWord a w).word b = s.word b :=
  tabGet_tabSet_other _ _ _ _ h

/-- A field of another register. -/
theorem State.setWord_get_other (s : State) {a : Nat} (w : Word) {q : Ref} (h : q.addr ≠ a) : (s.setWord a w).get q = s.get q := by
  simp [State.get, State.setWord_word_other s w h]

/-! ### Fields of a number -/

/-- A field is smaller than its width allows. -/
theorem State.get_lt (s : State) (q : Ref) : s.get q < 2 ^ q.len := Nat.mod_lt _ (Nat.two_pow_pos _)

/-- A field replaced keeps the word in its 32 bits. -/
theorem fieldPut_lt {w lo len v k : Nat} (hw : w < 2 ^ k) (h : lo + len ≤ k) : fieldPut w lo len v < 2 ^ k := by
  unfold fieldPut
  obtain ⟨d, rfl⟩ := Nat.exists_eq_add_of_le h
  have h1 : w % 2 ^ lo < 2 ^ lo := Nat.mod_lt _ (Nat.two_pow_pos _)
  have h2 : v % 2 ^ len < 2 ^ len := Nat.mod_lt _ (Nat.two_pow_pos _)
  have h3 : w / 2 ^ (lo + len) < 2 ^ d := by
    rw [Nat.div_lt_iff_lt_mul (Nat.two_pow_pos _), ← pow_add, Nat.add_comm d]; exact hw
  have e : (2 : Nat) ^ (lo + len + d) = 2 ^ (lo + len) * 2 ^ d := pow_add _ _ _
  have e2 : (2 : Nat) ^ (lo + len) = 2 ^ lo * 2 ^ len := pow_add _ _ _
  have m1 := Nat.mul_le_mul_right (2 ^ lo) (Nat.succ_le_of_lt h2)
  have m2 := Nat.mul_le_mul_right (2 ^ (lo + len)) (Nat.succ_le_of_lt h3)
  rw [Nat.succ_mul] at m1 m2
  rw [e, Nat.mul_comm (2 ^ (lo + len)) (2 ^ d)]
  have e3 : 2 ^ len * 2 ^ lo = 2 ^ (lo + len) := by rw [e2, Nat.mul_comm]
  omega

/-- The field that was put. -/
theorem fieldPut_same (w lo len v : Nat) : fieldPut w lo len v / 2 ^ lo % 2 ^ len = v % 2 ^ len := by
  unfold fieldPut
  have e2 : (2 : Nat) ^ (lo + len) = 2 ^ lo * 2 ^ len := pow_add _ _ _
  have : w % 2 ^ lo + v % 2 ^ len * 2 ^ lo + w / 2 ^ (lo + len) * 2 ^ (lo + len)
      = w % 2 ^ lo + 2 ^ lo * (v % 2 ^ len + 2 ^ len * (w / 2 ^ (lo + len))) := by rw [e2]; ring
  rw [this, Nat.add_mul_div_left _ _ (Nat.two_pow_pos _), Nat.div_eq_of_lt (Nat.mod_lt _ (Nat.two_pow_pos _)), Nat.zero_add,
    Nat.add_mul_mod_self_left, Nat.mod_mod]

/-- Bits of a word with a field replaced. -/
theorem fieldPut_testBit (w lo len v i : Nat) :
    (fieldPut w lo len v).testBit i = if i < lo then w.testBit i else if i < lo + len then v.testBit (i - lo) else w.testBit i := by
  have e : fieldPut w lo len v = (w / 2 ^ (lo + len)) * 2 ^ (lo + len) + ((v % 2 ^ len) * 2 ^ lo + w % 2 ^ lo) := by
    unfold fieldPut; ring
  have hl : w % 2 ^ lo < 2 ^ lo := Nat.mod_lt _ (Nat.two_pow_pos _)
  have hm : (v % 2 ^ len) * 2 ^ lo + w % 2 ^ lo < 2 ^ (lo + len) := by
    have : v % 2 ^ len < 2 ^ len := Nat.mod_lt _ (Nat.two_pow_pos _)
    have m := Nat.mul_le_mul_right (2 ^ lo) (Nat.succ_le_of_lt this)
    rw [Nat.succ_mul] at m
    rw [pow_add, Nat.mul_comm (2 ^ lo)]; omega
  rw [e, Nat.mul_comm _ (2 ^ (lo + len)), Nat.testBit_two_pow_mul_add _ hm, Nat.mul_comm _ (2 ^ lo), Nat.testBit_two_pow_mul_add _ hl]
  by_cases h1 : i < lo
  · have : i < lo + len := by omega
    simp [h1, this, Nat.testBit_mod_two_pow]
  · by_cases h2 : i < lo + len
    · have : i - lo < len := by omega
      simp [h1, h2, Nat.testBit_mod_two_pow, this]
    · simp [h1, h2, Nat.testBit_div_two_pow]
      congr 1; omega

/-- A field beside the one that was put. -/
theorem fieldPut_other {w lo len v lo' len' : Nat} (h : lo' + len' ≤ lo ∨ lo + len ≤ lo') :
    fieldPut w lo len v / 2 ^ lo' % 2 ^ len' = w / 2 ^ lo' % 2 ^ len' := by
  apply Nat.eq_of_testBit_eq
  intro i
  simp only [Nat.testBit_mod_two_pow, Nat.testBit_div_two_pow, fieldPut_testBit]
  by_cases hi : i < len'
  · rcases h with h | h
    · have : i + lo' < lo := by omega
      simp [hi, this]
    · have h1 : ¬ i + lo' < lo := by omega
      have h2 : ¬ i + lo' < lo + len := by omega
      simp [hi, h1, h2]
  · simp [hi]

/-! ### Fields of registers -/

/-- A place lies in a 32-bit word. -/
abbrev Ref.fits (r : Ref) : Prop := r.lo + r.len ≤ 32

/-- The word after a field is put. -/
theorem State.put_word (s : State) (r : Ref) (v : Nat) :
    (s.put r v).word r.addr = BitVec.ofNat 32 (fieldPut (s.word r.addr).toNat r.lo r.len v) := State.setWord_word _ _ _

theorem State.put_word_toNat (s : State) {r : Ref} (h : r.fits) (v : Nat) :
    ((s.put r v).word r.addr).toNat = fieldPut (s.word r.addr).toNat r.lo r.len v := by
  rw [State.put_word, BitVec.toNat_ofNat, Nat.mod_eq_of_lt (fieldPut_lt (BitVec.isLt _) h)]

/-- Every other register. -/
theorem State.put_word_other (s : State) {r : Ref} (v : Nat) {b : Nat} (h : b ≠ r.addr) : (s.put r v).word b = s.word b :=
  State.setWord_word_other s _ h

/-- A field after it is put. -/
theorem State.put_get (s : State) {r : Ref} (h : r.fits) (v : Nat) : (s.put r v).get r = v % 2 ^ r.len := by
  unfold State.get; rw [State.put_word_toNat s h, fieldPut_same]

/-- Two places share no bit. -/
abbrev Ref.apart (q r : Ref) : Prop := q.addr ≠ r.addr ∨ q.lo + q.len ≤ r.lo ∨ r.lo + r.len ≤ q.lo

/-- A field apart from the one that is put. -/
theorem State.put_get_other (s : State) {r q : Ref} (hr : r.fits) (v : Nat) (h : q.apart r) : (s.put r v).get q = s.get q := by
  by_cases ha : q.addr = r.addr
  · have hb : q.lo + q.len ≤ r.lo ∨ r.lo + r.len ≤ q.lo := by rcases h with h | h; exacts [absurd ha h, h]
    unfold State.get
    rw [ha, State.put_word_toNat s hr, fieldPut_other hb]
  · exact State.setWord_get_other s _ ha

theorem State.put_bit (s : State) {r : Ref} (h : r.fits) (v : Nat) : (s.put r v).bit r = (v % 2 ^ r.len != 0) := by
  simp [State.bit, State.put_get s h]

theorem State.put_bit_other (s : State) {r q : Ref} (hr : r.fits) (v : Nat) (h : q.apart r) : (s.put r v).bit q = s.bit q := by
  simp [State.bit, State.put_get_other s hr v h]

theorem State.put_geti_other (s : State) {r q : Ref} (hr : r.fits) (v : Nat) (h : q.apart r) : (s.put r v).geti q = s.geti q := by
  simp [State.geti, State.put_get_other s hr v h]

/-- A signed field after a number in its range is put. -/
theorem State.puti_geti (s : State) {r : Ref} (h : r.fits) (hl : 0 < r.len) (v : Int) (hv : -(2 ^ (r.len - 1) : Int) ≤ v ∧ v < 2 ^ (r.len - 1)) :
    (s.puti r v).geti r = v := by
  obtain ⟨k, hk⟩ : ∃ k, r.len = k + 1 := ⟨r.len - 1, by omega⟩
  have e : (s.puti r v).get r = wrapNat r.len v % 2 ^ r.len := State.put_get s h _
  have hk1 : r.len - 1 = k := by omega
  rw [hk1] at hv
  have hp : (2 : Int) ^ r.len = 2 * 2 ^ k := by rw [hk, pow_succ]; ring
  have hpos : (0 : Int) < 2 ^ k := by positivity
  unfold State.geti
  simp only [e, wrapNat, hk1]
  have hc : ((2 ^ r.len : Nat) : Int) = 2 ^ r.len := by push_cast; rfl
  have hck : ((2 ^ k : Nat) : Int) = 2 ^ k := by push_cast; rfl
  rw [hc]
  by_cases hn : 0 ≤ v
  · have hm : v % (2 ^ r.len : Int) = v := Int.emod_eq_of_lt hn (by rw [hp]; omega)
    rw [hm]
    have h1 : v.toNat % 2 ^ r.len = v.toNat := Nat.mod_eq_of_lt (by zify; rw [Int.toNat_of_nonneg hn]; rw [hp]; omega)
    rw [h1]
    have h2 : ¬ (2 ^ k ≤ v.toNat) := by zify; rw [Int.toNat_of_nonneg hn]; omega
    simp [h2, Int.toNat_of_nonneg hn]
  · have hm : v % (2 ^ r.len : Int) = v + 2 ^ r.len := by
      rw [← Int.add_emod_right]; exact Int.emod_eq_of_lt (by rw [hp]; omega) (by omega)
    rw [hm]
    have hnn : 0 ≤ v + 2 ^ r.len := by rw [hp]; omega
    have h1 : (v + 2 ^ r.len).toNat % 2 ^ r.len = (v + 2 ^ r.len).toNat :=
      Nat.mod_eq_of_lt (by zify; rw [Int.toNat_of_nonneg hnn]; omega)
    rw [h1]
    have h2 : 2 ^ k ≤ (v + 2 ^ r.len).toNat := by zify; rw [Int.toNat_of_nonneg hnn, hp]; omega
    simp [h2, Int.toNat_of_nonneg hnn]

/-! ### The canonical form of the register table -/

/-- Setting a register keeps the canonical form of the table. -/
theorem State.setWord_regs_wf (s : State) (a : Nat) (w : Word) (h : Tab.wf resetWord s.regs = true) :
    Tab.wf resetWord (s.setWord a w).regs = true := Tab.wf_tabSet resetWord s.regs a w h

theorem State.put_regs_wf (s : State) (r : Ref) (v : Nat) (h : Tab.wf resetWord s.regs = true) :
    Tab.wf resetWord (s.put r v).regs = true := State.setWord_regs_wf s _ _ h

end Sys2Proof.Machine
end

