-- ==== Sys2Proof/WellFormed.lean ====
section
/-! DEFINITION. Well-formed commands: those that a sender can form. Numbers of units and widths of operands are in the types of
the constructors; what is left are the requests that reach a BAR (14, R413; 16, R474). -/

set_option Elab.async false

namespace Sys2Proof

open Sys2Proof.Machine in
/-- Can a sender form the command? -/
def Instr.wf : Instr → Bool
  | .registerWrite _ a ws => regRequest a ws.length
  | .rcRead _ a n => regRequest a n && decide (n ≤ 16)
  | .blockLockSet _ _ _ => true
  | .rootEnable _ _ _ => true
  | .rootDisable _ _ _ => true
  | .wakeDone _ => true
  | .bandSearchTrial _ _ => true
  | .fpdCycle _ _ _ => true
  | .lockDeclared _ => true
  | .lossOfLock _ => true
  | .acquisitionTimeout _ => true
  | .relock _ _ _ => true
  | .phclr _ _ _ => true
  | .hopRequest _ _ _ => true
  | .hopStart _ => true
  | .hopSettled _ => true
  | .phstep _ _ _ => true
  | .sequencerStepCommit _ _ _ => true
  | .seqAbort _ _ _ => true
  | .resume _ _ _ => true
  | .drop _ _ _ => true
  | .rampStart _ _ _ => true
  | .rampArm _ _ _ => true
  | .rampDwellEnd _ => true
  | .spreadPeriodBoundary _ => true
  | .referenceLoss _ => true
  | .referenceEdgesReturn _ => true
  | .freqWindowEnd _ _ => true
  | .measure _ _ => true
  | .workoff _ _ _ => true
  | .workoffStep _ => true
  | .rootSelect _ _ _ => true
  | .dllSearchDone _ _ => true
  | .dllComparison _ _ _ => true
  | .dllAcquisitionTimeout _ => true
  | .taintIntervalOpen _ => true
  | .taintIntervalClose _ => true
  | .haltNotice _ _ => true
  | .haltRelease _ _ _ => true
  | .taintStageRelease _ => true
  | .cycleStart _ => true
  | .eventSchedule _ => true
  | .eventOutput _ => true
  | .parkCycle _ => true
  | .leavePark _ => true
  | .park _ _ _ => true
  | .clrovr _ _ _ => true
  | .deskewTargetWrite _ _ _ => true
  | .deskewSlewStep _ => true
  | .pmGo _ _ _ => true
  | .cycloRead _ _ => true
  | .groupStartTime _ => true
  | .membershipWrite _ _ _ => true
  | .contextWindowWrite off bytes => windowRequest off bytes.length
  | .contextWindowRead off len => bar2Request off len
  | .scrubRow _ => true
  | .wipe _ _ _ => true
  | .wipeDone _ => true
  | .cueEngineTake _ => true
  | .cueCompletion _ => true
  | .groupDecision _ => true
  | .tspEnWrite _ _ _ => true
  | .retrain _ _ _ => true
  | .tspDetachWrite _ _ _ => true
  | .receiverDetected _ => true
  | .detectTimeout _ => true
  | .equalisationDone _ => true
  | .equaliseTimeout _ => true
  | .alignDone _ => true
  | .alignTimeout _ => true
  | .blockLockLost _ _ => true
  | .recoverTimeout _ => true
  | .inboundFrame _ _ _ => true
  | .selectFrame _ => true
  | .outboundFrame _ => true
  | .hello _ => true
  | .claim _ => true
  | .release _ => true
  | .detach _ => true
  | .tspNop _ => true
  | .tspCue _ => true
  | .tspPcue _ => true
  | .tspCommit _ => true
  | .tspCancel _ => true
  | .tspStart _ => true
  | .tspStop _ => true
  | .tspHop _ => true
  | .tspRamp _ => true
  | .tspTakeArm _ => true
  | .tspTakeStart _ => true
  | .tspClap _ => true
  | .eventEdge _ _ _ _ _ => true
  | .activityWindowEnd _ => true
  | .quietTimeout _ => true
  | .tktCtrlArm _ _ _ => true
  | .tktCtrlAbort _ _ _ => true
  | .takeArmResume _ => true
  | .prerollHalfDone _ _ _ => true
  | .reslateTimer _ => true
  | .takeStopReached _ => true
  | .takeTimeout _ => true
  | .takeDone _ => true
  | .takeJoinWrite _ _ _ => true
  | .rtailWrite _ _ _ => true
  | .reelFlush _ _ _ => true
  | .drEnWrite _ _ _ => true
  | .dtailWrite _ _ _ => true
  | .ctailWrite _ _ _ => true
  | .bufferOpen _ _ _ _ => true
  | .drainBurst _ => true
  | .bufferFlushTimeout _ _ => true
  | .drainEventTimeout _ => true
  | .fifoloRead _ _ => true
  | .fifohiRead _ _ => true
  | .regressionSolve => true
  | .regSelWrite _ _ => true
  | .calrefAbsent => true
  | .calrefWindowEnd _ => true
  | .calPassDone _ _ _ _ => true
  | .cdrvWrite _ _ _ => true
  | .cdrvStart _ => true
  | .dtcSlewStep _ => true
  | .ftrimSlewStep _ => true
  | .trackerUpdate _ _ _ _ _ => true
  | .linkFrameReceived _ frame _ items => Machine.itemsRead frame.toNat items
  | .resendTimeout _ => true
  | .prlEnWrite _ _ _ => true
  | .prlRetrain _ _ _ => true
  | .ident _ => true
  | .topo _ => true
  | .probedata _ => true
  | .linkClap _ => true
  | .clapack _ => true
  | .xhopprep _ => true
  | .xhopgo _ => true
  | .xhopack _ => true
  | .xtakearm _ => true
  | .xtakedone _ => true
  | .alignvoid _ => true
  | .firmwareMessage _ => true
  | .probe _ _ _ => true
  | .probeInterval _ _ => true
  | .probeBlockReceived _ _ _ _ _ => true
  | .tbadjWrite _ _ _ => true
  | .alignTracking _ => true
  | .clapperFire _ => true
  | .clapCompletionTimeout _ => true
  | .xoGap => true
  | .xoWindowEnd _ => true
  | .xoStable => true
  | .cpllLock => true
  | .cpllAcquisitionTimeout => true
  | .cpllLoss => true
  | .ircFail => true
  | .domainCfgWrite _ _ _ => true
  | .dividerStep _ => true
  | .forcedSwitch _ => true
  | .gateTimeout _ _ => true
  | .pdRequest _ _ _ => true
  | .pdSequenceDone _ => true
  | .stateChangeDone => true
  | .aonTimer => true
  | .pmbEnable _ _ => true
  | .pmbPoll => true
  | .smbalert _ => true
  | .pmbusTransactionDone _ _ => true
  | .avsUpdate _ => true
  | .urgentRaise _ => true
  | .supplyFall => true
  | .porRelease => true
  | .perstAssert => true
  | .resetNAssert => true
  | .watchdogExpiry => true
  | .kick _ _ => true
  | .softwareReset _ _ => true
  | .fuseReadDone => true
  | .resetWipeDone => true
  | .bootImageLoadDone _ _ => true
  | .flashNoresp => true
  | .firmwareReady => true
  | .pushlenWrite _ _ => true
  | .chal _ _ _ => true
  | .check _ _ _ => true
  | .authOpenEntryDone => true
  | .seal _ _ _ => true
  | .nonceExpiry => true
  | .testLogicReset => true
  | .bypass => true
  | .idcode => true
  | .samplePreload _ => true
  | .extest => true
  | .clamp => true
  | .highz => true
  | .secacc _ _ _ _ => true
  | .dbgacc _ => true
  | .fuseprog _ _ _ => true
  | .thermtrip => true
  | .endpointReset => true
  | .flowCtrlWrite _ _ _ => true
  | .sqtailWrite _ _ => true
  | .cqheadWrite _ _ => true
  | .flowCancel _ _ => true
  | .schedulingCycle _ _ => true
  | .completionWrite _ => true
  | .flowEventTimeout _ => true
  | .eltailWrite _ _ => true
  | .errorLogEventTimeout => true
  | .nop _ _ => true
  | .devInfo _ _ => true
  | .ctxWrite _ _ _ => true
  | .ctxRead _ _ => true
  | .grpMembers _ _ => true
  | .cue _ _ => true
  | .pcue _ _ => true
  | .commit _ _ => true
  | .cancel _ _ => true
  | .start _ _ => true
  | .stop _ _ => true
  | .hop _ _ => true
  | .ramp _ _ => true
  | .takeArm _ _ => true
  | .takeAbort _ _ => true
  | .takeRead _ _ => true
  | .intvRead _ _ => true
  | .regrRead _ _ => true
  | .regrSums _ _ => true
  | .calRun _ _ _ => true
  | .calNext _ _ => true
  | .calSubmit _ _ _ => true
  | .ledgerExport _ _ => true
  | .ledgerImport _ _ => true
  | .ledgerSave _ _ _ _ => true
  | .driftSet _ _ => true
  | .boardEnum _ _ => true
  | .boardAlign _ _ => true
  | .alignSet _ _ => true
  | .clap _ _ => true
  | .xhop _ _ => true
  | .xtake _ _ => true
  | .pwrState _ _ => true
  | .avsSet _ _ => true
  | .pmbRaw _ _ => true
  | .dbgChallenge _ _ => true
  | .dbgRespond _ _ _ => true
  | .dbgSeal _ _ => true
  | .lcAdvance _ _ _ _ => true
  | .svnCommit _ _ _ _ => true
  | .keyRevoke _ _ _ _ => true
  | .mcmd _ _ _ _ => true
  | .txdataWrite _ _ _ => true
  | .rxdataRead _ _ => true
  | .stallResume _ _ => true
  | .masterFrameDone _ => true
  | .masterFault _ => true
  | .slaveSelect _ => true
  | .slaveHeader _ _ => true
  | .slaveDataWord _ _ _ => true
  | .slaveDeselect _ _ _ => true
  | .xipRead _ => true
  | .xipLineFetch _ => true
  | .invalidBlock _ _ => true
  | .calrefEdgesReturn => true
  | .configurationWrite _ _ _ _ => true
  | .resetRelease _ => true
  | .dmaErrorCompletion _ _ _ => true
  | .dmaWriteTimeout _ _ => true
  | .stagingWindowWrite off bytes => stagingRequest off bytes.length

end Sys2Proof
end

