-- ==== Sys2Proof/Tests/Slice0.lean ====
section
/-! SUPPORT. Tests: ill-formed commands are refused, the numbers of the worked examples of the manual, one step each, and for
every statement a witness of its hypotheses, clause by clause. -/

set_option Elab.async false

namespace Sys2Proof.Tests

open Sys2Proof.Machine

set_option linter.unusedVariables false

/-- A state with fields of registers put. -/
def puts (s : State) (l : List (Ref × Nat)) : State := l.foldl (fun u p => u.put p.1 p.2) s

/-- An image that passes every check: key 1 with the per-message number 1. -/
def signedKey : List Nat := (leBytes 48 ecG.1).reverse ++ (leBytes 48 ecG.2.1).reverse
def signedHead : List Nat :=
  leBytes 4 0x4D524754 ++ leBytes 2 1 ++ leBytes 2 512 ++ leBytes 4 7 ++ [3, 0, 0, 0] ++ leBytes 4 64 ++ zeros 12 ++ signedKey ++ zeros 256
def signedBody : List Nat := List.replicate 64 0xA5
def signedImage : BootImage :=
  let r := ecG.1 % ecN
  let e := ofBe (sha384 (signedHead ++ signedBody))
  { hdr := (signedHead ++ (leBytes 48 r).reverse ++ (leBytes 48 ((e + r) % ecN)).reverse ++ zeros 32).map (BitVec.ofNat 8), body := signedBody.map (BitVec.ofNat 8) }

/-- The fuses of its root key. -/
def signedFuses : Tab Word := let k := sha384 signedKey; (List.range 12).map (fun i => (4 + i, BitVec.ofNat 32 (ofLe ((k.drop (4 * i)).take 4))))

/-- Fuses with the CRC words of regions of zeros. -/
def crcFuses : Tab Word := crcRegions.map (fun r => (r.2.2.1, BitVec.ofNat 32 (crc32 (List.replicate (4 * r.2.1) 0))))

/-- A state whose response registers hold what the device computes. -/
def answered (s : State) : State :=
  { s with boot := { s.boot with resp := (List.range 8).map (fun i => (i, BitVec.ofNat 32 (ofLe ((s.respBytes.drop (4 * i)).take 4)))) } }

/-- A response as bytes 32 to 63 of an entry. -/
def answerEntry (s : State) (op : Nat) : Nat := op + ofLe s.respBytes * 2 ^ 256

/-! ### Ill-formed commands -/

theorem test_register_write_unaligned : Instr.wf (.registerWrite .host 0x12 [(0, 15)]) = false := by decide
theorem test_register_write_empty : Instr.wf (.registerWrite .host 0x10 []) = false := by decide
theorem test_register_write_crosses_4k : Instr.wf (.registerWrite .host 0xFFC [(0, 15), (0, 15)]) = false := by decide

/-- 14, R413: a host request that is not dword-aligned has byte enables clear and is aborted. -/
theorem test_register_write_unaligned_is_aborted :
    (match exec (.registerWrite .host 0x12 [(0, 15)]) { puts State.reset [(SEC_BOOTSTAT_STAGE, 9), (SEC_LCSTATE_LC, 2)] with
        boot := { State.reset.boot with held := [] } } with
      | .next t => t.out
      | _ => []) = [.abort 0x12 true false] := by decide +kernel

theorem test_rc_read_17_dwords : Instr.wf (.rcRead .host 0x10 17) = false := by decide
theorem test_context_write_crosses_4k : Instr.wf (.contextWindowWrite 0xFFF [0, 0]) = false := by decide
theorem test_context_read_beyond : Instr.wf (.contextWindowRead 0x4000000 4) = false := by decide
theorem test_staging_write_below : Instr.wf (.stagingWindowWrite 0x23FFFFF [0]) = false := by decide
theorem test_no_word_spells_a_command : decodeTableWord 32 0 = none := rfl

/-! ### Worked examples of the manual -/

/-- 05, "one cycle of CH200": from S(5) = 65,535 and 65,535 / 65,536 the next start is 78,643 and 13,106 / 65,536. -/
theorem test_cycle_of_ch200 :
    (match exec (.cycleStart 200) ((puts (State.reset.modRoot 0 (fun r => { r with tclk := true })) [(CH_GRP_GROUP 200, 5), (CH_GRP_MEMBER 200, 1)]).modChan 200 (fun x =>
        { x with cyc := { x.cyc with on := true, k := 5, s := 65535 * 65536 + 65535, ahead := [⟨5, 2, 0x33333333#256, false⟩] } })) with
      | .next t => (t.chan 200).cyc.s
      | _ => 0) = 78643 * 65536 + 13106 := by decide +kernel

/-- 03, "0.3 % downward spread": DEPTH at a base of 128.0 with SSDEV 3,000. -/
theorem test_spread_depth : spreadDepth (128 * 2 ^ 40) 3000 = 422212465066 := by decide

/-- 08, "from pre-roll to stamp word": code sums 36,980 and 69,722 give G = 4,092.75 and O = 529.75, in 1/8 code. -/
theorem test_preroll_half :
    measureHalf [4622, 4623, 4622, 4623, 4622, 4623, 4622, 4623] [8715, 8715, 8715, 8715, 8715, 8715, 8716, 8716] = ⟨32742, 4238, 1, true⟩ := by
  decide +kernel

/-- The same example: ref 16,777,300, c 6,000, INL -1.25 ticks and EVSKEW 3,120 give the time 68,719,812,207. -/
theorem test_stamp_time :
    (edgeTime { Cap.init with sinl := (List.range 32).map (fun i => (i, 0xFEC0FEC)) } false 3120 0 4190976 542464 16777300 6000).1 = 68719812207 := by
  decide +kernel

/-- 14, R423: a completion of a command is 16 bytes; 07, R197 and its example of the CRC: the CRC-32 of "123456789". PRESUMED:
the check value is that of the common CRC-32. -/
theorem test_crc_check_value : crc32 [0x31, 0x32, 0x33, 0x34, 0x35, 0x36, 0x37, 0x38, 0x39] = 0xCBF43926 := by decide +kernel

/-- FIPS 180-4's example of SHA-384: the hash of "abc". -/
theorem test_sha384_abc :
    ofBe (sha384 [0x61, 0x62, 0x63]) =
      0xCB00753F45A35E8BB5A03D699AC65007272C32AB0EDED1631A8B605A43FF5BED8086072BA1E7CC2358BAECA134C825A7 := by decide +kernel

/-- RFC 4231, test case 2: HMAC-SHA-384 of "what do ya want for nothing?" under "Jefe". -/
theorem test_hmac384 :
    ofBe (hmac384 [0x4A, 0x65, 0x66, 0x65] [0x77, 0x68, 0x61, 0x74, 0x20, 0x64, 0x6F, 0x20, 0x79, 0x61, 0x20, 0x77, 0x61, 0x6E, 0x74, 0x20,
      0x66, 0x6F, 0x72, 0x20, 0x6E, 0x6F, 0x74, 0x68, 0x69, 0x6E, 0x67, 0x3F]) =
      0xAF45D2E376484031617F78D2B58A6B1B9C7EF464F5A01B47E42EC3736322445E8E2240CA5E69E2C78B3239ECFAB21649 := by decide +kernel

/-- AES-256-GCM of 16 zero bytes under a key and a nonce of zeros, with no further data: ciphertext and tag (GCM specification, test
case 14). -/
theorem test_gcm :
    ofBe (gcmOpen (zeros 32) (zeros 12) (zeros 16)) = 0xCEA7403D4D606B6E074EC5D3BAF39D18 ∧
    ofBe (gcmTag (zeros 32) (zeros 12) [] (gcmOpen (zeros 32) (zeros 12) (zeros 16))) = 0xD0D1C8A799996BF0265B98B5D48AB919 := by decide +kernel

/-- 15, "reading across the end of the map": the first frame's status byte reads 0x82. -/
theorem test_slave_status :
    (match exec (.slaveHeader 15 0xFE) (puts State.reset [(SPT_STAT_SLVSEL 15, 1), (SEC_BOOTSTAT_STAGE, 9), (SEC_LCSTATE_LC, 2), (PWR_PDSTAT_STATE 83, 2)]) with
      | .next t => t.out
      | _ => []) = [.spt 15 0x82] := by decide +kernel

/-! ### Witnesses -/

theorem witness_RootAcquiresLock :
    ((let n : Fin 4 := 2; let s : State := (puts (State.reset) [(SYN_CSTAT_REFOK 2, 1), (SEQ_STAT_FAULT 2, 0), (BNK_STAT_ROOTACT 3, 2), (BNK_STAT_DLLSTATE 3, 0)]).modRoot n (fun r => { r with st := stWake, everLock := true }); decide ((s.rootState n = stWake) ∧ (s.bit (SYN_CSTAT_REFOK n) = true) ∧ (s.seqRuns n = true))) &&
    (let n : Fin 4 := 2; let edges : Nat := 700; let s : State := (puts (State.reset) [(SEQ_STAT_FAULT 2, 0)]).modRoot n (fun r => { r with st := stSearch, trial := 5 }); decide ((s.rootState n = stSearch) ∧ (s.seqRuns n = true))) &&
    (let n : Fin 4 := 2; let s : State := (puts (State.reset) [(SYN_LOCKCFG_N 2, 20), (SYN_PHCARRY_CARRY 2, 3), (SEQ_STAT_FAULT 2, 0)]).modRoot n (fun r => { r with st := stReclose, cnt := 20, ret := some 1, hop := some ({ preset := 3, prio := false, src := .none }, .ended) }); decide ((s.rootState n = stCount ∨ s.rootState n = stReclose) ∧ (s.lockN n ≤ (s.root n).cnt) ∧ (s.seqRuns n = true))) &&
    (let n : Fin 4 := 2; let s : State := (puts (State.reset) [(SEQ_STAT_FAULT 2, 0)]).modRoot n (fun r => { r with st := stReclose, everLock := true }); decide ((s.rootState n = stAcquire ∨ s.rootState n = stCount ∨ s.rootState n = stReclose) ∧ (s.seqRuns n = true))) &&
    (let n : Fin 4 := 2; let s : State := (puts (State.reset) [(SYN_LOCKCFG_LCNT 2, 3), (SYN_LOLCNT_COUNT 2, 0xFFFF), (SEQ_STAT_FAULT 2, 0)]).modRoot n (fun r => { r with st := stRamp, loss := 4, hop := none, everLock := true }); decide ((s.rootState n = stLocked ∨ s.rootState n = stHop ∨ s.rootState n = stRamp) ∧ (s.lossN n ≤ (s.root n).loss) ∧ ((s.root n).frozen = false) ∧ (s.bit (SEQ_STAT_FAULT n) = false))) &&
    (let n : Fin 4 := 2; let s : State := (puts (State.reset) [(SYN_LOCKCFG_LCNT 2, 3), (SYN_LOLCNT_COUNT 2, 0xFFFF), (SEQ_STAT_FAULT 2, 1)]).modRoot n (fun r => { r with st := stLocked, loss := 4, hop := none, eff := [] }); decide ((s.rootState n = stLocked ∨ s.rootState n = stHop ∨ s.rootState n = stRamp) ∧ (s.lossN n ≤ (s.root n).loss) ∧ ((s.root n).frozen = false) ∧ (s.bit (SEQ_STAT_FAULT n) = true) ∧ ((s.root n).eff = []))) &&
    (let n : Fin 4 := 2; let words : List (Option Nat) := [none, some 40]; let s : State := (puts (State.reset) [(SYN_LOLCNT_COUNT 2, 0xFFFF)]).modRoot n (fun r => { r with st := stSearch, rt := 2, waitOff := false, waitLoss := false, waitRamp := none, eff := [.put (SYN_STAT_LOCK 2) 0, .flag (SYN_FLAGS_LOL 2), .count (SYN_LOLCNT_COUNT 2), .put (SYN_STAT_STATE 2) stSearch, .put (SYN_STAT_LOCK 2) 0, .count (SYN_SRCHCNT_COUNT 2), .put (SYN_STAT_BAND 2) 32, .put (SYN_CSTAT_AVGVALID 2) 0] }); decide (((s.root n).rt = 2) ∧ ((s.root n).eff = [.put (SYN_STAT_LOCK n) 0, .flag (SYN_FLAGS_LOL n), .count (SYN_LOLCNT_COUNT n)] ++
      [.put (SYN_STAT_STATE n) stSearch, .put (SYN_STAT_LOCK n) 0, .count (SYN_SRCHCNT_COUNT n), .put (SYN_STAT_BAND n) 32, .put (SYN_CSTAT_AVGVALID n) 0]) ∧ ((s.root n).st = stSearch) ∧ ((s.root n).waitOff = false) ∧ ((s.root n).waitLoss = false) ∧ ((s.root n).waitRamp = none))) &&
    (let n : Fin 4 := 2; let words : List (Option Nat) := [none]; let s : State := (puts (State.reset) [(SYN_STAT_LOCK 2, 0), (SYN_STAT_STATE 2, 4)]).modRoot n (fun r => { r with st := stLocked, rt := 2, done := true, waitOff := false, waitLoss := false, waitRamp := none, eff := [.put (SYN_STAT_STATE 2) stLocked, .put (SYN_STAT_LOCK 2) 1, .put (SYN_STAT_COAST 2) 0] }); decide (((s.root n).rt = 2) ∧ ((s.root n).eff = [.put (SYN_STAT_STATE n) stLocked, .put (SYN_STAT_LOCK n) 1, .put (SYN_STAT_COAST n) 0]) ∧ ((s.root n).st = stLocked) ∧ ((s.root n).waitOff = false) ∧ ((s.root n).waitLoss = false) ∧ ((s.root n).waitRamp = none)))) = true := by decide +kernel

theorem witness_RecloseSlipsTheTimebase :
    ((let n : Fin 4 := 2; let words : List (Option Nat) := [none]; let s : State := (puts (State.reset) [(SYN_LOCKCFG_N 2, 20), (SYN_CCTRL_POLICY 2, 1), (SYN_PHCARRY_CARRY 2, 5), (SEQ_STAT_FAULT 2, 0)]).modRoot n (fun r => { r with st := stReclose, rt := 8, cnt := 20, hop := none }); decide ((s.rootState n = stReclose) ∧ (s.lockN n ≤ (s.root n).cnt) ∧ (s.seqRuns n = true) ∧ ((s.root n).rt = 8) ∧ ((s.root n).eff = []) ∧ ((s.root n).waitOff = false)))) = true := by decide +kernel

theorem witness_RootControlWrites :
    ((let src : Source := .firmware; let n : Fin 4 := 2; let w : Word := 0x00000021#32; let s : State := puts (State.reset) [(SYN_CTRL_EN 2, 0), (SYN_CTRL_LOCK 2, 0), (SYN_REFFREQ_KHZ 2, 100000), (SYN_REF_RMUL 2, 0), (SYN_REF_PDIV 2, 0), (PWR_PDSTAT_STATE 74, 2), (SYN_PWHI_INT 2 0, 128), (SYN_PWHI_FRACHI 2 0, 0), (SYN_PWLO_FRAC 2 0, 0)]; decide ((s.rowServed src (SYN_CTRL n) true = true) ∧ (s.bit (SYN_CTRL_EN n) = false) ∧ (wbit w 0 = true) ∧ (wbit w 1 = false) ∧ (wbit w 2 = false) ∧ ((s.writeReg (SYN_CTRL n) (BitVec.ofNat 32 (fieldPut w.toNat 0 1 0)) fullMask).enableWhy n = 0))) &&
    (let src : Source := .firmware; let n : Fin 4 := 2; let w : Word := 0x00000001#32; let s : State := puts (State.reset) [(SYN_CTRL_EN 2, 0)]; decide ((s.rowServed src (SYN_CTRL n) true = true) ∧ (s.bit (SYN_CTRL_EN n) = false) ∧ (wbit w 0 = true) ∧ (wbit w 1 = false) ∧ (wbit w 2 = false) ∧ ((s.writeReg (SYN_CTRL n) (BitVec.ofNat 32 (fieldPut w.toNat 0 1 0)) fullMask).enableWhy n ≠ 0))) &&
    (let src : Source := .firmware; let n : Fin 4 := 2; let w : Word := 0#32; let s : State := (List.range 8).foldl (fun u b => u.put (BNK_STAT_ROOTACT b) 1) (((puts (State.reset) [(SYN_CTRL_EN 2, 1), (SYN_CTRL_ODIV 2, 0), (SYN_CTRL_LOCK 2, 0)]).modRoot n (fun r => { r with pend := none, rt := 4 }))); decide ((s.rowServed src (SYN_CTRL n) true = true) ∧ (s.bit (SYN_CTRL_EN n) = true) ∧ (wbit w 0 = false) ∧ (wbit w 1 = false) ∧ (wbit w 2 = false) ∧ (fld w 4 3 = s.get (SYN_CTRL_ODIV n)) ∧ (s.rootFree n (fun b => s.bankIdle b) = true))) &&
    (let src : Source := .firmware; let n : Fin 4 := 2; let w : Word := 0x20#32; let s : State := (((puts (State.reset) [(SYN_CTRL_EN 2, 1), (SYN_CTRL_ODIV 2, 2), (SYN_CTRL_LOCK 2, 0), (BNK_STAT_ROOTACT 3, 2), (BNK_STAT_DLLSTATE 3, 3)]).modRoot n (fun r => { r with tclk := true })).modBank 3 (fun x => { x with cueq := [.cmd 1 1] })); decide ((s.rowServed src (SYN_CTRL n) true = true) ∧ (s.bit (SYN_CTRL_EN n) = true) ∧ (wbit w 0 = false) ∧ (wbit w 1 = false) ∧ (wbit w 2 = false) ∧ (fld w 4 3 = s.get (SYN_CTRL_ODIV n)) ∧ (s.rootFree n (fun b => s.bankIdle b) = false))) &&
    (let src : Source := .host; let n : Fin 4 := 2; let w : Word := 0x31#32; let s : State := puts ((puts State.reset [(SEC_BOOTSTAT_STAGE, 9), (SEC_LCSTATE_LC, 2)])) [(SYN_CTRL_EN 2, 1), (SYN_CTRL_ODIV 2, 2), (SYN_CTRL_LOCK 2, 0)]; decide ((s.rowServed src (SYN_CTRL n) true = true) ∧ (s.bit (SYN_CTRL_EN n) = true) ∧ (s.bit (SYN_CTRL_LOCK n) = false) ∧ (wbit w 0 = true) ∧ (wbit w 1 = false) ∧ (wbit w 2 = false) ∧ (fld w 4 3 ≠ s.get (SYN_CTRL_ODIV n)))) &&
    (let src : Source := .firmware; let n : Fin 4 := 2; let w : Word := 0x3#32; let s : State := (puts (State.reset) [(SYN_CTRL_EN 2, 1), (SYN_CTRL_ODIV 2, 0), (SEQ_STAT_FAULT 2, 0)]).modRoot n (fun r => { r with st := stHop, hop := some ({ preset := 3, prio := false, src := .none }, .inBand) }); decide ((s.rowServed src (SYN_CTRL n) true = true) ∧ (s.bit (SYN_CTRL_EN n) = true) ∧ (wbit w 0 = true) ∧ (wbit w 1 = true) ∧ (wbit w 2 = false) ∧ (fld w 4 3 = s.get (SYN_CTRL_ODIV n)) ∧ (s.rootState n = stLocked ∨ s.rootState n = stHop) ∧ (s.bit (SEQ_STAT_FAULT n) = false) ∧ ((s.root n).frozen = false))) &&
    (let src : Source := .host; let n : Fin 4 := 2; let w : Word := 0x4#32; let s : State := puts ((puts State.reset [(SEC_BOOTSTAT_STAGE, 9), (SEC_LCSTATE_LC, 2)])) [(SYN_CTRL_EN 2, 0), (SYN_CTRL_ODIV 2, 0), (SYN_PHPEND_PEND 2, 77)]; decide ((s.rowServed src (SYN_CTRL n) true = true) ∧ (wbit w 0 = s.bit (SYN_CTRL_EN n)) ∧ (wbit w 1 = false) ∧ (wbit w 2 = true) ∧ (s.bit (SYN_CTRL_EN n) = true → fld w 4 3 = s.get (SYN_CTRL_ODIV n))))) = true := by decide +kernel

theorem witness_HopRequestIsExecutedOrPends :
    ((let src : Source := .host; let n : Fin 4 := 1; let w : Word := 0x80000105#32; let s : State := (puts ((puts State.reset [(SEC_BOOTSTAT_STAGE, 9), (SEC_LCSTATE_LC, 2)])) []).modRoot n (fun r => { r with st := stLocked, lock := true, hop := none, pend := none }); decide ((s.rowServed src (SYN_HOP n) true = true) ∧ (wbit w 31 = true) ∧ (s.isLocked n = true) ∧ ((s.root n).hop = none) ∧ ((s.root n).pend = none))) &&
    (let src : Source := .host; let n : Fin 4 := 1; let w : Word := 0x8000000F#32; let s : State := (puts ((puts State.reset [(SEC_BOOTSTAT_STAGE, 9), (SEC_LCSTATE_LC, 2)])) []).modRoot n (fun r => { r with st := stSearch, hop := none, pend := none }); decide ((s.rowServed src (SYN_HOP n) true = true) ∧ (wbit w 31 = true) ∧ (s.isLocked n = false ∨ (s.root n).hop ≠ none) ∧ ((s.root n).pend = none))) &&
    (let src : Source := .host; let n : Fin 4 := 1; let w : Word := 0x8000010F#32; let s : State := (puts ((puts State.reset [(SEC_BOOTSTAT_STAGE, 9), (SEC_LCSTATE_LC, 2)])) []).modRoot n (fun r => { r with st := stLocked, hop := none, pend := some ⟨3, true, .none, none⟩ }); let p : HopReq := ⟨3, true, .none, none⟩; decide ((s.rowServed src (SYN_HOP n) true = true) ∧ (wbit w 31 = true) ∧ ((s.root n).pend = some p) ∧ (¬ (p.prio = true ∧ wbit w 8 = false)))) &&
    (let src : Source := .host; let n : Fin 4 := 1; let w : Word := 0x8000000F#32; let s : State := (puts ((puts State.reset [(SEC_BOOTSTAT_STAGE, 9), (SEC_LCSTATE_LC, 2)])) []).modRoot n (fun r => { r with st := stLocked, hop := none, pend := some ⟨3, true, .port 2 1 1, none⟩ }); let p : HopReq := ⟨3, true, .port 2 1 1, none⟩; decide ((s.rowServed src (SYN_HOP n) true = true) ∧ (wbit w 31 = true) ∧ ((s.root n).pend = some p) ∧ (p.prio = true) ∧ (wbit w 8 = false))) &&
    (let src : Source := .firmware; let n : Fin 4 := 1; let w : Word := 0x7FFFFFFF#32; let s : State := State.reset; decide ((s.rowServed src (SYN_HOP n) true = true) ∧ (wbit w 31 = false)))) = true := by decide +kernel

theorem witness_HopStartsByItsPreset :
    ((let n : Fin 4 := 1; let s : State := (puts (State.reset) [(SEQ_STAT_FAULT 1, 0), (SYN_REFFREQ_KHZ 1, 0)]).modRoot n (fun r => { r with st := stLocked, hop := some (⟨3, false, .none, none⟩, .waiting) }); let q : HopReq := ⟨3, false, .none, none⟩; decide ((s.seqFree n = true) ∧ ((s.root n).hop = some (q, .waiting) ∨ ((s.root n).hop = none ∧ (s.root n).pend = some q ∧ s.isLocked n = true)) ∧ (s.hopTime n q = true) ∧ (s.rangeOk n (s.root n).ss (s.presetWord n q.preset) = false) ∧ (s.rootState n = stLocked))) &&
    (let n : Fin 4 := 1; let s : State := { ((puts (State.reset) [(SEQ_STAT_FAULT 1, 0), (SYN_STAT_BAND 1, 32), (SYN_REFFREQ_KHZ 1, 100000), (SYN_REF_RMUL 1, 0), (SYN_REF_PDIV 1, 0), (SYN_CTRL_ODIV 1, 2), (SYN_PWHI_INT 1 3, 128), (SYN_PWHI_FRACHI 1 3, 0), (SYN_PWLO_FRAC 1 3, 0)]).modRoot n (fun r => { r with st := stLocked, tclk := true, band := 32, hop := some (⟨3, false, .none, some 99⟩, .waiting), ss := none })) with shadow := [(192, 0x36B02EE0#32)] }; let q : HopReq := ⟨3, false, .none, some 99⟩; decide ((s.seqFree n = true) ∧ ((s.root n).hop = some (q, .waiting) ∨ ((s.root n).hop = none ∧ (s.root n).pend = some q ∧ s.isLocked n = true)) ∧ (s.hopTime n q = true) ∧ (s.rangeOk n (s.root n).ss (s.presetWord n q.preset) = true) ∧ (¬ (s.rootState n = stSearch ∨ s.rootState n = stAcquire ∨ s.rootState n = stCount)) ∧ (s.inBand n (s.root n).ss (s.presetWord n q.preset) = true))) &&
    (let n : Fin 4 := 1; let s : State := { ((puts (State.reset) [(SEQ_STAT_FAULT 1, 0), (SYN_CTRL_PIN 1, 0), (SYN_REFFREQ_KHZ 1, 100000), (SYN_REF_RMUL 1, 0), (SYN_REF_PDIV 1, 0), (SYN_CTRL_ODIV 1, 2), (SYN_PWHI_INT 1 3, 128), (SYN_PWHI_FRACHI 1 3, 0), (SYN_PWLO_FRAC 1 3, 0)]).modRoot n (fun r => { r with st := stLocked, band := 32, hop := some (⟨3, false, .none, none⟩, .waiting), ss := none })) with shadow := [] }; let q : HopReq := ⟨3, false, .none, none⟩; decide ((s.seqFree n = true) ∧ ((s.root n).hop = some (q, .waiting) ∨ ((s.root n).hop = none ∧ (s.root n).pend = some q ∧ s.isLocked n = true)) ∧ (s.hopTime n q = true) ∧ (s.rangeOk n (s.root n).ss (s.presetWord n q.preset) = true) ∧ ((s.rootState n = stSearch ∨ s.rootState n = stAcquire ∨ s.rootState n = stCount) ∨ (s.inBand n (s.root n).ss (s.presetWord n q.preset) = false ∧ s.bit (SYN_CTRL_PIN n) = false)))) &&
    (let n : Fin 4 := 1; let s : State := { ((puts (State.reset) [(SEQ_STAT_FAULT 1, 0), (SYN_CTRL_PIN 1, 1), (SYN_REFFREQ_KHZ 1, 100000), (SYN_REF_RMUL 1, 0), (SYN_REF_PDIV 1, 0), (SYN_CTRL_ODIV 1, 2), (SYN_PWHI_INT 1 3, 128), (SYN_PWHI_FRACHI 1 3, 0), (SYN_PWLO_FRAC 1 3, 0)]).modRoot n (fun r => { r with st := stLocked, lock := true, band := 32, hop := none, pend := some ⟨3, false, .none, none⟩, ss := none })) with shadow := [] }; let q : HopReq := ⟨3, false, .none, none⟩; decide ((s.seqFree n = true) ∧ ((s.root n).hop = some (q, .waiting) ∨ ((s.root n).hop = none ∧ (s.root n).pend = some q ∧ s.isLocked n = true)) ∧ (s.hopTime n q = true) ∧ (s.rangeOk n (s.root n).ss (s.presetWord n q.preset) = true) ∧ (s.rootState n = stLocked) ∧ (s.inBand n (s.root n).ss (s.presetWord n q.preset) = false) ∧ (s.bit (SYN_CTRL_PIN n) = true))) &&
    (let n : Fin 4 := 1; let s : State := (puts (State.reset) [(SYN_HOPSTAT_HOPCNT 1, 0xFFFF), (SEQ_STAT_FAULT 1, 0)]).modRoot n (fun r => { r with st := stHop, hop := some (⟨3, false, .none, none⟩, .inBand), settle := 16 }); decide ((s.rootState n = stHop) ∧ (s.hopInBand n = true) ∧ (16 ≤ (s.root n).settle) ∧ (s.seqRuns n = true)))) = true := by decide +kernel

theorem witness_PhaseStepsCyclesAndStepBoundaries :
    ((let src : Source := .host; let n : Fin 4 := 1; let w : Word := 0x00FFFFFF#32; let s : State := puts ((puts State.reset [(SEC_BOOTSTAT_STAGE, 9), (SEC_LCSTATE_LC, 2)])) [(SYN_PHPEND_PEND 1, 1)]; decide ((s.rowServed src (SYN_PHSTEP n) true = true) ∧ (-(2 ^ 31 - 1 : Int) ≤ s.geti (SYN_PHPEND_PEND n) + signed 24 (fld w 0 24)) ∧ (s.geti (SYN_PHPEND_PEND n) + signed 24 (fld w 0 24) ≤ 2 ^ 31 - 1))) &&
    (let n : Fin 4 := 1; let w : Word := 0x1#32; let s : State := puts (State.reset) [(SYN_PHPEND_PEND 1, 0x7FFFFFFF)]; decide ((s.rowServed .firmware (SYN_PHSTEP n) true = true) ∧ (2 ^ 31 - 1 < s.geti (SYN_PHPEND_PEND n) + signed 24 (fld w 0 24)))) &&
    (let n : Fin 4 := 1; let e : Option Int := some (-5); let corr : Int := 3; let s : State := (puts (State.reset) [(SYN_PHPEND_PEND 1, 0xFFFFFFF0), (BNK_STAT_ROOTACT 3, 1), (BNK_STAT_DLLSTATE 3, 3)]).modRoot n (fun r => { r with st := stLocked, base := 140 * 2 ^ 40 }); decide ((s.rootState n ≠ stOff) ∧ (s.rootState n ≠ stWake))) &&
    (let n : Fin 4 := 1; let x : Int := -5; let corr : Int := 3; let s : State := (puts (State.reset) [(SYN_LOCKCFG_W 1, 5), (SYN_LOCKCFG_N 1, 40), (SEQ_STAT_FAULT 1, 0)]).modRoot n (fun r => { r with st := stCount, cnt := 39 }); decide ((s.rootState n = stAcquire ∨ s.rootState n = stCount) ∧ ((s.root n).frozen = false) ∧ (s.bit (SEQ_STAT_FAULT n) = false))) &&
    (let n : Fin 4 := 1; let x : Int := -50; let corr : Int := 3; let s : State := (puts (State.reset) [(SYN_LOCKCFG_W 1, 5), (SYN_PHPEND_PEND 1, 0xFFFFFFF0), (SEQ_STAT_FAULT 1, 0)]).modRoot n (fun r => { r with st := stLocked, loss := 1 }); decide ((s.rootState n = stLocked ∨ s.rootState n = stHop ∨ s.rootState n = stRamp) ∧ ((s.root n).frozen = false))) &&
    (let n : Fin 4 := 1; let corr : Int := 3; let s : State := (puts (State.reset) []).modRoot n (fun r => { r with st := stCount, cnt := 39, loss := 2 }); decide ((s.rootState n ≠ stOff) ∧ (s.rootState n ≠ stWake))) &&
    (let n : Fin 4 := 1; let words : List (Option Nat) := [none, some 12]; let s : State := (puts (State.reset) [(SYN_HOPSTAT_HOPCNT 1, 0xFFFF), (SYN_STAT_HOPBUSY 1, 1)]).modRoot n (fun r => { r with st := stLocked, rt := 3, done := true, eff := [.put (SYN_STAT_STATE 1) stLocked, .put (SYN_STAT_HOPBUSY 1) 0, .hop ⟨3, false, .none, none⟩ 1 Code.OK true], waitOff := false, waitLoss := false, waitAbort := false, pend := none, waitRamp := none }); let q : HopReq := ⟨3, false, .none, none⟩; decide (((s.root n).rt = 3) ∧ ((s.root n).done = true) ∧ (q.src = .none) ∧ ((s.root n).eff = [.put (SYN_STAT_STATE n) stLocked, .put (SYN_STAT_HOPBUSY n) 0, .hop q 1 Code.OK true]) ∧ ((s.root n).waitOff = false) ∧ ((s.root n).waitLoss = false) ∧ ((s.root n).waitAbort = false) ∧ ((s.root n).pend = none) ∧ ((s.root n).waitRamp = none))) &&
    (let n : Fin 4 := 1; let words : List (Option Nat) := [some 100]; let s : State := (puts (State.reset) [(SEQ_STAT_ROUTINE 1, 5), (SEQ_STAT_SUSP 1, 0), (SEQ_STAT_STEP 1, 0xFFFFFF)]).modRoot n (fun r => { r with st := stRamp, rt := 5, stepDue := true, done := false, eff := [], waitOff := false, waitLoss := false, waitAbort := false, pend := none, waitRamp := none }); decide (((s.root n).rt = 5) ∧ ((s.root n).stepDue = true) ∧ ((s.root n).done = false) ∧ ((s.root n).eff = []) ∧ ((s.root n).waitOff = false) ∧ ((s.root n).waitLoss = false) ∧ ((s.root n).waitAbort = false) ∧ ((s.root n).pend = none) ∧ ((s.root n).waitRamp = none))) &&
    (let n : Fin 4 := 1; let invalid : Bool := true; let words : List (Option Nat) := []; let s : State := (puts (State.reset) []).modRoot n (fun r => { r with st := stLocked, rt := 0, waitOff := false, waitLoss := false, waitAbort := false, pend := none, waitRamp := none }); decide (((s.root n).rt = 0) ∧ ((s.root n).waitOff = false) ∧ ((s.root n).waitLoss = false) ∧ ((s.root n).waitAbort = false) ∧ ((s.root n).pend = none) ∧ ((s.root n).waitRamp = none))) &&
    (let n : Fin 4 := 1; let words : List (Option Nat) := [some 100]; let s : State := (puts (State.reset) [(BNK_STAT_ROOTACT 2, 1), (BNK_STAT_DLLSTATE 2, 3)]).modRoot n (fun r => { r with st := stSearch, rt := 2, waitOff := true, hop := none }); decide (((s.root n).waitOff = true) ∧ ((s.root n).hop = none) ∧ ((s.root n).eff = []) ∧ ((s.root n).rt = 9 ∨ (s.root n).rt = 1 ∨ (s.root n).rt = 2)))) = true := by decide +kernel

theorem witness_InvalidMicroinstructionFaults :
    ((let n : Fin 4 := 1; let words : List (Option Nat) := [some 9000]; let s : State := (puts (State.reset) [(SEQ_STAT_BUSY 1, 1)]).modRoot n (fun r => { r with st := stHop, rt := 3, eff := [.put (SYN_STAT_STATE 1) stHop], com := ⟨stLocked, 3, 77, none, none, false, false, false, false, false⟩, waitOff := false }); decide (((s.root n).rt ≠ 0) ∧ ((s.root n).rt = 5 → (s.root n).stepDue = true) ∧ ((s.root n).waitOff = false))) &&
    (let n : Fin 4 := 1; let s : State := (puts (State.reset) [(SEQ_STAT_FAULT 1, 1)]).modRoot n (fun r => { r with st := stWake }); decide ((s.bit (SEQ_STAT_FAULT n) = true))) &&
    (let n : Fin 4 := 1; let s : State := (puts ((puts State.reset [(SEC_BOOTSTAT_STAGE, 9), (SEC_LCSTATE_LC, 2)])) [(SEQ_STAT_FAULT 1, 1)]).modRoot n (fun r => { r with st := stLocked, lock := true, loss := 900 }); let src : Source := .host; let w : Word := 1#32; let count : Nat := 4096; decide ((s.rowServed src (SYN_RCTRL n) true = true) ∧ (s.bit (SEQ_STAT_FAULT n) = true) ∧ (s.bit (SEQ_STAT_SUSP n) = false))) &&
    (let n : Fin 4 := 1; let e : Option Int := some 0; let corr : Int := 0; let s : State := (puts (State.reset) [(SEQ_STAT_FAULT 1, 1), (SYN_PHPEND_PEND 1, 9)]).modRoot n (fun r => { r with st := stLocked }); decide ((s.bit (SEQ_STAT_FAULT n) = true) ∧ (s.rootState n ≠ stOff) ∧ (s.rootState n ≠ stWake))) &&
    (let src : Source := .firmware; let n : Fin 4 := 1; let w : Word := 0x00000021#32; let s : State := puts (State.reset) [(SYN_CTRL_EN 1, 0), (SYN_CTRL_LOCK 1, 0), (SYN_REFFREQ_KHZ 1, 100000), (SYN_REF_RMUL 1, 0), (SYN_REF_PDIV 1, 0), (PWR_PDSTAT_STATE 73, 2), (SYN_PWHI_INT 1 0, 128), (SYN_PWHI_FRACHI 1 0, 0), (SYN_PWLO_FRAC 1 0, 0), (SEQ_STAT_FAULT 1, 1)]; decide ((s.rowServed src (SYN_CTRL n) true = true) ∧ (s.bit (SYN_CTRL_EN n) = false) ∧ (wbit w 0 = true) ∧ (wbit w 1 = false) ∧ (wbit w 2 = false) ∧ ((s.writeReg (SYN_CTRL n) (BitVec.ofNat 32 (fieldPut w.toNat 0 1 0)) fullMask).enableWhy n = 0)))) = true := by decide +kernel

theorem witness_RampsAndSpread :
    ((let src : Source := .host; let n : Fin 4 := 3; let w : Word := 0x00FF0001#32; let s : State := { ((puts ((puts State.reset [(SEC_BOOTSTAT_STAGE, 9), (SEC_LCSTATE_LC, 2)])) [(SEQ_STAT_SUSP 3, 1), (SEQ_STAT_FAULT 3, 0), (SYN_REFFREQ_KHZ 3, 100000), (SYN_REF_RMUL 3, 0), (SYN_REF_PDIV 3, 0), (SYN_CTRL_ODIV 3, 2)]).modRoot n (fun r => { r with st := stLocked, lock := true, rt := 0, waitOff := false, waitLoss := false, waitRamp := none, hop := none, com := { r.com with st := stLocked }, band := 32, ss := none, base := 128 * 2 ^ 40, segs := [] })) with shadow := [(320, 0x36B02EE0#32)] }; decide ((s.rowServed src (SYN_RCTRL n) true = true) ∧ (wbit w 0 = true) ∧ ((s.writeReg (SYN_RCTRL n) w fullMask).get (SYN_RCTRL_TRIG n) = 0 ∨ (s.writeReg (SYN_RCTRL n) w fullMask).get (SYN_RCTRL_TRIG n) = 3) ∧ ((s.writeReg (SYN_RCTRL n) w fullMask).rampWhy n = 0) ∧ ((s.root n).rt = 0))) &&
    (let src : Source := .host; let n : Fin 4 := 3; let w : Word := 0x00FF0001#32; let s : State := { ((puts ((puts State.reset [(SEC_BOOTSTAT_STAGE, 9), (SEC_LCSTATE_LC, 2)])) [(SEQ_STAT_SUSP 3, 1), (SEQ_STAT_FAULT 3, 0), (SYN_REFFREQ_KHZ 3, 100000), (SYN_REF_RMUL 3, 0), (SYN_REF_PDIV 3, 0), (SYN_CTRL_ODIV 3, 2)]).modRoot n (fun r => { r with st := stLocked, lock := true, rt := 6, waitOff := false, waitLoss := false, waitRamp := none, hop := none, com := { r.com with st := stLocked }, band := 32, ss := none, base := 128 * 2 ^ 40, segs := [] })) with shadow := [(320, 0x36B02EE0#32)] }; decide ((s.rowServed src (SYN_RCTRL n) true = true) ∧ (wbit w 0 = true) ∧ ((s.writeReg (SYN_RCTRL n) w fullMask).get (SYN_RCTRL_TRIG n) = 0 ∨ (s.writeReg (SYN_RCTRL n) w fullMask).get (SYN_RCTRL_TRIG n) = 3) ∧ ((s.writeReg (SYN_RCTRL n) w fullMask).rampWhy n = 0) ∧ ((s.root n).rt ≠ 0))) &&
    (let src : Source := .host; let n : Fin 4 := 3; let w : Word := 0x1#32; let s : State := (puts ((puts State.reset [(SEC_BOOTSTAT_STAGE, 9), (SEC_LCSTATE_LC, 2)])) [(SEQ_STAT_SUSP 3, 0)]).modRoot n (fun r => { r with st := stSearch }); decide ((s.rowServed src (SYN_RCTRL n) true = true) ∧ (wbit w 0 = true) ∧ ((s.writeReg (SYN_RCTRL n) w fullMask).get (SYN_RCTRL_TRIG n) = 0 ∨ (s.writeReg (SYN_RCTRL n) w fullMask).get (SYN_RCTRL_TRIG n) = 3) ∧ ((s.writeReg (SYN_RCTRL n) w fullMask).rampWhy n ≠ 0))) &&
    (let src : Source := .host; let n : Fin 4 := 3; let w : Word := 0x8#32; let s : State := puts ((puts State.reset [(SEC_BOOTSTAT_STAGE, 9), (SEC_LCSTATE_LC, 2)])) [(SYN_RSTAT_IGNCNT 3, 5)]; decide ((s.rowServed src (SYN_RCTRL n) true = true) ∧ (wbit w 0 = false) ∧ (wbit w 3 = true))) &&
    (let n : Fin 4 := 3; let s : State := { ((puts (State.reset) [(SYN_RCTRL_NSEG 3, 3), (SEQ_STAT_FAULT 3, 0), (SYN_REFFREQ_KHZ 3, 100000), (SYN_REF_RMUL 3, 0), (SYN_REF_PDIV 3, 0), (SYN_CTRL_ODIV 3, 2)]).modRoot n (fun r => { r with st := stRamp, rt := 5, band := 32, ss := none, ramp := some ⟨2, 0, some 1, ⟨0, 0, 0⟩, true, 0⟩, segs := [] })) with shadow := [(320, 0x36B02EE0#32)] }; let q : Ramp := ⟨2, 0, some 1, ⟨0, 0, 0⟩, true, 0⟩; decide (((s.root n).ramp = some q) ∧ (s.rootState n = stRamp) ∧ ((s.root n).rt = 5) ∧ (q.dwelling = true) ∧ (q.left = 0) ∧ ((s.root n).stepDue = false) ∧ (s.seqRuns n = true) ∧ (q.seg < s.get (SYN_RCTRL_NSEG n)) ∧ (s.targetWhy n (s.seg n (q.seg + 1)).target = 0))) &&
    (let n : Fin 4 := 3; let s : State := (puts (State.reset) [(SYN_RCTRL_NSEG 3, 3), (SYN_REFFREQ_KHZ 3, 0), (SEQ_STAT_FAULT 3, 0)]).modRoot n (fun r => { r with st := stRamp, rt := 5, stepDue := false, eff := [], waitOff := false, waitLoss := false, ramp := some ⟨2, 0, some 1, ⟨0, 0, 0⟩, true, 0⟩ }); let q : Ramp := ⟨2, 0, some 1, ⟨0, 0, 0⟩, true, 0⟩; decide (((s.root n).ramp = some q) ∧ (s.rootState n = stRamp) ∧ ((s.root n).rt = 5) ∧ (q.dwelling = true) ∧ (q.left = 0) ∧ ((s.root n).stepDue = false) ∧ (s.seqRuns n = true) ∧ ((s.root n).eff = []) ∧ ((s.root n).waitOff = false) ∧ (q.seg < s.get (SYN_RCTRL_NSEG n)) ∧ (s.targetWhy n (s.seg n (q.seg + 1)).target ≠ 0))) &&
    (let n : Fin 4 := 3; let s : State := { ((puts (State.reset) [(SYN_RCTRL_NSEG 3, 3), (SEQ_STAT_FAULT 3, 0), (SYN_REFFREQ_KHZ 3, 100000), (SYN_REF_RMUL 3, 0), (SYN_REF_PDIV 3, 0), (SYN_CTRL_ODIV 3, 2)]).modRoot n (fun r => { r with st := stRamp, rt := 5, band := 32, ss := none, ramp := some ⟨3, 0, none, ⟨0, 0, 0⟩, true, 0⟩, segs := [] })) with shadow := [(320, 0x36B02EE0#32)] }; let q : Ramp := ⟨3, 0, none, ⟨0, 0, 0⟩, true, 0⟩; decide (((s.root n).ramp = some q) ∧ (s.rootState n = stRamp) ∧ ((s.root n).rt = 5) ∧ (q.dwelling = true) ∧ (q.left = 0) ∧ ((s.root n).stepDue = false) ∧ (s.seqRuns n = true) ∧ (s.get (SYN_RCTRL_NSEG n) ≤ q.seg) ∧ (q.passes.all (fun k => decide (q.pass + 1 < k)) = true) ∧ (s.targetWhy n (s.seg n 0).target = 0))) &&
    (let n : Fin 4 := 3; let s : State := (puts (State.reset) [(SYN_RCTRL_NSEG 3, 3), (SEQ_STAT_FAULT 3, 0)]).modRoot n (fun r => { r with st := stRamp, rt := 5, stepDue := false, eff := [], waitOff := false, waitLoss := false, ramp := some ⟨3, 0, some 1, ⟨0, 0, 0⟩, true, 0⟩ }); let q : Ramp := ⟨3, 0, some 1, ⟨0, 0, 0⟩, true, 0⟩; let k : Nat := 1; decide (((s.root n).ramp = some q) ∧ (s.rootState n = stRamp) ∧ ((s.root n).rt = 5) ∧ (q.dwelling = true) ∧ (q.left = 0) ∧ ((s.root n).stepDue = false) ∧ (s.seqRuns n = true) ∧ ((s.root n).eff = []) ∧ ((s.root n).waitOff = false) ∧ (s.get (SYN_RCTRL_NSEG n) ≤ q.seg) ∧ (q.passes = some k) ∧ (k ≤ q.pass + 1))) &&
    (let n : Fin 4 := 3; let s : State := { ((puts (State.reset) [(SYN_SSCTRL_EN 3, 1), (SYN_SSCTRL_CENTRE 3, 1), (SYN_SSCTRL_TABLE 3, 0), (SYN_SSDEV_PPM 3, 5000), (SYN_SSRATE_HZ 3, 200000), (SEQ_STAT_FAULT 3, 0), (SYN_REFFREQ_KHZ 3, 100000), (SYN_REF_RMUL 3, 0), (SYN_REF_PDIV 3, 0), (SYN_CTRL_ODIV 3, 2)]).modRoot n (fun r => { r with st := stLocked, band := 32, ss := none, ssReq := true, base := 128 * 2 ^ 40 })) with shadow := [(320, 0x36B02EE0#32)] }; decide ((spreadRuns (s.rootState n) = true) ∧ ((s.root n).ss = none ∨ (s.root n).ssk = 0) ∧ (s.seqRuns n = true) ∧ (s.spreadPending n = true) ∧ (s.bit (SYN_SSCTRL_EN n) = true) ∧ (s.spreadWhy n (s.spreadWanted n) = 0))) &&
    (let n : Fin 4 := 3; let s : State := (puts (State.reset) [(SYN_SSCTRL_EN 3, 1), (SYN_SSDEV_PPM 3, 5001), (SEQ_STAT_FAULT 3, 0)]).modRoot n (fun r => { r with st := stLocked, ss := none, ssReq := true }); decide ((spreadRuns (s.rootState n) = true) ∧ ((s.root n).ss = none ∨ (s.root n).ssk = 0) ∧ (s.seqRuns n = true) ∧ (s.spreadPending n = true) ∧ (s.bit (SYN_SSCTRL_EN n) = true) ∧ (s.spreadWhy n (s.spreadWanted n) ≠ 0))) &&
    (let n : Fin 4 := 3; let s : State := (puts (State.reset) [(SYN_SSCTRL_EN 3, 0), (SEQ_STAT_FAULT 3, 0)]).modRoot n (fun r => { r with st := stCoast, ssReq := true, ss := some ⟨true, false, 5, 20000, 9, 100, []⟩, ssk := 0 }); decide ((spreadRuns (s.rootState n) = true) ∧ ((s.root n).ss = none ∨ (s.root n).ssk = 0) ∧ (s.seqRuns n = true) ∧ (s.spreadPending n = true) ∧ (s.bit (SYN_SSCTRL_EN n) = false))) &&
    (let n : Fin 4 := 3; let s : State := (puts (State.reset) [(SYN_SSCTRL_EN 3, 0), (SEQ_STAT_FAULT 3, 0)]).modRoot n (fun r => { r with st := stLocked, ssReq := false, ss := some ⟨true, false, 5, 20000, 9, 100, []⟩, ssk := 0 }); decide ((spreadRuns (s.rootState n) = true) ∧ ((s.root n).ss = none ∨ (s.root n).ssk = 0) ∧ (s.seqRuns n = true) ∧ (s.spreadPending n = false))) &&
    (let n : Fin 4 := 3; let words : List (Option Nat) := []; let p : Nat := 500; let s : State := (puts (State.reset) []).modRoot n (fun r => { r with st := stLocked, rt := 6, waitOff := false, waitLoss := false, waitRamp := none, ss := some ⟨true, false, 5, 20000, 9, 100, []⟩, eff := [.put (SYN_SSSTAT_LASTRES 3) 1, .put (SYN_SSSTAT_PERIOD 3) 500] }); decide (((s.root n).rt = 6) ∧ ((s.root n).eff = [.put (SYN_SSSTAT_LASTRES n) 1, .put (SYN_SSSTAT_PERIOD n) p]) ∧ ((s.root n).waitOff = false) ∧ ((s.root n).waitLoss = false) ∧ ((s.root n).waitRamp = none)))) = true := by decide +kernel

theorem witness_SequencerControls :
    ((let src : Source := .host; let n : Fin 4 := 3; let w : Word := 0x1#32; let s : State := (puts ((puts State.reset [(SEC_BOOTSTAT_STAGE, 9), (SEC_LCSTATE_LC, 2)])) []).modRoot n (fun r => { r with rt := 0 }); decide ((s.rowServed src (SEQ_CTRL n) true = true) ∧ (wbit w 0 = true) ∧ (wbit w 1 = false) ∧ (wbit w 2 = false) ∧ ((s.root n).rt = 0))) &&
    (let src : Source := .host; let n : Fin 4 := 3; let w : Word := 0x1#32; let s : State := (puts ((puts State.reset [(SEC_BOOTSTAT_STAGE, 9), (SEC_LCSTATE_LC, 2)])) []).modRoot n (fun r => { r with rt := 5, stepDue := true, waitAbort := false }); decide ((s.rowServed src (SEQ_CTRL n) true = true) ∧ (wbit w 0 = true) ∧ (wbit w 1 = false) ∧ (wbit w 2 = false) ∧ (s.between n = false))) &&
    (let src : Source := .host; let n : Fin 4 := 3; let w : Word := 0x1#32; let s : State := (puts ((puts State.reset [(SEC_BOOTSTAT_STAGE, 9), (SEC_LCSTATE_LC, 2)])) [(SEQ_STAT_FAULT 3, 0)]).modRoot n (fun r => { r with st := stRamp, rt := 5, stepDue := false, waitOff := false, waitLoss := false, pend := none, ramp := some ⟨2, 0, some 1, ⟨0, 0, 0⟩, true, 0⟩ }); decide ((s.rowServed src (SEQ_CTRL n) true = true) ∧ (wbit w 0 = true) ∧ (wbit w 1 = false) ∧ (wbit w 2 = false) ∧ ((s.root n).rt = 5) ∧ (s.between n = true) ∧ ((s.root n).waitOff = false) ∧ ((s.root n).waitLoss = false) ∧ ((s.root n).pend = none) ∧ (s.bit (SEQ_STAT_FAULT n) = false))) &&
    (let n : Fin 4 := 3; let words : List (Option Nat) := [some 7]; let s : State := (puts (State.reset) []).modRoot n (fun r => { r with st := stRamp, rt := 5, stepDue := true, done := false, eff := [], waitRamp := none, waitLoss := false, waitAbort := true, waitOff := false, pend := none }); decide (((s.root n).waitAbort = true) ∧ ((s.root n).waitOff = false) ∧ ((s.root n).waitLoss = false) ∧ ((s.root n).pend = none) ∧ (s.rootState n = stRamp) ∧ ((s.root n).rt = 5) ∧ ((s.root n).stepDue = true) ∧ ((s.root n).done = false) ∧ ((s.root n).eff = []) ∧ ((s.root n).waitRamp = none))) &&
    (let src : Source := .host; let n : Fin 4 := 3; let w : Word := 0x2#32; let s : State := (puts ((puts State.reset [(SEC_BOOTSTAT_STAGE, 9), (SEC_LCSTATE_LC, 2)])) [(SEQ_STAT_SUSP 3, 1), (SEQ_STAT_FAULT 3, 0)]).modRoot n (fun r => { r with st := stLocked, lock := true, rt := 0, waitOff := false, waitLoss := false, waitRamp := none, hop := none, com := { r.com with st := stLocked }, base := 9, checkpoint := 9, intr := some ⟨5, 77, true⟩, ramp := some ⟨3, 0, some 1, ⟨0, 0, 0⟩, true, 0⟩ }); decide ((s.rowServed src (SEQ_CTRL n) true = true) ∧ (wbit w 0 = false) ∧ (wbit w 1 = true) ∧ (wbit w 2 = false) ∧ (s.bit (SEQ_STAT_SUSP n) = true) ∧ (s.bit (SEQ_STAT_FAULT n) = false) ∧ (s.rampLocked n = true) ∧ ((s.root n).hop = none) ∧ ((s.root n).base = (s.root n).checkpoint) ∧ ((s.root n).rt = 0))) &&
    (let src : Source := .host; let n : Fin 4 := 3; let w : Word := 0x2#32; let s : State := (puts ((puts State.reset [(SEC_BOOTSTAT_STAGE, 9), (SEC_LCSTATE_LC, 2)])) [(SEQ_STAT_SUSP 3, 1), (SEQ_STAT_FAULT 3, 0)]).modRoot n (fun r => { r with st := stLocked, lock := true, rt := 0, waitOff := false, waitLoss := false, waitRamp := none, hop := none, com := { r.com with st := stLocked }, base := 9, checkpoint := 8 }); decide ((s.rowServed src (SEQ_CTRL n) true = true) ∧ (wbit w 0 = false) ∧ (wbit w 1 = true) ∧ (wbit w 2 = false) ∧ (s.bit (SEQ_STAT_SUSP n) = true) ∧ (s.bit (SEQ_STAT_FAULT n) = false) ∧ (s.rampLocked n = true) ∧ ((s.root n).hop = none) ∧ ((s.root n).base ≠ (s.root n).checkpoint))) &&
    (let src : Source := .host; let n : Fin 4 := 3; let w : Word := 0x2#32; let s : State := (puts ((puts State.reset [(SEC_BOOTSTAT_STAGE, 9), (SEC_LCSTATE_LC, 2)])) [(SEQ_STAT_SUSP 3, 1), (SEQ_STAT_FAULT 3, 0)]).modRoot n (fun r => { r with st := stCoast }); decide ((s.rowServed src (SEQ_CTRL n) true = true) ∧ (wbit w 0 = false) ∧ (wbit w 1 = true) ∧ (wbit w 2 = false) ∧ (s.bit (SEQ_STAT_SUSP n) = true) ∧ (s.bit (SEQ_STAT_FAULT n) = false) ∧ (s.rampLocked n = false ∨ (s.root n).hop ≠ none))) &&
    (let src : Source := .host; let n : Fin 4 := 3; let w : Word := 0x4#32; let s : State := puts ((puts State.reset [(SEC_BOOTSTAT_STAGE, 9), (SEC_LCSTATE_LC, 2)])) [(SEQ_STAT_SUSP 3, 1)]; decide ((s.rowServed src (SEQ_CTRL n) true = true) ∧ (wbit w 0 = false) ∧ (wbit w 1 = false) ∧ (wbit w 2 = true) ∧ (s.bit (SEQ_STAT_SUSP n) = true) ∧ (¬(s.rootState n = stRamp ∧ (s.root n).rt = 5)))) &&
    (let src : Source := .host; let n : Fin 4 := 3; let w : Word := 0x4#32; let s : State := (puts ((puts State.reset [(SEC_BOOTSTAT_STAGE, 9), (SEC_LCSTATE_LC, 2)])) []).modRoot n (fun r => { r with st := stRamp, rt := 5, eff := [], waitOff := false, waitLoss := false, ramp := some ⟨3, 0, some 1, ⟨0, 0, 0⟩, true, 0⟩ }); decide ((s.rowServed src (SEQ_CTRL n) true = true) ∧ (wbit w 0 = false) ∧ (wbit w 1 = false) ∧ (wbit w 2 = true) ∧ (s.rootState n = stRamp) ∧ ((s.root n).rt = 5) ∧ ((s.root n).waitLoss = false) ∧ ((s.root n).eff = []) ∧ ((s.root n).waitOff = false)))) = true := by decide +kernel

theorem witness_CoastingAndReturn :
    ((let n : Fin 4 := 3; let s : State := (puts (State.reset) [(SYN_COASTCNT_COUNT 3, 0xFFFF), (SEQ_STAT_FAULT 3, 0), (PWR_PDSTAT_STATE 75, 2)]).modRoot n (fun r => { r with st := stLocked, waitOff := false }); decide ((s.domOn (72 + n) = true) ∧ (s.freed = true) ∧ (s.rootState n ≠ stOff) ∧ ((s.root n).waitOff = false))) &&
    (let n : Fin 4 := 3; let words : List (Option Nat) := [none]; let s : State := (puts (State.reset) []).modRoot n (fun r => { r with st := stLocked, rt := 7, frozen := true }); decide (((s.root n).rt = 7) ∧ ((s.root n).eff = []) ∧ ((s.root n).waitOff = false) ∧ ((s.root n).waitLoss = false))) &&
    (let n : Fin 4 := 3; let s : State := (puts (State.reset) [(SEQ_STAT_FAULT 3, 0), (PWR_PDSTAT_STATE 75, 2)]).modRoot n (fun r => { r with st := stOff }); decide ((s.domOn (72 + n) = true) ∧ (s.freed = true) ∧ (s.rootState n = stOff))) &&
    (let n : Fin 4 := 3; let s : State := (puts (State.reset) [(SEQ_STAT_FAULT 3, 0), (PWR_PDSTAT_STATE 75, 2)]).modRoot n (fun r => { r with st := stCoast, lossInWin := true }); decide ((s.rootState n = stCoast) ∧ (s.seqRuns n = true) ∧ ((s.root n).waitOff = false))) &&
    (let n : Fin 4 := 3; let count : Nat := 40964; let s : State := (puts (State.reset) [(CLK_STAT_XOSTABLE, 1), (SYN_REFFREQ_KHZ 3, 100000), (SEQ_STAT_FAULT 3, 0), (PWR_PDSTAT_STATE 75, 2)]).modRoot n (fun r => { r with st := stQualify }); decide ((s.domOn (72 + n) = true) ∧ (s.freed = true) ∧ (s.bit CLK_STAT_XOSTABLE = true) ∧ (((count : Int) - s.windowExpect n).natAbs ≤ windowTol (s.windowExpect n)) ∧ ((s.root n).lossInWin = false) ∧ (s.rootState n ≠ stFreerun))) &&
    (let n : Fin 4 := 3; let count : Nat := 40956; let s : State := (puts (State.reset) [(CLK_STAT_XOSTABLE, 1), (SYN_REFFREQ_KHZ 3, 100000), (SEQ_STAT_FAULT 3, 0), (PWR_PDSTAT_STATE 75, 2)]).modRoot n (fun r => { r with st := stFreerun, lostInWake := true }); decide ((s.domOn (72 + n) = true) ∧ (s.freed = true) ∧ (s.bit CLK_STAT_XOSTABLE = true) ∧ (((count : Int) - s.windowExpect n).natAbs ≤ windowTol (s.windowExpect n)) ∧ ((s.root n).lossInWin = false) ∧ (s.rootState n = stFreerun) ∧ (s.bit (SEQ_STAT_FAULT n) = false) ∧ ((s.root n).waitOff = false))) &&
    (let n : Fin 4 := 3; let count : Nat := 40956; let s : State := (puts (State.reset) [(CLK_STAT_XOSTABLE, 1), (SYN_REFFREQ_KHZ 3, 100000), (SEQ_STAT_FAULT 3, 0), (PWR_PDSTAT_STATE 75, 2)]).modRoot n (fun r => { r with st := stQualify, lossInWin := true }); decide ((s.domOn (72 + n) = true) ∧ (s.freed = true) ∧ (s.bit CLK_STAT_XOSTABLE = true) ∧ (((count : Int) - s.windowExpect n).natAbs ≤ windowTol (s.windowExpect n)) ∧ ((s.root n).lossInWin = true))) &&
    (let n : Fin 4 := 3; let count : Nat := 40955; let s : State := (puts (State.reset) [(CLK_STAT_XOSTABLE, 1), (SYN_REFFREQ_KHZ 3, 100000), (SEQ_STAT_FAULT 3, 0), (PWR_PDSTAT_STATE 75, 2)]).modRoot n (fun r => { r with st := stRamp }); decide ((s.domOn (72 + n) = true) ∧ (s.freed = true) ∧ (s.bit CLK_STAT_XOSTABLE = false ∨ windowTol (s.windowExpect n) < ((count : Int) - s.windowExpect n).natAbs))) &&
    (let n : Fin 4 := 3; let theta : Int := 70000; let s : State := (puts (State.reset) [(SYN_CCTRL_POLICY 3, 0), (SYN_PHCARRY_CARRY 3, 5), (SEQ_STAT_FAULT 3, 0), (PWR_PDSTAT_STATE 75, 2)]).modRoot n (fun r => { r with st := stMeasure, ss := none, base := 128 * 2 ^ 40 }); decide ((s.rootState n = stMeasure) ∧ (s.seqRuns n = true) ∧ (s.get (SYN_CCTRL_POLICY n) ≠ 2))) &&
    (let n : Fin 4 := 3; let theta : Int := 70000; let s : State := (puts (State.reset) [(SYN_CCTRL_POLICY 3, 2), (SEQ_STAT_FAULT 3, 0), (PWR_PDSTAT_STATE 75, 2)]).modRoot n (fun r => { r with st := stMeasure }); decide ((s.rootState n = stMeasure) ∧ (s.seqRuns n = true) ∧ (s.get (SYN_CCTRL_POLICY n) = 2))) &&
    (let src : Source := .host; let n : Fin 4 := 3; let w : Word := 0xA#32; let s : State := puts ((puts State.reset [(SEC_BOOTSTAT_STAGE, 9), (SEC_LCSTATE_LC, 2)])) [(SYN_CCTRL_POLICY 3, 0), (SYN_PHCARRY_CARRY 3, 5), (SYN_CSTAT_WORKING 3, 0)]; decide ((s.rowServed src (SYN_CCTRL n) true = true) ∧ (wbit w 3 = true) ∧ (fld w 0 2 ≠ 1) ∧ (s.get (SYN_CCTRL_POLICY n) = 1 ∨ s.bit (SYN_CSTAT_WORKING n) = false) ∧ (s.geti (SYN_PHCARRY_CARRY n) ≠ 0))) &&
    (let n : Fin 4 := 3; let s : State := (puts (State.reset) [(SYN_CSTAT_WORKING 3, 1), (SYN_CCTRL_SLEWK 3, 40), (SYN_PHCARRY_CARRY 3, 1), (SEQ_STAT_FAULT 3, 0), (PWR_PDSTAT_STATE 75, 2)]).modRoot n (fun r => { r with st := stLocked, woCnt := 40 }); decide ((s.bit (SYN_CSTAT_WORKING n) = true) ∧ (s.stepperOn n = true) ∧ (max 1 (s.get (SYN_CCTRL_SLEWK n)) ≤ (s.root n).woCnt) ∧ ((s.root n).stepped = false))) &&
    (let n : Fin 4 := 3; let s : State := (puts (State.reset) [(SYN_CSTAT_WORKING 3, 1), (SYN_CCTRL_SLEWK 3, 40), (SYN_PHCARRY_CARRY 3, 1), (SEQ_STAT_FAULT 3, 0), (PWR_PDSTAT_STATE 75, 2)]).modRoot n (fun r => { r with st := stLocked, woCnt := 40, stepped := true }); decide ((s.bit (SYN_CSTAT_WORKING n) = true) ∧ (s.stepperOn n = true) ∧ (max 1 (s.get (SYN_CCTRL_SLEWK n)) ≤ (s.root n).woCnt) ∧ ((s.root n).stepped = true)))) = true := by decide +kernel

theorem witness_TaintIntervalsHaltNoticesAndRelease :
    ((let b : Fin 8 := 5; let s : State := (puts (State.reset) [(BNK_STAT_TAINT 5, 0), (BNK_STAT_DLLLOCK 5, 0), (BNK_TAINTCNT_COUNT 5, 0xFFFF)]).modBank 5 (fun x => { x with openAt := none }); decide ((s.bit (BNK_STAT_TAINT b) = false) ∧ (s.taintSrc b ≠ 0))) &&
    (let b : Fin 8 := 5; let s : State := (((puts (State.reset) [(BNK_STAT_TAINT 5, 1), (BNK_STAT_DLLLOCK 5, 1), (BNK_STAT_ROOTACT 5, 2)]).modBank 5 (fun x => { x with openAt := some 7 })).modRoot 2 (fun r => { r with lock := true, coasting := false, snap := false, tb := 2 ^ 40 + 7 })); decide ((s.bit (BNK_STAT_TAINT b) = true) ∧ (s.taintSrc b = 0))) &&
    (let g : Fin 64 := 63; let b : Fin 8 := 5; let x : Nat := 77; let s : State := (((puts (State.reset) [(CH_GRP_MEMBER 321, 1), (CH_GRP_GROUP 321, 63), (GRP_HALT_HALTED 63, 1)]).modGroup 63 (fun x => { x with notices := [(4, 9), (5, 77)] })).modChan 321 (fun x => { x with cyc := { x.cyc with on := true } })); decide (((s.group g).notices.find? (fun p => p.1 == b.val) = some (b.val, x)))) &&
    (let src : Source := .host; let g : Fin 64 := 63; let w : Word := 0x2#32; let s : State := puts ((puts State.reset [(SEC_BOOTSTAT_STAGE, 9), (SEC_LCSTATE_LC, 2)])) [(CH_GRP_MEMBER 321, 1), (CH_GRP_GROUP 321, 63), (BNK_STAT_TAINT 5, 1)]; decide ((s.rowServed src (GRP_HALT g) true = true) ∧ (wbit w 1 = true) ∧ ((s.memberBanks g).any (fun b => s.bit (BNK_STAT_TAINT b)) = true))) &&
    (let src : Source := .host; let g : Fin 64 := 63; let w : Word := 0x2#32; let s : State := ((puts ((puts State.reset [(SEC_BOOTSTAT_STAGE, 9), (SEC_LCSTATE_LC, 2)])) [(CH_GRP_MEMBER 321, 1), (CH_GRP_GROUP 321, 63), (BNK_STAT_TAINT 5, 0), (GRP_HALT_HALTED 63, 1), (CH_STAT_PCAUSE 321, 4)]).modChan 321 (fun x => { x with cyc := { x.cyc with on := true }, pk := { x.pk with parked := true } })); let n : Fin 512 := 321; decide ((s.rowServed src (GRP_HALT g) true = true) ∧ (wbit w 1 = true) ∧ ((s.memberBanks g).any (fun b => s.bit (BNK_STAT_TAINT b)) = false) ∧ (s.bit (GRP_HALT_HALTED g) = true) ∧ ((s.group g).relAcc = false) ∧ (s.lowest g = some n.val))) &&
    (let src : Source := .host; let g : Fin 64 := 63; let w : Word := 0x2#32; let s : State := puts ((puts State.reset [(SEC_BOOTSTAT_STAGE, 9), (SEC_LCSTATE_LC, 2)])) [(GRP_HALT_HALTED 63, 0)]; decide ((s.rowServed src (GRP_HALT g) true = true) ∧ (wbit w 1 = true) ∧ ((s.memberBanks g).any (fun b => s.bit (BNK_STAT_TAINT b)) = false) ∧ (s.bit (GRP_HALT_HALTED g) = false ∨ (s.group g).relAcc = true)))) = true := by decide +kernel

theorem witness_RootSelectionAsksForAnIdleBank :
    ((let src : Source := .host; let b : Fin 8 := 5; let w : Word := 0x3#32; let s : State := (List.range 64).foldl (fun u i => (u.put (CH_GRP_MEMBER (320 + i)) 0).put (CH_TAKE_JOIN (320 + i)) 0) ((puts ((puts State.reset [(SEC_BOOTSTAT_STAGE, 9), (SEC_LCSTATE_LC, 2)])) [(BNK_ROOT_LOCK 5, 0), (BNK_ROOT_SEL 5, 0)])); decide ((s.rowServed src (BNK_ROOT b) true = true) ∧ (s.bit (BNK_ROOT_LOCK b) = false) ∧ (fld w 0 2 ≠ s.get (BNK_ROOT_SEL b)) ∧ (s.bankIdle b = true))) &&
    (let src : Source := .host; let b : Fin 8 := 5; let w : Word := 0x3#32; let s : State := (puts ((puts State.reset [(SEC_BOOTSTAT_STAGE, 9), (SEC_LCSTATE_LC, 2)])) [(BNK_ROOT_LOCK 5, 0), (BNK_ROOT_SEL 5, 0), (BNK_STAT_DLLSTATE 5, 3)]).modBank 5 (fun x => { x with cueq := [.cmd 1 1] }); decide ((s.rowServed src (BNK_ROOT b) true = true) ∧ (s.bit (BNK_ROOT_LOCK b) = false) ∧ (fld w 0 2 ≠ s.get (BNK_ROOT_SEL b)) ∧ (s.bankIdle b = false))) &&
    (let src : Source := .host; let b : Fin 8 := 5; let w : Word := 0x3#32; let s : State := puts ((puts State.reset [(SEC_BOOTSTAT_STAGE, 9), (SEC_LCSTATE_LC, 2)])) [(BNK_ROOT_SEL 5, 0), (BNK_ROOT_LOCK 5, 1)]; decide ((s.rowServed src (BNK_ROOT b) true = true) ∧ (fld w 0 2 = s.get (BNK_ROOT_SEL b) ∨ s.bit (BNK_ROOT_LOCK b) = true))) &&
    (let src : Source := .host; let b : Fin 8 := 5; let w : Word := 0x100#32; let s : State := (List.range 64).foldl (fun u i => (u.put (CH_GRP_MEMBER (320 + i)) 0).put (CH_TAKE_JOIN (320 + i)) 0) ((puts State.reset [(SEC_BOOTSTAT_STAGE, 9), (SEC_LCSTATE_LC, 2)])); decide ((s.rowServed src (BNK_CUECTRL b) true = true) ∧ (wbit w 8 = true) ∧ (s.bankIdle b = true))) &&
    (let src : Source := .host; let b : Fin 8 := 5; let w : Word := 0x100#32; let s : State := (puts ((puts State.reset [(SEC_BOOTSTAT_STAGE, 9), (SEC_LCSTATE_LC, 2)])) [(BNK_STAT_DLLSTATE 5, 3)]).modBank 5 (fun x => { x with cueq := [.cmd 1 1] }); decide ((s.rowServed src (BNK_CUECTRL b) true = true) ∧ (wbit w 8 = true) ∧ (s.bankIdle b = false)))) = true := by decide +kernel

theorem witness_DllComparisonReportsItsOwnLoss :
    ((let b : Fin 8 := 5; let e : Int := -33; let cw : BitVec 16 := 5#16; let s : State := ((puts (State.reset) [(BNK_STAT_DLLSTATE 5, 3), (BNK_DLLCFG_WIN 5, 16), (BNK_DLLCFG_LCNT 5, 2), (BNK_STAT_ROOTACT 5, 1)]).modBank 5 (fun x => { x with dllLoss := 2 })).modRoot 1 (fun r => { r with lock := true }); decide ((s.get (BNK_STAT_DLLSTATE b) = 3) ∧ (2 * max 1 (s.get (BNK_DLLCFG_WIN b)) < s.dllError b e) ∧ (s.get (BNK_DLLCFG_LCNT b) ≤ (s.bank b).dllLoss) ∧ ((s.root (s.rootOf b)).lock = true))) &&
    (let b : Fin 8 := 5; let e : Int := 33; let cw : BitVec 16 := 5#16; let s : State := ((puts (State.reset) [(BNK_STAT_DLLSTATE 5, 3), (BNK_DLLCFG_WIN 5, 16), (BNK_DLLCFG_LCNT 5, 2), (BNK_STAT_ROOTACT 5, 1)]).modBank 5 (fun x => { x with dllLoss := 2 })).modRoot 1 (fun r => { r with lock := false }); decide ((s.get (BNK_STAT_DLLSTATE b) = 3) ∧ (2 * max 1 (s.get (BNK_DLLCFG_WIN b)) < s.dllError b e) ∧ (s.get (BNK_DLLCFG_LCNT b) ≤ (s.bank b).dllLoss) ∧ ((s.root (s.rootOf b)).lock = false)))) = true := by decide +kernel

theorem witness_DllAcquires :
    ((let b : Fin 8 := 5; let cw : BitVec 16 := 0xFFFF#16; let s : State := puts (State.reset) [(BNK_STAT_DLLSTATE 5, 1)]; decide ((s.get (BNK_STAT_DLLSTATE b) = 1))) &&
    (let b : Fin 8 := 5; let e : Int := -16; let cw : BitVec 16 := 9#16; let s : State := (puts (State.reset) [(BNK_STAT_DLLSTATE 5, 2), (BNK_DLLCFG_WIN 5, 16), (BNK_DLLCFG_NLOCK 5, 64)]).modBank 5 (fun x => { x with dllCnt := 63 }); decide ((s.get (BNK_STAT_DLLSTATE b) = 2) ∧ (s.dllError b e ≤ max 1 (s.get (BNK_DLLCFG_WIN b))) ∧ (max 8 (s.get (BNK_DLLCFG_NLOCK b)) ≤ (s.bank b).dllCnt + 1))) &&
    (let b : Fin 8 := 5; let e : Int := -16; let cw : BitVec 16 := 9#16; let s : State := (puts (State.reset) [(BNK_STAT_DLLSTATE 5, 2), (BNK_DLLCFG_WIN 5, 16), (BNK_DLLCFG_NLOCK 5, 64)]).modBank 5 (fun x => { x with dllCnt := 62 }); decide ((s.get (BNK_STAT_DLLSTATE b) = 2) ∧ (s.dllError b e ≤ max 1 (s.get (BNK_DLLCFG_WIN b))) ∧ ((s.bank b).dllCnt + 1 < max 8 (s.get (BNK_DLLCFG_NLOCK b))))) &&
    (let b : Fin 8 := 5; let e : Int := 17; let cw : BitVec 16 := 9#16; let s : State := (puts (State.reset) [(BNK_STAT_DLLSTATE 5, 2), (BNK_DLLCFG_WIN 5, 16), (BNK_DLLCFG_NLOCK 5, 64)]).modBank 5 (fun x => { x with dllCnt := 62 }); decide ((s.get (BNK_STAT_DLLSTATE b) = 2) ∧ (max 1 (s.get (BNK_DLLCFG_WIN b)) < s.dllError b e))) &&
    (let b : Fin 8 := 5; let e : Int := 17; let cw : BitVec 16 := 9#16; let s : State := puts (State.reset) [(BNK_STAT_DLLSTATE 5, 1)]; decide ((s.get (BNK_STAT_DLLSTATE b) = 1))) &&
    (let b : Fin 8 := 5; let s : State := puts (State.reset) [(BNK_STAT_DLLSTATE 5, 2)]; decide ((s.get (BNK_STAT_DLLSTATE b) = 1 ∨ s.get (BNK_STAT_DLLSTATE b) = 2)))) = true := by decide +kernel

theorem witness_CyclesAccumulateAndEventsLeave :
    ((let n : Fin 512 := 321; let s : State := ((puts (State.reset) [(CH_GRP_GROUP 321, 5), (CH_GRP_MEMBER 321, 1), (BNK_STAT_ROOTACT 5, 2)]).modChan 321 (fun x => { x with cyc := { x.cyc with on := true, k := 7, s := 2 ^ 40, ahead := [⟨7, 1, 0x20000000#256, false⟩] } })).modRoot 2 (fun r => { r with tclk := true }); decide ((s.canEnter n = true))) &&
    (let n : Fin 512 := 321; let s : State := (puts (State.reset) [(CH_MINSP_TICKS 321, 1024)]).modChan 321 (fun x => { x with sch := { x.sch with evs := [⟨100, 3, 1, 0⟩], lastL := [none, some 90, none], lastE := [some 90, none, none, none] } }); let e : Ev := ⟨100, 3, 1, 0⟩; let rest : List Ev := []; decide ((s.headSafe n = true) ∧ (s.ovrWaits n = false) ∧ ((s.chan n).sch.evs = e :: rest) ∧ (((s.chan n).sch.times (lineOf e.e) e.t (minSpacing (s.get (CH_MINSP_TICKS n)))).2.2 = false))) &&
    (let n : Fin 512 := 321; let s : State := (puts (State.reset) [(CH_MINSP_TICKS 321, 1024)]).modChan 321 (fun x => { x with sch := { x.sch with evs := [⟨100, 3, 1, 0⟩], lastL := [none, some 32000, none] } }); let e : Ev := ⟨100, 3, 1, 0⟩; let rest : List Ev := []; decide ((s.headSafe n = true) ∧ (s.ovrWaits n = false) ∧ ((s.chan n).sch.evs = e :: rest) ∧ (((s.chan n).sch.times (lineOf e.e) e.t (minSpacing (s.get (CH_MINSP_TICKS n)))).2.2 = true) ∧ (((s.chan n).cyc.win.all (fun w => w.k != e.k + 1)) = true))) &&
    (let n : Fin 512 := 321; let s : State := (puts (State.reset) [(CH_MINSP_TICKS 321, 1024)]).modChan 321 (fun x => { x with sch := { x.sch with evs := [⟨100, 3, 1, 0⟩], lastL := [none, some 32000, none] }, cyc := { x.cyc with win := [⟨5, 9, 1, 0, 0⟩, ⟨4, 8, 1, 0, 0⟩] } }); let e : Ev := ⟨100, 3, 1, 0⟩; let rest : List Ev := []; decide ((s.headSafe n = true) ∧ (s.ovrWaits n = false) ∧ ((s.chan n).sch.evs = e :: rest) ∧ (((s.chan n).sch.times (lineOf e.e) e.t (minSpacing (s.get (CH_MINSP_TICKS n)))).2.2 = true) ∧ (((s.chan n).cyc.win.any (fun w => w.k == e.k + 1)) = true))) &&
    (let n : Fin 512 := 321; let s : State := (puts (State.reset) []).modChan 321 (fun x => { x with sch := { x.sch with queue := [⟨90, 0, 0, none, false, false, none, none⟩, ⟨50, 2, 2, none, false, false, none, none⟩] } }); let p : Placed := ⟨50, 2, 2, none, false, false, none, none⟩; decide ((earliest (s.chan n).sch.queue = some p))) &&
    (let n : Fin 512 := 321; let s : State := (puts (State.reset) [(CH_CLIPCNT_EARLY 321, 0xFFFF)]).modChan 321 (fun x => { x with sch := { x.sch with queue := [⟨50, 2, 2, some ⟨40, 3, 1, 1⟩, true, true, none, none⟩] } }); let p : Placed := ⟨50, 2, 2, some ⟨40, 3, 1, 1⟩, true, true, none, none⟩; let e : Ev := ⟨40, 3, 1, 1⟩; decide ((earliest (s.chan n).sch.queue = some p) ∧ (p.ev = some e)))) = true := by decide +kernel

theorem witness_ParkingAndLeaving :
    ((let n : Fin 512 := 321; let s : State := (puts (State.reset) []).modChan 321 (fun x => { x with cyc := { x.cyc with on := true, k := 5 }, pk := ⟨[⟨4, .cycle 5, true⟩, ⟨2, .time 0, true⟩], none, true, false, 0⟩ }); decide (((s.chan n).cyc.on = true) ∧ (s.wantDue n ≠ []) ∧ (s.slewDue n = false) ∧ (s.dtcSlewDue n = false) ∧ ((s.wantDue n).contains causeNogrp = false))) &&
    (let n : Fin 512 := 321; let s : State := (puts (State.reset) [(CH_GRP_MEMBER 321, 1), (CH_GRP_GROUP 321, 5)]).modChan 321 (fun x => { x with cyc := { x.cyc with on := true, k := 5 }, pk := ⟨[⟨6, .cycle 5, true⟩], none, true, false, 0⟩ }); decide (((s.chan n).cyc.on = true) ∧ (s.wantDue n ≠ []) ∧ (s.slewDue n = false) ∧ (s.dtcSlewDue n = false) ∧ ((s.wantDue n).contains causeNogrp = true))) &&
    (let n : Fin 512 := 321; let s : State := (puts (State.reset) [(⟨CH_STAT 321, 0, 1⟩, 0), (⟨CH_STAT 321, 2, 1⟩, 0)]).modChan 321 (fun x => { x with cyc := { x.cyc with on := true, k := 5 }, pk := ⟨[⟨0, .cycle 5, true⟩], none, false, false, 0⟩ }); decide (((s.chan n).cyc.on = true) ∧ (s.wantDue n = [causeMan]) ∧ (s.slewDue n = false) ∧ (s.dtcSlewDue n = false) ∧ ((s.chan n).pk.parked = false) ∧ ((s.chan n).sch = Sched.init) ∧ (s.bit ⟨CH_STAT n, 0, 1⟩ = false) ∧ (s.bit ⟨CH_STAT n, 2, 1⟩ = false))) &&
    (let n : Fin 512 := 321; let s : State := (puts (State.reset) [(CH_STAT_PCAUSE 321, 3), (CH_GRP_GROUP 321, 0)]).modChan 321 (fun x => { x with cyc := { x.cyc with on := true, k := 5 }, pk := ⟨[⟨1, .cycle 5, false⟩], none, true, false, 0⟩ }); decide (((s.chan n).cyc.on = true) ∧ (s.wantDue n = []) ∧ (s.slewDue n = false) ∧ (s.dtcSlewDue n = false) ∧ (s.relDue n ≠ []))) &&
    (let n : Fin 512 := 321; let s : State := (puts (State.reset) [(CH_STAT_PCAUSE 321, 0), (CH_GRP_GROUP 321, 0)]).modChan 321 (fun x => { x with cyc := { x.cyc with on := true, k := 5 }, pk := ⟨[], some (.cycle 5), true, false, 0⟩ }); decide (((s.chan n).cyc.on = true) ∧ (s.wantDue n = []) ∧ (s.slewDue n = false) ∧ (s.dtcSlewDue n = false) ∧ (s.relDue n = []) ∧ (s.leaveDue n = true) ∧ (s.get (CH_STAT_PCAUSE n) = 0))) &&
    (let src : Source := .host; let n : Fin 512 := 321; let w : Word := 0x1#32; let s : State := (puts ((puts State.reset [(SEC_BOOTSTAT_STAGE, 9), (SEC_LCSTATE_LC, 2)])) [(CH_STAT_PCAUSE 321, 0)]).modChan 321 (fun x => { x with cyc := { x.cyc with on := true } }); decide ((s.rowServed src (CH_CTRL n) true = true) ∧ (wbit w 0 = true))) &&
    (let src : Source := .host; let n : Fin 512 := 321; let w : Word := 0x0#32; let s : State := (puts ((puts State.reset [(SEC_BOOTSTAT_STAGE, 9), (SEC_LCSTATE_LC, 2)])) [(CH_STAT_PCAUSE 321, 1)]).modChan 321 (fun x => { x with pk := ⟨[], none, true, false, 0⟩ }); decide ((s.rowServed src (CH_CTRL n) true = true) ∧ (wbit w 0 = false))) &&
    (let src : Source := .host; let n : Fin 512 := 321; let w : Word := 0x4#32; let s : State := (puts ((puts State.reset [(SEC_BOOTSTAT_STAGE, 9), (SEC_LCSTATE_LC, 2)])) [(CH_STAT_PCAUSE 321, 0x20)]).modChan 321 (fun x => { x with pk := ⟨[], none, true, false, 0⟩ }); decide ((s.rowServed src (CH_CTRL n) true = true) ∧ (wbit w 2 = true)))) = true := by decide +kernel

theorem witness_ChannelRegisterCommands :
    ((let src : Source := .host; let n : Fin 512 := 321; let w : Word := 5#32; let s : State := puts ((puts State.reset [(SEC_BOOTSTAT_STAGE, 9), (SEC_LCSTATE_LC, 2)])) [(CH_CALSTAT_HELD 321, 1)]; decide ((s.rowServed src (CH_DESKEW n) true = true) ∧ (s.heldBars src n = true))) &&
    (let src : Source := .firmware; let n : Fin 512 := 321; let w : Word := 0xFFFFFFFF#32; let s : State := puts (State.reset) [(CH_CALSTAT_HELD 321, 1), (CH_DSKCTRL_MODE 321, 0), (CH_CTRL_LOCK 321, 0)]; decide ((s.rowServed src (CH_DESKEW n) true = true) ∧ (s.heldBars src n = false))) &&
    (let n : Fin 512 := 321; let s : State := (puts (State.reset) [(CH_DSKCTRL_N 321, 1), (CH_DSKACT_ACT 321, 0), (CH_DESKEW_TARGET 321, 0xFFFF)]).modChan 321 (fun x => { x with cyc := { x.cyc with on := true }, slewN := 1, slewCnt := 0, slewDone := false }); decide ((s.slewDue n = true))) &&
    (let src : Source := .host; let n : Fin 512 := 321; let w : Word := 0x80000003#32; let s : State := (puts State.reset [(SEC_BOOTSTAT_STAGE, 9), (SEC_LCSTATE_LC, 2)]); decide ((s.rowServed src (CH_PMCTRL n) true = true) ∧ (wbit w 31 = true))) &&
    (let src : Source := .host; let n : Fin 512 := 321; let s : State := (puts State.reset [(SEC_BOOTSTAT_STAGE, 9), (SEC_LCSTATE_LC, 2)]); decide ((s.rowServed src (CH_CYCLO n) false = true)))) = true := by decide +kernel

theorem witness_ContextStoreReadAfterWrite :
    ((let off : Nat := 0x400000 * 5 + 4096 + 30; let bytes : List Byte := [0x11, 0x22, 0x33, 0x44, 0x55]; let s : State := { puts (State.reset) [(SEC_LCSTATE_LC, 2), (PWR_STATE_STATE, 0), (PWR_PDSTAT_STATE 81, 2), (GLB_MODE_CTXWIN, 1), (SEC_BOOTSTAT_STAGE, 9), (BNK_CUESTAT_WIPING 5, 0)] with store := [(131072 * 5 + 128, 9), (131072 * 6, 8)] }; decide ((s.bar2Refuse off true = none) ∧ (off + bytes.length ≤ 0x2000000) ∧ (off % 4096 + bytes.length ≤ 4096) ∧ (0 < bytes.length) ∧ (s.bit GLB_MODE_CTXWIN = true) ∧ (s.domOn (halfOf (off / 0x400000)) = true) ∧ (s.bit (BNK_CUESTAT_WIPING (off / 0x400000)) = false) ∧ ((s.bank (off / 0x400000)).cueq.any (fun i => s.ordersStore i) = false) ∧ (s.storeErr = []))) &&
    (let b : Fin 8 := 5; let key : Fin 131072 := 131071; let bytes : Vector Byte 32 := Vector.ofFn (fun i => BitVec.ofNat 8 (i.val + 1)); let s : State := { puts (State.reset) [(SEC_LCSTATE_LC, 2), (PWR_STATE_STATE, 0), (PWR_PDSTAT_STATE 81, 2), (GLB_MODE_CTXWIN, 1), (SEC_BOOTSTAT_STAGE, 9), (BNK_CUESTAT_WIPING 5, 0)] with store := [(131072 * 6 - 1, 9), (131072 * 6, 8)] }; decide ((s.bar2Refuse (0x400000 * b.val + 32 * key.val) true = none) ∧ (s.bit GLB_MODE_CTXWIN = true) ∧ (s.domOn (halfOf b) = true) ∧ (s.bit (BNK_CUESTAT_WIPING b) = false) ∧ ((s.bank b).cueq.any (fun i => s.ordersStore i) = false))) &&
    (let off : Nat := 0x400000 * 6 - 40; let len : Nat := 40; let s : State := { puts (State.reset) [(SEC_LCSTATE_LC, 2), (PWR_STATE_STATE, 0), (PWR_PDSTAT_STATE 81, 2), (GLB_MODE_CTXWIN, 1), (SEC_BOOTSTAT_STAGE, 9), (BNK_CUESTAT_WIPING 5, 0)] with store := [(131072 * 6 - 1, 0x99000000008877#256), (131072 * 6, 8)] }; decide ((s.bar2Refuse off false = none) ∧ (off + len ≤ 0x2000000) ∧ (off % 4096 + len ≤ 4096) ∧ (0 < len) ∧ (s.domOn (halfOf (off / 0x400000)) = true) ∧ (s.bit (BNK_CUESTAT_WIPING (off / 0x400000)) = false) ∧ ((s.bank (off / 0x400000)).cueq.any (fun i => s.ordersStore i) = false) ∧ (s.storeErr = []))) &&
    (let off : Nat := 0x400000 * 5; let bytes : List Byte := [1, 2, 3]; let s : State := puts (State.reset) [(SEC_LCSTATE_LC, 2), (PWR_STATE_STATE, 0), (PWR_PDSTAT_STATE 81, 2), (GLB_MODE_CTXWIN, 1), (SEC_BOOTSTAT_STAGE, 9), (BNK_CUESTAT_WIPING 5, 0), (GLB_MODE_CTXWIN, 0), (GLB_WINVIOL_COUNT, 0xFFFFFFFF)]; decide ((s.bar2Refuse off true = none) ∧ (off + bytes.length ≤ 0x2000000) ∧ (off % 4096 + bytes.length ≤ 4096) ∧ (0 < bytes.length) ∧ (s.bit GLB_MODE_CTXWIN = false ∨ s.domOn (halfOf (off / 0x400000)) = false))) &&
    (let off : Nat := 0x400000 * 5; let bytes : List Byte := [1, 2, 3]; let s : State := puts (State.reset) [(SEC_LCSTATE_LC, 2), (PWR_STATE_STATE, 0), (PWR_PDSTAT_STATE 81, 2), (GLB_MODE_CTXWIN, 1), (SEC_BOOTSTAT_STAGE, 9), (BNK_CUESTAT_WIPING 5, 0), (BNK_CUESTAT_WIPING 5, 1)]; decide ((s.bar2Refuse off true = none) ∧ (off + bytes.length ≤ 0x2000000) ∧ (off % 4096 + bytes.length ≤ 4096) ∧ (0 < bytes.length) ∧ (s.bit GLB_MODE_CTXWIN = true) ∧ (s.domOn (halfOf (off / 0x400000)) = true) ∧ (s.bit (BNK_CUESTAT_WIPING (off / 0x400000)) = true ∨ (s.bank (off / 0x400000)).cueq.any (fun i => s.ordersStore i) = true))) &&
    (let off : Nat := 0x400000 * 5; let len : Nat := 3; let s : State := puts (State.reset) [(SEC_LCSTATE_LC, 2), (PWR_STATE_STATE, 0), (PWR_PDSTAT_STATE 81, 2), (GLB_MODE_CTXWIN, 1), (SEC_BOOTSTAT_STAGE, 9), (BNK_CUESTAT_WIPING 5, 0), (PWR_PDSTAT_STATE 81, 0)]; decide ((s.bar2Refuse off false = none) ∧ (off + len ≤ 0x2000000) ∧ (off % 4096 + len ≤ 4096) ∧ (0 < len) ∧ (s.domOn (halfOf (off / 0x400000)) = false))) &&
    (let off : Nat := 0x400000 * 5; let len : Nat := 3; let s : State := puts (State.reset) [(SEC_LCSTATE_LC, 2), (PWR_STATE_STATE, 0), (PWR_PDSTAT_STATE 81, 2), (GLB_MODE_CTXWIN, 1), (SEC_BOOTSTAT_STAGE, 9), (BNK_CUESTAT_WIPING 5, 0), (BNK_CUESTAT_WIPING 5, 1)]; decide ((s.bar2Refuse off false = none) ∧ (off + len ≤ 0x2000000) ∧ (off % 4096 + len ≤ 4096) ∧ (0 < len) ∧ (s.domOn (halfOf (off / 0x400000)) = true) ∧ (s.bit (BNK_CUESTAT_WIPING (off / 0x400000)) = true ∨ (s.bank (off / 0x400000)).cueq.any (fun i => s.ordersStore i) = true))) &&
    (let b : Fin 8 := 5; let s : State := puts (State.reset) [(BNK_CUECTRL_SCRUBEN 5, 1), (BNK_STAT_DLLSTATE 5, 3), (BNK_CUESTAT_WIPING 5, 0), (BNK_SCRUBPOS_ROW 5, 65535)]; decide ((s.bit (BNK_CUECTRL_SCRUBEN b) = true) ∧ (s.get (BNK_STAT_DLLSTATE b) ≠ 0) ∧ (s.bit (BNK_CUESTAT_WIPING b) = false))) &&
    (let b : Fin 8 := 5; let s : State := { puts (State.reset) [(BNK_CUESTAT_WIPING 5, 1)] with store := [(131072 * 5, 9), (131072 * 6, 8)] }; decide ((s.bit (BNK_CUESTAT_WIPING b) = true)))) = true := by decide +kernel

theorem witness_CueEngineLoadsRecords :
    ((let b : Fin 8 := 5; let g : Fin 64 := 63; let id : Nat := 7; let rest : List HubItem := [.cmd 62 9]; let s : State := (((puts (State.reset) [(CH_GRP_MEMBER 321, 1), (CH_GRP_GROUP 321, 63), (PWR_PDSTAT_STATE 81, 2), (BNK_STAT_DLLSTATE 5, 3), (BNK_CUESTAT_WIPING 5, 0)]).modGroup 63 (fun x => { x with ops := [] })).modBank 5 (fun x => { x with cueq := [.cmd 63 7, .cmd 62 9], jobs := [] })); decide (((s.bank b).cueq = .cmd g.val id :: rest) ∧ (s.get (BNK_STAT_DLLSTATE b) ≠ 0) ∧ (s.bit (BNK_CUESTAT_WIPING b) = false))) &&
    (let b : Fin 8 := 5; let g : Fin 64 := 63; let id : Nat := 7; let rest : List HubItem := [.cmd 62 9]; let op : GOp := ⟨7, .stop none, .none, [5], false, none, 0, 0, [], 0, false, 0, 0⟩; let s : State := (((puts (State.reset) [(CH_GRP_MEMBER 321, 1), (CH_GRP_GROUP 321, 63), (PWR_PDSTAT_STATE 81, 2), (BNK_STAT_DLLSTATE 5, 3), (BNK_CUESTAT_WIPING 5, 0)]).modGroup 63 (fun x => { x with ops := [⟨7, .stop none, .none, [5], false, none, 0, 0, [], 0, false, 0, 0⟩] })).modBank 5 (fun x => { x with cueq := [.cmd 63 7, .cmd 62 9], jobs := [] })); decide (((s.bank b).cueq = .cmd g.val id :: rest) ∧ (s.get (BNK_STAT_DLLSTATE b) ≠ 0) ∧ (s.bit (BNK_CUESTAT_WIPING b) = false) ∧ (s.opOf g id = some op) ∧ (op.cmd.slotCtx = none ∨ (op.checked = true ∧ op.refused ≠ none)) ∧ ((rest.all (fun i => match i with | .cmd _ _ => true | .access _ => false)) = true))) &&
    (let b : Fin 8 := 5; let g : Fin 64 := 63; let id : Nat := 7; let rest : List HubItem := []; let op : GOp := ⟨7, .cue 3 40, .none, [5], false, none, 0, 0, [], 0, false, 0, 0⟩; let slot : Nat := 3; let ctx : Nat := 40; let s : State := (((puts (State.reset) [(CH_GRP_MEMBER 321, 1), (CH_GRP_GROUP 321, 63), (PWR_PDSTAT_STATE 81, 2), (BNK_STAT_DLLSTATE 5, 3), (BNK_CUESTAT_WIPING 5, 0)]).modGroup 63 (fun x => { x with ops := [⟨7, .cue 3 40, .none, [5], false, none, 0, 0, [], 0, false, 0, 0⟩] })).modBank 5 (fun x => { x with cueq := [.cmd 63 7], jobs := [] })); decide (((s.bank b).cueq = .cmd g.val id :: rest) ∧ (s.get (BNK_STAT_DLLSTATE b) ≠ 0) ∧ (s.bit (BNK_CUESTAT_WIPING b) = false) ∧ (s.opOf g id = some op) ∧ (op.cmd.slotCtx = some (slot, ctx)) ∧ (op.checked = false) ∧ (s.cueRefusal g op.cmd = none) ∧ (s.storeErr = []) ∧ ((rest.all (fun i => match i with | .cmd _ _ => true | .access _ => false)) = true))) &&
    (let b : Fin 8 := 5; let j : CueJob := ⟨63, 7, [(321, 0x55#256, true)], 0⟩; let js : List CueJob := []; let s : State := (((puts (State.reset) [(CH_GRP_MEMBER 321, 1), (CH_GRP_GROUP 321, 63), (PWR_PDSTAT_STATE 81, 2)]).modGroup 63 (fun x => { x with ops := [⟨7, .cue 3 40, .none, [5], false, none, 0, 0, [], 0, false, 0, 0⟩] })).modBank 5 (fun x => { x with jobs := [⟨63, 7, [(321, 0x55#256, true)], 0⟩] })); decide (((s.bank b).jobs = j :: js))) &&
    (let b : Fin 8 := 5; let j : CueJob := ⟨63, 7, [(321, 0x55#256, false), (322, 0#256, false)], 0⟩; let js : List CueJob := []; let op : GOp := ⟨7, .cue 3 40, .none, [5], false, none, 0, 0, [], 0, false, 0, 0⟩; let slot : Nat := 3; let ctx : Nat := 40; let s : State := (((puts (State.reset) [(CH_GRP_MEMBER 321, 1), (CH_GRP_GROUP 321, 63), (PWR_PDSTAT_STATE 81, 2), (GRP_STAT_RUN 63, 0)]).modGroup 63 (fun x => { x with ops := [⟨7, .cue 3 40, .none, [5], false, none, 0, 0, [], 0, false, 0, 0⟩] })).modBank 5 (fun x => { x with jobs := [⟨63, 7, [(321, 0x55#256, false), (322, 0#256, false)], 0⟩] })); decide (((s.bank b).jobs = j :: js) ∧ (s.opOf j.g j.id = some op) ∧ (op.cmd = .cue slot ctx) ∧ (op.waiting = [b.val]) ∧ (op.data = []) ∧ ((j.loaded.map (fun m => m.1)).Nodup) ∧ (∀ m ∈ j.loaded, m.2.2 = false))) &&
    (let b : Fin 8 := 5; let j : CueJob := ⟨63, 7, [(321, 0x55#256, false)], 0⟩; let js : List CueJob := []; let op : GOp := ⟨7, .pcue 3 40 9, .none, [5], false, none, 0, 0, [], 0, false, 0, 0⟩; let slot : Nat := 3; let ctx : Nat := 40; let ep : Nat := 9; let s : State := (((puts (State.reset) [(CH_GRP_MEMBER 321, 1), (CH_GRP_GROUP 321, 63), (PWR_PDSTAT_STATE 81, 2)]).modGroup 63 (fun x => { x with ops := [⟨7, .pcue 3 40 9, .none, [5], false, none, 0, 0, [], 0, false, 0, 0⟩] })).modBank 5 (fun x => { x with jobs := [⟨63, 7, [(321, 0x55#256, false)], 0⟩] })); decide (((s.bank b).jobs = j :: js) ∧ (s.opOf j.g j.id = some op) ∧ (op.cmd = .pcue slot ctx ep) ∧ ((j.loaded.map (fun m => m.1)).Nodup) ∧ (∀ m ∈ j.loaded, m.2.2 = false)))) = true := by decide +kernel

theorem witness_GroupDecisions :
    ((let g : Fin 64 := 63; let op : GOp := ⟨7, .stop none, .none, [], false, none, 0, 0, [], 0, false, 0, 0⟩; let rest : List GOp := []; let s : State := (puts (State.reset) [(CH_GRP_MEMBER 321, 1), (CH_GRP_GROUP 321, 63), (PWR_PDSTAT_STATE 81, 2), (GRP_STAT_RUN 63, 1)]).modGroup 63 (fun x => { x with ops := [⟨7, .stop none, .none, [], false, none, 0, 0, [], 0, false, 0, 0⟩] }); decide (((s.group g).ops = op :: rest) ∧ (op.waiting = []))) &&
    (let g : Fin 64 := 63; let op : GOp := ⟨7, .start 1256, .none, [], false, none, 0, 0, [], 0, false, 0, 0⟩; let rest : List GOp := []; let T : Nat := 1256; let s : State := (((puts (State.reset) [(CH_GRP_MEMBER 321, 1), (CH_GRP_GROUP 321, 63), (PWR_PDSTAT_STATE 81, 2), (GRP_STAT_RUN 63, 0), (BNK_STAT_ROOTACT 5, 1)]).modGroup 63 (fun x => { x with ops := [⟨7, .start 1256, .none, [], false, none, 0, 0, [], 0, false, 0, 0⟩] })).modRoot 1 (fun r => { r with tb := 1000 })); decide (((s.group g).ops = op :: rest) ∧ (op.waiting = []) ∧ (op.cmd = .start T) ∧ (s.commonRefusal g op.cmd = none) ∧ (s.running g = false) ∧ ((s.tbOf (s.leadBank g) : Int) + 256 ≤ nearCount (s.tbOf (s.leadBank g)) T))) &&
    (let g : Fin 64 := 63; let op : GOp := ⟨7, .start 1256, .none, [], false, none, 0, 0, [], 0, false, 0, 0⟩; let rest : List GOp := []; let T : Nat := 1256; let s : State := (puts (State.reset) [(CH_GRP_MEMBER 321, 1), (CH_GRP_GROUP 321, 63), (PWR_PDSTAT_STATE 81, 2), (GRP_STAT_RUN 63, 1)]).modGroup 63 (fun x => { x with ops := [⟨7, .start 1256, .none, [], false, none, 0, 0, [], 0, false, 0, 0⟩] }); decide (((s.group g).ops = op :: rest) ∧ (op.waiting = []) ∧ (op.cmd = .start T) ∧ (s.commonRefusal g op.cmd = none) ∧ (s.running g = true))) &&
    (let g : Fin 64 := 63; let op : GOp := ⟨7, .start 1255, .none, [], false, none, 0, 0, [], 0, false, 0, 0⟩; let rest : List GOp := []; let T : Nat := 1255; let s : State := (((puts (State.reset) [(CH_GRP_MEMBER 321, 1), (CH_GRP_GROUP 321, 63), (PWR_PDSTAT_STATE 81, 2), (GRP_STAT_RUN 63, 0), (BNK_STAT_ROOTACT 5, 1)]).modGroup 63 (fun x => { x with ops := [⟨7, .start 1255, .none, [], false, none, 0, 0, [], 0, false, 0, 0⟩] })).modRoot 1 (fun r => { r with tb := 1000 })); decide (((s.group g).ops = op :: rest) ∧ (op.waiting = []) ∧ (op.cmd = .start T) ∧ (s.commonRefusal g op.cmd = none) ∧ (s.running g = false) ∧ (nearCount (s.tbOf (s.leadBank g)) T < (s.tbOf (s.leadBank g) : Int) + 256))) &&
    (let g : Fin 64 := 63; let op : GOp := ⟨7, .stop (some 100), .none, [], false, none, 0, 0, [], 0, false, 0, 0⟩; let rest : List GOp := []; let k : Option Nat := some 100; let s : State := (((puts (State.reset) [(CH_GRP_MEMBER 321, 1), (CH_GRP_GROUP 321, 63), (PWR_PDSTAT_STATE 81, 2), (GRP_STAT_RUN 63, 1)]).modGroup 63 (fun x => { x with ops := [⟨7, .stop (some 100), .none, [], false, none, 0, 0, [], 0, false, 0, 0⟩], commit := none, start := none })).modChan 321 (fun x => { x with cyc := { x.cyc with on := false } })); decide (((s.group g).ops = op :: rest) ∧ (op.waiting = []) ∧ (op.cmd = .stop k) ∧ (s.running g = true) ∧ ((s.group g).commit = none) ∧ (s.eligible g (s.tbOf (s.leadBank g)) ≤ k.getD (s.eligible g (s.tbOf (s.leadBank g)))))) &&
    (let g : Fin 64 := 63; let op : GOp := ⟨7, .stop none, .none, [], false, none, 0, 0, [], 0, false, 0, 0⟩; let rest : List GOp := []; let k : Option Nat := none; let s : State := (puts (State.reset) [(CH_GRP_MEMBER 321, 1), (CH_GRP_GROUP 321, 63), (PWR_PDSTAT_STATE 81, 2), (GRP_STAT_RUN 63, 0)]).modGroup 63 (fun x => { x with ops := [⟨7, .stop none, .none, [], false, none, 0, 0, [], 0, false, 0, 0⟩] }); decide (((s.group g).ops = op :: rest) ∧ (op.waiting = []) ∧ (op.cmd = .stop k) ∧ (s.running g = false))) &&
    (let g : Fin 64 := 63; let op : GOp := ⟨7, .commit 5 none, .none, [], false, none, 0, 0, [], 0, false, 0, 0⟩; let rest : List GOp := []; let ep : Nat := 5; let k : Option Nat := none; let s : State := (puts (State.reset) [(CH_GRP_MEMBER 321, 1), (CH_GRP_GROUP 321, 63), (PWR_PDSTAT_STATE 81, 2), (GRP_EPOCH_EPOCH 63, 0xFFFF)]).modGroup 63 (fun x => { x with ops := [⟨7, .commit 5 none, .none, [], false, none, 0, 0, [], 0, false, 0, 0⟩] }); decide (((s.group g).ops = op :: rest) ∧ (op.waiting = []) ∧ (op.cmd = .commit ep k) ∧ (s.commonRefusal g op.cmd = none) ∧ (ep % 2 ^ 16 ≠ (s.get (GRP_EPOCH_EPOCH g) + 1) % 2 ^ 16))) &&
    (let g : Fin 64 := 63; let op : GOp := ⟨7, .commit 0 none, .none, [], false, none, 0, 0, [], 0, false, 0, 0⟩; let rest : List GOp := []; let ep : Nat := 0; let k : Option Nat := none; let s : State := (((puts (State.reset) [(CH_GRP_MEMBER 321, 1), (CH_GRP_GROUP 321, 63), (PWR_PDSTAT_STATE 81, 2), (GRP_EPOCH_EPOCH 63, 0xFFFF), (GRP_STAT_RUN 63, 0)]).modGroup 63 (fun x => { x with ops := [⟨7, .commit 0 none, .none, [], false, none, 0, 0, [], 0, false, 0, 0⟩] })).modCyc 321 (fun c => c.loadShadow 9 8 5 false)); decide (((s.group g).ops = op :: rest) ∧ (op.waiting = []) ∧ (op.cmd = .commit ep k) ∧ (s.commonRefusal g op.cmd = none) ∧ (ep % 2 ^ 16 = (s.get (GRP_EPOCH_EPOCH g) + 1) % 2 ^ 16) ∧ ((s.group g).commit = none) ∧ (s.running g = false))) &&
    (let g : Fin 64 := 63; let op : GOp := ⟨7, .commit 0 (some 77), .none, [], false, none, 0, 0, [], 0, false, 0, 0⟩; let rest : List GOp := []; let ep : Nat := 0; let k : Option Nat := some 77; let s : State := (((puts (State.reset) [(CH_GRP_MEMBER 321, 1), (CH_GRP_GROUP 321, 63), (PWR_PDSTAT_STATE 81, 2), (GRP_EPOCH_EPOCH 63, 0xFFFF), (GRP_STAT_RUN 63, 1)]).modGroup 63 (fun x => { x with ops := [⟨7, .commit 0 (some 77), .none, [], false, none, 0, 0, [], 0, false, 0, 0⟩], commit := none, start := none, stopAt := none })).modChan 321 (fun x => { x with cyc := { x.cyc with on := false } })); decide (((s.group g).ops = op :: rest) ∧ (op.waiting = []) ∧ (op.cmd = .commit ep k) ∧ (s.commonRefusal g op.cmd = none) ∧ (ep % 2 ^ 16 = (s.get (GRP_EPOCH_EPOCH g) + 1) % 2 ^ 16) ∧ ((s.group g).commit = none) ∧ (s.running g = true) ∧ ((s.group g).stopAt = none) ∧ (s.eligible g (s.tbOf (s.leadBank g)) ≤ k.getD (s.eligible g (s.tbOf (s.leadBank g)))))) &&
    (let g : Fin 64 := 63; let op : GOp := ⟨7, .cancel 0, .none, [], false, none, 0, 0, [], 0, false, 0, 0⟩; let rest : List GOp := []; let ep : Nat := 0; let s : State := (((puts (State.reset) [(CH_GRP_MEMBER 321, 1), (CH_GRP_GROUP 321, 63), (PWR_PDSTAT_STATE 81, 2), (GRP_EPOCH_EPOCH 63, 0xFFFF)]).modGroup 63 (fun x => { x with ops := [⟨7, .cancel 0, .none, [], false, none, 0, 0, [], 0, false, 0, 0⟩] })).modCyc 321 (fun c => c.loadShadow 9 8 5 false)); decide (((s.group g).ops = op :: rest) ∧ (op.waiting = []) ∧ (op.cmd = .cancel ep) ∧ (ep % 2 ^ 16 = (s.get (GRP_EPOCH_EPOCH g) + 1) % 2 ^ 16) ∧ ((s.group g).commit = none))) &&
    (let g : Fin 64 := 63; let T : Nat := 2000; let s : State := (((puts (State.reset) [(CH_GRP_MEMBER 321, 1), (CH_GRP_GROUP 321, 63), (PWR_PDSTAT_STATE 81, 2), (CH_STAT_PCAUSE 321, 0x40), (BNK_STAT_ROOTACT 5, 1)]).modGroup 63 (fun x => { x with start := some 2000 })).modRoot 1 (fun r => { r with tclk := true })); decide (((s.group g).start = some T) ∧ (s.clocked (s.leadBank g) = true))) &&
    (let src : Source := .host; let n : Fin 512 := 321; let w : Word := 0xBF#32; let s : State := puts ((puts State.reset [(SEC_BOOTSTAT_STAGE, 9), (SEC_LCSTATE_LC, 2)])) [(CH_GRP_MEMBER 321, 1), (CH_GRP_GROUP 321, 2), (GRP_STAT_RUN 2, 0), (GRP_STAT_RUN 63, 0)]; decide ((s.rowServed src (CH_GRP n) true = true) ∧ (s.grpWriteOk n w = true))) &&
    (let src : Source := .host; let n : Fin 512 := 321; let w : Word := 0xBF#32; let s : State := puts ((puts State.reset [(SEC_BOOTSTAT_STAGE, 9), (SEC_LCSTATE_LC, 2)])) [(CH_GRP_MEMBER 321, 1), (CH_GRP_GROUP 321, 2), (GRP_STAT_RUN 2, 1)]; decide ((s.rowServed src (CH_GRP n) true = true) ∧ (s.grpWriteOk n w = false)))) = true := by decide +kernel

theorem witness_TakeArmIsCheckedAndLatched :
    ((let src : Source := .host; let k : Fin 256 := 200; let w : Word := 1#32; let s : State := puts ((puts State.reset [(SEC_BOOTSTAT_STAGE, 9), (SEC_LCSTATE_LC, 2)])) [(CH_TAKE_JOIN 321, 1), (CH_TAKE_TAKE 321, 200), (TK_STAT_STATE 200, 0), (TK_CFG_START 200, 0), (TK_CFG_STOP 200, 0), (TK_CFG_GRPEN 200, 0), (TK_COUNT_N 200, 0), (TK_TIMEOUT_US 200, 77)]; decide ((s.rowServed src (TK_CTRL k) true = true) ∧ (wbit w 1 = false) ∧ (wbit w 0 = true) ∧ ((s.take k).waitArm = none) ∧ (s.solvesQueued k = false) ∧ (s.armCheck k ArmReq.init = Code.OK))) &&
    (let src : Source := .host; let k : Fin 256 := 200; let w : Word := 1#32; let s : State := puts ((puts State.reset [(SEC_BOOTSTAT_STAGE, 9), (SEC_LCSTATE_LC, 2)])) [(TK_STAT_STATE 200, 0)]; decide ((s.rowServed src (TK_CTRL k) true = true) ∧ (wbit w 1 = false) ∧ (wbit w 0 = true) ∧ ((s.take k).waitArm = none) ∧ (s.solvesQueued k = false) ∧ (s.armCheck k ArmReq.init ≠ Code.OK))) &&
    (let src : Source := .host; let k : Fin 256 := 200; let w : Word := 1#32; let s : State := puts ((puts State.reset [(SEC_BOOTSTAT_STAGE, 9), (SEC_LCSTATE_LC, 2)])) [(TK_STAT_STATE 200, 4)]; decide ((s.rowServed src (TK_CTRL k) true = true) ∧ (wbit w 1 = false) ∧ (wbit w 0 = true) ∧ (s.takeBusy k = true ∨ (s.take k).waitArm ≠ none))) &&
    (let src : Source := .host; let k : Fin 256 := 200; let w : Word := 3#32; let s : State := (puts ((puts State.reset [(SEC_BOOTSTAT_STAGE, 9), (SEC_LCSTATE_LC, 2)])) [(TK_STAT_STATE 200, 3)]).modTake 200 (fun x => { x with chans := [321] }); decide ((s.rowServed src (TK_CTRL k) true = true) ∧ (wbit w 1 = true) ∧ (wbit w 0 = true) ∧ (s.takeState k = 3))) &&
    (let src : Source := .host; let k : Fin 256 := 200; let w : Word := 1#32; let s : State := { puts ((puts State.reset [(SEC_BOOTSTAT_STAGE, 9), (SEC_LCSTATE_LC, 2)])) [(CH_TAKE_JOIN 321, 1), (CH_TAKE_TAKE 321, 200), (TK_STAT_STATE 200, 0), (TK_CFG_START 200, 0), (TK_CFG_STOP 200, 0), (TK_CFG_GRPEN 200, 0)] with regQ := [321] }; decide ((s.rowServed src (TK_CTRL k) true = true) ∧ (wbit w 1 = false) ∧ (wbit w 0 = true) ∧ ((s.take k).waitArm = none) ∧ (s.takeBusy k = false) ∧ (s.solvesQueued k = true))) &&
    (let k : Fin 256 := 200; let req : ArmReq := ArmReq.init; let s : State := (puts (State.reset) [(CH_TAKE_JOIN 321, 1), (CH_TAKE_TAKE 321, 200), (TK_STAT_STATE 200, 0), (TK_CFG_START 200, 0), (TK_CFG_STOP 200, 0), (TK_CFG_GRPEN 200, 0)]).modTake 200 (fun x => { x with waitArm := some ArmReq.init }); decide (((s.take k).waitArm = some req) ∧ (s.solvesQueued k = false) ∧ (s.armCheck k req = Code.OK))) &&
    (let k : Fin 256 := 200; let req : ArmReq := ArmReq.init; let s : State := (puts (State.reset) [(TK_STAT_STATE 200, 5)]).modTake 200 (fun x => { x with waitArm := some ArmReq.init }); decide (((s.take k).waitArm = some req) ∧ (s.solvesQueued k = false) ∧ (s.armCheck k req ≠ Code.OK)))) = true := by decide +kernel

theorem witness_TakeStopsAndCloses :
    ((let k : Fin 256 := 200; let v : Int := 8193; let s : State := (puts (State.reset) [(TK_STAT_STATE 200, 3)]).modTake 200 (fun x => { x with tstop := some 8193, chans := [321] }); decide ((s.takeState k = 3) ∧ ((s.take k).tstop = some v))) &&
    (let k : Fin 256 := 200; let s : State := (puts (State.reset) [(TK_STAT_STATE 200, 4), (CH_EVSTAT_RUN 321, 1)]).modTake 200 (fun x => { x with chans := [321], code := 9, held := some (.none, 7) }); decide ((s.takeState k = 4) ∧ (s.stampsLeft k = false))) &&
    (let k : Fin 256 := 200; let s : State := (puts (State.reset) [(TK_STAT_STATE 200, 2)]).modTake 200 (fun x => { x with timeout := 5, chans := [321] }); decide (((s.take k).timeout ≠ 0) ∧ (s.takeState k = 1 ∨ s.takeState k = 2))) &&
    (let k : Fin 256 := 200; let s : State := (puts (State.reset) [(TK_STAT_STATE 200, 3)]).modTake 200 (fun x => { x with timeout := 5, chans := [321] }); decide (((s.take k).timeout ≠ 0) ∧ (s.takeState k = 3) ∧ ((s.take k).tstop.any (fun v => decide (v ≤ 4096 * ((s.takeTb k : Int) + 1))) = false))) &&
    (let k : Fin 256 := 200; let s : State := (puts (State.reset) [(TK_STAT_STATE 200, 3)]).modTake 200 (fun x => { x with timeout := 5, chans := [321], tstop := some 4096 }); decide (((s.take k).timeout ≠ 0) ∧ (s.takeState k = 3) ∧ ((s.take k).tstop.any (fun v => decide (v ≤ 4096 * ((s.takeTb k : Int) + 1))) = true))) &&
    (let src : Source := .host; let k : Fin 256 := 200; let w : Word := 2#32; let s : State := (puts ((puts State.reset [(SEC_BOOTSTAT_STAGE, 9), (SEC_LCSTATE_LC, 2)])) [(TK_STAT_STATE 200, 1)]).modTake 200 (fun x => { x with chans := [321] }); decide ((s.rowServed src (TK_CTRL k) true = true) ∧ (wbit w 1 = true) ∧ (wbit w 0 = false) ∧ (s.takeState k = 1 ∨ s.takeState k = 2))) &&
    (let src : Source := .host; let k : Fin 256 := 200; let w : Word := 2#32; let s : State := (puts ((puts State.reset [(SEC_BOOTSTAT_STAGE, 9), (SEC_LCSTATE_LC, 2)])) [(TK_STAT_STATE 200, 3)]).modTake 200 (fun x => { x with chans := [321], cfg := 12 }); decide ((s.rowServed src (TK_CTRL k) true = true) ∧ (wbit w 1 = true) ∧ (wbit w 0 = false) ∧ (s.takeState k = 3))) &&
    (let src : Source := .host; let k : Fin 256 := 200; let w : Word := 2#32; let s : State := puts ((puts State.reset [(SEC_BOOTSTAT_STAGE, 9), (SEC_LCSTATE_LC, 2)])) [(TK_STAT_STATE 200, 5)]; decide ((s.rowServed src (TK_CTRL k) true = true) ∧ (wbit w 1 = true) ∧ (wbit w 0 = false) ∧ (s.takeState k = 0 ∨ s.takeState k = 4 ∨ s.takeState k = 5)))) = true := by decide +kernel

theorem witness_ReelFlushEmptiesTheReel :
    ((let src : Source := .host; let n : Fin 512 := 321; let w : Word := 1#32; let s : State := puts ((puts State.reset [(SEC_BOOTSTAT_STAGE, 9), (SEC_LCSTATE_LC, 2)])) [(CH_TAKE_JOIN 321, 1), (CH_TAKE_TAKE 321, 200), (TK_STAT_STATE 200, 5), (CH_RHEAD_IDX 321, 2047)]; decide ((s.rowServed src (CH_RCTRL n) true = true) ∧ (wbit w 0 = true) ∧ (s.chanInTake n = false))) &&
    (let src : Source := .host; let n : Fin 512 := 321; let w : Word := 1#32; let s : State := puts ((puts State.reset [(SEC_BOOTSTAT_STAGE, 9), (SEC_LCSTATE_LC, 2)])) [(CH_TAKE_JOIN 321, 1), (CH_TAKE_TAKE 321, 200), (TK_STAT_STATE 200, 3), (CH_RHEAD_IDX 321, 2047)]; decide ((s.rowServed src (CH_RCTRL n) true = true) ∧ (wbit w 0 = true) ∧ (s.chanInTake n = true)))) = true := by decide +kernel

theorem witness_ReelTailAndTakeMembership :
    ((let src : Source := .host; let n : Fin 512 := 321; let w : Word := 3#32; let s : State := puts ((puts State.reset [(SEC_BOOTSTAT_STAGE, 9), (SEC_LCSTATE_LC, 2)])) [(GLB_MODE_DRAINWIN, 1), (CH_TAKE_JOIN 321, 0), (CH_RTAIL_IDX 321, 2047), (CH_RHEAD_IDX 321, 3)]; decide ((s.rowServed src (CH_RTAIL n) true = true) ∧ (s.drainWin n = true) ∧ ((fld w 0 11 + 2048 - s.get (CH_RTAIL_IDX n)) % 2048 ≤ s.reelCount n) ∧ ((fld w 0 11 + 2048 - s.get (CH_RTAIL_IDX n)) % 2048 = s.reelCount n ∨ ((s.cap n).word (fld w 0 11)).pay = false))) &&
    (let src : Source := .host; let n : Fin 512 := 321; let w : Word := 4#32; let s : State := puts ((puts State.reset [(SEC_BOOTSTAT_STAGE, 9), (SEC_LCSTATE_LC, 2)])) [(GLB_MODE_DRAINWIN, 1), (CH_TAKE_JOIN 321, 0), (CH_RTAIL_IDX 321, 2047), (CH_RHEAD_IDX 321, 3)]; decide ((s.rowServed src (CH_RTAIL n) true = true) ∧ (s.drainWin n = true) ∧ (s.reelCount n < (fld w 0 11 + 2048 - s.get (CH_RTAIL_IDX n)) % 2048 ∨ ((fld w 0 11 + 2048 - s.get (CH_RTAIL_IDX n)) % 2048 ≠ s.reelCount n ∧ ((s.cap n).word (fld w 0 11)).pay = true)))) &&
    (let src : Source := .host; let n : Fin 512 := 321; let w : Word := 4#32; let s : State := puts ((puts State.reset [(SEC_BOOTSTAT_STAGE, 9), (SEC_LCSTATE_LC, 2)])) [(GLB_MODE_DRAINWIN, 0), (CH_TAKE_JOIN 321, 0)]; decide ((s.rowServed src (CH_RTAIL n) true = true) ∧ (s.drainWin n = false))) &&
    (let src : Source := .host; let n : Fin 512 := 321; let w : Word := 0x800000FF#32; let s : State := puts ((puts State.reset [(SEC_BOOTSTAT_STAGE, 9), (SEC_LCSTATE_LC, 2)])) [(CH_TAKE_JOIN 321, 0), (TK_STAT_STATE 255, 5)]; decide ((s.rowServed src (CH_TAKE n) true = true) ∧ ((s.bit (CH_TAKE_JOIN n) = wbit w 31 ∧ s.get (CH_TAKE_TAKE n) = fld w 0 8) ∨ (s.chanInTake n = false ∧ (wbit w 31 = false ∨ s.takeBusy (fld w 0 8) = false))))) &&
    (let src : Source := .host; let n : Fin 512 := 321; let w : Word := 0x000000C8#32; let s : State := puts ((puts State.reset [(SEC_BOOTSTAT_STAGE, 9), (SEC_LCSTATE_LC, 2)])) [(CH_TAKE_JOIN 321, 1), (CH_TAKE_TAKE 321, 200), (TK_STAT_STATE 200, 3)]; decide ((s.rowServed src (CH_TAKE n) true = true) ∧ (s.bit (CH_TAKE_JOIN n) ≠ wbit w 31 ∨ s.get (CH_TAKE_TAKE n) ≠ fld w 0 8) ∧ (s.chanInTake n = true ∨ (wbit w 31 = true ∧ s.takeBusy (fld w 0 8) = true))))) = true := by decide +kernel

theorem witness_EdgesBecomeStamps :
    ((let n : Fin 512 := 321; let input : Fin 3 := 2; let rising : Bool := true; let ref : Nat := 5; let code : BitVec 14 := 9#14; let s : State := puts (State.reset) [(CH_EVCFG_EN 321, 1), (CH_EVCFG_SRC 321, 1), (CH_EVCFG_INV 321, 0)]; decide ((s.bit (CH_EVCFG_EN n) = false ∨ s.evSource n ≠ input.val) ∧ (input.val ≠ 0 ∨ s.pinsCut = false))) &&
    (let n : Fin 512 := 321; let input : Fin 3 := 1; let rising : Bool := true; let ref : Nat := 5; let code : BitVec 14 := 9#14; let s : State := puts (State.reset) [(CH_EVCFG_EN 321, 1), (CH_EVCFG_SRC 321, 1), (CH_EVCFG_INV 321, 0), (CH_EVSTAT_RUN 321, 0)]; decide ((s.bit (CH_EVCFG_EN n) = true) ∧ (s.evSource n = input.val) ∧ (input.val ≠ 0 ∨ s.pinsCut = false) ∧ (s.bit (CH_EVSTAT_RUN n) = false))) &&
    (let n : Fin 512 := 321; let input : Fin 3 := 1; let rising : Bool := true; let ref : Nat := 5; let code : BitVec 14 := 9#14; let s : State := (puts (State.reset) [(CH_EVCFG_EN 321, 1), (CH_EVCFG_SRC 321, 1), (CH_EVCFG_INV 321, 0), (CH_EVSTAT_RUN 321, 1), (CH_EVCFG_EDGE 321, 2), (CH_EVCFG_HOLDOFF 321, 50)]).modCap 321 (fun x => { x with tAcc := some 100000, cal := none }); decide ((s.bit (CH_EVCFG_EN n) = true) ∧ (s.evSource n = input.val) ∧ (input.val ≠ 0 ∨ s.pinsCut = false) ∧ (s.bit (CH_EVSTAT_RUN n) = true) ∧ ((s.get (CH_EVCFG_EDGE n) = 0 → rising ≠ s.bit (CH_EVCFG_INV n)) ∧ (s.get (CH_EVCFG_EDGE n) = 1 → rising = s.bit (CH_EVCFG_INV n))) ∧ ((s.cap n).tAcc.any (fun a => decide ((s.edgeTime n (match (s.cap n).cal with | some q => 1 - q.stamper | none => (s.cap n).nextSt) ref code.toNat).1 < a + 4096 * s.get (CH_EVCFG_HOLDOFF n))) = true))) &&
    (let n : Fin 512 := 321; let input : Fin 3 := 1; let rising : Bool := true; let ref : Nat := 5; let code : BitVec 14 := 9#14; let s : State := (puts (State.reset) [(CH_EVCFG_EN 321, 1), (CH_EVCFG_SRC 321, 1), (CH_EVCFG_INV 321, 0), (CH_EVSTAT_RUN 321, 1), (CH_EVCFG_EDGE 321, 2), (CH_EVCFG_HOLDOFF 321, 0)]).modCap 321 (fun x => { x with tAcc := none, cal := none, qEnd := 10 ^ 12 }); decide ((s.bit (CH_EVCFG_EN n) = true) ∧ (s.evSource n = input.val) ∧ (input.val ≠ 0 ∨ s.pinsCut = false) ∧ (s.bit (CH_EVSTAT_RUN n) = true) ∧ ((s.get (CH_EVCFG_EDGE n) = 0 → rising ≠ s.bit (CH_EVCFG_INV n)) ∧ (s.get (CH_EVCFG_EDGE n) = 1 → rising = s.bit (CH_EVCFG_INV n))) ∧ ((s.cap n).tAcc.any (fun a => decide ((s.edgeTime n (match (s.cap n).cal with | some q => 1 - q.stamper | none => (s.cap n).nextSt) ref code.toNat).1 < a + 4096 * s.get (CH_EVCFG_HOLDOFF n))) = false) ∧ ((s.cap n).tAcc.any (fun a => decide ((s.edgeTime n (match (s.cap n).cal with | some q => 1 - q.stamper | none => (s.cap n).nextSt) ref code.toNat).1 < a + (max 5899 (s.get (CH_SEPMIN_TICKS n)) * (if (s.cap n).cal.isSome then 2 else 1)))) = true ∨ (s.edgeTime n (match (s.cap n).cal with | some q => 1 - q.stamper | none => (s.cap n).nextSt) ref code.toNat).1 + 7 * s.drainTicks n < (s.cap n).qEnd))) &&
    (let n : Fin 512 := 321; let input : Fin 3 := 1; let rising : Bool := true; let ref : Nat := 5; let code : BitVec 14 := 9#14; let s : State := (((puts (State.reset) [(CH_EVCFG_EN 321, 1), (CH_EVCFG_SRC 321, 1), (CH_EVCFG_INV 321, 0), (CH_EVSTAT_RUN 321, 1), (CH_EVCFG_EDGE 321, 2), (CH_TAKE_JOIN 321, 1), (CH_TAKE_TAKE 321, 200), (TK_STAT_STATE 200, 3)]).modCap 321 (fun x => { x with tAcc := none, cal := none, qEnd := -100000 })).modTake 200 (fun k => { k with cfg := 12 })); decide ((s.bit (CH_EVCFG_EN n) = true) ∧ (s.evSource n = input.val) ∧ (input.val ≠ 0 ∨ s.pinsCut = false) ∧ (s.bit (CH_EVSTAT_RUN n) = true) ∧ ((s.get (CH_EVCFG_EDGE n) = 0 → rising ≠ s.bit (CH_EVCFG_INV n)) ∧ (s.get (CH_EVCFG_EDGE n) = 1 → rising = s.bit (CH_EVCFG_INV n))) ∧ ((s.cap n).tAcc.any (fun a => decide ((s.edgeTime n (match (s.cap n).cal with | some q => 1 - q.stamper | none => (s.cap n).nextSt) ref code.toNat).1 < a + 4096 * s.get (CH_EVCFG_HOLDOFF n))) = false) ∧ ((s.cap n).tAcc.all (fun a => decide (a + (max 5899 (s.get (CH_SEPMIN_TICKS n)) * (if (s.cap n).cal.isSome then 2 else 1)) ≤ (s.edgeTime n (match (s.cap n).cal with | some q => 1 - q.stamper | none => (s.cap n).nextSt) ref code.toNat).1)) = true) ∧ ((s.cap n).qEnd ≤ (s.edgeTime n (match (s.cap n).cal with | some q => 1 - q.stamper | none => (s.cap n).nextSt) ref code.toNat).1 + 7 * s.drainTicks n))) &&
    (let n : Fin 512 := 321; let k : Nat := 200; let s : State := (puts (State.reset) [(CH_TAKE_JOIN 321, 1), (CH_TAKE_TAKE 321, 200), (TK_STAT_STATE 200, 3), (CH_EVSTAT_RUN 321, 1)]).modTake 200 (fun x => { x with cfg := 2 ^ 31 }); decide ((s.takeOf n = some k) ∧ (s.bit (CH_EVSTAT_RUN n) = true) ∧ ((s.cap n).cal = none) ∧ ((s.take k).reslate = true ∨ (s.take k).raw = true))) &&
    (let n : Fin 512 := 321; let k : Nat := 200; let q : Calib := ⟨0, 0, false, 50, false⟩; let c1 : Vector (BitVec 14) 8 := Vector.replicate 8 5000#14; let c2 : Vector (BitVec 14) 8 := Vector.replicate 8 9000#14; let s : State := (((puts (State.reset) [(CH_TAKE_JOIN 321, 1), (CH_TAKE_TAKE 321, 200), (TK_STAT_STATE 200, 1), (BNK_STAT_DLLSTATE 5, 3)]).modCap 321 (fun x => { x with cal := some ⟨0, 0, false, 50, false⟩ }))); decide ((s.takeOf n = some k) ∧ ((s.cap n).cal = some q) ∧ (s.get (BNK_STAT_DLLSTATE (n.val / 64)) ≠ 0) ∧ (q.stamper = 0) ∧ (q.wait = false) ∧ ((measureHalf c1.toList c2.toList).ok = true))) &&
    (let n : Fin 512 := 321; let k : Nat := 200; let q : Calib := ⟨0, 1, false, 50, false⟩; let c1 : Vector (BitVec 14) 8 := Vector.replicate 8 5000#14; let c2 : Vector (BitVec 14) 8 := Vector.replicate 8 9000#14; let s : State := (((puts (State.reset) [(CH_TAKE_JOIN 321, 1), (CH_TAKE_TAKE 321, 200), (TK_STAT_STATE 200, 1), (BNK_STAT_DLLSTATE 5, 3)]).modCap 321 (fun x => { x with cal := some ⟨0, 1, false, 50, false⟩ })).modTake 200 (fun k => { k with chans := [321] })); decide ((s.takeOf n = some k) ∧ ((s.cap n).cal = some q) ∧ (s.get (BNK_STAT_DLLSTATE (n.val / 64)) ≠ 0) ∧ (q.wait = false) ∧ (q.stamper ≠ 0) ∧ (q.kind = 0) ∧ ((measureHalf c1.toList c2.toList).ok = true))) &&
    (let n : Fin 512 := 321; let k : Nat := 200; let q : Calib := ⟨0, 1, false, 50, false⟩; let c1 : Vector (BitVec 14) 8 := Vector.replicate 8 5000#14; let c2 : Vector (BitVec 14) 8 := Vector.replicate 8 5000#14; let s : State := (((puts (State.reset) [(CH_TAKE_JOIN 321, 1), (CH_TAKE_TAKE 321, 200), (TK_STAT_STATE 200, 1), (BNK_STAT_DLLSTATE 5, 3)]).modCap 321 (fun x => { x with cal := some ⟨0, 1, false, 50, false⟩ }))); decide ((s.takeOf n = some k) ∧ ((s.cap n).cal = some q) ∧ (s.get (BNK_STAT_DLLSTATE (n.val / 64)) ≠ 0) ∧ (q.wait = false) ∧ (q.kind = 0) ∧ (q.again = false) ∧ ((measureHalf c1.toList c2.toList).ok = false))) &&
    (let n : Fin 512 := 321; let k : Nat := 200; let q : Calib := ⟨0, 1, true, 50, false⟩; let c1 : Vector (BitVec 14) 8 := Vector.replicate 8 5000#14; let c2 : Vector (BitVec 14) 8 := Vector.replicate 8 5000#14; let s : State := (((puts (State.reset) [(CH_TAKE_JOIN 321, 1), (CH_TAKE_TAKE 321, 200), (TK_STAT_STATE 200, 1), (BNK_STAT_DLLSTATE 5, 3)]).modCap 321 (fun x => { x with cal := some ⟨0, 1, true, 50, false⟩ })).modTake 200 (fun k => { k with chans := [321] })); decide ((s.takeOf n = some k) ∧ ((s.cap n).cal = some q) ∧ (s.get (BNK_STAT_DLLSTATE (n.val / 64)) ≠ 0) ∧ (q.wait = false) ∧ (q.kind = 0) ∧ (q.again = true) ∧ ((measureHalf c1.toList c2.toList).ok = false)))) = true := by decide +kernel

theorem witness_TaintStageReleasesInOrder :
    ((let b : Fin 8 := 5; let it : StageItem := ⟨100, 90, .stamp 321 ⟨368640, true, some 5, 90, 0, 7, 3⟩⟩; let rest : List StageItem := []; let s : State := (((puts (State.reset) [(BNK_STAT_DLLSTATE 5, 3), (CH_TAKE_JOIN 321, 1), (CH_TAKE_TAKE 321, 200), (TK_STAT_STATE 200, 3), (CH_EVSTAT_CLOSED 321, 0), (CH_CALCTRL_HIST 321, 0), (CH_RHEAD_IDX 321, 2047), (CH_RTAIL_IDX 321, 1024)]).modBank 5 (fun x => { x with stage := [⟨100, 90, .stamp 321 ⟨368640, true, some 5, 90, 0, 7, 3⟩⟩] })).modTake 200 (fun k => { k with chans := [321], tstart := some 0, raw := true, count := 1 })); decide ((s.get (BNK_STAT_DLLSTATE b) ≠ 0) ∧ ((s.bank b).stage = it :: rest))) &&
    (let b : Fin 8 := 5; let it : StageItem := ⟨100, 90, .comp ⟨3, .none, 0, 0, 1, 0, 0, 0, [5], none⟩⟩; let rest : List StageItem := []; let c : Comp := ⟨3, .none, 0, 0, 1, 0, 0, 0, [5], none⟩; let s : State := (puts (State.reset) [(BNK_STAT_DLLSTATE 5, 3)]).modBank 5 (fun x => { x with stage := [⟨100, 90, .comp ⟨3, .none, 0, 0, 1, 0, 0, 0, [5], none⟩⟩] }); decide ((s.get (BNK_STAT_DLLSTATE b) ≠ 0) ∧ ((s.bank b).stage = it :: rest) ∧ (it.body = .comp c) ∧ (c.src = .none))) &&
    (let b : Fin 8 := 5; let it : StageItem := ⟨100, 90, .comp ⟨3, .flow 63 9, 5, 77, 4, 1, 9, 12, [5], none⟩⟩; let rest : List StageItem := []; let c : Comp := ⟨3, .flow 63 9, 5, 77, 4, 1, 9, 12, [5], none⟩; let f : Nat := 63; let n : Nat := 9; let p : List Cmd := [⟨8, 2, 0, .started, 0, 0, 0, false, false, 0, false, false, 0, 0, none⟩]; let q : List Cmd := []; let k : Cmd := ⟨9, 3, 0x0110, .started, 0, 0, 0, false, false, 0, false, false, 0, 0, none⟩; let s : State := (((puts (State.reset) [(BNK_STAT_DLLSTATE 5, 3)]).modBank 5 (fun x => { x with stage := [⟨100, 90, .comp ⟨3, .flow 63 9, 5, 77, 4, 1, 9, 12, [5], none⟩⟩] })).modFlow 63 (fun x => { x with cmds := [⟨8, 2, 0, .started, 0, 0, 0, false, false, 0, false, false, 0, 0, none⟩, ⟨9, 3, 0x0110, .started, 0, 0, 0, false, false, 0, false, false, 0, 0, none⟩] })); decide ((s.get (BNK_STAT_DLLSTATE b) ≠ 0) ∧ ((s.bank b).stage = it :: rest) ∧ (it.body = .comp c) ∧ (c.src = .flow f n) ∧ ((s.flow f).cmds = p ++ k :: q) ∧ (k.id = n) ∧ (k.st ≠ .finished) ∧ (∀ j ∈ p ++ q, j.id ≠ n) ∧ (k.orphan = false))) &&
    (let b : Fin 8 := 5; let it : StageItem := ⟨100, 90, .stamp 321 ⟨368640, true, some 5, 90, 0, 7, 3⟩⟩; let rest : List StageItem := []; let n : Nat := 321; let k : Nat := 200; let x : Stamp := ⟨368640, true, some 5, 90, 0, 7, 3⟩; let s : State := (((puts (State.reset) [(BNK_STAT_DLLSTATE 5, 3), (CH_TAKE_JOIN 321, 1), (CH_TAKE_TAKE 321, 200), (TK_STAT_STATE 200, 3), (CH_EVSTAT_CLOSED 321, 0), (CH_CALCTRL_HIST 321, 0), (CH_RHEAD_IDX 321, 2047), (CH_RTAIL_IDX 321, 1024)]).modBank 5 (fun x => { x with stage := [⟨100, 90, .stamp 321 ⟨368640, true, some 5, 90, 0, 7, 3⟩⟩] })).modTake 200 (fun k => { k with chans := [321], tstart := some 0, raw := true, count := 1 })); decide ((s.get (BNK_STAT_DLLSTATE b) ≠ 0) ∧ ((s.bank b).stage = it :: rest) ∧ (it.body = .stamp n x) ∧ (s.takeOf n = some k) ∧ ((s.take k).merge = []) ∧ ((s.take k).chans.all (fun m => decide (x.t < ((s.tbTo b (it.enter + s.guardOf b)).modBank b (fun y => { y with stage := rest })).safeBefore m)) = true) ∧ (s.inWindow k n x.t = true) ∧ (s.bit (CH_CALCTRL_HIST n) = false) ∧ ((s.cap n).blocked = false) ∧ (s.reelCount n < 1024))) &&
    (let b : Fin 8 := 5; let it : StageItem := ⟨100, 90, .stamp 321 ⟨368640, true, some 5, 90, 0, 7, 3⟩⟩; let rest : List StageItem := []; let n : Nat := 321; let k : Nat := 200; let x : Stamp := ⟨368640, true, some 5, 90, 0, 7, 3⟩; let s : State := (((puts (State.reset) [(BNK_STAT_DLLSTATE 5, 3), (CH_TAKE_JOIN 321, 1), (CH_TAKE_TAKE 321, 200), (TK_STAT_STATE 200, 3), (CH_EVSTAT_CLOSED 321, 0), (CH_CALCTRL_HIST 321, 0), (CH_RHEAD_IDX 321, 2047), (CH_RTAIL_IDX 321, 1024)]).modBank 5 (fun x => { x with stage := [⟨100, 90, .stamp 321 ⟨368640, true, some 5, 90, 0, 7, 3⟩⟩] })).modTake 200 (fun k => { k with chans := [321], tstart := some 400000, raw := true, count := 1 })); decide ((s.get (BNK_STAT_DLLSTATE b) ≠ 0) ∧ ((s.bank b).stage = it :: rest) ∧ (it.body = .stamp n x) ∧ (s.takeOf n = some k) ∧ ((s.take k).merge = []) ∧ ((s.take k).chans.all (fun m => decide (x.t < ((s.tbTo b (it.enter + s.guardOf b)).modBank b (fun y => { y with stage := rest })).safeBefore m)) = true) ∧ (s.inWindow k n x.t = false))) &&
    (let b : Fin 8 := 5; let it : StageItem := ⟨100, 90, .stamp 321 ⟨368640, true, some 5, 90, 0, 7, 3⟩⟩; let rest : List StageItem := [⟨101, 80, .stamp 322 ⟨327680, true, none, 80, 0, 7, 3⟩⟩]; let n : Nat := 321; let k : Nat := 200; let x : Stamp := ⟨368640, true, some 5, 90, 0, 7, 3⟩; let s : State := (((puts (State.reset) [(BNK_STAT_DLLSTATE 5, 3), (CH_TAKE_JOIN 321, 1), (CH_TAKE_TAKE 321, 200), (TK_STAT_STATE 200, 3), (CH_EVSTAT_CLOSED 321, 0), (CH_CALCTRL_HIST 321, 0), (CH_RHEAD_IDX 321, 2047), (CH_RTAIL_IDX 321, 1024)]).modBank 5 (fun x => { x with stage := [⟨100, 90, .stamp 321 ⟨368640, true, some 5, 90, 0, 7, 3⟩⟩, ⟨101, 80, .stamp 322 ⟨327680, true, none, 80, 0, 7, 3⟩⟩] })).modTake 200 (fun k => { k with chans := [321, 322], tstart := some 0, raw := true, count := 1 })); decide ((s.get (BNK_STAT_DLLSTATE b) ≠ 0) ∧ ((s.bank b).stage = it :: rest) ∧ (it.body = .stamp n x) ∧ (s.takeOf n = some k) ∧ ((s.take k).merge = []) ∧ ((s.take k).chans.all (fun m => decide (x.t < ((s.tbTo b (it.enter + s.guardOf b)).modBank b (fun y => { y with stage := rest })).safeBefore m)) = false))) &&
    (let b : Fin 8 := 5; let it : StageItem := ⟨100, 90, .stamp 321 ⟨368640, true, some 5, 90, 0, 7, 3⟩⟩; let rest : List StageItem := []; let n : Nat := 321; let x : Stamp := ⟨368640, true, some 5, 90, 0, 7, 3⟩; let s : State := (puts (State.reset) [(BNK_STAT_DLLSTATE 5, 3), (CH_TAKE_JOIN 321, 0)]).modBank 5 (fun x => { x with stage := [⟨100, 90, .stamp 321 ⟨368640, true, some 5, 90, 0, 7, 3⟩⟩] }); decide ((s.get (BNK_STAT_DLLSTATE b) ≠ 0) ∧ ((s.bank b).stage = it :: rest) ∧ (it.body = .stamp n x) ∧ (s.takeOf n = none)))) = true := by decide +kernel

theorem witness_IntervalAndRegressionReads :
    ((let src : Source := .host; let i : Fin 64 := 63; let w : Nat := 0xABCDEF0123456789; let rest : List Nat := []; let s : State := (puts ((puts State.reset [(SEC_BOOTSTAT_STAGE, 9), (SEC_LCSTATE_LC, 2)])) []).modIv 63 (fun x => { x with fifo := [0xABCDEF0123456789] }); decide ((s.rowServed src (IV_FIFOLO i) false = true) ∧ ((s.iv i).fifo = w :: rest))) &&
    (let src : Source := .host; let i : Fin 64 := 63; let s : State := (puts State.reset [(SEC_BOOTSTAT_STAGE, 9), (SEC_LCSTATE_LC, 2)]); decide ((s.rowServed src (IV_FIFOLO i) false = true) ∧ ((s.iv i).fifo = []))) &&
    (let src : Source := .host; let i : Fin 64 := 63; let w : Nat := 0xABCDEF0123456789; let rest : List Nat := [1]; let s : State := (puts ((puts State.reset [(SEC_BOOTSTAT_STAGE, 9), (SEC_LCSTATE_LC, 2)])) [(IV_FIFOHI_W 63, 77)]).modIv 63 (fun x => { x with fifo := [0xABCDEF0123456789, 1] }); decide ((s.rowServed src (IV_FIFOHI i) false = true) ∧ ((s.iv i).fifo = w :: rest))) &&
    (let src : Source := .host; let i : Fin 64 := 63; let s : State := (puts State.reset [(SEC_BOOTSTAT_STAGE, 9), (SEC_LCSTATE_LC, 2)]); decide ((s.rowServed src (IV_FIFOHI i) false = true) ∧ ((s.iv i).fifo = []))) &&
    (let n : Nat := 321; let rest : List Nat := [5]; let s : State := { ((puts (State.reset) []).modRg 321 (fun x => { x with n := 2 })) with regQ := [321, 5] }; decide ((s.regQ = n :: rest) ∧ ((s.rg n).n < 3))) &&
    (let n : Nat := 321; let rest : List Nat := [5]; let s : State := { ((puts (State.reset) []).modRg 321 (fun x => { x with n := 4, sj := 6, sjj := 14, used := 40960, decim := 1, fnum := 1000000000 })) with regQ := [321, 5] }; decide ((s.regQ = n :: rest) ∧ (3 ≤ (s.rg n).n))) &&
    (let src : Source := .host; let w : Word := 321#32; let s : State := (((puts ((puts State.reset [(SEC_BOOTSTAT_STAGE, 9), (SEC_LCSTATE_LC, 2)])) []).modRg 321 (fun x => { x with snap := [1, 2 ^ 70, -3, -(2 ^ 100), 5, 6] }))); decide ((s.rowServed src REG_SEL true = true)))) = true := by decide +kernel

theorem witness_DrainRingsMoveWords :
    ((let r : Fin 64 := 9; let addr : Nat := 0x12345; let len : Nat := 1048576; let cookie : Nat := 7; let n : Nat := 321; let s : State := { ((puts (State.reset) [(DR_CTRL_EN 9, 1), (CH_RCFG_RING 321, 9), (GLB_MODE_DRAINWIN, 0), (CH_TAKE_JOIN 321, 0), (CH_RHEAD_IDX 321, 3), (CH_RTAIL_IDX 321, 2047), (DR_DTAIL_CNT 9, 0), (DR_DHEAD_CNT 9, 0xFFFFFFFF)]).modRing 9 (fun x => { x with bufs := [], wait := [] })) with ep := { State.reset.ep with bme := true, d3hot := false } }; decide ((s.firstWaiting r = some n) ∧ (s.ringGoes r = true) ∧ ((s.ring r).bufs.length < 16) ∧ (s.get (DR_DTAIL_CNT r) ≠ s.get (DR_DHEAD_CNT r)) ∧ (len % 64 = 0) ∧ (0 < len) ∧ (len ≤ 1048576))) &&
    (let r : Fin 64 := 9; let addr : Nat := 0x12345; let len : Nat := 64; let cookie : Nat := 7; let n : Nat := 321; let s : State := { ((puts (State.reset) [(DR_CTRL_EN 9, 1), (CH_RCFG_RING 321, 9), (GLB_MODE_DRAINWIN, 0), (CH_TAKE_JOIN 321, 0), (CH_RHEAD_IDX 321, 3), (CH_RTAIL_IDX 321, 2047), (DR_DTAIL_CNT 9, 5), (DR_DHEAD_CNT 9, 5)]).modRing 9 (fun x => { x with bufs := [], wait := [] })) with ep := { State.reset.ep with bme := true, d3hot := false } }; decide ((s.firstWaiting r = some n) ∧ (s.ringGoes r = true) ∧ ((s.ring r).bufs.length < 16) ∧ (s.get (DR_DTAIL_CNT r) = s.get (DR_DHEAD_CNT r)))) &&
    (let r : Fin 64 := 9; let addr : Nat := 0x12345; let len : Nat := 63; let cookie : Nat := 7; let n : Nat := 321; let s : State := { ((puts (State.reset) [(DR_CTRL_EN 9, 1), (CH_RCFG_RING 321, 9), (GLB_MODE_DRAINWIN, 0), (CH_TAKE_JOIN 321, 0), (CH_RHEAD_IDX 321, 3), (CH_RTAIL_IDX 321, 2047), (DR_DTAIL_CNT 9, 6), (DR_DHEAD_CNT 9, 5)]).modRing 9 (fun x => { x with bufs := [], wait := [] })) with ep := { State.reset.ep with bme := true, d3hot := false } }; decide ((s.firstWaiting r = some n) ∧ (s.ringGoes r = true) ∧ ((s.ring r).bufs.length < 16) ∧ (s.get (DR_DTAIL_CNT r) ≠ s.get (DR_DHEAD_CNT r)) ∧ (len % 64 ≠ 0 ∨ len = 0 ∨ 1048576 < len))) &&
    (let r : Fin 64 := 9; let b : Buf := ⟨321, 0x1000, 64, 5, 6, 0, false, false, 0, false⟩; let s : State := { ((puts (State.reset) [(DR_CTRL_EN 9, 1), (CH_RCFG_RING 321, 9), (GLB_MODE_DRAINWIN, 0), (CH_TAKE_JOIN 321, 0), (CH_RHEAD_IDX 321, 3), (CH_RTAIL_IDX 321, 2047)]).modRing 9 (fun x => { x with bufs := [⟨321, 0x1000, 64, 5, 6, 0, false, false, 0, false⟩], wait := [] })) with ep := { State.reset.ep with bme := true, d3hot := false } }; decide ((s.nextBuf r = some b) ∧ (s.ringGoes r = true) ∧ (b.ended = false))) &&
    (let r : Fin 64 := 9; let b : Buf := ⟨321, 0x1000, 64, 5, 6, 0, false, false, 0, true⟩; let s : State := (({ ((puts (State.reset) [(DR_CTRL_EN 9, 1), (CH_RCFG_RING 321, 9), (GLB_MODE_DRAINWIN, 0), (CH_TAKE_JOIN 321, 0), (CH_RHEAD_IDX 321, 3), (CH_RTAIL_IDX 321, 2047)]).modRing 9 (fun x => { x with bufs := [⟨321, 0x1000, 64, 5, 6, 0, false, false, 0, true⟩], wait := [] })) with ep := { State.reset.ep with bme := true, d3hot := false } }).modCap 321 (fun x => { x with reel := [(1022, ⟨5, 0, 0, false, false, true⟩)] })); decide ((s.nextBuf r = some b) ∧ (s.ringGoes r = true) ∧ (b.ended = true))) &&
    (let r : Fin 64 := 9; let b : Buf := ⟨321, 0x1000, 64, 5, 6, 0, false, false, 0, false⟩; let ws : List RWord := [⟨2 ^ 63 + 5, 0, 0, false, false, true⟩]; let s : State := (({ ((puts (State.reset) [(DR_CTRL_EN 9, 1), (CH_RCFG_RING 321, 9), (GLB_MODE_DRAINWIN, 0), (CH_TAKE_JOIN 321, 0), (CH_RHEAD_IDX 321, 3), (CH_RTAIL_IDX 321, 2047)]).modRing 9 (fun x => { x with bufs := [⟨321, 0x1000, 64, 5, 6, 0, false, false, 0, false⟩], wait := [] })) with ep := { State.reset.ep with bme := true, d3hot := false } }).modCap 321 (fun x => { x with reel := [(1023, ⟨2 ^ 63 + 5, 0, 0, false, false, true⟩)] })); decide ((s.nextBuf r = some b) ∧ (s.ringGoes r = true) ∧ (b.ended = false) ∧ (ws = (s.cap b.ch).burst (s.get (CH_RTAIL_IDX b.ch)) (min 32 (min (s.reelCount b.ch) (b.len / 8 - b.words)))) ∧ ((ws.getLastD RWord.init).last = true))) &&
    (let r : Fin 64 := 9; let n : Fin 512 := 321; let b : Buf := ⟨321, 0x1000, 64, 5, 6, 3, false, true, 0, false⟩; let s : State := { ((puts (State.reset) [(DR_CTRL_EN 9, 1), (CH_RCFG_RING 321, 9), (GLB_MODE_DRAINWIN, 0), (CH_TAKE_JOIN 321, 0), (CH_RHEAD_IDX 321, 3), (CH_RTAIL_IDX 321, 2047), (DR_CHEAD_CNT 9, 16), (DR_CTAIL_CNT 9, 1), (DR_SIZE_CLOG 9, 4)]).modRing 9 (fun x => { x with bufs := [⟨321, 0x1000, 64, 5, 6, 3, false, true, 0, false⟩], wait := [] })) with ep := { State.reset.ep with bme := true, d3hot := false } }; decide (((s.ring r).bufs.find? (fun b => b.ch == n.val && b.words != 0) = some b) ∧ ((s.ring r).wait = []) ∧ (s.ringFull r = false) ∧ (s.dmaOn = true))) &&
    (let r : Fin 64 := 9; let n : Fin 512 := 321; let b : Buf := ⟨321, 0x1000, 64, 5, 6, 0, false, false, 0, false⟩; let s : State := { ((puts (State.reset) [(DR_CTRL_EN 9, 1), (CH_RCFG_RING 321, 9), (GLB_MODE_DRAINWIN, 0), (CH_TAKE_JOIN 321, 0), (CH_RHEAD_IDX 321, 3), (CH_RTAIL_IDX 321, 2047)]).modRing 9 (fun x => { x with bufs := [⟨321, 0x1000, 64, 5, 6, 0, false, false, 0, false⟩, ⟨322, 0x2000, 64, 5, 6, 0, false, false, 0, false⟩], wait := [] })) with ep := { State.reset.ep with bme := true, d3hot := false } }; decide (((s.ring r).bufs.find? (fun b => b.ch == n.val && b.words != 0) = some b))) &&
    (let r : Fin 64 := 9; let s : State := { ((puts (State.reset) [(DR_CTRL_EN 9, 1), (CH_RCFG_RING 321, 9), (GLB_MODE_DRAINWIN, 0), (CH_TAKE_JOIN 321, 0), (CH_RHEAD_IDX 321, 3), (CH_RTAIL_IDX 321, 2047)]).modRing 9 (fun x => { x with unsig := 3 })) with ep := { State.reset.ep with bme := true, d3hot := false } }; decide (((s.ring r).unsig ≠ 0))) &&
    (let src : Source := .host; let r : Fin 64 := 9; let w : Word := 0x80000001#32; let s : State := (puts State.reset [(SEC_BOOTSTAT_STAGE, 9), (SEC_LCSTATE_LC, 2)]); decide ((s.rowServed src (DR_CTRL r) true = true) ∧ (wbit w 31 = true))) &&
    (let src : Source := .host; let r : Fin 64 := 9; let w : Word := 0x1#32; let s : State := { ((puts ((puts State.reset [(SEC_BOOTSTAT_STAGE, 9), (SEC_LCSTATE_LC, 2)])) [(DR_CTRL_EN 9, 1), (CH_RCFG_RING 321, 9), (GLB_MODE_DRAINWIN, 0), (CH_TAKE_JOIN 321, 0), (CH_RHEAD_IDX 321, 3), (CH_RTAIL_IDX 321, 2047)]).modRing 9 (fun x => { x with bufs := [⟨321, 0x1000, 64, 5, 6, 0, false, false, 0, false⟩], wait := [] })) with ep := { State.reset.ep with bme := true, d3hot := false } }; decide ((s.rowServed src (DR_CTRL r) true = true) ∧ (wbit w 31 = false))) &&
    (let src : Source := .host; let r : Fin 64 := 9; let w : Word := 0xFFFFFFFF#32; let s : State := (puts State.reset [(SEC_BOOTSTAT_STAGE, 9), (SEC_LCSTATE_LC, 2)]); decide ((s.rowServed src (DR_DTAIL r) true = true))) &&
    (let src : Source := .host; let r : Fin 64 := 9; let w : Word := 0xFFFFFFFF#32; let s : State := (puts State.reset [(SEC_BOOTSTAT_STAGE, 9), (SEC_LCSTATE_LC, 2)]); decide ((s.rowServed src (DR_CTAIL r) true = true)))) = true := by decide +kernel

theorem witness_PortsTrain :
    ((let src : Source := .host; let p : Fin 8 := 7; let w : Word := 5#32; let s : State := puts ((puts State.reset [(SEC_BOOTSTAT_STAGE, 9), (SEC_LCSTATE_LC, 2)])) [(TSP_STAT_LSTATE 7, 0), (TSP_CTRL_EN 7, 0)]; decide ((s.rowServed src (TSP_CTRL p) true = true) ∧ (s.bit (TSP_CTRL_EN p) = false) ∧ (wbit w 0 = true))) &&
    (let src : Source := .host; let p : Fin 8 := 7; let w : Word := 2#32; let s : State := (puts ((puts State.reset [(SEC_BOOTSTAT_STAGE, 9), (SEC_LCSTATE_LC, 2)])) [(TSP_STAT_LSTATE 7, 4), (TSP_CTRL_EN 7, 1), (TSP_STAT_HELLO 7, 0)]).modTsp 7 (fun x => { x with rxLast := some 5, txNext := 9, results := [5] }); decide ((s.rowServed src (TSP_CTRL p) true = true) ∧ (s.bit (TSP_CTRL_EN p) = true) ∧ (wbit w 0 = false))) &&
    (let src : Source := .host; let p : Fin 8 := 7; let w : Word := 5#32; let s : State := (puts ((puts State.reset [(SEC_BOOTSTAT_STAGE, 9), (SEC_LCSTATE_LC, 2)])) [(TSP_STAT_LSTATE 7, 4), (TSP_CTRL_EN 7, 1), (TSP_STAT_HELLO 7, 1)]).modTsp 7 (fun x => { x with rxLast := some 5, txNext := 9, results := [5] }); decide ((s.rowServed src (TSP_CTRL p) true = true) ∧ (s.bit (TSP_CTRL_EN p) = true) ∧ (wbit w 0 = true) ∧ (wbit w 2 = true))) &&
    (let p : Fin 12 := 7; let s : State := puts (State.reset) [(TSP_STAT_LSTATE 7, 1), (TSP_STAT_LANELOCK 7, 15)]; decide ((p.val < 8) ∧ (s.lstate p = 1))) &&
    (let p : Fin 12 := 11; let s : State := puts (State.reset) [(PRL_STAT_LSTATE 3, 1), (PRL_STAT_LANELOCK 3, 3)]; decide ((8 ≤ p.val) ∧ (s.plState (p.val - 8) = 1))) &&
    (let p : Fin 12 := 7; let s : State := puts (State.reset) [(TSP_STAT_LSTATE 7, 1), (TSP_STAT_LANELOCK 7, 15)]; decide ((p.val < 8) ∧ (s.lstate p = 1))) &&
    (let p : Fin 12 := 11; let s : State := puts (State.reset) [(PRL_STAT_LSTATE 3, 1), (PRL_STAT_LANELOCK 3, 3)]; decide ((8 ≤ p.val) ∧ (s.plState (p.val - 8) = 1))) &&
    (let p : Fin 12 := 7; let s : State := puts (State.reset) [(TSP_STAT_LSTATE 7, 2), (TSP_STAT_LANELOCK 7, 15)]; decide ((p.val < 8) ∧ (s.lstate p = 2))) &&
    (let p : Fin 12 := 11; let s : State := puts (State.reset) [(PRL_STAT_LSTATE 3, 2), (PRL_STAT_LANELOCK 3, 3)]; decide ((8 ≤ p.val) ∧ (s.plState (p.val - 8) = 2))) &&
    (let p : Fin 12 := 7; let s : State := (puts (State.reset) [(TSP_STAT_LSTATE 7, 2), (TSP_STAT_LANELOCK 7, 15)]).modTsp 7 (fun x => { x with results := [5, 6] }); decide ((p.val < 8) ∧ (s.lstate p = 2))) &&
    (let p : Fin 12 := 11; let s : State := puts (State.reset) [(PRL_STAT_LSTATE 3, 2), (PRL_STAT_LANELOCK 3, 3)]; decide ((8 ≤ p.val) ∧ (s.plState (p.val - 8) = 2))) &&
    (let p : Fin 12 := 7; let s : State := puts (State.reset) [(TSP_STAT_LSTATE 7, 3), (TSP_STAT_LANELOCK 7, 15)]; decide ((p.val < 8) ∧ (s.lstate p = 3))) &&
    (let p : Fin 12 := 11; let s : State := (puts (State.reset) [(PRL_STAT_LSTATE 3, 3), (PRL_STAT_LANELOCK 3, 3)]).modPl 3 (fun x => { x with unacked := [(9, ⟨1, 2, false, [.alignvoid 2], []⟩)] }); decide ((8 ≤ p.val) ∧ (s.plState (p.val - 8) = 3))) &&
    (let p : Fin 12 := 7; let s : State := puts (State.reset) [(TSP_STAT_LSTATE 7, 3), (TSP_STAT_LANELOCK 7, 15)]; decide ((p.val < 8) ∧ (s.lstate p = 3))) &&
    (let p : Fin 12 := 11; let s : State := puts (State.reset) [(PRL_STAT_LSTATE 3, 3), (PRL_STAT_LANELOCK 3, 3)]; decide ((8 ≤ p.val) ∧ (s.plState (p.val - 8) = 3))) &&
    (let p : Fin 12 := 7; let s : State := puts (State.reset) [(TSP_STAT_LSTATE 7, 5), (TSP_STAT_LANELOCK 7, 15)]; decide ((p.val < 8) ∧ (s.lstate p = 5))) &&
    (let p : Fin 12 := 11; let s : State := puts (State.reset) [(PRL_STAT_LSTATE 3, 5), (PRL_STAT_LANELOCK 3, 3)]; decide ((8 ≤ p.val) ∧ (s.plState (p.val - 8) = 5))) &&
    (let p : Fin 12 := 7; let lane : Fin 4 := 1; let s : State := puts (State.reset) [(TSP_STAT_LSTATE 7, 4), (TSP_STAT_LANELOCK 7, 15)]; decide ((p.val < 8) ∧ (s.lstate p = 4))) &&
    (let p : Fin 12 := 11; let lane : Fin 4 := 1; let s : State := puts (State.reset) [(PRL_STAT_LSTATE 3, 4), (PRL_STAT_LANELOCK 3, 3)]; decide ((8 ≤ p.val) ∧ (s.plState (p.val - 8) = 4) ∧ (lane.val < 2))) &&
    (let p : Fin 12 := 7; let s : State := (puts (State.reset) [(TSP_STAT_LSTATE 7, 5), (TSP_STAT_LANELOCK 7, 15)]).modTsp 7 (fun x => { x with results := [5, 6] }); decide ((p.val < 8) ∧ (s.lstate p = 5))) &&
    (let p : Fin 12 := 11; let s : State := puts (State.reset) [(PRL_STAT_LSTATE 3, 5), (PRL_STAT_LANELOCK 3, 3)]; decide ((8 ≤ p.val) ∧ (s.plState (p.val - 8) = 5))) &&
    (let p : Fin 12 := 7; let lane : Fin 4 := 3; let s : State := puts (State.reset) [(TSP_STAT_LSTATE 7, 4), (TSP_LANEERR_COUNT 7 3, 0xFFFFFFFF)]; decide ((p.val < 8) ∧ (s.lstate p = 4))) &&
    (let p : Fin 12 := 11; let lane : Fin 4 := 3; let s : State := puts (State.reset) []; decide ((8 ≤ p.val)))) = true := by decide +kernel

theorem witness_LinksCarryFramesAndProbes :
    ((let src : Source := .host; let p : Fin 4 := 3; let w : Word := 5#32; let s : State := puts ((puts State.reset [(SEC_BOOTSTAT_STAGE, 9), (SEC_LCSTATE_LC, 2)])) [(PRL_STAT_LSTATE 3, 0), (PRL_CTRL_EN 3, 0)]; decide ((s.rowServed src (PRL_CTRL p) true = true) ∧ (s.bit (PRL_CTRL_EN p) = false) ∧ (wbit w 0 = true))) &&
    (let src : Source := .host; let p : Fin 4 := 3; let w : Word := 4#32; let s : State := puts ((puts State.reset [(SEC_BOOTSTAT_STAGE, 9), (SEC_LCSTATE_LC, 2)])) [(PRL_STAT_LSTATE 3, 4), (PRL_CTRL_EN 3, 1)]; decide ((s.rowServed src (PRL_CTRL p) true = true) ∧ (s.bit (PRL_CTRL_EN p) = true) ∧ (wbit w 0 = false) ∧ (wbit w 3 = false))) &&
    (let src : Source := .host; let p : Fin 4 := 3; let w : Word := 5#32; let s : State := puts ((puts State.reset [(SEC_BOOTSTAT_STAGE, 9), (SEC_LCSTATE_LC, 2)])) [(PRL_STAT_LSTATE 3, 4), (PRL_CTRL_EN 3, 1)]; decide ((s.rowServed src (PRL_CTRL p) true = true) ∧ (s.bit (PRL_CTRL_EN p) = true) ∧ (wbit w 0 = true) ∧ (wbit w 2 = true) ∧ (wbit w 3 = false))) &&
    (let src : Source := .host; let p : Fin 4 := 3; let w : Word := 0x29#32; let s : State := puts ((puts State.reset [(SEC_BOOTSTAT_STAGE, 9), (SEC_LCSTATE_LC, 2)])) [(PRL_STAT_LSTATE 3, 3), (PRL_CTRL_EN 3, 1)]; decide ((s.rowServed src (PRL_CTRL p) true = true) ∧ (s.bit (PRL_CTRL_EN p) = true) ∧ (wbit w 0 = true) ∧ (wbit w 2 = false) ∧ (wbit w 3 = true) ∧ (s.plState p ≠ 4) ∧ ((s.pl p).meas = none))) &&
    (let src : Source := .host; let p : Fin 4 := 3; let w : Word := 0x29#32; let s : State := puts ((puts State.reset [(SEC_BOOTSTAT_STAGE, 9), (SEC_LCSTATE_LC, 2)])) [(PRL_STAT_LSTATE 3, 4), (PRL_CTRL_EN 3, 1), (PRL_NPROBE_N 3, 100)]; decide ((s.rowServed src (PRL_CTRL p) true = true) ∧ (s.bit (PRL_CTRL_EN p) = true) ∧ (wbit w 0 = true) ∧ (wbit w 2 = false) ∧ (wbit w 3 = true) ∧ (s.plState p = 4) ∧ ((s.pl p).meas = none))) &&
    (let p : Fin 4 := 3; let f : BitVec 2048 := 0x20000000#2048; let invalid : Bool := false; let items : List LinkItem := []; let s : State := puts (State.reset) [(PRL_STAT_LSTATE 3, 4), (PRL_CRCERR_COUNT 3, 0xFFFFFFFF)]; decide ((s.plState p = 4) ∧ (invalid = true ∨ frameOk f.toNat = false ∨ 1 < f.toNat % 2 ^ 32 / 2 ^ 28))) &&
    (let p : Fin 4 := 3; let f : BitVec 2048 := (BitVec.ofNat 2048 (ofLe (linkBytes (linkHeader 0 0 0 0 9 false) []))); let items : List LinkItem := []; let s : State := (puts (State.reset) [(PRL_STAT_LSTATE 3, 4)]).modPl 3 (fun x => { x with unacked := [(9, ⟨1, 2, false, [.alignvoid 2], []⟩), (10, ⟨1, 2, false, [.alignvoid 2], []⟩)] }); decide ((s.plState p = 4) ∧ (frameOk f.toNat = true) ∧ ((f.toNat % 2 ^ 32) / 2 ^ 28 = 0))) &&
    (let p : Fin 4 := 3; let f : BitVec 2048 := (BitVec.ofNat 2048 (ofLe (linkBytes (linkHeader 1 0 5 1 9 false) []))); let items : List LinkItem := []; let s : State := puts (State.reset) [(PRL_STAT_LSTATE 3, 4), (PRL_STAT_RXSEQ 3, 255)]; decide ((s.plState p = 4) ∧ (frameOk f.toNat = true) ∧ ((f.toNat % 2 ^ 32) / 2 ^ 28 = 1) ∧ ((f.toNat % 2 ^ 32) / 2 ^ 12 % 256 ≠ (s.get (PRL_STAT_RXSEQ p) + 1) % 256))) &&
    (let p : Fin 4 := 3; let f : BitVec 2048 := (BitVec.ofNat 2048 (ofLe (linkBytes (linkHeader 1 3 5 0 9 false) [0x0B]))); let items : List LinkItem := [.alignvoid 2]; let s : State := puts (State.reset) [(PRL_STAT_LSTATE 3, 4), (PRL_STAT_RXSEQ 3, 255), (PRL_BDID_ID, 3)]; decide ((s.plState p = 4) ∧ (frameOk f.toNat = true) ∧ ((f.toNat % 2 ^ 32) / 2 ^ 28 = 1) ∧ ((f.toNat % 2 ^ 32) / 2 ^ 12 % 256 = (s.get (PRL_STAT_RXSEQ p) + 1) % 256) ∧ ((f.toNat % 2 ^ 32) / 8 % 2 = 0) ∧ ((f.toNat % 2 ^ 32) / 2 ^ 24 % 16 = s.me ∨ oneHop (frameItems f.toNat) = true))) &&
    (let p : Fin 4 := 3; let f : BitVec 2048 := (BitVec.ofNat 2048 (ofLe (linkBytes (linkHeader 1 15 5 0 9 true) [0x0B]))); let items : List LinkItem := [.alignvoid 2]; let s : State := puts (State.reset) [(PRL_STAT_LSTATE 3, 4), (PRL_STAT_RXSEQ 3, 255), (PRL_BDID_ID, 3)]; decide ((s.plState p = 4) ∧ (frameOk f.toNat = true) ∧ ((f.toNat % 2 ^ 32) / 2 ^ 28 = 1) ∧ ((f.toNat % 2 ^ 32) / 2 ^ 12 % 256 = (s.get (PRL_STAT_RXSEQ p) + 1) % 256) ∧ ((f.toNat % 2 ^ 32) / 8 % 2 = 1))) &&
    (let p : Fin 4 := 3; let f : BitVec 2048 := (BitVec.ofNat 2048 (ofLe (linkBytes (linkHeader 1 2 5 0 9 false) [0x0B]))); let items : List LinkItem := [.alignvoid 2]; let s : State := puts (State.reset) [(PRL_STAT_LSTATE 3, 4), (PRL_STAT_RXSEQ 3, 255), (PRL_BDID_ID, 1), (PRL_ENUM_TOPO, 1), (PRL_ENUM_NDEV, 3), (PRL_STAT_LSTATE 1, 4)]; let q : Fin 4 := 1; decide ((s.plState p = 4) ∧ (frameOk f.toNat = true) ∧ ((f.toNat % 2 ^ 32) / 2 ^ 28 = 1) ∧ ((f.toNat % 2 ^ 32) / 2 ^ 12 % 256 = (s.get (PRL_STAT_RXSEQ p) + 1) % 256) ∧ ((f.toNat % 2 ^ 32) / 8 % 2 = 0) ∧ ((f.toNat % 2 ^ 32) / 2 ^ 24 % 16 ≠ s.me) ∧ (oneHop (frameItems f.toNat) = false) ∧ (s.portTo ((f.toNat % 2 ^ 32) / 2 ^ 24 % 16) = some q.val) ∧ (q ≠ p))) &&
    (let p : Fin 4 := 3; let s : State := (puts (State.reset) [(PRL_STAT_LSTATE 3, 4)]).modPl 3 (fun x => { x with unacked := [(9, ⟨1, 2, false, [.alignvoid 2], [0x0B]⟩)], resends := 7 }); decide ((s.plState p = 4) ∧ ((s.pl p).unacked ≠ []) ∧ ((s.pl p).resends < 8))) &&
    (let p : Fin 4 := 3; let s : State := (puts (State.reset) [(PRL_STAT_LSTATE 3, 4), (PRL_BDID_ID, 2)]).modPl 3 (fun x => { x with unacked := [(9, ⟨1, 2, false, [.alignvoid 2], [0x0B]⟩)], resends := 8 }); decide ((s.plState p = 4) ∧ ((s.pl p).unacked ≠ []) ∧ (8 ≤ (s.pl p).resends))) &&
    (let p : Fin 4 := 3; let tx : Nat := 77; let m : Meas := ⟨1, 0, 3, 2, 64, 1, [5], [6], false, 0, false, []⟩; let s : State := (puts (State.reset) [(PRL_STAT_LSTATE 3, 4)]).modPl 3 (fun x => { x with meas := some ⟨1, 0, 3, 2, 64, 1, [5], [6], false, 0, false, []⟩ }); decide (((s.pl p).meas = some m) ∧ (m.phase = 1) ∧ (m.tx.length < m.n) ∧ (s.plState p = 4))) &&
    (let p : Fin 4 := 3; let tx : Nat := 77; let m : Meas := ⟨1, 0, 3, 2, 2, 1, [5, 6], [6], false, 0, false, []⟩; let s : State := (puts (State.reset) [(PRL_STAT_LSTATE 3, 4)]).modPl 3 (fun x => { x with meas := some ⟨1, 0, 3, 2, 2, 1, [5, 6], [6], false, 0, false, []⟩ }); decide (((s.pl p).meas = some m) ∧ (m.phase = 1) ∧ (m.tx.length = m.n))) &&
    (let p : Fin 4 := 3; let index : Nat := 300; let stamp : Nat := 9; let tx : Nat := 11; let s : State := puts (State.reset) [(PRL_STAT_LSTATE 3, 4)]; decide ((s.plState p = 4))) &&
    (let p : Fin 4 := 3; let index : Nat := 256; let stamp : Nat := 9; let tx : Nat := 11; let m : Meas := ⟨1, 0, 3, 2, 64, 1, [5], [], false, 0, false, []⟩; let s : State := (puts (State.reset) [(PRL_STAT_LSTATE 3, 4)]).modPl 3 (fun x => { x with meas := some ⟨1, 0, 3, 2, 64, 1, [5], [], false, 0, false, []⟩ }); decide ((s.plState p = 4) ∧ ((s.pl p).meas = some m) ∧ (m.phase = 1) ∧ (m.rx.length < m.tx.length) ∧ (index % 256 = m.rx.length % 256)))) = true := by decide +kernel

theorem witness_PortCommandsReachTheirGroups :
    ((let p : Fin 8 := 7; let v : Nat := (1 * 2 ^ 120 + 63 * 2 ^ 114 + 48879 * 2 ^ 88 + 0 * 2 ^ 85 + 3 * 2 ^ 80 + 40 * 2 ^ 64 + 0 * 2 ^ 48 + 0); let rest : List TspItem := [.cmd 0]; let s : State := (puts (State.reset) [(TSP_STAT_LSTATE 7, 4), (TSP_STAT_HELLO 7, 1), (GRP_STAT_OWNED 63, 1), (GRP_STAT_OWNER 63, 7), (CH_GRP_MEMBER 321, 1), (CH_GRP_GROUP 321, 63), (BNK_STAT_ROOTACT 5, 1)]).modTsp 7 (fun x => { x with inbox := [.cmd (1 * 2 ^ 120 + 63 * 2 ^ 114 + 48879 * 2 ^ 88 + 0 * 2 ^ 85 + 3 * 2 ^ 80 + 40 * 2 ^ 64 + 0 * 2 ^ 48 + 0), .cmd 0] }); decide (((s.tsp p).inbox = .cmd v :: rest) ∧ (cmdOp v = 1) ∧ (s.hello p = true) ∧ (s.ownsGroup p (cmdGroup v) = true) ∧ (s.members (cmdGroup v) ≠ []))) &&
    (let p : Fin 8 := 7; let v : Nat := (2 * 2 ^ 120 + 63 * 2 ^ 114 + 48879 * 2 ^ 88 + 0 * 2 ^ 85 + 31 * 2 ^ 80 + 2047 * 2 ^ 64 + 65535 * 2 ^ 48 + 0); let rest : List TspItem := [.cmd 0]; let s : State := (puts (State.reset) [(TSP_STAT_LSTATE 7, 4), (TSP_STAT_HELLO 7, 1), (GRP_STAT_OWNED 63, 1), (GRP_STAT_OWNER 63, 7), (CH_GRP_MEMBER 321, 1), (CH_GRP_GROUP 321, 63), (BNK_STAT_ROOTACT 5, 1)]).modTsp 7 (fun x => { x with inbox := [.cmd (2 * 2 ^ 120 + 63 * 2 ^ 114 + 48879 * 2 ^ 88 + 0 * 2 ^ 85 + 31 * 2 ^ 80 + 2047 * 2 ^ 64 + 65535 * 2 ^ 48 + 0), .cmd 0] }); decide (((s.tsp p).inbox = .cmd v :: rest) ∧ (cmdOp v = 2) ∧ (s.hello p = true) ∧ (s.ownsGroup p (cmdGroup v) = true) ∧ (s.members (cmdGroup v) ≠ []))) &&
    (let p : Fin 8 := 7; let v : Nat := (3 * 2 ^ 120 + 63 * 2 ^ 114 + 48879 * 2 ^ 88 + 0 * 2 ^ 85 + 0 * 2 ^ 80 + 0 * 2 ^ 64 + 5 * 2 ^ 48 + 77); let rest : List TspItem := [.cmd 0]; let s : State := (puts (State.reset) [(TSP_STAT_LSTATE 7, 4), (TSP_STAT_HELLO 7, 1), (GRP_STAT_OWNED 63, 1), (GRP_STAT_OWNER 63, 7), (CH_GRP_MEMBER 321, 1), (CH_GRP_GROUP 321, 63), (BNK_STAT_ROOTACT 5, 1)]).modTsp 7 (fun x => { x with inbox := [.cmd (3 * 2 ^ 120 + 63 * 2 ^ 114 + 48879 * 2 ^ 88 + 0 * 2 ^ 85 + 0 * 2 ^ 80 + 0 * 2 ^ 64 + 5 * 2 ^ 48 + 77), .cmd 0] }); decide (((s.tsp p).inbox = .cmd v :: rest) ∧ (cmdOp v = 3) ∧ (s.hello p = true) ∧ (s.ownsGroup p (cmdGroup v) = true) ∧ (s.members (cmdGroup v) ≠ []))) &&
    (let p : Fin 8 := 7; let v : Nat := (4 * 2 ^ 120 + 63 * 2 ^ 114 + 48879 * 2 ^ 88 + 0 * 2 ^ 85 + 0 * 2 ^ 80 + 0 * 2 ^ 64 + 5 * 2 ^ 48 + 0); let rest : List TspItem := [.cmd 0]; let s : State := (puts (State.reset) [(TSP_STAT_LSTATE 7, 4), (TSP_STAT_HELLO 7, 1), (GRP_STAT_OWNED 63, 1), (GRP_STAT_OWNER 63, 7), (CH_GRP_MEMBER 321, 1), (CH_GRP_GROUP 321, 63), (BNK_STAT_ROOTACT 5, 1)]).modTsp 7 (fun x => { x with inbox := [.cmd (4 * 2 ^ 120 + 63 * 2 ^ 114 + 48879 * 2 ^ 88 + 0 * 2 ^ 85 + 0 * 2 ^ 80 + 0 * 2 ^ 64 + 5 * 2 ^ 48 + 0), .cmd 0] }); decide (((s.tsp p).inbox = .cmd v :: rest) ∧ (cmdOp v = 4) ∧ (s.hello p = true) ∧ (s.ownsGroup p (cmdGroup v) = true) ∧ (s.members (cmdGroup v) ≠ []))) &&
    (let p : Fin 8 := 7; let v : Nat := (5 * 2 ^ 120 + 63 * 2 ^ 114 + 48879 * 2 ^ 88 + 0 * 2 ^ 85 + 0 * 2 ^ 80 + 0 * 2 ^ 64 + 0 * 2 ^ 48 + (2 ^ 48 - 1)); let rest : List TspItem := [.cmd 0]; let s : State := (puts (State.reset) [(TSP_STAT_LSTATE 7, 4), (TSP_STAT_HELLO 7, 1), (GRP_STAT_OWNED 63, 1), (GRP_STAT_OWNER 63, 7), (CH_GRP_MEMBER 321, 1), (CH_GRP_GROUP 321, 63), (BNK_STAT_ROOTACT 5, 1)]).modTsp 7 (fun x => { x with inbox := [.cmd (5 * 2 ^ 120 + 63 * 2 ^ 114 + 48879 * 2 ^ 88 + 0 * 2 ^ 85 + 0 * 2 ^ 80 + 0 * 2 ^ 64 + 0 * 2 ^ 48 + (2 ^ 48 - 1)), .cmd 0] }); decide (((s.tsp p).inbox = .cmd v :: rest) ∧ (cmdOp v = 5) ∧ (s.hello p = true) ∧ (s.ownsGroup p (cmdGroup v) = true) ∧ (s.members (cmdGroup v) ≠ []))) &&
    (let p : Fin 8 := 7; let v : Nat := (6 * 2 ^ 120 + 63 * 2 ^ 114 + 48879 * 2 ^ 88 + 1 * 2 ^ 85 + 0 * 2 ^ 80 + 0 * 2 ^ 64 + 0 * 2 ^ 48 + 0); let rest : List TspItem := [.cmd 0]; let s : State := (puts (State.reset) [(TSP_STAT_LSTATE 7, 4), (TSP_STAT_HELLO 7, 1), (GRP_STAT_OWNED 63, 1), (GRP_STAT_OWNER 63, 7), (CH_GRP_MEMBER 321, 1), (CH_GRP_GROUP 321, 63), (BNK_STAT_ROOTACT 5, 1)]).modTsp 7 (fun x => { x with inbox := [.cmd (6 * 2 ^ 120 + 63 * 2 ^ 114 + 48879 * 2 ^ 88 + 1 * 2 ^ 85 + 0 * 2 ^ 80 + 0 * 2 ^ 64 + 0 * 2 ^ 48 + 0), .cmd 0] }); decide (((s.tsp p).inbox = .cmd v :: rest) ∧ (cmdOp v = 6) ∧ (s.hello p = true) ∧ (s.ownsGroup p (cmdGroup v) = true) ∧ (s.members (cmdGroup v) ≠ []))) &&
    (let p : Fin 8 := 7; let v : Nat := (6 * 2 ^ 120 + 63 * 2 ^ 114 + 48879 * 2 ^ 88 + 1 * 2 ^ 85 + 0 * 2 ^ 80 + 0 * 2 ^ 64 + 0 * 2 ^ 48 + 0); let rest : List TspItem := []; let s : State := (puts (State.reset) [(TSP_STAT_LSTATE 7, 4), (TSP_STAT_HELLO 7, 1), (GRP_STAT_OWNED 63, 1), (GRP_STAT_OWNER 63, 7), (CH_GRP_MEMBER 321, 1), (CH_GRP_GROUP 321, 63), (BNK_STAT_ROOTACT 5, 1), (GRP_STAT_OWNER 63, 6), (GRP_CUEREF_COUNT 63, 0xFFFFFFFF)]).modTsp 7 (fun x => { x with inbox := [.cmd (6 * 2 ^ 120 + 63 * 2 ^ 114 + 48879 * 2 ^ 88 + 1 * 2 ^ 85 + 0 * 2 ^ 80 + 0 * 2 ^ 64 + 0 * 2 ^ 48 + 0)] }); decide (((s.tsp p).inbox = .cmd v :: rest) ∧ (s.hello p = true) ∧ (s.ownsGroup p (cmdGroup v) = false))) &&
    (let p : Fin 8 := 7; let v : Nat := (48 * 2 ^ 120 + 63 * 2 ^ 114 + 48879 * 2 ^ 88 + 1 * 2 ^ 85 + 0 * 2 ^ 80 + 0 * 2 ^ 64 + 0 * 2 ^ 48 + 0); let rest : List TspItem := []; let s : State := (puts (State.reset) [(TSP_STAT_LSTATE 7, 4), (TSP_STAT_HELLO 7, 1), (GRP_STAT_OWNED 63, 1), (GRP_STAT_OWNER 63, 7), (CH_GRP_MEMBER 321, 1), (CH_GRP_GROUP 321, 63), (BNK_STAT_ROOTACT 5, 1), (GRP_STAT_OWNER 63, 6)]).modTsp 7 (fun x => { x with inbox := [.cmd (48 * 2 ^ 120 + 63 * 2 ^ 114 + 48879 * 2 ^ 88 + 1 * 2 ^ 85 + 0 * 2 ^ 80 + 0 * 2 ^ 64 + 0 * 2 ^ 48 + 0)] }); decide (((s.tsp p).inbox = .cmd v :: rest) ∧ (s.hello p = true) ∧ (s.ownsGroup p (cmdGroup v) = false))) &&
    (let p : Fin 8 := 7; let v : Nat := (1 * 2 ^ 120 + 63 * 2 ^ 114 + 48879 * 2 ^ 88 + 0 * 2 ^ 85 + 0 * 2 ^ 80 + 0 * 2 ^ 64 + 0 * 2 ^ 48 + 0); let rest : List TspItem := [.cmd 0]; let s : State := (puts (State.reset) [(TSP_STAT_LSTATE 7, 4), (TSP_STAT_HELLO 7, 1), (GRP_STAT_OWNED 63, 1), (GRP_STAT_OWNER 63, 7), (CH_GRP_MEMBER 321, 1), (CH_GRP_GROUP 321, 63), (BNK_STAT_ROOTACT 5, 1), (CH_GRP_MEMBER 321, 0)]).modTsp 7 (fun x => { x with inbox := [.cmd (1 * 2 ^ 120 + 63 * 2 ^ 114 + 48879 * 2 ^ 88 + 0 * 2 ^ 85 + 0 * 2 ^ 80 + 0 * 2 ^ 64 + 0 * 2 ^ 48 + 0), .cmd 0] }); decide (((s.tsp p).inbox = .cmd v :: rest) ∧ (s.hello p = true) ∧ (s.ownsGroup p (cmdGroup v) = true) ∧ (s.members (cmdGroup v) = []))) &&
    (let p : Fin 8 := 7; let v : Nat := (32 * 2 ^ 120 + 63 * 2 ^ 114 + 48879 * 2 ^ 88 + 1 * 2 ^ 85 + 0 * 2 ^ 80 + 0 * 2 ^ 64 + 0 * 2 ^ 48 + 0); let rest : List TspItem := []; let s : State := (puts (State.reset) [(TSP_STAT_LSTATE 7, 4), (TSP_STAT_HELLO 7, 1), (GRP_STAT_OWNED 63, 1), (GRP_STAT_OWNER 63, 7), (CH_GRP_MEMBER 321, 1), (CH_GRP_GROUP 321, 63), (BNK_STAT_ROOTACT 5, 1), (TSP_STAT_HELLO 7, 0)]).modTsp 7 (fun x => { x with inbox := [.cmd (32 * 2 ^ 120 + 63 * 2 ^ 114 + 48879 * 2 ^ 88 + 1 * 2 ^ 85 + 0 * 2 ^ 80 + 0 * 2 ^ 64 + 0 * 2 ^ 48 + 0)] }); decide (((s.tsp p).inbox = .cmd v :: rest) ∧ (s.hello p = false))) &&
    (let p : Fin 8 := 7; let v : Nat := (0 * 2 ^ 120 + 63 * 2 ^ 114 + 48879 * 2 ^ 88 + 0 * 2 ^ 85 + 0 * 2 ^ 80 + 0 * 2 ^ 64 + 0 * 2 ^ 48 + 0); let rest : List TspItem := []; let s : State := (puts (State.reset) [(TSP_STAT_LSTATE 7, 4), (TSP_STAT_HELLO 7, 1), (GRP_STAT_OWNED 63, 1), (GRP_STAT_OWNER 63, 7), (CH_GRP_MEMBER 321, 1), (CH_GRP_GROUP 321, 63), (BNK_STAT_ROOTACT 5, 1)]).modTsp 7 (fun x => { x with inbox := [.cmd (0 * 2 ^ 120 + 63 * 2 ^ 114 + 48879 * 2 ^ 88 + 0 * 2 ^ 85 + 0 * 2 ^ 80 + 0 * 2 ^ 64 + 0 * 2 ^ 48 + 0)] }); decide (((s.tsp p).inbox = .cmd v :: rest) ∧ (s.hello p = true) ∧ (cmdOp v = 0)))) = true := by decide +kernel

theorem witness_PortCommandsForRootsAndTakes :
    ((let p : Fin 8 := 7; let v : Nat := (17 * 2 ^ 120 + 63 * 2 ^ 114 + 48879 * 2 ^ 88 + 0 * 2 ^ 85 + 0 * 2 ^ 80 + 0 * 2 ^ 64 + 0 * 2 ^ 48 + 0); let rest : List TspItem := []; let s : State := (puts (State.reset) [(TSP_STAT_LSTATE 7, 4), (TSP_STAT_HELLO 7, 1), (GRP_STAT_OWNED 63, 1), (GRP_STAT_OWNER 63, 7), (CH_GRP_MEMBER 321, 1), (CH_GRP_GROUP 321, 63), (BNK_STAT_ROOTACT 5, 1), (CH_GRP_MEMBER 321, 0)]).modTsp 7 (fun x => { x with inbox := [.cmd (17 * 2 ^ 120 + 63 * 2 ^ 114 + 48879 * 2 ^ 88 + 0 * 2 ^ 85 + 0 * 2 ^ 80 + 0 * 2 ^ 64 + 0 * 2 ^ 48 + 0)] }); decide (((s.tsp p).inbox = .cmd v :: rest) ∧ (s.hello p = true) ∧ (s.ownsGroup p (cmdGroup v) = true) ∧ (s.members (cmdGroup v) = []))) &&
    (let p : Fin 8 := 7; let v : Nat := (48 * 2 ^ 120 + 63 * 2 ^ 114 + 48879 * 2 ^ 88 + 0 * 2 ^ 85 + 0 * 2 ^ 80 + 0 * 2 ^ 64 + 0 * 2 ^ 48 + 0); let rest : List TspItem := []; let s : State := (puts (State.reset) [(TSP_STAT_LSTATE 7, 4), (TSP_STAT_HELLO 7, 1), (GRP_STAT_OWNED 63, 1), (GRP_STAT_OWNER 63, 7), (CH_GRP_MEMBER 321, 1), (CH_GRP_GROUP 321, 63), (BNK_STAT_ROOTACT 5, 1), (CH_GRP_MEMBER 3, 1), (CH_GRP_GROUP 3, 63)]).modTsp 7 (fun x => { x with inbox := [.cmd (48 * 2 ^ 120 + 63 * 2 ^ 114 + 48879 * 2 ^ 88 + 0 * 2 ^ 85 + 0 * 2 ^ 80 + 0 * 2 ^ 64 + 0 * 2 ^ 48 + 0)] }); decide (((s.tsp p).inbox = .cmd v :: rest) ∧ (s.hello p = true) ∧ (s.ownsGroup p (cmdGroup v) = true) ∧ (s.members (cmdGroup v) ≠ []) ∧ (s.split (cmdGroup v) = true))) &&
    (let p : Fin 8 := 7; let v : Nat := (16 * 2 ^ 120 + 63 * 2 ^ 114 + 48879 * 2 ^ 88 + 1 * 2 ^ 85 + 0 * 2 ^ 80 + 9 * 2 ^ 64 + 0 * 2 ^ 48 + 0); let rest : List TspItem := []; let s : State := ((puts (State.reset) [(TSP_STAT_LSTATE 7, 4), (TSP_STAT_HELLO 7, 1), (GRP_STAT_OWNED 63, 1), (GRP_STAT_OWNER 63, 7), (CH_GRP_MEMBER 321, 1), (CH_GRP_GROUP 321, 63), (BNK_STAT_ROOTACT 5, 1)]).modTsp 7 (fun x => { x with inbox := [.cmd (16 * 2 ^ 120 + 63 * 2 ^ 114 + 48879 * 2 ^ 88 + 1 * 2 ^ 85 + 0 * 2 ^ 80 + 9 * 2 ^ 64 + 0 * 2 ^ 48 + 0)] })).modRoot 1 (fun x => { x with hop := none, pend := none, st := stLocked, lock := true }); decide (((s.tsp p).inbox = .cmd v :: rest) ∧ (s.hello p = true) ∧ (s.ownsGroup p (cmdGroup v) = true) ∧ (s.members (cmdGroup v) ≠ []) ∧ (s.split (cmdGroup v) = false) ∧ (cmdOp v = 0x10) ∧ (s.isLocked (s.rootOf (s.leadBank (cmdGroup v))) = true) ∧ ((s.root (s.rootOf (s.leadBank (cmdGroup v)))).hop = none) ∧ ((s.root (s.rootOf (s.leadBank (cmdGroup v)))).pend = none))) &&
    (let p : Fin 8 := 7; let v : Nat := (16 * 2 ^ 120 + 63 * 2 ^ 114 + 48879 * 2 ^ 88 + 1 * 2 ^ 85 + 0 * 2 ^ 80 + 9 * 2 ^ 64 + 0 * 2 ^ 48 + 0); let rest : List TspItem := []; let s : State := ((puts (State.reset) [(TSP_STAT_LSTATE 7, 4), (TSP_STAT_HELLO 7, 1), (GRP_STAT_OWNED 63, 1), (GRP_STAT_OWNER 63, 7), (CH_GRP_MEMBER 321, 1), (CH_GRP_GROUP 321, 63), (BNK_STAT_ROOTACT 5, 1), (SYN_STAT_STATE 1, stSearch)]).modTsp 7 (fun x => { x with inbox := [.cmd (16 * 2 ^ 120 + 63 * 2 ^ 114 + 48879 * 2 ^ 88 + 1 * 2 ^ 85 + 0 * 2 ^ 80 + 9 * 2 ^ 64 + 0 * 2 ^ 48 + 0)] })).modRoot 1 (fun x => { x with hop := none, pend := none }); decide (((s.tsp p).inbox = .cmd v :: rest) ∧ (s.hello p = true) ∧ (s.ownsGroup p (cmdGroup v) = true) ∧ (s.members (cmdGroup v) ≠ []) ∧ (s.split (cmdGroup v) = false) ∧ (cmdOp v = 0x10) ∧ (s.isLocked (s.rootOf (s.leadBank (cmdGroup v))) = false ∨ (s.root (s.rootOf (s.leadBank (cmdGroup v)))).hop ≠ none) ∧ ((s.root (s.rootOf (s.leadBank (cmdGroup v)))).pend = none))) &&
    (let p : Fin 8 := 7; let v : Nat := (17 * 2 ^ 120 + 63 * 2 ^ 114 + 48879 * 2 ^ 88 + 0 * 2 ^ 85 + 0 * 2 ^ 80 + 0 * 2 ^ 64 + 0 * 2 ^ 48 + 0); let rest : List TspItem := []; let s : State := (puts (State.reset) [(TSP_STAT_LSTATE 7, 4), (TSP_STAT_HELLO 7, 1), (GRP_STAT_OWNED 63, 1), (GRP_STAT_OWNER 63, 7), (CH_GRP_MEMBER 321, 1), (CH_GRP_GROUP 321, 63), (BNK_STAT_ROOTACT 5, 1), (SYN_RCTRL_ARM 1, 1), (SYN_RCTRL_TRIG 1, 2)]).modTsp 7 (fun x => { x with inbox := [.cmd (17 * 2 ^ 120 + 63 * 2 ^ 114 + 48879 * 2 ^ 88 + 0 * 2 ^ 85 + 0 * 2 ^ 80 + 0 * 2 ^ 64 + 0 * 2 ^ 48 + 0)] }); decide (((s.tsp p).inbox = .cmd v :: rest) ∧ (s.hello p = true) ∧ (s.ownsGroup p (cmdGroup v) = true) ∧ (s.members (cmdGroup v) ≠ []) ∧ (s.split (cmdGroup v) = false) ∧ (cmdOp v = 0x11) ∧ (s.bit (SYN_RCTRL_ARM (s.rootOf (s.leadBank (cmdGroup v)))) = false ∨ s.get (SYN_RCTRL_TRIG (s.rootOf (s.leadBank (cmdGroup v)))) ≠ 1))) &&
    (let p : Fin 8 := 7; let v : Nat := (17 * 2 ^ 120 + 63 * 2 ^ 114 + 48879 * 2 ^ 88 + 0 * 2 ^ 85 + 0 * 2 ^ 80 + 0 * 2 ^ 64 + 0 * 2 ^ 48 + 0); let rest : List TspItem := []; let s : State := (puts (State.reset) [(TSP_STAT_LSTATE 7, 4), (TSP_STAT_HELLO 7, 1), (GRP_STAT_OWNED 63, 1), (GRP_STAT_OWNER 63, 7), (CH_GRP_MEMBER 321, 1), (CH_GRP_GROUP 321, 63), (BNK_STAT_ROOTACT 5, 1), (SYN_RCTRL_ARM 1, 1), (SYN_RCTRL_TRIG 1, 1)]).modTsp 7 (fun x => { x with inbox := [.cmd (17 * 2 ^ 120 + 63 * 2 ^ 114 + 48879 * 2 ^ 88 + 0 * 2 ^ 85 + 0 * 2 ^ 80 + 0 * 2 ^ 64 + 0 * 2 ^ 48 + 0)] }); decide (((s.tsp p).inbox = .cmd v :: rest) ∧ (s.hello p = true) ∧ (s.ownsGroup p (cmdGroup v) = true) ∧ (s.members (cmdGroup v) ≠ []) ∧ (s.split (cmdGroup v) = false) ∧ (cmdOp v = 0x11) ∧ (s.bit (SYN_RCTRL_ARM (s.rootOf (s.leadBank (cmdGroup v)))) = true) ∧ (s.get (SYN_RCTRL_TRIG (s.rootOf (s.leadBank (cmdGroup v)))) = 1) ∧ (s.bit (SEQ_STAT_SUSP (s.rootOf (s.leadBank (cmdGroup v)))) = false) ∧ (s.rampWhy (s.rootOf (s.leadBank (cmdGroup v))) ≠ 0))) &&
    (let p : Fin 8 := 7; let v : Nat := (17 * 2 ^ 120 + 63 * 2 ^ 114 + 48879 * 2 ^ 88 + 0 * 2 ^ 85 + 0 * 2 ^ 80 + 0 * 2 ^ 64 + 0 * 2 ^ 48 + 0); let rest : List TspItem := []; let s : State := { ((puts (State.reset) [(TSP_STAT_LSTATE 7, 4), (TSP_STAT_HELLO 7, 1), (GRP_STAT_OWNED 63, 1), (GRP_STAT_OWNER 63, 7), (CH_GRP_MEMBER 321, 1), (CH_GRP_GROUP 321, 63), (BNK_STAT_ROOTACT 5, 1), (SYN_RCTRL_ARM 1, 1), (SYN_RCTRL_TRIG 1, 1), (SEQ_STAT_FAULT 1, 0), (SYN_REFFREQ_KHZ 1, 100000), (SYN_REF_RMUL 1, 0), (SYN_REF_PDIV 1, 0), (SYN_CTRL_ODIV 1, 2)]).modTsp 7 (fun x => { x with inbox := [.cmd (17 * 2 ^ 120 + 63 * 2 ^ 114 + 48879 * 2 ^ 88 + 0 * 2 ^ 85 + 0 * 2 ^ 80 + 0 * 2 ^ 64 + 0 * 2 ^ 48 + 0)] })).modRoot 1 (fun x => { x with st := stLocked, lock := true, rt := 0, waitOff := false, waitLoss := false, waitRamp := none, hop := none, com := { x.com with st := stLocked }, band := 32, ss := none, base := 128 * 2 ^ 40, segs := [] }) with shadow := [(192, 0x36B02EE0#32)] }; decide (((s.tsp p).inbox = .cmd v :: rest) ∧ (s.hello p = true) ∧ (s.ownsGroup p (cmdGroup v) = true) ∧ (s.members (cmdGroup v) ≠ []) ∧ (s.split (cmdGroup v) = false) ∧ (cmdOp v = 0x11) ∧ (s.bit (SYN_RCTRL_ARM (s.rootOf (s.leadBank (cmdGroup v)))) = true) ∧ (s.get (SYN_RCTRL_TRIG (s.rootOf (s.leadBank (cmdGroup v)))) = 1) ∧ (s.bit (SEQ_STAT_SUSP (s.rootOf (s.leadBank (cmdGroup v)))) = false) ∧ (s.rampWhy (s.rootOf (s.leadBank (cmdGroup v))) = 0) ∧ ((s.root (s.rootOf (s.leadBank (cmdGroup v)))).rt = 0))) &&
    (let p : Fin 8 := 7; let v : Nat := (17 * 2 ^ 120 + 63 * 2 ^ 114 + 48879 * 2 ^ 88 + 0 * 2 ^ 85 + 0 * 2 ^ 80 + 0 * 2 ^ 64 + 0 * 2 ^ 48 + 0); let rest : List TspItem := []; let s : State := { ((puts (State.reset) [(TSP_STAT_LSTATE 7, 4), (TSP_STAT_HELLO 7, 1), (GRP_STAT_OWNED 63, 1), (GRP_STAT_OWNER 63, 7), (CH_GRP_MEMBER 321, 1), (CH_GRP_GROUP 321, 63), (BNK_STAT_ROOTACT 5, 1), (SYN_RCTRL_ARM 1, 1), (SYN_RCTRL_TRIG 1, 1), (SEQ_STAT_FAULT 1, 0), (SYN_REFFREQ_KHZ 1, 100000), (SYN_REF_RMUL 1, 0), (SYN_REF_PDIV 1, 0), (SYN_CTRL_ODIV 1, 2)]).modTsp 7 (fun x => { x with inbox := [.cmd (17 * 2 ^ 120 + 63 * 2 ^ 114 + 48879 * 2 ^ 88 + 0 * 2 ^ 85 + 0 * 2 ^ 80 + 0 * 2 ^ 64 + 0 * 2 ^ 48 + 0)] })).modRoot 1 (fun x => { x with st := stLocked, lock := true, rt := 6, waitOff := false, waitLoss := false, waitRamp := none, hop := none, com := { x.com with st := stLocked }, band := 32, ss := none, base := 128 * 2 ^ 40, segs := [] }) with shadow := [(192, 0x36B02EE0#32)] }; decide (((s.tsp p).inbox = .cmd v :: rest) ∧ (s.hello p = true) ∧ (s.ownsGroup p (cmdGroup v) = true) ∧ (s.members (cmdGroup v) ≠ []) ∧ (s.split (cmdGroup v) = false) ∧ (cmdOp v = 0x11) ∧ (s.bit (SYN_RCTRL_ARM (s.rootOf (s.leadBank (cmdGroup v)))) = true) ∧ (s.get (SYN_RCTRL_TRIG (s.rootOf (s.leadBank (cmdGroup v)))) = 1) ∧ (s.bit (SEQ_STAT_SUSP (s.rootOf (s.leadBank (cmdGroup v)))) = false) ∧ (s.rampWhy (s.rootOf (s.leadBank (cmdGroup v))) = 0) ∧ ((s.root (s.rootOf (s.leadBank (cmdGroup v)))).rt ≠ 0))) &&
    (let p : Fin 8 := 7; let v : Nat := (32 * 2 ^ 120 + 63 * 2 ^ 114 + 48879 * 2 ^ 88 + 0 * 2 ^ 85 + 0 * 2 ^ 80 + 200 * 2 ^ 64 + 0 * 2 ^ 48 + 0); let rest : List TspItem := []; let s : State := { ((puts (State.reset) [(TSP_STAT_LSTATE 7, 4), (TSP_STAT_HELLO 7, 1), (GRP_STAT_OWNED 63, 1), (GRP_STAT_OWNER 63, 7), (CH_GRP_MEMBER 321, 1), (CH_GRP_GROUP 321, 63), (BNK_STAT_ROOTACT 5, 1), (CH_TAKE_JOIN 321, 1), (CH_TAKE_TAKE 321, 200)]).modTsp 7 (fun x => { x with inbox := [.cmd (32 * 2 ^ 120 + 63 * 2 ^ 114 + 48879 * 2 ^ 88 + 0 * 2 ^ 85 + 0 * 2 ^ 80 + 200 * 2 ^ 64 + 0 * 2 ^ 48 + 0)] })) with regQ := [321] }; decide (((s.tsp p).inbox = .cmd v :: rest) ∧ (s.hello p = true) ∧ (s.ownsGroup p (cmdGroup v) = true) ∧ (cmdOp v = 0x20) ∧ (cmdFlag v = false) ∧ ((s.take (cmdCtx v % 256)).waitArm = none) ∧ (s.takeBusy (cmdCtx v % 256) = false) ∧ (s.solvesQueued (cmdCtx v % 256) = true))) &&
    (let p : Fin 8 := 7; let v : Nat := (32 * 2 ^ 120 + 63 * 2 ^ 114 + 48879 * 2 ^ 88 + 0 * 2 ^ 85 + 0 * 2 ^ 80 + 200 * 2 ^ 64 + 0 * 2 ^ 48 + 0); let rest : List TspItem := []; let s : State := ((puts (State.reset) [(TSP_STAT_LSTATE 7, 4), (TSP_STAT_HELLO 7, 1), (GRP_STAT_OWNED 63, 1), (GRP_STAT_OWNER 63, 7), (CH_GRP_MEMBER 321, 1), (CH_GRP_GROUP 321, 63), (BNK_STAT_ROOTACT 5, 1)]).modTsp 7 (fun x => { x with inbox := [.cmd (32 * 2 ^ 120 + 63 * 2 ^ 114 + 48879 * 2 ^ 88 + 0 * 2 ^ 85 + 0 * 2 ^ 80 + 200 * 2 ^ 64 + 0 * 2 ^ 48 + 0)] })).modTake 200 (fun x => { x with waitArm := some ArmReq.init }); decide (((s.tsp p).inbox = .cmd v :: rest) ∧ (s.hello p = true) ∧ (s.ownsGroup p (cmdGroup v) = true) ∧ (cmdOp v = 0x20) ∧ (cmdFlag v = false) ∧ ((s.take (cmdCtx v % 256)).waitArm.isSome = true ∨ s.takeBusy (cmdCtx v % 256) = true))) &&
    (let p : Fin 8 := 7; let v : Nat := (32 * 2 ^ 120 + 63 * 2 ^ 114 + 48879 * 2 ^ 88 + 0 * 2 ^ 85 + 0 * 2 ^ 80 + 200 * 2 ^ 64 + 0 * 2 ^ 48 + 0); let rest : List TspItem := []; let s : State := (puts (State.reset) [(TSP_STAT_LSTATE 7, 4), (TSP_STAT_HELLO 7, 1), (GRP_STAT_OWNED 63, 1), (GRP_STAT_OWNER 63, 7), (CH_GRP_MEMBER 321, 1), (CH_GRP_GROUP 321, 63), (BNK_STAT_ROOTACT 5, 1), (CH_TAKE_JOIN 321, 1), (CH_TAKE_TAKE 321, 200), (TK_CFG_GRPEN 200, 1), (TK_CFG_GROUP 200, 63)]).modTsp 7 (fun x => { x with inbox := [.cmd (32 * 2 ^ 120 + 63 * 2 ^ 114 + 48879 * 2 ^ 88 + 0 * 2 ^ 85 + 0 * 2 ^ 80 + 200 * 2 ^ 64 + 0 * 2 ^ 48 + 0)] }); decide (((s.tsp p).inbox = .cmd v :: rest) ∧ (s.hello p = true) ∧ (s.ownsGroup p (cmdGroup v) = true) ∧ (cmdOp v = 0x20) ∧ (cmdFlag v = false) ∧ ((s.take (cmdCtx v % 256)).waitArm = none) ∧ (s.takeBusy (cmdCtx v % 256) = false) ∧ (s.solvesQueued (cmdCtx v % 256) = false) ∧ (s.joined (cmdCtx v % 256) ≠ []) ∧ (s.get (TK_CFG_START (cmdCtx v % 256)) ≠ 3) ∧ (s.get (TK_CFG_STOP (cmdCtx v % 256)) ≠ 2) ∧ ((s.joined (cmdCtx v % 256)).all (fun n => s.rootOf (n / 64) == s.rootOf ((s.joined (cmdCtx v % 256)).headD 0 / 64)) = true) ∧ (s.split (cmdGroup v) = false) ∧ (s.bit (TK_CFG_GRPEN (cmdCtx v % 256)) = true) ∧ (s.get (TK_CFG_GROUP (cmdCtx v % 256)) = cmdGroup v))) &&
    (let p : Fin 8 := 7; let v : Nat := (32 * 2 ^ 120 + 63 * 2 ^ 114 + 48879 * 2 ^ 88 + 1 * 2 ^ 85 + 0 * 2 ^ 80 + 200 * 2 ^ 64 + 0 * 2 ^ 48 + 500); let rest : List TspItem := []; let s : State := ((puts (State.reset) [(TSP_STAT_LSTATE 7, 4), (TSP_STAT_HELLO 7, 1), (GRP_STAT_OWNED 63, 1), (GRP_STAT_OWNER 63, 7), (CH_GRP_MEMBER 321, 1), (CH_GRP_GROUP 321, 63), (BNK_STAT_ROOTACT 5, 1), (TK_STAT_STATE 200, 1), (TK_CFG_GRPEN 200, 1), (TK_CFG_GROUP 200, 63)]).modTsp 7 (fun x => { x with inbox := [.cmd (32 * 2 ^ 120 + 63 * 2 ^ 114 + 48879 * 2 ^ 88 + 1 * 2 ^ 85 + 0 * 2 ^ 80 + 200 * 2 ^ 64 + 0 * 2 ^ 48 + 500)] })).modTake 200 (fun x => { x with cfg := 1 }); decide (((s.tsp p).inbox = .cmd v :: rest) ∧ (s.hello p = true) ∧ (s.ownsGroup p (cmdGroup v) = true) ∧ (cmdOp v = 0x20) ∧ (cmdFlag v = true) ∧ (s.members (cmdGroup v) ≠ []) ∧ (s.takeState (cmdCtx v % 256) = 1) ∧ ((s.take (cmdCtx v % 256)).start = 1) ∧ ((s.take (cmdCtx v % 256)).held = none) ∧ (((s.word (TK_CFG (cmdCtx v % 256))).toNat / 2 ^ 30 % 2 = 1 ∧ (s.word (TK_CFG (cmdCtx v % 256))).toNat / 2 ^ 24 % 64 = cmdGroup v)))) &&
    (let p : Fin 8 := 7; let v : Nat := (32 * 2 ^ 120 + 63 * 2 ^ 114 + 48879 * 2 ^ 88 + 1 * 2 ^ 85 + 0 * 2 ^ 80 + 200 * 2 ^ 64 + 0 * 2 ^ 48 + 500); let rest : List TspItem := []; let s : State := (puts (State.reset) [(TSP_STAT_LSTATE 7, 4), (TSP_STAT_HELLO 7, 1), (GRP_STAT_OWNED 63, 1), (GRP_STAT_OWNER 63, 7), (CH_GRP_MEMBER 321, 1), (CH_GRP_GROUP 321, 63), (BNK_STAT_ROOTACT 5, 1), (TK_STAT_STATE 200, 4), (TK_CFG_GRPEN 200, 1), (TK_CFG_GROUP 200, 63)]).modTsp 7 (fun x => { x with inbox := [.cmd (32 * 2 ^ 120 + 63 * 2 ^ 114 + 48879 * 2 ^ 88 + 1 * 2 ^ 85 + 0 * 2 ^ 80 + 200 * 2 ^ 64 + 0 * 2 ^ 48 + 500)] }); decide (((s.tsp p).inbox = .cmd v :: rest) ∧ (s.hello p = true) ∧ (s.ownsGroup p (cmdGroup v) = true) ∧ (cmdOp v = 0x20) ∧ (cmdFlag v = true) ∧ (¬ ((s.word (TK_CFG (cmdCtx v % 256))).toNat / 2 ^ 30 % 2 = 1 ∧ (s.word (TK_CFG (cmdCtx v % 256))).toNat / 2 ^ 24 % 64 = cmdGroup v) ∨ s.members (cmdGroup v) = [] ∨ ¬(s.takeState (cmdCtx v % 256) = 1 ∨ s.takeState (cmdCtx v % 256) = 2) ∨ (s.take (cmdCtx v % 256)).start ≠ 1 ∨ (s.take (cmdCtx v % 256)).held ≠ none))) &&
    (let p : Fin 8 := 7; let v : Nat := (48 * 2 ^ 120 + 63 * 2 ^ 114 + 48879 * 2 ^ 88 + 0 * 2 ^ 85 + 0 * 2 ^ 80 + 0 * 2 ^ 64 + 0 * 2 ^ 48 + 8192); let rest : List TspItem := []; let s : State := ((puts (State.reset) [(TSP_STAT_LSTATE 7, 4), (TSP_STAT_HELLO 7, 1), (GRP_STAT_OWNED 63, 1), (GRP_STAT_OWNER 63, 7), (CH_GRP_MEMBER 321, 1), (CH_GRP_GROUP 321, 63), (BNK_STAT_ROOTACT 5, 1), (PRL_MAP_PRESENT, 0), (PRL_CLAPLEAD_CYC, 0)]).modTsp 7 (fun x => { x with inbox := [.cmd (48 * 2 ^ 120 + 63 * 2 ^ 114 + 48879 * 2 ^ 88 + 0 * 2 ^ 85 + 0 * 2 ^ 80 + 0 * 2 ^ 64 + 0 * 2 ^ 48 + 8192)] })).modRoot 1 (fun x => { x with tb := 0 }); decide (((s.tsp p).inbox = .cmd v :: rest) ∧ (s.hello p = true) ∧ (s.ownsGroup p (cmdGroup v) = true) ∧ (s.members (cmdGroup v) ≠ []) ∧ (s.split (cmdGroup v) = false) ∧ (cmdOp v = 0x30) ∧ (((s.root (s.rootOf (s.leadBank (cmdGroup v)))).tb : Int) + max 8192 (s.get PRL_CLAPLEAD_CYC) ≤ nearCount (s.root (s.rootOf (s.leadBank (cmdGroup v)))).tb (cmdCyc v)))) &&
    (let p : Fin 8 := 7; let v : Nat := (48 * 2 ^ 120 + 63 * 2 ^ 114 + 48879 * 2 ^ 88 + 0 * 2 ^ 85 + 0 * 2 ^ 80 + 0 * 2 ^ 64 + 0 * 2 ^ 48 + 8191); let rest : List TspItem := []; let s : State := ((puts (State.reset) [(TSP_STAT_LSTATE 7, 4), (TSP_STAT_HELLO 7, 1), (GRP_STAT_OWNED 63, 1), (GRP_STAT_OWNER 63, 7), (CH_GRP_MEMBER 321, 1), (CH_GRP_GROUP 321, 63), (BNK_STAT_ROOTACT 5, 1), (PRL_CLAPLEAD_CYC, 0)]).modTsp 7 (fun x => { x with inbox := [.cmd (48 * 2 ^ 120 + 63 * 2 ^ 114 + 48879 * 2 ^ 88 + 0 * 2 ^ 85 + 0 * 2 ^ 80 + 0 * 2 ^ 64 + 0 * 2 ^ 48 + 8191)] })).modRoot 1 (fun x => { x with tb := 0 }); decide (((s.tsp p).inbox = .cmd v :: rest) ∧ (s.hello p = true) ∧ (s.ownsGroup p (cmdGroup v) = true) ∧ (s.members (cmdGroup v) ≠ []) ∧ (s.split (cmdGroup v) = false) ∧ (cmdOp v = 0x30) ∧ (nearCount (s.root (s.rootOf (s.leadBank (cmdGroup v)))).tb (cmdCyc v) < ((s.root (s.rootOf (s.leadBank (cmdGroup v)))).tb : Int) + max 8192 (s.get PRL_CLAPLEAD_CYC))))) = true := by decide +kernel

theorem witness_AttachClaimReleaseDetach :
    ((let p : Fin 8 := 7; let v : Nat := (1 * 2 ^ 120 + 2 * 2 ^ 32); let rest : List TspItem := [.ctrl (1 * 2 ^ 120 + 1 * 2 ^ 32 + 0xCAFE)]; let s : State := (puts (State.reset) [(TSP_STAT_LSTATE 7, 4), (TSP_STAT_HELLO 7, 1), (GRP_STAT_OWNED 63, 1), (GRP_STAT_OWNER 63, 7), (CH_GRP_MEMBER 321, 1), (CH_GRP_GROUP 321, 63), (BNK_STAT_ROOTACT 5, 1)]).modTsp 7 (fun x => { x with inbox := [.ctrl (1 * 2 ^ 120 + 2 * 2 ^ 32), .ctrl (1 * 2 ^ 120 + 1 * 2 ^ 32 + 0xCAFE)] }); decide (((s.tsp p).inbox = .ctrl v :: rest) ∧ (cmdOp v = 1) ∧ (s.lstate p = 4) ∧ (v / 2 ^ 32 % 16 ≠ 1))) &&
    (let p : Fin 8 := 7; let v : Nat := (1 * 2 ^ 120 + 1 * 2 ^ 32 + 0xCAFE); let rest : List TspItem := []; let s : State := (puts (State.reset) [(TSP_STAT_LSTATE 7, 4), (TSP_STAT_HELLO 7, 1), (GRP_STAT_OWNED 63, 1), (GRP_STAT_OWNER 63, 7), (CH_GRP_MEMBER 321, 1), (CH_GRP_GROUP 321, 63), (BNK_STAT_ROOTACT 5, 1), (TSP_STAT_HELLO 7, 0), (TSP_STAT_LSTATE 7, 1)]).modTsp 7 (fun x => { x with inbox := [.ctrl (1 * 2 ^ 120 + 1 * 2 ^ 32 + 0xCAFE)] }); decide (((s.tsp p).inbox = .ctrl v :: rest) ∧ (cmdOp v = 1) ∧ (s.lstate p ≠ 4))) &&
    (let p : Fin 8 := 7; let v : Nat := (1 * 2 ^ 120 + 1 * 2 ^ 32 + 0xCAFE); let rest : List TspItem := []; let s : State := (puts (State.reset) [(TSP_STAT_LSTATE 7, 4), (TSP_STAT_HELLO 7, 1), (GRP_STAT_OWNED 63, 1), (GRP_STAT_OWNER 63, 7), (CH_GRP_MEMBER 321, 1), (CH_GRP_GROUP 321, 63), (BNK_STAT_ROOTACT 5, 1), (TSP_STAT_HELLO 7, 1)]).modTsp 7 (fun x => { x with sinceStatus := 5, inbox := [.ctrl (1 * 2 ^ 120 + 1 * 2 ^ 32 + 0xCAFE)] }); decide (((s.tsp p).inbox = .ctrl v :: rest) ∧ (cmdOp v = 1) ∧ (s.lstate p = 4) ∧ (v / 2 ^ 32 % 16 = 1))) &&
    (let p : Fin 8 := 7; let v : Nat := (2 * 2 ^ 120 + (0x80 + 63) * 2 ^ 0 + (0x80 + 4) * 2 ^ 8 + (0x80 + 5) * 2 ^ 16 + (0x80 + 4) * 2 ^ 24); let rest : List TspItem := []; let s : State := (puts (State.reset) [(TSP_STAT_LSTATE 7, 4), (TSP_STAT_HELLO 7, 1), (GRP_STAT_OWNED 63, 1), (GRP_STAT_OWNER 63, 7), (CH_GRP_MEMBER 321, 1), (CH_GRP_GROUP 321, 63), (BNK_STAT_ROOTACT 5, 1)]).modTsp 7 (fun x => { x with inbox := [.ctrl (2 * 2 ^ 120 + (0x80 + 63) * 2 ^ 0 + (0x80 + 4) * 2 ^ 8 + (0x80 + 5) * 2 ^ 16 + (0x80 + 4) * 2 ^ 24)] }); decide (((s.tsp p).inbox = .ctrl v :: rest) ∧ (s.lstate p = 4 ∨ s.lstate p = 5) ∧ (cmdOp v = 2))) &&
    (let p : Fin 8 := 7; let v : Nat := (3 * 2 ^ 120 + (0x80 + 63) * 2 ^ 0 + (0x80 + 4) * 2 ^ 8 + (0x80 + 5) * 2 ^ 16 + (0x80 + 63) * 2 ^ 24); let rest : List TspItem := []; let s : State := (puts (State.reset) [(TSP_STAT_LSTATE 7, 4), (TSP_STAT_HELLO 7, 1), (GRP_STAT_OWNED 63, 1), (GRP_STAT_OWNER 63, 7), (CH_GRP_MEMBER 321, 1), (CH_GRP_GROUP 321, 63), (BNK_STAT_ROOTACT 5, 1)]).modTsp 7 (fun x => { x with inbox := [.ctrl (3 * 2 ^ 120 + (0x80 + 63) * 2 ^ 0 + (0x80 + 4) * 2 ^ 8 + (0x80 + 5) * 2 ^ 16 + (0x80 + 63) * 2 ^ 24)] }); decide (((s.tsp p).inbox = .ctrl v :: rest) ∧ (s.lstate p = 4 ∨ s.lstate p = 5) ∧ (cmdOp v = 3))) &&
    (let p : Fin 8 := 7; let v : Nat := (2 * 2 ^ 120 + (0x80 + 63)); let rest : List TspItem := []; let s : State := (puts (State.reset) [(TSP_STAT_LSTATE 7, 4), (TSP_STAT_HELLO 7, 1), (GRP_STAT_OWNED 63, 1), (GRP_STAT_OWNER 63, 7), (CH_GRP_MEMBER 321, 1), (CH_GRP_GROUP 321, 63), (BNK_STAT_ROOTACT 5, 1), (GRP_STAT_OWNED 63, 0), (TSP_GRPMASKHI_MASK 7, 0xFFFFFFFF), (GRP_STAT_RUN 63, 0)]).modTsp 7 (fun x => { x with inbox := [.ctrl (2 * 2 ^ 120 + (0x80 + 63))] }); let g : Fin 64 := 63; decide (((s.tsp p).inbox = .ctrl v :: rest) ∧ (s.lstate p = 4 ∨ s.lstate p = 5) ∧ (cmdOp v = 2) ∧ (namedGroups v = [g.val]) ∧ (s.hello p = true) ∧ (s.claimCode p g = Code.OK) ∧ (s.bit (GRP_STAT_OWNED g) = false))) &&
    (let p : Fin 8 := 7; let v : Nat := (2 * 2 ^ 120 + (0x80 + 63)); let rest : List TspItem := []; let s : State := (puts (State.reset) [(TSP_STAT_LSTATE 7, 4), (TSP_STAT_HELLO 7, 1), (GRP_STAT_OWNED 63, 1), (GRP_STAT_OWNER 63, 7), (CH_GRP_MEMBER 321, 1), (CH_GRP_GROUP 321, 63), (BNK_STAT_ROOTACT 5, 1), (GRP_STAT_OWNER 63, 2), (TSP_GRPMASKHI_MASK 7, 0xFFFFFFFF)]).modTsp 7 (fun x => { x with inbox := [.ctrl (2 * 2 ^ 120 + (0x80 + 63))] }); let g : Fin 64 := 63; decide (((s.tsp p).inbox = .ctrl v :: rest) ∧ (s.lstate p = 4 ∨ s.lstate p = 5) ∧ (cmdOp v = 2) ∧ (namedGroups v = [g.val]) ∧ (s.hello p = true) ∧ (s.claimCode p g ≠ Code.OK ∨ s.bit (GRP_STAT_OWNED g) = true))) &&
    (let p : Fin 8 := 7; let v : Nat := (3 * 2 ^ 120 + (0x80 + 63)); let rest : List TspItem := []; let s : State := (puts (State.reset) [(TSP_STAT_LSTATE 7, 4), (TSP_STAT_HELLO 7, 1), (GRP_STAT_OWNED 63, 1), (GRP_STAT_OWNER 63, 7), (CH_GRP_MEMBER 321, 1), (CH_GRP_GROUP 321, 63), (BNK_STAT_ROOTACT 5, 1), (GRP_STAT_RUN 63, 0)]).modTsp 7 (fun x => { x with inbox := [.ctrl (3 * 2 ^ 120 + (0x80 + 63))] }); let g : Fin 64 := 63; decide (((s.tsp p).inbox = .ctrl v :: rest) ∧ (s.lstate p = 4 ∨ s.lstate p = 5) ∧ (cmdOp v = 3) ∧ (namedGroups v = [g.val]) ∧ (s.hello p = true) ∧ (s.ownsGroup p g = true) ∧ (s.running g = false))) &&
    (let p : Fin 8 := 7; let v : Nat := (3 * 2 ^ 120 + (0x80 + 63)); let rest : List TspItem := []; let s : State := (puts (State.reset) [(TSP_STAT_LSTATE 7, 4), (TSP_STAT_HELLO 7, 1), (GRP_STAT_OWNED 63, 1), (GRP_STAT_OWNER 63, 7), (CH_GRP_MEMBER 321, 1), (CH_GRP_GROUP 321, 63), (BNK_STAT_ROOTACT 5, 1), (GRP_STAT_RUN 63, 1)]).modTsp 7 (fun x => { x with inbox := [.ctrl (3 * 2 ^ 120 + (0x80 + 63))] }); let g : Fin 64 := 63; decide (((s.tsp p).inbox = .ctrl v :: rest) ∧ (s.lstate p = 4 ∨ s.lstate p = 5) ∧ (cmdOp v = 3) ∧ (namedGroups v = [g.val]) ∧ (s.hello p = true) ∧ (s.ownsGroup p g = false ∨ s.running g = true))) &&
    (let p : Fin 8 := 7; let v : Nat := (4 * 2 ^ 120); let rest : List TspItem := []; let s : State := ((puts (State.reset) [(TSP_STAT_LSTATE 7, 4), (TSP_STAT_HELLO 7, 1), (GRP_STAT_OWNED 63, 1), (GRP_STAT_OWNER 63, 7), (CH_GRP_MEMBER 321, 1), (CH_GRP_GROUP 321, 63), (BNK_STAT_ROOTACT 5, 1), (GRP_STAT_RUN 63, 0)]).modTsp 7 (fun x => { x with inbox := [.ctrl (4 * 2 ^ 120)] })).modRoot 2 (fun x => { x with pend := some ⟨3, true, .port 7 5 6, none⟩ }); decide (((s.tsp p).inbox = .ctrl v :: rest) ∧ (cmdOp v = 4) ∧ (s.hello p = true))) &&
    (let p : Fin 8 := 7; let v : Nat := (4 * 2 ^ 120); let rest : List TspItem := []; let s : State := (puts (State.reset) [(TSP_STAT_LSTATE 7, 4), (TSP_STAT_HELLO 7, 1), (GRP_STAT_OWNED 63, 1), (GRP_STAT_OWNER 63, 7), (CH_GRP_MEMBER 321, 1), (CH_GRP_GROUP 321, 63), (BNK_STAT_ROOTACT 5, 1), (TSP_STAT_HELLO 7, 0)]).modTsp 7 (fun x => { x with inbox := [.ctrl (4 * 2 ^ 120)] }); decide (((s.tsp p).inbox = .ctrl v :: rest) ∧ (cmdOp v = 4) ∧ (s.hello p = false))) &&
    (let src : Source := .host; let p : Fin 8 := 7; let w : Word := 3#32; let s : State := (puts ((puts State.reset [(SEC_BOOTSTAT_STAGE, 9), (SEC_LCSTATE_LC, 2)])) [(TSP_CTRL_EN 7, 1), (TSP_STAT_LSTATE 7, 5), (TSP_STAT_HELLO 7, 1), (GRP_STAT_OWNED 63, 1), (GRP_STAT_OWNER 63, 7), (CH_GRP_MEMBER 321, 1), (CH_GRP_GROUP 321, 63), (BNK_STAT_ROOTACT 5, 1), (GRP_STAT_RUN 63, 1)]).modTsp 7 (fun x => { x with results := [] }); decide ((s.rowServed src (TSP_CTRL p) true = true) ∧ (wbit w 0 = true) ∧ (wbit w 1 = true) ∧ (wbit w 2 = false) ∧ (s.bit (TSP_CTRL_EN p) = true) ∧ (s.hello p = true))) &&
    (let src : Source := .host; let p : Fin 8 := 7; let w : Word := 3#32; let s : State := puts ((puts State.reset [(SEC_BOOTSTAT_STAGE, 9), (SEC_LCSTATE_LC, 2)])) [(TSP_CTRL_EN 7, 1), (TSP_STAT_HELLO 7, 0)]; decide ((s.rowServed src (TSP_CTRL p) true = true) ∧ (wbit w 0 = true) ∧ (wbit w 1 = true) ∧ (wbit w 2 = false) ∧ (s.bit (TSP_CTRL_EN p) = true) ∧ (s.hello p = false)))) = true := by decide +kernel

theorem witness_FramesOfASelectPort :
    ((let p : Fin 8 := 7; let f : BitVec 2048 := 1#2048; let invalid : Bool := false; let s : State := puts (State.reset) [(TSP_STAT_LSTATE 7, 5)]; decide ((s.lstate p ≠ 4))) &&
    (let p : Fin 8 := 7; let f : BitVec 2048 := 1#2048; let invalid : Bool := false; let s : State := puts (State.reset) [(TSP_STAT_LSTATE 7, 4)]; decide ((s.lstate p = 4) ∧ (invalid = true ∨ frameOk f.toNat = false))) &&
    (let p : Fin 8 := 7; let f : BitVec 2048 := (BitVec.ofNat 2048 (ofLe (frameBytes 0 3 []))); let s : State := puts (State.reset) [(TSP_STAT_LSTATE 7, 4)]; decide ((s.lstate p = 4) ∧ (frameOk f.toNat = true) ∧ (f.toNat / 2 ^ 28 % 16 = 0))) &&
    (let p : Fin 8 := 7; let f : BitVec 2048 := (BitVec.ofNat 2048 (ofLe (frameBytes 2 0 [(1 * 2 ^ 120 + 63 * 2 ^ 114 + 48879 * 2 ^ 88 + 0 * 2 ^ 85 + 0 * 2 ^ 80 + 0 * 2 ^ 64 + 0 * 2 ^ 48 + 0), (2 * 2 ^ 120 + 63 * 2 ^ 114 + 48879 * 2 ^ 88 + 0 * 2 ^ 85 + 0 * 2 ^ 80 + 0 * 2 ^ 64 + 0 * 2 ^ 48 + 0)]))); let s : State := (puts (State.reset) [(TSP_STAT_LSTATE 7, 4)]).modTsp 7 (fun x => { x with rxLast := some 255 }); decide ((s.lstate p = 4) ∧ (frameOk f.toNat = true) ∧ (f.toNat / 2 ^ 28 % 16 ≠ 0) ∧ ((f.toNat / 2 ^ 12 % 256) = ((s.tsp p).rxLast.elim 0 (fun l => (l + 1) % 256))))) &&
    (let p : Fin 8 := 7; let f : BitVec 2048 := (BitVec.ofNat 2048 (ofLe (frameBytes 1 5 []))); let s : State := (puts (State.reset) [(TSP_STAT_LSTATE 7, 4)]).modTsp 7 (fun x => { x with rxLast := none }); decide ((s.lstate p = 4) ∧ (frameOk f.toNat = true) ∧ (f.toNat / 2 ^ 28 % 16 ≠ 0) ∧ ((f.toNat / 2 ^ 12 % 256) ≠ ((s.tsp p).rxLast.elim 0 (fun l => (l + 1) % 256))))) &&
    (let p : Fin 8 := 7; let f : BitVec 2048 := (BitVec.ofNat 2048 (ofLe (frameBytes 2 0 [(1 * 2 ^ 120 + 63 * 2 ^ 114 + 48879 * 2 ^ 88 + 0 * 2 ^ 85 + 0 * 2 ^ 80 + 0 * 2 ^ 64 + 0 * 2 ^ 48 + 0), (2 * 2 ^ 120 + 63 * 2 ^ 114 + 48879 * 2 ^ 88 + 0 * 2 ^ 85 + 0 * 2 ^ 80 + 0 * 2 ^ 64 + 0 * 2 ^ 48 + 0)]))); let s : State := (puts (State.reset) [(TSP_STAT_LSTATE 7, 4)]).modTsp 7 (fun x => { x with rxLast := some 255 }); decide ((s.lstate p = 4) ∧ (frameOk f.toNat = true) ∧ (f.toNat / 2 ^ 28 % 16 = 2 ∨ f.toNat / 2 ^ 28 % 16 = 3) ∧ ((f.toNat / 2 ^ 12 % 256) = ((s.tsp p).rxLast.elim 0 (fun l => (l + 1) % 256))) ∧ (((s.tsp p).inbox ++ ((List.range (min 15 (f.toNat % 128))).map (fun i => if f.toNat / 2 ^ 28 % 16 = 2 then TspItem.cmd (frameItem f.toNat i) else .ctrl (frameItem f.toNat i)))).head?.all TspItem.hasRow = true))) &&
    (let p : Fin 8 := 7; let f : BitVec 2048 := (BitVec.ofNat 2048 (ofLe (frameBytes 2 0 [(9 * 2 ^ 120 + 63 * 2 ^ 114 + 48879 * 2 ^ 88 + 0 * 2 ^ 85 + 0 * 2 ^ 80 + 0 * 2 ^ 64 + 0 * 2 ^ 48 + 0)]))); let s : State := (puts (State.reset) [(TSP_STAT_LSTATE 7, 4), (TSP_STAT_HELLO 7, 1), (GRP_STAT_OWNED 63, 1), (GRP_STAT_OWNER 63, 7), (CH_GRP_MEMBER 321, 1), (CH_GRP_GROUP 321, 63), (BNK_STAT_ROOTACT 5, 1)]).modTsp 7 (fun x => { x with rxLast := some 255 }); decide ((s.lstate p = 4) ∧ (frameOk f.toNat = true) ∧ (f.toNat / 2 ^ 28 % 16 = 2) ∧ (s.hello p = true) ∧ ((s.tsp p).inbox = []) ∧ (f.toNat % 128 = 1) ∧ (knownOp (cmdOp (frameItem f.toNat 0)) = false) ∧ ((f.toNat / 2 ^ 12 % 256) = ((s.tsp p).rxLast.elim 0 (fun l => (l + 1) % 256))))) &&
    (let p : Fin 8 := 7; let f : BitVec 2048 := (BitVec.ofNat 2048 (ofLe (frameBytes 1 5 []))); let s : State := (puts (State.reset) [(TSP_STAT_LSTATE 7, 4)]).modTsp 7 (fun x => { x with rxLast := none }); decide ((s.lstate p = 4) ∧ (frameOk f.toNat = true) ∧ (f.toNat / 2 ^ 28 % 16 = 1) ∧ (s.ownsGroup p (f.toNat / 2 ^ 20 % 64) = true ∨ s.claimWaits p (f.toNat / 2 ^ 20 % 64) = false))) &&
    (let p : Fin 8 := 7; let f : BitVec 2048 := (BitVec.ofNat 2048 (ofLe (frameBytes 1 5 []))); let s : State := (puts (State.reset) [(TSP_STAT_LSTATE 7, 4), (GRP_STAT_OWNED 0, 0)]).modTsp 7 (fun x => { x with rxLast := some 4, inbox := [.ctrl (2 * 2 ^ 120 + 0x80)] }); decide ((s.lstate p = 4) ∧ (frameOk f.toNat = true) ∧ (f.toNat / 2 ^ 28 % 16 = 1) ∧ (s.ownsGroup p (f.toNat / 2 ^ 20 % 64) = false) ∧ (s.claimWaits p (f.toNat / 2 ^ 20 % 64) = true))) &&
    (let p : Fin 8 := 7; let f : BitVec 2048 := (BitVec.ofNat 2048 (ofLe (frameBytes 5 0 []))); let s : State := (puts (State.reset) [(TSP_STAT_LSTATE 7, 4)]).modTsp 7 (fun x => { x with rxLast := some 255 }); decide ((s.lstate p = 4) ∧ (frameOk f.toNat = true) ∧ (3 < f.toNat / 2 ^ 28 % 16) ∧ ((f.toNat / 2 ^ 12 % 256) = ((s.tsp p).rxLast.elim 0 (fun l => (l + 1) % 256))))) &&
    (let p : Fin 8 := 7; let f : Nat := 63 * 2 ^ 20; let stamp : Nat := 9; let rest : List TspItem := []; let s : State := (puts (State.reset) [(TSP_STAT_LSTATE 7, 4), (TSP_STAT_HELLO 7, 1), (GRP_STAT_OWNED 63, 1), (GRP_STAT_OWNER 63, 7), (CH_GRP_MEMBER 321, 1), (CH_GRP_GROUP 321, 63), (BNK_STAT_ROOTACT 5, 1), (GRP_STAT_OWNER 63, 1)]).modTsp 7 (fun x => { x with inbox := [.select (63 * 2 ^ 20) 9] }); decide (((s.tsp p).inbox = .select f stamp :: rest) ∧ (s.hello p = false ∨ s.ownsGroup p (f / 2 ^ 20 % 64) = false))) &&
    (let p : Fin 8 := 7; let f : Nat := (31 * 2048 * 2 ^ 96 + 500 * 2 ^ 32 + 63 * 2 ^ 20 + 1); let stamp : Nat := 9; let rest : List TspItem := []; let s : State := (puts (State.reset) [(TSP_STAT_LSTATE 7, 4), (TSP_STAT_HELLO 7, 1), (GRP_STAT_OWNED 63, 1), (GRP_STAT_OWNER 63, 7), (CH_GRP_MEMBER 321, 1), (CH_GRP_GROUP 321, 63), (BNK_STAT_ROOTACT 5, 1), (CH_GRP_MEMBER 3, 1), (CH_GRP_GROUP 3, 63)]).modTsp 7 (fun x => { x with inbox := [.select (31 * 2048 * 2 ^ 96 + 500 * 2 ^ 32 + 63 * 2 ^ 20 + 1) 9] }); decide (((s.tsp p).inbox = .select f stamp :: rest) ∧ (s.hello p = true) ∧ (s.ownsGroup p (f / 2 ^ 20 % 64) = true) ∧ (s.split (f / 2 ^ 20 % 64) = true))) &&
    (let p : Fin 8 := 7; let f : Nat := (31 * 2048 * 2 ^ 96 + 500 * 2 ^ 32 + 63 * 2 ^ 20 + 1); let stamp : Nat := 9; let slot : Nat := 31; let run : Nat := 2048; let rest : List TspItem := []; let s : State := ((puts (State.reset) [(TSP_STAT_LSTATE 7, 4), (TSP_STAT_HELLO 7, 1), (GRP_STAT_OWNED 63, 1), (GRP_STAT_OWNER 63, 7), (CH_GRP_MEMBER 321, 1), (CH_GRP_GROUP 321, 63), (BNK_STAT_ROOTACT 5, 1), (GRP_STAT_RUN 63, 1)]).modTsp 7 (fun x => { x with inbox := [.select (31 * 2048 * 2 ^ 96 + 500 * 2 ^ 32 + 63 * 2 ^ 20 + 1) 9] })).modGroup 63 (fun x => { x with next := 490, buf := [] }) |>.modCyc 321 (fun c => { c with on := true, k := 510 }); decide (((s.tsp p).inbox = .select f stamp :: rest) ∧ (s.hello p = true) ∧ (s.ownsGroup p (f / 2 ^ 20 % 64) = true) ∧ (s.split (f / 2 ^ 20 % 64) = false) ∧ (selectEntries f = [(slot, run)]) ∧ ((s.group (f / 2 ^ 20 % 64)).next ≤ (f / 2 ^ 32 % 2 ^ 48)) ∧ (0 < run) ∧ (s.selFill (f / 2 ^ 20 % 64) < 4096))) &&
    (let p : Fin 8 := 7; let f : Nat := (31 * 2048 * 2 ^ 96 + 500 * 2 ^ 32 + 63 * 2 ^ 20 + 1); let stamp : Nat := 9; let slot : Nat := 31; let run : Nat := 2048; let rest : List TspItem := []; let s : State := ((puts (State.reset) [(TSP_STAT_LSTATE 7, 4), (TSP_STAT_HELLO 7, 1), (GRP_STAT_OWNED 63, 1), (GRP_STAT_OWNER 63, 7), (CH_GRP_MEMBER 321, 1), (CH_GRP_GROUP 321, 63), (BNK_STAT_ROOTACT 5, 1)]).modTsp 7 (fun x => { x with inbox := [.select (31 * 2048 * 2 ^ 96 + 500 * 2 ^ 32 + 63 * 2 ^ 20 + 1) 9] })).modGroup 63 (fun x => { x with next := 2548, buf := [] }); decide (((s.tsp p).inbox = .select f stamp :: rest) ∧ (s.hello p = true) ∧ (s.ownsGroup p (f / 2 ^ 20 % 64) = true) ∧ (s.split (f / 2 ^ 20 % 64) = false) ∧ (selectEntries f = [(slot, run)]) ∧ ((f / 2 ^ 32 % 2 ^ 48) + run ≤ (s.group (f / 2 ^ 20 % 64)).next))) &&
    (let p : Fin 8 := 7; let f : Nat := (31 * 2048 * 2 ^ 96 + 500 * 2 ^ 32 + 63 * 2 ^ 20 + 1); let stamp : Nat := 9; let slot : Nat := 31; let run : Nat := 2048; let rest : List TspItem := []; let s : State := ((puts (State.reset) [(TSP_STAT_LSTATE 7, 4), (TSP_STAT_HELLO 7, 1), (GRP_STAT_OWNED 63, 1), (GRP_STAT_OWNER 63, 7), (CH_GRP_MEMBER 321, 1), (CH_GRP_GROUP 321, 63), (BNK_STAT_ROOTACT 5, 1)]).modTsp 7 (fun x => { x with inbox := [.select (31 * 2048 * 2 ^ 96 + 500 * 2 ^ 32 + 63 * 2 ^ 20 + 1) 9] })).modGroup 63 (fun x => { x with next := 2547, buf := [] }); decide (((s.tsp p).inbox = .select f stamp :: rest) ∧ (s.hello p = true) ∧ (s.ownsGroup p (f / 2 ^ 20 % 64) = true) ∧ (s.split (f / 2 ^ 20 % 64) = false) ∧ (selectEntries f = [(slot, run)]) ∧ ((f / 2 ^ 32 % 2 ^ 48) < (s.group (f / 2 ^ 20 % 64)).next) ∧ ((s.group (f / 2 ^ 20 % 64)).next < (f / 2 ^ 32 % 2 ^ 48) + run) ∧ (s.selFill (f / 2 ^ 20 % 64) < 4096))) &&
    (let p : Fin 8 := 7; let f : Nat := (31 * 2048 * 2 ^ 96 + 500 * 2 ^ 32 + 63 * 2 ^ 20 + 1); let stamp : Nat := 9; let slot : Nat := 31; let run : Nat := 2048; let rest : List TspItem := []; let s : State := ((puts (State.reset) [(TSP_STAT_LSTATE 7, 4), (TSP_STAT_HELLO 7, 1), (GRP_STAT_OWNED 63, 1), (GRP_STAT_OWNER 63, 7), (CH_GRP_MEMBER 321, 1), (CH_GRP_GROUP 321, 63), (BNK_STAT_ROOTACT 5, 1)]).modTsp 7 (fun x => { x with inbox := [.select (31 * 2048 * 2 ^ 96 + 500 * 2 ^ 32 + 63 * 2 ^ 20 + 1) 9] })).modGroup 63 (fun x => { x with next := 500, buf := List.replicate 4096 ⟨1, 600, 700, 9⟩ }); decide (((s.tsp p).inbox = .select f stamp :: rest) ∧ (s.hello p = true) ∧ (s.ownsGroup p (f / 2 ^ 20 % 64) = true) ∧ (s.split (f / 2 ^ 20 % 64) = false) ∧ (selectEntries f = [(slot, run)]) ∧ ((s.group (f / 2 ^ 20 % 64)).next = (f / 2 ^ 32 % 2 ^ 48)) ∧ (0 < run) ∧ (4096 ≤ s.selFill (f / 2 ^ 20 % 64)))) &&
    (let p : Fin 8 := 7; let s : State := (puts (State.reset) [(TSP_STAT_LSTATE 7, 4), (TSP_STAT_HELLO 7, 1), (GRP_STAT_OWNED 63, 1), (GRP_STAT_OWNER 63, 7), (CH_GRP_MEMBER 321, 1), (CH_GRP_GROUP 321, 63), (BNK_STAT_ROOTACT 5, 1)]).modTsp 7 (fun x => { x with replies := List.replicate 16 5, txNext := 255 }); decide ((s.lstate p = 4) ∧ ((s.tsp p).replies ≠ []) ∧ ((s.tsp p).sinceSkp + 1 < 23))) &&
    (let p : Fin 8 := 7; let s : State := (puts (State.reset) [(TSP_STAT_LSTATE 7, 4), (TSP_STAT_HELLO 7, 1), (GRP_STAT_OWNED 63, 1), (GRP_STAT_OWNER 63, 7), (CH_GRP_MEMBER 321, 1), (CH_GRP_GROUP 321, 63), (BNK_STAT_ROOTACT 5, 1)]).modTsp 7 (fun x => { x with results := List.replicate 16 5, txNext := 255 }); decide ((s.lstate p = 4) ∧ ((s.tsp p).replies = []) ∧ (s.statusDue p = false) ∧ ((s.tsp p).results ≠ []) ∧ ((s.tsp p).sinceSkp + 1 < 23))) &&
    (let p : Fin 8 := 7; let s : State := (puts (State.reset) [(TSP_STAT_LSTATE 7, 4), (TSP_STAT_HELLO 7, 1), (GRP_STAT_OWNED 63, 1), (GRP_STAT_OWNER 63, 7), (CH_GRP_MEMBER 321, 1), (CH_GRP_GROUP 321, 63), (BNK_STAT_ROOTACT 5, 1)]).modTsp 7 (fun x => { x with txNext := 0, txAny := true, sinceSkp := 22 }); decide ((s.lstate p = 4) ∧ ((s.tsp p).replies = []) ∧ (s.statusDue p = false) ∧ ((s.tsp p).results = []) ∧ ((s.tsp p).txAny = true) ∧ (22 ≤ (s.tsp p).sinceSkp)))) = true := by decide +kernel

theorem witness_MailboxInformationAndContexts :
    ((let f : Fin 64 := 63; let c : Nat := 5; let a : List Cmd := [(⟨4, 8, 0x0200, .started, 0, 0, 0, false, false, 0, false, false, 0, 0, none⟩ : Cmd)]; let b : List Cmd := [(⟨6, 10, 0x0110, .waiting, 0, 0, 0, false, false, 0, false, false, 0, 0, none⟩ : Cmd)]; let k : Cmd := (⟨5, 9, (0), .running, 0, 0, 0, false, false, 0, false, false, 0, 0, none⟩ : Cmd); let s : State := ((puts (State.reset) []).modFlow 63 (fun x => { x with cmds := [(⟨4, 8, 0x0200, .started, 0, 0, 0, false, false, 0, false, false, 0, 0, none⟩ : Cmd), (⟨5, 9, (0), .running, 0, 0, 0, false, false, 0, false, false, 0, 0, none⟩ : Cmd), (⟨6, 10, 0x0110, .waiting, 0, 0, 0, false, false, 0, false, false, 0, 0, none⟩ : Cmd)] })); decide ((Runs s f c 0x0000 a b k))) &&
    (let f : Fin 64 := 63; let c : Nat := 5; let a : List Cmd := [(⟨4, 8, 0x0200, .started, 0, 0, 0, false, false, 0, false, false, 0, 0, none⟩ : Cmd)]; let b : List Cmd := [(⟨6, 10, 0x0110, .waiting, 0, 0, 0, false, false, 0, false, false, 0, 0, none⟩ : Cmd)]; let k : Cmd := (⟨5, 9, (1), .running, 0, 0, 0, false, false, 0, false, false, 0, 0, none⟩ : Cmd); let s : State := ((puts (State.reset) [(SEC_LCSTATE_DBG, 2)]).modFlow 63 (fun x => { x with cmds := [(⟨4, 8, 0x0200, .started, 0, 0, 0, false, false, 0, false, false, 0, 0, none⟩ : Cmd), (⟨5, 9, (1), .running, 0, 0, 0, false, false, 0, false, false, 0, 0, none⟩ : Cmd), (⟨6, 10, 0x0110, .waiting, 0, 0, 0, false, false, 0, false, false, 0, 0, none⟩ : Cmd)] })); decide ((Runs s f c 0x0001 a b k))) &&
    (let f : Fin 64 := 63; let c : Nat := 5; let a : List Cmd := [(⟨4, 8, 0x0200, .started, 0, 0, 0, false, false, 0, false, false, 0, 0, none⟩ : Cmd)]; let b : List Cmd := [(⟨6, 10, 0x0110, .waiting, 0, 0, 0, false, false, 0, false, false, 0, 0, none⟩ : Cmd)]; let k : Cmd := (⟨5, 9, (0x0100 + 321 * 2 ^ 160 + 2047 * 2 ^ 176 + 1 * 2 ^ 192 + 0x1122334455667788 * 2 ^ 256), .running, 0, 0, 0, false, false, 0, false, false, 0, 0, none⟩ : Cmd); let s : State := ((puts (State.reset) [(PWR_PDSTAT_STATE 81, 2), (BNK_CUESTAT_WIPING 5, 0)]).modFlow 63 (fun x => { x with cmds := [(⟨4, 8, 0x0200, .started, 0, 0, 0, false, false, 0, false, false, 0, 0, none⟩ : Cmd), (⟨5, 9, (0x0100 + 321 * 2 ^ 160 + 2047 * 2 ^ 176 + 1 * 2 ^ 192 + 0x1122334455667788 * 2 ^ 256), .running, 0, 0, 0, false, false, 0, false, false, 0, 0, none⟩ : Cmd), (⟨6, 10, 0x0110, .waiting, 0, 0, 0, false, false, 0, false, false, 0, 0, none⟩ : Cmd)] })); let buf : List Byte := []; decide ((Runs s f c 0x0100 a b k) ∧ (ctxInline k.entry = true) ∧ (ctxOk k.entry = true) ∧ (s.domOn (halfOf ((ent k.entry 20 2) / 64)) = true) ∧ (s.bit (BNK_CUESTAT_WIPING ((ent k.entry 20 2) / 64)) = false) ∧ ((s.bank ((ent k.entry 20 2) / 64)).cueq.any (fun i => s.ordersStore i) = false))) &&
    (let f : Fin 64 := 63; let c : Nat := 5; let a : List Cmd := [(⟨4, 8, 0x0200, .started, 0, 0, 0, false, false, 0, false, false, 0, 0, none⟩ : Cmd)]; let b : List Cmd := [(⟨6, 10, 0x0110, .waiting, 0, 0, 0, false, false, 0, false, false, 0, 0, none⟩ : Cmd)]; let k : Cmd := (⟨5, 9, (0x0100 + 512 * 2 ^ 160 + 0 * 2 ^ 176 + 1 * 2 ^ 192), .running, 0, 0, 0, false, false, 0, false, false, 0, 0, none⟩ : Cmd); let s : State := ((puts (State.reset) []).modFlow 63 (fun x => { x with cmds := [(⟨4, 8, 0x0200, .started, 0, 0, 0, false, false, 0, false, false, 0, 0, none⟩ : Cmd), (⟨5, 9, (0x0100 + 512 * 2 ^ 160 + 0 * 2 ^ 176 + 1 * 2 ^ 192), .running, 0, 0, 0, false, false, 0, false, false, 0, 0, none⟩ : Cmd), (⟨6, 10, 0x0110, .waiting, 0, 0, 0, false, false, 0, false, false, 0, 0, none⟩ : Cmd)] })); let buf : List Byte := [3#8]; decide ((Runs s f c 0x0100 a b k) ∧ (ctxInline k.entry = true) ∧ (ctxOk k.entry = false))) &&
    (let f : Fin 64 := 63; let c : Nat := 5; let a : List Cmd := [(⟨4, 8, 0x0200, .started, 0, 0, 0, false, false, 0, false, false, 0, 0, none⟩ : Cmd)]; let b : List Cmd := [(⟨6, 10, 0x0110, .waiting, 0, 0, 0, false, false, 0, false, false, 0, 0, none⟩ : Cmd)]; let k : Cmd := (⟨5, 9, (0x0100 + 0x1000 * 2 ^ 64 + 64 * 2 ^ 128 + 321 * 2 ^ 160 + 0 * 2 ^ 176 + 2 * 2 ^ 192), .running, 0, 0, 0, false, false, 0, false, false, 0, 0, none⟩ : Cmd); let s : State := { (((puts (State.reset) [(PWR_PDSTAT_STATE 81, 0)]).modFlow 63 (fun x => { x with cmds := [(⟨4, 8, 0x0200, .started, 0, 0, 0, false, false, 0, false, false, 0, 0, none⟩ : Cmd), (⟨5, 9, (0x0100 + 0x1000 * 2 ^ 64 + 64 * 2 ^ 128 + 321 * 2 ^ 160 + 0 * 2 ^ 176 + 2 * 2 ^ 192), .running, 0, 0, 0, false, false, 0, false, false, 0, 0, none⟩ : Cmd), (⟨6, 10, 0x0110, .waiting, 0, 0, 0, false, false, 0, false, false, 0, 0, none⟩ : Cmd)] }))) with ep := { (State.reset).ep with bme := true } }; let buf : List Byte := List.replicate 64 3#8; decide ((Runs s f c 0x0100 a b k) ∧ (ctxInline k.entry = false) ∧ (ctxOk k.entry = true) ∧ (bufOk k.entry (32 * (ent k.entry 24 2)) = true) ∧ (buf.length = 32 * (ent k.entry 24 2)) ∧ (s.dmaOn = true) ∧ (s.domOn (halfOf ((ent k.entry 20 2) / 64)) = false))) &&
    (let f : Fin 64 := 63; let c : Nat := 5; let a : List Cmd := [(⟨4, 8, 0x0200, .started, 0, 0, 0, false, false, 0, false, false, 0, 0, none⟩ : Cmd)]; let b : List Cmd := [(⟨6, 10, 0x0110, .waiting, 0, 0, 0, false, false, 0, false, false, 0, 0, none⟩ : Cmd)]; let k : Cmd := (⟨5, 9, (0x0100 + 321 * 2 ^ 160 + 2047 * 2 ^ 176 + 1 * 2 ^ 192 + 0x1122334455667788 * 2 ^ 256), .running, 0, 0, 0, false, false, 0, false, false, 0, 0, none⟩ : Cmd); let s : State := ((puts (State.reset) [(PWR_PDSTAT_STATE 81, 2), (BNK_CUESTAT_WIPING 5, 1)]).modFlow 63 (fun x => { x with cmds := [(⟨4, 8, 0x0200, .started, 0, 0, 0, false, false, 0, false, false, 0, 0, none⟩ : Cmd), (⟨5, 9, (0x0100 + 321 * 2 ^ 160 + 2047 * 2 ^ 176 + 1 * 2 ^ 192 + 0x1122334455667788 * 2 ^ 256), .running, 0, 0, 0, false, false, 0, false, false, 0, 0, none⟩ : Cmd), (⟨6, 10, 0x0110, .waiting, 0, 0, 0, false, false, 0, false, false, 0, 0, none⟩ : Cmd)] })); let buf : List Byte := []; decide ((Runs s f c 0x0100 a b k) ∧ (ctxInline k.entry = true) ∧ (ctxOk k.entry = true) ∧ (s.domOn (halfOf ((ent k.entry 20 2) / 64)) = true) ∧ (s.bit (BNK_CUESTAT_WIPING ((ent k.entry 20 2) / 64)) = true ∨ (s.bank ((ent k.entry 20 2) / 64)).cueq.any (fun i => s.ordersStore i) = true))) &&
    (let f : Fin 64 := 63; let c : Nat := 5; let a : List Cmd := [(⟨4, 8, 0x0200, .started, 0, 0, 0, false, false, 0, false, false, 0, 0, none⟩ : Cmd)]; let b : List Cmd := [(⟨6, 10, 0x0110, .waiting, 0, 0, 0, false, false, 0, false, false, 0, 0, none⟩ : Cmd)]; let k : Cmd := (⟨5, 9, (0x0100 + 0x1000 * 2 ^ 64 + 63 * 2 ^ 128 + 321 * 2 ^ 160 + 0 * 2 ^ 176 + 2 * 2 ^ 192), .running, 0, 0, 0, false, false, 0, false, false, 0, 0, none⟩ : Cmd); let s : State := { (((puts (State.reset) []).modFlow 63 (fun x => { x with cmds := [(⟨4, 8, 0x0200, .started, 0, 0, 0, false, false, 0, false, false, 0, 0, none⟩ : Cmd), (⟨5, 9, (0x0100 + 0x1000 * 2 ^ 64 + 63 * 2 ^ 128 + 321 * 2 ^ 160 + 0 * 2 ^ 176 + 2 * 2 ^ 192), .running, 0, 0, 0, false, false, 0, false, false, 0, 0, none⟩ : Cmd), (⟨6, 10, 0x0110, .waiting, 0, 0, 0, false, false, 0, false, false, 0, 0, none⟩ : Cmd)] }))) with ep := { (State.reset).ep with bme := true } }; let buf : List Byte := []; decide ((Runs s f c 0x0100 a b k) ∧ (ctxInline k.entry = false) ∧ (ctxOk k.entry = false ∨ bufOk k.entry (32 * (ent k.entry 24 2)) = false) ∧ (s.dmaOn = true))) &&
    (let f : Fin 64 := 63; let c : Nat := 5; let a : List Cmd := [(⟨4, 8, 0x0200, .started, 0, 0, 0, false, false, 0, false, false, 0, 0, none⟩ : Cmd)]; let b : List Cmd := [(⟨6, 10, 0x0110, .waiting, 0, 0, 0, false, false, 0, false, false, 0, 0, none⟩ : Cmd)]; let k : Cmd := (⟨5, 9, (0x0100 + 0x1000 * 2 ^ 64 + 64 * 2 ^ 128 + 321 * 2 ^ 160 + 0 * 2 ^ 176 + 2 * 2 ^ 192), .running, 0, 0, 0, false, false, 0, false, false, 0, 0, none⟩ : Cmd); let s : State := ((puts (State.reset) []).modFlow 63 (fun x => { x with cmds := [(⟨4, 8, 0x0200, .started, 0, 0, 0, false, false, 0, false, false, 0, 0, none⟩ : Cmd), (⟨5, 9, (0x0100 + 0x1000 * 2 ^ 64 + 64 * 2 ^ 128 + 321 * 2 ^ 160 + 0 * 2 ^ 176 + 2 * 2 ^ 192), .running, 0, 0, 0, false, false, 0, false, false, 0, 0, none⟩ : Cmd), (⟨6, 10, 0x0110, .waiting, 0, 0, 0, false, false, 0, false, false, 0, 0, none⟩ : Cmd)] })); let buf : List Byte := [3#8]; decide ((Runs s f c 0x0100 a b k) ∧ (ctxInline k.entry = false) ∧ (ctxOk k.entry = true) ∧ (bufOk k.entry (32 * (ent k.entry 24 2)) = true) ∧ (buf.length < 32 * (ent k.entry 24 2)))) &&
    (let f : Fin 64 := 63; let c : Nat := 5; let a : List Cmd := [(⟨4, 8, 0x0200, .started, 0, 0, 0, false, false, 0, false, false, 0, 0, none⟩ : Cmd)]; let b : List Cmd := [(⟨6, 10, 0x0110, .waiting, 0, 0, 0, false, false, 0, false, false, 0, 0, none⟩ : Cmd)]; let k : Cmd := (⟨5, 9, (0x0101 + 0x1000 * 2 ^ 64 + 64 * 2 ^ 128 + 321 * 2 ^ 160 + 2046 * 2 ^ 176 + 2 * 2 ^ 192), .running, 0, 0, 0, false, false, 0, false, false, 0, 0, none⟩ : Cmd); let s : State := { (((puts (State.reset) [(PWR_PDSTAT_STATE 81, 2), (BNK_CUESTAT_WIPING 5, 0)]).modFlow 63 (fun x => { x with cmds := [(⟨4, 8, 0x0200, .started, 0, 0, 0, false, false, 0, false, false, 0, 0, none⟩ : Cmd), (⟨5, 9, (0x0101 + 0x1000 * 2 ^ 64 + 64 * 2 ^ 128 + 321 * 2 ^ 160 + 2046 * 2 ^ 176 + 2 * 2 ^ 192), .running, 0, 0, 0, false, false, 0, false, false, 0, 0, none⟩ : Cmd), (⟨6, 10, 0x0110, .waiting, 0, 0, 0, false, false, 0, false, false, 0, 0, none⟩ : Cmd)] }))) with ep := { (State.reset).ep with bme := true }, store := [(321 * 2048 + 2046, 78#256), (321 * 2048 + 2047, 77#256)], storeErr := [] }; decide ((Runs s f c 0x0101 a b k) ∧ (ctxOk k.entry = true) ∧ (bufOk k.entry (32 * (ent k.entry 24 2)) = true) ∧ (s.dmaOn = true) ∧ (s.domOn (halfOf ((ent k.entry 20 2) / 64)) = true) ∧ (s.bit (BNK_CUESTAT_WIPING ((ent k.entry 20 2) / 64)) = false) ∧ ((s.bank ((ent k.entry 20 2) / 64)).cueq.any (fun i => s.ordersStore i) = false) ∧ (s.storeErr = []))) &&
    (let f : Fin 64 := 63; let c : Nat := 5; let a : List Cmd := [(⟨4, 8, 0x0200, .started, 0, 0, 0, false, false, 0, false, false, 0, 0, none⟩ : Cmd)]; let b : List Cmd := [(⟨6, 10, 0x0110, .waiting, 0, 0, 0, false, false, 0, false, false, 0, 0, none⟩ : Cmd)]; let k : Cmd := (⟨5, 9, (0x0101 + 0x1000 * 2 ^ 64 + 32 * 2 ^ 128 + 321 * 2 ^ 160 + 2047 * 2 ^ 176 + 1 * 2 ^ 192), .running, 0, 0, 0, false, false, 0, false, false, 0, 0, none⟩ : Cmd); let s : State := { (((puts (State.reset) [(PWR_PDSTAT_STATE 81, 0)]).modFlow 63 (fun x => { x with cmds := [(⟨4, 8, 0x0200, .started, 0, 0, 0, false, false, 0, false, false, 0, 0, none⟩ : Cmd), (⟨5, 9, (0x0101 + 0x1000 * 2 ^ 64 + 32 * 2 ^ 128 + 321 * 2 ^ 160 + 2047 * 2 ^ 176 + 1 * 2 ^ 192), .running, 0, 0, 0, false, false, 0, false, false, 0, 0, none⟩ : Cmd), (⟨6, 10, 0x0110, .waiting, 0, 0, 0, false, false, 0, false, false, 0, 0, none⟩ : Cmd)] }))) with ep := { (State.reset).ep with bme := true } }; decide ((Runs s f c 0x0101 a b k) ∧ (s.dmaOn = true) ∧ (ctxOk k.entry = false ∨ bufOk k.entry (32 * (ent k.entry 24 2)) = false ∨ s.domOn (halfOf ((ent k.entry 20 2) / 64)) = false))) &&
    (let f : Fin 64 := 63; let c : Nat := 5; let a : List Cmd := [(⟨4, 8, 0x0200, .started, 0, 0, 0, false, false, 0, false, false, 0, 0, none⟩ : Cmd)]; let b : List Cmd := [(⟨6, 10, 0x0110, .waiting, 0, 0, 0, false, false, 0, false, false, 0, 0, none⟩ : Cmd)]; let k : Cmd := (⟨5, 9, (0x0202), .running, 0, 0, 0, false, false, 0, false, false, 0, 0, none⟩ : Cmd); let s : State := { (((puts (State.reset) []).modFlow 63 (fun x => { x with cmds := [(⟨4, 8, 0x0200, .started, 0, 0, 0, false, false, 0, false, false, 0, 0, none⟩ : Cmd), (⟨5, 9, (0x0202), .running, 0, 0, 0, false, false, 0, false, false, 0, 0, none⟩ : Cmd), (⟨6, 10, 0x0110, .waiting, 0, 0, 0, false, false, 0, false, false, 0, 0, none⟩ : Cmd)] }))) with ep := { (State.reset).ep with bme := false } }; decide ((Runs s f c (entOp k.entry) a b k) ∧ (s.dmaOn = false))) &&
    (let f : Fin 64 := 63; let c : Nat := 5; let a : List Cmd := [(⟨4, 8, 0x0200, .started, 0, 0, 0, false, false, 0, false, false, 0, 0, none⟩ : Cmd)]; let b : List Cmd := [(⟨6, 10, 0x0110, .waiting, 0, 0, 0, false, false, 0, false, false, 0, 0, none⟩ : Cmd)]; let k : Cmd := (⟨5, 9, (0x0102 + 63 * 2 ^ 160 + 0 * 2 ^ 176 + 321 * 2 ^ 192 + 1 * 2 ^ 208), .running, 0, 0, 0, false, false, 0, false, false, 0, 0, none⟩ : Cmd); let s : State := ((puts (State.reset) [(CH_GRP_MEMBER 321, 0), (GRP_STAT_RUN 63, 0)]).modFlow 63 (fun x => { x with cmds := [(⟨4, 8, 0x0200, .started, 0, 0, 0, false, false, 0, false, false, 0, 0, none⟩ : Cmd), (⟨5, 9, (0x0102 + 63 * 2 ^ 160 + 0 * 2 ^ 176 + 321 * 2 ^ 192 + 1 * 2 ^ 208), .running, 0, 0, 0, false, false, 0, false, false, 0, 0, none⟩ : Cmd), (⟨6, 10, 0x0110, .waiting, 0, 0, 0, false, false, 0, false, false, 0, 0, none⟩ : Cmd)] })); decide ((Runs s f c 0x0102 a b k) ∧ (ent k.entry 20 2 < 64) ∧ (ent k.entry 22 1 = 0) ∧ (ent k.entry 26 2 = 1) ∧ (ent k.entry 24 2 < 512) ∧ (s.grpWriteOk (ent k.entry 24 2) (BitVec.ofNat 32 (128 + ent k.entry 20 2)) = true))) &&
    (let f : Fin 64 := 63; let c : Nat := 5; let a : List Cmd := [(⟨4, 8, 0x0200, .started, 0, 0, 0, false, false, 0, false, false, 0, 0, none⟩ : Cmd)]; let b : List Cmd := [(⟨6, 10, 0x0110, .waiting, 0, 0, 0, false, false, 0, false, false, 0, 0, none⟩ : Cmd)]; let k : Cmd := (⟨5, 9, (0x0102 + 63 * 2 ^ 160 + 1 * 2 ^ 176 + 321 * 2 ^ 192 + 1 * 2 ^ 208), .running, 0, 0, 0, false, false, 0, false, false, 0, 0, none⟩ : Cmd); let s : State := ((puts (State.reset) [(CH_GRP_MEMBER 321, 1), (CH_GRP_GROUP 321, 63), (GRP_STAT_RUN 63, 0)]).modFlow 63 (fun x => { x with cmds := [(⟨4, 8, 0x0200, .started, 0, 0, 0, false, false, 0, false, false, 0, 0, none⟩ : Cmd), (⟨5, 9, (0x0102 + 63 * 2 ^ 160 + 1 * 2 ^ 176 + 321 * 2 ^ 192 + 1 * 2 ^ 208), .running, 0, 0, 0, false, false, 0, false, false, 0, 0, none⟩ : Cmd), (⟨6, 10, 0x0110, .waiting, 0, 0, 0, false, false, 0, false, false, 0, 0, none⟩ : Cmd)] })); decide ((Runs s f c 0x0102 a b k) ∧ (ent k.entry 20 2 < 64) ∧ (ent k.entry 22 1 = 1) ∧ (ent k.entry 26 2 = 1) ∧ (ent k.entry 24 2 < 512) ∧ (s.isMember (ent k.entry 20 2) (ent k.entry 24 2) = true) ∧ (s.grpWriteOk (ent k.entry 24 2) 0 = true))) &&
    (let f : Fin 64 := 63; let c : Nat := 5; let a : List Cmd := [(⟨4, 8, 0x0200, .started, 0, 0, 0, false, false, 0, false, false, 0, 0, none⟩ : Cmd)]; let b : List Cmd := [(⟨6, 10, 0x0110, .waiting, 0, 0, 0, false, false, 0, false, false, 0, 0, none⟩ : Cmd)]; let k : Cmd := (⟨5, 9, (0x0102 + 63 * 2 ^ 160 + 1 * 2 ^ 176 + 321 * 2 ^ 192 + 1 * 2 ^ 208), .running, 0, 0, 0, false, false, 0, false, false, 0, 0, none⟩ : Cmd); let s : State := ((puts (State.reset) [(CH_GRP_MEMBER 321, 0)]).modFlow 63 (fun x => { x with cmds := [(⟨4, 8, 0x0200, .started, 0, 0, 0, false, false, 0, false, false, 0, 0, none⟩ : Cmd), (⟨5, 9, (0x0102 + 63 * 2 ^ 160 + 1 * 2 ^ 176 + 321 * 2 ^ 192 + 1 * 2 ^ 208), .running, 0, 0, 0, false, false, 0, false, false, 0, 0, none⟩ : Cmd), (⟨6, 10, 0x0110, .waiting, 0, 0, 0, false, false, 0, false, false, 0, 0, none⟩ : Cmd)] })); decide ((Runs s f c 0x0102 a b k) ∧ (ent k.entry 20 2 < 64) ∧ (ent k.entry 22 1 = 1) ∧ (ent k.entry 26 2 = 1) ∧ (ent k.entry 24 2 < 512) ∧ (s.isMember (ent k.entry 20 2) (ent k.entry 24 2) = false))) &&
    (let f : Fin 64 := 63; let c : Nat := 5; let a : List Cmd := [(⟨4, 8, 0x0200, .started, 0, 0, 0, false, false, 0, false, false, 0, 0, none⟩ : Cmd)]; let b : List Cmd := [(⟨6, 10, 0x0110, .waiting, 0, 0, 0, false, false, 0, false, false, 0, 0, none⟩ : Cmd)]; let k : Cmd := (⟨5, 9, (0x0102 + 63 * 2 ^ 160 + 0 * 2 ^ 176 + 321 * 2 ^ 192 + 1 * 2 ^ 208), .running, 0, 0, 0, false, false, 0, false, false, 0, 0, none⟩ : Cmd); let s : State := ((puts (State.reset) [(CH_GRP_MEMBER 321, 0), (GRP_STAT_RUN 63, 1)]).modFlow 63 (fun x => { x with cmds := [(⟨4, 8, 0x0200, .started, 0, 0, 0, false, false, 0, false, false, 0, 0, none⟩ : Cmd), (⟨5, 9, (0x0102 + 63 * 2 ^ 160 + 0 * 2 ^ 176 + 321 * 2 ^ 192 + 1 * 2 ^ 208), .running, 0, 0, 0, false, false, 0, false, false, 0, 0, none⟩ : Cmd), (⟨6, 10, 0x0110, .waiting, 0, 0, 0, false, false, 0, false, false, 0, 0, none⟩ : Cmd)] })); decide ((Runs s f c 0x0102 a b k) ∧ (ent k.entry 20 2 < 64) ∧ (ent k.entry 22 1 = 0) ∧ (ent k.entry 26 2 = 1) ∧ (ent k.entry 24 2 < 512) ∧ (s.grpWriteOk (ent k.entry 24 2) (BitVec.ofNat 32 (128 + ent k.entry 20 2)) = false))) &&
    (let f : Fin 64 := 63; let c : Nat := 5; let a : List Cmd := [(⟨4, 8, 0x0200, .started, 0, 0, 0, false, false, 0, false, false, 0, 0, none⟩ : Cmd)]; let b : List Cmd := [(⟨6, 10, 0x0110, .waiting, 0, 0, 0, false, false, 0, false, false, 0, 0, none⟩ : Cmd)]; let k : Cmd := (⟨5, 9, (0x0102 + 63 * 2 ^ 160 + 0 * 2 ^ 176 + 321 * 2 ^ 192 + 192 * 2 ^ 208), .running, 0, 0, 0, false, false, 0, false, false, 0, 0, none⟩ : Cmd); let s : State := ((puts (State.reset) []).modFlow 63 (fun x => { x with cmds := [(⟨4, 8, 0x0200, .started, 0, 0, 0, false, false, 0, false, false, 0, 0, none⟩ : Cmd), (⟨5, 9, (0x0102 + 63 * 2 ^ 160 + 0 * 2 ^ 176 + 321 * 2 ^ 192 + 192 * 2 ^ 208), .running, 0, 0, 0, false, false, 0, false, false, 0, 0, none⟩ : Cmd), (⟨6, 10, 0x0110, .waiting, 0, 0, 0, false, false, 0, false, false, 0, 0, none⟩ : Cmd)] })); decide ((Runs s f c 0x0102 a b k) ∧ (64 ≤ ent k.entry 20 2 ∨ 1 < ent k.entry 22 1 ∨ ent k.entry 26 2 = 0 ∨ 512 < ent k.entry 24 2 + ent k.entry 26 2)))) = true := by decide +kernel

theorem witness_MailboxTimingCommands :
    ((let f : Fin 64 := 63; let c : Nat := 5; let a : List Cmd := [(⟨4, 8, 0x0200, .started, 0, 0, 0, false, false, 0, false, false, 0, 0, none⟩ : Cmd)]; let b : List Cmd := [(⟨6, 10, 0x0110, .waiting, 0, 0, 0, false, false, 0, false, false, 0, 0, none⟩ : Cmd)]; let k : Cmd := (⟨5, 9, (0x0110 + 63 * 2 ^ 160 + 31 * 2 ^ 176 + 2047 * 2 ^ 192), .running, 0, 0, 0, false, false, 0, false, false, 0, 0, none⟩ : Cmd); let s : State := ((puts (State.reset) [(CH_GRP_MEMBER 321, 1), (CH_GRP_GROUP 321, 63), (GRP_STAT_OWNED 63, 0), (BNK_STAT_ROOTACT 5, 1)]).modFlow 63 (fun x => { x with cmds := [(⟨4, 8, 0x0200, .started, 0, 0, 0, false, false, 0, false, false, 0, 0, none⟩ : Cmd), (⟨5, 9, (0x0110 + 63 * 2 ^ 160 + 31 * 2 ^ 176 + 2047 * 2 ^ 192), .running, 0, 0, 0, false, false, 0, false, false, 0, 0, none⟩ : Cmd), (⟨6, 10, 0x0110, .waiting, 0, 0, 0, false, false, 0, false, false, 0, 0, none⟩ : Cmd)] })); decide ((Runs s f c 0x0110 a b k) ∧ ((ent k.entry 20 2) < 64) ∧ (s.bit (GRP_STAT_OWNED (ent k.entry 20 2)) = false) ∧ (s.members (ent k.entry 20 2) ≠ []) ∧ (ent k.entry 22 1 < 32) ∧ (ent k.entry 24 2 < 2048))) &&
    (let f : Fin 64 := 63; let c : Nat := 5; let a : List Cmd := [(⟨4, 8, 0x0200, .started, 0, 0, 0, false, false, 0, false, false, 0, 0, none⟩ : Cmd)]; let b : List Cmd := [(⟨6, 10, 0x0110, .waiting, 0, 0, 0, false, false, 0, false, false, 0, 0, none⟩ : Cmd)]; let k : Cmd := (⟨5, 9, (0x0111 + 63 * 2 ^ 160 + 31 * 2 ^ 176 + 2047 * 2 ^ 192 + 65535 * 2 ^ 208), .running, 0, 0, 0, false, false, 0, false, false, 0, 0, none⟩ : Cmd); let s : State := ((puts (State.reset) [(CH_GRP_MEMBER 321, 1), (CH_GRP_GROUP 321, 63), (GRP_STAT_OWNED 63, 0), (BNK_STAT_ROOTACT 5, 1)]).modFlow 63 (fun x => { x with cmds := [(⟨4, 8, 0x0200, .started, 0, 0, 0, false, false, 0, false, false, 0, 0, none⟩ : Cmd), (⟨5, 9, (0x0111 + 63 * 2 ^ 160 + 31 * 2 ^ 176 + 2047 * 2 ^ 192 + 65535 * 2 ^ 208), .running, 0, 0, 0, false, false, 0, false, false, 0, 0, none⟩ : Cmd), (⟨6, 10, 0x0110, .waiting, 0, 0, 0, false, false, 0, false, false, 0, 0, none⟩ : Cmd)] })); decide ((Runs s f c 0x0111 a b k) ∧ ((ent k.entry 20 2) < 64) ∧ (s.bit (GRP_STAT_OWNED (ent k.entry 20 2)) = false) ∧ (s.members (ent k.entry 20 2) ≠ []) ∧ (ent k.entry 22 1 < 32) ∧ (ent k.entry 24 2 < 2048))) &&
    (let f : Fin 64 := 63; let c : Nat := 5; let a : List Cmd := [(⟨4, 8, 0x0200, .started, 0, 0, 0, false, false, 0, false, false, 0, 0, none⟩ : Cmd)]; let b : List Cmd := [(⟨6, 10, 0x0110, .waiting, 0, 0, 0, false, false, 0, false, false, 0, 0, none⟩ : Cmd)]; let k : Cmd := (⟨5, 9, (0x0112 + 63 * 2 ^ 160 + 65535 * 2 ^ 208 + 0 * 2 ^ 224 + 77 * 2 ^ 256), .running, 0, 0, 0, false, false, 0, false, false, 0, 0, none⟩ : Cmd); let s : State := ((puts (State.reset) [(CH_GRP_MEMBER 321, 1), (CH_GRP_GROUP 321, 63), (GRP_STAT_OWNED 63, 0), (BNK_STAT_ROOTACT 5, 1)]).modFlow 63 (fun x => { x with cmds := [(⟨4, 8, 0x0200, .started, 0, 0, 0, false, false, 0, false, false, 0, 0, none⟩ : Cmd), (⟨5, 9, (0x0112 + 63 * 2 ^ 160 + 65535 * 2 ^ 208 + 0 * 2 ^ 224 + 77 * 2 ^ 256), .running, 0, 0, 0, false, false, 0, false, false, 0, 0, none⟩ : Cmd), (⟨6, 10, 0x0110, .waiting, 0, 0, 0, false, false, 0, false, false, 0, 0, none⟩ : Cmd)] })); decide ((Runs s f c 0x0112 a b k) ∧ ((ent k.entry 20 2) < 64) ∧ (s.bit (GRP_STAT_OWNED (ent k.entry 20 2)) = false) ∧ (s.members (ent k.entry 20 2) ≠ []) ∧ (ent k.entry 28 1 < 2))) &&
    (let f : Fin 64 := 63; let c : Nat := 5; let a : List Cmd := [(⟨4, 8, 0x0200, .started, 0, 0, 0, false, false, 0, false, false, 0, 0, none⟩ : Cmd)]; let b : List Cmd := [(⟨6, 10, 0x0110, .waiting, 0, 0, 0, false, false, 0, false, false, 0, 0, none⟩ : Cmd)]; let k : Cmd := (⟨5, 9, (0x0113 + 63 * 2 ^ 160 + 65535 * 2 ^ 208), .running, 0, 0, 0, false, false, 0, false, false, 0, 0, none⟩ : Cmd); let s : State := ((puts (State.reset) [(CH_GRP_MEMBER 321, 1), (CH_GRP_GROUP 321, 63), (GRP_STAT_OWNED 63, 0), (BNK_STAT_ROOTACT 5, 1)]).modFlow 63 (fun x => { x with cmds := [(⟨4, 8, 0x0200, .started, 0, 0, 0, false, false, 0, false, false, 0, 0, none⟩ : Cmd), (⟨5, 9, (0x0113 + 63 * 2 ^ 160 + 65535 * 2 ^ 208), .running, 0, 0, 0, false, false, 0, false, false, 0, 0, none⟩ : Cmd), (⟨6, 10, 0x0110, .waiting, 0, 0, 0, false, false, 0, false, false, 0, 0, none⟩ : Cmd)] })); decide ((Runs s f c 0x0113 a b k) ∧ ((ent k.entry 20 2) < 64) ∧ (s.bit (GRP_STAT_OWNED (ent k.entry 20 2)) = false) ∧ (s.members (ent k.entry 20 2) ≠ []))) &&
    (let f : Fin 64 := 63; let c : Nat := 5; let a : List Cmd := [(⟨4, 8, 0x0200, .started, 0, 0, 0, false, false, 0, false, false, 0, 0, none⟩ : Cmd)]; let b : List Cmd := [(⟨6, 10, 0x0110, .waiting, 0, 0, 0, false, false, 0, false, false, 0, 0, none⟩ : Cmd)]; let k : Cmd := (⟨5, 9, (0x0114 + 63 * 2 ^ 160 + 77 * 2 ^ 256), .running, 0, 0, 0, false, false, 0, false, false, 0, 0, none⟩ : Cmd); let s : State := ((puts (State.reset) [(CH_GRP_MEMBER 321, 1), (CH_GRP_GROUP 321, 63), (GRP_STAT_OWNED 63, 0), (BNK_STAT_ROOTACT 5, 1)]).modFlow 63 (fun x => { x with cmds := [(⟨4, 8, 0x0200, .started, 0, 0, 0, false, false, 0, false, false, 0, 0, none⟩ : Cmd), (⟨5, 9, (0x0114 + 63 * 2 ^ 160 + 77 * 2 ^ 256), .running, 0, 0, 0, false, false, 0, false, false, 0, 0, none⟩ : Cmd), (⟨6, 10, 0x0110, .waiting, 0, 0, 0, false, false, 0, false, false, 0, 0, none⟩ : Cmd)] })); decide ((Runs s f c 0x0114 a b k) ∧ ((ent k.entry 20 2) < 64) ∧ (s.bit (GRP_STAT_OWNED (ent k.entry 20 2)) = false) ∧ (s.members (ent k.entry 20 2) ≠ []) ∧ (ent k.entry 28 1 = 0))) &&
    (let f : Fin 64 := 63; let c : Nat := 5; let a : List Cmd := [(⟨4, 8, 0x0200, .started, 0, 0, 0, false, false, 0, false, false, 0, 0, none⟩ : Cmd)]; let b : List Cmd := [(⟨6, 10, 0x0110, .waiting, 0, 0, 0, false, false, 0, false, false, 0, 0, none⟩ : Cmd)]; let k : Cmd := (⟨5, 9, (0x0114 + 63 * 2 ^ 160 + 1 * 2 ^ 224 + (2 ^ 48 - 1) * 2 ^ 256), .running, 0, 0, 0, false, false, 0, false, false, 0, 0, none⟩ : Cmd); let s : State := ((puts (State.reset) [(CH_GRP_MEMBER 321, 1), (CH_GRP_GROUP 321, 63), (GRP_STAT_OWNED 63, 0), (BNK_STAT_ROOTACT 5, 1)]).modFlow 63 (fun x => { x with cmds := [(⟨4, 8, 0x0200, .started, 0, 0, 0, false, false, 0, false, false, 0, 0, none⟩ : Cmd), (⟨5, 9, (0x0114 + 63 * 2 ^ 160 + 1 * 2 ^ 224 + (2 ^ 48 - 1) * 2 ^ 256), .running, 0, 0, 0, false, false, 0, false, false, 0, 0, none⟩ : Cmd), (⟨6, 10, 0x0110, .waiting, 0, 0, 0, false, false, 0, false, false, 0, 0, none⟩ : Cmd)] })); decide ((Runs s f c 0x0114 a b k) ∧ ((ent k.entry 20 2) < 64) ∧ (s.bit (GRP_STAT_OWNED (ent k.entry 20 2)) = false) ∧ (s.members (ent k.entry 20 2) ≠ []) ∧ (ent k.entry 28 1 = 1))) &&
    (let f : Fin 64 := 63; let c : Nat := 5; let a : List Cmd := [(⟨4, 8, 0x0200, .started, 0, 0, 0, false, false, 0, false, false, 0, 0, none⟩ : Cmd)]; let b : List Cmd := [(⟨6, 10, 0x0110, .waiting, 0, 0, 0, false, false, 0, false, false, 0, 0, none⟩ : Cmd)]; let k : Cmd := (⟨5, 9, (0x0115 + 63 * 2 ^ 160 + 1 * 2 ^ 224 + 77 * 2 ^ 256), .running, 0, 0, 0, false, false, 0, false, false, 0, 0, none⟩ : Cmd); let s : State := ((puts (State.reset) [(CH_GRP_MEMBER 321, 1), (CH_GRP_GROUP 321, 63), (GRP_STAT_OWNED 63, 0), (BNK_STAT_ROOTACT 5, 1)]).modFlow 63 (fun x => { x with cmds := [(⟨4, 8, 0x0200, .started, 0, 0, 0, false, false, 0, false, false, 0, 0, none⟩ : Cmd), (⟨5, 9, (0x0115 + 63 * 2 ^ 160 + 1 * 2 ^ 224 + 77 * 2 ^ 256), .running, 0, 0, 0, false, false, 0, false, false, 0, 0, none⟩ : Cmd), (⟨6, 10, 0x0110, .waiting, 0, 0, 0, false, false, 0, false, false, 0, 0, none⟩ : Cmd)] })); decide ((Runs s f c 0x0115 a b k) ∧ ((ent k.entry 20 2) < 64) ∧ (s.bit (GRP_STAT_OWNED (ent k.entry 20 2)) = false) ∧ (s.members (ent k.entry 20 2) ≠ []) ∧ (ent k.entry 28 1 < 2))) &&
    (let f : Fin 64 := 63; let c : Nat := 5; let a : List Cmd := [(⟨4, 8, 0x0200, .started, 0, 0, 0, false, false, 0, false, false, 0, 0, none⟩ : Cmd)]; let b : List Cmd := [(⟨6, 10, 0x0110, .waiting, 0, 0, 0, false, false, 0, false, false, 0, 0, none⟩ : Cmd)]; let k : Cmd := (⟨5, 9, (0x0110 + 63 * 2 ^ 160 + 32 * 2 ^ 176), .running, 0, 0, 0, false, false, 0, false, false, 0, 0, none⟩ : Cmd); let s : State := ((puts (State.reset) [(CH_GRP_MEMBER 321, 1), (CH_GRP_GROUP 321, 63), (GRP_STAT_OWNED 63, 0), (BNK_STAT_ROOTACT 5, 1)]).modFlow 63 (fun x => { x with cmds := [(⟨4, 8, 0x0200, .started, 0, 0, 0, false, false, 0, false, false, 0, 0, none⟩ : Cmd), (⟨5, 9, (0x0110 + 63 * 2 ^ 160 + 32 * 2 ^ 176), .running, 0, 0, 0, false, false, 0, false, false, 0, 0, none⟩ : Cmd), (⟨6, 10, 0x0110, .waiting, 0, 0, 0, false, false, 0, false, false, 0, 0, none⟩ : Cmd)] })); let op : Nat := 0x0110; decide ((Runs s f c op a b k))) &&
    (let f : Fin 64 := 63; let c : Nat := 5; let a : List Cmd := [(⟨4, 8, 0x0200, .started, 0, 0, 0, false, false, 0, false, false, 0, 0, none⟩ : Cmd)]; let b : List Cmd := [(⟨6, 10, 0x0110, .waiting, 0, 0, 0, false, false, 0, false, false, 0, 0, none⟩ : Cmd)]; let k : Cmd := (⟨5, 9, (0x0113 + 63 * 2 ^ 160), .running, 0, 0, 0, false, false, 0, false, false, 0, 0, none⟩ : Cmd); let s : State := ((puts (State.reset) [(CH_GRP_MEMBER 321, 1), (CH_GRP_GROUP 321, 63), (GRP_STAT_OWNED 63, 0), (BNK_STAT_ROOTACT 5, 1), (GRP_STAT_OWNED 63, 1), (GRP_EPOCH_EPOCH 63, 65535)]).modFlow 63 (fun x => { x with cmds := [(⟨4, 8, 0x0200, .started, 0, 0, 0, false, false, 0, false, false, 0, 0, none⟩ : Cmd), (⟨5, 9, (0x0113 + 63 * 2 ^ 160), .running, 0, 0, 0, false, false, 0, false, false, 0, 0, none⟩ : Cmd), (⟨6, 10, 0x0110, .waiting, 0, 0, 0, false, false, 0, false, false, 0, 0, none⟩ : Cmd)] })); let op : Nat := 0x0113; decide ((Runs s f c op a b k) ∧ ((ent k.entry 20 2) < 64) ∧ (s.bit (GRP_STAT_OWNED (ent k.entry 20 2)) = true))) &&
    (let f : Fin 64 := 63; let c : Nat := 5; let a : List Cmd := [(⟨4, 8, 0x0200, .started, 0, 0, 0, false, false, 0, false, false, 0, 0, none⟩ : Cmd)]; let b : List Cmd := [(⟨6, 10, 0x0110, .waiting, 0, 0, 0, false, false, 0, false, false, 0, 0, none⟩ : Cmd)]; let k : Cmd := (⟨5, 9, (0x0114 + 63 * 2 ^ 160), .running, 0, 0, 0, false, false, 0, false, false, 0, 0, none⟩ : Cmd); let s : State := ((puts (State.reset) [(CH_GRP_MEMBER 321, 0), (GRP_EPOCH_EPOCH 63, 65535)]).modFlow 63 (fun x => { x with cmds := [(⟨4, 8, 0x0200, .started, 0, 0, 0, false, false, 0, false, false, 0, 0, none⟩ : Cmd), (⟨5, 9, (0x0114 + 63 * 2 ^ 160), .running, 0, 0, 0, false, false, 0, false, false, 0, 0, none⟩ : Cmd), (⟨6, 10, 0x0110, .waiting, 0, 0, 0, false, false, 0, false, false, 0, 0, none⟩ : Cmd)] })); let op : Nat := 0x0114; decide ((Runs s f c op a b k) ∧ ((ent k.entry 20 2) < 64) ∧ (s.bit (GRP_STAT_OWNED (ent k.entry 20 2)) = false) ∧ (s.members (ent k.entry 20 2) = [])))) = true := by decide +kernel

theorem witness_MailboxRootsTakesAndResults :
    ((let f : Fin 64 := 63; let c : Nat := 5; let a : List Cmd := [(⟨4, 8, 0x0200, .started, 0, 0, 0, false, false, 0, false, false, 0, 0, none⟩ : Cmd)]; let b : List Cmd := [(⟨6, 10, 0x0110, .waiting, 0, 0, 0, false, false, 0, false, false, 0, 0, none⟩ : Cmd)]; let k : Cmd := (⟨5, 9, (0x0120 + 3 * 2 ^ 160 + 15 * 2 ^ 168 + 1 * 2 ^ 176), .running, 0, 0, 0, false, false, 0, false, false, 0, 0, none⟩ : Cmd); let s : State := (((puts (State.reset) [(SYN_STAT_STATE 3, stLocked)]).modFlow 63 (fun x => { x with cmds := [(⟨4, 8, 0x0200, .started, 0, 0, 0, false, false, 0, false, false, 0, 0, none⟩ : Cmd), (⟨5, 9, (0x0120 + 3 * 2 ^ 160 + 15 * 2 ^ 168 + 1 * 2 ^ 176), .running, 0, 0, 0, false, false, 0, false, false, 0, 0, none⟩ : Cmd), (⟨6, 10, 0x0110, .waiting, 0, 0, 0, false, false, 0, false, false, 0, 0, none⟩ : Cmd)] }))).modRoot 3 (fun x => { x with hop := none, pend := none, st := stLocked, lock := true }); decide ((Runs s f c 0x0120 a b k) ∧ ((ent k.entry 20 1) < 4) ∧ (ent k.entry 21 1 < 16) ∧ (ent k.entry 22 1 < 2) ∧ (s.isLocked (ent k.entry 20 1) = true) ∧ ((s.root (ent k.entry 20 1)).hop = none) ∧ ((s.root (ent k.entry 20 1)).pend = none))) &&
    (let f : Fin 64 := 63; let c : Nat := 5; let a : List Cmd := [(⟨4, 8, 0x0200, .started, 0, 0, 0, false, false, 0, false, false, 0, 0, none⟩ : Cmd)]; let b : List Cmd := [(⟨6, 10, 0x0110, .waiting, 0, 0, 0, false, false, 0, false, false, 0, 0, none⟩ : Cmd)]; let k : Cmd := (⟨5, 9, (0x0120 + 3 * 2 ^ 160 + 15 * 2 ^ 168 + 1 * 2 ^ 176), .running, 0, 0, 0, false, false, 0, false, false, 0, 0, none⟩ : Cmd); let s : State := (((puts (State.reset) []).modFlow 63 (fun x => { x with cmds := [(⟨4, 8, 0x0200, .started, 0, 0, 0, false, false, 0, false, false, 0, 0, none⟩ : Cmd), (⟨5, 9, (0x0120 + 3 * 2 ^ 160 + 15 * 2 ^ 168 + 1 * 2 ^ 176), .running, 0, 0, 0, false, false, 0, false, false, 0, 0, none⟩ : Cmd), (⟨6, 10, 0x0110, .waiting, 0, 0, 0, false, false, 0, false, false, 0, 0, none⟩ : Cmd)] }))).modRoot 3 (fun x => { x with hop := none, pend := none, st := stSearch }); decide ((Runs s f c 0x0120 a b k) ∧ ((ent k.entry 20 1) < 4) ∧ (ent k.entry 21 1 < 16) ∧ (ent k.entry 22 1 < 2) ∧ (s.isLocked (ent k.entry 20 1) = false ∨ (s.root (ent k.entry 20 1)).hop ≠ none) ∧ ((s.root (ent k.entry 20 1)).pend = none))) &&
    (let f : Fin 64 := 63; let c : Nat := 5; let a : List Cmd := [(⟨4, 8, 0x0200, .started, 0, 0, 0, false, false, 0, false, false, 0, 0, none⟩ : Cmd)]; let b : List Cmd := [(⟨6, 10, 0x0110, .waiting, 0, 0, 0, false, false, 0, false, false, 0, 0, none⟩ : Cmd)]; let k : Cmd := (⟨5, 9, (0x0120 + 3 * 2 ^ 160 + 16 * 2 ^ 168), .running, 0, 0, 0, false, false, 0, false, false, 0, 0, none⟩ : Cmd); let s : State := ((puts (State.reset) []).modFlow 63 (fun x => { x with cmds := [(⟨4, 8, 0x0200, .started, 0, 0, 0, false, false, 0, false, false, 0, 0, none⟩ : Cmd), (⟨5, 9, (0x0120 + 3 * 2 ^ 160 + 16 * 2 ^ 168), .running, 0, 0, 0, false, false, 0, false, false, 0, 0, none⟩ : Cmd), (⟨6, 10, 0x0110, .waiting, 0, 0, 0, false, false, 0, false, false, 0, 0, none⟩ : Cmd)] })); decide ((Runs s f c 0x0120 a b k) ∧ (4 ≤ (ent k.entry 20 1) ∨ 16 ≤ ent k.entry 21 1 ∨ 2 ≤ ent k.entry 22 1))) &&
    (let f : Fin 64 := 63; let c : Nat := 5; let a : List Cmd := [(⟨4, 8, 0x0200, .started, 0, 0, 0, false, false, 0, false, false, 0, 0, none⟩ : Cmd)]; let b : List Cmd := [(⟨6, 10, 0x0110, .waiting, 0, 0, 0, false, false, 0, false, false, 0, 0, none⟩ : Cmd)]; let k : Cmd := (⟨5, 9, (0x0121 + 3 * 2 ^ 160), .running, 0, 0, 0, false, false, 0, false, false, 0, 0, none⟩ : Cmd); let s : State := ((puts (State.reset) [(SYN_RCTRL_TRIG 3, 2)]).modFlow 63 (fun x => { x with cmds := [(⟨4, 8, 0x0200, .started, 0, 0, 0, false, false, 0, false, false, 0, 0, none⟩ : Cmd), (⟨5, 9, (0x0121 + 3 * 2 ^ 160), .running, 0, 0, 0, false, false, 0, false, false, 0, 0, none⟩ : Cmd), (⟨6, 10, 0x0110, .waiting, 0, 0, 0, false, false, 0, false, false, 0, 0, none⟩ : Cmd)] })); decide ((Runs s f c 0x0121 a b k) ∧ ((ent k.entry 20 1) < 4) ∧ (s.get (SYN_RCTRL_TRIG (ent k.entry 20 1)) = 1 ∨ s.get (SYN_RCTRL_TRIG (ent k.entry 20 1)) = 2))) &&
    (let f : Fin 64 := 63; let c : Nat := 5; let a : List Cmd := [(⟨4, 8, 0x0200, .started, 0, 0, 0, false, false, 0, false, false, 0, 0, none⟩ : Cmd)]; let b : List Cmd := [(⟨6, 10, 0x0110, .waiting, 0, 0, 0, false, false, 0, false, false, 0, 0, none⟩ : Cmd)]; let k : Cmd := (⟨5, 9, (0x0121 + 3 * 2 ^ 160), .running, 0, 0, 0, false, false, 0, false, false, 0, 0, none⟩ : Cmd); let s : State := ((puts (State.reset) [(SYN_RCTRL_TRIG 3, 3)]).modFlow 63 (fun x => { x with cmds := [(⟨4, 8, 0x0200, .started, 0, 0, 0, false, false, 0, false, false, 0, 0, none⟩ : Cmd), (⟨5, 9, (0x0121 + 3 * 2 ^ 160), .running, 0, 0, 0, false, false, 0, false, false, 0, 0, none⟩ : Cmd), (⟨6, 10, 0x0110, .waiting, 0, 0, 0, false, false, 0, false, false, 0, 0, none⟩ : Cmd)] })); decide ((Runs s f c 0x0121 a b k) ∧ ((ent k.entry 20 1) < 4) ∧ (s.get (SYN_RCTRL_TRIG (ent k.entry 20 1)) = 0 ∨ s.get (SYN_RCTRL_TRIG (ent k.entry 20 1)) = 3) ∧ (s.bit (SEQ_STAT_SUSP (ent k.entry 20 1)) = false) ∧ (s.rampWhy (ent k.entry 20 1) ≠ 0))) &&
    (let f : Fin 64 := 63; let c : Nat := 5; let a : List Cmd := [(⟨4, 8, 0x0200, .started, 0, 0, 0, false, false, 0, false, false, 0, 0, none⟩ : Cmd)]; let b : List Cmd := [(⟨6, 10, 0x0110, .waiting, 0, 0, 0, false, false, 0, false, false, 0, 0, none⟩ : Cmd)]; let k : Cmd := (⟨5, 9, (0x0121 + 1 * 2 ^ 160), .running, 0, 0, 0, false, false, 0, false, false, 0, 0, none⟩ : Cmd); let s : State := { (((puts (State.reset) [(SYN_RCTRL_TRIG 1, 0), (SEQ_STAT_FAULT 1, 0), (SYN_REFFREQ_KHZ 1, 100000), (SYN_REF_RMUL 1, 0), (SYN_REF_PDIV 1, 0), (SYN_CTRL_ODIV 1, 2)]).modFlow 63 (fun x => { x with cmds := [(⟨4, 8, 0x0200, .started, 0, 0, 0, false, false, 0, false, false, 0, 0, none⟩ : Cmd), (⟨5, 9, (0x0121 + 1 * 2 ^ 160), .running, 0, 0, 0, false, false, 0, false, false, 0, 0, none⟩ : Cmd), (⟨6, 10, 0x0110, .waiting, 0, 0, 0, false, false, 0, false, false, 0, 0, none⟩ : Cmd)] })).modRoot 1 (fun x => { x with st := stLocked, lock := true, rt := 0, waitOff := false, waitLoss := false, waitRamp := none, hop := none, com := { x.com with st := stLocked }, band := 32, ss := none, base := 128 * 2 ^ 40, segs := [] })) with shadow := [(192, 0x36B02EE0#32)] }; decide ((Runs s f c 0x0121 a b k) ∧ ((ent k.entry 20 1) < 4) ∧ (s.get (SYN_RCTRL_TRIG (ent k.entry 20 1)) = 0 ∨ s.get (SYN_RCTRL_TRIG (ent k.entry 20 1)) = 3) ∧ (s.bit (SEQ_STAT_SUSP (ent k.entry 20 1)) = false) ∧ (s.rampWhy (ent k.entry 20 1) = 0) ∧ ((s.root (ent k.entry 20 1)).rt = 0))) &&
    (let f : Fin 64 := 63; let c : Nat := 5; let a : List Cmd := [(⟨4, 8, 0x0200, .started, 0, 0, 0, false, false, 0, false, false, 0, 0, none⟩ : Cmd)]; let b : List Cmd := [(⟨6, 10, 0x0110, .waiting, 0, 0, 0, false, false, 0, false, false, 0, 0, none⟩ : Cmd)]; let k : Cmd := (⟨5, 9, (0x0121 + 1 * 2 ^ 160), .running, 0, 0, 0, false, false, 0, false, false, 0, 0, none⟩ : Cmd); let s : State := { (((puts (State.reset) [(SYN_RCTRL_TRIG 1, 0), (SEQ_STAT_FAULT 1, 0), (SYN_REFFREQ_KHZ 1, 100000), (SYN_REF_RMUL 1, 0), (SYN_REF_PDIV 1, 0), (SYN_CTRL_ODIV 1, 2)]).modFlow 63 (fun x => { x with cmds := [(⟨4, 8, 0x0200, .started, 0, 0, 0, false, false, 0, false, false, 0, 0, none⟩ : Cmd), (⟨5, 9, (0x0121 + 1 * 2 ^ 160), .running, 0, 0, 0, false, false, 0, false, false, 0, 0, none⟩ : Cmd), (⟨6, 10, 0x0110, .waiting, 0, 0, 0, false, false, 0, false, false, 0, 0, none⟩ : Cmd)] })).modRoot 1 (fun x => { x with st := stLocked, lock := true, rt := 6, waitOff := false, waitLoss := false, waitRamp := none, hop := none, com := { x.com with st := stLocked }, band := 32, ss := none, base := 128 * 2 ^ 40, segs := [] })) with shadow := [(192, 0x36B02EE0#32)] }; decide ((Runs s f c 0x0121 a b k) ∧ ((ent k.entry 20 1) < 4) ∧ (s.get (SYN_RCTRL_TRIG (ent k.entry 20 1)) = 0 ∨ s.get (SYN_RCTRL_TRIG (ent k.entry 20 1)) = 3) ∧ (s.bit (SEQ_STAT_SUSP (ent k.entry 20 1)) = false) ∧ (s.rampWhy (ent k.entry 20 1) = 0) ∧ ((s.root (ent k.entry 20 1)).rt ≠ 0))) &&
    (let f : Fin 64 := 63; let c : Nat := 5; let a : List Cmd := [(⟨4, 8, 0x0200, .started, 0, 0, 0, false, false, 0, false, false, 0, 0, none⟩ : Cmd)]; let b : List Cmd := [(⟨6, 10, 0x0110, .waiting, 0, 0, 0, false, false, 0, false, false, 0, 0, none⟩ : Cmd)]; let k : Cmd := (⟨5, 9, (0x0121 + 4 * 2 ^ 160), .running, 0, 0, 0, false, false, 0, false, false, 0, 0, none⟩ : Cmd); let s : State := ((puts (State.reset) []).modFlow 63 (fun x => { x with cmds := [(⟨4, 8, 0x0200, .started, 0, 0, 0, false, false, 0, false, false, 0, 0, none⟩ : Cmd), (⟨5, 9, (0x0121 + 4 * 2 ^ 160), .running, 0, 0, 0, false, false, 0, false, false, 0, 0, none⟩ : Cmd), (⟨6, 10, 0x0110, .waiting, 0, 0, 0, false, false, 0, false, false, 0, 0, none⟩ : Cmd)] })); decide ((Runs s f c 0x0121 a b k) ∧ (4 ≤ (ent k.entry 20 1)))) &&
    (let f : Fin 64 := 63; let c : Nat := 5; let a : List Cmd := [(⟨4, 8, 0x0200, .started, 0, 0, 0, false, false, 0, false, false, 0, 0, none⟩ : Cmd)]; let b : List Cmd := [(⟨6, 10, 0x0110, .waiting, 0, 0, 0, false, false, 0, false, false, 0, 0, none⟩ : Cmd)]; let k : Cmd := (⟨5, 9, (0x0200 + 200 * 2 ^ 160 + 1 * 2 ^ 168), .running, 0, 0, 0, false, false, 0, false, false, 0, 0, none⟩ : Cmd); let s : State := { (((puts (State.reset) [(CH_TAKE_JOIN 321, 1), (CH_TAKE_TAKE 321, 200)]).modFlow 63 (fun x => { x with cmds := [(⟨4, 8, 0x0200, .started, 0, 0, 0, false, false, 0, false, false, 0, 0, none⟩ : Cmd), (⟨5, 9, (0x0200 + 200 * 2 ^ 160 + 1 * 2 ^ 168), .running, 0, 0, 0, false, false, 0, false, false, 0, 0, none⟩ : Cmd), (⟨6, 10, 0x0110, .waiting, 0, 0, 0, false, false, 0, false, false, 0, 0, none⟩ : Cmd)] }))) with regQ := [321] }; decide ((Runs s f c 0x0200 a b k) ∧ (ent k.entry 21 1 < 2) ∧ ((s.take (ent k.entry 20 1)).waitArm = none) ∧ (s.takeBusy (ent k.entry 20 1) = false) ∧ (s.solvesQueued (ent k.entry 20 1) = true))) &&
    (let f : Fin 64 := 63; let c : Nat := 5; let a : List Cmd := [(⟨4, 8, 0x0200, .started, 0, 0, 0, false, false, 0, false, false, 0, 0, none⟩ : Cmd)]; let b : List Cmd := [(⟨6, 10, 0x0110, .waiting, 0, 0, 0, false, false, 0, false, false, 0, 0, none⟩ : Cmd)]; let k : Cmd := (⟨5, 9, (0x0200 + 200 * 2 ^ 160 + 1 * 2 ^ 168), .running, 0, 0, 0, false, false, 0, false, false, 0, 0, none⟩ : Cmd); let s : State := ((puts (State.reset) []).modFlow 63 (fun x => { x with cmds := [(⟨4, 8, 0x0200, .started, 0, 0, 0, false, false, 0, false, false, 0, 0, none⟩ : Cmd), (⟨5, 9, (0x0200 + 200 * 2 ^ 160 + 1 * 2 ^ 168), .running, 0, 0, 0, false, false, 0, false, false, 0, 0, none⟩ : Cmd), (⟨6, 10, 0x0110, .waiting, 0, 0, 0, false, false, 0, false, false, 0, 0, none⟩ : Cmd)] })); decide ((Runs s f c 0x0200 a b k) ∧ (ent k.entry 21 1 < 2) ∧ ((s.take (ent k.entry 20 1)).waitArm = none) ∧ (s.takeBusy (ent k.entry 20 1) = true ∨ s.solvesQueued (ent k.entry 20 1) = false) ∧ (s.armCheck (ent k.entry 20 1) { src := .flow f c, group := none, wait := ent k.entry 21 1 == 1 } ≠ Code.OK))) &&
    (let f : Fin 64 := 63; let c : Nat := 5; let a : List Cmd := [(⟨4, 8, 0x0200, .started, 0, 0, 0, false, false, 0, false, false, 0, 0, none⟩ : Cmd)]; let b : List Cmd := [(⟨6, 10, 0x0110, .waiting, 0, 0, 0, false, false, 0, false, false, 0, 0, none⟩ : Cmd)]; let k : Cmd := (⟨5, 9, (0x0200 + 200 * 2 ^ 160 + 0 * 2 ^ 168), .running, 0, 0, 0, false, false, 0, false, false, 0, 0, none⟩ : Cmd); let s : State := ((puts (State.reset) [(CH_TAKE_JOIN 321, 1), (CH_TAKE_TAKE 321, 200)]).modFlow 63 (fun x => { x with cmds := [(⟨4, 8, 0x0200, .started, 0, 0, 0, false, false, 0, false, false, 0, 0, none⟩ : Cmd), (⟨5, 9, (0x0200 + 200 * 2 ^ 160 + 0 * 2 ^ 168), .running, 0, 0, 0, false, false, 0, false, false, 0, 0, none⟩ : Cmd), (⟨6, 10, 0x0110, .waiting, 0, 0, 0, false, false, 0, false, false, 0, 0, none⟩ : Cmd)] })); decide ((Runs s f c 0x0200 a b k) ∧ (ent k.entry 21 1 < 2) ∧ ((s.take (ent k.entry 20 1)).waitArm = none) ∧ (s.takeBusy (ent k.entry 20 1) = false) ∧ (s.solvesQueued (ent k.entry 20 1) = false) ∧ (s.armCheck (ent k.entry 20 1) { src := .flow f c, group := none, wait := ent k.entry 21 1 == 1 } = Code.OK))) &&
    (let f : Fin 64 := 63; let c : Nat := 5; let a : List Cmd := [(⟨4, 8, 0x0200, .started, 0, 0, 0, false, false, 0, false, false, 0, 0, none⟩ : Cmd)]; let b : List Cmd := [(⟨6, 10, 0x0110, .waiting, 0, 0, 0, false, false, 0, false, false, 0, 0, none⟩ : Cmd)]; let k : Cmd := (⟨5, 9, (0x0200 + 200 * 2 ^ 160 + 2 * 2 ^ 168), .running, 0, 0, 0, false, false, 0, false, false, 0, 0, none⟩ : Cmd); let s : State := ((puts (State.reset) []).modFlow 63 (fun x => { x with cmds := [(⟨4, 8, 0x0200, .started, 0, 0, 0, false, false, 0, false, false, 0, 0, none⟩ : Cmd), (⟨5, 9, (0x0200 + 200 * 2 ^ 160 + 2 * 2 ^ 168), .running, 0, 0, 0, false, false, 0, false, false, 0, 0, none⟩ : Cmd), (⟨6, 10, 0x0110, .waiting, 0, 0, 0, false, false, 0, false, false, 0, 0, none⟩ : Cmd)] })); decide ((Runs s f c 0x0200 a b k) ∧ (2 ≤ ent k.entry 21 1))) &&
    (let f : Fin 64 := 63; let c : Nat := 5; let a : List Cmd := [(⟨4, 8, 0x0200, .started, 0, 0, 0, false, false, 0, false, false, 0, 0, none⟩ : Cmd)]; let b : List Cmd := [(⟨6, 10, 0x0110, .waiting, 0, 0, 0, false, false, 0, false, false, 0, 0, none⟩ : Cmd)]; let k : Cmd := (⟨5, 9, (0x0201 + 200 * 2 ^ 160), .running, 0, 0, 0, false, false, 0, false, false, 0, 0, none⟩ : Cmd); let s : State := ((puts (State.reset) [(TK_STAT_STATE 200, 5), (TK_STAT_CODE 200, 9)]).modFlow 63 (fun x => { x with cmds := [(⟨4, 8, 0x0200, .started, 0, 0, 0, false, false, 0, false, false, 0, 0, none⟩ : Cmd), (⟨5, 9, (0x0201 + 200 * 2 ^ 160), .running, 0, 0, 0, false, false, 0, false, false, 0, 0, none⟩ : Cmd), (⟨6, 10, 0x0110, .waiting, 0, 0, 0, false, false, 0, false, false, 0, 0, none⟩ : Cmd)] })); decide ((Runs s f c 0x0201 a b k) ∧ (s.takeBusy (ent k.entry 20 1) = false))) &&
    (let f : Fin 64 := 63; let c : Nat := 5; let a : List Cmd := [(⟨4, 8, 0x0200, .started, 0, 0, 0, false, false, 0, false, false, 0, 0, none⟩ : Cmd)]; let b : List Cmd := [(⟨6, 10, 0x0110, .waiting, 0, 0, 0, false, false, 0, false, false, 0, 0, none⟩ : Cmd)]; let k : Cmd := (⟨5, 9, (0x0201 + 200 * 2 ^ 160), .running, 0, 0, 0, false, false, 0, false, false, 0, 0, none⟩ : Cmd); let s : State := ((puts (State.reset) [(TK_STAT_STATE 200, 2)]).modFlow 63 (fun x => { x with cmds := [(⟨4, 8, 0x0200, .started, 0, 0, 0, false, false, 0, false, false, 0, 0, none⟩ : Cmd), (⟨5, 9, (0x0201 + 200 * 2 ^ 160), .running, 0, 0, 0, false, false, 0, false, false, 0, 0, none⟩ : Cmd), (⟨6, 10, 0x0110, .waiting, 0, 0, 0, false, false, 0, false, false, 0, 0, none⟩ : Cmd)] })); decide ((Runs s f c 0x0201 a b k) ∧ (s.takeState (ent k.entry 20 1) = 1 ∨ s.takeState (ent k.entry 20 1) = 2) ∧ ((s.take (ent k.entry 20 1)).req = ArmReq.init) ∧ ((s.take (ent k.entry 20 1)).waiters = []) ∧ ((s.take (ent k.entry 20 1)).held = none))) &&
    (let f : Fin 64 := 63; let c : Nat := 5; let a : List Cmd := [(⟨4, 8, 0x0200, .started, 0, 0, 0, false, false, 0, false, false, 0, 0, none⟩ : Cmd)]; let b : List Cmd := [(⟨6, 10, 0x0110, .waiting, 0, 0, 0, false, false, 0, false, false, 0, 0, none⟩ : Cmd)]; let k : Cmd := (⟨5, 9, (0x0201 + 200 * 2 ^ 160), .running, 0, 0, 0, false, false, 0, false, false, 0, 0, none⟩ : Cmd); let s : State := ((puts (State.reset) [(TK_STAT_STATE 200, 3)]).modFlow 63 (fun x => { x with cmds := [(⟨4, 8, 0x0200, .started, 0, 0, 0, false, false, 0, false, false, 0, 0, none⟩ : Cmd), (⟨5, 9, (0x0201 + 200 * 2 ^ 160), .running, 0, 0, 0, false, false, 0, false, false, 0, 0, none⟩ : Cmd), (⟨6, 10, 0x0110, .waiting, 0, 0, 0, false, false, 0, false, false, 0, 0, none⟩ : Cmd)] })); decide ((Runs s f c 0x0201 a b k) ∧ (s.takeState (ent k.entry 20 1) = 3))) &&
    (let f : Fin 64 := 63; let c : Nat := 5; let a : List Cmd := [(⟨4, 8, 0x0200, .started, 0, 0, 0, false, false, 0, false, false, 0, 0, none⟩ : Cmd)]; let b : List Cmd := [(⟨6, 10, 0x0110, .waiting, 0, 0, 0, false, false, 0, false, false, 0, 0, none⟩ : Cmd)]; let k : Cmd := (⟨5, 9, (0x0201 + 200 * 2 ^ 160), .running, 0, 0, 0, false, false, 0, false, false, 0, 0, none⟩ : Cmd); let s : State := ((puts (State.reset) [(TK_STAT_STATE 200, 4)]).modFlow 63 (fun x => { x with cmds := [(⟨4, 8, 0x0200, .started, 0, 0, 0, false, false, 0, false, false, 0, 0, none⟩ : Cmd), (⟨5, 9, (0x0201 + 200 * 2 ^ 160), .running, 0, 0, 0, false, false, 0, false, false, 0, 0, none⟩ : Cmd), (⟨6, 10, 0x0110, .waiting, 0, 0, 0, false, false, 0, false, false, 0, 0, none⟩ : Cmd)] })); decide ((Runs s f c 0x0201 a b k) ∧ (s.takeState (ent k.entry 20 1) = 4))) &&
    (let f : Fin 64 := 63; let c : Nat := 5; let a : List Cmd := [(⟨4, 8, 0x0200, .started, 0, 0, 0, false, false, 0, false, false, 0, 0, none⟩ : Cmd)]; let b : List Cmd := [(⟨6, 10, 0x0110, .waiting, 0, 0, 0, false, false, 0, false, false, 0, 0, none⟩ : Cmd)]; let k : Cmd := (⟨5, 9, (0x0202 + 0x1000 * 2 ^ 64 + 32 * 2 ^ 128 + 200 * 2 ^ 160), .running, 0, 0, 0, false, false, 0, false, false, 0, 0, none⟩ : Cmd); let s : State := { (((puts (State.reset) []).modFlow 63 (fun x => { x with cmds := [(⟨4, 8, 0x0200, .started, 0, 0, 0, false, false, 0, false, false, 0, 0, none⟩ : Cmd), (⟨5, 9, (0x0202 + 0x1000 * 2 ^ 64 + 32 * 2 ^ 128 + 200 * 2 ^ 160), .running, 0, 0, 0, false, false, 0, false, false, 0, 0, none⟩ : Cmd), (⟨6, 10, 0x0110, .waiting, 0, 0, 0, false, false, 0, false, false, 0, 0, none⟩ : Cmd)] })).modTake 200 (fun x => { x with recs := [5, 6] })) with ep := { (State.reset).ep with bme := true } }; decide ((Runs s f c 0x0202 a b k) ∧ (s.dmaOn = true) ∧ (bufOk k.entry (16 * (s.take (ent k.entry 20 1)).recs.length) = true))) &&
    (let f : Fin 64 := 63; let c : Nat := 5; let a : List Cmd := [(⟨4, 8, 0x0200, .started, 0, 0, 0, false, false, 0, false, false, 0, 0, none⟩ : Cmd)]; let b : List Cmd := [(⟨6, 10, 0x0110, .waiting, 0, 0, 0, false, false, 0, false, false, 0, 0, none⟩ : Cmd)]; let k : Cmd := (⟨5, 9, (0x0202 + 0x1001 * 2 ^ 64 + 32 * 2 ^ 128 + 200 * 2 ^ 160), .running, 0, 0, 0, false, false, 0, false, false, 0, 0, none⟩ : Cmd); let s : State := { (((puts (State.reset) []).modFlow 63 (fun x => { x with cmds := [(⟨4, 8, 0x0200, .started, 0, 0, 0, false, false, 0, false, false, 0, 0, none⟩ : Cmd), (⟨5, 9, (0x0202 + 0x1001 * 2 ^ 64 + 32 * 2 ^ 128 + 200 * 2 ^ 160), .running, 0, 0, 0, false, false, 0, false, false, 0, 0, none⟩ : Cmd), (⟨6, 10, 0x0110, .waiting, 0, 0, 0, false, false, 0, false, false, 0, 0, none⟩ : Cmd)] }))) with ep := { (State.reset).ep with bme := true } }; decide ((Runs s f c 0x0202 a b k) ∧ (s.dmaOn = true) ∧ (bufOk k.entry (16 * (s.take (ent k.entry 20 1)).recs.length) = false))) &&
    (let f : Fin 64 := 63; let c : Nat := 5; let a : List Cmd := [(⟨4, 8, 0x0200, .started, 0, 0, 0, false, false, 0, false, false, 0, 0, none⟩ : Cmd)]; let b : List Cmd := [(⟨6, 10, 0x0110, .waiting, 0, 0, 0, false, false, 0, false, false, 0, 0, none⟩ : Cmd)]; let k : Cmd := (⟨5, 9, (0x0210 + 0x1000 * 2 ^ 64 + 120 * 2 ^ 128 + 64 * 2 ^ 160 + 1 * 2 ^ 168), .running, 0, 0, 0, false, false, 0, false, false, 0, 0, none⟩ : Cmd); let s : State := { (((puts (State.reset) []).modFlow 63 (fun x => { x with cmds := [(⟨4, 8, 0x0200, .started, 0, 0, 0, false, false, 0, false, false, 0, 0, none⟩ : Cmd), (⟨5, 9, (0x0210 + 0x1000 * 2 ^ 64 + 120 * 2 ^ 128 + 64 * 2 ^ 160 + 1 * 2 ^ 168), .running, 0, 0, 0, false, false, 0, false, false, 0, 0, none⟩ : Cmd), (⟨6, 10, 0x0110, .waiting, 0, 0, 0, false, false, 0, false, false, 0, 0, none⟩ : Cmd)] }))) with ep := { (State.reset).ep with bme := true } }; decide ((Runs s f c 0x0210 a b k) ∧ (s.dmaOn = true) ∧ (64 ≤ (ent k.entry 20 1) ∨ 2 ≤ ent k.entry 21 1))) &&
    (let f : Fin 64 := 63; let c : Nat := 5; let a : List Cmd := [(⟨4, 8, 0x0200, .started, 0, 0, 0, false, false, 0, false, false, 0, 0, none⟩ : Cmd)]; let b : List Cmd := [(⟨6, 10, 0x0110, .waiting, 0, 0, 0, false, false, 0, false, false, 0, 0, none⟩ : Cmd)]; let k : Cmd := (⟨5, 9, (0x0210 + 0x1000 * 2 ^ 64 + 112 * 2 ^ 128 + 63 * 2 ^ 160), .running, 0, 0, 0, false, false, 0, false, false, 0, 0, none⟩ : Cmd); let s : State := { (((puts (State.reset) []).modFlow 63 (fun x => { x with cmds := [(⟨4, 8, 0x0200, .started, 0, 0, 0, false, false, 0, false, false, 0, 0, none⟩ : Cmd), (⟨5, 9, (0x0210 + 0x1000 * 2 ^ 64 + 112 * 2 ^ 128 + 63 * 2 ^ 160), .running, 0, 0, 0, false, false, 0, false, false, 0, 0, none⟩ : Cmd), (⟨6, 10, 0x0110, .waiting, 0, 0, 0, false, false, 0, false, false, 0, 0, none⟩ : Cmd)] })).modIv 63 (fun x => { x with fifo := [77] })) with ep := { (State.reset).ep with bme := true } }; decide ((Runs s f c 0x0210 a b k) ∧ (s.dmaOn = true) ∧ ((ent k.entry 20 1) < 64) ∧ (ent k.entry 21 1 = 0) ∧ (bufOk k.entry 112 = true))) &&
    (let f : Fin 64 := 63; let c : Nat := 5; let a : List Cmd := [(⟨4, 8, 0x0200, .started, 0, 0, 0, false, false, 0, false, false, 0, 0, none⟩ : Cmd)]; let b : List Cmd := [(⟨6, 10, 0x0110, .waiting, 0, 0, 0, false, false, 0, false, false, 0, 0, none⟩ : Cmd)]; let k : Cmd := (⟨5, 9, (0x0210 + 0x1000 * 2 ^ 64 + 120 * 2 ^ 128 + 63 * 2 ^ 160 + 1 * 2 ^ 168), .running, 0, 0, 0, false, false, 0, false, false, 0, 0, none⟩ : Cmd); let s : State := { (((puts (State.reset) []).modFlow 63 (fun x => { x with cmds := [(⟨4, 8, 0x0200, .started, 0, 0, 0, false, false, 0, false, false, 0, 0, none⟩ : Cmd), (⟨5, 9, (0x0210 + 0x1000 * 2 ^ 64 + 120 * 2 ^ 128 + 63 * 2 ^ 160 + 1 * 2 ^ 168), .running, 0, 0, 0, false, false, 0, false, false, 0, 0, none⟩ : Cmd), (⟨6, 10, 0x0110, .waiting, 0, 0, 0, false, false, 0, false, false, 0, 0, none⟩ : Cmd)] })).modIv 63 (fun x => { x with fifo := [77] })) with ep := { (State.reset).ep with bme := true } }; decide ((Runs s f c 0x0210 a b k) ∧ (s.dmaOn = true) ∧ ((ent k.entry 20 1) < 64) ∧ (ent k.entry 21 1 = 1) ∧ (bufOk k.entry (112 + 8 * (s.iv (ent k.entry 20 1)).fifo.length) = true))) &&
    (let f : Fin 64 := 63; let c : Nat := 5; let a : List Cmd := [(⟨4, 8, 0x0200, .started, 0, 0, 0, false, false, 0, false, false, 0, 0, none⟩ : Cmd)]; let b : List Cmd := [(⟨6, 10, 0x0110, .waiting, 0, 0, 0, false, false, 0, false, false, 0, 0, none⟩ : Cmd)]; let k : Cmd := (⟨5, 9, (0x0211 + 0x1000 * 2 ^ 64 + 64 * 2 ^ 128 + 511 * 2 ^ 160 + 1 * 2 ^ 176), .running, 0, 0, 0, false, false, 0, false, false, 0, 0, none⟩ : Cmd); let s : State := { (((puts (State.reset) []).modFlow 63 (fun x => { x with cmds := [(⟨4, 8, 0x0200, .started, 0, 0, 0, false, false, 0, false, false, 0, 0, none⟩ : Cmd), (⟨5, 9, (0x0211 + 0x1000 * 2 ^ 64 + 64 * 2 ^ 128 + 511 * 2 ^ 160 + 1 * 2 ^ 176), .running, 0, 0, 0, false, false, 0, false, false, 0, 0, none⟩ : Cmd), (⟨6, 10, 0x0110, .waiting, 0, 0, 0, false, false, 0, false, false, 0, 0, none⟩ : Cmd)] }))) with ep := { (State.reset).ep with bme := true } }; decide ((Runs s f c 0x0211 a b k) ∧ (s.dmaOn = true) ∧ (rangeChansOk k.entry = true) ∧ (bufOk k.entry (64 * ent k.entry 22 2) = true))) &&
    (let f : Fin 64 := 63; let c : Nat := 5; let a : List Cmd := [(⟨4, 8, 0x0200, .started, 0, 0, 0, false, false, 0, false, false, 0, 0, none⟩ : Cmd)]; let b : List Cmd := [(⟨6, 10, 0x0110, .waiting, 0, 0, 0, false, false, 0, false, false, 0, 0, none⟩ : Cmd)]; let k : Cmd := (⟨5, 9, (0x0212 + 0x1000 * 2 ^ 64 + 96 * 2 ^ 128 + 511 * 2 ^ 160 + 1 * 2 ^ 176), .running, 0, 0, 0, false, false, 0, false, false, 0, 0, none⟩ : Cmd); let s : State := { (((puts (State.reset) []).modFlow 63 (fun x => { x with cmds := [(⟨4, 8, 0x0200, .started, 0, 0, 0, false, false, 0, false, false, 0, 0, none⟩ : Cmd), (⟨5, 9, (0x0212 + 0x1000 * 2 ^ 64 + 96 * 2 ^ 128 + 511 * 2 ^ 160 + 1 * 2 ^ 176), .running, 0, 0, 0, false, false, 0, false, false, 0, 0, none⟩ : Cmd), (⟨6, 10, 0x0110, .waiting, 0, 0, 0, false, false, 0, false, false, 0, 0, none⟩ : Cmd)] }))) with ep := { (State.reset).ep with bme := true } }; decide ((Runs s f c 0x0212 a b k) ∧ (s.dmaOn = true) ∧ (rangeChansOk k.entry = true) ∧ (ent k.entry 22 2 = 1) ∧ (bufOk k.entry 96 = true))) &&
    (let f : Fin 64 := 63; let c : Nat := 5; let a : List Cmd := [(⟨4, 8, 0x0200, .started, 0, 0, 0, false, false, 0, false, false, 0, 0, none⟩ : Cmd)]; let b : List Cmd := [(⟨6, 10, 0x0110, .waiting, 0, 0, 0, false, false, 0, false, false, 0, 0, none⟩ : Cmd)]; let k : Cmd := (⟨5, 9, (0x0202 + 0x1000 * 2 ^ 64), .running, 0, 0, 0, false, false, 0, false, false, 0, 0, none⟩ : Cmd); let s : State := ((puts (State.reset) []).modFlow 63 (fun x => { x with cmds := [(⟨4, 8, 0x0200, .started, 0, 0, 0, false, false, 0, false, false, 0, 0, none⟩ : Cmd), (⟨5, 9, (0x0202 + 0x1000 * 2 ^ 64), .running, 0, 0, 0, false, false, 0, false, false, 0, 0, none⟩ : Cmd), (⟨6, 10, 0x0110, .waiting, 0, 0, 0, false, false, 0, false, false, 0, 0, none⟩ : Cmd)] })); decide ((Runs s f c (entOp k.entry) a b k) ∧ (readsBuf k.entry = false) ∧ (s.transfer? f c = some k) ∧ (s.transfers k = true))) &&
    (let f : Fin 64 := 63; let c : Nat := 5; let a : List Cmd := [(⟨4, 8, 0x0200, .started, 0, 0, 0, false, false, 0, false, false, 0, 0, none⟩ : Cmd)]; let b : List Cmd := [(⟨6, 10, 0x0110, .waiting, 0, 0, 0, false, false, 0, false, false, 0, 0, none⟩ : Cmd)]; let k : Cmd := (⟨5, 9, (0x0100 + 0x1000 * 2 ^ 64 + 64 * 2 ^ 128 + 321 * 2 ^ 160 + 9 * 2 ^ 176 + 2 * 2 ^ 192), .running, 0, 0, 0, false, false, 0, false, false, 0, 0, none⟩ : Cmd); let s : State := ((puts (State.reset) [(PWR_PDSTAT_STATE 81, 2), (BNK_CUESTAT_WIPING 5, 0)]).modFlow 63 (fun x => { x with cmds := [(⟨4, 8, 0x0200, .started, 0, 0, 0, false, false, 0, false, false, 0, 0, none⟩ : Cmd), (⟨5, 9, (0x0100 + 0x1000 * 2 ^ 64 + 64 * 2 ^ 128 + 321 * 2 ^ 160 + 9 * 2 ^ 176 + 2 * 2 ^ 192), .running, 0, 0, 0, false, false, 0, false, false, 0, 0, none⟩ : Cmd), (⟨6, 10, 0x0110, .waiting, 0, 0, 0, false, false, 0, false, false, 0, 0, none⟩ : Cmd)] })); let got : List Byte := List.replicate 32 7#8; decide ((Runs s f c 0x0100 a b k) ∧ (ctxInline k.entry = false) ∧ (ctxOk k.entry = true) ∧ (s.domOn (halfOf ((ent k.entry 20 2) / 64)) = true) ∧ (s.bit (BNK_CUESTAT_WIPING ((ent k.entry 20 2) / 64)) = false) ∧ (got.length = 32) ∧ ((ent k.entry 24 2) = 2))) &&
    (let f : Fin 64 := 63; let c : Nat := 5; let s : State := ((puts (State.reset) []).modFlow 63 (fun x => { x with cmds := [(⟨4, 8, 0x0200, .started, 0, 0, 0, false, false, 0, false, false, 0, 0, none⟩ : Cmd), (⟨5, 9, (0x0000), .running, 0, 0, 0, false, false, 0, false, false, 0, 0, none⟩ : Cmd), (⟨6, 10, 0x0110, .waiting, 0, 0, 0, false, false, 0, false, false, 0, 0, none⟩ : Cmd)] })); let got : List Byte := [1#8, 2#8]; decide ((s.transfer? f c = none))) &&
    (let f : Fin 64 := 63; let c : Nat := 5; let a : List Cmd := [(⟨4, 8, 0x0200, .started, 0, 0, 0, false, false, 0, false, false, 0, 0, none⟩ : Cmd)]; let b : List Cmd := [(⟨6, 10, 0x0110, .waiting, 0, 0, 0, false, false, 0, false, false, 0, 0, none⟩ : Cmd)]; let k : Cmd := (⟨5, 9, (0x0302 + 0x1000 * 2 ^ 64 + 156168 * 2 ^ 128), .running, 0, 0, 0, false, false, 0, false, false, 0, 0, none⟩ : Cmd); let s : State := ((puts (State.reset) []).modFlow 63 (fun x => { x with cmds := [(⟨4, 8, 0x0200, .started, 0, 0, 0, false, false, 0, false, false, 0, 0, none⟩ : Cmd), (⟨5, 9, (0x0302 + 0x1000 * 2 ^ 64 + 156168 * 2 ^ 128), .running, 0, 0, 0, false, false, 0, false, false, 0, 0, none⟩ : Cmd), (⟨6, 10, 0x0110, .waiting, 0, 0, 0, false, false, 0, false, false, 0, 0, none⟩ : Cmd)] })); let got : List Byte := [1#8, 2#8]; decide ((Runs s f c (entOp k.entry) a b k) ∧ (readsBuf k.entry = true) ∧ (s.transfer? f c = some k) ∧ (s.transfers k = true) ∧ (k.hold = none) ∧ (entOp k.entry ≠ 0x0100))) &&
    (let f : Fin 64 := 63; let c : Nat := 5; let a : List Cmd := [(⟨4, 8, 0x0200, .started, 0, 0, 0, false, false, 0, false, false, 0, 0, none⟩ : Cmd)]; let b : List Cmd := [(⟨6, 10, 0x0110, .waiting, 0, 0, 0, false, false, 0, false, false, 0, 0, none⟩ : Cmd)]; let k : Cmd := (⟨5, 9, (0x0302 + 0x1000 * 2 ^ 64 + 64 * 2 ^ 128), .running, 0, 0, 0, false, false, 0, false, false, 0, 0, none⟩ : Cmd); let s : State := ((puts (State.reset) []).modFlow 63 (fun x => { x with cmds := [(⟨4, 8, 0x0200, .started, 0, 0, 0, false, false, 0, false, false, 0, 0, none⟩ : Cmd), (⟨5, 9, (0x0302 + 0x1000 * 2 ^ 64 + 64 * 2 ^ 128), .running, 0, 0, 0, false, false, 0, false, false, 0, 0, none⟩ : Cmd), (⟨6, 10, 0x0110, .waiting, 0, 0, 0, false, false, 0, false, false, 0, 0, none⟩ : Cmd)] })); let got : List Byte := [1#8, 2#8]; decide ((Runs s f c (entOp k.entry) a b k) ∧ (s.transfer? f c = some k) ∧ (s.transfers k = false)))) = true := by decide +kernel

theorem witness_BoardAlignmentAndClapper :
    ((let p : Fin 4 := 3; let src : Nat := 9; let rest : List (Nat × LinkItem) := []; let s : State := ((puts (State.reset) []).modPl 3 (fun x => { x with inbox := [(9, .ident 15 3 1 2)] })); let dev : Nat := 15; let port : Nat := 3; let uid : Nat := 1; let glb : Nat := 2; decide (((s.pl p).inbox = (src, .ident dev port uid glb) :: rest))) &&
    (let p : Fin 5 := 3; let src : Nat := 9; let rest : List (Nat × LinkItem) := []; let s : State := ((puts (State.reset) []).modPl 3 (fun x => { x with inbox := [(9, .topo 0 3 77 [])] })); let topo : Nat := 0; let ndev : Nat := 3; let code : Nat := 77; let links : List (Nat × Nat × Nat × Nat) := []; decide (((s.pl p).inbox = (src, .topo topo ndev code links) :: rest) ∧ (code ≠ Code.OK))) &&
    (let p : Fin 5 := 3; let src : Nat := 9; let rest : List (Nat × LinkItem) := []; let s : State := ((puts (State.reset) []).modPl 3 (fun x => { x with inbox := [(9, .topo 1 16 Code.OK [])] })); let topo : Nat := 1; let ndev : Nat := 16; let links : List (Nat × Nat × Nat × Nat) := []; decide (((s.pl p).inbox = (src, .topo topo ndev Code.OK links) :: rest))) &&
    (let p : Fin 5 := 3; let src : Nat := 9; let rest : List (Nat × LinkItem) := []; let s : State := ((puts (State.reset) [(PRL_ALIGN_ALIGNED 2, 1)]).modPl 3 (fun x => { x with inbox := [(9, .alignvoid 2)] })); let root : Nat := 2; decide (((s.pl p).inbox = (src, .alignvoid root) :: rest) ∧ (root < 4))) &&
    (let src : Source := .host; let n : Fin 4 := 1; let w : Word := 0xFFFFFFFF#32; let s : State := (puts ((puts State.reset [(SEC_BOOTSTAT_STAGE, 9), (SEC_LCSTATE_LC, 2)])) [(BNK_STAT_ROOTACT 5, 0)]).modRoot 1 (fun r => { r with tb := 0 }); decide ((s.rowServed src (PRL_TBADJ n) true = true) ∧ (s.rootIdle n = true))) &&
    (let src : Source := .host; let n : Fin 4 := 1; let w : Word := 0xFFFFFFFF#32; let s : State := (puts ((puts State.reset [(SEC_BOOTSTAT_STAGE, 9), (SEC_LCSTATE_LC, 2)])) [(BNK_STAT_ROOTACT 5, 1), (BNK_STAT_DLLSTATE 5, 3)]).modBank 5 (fun x => { x with cueq := [.cmd 1 1] }); decide ((s.rowServed src (PRL_TBADJ n) true = true) ∧ (s.rootIdle n = false))) &&
    (let n : Fin 4 := 2; let s : State := puts (State.reset) [(PRL_ALIGN_TRACK 2, 1), (PRL_ALIGN_ALIGNED 2, 1), (PRL_BDID_ID, 5), (PRL_TREE_PARENT, 3), (PRL_STAT_LSTATE 3, 4)]; decide ((s.bit (PRL_ALIGN_TRACK n) = true) ∧ (s.bit (PRL_ALIGN_ALIGNED n) = true) ∧ (s.me ≠ 0) ∧ (s.plState (s.get PRL_TREE_PARENT) = 4))) &&
    (let n : Fin 4 := 2; let s : State := puts (State.reset) [(PRL_ALIGN_TRACK 2, 0)]; decide ((s.bit (PRL_ALIGN_TRACK n) = false ∨ s.bit (PRL_ALIGN_ALIGNED n) = false ∨ s.me = 0))) &&
    (let p : Fin 4 := 3; let src : Nat := 9; let rest : List (Nat × LinkItem) := []; let s : State := ((puts (State.reset) []).modPl 3 (fun x => { x with inbox := [(9, .probedata [])] })).modPl 3 (fun x => { x with meas := some ⟨1, 0, 3, 2, 2, 2, [5, 6], [8, 9], false, 0, false, []⟩ }); let st : List (Nat × Nat) := []; let m : Meas := ⟨1, 0, 3, 2, 2, 2, [5, 6], [8, 9], false, 0, false, []⟩; decide (((s.pl p).inbox = (src, .probedata st) :: rest) ∧ ((s.pl p).meas = some m) ∧ (m.phase = 2) ∧ (m.spoilt = true ∨ st.length ≠ m.n) ∧ (m.spoilt = false ∨ 3 ≤ m.tries))) &&
    (let p : Fin 4 := 3; let src : Nat := 9; let rest : List (Nat × LinkItem) := []; let s : State := ((puts (State.reset) []).modPl 3 (fun x => { x with inbox := [(9, .probedata [])] })).modPl 3 (fun x => { x with meas := some ⟨1, 1, 3, 2, 2, 2, [5, 6], [8, 9], true, 2, false, []⟩ }); let st : List (Nat × Nat) := []; let m : Meas := ⟨1, 1, 3, 2, 2, 2, [5, 6], [8, 9], true, 2, false, []⟩; decide (((s.pl p).inbox = (src, .probedata st) :: rest) ∧ ((s.pl p).meas = some m) ∧ (m.phase = 2) ∧ (m.spoilt = true) ∧ (m.tries < 3))) &&
    (let p : Fin 4 := 3; let src : Nat := 9; let rest : List (Nat × LinkItem) := []; let s : State := ((puts (State.reset) []).modPl 3 (fun x => { x with inbox := [(9, .probedata [(6, 7), (7, 8)])] })).modPl 3 (fun x => { x with meas := some ⟨1, 0, 3, 2, 2, 2, [5, 6], [8, 9], false, 0, false, []⟩ }); let st : List (Nat × Nat) := [(6, 7), (7, 8)]; let m : Meas := ⟨1, 0, 3, 2, 2, 2, [5, 6], [8, 9], false, 0, false, []⟩; decide (((s.pl p).inbox = (src, .probedata st) :: rest) ∧ ((s.pl p).meas = some m) ∧ (m.phase = 2) ∧ (m.spoilt = false) ∧ (st.length = m.n) ∧ (¬ (16 * (m.n : Int) * m.n < (m.n : Int) * (batchSums m.tx m.rx st).sxx - (batchSums m.tx m.rx st).sx * (batchSums m.tx m.rx st).sx)))) &&
    (let p : Fin 5 := 3; let src : Nat := 9; let rest : List (Nat × LinkItem) := []; let s : State := ((puts (State.reset) []).modPl 3 (fun x => { x with inbox := [(9, .clap 7 1 256 3 1)] })).modRoot 1 (fun r => { r with tb := 0 }); let org : Nat := 7; let root : Nat := 1; let tt : Nat := 256; let tag : Nat := 3; let mask : Nat := 1; decide (((s.pl p).inbox = (src, .clap org root tt tag mask) :: rest) ∧ (mask / 2 ^ s.me % 2 = 1) ∧ (((s.root root).tb : Int) + 256 ≤ nearCount (s.root root).tb tt))) &&
    (let p : Fin 5 := 3; let src : Nat := 9; let rest : List (Nat × LinkItem) := []; let s : State := ((puts (State.reset) []).modPl 3 (fun x => { x with inbox := [(9, .clap 7 1 255 3 1)] })).modRoot 1 (fun r => { r with tb := 0 }); let org : Nat := 7; let root : Nat := 1; let tt : Nat := 255; let tag : Nat := 3; let mask : Nat := 1; decide (((s.pl p).inbox = (src, .clap org root tt tag mask) :: rest) ∧ (mask / 2 ^ s.me % 2 = 1) ∧ (nearCount (s.root root).tb tt < ((s.root root).tb : Int) + 256))) &&
    (let p : Fin 5 := 3; let src : Nat := 9; let rest : List (Nat × LinkItem) := []; let s : State := ((puts (State.reset) []).modPl 3 (fun x => { x with inbox := [(9, .clap 7 1 256 3 2)] })); let org : Nat := 7; let root : Nat := 1; let tt : Nat := 256; let tag : Nat := 3; let mask : Nat := 2; decide (((s.pl p).inbox = (src, .clap org root tt tag mask) :: rest) ∧ (mask / 2 ^ s.me % 2 = 0))) &&
    (let p : Fin 5 := 3; let src : Nat := 9; let rest : List (Nat × LinkItem) := []; let s : State := { ((puts (State.reset) []).modPl 3 (fun x => { x with inbox := [(9, .clapack 15 6 Code.CLAP_LATE)] })) with board := { (State.reset).board with reqs := [⟨.none, 7, 2, 5000, 3, 1, 0, 0⟩, ⟨.none, 6, 2, 5000, 32771, 1, 0, 0⟩] } }; let dev : Nat := 15; let tag : Nat := 6; let code : Nat := Code.CLAP_LATE; let q : ClapReq := ⟨.none, 6, 2, 5000, 32771, 1, 0, 0⟩; decide (((s.pl p).inbox = (src, .clapack dev tag code) :: rest) ∧ (s.board.reqs.find? (fun r => r.tag == tag) = some q) ∧ (q.targets / 2 ^ dev % 2 = 1) ∧ (q.answered / 2 ^ dev % 2 = 0) ∧ (q.answered + 2 ^ dev ≠ q.targets))) &&
    (let p : Fin 5 := 3; let src : Nat := 9; let rest : List (Nat × LinkItem) := []; let s : State := { ((puts (State.reset) []).modPl 3 (fun x => { x with inbox := [(9, .clapack 1 6 Code.OK)] })) with board := { (State.reset).board with reqs := [⟨.flow 63 5, 6, 2, 5000, 3, 1, 0, 0⟩] }, flows := [(63, { Flow.init with cmds := [⟨5, 9, 0x0403, .started, 0, 0, 0, false, false, 0, false, false, 0, 0, none⟩] })] }; let dev : Nat := 1; let tag : Nat := 6; let code : Nat := Code.OK; let q : ClapReq := ⟨.flow 63 5, 6, 2, 5000, 3, 1, 0, 0⟩; let f : Nat := 63; let c : Nat := 5; let a : List Cmd := []; let b : List Cmd := []; let k : Cmd := ⟨5, 9, 0x0403, .started, 0, 0, 0, false, false, 0, false, false, 0, 0, none⟩; decide (((s.pl p).inbox = (src, .clapack dev tag code) :: rest) ∧ (s.board.reqs.find? (fun r => r.tag == tag) = some q) ∧ (q.targets / 2 ^ dev % 2 = 1) ∧ (q.answered / 2 ^ dev % 2 = 0) ∧ (q.answered + 2 ^ dev = q.targets) ∧ (q.src = .flow f c) ∧ (code = Code.OK) ∧ (q.late = 0) ∧ (q.voided = 0) ∧ ((s.flow f).cmds = a ++ k :: b) ∧ (∀ x ∈ a ++ b, x.id ≠ c) ∧ (k.id = c) ∧ (k.st = .started) ∧ (k.orphan = false))) &&
    (let n : Fin 4 := 2; let T : Nat := 0xABCD12345678; let s : State := { (puts (State.reset) [(SYN_RCTRL_ARM 2, 0)]).modRoot 2 (fun r => { r with tclk := true }) with board := { (State.reset).board with claps := [⟨2, 0xABCD12345678, 0, 8⟩] } }; decide ((s.nextClap n = some T) ∧ ((s.root n).tclk = true))) &&
    (let n : Fin 4 := 2; let s : State := { puts (State.reset) [] with board := { (State.reset).board with claps := [⟨1, 5, 0, 8⟩] } }; decide ((s.nextClap n = none ∨ (s.root n).tclk = false))) &&
    (let tag : Nat := 6; let q : ClapReq := ⟨.flow 63 5, 6, 2, 5000, 3, 1, 0, 0⟩; let f : Nat := 63; let c : Nat := 5; let a : List Cmd := []; let b : List Cmd := []; let k : Cmd := ⟨5, 9, 0x0403, .started, 0, 0, 0, false, false, 0, false, false, 0, 0, none⟩; let s : State := { ((State.reset).modFlow 63 (fun x => { x with cmds := [⟨5, 9, 0x0403, .started, 0, 0, 0, false, false, 0, false, false, 0, 0, none⟩] })) with board := { (State.reset).board with reqs := [⟨.none, 7, 2, 5000, 3, 1, 0, 0⟩, ⟨.flow 63 5, 6, 2, 5000, 3, 1, 0, 0⟩] } }; decide ((s.board.reqs.find? (fun r => r.tag == tag) = some q) ∧ (q.src = .flow f c) ∧ ((s.flow f).cmds = a ++ k :: b) ∧ (∀ x ∈ a ++ b, x.id ≠ c) ∧ (k.id = c) ∧ (k.st = .started) ∧ (k.orphan = false) ∧ (q.answered ≠ q.targets))) &&
    (let tag : Nat := 6; let s : State := { (State.reset) with board := { (State.reset).board with reqs := [] } }; decide ((s.board.reqs.find? (fun r => r.tag == tag) = none)))) = true := by decide +kernel

theorem witness_BoardCommandsAndItems :
    ((let p : Fin 5 := 4; let src : Nat := 0; let rest : List (Nat × LinkItem) := []; let s : State := ((puts (State.reset) [(PRL_BDID_ID, 0)]).modPl 4 (fun x => { x with inbox := [(0, .xhopprep 1 9 6)] })); let root : Nat := 1; let preset : Nat := 9; let tag : Nat := 6; decide (((s.pl p).inbox = (src, .xhopprep root preset tag) :: rest) ∧ (src = s.me))) &&
    (let p : Fin 5 := 3; let src : Nat := 2; let rest : List (Nat × LinkItem) := []; let s : State := ((puts (State.reset) [(PRL_BDID_ID, 1), (PRL_ENUM_TOPO, 1), (PRL_ENUM_NDEV, 3), (PRL_STAT_LSTATE 1, 4)]).modPl 3 (fun x => { x with inbox := [(2, .xhopprep 1 9 6)] })); let root : Nat := 1; let preset : Nat := 9; let tag : Nat := 6; let q : Fin 4 := 1; decide (((s.pl p).inbox = (src, .xhopprep root preset tag) :: rest) ∧ (src ≠ s.me) ∧ (s.portTo src = some q.val))) &&
    (let p : Fin 5 := 3; let src : Nat := 9; let rest : List (Nat × LinkItem) := []; let s : State := ((puts (State.reset) []).modPl 3 (fun x => { x with inbox := [(9, .xhopgo 1 9 500 6)] })).modRoot 1 (fun r => { r with hop := none, pend := none, st := stLocked, lock := true }); let root : Nat := 1; let preset : Nat := 9; let tt : Nat := 500; let tag : Nat := 6; decide (((s.pl p).inbox = (src, .xhopgo root preset tt tag) :: rest) ∧ (s.isLocked root = true) ∧ ((s.root root).hop = none) ∧ ((s.root root).pend = none))) &&
    (let p : Fin 5 := 3; let src : Nat := 9; let rest : List (Nat × LinkItem) := []; let s : State := ((puts (State.reset) []).modPl 3 (fun x => { x with inbox := [(9, .xhopgo 1 9 500 6)] })).modRoot 1 (fun r => { r with hop := none, pend := none, st := stSearch }); let root : Nat := 1; let preset : Nat := 9; let tt : Nat := 500; let tag : Nat := 6; decide (((s.pl p).inbox = (src, .xhopgo root preset tt tag) :: rest) ∧ (s.isLocked root = false ∨ (s.root root).hop ≠ none) ∧ ((s.root root).pend = none))) &&
    (let p : Fin 5 := 3; let src : Nat := 9; let rest : List (Nat × LinkItem) := []; let s : State := { ((puts (State.reset) []).modPl 3 (fun x => { x with inbox := [(9, .xhopack 3 6 77)] })) with board := { (State.reset).board with xhops := [⟨63, 5, 6, 1, 9, 9, 0, none, 0, false⟩] }, flows := [(63, { Flow.init with cmds := [⟨5, 9, 0x0404, .started, 0, 0, 0, false, false, 0, false, false, 0, 0, none⟩] })] }; let dev : Nat := 3; let tag : Nat := 6; let code : Nat := 77; let x : XHopRun := ⟨63, 5, 6, 1, 9, 9, 0, none, 0, false⟩; decide (((s.pl p).inbox = (src, .xhopack dev tag code) :: rest) ∧ (s.board.xhops.find? (fun y => y.tag == tag) = some x) ∧ (x.targets / 2 ^ dev % 2 = 1) ∧ (x.answered / 2 ^ dev % 2 = 0) ∧ (x.answered + 2 ^ dev ≠ x.targets))) &&
    (let p : Fin 5 := 3; let src : Nat := 9; let rest : List (Nat × LinkItem) := []; let s : State := { ((puts (State.reset) []).modPl 3 (fun x => { x with inbox := [(9, .xhopack 3 6 Code.OK)] })) with board := { (State.reset).board with xhops := [⟨63, 5, 6, 1, 9, 9, 1, none, 0, false⟩] }, flows := [(63, { Flow.init with cmds := [⟨5, 9, 0x0404, .started, 0, 0, 0, false, false, 0, false, false, 0, 0, none⟩] })] }; let dev : Nat := 3; let tag : Nat := 6; let code : Nat := Code.OK; let x : XHopRun := ⟨63, 5, 6, 1, 9, 9, 1, none, 0, false⟩; decide (((s.pl p).inbox = (src, .xhopack dev tag code) :: rest) ∧ (s.board.xhops.find? (fun y => y.tag == tag) = some x) ∧ (x.targets / 2 ^ dev % 2 = 1) ∧ (x.answered / 2 ^ dev % 2 = 0) ∧ (x.answered + 2 ^ dev = x.targets) ∧ (code = Code.OK) ∧ (x.went = false) ∧ (x.refuser = none))) &&
    (let p : Fin 5 := 3; let src : Nat := 9; let rest : List (Nat × LinkItem) := []; let s : State := { ((puts (State.reset) []).modPl 3 (fun x => { x with inbox := [(9, .xhopack 3 6 77)] })) with board := { (State.reset).board with xhops := [⟨63, 5, 6, 1, 9, 9, 1, none, 0, false⟩] }, flows := [(63, { Flow.init with cmds := [⟨5, 9, 0x0404, .started, 0, 0, 0, false, false, 0, false, false, 0, 0, none⟩] })] }; let dev : Nat := 3; let tag : Nat := 6; let code : Nat := 77; let x : XHopRun := ⟨63, 5, 6, 1, 9, 9, 1, none, 0, false⟩; let a : List Cmd := []; let b : List Cmd := []; let k : Cmd := ⟨5, 9, 0x0404, .started, 0, 0, 0, false, false, 0, false, false, 0, 0, none⟩; decide (((s.pl p).inbox = (src, .xhopack dev tag code) :: rest) ∧ (s.board.xhops.find? (fun y => y.tag == tag) = some x) ∧ (x.targets / 2 ^ dev % 2 = 1) ∧ (x.answered / 2 ^ dev % 2 = 0) ∧ ((s.flow x.f).cmds = a ++ k :: b) ∧ (∀ y ∈ a ++ b, y.id ≠ x.c) ∧ (k.id = x.c) ∧ (k.st = .started) ∧ (k.orphan = false) ∧ (x.answered + 2 ^ dev = x.targets) ∧ (x.went = false) ∧ (code ≠ Code.OK) ∧ (x.refuser = none))) &&
    (let p : Fin 5 := 3; let src : Nat := 9; let rest : List (Nat × LinkItem) := []; let s : State := { ((puts (State.reset) []).modPl 3 (fun x => { x with inbox := [(9, .xhopack 3 6 Code.OK)] })) with board := { (State.reset).board with xhops := [⟨63, 5, 6, 1, 9, 9, 1, none, 0, true⟩] }, flows := [(63, { Flow.init with cmds := [⟨5, 9, 0x0404, .started, 0, 0, 0, false, false, 0, false, false, 0, 0, none⟩] })] }; let dev : Nat := 3; let tag : Nat := 6; let code : Nat := Code.OK; let x : XHopRun := ⟨63, 5, 6, 1, 9, 9, 1, none, 0, true⟩; let a : List Cmd := []; let b : List Cmd := []; let k : Cmd := ⟨5, 9, 0x0404, .started, 0, 0, 0, false, false, 0, false, false, 0, 0, none⟩; decide (((s.pl p).inbox = (src, .xhopack dev tag code) :: rest) ∧ (s.board.xhops.find? (fun y => y.tag == tag) = some x) ∧ (x.targets / 2 ^ dev % 2 = 1) ∧ (x.answered / 2 ^ dev % 2 = 0) ∧ ((s.flow x.f).cmds = a ++ k :: b) ∧ (∀ y ∈ a ++ b, y.id ≠ x.c) ∧ (k.id = x.c) ∧ (k.st = .started) ∧ (k.orphan = false) ∧ (x.answered + 2 ^ dev = x.targets) ∧ (x.went = true) ∧ (code = Code.OK))) &&
    (let p : Fin 5 := 4; let src : Nat := 0; let rest : List (Nat × LinkItem) := []; let s : State := ((puts (State.reset) [(PRL_BDID_ID, 0), (PRL_ALIGN_ALIGNED 1, 0)]).modPl 4 (fun x => { x with inbox := [(0, .xtakearm 1 200 6 0)] })); let root : Nat := 1; let k : Nat := 200; let tag : Nat := 6; let idx : Nat := 0; decide (((s.pl p).inbox = (src, .xtakearm root k tag idx) :: rest) ∧ (s.bit (PRL_ALIGN_ALIGNED root) = false) ∧ (src = s.me))) &&
    (let p : Fin 5 := 4; let src : Nat := 0; let rest : List (Nat × LinkItem) := []; let s : State := { ((puts (State.reset) [(PRL_ALIGN_ALIGNED 1, 1), (CH_TAKE_JOIN 321, 1), (CH_TAKE_TAKE 321, 200)]).modPl 4 (fun x => { x with inbox := [(0, .xtakearm 1 200 6 0)] })) with regQ := [321] }; let root : Nat := 1; let k : Nat := 200; let tag : Nat := 6; let idx : Nat := 0; decide (((s.pl p).inbox = (src, .xtakearm root k tag idx) :: rest) ∧ (s.bit (PRL_ALIGN_ALIGNED root) = true) ∧ (k < 256) ∧ ((s.take k).waitArm = none) ∧ (s.takeBusy k = false) ∧ (s.solvesQueued k = true))) &&
    (let p : Fin 5 := 4; let src : Nat := 0; let rest : List (Nat × LinkItem) := []; let s : State := ((puts (State.reset) [(PRL_BDID_ID, 0), (PRL_ALIGN_ALIGNED 2, 1), (BNK_STAT_ROOTACT 5, 1), (CH_TAKE_JOIN 321, 1), (CH_TAKE_TAKE 321, 200)]).modPl 4 (fun x => { x with inbox := [(0, .xtakearm 2 200 6 0)] })); let root : Nat := 2; let k : Nat := 200; let tag : Nat := 6; let idx : Nat := 0; decide (((s.pl p).inbox = (src, .xtakearm root k tag idx) :: rest) ∧ (s.bit (PRL_ALIGN_ALIGNED root) = true) ∧ (src = s.me) ∧ (k < 256) ∧ ((s.take k).waitArm = none) ∧ (s.solvesQueued k = false) ∧ (s.armCheck k { src := .xtake src tag idx, group := none, wait := false, root := some root } ≠ Code.OK))) &&
    (let p : Fin 5 := 4; let src : Nat := 0; let rest : List (Nat × LinkItem) := []; let s : State := ((puts (State.reset) [(PRL_BDID_ID, 0), (PRL_ALIGN_ALIGNED 1, 1), (BNK_STAT_ROOTACT 5, 1), (CH_TAKE_JOIN 321, 1), (CH_TAKE_TAKE 321, 200)]).modPl 4 (fun x => { x with inbox := [(0, .xtakearm 1 200 6 0)] })); let root : Nat := 1; let k : Nat := 200; let tag : Nat := 6; let idx : Nat := 0; decide (((s.pl p).inbox = (src, .xtakearm root k tag idx) :: rest) ∧ (s.bit (PRL_ALIGN_ALIGNED root) = true) ∧ (src = s.me) ∧ (k < 256) ∧ ((s.take k).waitArm = none) ∧ (s.takeBusy k = false) ∧ (s.solvesQueued k = false) ∧ (s.armCheck k { src := .xtake src tag idx, group := none, wait := false, root := some root } = Code.OK))) &&
    (let p : Fin 5 := 3; let src : Nat := 9; let rest : List (Nat × LinkItem) := []; let s : State := { ((puts (State.reset) []).modPl 3 (fun x => { x with inbox := [(9, .xtakedone 3 6 1 9 true false [5])] })) with board := { (State.reset).board with xtakes := [⟨63, 5, 6, 1, [(0, 200), (3, 7)], [some 0, some 0], [some 0, some 0], true, some 500, [none, none]⟩] } }; let dev : Nat := 3; let tag : Nat := 6; let idx : Nat := 1; let code : Nat := 9; let taint : Bool := true; let voided : Bool := false; let records : List Nat := [5]; let x : XTakeRun := ⟨63, 5, 6, 1, [(0, 200), (3, 7)], [some 0, some 0], [some 0, some 0], true, some 500, [none, none]⟩; decide (((s.pl p).inbox = (src, .xtakedone dev tag idx code taint voided records) :: rest) ∧ (s.board.xtakes.find? (fun y => y.tag == tag) = some x) ∧ (x.t.isSome = true) ∧ ((x.dones.set idx (some ⟨code, taint, voided, records⟩)).all (fun d => d.isSome) = false))) &&
    (let p : Fin 5 := 3; let src : Nat := 9; let rest : List (Nat × LinkItem) := []; let s : State := { ((puts (State.reset) []).modPl 3 (fun x => { x with inbox := [(9, .xtakedone 3 6 0 9 true true [5, 7])] })) with board := { (State.reset).board with xtakes := [⟨63, 5, 6, 1, [(3, 7)], [some 0], [some 0], true, some 500, [none]⟩] }, ep := { (State.reset).ep with bme := true }, flows := [(63, { Flow.init with cmds := [⟨5, 9, 0x0405 + 0x1000 * 2 ^ 64 + 32 * 2 ^ 128, .started, 0, 0, 0, false, false, 0, false, false, 0, 0, none⟩] })] }; let dev : Nat := 3; let tag : Nat := 6; let idx : Nat := 0; let code : Nat := 9; let taint : Bool := true; let voided : Bool := true; let records : List Nat := [5, 7]; let x : XTakeRun := ⟨63, 5, 6, 1, [(3, 7)], [some 0], [some 0], true, some 500, [none]⟩; let a : List Cmd := []; let b : List Cmd := []; let k : Cmd := ⟨5, 9, 0x0405 + 0x1000 * 2 ^ 64 + 32 * 2 ^ 128, .started, 0, 0, 0, false, false, 0, false, false, 0, 0, none⟩; decide (((s.pl p).inbox = (src, .xtakedone dev tag idx code taint voided records) :: rest) ∧ (s.board.xtakes.find? (fun y => y.tag == tag) = some x) ∧ (x.t.isSome = true) ∧ (x.dones = [none]) ∧ (idx = 0) ∧ (s.dmaOn = true) ∧ ((s.flow x.f).cmds = a ++ k :: b) ∧ (∀ y ∈ a ++ b, y.id ≠ x.c) ∧ (k.id = x.c) ∧ (k.st = .started) ∧ (k.orphan = false) ∧ (bufOk k.entry (16 * records.length) = true))) &&
    (let p : Fin 5 := 3; let src : Nat := 9; let rest : List (Nat × LinkItem) := []; let s : State := ((puts (State.reset) []).modPl 3 (fun x => { x with inbox := [(9, .message (.other 7))] })); let m : FwMsg := .other 7; decide (((s.pl p).inbox = (src, .message m) :: rest))) &&
    (let p : Fin 5 := 3; let src : Nat := 9; let rest : List (Nat × LinkItem) := []; let s : State := ((puts (State.reset) []).modPl 3 (fun x => { x with inbox := [(9, .message (.probeBegin 2))] })); let root : Nat := 2; decide (((s.pl p).inbox = (src, .message (.probeBegin root)) :: rest) ∧ (p.val < 4) ∧ (root < 4))) &&
    (let p : Fin 5 := 3; let src : Nat := 9; let rest : List (Nat × LinkItem) := []; let s : State := ((puts (State.reset) [(PRL_ALIGN_ALIGNING 2, 1)]).modPl 3 (fun x => { x with inbox := [(9, .message (.measOver 2))] })).modPl 3 (fun x => { x with child := some 2 }); let root : Nat := 2; let r : Nat := 2; decide (((s.pl p).inbox = (src, .message (.measOver r)) :: rest) ∧ ((s.pl p).child = some root) ∧ (root < 4))) &&
    (let p : Fin 5 := 4; let src : Nat := 0; let rest : List (Nat × LinkItem) := []; let s : State := ((puts (State.reset) [(PRL_BDID_ID, 0), (PRL_ALIGN_ALIGNED 2, 1)]).modPl 4 (fun x => { x with inbox := [(0, .message (.alignedAsk 2 6 0))] })); let root : Nat := 2; let tag : Nat := 6; let idx : Nat := 0; decide (((s.pl p).inbox = (src, .message (.alignedAsk root tag idx)) :: rest) ∧ (src = s.me))) &&
    (let p : Fin 5 := 3; let src : Nat := 9; let rest : List (Nat × LinkItem) := []; let s : State := { ((puts (State.reset) [(PRL_STAT_LSTATE 3, 4)]).modPl 3 (fun x => { x with inbox := [(9, .message (.gather 2 6))] })) with board := { (State.reset).board with gathers := [⟨2, 6, none, [], [], [], true⟩] } }; let org : Nat := 2; let tag : Nat := 6; decide (((s.pl p).inbox = (src, .message (.gather org tag)) :: rest) ∧ ((s.gatherOf org tag).isSome = true))) &&
    (let p : Fin 5 := 3; let src : Nat := 9; let rest : List (Nat × LinkItem) := []; let s : State := { ((puts (State.reset) [(PRL_STAT_LSTATE 3, 4), (PRL_STAT_IDENT 3, 1), (PRL_STAT_IDENT 2, 0), (PRL_STAT_IDENT 1, 0), (PRL_STAT_IDENT 0, 0), (PRL_BDID_ID, 5)]).modPl 3 (fun x => { x with inbox := [(9, .message (.gather 2 6))] })) with board := { (State.reset).board with gathers := [] } }; let org : Nat := 2; let tag : Nat := 6; decide (((s.pl p).inbox = (src, .message (.gather org tag)) :: rest) ∧ ((s.gatherOf org tag) = none) ∧ (s.me ≠ 0) ∧ (s.identPorts = [p.val]))) &&
    (let f : Fin 64 := 63; let c : Nat := 5; let a : List Cmd := [(⟨4, 8, 0x0200, .started, 0, 0, 0, false, false, 0, false, false, 0, 0, none⟩ : Cmd)]; let b : List Cmd := [(⟨6, 10, 0x0110, .waiting, 0, 0, 0, false, false, 0, false, false, 0, 0, none⟩ : Cmd)]; let k : Cmd := (⟨5, 9, (0x0400), .running, 0, 0, 0, false, false, 0, false, false, 0, 0, none⟩ : Cmd); let s : State := ((puts (State.reset) [(PRL_BDID_ID, 3), (PRL_STAT_IDENT 3, 0), (PRL_STAT_IDENT 2, 0), (PRL_STAT_IDENT 1, 0), (PRL_STAT_IDENT 0, 0)]).modFlow 63 (fun x => { x with cmds := [(⟨4, 8, 0x0200, .started, 0, 0, 0, false, false, 0, false, false, 0, 0, none⟩ : Cmd), (⟨5, 9, (0x0400), .running, 0, 0, 0, false, false, 0, false, false, 0, 0, none⟩ : Cmd), (⟨6, 10, 0x0110, .waiting, 0, 0, 0, false, false, 0, false, false, 0, 0, none⟩ : Cmd)] })); decide ((Runs s f c 0x0400 a b k) ∧ (s.me ≠ 0) ∧ (s.board.enums = []) ∧ (s.identPorts = []))) &&
    (let f : Fin 64 := 63; let c : Nat := 5; let a : List Cmd := [(⟨4, 8, 0x0200, .started, 0, 0, 0, false, false, 0, false, false, 0, 0, none⟩ : Cmd)]; let b : List Cmd := [(⟨6, 10, 0x0110, .waiting, 0, 0, 0, false, false, 0, false, false, 0, 0, none⟩ : Cmd)]; let k : Cmd := (⟨5, 9, (0x0400), .running, 0, 0, 0, false, false, 0, false, false, 0, 0, none⟩ : Cmd); let s : State := ((puts (State.reset) [(PRL_BDID_ID, 0), (PRL_STAT_IDENT 3, 0), (PRL_STAT_IDENT 2, 0), (PRL_STAT_IDENT 1, 0), (PRL_STAT_IDENT 0, 0)]).modFlow 63 (fun x => { x with cmds := [(⟨4, 8, 0x0200, .started, 0, 0, 0, false, false, 0, false, false, 0, 0, none⟩ : Cmd), (⟨5, 9, (0x0400), .running, 0, 0, 0, false, false, 0, false, false, 0, 0, none⟩ : Cmd), (⟨6, 10, 0x0110, .waiting, 0, 0, 0, false, false, 0, false, false, 0, 0, none⟩ : Cmd)] })); decide ((Runs s f c 0x0400 a b k) ∧ (s.me = 0) ∧ (s.board.enums = []) ∧ (s.identPorts = []) ∧ (s.board.gathers.any (fun g => g.org == 0 && !g.ended) = false))) &&
    (let f : Fin 64 := 63; let c : Nat := 5; let a : List Cmd := [(⟨4, 8, 0x0200, .started, 0, 0, 0, false, false, 0, false, false, 0, 0, none⟩ : Cmd)]; let b : List Cmd := [(⟨6, 10, 0x0110, .waiting, 0, 0, 0, false, false, 0, false, false, 0, 0, none⟩ : Cmd)]; let k : Cmd := (⟨5, 9, (0x0400), .running, 0, 0, 0, false, false, 0, false, false, 0, 0, none⟩ : Cmd); let s : State := ((puts (State.reset) [(PRL_BDID_ID, 3), (PRL_STAT_IDENT 2, 1), (PRL_STAT_LSTATE 2, 4)]).modFlow 63 (fun x => { x with cmds := [(⟨4, 8, 0x0200, .started, 0, 0, 0, false, false, 0, false, false, 0, 0, none⟩ : Cmd), (⟨5, 9, (0x0400), .running, 0, 0, 0, false, false, 0, false, false, 0, 0, none⟩ : Cmd), (⟨6, 10, 0x0110, .waiting, 0, 0, 0, false, false, 0, false, false, 0, 0, none⟩ : Cmd)] })); decide ((Runs s f c 0x0400 a b k) ∧ (s.me ≠ 0) ∧ (s.identPorts.filter (fun p => s.linkServes p) ≠ []))) &&
    (let f : Fin 64 := 63; let c : Nat := 5; let a : List Cmd := [(⟨4, 8, 0x0200, .started, 0, 0, 0, false, false, 0, false, false, 0, 0, none⟩ : Cmd)]; let b : List Cmd := [(⟨6, 10, 0x0110, .waiting, 0, 0, 0, false, false, 0, false, false, 0, 0, none⟩ : Cmd)]; let k : Cmd := (⟨5, 9, (0x0401 + 2 * 2 ^ 160), .running, 0, 0, 0, false, false, 0, false, false, 0, 0, none⟩ : Cmd); let s : State := ((puts (State.reset) [(PRL_BDID_ID, 3), (GLB_MODE_ALIGNHOST, 0)]).modFlow 63 (fun x => { x with cmds := [(⟨4, 8, 0x0200, .started, 0, 0, 0, false, false, 0, false, false, 0, 0, none⟩ : Cmd), (⟨5, 9, (0x0401 + 2 * 2 ^ 160), .running, 0, 0, 0, false, false, 0, false, false, 0, 0, none⟩ : Cmd), (⟨6, 10, 0x0110, .waiting, 0, 0, 0, false, false, 0, false, false, 0, 0, none⟩ : Cmd)] })); decide ((Runs s f c 0x0401 a b k) ∧ ((ent k.entry 20 1) < 4) ∧ (s.bit GLB_MODE_ALIGNHOST = false ∨ bufOk k.entry (32 * (s.devices.length - 1)) = true) ∧ (s.me ≠ 0))) &&
    (let f : Fin 64 := 63; let c : Nat := 5; let a : List Cmd := [(⟨4, 8, 0x0200, .started, 0, 0, 0, false, false, 0, false, false, 0, 0, none⟩ : Cmd)]; let b : List Cmd := [(⟨6, 10, 0x0110, .waiting, 0, 0, 0, false, false, 0, false, false, 0, 0, none⟩ : Cmd)]; let k : Cmd := (⟨5, 9, (0x0401 + 4 * 2 ^ 160), .running, 0, 0, 0, false, false, 0, false, false, 0, 0, none⟩ : Cmd); let s : State := ((puts (State.reset) [(PRL_BDID_ID, 3)]).modFlow 63 (fun x => { x with cmds := [(⟨4, 8, 0x0200, .started, 0, 0, 0, false, false, 0, false, false, 0, 0, none⟩ : Cmd), (⟨5, 9, (0x0401 + 4 * 2 ^ 160), .running, 0, 0, 0, false, false, 0, false, false, 0, 0, none⟩ : Cmd), (⟨6, 10, 0x0110, .waiting, 0, 0, 0, false, false, 0, false, false, 0, 0, none⟩ : Cmd)] })); decide ((Runs s f c 0x0401 a b k) ∧ (4 ≤ (ent k.entry 20 1) ∨ (s.bit GLB_MODE_ALIGNHOST = true ∧ bufOk k.entry (32 * (s.devices.length - 1)) = false)))) &&
    (let f : Fin 64 := 63; let c : Nat := 5; let a : List Cmd := [(⟨4, 8, 0x0200, .started, 0, 0, 0, false, false, 0, false, false, 0, 0, none⟩ : Cmd)]; let b : List Cmd := [(⟨6, 10, 0x0110, .waiting, 0, 0, 0, false, false, 0, false, false, 0, 0, none⟩ : Cmd)]; let k : Cmd := (⟨5, 9, (0x0401 + 2 * 2 ^ 160), .running, 0, 0, 0, false, false, 0, false, false, 0, 0, none⟩ : Cmd); let s : State := ((puts (State.reset) [(PRL_BDID_ID, 0), (GLB_MODE_ALIGNHOST, 0), (PRL_MAP_PRESENT, 0), (SYN_FLAGS_TBSLIP 2, 1)]).modFlow 63 (fun x => { x with cmds := [(⟨4, 8, 0x0200, .started, 0, 0, 0, false, false, 0, false, false, 0, 0, none⟩ : Cmd), (⟨5, 9, (0x0401 + 2 * 2 ^ 160), .running, 0, 0, 0, false, false, 0, false, false, 0, 0, none⟩ : Cmd), (⟨6, 10, 0x0110, .waiting, 0, 0, 0, false, false, 0, false, false, 0, 0, none⟩ : Cmd)] })); decide ((Runs s f c 0x0401 a b k) ∧ ((ent k.entry 20 1) < 4) ∧ (s.bit GLB_MODE_ALIGNHOST = false) ∧ (s.me = 0) ∧ (s.alignOrder = []))) &&
    (let f : Fin 64 := 63; let c : Nat := 5; let a : List Cmd := [(⟨4, 8, 0x0200, .started, 0, 0, 0, false, false, 0, false, false, 0, 0, none⟩ : Cmd)]; let b : List Cmd := [(⟨6, 10, 0x0110, .waiting, 0, 0, 0, false, false, 0, false, false, 0, 0, none⟩ : Cmd)]; let k : Cmd := (⟨5, 9, (0x0401 + 2 * 2 ^ 160), .running, 0, 0, 0, false, false, 0, false, false, 0, 0, none⟩ : Cmd); let s : State := ((puts (State.reset) [(PRL_BDID_ID, 0), (GLB_MODE_ALIGNHOST, 0), (PRL_MAP_PRESENT, 7), (PRL_ENUM_TOPO, 1), (PRL_ENUM_NDEV, 3), (PRL_STAT_LSTATE 1, 4)]).modFlow 63 (fun x => { x with cmds := [(⟨4, 8, 0x0200, .started, 0, 0, 0, false, false, 0, false, false, 0, 0, none⟩ : Cmd), (⟨5, 9, (0x0401 + 2 * 2 ^ 160), .running, 0, 0, 0, false, false, 0, false, false, 0, 0, none⟩ : Cmd), (⟨6, 10, 0x0110, .waiting, 0, 0, 0, false, false, 0, false, false, 0, 0, none⟩ : Cmd)] })); let d : Nat := 1; let ds : List Nat := [2]; decide ((Runs s f c 0x0401 a b k) ∧ ((ent k.entry 20 1) < 4) ∧ (s.bit GLB_MODE_ALIGNHOST = false) ∧ (s.me = 0) ∧ (s.alignOrder = d :: ds) ∧ (k.cancel = false))) &&
    (let f : Fin 64 := 63; let c : Nat := 5; let a : List Cmd := [(⟨4, 8, 0x0200, .started, 0, 0, 0, false, false, 0, false, false, 0, 0, none⟩ : Cmd)]; let b : List Cmd := [(⟨6, 10, 0x0110, .waiting, 0, 0, 0, false, false, 0, false, false, 0, 0, none⟩ : Cmd)]; let k : Cmd := (⟨5, 9, (0x0402 + 2 * 2 ^ 160), .running, 0, 0, 0, false, false, 0, false, false, 0, 0, none⟩ : Cmd); let s : State := ((puts (State.reset) [(SYN_FLAGS_TBSLIP 2, 1)]).modFlow 63 (fun x => { x with cmds := [(⟨4, 8, 0x0200, .started, 0, 0, 0, false, false, 0, false, false, 0, 0, none⟩ : Cmd), (⟨5, 9, (0x0402 + 2 * 2 ^ 160), .running, 0, 0, 0, false, false, 0, false, false, 0, 0, none⟩ : Cmd), (⟨6, 10, 0x0110, .waiting, 0, 0, 0, false, false, 0, false, false, 0, 0, none⟩ : Cmd)] })); decide ((Runs s f c 0x0402 a b k) ∧ ((ent k.entry 20 1) < 4))) &&
    (let f : Fin 64 := 63; let c : Nat := 5; let a : List Cmd := [(⟨4, 8, 0x0200, .started, 0, 0, 0, false, false, 0, false, false, 0, 0, none⟩ : Cmd)]; let b : List Cmd := [(⟨6, 10, 0x0110, .waiting, 0, 0, 0, false, false, 0, false, false, 0, 0, none⟩ : Cmd)]; let k : Cmd := (⟨5, 9, (0x0402 + 4 * 2 ^ 160), .running, 0, 0, 0, false, false, 0, false, false, 0, 0, none⟩ : Cmd); let s : State := ((puts (State.reset) []).modFlow 63 (fun x => { x with cmds := [(⟨4, 8, 0x0200, .started, 0, 0, 0, false, false, 0, false, false, 0, 0, none⟩ : Cmd), (⟨5, 9, (0x0402 + 4 * 2 ^ 160), .running, 0, 0, 0, false, false, 0, false, false, 0, 0, none⟩ : Cmd), (⟨6, 10, 0x0110, .waiting, 0, 0, 0, false, false, 0, false, false, 0, 0, none⟩ : Cmd)] })); decide ((Runs s f c 0x0402 a b k) ∧ (4 ≤ (ent k.entry 20 1)))) &&
    (let f : Fin 64 := 63; let c : Nat := 5; let a : List Cmd := [(⟨4, 8, 0x0200, .started, 0, 0, 0, false, false, 0, false, false, 0, 0, none⟩ : Cmd)]; let b : List Cmd := [(⟨6, 10, 0x0110, .waiting, 0, 0, 0, false, false, 0, false, false, 0, 0, none⟩ : Cmd)]; let k : Cmd := (⟨5, 9, (0x0403 + 4 * 2 ^ 160), .running, 0, 0, 0, false, false, 0, false, false, 0, 0, none⟩ : Cmd); let s : State := ((puts (State.reset) []).modFlow 63 (fun x => { x with cmds := [(⟨4, 8, 0x0200, .started, 0, 0, 0, false, false, 0, false, false, 0, 0, none⟩ : Cmd), (⟨5, 9, (0x0403 + 4 * 2 ^ 160), .running, 0, 0, 0, false, false, 0, false, false, 0, 0, none⟩ : Cmd), (⟨6, 10, 0x0110, .waiting, 0, 0, 0, false, false, 0, false, false, 0, 0, none⟩ : Cmd)] })); decide ((Runs s f c 0x0403 a b k) ∧ (4 ≤ (ent k.entry 20 1)))) &&
    (let f : Fin 64 := 63; let c : Nat := 5; let a : List Cmd := [(⟨4, 8, 0x0200, .started, 0, 0, 0, false, false, 0, false, false, 0, 0, none⟩ : Cmd)]; let b : List Cmd := [(⟨6, 10, 0x0110, .waiting, 0, 0, 0, false, false, 0, false, false, 0, 0, none⟩ : Cmd)]; let k : Cmd := (⟨5, 9, (0x0403 + 2 * 2 ^ 160 + 1 * 2 ^ 176 + 8191 * 2 ^ 256), .running, 0, 0, 0, false, false, 0, false, false, 0, 0, none⟩ : Cmd); let s : State := ((puts (State.reset) [(PRL_CLAPLEAD_CYC, 0)]).modFlow 63 (fun x => { x with cmds := [(⟨4, 8, 0x0200, .started, 0, 0, 0, false, false, 0, false, false, 0, 0, none⟩ : Cmd), (⟨5, 9, (0x0403 + 2 * 2 ^ 160 + 1 * 2 ^ 176 + 8191 * 2 ^ 256), .running, 0, 0, 0, false, false, 0, false, false, 0, 0, none⟩ : Cmd), (⟨6, 10, 0x0110, .waiting, 0, 0, 0, false, false, 0, false, false, 0, 0, none⟩ : Cmd)] })); decide ((Runs s f c 0x0403 a b k) ∧ ((ent k.entry 20 1) < 4) ∧ (nearCount (s.root (ent k.entry 20 1)).tb (ent k.entry 32 6) < ((s.root (ent k.entry 20 1)).tb : Int) + max 8192 (s.get PRL_CLAPLEAD_CYC)))) &&
    (let f : Fin 64 := 63; let c : Nat := 5; let a : List Cmd := [(⟨4, 8, 0x0200, .started, 0, 0, 0, false, false, 0, false, false, 0, 0, none⟩ : Cmd)]; let b : List Cmd := [(⟨6, 10, 0x0110, .waiting, 0, 0, 0, false, false, 0, false, false, 0, 0, none⟩ : Cmd)]; let k : Cmd := (⟨5, 9, (0x0403 + 2 * 2 ^ 160 + 3 * 2 ^ 176 + 8192 * 2 ^ 256), .running, 0, 0, 0, false, false, 0, false, false, 0, 0, none⟩ : Cmd); let s : State := ((puts (State.reset) [(PRL_CLAPLEAD_CYC, 0), (PRL_BDID_ID, 0)]).modFlow 63 (fun x => { x with cmds := [(⟨4, 8, 0x0200, .started, 0, 0, 0, false, false, 0, false, false, 0, 0, none⟩ : Cmd), (⟨5, 9, (0x0403 + 2 * 2 ^ 160 + 3 * 2 ^ 176 + 8192 * 2 ^ 256), .running, 0, 0, 0, false, false, 0, false, false, 0, 0, none⟩ : Cmd), (⟨6, 10, 0x0110, .waiting, 0, 0, 0, false, false, 0, false, false, 0, 0, none⟩ : Cmd)] })); decide ((Runs s f c 0x0403 a b k) ∧ ((ent k.entry 20 1) < 4) ∧ (((s.root (ent k.entry 20 1)).tb : Int) + max 8192 (s.get PRL_CLAPLEAD_CYC) ≤ nearCount (s.root (ent k.entry 20 1)).tb (ent k.entry 32 6)) ∧ (ent k.entry 22 2 ≠ 0))) &&
    (let f : Fin 64 := 63; let c : Nat := 5; let a : List Cmd := [(⟨4, 8, 0x0200, .started, 0, 0, 0, false, false, 0, false, false, 0, 0, none⟩ : Cmd)]; let b : List Cmd := [(⟨6, 10, 0x0110, .waiting, 0, 0, 0, false, false, 0, false, false, 0, 0, none⟩ : Cmd)]; let k : Cmd := (⟨5, 9, (0x0404 + 2 * 2 ^ 160 + 9 * 2 ^ 168 + 0 * 2 ^ 176), .running, 0, 0, 0, false, false, 0, false, false, 0, 0, none⟩ : Cmd); let s : State := ((puts (State.reset) []).modFlow 63 (fun x => { x with cmds := [(⟨4, 8, 0x0200, .started, 0, 0, 0, false, false, 0, false, false, 0, 0, none⟩ : Cmd), (⟨5, 9, (0x0404 + 2 * 2 ^ 160 + 9 * 2 ^ 168 + 0 * 2 ^ 176), .running, 0, 0, 0, false, false, 0, false, false, 0, 0, none⟩ : Cmd), (⟨6, 10, 0x0110, .waiting, 0, 0, 0, false, false, 0, false, false, 0, 0, none⟩ : Cmd)] })); decide ((Runs s f c 0x0404 a b k) ∧ (4 ≤ (ent k.entry 20 1) ∨ 16 ≤ ent k.entry 21 1 ∨ ent k.entry 22 2 = 0))) &&
    (let f : Fin 64 := 63; let c : Nat := 5; let a : List Cmd := [(⟨4, 8, 0x0200, .started, 0, 0, 0, false, false, 0, false, false, 0, 0, none⟩ : Cmd)]; let b : List Cmd := [(⟨6, 10, 0x0110, .waiting, 0, 0, 0, false, false, 0, false, false, 0, 0, none⟩ : Cmd)]; let k : Cmd := (⟨5, 9, (0x0404 + 2 * 2 ^ 160 + 9 * 2 ^ 168 + 1 * 2 ^ 176), .running, 0, 0, 0, false, false, 0, false, false, 0, 0, none⟩ : Cmd); let s : State := ((puts (State.reset) [(PRL_BDID_ID, 3)]).modFlow 63 (fun x => { x with cmds := [(⟨4, 8, 0x0200, .started, 0, 0, 0, false, false, 0, false, false, 0, 0, none⟩ : Cmd), (⟨5, 9, (0x0404 + 2 * 2 ^ 160 + 9 * 2 ^ 168 + 1 * 2 ^ 176), .running, 0, 0, 0, false, false, 0, false, false, 0, 0, none⟩ : Cmd), (⟨6, 10, 0x0110, .waiting, 0, 0, 0, false, false, 0, false, false, 0, 0, none⟩ : Cmd)] })); decide ((Runs s f c 0x0404 a b k) ∧ ((ent k.entry 20 1) < 4) ∧ (ent k.entry 21 1 < 16) ∧ (ent k.entry 22 2 ≠ 0) ∧ (s.me ≠ 0))) &&
    (let f : Fin 64 := 63; let c : Nat := 5; let a : List Cmd := [(⟨4, 8, 0x0200, .started, 0, 0, 0, false, false, 0, false, false, 0, 0, none⟩ : Cmd)]; let b : List Cmd := [(⟨6, 10, 0x0110, .waiting, 0, 0, 0, false, false, 0, false, false, 0, 0, none⟩ : Cmd)]; let k : Cmd := (⟨5, 9, (0x0404 + 2 * 2 ^ 160 + 9 * 2 ^ 168 + 1 * 2 ^ 176), .running, 0, 0, 0, false, false, 0, false, false, 0, 0, none⟩ : Cmd); let s : State := ((puts (State.reset) [(PRL_BDID_ID, 0), (PRL_MAP_PRESENT, 0)]).modFlow 63 (fun x => { x with cmds := [(⟨4, 8, 0x0200, .started, 0, 0, 0, false, false, 0, false, false, 0, 0, none⟩ : Cmd), (⟨5, 9, (0x0404 + 2 * 2 ^ 160 + 9 * 2 ^ 168 + 1 * 2 ^ 176), .running, 0, 0, 0, false, false, 0, false, false, 0, 0, none⟩ : Cmd), (⟨6, 10, 0x0110, .waiting, 0, 0, 0, false, false, 0, false, false, 0, 0, none⟩ : Cmd)] })); decide ((Runs s f c 0x0404 a b k) ∧ ((ent k.entry 20 1) < 4) ∧ (ent k.entry 21 1 < 16) ∧ (ent k.entry 22 2 ≠ 0) ∧ (s.me = 0))) &&
    (let f : Fin 64 := 63; let c : Nat := 5; let a : List Cmd := [(⟨4, 8, 0x0200, .started, 0, 0, 0, false, false, 0, false, false, 0, 0, none⟩ : Cmd)]; let b : List Cmd := [(⟨6, 10, 0x0110, .waiting, 0, 0, 0, false, false, 0, false, false, 0, 0, none⟩ : Cmd)]; let k : Cmd := (⟨5, 9, (0x0405 + 2 * 2 ^ 160 + 17 * 2 ^ 168), .running, 0, 0, 0, false, false, 0, false, false, 0, 0, none⟩ : Cmd); let s : State := ((puts (State.reset) []).modFlow 63 (fun x => { x with cmds := [(⟨4, 8, 0x0200, .started, 0, 0, 0, false, false, 0, false, false, 0, 0, none⟩ : Cmd), (⟨5, 9, (0x0405 + 2 * 2 ^ 160 + 17 * 2 ^ 168), .running, 0, 0, 0, false, false, 0, false, false, 0, 0, none⟩ : Cmd), (⟨6, 10, 0x0110, .waiting, 0, 0, 0, false, false, 0, false, false, 0, 0, none⟩ : Cmd)] })); decide ((Runs s f c 0x0405 a b k) ∧ (4 ≤ (ent k.entry 20 1) ∨ ent k.entry 21 1 = 0 ∨ 16 < ent k.entry 21 1 ∨ entAddr k.entry % 8 ≠ 0))) &&
    (let f : Fin 64 := 63; let c : Nat := 5; let a : List Cmd := [(⟨4, 8, 0x0200, .started, 0, 0, 0, false, false, 0, false, false, 0, 0, none⟩ : Cmd)]; let b : List Cmd := [(⟨6, 10, 0x0110, .waiting, 0, 0, 0, false, false, 0, false, false, 0, 0, none⟩ : Cmd)]; let k : Cmd := (⟨5, 9, (0x0405 + 2 * 2 ^ 160 + 1 * 2 ^ 168 + 200 * 2 ^ 264), .running, 0, 0, 0, false, false, 0, false, false, 0, 0, none⟩ : Cmd); let s : State := ((puts (State.reset) [(PRL_BDID_ID, 3)]).modFlow 63 (fun x => { x with cmds := [(⟨4, 8, 0x0200, .started, 0, 0, 0, false, false, 0, false, false, 0, 0, none⟩ : Cmd), (⟨5, 9, (0x0405 + 2 * 2 ^ 160 + 1 * 2 ^ 168 + 200 * 2 ^ 264), .running, 0, 0, 0, false, false, 0, false, false, 0, 0, none⟩ : Cmd), (⟨6, 10, 0x0110, .waiting, 0, 0, 0, false, false, 0, false, false, 0, 0, none⟩ : Cmd)] })); decide ((Runs s f c 0x0405 a b k) ∧ ((ent k.entry 20 1) < 4) ∧ (ent k.entry 21 1 = 1) ∧ (ent k.entry 32 1 < 16) ∧ (entAddr k.entry % 8 = 0) ∧ (s.me ≠ 0))) &&
    (let f : Fin 64 := 63; let c : Nat := 5; let a : List Cmd := [(⟨4, 8, 0x0200, .started, 0, 0, 0, false, false, 0, false, false, 0, 0, none⟩ : Cmd)]; let b : List Cmd := [(⟨6, 10, 0x0110, .waiting, 0, 0, 0, false, false, 0, false, false, 0, 0, none⟩ : Cmd)]; let k : Cmd := (⟨5, 9, (0x0405 + 2 * 2 ^ 160 + 1 * 2 ^ 168 + 200 * 2 ^ 264), .running, 0, 0, 0, false, false, 0, false, false, 0, 0, none⟩ : Cmd); let s : State := ((puts (State.reset) [(PRL_BDID_ID, 0), (PRL_MAP_PRESENT, 0)]).modFlow 63 (fun x => { x with cmds := [(⟨4, 8, 0x0200, .started, 0, 0, 0, false, false, 0, false, false, 0, 0, none⟩ : Cmd), (⟨5, 9, (0x0405 + 2 * 2 ^ 160 + 1 * 2 ^ 168 + 200 * 2 ^ 264), .running, 0, 0, 0, false, false, 0, false, false, 0, 0, none⟩ : Cmd), (⟨6, 10, 0x0110, .waiting, 0, 0, 0, false, false, 0, false, false, 0, 0, none⟩ : Cmd)] })); decide ((Runs s f c 0x0405 a b k) ∧ ((ent k.entry 20 1) < 4) ∧ (0 < ent k.entry 21 1) ∧ (ent k.entry 21 1 ≤ 16) ∧ (((List.range (ent k.entry 21 1)).all (fun i => decide (ent k.entry (32 + 2 * i) 1 < 16))) = true) ∧ (entAddr k.entry % 8 = 0) ∧ (s.me = 0)))) = true := by decide +kernel

theorem witness_ClocksStartSwitchAndFail :
    ((let s : State := (puts (State.reset) [(CLK_STAT_XORUN, 500)]); decide ((s.bit CLK_STAT_XOSTABLE = false) ∧ (s.xoWatched = true))) &&
    (let s : State := (puts (State.reset) [(CLK_STAT_XOSTABLE, 1), (CLK_FAILCAUSE_COUNT, 255)]); decide ((s.bit CLK_STAT_XOSTABLE = true) ∧ (s.xoWatched = true))) &&
    (let count : Nat := 4257; let s : State := (puts (State.reset) [(CLK_STAT_XOSTABLE, 1)]); decide ((s.bit CLK_STAT_XOSTABLE = true) ∧ (s.xoWatched = true) ∧ (count < 4096 - 160 ∨ 4096 + 160 < count))) &&
    (let s : State := (puts (State.reset) [(CLK_STAT_CPLLLOCK, 1), (CLK_CPLLEN_RUNEN, 1)]); decide ((s.bit CLK_STAT_CPLLLOCK = true) ∧ (s.cpllOn = true))) &&
    (let count : Nat := 0; let s : State := (puts (State.reset) [(CLK_STAT_IRCOK, 0), (CLK_DOM_STAT_RUN 0, 0)]); decide ((s.xoWatched = false))) &&
    (let count : Nat := 4256; let s : State := (puts (State.reset) [(CLK_STAT_XORUN, 65000)]); decide ((s.bit CLK_STAT_XOSTABLE = false) ∧ (s.xoWatched = true) ∧ (4096 - 160 ≤ count) ∧ (count ≤ 4096 + 160) ∧ (s.pwr.xoCut = false) ∧ (s.get CLK_STAT_XORUN + count < 65536 ∨ s.get SEC_BOOTSTAT_STAGE ≠ 2))) &&
    (let count : Nat := 4256; let s : State := (puts (State.reset) [(SEC_BOOTSTAT_STAGE, 2), (CLK_STAT_XORUN, 65000)]); decide ((s.bit CLK_STAT_XOSTABLE = false) ∧ (s.xoWatched = true) ∧ (4096 - 160 ≤ count) ∧ (count ≤ 4096 + 160) ∧ (s.pwr.xoCut = false) ∧ (65536 ≤ s.get CLK_STAT_XORUN + count) ∧ (s.get SEC_BOOTSTAT_STAGE = 2))) &&
    (let count : Nat := 3935; let s : State := (puts (State.reset) [(CLK_STAT_XORUN, 65000)]); decide ((s.bit CLK_STAT_XOSTABLE = false) ∧ (s.xoWatched = true) ∧ (count < 4096 - 160 ∨ 4096 + 160 < count))) &&
    (let count : Nat := 4256; let s : State := { (puts (State.reset) [(CLK_STAT_XORUN, 65000)]) with pwr := { (State.reset).pwr with xoCut := true } }; decide ((s.bit CLK_STAT_XOSTABLE = false) ∧ (s.xoWatched = true) ∧ (4096 - 160 ≤ count) ∧ (count ≤ 4096 + 160) ∧ (s.pwr.xoCut = true) ∧ (s.get SEC_BOOTSTAT_STAGE ≠ 2))) &&
    (let count : Nat := 4256; let s : State := (puts (State.reset) [(CLK_STAT_XOSTABLE, 1)]); decide ((s.bit CLK_STAT_XOSTABLE = true) ∧ (4096 - 160 ≤ count) ∧ (count ≤ 4096 + 160))) &&
    (let s : State := (puts (State.reset) [(SEC_BOOTSTAT_STAGE, 2), (CLK_STAT_XOSTABLE, 0), (CLK_STAT_XORUN, 65000)]); decide ((s.get SEC_BOOTSTAT_STAGE = 2) ∧ (s.bit CLK_STAT_XOSTABLE = false) ∧ (65536 ≤ s.get CLK_STAT_XORUN + (4096 + 160)))) &&
    (let s : State := (puts (State.reset) [(SEC_BOOTSTAT_STAGE, 2), (CLK_STAT_XORUN, 61279)]); decide ((s.get SEC_BOOTSTAT_STAGE ≠ 2 ∨ s.bit CLK_STAT_XOSTABLE = true ∨ s.get CLK_STAT_XORUN + (4096 + 160) < 65536))) &&
    (let s : State := (puts (State.reset) [(CLK_STAT_XOSTABLE, 1), (CLK_CPLLEN_RUNEN, 1), (CLK_STAT_CPLLLOCK, 0)]); decide ((s.cpllAcquires = true) ∧ (s.get SEC_BOOTSTAT_STAGE ≠ 3))) &&
    (let s : State := (puts (State.reset) [(SEC_BOOTSTAT_STAGE, 3), (CLK_STAT_XOSTABLE, 1), (CLK_CPLLEN_RUNEN, 1), (CLK_STAT_CPLLLOCK, 0)]); decide ((s.cpllAcquires = true) ∧ (s.get SEC_BOOTSTAT_STAGE = 3) ∧ (s.bit CLK_CTRL_LOCK = false))) &&
    (let s : State := (puts (State.reset) [(CLK_STAT_XOSTABLE, 1), (CLK_CPLLEN_RUNEN, 1), (CLK_STAT_CPLLLOCK, 1)]); decide ((s.cpllAcquires = false))) &&
    (let s : State := (puts (State.reset) [(CLK_STAT_XOSTABLE, 1), (CLK_CPLLEN_RUNEN, 1), (CLK_STAT_CPLLLOCK, 0)]); decide ((s.cpllAcquires = true))) &&
    (let s : State := (puts (State.reset) [(CLK_STAT_XOSTABLE, 1), (CLK_STAT_IRCOK, 1), (SEC_DLYHEAD_NEXT, 255)]); decide ((s.bit CLK_STAT_XOSTABLE = true) ∧ (s.bit CLK_STAT_IRCOK = true))) &&
    (let src : Source := .host; let d : Fin 5 := 1; let w : Word := 0x80000005#32; let s : State := (puts ((puts State.reset [(SEC_BOOTSTAT_STAGE, 9), (SEC_LCSTATE_LC, 2)])) [(CLK_DOM_STAT_RUN 1, 1), (CLK_DOM_STAT_SRCACT 1, 0), (CLK_DOM_STAT_DIVACT 1, 1)]); decide ((s.rowServed src (CLK_DOM_CFG d) true = true) ∧ (s.bit (CLK_DOM_STAT_RUN d) = true) ∧ (s.bit CLK_CTRL_LOCK = false) ∧ (wbit w 31 = true) ∧ (s.pwr.clk < 2) ∧ (s.sourceRuns (s.get (CLK_DOM_STAT_SRCACT d)) = true) ∧ (s.get (CLK_DOM_STAT_DIVACT d) < 32) ∧ (min 2 (fld w 16 2) = s.get (CLK_DOM_STAT_SRCACT d)))) &&
    (let d : Fin 5 := 4; let s : State := (puts (State.reset) [(CLK_DOM_STAT_RUN 4, 1), (CLK_DOM_STAT_STEPPING 4, 1), (CLK_DOM_CFG_RUNEN 4, 1), (CLK_DOM_CFG_SRC 4, 0), (CLK_DOM_CFG_DIV 4, 5), (CLK_DOM_STAT_SRCACT 4, 0), (CLK_DOM_STAT_DIVACT 4, 32)]); decide ((s.bit (CLK_DOM_STAT_STEPPING d) = true) ∧ (s.bit (CLK_DOM_STAT_RUN d) = true) ∧ (s.sourceRuns (s.get (CLK_DOM_STAT_SRCACT d)) = true) ∧ (s.get SEC_BOOTSTAT_STAGE ≠ 3) ∧ (s.pwr.up.contains d.val = false) ∧ (s.domainOn d = true) ∧ (s.get (CLK_DOM_STAT_SRCACT d) = s.wantSrc d) ∧ (s.wantDiv d < s.get (CLK_DOM_STAT_DIVACT d)))) &&
    (let d : Fin 5 := 4; let s : State := { (puts (State.reset) [(CLK_DOM_STAT_RUN 4, 1), (CLK_DOM_STAT_STEPPING 4, 1), (CLK_DOM_CFG_RUNEN 4, 1), (CLK_DOM_CFG_SRC 4, 1), (CLK_STAT_XOSTABLE, 1), (CLK_DOM_CFG_DIV 4, 5), (CLK_DOM_STAT_SWITCHING 4, 1), (CLK_DOM_STAT_SRCACT 4, 0), (CLK_DOM_STAT_DIVACT 4, 31)]) with pwr := { (State.reset).pwr with up := [4] } }; decide ((s.bit (CLK_DOM_STAT_STEPPING d) = true) ∧ (s.bit (CLK_DOM_STAT_RUN d) = true) ∧ (s.sourceRuns (s.get (CLK_DOM_STAT_SRCACT d)) = true) ∧ (s.get SEC_BOOTSTAT_STAGE ≠ 3) ∧ (s.pwr.up.contains d.val = true) ∧ (s.get (CLK_DOM_STAT_DIVACT d) < 32))) &&
    (let d : Fin 5 := 4; let s : State := (puts (State.reset) [(CLK_DOM_STAT_STEPPING 4, 0)]); decide ((s.bit (CLK_DOM_STAT_STEPPING d) = false))) &&
    (let d : Fin 6 := 5; let s : State := { (puts (State.reset) [(CLK_STAT_XOSTABLE, 0), (CLK_STAT_AONSRC, 1)]) with pwr := { (State.reset).pwr with aonBack := true } }; decide ((d.val = 5) ∧ (s.bit CLK_STAT_XOSTABLE = true ∨ s.pwr.aonBack = true) ∧ (s.get SEC_BOOTSTAT_STAGE ≠ 3))) &&
    (let d : Fin 6 := 4; let s : State := (puts (State.reset) [(CLK_DOM_STAT_SWITCHING 4, 1), (CLK_DOM_CFG_SRC 4, 1)]); decide ((if d.val = 5 then s.bit CLK_STAT_XOSTABLE = false ∧ s.pwr.aonBack = false else s.bit (CLK_DOM_STAT_SWITCHING d) = false ∨ s.sourceRuns (s.wantSrc d) = false))) &&
    (let d : Fin 6 := 4; let s : State := (puts (State.reset) [(CLK_DOM_STAT_SWITCHING 4, 1), (CLK_DOM_CFG_RUNEN 4, 1), (CLK_DOM_CFG_SRC 4, 0), (CLK_DOM_STAT_SRCACT 4, 2), (CLK_DOM_STAT_DIVACT 4, 9)]); decide ((d.val < 5) ∧ (s.bit (CLK_DOM_STAT_SWITCHING d) = true) ∧ (s.sourceRuns (s.wantSrc d) = true) ∧ (s.domainOn d = true) ∧ (s.get SEC_BOOTSTAT_STAGE ≠ 3))) &&
    (let block : Fin 89 := 83; let addr : BitVec 32 := 0x12345678#32; let s : State := ((puts (State.reset) [(PWR_PDSTAT_STATE 83, 5)])).modPd 83 (fun x => { x with target := some 0 }); decide ((block.val < 84) ∧ (s.get (PWR_PDSTAT_STATE block) = 5))) &&
    (let block : Fin 89 := 88; let addr : BitVec 32 := 0x12345678#32; let s : State := (puts (State.reset) [(CLK_DOM_CFG_RUNEN 4, 0), (CLK_DOM_STAT_RUN 4, 1), (CLK_DOM_STAT_DIVACT 4, 32), (SPT_STAT_SLVSEL 9, 1)]); decide ((84 ≤ block.val) ∧ (s.domainOn (block - 84) = false) ∧ (s.bit (CLK_DOM_STAT_RUN (block - 84)) = true))) &&
    (let block : Fin 89 := 83; let addr : BitVec 32 := 0#32; let s : State := (puts (State.reset) [(PWR_PDSTAT_STATE 83, 2)]); decide (((if block.val < 84 then s.get (PWR_PDSTAT_STATE block) == 5 else !s.domainOn (block - 84) && s.bit (CLK_DOM_STAT_RUN (block - 84))) = false)))) = true := by decide +kernel

theorem witness_CalibrationDriveTrimAndTracking :
    ((let s : State := (puts (State.reset) [(CAL_REFCFG_EN, 1), (CAL_REFSTAT_PRESENT, 1)]); decide ((s.bit CAL_REFCFG_EN = true))) &&
    (let s : State := (puts (State.reset) [(CAL_REFCFG_EN, 1)]); decide ((s.bit CAL_REFCFG_EN = true))) &&
    (let count : Nat := 40958; let s : State := (puts (State.reset) [(CAL_REFCFG_EN, 1), (CAL_REFCFG_FREQ, 1)]); decide ((s.bit CAL_REFCFG_EN = true) ∧ (s.bit CAL_REFCFG_FREQ = true) ∧ (40958 ≤ count) ∧ (count ≤ 40962) ∧ (s.cal.gap = false))) &&
    (let count : Nat := 409621; let s : State := (puts (State.reset) [(CAL_REFCFG_EN, 1), (CAL_REFCFG_FREQ, 0)]); decide ((s.bit CAL_REFCFG_EN = true) ∧ (s.bit CAL_REFCFG_FREQ = false) ∧ (count < 409580 ∨ 409620 < count))) &&
    (let src : Source := .firmware; let n : Fin 512 := 321; let w : Word := 0x40000000#32; let s : State := (puts (State.reset) [(CH_GRP_MEMBER 321, 1), (CH_CALCTRL_CDRV 321, 0)]); decide ((s.rowServed src (CH_CALCTRL n) true = true) ∧ (s.heldBars src n = false) ∧ (wbit w 30 = true) ∧ (s.bit (CH_CALCTRL_CDRV n) = false) ∧ (s.bit (CH_GRP_MEMBER n) = true))) &&
    (let src : Source := .firmware; let n : Fin 512 := 321; let w : Word := 0x40000000#32; let s : State := (puts (State.reset) [(CH_CALCTRL_CDRV 321, 1)]); decide ((s.rowServed src (CH_CALCTRL n) true = true) ∧ (s.heldBars src n = false) ∧ (wbit w 30 = true) ∧ (s.bit (CH_CALCTRL_CDRV n) = true))) &&
    (let src : Source := .firmware; let n : Fin 512 := 321; let w : Word := 0x40000000#32; let s : State := (puts (State.reset) [(CH_CALCTRL_CDRV 321, 0), (CH_GRP_MEMBER 321, 0)]); decide ((s.rowServed src (CH_CALCTRL n) true = true) ∧ (s.heldBars src n = false) ∧ (wbit w 30 = true) ∧ (s.bit (CH_CALCTRL_CDRV n) = false) ∧ (s.bit (CH_GRP_MEMBER n) = false))) &&
    (let src : Source := .host; let n : Fin 512 := 321; let w : Word := 0#32; let s : State := (puts ((puts State.reset [(SEC_BOOTSTAT_STAGE, 9), (SEC_LCSTATE_LC, 2)])) [(CH_CALSTAT_HELD 321, 1)]); decide ((s.rowServed src (CH_CALCTRL n) true = true) ∧ (s.heldBars src n = true))) &&
    (let n : Fin 512 := 321; let s : State := { (puts (State.reset) [(CH_CALCTRL_CDRV 321, 1), (CH_GRP_MEMBER 321, 0), (BNK_STAT_ROOTACT 5, 1)]) with chans := [(321, { Chan.init with drvAt := 77 })], roots := [(1, { Root.init with tclk := true })] }; decide ((s.bit (CH_CALCTRL_CDRV n) = true) ∧ ((s.chan n).cyc.on = false) ∧ (s.bit (CH_GRP_MEMBER n) = false) ∧ (s.clocked (n / 64) = true))) &&
    (let n : Fin 512 := 321; let s : State := (puts (State.reset) [(CH_CALCTRL_CDRV 321, 0)]); decide ((s.bit (CH_CALCTRL_CDRV n) = false ∨ (s.chan n).cyc.on = true ∨ s.bit (CH_GRP_MEMBER n) = true ∨ s.clocked (n / 64) = false))) &&
    (let n : Fin 512 := 321; let s : State := { (puts (State.reset) [(⟨CH_DINLT 321 31, 16, 12⟩, 0xFF0), (⟨CH_DINLT 321 0, 0, 12⟩, 5)]) with chans := [(321, { Chan.init with dtcN := 3, dtcCnt := 2, dtcDone := false, cyc := { Chan.init.cyc with on := true } })] }; decide ((s.dtcSlewDue n = true))) &&
    (let n : Fin 512 := 321; let s : State := (puts (State.reset) []); decide ((s.dtcSlewDue n = false))) &&
    (let n : Fin 4 := 2; let v : Int := -500000000; let s : State := { (puts (State.reset) [(SYN_FTRIM_TRIM 2, 7), (CAL_FTSTEP_UNITS, 9)]) with cal := { (State.reset).cal with trim := [(2, some (-500000000))] } }; decide (((tabGet none s.cal.trim n) = some v))) &&
    (let n : Fin 4 := 2; let s : State := { (puts (State.reset) []) with cal := { (State.reset).cal with trim := [] } }; decide (((tabGet none s.cal.trim n) = none))) &&
    (let b : Fin 8 := 5; let tw : BitVec 16 := 0xFFF0#16; let overlap : Bool := true; let mG : Int := 5; let mO : Int := -7; let s : State := (puts (State.reset) [(PWR_PDSTAT_STATE 69, 2), (BNK_TRKCTRL_FREEZE 5, 0), (BNK_TRKOUT_GC 5, 7), (BNK_TRKGB_GHI 5, 5)]); decide ((s.domOn (64 + b) = true) ∧ ((s.trk b).want = []) ∧ (s.bit (BNK_TRKCTRL_FREEZE b) = false) ∧ (s.bit GLB_MODE_DRIFTHOST = false) ∧ (overlap = true ∨ s.bit (BNK_STAT_TAINT b) = true ∨ (s.bank b).dist = true))) &&
    (let b : Fin 8 := 5; let tw : BitVec 16 := 0#16; let overlap : Bool := true; let mG : Int := 5; let mO : Int := -7; let s : State := (puts (State.reset) [(PWR_PDSTAT_STATE 69, 0)]); decide ((s.domOn (64 + b) = false))) &&
    (let b : Fin 8 := 5; let tw : BitVec 16 := 0xFFF0#16; let overlap : Bool := true; let mG : Int := 5; let mO : Int := -7; let s : State := (puts (State.reset) [(PWR_PDSTAT_STATE 69, 2), (BNK_TRKCTRL_FREEZE 5, 1)]); decide ((s.domOn (64 + b) = true) ∧ ((s.trk b).want = []) ∧ (s.bit (BNK_TRKCTRL_FREEZE b) = true ∨ s.bit GLB_MODE_DRIFTHOST = true))) &&
    (let b : Fin 8 := 5; let tw : BitVec 16 := 7#16; let overlap : Bool := false; let mG : Int := 5; let mO : Int := -7; let g : Int := -3; let o : Int := 4; let f : Nat := 63; let c : Nat := 5; let s : State := { (puts (State.reset) [(PWR_PDSTAT_STATE 69, 2), (GLB_MODE_DRIFTHOST, 1), (BNK_TRKGB_GHI 5, 5), (BNK_TRKGB_GLO 5, 0x8000), (BNK_TRKOB_OHI 5, 5), (BNK_TRKOB_OLO 5, 0x8000)]) with cal := { (State.reset).cal with trks := [(5, { Trk.init with want := [(63, 5, -3, 4)] })] } }; decide ((s.domOn (64 + b) = true) ∧ ((s.trk b).want = [(f, c, g, o)]) ∧ (s.bit GLB_MODE_DRIFTHOST = true) ∧ (s.geti (BNK_TRKGB_GLO b) ≤ g) ∧ (g ≤ s.geti (BNK_TRKGB_GHI b)) ∧ (s.geti (BNK_TRKOB_OLO b) ≤ o) ∧ (o ≤ s.geti (BNK_TRKOB_OHI b)))) &&
    (let b : Fin 8 := 5; let tw : BitVec 16 := 7#16; let mG : Int := 5; let mO : Int := -7; let s : State := { (puts (State.reset) [(PWR_PDSTAT_STATE 69, 2), (BNK_TRKCTRL_FREEZE 5, 0), (BNK_STAT_TAINT 5, 0), (BNK_DLLCW_CW 5, 9)]) with banks := [(5, { Bank.init with dist := false })] }; decide ((s.domOn (64 + b) = true) ∧ ((s.trk b).want = []) ∧ (s.bit (BNK_TRKCTRL_FREEZE b) = false) ∧ (s.bit GLB_MODE_DRIFTHOST = false) ∧ (s.bit (BNK_STAT_TAINT b) = false) ∧ ((s.bank b).dist = false) ∧ (s.word (BNK_TRKKG b) = 0) ∧ (s.word (BNK_TRKKO b) = 0) ∧ (s.geti (BNK_TRKGB_GLO b) ≤ s.geti (BNK_TRKBIAS_BG b)) ∧ (s.geti (BNK_TRKBIAS_BG b) ≤ s.geti (BNK_TRKGB_GHI b)) ∧ (s.geti (BNK_TRKOB_OLO b) ≤ s.geti (BNK_TRKBIAS_BO b)) ∧ (s.geti (BNK_TRKBIAS_BO b) ≤ s.geti (BNK_TRKOB_OHI b)) ∧ (s.geti (BNK_TRKOUT_GC b) = s.geti (BNK_TRKBIAS_BG b)))) &&
    (let f : Fin 64 := 63; let c : Nat := 5; let a : List Cmd := [(⟨4, 8, 0x0200, .started, 0, 0, 0, false, false, 0, false, false, 0, 0, none⟩ : Cmd)]; let b : List Cmd := [(⟨6, 10, 0x0110, .waiting, 0, 0, 0, false, false, 0, false, false, 0, 0, none⟩ : Cmd)]; let k : Cmd := (⟨5, 9, (0x0320 + 8 * 2 ^ 160), .running, 0, 0, 0, false, false, 0, false, false, 0, 0, none⟩ : Cmd); let s : State := ((puts (State.reset) []).modFlow 63 (fun x => { x with cmds := [(⟨4, 8, 0x0200, .started, 0, 0, 0, false, false, 0, false, false, 0, 0, none⟩ : Cmd), (⟨5, 9, (0x0320 + 8 * 2 ^ 160), .running, 0, 0, 0, false, false, 0, false, false, 0, 0, none⟩ : Cmd), (⟨6, 10, 0x0110, .waiting, 0, 0, 0, false, false, 0, false, false, 0, 0, none⟩ : Cmd)] })); decide ((Runs s f c 0x0320 a b k) ∧ (8 ≤ (ent k.entry 20 1)))) &&
    (let f : Fin 64 := 63; let c : Nat := 5; let a : List Cmd := [(⟨4, 8, 0x0200, .started, 0, 0, 0, false, false, 0, false, false, 0, 0, none⟩ : Cmd)]; let b : List Cmd := [(⟨6, 10, 0x0110, .waiting, 0, 0, 0, false, false, 0, false, false, 0, 0, none⟩ : Cmd)]; let k : Cmd := (⟨5, 9, (0x0320 + 7 * 2 ^ 160 + 6 * 2 ^ 176), .running, 0, 0, 0, false, false, 0, false, false, 0, 0, none⟩ : Cmd); let s : State := ((puts (State.reset) [(PWR_PDSTAT_STATE 71, 0)]).modFlow 63 (fun x => { x with cmds := [(⟨4, 8, 0x0200, .started, 0, 0, 0, false, false, 0, false, false, 0, 0, none⟩ : Cmd), (⟨5, 9, (0x0320 + 7 * 2 ^ 160 + 6 * 2 ^ 176), .running, 0, 0, 0, false, false, 0, false, false, 0, 0, none⟩ : Cmd), (⟨6, 10, 0x0110, .waiting, 0, 0, 0, false, false, 0, false, false, 0, 0, none⟩ : Cmd)] })); decide ((Runs s f c 0x0320 a b k) ∧ ((ent k.entry 20 1) < 8) ∧ (s.domOn (64 + (ent k.entry 20 1)) = false ∨ s.bit GLB_MODE_DRIFTHOST = false))) &&
    (let f : Fin 64 := 63; let c : Nat := 5; let a : List Cmd := [(⟨4, 8, 0x0200, .started, 0, 0, 0, false, false, 0, false, false, 0, 0, none⟩ : Cmd)]; let b : List Cmd := [(⟨6, 10, 0x0110, .waiting, 0, 0, 0, false, false, 0, false, false, 0, 0, none⟩ : Cmd)]; let k : Cmd := (⟨5, 9, (0x0320 + 7 * 2 ^ 160 + 6 * 2 ^ 176), .running, 0, 0, 0, false, false, 0, false, false, 0, 0, none⟩ : Cmd); let s : State := ((puts (State.reset) [(PWR_PDSTAT_STATE 71, 2), (GLB_MODE_DRIFTHOST, 1), (BNK_TRKGB_GHI 7, 5)]).modFlow 63 (fun x => { x with cmds := [(⟨4, 8, 0x0200, .started, 0, 0, 0, false, false, 0, false, false, 0, 0, none⟩ : Cmd), (⟨5, 9, (0x0320 + 7 * 2 ^ 160 + 6 * 2 ^ 176), .running, 0, 0, 0, false, false, 0, false, false, 0, 0, none⟩ : Cmd), (⟨6, 10, 0x0110, .waiting, 0, 0, 0, false, false, 0, false, false, 0, 0, none⟩ : Cmd)] })); decide ((Runs s f c 0x0320 a b k) ∧ ((ent k.entry 20 1) < 8) ∧ (s.domOn (64 + (ent k.entry 20 1)) = true) ∧ (s.bit GLB_MODE_DRIFTHOST = true) ∧ (clampTo (s.geti (BNK_TRKGB_GLO (ent k.entry 20 1))) (s.geti (BNK_TRKGB_GHI (ent k.entry 20 1))) (signed 16 (ent k.entry 22 2)) ≠ signed 16 (ent k.entry 22 2) ∨ clampTo (s.geti (BNK_TRKOB_OLO (ent k.entry 20 1))) (s.geti (BNK_TRKOB_OHI (ent k.entry 20 1))) (signed 16 (ent k.entry 24 2)) ≠ signed 16 (ent k.entry 24 2)))) &&
    (let f : Fin 64 := 63; let c : Nat := 5; let a : List Cmd := [(⟨4, 8, 0x0200, .started, 0, 0, 0, false, false, 0, false, false, 0, 0, none⟩ : Cmd)]; let b : List Cmd := [(⟨6, 10, 0x0110, .waiting, 0, 0, 0, false, false, 0, false, false, 0, 0, none⟩ : Cmd)]; let k : Cmd := (⟨5, 9, (0x0320 + 7 * 2 ^ 160 + 5 * 2 ^ 176 + 0 * 2 ^ 192), .running, 0, 0, 0, false, false, 0, false, false, 0, 0, none⟩ : Cmd); let s : State := ((puts (State.reset) [(PWR_PDSTAT_STATE 71, 2), (GLB_MODE_DRIFTHOST, 1), (BNK_TRKGB_GHI 7, 5)]).modFlow 63 (fun x => { x with cmds := [(⟨4, 8, 0x0200, .started, 0, 0, 0, false, false, 0, false, false, 0, 0, none⟩ : Cmd), (⟨5, 9, (0x0320 + 7 * 2 ^ 160 + 5 * 2 ^ 176 + 0 * 2 ^ 192), .running, 0, 0, 0, false, false, 0, false, false, 0, 0, none⟩ : Cmd), (⟨6, 10, 0x0110, .waiting, 0, 0, 0, false, false, 0, false, false, 0, 0, none⟩ : Cmd)] })); decide ((Runs s f c 0x0320 a b k) ∧ ((ent k.entry 20 1) < 8) ∧ (s.domOn (64 + (ent k.entry 20 1)) = true) ∧ (s.bit GLB_MODE_DRIFTHOST = true) ∧ (s.geti (BNK_TRKGB_GLO (ent k.entry 20 1)) ≤ signed 16 (ent k.entry 22 2)) ∧ (signed 16 (ent k.entry 22 2) ≤ s.geti (BNK_TRKGB_GHI (ent k.entry 20 1))) ∧ (s.geti (BNK_TRKOB_OLO (ent k.entry 20 1)) ≤ signed 16 (ent k.entry 24 2)) ∧ (signed 16 (ent k.entry 24 2) ≤ s.geti (BNK_TRKOB_OHI (ent k.entry 20 1)))))) = true := by decide +kernel

theorem witness_LedgersAreExportedImportedAndSaved :
    ((let f : Fin 64 := 63; let c : Nat := 5; let a : List Cmd := [(⟨4, 8, 0x0200, .started, 0, 0, 0, false, false, 0, false, false, 0, 0, none⟩ : Cmd)]; let b : List Cmd := [(⟨6, 10, 0x0110, .waiting, 0, 0, 0, false, false, 0, false, false, 0, 0, none⟩ : Cmd)]; let k : Cmd := (⟨5, 9, (0x0310), .running, 0, 0, 0, false, false, 0, false, false, 0, 0, none⟩ : Cmd); let s : State := ((puts (State.reset) []).modFlow 63 (fun x => { x with cmds := [(⟨4, 8, 0x0200, .started, 0, 0, 0, false, false, 0, false, false, 0, 0, none⟩ : Cmd), (⟨5, 9, (0x0310), .running, 0, 0, 0, false, false, 0, false, false, 0, 0, none⟩ : Cmd), (⟨6, 10, 0x0110, .waiting, 0, 0, 0, false, false, 0, false, false, 0, 0, none⟩ : Cmd)] })); decide ((Runs s f c 0x0310 a b k))) &&
    (let f : Fin 64 := 63; let c : Nat := 5; let a : List Cmd := [(⟨4, 8, 0x0200, .started, 0, 0, 0, false, false, 0, false, false, 0, 0, none⟩ : Cmd)]; let b : List Cmd := [(⟨6, 10, 0x0110, .waiting, 0, 0, 0, false, false, 0, false, false, 0, 0, none⟩ : Cmd)]; let k : Cmd := (⟨5, 9, (0x0311 + 156167 * 2 ^ 160), .running, 0, 0, 0, false, false, 0, false, false, 0, 0, none⟩ : Cmd); let s : State := ((puts (State.reset) []).modFlow 63 (fun x => { x with cmds := [(⟨4, 8, 0x0200, .started, 0, 0, 0, false, false, 0, false, false, 0, 0, none⟩ : Cmd), (⟨5, 9, (0x0311 + 156167 * 2 ^ 160), .running, 0, 0, 0, false, false, 0, false, false, 0, 0, none⟩ : Cmd), (⟨6, 10, 0x0110, .waiting, 0, 0, 0, false, false, 0, false, false, 0, 0, none⟩ : Cmd)] })); decide ((Runs s f c 0x0311 a b k) ∧ (s.calBusy f c = false) ∧ (ent k.entry 20 4 ≠ ledgerLen))) &&
    (let f : Fin 64 := 63; let c : Nat := 5; let a : List Cmd := [(⟨4, 8, 0x0200, .started, 0, 0, 0, false, false, 0, false, false, 0, 0, none⟩ : Cmd)]; let b : List Cmd := [(⟨6, 10, 0x0110, .waiting, 0, 0, 0, false, false, 0, false, false, 0, 0, none⟩ : Cmd)]; let k : Cmd := (⟨5, 9, (0x0312 + 77 * 2 ^ 192), .running, 0, 0, 0, false, false, 0, false, false, 0, 0, none⟩ : Cmd); let s : State := ((puts (State.reset) [(GLB_MODE_LEDGERHOST, 0), (CAL_CTRL_PREERASE, 0)]).modFlow 63 (fun x => { x with cmds := [(⟨4, 8, 0x0200, .started, 0, 0, 0, false, false, 0, false, false, 0, 0, none⟩ : Cmd), (⟨5, 9, (0x0312 + 77 * 2 ^ 192), .running, 0, 0, 0, false, false, 0, false, false, 0, 0, none⟩ : Cmd), (⟨6, 10, 0x0110, .waiting, 0, 0, 0, false, false, 0, false, false, 0, 0, none⟩ : Cmd)] })); decide ((Runs s f c 0x0312 a b k) ∧ (s.calBusy f c = false) ∧ (s.flashBusy = false) ∧ (s.bit GLB_MODE_LEDGERHOST = false) ∧ (s.bit CAL_CTRL_PREERASE = false))) &&
    (let f : Fin 64 := 63; let c : Nat := 5; let a : List Cmd := [(⟨4, 8, 0x0200, .started, 0, 0, 0, false, false, 0, false, false, 0, 0, none⟩ : Cmd)]; let b : List Cmd := [(⟨6, 10, 0x0110, .waiting, 0, 0, 0, false, false, 0, false, false, 0, 0, none⟩ : Cmd)]; let k : Cmd := (⟨5, 9, (0x0312 + 77 * 2 ^ 192), .running, 0, 0, 0, false, false, 0, false, false, 0, 0, none⟩ : Cmd); let s : State := ((puts (State.reset) [(GLB_MODE_LEDGERHOST, 0), (CAL_CTRL_PREERASE, 1)]).modFlow 63 (fun x => { x with cmds := [(⟨4, 8, 0x0200, .started, 0, 0, 0, false, false, 0, false, false, 0, 0, none⟩ : Cmd), (⟨5, 9, (0x0312 + 77 * 2 ^ 192), .running, 0, 0, 0, false, false, 0, false, false, 0, 0, none⟩ : Cmd), (⟨6, 10, 0x0110, .waiting, 0, 0, 0, false, false, 0, false, false, 0, 0, none⟩ : Cmd)] })); decide ((Runs s f c 0x0312 a b k) ∧ (s.calBusy f c = false) ∧ (s.flashBusy = false) ∧ (s.bit GLB_MODE_LEDGERHOST = false) ∧ (s.bit CAL_CTRL_PREERASE = true))) &&
    (let f : Fin 64 := 63; let c : Nat := 5; let a : List Cmd := [(⟨4, 8, 0x0200, .started, 0, 0, 0, false, false, 0, false, false, 0, 0, none⟩ : Cmd)]; let b : List Cmd := [(⟨6, 10, 0x0110, .waiting, 0, 0, 0, false, false, 0, false, false, 0, 0, none⟩ : Cmd)]; let k : Cmd := (⟨5, 9, (0x0312 + 77 * 2 ^ 192), .running, 0, 0, 0, false, false, 0, false, false, 0, 0, none⟩ : Cmd); let s : State := ((puts (State.reset) [(GLB_MODE_LEDGERHOST, 0)]).modFlow 63 (fun x => { x with cmds := [(⟨4, 8, 0x0200, .started, 0, 0, 0, false, false, 0, false, false, 0, 0, none⟩ : Cmd), (⟨5, 9, (0x0312 + 77 * 2 ^ 192), .running, 0, 0, 0, false, false, 0, false, false, 0, 0, none⟩ : Cmd), (⟨6, 10, 0x0110, .waiting, 0, 0, 0, false, false, 0, false, false, 0, 0, none⟩ : Cmd)] })); let p : Bool := true; let q : Bool := false; decide ((Runs s f c 0x0312 a b k) ∧ (s.calBusy f c = false) ∧ (s.flashBusy = false) ∧ (s.bit GLB_MODE_LEDGERHOST = false) ∧ ((p && q) = false))) &&
    (let f : Fin 64 := 63; let c : Nat := 5; let a : List Cmd := [(⟨4, 8, 0x0200, .started, 0, 0, 0, false, false, 0, false, false, 0, 0, none⟩ : Cmd)]; let b : List Cmd := [(⟨6, 10, 0x0110, .waiting, 0, 0, 0, false, false, 0, false, false, 0, 0, none⟩ : Cmd)]; let k : Cmd := (⟨5, 9, (0x0312 + 77 * 2 ^ 192), .running, 0, 0, 0, false, false, 0, false, false, 0, 0, none⟩ : Cmd); let s : State := ((puts (State.reset) [(GLB_MODE_LEDGERHOST, 1)]).modFlow 63 (fun x => { x with cmds := [(⟨4, 8, 0x0200, .started, 0, 0, 0, false, false, 0, false, false, 0, 0, none⟩ : Cmd), (⟨5, 9, (0x0312 + 77 * 2 ^ 192), .running, 0, 0, 0, false, false, 0, false, false, 0, 0, none⟩ : Cmd), (⟨6, 10, 0x0110, .waiting, 0, 0, 0, false, false, 0, false, false, 0, 0, none⟩ : Cmd)] })); let p : Bool := true; let q : Bool := true; decide ((Runs s f c 0x0312 a b k) ∧ (s.calBusy f c = false) ∧ (s.flashBusy = false) ∧ (s.bit GLB_MODE_LEDGERHOST = true))) &&
    (let f : Fin 64 := 63; let c : Nat := 5; let a : List Cmd := [(⟨4, 8, 0x0200, .started, 0, 0, 0, false, false, 0, false, false, 0, 0, none⟩ : Cmd)]; let b : List Cmd := [(⟨6, 10, 0x0110, .waiting, 0, 0, 0, false, false, 0, false, false, 0, 0, none⟩ : Cmd)]; let k : Cmd := (⟨5, 9, (0x0312 + 77 * 2 ^ 192), .running, 0, 0, 0, false, false, 0, false, false, 0, 0, none⟩ : Cmd); let s : State := { ((puts (State.reset) []).modFlow 63 (fun x => { x with cmds := [(⟨4, 8, 0x0200, .started, 0, 0, 0, false, false, 0, false, false, 0, 0, none⟩ : Cmd), (⟨5, 9, (0x0312 + 77 * 2 ^ 192), .running, 0, 0, 0, false, false, 0, false, false, 0, 0, none⟩ : Cmd), (⟨6, 10, 0x0110, .waiting, 0, 0, 0, false, false, 0, false, false, 0, 0, none⟩ : Cmd)] })) with cal := { (State.reset).cal with run := some (⟨1, 2, 1, 0, [(321, 0)], [321], 0, 1, [], 0, false, [], [], 0, [], []⟩ : CalRun) } }; let p : Bool := true; let q : Bool := true; let op : Nat := 0x0312; decide ((Runs s f c op a b k) ∧ (s.calBusy f c = true) ∧ (s.flashBusy = false))) &&
    (let f : Fin 64 := 63; let c : Nat := 5; let p : Bool := true; let q : Bool := true; let s : State := (((puts (State.reset) []).modFlow 63 (fun x => { x with cmds := [(⟨4, 8, 0x0200, .started, 0, 0, 0, false, false, 0, false, false, 0, 0, none⟩ : Cmd), (⟨5, 9, (0x0312 + 77 * 2 ^ 192), .running, 0, 0, 0, false, false, 0, false, false, 0, 0, none⟩ : Cmd), (⟨6, 10, 0x0110, .waiting, 0, 0, 0, false, false, 0, false, false, 0, 0, none⟩ : Cmd)] }))).modSpt 0 (fun x => { x with frame := true }); decide ((s.flashBusy = true)))) = true := by decide +kernel

theorem witness_CalibrationRuns :
    ((let f : Fin 64 := 63; let c : Nat := 5; let a : List Cmd := [(⟨4, 8, 0x0200, .started, 0, 0, 0, false, false, 0, false, false, 0, 0, none⟩ : Cmd)]; let b : List Cmd := [(⟨6, 10, 0x0110, .waiting, 0, 0, 0, false, false, 0, false, false, 0, 0, none⟩ : Cmd)]; let k : Cmd := (⟨5, 9, (0x0300 + 0x1000 * 2 ^ 64 + 8 * 2 ^ 128 + 1 * 2 ^ 160 + 1 * 2 ^ 224), .running, 0, 0, 0, false, false, 0, false, false, 0, 0, none⟩ : Cmd); let s : State := { ((puts (State.reset) [(FL_CTRL_PRIV 63, 1), (CAL_REFCFG_EN, 1), (CAL_REFSTAT_PRESENT, 1), (CAL_REFSTAT_INWIN, 1), (BNK_STAT_ROOTACT 5, 1), (SYN_STAT_STATE 1, stLocked), (BNK_STAT_DLLLOCK 5, 1), (BNK_STAT_TAINT 5, 0), (CH_GRP_MEMBER 321, 0), (CH_TAKE_JOIN 321, 0)]).modFlow 63 (fun x => { x with cmds := [(⟨4, 8, 0x0200, .started, 0, 0, 0, false, false, 0, false, false, 0, 0, none⟩ : Cmd), (⟨5, 9, (0x0300 + 0x1000 * 2 ^ 64 + 8 * 2 ^ 128 + 1 * 2 ^ 160 + 1 * 2 ^ 224), .running, 0, 0, 0, false, false, 0, false, false, 0, 0, none⟩ : Cmd), (⟨6, 10, 0x0110, .waiting, 0, 0, 0, false, false, 0, false, false, 0, 0, none⟩ : Cmd)] })).modRoot 1 (fun x => { x with st := stLocked, lock := true }) with ep := { (State.reset).ep with bme := true }, chans := [(321, { (Chan.init) with pk := { Chan.init.pk with parked := true } })] }; let buf : List Byte := [65#8, 1#8, 0#8, 0#8, 0#8, 0#8, 0#8, 0#8]; let fam : Nat := 1; let ref : Nat := 0; let sc : List (Nat × Int) := [(321, 0)]; let units : List (Nat × Int) := [(321, 0)]; let chans : List Nat := [321]; decide ((Runs s f c 0x0300 a b k) ∧ (s.dmaOn = true) ∧ (bufOk k.entry (8 * ent k.entry 28 2) = true) ∧ (ent k.entry 20 1 = fam) ∧ (ent k.entry 22 2 = ref) ∧ (calScope (ent k.entry 28 2) (buf.map (fun x : Byte => x.toNat)) = sc) ∧ ((if (fam = 4 ∨ fam = 5) ∧ sc.all (fun u => u.1 != ref) = true then (ref, 0) :: sc else sc) = units) ∧ (calChansOf fam ref units = chans) ∧ (calScopeOk fam ref (ent k.entry 24 4) sc = true) ∧ ((sc.all (fun u => fam == 6 || s.chanIn f u.1)) = true) ∧ (s.calBusy f c = false) ∧ (s.calCheck fam ref (ent k.entry 24 4) chans = Code.OK))) &&
    (let f : Fin 64 := 63; let c : Nat := 5; let a : List Cmd := [(⟨4, 8, 0x0200, .started, 0, 0, 0, false, false, 0, false, false, 0, 0, none⟩ : Cmd)]; let b : List Cmd := [(⟨6, 10, 0x0110, .waiting, 0, 0, 0, false, false, 0, false, false, 0, 0, none⟩ : Cmd)]; let k : Cmd := (⟨5, 9, (0x0300 + 0x1000 * 2 ^ 64 + 8 * 2 ^ 128 + 1 * 2 ^ 160 + 1 * 2 ^ 224), .running, 0, 0, 0, false, false, 0, false, false, 0, 0, none⟩ : Cmd); let s : State := { ((puts (State.reset) [(FL_CTRL_PRIV 63, 1), (CAL_REFCFG_EN, 1), (CAL_REFSTAT_PRESENT, 1), (CAL_REFSTAT_INWIN, 1), (BNK_STAT_ROOTACT 5, 1), (SYN_STAT_STATE 1, stLocked), (BNK_STAT_DLLLOCK 5, 1), (BNK_STAT_TAINT 5, 0), (CH_GRP_MEMBER 321, 0), (CH_TAKE_JOIN 321, 0), (CH_GRP_MEMBER 321, 1), (CH_GRP_GROUP 321, 0), (FL_PARTLO_MASK 63, 1)]).modFlow 63 (fun x => { x with cmds := [(⟨4, 8, 0x0200, .started, 0, 0, 0, false, false, 0, false, false, 0, 0, none⟩ : Cmd), (⟨5, 9, (0x0300 + 0x1000 * 2 ^ 64 + 8 * 2 ^ 128 + 1 * 2 ^ 160 + 1 * 2 ^ 224), .running, 0, 0, 0, false, false, 0, false, false, 0, 0, none⟩ : Cmd), (⟨6, 10, 0x0110, .waiting, 0, 0, 0, false, false, 0, false, false, 0, 0, none⟩ : Cmd)] })) with ep := { (State.reset).ep with bme := true } }; let buf : List Byte := [65#8, 1#8, 0#8, 0#8, 0#8, 0#8, 0#8, 0#8]; let fam : Nat := 1; let ref : Nat := 0; let sc : List (Nat × Int) := [(321, 0)]; let units : List (Nat × Int) := [(321, 0)]; let chans : List Nat := [321]; decide ((Runs s f c 0x0300 a b k) ∧ (s.dmaOn = true) ∧ (bufOk k.entry (8 * ent k.entry 28 2) = true) ∧ (ent k.entry 20 1 = fam) ∧ (ent k.entry 22 2 = ref) ∧ (calScope (ent k.entry 28 2) (buf.map (fun x : Byte => x.toNat)) = sc) ∧ ((if (fam = 4 ∨ fam = 5) ∧ sc.all (fun u => u.1 != ref) = true then (ref, 0) :: sc else sc) = units) ∧ (calChansOf fam ref units = chans) ∧ (calScopeOk fam ref (ent k.entry 24 4) sc = true) ∧ ((sc.all (fun u => fam == 6 || s.chanIn f u.1)) = true) ∧ (s.calBusy f c = false) ∧ (s.calCheck fam ref (ent k.entry 24 4) chans ≠ Code.OK))) &&
    (let f : Fin 64 := 63; let c : Nat := 5; let a : List Cmd := [(⟨4, 8, 0x0200, .started, 0, 0, 0, false, false, 0, false, false, 0, 0, none⟩ : Cmd)]; let b : List Cmd := [(⟨6, 10, 0x0110, .waiting, 0, 0, 0, false, false, 0, false, false, 0, 0, none⟩ : Cmd)]; let k : Cmd := (⟨5, 9, (0x0300 + 0x1000 * 2 ^ 64 + 8 * 2 ^ 128 + 1 * 2 ^ 160 + 1 * 2 ^ 224), .running, 0, 0, 0, false, false, 0, false, false, 0, 0, none⟩ : Cmd); let s : State := { { ((puts (State.reset) [(FL_CTRL_PRIV 63, 1), (CAL_REFCFG_EN, 1), (CAL_REFSTAT_PRESENT, 1), (CAL_REFSTAT_INWIN, 1), (BNK_STAT_ROOTACT 5, 1), (SYN_STAT_STATE 1, stLocked), (BNK_STAT_DLLLOCK 5, 1), (BNK_STAT_TAINT 5, 0), (CH_GRP_MEMBER 321, 0), (CH_TAKE_JOIN 321, 0)]).modFlow 63 (fun x => { x with cmds := [(⟨4, 8, 0x0200, .started, 0, 0, 0, false, false, 0, false, false, 0, 0, none⟩ : Cmd), (⟨5, 9, (0x0300 + 0x1000 * 2 ^ 64 + 8 * 2 ^ 128 + 1 * 2 ^ 160 + 1 * 2 ^ 224), .running, 0, 0, 0, false, false, 0, false, false, 0, 0, none⟩ : Cmd), (⟨6, 10, 0x0110, .waiting, 0, 0, 0, false, false, 0, false, false, 0, 0, none⟩ : Cmd)] })) with ep := { (State.reset).ep with bme := true } } with cal := { (State.reset).cal with run := some (⟨1, 2, 1, 0, [(321, 0)], [321], 0, 1, [], 0, false, [], [], 0, [], []⟩ : CalRun) } }; let buf : List Byte := [65#8, 1#8, 0#8, 0#8, 0#8, 0#8, 0#8, 0#8]; let fam : Nat := 1; let ref : Nat := 0; let sc : List (Nat × Int) := [(321, 0)]; let units : List (Nat × Int) := [(321, 0)]; let chans : List Nat := [321]; decide ((Runs s f c 0x0300 a b k) ∧ (s.dmaOn = true) ∧ (bufOk k.entry (8 * ent k.entry 28 2) = true) ∧ (ent k.entry 20 1 = fam) ∧ (ent k.entry 22 2 = ref) ∧ (calScope (ent k.entry 28 2) (buf.map (fun x : Byte => x.toNat)) = sc) ∧ ((if (fam = 4 ∨ fam = 5) ∧ sc.all (fun u => u.1 != ref) = true then (ref, 0) :: sc else sc) = units) ∧ (calChansOf fam ref units = chans) ∧ (calScopeOk fam ref (ent k.entry 24 4) sc = true) ∧ ((sc.all (fun u => fam == 6 || s.chanIn f u.1)) = true) ∧ (s.calBusy f c = true))) &&
    (let f : Fin 64 := 63; let c : Nat := 5; let a : List Cmd := [(⟨4, 8, 0x0200, .started, 0, 0, 0, false, false, 0, false, false, 0, 0, none⟩ : Cmd)]; let b : List Cmd := [(⟨6, 10, 0x0110, .waiting, 0, 0, 0, false, false, 0, false, false, 0, 0, none⟩ : Cmd)]; let k : Cmd := (⟨5, 9, (0x0300 + 0x1000 * 2 ^ 64 + 8 * 2 ^ 128 + 1 * 2 ^ 160 + 1 * 2 ^ 224), .running, 0, 0, 0, false, false, 0, false, false, 0, 0, none⟩ : Cmd); let s : State := { ((puts (State.reset) [(FL_CTRL_PRIV 63, 1), (CAL_REFCFG_EN, 1), (CAL_REFSTAT_PRESENT, 1), (CAL_REFSTAT_INWIN, 1), (BNK_STAT_ROOTACT 5, 1), (SYN_STAT_STATE 1, stLocked), (BNK_STAT_DLLLOCK 5, 1), (BNK_STAT_TAINT 5, 0), (CH_GRP_MEMBER 321, 0), (CH_TAKE_JOIN 321, 0), (FL_CTRL_PRIV 63, 0)]).modFlow 63 (fun x => { x with cmds := [(⟨4, 8, 0x0200, .started, 0, 0, 0, false, false, 0, false, false, 0, 0, none⟩ : Cmd), (⟨5, 9, (0x0300 + 0x1000 * 2 ^ 64 + 8 * 2 ^ 128 + 1 * 2 ^ 160 + 1 * 2 ^ 224), .running, 0, 0, 0, false, false, 0, false, false, 0, 0, none⟩ : Cmd), (⟨6, 10, 0x0110, .waiting, 0, 0, 0, false, false, 0, false, false, 0, 0, none⟩ : Cmd)] })) with ep := { (State.reset).ep with bme := true } }; let buf : List Byte := [65#8, 1#8, 0#8, 0#8, 0#8, 0#8, 0#8, 0#8]; let fam : Nat := 1; let ref : Nat := 0; let sc : List (Nat × Int) := [(321, 0)]; let units : List (Nat × Int) := [(321, 0)]; let chans : List Nat := [321]; decide ((Runs s f c 0x0300 a b k) ∧ (s.dmaOn = true) ∧ (bufOk k.entry (8 * ent k.entry 28 2) = true) ∧ (ent k.entry 20 1 = fam) ∧ (ent k.entry 22 2 = ref) ∧ (calScope (ent k.entry 28 2) (buf.map (fun x : Byte => x.toNat)) = sc) ∧ ((if (fam = 4 ∨ fam = 5) ∧ sc.all (fun u => u.1 != ref) = true then (ref, 0) :: sc else sc) = units) ∧ (calChansOf fam ref units = chans) ∧ (calScopeOk fam ref (ent k.entry 24 4) sc = true) ∧ ((sc.all (fun u => fam == 6 || s.chanIn f u.1)) = false))) &&
    (let f : Fin 64 := 63; let c : Nat := 5; let a : List Cmd := [(⟨4, 8, 0x0200, .started, 0, 0, 0, false, false, 0, false, false, 0, 0, none⟩ : Cmd)]; let b : List Cmd := [(⟨6, 10, 0x0110, .waiting, 0, 0, 0, false, false, 0, false, false, 0, 0, none⟩ : Cmd)]; let k : Cmd := (⟨5, 9, (0x0300 + 0x1000 * 2 ^ 64 + 8 * 2 ^ 128 + 7 * 2 ^ 160 + 1 * 2 ^ 224), .running, 0, 0, 0, false, false, 0, false, false, 0, 0, none⟩ : Cmd); let s : State := { ((puts (State.reset) []).modFlow 63 (fun x => { x with cmds := [(⟨4, 8, 0x0200, .started, 0, 0, 0, false, false, 0, false, false, 0, 0, none⟩ : Cmd), (⟨5, 9, (0x0300 + 0x1000 * 2 ^ 64 + 8 * 2 ^ 128 + 7 * 2 ^ 160 + 1 * 2 ^ 224), .running, 0, 0, 0, false, false, 0, false, false, 0, 0, none⟩ : Cmd), (⟨6, 10, 0x0110, .waiting, 0, 0, 0, false, false, 0, false, false, 0, 0, none⟩ : Cmd)] })) with ep := { (State.reset).ep with bme := true } }; let buf : List Byte := [65#8, 1#8, 0#8, 0#8, 0#8, 0#8, 0#8, 0#8]; decide ((Runs s f c 0x0300 a b k) ∧ (s.dmaOn = true) ∧ (bufOk k.entry (8 * ent k.entry 28 2) = false ∨ calScopeOk (ent k.entry 20 1) (ent k.entry 22 2) (ent k.entry 24 4) (calScope (ent k.entry 28 2) (buf.map (fun x : Byte => x.toNat))) = false))) &&
    (let f : Fin 64 := 63; let c : Nat := 5; let a : List Cmd := [(⟨4, 8, 0x0200, .started, 0, 0, 0, false, false, 0, false, false, 0, 0, none⟩ : Cmd)]; let b : List Cmd := [(⟨6, 10, 0x0110, .waiting, 0, 0, 0, false, false, 0, false, false, 0, 0, none⟩ : Cmd)]; let k : Cmd := (⟨5, 9, (0x0301), .running, 0, 0, 0, false, false, 0, false, false, 0, 0, none⟩ : Cmd); let s : State := { ((puts (State.reset) [(CH_EVSTAT_EDG1US 321, 0), (CH_CALCTRL_CDRV 321, 1), (CH_GRP_MEMBER 322, 0)]).modFlow 63 (fun x => { x with cmds := [(⟨4, 8, 0x0200, .started, 0, 0, 0, false, false, 0, false, false, 0, 0, none⟩ : Cmd), (⟨5, 9, (0x0301), .running, 0, 0, 0, false, false, 0, false, false, 0, 0, none⟩ : Cmd), (⟨6, 10, 0x0110, .waiting, 0, 0, 0, false, false, 0, false, false, 0, 0, none⟩ : Cmd)] })) with cal := { (State.reset).cal with run := some (⟨63, 5, 5, 321, [(321, 0), (322, 0)], [321, 322], 0, 1, [], 1, false, [], [], 0, [], []⟩ : CalRun) }, caps := [(321, { Cap.init with quiet := 10, trans := 0 })] }; let r : CalRun := (⟨63, 5, 5, 321, [(321, 0), (322, 0)], [321, 322], 0, 1, [], 1, false, [], [], 0, [], []⟩ : CalRun); decide ((Runs s f c 0x0301 a b k) ∧ (s.cal.run = some r) ∧ (r.fam = 5) ∧ (r.step < r.units.length) ∧ (s.calActivity 5 r.ref 0 [] = true) ∧ (s.bit (CH_GRP_MEMBER (r.unit r.step)) = false))) &&
    (let f : Fin 64 := 63; let c : Nat := 5; let a : List Cmd := [(⟨4, 8, 0x0200, .started, 0, 0, 0, false, false, 0, false, false, 0, 0, none⟩ : Cmd)]; let b : List Cmd := [(⟨6, 10, 0x0110, .waiting, 0, 0, 0, false, false, 0, false, false, 0, 0, none⟩ : Cmd)]; let k : Cmd := (⟨5, 9, (0x0301), .running, 0, 0, 0, false, false, 0, false, false, 0, 0, none⟩ : Cmd); let s : State := ((puts (State.reset) []).modFlow 63 (fun x => { x with cmds := [(⟨4, 8, 0x0200, .started, 0, 0, 0, false, false, 0, false, false, 0, 0, none⟩ : Cmd), (⟨5, 9, (0x0301), .running, 0, 0, 0, false, false, 0, false, false, 0, 0, none⟩ : Cmd), (⟨6, 10, 0x0110, .waiting, 0, 0, 0, false, false, 0, false, false, 0, 0, none⟩ : Cmd)] })); decide ((Runs s f c 0x0301 a b k) ∧ (s.cal.run = none ∨ s.cal.run.any (fun r => decide (r.fam ≠ 5 ∨ r.units.length ≤ r.step)) = true))) &&
    (let f : Fin 64 := 63; let c : Nat := 5; let a : List Cmd := [(⟨4, 8, 0x0200, .started, 0, 0, 0, false, false, 0, false, false, 0, 0, none⟩ : Cmd)]; let b : List Cmd := [(⟨6, 10, 0x0110, .waiting, 0, 0, 0, false, false, 0, false, false, 0, 0, none⟩ : Cmd)]; let k : Cmd := (⟨5, 9, (0x0301), .running, 0, 0, 0, false, false, 0, false, false, 0, 0, none⟩ : Cmd); let s : State := { ((puts (State.reset) [(CH_EVSTAT_EDG1US 321, 0)]).modFlow 63 (fun x => { x with cmds := [(⟨4, 8, 0x0200, .started, 0, 0, 0, false, false, 0, false, false, 0, 0, none⟩ : Cmd), (⟨5, 9, (0x0301), .running, 0, 0, 0, false, false, 0, false, false, 0, 0, none⟩ : Cmd), (⟨6, 10, 0x0110, .waiting, 0, 0, 0, false, false, 0, false, false, 0, 0, none⟩ : Cmd)] })) with cal := { (State.reset).cal with run := some (⟨1, 5, 5, 321, [(321, 0), (322, 0)], [321, 322], 0, 1, [], 1, false, [], [], 0, [], []⟩ : CalRun) }, caps := [(321, { Cap.init with quiet := 9, trans := 0 })] }; let r : CalRun := (⟨1, 5, 5, 321, [(321, 0), (322, 0)], [321, 322], 0, 1, [], 1, false, [], [], 0, [], []⟩ : CalRun); decide ((Runs s f c 0x0301 a b k) ∧ (s.cal.run = some r) ∧ (r.fam = 5) ∧ (r.step < r.units.length) ∧ (s.calActivity 5 r.ref 0 [] = false) ∧ (r.f ≠ f))) &&
    (let tainted : Bool := true; let active : Bool := true; let vals : List (List Int) := []; let refs : List (Nat × Int) := []; let r : CalRun := (⟨63, 5, 1, 0, [(321, 0)], [321], 0, 1, [], 0, false, [], [], 0, [], []⟩ : CalRun); let a : List Cmd := []; let b : List Cmd := []; let k : Cmd := ⟨5, 9, 0x0300, .started, 0, 0, 0, false, false, 0, false, false, 0, 0, none⟩; let s : State := { (puts (State.reset) [(FL_CTRL_PRIV 63, 1), (CAL_REFCFG_EN, 1), (CAL_REFSTAT_PRESENT, 1), (CAL_REFSTAT_INWIN, 1), (BNK_STAT_ROOTACT 5, 1), (SYN_STAT_STATE 1, stLocked), (BNK_STAT_DLLLOCK 5, 1), (BNK_STAT_TAINT 5, 0), (CH_GRP_MEMBER 321, 0), (CH_TAKE_JOIN 321, 0)]).modFlow 63 (fun x => { x with cmds := [⟨5, 9, 0x0300, .started, 0, 0, 0, false, false, 0, false, false, 0, 0, none⟩] }) with cal := { (State.reset).cal with run := some (⟨63, 5, 1, 0, [(321, 0)], [321], 0, 1, [], 0, false, [], [], 0, [], []⟩ : CalRun) } }; decide ((s.cal.run = some r) ∧ ((s.flow r.f).cmds = a ++ k :: b) ∧ (∀ x ∈ a ++ b, x.id ≠ r.c) ∧ (k.id = r.c) ∧ (k.st = .started) ∧ (k.orphan = false) ∧ (tainted = true ∨ s.calKept r ≠ Code.OK ∨ active = false))) &&
    (let vals : List (List Int) := [[7]]; let refs : List (Nat × Int) := []; let r : CalRun := (⟨63, 5, 1, 0, [(321, 0)], [321], 0, 1, [], 0, false, [], [], 0, (State.reset.clockMarks [321]), []⟩ : CalRun); let s : State := { (puts (State.reset) [(FL_CTRL_PRIV 63, 1), (CAL_REFCFG_EN, 1), (CAL_REFSTAT_PRESENT, 1), (CAL_REFSTAT_INWIN, 1), (BNK_STAT_ROOTACT 5, 1), (SYN_STAT_STATE 1, stLocked), (BNK_STAT_DLLLOCK 5, 1), (BNK_STAT_TAINT 5, 0), (CH_GRP_MEMBER 321, 0), (CH_TAKE_JOIN 321, 0)]).modRoot 1 (fun x => { x with st := stLocked, lock := true }) with cal := { (State.reset).cal with run := some (⟨63, 5, 1, 0, [(321, 0)], [321], 0, 1, [], 0, false, [], [], 0, (State.reset.clockMarks [321]), []⟩ : CalRun) } }; decide ((s.cal.run = some r) ∧ (s.calKept r = Code.OK) ∧ (r.fits vals = true) ∧ (r.pass = 1) ∧ (r.fam ≠ 5 ∨ r.step = r.units.length))) &&
    (let vals : List (List Int) := [[7]]; let refs : List (Nat × Int) := []; let r : CalRun := (⟨63, 5, 1, 0, [(321, 0)], [321], 0, 2, [[7]], 0, false, [], [], 0, (State.reset.clockMarks [321]), []⟩ : CalRun); let s : State := { (puts (State.reset) [(FL_CTRL_PRIV 63, 1), (CAL_REFCFG_EN, 1), (CAL_REFSTAT_PRESENT, 1), (CAL_REFSTAT_INWIN, 1), (BNK_STAT_ROOTACT 5, 1), (SYN_STAT_STATE 1, stLocked), (BNK_STAT_DLLLOCK 5, 1), (BNK_STAT_TAINT 5, 0), (CH_GRP_MEMBER 321, 0), (CH_TAKE_JOIN 321, 0)]).modRoot 1 (fun x => { x with st := stLocked, lock := true }) with cal := { (State.reset).cal with run := some (⟨63, 5, 1, 0, [(321, 0)], [321], 0, 2, [[7]], 0, false, [], [], 0, (State.reset.clockMarks [321]), []⟩ : CalRun) } }; decide ((s.cal.run = some r) ∧ (s.calKept r = Code.OK) ∧ (r.fits vals = true) ∧ (r.pass ≠ 1) ∧ (r.fam ≠ 5 ∨ r.step = r.units.length) ∧ (r.fam ≠ 3 ∨ r.host = true ∨ s.refsFit (calBanks r.chans) refs = true))) &&
    (let vals : List (List Int) := [[]]; let refs : List (Nat × Int) := []; let r : CalRun := (⟨63, 5, 1, 0, [(321, 0)], [321], 0, 1, [], 0, false, [], [], 0, (State.reset.clockMarks [321]), []⟩ : CalRun); let s : State := { (puts (State.reset) [(FL_CTRL_PRIV 63, 1), (CAL_REFCFG_EN, 1), (CAL_REFSTAT_PRESENT, 1), (CAL_REFSTAT_INWIN, 1), (BNK_STAT_ROOTACT 5, 1), (SYN_STAT_STATE 1, stLocked), (BNK_STAT_DLLLOCK 5, 1), (BNK_STAT_TAINT 5, 0), (CH_GRP_MEMBER 321, 0), (CH_TAKE_JOIN 321, 0)]).modRoot 1 (fun x => { x with st := stLocked, lock := true }) with cal := { (State.reset).cal with run := some (⟨63, 5, 1, 0, [(321, 0)], [321], 0, 1, [], 0, false, [], [], 0, (State.reset.clockMarks [321]), []⟩ : CalRun) } }; decide ((s.cal.run = some r) ∧ (s.calKept r = Code.OK) ∧ (r.fits vals = false ∨ (r.fam = 5 ∧ r.step ≠ r.units.length) ∨ (r.fam = 3 ∧ r.pass ≠ 1 ∧ r.host = false ∧ s.refsFit (calBanks r.chans) refs = false)))) &&
    (let tainted : Bool := true; let active : Bool := false; let vals : List (List Int) := [[7]]; let refs : List (Nat × Int) := []; let s : State := State.reset; decide ((s.cal.run = none))) &&
    (let f : Fin 64 := 63; let c : Nat := 5; let a : List Cmd := [(⟨4, 8, 0x0200, .started, 0, 0, 0, false, false, 0, false, false, 0, 0, none⟩ : Cmd)]; let b : List Cmd := [(⟨6, 10, 0x0110, .waiting, 0, 0, 0, false, false, 0, false, false, 0, 0, none⟩ : Cmd)]; let k : Cmd := (⟨5, 9, (0x0302 + 0x1000 * 2 ^ 64 + 156168 * 2 ^ 128), .running, 0, 0, 0, false, false, 0, false, false, 0, 0, none⟩ : Cmd); let s : State := { ((puts (State.reset) []).modFlow 63 (fun x => { x with cmds := [(⟨4, 8, 0x0200, .started, 0, 0, 0, false, false, 0, false, false, 0, 0, none⟩ : Cmd), (⟨5, 9, (0x0302 + 0x1000 * 2 ^ 64 + 156168 * 2 ^ 128), .running, 0, 0, 0, false, false, 0, false, false, 0, 0, none⟩ : Cmd), (⟨6, 10, 0x0110, .waiting, 0, 0, 0, false, false, 0, false, false, 0, 0, none⟩ : Cmd)] })) with ep := { (State.reset).ep with bme := true } }; let buf : List Byte := List.replicate 516 0#8; decide ((Runs s f c 0x0302 a b k) ∧ (s.dmaOn = true) ∧ (bufOk k.entry ledgerLen = true) ∧ (submitFits 512 ((buf.map (fun x : Byte => x.toNat)).drop 0x200) = true))) &&
    (let f : Fin 64 := 63; let c : Nat := 5; let a : List Cmd := [(⟨4, 8, 0x0200, .started, 0, 0, 0, false, false, 0, false, false, 0, 0, none⟩ : Cmd)]; let b : List Cmd := [(⟨6, 10, 0x0110, .waiting, 0, 0, 0, false, false, 0, false, false, 0, 0, none⟩ : Cmd)]; let k : Cmd := (⟨5, 9, (0x0302 + 0x1000 * 2 ^ 64 + 8 * 2 ^ 128), .running, 0, 0, 0, false, false, 0, false, false, 0, 0, none⟩ : Cmd); let s : State := { ((puts (State.reset) []).modFlow 63 (fun x => { x with cmds := [(⟨4, 8, 0x0200, .started, 0, 0, 0, false, false, 0, false, false, 0, 0, none⟩ : Cmd), (⟨5, 9, (0x0302 + 0x1000 * 2 ^ 64 + 8 * 2 ^ 128), .running, 0, 0, 0, false, false, 0, false, false, 0, 0, none⟩ : Cmd), (⟨6, 10, 0x0110, .waiting, 0, 0, 0, false, false, 0, false, false, 0, 0, none⟩ : Cmd)] })) with ep := { (State.reset).ep with bme := true } }; let buf : List Byte := []; decide ((Runs s f c 0x0302 a b k) ∧ (s.dmaOn = true) ∧ (bufOk k.entry ledgerLen = false ∨ submitFits 512 ((buf.map (fun x : Byte => x.toNat)).drop 0x200) = false)))) = true := by decide +kernel

theorem witness_RegulatorsAndAdaptiveVoltage :
    ((let src : Source := .host; let w : Word := 1#32; let s : State := (puts ((puts State.reset [(SEC_BOOTSTAT_STAGE, 9), (SEC_LCSTATE_LC, 2)])) [(PMBR_CFG_VALID 3, 1), (PMBR_CFG_ADDR 3, 0x5B), (PMBR_CFG_RAIL 3, 0), (PMB_CTRL_EN, 1), (PMB_CTRL_EN, 0), (PMBR_STAT_PRESENT 7, 1)]); decide ((s.rowServed src PMB_CTRL true = true) ∧ (s.bit PMB_CTRL_EN = false) ∧ (wbit w 0 = true) ∧ (s.bit PMB_CTRL_LOCK = false))) &&
    (let src : Source := .host; let w : Word := 0#32; let s : State := { (puts ((puts State.reset [(SEC_BOOTSTAT_STAGE, 9), (SEC_LCSTATE_LC, 2)])) [(PMBR_CFG_VALID 3, 1), (PMBR_CFG_ADDR 3, 0x5B), (PMBR_CFG_RAIL 3, 0), (PMB_CTRL_EN, 1)]) with pmb := { ((puts State.reset [(SEC_BOOTSTAT_STAGE, 9), (SEC_LCSTATE_LC, 2)])).pmb with q := [⟨3, 2, 121, 0, 0, .poll⟩], known := true } }; decide ((s.rowServed src PMB_CTRL true = true) ∧ (s.bit PMB_CTRL_EN = true) ∧ (wbit w 0 = false) ∧ (s.bit PMB_CTRL_LOCK = false) ∧ (s.pmb.q.all (fun x => x.why.cmd.isNone) = true))) &&
    (let r : Nat := 3; let s : State := (puts (State.reset) [(PMBR_CFG_VALID 3, 1), (PMBR_CFG_ADDR 3, 0x5B), (PMBR_CFG_RAIL 3, 0), (PMB_CTRL_EN, 1)]); decide ((r < 8) ∧ (s.bit PMB_CTRL_EN = true) ∧ (s.slots = [r]) ∧ (s.pmb.q = []) ∧ (s.pinsCut = false))) &&
    (let s : State := { (puts (State.reset) [(PMBR_CFG_VALID 3, 1), (PMBR_CFG_ADDR 3, 0x5B), (PMBR_CFG_RAIL 3, 0), (PMB_CTRL_EN, 1)]) with pmb := { (State.reset).pmb with q := [⟨3, 2, 121, 0, 0, .poll⟩], known := true } }; decide ((s.bit PMB_CTRL_EN = true))) &&
    (let s : State := (puts (State.reset) [(PMBR_CFG_VALID 3, 1), (PMBR_CFG_ADDR 3, 0x5B), (PMBR_CFG_RAIL 3, 0), (PMB_CTRL_EN, 1)]); decide ((s.pinsCut = false) ∧ (s.bit PMB_STAT_ALERT = false) ∧ (s.bit PMB_CTRL_EN = true) ∧ (s.pmb.q = []))) &&
    (let s : State := (puts (State.reset) [(PMB_STAT_ALERT, 1)]); decide ((s.pinsCut = false))) &&
    (let v : BitVec 16 := 0xFFFF#16; let x : PmTx := ⟨3, 2, 139, 0, 0, .poll⟩; let s : State := { (puts (State.reset) [(PMBR_CFG_VALID 3, 1), (PMBR_CFG_ADDR 3, 0x5B), (PMBR_CFG_RAIL 3, 0), (PMB_CTRL_EN, 1)]) with pmb := { (State.reset).pmb with q := [⟨3, 2, 139, 0, 0, .poll⟩], known := true } }; decide ((s.pinsCut = false) ∧ (s.pmb.q = [x]) ∧ (x.why = .poll) ∧ (x.cmd = 0x8B) ∧ (x.slot < 8))) &&
    (let v : BitVec 16 := 0x0081#16; let x : PmTx := ⟨3, 2, 121, 0, 0, .poll⟩; let s : State := { (puts (State.reset) [(PMBR_CFG_VALID 3, 1), (PMBR_CFG_ADDR 3, 0x5B), (PMBR_CFG_RAIL 3, 0), (PMB_CTRL_EN, 1)]) with pmb := { (State.reset).pmb with q := [⟨3, 2, 121, 0, 0, .poll⟩], known := true } }; decide ((s.pinsCut = false) ∧ (s.pmb.q = [x]) ∧ (x.why = .poll) ∧ (x.cmd = 0x79) ∧ (x.slot < 8) ∧ (v.toNat ≠ 0) ∧ (v.toNat ≠ 128))) &&
    (let v : BitVec 16 := 0x0181#16; let x : PmTx := ⟨3, 1, 125, 0, 0, .fault 0x8001 [7, 9]⟩; let st : Nat := 0x8001; let b1 : Nat := 7; let b2 : Nat := 9; let s : State := { (puts (State.reset) [(PMBR_CFG_VALID 3, 1), (PMBR_CFG_ADDR 3, 0x5B), (PMBR_CFG_RAIL 3, 0), (PMB_CTRL_EN, 1)]) with pmb := { (State.reset).pmb with q := [⟨3, 1, 125, 0, 0, .fault 0x8001 [7, 9]⟩], known := true } }; decide ((s.pinsCut = false) ∧ (s.pmb.q = [x]) ∧ (x.why = .fault st [b1, b2]) ∧ (x.cmd = 0x7D) ∧ (x.slot < 8))) &&
    (let v : BitVec 16 := 0#16; let x : PmTx := ⟨3, 2, 121, 0, 1, .poll⟩; let s : State := { (puts (State.reset) [(PMBR_CFG_VALID 3, 1), (PMBR_CFG_ADDR 3, 0x5B), (PMBR_CFG_RAIL 3, 0), (PMB_CTRL_EN, 1)]) with pmb := { (State.reset).pmb with q := [⟨3, 2, 121, 0, 1, .poll⟩], known := true } }; decide ((s.pmb.q = [x]) ∧ (x.slot < 8) ∧ (x.fails < 2))) &&
    (let v : BitVec 16 := 0#16; let x : PmTx := ⟨3, 2, 121, 0, 2, .poll⟩; let s : State := { (puts (State.reset) [(PMBR_CFG_VALID 3, 1), (PMBR_CFG_ADDR 3, 0x5B), (PMBR_CFG_RAIL 3, 0), (PMB_CTRL_EN, 1)]) with pmb := { (State.reset).pmb with q := [⟨3, 2, 121, 0, 2, .poll⟩], known := true } }; decide ((s.pmb.q = [x]) ∧ (x.slot < 8) ∧ (2 ≤ x.fails) ∧ (x.why = .poll))) &&
    (let m : BitVec 6 := 20#6; let s : State := { (puts (State.reset) [(PMBR_CFG_VALID 3, 1), (PMBR_CFG_ADDR 3, 0x5B), (PMBR_CFG_RAIL 3, 0), (PMB_CTRL_EN, 1), (PMB_AVSCTRL_EN, 1), (GLB_MODE_AVSHOST, 0), (PMB_AVSBND_VLO, 700), (PMB_AVSBND_VHI, 800), (PMB_AVSOUT_VSET, 750), (PMB_AVSMARG_MLO, 10), (PMB_AVSMARG_MHI, 20), (PMB_AVSMARG_MCRIT, 3), (PMB_AVSCTRL_UP, 10), (PMB_AVSCTRL_DN, 5)]) with pmb := { (State.reset).pmb with q := [], known := true } }; decide ((s.avsRuns = true) ∧ (s.pmb.q = []) ∧ (s.pmb.known = true) ∧ (680 ≤ s.get PMB_AVSBND_VLO) ∧ (s.get PMB_AVSBND_VHI ≤ 820) ∧ (s.get PMB_AVSBND_VLO ≤ s.get PMB_AVSOUT_VSET) ∧ (s.get PMB_AVSOUT_VSET ≤ s.get PMB_AVSBND_VHI) ∧ (s.get PMB_AVSMARG_MLO ≤ m.toNat) ∧ (m.toNat ≤ s.get PMB_AVSMARG_MHI))) &&
    (let m : BitVec 6 := 9#6; let s : State := { (puts (State.reset) [(PMBR_CFG_VALID 3, 1), (PMBR_CFG_ADDR 3, 0x5B), (PMBR_CFG_RAIL 3, 0), (PMB_CTRL_EN, 1), (PMB_AVSCTRL_EN, 1), (GLB_MODE_AVSHOST, 0), (PMB_AVSBND_VLO, 700), (PMB_AVSBND_VHI, 800), (PMB_AVSOUT_VSET, 750), (PMB_AVSMARG_MLO, 10), (PMB_AVSMARG_MHI, 20), (PMB_AVSMARG_MCRIT, 3), (PMB_AVSCTRL_UP, 10), (PMB_AVSCTRL_DN, 5)]) with pmb := { (State.reset).pmb with q := [], known := true } }; decide ((s.avsRuns = true) ∧ (s.pmb.q = []) ∧ (s.pmb.known = true) ∧ (680 ≤ s.get PMB_AVSBND_VLO) ∧ (s.get PMB_AVSBND_VHI ≤ 820) ∧ (s.get PMB_AVSBND_VLO ≤ s.get PMB_AVSOUT_VSET) ∧ (s.get PMB_AVSOUT_VSET ≤ s.get PMB_AVSBND_VHI) ∧ (m.toNat < s.get PMB_AVSMARG_MLO) ∧ (s.get PMB_AVSOUT_VSET + max 1 (s.get PMB_AVSCTRL_UP) ≤ s.get PMB_AVSBND_VHI))) &&
    (let m : BitVec 6 := 3#6; let s : State := { (puts (State.reset) [(PMBR_CFG_VALID 3, 1), (PMBR_CFG_ADDR 3, 0x5B), (PMBR_CFG_RAIL 3, 0), (PMB_CTRL_EN, 1), (PMB_AVSCTRL_EN, 1), (GLB_MODE_AVSHOST, 0), (PMB_AVSBND_VLO, 700), (PMB_AVSBND_VHI, 800), (PMB_AVSOUT_VSET, 750), (PMB_AVSMARG_MLO, 10), (PMB_AVSMARG_MHI, 20), (PMB_AVSMARG_MCRIT, 3), (PMB_AVSCTRL_UP, 10), (PMB_AVSCTRL_DN, 5)]) with pmb := { (State.reset).pmb with q := [], known := true } }; decide ((s.urgentOk m.toNat = true) ∧ (s.pmb.q = []) ∧ (s.pmb.lo ≤ s.get PMB_AVSOUT_VSET) ∧ (s.get PMB_AVSOUT_VSET + max 1 (s.get PMB_AVSCTRL_UP) ≤ s.pmb.hi) ∧ (s.pmb.hi ≤ 820))) &&
    (let f : Fin 64 := 63; let c : Nat := 5; let a : List Cmd := [(⟨4, 8, 0x0200, .started, 0, 0, 0, false, false, 0, false, false, 0, 0, none⟩ : Cmd)]; let b : List Cmd := [(⟨6, 10, 0x0110, .waiting, 0, 0, 0, false, false, 0, false, false, 0, 0, none⟩ : Cmd)]; let k : Cmd := (⟨5, 9, (0x0501 + 740 * 2 ^ 160), .running, 0, 0, 0, false, false, 0, false, false, 0, 0, none⟩ : Cmd); let s : State := ((puts (State.reset) [(GLB_MODE_AVSHOST, 1), (PMB_CTRL_EN, 1), (PWR_PDSTAT_STATE 83, 2)]).modFlow 63 (fun x => { x with cmds := [(⟨4, 8, 0x0200, .started, 0, 0, 0, false, false, 0, false, false, 0, 0, none⟩ : Cmd), (⟨5, 9, (0x0501 + 740 * 2 ^ 160), .running, 0, 0, 0, false, false, 0, false, false, 0, 0, none⟩ : Cmd), (⟨6, 10, 0x0110, .waiting, 0, 0, 0, false, false, 0, false, false, 0, 0, none⟩ : Cmd)] })); decide ((Runs s f c 0x0501 a b k) ∧ (s.bit GLB_MODE_AVSHOST = true) ∧ (s.vlo ≤ ent k.entry 20 2) ∧ (ent k.entry 20 2 ≤ s.vhi) ∧ (s.pmbReady = true) ∧ (s.voutTo (ent k.entry 20 2) (.set f c) = []))) &&
    (let f : Fin 64 := 63; let c : Nat := 5; let a : List Cmd := [(⟨4, 8, 0x0200, .started, 0, 0, 0, false, false, 0, false, false, 0, 0, none⟩ : Cmd)]; let b : List Cmd := [(⟨6, 10, 0x0110, .waiting, 0, 0, 0, false, false, 0, false, false, 0, 0, none⟩ : Cmd)]; let k : Cmd := (⟨5, 9, (0x0501 + 740 * 2 ^ 160), .running, 0, 0, 0, false, false, 0, false, false, 0, 0, none⟩ : Cmd); let s : State := ((puts (State.reset) [(PMBR_CFG_VALID 3, 1), (PMBR_CFG_ADDR 3, 0x5B), (PMBR_CFG_RAIL 3, 0), (PMB_CTRL_EN, 1), (GLB_MODE_AVSHOST, 1), (PMB_CTRL_EN, 1), (PWR_PDSTAT_STATE 83, 2)]).modFlow 63 (fun x => { x with cmds := [(⟨4, 8, 0x0200, .started, 0, 0, 0, false, false, 0, false, false, 0, 0, none⟩ : Cmd), (⟨5, 9, (0x0501 + 740 * 2 ^ 160), .running, 0, 0, 0, false, false, 0, false, false, 0, 0, none⟩ : Cmd), (⟨6, 10, 0x0110, .waiting, 0, 0, 0, false, false, 0, false, false, 0, 0, none⟩ : Cmd)] })); decide ((Runs s f c 0x0501 a b k) ∧ (s.bit GLB_MODE_AVSHOST = true) ∧ (s.vlo ≤ ent k.entry 20 2) ∧ (ent k.entry 20 2 ≤ s.vhi) ∧ (s.pmbReady = true) ∧ (s.voutTo (ent k.entry 20 2) (.set f c) ≠ []))) &&
    (let f : Fin 64 := 63; let c : Nat := 5; let a : List Cmd := [(⟨4, 8, 0x0200, .started, 0, 0, 0, false, false, 0, false, false, 0, 0, none⟩ : Cmd)]; let b : List Cmd := [(⟨6, 10, 0x0110, .waiting, 0, 0, 0, false, false, 0, false, false, 0, 0, none⟩ : Cmd)]; let k : Cmd := (⟨5, 9, (0x0501 + 821 * 2 ^ 160), .running, 0, 0, 0, false, false, 0, false, false, 0, 0, none⟩ : Cmd); let s : State := ((puts (State.reset) [(GLB_MODE_AVSHOST, 1)]).modFlow 63 (fun x => { x with cmds := [(⟨4, 8, 0x0200, .started, 0, 0, 0, false, false, 0, false, false, 0, 0, none⟩ : Cmd), (⟨5, 9, (0x0501 + 821 * 2 ^ 160), .running, 0, 0, 0, false, false, 0, false, false, 0, 0, none⟩ : Cmd), (⟨6, 10, 0x0110, .waiting, 0, 0, 0, false, false, 0, false, false, 0, 0, none⟩ : Cmd)] })); decide ((Runs s f c 0x0501 a b k) ∧ (s.bit GLB_MODE_AVSHOST = true) ∧ (ent k.entry 20 2 < s.vlo ∨ s.vhi < ent k.entry 20 2))) &&
    (let f : Fin 64 := 63; let c : Nat := 5; let a : List Cmd := [(⟨4, 8, 0x0200, .started, 0, 0, 0, false, false, 0, false, false, 0, 0, none⟩ : Cmd)]; let b : List Cmd := [(⟨6, 10, 0x0110, .waiting, 0, 0, 0, false, false, 0, false, false, 0, 0, none⟩ : Cmd)]; let k : Cmd := (⟨5, 9, (0x0502 + 3 * 2 ^ 160 + 2 * 2 ^ 168 + 136 * 2 ^ 176), .running, 0, 0, 0, false, false, 0, false, false, 0, 0, none⟩ : Cmd); let s : State := ((puts (State.reset) [(PMBR_CFG_VALID 3, 1), (PMBR_CFG_ADDR 3, 0x5B), (PMBR_CFG_RAIL 3, 0), (PMB_CTRL_EN, 1), (PWR_PDSTAT_STATE 83, 2)]).modFlow 63 (fun x => { x with cmds := [(⟨4, 8, 0x0200, .started, 0, 0, 0, false, false, 0, false, false, 0, 0, none⟩ : Cmd), (⟨5, 9, (0x0502 + 3 * 2 ^ 160 + 2 * 2 ^ 168 + 136 * 2 ^ 176), .running, 0, 0, 0, false, false, 0, false, false, 0, 0, none⟩ : Cmd), (⟨6, 10, 0x0110, .waiting, 0, 0, 0, false, false, 0, false, false, 0, 0, none⟩ : Cmd)] })); decide ((Runs s f c 0x0502 a b k) ∧ (ent k.entry 20 1 < 8) ∧ (ent k.entry 21 1 < 5) ∧ (s.slotValid (ent k.entry 20 1) = true) ∧ (s.pmbReady = true) ∧ (ent k.entry 21 1 < 3 ∨ s.coreSlots.contains (ent k.entry 20 1) = false ∨ s.bit PMB_AVSCTRL_EN = false) ∧ (s.slotSilent (ent k.entry 20 1) = false))) &&
    (let f : Fin 64 := 63; let c : Nat := 5; let a : List Cmd := [(⟨4, 8, 0x0200, .started, 0, 0, 0, false, false, 0, false, false, 0, 0, none⟩ : Cmd)]; let b : List Cmd := [(⟨6, 10, 0x0110, .waiting, 0, 0, 0, false, false, 0, false, false, 0, 0, none⟩ : Cmd)]; let k : Cmd := (⟨5, 9, (0x0502 + 3 * 2 ^ 160 + 5 * 2 ^ 168), .running, 0, 0, 0, false, false, 0, false, false, 0, 0, none⟩ : Cmd); let s : State := ((puts (State.reset) [(PMBR_CFG_VALID 3, 1), (PMBR_CFG_ADDR 3, 0x5B), (PMBR_CFG_RAIL 3, 0), (PMB_CTRL_EN, 1)]).modFlow 63 (fun x => { x with cmds := [(⟨4, 8, 0x0200, .started, 0, 0, 0, false, false, 0, false, false, 0, 0, none⟩ : Cmd), (⟨5, 9, (0x0502 + 3 * 2 ^ 160 + 5 * 2 ^ 168), .running, 0, 0, 0, false, false, 0, false, false, 0, 0, none⟩ : Cmd), (⟨6, 10, 0x0110, .waiting, 0, 0, 0, false, false, 0, false, false, 0, 0, none⟩ : Cmd)] })); decide ((Runs s f c 0x0502 a b k) ∧ (8 ≤ ent k.entry 20 1 ∨ 5 ≤ ent k.entry 21 1)))) = true := by decide +kernel

theorem witness_PowerDomainsAndStates :
    ((let src : Source := .host; let j : Fin 84 := 70; let w : Word := 2#32; let s : State := ((puts ((puts State.reset [(SEC_BOOTSTAT_STAGE, 9), (SEC_LCSTATE_LC, 2)])) [(PWR_PDSTAT_STATE 70, 0)]).modPd 70 (fun x => { x with target := none, wait := none })); decide ((s.rowServed src (PWR_PDREQ j) true = true) ∧ (s.bit PWR_CTRL_LOCK = false) ∧ (s.bit PWR_STATE_BUSY = false) ∧ ((s.pd j).target = none) ∧ (s.pdState j = 0) ∧ (fld w 0 2 = 2) ∧ (s.pdWhy j 2 = 0) ∧ (s.rising < 8))) &&
    (let src : Source := .host; let j : Fin 84 := 70; let w : Word := 2#32; let s : State := ((puts ((puts State.reset [(SEC_BOOTSTAT_STAGE, 9), (SEC_LCSTATE_LC, 2)])) [(PWR_PDSTAT_STATE 70, 0), (PWR_PDSTAT_STATE 0, 3), (PWR_PDSTAT_STATE 1, 3), (PWR_PDSTAT_STATE 2, 3), (PWR_PDSTAT_STATE 3, 3), (PWR_PDSTAT_STATE 4, 3), (PWR_PDSTAT_STATE 5, 3), (PWR_PDSTAT_STATE 6, 3), (PWR_PDSTAT_STATE 7, 3)]).modPd 70 (fun x => { x with target := none, wait := none })); decide ((s.rowServed src (PWR_PDREQ j) true = true) ∧ (s.bit PWR_CTRL_LOCK = false) ∧ (s.bit PWR_STATE_BUSY = false) ∧ ((s.pd j).target = none) ∧ (s.pdState j = 0) ∧ (fld w 0 2 = 2) ∧ (s.pdWhy j 2 = 0) ∧ (8 ≤ s.rising))) &&
    (let src : Source := .host; let j : Fin 84 := 64; let w : Word := 0#32; let s : State := ((puts ((puts State.reset [(SEC_BOOTSTAT_STAGE, 9), (SEC_LCSTATE_LC, 2)])) [(PWR_PDSTAT_STATE 64, 2), (PWR_PDSTAT_STATE 0, 2)]).modPd 64 (fun x => { x with target := none })); decide ((s.rowServed src (PWR_PDREQ j) true = true) ∧ (s.bit PWR_CTRL_LOCK = false) ∧ (s.bit PWR_STATE_BUSY = false) ∧ ((s.pd j).target = none) ∧ (s.pdState j = 2) ∧ (fld w 0 2 < 2) ∧ (s.pdWhy j (fld w 0 2) ≠ 0))) &&
    (let src : Source := .host; let j : Fin 84 := 70; let w : Word := 3#32; let h : Nat := 0; let s : State := ((puts ((puts State.reset [(SEC_BOOTSTAT_STAGE, 9), (SEC_LCSTATE_LC, 2)])) [(PWR_PDSTAT_STATE 70, 5)]).modPd 70 (fun x => { x with target := some 0, wait := none })); decide ((s.rowServed src (PWR_PDREQ j) true = true) ∧ (s.bit PWR_CTRL_LOCK = false) ∧ (s.bit PWR_STATE_BUSY = false) ∧ ((s.pd j).target = some h) ∧ (h ≠ min 2 (fld w 0 2)))) &&
    (let j : Fin 84 := 40; let s : State := ((((puts (State.reset) [(PWR_PDSTAT_STATE 40, 5)]).modPd 40 (fun x => { x with target := some 0, wait := none }))).modChan 321 (fun x => { x with cyc := { x.cyc with k := 9 } })); decide ((j.val < 64) ∧ ((s.pd j).target = some 0) ∧ ((s.pd j).wait = none) ∧ (s.pdState j = 5) ∧ (s.pwr.plan = []) ∧ (s.pwr.selects = []) ∧ (s.bit PWR_STATE_BUSY = false) ∧ (∀ i : Fin 84, s.pdState i ≠ 7))) &&
    (let s : State := { ([(CLK_DOM_STAT_RUN 0, 1), (CLK_DOM_CFG_RUNEN 0, 1), (CLK_DOM_STAT_STEPPING 0, 0), (CLK_DOM_STAT_RUN 1, 1), (CLK_DOM_CFG_RUNEN 1, 1), (CLK_DOM_STAT_STEPPING 1, 0), (CLK_DOM_STAT_RUN 2, 1), (CLK_DOM_CFG_RUNEN 2, 1), (CLK_DOM_STAT_STEPPING 2, 0), (CLK_DOM_STAT_RUN 3, 1), (CLK_DOM_CFG_RUNEN 3, 1), (CLK_DOM_STAT_STEPPING 3, 0), (CLK_DOM_STAT_RUN 4, 1), (CLK_DOM_CFG_RUNEN 4, 1), (CLK_DOM_STAT_STEPPING 4, 0)] : List (Ref × Nat)).foldl (fun u p => u.put p.1 p.2) (puts (State.reset) [(PWR_STATE_BUSY, 1), (PWR_STATE_TARGET, 1), (PWR_STATE_STATE, 0), (CLK_STAT_CPLLLOCK, 1)]) with pwr := { (State.reset).pwr with clk := 1, pll := 1, plan := [] } }; decide ((s.pwr.plan = []) ∧ (s.bit PWR_STATE_BUSY = true) ∧ (s.pdQuiet = true) ∧ (s.get PWR_STATE_TARGET = s.pwr.clk) ∧ (s.clkSettled = true) ∧ (s.pwr.cmd = none) ∧ (s.pwr.wake = none) ∧ (s.pwr.waking = none) ∧ (∀ i : Fin 84, (s.pd i).late = none))) &&
    (let s : State := (puts (State.reset) [(PWR_AONTIM_US, 0xFFFFFFFF), (PWR_WAKECFG_TIMER, 0)]); decide ((s.get PWR_AONTIM_US ≠ 0) ∧ (s.bit PWR_WAKECFG_TIMER = false))) &&
    (let f : Fin 64 := 63; let c : Nat := 5; let a : List Cmd := []; let b : List Cmd := []; let k : Cmd := (⟨5, 9, (0x0500 + 1 * 2 ^ 160), .running, 0, 0, 0, false, false, 0, false, false, 0, 0, none⟩ : Cmd); let s : State := ((puts (State.reset) [(GRP_STAT_RUN 63, 1), (PWR_STATE_BUSY, 0)]).modFlow 63 (fun x => { x with cmds := [(⟨5, 9, (0x0500 + 1 * 2 ^ 160), .running, 0, 0, 0, false, false, 0, false, false, 0, 0, none⟩ : Cmd)] })); decide ((Runs s f c 0x0500 a b k) ∧ (s.pwrWaits f c = false) ∧ ((ent k.entry 20 1) < 4) ∧ (s.bit PWR_STATE_BUSY = false) ∧ (s.pwrBusy (ent k.entry 20 1) = true))) &&
    (let f : Fin 64 := 63; let c : Nat := 5; let a : List Cmd := []; let b : List Cmd := []; let k : Cmd := (⟨5, 9, (0x0500 + 1 * 2 ^ 160), .running, 0, 0, 0, false, false, 0, false, false, 0, 0, none⟩ : Cmd); let s : State := ((puts (State.reset) [(SEC_LCSTATE_LC, 2), (PWR_STATE_STATE, 1), (PWR_STATE_BUSY, 0)]).modFlow 63 (fun x => { x with cmds := [(⟨5, 9, (0x0500 + 1 * 2 ^ 160), .running, 0, 0, 0, false, false, 0, false, false, 0, 0, none⟩ : Cmd)] })); decide ((Runs s f c 0x0500 a b k) ∧ (s.pwrWaits f c = false) ∧ ((ent k.entry 20 1) < 4) ∧ (s.bit PWR_STATE_BUSY = false) ∧ (s.pwrBusy (ent k.entry 20 1) = false) ∧ (s.get PWR_STATE_STATE = (ent k.entry 20 1)))) &&
    (let f : Fin 64 := 63; let c : Nat := 5; let a : List Cmd := []; let b : List Cmd := []; let k : Cmd := (⟨5, 9, (0x0500 + 1 * 2 ^ 160), .running, 0, 0, 0, false, false, 0, false, false, 0, 0, none⟩ : Cmd); let s : State := ((puts (State.reset) [(PWR_STATE_BUSY, 1)]).modFlow 63 (fun x => { x with cmds := [(⟨5, 9, (0x0500 + 1 * 2 ^ 160), .running, 0, 0, 0, false, false, 0, false, false, 0, 0, none⟩ : Cmd)] })); decide ((Runs s f c 0x0500 a b k) ∧ (s.pwrWaits f c = false) ∧ ((ent k.entry 20 1) < 4) ∧ (s.bit PWR_STATE_BUSY = true) ∧ ((ent k.entry 20 1) ≠ 0))) &&
    (let f : Fin 64 := 63; let c : Nat := 5; let a : List Cmd := []; let b : List Cmd := []; let k : Cmd := (⟨5, 9, (0x0500 + 1 * 2 ^ 160), .running, 0, 0, 0, false, false, 0, false, false, 0, 0, none⟩ : Cmd); let s : State := ((puts (State.reset) [(SEC_LCSTATE_LC, 2), (PWR_STATE_STATE, 0), (PWR_STATE_BUSY, 0)]).modFlow 63 (fun x => { x with cmds := [(⟨5, 9, (0x0500 + 1 * 2 ^ 160), .running, 0, 0, 0, false, false, 0, false, false, 0, 0, none⟩ : Cmd)] })); decide ((Runs s f c 0x0500 a b k) ∧ (s.pwrWaits f c = false) ∧ ((ent k.entry 20 1) < 4) ∧ (s.bit PWR_STATE_BUSY = false) ∧ (s.pwrBusy (ent k.entry 20 1) = false) ∧ (s.get PWR_STATE_STATE ≠ (ent k.entry 20 1)))) &&
    (let f : Fin 64 := 63; let c : Nat := 5; let a : List Cmd := []; let b : List Cmd := []; let k : Cmd := (⟨5, 9, (0x0500 + 1 * 2 ^ 160), .running, 0, 0, 0, false, false, 0, false, false, 0, 0, none⟩ : Cmd); let s : State := { ((List.range 64).foldl (fun u i => u.put (PWR_PDSTAT_STATE i) 1) ((puts (State.reset) [(SEC_LCSTATE_LC, 2), (PWR_STATE_STATE, 0), (PWR_STATE_BUSY, 0)]).modFlow 63 (fun x => { x with cmds := [(⟨5, 9, (0x0500 + 1 * 2 ^ 160), .running, 0, 0, 0, false, false, 0, false, false, 0, 0, none⟩ : Cmd)] }))) with pwr := { (State.reset).pwr with clk := 1 } }; decide ((Runs s f c 0x0500 a b k) ∧ (s.pwrWaits f c = false) ∧ ((ent k.entry 20 1) < 4) ∧ (s.bit PWR_STATE_BUSY = false) ∧ (s.pwrBusy (ent k.entry 20 1) = false) ∧ (s.get PWR_STATE_STATE ≠ (ent k.entry 20 1)) ∧ (s.get PWR_STATE_STATE < (ent k.entry 20 1)) ∧ (s.pdQuiet = true) ∧ (∀ i : Fin 84, s.pdGoal (ent k.entry 20 1) i = none ∨ s.pdGoal (ent k.entry 20 1) i = some (s.pdState i)) ∧ (s.pwr.clk = (ent k.entry 20 1)))) &&
    (let f : Fin 64 := 63; let c : Nat := 5; let s : State := ((puts (State.reset) []).modFlow 63 (fun x => { x with cmds := [(⟨5, 9, (0x0500 + 1 * 2 ^ 160), .running, 0, 0, 0, false, false, 0, false, false, 0, 0, none⟩ : Cmd), (⟨4, 8, 0x0200, .started, 0, 0, 0, false, false, 0, false, false, 0, 0, none⟩ : Cmd)] })); decide ((s.pwrWaits f c = true))) &&
    (let f : Fin 64 := 63; let c : Nat := 5; let a : List Cmd := []; let b : List Cmd := []; let k : Cmd := (⟨5, 9, (0x0500 + 4 * 2 ^ 160), .running, 0, 0, 0, false, false, 0, false, false, 0, 0, none⟩ : Cmd); let s : State := ((puts (State.reset) []).modFlow 63 (fun x => { x with cmds := [(⟨5, 9, (0x0500 + 4 * 2 ^ 160), .running, 0, 0, 0, false, false, 0, false, false, 0, 0, none⟩ : Cmd)] })); decide ((Runs s f c 0x0500 a b k) ∧ (s.pwrWaits f c = false) ∧ (4 ≤ (ent k.entry 20 1))))) = true := by decide +kernel

theorem witness_ResetsAndWhatSurvivesThem :
    ((let s : State := (puts (State.reset) [(SEC_RSTCAUSE_COUNT, 7), (PRL_BDID_ID, 9)]); decide ((s.boot.held = []))) &&
    (let s : State := { (puts (State.reset) []) with boot := { (State.reset).boot with held := [1], noCh := true } }; decide ((s.boot.held = [1]))) &&
    (let s : State := { (puts (State.reset) [(SEC_RSTCAUSE_COUNT, 255)]) with boot := { (State.reset).boot with held := [] } }; decide ((s.boot.held = []))) &&
    (let s : State := { (puts (State.reset) [(PWR_STATE_STATE, 2)]) with boot := { (State.reset).boot with held := [] } }; decide ((s.boot.held = []) ∧ (s.pinsCut = false) ∧ (2 ≤ s.get PWR_STATE_STATE))) &&
    (let s : State := { (puts (State.reset) []) with boot := { (State.reset).boot with held := [] } }; decide ((s.boot.held = []) ∧ (s.pinsCut = false) ∧ (s.get PWR_STATE_STATE < 2))) &&
    (let s : State := { (puts (State.reset) [(SEC_RSTCAUSE_LAST, 3)]) with boot := { (State.reset).boot with held := [3] } }; decide ((s.boot.held = [3]))) &&
    (let s : State := { (puts (State.reset) []) with boot := { (State.reset).boot with held := [2] } }; decide ((s.boot.held = [2]) ∧ (s.pinsCut = false))) &&
    (let s : State := { (puts (State.reset) []) with boot := { (State.reset).boot with held := [1] } }; decide ((s.boot.held = [1]) ∧ (s.pinsCut = false))) &&
    (let s : State := { (State.reset) with jtag := { (State.reset).jtag with ir := 3 } }; decide ((s.pinsCut = true))) &&
    (let perst : Bool := false; let s : State := { (puts (State.reset) []) with boot := { (State.reset).boot with held := [3] } }; decide ((s.boot.held = [if perst then 2 else 3]) ∧ (perst = true ∨ s.pinsCut = false))) &&
    (let s : State := { (puts (State.reset) [(SEC_WDTCTRL_EN, 1)]) with boot := { (State.reset).boot with held := [] } }; decide ((s.wdtRuns = true))) &&
    (let src : Source := .host; let w : Word := 0xA501#32; let s : State := (puts State.reset [(SEC_BOOTSTAT_STAGE, 9), (SEC_LCSTATE_LC, 2)]); decide ((s.rowServed src SEC_RSTCTRL true = true) ∧ (fld w 8 8 = 0xA5) ∧ (wbit w 0 = true))) &&
    (let src : Source := .host; let w : Word := 0xA500#32; let s : State := (puts State.reset [(SEC_BOOTSTAT_STAGE, 9), (SEC_LCSTATE_LC, 2)]); decide ((s.rowServed src SEC_RSTCTRL true = true) ∧ (fld w 8 8 ≠ 0xA5 ∨ wbit w 0 = false))) &&
    (let src : Source := .firmware; let w : Word := 0x80000FFF#32; let s : State := State.reset; decide ((s.rowServed src SEC_WDTCTRL true = true) ∧ (s.bit SEC_CTRL_LOCK = false)))) = true := by decide +kernel

theorem witness_BootReadsLoadsAndBecomesReady :
    ((let s : State := { (puts (State.reset) []) with boot := { (State.reset).boot with held := [], fuseRead := false } }; decide ((s.freed = true) ∧ (s.boot.fuseRead = false) ∧ (s.get SEC_LCSTATE_LC = 0))) &&
    (let s : State := { (puts (State.reset) [(SEC_LCSTATE_LC, 4)]) with boot := { (State.reset).boot with held := [], fuseRead := false }, fuses := crcFuses }; decide ((s.freed = true) ∧ (s.boot.fuseRead = false) ∧ (s.get SEC_LCSTATE_LC ≠ 0) ∧ (({ s with shadow := s.fuses } : State).badRegion = none))) &&
    (let r : Nat := 1; let s : State := { (puts (State.reset) [(SEC_LCSTATE_LC, 4)]) with boot := { (State.reset).boot with held := [], fuseRead := false } }; decide ((s.freed = true) ∧ (s.boot.fuseRead = false) ∧ (s.get SEC_LCSTATE_LC ≠ 0) ∧ (({ s with shadow := s.fuses } : State).badRegion = some r))) &&
    (let s : State := { (puts (State.reset) [(SEC_BOOTSTAT_STAGE, 1)]) with boot := { (State.reset).boot with fuseRead := true } }; decide ((s.get SEC_BOOTSTAT_STAGE = 1) ∧ (s.boot.fuseRead = true) ∧ (s.get SEC_LCSTATE_LC = 0))) &&
    (let s : State := (puts (State.reset) [(SEC_BOOTSTAT_STAGE, 4), (SEC_BOOTCTRL_PUSHREQ, 0), (BNK_CUESTAT_WIPING 5, 1)]); decide ((s.get SEC_BOOTSTAT_STAGE = 4) ∧ (s.bit SEC_CTRL_LOCK = false))) &&
    (let a : BootImage := ⟨[], []⟩; let b : BootImage := ⟨[], []⟩; let s : State := (puts (State.reset) [(SEC_BOOTSTAT_STAGE, 5)]); decide ((s.get SEC_BOOTSTAT_STAGE = 5) ∧ (s.bit SEC_CTRL_LOCK = false) ∧ (s.boot.push = none) ∧ (s.candidateSlots a b = []))) &&
    (let a : BootImage := signedImage; let b : BootImage := ⟨[], []⟩; let k : Nat := 0; let rest : List Nat := []; let s : State := { (puts (State.reset) [(SEC_BOOTSTAT_STAGE, 5)]) with boot := { (State.reset).boot with push := none, tried := [] }, shadow := signedFuses }; decide ((s.get SEC_BOOTSTAT_STAGE = 5) ∧ (s.bit SEC_CTRL_LOCK = false) ∧ (s.boot.push = none) ∧ ((s.candidateSlots a b).filter (fun i => !s.boot.tried.contains i) = k :: rest) ∧ (s.verifyWhy (bytesOf (if k = 0 then a else b).hdr) (bytesOf (if k = 0 then a else b).body) = 0) ∧ (imgAt (bytesOf (if k = 0 then a else b).hdr) 28 4 = 0))) &&
    (let a : BootImage := { signedImage with body := List.replicate 64 0#8 }; let b : BootImage := ⟨[], []⟩; let k : Nat := 0; let s : State := { (puts (State.reset) [(SEC_BOOTSTAT_STAGE, 5)]) with boot := { (State.reset).boot with push := none, tried := [] }, shadow := signedFuses }; decide ((s.get SEC_BOOTSTAT_STAGE = 5) ∧ (s.bit SEC_CTRL_LOCK = false) ∧ (s.boot.push = none) ∧ ((s.candidateSlots a b).filter (fun i => !s.boot.tried.contains i) = [k]) ∧ (s.verifyWhy (bytesOf (if k = 0 then a else b).hdr) (bytesOf (if k = 0 then a else b).body) ≠ 0))) &&
    (let s : State := (puts (State.reset) [(SEC_BOOTSTAT_STAGE, 5)]); decide ((s.get SEC_BOOTSTAT_STAGE = 5) ∧ (s.bit SEC_CTRL_LOCK = false) ∧ (s.boot.push = none) ∧ (s.boot.tried = []))) &&
    (let src : Source := .host; let w : Word := 576#32; let s : State := { (puts ((puts State.reset [(SEC_BOOTSTAT_STAGE, 9), (SEC_LCSTATE_LC, 2)])) [(SEC_BOOTSTAT_STAGE, 14)]) with staging := [(7, 2), (16, 64)] }; decide ((s.rowServed src SEC_PUSHLEN true = true) ∧ (s.bit SEC_CTRL_LOCK = false) ∧ (s.get SEC_BOOTSTAT_STAGE = 14) ∧ (w.toNat = imgAt (s.staged 32) 6 2 + imgAt (s.staged 32) 16 4) ∧ (w.toNat ≤ 2 ^ 20))) &&
    (let src : Source := .host; let w : Word := 577#32; let s : State := { (puts ((puts State.reset [(SEC_BOOTSTAT_STAGE, 9), (SEC_LCSTATE_LC, 2)])) [(SEC_BOOTSTAT_STAGE, 14)]) with staging := [(7, 2), (16, 64)] }; decide ((s.rowServed src SEC_PUSHLEN true = true) ∧ (s.get SEC_BOOTSTAT_STAGE = 14) ∧ (w.toNat ≠ imgAt (s.staged 32) 6 2 + imgAt (s.staged 32) 16 4 ∨ 2 ^ 20 < w.toNat))) &&
    (let s : State := (puts (State.reset) [(SEC_BOOTSTAT_STAGE, 7), (PWR_PDSTAT_STATE 76, 0), (PWR_PDSTAT_STATE 77, 0), (PWR_PDSTAT_STATE 78, 0), (PWR_PDSTAT_STATE 79, 0)]); decide ((s.get SEC_BOOTSTAT_STAGE = 7 ∨ s.get SEC_BOOTSTAT_STAGE = 8) ∧ (s.newestFolio = none) ∧ (∀ p : Fin 4, s.domOn (76 + p) = false)))) = true := by decide +kernel

theorem witness_DebugLifecycleAndFuses :
    ((let src : Source := .host; let w : Word := 0x101#32; let ok : Bool := false; let s : State := (puts ((puts State.reset [(SEC_BOOTSTAT_STAGE, 9), (SEC_LCSTATE_LC, 2)])) [(SEC_LCSTATE_LC, 2)]); decide ((s.rowServed src SEC_DBGCTRL true = true) ∧ (wbit w 0 = true) ∧ (wbit w 1 = false) ∧ (wbit w 2 = false) ∧ (s.bit SEC_DBGSTAT_LOCKOUT = false) ∧ (s.leadsTo (fld w 8 2) = true) ∧ (s.awake = true))) &&
    (let src : Source := .host; let w : Word := 0x101#32; let ok : Bool := false; let s : State := (puts ((puts State.reset [(SEC_BOOTSTAT_STAGE, 9), (SEC_LCSTATE_LC, 2)])) [(SEC_DBGSTAT_LOCKOUT, 1)]); decide ((s.rowServed src SEC_DBGCTRL true = true) ∧ (wbit w 0 = true) ∧ (wbit w 1 = false) ∧ (wbit w 2 = false) ∧ (s.bit SEC_DBGSTAT_LOCKOUT = true))) &&
    (let src : Source := .firmware; let w : Word := 2#32; let ok : Bool := false; let s : State := answered ((puts (State.reset) [(SEC_LCSTATE_LC, 3), (SEC_DBGSTAT_NONCEVALID, 1), (SEC_DBGSTAT_FAILS, 2)])); decide ((s.rowServed src SEC_DBGCTRL true = true) ∧ (wbit w 0 = false) ∧ (wbit w 1 = true) ∧ (wbit w 2 = false) ∧ (s.awake = true) ∧ (s.bit SEC_DBGSTAT_NONCEVALID = true) ∧ (s.get SEC_LCSTATE_LC ≠ 2) ∧ (s.respOk = true))) &&
    (let src : Source := .host; let w : Word := 2#32; let ok : Bool := false; let s : State := answered ((puts ((puts State.reset [(SEC_BOOTSTAT_STAGE, 9), (SEC_LCSTATE_LC, 2)])) [(SEC_LCSTATE_LC, 2), (SEC_DBGSTAT_NONCEVALID, 1)])); decide ((s.rowServed src SEC_DBGCTRL true = true) ∧ (wbit w 0 = false) ∧ (wbit w 1 = true) ∧ (wbit w 2 = false) ∧ (s.awake = true) ∧ (s.bit SEC_DBGSTAT_NONCEVALID = true) ∧ (s.get SEC_LCSTATE_LC = 2) ∧ (s.debugBusy = false) ∧ (s.respOk = true))) &&
    (let src : Source := .host; let w : Word := 2#32; let ok : Bool := false; let s : State := (puts ((puts State.reset [(SEC_BOOTSTAT_STAGE, 9), (SEC_LCSTATE_LC, 2)])) [(SEC_DBGSTAT_NONCEVALID, 1), (SEC_DBGSTAT_FAILS, 2)]); decide ((s.rowServed src SEC_DBGCTRL true = true) ∧ (wbit w 0 = false) ∧ (wbit w 1 = true) ∧ (wbit w 2 = false) ∧ (s.awake = true) ∧ (s.bit SEC_DBGSTAT_NONCEVALID = true) ∧ (s.respOk = false))) &&
    (let src : Source := .host; let w : Word := 4#32; let ok : Bool := false; let s : State := { (puts ((puts State.reset [(SEC_BOOTSTAT_STAGE, 9), (SEC_LCSTATE_LC, 2)])) [(SEC_LCSTATE_DBG, 2)]) with jtag := { ((puts State.reset [(SEC_BOOTSTAT_STAGE, 9), (SEC_LCSTATE_LC, 2)])).jtag with halted := [1], err := true } }; decide ((s.rowServed src SEC_DBGCTRL true = true) ∧ (wbit w 0 = false) ∧ (wbit w 1 = false) ∧ (wbit w 2 = true))) &&
    (let path : Nat := 1; let s : State := { (puts (State.reset) []) with boot := { (State.reset).boot with entry := some 1 } }; decide ((s.boot.entry = some path))) &&
    (let f : Fin 64 := 63; let c : Nat := 5; let a : List Cmd := [(⟨4, 8, 0x0200, .started, 0, 0, 0, false, false, 0, false, false, 0, 0, none⟩ : Cmd)]; let b : List Cmd := [(⟨6, 10, 0x0110, .waiting, 0, 0, 0, false, false, 0, false, false, 0, 0, none⟩ : Cmd)]; let k : Cmd := (⟨5, 9, (0x0600 + 0x1000 * 2 ^ 64 + 32 * 2 ^ 128 + 1 * 2 ^ 160), .running, 0, 0, 0, false, false, 0, false, false, 0, 0, none⟩ : Cmd); let s : State := { ((puts (State.reset) [(SEC_LCSTATE_LC, 2)]).modFlow 63 (fun x => { x with cmds := [(⟨4, 8, 0x0200, .started, 0, 0, 0, false, false, 0, false, false, 0, 0, none⟩ : Cmd), (⟨5, 9, (0x0600 + 0x1000 * 2 ^ 64 + 32 * 2 ^ 128 + 1 * 2 ^ 160), .running, 0, 0, 0, false, false, 0, false, false, 0, 0, none⟩ : Cmd), (⟨6, 10, 0x0110, .waiting, 0, 0, 0, false, false, 0, false, false, 0, 0, none⟩ : Cmd)] })) with ep := { (State.reset).ep with bme := true } }; decide ((Runs s f c 0x0600 a b k) ∧ (s.dmaOn = true) ∧ (bufOk k.entry 32 = true) ∧ (s.bit SEC_DBGSTAT_LOCKOUT = false) ∧ (s.leadsTo (ent k.entry 20 1) = true) ∧ (s.awake = true))) &&
    (let f : Fin 64 := 63; let c : Nat := 5; let a : List Cmd := [(⟨4, 8, 0x0200, .started, 0, 0, 0, false, false, 0, false, false, 0, 0, none⟩ : Cmd)]; let b : List Cmd := [(⟨6, 10, 0x0110, .waiting, 0, 0, 0, false, false, 0, false, false, 0, 0, none⟩ : Cmd)]; let k : Cmd := (⟨5, 9, (0x0601), .running, 0, 0, 0, false, false, 0, false, false, 0, 0, none⟩ : Cmd); let s : State := ((puts (State.reset) [(SEC_DBGSTAT_NONCEVALID, 1)]).modFlow 63 (fun x => { x with cmds := [(⟨4, 8, 0x0200, .started, 0, 0, 0, false, false, 0, false, false, 0, 0, none⟩ : Cmd), (⟨5, 9, (0x0601), .running, 0, 0, 0, false, false, 0, false, false, 0, 0, none⟩ : Cmd), (⟨6, 10, 0x0110, .waiting, 0, 0, 0, false, false, 0, false, false, 0, 0, none⟩ : Cmd)] })); let ok : Bool := true; decide ((Runs s f c 0x0601 a b k) ∧ (s.awake = true) ∧ (s.bit SEC_DBGSTAT_NONCEVALID = true) ∧ (leBytes 32 (ent k.entry 32 32) ≠ s.respBytes))) &&
    (let f : Fin 64 := 63; let c : Nat := 5; let a : List Cmd := [(⟨4, 8, 0x0200, .started, 0, 0, 0, false, false, 0, false, false, 0, 0, none⟩ : Cmd)]; let b : List Cmd := [(⟨6, 10, 0x0110, .waiting, 0, 0, 0, false, false, 0, false, false, 0, 0, none⟩ : Cmd)]; let k : Cmd := (⟨5, 9, (answerEntry (puts (State.reset) [(SEC_LCSTATE_LC, 1)]) 0x0601), .running, 0, 0, 0, false, false, 0, false, false, 0, 0, none⟩ : Cmd); let s : State := ((puts (State.reset) [(SEC_DBGSTAT_NONCEVALID, 1), (SEC_LCSTATE_LC, 1)]).modFlow 63 (fun x => { x with cmds := [(⟨4, 8, 0x0200, .started, 0, 0, 0, false, false, 0, false, false, 0, 0, none⟩ : Cmd), (⟨5, 9, (answerEntry (puts (State.reset) [(SEC_LCSTATE_LC, 1)]) 0x0601), .running, 0, 0, 0, false, false, 0, false, false, 0, 0, none⟩ : Cmd), (⟨6, 10, 0x0110, .waiting, 0, 0, 0, false, false, 0, false, false, 0, 0, none⟩ : Cmd)] })); let ok : Bool := false; decide ((Runs s f c 0x0601 a b k) ∧ (s.awake = true) ∧ (s.bit SEC_DBGSTAT_NONCEVALID = true) ∧ (s.get SEC_LCSTATE_LC ≠ 2) ∧ (leBytes 32 (ent k.entry 32 32) = s.respBytes))) &&
    (let f : Fin 64 := 63; let c : Nat := 5; let a : List Cmd := [(⟨4, 8, 0x0200, .started, 0, 0, 0, false, false, 0, false, false, 0, 0, none⟩ : Cmd)]; let b : List Cmd := [(⟨6, 10, 0x0110, .waiting, 0, 0, 0, false, false, 0, false, false, 0, 0, none⟩ : Cmd)]; let k : Cmd := (⟨5, 9, (0x0602), .running, 0, 0, 0, false, false, 0, false, false, 0, 0, none⟩ : Cmd); let s : State := ((puts (State.reset) [(SEC_LCSTATE_DBG, 2)]).modFlow 63 (fun x => { x with cmds := [(⟨4, 8, 0x0200, .started, 0, 0, 0, false, false, 0, false, false, 0, 0, none⟩ : Cmd), (⟨5, 9, (0x0602), .running, 0, 0, 0, false, false, 0, false, false, 0, 0, none⟩ : Cmd), (⟨6, 10, 0x0110, .waiting, 0, 0, 0, false, false, 0, false, false, 0, 0, none⟩ : Cmd)] })); decide ((Runs s f c 0x0602 a b k))) &&
    (let f : Fin 64 := 63; let c : Nat := 5; let a : List Cmd := [(⟨4, 8, 0x0200, .started, 0, 0, 0, false, false, 0, false, false, 0, 0, none⟩ : Cmd)]; let b : List Cmd := [(⟨6, 10, 0x0110, .waiting, 0, 0, 0, false, false, 0, false, false, 0, 0, none⟩ : Cmd)]; let k : Cmd := (⟨5, 9, (0x0611), .running, 0, 0, 0, false, false, 0, false, false, 0, 0, none⟩ : Cmd); let s : State := ((puts (State.reset) []).modFlow 63 (fun x => { x with cmds := [(⟨4, 8, 0x0200, .started, 0, 0, 0, false, false, 0, false, false, 0, 0, none⟩ : Cmd), (⟨5, 9, (0x0611), .running, 0, 0, 0, false, false, 0, false, false, 0, 0, none⟩ : Cmd), (⟨6, 10, 0x0110, .waiting, 0, 0, 0, false, false, 0, false, false, 0, 0, none⟩ : Cmd)] })); let bits : BitVec 64 := 1#64; decide ((Runs s f c 0x0611 a b k) ∧ (s.awake = true) ∧ (s.debugBusy = false) ∧ (s.get SEC_SVN_IMAGE ≤ s.fusedSvn))) &&
    (let f : Fin 64 := 63; let c : Nat := 5; let a : List Cmd := [(⟨4, 8, 0x0200, .started, 0, 0, 0, false, false, 0, false, false, 0, 0, none⟩ : Cmd)]; let b : List Cmd := [(⟨6, 10, 0x0110, .waiting, 0, 0, 0, false, false, 0, false, false, 0, 0, none⟩ : Cmd)]; let k : Cmd := (⟨5, 9, (0x0611), .running, 0, 0, 0, false, false, 0, false, false, 0, 0, none⟩ : Cmd); let s : State := ((puts (State.reset) [(SEC_SVN_IMAGE, 2)]).modFlow 63 (fun x => { x with cmds := [(⟨4, 8, 0x0200, .started, 0, 0, 0, false, false, 0, false, false, 0, 0, none⟩ : Cmd), (⟨5, 9, (0x0611), .running, 0, 0, 0, false, false, 0, false, false, 0, 0, none⟩ : Cmd), (⟨6, 10, 0x0110, .waiting, 0, 0, 0, false, false, 0, false, false, 0, 0, none⟩ : Cmd)] })); let bits : BitVec 64 := 0x8000000000000001#64; decide ((Runs s f c 0x0611 a b k) ∧ (s.awake = true) ∧ (s.debugBusy = false) ∧ (s.fusedSvn < s.get SEC_SVN_IMAGE) ∧ (s.svnWith bits.toNat = s.get SEC_SVN_IMAGE) ∧ (((s.burn 32 (bits.toNat % 2 ^ 32)).burn 33 (bits.toNat / 2 ^ 32)).fusedSvn = s.get SEC_SVN_IMAGE))) &&
    (let f : Fin 64 := 63; let c : Nat := 5; let a : List Cmd := [(⟨4, 8, 0x0200, .started, 0, 0, 0, false, false, 0, false, false, 0, 0, none⟩ : Cmd)]; let b : List Cmd := [(⟨6, 10, 0x0110, .waiting, 0, 0, 0, false, false, 0, false, false, 0, 0, none⟩ : Cmd)]; let k : Cmd := (⟨5, 9, (0x0612 + 1 * 2 ^ 160), .running, 0, 0, 0, false, false, 0, false, false, 0, 0, none⟩ : Cmd); let s : State := ((puts (State.reset) []).modFlow 63 (fun x => { x with cmds := [(⟨4, 8, 0x0200, .started, 0, 0, 0, false, false, 0, false, false, 0, 0, none⟩ : Cmd), (⟨5, 9, (0x0612 + 1 * 2 ^ 160), .running, 0, 0, 0, false, false, 0, false, false, 0, 0, none⟩ : Cmd), (⟨6, 10, 0x0110, .waiting, 0, 0, 0, false, false, 0, false, false, 0, 0, none⟩ : Cmd)] })); let bits : BitVec 4 := 7#4; decide ((Runs s f c 0x0612 a b k) ∧ (s.awake = true) ∧ (s.debugBusy = false) ∧ (ent k.entry 20 1 < 2) ∧ (ent k.entry 20 1 ≠ s.boot.key) ∧ (3 ≤ bitCount 4 bits.toNat))) &&
    (let f : Fin 64 := 63; let c : Nat := 5; let a : List Cmd := [(⟨4, 8, 0x0200, .started, 0, 0, 0, false, false, 0, false, false, 0, 0, none⟩ : Cmd)]; let b : List Cmd := [(⟨6, 10, 0x0110, .waiting, 0, 0, 0, false, false, 0, false, false, 0, 0, none⟩ : Cmd)]; let k : Cmd := (⟨5, 9, (0x0610 + 2 * 2 ^ 160), .running, 0, 0, 0, false, false, 0, false, false, 0, 0, none⟩ : Cmd); let s : State := ((puts (State.reset) [(SEC_LCSTATE_LC, 1), (SEC_LCSTATE_DBG, 2)]).modFlow 63 (fun x => { x with cmds := [(⟨4, 8, 0x0200, .started, 0, 0, 0, false, false, 0, false, false, 0, 0, none⟩ : Cmd), (⟨5, 9, (0x0610 + 2 * 2 ^ 160), .running, 0, 0, 0, false, false, 0, false, false, 0, 0, none⟩ : Cmd), (⟨6, 10, 0x0110, .waiting, 0, 0, 0, false, false, 0, false, false, 0, 0, none⟩ : Cmd)] })); let bits : BitVec 8 := 0xF8#8; decide ((Runs s f c 0x0610 a b k) ∧ (s.awake = true) ∧ (s.debugBusy = false) ∧ (s.flashBusy = false) ∧ (s.get SEC_LCSTATE_LC = 1) ∧ (ent k.entry 20 1 = 2) ∧ (s.get SEC_LCSTATE_DBG = 2) ∧ (5 ≤ bitCount 8 bits.toNat))) &&
    (let f : Fin 64 := 63; let c : Nat := 5; let a : List Cmd := [(⟨4, 8, 0x0200, .started, 0, 0, 0, false, false, 0, false, false, 0, 0, none⟩ : Cmd)]; let b : List Cmd := [(⟨6, 10, 0x0110, .waiting, 0, 0, 0, false, false, 0, false, false, 0, 0, none⟩ : Cmd)]; let k : Cmd := (⟨5, 9, (0x0610 + 5 * 2 ^ 160), .running, 0, 0, 0, false, false, 0, false, false, 0, 0, none⟩ : Cmd); let s : State := ((puts (State.reset) [(SEC_LCSTATE_LC, 2)]).modFlow 63 (fun x => { x with cmds := [(⟨4, 8, 0x0200, .started, 0, 0, 0, false, false, 0, false, false, 0, 0, none⟩ : Cmd), (⟨5, 9, (0x0610 + 5 * 2 ^ 160), .running, 0, 0, 0, false, false, 0, false, false, 0, 0, none⟩ : Cmd), (⟨6, 10, 0x0110, .waiting, 0, 0, 0, false, false, 0, false, false, 0, 0, none⟩ : Cmd)] })); let supply : Bool := true; let bits : BitVec 8 := 0xFF#8; decide ((Runs s f c 0x0610 a b k) ∧ (s.flashBusy = false) ∧ (5 ≤ ent k.entry 20 1))) &&
    (let f : Fin 64 := 63; let c : Nat := 5; let supply : Bool := true; let bits : BitVec 8 := 0#8; let s : State := (State.reset).modSpt 0 (fun x => { x with frame := true }); decide ((s.flashBusy = true))) &&
    (let f : Fin 64 := 63; let c : Nat := 5; let a : List Cmd := [(⟨4, 8, 0x0200, .started, 0, 0, 0, false, false, 0, false, false, 0, 0, none⟩ : Cmd)]; let b : List Cmd := [(⟨6, 10, 0x0110, .waiting, 0, 0, 0, false, false, 0, false, false, 0, 0, none⟩ : Cmd)]; let k : Cmd := (⟨5, 9, (0x0610 + 1 * 2 ^ 160), .running, 0, 0, 0, false, false, 0, false, false, 0, 0, none⟩ : Cmd); let s : State := ((puts (State.reset) [(SEC_LCSTATE_LC, 2)]).modFlow 63 (fun x => { x with cmds := [(⟨4, 8, 0x0200, .started, 0, 0, 0, false, false, 0, false, false, 0, 0, none⟩ : Cmd), (⟨5, 9, (0x0610 + 1 * 2 ^ 160), .running, 0, 0, 0, false, false, 0, false, false, 0, 0, none⟩ : Cmd), (⟨6, 10, 0x0110, .waiting, 0, 0, 0, false, false, 0, false, false, 0, 0, none⟩ : Cmd)] })); let supply : Bool := true; let bits : BitVec 8 := 0xFF#8; decide ((Runs s f c 0x0610 a b k) ∧ (s.flashBusy = false) ∧ (ent k.entry 20 1 < 5) ∧ (lcPair (s.get SEC_LCSTATE_LC) (ent k.entry 20 1) = none)))) = true := by decide +kernel

theorem witness_SerialMastersAndTheWindow :
    ((let src : Source := .firmware; let p : Fin 16 := 15; let w : Word := 0x80000001#32; let ins : List Word := []; let s : State := (puts (State.reset) [(SPT_STAT_BUSY 15, 1)]); decide ((s.rowServed src (SPT_MCMD p) true = true) ∧ (s.sptHostBar src p = false) ∧ (wbit w 31 = true) ∧ (s.bit (SPT_STAT_BUSY p) = true))) &&
    (let src : Source := .host; let p : Fin 16 := 15; let w : Word := 0x80000001#32; let ins : List Word := []; let s : State := (puts ((puts State.reset [(SEC_BOOTSTAT_STAGE, 9), (SEC_LCSTATE_LC, 2)])) [(SPT_CTRL_HOSTOWN 15, 0)]); decide ((s.rowServed src (SPT_MCMD p) true = true) ∧ (s.sptHostBar src p = true))) &&
    (let src : Source := .firmware; let p : Fin 16 := 15; let w : Word := 0x80790001#32; let ins : List Word := []; let v : Nat := 0x1FF; let s : State := ((puts (State.reset) [(SPT_CTRL_EN 15, 1), (SPT_CTRL_ROLE 15, 0), (SPT_STAT_BUSY 15, 0), (SPT_CTRL_MMDET 15, 0)]).modSpt 15 (fun x => { x with tx := [0x1FF] })); decide ((s.rowServed src (SPT_MCMD p) true = true) ∧ (s.sptHostBar src p = false) ∧ (wbit w 31 = true) ∧ (wbit w 30 = false) ∧ (fld w 0 12 = 1) ∧ (s.bit (SPT_STAT_BUSY p) = false) ∧ (s.sptFault p = false) ∧ (s.bit (SPT_CTRL_EN p) = true) ∧ (s.bit (SPT_CTRL_ROLE p) = false) ∧ ((s.spt p).tx = [v]) ∧ ((s.spt p).line = []) ∧ (s.bit (SPT_CTRL_MMDET p) = false))) &&
    (let src : Source := .firmware; let p : Fin 16 := 15; let w : Word := 0x80790001#32; let ins : List Word := []; let s : State := ((puts (State.reset) [(SPT_CTRL_EN 15, 1), (SPT_CTRL_ROLE 15, 0), (SPT_STAT_BUSY 15, 0), (SPT_CTRL_MMDET 15, 1)]).modSpt 15 (fun x => { x with tx := [0x1FF] })); decide ((s.rowServed src (SPT_MCMD p) true = true) ∧ (s.sptHostBar src p = false) ∧ (wbit w 31 = true) ∧ (s.bit (SPT_STAT_BUSY p) = false) ∧ (s.sptFault p = false) ∧ (s.bit (SPT_CTRL_EN p) = true) ∧ (s.bit (SPT_CTRL_ROLE p) = false) ∧ (s.bit (SPT_CTRL_MMDET p) = true))) &&
    (let src : Source := .firmware; let p : Fin 16 := 15; let w : Word := 0x80000000#32; let ins : List Word := [5#32]; let s : State := (puts (State.reset) [(SPT_CTRL_EN 15, 1), (SPT_CTRL_ROLE 15, 0), (SPT_STAT_BUSY 15, 0), (SPT_CTRL_MMDET 15, 0)]); decide ((s.rowServed src (SPT_MCMD p) true = true) ∧ (s.sptHostBar src p = false) ∧ (wbit w 31 = true) ∧ (s.bit (SPT_STAT_BUSY p) = false) ∧ (s.sptFault p = false) ∧ (s.bit (SPT_CTRL_EN p) = true) ∧ (s.bit (SPT_CTRL_ROLE p) = false) ∧ (s.bit (SPT_CTRL_MMDET p) = false) ∧ ((s.spt p).tx = []) ∧ ((s.spt p).line = []))) &&
    (let src : Source := .firmware; let p : Fin 16 := 15; let w : Word := 0xFFFFFFFF#32; let s : State := ((puts (State.reset) []).modSpt 15 (fun x => { x with tx := List.replicate 15 3 })); decide ((s.rowServed src (SPT_TXDATA p) true = true) ∧ (s.sptHostBar src p = false) ∧ ((s.spt p).tx.length < 16))) &&
    (let src : Source := .firmware; let p : Fin 16 := 15; let w : Word := 0xFFFFFFFF#32; let s : State := ((puts (State.reset) []).modSpt 15 (fun x => { x with tx := List.replicate 16 3 })); decide ((s.rowServed src (SPT_TXDATA p) true = true) ∧ (s.sptHostBar src p = false) ∧ (16 ≤ (s.spt p).tx.length))) &&
    (let src : Source := .host; let p : Fin 16 := 15; let s : State := ((puts ((puts State.reset [(SEC_BOOTSTAT_STAGE, 9), (SEC_LCSTATE_LC, 2)])) []).modSpt 15 (fun x => { x with rx := [7, 8] })); decide ((s.rowServed src (SPT_RXDATA p) false = true))) &&
    (let p : Fin 16 := 15; let ins : List Word := []; let v : Nat := 3; let s : State := ((puts (State.reset) [(SPT_STAT_STALL 15, 1)]).modSpt 15 (fun x => { x with tx := [3], left := 1, frame := true })); decide ((s.bit (SPT_STAT_STALL p) = true) ∧ ((s.spt p).tx = [v]) ∧ ((s.spt p).rxen = false) ∧ ((s.spt p).left = 1))) &&
    (let p : Fin 16 := 15; let s : State := ((puts (State.reset) []).modSpt 15 (fun x => { x with frame := true, left := 0, line := [3, 4] })); decide (((s.spt p).frame = true) ∧ ((s.spt p).left = 0))) &&
    (let p : Fin 16 := 15; let s : State := ((puts (State.reset) [(SPT_CTRL_MMDET 15, 1), (SPT_CTRL_EN 15, 1), (SPT_CTRL_ROLE 15, 0), (SPT_FLAGS_MASTER_FAULT 15, 0)]).modSpt 15 (fun x => { x with tx := [3], frame := true, line := [7, 8] })); decide ((s.bit (SPT_CTRL_MMDET p) = true) ∧ (s.bit (SPT_CTRL_EN p) = true) ∧ (s.bit (SPT_CTRL_ROLE p) = false) ∧ (s.sptFault p = false) ∧ (s.pinsCut = false))) &&
    (let off : BitVec 28 := 0x1234#28; let s : State := (puts (State.reset) [(SPT0_XIPCFG_EN, 0)]); decide ((s.bit SPT0_XIPCFG_EN = false ∨ s.domOn 83 = false ∨ s.sptFault 0 = true))) &&
    (let off : BitVec 28 := 0x1003C#28; let l : Nat × List Nat := (0x400, List.replicate 64 7); let s : State := ((puts (State.reset) [(SPT0_XIPCFG_EN, 1), (SPT0_XIPCFG_ADDR4, 1), (PWR_PDSTAT_STATE 83, 2)]).modSpt 0 (fun x => { x with lines := [(0x400, List.replicate 64 7)] })); decide ((s.bit SPT0_XIPCFG_EN = true) ∧ (s.domOn 83 = true) ∧ (s.sptFault 0 = false) ∧ (s.bit SPT0_XIPCFG_ADDR4 = true) ∧ ((s.spt 0).lines = [l]) ∧ (l.1 = off.toNat / 64))) &&
    (let off : BitVec 28 := 0xFFFFFFF#28; let s : State := (puts (State.reset) [(SPT0_XIPCFG_EN, 1), (SPT0_XIPCFG_ADDR4, 1), (PWR_PDSTAT_STATE 83, 2), (SPT_CTRL_MMDET 0, 0)]); decide ((s.bit SPT0_XIPCFG_EN = true) ∧ (s.domOn 83 = true) ∧ (s.sptFault 0 = false) ∧ (s.bit SPT0_XIPCFG_ADDR4 = true) ∧ ((s.spt 0).lines = []) ∧ ((s.spt 0).want = []) ∧ ((s.spt 0).frame = false) ∧ ((s.spt 0).fetch = false) ∧ (s.bit (SPT_CTRL_MMDET 0) = false))) &&
    (let off : BitVec 28 := 0xFFFFFFF#28; let s : State := (puts (State.reset) [(SPT0_XIPCFG_EN, 1), (SPT0_XIPCFG_ADDR4, 1), (PWR_PDSTAT_STATE 83, 2), (SPT_CTRL_MMDET 0, 1)]); decide ((s.bit SPT0_XIPCFG_EN = true) ∧ (s.domOn 83 = true) ∧ (s.sptFault 0 = false) ∧ (s.bit SPT0_XIPCFG_ADDR4 = true) ∧ ((s.spt 0).lines = []) ∧ ((s.spt 0).want = []) ∧ ((s.spt 0).line = []) ∧ ((s.spt 0).frame = false) ∧ ((s.spt 0).fetch = false) ∧ (s.bit (SPT_CTRL_MMDET 0) = true))) &&
    (let bytes : Vector Byte 64 := Vector.ofFn (fun i => BitVec.ofNat 8 i.val); let k : Nat := 5; let off : Nat := 360; let s : State := ((puts (State.reset) []).modSpt 0 (fun x => { x with fetch := true, want := [(5, 360)] })); decide (((s.spt 0).fetch = true) ∧ ((s.spt 0).frame = false) ∧ ((s.spt 0).want = [(k, off)]) ∧ ((s.spt 0).lines = [])))) = true := by decide +kernel

theorem witness_SerialSlaves :
    ((let p : Fin 16 := 15; let s : State := { State.reset with jtag := { (State.reset).jtag with ir := 3 } }; decide ((s.pinsCut = true))) &&
    (let p : Fin 16 := 15; let d : Nat := 0; let s : State := (puts (State.reset) [(PWR_WAKECFG_SPT, 0)]).setPd 83 { (State.reset).pd 83 with target := some 0 }; decide ((s.pinsCut = false) ∧ ((s.pd 83).target = some d) ∧ (s.bit PWR_WAKECFG_SPT = false))) &&
    (let p : Fin 16 := 15; let s : State := (puts (State.reset) [(SPT_STAT_SLVSEL 15, 0)]); decide ((s.pinsCut = false) ∧ (s.bit (SPT_STAT_SLVSEL p) = false))) &&
    (let p : Fin 16 := 15; let s : State := ((puts (State.reset) [(PWR_PDSTAT_STATE 83, 2), (SPT_CTRL_EN 15, 1), (SPT_CTRL_ROLE 15, 1), (PWR_WAKECFG_SPT, 0)]).modSpt 15 (fun x => { x with words := 1, status := 8 })); decide ((s.pinsCut = false) ∧ ((s.pd 83).target = none) ∧ (s.domOn 83 = true) ∧ (s.bit (SPT_CTRL_EN p) = true) ∧ (s.bit (SPT_CTRL_ROLE p) = true) ∧ (s.bit PWR_WAKECFG_SPT = false ∨ (s.bit PWR_STATE_BUSY = false ∧ s.get PWR_STATE_STATE < 2)))) &&
    (let p : Fin 16 := 15; let h : BitVec 8 := 0xBF#8; let s : State := (puts (State.reset) [(SPT_STAT_SLVSEL 15, 1), (SEC_BOOTSTAT_STAGE, 9)]); decide ((s.bit (SPT_STAT_SLVSEL p) = true) ∧ (s.pinsCut = false) ∧ ((s.spt p).hdr = none))) &&
    (let p : Fin 16 := 15; let h : Nat := 0xBF; let w : Word := 0#32; let edges : Nat := 0; let s : State := ((puts (State.reset) [(SPT_STAT_SLVSEL 15, 1)]).modSpt 15 (fun x => { x with hdr := some 0xBF, served := false, words := 0 })); decide ((s.bit (SPT_STAT_SLVSEL p) = true) ∧ (s.pinsCut = false) ∧ ((s.spt p).hdr = some h) ∧ ((s.spt p).served = false) ∧ (64 ≤ h % 128 ∨ ((s.spt p).words = 0 ∧ edges = 0)))) &&
    (let p : Fin 16 := 15; let h : Nat := 0x2E; let w : Word := 5#32; let edges : Nat := 9; let s : State := ((puts (State.reset) [(SPT_STAT_SLVSEL 15, 1)]).modSpt 15 (fun x => { x with hdr := some 0x2E, served := false, words := 0 })); decide ((s.bit (SPT_STAT_SLVSEL p) = true) ∧ (s.pinsCut = false) ∧ ((s.spt p).hdr = some h) ∧ ((s.spt p).served = false) ∧ (h % 128 < 64) ∧ (0 < edges ∨ 0 < (s.spt p).words))) &&
    (let p : Fin 16 := 15; let h : Nat := 0xFF; let w : Word := 0#32; let edges : Nat := 0; let s : State := ((puts (State.reset) [(SPT_STAT_SLVSEL 15, 1), (⟨SPT_BMOUT 15 15, 0, 32⟩, 0x99)]).modSpt 15 (fun x => { x with hdr := some 0xFF, served := true, used := true, addr := 63 })); decide ((s.bit (SPT_STAT_SLVSEL p) = true) ∧ (s.pinsCut = false) ∧ ((s.spt p).hdr = some h) ∧ ((s.spt p).served = true) ∧ (64 ≤ h % 128) ∧ ((s.spt p).addr < 64) ∧ (128 ≤ h))) &&
    (let p : Fin 16 := 15; let h : Nat := 0x7F; let w : Word := 5#32; let edges : Nat := 0; let s : State := ((puts (State.reset) [(SPT_STAT_SLVSEL 15, 1)]).modSpt 15 (fun x => { x with hdr := some 0x7F, served := true, used := true, addr := 64 })); decide ((s.bit (SPT_STAT_SLVSEL p) = true) ∧ (s.pinsCut = false) ∧ ((s.spt p).hdr = some h) ∧ ((s.spt p).served = true) ∧ (64 ≤ h % 128) ∧ (64 ≤ (s.spt p).addr))) &&
    (let p : Fin 16 := 15; let h : Nat := 0x2E; let w : Word := 5#32; let edges : Nat := 9; let s : State := ((puts (State.reset) [(SPT_STAT_SLVSEL 15, 1)]).modSpt 15 (fun x => { x with hdr := some 0x2E, served := true, used := true, addr := 46 })); decide ((s.bit (SPT_STAT_SLVSEL p) = true) ∧ (s.pinsCut = false) ∧ ((s.spt p).hdr = some h) ∧ ((s.spt p).served = true) ∧ ((s.spt p).words = 0) ∧ (h < 64) ∧ (32 ≤ (s.spt p).addr) ∧ ((s.spt p).addr < 47) ∧ (0 < edges))) &&
    (let p : Fin 16 := 15; let slot : Bool := false; let s : State := ((puts (State.reset) [(SPT_STAT_SLVSEL 15, 1)]).modSpt 15 (fun x => { x with hdr := some 5, status := 8 })); decide ((s.bit (SPT_STAT_SLVSEL p) = true) ∧ (s.pinsCut = false) ∧ (slot = false ∨ (s.spt p).hdr = none) ∧ ((s.spt p).wordDone = false))) &&
    (let p : Fin 16 := 15; let h : Nat := 5; let s : State := ((puts (State.reset) [(SPT_STAT_SLVSEL 15, 1)]).modSpt 15 (fun x => { x with hdr := some 5, status := 8, served := true, used := false })); decide ((s.bit (SPT_STAT_SLVSEL p) = true) ∧ (s.pinsCut = false) ∧ ((s.spt p).hdr = some h) ∧ ((s.spt p).served = true) ∧ ((s.spt p).used = false)))) = true := by decide +kernel

theorem witness_TheTestAccessPort :
    ((let off : BitVec 16 := 0x8#16; let w : Word := 0#32; let ok : Bool := false; let wr : Bool := true; let s : State := { State.reset with boot := { (State.reset).boot with held := [1] } }; decide ((s.freed = false))) &&
    (let op : DbgOp := .halt 1; let s : State := { State.reset with boot := { (State.reset).boot with held := [1] } }; decide ((s.freed = false))) &&
    (let i : Fin 512 := 511; let mask : Word := 0xFF#32; let took : Word := 0xFFFFFFF0#32; let s : State := { State.reset with boot := { (State.reset).boot with held := [1] } }; decide ((s.freed = false))) &&
    (let off : BitVec 16 := 0x8#16; let w : Word := 0#32; let ok : Bool := false; let s : State := (puts (State.reset) [(SEC_LCSTATE_LC, 2), (CLK_DOM_STAT_RUN 3, 1)]); decide ((s.freed = true) ∧ (s.get SEC_LCSTATE_LC ≠ 4) ∧ (s.domAccess (0x30000 + off.toNat / 4 * 4) = .served))) &&
    (let off : BitVec 16 := 0x30#16; let w : Word := 0#32; let ok : Bool := false; let wr : Bool := false; let s : State := (puts (State.reset) [(SEC_LCSTATE_LC, 4)]); decide ((s.freed = true) ∧ (s.get SEC_LCSTATE_LC = 4) ∧ (off.toNat / 4 * 4 ≠ SEC_LCSTATE - 0x30000 ∨ wr = true))) &&
    (let op : DbgOp := .halt 1; let s : State := (puts (State.reset) [(SEC_LCSTATE_LC, 2), (SEC_LCSTATE_DBG, 0)]); decide ((s.freed = true) ∧ (s.get SEC_LCSTATE_DBG = 0))) &&
    (let i : Fin 524288 := 524287; let w : Word := 7#32; let s : State := (puts (State.reset) [(SEC_LCSTATE_LC, 2), (SEC_LCSTATE_DBG, 1)]); decide ((s.freed = true) ∧ (s.get SEC_LCSTATE_LC ≠ 0) ∧ (s.get SEC_LCSTATE_LC ≠ 4) ∧ (s.get SEC_LCSTATE_DBG = 1 ∨ s.get SEC_LCSTATE_DBG = 2) ∧ (s.get PWR_STATE_STATE ≠ 3))) &&
    (let c : Fin 4 := 3; let s : State := (puts (State.reset) [(SEC_LCSTATE_LC, 2), (SEC_LCSTATE_DBG, 1)]); decide ((s.freed = true) ∧ (s.get SEC_LCSTATE_LC ≠ 0) ∧ (s.get SEC_LCSTATE_LC ≠ 4) ∧ (s.get SEC_LCSTATE_DBG = 1 ∨ s.get SEC_LCSTATE_DBG = 2) ∧ (s.get PWR_STATE_STATE ≠ 3))) &&
    (let i : Fin 512 := 511; let mask : Word := 0xFF#32; let took : Word := 0xFFFFFFF0#32; let s : State := State.reset; decide ((s.freed = true) ∧ (s.get SEC_LCSTATE_LC = 0) ∧ (s.get PWR_STATE_STATE < 2) ∧ (i ≠ 0))) &&
    (let i : Fin 512 := 5; let mask : Word := 1#32; let took : Word := 1#32; let s : State := (puts (State.reset) [(SEC_LCSTATE_LC, 2)]); decide ((s.freed = true) ∧ (s.get SEC_LCSTATE_LC = 2) ∧ (s.get SEC_LCSTATE_DBG ≠ 2)))) = true := by decide +kernel

theorem witness_FlowRegistersAndDoorbells :
    ((let src : Source := .host; let f : Fin 64 := 63; let w : Word := 0xFFFFFFFF#32; let s : State := { (puts ((puts State.reset [(SEC_BOOTSTAT_STAGE, 9), (SEC_LCSTATE_LC, 2)])) [(FL_CTRL_EN 63, 0), (FL_STAT_ACTIVE 63, 0), (MBX_CTRL_LOCK, 0), (FL_SQTAIL_CNT 63, 9)]) with ep := { ((puts State.reset [(SEC_BOOTSTAT_STAGE, 9), (SEC_LCSTATE_LC, 2)])).ep with bme := true, d3hot := false, msixEn := true, fmask := false }, boot := { ((puts State.reset [(SEC_BOOTSTAT_STAGE, 9), (SEC_LCSTATE_LC, 2)])).boot with held := [] } }; decide ((s.rowServed src (FL_CTRL f) true = true) ∧ (s.bit (FL_CTRL_EN f) = false) ∧ (s.bit (FL_STAT_ACTIVE f) = false) ∧ (wbit w 31 = true) ∧ (s.bit MBX_CTRL_LOCK = false))) &&
    (let src : Source := .host; let f : Fin 64 := 63; let w : Word := 0x40050000#32; let s : State := { (puts ((puts State.reset [(SEC_BOOTSTAT_STAGE, 9), (SEC_LCSTATE_LC, 2)])) [(MBX_CTRL_LOCK, 0), (FL_STAT_ACTIVE 63, 1), (⟨FL_CTRL 63, 0, 32⟩, 0xC0050000)]) with ep := { ((puts State.reset [(SEC_BOOTSTAT_STAGE, 9), (SEC_LCSTATE_LC, 2)])).ep with bme := true, d3hot := false, msixEn := true, fmask := false }, boot := { ((puts State.reset [(SEC_BOOTSTAT_STAGE, 9), (SEC_LCSTATE_LC, 2)])).boot with held := [] } }; decide ((s.rowServed src (FL_CTRL f) true = true) ∧ (s.bit (FL_CTRL_EN f) = true) ∧ (Nat.land (Nat.xor (s.word (FL_CTRL f)).toNat w.toNat) 0x60FFFFFF = 0) ∧ (wbit w 31 = false) ∧ (s.bit MBX_CTRL_LOCK = false) ∧ ((s.flow f).cmds = []))) &&
    (let src : Source := .host; let f : Fin 64 := 63; let w : Word := 0x80000001#32; let s : State := { (puts ((puts State.reset [(SEC_BOOTSTAT_STAGE, 9), (SEC_LCSTATE_LC, 2)])) [(FL_STAT_ACTIVE 63, 1), (⟨FL_CTRL 63, 0, 32⟩, 0x80000000)]) with ep := { ((puts State.reset [(SEC_BOOTSTAT_STAGE, 9), (SEC_LCSTATE_LC, 2)])).ep with bme := true, d3hot := false, msixEn := true, fmask := false }, boot := { ((puts State.reset [(SEC_BOOTSTAT_STAGE, 9), (SEC_LCSTATE_LC, 2)])).boot with held := [] } }; decide ((s.rowServed src (FL_CTRL f) true = true) ∧ (s.bit (FL_CTRL_EN f) = true ∨ s.bit (FL_STAT_ACTIVE f) = true) ∧ (Nat.land (Nat.xor (s.word (FL_CTRL f)).toNat w.toNat) 0x60FFFFFF ≠ 0))) &&
    (let f : Fin 64 := 63; let w : Word := 15#32; let s : State := { (puts (State.reset) [(SEC_BOOTSTAT_STAGE, 9), (SEC_LCSTATE_LC, 2), (PWR_STATE_STATE, 0), (PWR_STATE_BUSY, 0), (FL_CTRL_EN 63, 1), (FL_CTRL_LOC 63, 0), (FL_SQHEAD_CNT 63, 0xFFFFFFFF), (FL_SIZE_SLOG 63, 0)]) with ep := { (State.reset).ep with bme := true, d3hot := false, msixEn := true, fmask := false }, boot := { (State.reset).boot with held := [] } }; decide ((s.hostReaches = true) ∧ (s.profileF = false) ∧ (s.ready = true) ∧ (s.get PWR_STATE_STATE < 2) ∧ (s.bit PWR_STATE_BUSY = false) ∧ (s.bit (FL_CTRL_EN f) = true) ∧ ((w.toNat + 2 ^ 32 - s.get (FL_SQHEAD_CNT f)) % 2 ^ 32 ≤ 2 ^ (if s.bit (FL_CTRL_LOC f) then 6 else max 4 (min 12 (s.get (FL_SIZE_SLOG f))))))) &&
    (let f : Fin 64 := 63; let w : Word := 16#32; let s : State := { (puts (State.reset) [(SEC_BOOTSTAT_STAGE, 9), (SEC_LCSTATE_LC, 2), (PWR_STATE_STATE, 0), (PWR_STATE_BUSY, 0), (FL_CTRL_EN 63, 1), (FL_CTRL_LOC 63, 0), (FL_SQHEAD_CNT 63, 0xFFFFFFFF), (FL_SIZE_SLOG 63, 0)]) with ep := { (State.reset).ep with bme := true, d3hot := false, msixEn := true, fmask := false }, boot := { (State.reset).boot with held := [] } }; decide ((s.hostReaches = true) ∧ (s.profileF = false) ∧ (s.ready = true) ∧ (s.get PWR_STATE_STATE < 2) ∧ (s.bit PWR_STATE_BUSY = false) ∧ (s.bit (FL_CTRL_EN f) = false ∨ 2 ^ (if s.bit (FL_CTRL_LOC f) then 6 else max 4 (min 12 (s.get (FL_SIZE_SLOG f)))) < (w.toNat + 2 ^ 32 - s.get (FL_SQHEAD_CNT f)) % 2 ^ 32))) &&
    (let f : Fin 64 := 63; let w : Word := 5#32; let s : State := { (puts (State.reset) [(SEC_BOOTSTAT_STAGE, 9), (SEC_LCSTATE_LC, 2), (PWR_STATE_STATE, 0), (PWR_STATE_BUSY, 0), (FL_CQHEAD_CNT 63, 0xFFFFFFFF), (FL_CQTAIL_CNT 63, 5)]) with ep := { (State.reset).ep with bme := true, d3hot := false, msixEn := true, fmask := false }, boot := { (State.reset).boot with held := [] } }; decide ((s.hostReaches = true) ∧ (s.profileF = false) ∧ (s.ready = true) ∧ (s.get PWR_STATE_STATE < 2) ∧ (s.bit PWR_STATE_BUSY = false) ∧ ((w.toNat + 2 ^ 32 - s.get (FL_CQHEAD_CNT f)) % 2 ^ 32 ≤ (s.get (FL_CQTAIL_CNT f) + 2 ^ 32 - s.get (FL_CQHEAD_CNT f)) % 2 ^ 32))) &&
    (let f : Fin 64 := 63; let w : Word := 6#32; let s : State := { (puts (State.reset) [(SEC_BOOTSTAT_STAGE, 9), (SEC_LCSTATE_LC, 2), (PWR_STATE_STATE, 0), (PWR_STATE_BUSY, 0), (FL_CQHEAD_CNT 63, 0xFFFFFFFF), (FL_CQTAIL_CNT 63, 5)]) with ep := { (State.reset).ep with bme := true, d3hot := false, msixEn := true, fmask := false }, boot := { (State.reset).boot with held := [] } }; decide ((s.hostReaches = true) ∧ (s.profileF = false) ∧ (s.ready = true) ∧ (s.get PWR_STATE_STATE < 2) ∧ (s.bit PWR_STATE_BUSY = false) ∧ ((s.get (FL_CQTAIL_CNT f) + 2 ^ 32 - s.get (FL_CQHEAD_CNT f)) % 2 ^ 32 < (w.toNat + 2 ^ 32 - s.get (FL_CQHEAD_CNT f)) % 2 ^ 32))) &&
    (let f : Fin 64 := 63; let w : Word := 6#32; let s : State := { (puts (State.reset) [(SEC_BOOTSTAT_STAGE, 8), (SEC_LCSTATE_LC, 2)]) with ep := { (State.reset).ep with bme := true, d3hot := false, msixEn := true, fmask := false }, boot := { (State.reset).boot with held := [] } }; decide ((s.hostReaches = true) ∧ (s.profileF = false) ∧ (s.ready = false))) &&
    (let f : Fin 64 := 63; let w : Word := 6#32; let s : State := { (puts (State.reset) [(SEC_BOOTSTAT_STAGE, 9), (SEC_LCSTATE_LC, 2), (PWR_STATE_STATE, 0), (PWR_STATE_BUSY, 0), (FL_CTRL_EN 63, 1), (FL_SQTAIL_CNT 63, 6)]) with ep := { (State.reset).ep with bme := true, d3hot := false, msixEn := true, fmask := false }, boot := { (State.reset).boot with held := [] } }; decide ((s.hostReaches = true) ∧ (s.profileF = false) ∧ (s.ready = true) ∧ (s.get PWR_STATE_STATE < 2) ∧ (s.bit PWR_STATE_BUSY = false) ∧ (s.bit (FL_CTRL_EN f) = true) ∧ ((s.get (FL_SQTAIL_CNT f) + 2 ^ 32 - w.toNat) % 2 ^ 32 = 0 ∨ 2 ^ 31 ≤ (s.get (FL_SQTAIL_CNT f) + 2 ^ 32 - w.toNat) % 2 ^ 32))) &&
    (let f : Fin 64 := 63; let w : Word := 5#32; let a : List Cmd := [(⟨4, 8, 0x0200, .started, 0, 0, 0, false, false, 7, true, false, 300, 77, none⟩ : Cmd)]; let b : List Cmd := []; let k : Cmd := (⟨5, 5, 0x0110, .waiting, 0, 0, 0, false, false, 7, true, false, 300, 77, none⟩ : Cmd); let s : State := { ((puts (State.reset) [(SEC_BOOTSTAT_STAGE, 9), (SEC_LCSTATE_LC, 2), (PWR_STATE_STATE, 0), (PWR_STATE_BUSY, 0), (FL_CTRL_EN 63, 1), (FL_SQTAIL_CNT 63, 6), (FL_SQHEAD_CNT 63, 6)]).modFlow 63 (fun x => { x with cmds := [(⟨4, 8, 0x0200, .started, 0, 0, 0, false, false, 7, true, false, 300, 77, none⟩ : Cmd), (⟨5, 5, 0x0110, .waiting, 0, 0, 0, false, false, 7, true, false, 300, 77, none⟩ : Cmd)] })) with ep := { (State.reset).ep with bme := true, d3hot := false, msixEn := true, fmask := false }, boot := { (State.reset).boot with held := [] } }; decide ((s.hostReaches = true) ∧ (s.profileF = false) ∧ (s.ready = true) ∧ (s.get PWR_STATE_STATE < 2) ∧ (s.bit PWR_STATE_BUSY = false) ∧ (s.bit (FL_CTRL_EN f) = true) ∧ (0 < (s.get (FL_SQTAIL_CNT f) + 2 ^ 32 - w.toNat) % 2 ^ 32) ∧ ((s.get (FL_SQTAIL_CNT f) + 2 ^ 32 - w.toNat) % 2 ^ 32 < 2 ^ 31) ∧ ((s.get (FL_SQTAIL_CNT f) + 2 ^ 32 - s.get (FL_SQHEAD_CNT f)) % 2 ^ 32 < (s.get (FL_SQTAIL_CNT f) + 2 ^ 32 - w.toNat) % 2 ^ 32) ∧ ((s.flow f).cmds = a ++ k :: b) ∧ (∀ q ∈ a ++ b, q.id ≠ k.id ∧ q.cnt ≠ k.cnt) ∧ (k.cnt = w.toNat) ∧ (k.st = .waiting) ∧ (k.orphan = false))) &&
    (let f : Fin 64 := 63; let w : Word := 5#32; let s : State := { (puts (State.reset) [(SEC_BOOTSTAT_STAGE, 9), (SEC_LCSTATE_LC, 2), (PWR_STATE_STATE, 0), (PWR_STATE_BUSY, 0), (FL_CTRL_EN 63, 1), (FL_SQTAIL_CNT 63, 6), (FL_SQHEAD_CNT 63, 5)]) with ep := { (State.reset).ep with bme := true, d3hot := false, msixEn := true, fmask := false }, boot := { (State.reset).boot with held := [] } }; decide ((s.hostReaches = true) ∧ (s.profileF = false) ∧ (s.ready = true) ∧ (s.get PWR_STATE_STATE < 2) ∧ (s.bit PWR_STATE_BUSY = false) ∧ (s.bit (FL_CTRL_EN f) = true) ∧ (0 < (s.get (FL_SQTAIL_CNT f) + 2 ^ 32 - w.toNat) % 2 ^ 32) ∧ ((s.get (FL_SQTAIL_CNT f) + 2 ^ 32 - w.toNat) % 2 ^ 32 < 2 ^ 31) ∧ ((s.get (FL_SQTAIL_CNT f) + 2 ^ 32 - w.toNat) % 2 ^ 32 ≤ (s.get (FL_SQTAIL_CNT f) + 2 ^ 32 - s.get (FL_SQHEAD_CNT f)) % 2 ^ 32))) &&
    (let src : Source := .host; let w : Word := 5#32; let s : State := { (puts ((puts State.reset [(SEC_BOOTSTAT_STAGE, 9), (SEC_LCSTATE_LC, 2)])) [(MBX_ELTAIL_CNT, 0xFFFFFFFF), (MBX_ELHEAD_CNT, 5)]) with ep := { ((puts State.reset [(SEC_BOOTSTAT_STAGE, 9), (SEC_LCSTATE_LC, 2)])).ep with bme := true, d3hot := false, msixEn := true, fmask := false }, boot := { ((puts State.reset [(SEC_BOOTSTAT_STAGE, 9), (SEC_LCSTATE_LC, 2)])).boot with held := [] } }; decide ((s.rowServed src MBX_ELTAIL true = true) ∧ ((w.toNat + 2 ^ 32 - s.get MBX_ELTAIL_CNT) % 2 ^ 32 ≤ (s.get MBX_ELHEAD_CNT + 2 ^ 32 - s.get MBX_ELTAIL_CNT) % 2 ^ 32))) &&
    (let src : Source := .host; let w : Word := 6#32; let s : State := { (puts ((puts State.reset [(SEC_BOOTSTAT_STAGE, 9), (SEC_LCSTATE_LC, 2)])) [(MBX_ELTAIL_CNT, 0xFFFFFFFF), (MBX_ELHEAD_CNT, 5)]) with ep := { ((puts State.reset [(SEC_BOOTSTAT_STAGE, 9), (SEC_LCSTATE_LC, 2)])).ep with bme := true, d3hot := false, msixEn := true, fmask := false }, boot := { ((puts State.reset [(SEC_BOOTSTAT_STAGE, 9), (SEC_LCSTATE_LC, 2)])).boot with held := [] } }; decide ((s.rowServed src MBX_ELTAIL true = true) ∧ ((s.get MBX_ELHEAD_CNT + 2 ^ 32 - s.get MBX_ELTAIL_CNT) % 2 ^ 32 < (w.toNat + 2 ^ 32 - s.get MBX_ELTAIL_CNT) % 2 ^ 32)))) = true := by decide +kernel

theorem witness_CommandsAreFetchedDispatchedAndCompleted :
    ((let e : BitVec 512 := (0x0110 + 5 * 2 ^ 160 : BitVec 512); let f : Fin 64 := 63; let s : State := { ((puts (State.reset) [(FL_CTRL_EN 63, 1), (FL_SQTAIL_CNT 63, 0), (FL_SQHEAD_CNT 63, 0xFFFFFFFF)]).modFlow 63 (fun x => { x with unsig := 1 })) with ep := { (State.reset).ep with bme := true, d3hot := false, msixEn := true, fmask := false }, boot := { (State.reset).boot with held := [] } }; decide ((s.bit (CLK_DOM_STAT_RUN 0) = true) ∧ (s.sched.asking = []) ∧ (s.nextFlow = some f.val) ∧ ((s.flow f).cmds = []) ∧ (s.bit (FL_CTRL_LOC f) = false) ∧ (s.get (FL_SQHEAD_CNT f) ∉ (s.flow f).cancels) ∧ (∀ p ∈ s.flows, p.1 ≠ f.val → p.2.cmds = []) ∧ ((f.val, s.flow f) ∈ s.flows) ∧ (s.flows.Pairwise (fun p q => p.1 ≠ q.1)))) &&
    (let e : BitVec 512 := 0#512; let c : Fin 4 := 3; let f : Fin 64 := 63; let k : Cmd := (⟨5, 9, 0, .ready, 0, 0, 0, false, false, 7, true, false, 300, 77, none⟩ : Cmd); let s : State := { ((puts (State.reset) [(FL_CTRL_EN 63, 0)]).modFlow 63 (fun x => { x with cmds := [(⟨5, 9, 0, .ready, 0, 0, 0, false, false, 7, true, false, 300, 77, none⟩ : Cmd)] })) with ep := { (State.reset).ep with bme := true, d3hot := false, msixEn := true, fmask := false }, boot := { (State.reset).boot with held := [] } }; decide ((s.bit (CLK_DOM_STAT_RUN 0) = true) ∧ (s.stateChange = false) ∧ (c.val ∉ s.jtag.halted) ∧ (s.nextFlow = none) ∧ (s.flows = [(f.val, s.flow f)]) ∧ ((s.flow f).cmds = [k]) ∧ (k.st = .ready) ∧ (k.orphan = false) ∧ (s.sched.asking = []) ∧ ((s.flow f).core = none ∨ (s.flow f).core = some c.val) ∧ (entOp k.entry ∈ mbxOps) ∧ (s.partitionOk f k.entry = true))) &&
    (let e : BitVec 512 := 0#512; let c : Fin 4 := 3; let f : Fin 64 := 63; let k : Cmd := (⟨5, 9, 0x0120, .ready, 0, 0, 0, false, false, 7, true, false, 300, 77, none⟩ : Cmd); let s : State := { ((puts (State.reset) [(FL_CTRL_EN 63, 0), (FL_CTRL_PRIV 63, 0)]).modFlow 63 (fun x => { x with cmds := [(⟨5, 9, 0x0120, .ready, 0, 0, 0, false, false, 7, true, false, 300, 77, none⟩ : Cmd)] })) with ep := { (State.reset).ep with bme := true, d3hot := false, msixEn := true, fmask := false }, boot := { (State.reset).boot with held := [] } }; decide ((s.bit (CLK_DOM_STAT_RUN 0) = true) ∧ (s.stateChange = false) ∧ (c.val ∉ s.jtag.halted) ∧ (s.nextFlow = none) ∧ (s.flows = [(f.val, s.flow f)]) ∧ ((s.flow f).cmds = [k]) ∧ (k.st = .ready) ∧ (k.orphan = false) ∧ (s.sched.asking = []) ∧ ((s.flow f).core = none ∨ (s.flow f).core = some c.val) ∧ (entOp k.entry ∉ mbxOps ∨ s.partitionOk f k.entry = false))) &&
    (let f : Fin 64 := 63; let k : Cmd := (⟨5, 9, 0x1234 * 2 ^ 32, .finished, 0, 0, 0, false, false, 7, true, false, 300, 77, none⟩ : Cmd); let rest : List Cmd := [(⟨6, 10, 0x0110, .waiting, 0, 0, 0, false, false, 7, true, false, 300, 77, none⟩ : Cmd)]; let s : State := { ((puts (State.reset) [(FL_CTRL_EN 63, 1), (FL_CTRL_LOC 63, 1), (FL_CTRL_COAL 63, 2), (FL_CQTAIL_CNT 63, 63)]).modFlow 63 (fun x => { x with cmds := [(⟨5, 9, 0x1234 * 2 ^ 32, .finished, 0, 0, 0, false, false, 7, true, false, 300, 77, none⟩ : Cmd), (⟨6, 10, 0x0110, .waiting, 0, 0, 0, false, false, 7, true, false, 300, 77, none⟩ : Cmd)] })) with ep := { (State.reset).ep with bme := true, d3hot := false, msixEn := true, fmask := false }, boot := { (State.reset).boot with held := [] } }; decide (((s.flow f).cmds = k :: rest) ∧ (k.orphan = false) ∧ (k.st = .finished) ∧ (∀ q ∈ rest, q.id ≠ k.id) ∧ (s.bit (FL_CTRL_EN f) = true) ∧ (s.bit (FL_CTRL_LOC f) = true) ∧ ((s.get (FL_CQTAIL_CNT f) + 2 ^ 32 - s.get (FL_CQHEAD_CNT f)) % 2 ^ 32 < 64) ∧ ((s.flow f).unsig + 1 < s.get (FL_CTRL_COAL f)))) &&
    (let f : Fin 64 := 63; let k : Cmd := (⟨5, 9, 0x1234 * 2 ^ 32, .finished, 0, 0, 0, false, false, 7, true, false, 300, 77, none⟩ : Cmd); let rest : List Cmd := [(⟨6, 10, 0x0110, .waiting, 0, 0, 0, false, false, 7, true, false, 300, 77, none⟩ : Cmd)]; let s : State := { ((puts (State.reset) [(FL_CTRL_EN 63, 1), (FL_CTRL_LOC 63, 0), (FL_SIZE_CLOG 63, 31), (FL_CTRL_COAL 63, 2), (FL_CQTAIL_CNT 63, 0xFFFFFFFF), (FL_CQHEAD_CNT 63, 0xFFFFF001)]).modFlow 63 (fun x => { x with cmds := [(⟨5, 9, 0x1234 * 2 ^ 32, .finished, 0, 0, 0, false, false, 7, true, false, 300, 77, none⟩ : Cmd), (⟨6, 10, 0x0110, .waiting, 0, 0, 0, false, false, 7, true, false, 300, 77, none⟩ : Cmd)], unsig := 1 })) with ep := { (State.reset).ep with bme := true, d3hot := false, msixEn := false }, boot := { (State.reset).boot with held := [] } }; decide (((s.flow f).cmds = k :: rest) ∧ (k.orphan = false) ∧ (k.st = .finished) ∧ (∀ q ∈ rest, q.id ≠ k.id) ∧ (s.bit (FL_CTRL_EN f) = true) ∧ (s.bit (FL_CTRL_LOC f) = false) ∧ (s.dmaOn = true) ∧ ((s.get (FL_CQTAIL_CNT f) + 2 ^ 32 - s.get (FL_CQHEAD_CNT f)) % 2 ^ 32 < 2 ^ (if s.bit (FL_CTRL_LOC f) then 6 else max 4 (min 12 (s.get (FL_SIZE_CLOG f))))) ∧ (s.get (FL_CTRL_COAL f) ≤ (s.flow f).unsig + 1) ∧ (s.ep.msixEn = false))) &&
    (let f : Fin 64 := 63; let k : Cmd := (⟨5, 9, 0x1234 * 2 ^ 32, .finished, 0, 0, 0, false, false, 7, true, false, 300, 77, none⟩ : Cmd); let rest : List Cmd := [(⟨6, 10, 0x0110, .waiting, 0, 0, 0, false, false, 7, true, false, 300, 77, none⟩ : Cmd)]; let s : State := { ((puts (State.reset) [(FL_CTRL_EN 63, 1), (FL_CTRL_LOC 63, 1), (FL_CQTAIL_CNT 63, 63), (FL_CQHEAD_CNT 63, 0xFFFFFFFF)]).modFlow 63 (fun x => { x with cmds := [(⟨5, 9, 0x1234 * 2 ^ 32, .finished, 0, 0, 0, false, false, 7, true, false, 300, 77, none⟩ : Cmd), (⟨6, 10, 0x0110, .waiting, 0, 0, 0, false, false, 7, true, false, 300, 77, none⟩ : Cmd)] })) with ep := { (State.reset).ep with bme := true, d3hot := false, msixEn := true, fmask := false }, boot := { (State.reset).boot with held := [] } }; decide (((s.flow f).cmds = k :: rest) ∧ (k.orphan = false) ∧ (k.st = .finished) ∧ (∀ q ∈ rest, q.id ≠ k.id) ∧ (s.bit (FL_CTRL_EN f) = true) ∧ (2 ^ (if s.bit (FL_CTRL_LOC f) then 6 else max 4 (min 12 (s.get (FL_SIZE_CLOG f)))) ≤ (s.get (FL_CQTAIL_CNT f) + 2 ^ 32 - s.get (FL_CQHEAD_CNT f)) % 2 ^ 32))) &&
    (let f : Fin 64 := 63; let k : Cmd := (⟨6, 10, 0x0110, .waiting, 0, 0, 0, false, false, 7, true, false, 300, 77, none⟩ : Cmd); let rest : List Cmd := [(⟨5, 9, 0x1234 * 2 ^ 32, .finished, 0, 0, 0, false, false, 7, true, false, 300, 77, none⟩ : Cmd)]; let s : State := { ((puts (State.reset) [(FL_CTRL_EN 63, 1)]).modFlow 63 (fun x => { x with cmds := [(⟨6, 10, 0x0110, .waiting, 0, 0, 0, false, false, 7, true, false, 300, 77, none⟩ : Cmd), (⟨5, 9, 0x1234 * 2 ^ 32, .finished, 0, 0, 0, false, false, 7, true, false, 300, 77, none⟩ : Cmd)] })) with ep := { (State.reset).ep with bme := true, d3hot := false, msixEn := true, fmask := false }, boot := { (State.reset).boot with held := [] } }; decide (((s.flow f).cmds = k :: rest) ∧ (k.orphan = false) ∧ (k.st ≠ .finished))) &&
    (let f : Fin 64 := 63; let s : State := { ((puts (State.reset) []).modFlow 63 (fun x => { x with unsig := 3 })) with ep := { (State.reset).ep with bme := true, d3hot := false, msixEn := true, fmask := false }, boot := { (State.reset).boot with held := [] }, msix := [(255, 0)] }; decide (((s.flow f).unsig ≠ 0) ∧ (s.ep.msixEn = true) ∧ (s.ep.fmask = false) ∧ (s.ep.bme = true) ∧ (s.ep.d3hot = false) ∧ (tabGet (msixReset 3) s.msix (4 * f.val + 3) % 2 = 0))) &&
    (let s : State := { (puts (State.reset) []) with ep := { (State.reset).ep with elUnsig := 3, msixEn := true, fmask := true }, boot := { (State.reset).boot with held := [] } }; decide ((s.ep.elUnsig ≠ 0) ∧ (s.ep.msixEn = true) ∧ (s.ep.fmask = true)))) = true := by decide +kernel

theorem witness_RegisterAccessesByAddress :
    ((let a : Nat := 0x3FFFFC; let ws : List (Word × BitVec 4) := [(5#32, 15#4)]; let n : Nat := 1; let s : State := { (puts (State.reset) [(SEC_BOOTSTAT_STAGE, 2)]) with ep := { (State.reset).ep with bme := true, d3hot := false, msixEn := true, fmask := false }, boot := { (State.reset).boot with held := [] } }; decide ((s.epUp = false))) &&
    (let a : Nat := 0x3FFFFC; let ws : List (Word × BitVec 4) := [(5#32, 15#4)]; let n : Nat := 1; let s : State := { (puts (State.reset) [(SEC_BOOTSTAT_STAGE, 9), (SEC_LCSTATE_LC, 2), (PWR_STATE_STATE, 0), (PWR_STATE_BUSY, 0)]) with ep := { (State.reset).ep with d3hot := true }, boot := { (State.reset).boot with held := [] } }; decide ((s.epUp = true) ∧ (s.ep.d3hot = true))) &&
    (let src : Source := .host; let p : Fin 16 := 15; let a : Nat := SPT_TXDATA 15; let w : Word := 5#32; let s : State := { (puts (State.reset) [(SEC_BOOTSTAT_STAGE, 9), (SEC_LCSTATE_LC, 2), (PWR_STATE_STATE, 0), (PWR_STATE_BUSY, 0), (PWR_PDSTAT_STATE 83, 0)]) with ep := { (State.reset).ep with bme := true, d3hot := false, msixEn := true, fmask := false }, boot := { (State.reset).boot with held := [] } }; decide ((s.unseen src a 1 = false) ∧ (s.jtagBars src a true = false) ∧ (s.access src a = .off) ∧ (a = SPT_TXDATA p))) &&
    (let src : Source := .host; let a : Nat := 0x110000; let w : Word := 0xFFFFFFFF#32; let s : State := { (puts (State.reset) [(SEC_BOOTSTAT_STAGE, 9), (SEC_LCSTATE_LC, 2), (PWR_STATE_STATE, 0), (PWR_STATE_BUSY, 0), (CAL_CTRL_LOCK, 1)]) with ep := { (State.reset).ep with bme := true, d3hot := false, msixEn := true, fmask := false }, boot := { (State.reset).boot with held := [] } }; decide ((src = .host → s.hostReaches = true) ∧ (regRequest a 1 = true) ∧ (0x110000 ≤ a) ∧ (a < 0x120000) ∧ (a ≠ CAL_REFCFG) ∧ (s.access src a = .served) ∧ (s.authWaits src a 1 = false))) &&
    (let src : Source := .host; let w : Word := 0xFFFFFFFF#32; let s : State := { (puts (State.reset) [(SEC_BOOTSTAT_STAGE, 3), (SEC_LCSTATE_LC, 2)]) with ep := { (State.reset).ep with bme := true, d3hot := false, msixEn := true, fmask := false }, boot := { (State.reset).boot with held := [] } }; decide ((src = .host → s.hostReaches = true) ∧ (s.access src GLB_SCRATCH = .served))) &&
    (let src : Source := .firmware; let n : Fin 512 := 511; let w : Word := 0xFFFFFFFF#32; let s : State := { (puts (State.reset) [(PWR_PDSTAT_STATE 63, 2)]) with ep := { (State.reset).ep with bme := true, d3hot := false, msixEn := true, fmask := false }, boot := { (State.reset).boot with held := [] } }; decide ((s.rowServed src (CH_DESKEW n) true = true) ∧ (src = .host → s.hostReaches = true) ∧ (s.access src (CH_DESKEW n) = .served) ∧ (s.authWaits src (CH_DESKEW n) 1 = false))) &&
    (let src : Source := .firmware; let b : Fin 8 := 7; let w : Word := 0xFFFFFFFF#32; let s : State := { (puts (State.reset) [(PWR_PDSTAT_STATE 71, 2)]) with ep := { (State.reset).ep with bme := true, d3hot := false, msixEn := true, fmask := false }, boot := { (State.reset).boot with held := [] } }; decide ((s.rowServed src (BNK_ROOT b) true = true) ∧ (src = .host → s.hostReaches = true) ∧ (s.access src (BNK_ROOT b) = .served))) &&
    (let src : Source := .firmware; let n : Fin 4 := 3; let w : Word := 0x8000000F#32; let s : State := { (puts (State.reset) [(PWR_PDSTAT_STATE 75, 2)]) with ep := { (State.reset).ep with bme := true, d3hot := false, msixEn := true, fmask := false }, boot := { (State.reset).boot with held := [] } }; decide ((s.rowServed src (SYN_HOP n) true = true) ∧ (src = .host → s.hostReaches = true) ∧ (s.access src (SYN_HOP n) = .served))) &&
    (let a : Nat := 0x3FFFFC; let ws : List (Word × BitVec 4) := [(5#32, 15#4)]; let s : State := { (puts (State.reset) [(SEC_BOOTSTAT_STAGE, 8), (SEC_LCSTATE_LC, 2)]) with ep := { (State.reset).ep with bme := true, d3hot := false, msixEn := true, fmask := false }, boot := { (State.reset).boot with held := [] } }; decide ((s.hostReaches = true) ∧ (regRequest a ws.length = true) ∧ (s.ready = false) ∧ (0x40000 ≤ a) ∧ (a < 0x400000) ∧ (isHole a = false))) &&
    (let a : Nat := 0x12; let ws : List (Word × BitVec 4) := [(5#32, 12#4), (5#32, 15#4)]; let s : State := { (puts (State.reset) [(SEC_BOOTSTAT_STAGE, 9), (SEC_LCSTATE_LC, 2), (PWR_STATE_STATE, 0), (PWR_STATE_BUSY, 0)]) with ep := { (State.reset).ep with bme := true, d3hot := false, msixEn := true, fmask := false }, boot := { (State.reset).boot with held := [] } }; decide ((s.hostReaches = true) ∧ (0 < ws.length) ∧ (a < 0x400000) ∧ (s.accessAll .host a ws.length = .served) ∧ (a % 4 ≠ 0))) &&
    (let src : Source := .host; let a : Nat := CAL_VALID; let n : Nat := 1; let s : State := { { (puts (State.reset) [(SEC_BOOTSTAT_STAGE, 9), (SEC_LCSTATE_LC, 2), (PWR_STATE_STATE, 0), (PWR_STATE_BUSY, 0)]) with ep := { (State.reset).ep with bme := true, d3hot := false, msixEn := true, fmask := false }, boot := { (State.reset).boot with held := [] } } with boot := { (State.reset).boot with held := [], entry := some 0 } }; decide ((src = .host → s.hostReaches = true) ∧ (s.boot.entry ≠ none) ∧ (src = .host) ∧ (regRequest a n = true) ∧ (n ≤ 16) ∧ (a < 0x400000) ∧ (s.accessAll src a n = .served) ∧ (s.authWaits src a n = true))) &&
    (let a : Nat := 0x10; let w : Word := 5#32; let en : BitVec 4 := 7#4; let s : State := { (puts (State.reset) [(SEC_BOOTSTAT_STAGE, 9), (SEC_LCSTATE_LC, 2), (PWR_STATE_STATE, 0), (PWR_STATE_BUSY, 0)]) with ep := { (State.reset).ep with bme := true, d3hot := false, msixEn := true, fmask := false }, boot := { (State.reset).boot with held := [] } }; decide ((s.hostReaches = true) ∧ (regRequest a 1 = true) ∧ (a < 0x400000) ∧ (en ≠ 15) ∧ (s.access .host a = .served))) &&
    (let a : Nat := 0x3FFFFC; let w : Word := 5#32; let s : State := { (puts (State.reset) [(PWR_PDSTAT_STATE 63, 0)]) with ep := { (State.reset).ep with bme := true, d3hot := false, msixEn := true, fmask := false }, boot := { (State.reset).boot with held := [] } }; decide ((regRequest a 1 = true) ∧ (a < 0x400000) ∧ (s.access .firmware a = .off))) &&
    (let f : Fin 64 := 63; let r : Fin 1280 := 1279; let w : Word := 0x11223344#32; let s : State := { (puts (State.reset) [(SEC_BOOTSTAT_STAGE, 9), (SEC_LCSTATE_LC, 2), (PWR_STATE_STATE, 0), (PWR_STATE_BUSY, 0)]) with ep := { (State.reset).ep with bme := true, d3hot := false, msixEn := true, fmask := false }, boot := { (State.reset).boot with held := [] } }; decide ((s.hostReaches = true) ∧ (s.profileF = false) ∧ (s.ready = true))) &&
    (let src : Source := .host; let a : Nat := PWR_OFFACC; let s : State := { (puts (State.reset) [(SEC_BOOTSTAT_STAGE, 9), (SEC_LCSTATE_LC, 2), (PWR_STATE_STATE, 0), (PWR_STATE_BUSY, 0), (PWR_OFFACC_COUNT, 5)]) with ep := { (State.reset).ep with bme := true, d3hot := false, msixEn := true, fmask := false }, boot := { (State.reset).boot with held := [] } }; decide ((src = .host → s.hostReaches = true) ∧ (regRequest a 1 = true) ∧ (a < 0x105000 ∨ (0x107000 ≤ a ∧ a < 0x130000)) ∧ (s.access src a = .served) ∧ (s.authWaits src a 1 = false))) &&
    (let k : LockBlock := .cal; let src : Source := .host; let w : Word := 0#32; let s : State := (puts State.reset [(SEC_BOOTSTAT_STAGE, 9), (SEC_LCSTATE_LC, 2)]); decide ((s.rowServed src (lockReg k) true = true) ∧ (k ∈ [LockBlock.glb, .clk, .pwr, .sec, .mbx, .seq, .cal]))) &&
    (let src : Source := .host; let n : Fin 4 := 3; let b : Fin 8 := 7; let p : Fin 8 := 7; let q : Fin 16 := 15; let m : Fin 512 := 511; let w : Word := 0#32; let s : State := (puts State.reset [(SEC_BOOTSTAT_STAGE, 9), (SEC_LCSTATE_LC, 2)]); decide ((s.rowServed src (lockReg (.syn n)) true = true) ∧ (s.rowServed src (SYN_CTRL n) true = true) ∧ (s.rowServed src (lockReg (.bnk b)) true = true) ∧ (s.rowServed src (BNK_ROOT b) true = true) ∧ (s.rowServed src (lockReg (.tsp p)) true = true) ∧ (s.rowServed src (TSP_CTRL p) true = true) ∧ (s.rowServed src (lockReg (.prl n)) true = true) ∧ (s.rowServed src (PRL_CTRL n) true = true) ∧ (s.rowServed src (lockReg .pmb) true = true) ∧ (s.rowServed src PMB_CTRL true = true) ∧ (s.rowServed src (lockReg (.spt q)) true = true) ∧ (s.rowServed src (lockReg (.ch m)) true = true)))) = true := by decide +kernel

theorem witness_EndpointConfigurationAndStaging :
    ((let bme : Bool := true; let d3 : Bool := false; let en : Bool := true; let fm : Bool := false; let s : State := { (puts (State.reset) [(SEC_BOOTSTAT_STAGE, 2)]) with ep := { (State.reset).ep with bme := true, d3hot := false, msixEn := true, fmask := false }, boot := { (State.reset).boot with held := [] } }; decide ((s.epUp = false))) &&
    (let bme : Bool := true; let d3 : Bool := false; let en : Bool := true; let fm : Bool := false; let s : State := { (puts (State.reset) [(SEC_BOOTSTAT_STAGE, 9), (SEC_LCSTATE_LC, 2)]) with boot := { (State.reset).boot with held := [] } }; decide ((s.epUp = true) ∧ (s.rings = []) ∧ (s.msixPend = []) ∧ (s.ep.elHeld = []) ∧ (s.flows.all (fun p => p.2.cmds.all (fun k => k.hold.isNone)) = true))) &&
    (let v : Fin 226 := 225; let s : State := { ({ (puts (State.reset) [(SEC_BOOTSTAT_STAGE, 9), (SEC_LCSTATE_LC, 2)]) with boot := { (State.reset).boot with held := [] } }) with msixPend := [(225, true)], msix := [(903, 0)] }; decide ((s.epUp = true) ∧ (s.rings = []) ∧ (s.msixPend = [(v.val, true)]) ∧ (s.ep.elHeld = []) ∧ (s.flows.all (fun p => p.2.cmds.all (fun k => k.hold.isNone)) = true) ∧ (tabGet (msixReset 3) s.msix (4 * v.val + 3) % 2 = 0))) &&
    (let v : Fin 226 := 225; let bme : Bool := true; let d3 : Bool := true; let en : Bool := true; let fm : Bool := false; let s : State := { ({ (puts (State.reset) [(SEC_BOOTSTAT_STAGE, 9), (SEC_LCSTATE_LC, 2)]) with boot := { (State.reset).boot with held := [] } }) with msixPend := [(225, true)], msix := [(903, 0)] }; decide ((s.epUp = true) ∧ (s.rings = []) ∧ (s.msixPend = [(v.val, true)]) ∧ (s.ep.elHeld = []) ∧ (s.flows.all (fun p => p.2.cmds.all (fun k => k.hold.isNone)) = true) ∧ (bme = false ∨ d3 = true ∨ en = false ∨ fm = true))) &&
    (let en : Bool := true; let fm : Bool := false; let f : Fin 64 := 63; let k : Cmd := ⟨5, 9, 0x0202, .started, 0, 0, 0, false, false, 0, false, false, 0, 0, some ⟨0x1000, [1, 2], 0, false, 0, 7⟩⟩; let d : DataOut := ⟨0x1000, [1, 2], 0, false, 0, 7⟩; let s : State := { (({ (puts (State.reset) [(SEC_BOOTSTAT_STAGE, 9), (SEC_LCSTATE_LC, 2)]) with boot := { (State.reset).boot with held := [] } }).modFlow 63 (fun x => { x with cmds := [⟨5, 9, 0x0202, .started, 0, 0, 0, false, false, 0, false, false, 0, 0, some ⟨0x1000, [1, 2], 0, false, 0, 7⟩⟩] })) with msixPend := [] }; decide ((s.epUp = true) ∧ (s.rings = []) ∧ (s.msixPend = []) ∧ (s.ep.elHeld = []) ∧ (s.flows = [(f.val, s.flow f)]) ∧ ((s.flow f).cmds = [k]) ∧ (k.hold = some d) ∧ (k.orphan = false) ∧ (k.st = .started))) &&
    (let off : Nat := 0x24FFFFC; let bytes : List Byte := [1#8, 2#8, 3#8, 4#8]; let s : State := { (puts (State.reset) [(SEC_BOOTSTAT_STAGE, 3), (SEC_LCSTATE_LC, 2)]) with ep := { (State.reset).ep with bme := true, d3hot := false, msixEn := true, fmask := false }, boot := { (State.reset).boot with held := [] } }; decide ((0x2400000 ≤ off) ∧ (off + bytes.length ≤ 0x2500000) ∧ (s.hostReaches = true) ∧ (s.profileF = false) ∧ (s.get PWR_STATE_STATE ≠ 3) ∧ (s.stagingOwned = false))) &&
    (let off : Nat := 0x2500000; let bytes : List Byte := [1#8, 2#8, 3#8, 4#8]; let s : State := { (puts (State.reset) [(SEC_BOOTSTAT_STAGE, 9), (SEC_LCSTATE_LC, 2), (PWR_STATE_STATE, 0), (PWR_STATE_BUSY, 0)]) with ep := { (State.reset).ep with bme := true, d3hot := false, msixEn := true, fmask := false }, boot := { (State.reset).boot with held := [] } }; decide ((0x2400000 ≤ off) ∧ (off < 0x4000000) ∧ (bytes ≠ []) ∧ (off % 0x100000 + bytes.length ≤ 0x100000) ∧ (s.hostReaches = true) ∧ (s.profileF = false) ∧ (s.get PWR_STATE_STATE ≠ 3) ∧ (s.ready = true) ∧ (0x2500000 ≤ off ∨ s.stagingOwned = true)))) = true := by decide +kernel

theorem witness_BanksSelectSyn0AfterEveryReset :
    ((let b : Fin 8 := 7; let s : State := (puts (State.reset) [(BNK_ROOT_SEL 7, 3), (BNK_STAT_ROOTACT 7, 3)]); decide ((s.get (BNK_STAT_ROOTACT b) = s.get (BNK_ROOT_SEL b))))) = true := by decide +kernel

theorem witness_CommandsLeaveInTheOrderTheyCame :
    { State.reset with pending := [.nop 0 0, .fpdCycle 0 none 0] }.pending ≠ [] ∧
      step { State.reset with pending := [.nop 0 0, .fpdCycle 0 none 0] } = .next { State.reset with pending := [.fpdCycle 0 none 0] } ∧
      exec (.nop 0 0) State.reset = .next State.reset := ⟨by simp, rfl, rfl⟩

theorem witness_ProgrammedFusesStay :
    step { State.reset with pending := [.nop 0 0], fuses := [(5, 1#32)] } = .next { State.reset with fuses := [(5, 1#32)] } ∧
      ({ State.reset with pending := [.nop 0 0], fuses := [(5, 1#32)] }.fuse 5).testBit 0 = true := ⟨rfl, by decide +kernel⟩

theorem witness_StepRunsTheFrontCommand : { State.reset with pending := [.nop 0 0, .fpdCycle 0 none 0] }.pending = .nop 0 0 :: [.fpdCycle 0 none 0] := rfl

theorem witness_ResetState : State.reset = State.reset := rfl

theorem calFits (r : CalRun) (a b : List Int) (hu : r.units.length = 2) (hf : r.fam = 4) (ha : a.length = 65536) (hb : b.length = 65536) :
    r.fits [a, b] = true := by simp [CalRun.fits, rawOk, hu, hf, ha, hb]

/-- Two passes of an event-skew run that agree. -/
theorem witness_CalibrationRuns_skew :
    let vals : List (List Int) := [List.replicate 65536 0, List.replicate 65536 100]
    let r : CalRun := ⟨63, 5, 4, 322, [(322, 7), (321, 7)], [322, 321], 0, 2, vals, 0, false, [], [], 0, State.reset.clockMarks [321], []⟩
    let s : State := { (puts State.reset [(CAL_REFCFG_EN, 1), (CAL_REFSTAT_PRESENT, 1), (CAL_REFSTAT_INWIN, 1), (BNK_STAT_ROOTACT 5, 1),
        (SYN_STAT_STATE 1, stLocked), (BNK_STAT_DLLLOCK 5, 1), (BNK_STAT_TAINT 5, 0)]).modRoot 1 (fun x => { x with st := stLocked, lock := true })
      with cal := { State.reset.cal with run := some r } }
    s.cal.run = some r ∧ s.calKept r = Code.OK ∧ r.fits vals = true ∧ r.pass = 2 ∧ r.fam = 4 ∧ r.host = false ∧
      r.units = [(r.ref, 7), ((321 : Fin 512).val, 7)] ∧ (321 : Fin 512).val ≠ r.ref ∧ r.first = vals ∧
      r.saved.all (fun x => [r.ref, (321 : Fin 512).val].any (fun i => (calSaved i).contains x.1)) = true := by
  intro vals r s
  exact ⟨rfl, by decide +kernel, calFits r _ _ rfl rfl List.length_replicate List.length_replicate, rfl, rfl, rfl, rfl, by decide, rfl, rfl⟩

/-! #### An image that LEDGER_IMPORT takes -/

/-- A key below a part of a table is not in that part. -/
theorem tabGet_append_out {l t : Tab Nat} {i n : Nat} (hi : i < n) (ht : ∀ p ∈ t, n ≤ p.1) : tabGet 0 (l ++ t) i = tabGet 0 l i := by
  induction l with
  | nil =>
    induction t with
    | nil => rfl
    | cons p t ih =>
      have h1 := ht p (by simp)
      have h2 : p.1 ≠ i := by omega
      simp only [List.nil_append, tabGet, h2, if_false] at ih ⊢
      exact ih (fun q hq => ht q (by simp [hq]))
  | cons p l ih => simp only [List.cons_append, tabGet]; split <;> [rfl; exact ih]

theorem staged_take (s : State) {k n : Nat} (h : k ≤ n) : (s.staged n).take k = s.staged k := by
  unfold State.staged
  rw [← List.map_take, List.take_range, Nat.min_eq_left h]

theorem staged_eq {s : State} {l t : Tab Nat} {n : Nat} (hs : s.staging = l ++ t) (ht : ∀ p ∈ t, n ≤ p.1) :
    s.staged n = (List.range n).map (tabGet 0 l) := by
  unfold State.staged
  rw [hs]
  exact List.map_congr_left fun i hi => tabGet_append_out (List.mem_range.1 hi) ht

theorem imgAt_head {s : State} {l t : Tab Nat} {n m off k v : Nat} (hs : s.staging = l ++ t) (ht : ∀ p ∈ t, n ≤ p.1) (hn : off + k ≤ n) (hm : n ≤ m)
    (e : ofLe ((List.range' off k).map (tabGet 0 l)) = v) : imgAt (s.staged m) off k = v := by
  rw [imgAt_staged _ (by omega), hs, ← e]
  refine congrArg ofLe (List.map_congr_left fun i hi => tabGet_append_out ?_ ht)
  have h1 := List.mem_range'_1.1 hi
  omega

/-- The header of a ledger of this device, with all other values 0; the CRC and the seal are at its end. -/
def ledgerHead : Tab Nat := [(0, 0x54), (1, 0x47), (2, 0x4C), (3, 0x44), (4, 1), (6, 64), (33, 0x62), (34, 2), (32, 8)]
def ledgerTail (x y : Nat) : Tab Nat := [(156160, x % 256), (156161, x / 256 % 256), (156162, x / 65536 % 256), (156163, x / 16777216 % 256),
  (156164, y % 256), (156165, y / 256 % 256), (156166, y / 65536 % 256), (156167, y / 16777216 % 256)]
def importCmd : Cmd := ⟨5, 9, 0x0311 + 156168 * 2 ^ 160, .running, 0, 0, 0, false, false, 0, false, false, 0, 0, none⟩
def earlierCmd : Cmd := ⟨4, 8, 0x0200, .started, 0, 0, 0, false, false, 0, false, false, 0, 0, none⟩
def laterCmd : Cmd := ⟨6, 10, 0x0110, .waiting, 0, 0, 0, false, false, 0, false, false, 0, 0, none⟩
def ledgerState (x : Nat) : State := { State.reset with
  staging := ledgerHead ++ ledgerTail x (sealOf x), flows := [(63, { Flow.init with cmds := [earlierCmd, importCmd, laterCmd] })] }

theorem ledgerState_ok (x : Nat) (hx : x = crc32 ((List.range 156160).map (tabGet 0 ledgerHead))) :
    (ledgerState x).ledgerCheck 156168 ((ledgerState x).staged ledgerLen) = Code.OK := by
  have hl : x < 2 ^ 32 := by rw [hx]; exact crc32_lt _
  have hq := sealOf_lt hl
  have hs : (ledgerState x).staging = ledgerHead ++ ledgerTail x (sealOf x) := rfl
  have ht : ∀ p ∈ ledgerTail x (sealOf x), 156160 ≤ p.1 := by
    intro p hp
    simp only [ledgerTail, List.mem_cons, List.not_mem_nil, or_false] at hp
    rcases hp with rfl | rfl | rfl | rfl | rfl | rfl | rfl | rfl <;> norm_num
  have hc : crc32 (((ledgerState x).staged ledgerLen).take 156160) = x := by
    rw [staged_take _ (by decide), staged_eq hs ht, ← hx]
  clear hx
  have e1 : imgAt ((ledgerState x).staged ledgerLen) 156160 4 = x := by
    rw [imgAt_staged _ (by decide), hs]
    generalize sealOf x = y at *
    simp [List.range', ledgerHead, ledgerTail, tabGet, ofLe]
    omega
  have e2 : imgAt ((ledgerState x).staged ledgerLen) 156164 4 = sealOf x := by
    rw [imgAt_staged _ (by decide), hs]
    generalize sealOf x = y at *
    simp [List.range', ledgerHead, ledgerTail, tabGet, ofLe]
    omega
  have u1 : (ledgerState x).get SEC_UIDLO_UID = 0 := by
    have : (ledgerState x).get SEC_UIDLO_UID = State.reset.get SEC_UIDLO_UID := rfl
    rw [this]; decide +kernel
  have u2 : (ledgerState x).get SEC_UIDHI_UID = 0 := by
    have : (ledgerState x).get SEC_UIDHI_UID = State.reset.get SEC_UIDHI_UID := rfl
    rw [this]; decide +kernel
  have f : ∀ off k v, off + k ≤ 156160 → ofLe ((List.range' off k).map (tabGet 0 ledgerHead)) = v → imgAt ((ledgerState x).staged ledgerLen) off k = v :=
    fun off k v h e => imgAt_head hs ht h (by decide) e
  have g1 := f 32 4 ledgerLen (by decide) (by decide)
  have g2 := f 0 4 0x444C4754 (by decide) (by decide)
  have g3 := f 6 2 64 (by decide) (by decide)
  have g4 := f 4 2 1 (by decide) (by decide)
  have g5 := f 8 4 0 (by decide) (by decide)
  have g6 := f 12 4 0 (by decide) (by decide)
  unfold State.ledgerCheck
  rw [hc, e1, e2, u1, u2, g1, g2, g3, g4, g5, g6]
  simp only [ledgerLen, ne_eq, not_true_eq_false, or_self, if_false]

theorem witness_LedgersAreExportedImportedAndSaved_import :
    let s := ledgerState (crc32 ((List.range 156160).map (tabGet 0 ledgerHead)))
    Runs s 63 5 0x0311 [earlierCmd] [laterCmd] importCmd ∧ s.calBusy 63 5 = false ∧
      s.ledgerCheck (ent importCmd.entry 20 4) (s.staged ledgerLen) = Code.OK := by
  have h := ledgerState_ok _ rfl
  have hr : ∀ x, Runs (ledgerState x) 63 5 0x0311 [earlierCmd] [laterCmd] importCmd ∧ (ledgerState x).calBusy 63 5 = false :=
    fun x => ⟨⟨rfl, by decide, rfl, rfl, rfl, by decide⟩, rfl⟩
  have he : ent importCmd.entry 20 4 = 156168 := by decide
  refine ⟨(hr _).1, (hr _).2, ?_⟩
  rw [he]
  exact h

end Sys2Proof.Tests
end

section
/-! What REGISTER_WRITE does for a debugger whose access profile forbids the access (13, R402, R403). -/

namespace Sys2Proof.Machine

/-- A refused instruction of the test access port counts in SEC_DBGSTAT and reaches no other register (13, R402). -/
theorem State.tapRefuse_word_other (s : State) {a : Nat} (h : a ≠ SEC_DBGSTAT) : s.tapRefuse.word a = s.word a := by
  have hput : s.tapRefuse.word a = (s.tap 0xFF).word a := by
    rw [State.tapRefuse, State.inc_eq, State.put_word_other _ _ h]
  exact hput.trans rfl

/-- A write of one dword of BAR0 that the debugger's profile bars is a refused instruction (13, R403). -/
theorem registerWrite_dword_barred {s : State} {src : Source} {a : Nat} (w : Word) (en : BitVec 4)
    (hseen : s.unseen src a 1 = false) (hbar0 : a < 0x10000000) (hbars : s.jtagBars src a true = true) :
    registerWrite s src a [(w, en)] = s.tapRefuse := by
  simp [registerWrite, hseen, Nat.not_le.mpr hbar0, List.range_succ, hbars]

/-- A write of one dword that the debugger's profile bars leaves the register it names as it was. -/
theorem registerWrite_dword_barred_word {s : State} {src : Source} {a : Nat} (w : Word) (en : BitVec 4)
    (hseen : s.unseen src a 1 = false) (hbar0 : a < 0x10000000) (hbars : s.jtagBars src a true = true) (h : a ≠ SEC_DBGSTAT) :
    (registerWrite s src a [(w, en)]).word a = s.word a := by
  rw [registerWrite_dword_barred w en hseen hbar0 hbars, State.tapRefuse_word_other s h]

end Sys2Proof.Machine
end

section
/-! The accesses by address: the clause on SCRATCH lets in a debugger that its profile bars. -/

open Sys2Proof Sys2Proof.Machine

/-- Refutes O54. Its clause on SCRATCH asks of the source only that a host reaches the BARs and that the bus serves the
access; it does not ask that a debugger's profile allows it. After reset the device is BLANK and in profile F, which
grants the test access port SECACC and FUSEPROG but no DBGACC (13, R403): the write of 1 to SCRATCH by the
debugger selects the bypass register, counts in SEC_DBGSTAT.JREF and leaves SCRATCH at 0, though the bus would serve it. -/
theorem not_registerAccessesByAddress : ¬ Obligations.RegisterAccessesByAddress := by
  unfold Obligations.RegisterAccessesByAddress
  rintro ⟨-, -, -, -, hscratch, -⟩
  have hserved : State.reset.access .jtag GLB_SCRATCH = .served := by decide
  obtain ⟨t, hexec, hword, -⟩ := hscratch .jtag 1 State.reset (by simp) hserved
  have ht : registerWrite State.reset .jtag GLB_SCRATCH [(1, 15)] = t := Host.Outcome.next.inj hexec
  have hkept : t.word GLB_SCRATCH = State.reset.word GLB_SCRATCH := ht ▸
    registerWrite_dword_barred_word 1 15 (by decide) (by decide) (by decide) (by decide)
  have hzero : State.reset.word GLB_SCRATCH = 0 := by decide
  exact absurd (hword.symm.trans (hkept.trans hzero)) (by decide)

end

section
/-! No command touches the queue: every command that answers a next state hands it on as it found it (01, R21). -/

namespace Sys2Proof.Machine

/-- The queue of the next state, if the outcome is one, is the queue of `s`. -/
def QueueKept (s : State) (o : Host.Outcome State Fault Refusal) : Prop := ∀ t, o = .next t → t.pending = s.pending

@[simp] theorem queueKept_next (s t : State) : QueueKept s (.next t) ↔ t.pending = s.pending :=
  ⟨fun h => h t rfl, fun h _ e => by cases e; exact h⟩

@[simp] theorem queueKept_ite (s : State) (c : Prop) [Decidable c] (a b : Host.Outcome State Fault Refusal) :
    QueueKept s (if c then a else b) ↔ (c → QueueKept s a) ∧ (¬ c → QueueKept s b) := by split <;> simp [*]

/-! The next three name an operation by its values: the kernel, given the operation itself under a binder, would run it
and count down from 2^32. -/

theorem pending_of_eltailWrite {k : State → State} {w : Word} (hk : ∀ u, k u = u.eltailWrite w) (u : State) : (k u).pending = u.pending := by
  rw [hk, State.eltailWrite_pending]

theorem pending_of_cqheadWrite {k : State → State} {f : Nat} {w : Word} (hk : ∀ u, k u = u.cqheadWrite f w) (u : State) :
    (k u).pending = u.pending := by rw [hk, State.cqheadWrite_pending]

theorem pending_of_startClap {k : State → State} {src : Src} {n t : Nat} {l : State → Nat} (hk : ∀ u, k u = u.startClap src n t (l u)) (u : State) :
    (k u).pending = u.pending := by rw [hk, State.startClap_pending]

/-! One lemma for each command, by the file of its meaning. -/

/-! Machine/Roots.lean -/

@[simp] theorem execWakeDone_queueKept (n : Fin 4) (s : State) : QueueKept s (execWakeDone n s) := by simp [execWakeDone]
@[simp] theorem execBandSearchTrial_queueKept (n : Fin 4) (edges : Nat) (s : State) : QueueKept s (execBandSearchTrial n edges s) := by simp [execBandSearchTrial]
@[simp] theorem execFpdCycle_queueKept (n : Fin 4) (e : Option Int) (corr : Int) (s : State) : QueueKept s (execFpdCycle n e corr s) := by simp [execFpdCycle]
@[simp] theorem execLockDeclared_queueKept (n : Fin 4) (s : State) : QueueKept s (execLockDeclared n s) := by simp [execLockDeclared]
@[simp] theorem execLossOfLock_queueKept (n : Fin 4) (s : State) : QueueKept s (execLossOfLock n s) := by simp [execLossOfLock]
@[simp] theorem execAcquisitionTimeout_queueKept (n : Fin 4) (s : State) : QueueKept s (execAcquisitionTimeout n s) := by simp [execAcquisitionTimeout]
@[simp] theorem execHopRequest_queueKept (src : Source) (n : Fin 4) (w : Word) (s : State) : QueueKept s (execHopRequest src n w s) := by simp [execHopRequest]
@[simp] theorem execHopStart_queueKept (n : Fin 4) (s : State) : QueueKept s (execHopStart n s) := by
  unfold execHopStart
  (repeat' split) <;> simp

@[simp] theorem execHopSettled_queueKept (n : Fin 4) (s : State) : QueueKept s (execHopSettled n s) := by simp [execHopSettled]
@[simp] theorem execPhstep_queueKept (src : Source) (n : Fin 4) (w : Word) (s : State) : QueueKept s (execPhstep src n w s) := by simp [execPhstep]

/-! Machine/Channels.lean -/

@[simp] theorem execEventSchedule_queueKept (n : Fin 512) (s : State) : QueueKept s (execEventSchedule n s) := by simp [execEventSchedule]
@[simp] theorem execEventOutput_queueKept (n : Fin 512) (s : State) : QueueKept s (execEventOutput n s) := by
  unfold execEventOutput
  (repeat' split) <;> simp

@[simp] theorem execPark_queueKept (src : Source) (n : Fin 512) (w : Word) (s : State) : QueueKept s (execPark src n w s) := by simp [execPark]
@[simp] theorem execClrovr_queueKept (src : Source) (n : Fin 512) (w : Word) (s : State) : QueueKept s (execClrovr src n w s) := by simp [execClrovr]
@[simp] theorem execDeskewTargetWrite_queueKept (src : Source) (n : Fin 512) (w : Word) (s : State) : QueueKept s (execDeskewTargetWrite src n w s) := by simp [execDeskewTargetWrite]
@[simp] theorem execDeskewSlewStep_queueKept (n : Fin 512) (s : State) : QueueKept s (execDeskewSlewStep n s) := by simp [execDeskewSlewStep]
@[simp] theorem execPmGo_queueKept (src : Source) (n : Fin 512) (w : Word) (s : State) : QueueKept s (execPmGo src n w s) := by simp [execPmGo]
@[simp] theorem execCycloRead_queueKept (src : Source) (n : Fin 512) (s : State) : QueueKept s (execCycloRead src n s) := by simp [execCycloRead]
@[simp] theorem execDtcSlewStep_queueKept (n : Fin 512) (s : State) : QueueKept s (execDtcSlewStep n s) := by simp [execDtcSlewStep]

/-! Machine/Store.lean -/

@[simp] theorem execScrubRow_queueKept (b : Fin 8) (s : State) : QueueKept s (execScrubRow b s) := by simp [execScrubRow]
@[simp] theorem execWipeDone_queueKept (b : Fin 8) (s : State) : QueueKept s (execWipeDone b s) := by simp [execWipeDone]

/-! Machine/Groups.lean -/

@[simp] theorem execParkCycle_queueKept (n : Fin 512) (s : State) : QueueKept s (execParkCycle n s) := by simp [execParkCycle]
@[simp] theorem execLeavePark_queueKept (n : Fin 512) (s : State) : QueueKept s (execLeavePark n s) := by simp [execLeavePark]
@[simp] theorem execMembershipWrite_queueKept (src : Source) (n : Fin 512) (w : Word) (s : State) : QueueKept s (execMembershipWrite src n w s) := by simp [execMembershipWrite]
@[simp] theorem execCueEngineTake_queueKept (b : Fin 8) (s : State) : QueueKept s (execCueEngineTake b s) := by
  unfold execCueEngineTake
  (repeat' split) <;> simp

@[simp] theorem execCueCompletion_queueKept (b : Fin 8) (s : State) : QueueKept s (execCueCompletion b s) := by
  unfold execCueCompletion
  (repeat' split) <;> simp

/-! Machine/Banks.lean -/

@[simp] theorem execRootEnable_queueKept (src : Source) (n : Fin 4) (w : Word) (s : State) : QueueKept s (execRootEnable src n w s) := by simp [execRootEnable]
@[simp] theorem execRootDisable_queueKept (src : Source) (n : Fin 4) (w : Word) (s : State) : QueueKept s (execRootDisable src n w s) := by simp [execRootDisable]
@[simp] theorem execRelock_queueKept (src : Source) (n : Fin 4) (w : Word) (s : State) : QueueKept s (execRelock src n w s) := by simp [execRelock]
@[simp] theorem execPhclr_queueKept (src : Source) (n : Fin 4) (w : Word) (s : State) : QueueKept s (execPhclr src n w s) := by simp [execPhclr]
@[simp] theorem execRootSelect_queueKept (src : Source) (b : Fin 8) (w : Word) (s : State) : QueueKept s (execRootSelect src b w s) := by simp [execRootSelect]
@[simp] theorem execDllSearchDone_queueKept (b : Fin 8) (cw : BitVec 16) (s : State) : QueueKept s (execDllSearchDone b cw s) := by simp [execDllSearchDone]
@[simp] theorem execDllComparison_queueKept (b : Fin 8) (e : Int) (cw : BitVec 16) (s : State) : QueueKept s (execDllComparison b e cw s) := by simp [execDllComparison]
@[simp] theorem execDllAcquisitionTimeout_queueKept (b : Fin 8) (s : State) : QueueKept s (execDllAcquisitionTimeout b s) := by simp [execDllAcquisitionTimeout]
@[simp] theorem execTaintIntervalOpen_queueKept (b : Fin 8) (s : State) : QueueKept s (execTaintIntervalOpen b s) := by simp [execTaintIntervalOpen]
@[simp] theorem execTaintIntervalClose_queueKept (b : Fin 8) (s : State) : QueueKept s (execTaintIntervalClose b s) := by simp [execTaintIntervalClose]
@[simp] theorem execHaltNotice_queueKept (g : Fin 64) (b : Fin 8) (s : State) : QueueKept s (execHaltNotice g b s) := by
  unfold execHaltNotice
  (repeat' split) <;> simp

@[simp] theorem execHaltRelease_queueKept (src : Source) (g : Fin 64) (w : Word) (s : State) : QueueKept s (execHaltRelease src g w s) := by simp [execHaltRelease]
@[simp] theorem execWipe_queueKept (src : Source) (b : Fin 8) (w : Word) (s : State) : QueueKept s (execWipe src b w s) := by simp [execWipe]

/-! Machine/Profiles.lean -/

@[simp] theorem execSeqAbort_queueKept (src : Source) (n : Fin 4) (w : Word) (s : State) : QueueKept s (execSeqAbort src n w s) := by simp [execSeqAbort]
@[simp] theorem execResume_queueKept (src : Source) (n : Fin 4) (w : Word) (s : State) : QueueKept s (execResume src n w s) := by simp [execResume]
@[simp] theorem execDrop_queueKept (src : Source) (n : Fin 4) (w : Word) (s : State) : QueueKept s (execDrop src n w s) := by simp [execDrop]
@[simp] theorem execRampStart_queueKept (src : Source) (n : Fin 4) (w : Word) (s : State) : QueueKept s (execRampStart src n w s) := by simp [execRampStart]
@[simp] theorem execRampArm_queueKept (src : Source) (n : Fin 4) (w : Word) (s : State) : QueueKept s (execRampArm src n w s) := by simp [execRampArm]
@[simp] theorem execRampDwellEnd_queueKept (n : Fin 4) (s : State) : QueueKept s (execRampDwellEnd n s) := by
  unfold execRampDwellEnd
  (repeat' split) <;> simp

@[simp] theorem execSpreadPeriodBoundary_queueKept (n : Fin 4) (s : State) : QueueKept s (execSpreadPeriodBoundary n s) := by simp [execSpreadPeriodBoundary]

/-! Machine/Reels.lean -/

@[simp] theorem execTakeJoinWrite_queueKept (src : Source) (n : Fin 512) (w : Word) (s : State) : QueueKept s (execTakeJoinWrite src n w s) := by simp [execTakeJoinWrite]
@[simp] theorem execRtailWrite_queueKept (src : Source) (n : Fin 512) (w : Word) (s : State) : QueueKept s (execRtailWrite src n w s) := by simp [execRtailWrite]
@[simp] theorem execReelFlush_queueKept (src : Source) (n : Fin 512) (w : Word) (s : State) : QueueKept s (execReelFlush src n w s) := by simp [execReelFlush]

/-! Machine/Intervals.lean -/

@[simp] theorem execFifoloRead_queueKept (src : Source) (i : Fin 64) (s : State) : QueueKept s (execFifoloRead src i s) := by simp [execFifoloRead]
@[simp] theorem execFifohiRead_queueKept (src : Source) (i : Fin 64) (s : State) : QueueKept s (execFifohiRead src i s) := by simp [execFifohiRead]
@[simp] theorem execRegressionSolve_queueKept (s : State) : QueueKept s (execRegressionSolve s) := by
  unfold execRegressionSolve
  (repeat' split) <;> simp

@[simp] theorem execRegSelWrite_queueKept (src : Source) (w : Word) (s : State) : QueueKept s (execRegSelWrite src w s) := by simp [execRegSelWrite]

/-! Machine/Takes.lean -/

@[simp] theorem execCycleStart_queueKept (n : Fin 512) (s : State) : QueueKept s (execCycleStart n s) := by simp [execCycleStart]
@[simp] theorem execGroupStartTime_queueKept (g : Fin 64) (s : State) : QueueKept s (execGroupStartTime g s) := by
  unfold execGroupStartTime
  (repeat' split) <;> simp

@[simp] theorem execGroupDecision_queueKept (g : Fin 64) (s : State) : QueueKept s (execGroupDecision g s) := by
  unfold execGroupDecision
  (repeat' split) <;> simp

@[simp] theorem execTktCtrlArm_queueKept (src : Source) (t : Fin 256) (w : Word) (s : State) : QueueKept s (execTktCtrlArm src t w s) := by simp [execTktCtrlArm]
@[simp] theorem execTktCtrlAbort_queueKept (src : Source) (t : Fin 256) (w : Word) (s : State) : QueueKept s (execTktCtrlAbort src t w s) := by simp [execTktCtrlAbort]
@[simp] theorem execTakeArmResume_queueKept (t : Fin 256) (s : State) : QueueKept s (execTakeArmResume t s) := by
  unfold execTakeArmResume
  (repeat' split) <;> simp

@[simp] theorem execTakeStopReached_queueKept (t : Fin 256) (s : State) : QueueKept s (execTakeStopReached t s) := by simp [execTakeStopReached]
@[simp] theorem execTakeTimeout_queueKept (t : Fin 256) (s : State) : QueueKept s (execTakeTimeout t s) := by simp [execTakeTimeout]
@[simp] theorem execTakeDone_queueKept (t : Fin 256) (s : State) : QueueKept s (execTakeDone t s) := by simp [execTakeDone]

/-! Machine/Tsp.lean -/

@[simp] theorem execTspEnWrite_queueKept (src : Source) (p : Fin 8) (w : Word) (s : State) : QueueKept s (execTspEnWrite src p w s) := by simp [execTspEnWrite]
@[simp] theorem execRetrain_queueKept (src : Source) (p : Fin 8) (w : Word) (s : State) : QueueKept s (execRetrain src p w s) := by simp [execRetrain]
@[simp] theorem execTspDetachWrite_queueKept (src : Source) (p : Fin 8) (w : Word) (s : State) : QueueKept s (execTspDetachWrite src p w s) := by simp [execTspDetachWrite]
@[simp] theorem execInboundFrame_queueKept (p : Fin 8) (frame : BitVec 2048) (invalid : Bool) (s : State) :
    QueueKept s (execInboundFrame p frame invalid s) := by simp [execInboundFrame]

@[simp] theorem execSelectFrame_queueKept (p : Fin 8) (s : State) : QueueKept s (execSelectFrame p s) := by
  unfold execSelectFrame
  (repeat' split) <;> simp

@[simp] theorem execOutboundFrame_queueKept (p : Fin 8) (s : State) : QueueKept s (execOutboundFrame p s) := by simp [execOutboundFrame]
@[simp] theorem execHello_queueKept (p : Fin 8) (s : State) : QueueKept s (execHello p s) := by
  unfold execHello
  (repeat' split) <;> simp

@[simp] theorem execClaim_queueKept (p : Fin 8) (s : State) : QueueKept s (execClaim p s) := by
  unfold execClaim
  (repeat' split) <;> simp

@[simp] theorem execRelease_queueKept (p : Fin 8) (s : State) : QueueKept s (execRelease p s) := by
  unfold execRelease
  (repeat' split) <;> simp

@[simp] theorem execDetach_queueKept (p : Fin 8) (s : State) : QueueKept s (execDetach p s) := by
  unfold execDetach
  (repeat' split) <;> simp

@[simp] theorem execTspNop_queueKept (p : Fin 8) (s : State) : QueueKept s (execTspNop p s) := by
  unfold execTspNop
  (repeat' split) <;> simp

@[simp] theorem execTspCue_queueKept (p : Fin 8) (s : State) : QueueKept s (execTspCue p s) := by simp [execTspCue]
@[simp] theorem execTspPcue_queueKept (p : Fin 8) (s : State) : QueueKept s (execTspPcue p s) := by simp [execTspPcue]
@[simp] theorem execTspCommit_queueKept (p : Fin 8) (s : State) : QueueKept s (execTspCommit p s) := by simp [execTspCommit]
@[simp] theorem execTspCancel_queueKept (p : Fin 8) (s : State) : QueueKept s (execTspCancel p s) := by simp [execTspCancel]
@[simp] theorem execTspStart_queueKept (p : Fin 8) (s : State) : QueueKept s (execTspStart p s) := by simp [execTspStart]
@[simp] theorem execTspStop_queueKept (p : Fin 8) (s : State) : QueueKept s (execTspStop p s) := by simp [execTspStop]
@[simp] theorem execTspHop_queueKept (p : Fin 8) (s : State) : QueueKept s (execTspHop p s) := by simp [execTspHop]
@[simp] theorem execTspRamp_queueKept (p : Fin 8) (s : State) : QueueKept s (execTspRamp p s) := by simp [execTspRamp]
@[simp] theorem execTspTakeArm_queueKept (p : Fin 8) (s : State) : QueueKept s (execTspTakeArm p s) := by
  unfold execTspTakeArm
  (repeat' split) <;> simp

@[simp] theorem execTspTakeStart_queueKept (p : Fin 8) (s : State) : QueueKept s (execTspTakeStart p s) := by
  unfold execTspTakeStart
  (repeat' split) <;> simp

/-! Machine/Links.lean -/

@[simp] theorem execReceiverDetected_queueKept (p : Fin 12) (s : State) : QueueKept s (execReceiverDetected p s) := by simp [execReceiverDetected]
@[simp] theorem execDetectTimeout_queueKept (p : Fin 12) (s : State) : QueueKept s (execDetectTimeout p s) := by simp [execDetectTimeout]
@[simp] theorem execEqualisationDone_queueKept (p : Fin 12) (s : State) : QueueKept s (execEqualisationDone p s) := by simp [execEqualisationDone]
@[simp] theorem execEqualiseTimeout_queueKept (p : Fin 12) (s : State) : QueueKept s (execEqualiseTimeout p s) := by simp [execEqualiseTimeout]
@[simp] theorem execAlignDone_queueKept (p : Fin 12) (s : State) : QueueKept s (execAlignDone p s) := by simp [execAlignDone]
@[simp] theorem execAlignTimeout_queueKept (p : Fin 12) (s : State) : QueueKept s (execAlignTimeout p s) := by simp [execAlignTimeout]
@[simp] theorem execBlockLockLost_queueKept (p : Fin 12) (lane : Fin 4) (s : State) : QueueKept s (execBlockLockLost p lane s) := by simp [execBlockLockLost]
@[simp] theorem execRecoverTimeout_queueKept (p : Fin 12) (s : State) : QueueKept s (execRecoverTimeout p s) := by simp [execRecoverTimeout]
@[simp] theorem execLinkFrameReceived_queueKept (p : Fin 4) (frame : BitVec 2048) (invalid : Bool) (items : List LinkItem) (s : State) :
    QueueKept s (execLinkFrameReceived p frame invalid items s) := by simp [execLinkFrameReceived]

@[simp] theorem execResendTimeout_queueKept (p : Fin 4) (s : State) : QueueKept s (execResendTimeout p s) := by simp [execResendTimeout]
@[simp] theorem execPrlEnWrite_queueKept (src : Source) (p : Fin 4) (w : Word) (s : State) : QueueKept s (execPrlEnWrite src p w s) := by simp [execPrlEnWrite]
@[simp] theorem execPrlRetrain_queueKept (src : Source) (p : Fin 4) (w : Word) (s : State) : QueueKept s (execPrlRetrain src p w s) := by simp [execPrlRetrain]
@[simp] theorem execProbe_queueKept (src : Source) (p : Fin 4) (w : Word) (s : State) : QueueKept s (execProbe src p w s) := by simp [execProbe]
@[simp] theorem execProbeInterval_queueKept (p : Fin 4) (tx : Nat) (s : State) : QueueKept s (execProbeInterval p tx s) := by
  unfold execProbeInterval
  (repeat' split) <;> simp

@[simp] theorem execProbeBlockReceived_queueKept (p : Fin 4) (index : Nat) (reply : Bool) (stamp tx : Nat) (s : State) :
    QueueKept s (execProbeBlockReceived p index reply stamp tx s) := by simp [execProbeBlockReceived]

@[simp] theorem execInvalidBlock_queueKept (p : Fin 12) (lane : Fin 4) (s : State) : QueueKept s (execInvalidBlock p lane s) := by simp [execInvalidBlock]

/-! Machine/Capture.lean -/

@[simp] theorem execTaintStageRelease_queueKept (b : Fin 8) (s : State) : QueueKept s (execTaintStageRelease b s) := by
  unfold execTaintStageRelease
  (repeat' split) <;> simp

@[simp] theorem execEventEdge_queueKept (n : Fin 512) (input : Fin 3) (rising : Bool) (ref : Nat) (code : BitVec 14) (s : State) :
    QueueKept s (execEventEdge n input rising ref code s) := by simp [execEventEdge]

@[simp] theorem execActivityWindowEnd_queueKept (n : Fin 512) (s : State) : QueueKept s (execActivityWindowEnd n s) := by simp [execActivityWindowEnd]
@[simp] theorem execQuietTimeout_queueKept (n : Fin 512) (s : State) : QueueKept s (execQuietTimeout n s) := by simp [execQuietTimeout]
@[simp] theorem execPrerollHalfDone_queueKept (n : Fin 512) (c1 c2 : Vector (BitVec 14) 8) (s : State) : QueueKept s (execPrerollHalfDone n c1 c2 s) := by
  unfold execPrerollHalfDone
  (repeat' split) <;> simp

@[simp] theorem execReslateTimer_queueKept (n : Fin 512) (s : State) : QueueKept s (execReslateTimer n s) := by
  unfold execReslateTimer
  (repeat' split) <;> simp

/-! Machine/Rings.lean -/

@[simp] theorem execDrEnWrite_queueKept (src : Source) (r : Fin 64) (w : Word) (s : State) : QueueKept s (execDrEnWrite src r w s) := by simp [execDrEnWrite]
@[simp] theorem execDtailWrite_queueKept (src : Source) (r : Fin 64) (w : Word) (s : State) : QueueKept s (execDtailWrite src r w s) := by simp [execDtailWrite]
@[simp] theorem execCtailWrite_queueKept (src : Source) (r : Fin 64) (w : Word) (s : State) : QueueKept s (execCtailWrite src r w s) := by simp [execCtailWrite]
@[simp] theorem execBufferOpen_queueKept (r : Fin 64) (addr len cookie : Nat) (s : State) : QueueKept s (execBufferOpen r addr len cookie s) := by
  unfold execBufferOpen
  (repeat' split) <;> simp

@[simp] theorem execDrainBurst_queueKept (r : Fin 64) (s : State) : QueueKept s (execDrainBurst r s) := by
  unfold execDrainBurst
  (repeat' split) <;> simp

@[simp] theorem execBufferFlushTimeout_queueKept (r : Fin 64) (n : Fin 512) (s : State) : QueueKept s (execBufferFlushTimeout r n s) := by
  unfold execBufferFlushTimeout
  (repeat' split) <;> simp

@[simp] theorem execDrainEventTimeout_queueKept (r : Fin 64) (s : State) : QueueKept s (execDrainEventTimeout r s) := by simp [execDrainEventTimeout]

/-! Machine/Mailbox.lean -/

@[simp] theorem execFlowCtrlWrite_queueKept (src : Source) (f : Fin 64) (w : Word) (s : State) : QueueKept s (execFlowCtrlWrite src f w s) := by simp [execFlowCtrlWrite]
@[simp] theorem execSchedulingCycle_queueKept (entry : BitVec 512) (asks : List (Fin 4)) (s : State) : QueueKept s (execSchedulingCycle entry asks s) := by simp [execSchedulingCycle]
@[simp] theorem execCompletionWrite_queueKept (f : Fin 64) (s : State) : QueueKept s (execCompletionWrite f s) := by
  unfold execCompletionWrite
  (repeat' split) <;> simp

@[simp] theorem execFlowEventTimeout_queueKept (f : Fin 64) (s : State) : QueueKept s (execFlowEventTimeout f s) := by simp [execFlowEventTimeout]
@[simp] theorem execEltailWrite_queueKept (src : Source) (w : Word) (s : State) : QueueKept s (execEltailWrite src w s) :=
  (queueKept_next _ _).mpr (State.rowWrite_pending s src _ w _ (pending_of_eltailWrite fun _ => rfl))

@[simp] theorem execErrorLogEventTimeout_queueKept (s : State) : QueueKept s (execErrorLogEventTimeout s) := by simp [execErrorLogEventTimeout]
@[simp] theorem execNop_queueKept (f : Fin 64) (c : Nat) (s : State) : QueueKept s (execNop f c s) := by simp [execNop]
@[simp] theorem execDevInfo_queueKept (f : Fin 64) (c : Nat) (s : State) : QueueKept s (execDevInfo f c s) := by simp [execDevInfo]
@[simp] theorem execCtxWrite_queueKept (f : Fin 64) (c : Nat) (buf : List Byte) (s : State) : QueueKept s (execCtxWrite f c buf s) := by
  unfold execCtxWrite
  (repeat' split) <;> simp

@[simp] theorem execCtxRead_queueKept (f : Fin 64) (c : Nat) (s : State) : QueueKept s (execCtxRead f c s) := by simp [execCtxRead]
@[simp] theorem execGrpMembers_queueKept (f : Fin 64) (c : Nat) (s : State) : QueueKept s (execGrpMembers f c s) := by simp [execGrpMembers]
@[simp] theorem execCue_queueKept (f : Fin 64) (c : Nat) (s : State) : QueueKept s (execCue f c s) := by simp [execCue]
@[simp] theorem execPcue_queueKept (f : Fin 64) (c : Nat) (s : State) : QueueKept s (execPcue f c s) := by simp [execPcue]
@[simp] theorem execCommit_queueKept (f : Fin 64) (c : Nat) (s : State) : QueueKept s (execCommit f c s) := by simp [execCommit]
@[simp] theorem execCancel_queueKept (f : Fin 64) (c : Nat) (s : State) : QueueKept s (execCancel f c s) := by simp [execCancel]
@[simp] theorem execStart_queueKept (f : Fin 64) (c : Nat) (s : State) : QueueKept s (execStart f c s) := by simp [execStart]
@[simp] theorem execStop_queueKept (f : Fin 64) (c : Nat) (s : State) : QueueKept s (execStop f c s) := by simp [execStop]
@[simp] theorem execHop_queueKept (f : Fin 64) (c : Nat) (s : State) : QueueKept s (execHop f c s) := by simp [execHop]
@[simp] theorem execRamp_queueKept (f : Fin 64) (c : Nat) (s : State) : QueueKept s (execRamp f c s) := by simp [execRamp]
@[simp] theorem execTakeArm_queueKept (f : Fin 64) (c : Nat) (s : State) : QueueKept s (execTakeArm f c s) := by simp [execTakeArm]
@[simp] theorem execTakeAbort_queueKept (f : Fin 64) (c : Nat) (s : State) : QueueKept s (execTakeAbort f c s) := by simp [execTakeAbort]
@[simp] theorem execTakeRead_queueKept (f : Fin 64) (c : Nat) (s : State) : QueueKept s (execTakeRead f c s) := by simp [execTakeRead]
@[simp] theorem execIntvRead_queueKept (f : Fin 64) (c : Nat) (s : State) : QueueKept s (execIntvRead f c s) := by simp [execIntvRead]
@[simp] theorem execRegrRead_queueKept (f : Fin 64) (c : Nat) (s : State) : QueueKept s (execRegrRead f c s) := by simp [execRegrRead]
@[simp] theorem execRegrSums_queueKept (f : Fin 64) (c : Nat) (s : State) : QueueKept s (execRegrSums f c s) := by simp [execRegrSums]
@[simp] theorem execDmaErrorCompletion_queueKept (f : Fin 64) (c : Nat) (got : List Byte) (s : State) : QueueKept s (execDmaErrorCompletion f c got s) := by
  unfold execDmaErrorCompletion
  (repeat' split) <;> simp

@[simp] theorem execDmaWriteTimeout_queueKept (f : Fin 64) (c : Nat) (s : State) : QueueKept s (execDmaWriteTimeout f c s) := by
  unfold execDmaWriteTimeout
  (repeat' split) <;> simp

/-! Machine/Board.lean -/

@[simp] theorem execTspClap_queueKept (p : Fin 8) (s : State) : QueueKept s (execTspClap p s) :=
  (queueKept_next _ _).mpr (State.tspRoot_pending s p _ _ fun _ _ => pending_of_startClap fun _ => rfl)

@[simp] theorem execIdent_queueKept (p : Fin 4) (s : State) : QueueKept s (execIdent p s) := by
  simp only [execIdent, queueKept_next]
  refine State.onItem_pending _ _ _ fun _ i h hi u => ?_
  split at hi <;> cases hi; simp

@[simp] theorem execTopo_queueKept (p : Fin 5) (s : State) : QueueKept s (execTopo p s) := by
  simp only [execTopo, queueKept_next]
  refine State.onItem_pending _ _ _ fun _ i h hi u => ?_
  split at hi <;> cases hi; simp

@[simp] theorem execProbedata_queueKept (p : Fin 4) (s : State) : QueueKept s (execProbedata p s) := by
  simp only [execProbedata, queueKept_next]
  refine State.onItem_pending _ _ _ fun _ i h hi u => ?_
  split at hi <;> cases hi; dsimp only; split <;> simp

@[simp] theorem execLinkClap_queueKept (p : Fin 5) (s : State) : QueueKept s (execLinkClap p s) := by
  simp only [execLinkClap, queueKept_next]
  refine State.onItem_pending _ _ _ fun _ i h hi u => ?_
  split at hi <;> cases hi; simp

@[simp] theorem execClapack_queueKept (p : Fin 5) (s : State) : QueueKept s (execClapack p s) := by
  simp only [execClapack, queueKept_next]
  refine State.onItem_pending _ _ _ fun _ i h hi u => ?_
  split at hi <;> cases hi; simp

@[simp] theorem execXhopprep_queueKept (p : Fin 5) (s : State) : QueueKept s (execXhopprep p s) := by
  simp only [execXhopprep, queueKept_next]
  refine State.onItem_pending _ _ _ fun _ i h hi u => ?_
  split at hi <;> cases hi; simp

@[simp] theorem execXhopgo_queueKept (p : Fin 5) (s : State) : QueueKept s (execXhopgo p s) := by
  simp only [execXhopgo, queueKept_next]
  refine State.onItem_pending _ _ _ fun _ i h hi u => ?_
  split at hi <;> cases hi; simp

@[simp] theorem execXhopack_queueKept (p : Fin 5) (s : State) : QueueKept s (execXhopack p s) := by
  simp only [execXhopack, queueKept_next]
  refine State.onItem_pending _ _ _ fun _ i h hi u => ?_
  split at hi <;> cases hi; simp

@[simp] theorem execXtakearm_queueKept (p : Fin 5) (s : State) : QueueKept s (execXtakearm p s) := by
  simp only [execXtakearm, queueKept_next]
  refine State.onItem_pending _ _ _ fun _ i h hi u => ?_
  split at hi <;> cases hi; simp

@[simp] theorem execXtakedone_queueKept (p : Fin 5) (s : State) : QueueKept s (execXtakedone p s) := by
  simp only [execXtakedone, queueKept_next]
  refine State.onItem_pending _ _ _ fun _ i h hi u => ?_
  split at hi <;> cases hi; dsimp only; split <;> simp

@[simp] theorem execAlignvoid_queueKept (p : Fin 5) (s : State) : QueueKept s (execAlignvoid p s) := by
  simp only [execAlignvoid, queueKept_next]
  refine State.onItem_pending _ _ _ fun _ i h hi u => ?_
  split at hi <;> cases hi; simp

@[simp] theorem execFirmwareMessage_queueKept (p : Fin 5) (s : State) : QueueKept s (execFirmwareMessage p s) := by
  simp only [execFirmwareMessage, queueKept_next]
  refine State.onItem_pending _ _ _ fun _ i h hi u => ?_
  split at hi <;> cases hi; simp

@[simp] theorem execTbadjWrite_queueKept (src : Source) (n : Fin 4) (w : Word) (s : State) : QueueKept s (execTbadjWrite src n w s) := by simp [execTbadjWrite]
@[simp] theorem execAlignTracking_queueKept (n : Fin 4) (s : State) : QueueKept s (execAlignTracking n s) := by simp [execAlignTracking]
@[simp] theorem execClapperFire_queueKept (n : Fin 4) (s : State) : QueueKept s (execClapperFire n s) := by
  unfold execClapperFire
  (repeat' split) <;> simp

@[simp] theorem execClapCompletionTimeout_queueKept (tag : Nat) (s : State) : QueueKept s (execClapCompletionTimeout tag s) := by
  unfold execClapCompletionTimeout
  (repeat' split) <;> simp

@[simp] theorem execBoardEnum_queueKept (f : Fin 64) (c : Nat) (s : State) : QueueKept s (execBoardEnum f c s) := by simp [execBoardEnum]
@[simp] theorem execBoardAlign_queueKept (f : Fin 64) (c : Nat) (s : State) : QueueKept s (execBoardAlign f c s) := by simp [execBoardAlign]
@[simp] theorem execAlignSet_queueKept (f : Fin 64) (c : Nat) (s : State) : QueueKept s (execAlignSet f c s) := by simp [execAlignSet]
@[simp] theorem execClap_queueKept (f : Fin 64) (c : Nat) (s : State) : QueueKept s (execClap f c s) := by simp [execClap]
@[simp] theorem execXhop_queueKept (f : Fin 64) (c : Nat) (s : State) : QueueKept s (execXhop f c s) := by simp [execXhop]
@[simp] theorem execXtake_queueKept (f : Fin 64) (c : Nat) (s : State) : QueueKept s (execXtake f c s) := by simp [execXtake]

/-! Machine/Clocks.lean -/

@[simp] theorem execXoGap_queueKept (s : State) : QueueKept s (execXoGap s) := by simp [execXoGap]
@[simp] theorem execXoWindowEnd_queueKept (count : Nat) (s : State) : QueueKept s (execXoWindowEnd count s) := by simp [execXoWindowEnd]
@[simp] theorem execXoStable_queueKept (s : State) : QueueKept s (execXoStable s) := by simp [execXoStable]
@[simp] theorem execCpllAcquisitionTimeout_queueKept (s : State) : QueueKept s (execCpllAcquisitionTimeout s) := by simp [execCpllAcquisitionTimeout]
@[simp] theorem execCpllLoss_queueKept (s : State) : QueueKept s (execCpllLoss s) := by simp [execCpllLoss]
@[simp] theorem execIrcFail_queueKept (s : State) : QueueKept s (execIrcFail s) := by simp [execIrcFail]
@[simp] theorem execDomainCfgWrite_queueKept (src : Source) (d : Fin 5) (w : Word) (s : State) : QueueKept s (execDomainCfgWrite src d w s) := by simp [execDomainCfgWrite]

/-! Machine/Tracker.lean -/

@[simp] theorem execCalrefAbsent_queueKept (s : State) : QueueKept s (execCalrefAbsent s) := by simp [execCalrefAbsent]
@[simp] theorem execCalrefWindowEnd_queueKept (count : Nat) (s : State) : QueueKept s (execCalrefWindowEnd count s) := by simp [execCalrefWindowEnd]
@[simp] theorem execCdrvWrite_queueKept (src : Source) (n : Fin 512) (w : Word) (s : State) : QueueKept s (execCdrvWrite src n w s) := by simp [execCdrvWrite]
@[simp] theorem execCdrvStart_queueKept (n : Fin 512) (s : State) : QueueKept s (execCdrvStart n s) := by simp [execCdrvStart]
@[simp] theorem execFtrimSlewStep_queueKept (n : Fin 4) (s : State) : QueueKept s (execFtrimSlewStep n s) := by
  unfold execFtrimSlewStep
  (repeat' split) <;> simp

@[simp] theorem execTrackerUpdate_queueKept (b : Fin 8) (t : BitVec 16) (overlap : Bool) (mG mO : Int) (s : State) :
    QueueKept s (execTrackerUpdate b t overlap mG mO s) := by simp [execTrackerUpdate]

@[simp] theorem execDriftSet_queueKept (f : Fin 64) (c : Nat) (s : State) : QueueKept s (execDriftSet f c s) := by simp [execDriftSet]
@[simp] theorem execCalrefEdgesReturn_queueKept (s : State) : QueueKept s (execCalrefEdgesReturn s) := by simp [execCalrefEdgesReturn]

/-! Machine/Ledger.lean -/

@[simp] theorem execLedgerExport_queueKept (f : Fin 64) (c : Nat) (s : State) : QueueKept s (execLedgerExport f c s) := by simp [execLedgerExport]
@[simp] theorem execLedgerImport_queueKept (f : Fin 64) (c : Nat) (s : State) : QueueKept s (execLedgerImport f c s) := by simp [execLedgerImport]
@[simp] theorem execLedgerSave_queueKept (f : Fin 64) (c : Nat) (body seal_ : Bool) (s : State) : QueueKept s (execLedgerSave f c body seal_ s) := by simp [execLedgerSave]

/-! Machine/PmBus.lean -/

@[simp] theorem execPmbEnable_queueKept (src : Source) (w : Word) (s : State) : QueueKept s (execPmbEnable src w s) := by simp [execPmbEnable]
@[simp] theorem execPmbPoll_queueKept (s : State) : QueueKept s (execPmbPoll s) := by simp [execPmbPoll]
@[simp] theorem execSmbalert_queueKept (low : Bool) (s : State) : QueueKept s (execSmbalert low s) := by simp [execSmbalert]
@[simp] theorem execPmbusTransactionDone_queueKept (fail : Bool) (v : BitVec 16) (s : State) : QueueKept s (execPmbusTransactionDone fail v s) := by
  unfold execPmbusTransactionDone
  (repeat' split) <;> simp

@[simp] theorem execAvsUpdate_queueKept (m : BitVec 6) (s : State) : QueueKept s (execAvsUpdate m s) := by simp [execAvsUpdate]
@[simp] theorem execUrgentRaise_queueKept (m : BitVec 6) (s : State) : QueueKept s (execUrgentRaise m s) := by simp [execUrgentRaise]
@[simp] theorem execAvsSet_queueKept (f : Fin 64) (c : Nat) (s : State) : QueueKept s (execAvsSet f c s) := by simp [execAvsSet]
@[simp] theorem execPmbRaw_queueKept (f : Fin 64) (c : Nat) (s : State) : QueueKept s (execPmbRaw f c s) := by simp [execPmbRaw]

/-! Machine/Power.lean -/

@[simp] theorem execCpllLock_queueKept (s : State) : QueueKept s (execCpllLock s) := by simp [execCpllLock]
@[simp] theorem execDividerStep_queueKept (d : Fin 5) (s : State) : QueueKept s (execDividerStep d s) := by simp [execDividerStep]
@[simp] theorem execForcedSwitch_queueKept (d : Fin 6) (s : State) : QueueKept s (execForcedSwitch d s) := by simp [execForcedSwitch]
@[simp] theorem execPdRequest_queueKept (src : Source) (j : Fin 84) (w : Word) (s : State) : QueueKept s (execPdRequest src j w s) := by simp [execPdRequest]
@[simp] theorem execPdSequenceDone_queueKept (j : Fin 84) (s : State) : QueueKept s (execPdSequenceDone j s) := by
  unfold execPdSequenceDone
  (repeat' split) <;> simp

@[simp] theorem execStateChangeDone_queueKept (s : State) : QueueKept s (execStateChangeDone s) := by simp [execStateChangeDone]
@[simp] theorem execAonTimer_queueKept (s : State) : QueueKept s (execAonTimer s) := by simp [execAonTimer]
@[simp] theorem execPwrState_queueKept (f : Fin 64) (c : Nat) (s : State) : QueueKept s (execPwrState f c s) := by simp [execPwrState]

/-! Machine/Boot.lean -/

@[simp] theorem execSupplyFall_queueKept (s : State) : QueueKept s (execSupplyFall s) := by simp [execSupplyFall]
@[simp] theorem execPorRelease_queueKept (s : State) : QueueKept s (execPorRelease s) := by simp [execPorRelease]
@[simp] theorem execPerstAssert_queueKept (s : State) : QueueKept s (execPerstAssert s) := by simp [execPerstAssert]
@[simp] theorem execResetNAssert_queueKept (s : State) : QueueKept s (execResetNAssert s) := by simp [execResetNAssert]
@[simp] theorem execWatchdogExpiry_queueKept (s : State) : QueueKept s (execWatchdogExpiry s) := by simp [execWatchdogExpiry]
@[simp] theorem execKick_queueKept (src : Source) (w : Word) (s : State) : QueueKept s (execKick src w s) := by simp [execKick]
@[simp] theorem execSoftwareReset_queueKept (src : Source) (w : Word) (s : State) : QueueKept s (execSoftwareReset src w s) := by simp [execSoftwareReset]
@[simp] theorem execFuseReadDone_queueKept (s : State) : QueueKept s (execFuseReadDone s) := by simp [execFuseReadDone]
@[simp] theorem execResetWipeDone_queueKept (s : State) : QueueKept s (execResetWipeDone s) := by simp [execResetWipeDone]
@[simp] theorem execBootImageLoadDone_queueKept (a b : BootImage) (s : State) : QueueKept s (execBootImageLoadDone a b s) := by
  unfold execBootImageLoadDone
  (repeat' split) <;> simp

@[simp] theorem execFlashNoresp_queueKept (s : State) : QueueKept s (execFlashNoresp s) := by simp [execFlashNoresp]
@[simp] theorem execFirmwareReady_queueKept (s : State) : QueueKept s (execFirmwareReady s) := by simp [execFirmwareReady]
@[simp] theorem execPushlenWrite_queueKept (src : Source) (w : Word) (s : State) : QueueKept s (execPushlenWrite src w s) := by simp [execPushlenWrite]
@[simp] theorem execThermtrip_queueKept (s : State) : QueueKept s (execThermtrip s) := by simp [execThermtrip]
@[simp] theorem execResetRelease_queueKept (perst : Bool) (s : State) : QueueKept s (execResetRelease perst s) := by simp [execResetRelease]

/-! Machine/Cal.lean -/

@[simp] theorem execCalPassDone_queueKept (tainted active : Bool) (vals : List (List Int)) (refs : List (Nat × Int)) (s : State) :
    QueueKept s (execCalPassDone tainted active vals refs s) := by
  unfold execCalPassDone
  (repeat' split) <;> simp

@[simp] theorem execCalRun_queueKept (f : Fin 64) (c : Nat) (buf : List Byte) (s : State) : QueueKept s (execCalRun f c buf s) := by simp [execCalRun]
@[simp] theorem execCalNext_queueKept (f : Fin 64) (c : Nat) (s : State) : QueueKept s (execCalNext f c s) := by simp [execCalNext]
@[simp] theorem execCalSubmit_queueKept (f : Fin 64) (c : Nat) (buf : List Byte) (s : State) : QueueKept s (execCalSubmit f c buf s) := by simp [execCalSubmit]

/-! Machine/Coast.lean -/

@[simp] theorem execReferenceLoss_queueKept (n : Fin 4) (s : State) : QueueKept s (execReferenceLoss n s) := by simp [execReferenceLoss]
@[simp] theorem execReferenceEdgesReturn_queueKept (n : Fin 4) (s : State) : QueueKept s (execReferenceEdgesReturn n s) := by simp [execReferenceEdgesReturn]
@[simp] theorem execFreqWindowEnd_queueKept (n : Fin 4) (count : Nat) (s : State) : QueueKept s (execFreqWindowEnd n count s) := by simp [execFreqWindowEnd]
@[simp] theorem execMeasure_queueKept (n : Fin 4) (theta : Int) (s : State) : QueueKept s (execMeasure n theta s) := by simp [execMeasure]
@[simp] theorem execWorkoff_queueKept (src : Source) (n : Fin 4) (w : Word) (s : State) : QueueKept s (execWorkoff src n w s) := by simp [execWorkoff]
@[simp] theorem execWorkoffStep_queueKept (n : Fin 4) (s : State) : QueueKept s (execWorkoffStep n s) := by simp [execWorkoffStep]

/-! Machine/Debug.lean -/

@[simp] theorem execChal_queueKept (src : Source) (w : Word) (ok : Bool) (s : State) : QueueKept s (execChal src w ok s) := by simp [execChal]
@[simp] theorem execCheck_queueKept (src : Source) (w : Word) (ok : Bool) (s : State) : QueueKept s (execCheck src w ok s) := by simp [execCheck]
@[simp] theorem execSeal_queueKept (src : Source) (w : Word) (ok : Bool) (s : State) : QueueKept s (execSeal src w ok s) := by simp [execSeal]
@[simp] theorem execNonceExpiry_queueKept (s : State) : QueueKept s (execNonceExpiry s) := by simp [execNonceExpiry]
@[simp] theorem execDbgChallenge_queueKept (f : Fin 64) (c : Nat) (s : State) : QueueKept s (execDbgChallenge f c s) := by simp [execDbgChallenge]
@[simp] theorem execDbgRespond_queueKept (f : Fin 64) (c : Nat) (ok : Bool) (s : State) : QueueKept s (execDbgRespond f c ok s) := by simp [execDbgRespond]
@[simp] theorem execDbgSeal_queueKept (f : Fin 64) (c : Nat) (s : State) : QueueKept s (execDbgSeal f c s) := by simp [execDbgSeal]
@[simp] theorem execLcAdvance_queueKept (f : Fin 64) (c : Nat) (supply : Bool) (bits : BitVec 8) (s : State) : QueueKept s (execLcAdvance f c supply bits s) := by simp [execLcAdvance]
@[simp] theorem execSvnCommit_queueKept (f : Fin 64) (c : Nat) (supply : Bool) (bits : BitVec 64) (s : State) : QueueKept s (execSvnCommit f c supply bits s) := by simp [execSvnCommit]
@[simp] theorem execKeyRevoke_queueKept (f : Fin 64) (c : Nat) (supply : Bool) (bits : BitVec 4) (s : State) : QueueKept s (execKeyRevoke f c supply bits s) := by simp [execKeyRevoke]

/-! Machine/Spt.lean -/

@[simp] theorem execGateTimeout_queueKept (block : Fin 89) (addr : BitVec 32) (s : State) : QueueKept s (execGateTimeout block addr s) := by simp [execGateTimeout]
@[simp] theorem execMcmd_queueKept (src : Source) (p : Fin 16) (w : Word) (ins : List Word) (s : State) : QueueKept s (execMcmd src p w ins s) := by simp [execMcmd]
@[simp] theorem execTxdataWrite_queueKept (src : Source) (p : Fin 16) (w : Word) (s : State) : QueueKept s (execTxdataWrite src p w s) := by simp [execTxdataWrite]
@[simp] theorem execRxdataRead_queueKept (src : Source) (p : Fin 16) (s : State) : QueueKept s (execRxdataRead src p s) := by simp [execRxdataRead]
@[simp] theorem execStallResume_queueKept (p : Fin 16) (ins : List Word) (s : State) : QueueKept s (execStallResume p ins s) := by simp [execStallResume]
@[simp] theorem execMasterFrameDone_queueKept (p : Fin 16) (s : State) : QueueKept s (execMasterFrameDone p s) := by simp [execMasterFrameDone]
@[simp] theorem execMasterFault_queueKept (p : Fin 16) (s : State) : QueueKept s (execMasterFault p s) := by simp [execMasterFault]
@[simp] theorem execSlaveSelect_queueKept (p : Fin 16) (s : State) : QueueKept s (execSlaveSelect p s) := by simp [execSlaveSelect]
@[simp] theorem execSlaveHeader_queueKept (p : Fin 16) (h : BitVec 8) (s : State) : QueueKept s (execSlaveHeader p h s) := by simp [execSlaveHeader]
@[simp] theorem execSlaveDataWord_queueKept (p : Fin 16) (w : Word) (edges : Nat) (s : State) : QueueKept s (execSlaveDataWord p w edges s) := by
  unfold execSlaveDataWord
  (repeat' split) <;> simp

@[simp] theorem execSlaveDeselect_queueKept (p : Fin 16) (slot part : Bool) (s : State) : QueueKept s (execSlaveDeselect p slot part s) := by simp [execSlaveDeselect]
@[simp] theorem execXipRead_queueKept (off : BitVec 28) (s : State) : QueueKept s (execXipRead off s) := by simp [execXipRead]
@[simp] theorem execXipLineFetch_queueKept (bytes : List Byte) (s : State) : QueueKept s (execXipLineFetch bytes s) := by simp [execXipLineFetch]

/-! Machine/Endpoint.lean -/

@[simp] theorem execContextWindowWrite_queueKept (off : Nat) (bytes : List Byte) (s : State) : QueueKept s (execContextWindowWrite off bytes s) := by simp [execContextWindowWrite]
@[simp] theorem execContextWindowRead_queueKept (off len : Nat) (s : State) : QueueKept s (execContextWindowRead off len s) := by simp [execContextWindowRead]
@[simp] theorem execEndpointReset_queueKept (s : State) : QueueKept s (execEndpointReset s) := by simp [execEndpointReset]
@[simp] theorem execSqtailWrite_queueKept (f : Fin 64) (w : Word) (s : State) : QueueKept s (execSqtailWrite f w s) := by simp [execSqtailWrite]
@[simp] theorem execCqheadWrite_queueKept (f : Fin 64) (w : Word) (s : State) : QueueKept s (execCqheadWrite f w s) :=
  (queueKept_next _ _).mpr (State.doorbell_pending s f 4 _ (pending_of_cqheadWrite fun _ => rfl))

@[simp] theorem execFlowCancel_queueKept (f : Fin 64) (w : Word) (s : State) : QueueKept s (execFlowCancel f w s) := by simp [execFlowCancel]
@[simp] theorem execConfigurationWrite_queueKept (bme d3hot msixEn fmask : Bool) (s : State) :
    QueueKept s (execConfigurationWrite bme d3hot msixEn fmask s) := by simp [execConfigurationWrite]

@[simp] theorem execStagingWindowWrite_queueKept (off : Nat) (bytes : List Byte) (s : State) : QueueKept s (execStagingWindowWrite off bytes s) := by simp [execStagingWindowWrite]

/-! Machine/Sequencer.lean -/

@[simp] theorem execSequencerStepCommit_queueKept (n : Fin 4) (invalid : Bool) (words : List (Option Nat)) (s : State) :
    QueueKept s (execSequencerStepCommit n invalid words s) := by simp [execSequencerStepCommit]

/-! Machine/RegisterWrite.lean -/

@[simp] theorem execRegisterWrite_queueKept (src : Source) (a : Nat) (ws : List (Word × BitVec 4)) (s : State) :
    QueueKept s (execRegisterWrite src a ws s) := by simp [execRegisterWrite]

@[simp] theorem execRcRead_queueKept (src : Source) (a n : Nat) (s : State) : QueueKept s (execRcRead src a n s) := by simp [execRcRead]
@[simp] theorem execBlockLockSet_queueKept (src : Source) (k : LockBlock) (w : Word) (s : State) : QueueKept s (execBlockLockSet src k w s) := by simp [execBlockLockSet]
@[simp] theorem execAuthOpenEntryDone_queueKept (s : State) : QueueKept s (execAuthOpenEntryDone s) := by
  unfold execAuthOpenEntryDone
  (repeat' split) <;> simp

/-! Machine/Jtag.lean -/

@[simp] theorem execTestLogicReset_queueKept (s : State) : QueueKept s (execTestLogicReset s) := by simp [execTestLogicReset]
@[simp] theorem execBypass_queueKept (s : State) : QueueKept s (execBypass s) := by simp [execBypass]
@[simp] theorem execIdcode_queueKept (s : State) : QueueKept s (execIdcode s) := by simp [execIdcode]
@[simp] theorem execSamplePreload_queueKept (cells : List Bool) (s : State) : QueueKept s (execSamplePreload cells s) := by simp [execSamplePreload]
@[simp] theorem execExtest_queueKept (s : State) : QueueKept s (execExtest s) := by simp [execExtest]
@[simp] theorem execClamp_queueKept (s : State) : QueueKept s (execClamp s) := by simp [execClamp]
@[simp] theorem execHighz_queueKept (s : State) : QueueKept s (execHighz s) := by simp [execHighz]
@[simp] theorem execSecacc_queueKept (off : BitVec 16) (wr : Bool) (w : Word) (ok : Bool) (s : State) : QueueKept s (execSecacc off wr w ok s) := by simp [execSecacc]
@[simp] theorem execDbgacc_queueKept (op : DbgOp) (s : State) : QueueKept s (execDbgacc op s) := by simp [execDbgacc]
@[simp] theorem execFuseprog_queueKept (word : Fin 512) (mask took : Word) (s : State) : QueueKept s (execFuseprog word mask took s) := by simp [execFuseprog]

/-- No command touches the queue. -/
theorem exec_queueKept (c : Instr) (s : State) : QueueKept s (exec c s) := by
  cases c <;> simp [exec]

end Sys2Proof.Machine
end

section
open Sys2Proof Sys2Proof.Machine

/-- Settles O56: the definition of a step on a queue that is not empty. -/
theorem stepRunsTheFrontCommand : Obligations.StepRunsTheFrontCommand := by
  unfold Obligations.StepRunsTheFrontCommand
  intro c q s hq
  simp only [step, hq]

/-- Settles O57: a step hands the rest of the queue to the front command, and every command keeps the queue. -/
theorem commandsLeaveInTheOrderTheyCame : Obligations.CommandsLeaveInTheOrderTheyCame := by
  unfold Obligations.CommandsLeaveInTheOrderTheyCame
  refine ⟨fun s t hne hstep => ?_, fun c s => exec_queueKept c s⟩
  obtain ⟨c, q, hq⟩ := List.exists_cons_of_ne_nil hne
  rw [stepRunsTheFrontCommand c q s hq] at hstep
  rw [hq, List.tail_cons]
  exact exec_queueKept c _ t hstep

end

section
/-! The drain rings: the clause on a write of CTAIL leaves out that a full completion ring sets CFULL. -/

namespace Sys2Proof.Machine

/-- A consumer count beyond the producer count makes the completion ring full, which shows in CFULL (08, R257). -/
theorem ctailWrite_ahead_sets_cfull : (State.reset.ctailWrite 0 1).bit (DR_STAT_CFULL 0) = true := by decide

end Sys2Proof.Machine

open Sys2Proof Sys2Proof.Machine

/-- Refutes O28. Its last clause lets a write of CTAIL, with no completion waiting, change CTAIL alone. After reset
firmware writes 1 to CTAIL of ring 0, beyond CHEAD = 0: the ring then counts as full, and CFULL of its STAT is set. -/
theorem not_drainRingsMoveWords : ¬ Obligations.DrainRingsMoveWords := by
  unfold Obligations.DrainRingsMoveWords
  rintro ⟨-, -, -, -, -, -, -, -, -, -, -, -, hctail⟩
  obtain ⟨t, hexec, -, hregs, -⟩ := hctail .firmware 0 1 State.reset (by decide)
  have ht : State.reset.ctailWrite 0 1 = t := Host.Outcome.next.inj hexec
  obtain ⟨-, hwords⟩ := hregs rfl
  have hkept : t.word (DR_STAT 0) = State.reset.word (DR_STAT 0) := hwords _ (by decide)
  have hfull : t.bit (DR_STAT_CFULL 0) = true := ht ▸ ctailWrite_ahead_sets_cfull
  have hclear : t.bit (DR_STAT_CFULL 0) = State.reset.bit (DR_STAT_CFULL 0) := by
    simp only [State.bit, State.get, DR_STAT_CFULL, hkept]
  exact absurd (hclear.symm.trans hfull) (by decide)

end

section
/-! The taint stage: the clause on every item leaves out that a stamp may end a take on another root. -/

namespace Sys2Proof.Machine

/-- A stamp at time 0. -/
def stampAtZero : Stamp := { t := 0, pol := false, lostAt := none, ref := 0, stamper := 0, code := 0, bin := 0 }

/-- Take 0 closes, with COUNT 1, over channel 64 of bank 1 on root 1, which has closed with a stamp in cycle 1000, and
channel 0 of bank 0 on root 0, whose last stamp waits in the taint stage; both timebases stand at 100. -/
def takeOverTwoRoots : State :=
  (((((({ State.reset with
    roots := [(0, { Root.init with tb := 100 }), (1, { Root.init with tb := 100 })]
    banks := [(0, { Bank.init with stage := [{ body := .stamp 0 stampAtZero, time := 0, enter := 0 }] })]
    takes := [(0, { Take.init with chans := [64, 0], tstart := some 0 })]
    caps := [(64, { Cap.init with lastT := 4096 * 1000 })] }).put (BNK_STAT_DLLSTATE 0) 3).put (BNK_STAT_ROOTACT 1) 1).put
      (TK_STAT_STATE 0) 4).put (CH_TAKE_JOIN 0) 1).put (CH_EVSTAT_CLOSED 64) 1)

/-- The stamp meets COUNT, and the capture of the stop moves the timebase of the first channel's root (09, R279). -/
theorem taintStageRelease_moves_other_root :
    ((taintStageRelease takeOverTwoRoots 0 { body := .stamp 0 stampAtZero, time := 0, enter := 0 }).root 1).tb = 1001 := by
  decide +kernel

end Sys2Proof.Machine

open Sys2Proof Sys2Proof.Machine

/-- Refutes O26. Its first clause says of every item that no root but the bank's own changes. In `takeOverTwoRoots` the
oldest item of bank 0 is a stamp that fixes the stop of a closing take whose first channel is on root 1: the timebase
of root 1 goes from 100 to 1001. -/
theorem not_taintStageReleasesInOrder : ¬ Obligations.TaintStageReleasesInOrder := by
  unfold Obligations.TaintStageReleasesInOrder
  rintro ⟨holdest, -⟩
  obtain ⟨t, hexec, -, -, hroots⟩ := holdest 0 _ [] takeOverTwoRoots (by decide) rfl
  have ht : taintStageRelease takeOverTwoRoots 0 { body := .stamp 0 stampAtZero, time := 0, enter := 0 } = t :=
    Host.Outcome.next.inj hexec
  have hkept : t.root 1 = takeOverTwoRoots.root 1 := hroots 1 (by decide)
  have hmoved : (t.root 1).tb = 1001 := ht ▸ taintStageRelease_moves_other_root
  rw [hkept] at hmoved
  exact absurd hmoved (by decide)

end

section
/-! Hops across devices: the clause on a refused preparation leaves out a target that no path leads to. -/

namespace Sys2Proof.Machine

/-- The XHOP command that device 0 runs. -/
def xhopCmd : Cmd := ⟨0, 0, 0x0404, .started, 0, 0, 0, false, false, 0, false, false, 0, 0, none⟩

/-- Its hop is for the devices 0 and 1; device 0 has answered. -/
def xhopOfTwo : XHopRun := ⟨0, 0, 0, 0, 0, 3, 1, none, Code.OK, false⟩

/-- Device 0 of a board of two has taken in the refusal of device 1, and no link is identified any more. -/
def refusedByUnreachable : State :=
  { State.reset with
    board := { Board.init with xhops := [xhopOfTwo] }
    flows := [(0, { Flow.init with cmds := [xhopCmd] })]
    pls := [(0, { Pl.init with inbox := [(1, .xhopack 1 0 Code.NOT_LOCKED)] })] }.put PRL_MAP_PRESENT 3

/-- The end of the hop is told to both devices, and what cannot be routed comes back as a failure (11, R347). -/
theorem xhopAnswer_unreachable_comes_back :
    (((refusedByUnreachable.popItem 0).xhopAnswer 0 1 Code.NOT_LOCKED).pl 4).inbox.length = 2 := by decide +kernel

end Sys2Proof.Machine

open Sys2Proof Sys2Proof.Machine

/-- Refutes O39. Its clause on the last answer, a refusal, says that this device's own inbox takes in the end of the hop
and nothing else. In `refusedByUnreachable` the other target is a device of the board that no path leads to: the end of the hop
for it comes back to the same inbox as the report of a failure. -/
theorem not_boardCommandsAndItems : ¬ Obligations.BoardCommandsAndItems := by
  unfold Obligations.BoardCommandsAndItems
  rintro ⟨-, -, -, -, -, -, hrefused, -⟩
  obtain ⟨t, hexec, -, -, -, hown, -⟩ := hrefused 0 1 [] refusedByUnreachable 1 0 Code.NOT_LOCKED xhopOfTwo [] [] xhopCmd
    rfl rfl rfl rfl rfl (by simp) rfl rfl rfl rfl rfl (by decide) rfl
  have ht : (refusedByUnreachable.popItem 0).xhopAnswer 0 1 Code.NOT_LOCKED = t := Host.Outcome.next.inj hexec
  have htwo : (t.pl 4).inbox.length = 2 := ht ▸ xhopAnswer_unreachable_comes_back
  rw [hown (by decide)] at htwo
  exact absurd htwo (by decide)

end

section
/-! What an operation leaves as it was, as one equation: the state without the parts that it may touch. -/

namespace Sys2Proof.Machine

/-- The parts of the state that the operations of the families below touch. -/
inductive Part where
  | regs | roots | banks | groups | chans | store | storeErr | caps | takes | ivs | rgs | tsps | flows | ep | pls | msixPend | out
  deriving DecidableEq

/-- The state with the listed parts blanked: two states that agree there differ in those parts at most. -/
def State.without (l : List Part) (s : State) : State :=
  { s with
    regs := if .regs ∈ l then [] else s.regs
    roots := if .roots ∈ l then [] else s.roots
    banks := if .banks ∈ l then [] else s.banks
    groups := if .groups ∈ l then [] else s.groups
    chans := if .chans ∈ l then [] else s.chans
    store := if .store ∈ l then [] else s.store
    storeErr := if .storeErr ∈ l then [] else s.storeErr
    caps := if .caps ∈ l then [] else s.caps
    takes := if .takes ∈ l then [] else s.takes
    ivs := if .ivs ∈ l then [] else s.ivs
    rgs := if .rgs ∈ l then [] else s.rgs
    tsps := if .tsps ∈ l then [] else s.tsps
    flows := if .flows ∈ l then [] else s.flows
    ep := if .ep ∈ l then Ep.init else s.ep
    pls := if .pls ∈ l then [] else s.pls
    msixPend := if .msixPend ∈ l then [] else s.msixPend
    out := if .out ∈ l then [] else s.out }

variable {l : List Part}

/-- A part that is not blanked is the same where the rest is. -/
theorem eq_of_unblanked {α : Type} {c : Prop} [Decidable c] {a b d : α} (h : (if c then d else b) = if c then d else a) : b = if c then b else a := by
  split <;> simp_all

/-- The frame in the form of the statements: `t` is `s` with the listed parts of `t`. -/
theorem State.eq_of_without {s t : State} (h : t.without l = s.without l) :
    t = { s with
      regs := if .regs ∈ l then t.regs else s.regs
      roots := if .roots ∈ l then t.roots else s.roots
      banks := if .banks ∈ l then t.banks else s.banks
      groups := if .groups ∈ l then t.groups else s.groups
      chans := if .chans ∈ l then t.chans else s.chans
      store := if .store ∈ l then t.store else s.store
      storeErr := if .storeErr ∈ l then t.storeErr else s.storeErr
      caps := if .caps ∈ l then t.caps else s.caps
      takes := if .takes ∈ l then t.takes else s.takes
      ivs := if .ivs ∈ l then t.ivs else s.ivs
      rgs := if .rgs ∈ l then t.rgs else s.rgs
      tsps := if .tsps ∈ l then t.tsps else s.tsps
      flows := if .flows ∈ l then t.flows else s.flows
      ep := if .ep ∈ l then t.ep else s.ep
      pls := if .pls ∈ l then t.pls else s.pls
      msixPend := if .msixPend ∈ l then t.msixPend else s.msixPend
      out := if .out ∈ l then t.out else s.out } := by
  have field {α : Type} (g : State → α) : g (t.without l) = g (s.without l) := congrArg g h
  cases s; cases t
  simp only [State.mk.injEq]
  and_intros
  exacts [eq_of_unblanked (field State.regs), eq_of_unblanked (field State.roots), eq_of_unblanked (field State.banks),
    eq_of_unblanked (field State.groups), eq_of_unblanked (field State.chans), eq_of_unblanked (field State.store),
    eq_of_unblanked (field State.storeErr), field State.calChans, eq_of_unblanked (field State.caps),
    eq_of_unblanked (field State.takes), field State.rings, field State.reelSeq, eq_of_unblanked (field State.ivs),
    eq_of_unblanked (field State.rgs), field State.regQ, eq_of_unblanked (field State.tsps),
    eq_of_unblanked (field State.flows), field State.sched, eq_of_unblanked (field State.ep), field State.msix,
    eq_of_unblanked (field State.msixPend), field State.fuses, field State.shadow, eq_of_unblanked (field State.pls),
    field State.board, field State.pds, field State.pwr, field State.pmb, field State.boot, field State.jtag,
    field State.quorno, field State.spts, field State.cal, field State.staging, field State.pending, field State.free,
    eq_of_unblanked (field State.out)]

/-! A part that is not listed is the same. -/

theorem State.regs_of_without {s t : State} (h : t.without l = s.without l) (hp : .regs ∉ l) : t.regs = s.regs := by
  simpa [State.without, hp] using congrArg State.regs h
theorem State.roots_of_without {s t : State} (h : t.without l = s.without l) (hp : .roots ∉ l) : t.roots = s.roots := by
  simpa [State.without, hp] using congrArg State.roots h
theorem State.banks_of_without {s t : State} (h : t.without l = s.without l) (hp : .banks ∉ l) : t.banks = s.banks := by
  simpa [State.without, hp] using congrArg State.banks h
theorem State.groups_of_without {s t : State} (h : t.without l = s.without l) (hp : .groups ∉ l) : t.groups = s.groups := by
  simpa [State.without, hp] using congrArg State.groups h
theorem State.chans_of_without {s t : State} (h : t.without l = s.without l) (hp : .chans ∉ l) : t.chans = s.chans := by
  simpa [State.without, hp] using congrArg State.chans h
theorem State.store_of_without {s t : State} (h : t.without l = s.without l) (hp : .store ∉ l) : t.store = s.store := by
  simpa [State.without, hp] using congrArg State.store h
theorem State.caps_of_without {s t : State} (h : t.without l = s.without l) (hp : .caps ∉ l) : t.caps = s.caps := by
  simpa [State.without, hp] using congrArg State.caps h
theorem State.takes_of_without {s t : State} (h : t.without l = s.without l) (hp : .takes ∉ l) : t.takes = s.takes := by
  simpa [State.without, hp] using congrArg State.takes h
theorem State.rgs_of_without {s t : State} (h : t.without l = s.without l) (hp : .rgs ∉ l) : t.rgs = s.rgs := by
  simpa [State.without, hp] using congrArg State.rgs h

/-! ### What each update blanks out -/

@[simp] theorem State.ite_without (c : Prop) [Decidable c] (a b : State) :
    (if c then a else b).without l = if c then a.without l else b.without l := by split <;> rfl

@[simp] theorem State.setWord_without (h : .regs ∈ l) (s : State) (a : Nat) (w : Word) : (s.setWord a w).without l = s.without l := by
  simp [State.setWord, State.without, h]
@[simp] theorem State.put_without (h : .regs ∈ l) (s : State) (r : Ref) (v : Nat) : (s.put r v).without l = s.without l := by
  simp [State.put, h]
@[simp] theorem State.emit_without (h : .out ∈ l) (s : State) (o : Output) : (s.emit o).without l = s.without l := by
  simp [State.emit, State.without, h]
@[simp] theorem State.msixPend_without (h : .msixPend ∈ l) (s : State) (x : Tab Bool) : ({ s with msixPend := x }).without l = s.without l := by
  simp [State.without, h]
@[simp] theorem State.ep_without (h : .ep ∈ l) (s : State) (x : Ep) : ({ s with ep := x }).without l = s.without l := by
  simp [State.without, h]
@[simp] theorem State.setBank_without (h : .banks ∈ l) (s : State) (n : Nat) (x : Bank) : (s.setBank n x).without l = s.without l := by
  simp [State.setBank, State.without, h]
@[simp] theorem State.setGroup_without (h : .groups ∈ l) (s : State) (n : Nat) (x : Group) : (s.setGroup n x).without l = s.without l := by
  simp [State.setGroup, State.without, h]
@[simp] theorem State.setChan_without (h : .chans ∈ l) (s : State) (n : Nat) (x : Chan) : (s.setChan n x).without l = s.without l := by
  simp [State.setChan, State.without, h]
@[simp] theorem State.setTsp_without (h : .tsps ∈ l) (s : State) (n : Nat) (x : Tsp) : (s.setTsp n x).without l = s.without l := by
  simp [State.setTsp, State.without, h]
@[simp] theorem State.setFlow_without (h : .flows ∈ l) (s : State) (n : Nat) (x : Flow) : (s.setFlow n x).without l = s.without l := by
  simp [State.setFlow, State.without, h]
@[simp] theorem State.setCap_without (h : .caps ∈ l) (s : State) (n : Nat) (x : Cap) : (s.setCap n x).without l = s.without l := by
  simp [State.setCap, State.without, h]
@[simp] theorem State.setTake_without (h : .takes ∈ l) (s : State) (n : Nat) (x : Take) : (s.setTake n x).without l = s.without l := by
  simp [State.setTake, State.without, h]
@[simp] theorem State.setIv_without (h : .ivs ∈ l) (s : State) (n : Nat) (x : Iv) : (s.setIv n x).without l = s.without l := by
  simp [State.setIv, State.without, h]
@[simp] theorem State.setRg_without (h : .rgs ∈ l) (s : State) (n : Nat) (x : Rg) : (s.setRg n x).without l = s.without l := by
  simp [State.setRg, State.without, h]
@[simp] theorem State.setPl_without (h : .pls ∈ l) (s : State) (n : Nat) (x : Pl) : (s.setPl n x).without l = s.without l := by
  simp [State.setPl, State.without, h]
@[simp] theorem State.irq_without (hp : .msixPend ∈ l) (ho : .out ∈ l) (s : State) (v : Nat) : (s.irq v).without l = s.without l := by
  simp [State.irq, hp, ho]
@[simp] theorem State.flag_without (hr : .regs ∈ l) (hp : .msixPend ∈ l) (ho : .out ∈ l) (s : State) (v : Nat) (r : Ref) :
    (s.flag v r).without l = s.without l := by simp [State.flag, State.rose, hr, hp, ho]

end Sys2Proof.Machine
end
section
/-! Folds of operations, accesses that are served, and blocks of registers. -/

namespace Sys2Proof.Machine

/-- A fold of operations keeps what every one of them keeps. -/
theorem foldl_keeps {σ α β : Type} {l : List α} {g : σ → α → σ} (φ : σ → β) (h : ∀ u, ∀ x ∈ l, φ (g u x) = φ u) (s : σ) :
    φ (l.foldl g s) = φ s := by
  induction l generalizing s with
  | nil => rfl
  | cons x l ih => rw [List.foldl_cons, ih fun u y hy => h u y (by simp [hy]), h s x (by simp)]

/-- What a fold brings about at one of its places, from the state that the places before have left alone. -/
theorem foldl_reaches {α β : Type} {l : List α} {g : State → α → State} {P : State → Prop} (φ : State → β) {n : α} (hn : n ∈ l) {s : State}
    (hk : ∀ u x, x ≠ n → φ (g u x) = φ u) (hg : ∀ u, φ u = φ s → P (g u n)) (hP : ∀ u x, P u → P (g u x)) : P (l.foldl g s) := by
  obtain ⟨a, b, rfl, ha⟩ := List.eq_append_cons_of_mem hn
  rw [List.foldl_append, List.foldl_cons]
  have hu := hg _ (foldl_keeps φ (fun u x hx => hk u x (ne_of_mem_of_not_mem hx ha)) s)
  generalize g (a.foldl g s) n = u at hu
  induction b generalizing u with
  | nil => exact hu
  | cons x b ih => exact ih (by simp) _ (hP u x hu)

/-- A write that the bus serves has its effect (14, R413 to R415). -/
theorem State.rowWrite_of_served {s : State} {src : Source} {a : Nat} (h : s.rowServed src a true = true) (w : Word) (k : State → State) :
    s.rowWrite src a w k = k s := by
  simp only [State.rowServed, Bool.and_eq_true, Bool.not_eq_true', beq_iff_eq] at h
  obtain ⟨⟨⟨hseen, hbars⟩, hserved⟩, hwaits⟩ := h
  simp [State.rowWrite, State.rowAccess, hseen, hbars, hserved, hwaits]

/-- A field is that of its word. -/
theorem State.get_of_word {s t : State} {r : Ref} (h : t.word r.addr = s.word r.addr) : t.get r = s.get r := by
  rw [State.get, State.get, h]

theorem State.bit_of_word {s t : State} {r : Ref} (h : t.word r.addr = s.word r.addr) : t.bit r = s.bit r := by
  rw [State.bit, State.bit, State.get_of_word h]

/-- Where the registers are the same, every word is; and so for the units of a part. -/
theorem State.word_of_without {l : List Part} {s t : State} (h : t.without l = s.without l) (hp : .regs ∉ l) (a : Nat) : t.word a = s.word a :=
  congrArg (fun r => tabGet (resetWord a) r a) (State.regs_of_without h hp)
theorem State.bank_of_without {l : List Part} {s t : State} (h : t.without l = s.without l) (hp : .banks ∉ l) (n : Nat) : t.bank n = s.bank n :=
  congrArg (tabGet Bank.init · n) (State.banks_of_without h hp)
theorem State.group_of_without {l : List Part} {s t : State} (h : t.without l = s.without l) (hp : .groups ∉ l) (n : Nat) : t.group n = s.group n :=
  congrArg (tabGet Group.init · n) (State.groups_of_without h hp)
theorem State.chan_of_without {l : List Part} {s t : State} (h : t.without l = s.without l) (hp : .chans ∉ l) (n : Nat) : t.chan n = s.chan n :=
  congrArg (tabGet Chan.init · n) (State.chans_of_without h hp)
theorem State.cap_of_without {l : List Part} {s t : State} (h : t.without l = s.without l) (hp : .caps ∉ l) (n : Nat) : t.cap n = s.cap n :=
  congrArg (tabGet Cap.init · n) (State.caps_of_without h hp)
theorem State.take_of_without {l : List Part} {s t : State} (h : t.without l = s.without l) (hp : .takes ∉ l) (n : Nat) : t.take n = s.take n :=
  congrArg (tabGet Take.init · n) (State.takes_of_without h hp)
theorem State.rg_of_without {l : List Part} {s t : State} (h : t.without l = s.without l) (hp : .rgs ∉ l) (n : Nat) : t.rg n = s.rg n :=
  congrArg (tabGet Rg.init · n) (State.rgs_of_without h hp)

/-- Group membership is that of the GRP registers of the channels. -/
theorem State.members_of_word {s t : State} (h : ∀ n, t.word (CH_GRP n) = s.word (CH_GRP n)) (g : Nat) : t.members g = s.members g := by
  have hm (n : Nat) : t.isMember g n = s.isMember g n := by
    rw [State.isMember, State.isMember, State.bit_of_word (r := CH_GRP_MEMBER n) (h n), State.get_of_word (r := CH_GRP_GROUP n) (h n)]
  simp only [State.members, hm]

theorem State.memberBanks_of_word {s t : State} (h : ∀ n, t.word (CH_GRP n) = s.word (CH_GRP n)) (g : Nat) :
    t.memberBanks g = s.memberBanks g := by
  simp only [State.memberBanks, State.members_of_word h]

@[simp] theorem State.clearRegs_without {l : List Part} (h : .regs ∈ l) (s : State) (a k : Nat) : (s.clearRegs a k).without l = s.without l :=
  foldl_keeps _ (fun u _ _ => State.setWord_without h u _ _) s

/-- A block of registers that is cleared leaves those below and above it alone. -/
theorem State.clearRegs_word_other (s : State) {a k b : Nat} (h : b < a ∨ a + 4 * k ≤ b) : (s.clearRegs a k).word b = s.word b :=
  foldl_keeps (fun u => u.word b) (fun u i hi => u.setWord_word_other _ (by have := List.mem_range.1 hi; omega)) s

end Sys2Proof.Machine
end

section
/-! Interrupts, the event log, records and messages: what sending them leaves as it was (07, R212, R213; 11, R329 to R331; 14, R435, R436). -/

namespace Sys2Proof.Machine

variable {l : List Part}

@[simp] theorem State.irq_word (s : State) (v a : Nat) : (s.irq v).word a = s.word a := by
  unfold State.irq; split_ifs <;> simp [State.word]

/-- A flag bit that is set touches its own register alone. -/
theorem State.flag_word (s : State) (v : Nat) (r : Ref) {a : Nat} (h : a ≠ r.addr) : (s.flag v r).word a = s.word a := by
  simp only [State.flag, State.rose]
  split <;> simp [State.put_word_other _ _ h]

/-! ### The event log -/

theorem State.logWrite_without (hr : .regs ∈ l) (he : .ep ∈ l) (hm : .msixPend ∈ l) (ho : .out ∈ l) (s : State) (time kind unit cycle detail : Nat) :
    (s.logWrite time kind unit cycle detail).without l = s.without l := by
  simp only [State.logWrite, State.incWrap_eq, State.ite_without, State.irq_without hm ho, State.ep_without he, State.put_without hr,
    State.emit_without ho, ite_self]

theorem State.log_without (hr : .regs ∈ l) (he : .ep ∈ l) (hm : .msixPend ∈ l) (ho : .out ∈ l) (s : State) (kind unit cycle detail : Nat) :
    (s.log kind unit cycle detail).without l = s.without l := by
  simp only [State.log, State.inc_eq, State.ite_without, State.logWrite_without hr he hm ho, State.ep_without he, State.put_without hr, ite_self]

/-- An entry of the log touches the mailbox registers alone. -/
theorem State.log_word (s : State) (kind unit cycle detail : Nat) {a : Nat} (h : 0x50000 ≤ a) : (s.log kind unit cycle detail).word a = s.word a := by
  have hh : a ≠ MBX_ELHEAD_CNT.addr := by simp only [MBX_ELHEAD_CNT, MBX_ELHEAD]; omega
  have hd : a ≠ MBX_ELDROP_COUNT.addr := by simp only [MBX_ELDROP_COUNT, MBX_ELDROP]; omega
  have hep (u : State) (x : Ep) : State.word { u with ep := x } a = u.word a := rfl
  simp only [State.log, State.logWrite, State.inc_eq, State.incWrap_eq]
  split_ifs <;> simp only [hep, State.irq_word, State.put_word_other _ _ hh, State.put_word_other _ _ hd, State.emit_word]

/-! ### Records and messages -/

theorem State.dropRecords_without (hr : .regs ∈ l) (he : .ep ∈ l) (hm : .msixPend ∈ l) (ho : .out ∈ l) (s : State) (p k : Nat) :
    (s.dropRecords p k).without l = s.without l := by
  simp only [State.dropRecords, State.flagTsp, State.incBy_eq, State.ite_without, State.ep_without he, State.flag_without hr hm ho,
    State.put_without hr, ite_self]

theorem State.dropRecords_word (s : State) (p k : Nat) {a : Nat} (hd : a ≠ TSP_RESDROP p) (hf : a ≠ TSP_FLAGS p) :
    (s.dropRecords p k).word a = s.word a := by
  have hep (u : State) (x : Ep) : State.word { u with ep := x } a = u.word a := rfl
  simp only [State.dropRecords, State.flagTsp, State.incBy_eq]
  split
  · rfl
  · rw [hep, State.flag_word _ _ _ hf, State.put_word_other _ _ hd]

theorem State.pushResult_without (hr : .regs ∈ l) (ht : .tsps ∈ l) (he : .ep ∈ l) (hm : .msixPend ∈ l) (ho : .out ∈ l) (s : State) (p rec_ : Nat) :
    (s.pushResult p rec_).without l = s.without l := by
  simp only [State.pushResult, State.modTsp_eq, State.ite_without, State.dropRecords_without hr he hm ho, State.log_without hr he hm ho,
    State.ep_without he, State.setTsp_without ht, ite_self]

theorem State.pushResult_word (s : State) (p rec_ : Nat) {a : Nat} (h : 0x50000 ≤ a) (hd : a ≠ TSP_RESDROP p) (hf : a ≠ TSP_FLAGS p) :
    (s.pushResult p rec_).word a = s.word a := by
  have hep (u : State) (x : Ep) : State.word { u with ep := x } a = u.word a := rfl
  simp only [State.pushResult, State.modTsp_eq]
  split_ifs
  · exact s.dropRecords_word p 1 hd hf
  · exact State.setTsp_word _ _ _ _
  · rw [State.log_word _ _ _ _ _ h, hep, s.dropRecords_word p 1 hd hf]

/-! ### Messages over the links -/

theorem State.sendData_without (hp : .pls ∈ l) (ho : .out ∈ l) (s : State) (p seq : Nat) (fr : LFrame) :
    (s.sendData p seq fr).without l = s.without l := by
  simp [State.sendData, State.sendFrame, hp, ho]

theorem State.txPump_without (hp : .pls ∈ l) (ho : .out ∈ l) (s : State) (p n : Nat) : (s.txPump p n).without l = s.without l := by
  induction n generalizing s with
  | zero => rfl
  | succ n ih =>
    rw [State.txPump]
    split
    · rfl
    · split
      · rw [ih, State.sendData_without hp ho, State.setPl_without hp]
      · rfl

theorem State.txFrame_without (hp : .pls ∈ l) (ho : .out ∈ l) (s : State) (p : Nat) (fr : LFrame) : (s.txFrame p fr).without l = s.without l := by
  rw [State.txFrame, State.txPump_without hp ho, State.modPl_eq, State.setPl_without hp]

theorem State.deliverItem_without (hp : .pls ∈ l) (s : State) (p src : Nat) (i : LinkItem) : (s.deliverItem p src i).without l = s.without l := by
  rw [State.deliverItem, State.modPl_eq, State.setPl_without hp]

theorem State.failFrame_without (hp : .pls ∈ l) (ho : .out ∈ l) (s : State) (fr : LFrame) : (s.failFrame fr).without l = s.without l := by
  refine foldl_keeps (fun u => u.without l) (fun u i _ => ?_) s
  split
  · exact u.deliverItem_without hp _ _ _
  · split
    · rfl
    · exact foldl_keeps (fun v => v.without l) (fun v fr _ => v.txFrame_without hp ho _ fr) u

/-- A message touches the ports of the links and what leaves the device. -/
theorem State.sendItem_without (hp : .pls ∈ l) (ho : .out ∈ l) (s : State) (dst : Nat) (i : LinkItem) : (s.sendItem dst i).without l = s.without l := by
  rw [State.sendItem]
  split
  · exact s.deliverItem_without hp _ _ _
  · refine foldl_keeps (fun u => u.without l) (fun u fr _ => ?_) s
    rw [State.routeFrame]
    split
    · exact u.failFrame_without hp ho fr
    · exact u.txFrame_without hp ho _ fr

end Sys2Proof.Machine
end
section
/-! What the arm of a take does to its registers, its channels and their units (08, R242; 09, R275, R284; 10, R307). -/

namespace Sys2Proof.Machine

/-! ### A channel that is armed -/

/-- The registers below the regression units are not touched when one of them starts. -/
theorem State.rgArm_word (s : State) (n : Nat) {a : Nat} (h : a < 0x108000) : (s.rgArm n).word a = s.word a := by
  have hn : a < RG_STAT n ∧ a < RG_N n ∧ a < RG_PUSEDLO n := by simp only [RG_STAT, RG_N, RG_PUSEDLO]; omega
  obtain ⟨h1, h2, h3⟩ := hn
  simp only [State.rgArm, State.put64, State.modRg_eq, State.setRg_word]
  rw [State.setWord_word_other _ _ (by omega), State.setWord_word_other _ _ (by omega), State.clearRegs_word_other _ (.inl h2),
    State.put_word_other _ _ h1.ne, State.setWord_word_other _ _ h1.ne]

theorem State.rgArm_without {l : List Part} (hr : .regs ∈ l) (hg : .rgs ∈ l) (s : State) (n : Nat) : (s.rgArm n).without l = s.without l := by
  simp [State.rgArm, State.put64, hr, hg]

theorem State.rgArm_cap (s : State) (n m : Nat) : (s.rgArm n).cap m = s.cap m :=
  State.cap_of_without (s.rgArm_without (l := [.regs, .rgs]) (by decide) (by decide) n) (by decide) m

theorem State.rgArm_rg_other (s : State) {n m : Nat} (h : m ≠ n) : (s.rgArm n).rg m = s.rg m := by
  have hr (u : State) : (u.clearRegs (RG_N n) 12).rg m = u.rg m :=
    State.rg_of_without (State.clearRegs_without (l := [.regs]) (by decide) u _ _) (by decide) m
  simp [State.rgArm, State.put64, State.setRg_rg_other _ _ h, hr]

theorem State.armChan_word (s : State) (n : Nat) {a : Nat} (h : a < 0x108000) : (s.armChan n).word a = s.word a := by
  have h1 : a ≠ CH_EVSTAT n := by simp only [CH_EVSTAT]; omega
  have h2 : a ≠ CH_EVSKACT n := by simp only [CH_EVSKACT]; omega
  simp only [State.armChan, State.modCap_eq]
  rw [State.rgArm_word _ _ h, State.setCap_word, State.put_word_other _ _ h2, State.put_word_other _ _ h1]

theorem State.armChan_without {l : List Part} (hr : .regs ∈ l) (hg : .rgs ∈ l) (hc : .caps ∈ l) (s : State) (n : Nat) :
    (s.armChan n).without l = s.without l := by
  simp [State.armChan, State.rgArm_without, hr, hg, hc]

theorem State.armChan_cap_other (s : State) {n m : Nat} (h : m ≠ n) : (s.armChan n).cap m = s.cap m := by
  simp [State.armChan, State.rgArm_cap, State.setCap_cap_other _ _ h]

theorem State.armChan_rg_other (s : State) {n m : Nat} (h : m ≠ n) : (s.armChan n).rg m = s.rg m := by
  simp [State.armChan, State.rgArm_rg_other _ h]

/-- The pre-roll of the channel begins on stamper 0. -/
def Cap.prerolls (x : Cap) : Prop := x.cal.map (fun q => (q.kind, q.stamper)) = some (0, 0)

theorem State.armChan_prerolls (s : State) (n : Nat) : ((s.armChan n).cap n).prerolls := by
  simp [State.armChan, State.rgArm_cap, Cap.prerolls]

/-! ### The interval units -/

theorem State.ivArm1_word (s : State) (chans : List Nat) (i : Nat) {a : Nat} (h : a < 0x105000) : (s.ivArm1 chans i).word a = s.word a := by
  have h1 : a ≠ IV_STAT i := by simp only [IV_STAT]; omega
  have h2 : a < IV_COUNT i := by simp only [IV_COUNT]; omega
  have hput (u : State) (v : Nat) {r : Ref} (hr : r.addr = IV_STAT i) : (u.put r v).word a = u.word a := u.put_word_other _ (hr ▸ h1)
  simp only [State.ivArm1]
  split_ifs <;> rw [hput _ _ rfl, State.setIv_word, hput _ _ rfl, State.setWord_word_other _ _ h1, State.clearRegs_word_other _ (.inl h2)]

theorem State.ivArm1_without {l : List Part} (hr : .regs ∈ l) (hi : .ivs ∈ l) (s : State) (chans : List Nat) (i : Nat) :
    (s.ivArm1 chans i).without l = s.without l := by
  simp [State.ivArm1, hr, hi]

theorem State.ivArm_word (s : State) (k : Nat) (chans : List Nat) {a : Nat} (h : a < 0x105000) : (s.ivArm k chans).word a = s.word a :=
  foldl_keeps (fun u => u.word a) (fun u i _ => by split; exacts [u.ivArm1_word chans i h, rfl]) s

theorem State.ivArm_without {l : List Part} (hr : .regs ∈ l) (hi : .ivs ∈ l) (s : State) (k : Nat) (chans : List Nat) :
    (s.ivArm k chans).without l = s.without l :=
  foldl_keeps (fun u => u.without l) (fun u i _ => by split; exacts [u.ivArm1_without hr hi chans i, rfl]) s

/-! ### The take -/

/-- What an accepted arm latches. -/
def State.armedTake (s : State) (k : Nat) (req : ArmReq) : Take :=
  { Take.init with
    cfg := (s.word (TK_CFG k)).toNat, count := max 1 (s.get (TK_COUNT_N k)), gate := max 1 (s.pair (TK_GATELO_CYC k) (TK_GATEHI_CYC k))
    timeout := s.get (TK_TIMEOUT_US k), raw := s.bit GLB_MODE_STAMPRAW, drainWin := s.bit GLB_MODE_DRAINWIN, chans := s.joined k, req := req
    ep0 := s.get (GRP_EPOCH_EPOCH (s.get (TK_CFG_GROUP k))), waiters := (s.take k).waiters, seq0 := s.reelSeq }

/-- The status and the times of a take in its pre-roll. -/
def State.showArmed (s : State) (k nch : Nat) : State :=
  let s2 := (((s.put (TK_STAT_LATESTART k) 0).put (TK_STAT_EPOCHCHG k) 0).put (TK_STAT_TAINT k) 0).put (TK_STAT_CODE k) 0
  let s3 := ((s2.put (TK_STAT_NCH k) nch).put (TK_EPOCH_EPOCH k) 0).put (TK_STAT_STATE k) 1
  (s3.putT60 (TK_TSTARTLO_T k) (TK_TSTARTHI_T k) none).putT60 (TK_TSTOPLO_T k) (TK_TSTOPHI_T k) none

theorem State.armTake_eq (s : State) (k : Nat) (req : ArmReq) :
    s.armTake k req = (s.joined k).foldl (fun u n => u.armChan n)
      (((s.setTake k (s.armedTake k req)).showArmed k (s.joined k).length).ivArm k (s.joined k)) := rfl

theorem State.showArmed_without {l : List Part} (hr : .regs ∈ l) (s : State) (k nch : Nat) : (s.showArmed k nch).without l = s.without l := by
  simp [State.showArmed, State.putT60, hr]

/-- An arm touches the registers, the takes, and the units of its channels. -/
theorem State.armTake_without {l : List Part} (hr : .regs ∈ l) (hc : .caps ∈ l) (ht : .takes ∈ l) (hi : .ivs ∈ l) (hg : .rgs ∈ l)
    (s : State) (k : Nat) (req : ArmReq) : (s.armTake k req).without l = s.without l := by
  rw [State.armTake_eq, foldl_keeps (fun u : State => u.without l) fun u n _ => u.armChan_without hr hg hc n, State.ivArm_without hr hi,
    State.showArmed_without hr, State.setTake_without ht]

/-- Of the registers below the interval units it touches the take's own. -/
theorem State.armTake_word (s : State) (k : Nat) (req : ArmReq) {a : Nat} (h : a < 0x105000) :
    (s.armTake k req).word a = ((s.setTake k (s.armedTake k req)).showArmed k (s.joined k).length).word a := by
  rw [State.armTake_eq, foldl_keeps (fun u : State => u.word a) fun u n _ => u.armChan_word n (by omega), State.ivArm_word _ _ _ h]

theorem State.armTake_take (s : State) (k m : Nat) (req : ArmReq) :
    (s.armTake k req).take m = (s.setTake k (s.armedTake k req)).take m := by
  rw [State.armTake_eq]
  refine State.take_of_without (l := [.regs, .caps, .ivs, .rgs]) ?_ (by decide) m
  rw [foldl_keeps (fun u : State => u.without _) fun u n _ => u.armChan_without (by decide) (by decide) (by decide) n,
    State.ivArm_without (by decide) (by decide), State.showArmed_without (by decide)]

/-- The registers that the arm shows, by name. -/
theorem State.showArmed_get (s : State) (k nch : Nat) :
    (s.showArmed k nch).get (TK_STAT_STATE k) = 1 ∧ (s.showArmed k nch).get (TK_STAT_CODE k) = 0 ∧
      (s.showArmed k nch).get (TK_STAT_NCH k) = nch % 2 ^ 10 ∧ (s.showArmed k nch).get (TK_TSTARTLO_T k) = 0xFFFFFFFF ∧
      (s.showArmed k nch).get (TK_TSTOPLO_T k) = 0xFFFFFFFF := by
  -- `refine id ?_` gives the proof of a side condition the type that the rewrite asks for, with the places folded
  simp (disch := (refine id ?_; simp [Ref.fits, Ref.apart, TK_STAT_STATE, TK_STAT_CODE, TK_STAT_NCH, TK_EPOCH_EPOCH, TK_TSTARTLO_T, TK_TSTARTHI_T, TK_TSTOPLO_T,
      TK_TSTOPHI_T, TK_STAT, TK_EPOCH, TK_TSTARTLO, TK_TSTARTHI, TK_TSTOPLO, TK_TSTOPHI]))
    only [State.showArmed, State.putT60, State.putPair_eq, State.put_get, State.put_get_other]
  simp [TK_STAT_STATE, TK_STAT_CODE, TK_STAT_NCH, TK_TSTARTLO_T, TK_TSTOPLO_T]

end Sys2Proof.Machine
end
section
/-! The answers to an arm, and the arm by TKt_CTRL and after a wait (08, R242, R243, R247, R262; 09, R282). -/

namespace Sys2Proof.Machine

variable {l : List Part}

/-! ### The completion of the arming command -/

theorem State.armAnswer_of_none {req : ArmReq} (h : req.src = .none) (s : State) (k code : Nat) : s.armAnswer k req code = s := by
  rw [State.armAnswer, h]

theorem State.armAnswer_without (hr : .regs ∈ l) (ht : .tsps ∈ l) (hf : .flows ∈ l) (he : .ep ∈ l) (hp : .pls ∈ l) (hm : .msixPend ∈ l)
    (ho : .out ∈ l) (s : State) (k : Nat) (req : ArmReq) (code : Nat) : (s.armAnswer k req code).without l = s.without l := by
  obtain ⟨src, group, wait, root⟩ := req
  cases src with
  | none => rfl
  | port p g tag => exact s.pushResult_without hr ht he hm ho p _
  | gone p => exact s.dropRecords_without hr he hm ho p 1
  | flow f c =>
    simp only [State.armAnswer, State.finishCmd, State.modFlow_eq]
    split
    · rfl
    · exact s.setFlow_without hf _ _
  | link _ _ => rfl
  | xtake dev tag idx => exact s.sendItem_without hp ho dev _

theorem State.armAnswer_take (s : State) (k : Nat) (req : ArmReq) (code m : Nat) : (s.armAnswer k req code).take m = s.take m :=
  State.take_of_without (l := [.regs, .tsps, .flows, .ep, .pls, .msixPend, .out])
    (State.armAnswer_without (by decide) (by decide) (by decide) (by decide) (by decide) (by decide) (by decide) s k req code) (by decide) m

/-- No completion touches the status of a take. -/
theorem State.armAnswer_status (s : State) (k : Nat) (req : ArmReq) (code j : Nat) :
    (s.armAnswer k req code).word (TK_STAT j) = s.word (TK_STAT j) := by
  have ha : 0x50000 ≤ TK_STAT j := by simp only [TK_STAT]; omega
  have hd (p : Nat) : TK_STAT j ≠ TSP_RESDROP p := by simp only [TK_STAT, TSP_RESDROP]; omega
  have hf (p : Nat) : TK_STAT j ≠ TSP_FLAGS p := by simp only [TK_STAT, TSP_FLAGS]; omega
  obtain ⟨src, group, wait, root⟩ := req
  cases src with
  | none => rfl
  | port p g tag => exact s.pushResult_word p _ ha (hd p) (hf p)
  | gone p => exact s.dropRecords_word p 1 (hd p) (hf p)
  | flow f c =>
    simp only [State.armAnswer, State.finishCmd, State.modFlow_eq]
    split
    · rfl
    · exact State.setFlow_word _ _ _ _
  | link _ _ => rfl
  | xtake dev tag idx =>
    exact State.word_of_without (s.sendItem_without (l := [.pls, .out]) (by decide) (by decide) dev _) (by decide) _

/-! ### The checks read no take -/

@[simp] theorem State.setTake_joined (s : State) (n : Nat) (x : Take) (k : Nat) : (s.setTake n x).joined k = s.joined k := by
  simp [State.joined]
@[simp] theorem State.setTake_takeState (s : State) (n : Nat) (x : Take) (k : Nat) : (s.setTake n x).takeState k = s.takeState k := rfl
@[simp] theorem State.setTake_split (s : State) (n : Nat) (x : Take) (g : Nat) : (s.setTake n x).split g = s.split g := by
  unfold State.split
  rw [State.memberBanks_of_word (t := s.setTake n x) (s := s) fun _ => State.setTake_word _ _ _ _]
  cases s.memberBanks g <;> rfl
@[simp] theorem State.setTake_armCheck (s : State) (n : Nat) (x : Take) (k : Nat) (req : ArmReq) :
    (s.setTake n x).armCheck k req = s.armCheck k req := by
  have hr (b : Nat) : (s.setTake n x).rootOf b = s.rootOf b := rfl
  simp only [State.armCheck, State.setTake_joined, State.takeBusy, State.setTake_takeState, State.setTake_bit, State.setTake_get, hr,
    State.setTake_split]
  rfl

theorem State.armCheck_of_busy {s : State} {k : Nat} (h : s.takeBusy k = true) (req : ArmReq) : s.armCheck k req = Code.TAKE_BUSY := by
  simp only [State.armCheck, h, ↓reduceIte]

/-! ### The refusal -/

/-- A refusal shows its code. -/
theorem State.refuseArm_get (s : State) (k : Nat) (req : ArmReq) (code : Nat) :
    (s.refuseArm k req code).get (TK_STAT_CODE k) = code % 2 ^ (TK_STAT_CODE k).len ∧ (s.refuseArm k req code).takeState k = s.takeState k := by
  have hw := (s.put (TK_STAT_CODE k) code).armAnswer_status k req code k
  have hfit : (TK_STAT_CODE k).fits := by simp [Ref.fits, TK_STAT_CODE]
  constructor
  · rw [State.refuseArm, State.get_of_word (r := TK_STAT_CODE k) hw, State.put_get _ hfit]
  · rw [State.refuseArm, State.takeState, State.get_of_word (r := TK_STAT_STATE k) hw,
      State.put_get_other _ hfit _ (by simp [Ref.apart, TK_STAT_CODE, TK_STAT_STATE]), State.takeState]

theorem State.refuseArm_of_none {req : ArmReq} (h : req.src = .none) (s : State) (k code : Nat) :
    s.refuseArm k req code = s.put (TK_STAT_CODE k) code := by
  rw [State.refuseArm, State.armAnswer_of_none h]

theorem State.refuseArm_take (s : State) (k : Nat) (req : ArmReq) (code m : Nat) : (s.refuseArm k req code).take m = s.take m := by
  rw [State.refuseArm, State.armAnswer_take, State.put_take]

/-- A refusal without a command to answer touches the status of its take alone. -/
theorem State.refuseArm_regsOnly (s : State) (k code : Nat) : RegsOnly [TK_STAT k] s (s.refuseArm k ArmReq.init code) := by
  rw [State.refuseArm_of_none rfl]
  exact ⟨rfl, fun a ha => s.put_word_other _ (List.ne_of_not_mem_cons ha)⟩

/-! ### The arm -/

/-- The take, its status and its times after an accepted arm. -/
theorem State.armTake_get (s : State) (k : Nat) (req : ArmReq) {r : Ref} (h : r.addr < 0x105000) :
    (s.armTake k req).get r = (s.showArmed k (s.joined k).length).get r := by
  have hw : (s.armTake k req).word r.addr = (s.showArmed k (s.joined k).length).word r.addr := by
    rw [State.armTake_word _ _ _ h]; rfl
  exact State.get_of_word hw

theorem State.armTake_cap_other (s : State) (k : Nat) (req : ArmReq) {m : Nat} (h : m ∉ s.joined k) : (s.armTake k req).cap m = s.cap m := by
  rw [State.armTake_eq, foldl_keeps (fun u : State => u.cap m) fun u n hn => u.armChan_cap_other (ne_of_mem_of_not_mem hn h).symm]
  refine State.cap_of_without (l := [.regs, .takes, .ivs]) ?_ (by decide) m
  rw [State.ivArm_without (by decide) (by decide), State.showArmed_without (by decide), State.setTake_without (by decide)]

theorem State.armTake_rg_other (s : State) (k : Nat) (req : ArmReq) {m : Nat} (h : m ∉ s.joined k) : (s.armTake k req).rg m = s.rg m := by
  rw [State.armTake_eq, foldl_keeps (fun u : State => u.rg m) fun u n hn => u.armChan_rg_other (ne_of_mem_of_not_mem hn h).symm]
  refine State.rg_of_without (l := [.regs, .takes, .ivs]) ?_ (by decide) m
  rw [State.ivArm_without (by decide) (by decide), State.showArmed_without (by decide), State.setTake_without (by decide)]

/-- Every joined channel starts its pre-roll. -/
theorem State.armTake_prerolls (s : State) (k : Nat) (req : ArmReq) {n : Nat} (h : n ∈ s.joined k) : ((s.armTake k req).cap n).prerolls := by
  rw [State.armTake_eq]
  refine foldl_reaches (P := fun u => (u.cap n).prerolls) (fun _ => ()) h (fun _ _ _ => rfl) (fun u _ => u.armChan_prerolls n) fun u x hu => ?_
  by_cases hx : n = x
  · exact hx ▸ u.armChan_prerolls n
  · rwa [u.armChan_cap_other hx]

/-! ### Requests -/

theorem State.tryArm_of_ok {s : State} {k : Nat} {req : ArmReq} (h : s.armCheck k req = Code.OK) :
    s.tryArm k req = (s.armTake k req).armAnswer k req Code.OK := by
  simp only [State.tryArm, h, ↓reduceIte]

theorem State.tryArm_of_fail {s : State} {k : Nat} {req : ArmReq} (h : s.armCheck k req ≠ Code.OK) :
    s.tryArm k req = s.refuseArm k req (s.armCheck k req) := by
  simp only [State.tryArm, h, ↓reduceIte]

theorem State.requestArm_of_none {s : State} {k : Nat} (hw : (s.take k).waitArm = none) (hs : s.solvesQueued k = false) (req : ArmReq) :
    s.requestArm k req = s.tryArm k req := by
  simp [State.requestArm, hw, hs]

/-- A busy take, or one for which an arm waits, refuses another. -/
theorem State.requestArm_of_busy {s : State} {k : Nat} (h : s.takeBusy k = true ∨ (s.take k).waitArm ≠ none) (req : ArmReq) :
    s.requestArm k req = s.refuseArm k req Code.TAKE_BUSY := by
  by_cases hw : (s.take k).waitArm = none
  · have hb : s.takeBusy k = true := h.resolve_right (not_not_intro hw)
    have hc : s.armCheck k req ≠ Code.OK := by rw [State.armCheck_of_busy hb]; decide
    simp only [State.requestArm, hw, hb, Option.isSome_none, Bool.false_eq_true, Bool.true_eq_false, false_and, ↓reduceIte,
      State.tryArm_of_fail hc, State.armCheck_of_busy hb]
  · simp [State.requestArm, Option.isSome_iff_ne_none, hw]

/-! ### The abort of a take that captures -/

theorem State.takeForce_takeState (s : State) (k code : Nat) : (s.takeForce k code).takeState k = 4 := by
  rw [State.takeForce, State.takeStop, State.takeState, State.put_get _ (by simp [Ref.fits, TK_STAT_STATE])]
  simp [TK_STAT_STATE]

theorem State.takeForce_sameTakes (s : State) (k code : Nat) : SameTakes [k] s (s.takeForce k code) := by
  intro m hm
  have hne : m ≠ k := List.ne_of_not_mem_cons hm
  simp [State.takeForce, State.takeStop, State.setStop, State.putT60, State.tbTo, State.setTake_take_other _ _ hne]

theorem State.takeBusy_of_closing {s : State} {k : Nat} (h : s.takeState k = 4) : s.takeBusy k = true := by
  simp [State.takeBusy, h]

end Sys2Proof.Machine
end

section
/-! O21: the arm of a take (08, R242, R243, R262; 09, R282). -/

namespace Sys2Proof.Machine

/-- An arm whose checks pass latches the take, and shows it in its pre-roll (08, R242). -/
theorem State.armTake_shows (s : State) (k : Fin 256) (req : ArmReq) :
    (s.armTake k req).take k = s.armedTake k req ∧ (s.armTake k req).takeState k = 1 ∧ (s.armTake k req).get (TK_STAT_CODE k) = 0 ∧
      (s.armTake k req).get (TK_STAT_NCH k) = (s.joined k).length % 2 ^ (TK_STAT_NCH k).len ∧
      (s.armTake k req).get (TK_TSTARTLO_T k) = 0xFFFFFFFF ∧ (s.armTake k req).get (TK_TSTOPLO_T k) = 0xFFFFFFFF := by
  have hst : TK_STAT k < 0x105000 := by simp only [TK_STAT]; omega
  have hlo : TK_TSTARTLO k < 0x105000 := by simp only [TK_TSTARTLO]; omega
  have hlo' : TK_TSTOPLO k < 0x105000 := by simp only [TK_TSTOPLO]; omega
  obtain ⟨h1, h2, h3, h4, h5⟩ := s.showArmed_get k (s.joined k).length
  rw [State.armTake_take, State.setTake_take, State.takeState, State.armTake_get _ _ _ (r := TK_STAT_STATE k) hst,
    State.armTake_get _ _ _ (r := TK_STAT_CODE k) hst, State.armTake_get _ _ _ (r := TK_STAT_NCH k) hst,
    State.armTake_get _ _ _ (r := TK_TSTARTLO_T k) hlo, State.armTake_get _ _ _ (r := TK_TSTOPLO_T k) hlo']
  exact ⟨rfl, h1, h2, h3, h4, h5⟩

theorem State.armTake_sameTakes (s : State) (k : Nat) (req : ArmReq) : SameTakes [k] s (s.armTake k req) := fun m hm => by
  rw [State.armTake_take, State.setTake_take_other _ _ (List.ne_of_not_mem_cons hm)]

/-- The parts of the state that an arm touches. -/
def armParts : List Part := [.regs, .takes, .caps, .ivs, .rgs]

theorem State.eq_of_without_armParts {s t : State} (h : t.without armParts = s.without armParts) :
    t = { s with regs := t.regs, takes := t.takes, caps := t.caps, ivs := t.ivs, rgs := t.rgs } :=
  State.eq_of_without (l := armParts) h

theorem State.armTake_without_armParts (s : State) (k : Nat) (req : ArmReq) : (s.armTake k req).without armParts = s.without armParts :=
  s.armTake_without (by decide) (by decide) (by decide) (by decide) (by decide) k req

/-- A write of TKt_CTRL that is served, by its two bits (08, R242, R243). -/
theorem exec_tktCtrlArm_of_served {src : Source} {k : Fin 256} {s : State} (h : s.rowServed src (TK_CTRL k) true = true) (w : Word) :
    exec (.tktCtrlArm src k w) s = .next (s.tkCtrlWrite k w) := by
  rw [← s.rowWrite_of_served h w (fun u => u.tkCtrlWrite k w)]; rfl

/-- ARM alone asks for the arm. -/
theorem State.tkCtrlWrite_arm {w : Word} (h1 : wbit w 1 = false) (h0 : wbit w 0 = true) (s : State) (k : Nat) :
    s.tkCtrlWrite k w = s.requestArm k ArmReq.init := by
  simp [State.tkCtrlWrite, h1, h0]

/-- An accepted arm of the command row (08, R242). -/
theorem tktCtrlArm_accepts (src : Source) (k : Fin 256) (w : Word) (s : State) (h : s.rowServed src (TK_CTRL k) true = true)
    (h1 : wbit w 1 = false) (h0 : wbit w 0 = true) (hw : (s.take k).waitArm = none) (hq : s.solvesQueued k = false)
    (hc : s.armCheck k ArmReq.init = Code.OK) : exec (.tktCtrlArm src k w) s = .next (s.armTake k ArmReq.init) := by
  rw [exec_tktCtrlArm_of_served h, State.tkCtrlWrite_arm h1 h0, State.requestArm_of_none hw hq, State.tryArm_of_ok hc,
    State.armAnswer_of_none rfl]

/-- The resume of a waiting arm. -/
theorem takeArmResume_tries {k : Fin 256} {req : ArmReq} {s : State} (hw : (s.take k).waitArm = some req) (hq : s.solvesQueued k = false) :
    exec (.takeArmResume k) s = .next ((s.setTake k { s.take k with waitArm := none }).tryArm k req) := by
  change execTakeArmResume k s = _
  simp [execTakeArmResume, hw, hq]

end Sys2Proof.Machine
end

section
open Sys2Proof Sys2Proof.Machine

/-- Settles O21: each clause is one path of the arm, by the lemmas about its checks, its refusal and its acceptance. -/
theorem takeArmIsCheckedAndLatched : Obligations.TakeArmIsCheckedAndLatched := by
  unfold Obligations.TakeArmIsCheckedAndLatched
  refine ⟨?accepted, ?failing, ?busy, ?aborted, ?queued, ?resumed, ?resumeFails⟩
  case accepted =>
    intro src k w s h h1 h0 hw hq hc
    obtain ⟨htake, hst, hcode, hnch, hstart, hstop⟩ := s.armTake_shows k ArmReq.init
    refine ⟨_, tktCtrlArm_accepts src k w s h h1 h0 hw hq hc, hst, ?_, hnch, hcode, ?_, ?_, ?_, ?_, ?_, ?_, ?_, ?_, hstart, hstop,
      fun n hn => s.armTake_prerolls k ArmReq.init hn, State.eq_of_without_armParts (s.armTake_without_armParts k ArmReq.init), s.armTake_sameTakes k ArmReq.init,
      fun m hm => s.armTake_cap_other k ArmReq.init hm, fun m hm => s.armTake_rg_other k ArmReq.init hm⟩ <;>
      simp only [htake, State.armedTake, State.pair, Take.init]
  case failing =>
    intro src k w s h h1 h0 hw hq hc
    obtain ⟨hcode, hst⟩ := s.refuseArm_get k ArmReq.init (s.armCheck k ArmReq.init)
    refine ⟨_, ?_, hcode, hst, s.refuseArm_regsOnly k _⟩
    rw [exec_tktCtrlArm_of_served h, State.tkCtrlWrite_arm h1 h0, State.requestArm_of_none hw hq, State.tryArm_of_fail hc]
  case busy =>
    intro src k w s h h1 h0 hb
    obtain ⟨hcode, hst⟩ := s.refuseArm_get k ArmReq.init Code.TAKE_BUSY
    refine ⟨_, ?_, hcode, hst, s.refuseArm_regsOnly k _⟩
    rw [exec_tktCtrlArm_of_served h, State.tkCtrlWrite_arm h1 h0, State.requestArm_of_busy hb]
  case aborted =>
    intro src k w s h h1 h0 h3
    have hu : s.takeAbort k = s.takeForce k (if (s.take k).stop = 3 then Code.OK else Code.CANCELLED) := by simp [State.takeAbort, h3]
    generalize (if (s.take k).stop = 3 then Code.OK else Code.CANCELLED) = c at hu
    have h4 := s.takeForce_takeState k c
    obtain ⟨hcode, hst⟩ := (s.takeForce k c).refuseArm_get k ArmReq.init Code.TAKE_BUSY
    refine ⟨_, ?_, hst.trans h4, hcode, fun m hm => ((s.takeForce k c).refuseArm_take k _ _ m).trans (s.takeForce_sameTakes k c m hm)⟩
    rw [exec_tktCtrlArm_of_served h]
    simp only [State.tkCtrlWrite, h1, h0, ↓reduceIte, hu, State.requestArm_of_busy (.inl (State.takeBusy_of_closing h4))]
  case queued =>
    intro src k w s h h1 h0 hw hb hq
    refine ⟨s.setTake k { s.take k with waitArm := some ArmReq.init }, ?_, by rw [State.setTake_take], rfl,
      fun m hm => State.setTake_take_other _ _ (List.ne_of_not_mem_cons hm)⟩
    rw [exec_tktCtrlArm_of_served h, State.tkCtrlWrite_arm h1 h0]
    simp [State.requestArm, hw, hb, hq]
  case resumed =>
    intro k req s hw hq hc
    have hjoin : (s.setTake k { s.take k with waitArm := none }).joined k = s.joined k := State.setTake_joined _ _ _ _
    have hrun := takeArmResume_tries hw hq
    have hother : SameTakes [k.val] s (s.setTake k { s.take k with waitArm := none }) := fun m hm =>
      State.setTake_take_other _ _ (List.ne_of_not_mem_cons hm)
    have hframe : (s.setTake k { s.take k with waitArm := none }).without armParts = s.without armParts := State.setTake_without (by decide) s _ _
    rw [State.tryArm_of_ok (by simpa using hc)] at hrun
    generalize s.setTake k { s.take k with waitArm := none } = u at hjoin hrun hother hframe
    obtain ⟨htake, hst, hcode, -⟩ := u.armTake_shows k req
    have hword := (u.armTake k req).armAnswer_status k req Code.OK k
    refine ⟨_, hrun, ?_, ?_, ?_, ?_, ?_, fun hnone => ?_, fun m hm => ?_⟩
    · rw [State.takeState, State.get_of_word (r := TK_STAT_STATE k) hword]; exact hst
    · rw [State.armAnswer_take, htake]; rfl
    · rw [State.armAnswer_take, htake]; rfl
    · rw [State.armAnswer_take, htake, ← hjoin, State.armedTake]
    · rw [State.get_of_word (r := TK_STAT_CODE k) hword, hcode]
    · rw [State.armAnswer_of_none hnone]
      exact State.eq_of_without_armParts ((u.armTake_without_armParts k req).trans hframe)
    · rw [State.armAnswer_take, u.armTake_sameTakes k req m hm, hother m hm]
  case resumeFails =>
    intro k req s hw hq hc
    have hrun := takeArmResume_tries hw hq
    have hc' : (s.setTake k { s.take k with waitArm := none }).armCheck k req = s.armCheck k req := State.setTake_armCheck _ _ _ _ _
    rw [State.tryArm_of_fail (by rwa [hc']), hc'] at hrun
    obtain ⟨hcode, hst⟩ := (s.setTake k { s.take k with waitArm := none }).refuseArm_get k req (s.armCheck k req)
    refine ⟨_, hrun, hst.trans (State.setTake_takeState _ _ _ _), ?_, hcode, fun hnone => ?_, fun m hm => ?_⟩
    · rw [State.refuseArm_take, State.setTake_take]
    · rw [State.refuseArm_of_none hnone]
      exact ⟨rfl, fun a ha => by rw [State.put_word_other _ _ (List.ne_of_not_mem_cons ha), State.setTake_word]⟩
    · rw [State.refuseArm_take, State.setTake_take_other _ _ (List.ne_of_not_mem_cons hm)]

end

section
/-! Halts of groups and what parks and releases their members: frames and effects (04, R122 to R126; 05, R153, R154). -/

namespace Sys2Proof.Machine

variable {l : List Part}

/-! ### Registers that no record touches -/

/-- Neither the event log nor a record to a port touches the register. -/
def apartFromRecords (a : Nat) : Prop := 0x50000 ≤ a ∧ ∀ p, a ≠ TSP_RESDROP p ∧ a ≠ TSP_FLAGS p

theorem apartFromRecords_of_lt {a : Nat} (h : 0x50000 ≤ a) (h' : a < 0xC0000) : apartFromRecords a :=
  ⟨h, fun p => by simp only [TSP_RESDROP, TSP_FLAGS]; omega⟩

theorem apartFromRecords_GRP_HALT (g : Nat) : apartFromRecords (GRP_HALT g) :=
  ⟨by simp only [GRP_HALT]; omega, fun p => by simp only [GRP_HALT, TSP_RESDROP, TSP_FLAGS]; omega⟩

theorem apartFromRecords_CH_STAT (n : Nat) : apartFromRecords (CH_STAT n) :=
  ⟨by simp only [CH_STAT]; omega, fun p => by simp only [CH_STAT, TSP_RESDROP, TSP_FLAGS]; omega⟩

/-! ### The record of a halt -/

theorem State.errRecord_without (hr : .regs ∈ l) (ht : .tsps ∈ l) (he : .ep ∈ l) (hm : .msixPend ∈ l) (ho : .out ∈ l) (s : State)
    (g code cyc count : Nat) : (s.errRecord g code cyc count).without l = s.without l := by
  simp only [State.errRecord, State.ite_without, State.pushResult_without hr ht he hm ho, ite_self]

theorem State.errRecord_word (s : State) (g code cyc count : Nat) {a : Nat} (h : apartFromRecords a) :
    (s.errRecord g code cyc count).word a = s.word a := by
  rw [State.errRecord]
  split
  · exact s.pushResult_word _ _ h.1 (h.2 _).1 (h.2 _).2
  · rfl

theorem State.haltRecord_without (hr : .regs ∈ l) (ht : .tsps ∈ l) (he : .ep ∈ l) (hm : .msixPend ∈ l) (ho : .out ∈ l) (s : State) (g c : Nat)
    (rel : Bool) : (s.haltRecord g c rel).without l = s.without l := by
  rw [State.haltRecord, State.errRecord_without hr ht he hm ho, State.log_without hr he hm ho]

theorem State.haltRecord_word (s : State) (g c : Nat) (rel : Bool) {a : Nat} (h : apartFromRecords a) : (s.haltRecord g c rel).word a = s.word a := by
  rw [State.haltRecord, State.errRecord_word _ _ _ _ _ h, State.log_word _ _ _ _ _ h.1]

theorem State.haltRecord_units (s : State) (g c : Nat) (rel : Bool) :
    (s.haltRecord g c rel).without [.regs, .tsps, .ep, .msixPend, .out] = s.without [.regs, .tsps, .ep, .msixPend, .out] :=
  s.haltRecord_without (by decide) (by decide) (by decide) (by decide) (by decide) g c rel

/-! ### Park and release -/

@[simp] theorem State.modPark_eq (s : State) (n : Nat) (f : Park → Park) :
    s.modPark n f = s.setChan n { s.chan n with pk := f (s.chan n).pk } := by rw [State.modPark, State.modChan_eq]

theorem State.parkWant_without (hc : .chans ∈ l) (s : State) (n c : Nat) (d : Due) : (s.parkWant n c d).without l = s.without l := by
  simp only [State.parkWant, State.modPark_eq, State.ite_without, State.setChan_without hc, ite_self]

theorem State.haltLater_without (hc : .chans ∈ l) (s : State) (g n : Nat) : (s.haltLater g n).without l = s.without l := by
  rw [State.haltLater, State.modPark_eq, State.setChan_without hc]

theorem State.parkWant_chan_other (s : State) {n m : Nat} (h : m ≠ n) (c : Nat) (d : Due) : (s.parkWant n c d).chan m = s.chan m := by
  rw [State.parkWant]
  split
  · rfl
  · rw [State.modPark_eq, State.setChan_chan_other _ _ h]

theorem State.haltLater_chan_other (s : State) (g : Nat) {n m : Nat} (h : m ≠ n) : (s.haltLater g n).chan m = s.chan m := by
  rw [State.haltLater, State.modPark_eq, State.setChan_chan_other _ _ h]

theorem State.parkRelease_without (hr : .regs ∈ l) (hc : .chans ∈ l) (s : State) (n c : Nat) : (s.parkRelease n c).without l = s.without l := by
  simp only [State.parkRelease, State.leaveIfFree, State.putCause, State.modPark_eq, State.ite_without, State.setChan_without hc,
    State.put_without hr, ite_self]

theorem State.parkRelease_word (s : State) (n c : Nat) {a : Nat} (h : a ≠ CH_STAT n) : (s.parkRelease n c).word a = s.word a := by
  have hp (u : State) (v : Nat) : (u.put (CH_STAT_PCAUSE n) v).word a = u.word a := u.put_word_other v h
  simp only [State.parkRelease, State.leaveIfFree, State.putCause, State.modPark_eq]
  split_ifs <;> simp only [State.setChan_word, hp]

theorem State.parkRelease_chan_other (s : State) {n m : Nat} (h : m ≠ n) (c : Nat) : (s.parkRelease n c).chan m = s.chan m := by
  simp only [State.parkRelease, State.leaveIfFree, State.putCause, State.modPark_eq]
  split_ifs <;> simp [State.setChan_chan_other _ _ h]

/-- The causes of a channel are a field of its status. -/
theorem State.cause_of_word {s t : State} {n : Nat} (h : t.word (CH_STAT n) = s.word (CH_STAT n)) (c : Nat) : t.cause n c = s.cause n c := by
  rw [State.cause, State.cause, State.get_of_word (r := CH_STAT_PCAUSE n) h]

theorem State.putCause_cause (s : State) (n c : Nat) : (s.putCause n c false).cause n c = false := by
  have hb : (fieldPut (s.get (CH_STAT_PCAUSE n)) c 1 0 % 2 ^ 7).testBit c = false := by
    rw [Nat.testBit_mod_two_pow, fieldPut_testBit]
    simp
  rw [Nat.testBit_eq_decide_div_mod_eq, decide_eq_false_iff_not] at hb
  rw [State.cause, State.putCause, State.put_get _ (by simp [Ref.fits, CH_STAT_PCAUSE])]
  exact beq_eq_false_iff_ne.2 hb

/-- A cause that is released stands no more. -/
theorem State.parkRelease_cause (s : State) (n c : Nat) : (s.parkRelease n c).cause n c = false := by
  rw [← s.putCause_cause n c]
  apply State.cause_of_word
  simp only [State.parkRelease, State.leaveIfFree, State.modPark_eq]
  split_ifs <;> simp only [State.setChan_word]

/-! ### The halt of a group -/

/-- A running member of a halted group in the hub that observes it, or that has its notice (04, R122). -/
def State.haltMember (g x : Nat) (t : State) (n : Nat) : State :=
  let t1 := t.parkWant n causeHalt (.time (x + 48))
  if (t1.group g).relAcc || !t1.bit (GRP_HALT_HALTED g) then t1.haltLater g n else t1

theorem State.haltMembers_eq (s : State) (g b x : Nat) :
    s.haltMembers g b x = ((s.membersIn g b).filter (fun n => (s.chan n).cyc.on)).foldl (State.haltMember g x) s := rfl

theorem State.haltMember_without (hc : .chans ∈ l) (g x : Nat) (s : State) (n : Nat) : (State.haltMember g x s n).without l = s.without l := by
  simp only [State.haltMember, State.ite_without, State.haltLater_without hc, State.parkWant_without hc, ite_self]

theorem State.haltMember_chan_other (g x : Nat) (s : State) {n m : Nat} (h : m ≠ n) : (State.haltMember g x s n).chan m = s.chan m := by
  rw [State.haltMember]
  split
  · rw [State.haltLater_chan_other _ _ h, State.parkWant_chan_other _ h]
  · rw [State.parkWant_chan_other _ h]

theorem State.haltMembers_without (hc : .chans ∈ l) (s : State) (g b x : Nat) : (s.haltMembers g b x).without l = s.without l :=
  foldl_keeps (fun u => u.without l) (fun u n _ => State.haltMember_without hc g x u n) s

/-- Changes that are to come stay so when another follows. -/
theorem State.haltLater_chg (s : State) (g n m : Nat) {w : ParkChg} (h : w ∈ (s.chan m).pk.chg) : w ∈ ((s.haltLater g n).chan m).pk.chg := by
  by_cases hn : m = n
  · subst hn
    simp [State.haltLater, h]
  · rwa [State.haltLater_chan_other _ _ hn]

theorem State.parkWant_chg (s : State) (n c : Nat) (d : Due) (m : Nat) {w : ParkChg} (h : w ∈ (s.chan m).pk.chg) :
    w ∈ ((s.parkWant n c d).chan m).pk.chg := by
  by_cases hn : m = n
  · subst hn
    rw [State.parkWant]
    split
    · exact h
    · simp [h]
  · rwa [State.parkWant_chan_other _ hn]

theorem State.haltMember_chg (g x : Nat) (s : State) (n m : Nat) {w : ParkChg} (h : w ∈ (s.chan m).pk.chg) :
    w ∈ ((State.haltMember g x s n).chan m).pk.chg := by
  rw [State.haltMember]
  split
  · exact State.haltLater_chg _ _ _ _ (s.parkWant_chg n _ _ m h)
  · exact s.parkWant_chg n _ _ m h

/-- A member for which HALT does not stand is to park (04, R122). -/
theorem State.haltMember_parks (g x : Nat) {s : State} {n : Nat} (h : s.causeStands n causeHalt = false) :
    (⟨causeHalt, .time (x + 48), true⟩ : ParkChg) ∈ ((State.haltMember g x s n).chan n).pk.chg := by
  have hw : (⟨causeHalt, .time (x + 48), true⟩ : ParkChg) ∈ ((s.parkWant n causeHalt (.time (x + 48))).chan n).pk.chg := by
    simp [State.parkWant, h]
  rw [State.haltMember]
  split
  · exact State.haltLater_chg _ _ _ _ hw
  · exact hw

/-- Whether a cause stands is a matter of the channel's changes to come and of its status. -/
theorem State.causeStands_of_same {s t : State} {n : Nat} (hc : t.chan n = s.chan n) (hw : t.word (CH_STAT n) = s.word (CH_STAT n)) (c : Nat) :
    t.causeStands n c = s.causeStands n c := by
  rw [State.causeStands, State.causeStands, hc, State.cause_of_word hw]

theorem State.haltMembers_parks (s : State) (g b x : Nat) {n : Nat} (hn : n ∈ s.membersIn g b) (hon : (s.chan n).cyc.on = true)
    (h : s.causeStands n causeHalt = false) : (⟨causeHalt, .time (x + 48), true⟩ : ParkChg) ∈ ((s.haltMembers g b x).chan n).pk.chg := by
  rw [State.haltMembers_eq]
  refine foldl_reaches (P := fun u => (⟨causeHalt, .time (x + 48), true⟩ : ParkChg) ∈ (u.chan n).pk.chg)
    (fun u => (u.chan n, u.word (CH_STAT n))) (List.mem_filter.2 ⟨hn, hon⟩) (fun u y hy => ?_) (fun u hu => ?_)
    fun u y hu => State.haltMember_chg g x u y n hu
  · rw [State.haltMember_chan_other _ _ _ hy.symm]
    rw [State.word_of_without (State.haltMember_without (l := [.chans]) (by decide) g x u y) (by decide)]
  · obtain ⟨hc, hw⟩ := Prod.mk.injEq _ _ _ _ ▸ hu
    exact State.haltMember_parks g x (by rwa [State.causeStands_of_same hc hw])

theorem State.haltMembers_chan_other (s : State) (g b x : Nat) {m : Nat} (h : m ∈ s.membersIn g b → (s.chan m).cyc.on = false) :
    (s.haltMembers g b x).chan m = s.chan m := by
  rw [State.haltMembers_eq]
  refine foldl_keeps (fun u => u.chan m) (fun u n hn => State.haltMember_chan_other g x u ?_) s
  rintro rfl
  obtain ⟨hm, hon⟩ := List.mem_filter.1 hn
  simp [h hm] at hon

theorem State.haltPast_without (hr : .regs ∈ l) (hg : .groups ∈ l) (ht : .tsps ∈ l) (he : .ep ∈ l) (hm : .msixPend ∈ l) (ho : .out ∈ l) (s : State)
    (g : Nat) : (s.haltPast g).without l = s.without l := by
  unfold State.haltPast
  generalize s.lowest g = o
  cases o with
  | none => rfl
  | some n =>
    dsimp only
    split
    · rfl
    · rw [State.haltAt, State.haltRecord_without hr ht he hm ho, State.modGroup_eq, State.setGroup_without hg, State.put_without hr]

theorem State.haltPast_word (s : State) (g : Nat) {a : Nat} (h : a ≠ GRP_HALTCYC g) (hp : apartFromRecords a) : (s.haltPast g).word a = s.word a := by
  unfold State.haltPast
  generalize s.lowest g = o
  cases o with
  | none => rfl
  | some n =>
    dsimp only
    split
    · rfl
    · rw [State.haltAt, State.haltRecord_word _ _ _ _ hp, State.modGroup_eq, State.setGroup_word, State.put_word_other _ _ h]

/-- What a group shows when it halts. -/
def State.showHalt (s : State) (g b : Nat) : State := ((s.put (GRP_HALT_HALTED g) 1).put (GRP_HALT_CAUSE g) b).inc (GRP_HALT_HALTCNT g)

theorem State.showHalt_get (s : State) (g : Nat) {b : Nat} (h : b < 8) :
    (s.showHalt g b).bit (GRP_HALT_HALTED g) = true ∧ (s.showHalt g b).get (GRP_HALT_CAUSE g) = b := by
  simp (disch := (refine id ?_; simp [Ref.fits, Ref.apart, GRP_HALT_HALTED, GRP_HALT_CAUSE, GRP_HALT_HALTCNT]))
    only [State.showHalt, State.inc_eq, State.bit, State.put_get, State.put_get_other]
  exact ⟨by simp [GRP_HALT_HALTED], Nat.mod_eq_of_lt h⟩

theorem State.haltGroup_without (hr : .regs ∈ l) (hg : .groups ∈ l) (hc : .chans ∈ l) (ht : .tsps ∈ l) (he : .ep ∈ l) (hm : .msixPend ∈ l)
    (ho : .out ∈ l) (s : State) (b x g : Nat) : (s.haltGroup b x g).without l = s.without l := by
  simp only [State.haltGroup, State.inc_eq, State.modGroup_eq, State.haltPast_without hr hg ht he hm ho, State.haltMembers_without hc,
    State.setGroup_without hg, State.put_without hr]

/-- A halt touches its group's two registers, and those of records. -/
theorem State.haltGroup_word (s : State) (b x g : Nat) {a : Nat} (hc : a ≠ GRP_HALTCYC g) (hp : apartFromRecords a) :
    (s.haltGroup b x g).word a = (s.showHalt g b).word a := by
  simp only [State.haltGroup]
  rw [State.haltPast_word _ _ hc hp, State.word_of_without (State.haltMembers_without (l := [.chans]) (by decide) _ _ _ _) (by decide),
    State.modGroup_eq, State.setGroup_word]
  rfl

theorem State.haltGroup_word_other (s : State) (b x g : Nat) {a : Nat} (h : a ≠ GRP_HALT g) (hc : a ≠ GRP_HALTCYC g) (hp : apartFromRecords a) :
    (s.haltGroup b x g).word a = s.word a := by
  rw [State.haltGroup_word _ _ _ _ hc hp, State.showHalt, State.inc_eq, State.put_word_other _ _ h, State.put_word_other _ _ h,
    State.put_word_other _ _ h]

/-- The group is halted on the opening in bank b. -/
def State.haltedOn (g b : Nat) (s : State) : Prop := s.bit (GRP_HALT_HALTED g) = true ∧ s.get (GRP_HALT_CAUSE g) = b

theorem State.haltedOn_of_word {g b : Nat} {s t : State} (h : t.word (GRP_HALT g) = s.word (GRP_HALT g)) (hs : s.haltedOn g b) :
    t.haltedOn g b := by
  rwa [State.haltedOn, State.bit_of_word (r := GRP_HALT_HALTED g) h, State.get_of_word (r := GRP_HALT_CAUSE g) h]

theorem State.haltGroup_haltedOn (s : State) (x g : Nat) {b : Nat} (hb : b < 8) : (s.haltGroup b x g).haltedOn g b :=
  State.haltedOn_of_word (s.haltGroup_word b x g (by simp only [GRP_HALT, GRP_HALTCYC]; omega) (apartFromRecords_GRP_HALT g)) (s.showHalt_get g hb)

/-- Another halt on the same opening leaves it so. -/
theorem State.haltGroup_keeps_haltedOn {s : State} {g b : Nat} (x y : Nat) (hb : b < 8) (hs : s.haltedOn g b) : (s.haltGroup b x y).haltedOn g b := by
  by_cases h : g = y
  · exact h ▸ s.haltGroup_haltedOn x g hb
  · refine State.haltedOn_of_word (s.haltGroup_word_other b x y ?_ ?_ (apartFromRecords_GRP_HALT g)) hs <;>
      simp only [GRP_HALT, GRP_HALTCYC] <;> omega

/-! ### The opening and the close of a taint interval (01, R29, R30; 04, R118 to R121) -/

/-- The registers that an opening writes. -/
def taintRegs (b : Nat) : List Nat := [BNK_STAT b, BNK_TAINTCNT b, BNK_FLAGS b, BNK_TOPENLO b, BNK_TOPENHI b, BNK_TCLOSELO b, BNK_TCLOSEHI b]

theorem State.openTaint_without (hr : .regs ∈ l) (hb : .banks ∈ l) (hm : .msixPend ∈ l) (ho : .out ∈ l) (s : State) (b x : Nat) :
    (s.openTaint b x).without l = s.without l := by
  simp only [State.openTaint, State.inc_eq, State.flagBnk, State.putPair_eq, State.modBank_eq, State.setBank_without hb, State.put_without hr,
    State.flag_without hr hm ho]

theorem State.openTaint_bank (s : State) (b x : Nat) :
    ((s.openTaint b x).bank b).openAt = some (x - s.guardOf b) ∧ SameBanks [b] s (s.openTaint b x) := by
  have hf (u : State) (v : Nat) (r : Ref) (m : Nat) : (u.flag v r).bank m = u.bank m :=
    State.bank_of_without (State.flag_without (l := [.regs, .msixPend, .out]) (by decide) (by decide) (by decide) u v r) (by decide) m
  constructor
  · simp [State.openTaint]
  · intro m hm
    simp [State.openTaint, State.flagBnk, State.setBank_bank_other _ _ (List.ne_of_not_mem_cons hm), hf]

theorem State.openTaint_word (s : State) (b x : Nat) {a : Nat} (h : a ∉ taintRegs b) : (s.openTaint b x).word a = s.word a := by
  simp only [taintRegs, List.mem_cons, List.not_mem_nil, or_false, not_or] at h
  obtain ⟨h1, h2, h3, h4, h5, h6, h7⟩ := h
  have hp (u : State) (v : Nat) {r : Ref} (hr : a ≠ r.addr) : (u.put r v).word a = u.word a := u.put_word_other v hr
  simp only [State.openTaint, State.inc_eq, State.flagBnk, State.putPair_eq, State.modBank_eq, State.setBank_word]
  rw [hp _ _ h7, hp _ _ h6, hp _ _ h5, hp _ _ h4, State.flag_word _ _ _ h3, hp _ _ h2, hp _ _ h1]

theorem State.flag_get (s : State) (v : Nat) (r q : Ref) : (s.flag v r).get q = (s.put r 1).get q := by
  simp only [State.flag, State.rose]
  split
  · exact State.get_of_word (State.irq_word _ _ _)
  · rfl

/-- The registers of an opening, back-dated by the guard. -/
theorem State.openTaint_get (s : State) (b x : Nat) :
    (s.openTaint b x).bit (BNK_STAT_TAINT b) = true ∧ (s.openTaint b x).bit (BNK_FLAGS_TOPENED b) = true ∧
      (s.openTaint b x).get (BNK_TAINTCNT_COUNT b) = min (s.get (BNK_TAINTCNT_COUNT b) + 1) (2 ^ (BNK_TAINTCNT_COUNT b).len - 1) ∧
      (s.openTaint b x).get (BNK_TOPENLO_CNT b) + (s.openTaint b x).get (BNK_TOPENHI_CNT b) * 2 ^ 32
        = (((x : Int) - s.guardOf b) % 2 ^ 48).toNat ∧
      (s.openTaint b x).get (BNK_TCLOSELO_CNT b) = 0xFFFFFFFF ∧ (s.openTaint b x).get (BNK_TCLOSEHI_CNT b) = 0xFFFF := by
  simp (disch := (refine id ?_; simp [Ref.fits, Ref.apart, BNK_STAT_TAINT, BNK_FLAGS_TOPENED, BNK_TAINTCNT_COUNT, BNK_TOPENLO_CNT, BNK_TOPENHI_CNT,
      BNK_TCLOSELO_CNT, BNK_TCLOSEHI_CNT, BNK_STAT, BNK_FLAGS, BNK_TAINTCNT, BNK_TOPENLO, BNK_TOPENHI, BNK_TCLOSELO, BNK_TCLOSEHI]))
    only [State.openTaint, State.inc_eq, State.flagBnk, State.putPair_eq, State.modBank_eq, State.setBank_get, State.flag_get, State.bit,
      State.put_get, State.put_get_other]
  simp only [BNK_STAT_TAINT, BNK_FLAGS_TOPENED, BNK_TAINTCNT_COUNT, BNK_TOPENLO_CNT, BNK_TOPENHI_CNT, BNK_TCLOSELO_CNT, BNK_TCLOSEHI_CNT]
  refine ⟨by decide, by decide, ?_, ?_, by decide, by decide⟩ <;> omega


/-- The registers of a close. -/
theorem State.closeTaint_get (s : State) (b x : Nat) :
    (s.closeTaint b x).bit (BNK_STAT_TAINT b) = false ∧ (s.closeTaint b x).get (BNK_TCLOSELO_CNT b) = x % 2 ^ 32 ∧
      (s.closeTaint b x).get (BNK_TCLOSEHI_CNT b) = x / 2 ^ 32 % 2 ^ 16 := by
  simp (disch := (refine id ?_; simp [Ref.fits, Ref.apart, BNK_STAT_TAINT, BNK_TCLOSELO_CNT, BNK_TCLOSEHI_CNT, BNK_STAT, BNK_TCLOSELO, BNK_TCLOSEHI]))
    only [State.closeTaint, State.putPair_eq, State.modBank_eq, State.setBank_get, State.bit, State.put_get, State.put_get_other]
  simp [BNK_TCLOSELO_CNT, BNK_TCLOSEHI_CNT]

theorem State.closeTaint_word (s : State) (b x : Nat) {a : Nat} (h : a ∉ [BNK_STAT b, BNK_TCLOSELO b, BNK_TCLOSEHI b]) :
    (s.closeTaint b x).word a = s.word a := by
  simp only [List.mem_cons, List.not_mem_nil, or_false, not_or] at h
  obtain ⟨h1, h2, h3⟩ := h
  have hp (u : State) (v : Nat) {r : Ref} (hr : a ≠ r.addr) : (u.put r v).word a = u.word a := u.put_word_other v hr
  simp only [State.closeTaint, State.putPair_eq, State.modBank_eq, State.setBank_word]
  rw [hp _ _ h3, hp _ _ h2, hp _ _ h1]

theorem State.closeTaint_without (hr : .regs ∈ l) (hb : .banks ∈ l) (s : State) (b x : Nat) : (s.closeTaint b x).without l = s.without l := by
  simp only [State.closeTaint, State.putPair_eq, State.modBank_eq, State.setBank_without hb, State.put_without hr]

theorem State.closeTaint_bank (s : State) (b x : Nat) :
    ((s.closeTaint b x).bank b).openAt = none ∧ (∀ o, (s.bank b).openAt = some o → ((s.closeTaint b x).bank b).past.head? = some (o, x)) ∧
      SameBanks [b] s (s.closeTaint b x) := by
  refine ⟨by simp [State.closeTaint], fun o ho => by simp [State.closeTaint, ho], fun m hm => ?_⟩
  simp [State.closeTaint, State.setBank_bank_other _ _ (List.ne_of_not_mem_cons hm)]

/-! ### A write of GRPg_HALT -/

/-- A write leaves a read-only field as it was, whatever the fields beside it are (00, R11). -/
theorem writeFields_ro {fs : List FieldSpec} {lo len : Nat}
    (h : ∀ f ∈ fs, (lo + len ≤ f.lo ∨ f.lo + f.len ≤ lo) ∨ f.lo = lo ∧ f.len = len ∧ f.acc = .ro) (old w m : Nat) (lk : Bool) :
    writeFields fs old w m lk / 2 ^ lo % 2 ^ len = old / 2 ^ lo % 2 ^ len := by
  induction fs generalizing old with
  | nil => rfl
  | cons f fs ih =>
    rw [writeFields, ih fun g hg => h g (List.mem_cons_of_mem f hg)]
    rcases h f List.mem_cons_self with hf | ⟨rfl, rfl, hro⟩
    · exact fieldPut_other hf
    · rw [fieldPut_same, fieldWrite, hro]
      simp

theorem writeFields_lt {fs : List FieldSpec} {k : Nat} (h : ∀ f ∈ fs, f.lo + f.len ≤ k) {old : Nat} (ho : old < 2 ^ k) (w m : Nat) (lk : Bool) :
    writeFields fs old w m lk < 2 ^ k := by
  induction fs generalizing old with
  | nil => exact ho
  | cons f fs ih => exact ih (fun g hg => h g (List.mem_cons_of_mem f hg)) (fieldPut_lt ho (h f List.mem_cons_self))

/-- Of the fields of GRPg_HALT, HALTED is read-only, the others lie below it; none is locked. -/
theorem fieldsAt_GRP_HALT (g : Fin 64) : (∀ f ∈ fieldsAt (GRP_HALT g),
    (31 + 1 ≤ f.lo ∨ f.lo + f.len ≤ 31) ∨ f.lo = 31 ∧ f.len = 1 ∧ f.acc = .ro) ∧ ∀ f ∈ fieldsAt (GRP_HALT g), f.lo + f.len ≤ 32 := by
  revert g
  decide

/-- A write of GRPg_HALT reaches that register alone, and HALTED stays. -/
theorem State.writeReg_GRP_HALT (s : State) (g : Fin 64) (w : Word) :
    (∀ a, a ≠ GRP_HALT g → (s.writeReg (GRP_HALT g) w fullMask).word a = s.word a) ∧
      (s.writeReg (GRP_HALT g) w fullMask).get (GRP_HALT_HALTED g) = s.get (GRP_HALT_HALTED g) ∧
      (s.writeReg (GRP_HALT g) w fullMask).without [.regs] = s.without [.regs] := by
  have hlock : s.locked (GRP_HALT g) = false := by
    have : lockOf (GRP_HALT g) = none := by revert g; decide
    rw [State.locked, this]
  obtain ⟨hro, h32⟩ := fieldsAt_GRP_HALT g
  simp only [State.writeReg, hlock, Bool.false_and, Bool.false_eq_true, ↓reduceIte]
  refine ⟨fun a ha => State.setWord_word_other _ _ ha, ?_, State.setWord_without (by decide) _ _ _⟩
  have hlt := writeFields_lt h32 (s.word (GRP_HALT g)).isLt w.toNat fullMask false
  rw [State.get, State.get]
  simp only [GRP_HALT_HALTED, State.setWord_word, BitVec.toNat_ofNat, Nat.mod_eq_of_lt hlt]
  exact writeFields_ro hro _ _ _ _

end Sys2Proof.Machine
end
section
/-! The release of a halt (04, R124), and O11. -/

namespace Sys2Proof.Machine

variable {l : List Part}

/-- The release reaches a member: at once where HALT has parked it, else after its park cycle. -/
def State.releaseMember (g at_ : Nat) (t : State) (n : Nat) : State :=
  if t.cause n causeHalt then
    (t.parkRelease n causeHalt).modPark n (fun p => { p with notBefore := if (t.chan n).cyc.on then at_ + 48 else 0 })
  else if t.causeStands n causeHalt then t.haltLater g n else t

/-- The release is noted with its count, and reaches every member. -/
def State.releaseMembers (s : State) (g : Nat) : State :=
  (s.members g).foldl (State.releaseMember g (s.tbOf (s.leadBank g)))
    (s.modGroup g (fun y => { y with relAcc := true, relAt := s.tbOf (s.leadBank g) }))

theorem State.releaseHalt_refused {s : State} {g : Nat} (ht : (s.memberBanks g).any (fun b => s.bit (BNK_STAT_TAINT b)) = true) :
    s.releaseHalt g = s.put (GRP_HALT_RELREF g) 1 := by
  unfold State.releaseHalt
  rw [if_pos ht]

theorem State.releaseHalt_of_done {s : State} {g : Nat} (ht : (s.memberBanks g).any (fun b => s.bit (BNK_STAT_TAINT b)) = false)
    (h : s.bit (GRP_HALT_HALTED g) = false ∨ (s.group g).relAcc = true) : s.releaseHalt g = s := by
  unfold State.releaseHalt
  rw [ht, if_neg Bool.false_ne_true, if_pos h]

/-- The halt of a group whose lowest-numbered member runs no cycle ends at once; else that member ends it when it leaves park. -/
def State.endIfStopped (s : State) (g : Nat) : State :=
  match s.lowest g with
  | none => s.haltEnd g 0
  | some n => if (s.chan n).cyc.on then s else s.haltEnd g (s.chan n).cyc.k

theorem State.endIfStopped_of_on {s : State} {g n : Nat} (h : s.lowest g = some n) (hon : (s.chan n).cyc.on = true) : s.endIfStopped g = s := by
  unfold State.endIfStopped
  rw [h]
  exact if_pos hon

theorem State.endIfStopped_of_off {s : State} {g n : Nat} (h : s.lowest g = some n) (hoff : (s.chan n).cyc.on = false) :
    s.endIfStopped g = s.haltEnd g (s.chan n).cyc.k := by
  unfold State.endIfStopped
  rw [h]
  exact if_neg (by rw [hoff]; exact Bool.false_ne_true)

theorem State.releaseHalt_accepted {s : State} {g : Nat} (ht : (s.memberBanks g).any (fun b => s.bit (BNK_STAT_TAINT b)) = false)
    (hh : s.bit (GRP_HALT_HALTED g) = true) (hr : (s.group g).relAcc = false) :
    s.releaseHalt g = (s.releaseMembers g).endIfStopped g := by
  have hat : ((s.modGroup g (fun y => { y with relAcc := true, relAt := s.tbOf (s.leadBank g) })).group g).relAt = s.tbOf (s.leadBank g) := by simp
  have hm : (s.modGroup g (fun y => { y with relAcc := true, relAt := s.tbOf (s.leadBank g) })).members g = s.members g :=
    State.members_of_word (fun n => by rw [State.modGroup_eq, State.setGroup_word]) g
  unfold State.releaseHalt
  rw [ht, hh, hr, if_neg Bool.false_ne_true, if_neg (by decide)]
  dsimp only
  rw [hm, hat]
  unfold State.releaseMembers State.releaseMember State.endIfStopped
  generalize List.foldl _ _ _ = u
  generalize u.lowest g = o
  cases o <;> rfl

/-- The release of a parked member, of one that is to park, and of any other. -/
theorem State.releaseMember_cases (g at_ : Nat) (s : State) (n : Nat) :
    (∃ x, State.releaseMember g at_ s n = (s.parkRelease n causeHalt).setChan n { (s.parkRelease n causeHalt).chan n with pk := x }) ∨
      s.cause n causeHalt = false ∧ (State.releaseMember g at_ s n = s.haltLater g n ∨ State.releaseMember g at_ s n = s) := by
  unfold State.releaseMember
  cases s.cause n causeHalt with
  | true =>
    rw [if_pos rfl]
    exact .inl ⟨_, State.modPark_eq _ _ _⟩
  | false => cases s.causeStands n causeHalt <;> simp

theorem State.releaseMember_without (hr : .regs ∈ l) (hc : .chans ∈ l) (g at_ : Nat) (s : State) (n : Nat) :
    (State.releaseMember g at_ s n).without l = s.without l := by
  obtain ⟨x, h⟩ | ⟨-, h | h⟩ := State.releaseMember_cases g at_ s n <;> rw [h]
  · rw [State.setChan_without hc, State.parkRelease_without hr hc]
  · exact s.haltLater_without hc g n

theorem State.releaseMember_word (g at_ : Nat) (s : State) {n a : Nat} (ha : a ≠ CH_STAT n) : (State.releaseMember g at_ s n).word a = s.word a := by
  obtain ⟨x, h⟩ | ⟨-, h | h⟩ := State.releaseMember_cases g at_ s n <;> rw [h]
  · rw [State.setChan_word, State.parkRelease_word _ _ _ ha]
  · exact State.word_of_without (s.haltLater_without (l := [.chans]) (by decide) g n) (by decide) a

theorem State.releaseMember_chan_other (g at_ : Nat) (s : State) {n m : Nat} (hm : m ≠ n) : (State.releaseMember g at_ s n).chan m = s.chan m := by
  obtain ⟨x, h⟩ | ⟨-, h | h⟩ := State.releaseMember_cases g at_ s n <;> rw [h]
  · rw [State.setChan_chan_other _ _ hm, State.parkRelease_chan_other _ hm]
  · exact s.haltLater_chan_other g hm

/-- HALT is no cause of a member that the release has reached. -/
theorem State.releaseMember_cause (g at_ : Nat) (s : State) (n : Nat) : (State.releaseMember g at_ s n).cause n causeHalt = false := by
  obtain ⟨x, h⟩ | ⟨hc, h | h⟩ := State.releaseMember_cases g at_ s n <;> rw [h]
  · rw [State.cause_of_word (State.setChan_word _ _ _ _), State.parkRelease_cause]
  · rw [State.cause_of_word (State.word_of_without (s.haltLater_without (l := [.chans]) (by decide) g n) (by decide) _), hc]
  · exact hc

theorem State.parkRelease_cyc (s : State) (n c : Nat) : ((s.parkRelease n c).chan n).cyc = (s.chan n).cyc := by
  simp only [State.parkRelease, State.leaveIfFree, State.putCause, State.modPark_eq]
  split_ifs <;> simp

/-- The release changes how a channel parks, not whether its cycles run. -/
theorem State.releaseMember_cyc (g at_ : Nat) (s : State) (n m : Nat) : ((State.releaseMember g at_ s n).chan m).cyc = (s.chan m).cyc := by
  by_cases hm : m = n
  · subst hm
    obtain ⟨x, h⟩ | ⟨-, h | h⟩ := State.releaseMember_cases g at_ s m <;> rw [h]
    · rw [State.setChan_chan, State.parkRelease_cyc]
    · simp [State.haltLater]
  · rw [State.releaseMember_chan_other _ _ _ hm]

theorem State.releaseMembers_without (hr : .regs ∈ l) (hg : .groups ∈ l) (hc : .chans ∈ l) (s : State) (g : Nat) :
    (s.releaseMembers g).without l = s.without l := by
  rw [State.releaseMembers, foldl_keeps (fun u : State => u.without l) fun u n _ => State.releaseMember_without hr hc g _ u n, State.modGroup_eq,
    State.setGroup_without hg]

theorem State.releaseMembers_word (s : State) (g : Nat) {a : Nat} (h : a ∉ (s.members g).map CH_STAT) : (s.releaseMembers g).word a = s.word a := by
  rw [State.releaseMembers, foldl_keeps (fun u : State => u.word a) fun u n hn =>
    State.releaseMember_word g _ u fun e => h (e ▸ List.mem_map_of_mem hn), State.modGroup_eq, State.setGroup_word]

theorem State.releaseMembers_chans (s : State) (g : Nat) : SameChans (s.members g) s (s.releaseMembers g) := fun m hm => by
  rw [State.releaseMembers, foldl_keeps (fun u : State => u.chan m) fun u n hn =>
    State.releaseMember_chan_other g _ u (ne_of_mem_of_not_mem hn hm).symm, State.modGroup_eq, State.setGroup_chan]

theorem State.releaseMembers_cyc (s : State) (g m : Nat) : ((s.releaseMembers g).chan m).cyc = (s.chan m).cyc := by
  rw [State.releaseMembers, foldl_keeps (fun u : State => (u.chan m).cyc) fun u n _ => State.releaseMember_cyc g _ u n m, State.modGroup_eq,
    State.setGroup_chan]

theorem State.releaseMembers_group (s : State) (g m : Nat) :
    (s.releaseMembers g).group m = (s.modGroup g (fun y => { y with relAcc := true, relAt := s.tbOf (s.leadBank g) })).group m := by
  rw [State.releaseMembers, foldl_keeps (fun u : State => u.group m) fun u n _ =>
    State.group_of_without (State.releaseMember_without (l := [.regs, .chans]) (by decide) (by decide) g _ u n) (by decide) m]

theorem State.releaseMembers_cause (s : State) (g : Nat) {m : Nat} (h : m ∈ s.members g) : (s.releaseMembers g).cause m causeHalt = false := by
  refine foldl_reaches (P := fun u : State => u.cause m causeHalt = false) (fun _ => ()) h (fun _ _ _ => rfl)
    (fun u _ => State.releaseMember_cause g _ u m) fun u x hu => ?_
  by_cases hx : m = x
  · exact hx ▸ State.releaseMember_cause g _ u m
  · rwa [State.cause_of_word (State.releaseMember_word g _ u (by simp only [CH_STAT]; omega))]

theorem State.releaseMembers_lowest (s : State) (g : Nat) : (s.releaseMembers g).lowest g = s.lowest g := by
  rw [State.lowest, State.lowest, State.members_of_word fun n => s.releaseMembers_word g ?_]
  simp only [List.mem_map, not_exists, not_and, CH_STAT, CH_GRP]
  omega

/-- The end of a halt: no longer halted, the release done. -/
theorem State.haltEnd_shows (s : State) (g c : Nat) :
    (s.haltEnd g c).bit (GRP_HALT_HALTED g) = false ∧ ((s.haltEnd g c).group g).relAcc = false ∧ ((s.haltEnd g c).group g).relAt = (s.group g).relAt ∧
      SameGroups [g] s (s.haltEnd g c) ∧ (∀ m, (s.haltEnd g c).chan m = s.chan m) ∧ ∀ n, (s.haltEnd g c).word (CH_STAT n) = s.word (CH_STAT n) := by
  have hgrp (u : State) (m : Nat) : (u.haltRecord g c true).group m = u.group m :=
    State.group_of_without (u.haltRecord_units g c true) (by decide) m
  refine ⟨?_, ?_, ?_, fun m hm => ?_, fun m => ?_, fun n => ?_⟩ <;> rw [State.haltEnd, State.modGroup_eq]
  · rw [State.bit_of_word (r := GRP_HALT_HALTED g) (State.haltRecord_word _ _ _ _ (apartFromRecords_GRP_HALT g)), State.setGroup_bit,
      State.put_bit _ (by simp [Ref.fits, GRP_HALT_HALTED])]
    simp
  · rw [hgrp, State.setGroup_group]
  · rw [hgrp, State.setGroup_group, State.put_group]
  · rw [hgrp, State.setGroup_group_other _ _ (List.ne_of_not_mem_cons hm), State.put_group]
  · rw [State.chan_of_without (State.haltRecord_units _ g c true) (by decide), State.setGroup_chan, State.put_chan]
  · rw [State.haltRecord_word _ _ _ _ (apartFromRecords_CH_STAT n), State.setGroup_word,
      State.put_word_other _ _ (by simp only [GRP_HALT_HALTED, CH_STAT, GRP_HALT]; omega)]

end Sys2Proof.Machine
end
section
/-! O11 (01, R29, R30; 04, R118 to R126, R130). -/

namespace Sys2Proof.Machine

/-! ### Frames in the form of the statements -/

theorem State.eq_of_without_regs {s t : State} (h : t.without [.regs] = s.without [.regs]) : t = { s with regs := t.regs } := State.eq_of_without h

theorem State.eq_of_without_regs_banks {s t : State} (h : t.without [.regs, .banks] = s.without [.regs, .banks]) :
    t = { s with regs := t.regs, banks := t.banks } := State.eq_of_without h

theorem State.eq_of_without_regs_banks_irq {s t : State}
    (h : t.without [.regs, .banks, .msixPend, .out] = s.without [.regs, .banks, .msixPend, .out]) :
    t = { s with regs := t.regs, banks := t.banks, msixPend := t.msixPend, out := t.out } := State.eq_of_without h

theorem State.eq_of_without_groups_chans {s t : State} (h : t.without [.groups, .chans] = s.without [.groups, .chans]) :
    t = { s with groups := t.groups, chans := t.chans } := State.eq_of_without h

theorem State.eq_of_without_regs_groups_chans {s t : State} (h : t.without [.regs, .groups, .chans] = s.without [.regs, .groups, .chans]) :
    t = { s with regs := t.regs, groups := t.groups, chans := t.chans } := State.eq_of_without h

/-! ### TAINT_INTERVAL_OPEN -/

/-- The groups of a list that halt on an opening, one after the other. -/
def State.haltGroups (s0 : State) (b x : Nat) (l : List Nat) (s : State) : State :=
  l.foldl (fun t g => if s0.haltsOn b g then t.haltGroup b x g else t) s

theorem taintOpen_eq (s : State) (b : Nat) : taintOpen s b = s.haltGroups b (s.tbOf b) (List.range 64) (s.openTaint b (s.tbOf b)) := rfl

theorem State.haltGroups_of_none {s0 : State} {b : Nat} {l : List Nat} (h : ∀ g ∈ l, s0.haltsOn b g = false) (x : Nat) (s : State) :
    s0.haltGroups b x l s = s :=
  foldl_keeps (fun u => u) (fun u g hg => by simp [h g hg]) s

theorem State.haltGroups_haltedOn (s0 s : State) (x : Nat) {b g : Nat} {l : List Nat} (hb : b < 8) (hg : g ∈ l) (h : s0.haltsOn b g = true) :
    (s0.haltGroups b x l s).haltedOn g b := by
  refine foldl_reaches (P := State.haltedOn g b) (fun _ => ()) hg (fun _ _ _ => rfl) (fun u _ => ?_) fun u y hu => ?_
  · rw [if_pos h]
    exact u.haltGroup_haltedOn x g hb
  · split
    · exact State.haltGroup_keeps_haltedOn x y hb hu
    · exact hu

/-- The registers of banks are none of a group's or a record's. -/
theorem State.haltGroups_word (s0 s : State) (b x : Nat) (l : List Nat) {a : Nat} (h : 0x50000 ≤ a) (h' : a < 0xC0000) :
    (s0.haltGroups b x l s).word a = s.word a := by
  refine foldl_keeps (fun u => u.word a) (fun u g _ => ?_) s
  split
  · exact u.haltGroup_word_other b x g (by simp only [GRP_HALT]; omega) (by simp only [GRP_HALTCYC]; omega) (apartFromRecords_of_lt h h')
  · rfl

theorem State.haltGroups_bank (s0 s : State) (b x : Nat) (l : List Nat) (m : Nat) : (s0.haltGroups b x l s).bank m = s.bank m := by
  refine foldl_keeps (fun u => u.bank m) (fun u g _ => ?_) s
  split
  · exact State.bank_of_without (u.haltGroup_without (l := [.regs, .groups, .chans, .tsps, .ep, .msixPend, .out]) (by decide) (by decide)
      (by decide) (by decide) (by decide) (by decide) (by decide) b x g) (by decide) m
  · rfl

/-- The registers of a bank after an opening are those that the opening itself writes. -/
theorem taintOpen_get (s : State) (b : Nat) {r : Ref} (h : 0x50000 ≤ r.addr) (h' : r.addr < 0xC0000) :
    (taintOpen s b).get r = (s.openTaint b (s.tbOf b)).get r := by
  refine State.get_of_word ?_
  rw [taintOpen_eq, State.haltGroups_word _ _ _ _ _ h h']

theorem taintOpen_openAt (s : State) (b : Nat) : ((taintOpen s b).bank b).openAt = some (s.tbOf b - s.guardOf b) := by
  rw [taintOpen_eq, State.haltGroups_bank, (s.openTaint_bank b _).1]

theorem taintOpen_haltedOn (s : State) (b : Fin 8) (g : Fin 64) (h : s.haltsOn b g = true) : (taintOpen s b).haltedOn g b := by
  rw [taintOpen_eq]
  exact State.haltGroups_haltedOn s _ _ b.isLt (List.mem_range.2 g.isLt) h

theorem taintOpen_of_none {s : State} {b : Nat} (h : ∀ g : Fin 64, s.haltsOn b g = false) : taintOpen s b = s.openTaint b (s.tbOf b) := by
  rw [taintOpen_eq]
  exact State.haltGroups_of_none (fun g hg => h ⟨g, List.mem_range.1 hg⟩) _ _

/-- What the opening of an interval shows and records (01, R30; 04, R118, R121). -/
theorem taintOpen_shows (s : State) (b : Fin 8) :
    (taintOpen s b).bit (BNK_STAT_TAINT b) = true ∧ (taintOpen s b).bit (BNK_FLAGS_TOPENED b) = true ∧
      (taintOpen s b).get (BNK_TAINTCNT_COUNT b) = min (s.get (BNK_TAINTCNT_COUNT b) + 1) (2 ^ (BNK_TAINTCNT_COUNT b).len - 1) ∧
      (taintOpen s b).get (BNK_TOPENLO_CNT b) + (taintOpen s b).get (BNK_TOPENHI_CNT b) * 2 ^ 32
        = (((s.tbOf b : Int) - s.guardOf b) % 2 ^ 48).toNat ∧
      (taintOpen s b).get (BNK_TCLOSELO_CNT b) = 0xFFFFFFFF ∧ (taintOpen s b).get (BNK_TCLOSEHI_CNT b) = 0xFFFF := by
  have hget (r : Ref) (o : Nat) (ho : o < 0x100) (h : r.addr = 0xA0000 + o + 0x2000 * b.val) :
      (taintOpen s b).get r = (s.openTaint b (s.tbOf b)).get r := 
    taintOpen_get s b (by rw [h]; omega) (by rw [h]; omega)
  rw [State.bit, State.bit, hget (BNK_STAT_TAINT b) 0x04 (by decide) rfl, hget (BNK_FLAGS_TOPENED b) 0x08 (by decide) rfl,
    hget (BNK_TAINTCNT_COUNT b) 0x24 (by decide) rfl, hget (BNK_TOPENLO_CNT b) 0x28 (by decide) rfl,
    hget (BNK_TOPENHI_CNT b) 0x2C (by decide) rfl, hget (BNK_TCLOSELO_CNT b) 0x30 (by decide) rfl,
    hget (BNK_TCLOSEHI_CNT b) 0x34 (by decide) rfl]
  exact s.openTaint_get b (s.tbOf b)

/-- An opening on which no group halts. -/
theorem taintOpen_frame_of_none {s : State} {b : Nat} (h : ∀ g : Fin 64, s.haltsOn b g = false) :
    (taintOpen s b).without [.regs, .banks, .msixPend, .out] = s.without [.regs, .banks, .msixPend, .out] ∧ SameBanks [b] s (taintOpen s b) ∧
      SameWords (taintRegs b) s (taintOpen s b) := by
  rw [taintOpen_of_none h]
  exact ⟨s.openTaint_without (by decide) (by decide) (by decide) (by decide) b _, (s.openTaint_bank b _).2, fun a ha => s.openTaint_word b _ ha⟩

/-! ### HALT_NOTICE -/

theorem haltNotice_without (s : State) (g b x : Nat) : (haltNotice s g b x).without [.groups, .chans] = s.without [.groups, .chans] := by
  rw [haltNotice, State.haltMembers_without (by decide), State.modGroup_eq, State.setGroup_without (by decide)]

/-- The notice is gone, and every running member for which HALT does not stand is to park (04, R122). -/
theorem haltNotice_shows (s : State) (g b x : Nat) :
    ((haltNotice s g b x).group g).notices = (s.group g).notices.filter (fun p => p.1 != b) ∧ SameGroups [g] s (haltNotice s g b x) ∧
      SameChans (s.membersIn g b) s (haltNotice s g b x) ∧
      (∀ n ∈ s.membersIn g b, (s.chan n).cyc.on = true → s.causeStands n causeHalt = false →
        (⟨causeHalt, .time (x + 48), true⟩ : ParkChg) ∈ ((haltNotice s g b x).chan n).pk.chg) ∧
      ∀ n ∈ s.membersIn g b, (s.chan n).cyc.on = false → (haltNotice s g b x).chan n = s.chan n := by
  have hgroup (u : State) (m : Nat) : (u.haltMembers g b x).group m = u.group m :=
    State.group_of_without (u.haltMembers_without (l := [.chans]) (by decide) g b x) (by decide) m
  rw [haltNotice, State.modGroup_eq]
  generalize hu : s.setGroup g { s.group g with notices := (s.group g).notices.filter (fun p => p.1 != b) } = u
  have hchan (m : Nat) : u.chan m = s.chan m := by rw [← hu, State.setGroup_chan]
  have hword (a : Nat) : u.word a = s.word a := by rw [← hu, State.setGroup_word]
  have hmem : u.membersIn g b = s.membersIn g b := by rw [State.membersIn, State.membersIn, State.members_of_word fun n => hword _]
  refine ⟨?_, fun m hm => ?_, fun m hm => ?_, fun n hn hon hs => ?_, fun n hn hoff => ?_⟩
  · rw [hgroup, ← hu, State.setGroup_group]
  · rw [hgroup, ← hu, State.setGroup_group_other _ _ (List.ne_of_not_mem_cons hm)]
  · rw [u.haltMembers_chan_other g b x fun h => absurd (by rw [← hmem]; exact h) hm, hchan]
  · exact u.haltMembers_parks g b x (by rw [hmem]; exact hn) (by rwa [hchan]) (by rwa [State.causeStands_of_same (hchan n) (hword _)])
  · rw [u.haltMembers_chan_other g b x fun _ => by rwa [hchan], hchan]

/-! ### HALT_RELEASE -/

theorem exec_haltRelease_of_served {src : Source} {g : Fin 64} {s : State} (h : s.rowServed src (GRP_HALT g) true = true) {w : Word}
    (hw : wbit w 1 = true) : exec (.haltRelease src g w) s = .next ((s.writeReg (GRP_HALT g) w fullMask).releaseHalt g) := by
  rw [← if_pos (t := (s.writeReg (GRP_HALT g) w fullMask).releaseHalt g) (e := s.writeReg (GRP_HALT g) w fullMask) hw]
  exact congrArg Host.Outcome.next (s.rowWrite_of_served h w (fun u => u.haltWrite g w))

/-- What a release asks of the state is the same after the write of the register as before it. -/
structure SameForRelease (g : Nat) (s u : State) : Prop where
  words : ∀ a, a ≠ GRP_HALT g → u.word a = s.word a
  halted : u.bit (GRP_HALT_HALTED g) = s.bit (GRP_HALT_HALTED g)
  frame : u.without [.regs] = s.without [.regs]

theorem sameForRelease_writeReg (s : State) (g : Fin 64) (w : Word) : SameForRelease g s (s.writeReg (GRP_HALT g) w fullMask) := by
  obtain ⟨hword, hget, hframe⟩ := s.writeReg_GRP_HALT g w
  exact ⟨hword, by rw [State.bit, hget, State.bit], hframe⟩

variable {g : Nat} {s u : State}

theorem SameForRelease.members (h : SameForRelease g s u) (k : Nat) : u.members k = s.members k :=
  State.members_of_word (fun n => h.words _ (by simp only [CH_GRP, GRP_HALT]; omega)) k

theorem SameForRelease.memberBanks (h : SameForRelease g s u) (k : Nat) : u.memberBanks k = s.memberBanks k :=
  State.memberBanks_of_word (fun n => h.words _ (by simp only [CH_GRP, GRP_HALT]; omega)) k

theorem SameForRelease.bankStat (h : SameForRelease g s u) (b : Nat) : u.word (BNK_STAT b) = s.word (BNK_STAT b) :=
  h.words _ (by simp only [BNK_STAT, GRP_HALT]; omega)

theorem SameForRelease.tainted (h : SameForRelease g s u) :
    (u.memberBanks g).any (fun b => u.bit (BNK_STAT_TAINT b)) = (s.memberBanks g).any (fun b => s.bit (BNK_STAT_TAINT b)) := by
  simp only [h.memberBanks, State.bit_of_word (r := BNK_STAT_TAINT _) (h.bankStat _)]

theorem SameForRelease.cause (h : SameForRelease g s u) (n c : Nat) : u.cause n c = s.cause n c :=
  State.cause_of_word (h.words _ (by simp only [CH_STAT, GRP_HALT]; omega)) c

theorem SameForRelease.group (h : SameForRelease g s u) (k : Nat) : u.group k = s.group k := State.group_of_without h.frame (by decide) k

theorem SameForRelease.chan (h : SameForRelease g s u) (n : Nat) : u.chan n = s.chan n := State.chan_of_without h.frame (by decide) n

theorem SameForRelease.leadTb (h : SameForRelease g s u) : u.tbOf (u.leadBank g) = s.tbOf (s.leadBank g) := by
  have hr (n : Nat) : u.root n = s.root n := congrArg (tabGet Root.init · n) (State.roots_of_without h.frame (by decide))
  rw [State.leadBank, State.leadBank, h.memberBanks, State.tbOf, State.tbOf, hr, State.rootOf, State.rootOf,
    State.get_of_word (r := BNK_STAT_ROOTACT _) (h.bankStat _)]

theorem SameForRelease.frame_groups_chans (h : SameForRelease g s u) :
    u.without [.regs, .groups, .chans] = s.without [.regs, .groups, .chans] := by
  rw [State.eq_of_without_regs h.frame]
  rfl

/-- The members are the same, for what a release says of each. -/
theorem SameForRelease.sameChans (h : SameForRelease g s u) : SameChans (s.members g) s (u.releaseMembers g) := fun m hm => by
  rw [u.releaseMembers_chans g m (by rw [h.members]; exact hm), h.chan]

/-- The members after the release: HALT is no cause of one, the count is noted, no other channel or group differs. -/
theorem SameForRelease.releaseMembers (h : SameForRelease g s u) :
    (∀ m ∈ s.members g, (u.releaseMembers g).cause m causeHalt = false) ∧ ((u.releaseMembers g).group g).relAt = s.tbOf (s.leadBank g) ∧
      ((u.releaseMembers g).group g).relAcc = true ∧ SameGroups [g] s (u.releaseMembers g) ∧ SameChans (s.members g) s (u.releaseMembers g) := by
  refine ⟨fun m hm => u.releaseMembers_cause g (by rw [h.members]; exact hm), ?_, ?_, fun m hm => ?_, h.sameChans⟩ <;>
    rw [u.releaseMembers_group, State.modGroup_eq]
  · rw [State.setGroup_group, h.leadTb]
  · rw [State.setGroup_group]
  · rw [State.setGroup_group_other _ _ (List.ne_of_not_mem_cons hm), h.group]

/-- The registers after the release of the members: HALTED as it was, the others but the status of members too. -/
theorem SameForRelease.releaseMembers_words (h : SameForRelease g s u) :
    (u.releaseMembers g).bit (GRP_HALT_HALTED g) = s.bit (GRP_HALT_HALTED g) ∧
      SameWords (GRP_HALT g :: (s.members g).map CH_STAT) s (u.releaseMembers g) := by
  constructor
  · rw [State.bit_of_word (r := GRP_HALT_HALTED g) (u.releaseMembers_word g ?_), h.halted]
    simp only [List.mem_map, not_exists, not_and, CH_STAT, GRP_HALT_HALTED, GRP_HALT]
    omega
  · intro a ha
    rw [u.releaseMembers_word g (by rw [h.members]; exact List.not_mem_of_not_mem_cons ha), h.words a (List.ne_of_not_mem_cons ha)]

theorem SameForRelease.lowest (h : SameForRelease g s u) : (u.releaseMembers g).lowest g = s.lowest g := by
  rw [u.releaseMembers_lowest, State.lowest, State.lowest, h.members]

theorem SameForRelease.cyc (h : SameForRelease g s u) (n : Nat) : ((u.releaseMembers g).chan n).cyc = (s.chan n).cyc := by
  rw [u.releaseMembers_cyc, h.chan]

end Sys2Proof.Machine
end
section
open Sys2Proof Sys2Proof.Machine

/-- Settles O11: the frames of the opening, of halts and of releases, and what a fold over groups or members reaches. -/
theorem taintIntervalsHaltNoticesAndRelease : Obligations.TaintIntervalsHaltNoticesAndRelease := by
  unfold Obligations.TaintIntervalsHaltNoticesAndRelease
  refine ⟨?opens, ?closes, ?notice, ?refused, ?released, ?again⟩
  case opens =>
    intro b s htaint hsrc
    have hstep : exec (.taintIntervalOpen b) s = .next (taintOpen s b) := by
      change execTaintIntervalOpen b s = _
      simp [execTaintIntervalOpen, htaint, hsrc]
    obtain ⟨h1, h2, h3, h4, h5, h6⟩ := taintOpen_shows s b
    have hopen := taintOpen_openAt s b
    have hhalt := taintOpen_haltedOn s b
    have hnone := taintOpen_frame_of_none (s := s) (b := b)
    generalize taintOpen s b = t at hstep h1 h2 h3 h4 h5 h6 hopen hhalt hnone
    refine ⟨t, hstep, h1, h2, h3, h4, h5, h6, hopen, le_max_left _ _, hhalt, fun h => ?_⟩
    obtain ⟨hframe, hbanks, hwords⟩ := hnone h
    exact ⟨State.eq_of_without_regs_banks_irq hframe, hbanks, hwords⟩
  case closes =>
    intro b s htaint hsrc
    have hstep : exec (.taintIntervalClose b) s = .next (s.closeTaint b (s.tbOf b)) := by
      change execTaintIntervalClose b s = _
      simp [execTaintIntervalClose, htaint, hsrc]
    obtain ⟨h1, h2, h3⟩ := s.closeTaint_get b (s.tbOf b)
    obtain ⟨hopen, hpast, hbanks⟩ := s.closeTaint_bank b (s.tbOf b)
    exact ⟨_, hstep, h1, h2, h3, hopen, hpast, State.eq_of_without_regs_banks (s.closeTaint_without (by decide) (by decide) b _), hbanks,
      fun a ha => s.closeTaint_word b _ ha⟩
  case notice =>
    intro g b x s hfind
    have hstep : exec (.haltNotice g b) s = .next (haltNotice s g b x) := by
      change execHaltNotice g b s = _
      rw [execHaltNotice, hfind]
    obtain ⟨hnotes, hgroups, hchans, hparks, hoff⟩ := haltNotice_shows s g b x
    have hframe := haltNotice_without s g b x
    generalize haltNotice s g b x = t at hstep hnotes hgroups hchans hparks hoff hframe
    exact ⟨t, hstep, hnotes, hparks, fun _ _ => hoff, State.eq_of_without_groups_chans hframe, hgroups, hchans⟩
  case refused =>
    intro src g w s h hw htaint
    have hstep := exec_haltRelease_of_served h hw
    have hu := sameForRelease_writeReg s g w
    generalize s.writeReg (GRP_HALT g) w fullMask = u at hstep hu
    rw [State.releaseHalt_refused (hu.tainted.trans htaint)] at hstep
    have hfit : (GRP_HALT_RELREF g).fits := by simp [Ref.fits, GRP_HALT_RELREF]
    refine ⟨_, hstep, ?_, ?_, ?_, fun a ha => ?_⟩
    · rw [State.put_bit _ hfit]; rfl
    · rw [State.put_bit_other _ hfit _ (by simp [Ref.apart, GRP_HALT_RELREF, GRP_HALT_HALTED]), hu.halted]
    · exact State.eq_of_without_regs ((State.put_without (by decide) _ _ _).trans hu.frame)
    · rw [State.put_word_other _ _ (List.ne_of_not_mem_cons ha), hu.words a (List.ne_of_not_mem_cons ha)]
  case released =>
    intro src g w s n h hw htaint hhalt hrel hlow
    have hstep := exec_haltRelease_of_served h hw
    have hu := sameForRelease_writeReg s g w
    generalize s.writeReg (GRP_HALT g) w fullMask = u at hstep hu
    rw [State.releaseHalt_accepted (hu.tainted.trans htaint) (hu.halted.trans hhalt) (by rw [hu.group]; exact hrel)] at hstep
    have hlow' := hu.lowest.trans hlow
    have hcyc := hu.cyc n
    obtain ⟨hhalted, hwords⟩ := hu.releaseMembers_words
    obtain ⟨hcause, hat, hacc, hgroups, hchans⟩ := hu.releaseMembers
    have hframe := (u.releaseMembers_without (l := [.regs, .groups, .chans]) (by decide) (by decide) (by decide) g).trans hu.frame_groups_chans
    generalize u.releaseMembers g = t at hstep hlow' hcyc hhalted hwords hcause hat hacc hgroups hchans hframe
    cases hon : (s.chan n).cyc.on with
    | true =>
      rw [State.endIfStopped_of_on hlow' (by rw [hcyc, hon])] at hstep
      exact ⟨t, hstep, fun m hm _ => hcause m hm, hat, fun _ => ⟨hhalted.trans hhalt, hacc, State.eq_of_without_regs_groups_chans hframe, hwords⟩,
        fun h => absurd h (by decide), hgroups, hchans⟩
    | false =>
      rw [State.endIfStopped_of_off hlow' (by rw [hcyc, hon])] at hstep
      obtain ⟨hend, hacc', hat', hgroups', hchans', hstat⟩ := t.haltEnd_shows g (t.chan n).cyc.k
      refine ⟨_, hstep, fun m hm _ => ?_, hat'.trans hat, fun h => absurd h Bool.false_ne_true, fun _ => ⟨hend, hacc'⟩, fun m hm => ?_, fun m hm => ?_⟩
      · rw [State.cause_of_word (hstat m), hcause m hm]
      · rw [hgroups' m hm, hgroups m hm]
      · rw [hchans', hchans m hm]
  case again =>
    intro src g w s h hw htaint hnot
    have hstep := exec_haltRelease_of_served h hw
    have hu := sameForRelease_writeReg s g w
    generalize s.writeReg (GRP_HALT g) w fullMask = u at hstep hu
    rw [State.releaseHalt_of_done (hu.tainted.trans htaint) (by rw [hu.halted, hu.group]; exact hnot)] at hstep
    exact ⟨u, hstep, hu.halted, State.eq_of_without_regs hu.frame, fun a ha => hu.words a (List.ne_of_not_mem_cons ha)⟩

end

section
/-! The bytes of records, and the context window over a store without errors (06, R159 to R164, R166). -/

namespace Sys2Proof.Machine

variable {l : List Part}

/-! ### Bytes of numbers -/

theorem leBytes_length (n v : Nat) : (leBytes n v).length = n := by
  induction n generalizing v with
  | zero => rfl
  | succ n ih => rw [leBytes, List.length_cons, ih]

/-- Byte i of a number. -/
theorem leBytes_getD {n i : Nat} (h : i < n) (v : Nat) : (leBytes n v).getD i 0 = v / 256 ^ i % 256 := by
  induction n generalizing i v with
  | zero => omega
  | succ n ih =>
    cases i with
    | zero => simp [leBytes]
    | succ i =>
      rw [leBytes, List.getD_cons_succ, ih (by omega), Nat.div_div_eq_div_mul, pow_succ']

theorem ofLe_byte (bytes : List Nat) (i : Nat) : ofLe bytes / 256 ^ i % 256 = bytes.getD i 0 % 256 := by
  induction bytes generalizing i with
  | nil => simp [ofLe]
  | cons b bytes ih =>
    cases i with
    | zero => rw [ofLe, pow_zero, Nat.div_one, Nat.add_mul_mod_self_left, Nat.mod_mod, List.getD_cons_zero]
    | succ i =>
      have hdiv : (b % 256 + 256 * ofLe bytes) / 256 = ofLe bytes := by omega
      rw [ofLe, pow_succ', ← Nat.div_div_eq_div_mul, hdiv, ih, List.getD_cons_succ]

theorem ofLe_lt (bytes : List Nat) : ofLe bytes < 256 ^ bytes.length := by
  induction bytes with
  | nil => simp [ofLe]
  | cons b bytes ih =>
    rw [ofLe, List.length_cons, pow_succ']
    omega

/-- A number of at most 32 bytes fits a record. -/
theorem toNat_ofLe {bytes : List Nat} (h : bytes.length ≤ 32) : (BitVec.ofNat 256 (ofLe bytes)).toNat = ofLe bytes := by
  rw [BitVec.toNat_ofNat, Nat.mod_eq_of_lt]
  calc ofLe bytes < 256 ^ bytes.length := ofLe_lt bytes
    _ ≤ 256 ^ 32 := Nat.pow_le_pow_right (by decide) h
    _ = 2 ^ 256 := by norm_num

/-- Bytes written over others: the new ones from their offset on, the old ones beside them. -/
theorem overlay_getD {old : List Nat} {i : Nat} {bytes : List Nat} (h : i + bytes.length ≤ old.length) (j : Nat) :
    (overlay old i bytes).getD j 0 = if i ≤ j ∧ j < i + bytes.length then bytes.getD (j - i) 0 else old.getD j 0 := by
  have hlen : (old.take i).length = i := by rw [List.length_take]; omega
  simp only [overlay, List.getD_eq_getElem?_getD]
  by_cases h1 : j < i
  · rw [List.append_assoc, List.getElem?_append_left (by omega), List.getElem?_take_of_lt h1, if_neg (by omega)]
  · by_cases h2 : j < i + bytes.length
    · rw [List.append_assoc, List.getElem?_append_right (by omega), hlen, List.getElem?_append_left (by omega), if_pos (by omega)]
    · rw [List.getElem?_append_right (by simp; omega), List.length_append, hlen, List.getElem?_drop, if_neg (by omega)]
      congr 2
      omega

theorem overlay_length {old : List Nat} {i : Nat} {bytes : List Nat} (h : i + bytes.length ≤ old.length) : (overlay old i bytes).length = old.length := by
  simp only [overlay, List.length_append, List.length_take, List.length_drop]
  omega

/-! ### A store without errors -/

/-- Byte x of the context window's part of BAR2. -/
def State.byteAt (s : State) (x : Nat) : Nat := (tabGet 0 s.store (x / 32)).toNat / 256 ^ (x % 32) % 256

theorem ones_zero (n : Nat) : ones n 0 = 0 := by
  induction n with
  | zero => rfl
  | succ n ih => rw [ones, ih]

theorem eccOutcome_zero : eccOutcome 0 = .clean := by
  unfold eccOutcome
  rw [ones_zero]
  exact if_pos rfl

theorem eccData_zero (d : Record) : eccData d 0 = d := by
  unfold eccData
  rw [eccOutcome_zero]
  exact BitVec.xor_zero

theorem recKey_div_mod (key : Nat) : recKey (key / 2048) (key % 2048) = key := by
  rw [recKey]
  omega

/-- A record without an error is read as it was written, and nothing changes. -/
theorem State.readRecord_clean {s : State} (h : s.storeErr = []) (ch ctx src : Nat) :
    s.readRecord ch ctx src = (s, s.rawRecord ch ctx, .clean) := by
  have he : s.errPattern ch ctx = 0 := by rw [State.errPattern, h]; rfl
  unfold State.readRecord
  dsimp only
  rw [he, eccOutcome_zero, eccData_zero]

theorem State.readPosted_clean {s : State} (h : s.storeErr = []) (ch ctx src : Nat) :
    s.readPosted ch ctx src = (s, s.rawRecord ch ctx, false) := by
  unfold State.readPosted
  rw [State.readRecord_clean h]

theorem State.putRecord_without (hs : .store ∈ l) (he : .storeErr ∈ l) (s : State) (ch ctx : Nat) (d : Record) :
    (s.putRecord ch ctx d).without l = s.without l := by
  simp [State.putRecord, State.without, hs, he]

/-- Over a store without errors a record that is written changes nothing else. -/
theorem State.putRecord_clean {s : State} (h : s.storeErr = []) (ch ctx : Nat) (d : Record) :
    s.putRecord ch ctx d = { s with store := tabSet 0 s.store (recKey ch ctx) d } := by
  have he : tabSet 0 s.storeErr (recKey ch ctx) 0 = s.storeErr := by rw [h]; rfl
  rw [State.putRecord, he]

/-- The bytes after a record is written. -/
theorem State.byteAt_setRecord (s : State) (key : Nat) (d : Record) (x : Nat) :
    State.byteAt { s with store := tabSet 0 s.store key d } x = if x / 32 = key then d.toNat / 256 ^ (x % 32) % 256 else s.byteAt x := by
  unfold State.byteAt
  split
  case isTrue h => rw [h, tabGet_tabSet_same]
  case isFalse h => rw [tabGet_tabSet_other _ _ _ _ h]

/-- The part of a write in one record: its bytes, and no others, are those written. -/
theorem State.writePart_clean {s : State} (h : s.storeErr = []) {key i : Nat} {bytes : List Nat} (hi : i + bytes.length ≤ 32) :
    ∃ d, s.writePart key i bytes = { s with store := tabSet 0 s.store key d } ∧
      ∀ j, j < 32 → d.toNat / 256 ^ j % 256
        = if i ≤ j ∧ j < i + bytes.length then bytes.getD (j - i) 0 % 256 else (tabGet 0 s.store key).toNat / 256 ^ j % 256 := by
  by_cases hw : i = 0 ∧ bytes.length = 32
  · refine ⟨BitVec.ofNat 256 (ofLe bytes), ?_, fun j hj => ?_⟩
    · rw [State.writePart, if_pos hw, State.putRecord_clean h, recKey_div_mod]
    · rw [toNat_ofLe (by omega), ofLe_byte, if_pos (by omega), hw.1, Nat.sub_zero]
  · have hlen : (recordBytes (tabGet 0 s.store key)).length = 32 := leBytes_length _ _
    refine ⟨BitVec.ofNat 256 (ofLe (overlay (recordBytes (tabGet 0 s.store key)) i bytes)), ?_, fun j hj => ?_⟩
    · rw [State.writePart, if_neg hw, State.readPosted_clean h, State.rawRecord, recKey_div_mod]
      simp only [Bool.false_eq_true, ↓reduceIte, State.putRecord_clean h, recKey_div_mod]
    · rw [toNat_ofLe (by rw [overlay_length] <;> omega), ofLe_byte, overlay_getD (by omega)]
      split
      · rfl
      · rw [recordBytes, leBytes_getD hj, Nat.mod_mod]

/-- A window write over a store without errors: every byte is the one written, or as it was. -/
theorem State.windowWrite_clean {f : Nat} {bytes : List Nat} (hf : bytes.length < f) {s : State} (h : s.storeErr = []) (off : Nat) :
    (s.windowWrite off bytes f).without [.store] = s.without [.store] ∧
      ∀ x, (s.windowWrite off bytes f).byteAt x = if off ≤ x ∧ x < off + bytes.length then bytes.getD (x - off) 0 % 256 else s.byteAt x := by
  induction f generalizing s off bytes with
  | zero => omega
  | succ f ih =>
    rw [State.windowWrite]
    split
    case isTrue he =>
      rw [List.isEmpty_iff.1 he]
      exact ⟨rfl, fun x => by rw [if_neg (by simp)]⟩
    case isFalse he =>
      have hne : bytes ≠ [] := by simpa using he
      have hpos : 0 < bytes.length := List.length_pos_iff.2 hne
      have hlen : (bytes.take (32 - off % 32)).length = min (32 - off % 32) bytes.length := List.length_take ..
      obtain ⟨d, hput, hd⟩ := State.writePart_clean h (key := off / 32) (i := off % 32) (bytes := bytes.take (32 - off % 32)) (by omega)
      dsimp only
      rw [hput]
      obtain ⟨hframe, hbyte⟩ := ih (bytes := bytes.drop (32 - off % 32)) (by rw [List.length_drop]; omega)
        (s := { s with store := tabSet 0 s.store (off / 32) d }) h (off + (32 - off % 32))
      refine ⟨hframe, fun x => ?_⟩
      rw [hbyte, State.byteAt_setRecord, List.length_drop]
      by_cases hlater : off + (32 - off % 32) ≤ x ∧ x < off + (32 - off % 32) + (bytes.length - (32 - off % 32))
      · rw [if_pos hlater, if_pos (by omega), List.getD_eq_getElem?_getD, List.getElem?_drop, List.getD_eq_getElem?_getD]
        congr 3
        omega
      · rw [if_neg hlater]
        split
        case isTrue hsame =>
          rw [hd (x % 32) (Nat.mod_lt _ (by decide)), hlen]
          by_cases hin : off ≤ x ∧ x < off + bytes.length
          · rw [if_pos (by omega), if_pos hin, List.getD_eq_getElem?_getD, List.getElem?_take_of_lt (by omega), List.getD_eq_getElem?_getD]
            congr 3
            omega
          · rw [if_neg (by omega), if_neg hin, State.byteAt, hsame]
        case isFalse hother => rw [if_neg (by omega)]

/-- A slice of a record's bytes is that of the window. -/
theorem State.record_slice (s : State) {off k : Nat} (h : off % 32 + k ≤ 32) :
    ((recordBytes (tabGet 0 s.store (off / 32))).drop (off % 32)).take k = (List.range k).map (fun i => s.byteAt (off + i)) := by
  have hlen : (recordBytes (tabGet 0 s.store (off / 32))).length = 32 := leBytes_length _ _
  refine List.ext_getElem ?_ fun j hj _ => ?_
  · simp only [List.length_take, List.length_drop, List.length_map, List.length_range, hlen]
    omega
  · have hjk : j < k := by
      rw [List.length_take] at hj
      omega
    have hdiv : (off + j) / 32 = off / 32 := by omega
    have hmod : (off + j) % 32 = off % 32 + j := by omega
    rw [List.getElem_take, List.getElem_drop, List.getElem_map, List.getElem_range, State.byteAt, hdiv, hmod,
      ← leBytes_getD (n := 32) (by omega), ← List.getD_eq_getElem _ 0]
    rfl

/-- A window read over a store without errors returns its bytes and changes nothing. -/
theorem State.windowRead_clean {f len : Nat} (hf : len < f) {s : State} (h : s.storeErr = []) (off : Nat) :
    s.windowRead off len f = (s, (List.range len).map (fun i => s.byteAt (off + i))) := by
  induction f generalizing off len with
  | zero => omega
  | succ f ih =>
    rw [State.windowRead]
    split
    case isTrue he => rw [he]; rfl
    case isFalse he =>
      dsimp only
      rw [State.readPosted_clean h, State.rawRecord, recKey_div_mod]
      dsimp only
      rw [ih (by omega)]
      have hsplit : len = min len (32 - off % 32) + (len - min len (32 - off % 32)) := by omega
      conv_rhs => rw [hsplit, List.range_add, List.map_append, List.map_map]
      rw [State.record_slice s (by omega : off % 32 + min len (32 - off % 32) ≤ 32)]
      simp only [Function.comp_def, Nat.add_assoc]

end Sys2Proof.Machine
end
section
/-! What accesses to the context store leave as it was, the scrubber and the wipe (06, R164 to R171). -/

namespace Sys2Proof.Machine

variable {l : List Part}

/-! ### Registers that no access to the store touches -/

/-- Neither the count of errors in the store nor their record, nor the event log, is in this register. -/
def apartFromErrors (a : Nat) : Prop := 0x50000 ≤ a ∧ ∀ b, a ≠ BNK_ECCCE b ∧ a ≠ BNK_ECCUE b ∧ a ≠ BNK_ECCLAST b

theorem apartFromErrors_CUESTAT (b : Nat) : apartFromErrors (BNK_CUESTAT b) :=
  ⟨by simp only [BNK_CUESTAT]; omega, fun c => by simp only [BNK_CUESTAT, BNK_ECCCE, BNK_ECCUE, BNK_ECCLAST]; omega⟩

theorem apartFromErrors_SCRUBPOS (b : Nat) : apartFromErrors (BNK_SCRUBPOS b) :=
  ⟨by simp only [BNK_SCRUBPOS]; omega, fun c => by simp only [BNK_SCRUBPOS, BNK_ECCCE, BNK_ECCUE, BNK_ECCLAST]; omega⟩

variable {a : Nat} (h : apartFromErrors a)

theorem State.putRecord_word (s : State) (ch ctx : Nat) (d : Record) (a : Nat) : (s.putRecord ch ctx d).word a = s.word a := rfl

include h

theorem State.eccLast_word (s : State) (b ue src ch ctx err : Nat) : (s.eccLast b ue src ch ctx err).word a = s.word a := by
  have hl (u : State) (v : Nat) {r : Ref} (hr : r.addr = BNK_ECCLAST b) : (u.put r v).word a = u.word a := u.put_word_other v (hr ▸ (h.2 b).2.2)
  rw [State.eccLast, hl _ _ rfl, hl _ _ rfl, hl _ _ rfl, hl _ _ rfl, hl _ _ rfl]

theorem State.readRecord_word (s : State) (ch ctx src : Nat) : (s.readRecord ch ctx src).1.word a = s.word a := by
  obtain ⟨hce, hue, -⟩ := h.2 (ch / 64)
  unfold State.readRecord
  dsimp only
  cases eccOutcome (s.errPattern ch ctx) with
  | clean => rfl
  | corrected =>
    dsimp only
    rw [State.eccLast_word h, State.inc_eq, State.put_word_other _ _ hce, State.putRecord_word]
  | double =>
    dsimp only
    rw [State.eccLast_word h, State.inc_eq, State.put_word_other _ _ hue]

theorem State.readPosted_word (s : State) (ch ctx src : Nat) : (s.readPosted ch ctx src).1.word a = s.word a := by
  have hr := s.readRecord_word h ch ctx src
  unfold State.readPosted
  dsimp only
  generalize s.readRecord ch ctx src = r at hr
  obtain ⟨u, d, o⟩ := r
  cases o with
  | clean => exact hr
  | corrected => exact hr
  | double => exact (State.log_word _ _ _ _ _ h.1).trans hr

theorem State.writePart_word (s : State) (key i : Nat) (bytes : List Nat) : (s.writePart key i bytes).word a = s.word a := by
  have hr := s.readPosted_word h (key / 2048) (key % 2048) srcWindow
  unfold State.writePart
  dsimp only
  generalize s.readPosted (key / 2048) (key % 2048) srcWindow = r at hr
  by_cases hw : i = 0 ∧ bytes.length = 32
  · rw [if_pos hw, State.putRecord_word]
  · rw [if_neg hw]
    cases r.2.2 with
    | true => exact hr
    | false => exact hr

theorem State.windowWrite_word (f : Nat) (s : State) (off : Nat) (bytes : List Nat) : (s.windowWrite off bytes f).word a = s.word a := by
  induction f generalizing s off bytes with
  | zero => rfl
  | succ f ih =>
    rw [State.windowWrite]
    split
    · rfl
    · rw [ih, State.writePart_word h]

theorem State.windowRead_word (f : Nat) (s : State) (off len : Nat) : (s.windowRead off len f).1.word a = s.word a := by
  induction f generalizing s off len with
  | zero => rfl
  | succ f ih =>
    rw [State.windowRead]
    split
    · rfl
    · exact (ih _ _ _).trans (s.readPosted_word h _ _ _)

omit h in
theorem State.finishCmd_word (s : State) (f c code : Nat) (taint data : Bool) (aux res a : Nat) :
    (s.finishCmd f c code taint data aux res).word a = s.word a := by
  rw [State.finishCmd, State.modFlow_eq, State.setFlow_word]

omit h in
theorem State.finishData_word (s : State) (f c : Nat) (d : DataOut) (a : Nat) : (s.finishData f c d).word a = s.word a := by
  rw [State.finishData]
  split_ifs
  · exact s.finishCmd_word _ _ _ _ _ _ _ _
  · rw [State.finishCmd_word, State.emit_word]
  · rw [State.modFlow_eq, State.setFlow_word]

theorem State.doHeld_word (s : State) (x : Held) : (s.doHeld x).word a = s.word a := by
  cases x with
  | write off bytes => exact State.windowWrite_word h _ s off bytes
  | read off len =>
    rw [State.doHeld, State.answerRead, State.emit_word, State.windowRead_word h]
  | mbxWrite f c ch first recs =>
    rw [State.doHeld, State.mbxWrite, State.finishCmd_word]
    exact foldl_keeps (g := fun (p : State × Nat) d => (p.1.putRecord ch p.2 d, p.2 + 1)) (fun p => p.1.word a) (fun _ _ _ => rfl) (s, first)
  | mbxRead f c ch first count buf =>
    rw [State.doHeld, State.mbxRead, State.finishData_word]
    refine foldl_keeps (fun p : State × List Nat × Nat => p.1.word a) (fun p i _ => ?_) (s, [], 0)
    dsimp only
    exact p.1.readPosted_word h ch (first + i) srcMailbox

theorem State.drainHub_word (s : State) (b k : Nat) : (s.drainHub b k).word a = s.word a := by
  induction k generalizing s with
  | zero => rfl
  | succ k ih =>
    rw [State.drainHub]
    split
    · rw [ih, State.doHeld_word h, State.modBank_eq, State.setBank_word]
    · rfl

end Sys2Proof.Machine
end
section
/-! O18: accesses through the context window, the scrubber's rows and the wipe of a slice (06, R163 to R171). -/

namespace Sys2Proof.Machine

variable {l : List Part}

/-! ### Requests of the window that lie in one slice -/

/-- A byte of a request, as the number that the store takes. -/
theorem map_toNat_getD (bytes : List Byte) (i : Nat) : (bytes.map (fun x => x.toNat)).getD i 0 % 256 = (bytes.getD i 0).toNat := by
  have hget : (bytes.map (fun x => x.toNat)).getD i (0 : Byte).toNat = (bytes.getD i 0).toNat := List.getD_map _ _ (fun x : Byte => x.toNat)
  exact (congrArg (· % 256) hget).trans (Nat.mod_eq_of_lt (BitVec.isLt _))

/-- A write within 4 KiB of the context store lies in one range, and in one slice. -/
theorem State.bar2Write_window {s : State} {off : Nat} {bytes : List Nat} (hr : s.bar2Refuse off true = none) (h1 : off + bytes.length ≤ 0x2000000)
    (h2 : off % 4096 + bytes.length ≤ 4096) (h3 : 0 < bytes.length) : s.bar2Write off bytes = contextWindowWrite s off bytes := by
  have hleft : bytes.length ≤ rangeLeft off := by
    simp only [rangeLeft]
    omega
  have hend (k m : Nat) (u : State) : u.bar2Parts k m [] = u := by cases k <;> rfl
  have hne : bytes.isEmpty = false := by
    rw [List.isEmpty_eq_false_iff]
    exact List.length_pos_iff.1 h3
  obtain ⟨n, hn⟩ := Nat.exists_eq_succ_of_ne_zero h3.ne'
  rw [State.bar2Write, hr]
  dsimp only
  rw [hn, State.bar2Parts, hne, if_neg Bool.false_ne_true, List.take_of_length_le hleft, List.drop_of_length_le hleft, hend, State.bar2Part,
    if_pos (by omega)]

theorem State.bar2Read_window {s : State} {off len : Nat} (hr : s.bar2Refuse off false = none) (h1 : off + len ≤ 0x2000000)
    (h2 : off % 4096 + len ≤ 4096) (h3 : 0 < len) : s.bar2Read off len = contextWindowRead s off len := by
  have hleft : len ≤ rangeLeft off := by
    simp only [rangeLeft]
    omega
  have hend (k m : Nat) (u : State) : u.bar2Gets k m 0 = u := by cases k <;> rfl
  obtain ⟨n, rfl⟩ := Nat.exists_eq_succ_of_ne_zero h3.ne'
  rw [State.bar2Read, hr]
  dsimp only
  rw [State.bar2Gets, if_neg h3.ne', Nat.min_eq_left hleft, Nat.sub_eq_zero_of_le hleft, hend, State.bar2Get, if_pos (by omega)]

theorem exec_contextWindowWrite {off : Nat} {bytes : List Byte} {s : State} (hr : s.bar2Refuse off true = none)
    (h1 : off + bytes.length ≤ 0x2000000) (h2 : off % 4096 + bytes.length ≤ 4096) (h3 : 0 < bytes.length) :
    exec (.contextWindowWrite off bytes) s = .next (contextWindowWrite s off (bytes.map (fun x => x.toNat))) := by
  rw [← State.bar2Write_window hr (by rwa [List.length_map]) (by rwa [List.length_map]) (by rwa [List.length_map])]
  rfl

theorem exec_contextWindowRead {off len : Nat} {s : State} (hr : s.bar2Refuse off false = none) (h1 : off + len ≤ 0x2000000)
    (h2 : off % 4096 + len ≤ 4096) (h3 : 0 < len) : exec (.contextWindowRead off len) s = .next (contextWindowRead s off len) := by
  rw [← State.bar2Read_window hr h1 h2 h3]
  rfl

/-- An access with nothing ahead of it at the hub is handled at once. -/
theorem State.storeAccess_free {s : State} {b : Nat} (hw : s.bit (BNK_CUESTAT_WIPING b) = false)
    (hq : (s.bank b).cueq.any (fun i => s.ordersStore i) = false) (x : Held) : s.storeAccess b x = s.doHeld x := by
  rw [State.storeAccess, if_neg (by simp [hw, hq])]

/-- During a wipe, or behind a cue or another access, it waits at the hub. -/
theorem State.storeAccess_waits {s : State} {b : Nat}
    (h : s.bit (BNK_CUESTAT_WIPING b) = true ∨ (s.bank b).cueq.any (fun i => s.ordersStore i) = true) (x : Held) :
    s.storeAccess b x = s.setBank b { s.bank b with cueq := (s.bank b).cueq ++ [.access x] } := by
  rw [State.storeAccess, if_pos h, State.modBank_eq]

theorem contextWindowWrite_access {s : State} {off : Nat} (hc : s.bit GLB_MODE_CTXWIN = true) (hd : s.domOn (halfOf (off / 0x400000)) = true)
    (bytes : List Nat) : contextWindowWrite s off bytes = s.storeAccess (off / 0x400000) (.write off bytes) := by
  simp only [contextWindowWrite, hc, hd, Bool.true_eq_false, or_self, ↓reduceIte]

theorem contextWindowRead_access {s : State} {off : Nat} (hd : s.domOn (halfOf (off / 0x400000)) = true) (len : Nat) :
    contextWindowRead s off len = s.storeAccess (off / 0x400000) (.read off len) := by
  simp only [contextWindowRead, hd, Bool.true_eq_false, ↓reduceIte]

/-- A write of one whole record (06, R163). -/
theorem State.windowWrite_record (s : State) (key : Nat) {bytes : List Nat} (h : bytes.length = 32) :
    s.windowWrite (32 * key) bytes (bytes.length + 1) = s.putRecord (key / 2048) (key % 2048) (BitVec.ofNat 256 (ofLe bytes)) := by
  have hmod : 32 * key % 32 = 0 := by omega
  have hdiv : 32 * key / 32 = key := by omega
  have hne : bytes.isEmpty = false := by
    rw [List.isEmpty_eq_false_iff]
    exact List.length_pos_iff.1 (by omega)
  rw [State.windowWrite, hne, if_neg Bool.false_ne_true]
  dsimp only
  rw [hmod, hdiv, Nat.sub_zero, List.take_of_length_le h.le, List.drop_of_length_le h.le, State.writePart, if_pos ⟨rfl, h⟩, h, State.windowWrite]
  exact if_pos rfl

/-! ### The scrubber -/

/-- The position of the scrubber after a row. -/
def State.scrubNext (s : State) (b r : Nat) : State :=
  if r = 65535 then (s.put (BNK_SCRUBPOS_ROW b) (r + 1)).incWrap (BNK_SCRUBPOS_PASSES b) else s.put (BNK_SCRUBPOS_ROW b) (r + 1)

theorem State.scrubNext_get (s : State) (b r : Nat) :
    (s.scrubNext b r).get (BNK_SCRUBPOS_ROW b) = (r + 1) % 65536 ∧
      (s.scrubNext b r).get (BNK_SCRUBPOS_PASSES b)
        = if r = 65535 then (s.get (BNK_SCRUBPOS_PASSES b) + 1) % 2 ^ (BNK_SCRUBPOS_PASSES b).len else s.get (BNK_SCRUBPOS_PASSES b) := by
  have hr : (BNK_SCRUBPOS_ROW b).fits := by simp [Ref.fits, BNK_SCRUBPOS_ROW]
  have hp : (BNK_SCRUBPOS_PASSES b).fits := by simp [Ref.fits, BNK_SCRUBPOS_PASSES]
  have hrp : (BNK_SCRUBPOS_ROW b).apart (BNK_SCRUBPOS_PASSES b) := by simp [Ref.apart, BNK_SCRUBPOS_ROW, BNK_SCRUBPOS_PASSES]
  have hpr : (BNK_SCRUBPOS_PASSES b).apart (BNK_SCRUBPOS_ROW b) := by simp [Ref.apart, BNK_SCRUBPOS_ROW, BNK_SCRUBPOS_PASSES]
  rw [State.scrubNext]
  split
  · rw [State.incWrap_eq, State.put_get_other _ hp _ hrp, State.put_get _ hr, State.put_get _ hp, State.put_get_other _ hr _ hpr]
    exact ⟨rfl, rfl⟩
  · rw [State.put_get _ hr, State.put_get_other _ hr _ hpr]
    exact ⟨rfl, rfl⟩

theorem State.scrubNext_regsOnly (s : State) (b r : Nat) : RegsOnly [BNK_SCRUBPOS b] s (s.scrubNext b r) := by
  rw [State.scrubNext]
  split
  · have hframe := (State.put_without (l := [.regs]) (by decide) (s.put (BNK_SCRUBPOS_ROW b) (r + 1)) (BNK_SCRUBPOS_PASSES b)
      ((s.put (BNK_SCRUBPOS_ROW b) (r + 1)).get (BNK_SCRUBPOS_PASSES b) + 1)).trans (State.put_without (by decide) s _ _)
    rw [State.incWrap_eq]
    refine ⟨State.eq_of_without_regs hframe, fun a ha => ?_⟩
    rw [State.put_word_other _ _ (List.ne_of_not_mem_cons ha), State.put_word_other _ _ (List.ne_of_not_mem_cons ha)]
  · exact ⟨State.eq_of_without_regs (State.put_without (by decide) s _ _), fun a ha => State.put_word_other _ _ (List.ne_of_not_mem_cons ha)⟩

/-- The records of row r: those of a pair of channels. -/
def State.scrubPair (s : State) (b r : Nat) : State :=
  ((s.readPosted (64 * b + 2 * (r / 2048)) (r % 2048) srcScrub).1.readPosted (64 * b + 2 * (r / 2048) + 1) (r % 2048) srcScrub).1

theorem scrubRow_eq (s : State) (b : Nat) : scrubRow s b = (s.scrubPair b (s.get (BNK_SCRUBPOS_ROW b))).scrubNext b (s.get (BNK_SCRUBPOS_ROW b)) := by
  unfold scrubRow State.scrubPair State.scrubNext
  rfl

theorem State.scrubPair_word {a : Nat} (h : apartFromErrors a) (s : State) (b r : Nat) : (s.scrubPair b r).word a = s.word a := by
  rw [State.scrubPair, State.readPosted_word h, State.readPosted_word h]

theorem State.scrubPair_clean {s : State} (h : s.storeErr = []) (b r : Nat) : s.scrubPair b r = s := by
  unfold State.scrubPair
  rw [State.readPosted_clean h, State.readPosted_clean h]

/-! ### The wipe -/

theorem State.modCyc_eq (s : State) (n : Nat) (f : Cyc → Cyc) : s.modCyc n f = s.setChan n { s.chan n with cyc := f (s.chan n).cyc } := by
  rw [State.modCyc, State.modChan_eq]

/-- The slots and shadows of a channel are empty. -/
def Chan.cleared (x : Chan) : Prop := x.cyc.live = [] ∧ x.cyc.shad = []

/-- The slots and shadows of one channel of the slice are emptied. -/
def State.clearChan (b : Nat) (s : State) (i : Nat) : State := s.modCyc (64 * b + i) (fun c => { c with live := [], shad := [] })

/-- The records of the slice are gone. -/
def State.clearRecords (s : State) (b : Nat) : State :=
  { s with
    store := s.store.filter (fun p => decide (p.1 / 2048 / 64 ≠ b)), storeErr := s.storeErr.filter (fun p => decide (p.1 / 2048 / 64 ≠ b)) }

theorem State.clearSlice_eq (s : State) (b : Nat) : s.clearSlice b = (List.range 64).foldl (State.clearChan b) (s.clearRecords b) := by
  unfold State.clearSlice State.clearRecords State.clearChan
  rfl

theorem State.clearChan_without (hc : .chans ∈ l) (b : Nat) (s : State) (i : Nat) : (State.clearChan b s i).without l = s.without l := by
  rw [State.clearChan, State.modCyc_eq, State.setChan_without hc]

theorem State.clearChan_cleared (b : Nat) (s : State) (i : Nat) : ((State.clearChan b s i).chan (64 * b + i)).cleared := by
  rw [State.clearChan, State.modCyc_eq, State.setChan_chan]
  exact ⟨rfl, rfl⟩

theorem State.clearChan_keeps (b : Nat) {s : State} {n : Nat} (h : (s.chan n).cleared) (i : Nat) : ((State.clearChan b s i).chan n).cleared := by
  by_cases hn : n = 64 * b + i
  · exact hn ▸ State.clearChan_cleared b s i
  · rwa [State.clearChan, State.modCyc_eq, State.setChan_chan_other _ _ hn]

theorem State.clearSlice_without (hs : .store ∈ l) (he : .storeErr ∈ l) (hc : .chans ∈ l) (s : State) (b : Nat) :
    (s.clearSlice b).without l = s.without l := by
  rw [State.clearSlice_eq, foldl_keeps (fun u : State => u.without l) fun u i _ => State.clearChan_without hc b u i]
  simp [State.clearRecords, State.without, hs, he]

/-- No record of the slice is left, every other stays. -/
theorem State.mem_clearSlice_store (s : State) (b : Nat) (p : Nat × Record) : p ∈ (s.clearSlice b).store ↔ p ∈ s.store ∧ p.1 / 131072 ≠ b := by
  have hfold : (s.clearSlice b).store = (s.clearRecords b).store := by
    rw [State.clearSlice_eq, foldl_keeps (fun u : State => u.store) fun u i _ =>
      State.store_of_without (State.clearChan_without (l := [.chans]) (by decide) b u i) (by decide)]
  rw [hfold, State.clearRecords, List.mem_filter, decide_eq_true_iff, Nat.div_div_eq_div_mul]

theorem State.clearSlice_cleared (s : State) (b : Nat) {i : Nat} (h : i < 64) : ((s.clearSlice b).chan (64 * b + i)).cleared := by
  rw [State.clearSlice_eq]
  exact foldl_reaches (P := fun u : State => (u.chan (64 * b + i)).cleared) (fun _ => ()) (List.mem_range.2 h) (fun _ _ _ => rfl)
    (fun u _ => State.clearChan_cleared b u i) fun u x hu => State.clearChan_keeps b hu x

/-- After the wipe, with nothing held. -/
theorem wipeDone_of_nothing {s : State} {b : Nat} (h : (s.bank b).cueq = []) : wipeDone s b = (s.clearSlice b).put (BNK_CUESTAT_WIPING b) 0 := by
  rw [wipeDone, h]
  rfl

/-- Whatever was held, the wipe is over. -/
theorem wipeDone_wiping (s : State) (b : Nat) : (wipeDone s b).bit (BNK_CUESTAT_WIPING b) = false := by
  rw [wipeDone, State.bit_of_word (r := BNK_CUESTAT_WIPING b) (State.drainHub_word (apartFromErrors_CUESTAT b) _ b _),
    State.put_bit _ (by simp [Ref.fits, BNK_CUESTAT_WIPING])]
  simp

/-! ### Frames in the form of the statement -/

theorem State.eq_of_without_store {s t : State} (h : t.without [.store] = s.without [.store]) : t = { s with store := t.store } :=
  State.eq_of_without h

theorem State.eq_of_without_store_errors {s t : State} (h : t.without [.store, .storeErr] = s.without [.store, .storeErr]) :
    t = { s with store := t.store, storeErr := t.storeErr } := State.eq_of_without h

theorem State.eq_of_without_banks {s t : State} (h : t.without [.banks] = s.without [.banks]) : t = { s with banks := t.banks } :=
  State.eq_of_without h

theorem State.eq_of_without_wipe {s t : State} (h : t.without [.regs, .store, .storeErr, .chans] = s.without [.regs, .store, .storeErr, .chans]) :
    t = { s with regs := t.regs, store := t.store, storeErr := t.storeErr, chans := t.chans } := State.eq_of_without h

end Sys2Proof.Machine
end

section
open Sys2Proof Sys2Proof.Machine

/-- Settles O18: a request of the window is one access to its slice; over a store without errors it writes or reads its bytes. -/
theorem contextStoreReadAfterWrite : Obligations.ContextStoreReadAfterWrite := by
  unfold Obligations.ContextStoreReadAfterWrite
  refine ⟨?written, ?record, ?read, ?refused, ?writeWaits, ?readOff, ?readWaits, ?scrub, ?wipe⟩
  case written =>
    intro off bytes s hr h1 h2 h3 hc hd hw hq he
    have hstep := exec_contextWindowWrite hr h1 h2 h3
    rw [contextWindowWrite_access hc hd, State.storeAccess_free hw hq, State.doHeld] at hstep
    obtain ⟨hframe, hbyte⟩ := State.windowWrite_clean (Nat.lt_succ_self (bytes.map (fun x => x.toNat)).length) he off
    refine ⟨_, hstep, fun x => ?_, State.eq_of_without_store hframe⟩
    refine (hbyte x).trans ?_
    rw [List.length_map, map_toNat_getD]
    rfl
  case record =>
    intro b key bytes s hr hc hd hw hq
    have hlen : bytes.toList.length = 32 := Vector.length_toList
    have hoff : 0x400000 * b.val + 32 * key.val = 32 * (131072 * b.val + key.val) := by omega
    have hslice : (0x400000 * b.val + 32 * key.val) / 0x400000 = b.val := by omega
    have hstep := exec_contextWindowWrite hr (by rw [hlen]; omega) (by rw [hlen]; omega) (by rw [hlen]; decide)
    rw [contextWindowWrite_access hc (by rw [hslice]; exact hd), hslice, State.storeAccess_free hw hq, State.doHeld, hoff,
      State.windowWrite_record _ _ (by rw [List.length_map, hlen])] at hstep
    rw [← hoff] at hstep
    have hkey := recKey_div_mod (131072 * b.val + key.val)
    generalize 131072 * b.val + key.val = k at hstep hkey
    refine ⟨_, hstep, ?_, ?_, fun m hm => ?_, State.eq_of_without_store_errors (State.putRecord_without (by decide) (by decide) _ _ _ _)⟩
    · rw [State.putRecord, hkey, tabGet_tabSet_same]
    · rw [State.putRecord, hkey, tabGet_tabSet_same]
    · rw [State.putRecord, hkey, tabGet_tabSet_other _ _ _ _ (List.ne_of_not_mem_cons hm),
        tabGet_tabSet_other _ _ _ _ (List.ne_of_not_mem_cons hm)]
      exact ⟨rfl, rfl⟩
  case read =>
    intro off len s hr h1 h2 h3 hd hw hq he
    rw [exec_contextWindowRead hr h1 h2 h3, contextWindowRead_access hd, State.storeAccess_free hw hq, State.doHeld, State.answerRead,
      State.windowRead_clean (Nat.lt_succ_self len) he]
    rfl
  case refused =>
    intro off bytes s hr h1 h2 h3 hno
    have hstep := exec_contextWindowWrite hr h1 h2 h3
    rw [contextWindowWrite, if_pos hno, State.inc_eq] at hstep
    refine ⟨_, hstep, ?_, State.eq_of_without_regs (State.put_without (by decide) _ _ _), fun a ha => State.put_word_other _ _ (List.ne_of_not_mem_cons ha)⟩
    rw [State.put_get _ (by decide), Nat.mod_eq_of_lt]
    simp only [GLB_WINVIOL_COUNT]
    omega
  case writeWaits =>
    intro off bytes s hr h1 h2 h3 hc hd hwait
    have hstep := exec_contextWindowWrite hr h1 h2 h3
    rw [contextWindowWrite_access hc hd, State.storeAccess_waits hwait] at hstep
    refine ⟨_, hstep, by rw [State.setBank_bank], State.eq_of_without_banks (State.setBank_without (by decide) _ _ _), fun m hm =>
      State.setBank_bank_other _ _ (List.ne_of_not_mem_cons hm)⟩
  case readOff =>
    intro off len s hr h1 h2 h3 hd
    rw [exec_contextWindowRead hr h1 h2 h3, contextWindowRead, if_pos hd]
    rfl
  case readWaits =>
    intro off len s hr h1 h2 h3 hd hwait
    have hstep := exec_contextWindowRead hr h1 h2 h3
    rw [contextWindowRead_access hd, State.storeAccess_waits hwait] at hstep
    refine ⟨_, hstep, by rw [State.setBank_bank], State.eq_of_without_banks (State.setBank_without (by decide) _ _ _), fun m hm =>
      State.setBank_bank_other _ _ (List.ne_of_not_mem_cons hm)⟩
  case scrub =>
    intro b s hen hdll hw
    have hstep : exec (.scrubRow b) s = .next (scrubRow s b) := if_pos ⟨hen, hdll, hw⟩
    obtain ⟨hrow, hpass⟩ := (s.scrubPair b (s.get (BNK_SCRUBPOS_ROW b))).scrubNext_get b (s.get (BNK_SCRUBPOS_ROW b))
    have hsame : (s.scrubPair b (s.get (BNK_SCRUBPOS_ROW b))).get (BNK_SCRUBPOS_PASSES b) = s.get (BNK_SCRUBPOS_PASSES b) :=
      State.get_of_word (State.scrubPair_word (apartFromErrors_SCRUBPOS b) _ _ _)
    rw [scrubRow_eq] at hstep
    refine ⟨_, hstep, hrow, ?_, fun he => ?_⟩
    · rw [hpass, hsame]
    · rw [State.scrubPair_clean he]
      exact s.scrubNext_regsOnly b _
  case wipe =>
    intro b s hw
    have hstep : exec (.wipeDone b) s = .next (wipeDone s b) := if_pos hw
    refine ⟨_, hstep, wipeDone_wiping s b, fun hq => ?_⟩
    rw [wipeDone_of_nothing hq]
    have hmem (p : Nat × Record) := s.mem_clearSlice_store b p
    have hclear (i : Fin 64) := s.clearSlice_cleared b i.isLt
    have hframe := s.clearSlice_without (l := [.regs, .store, .storeErr, .chans]) (by decide) (by decide) (by decide) b
    have hword (a : Nat) := State.word_of_without (s.clearSlice_without (l := [.store, .storeErr, .chans]) (by decide) (by decide) (by decide) b)
      (by decide) a
    generalize s.clearSlice b = u at hmem hclear hframe hword
    refine ⟨fun p hp => ?_, fun p hp hne => ?_, fun i => ?_, State.eq_of_without_wipe ((State.put_without (by decide) _ _ _).trans hframe),
      fun a ha => ?_⟩
    · rw [State.put_store] at hp
      exact ((hmem p).1 hp).2
    · rw [State.put_store]
      exact (hmem p).2 ⟨hp, hne⟩
    · rw [State.put_chan]
      exact hclear i
    · rw [State.put_word_other _ _ (List.ne_of_not_mem_cons ha), hword]

end

section
/-! What a command leaves of a concrete state, for the refutations of the statements about roots. -/

namespace Sys2Proof.Machine

/-- The state that a command leaves. -/
def State.after (s : State) (c : Instr) : State :=
  match exec c s with
  | .next t => t
  | _ => s

theorem State.after_of_next {s t : State} {c : Instr} (h : exec c s = .next t) : s.after c = t := by rw [State.after, h]

end Sys2Proof.Machine
end

section
/-! O3: the clause on a disabled root leaves out the gap between two segments of a ramp. -/

namespace Sys2Proof.Machine

/-- Root 1 in RAMP, between two segments: the dwell of the first has ended and its step is committed (03, R76, R84). No bank selects it. -/
def betweenSegments : State :=
  ({ State.reset with
    roots := [(1, { Root.init with st := stRamp, lock := true, rt := 5, ramp := some ⟨0, 0, none, Seg.init, true, 0⟩ })] }.put
      (PWR_PDSTAT_STATE 73) 2).put (SYN_CTRL_EN 1) 1

/-- The clear of EN is taken at once: the root is OFF (02, R44; 03, R76). -/
theorem rootDisable_between_segments_enters_off : (betweenSegments.after (.rootDisable .firmware 1 0x20)).rootState 1 = stOff := by decide +kernel

end Sys2Proof.Machine

open Sys2Proof Sys2Proof.Machine

/-- Refutes O3. Its clause on an accepted clear of EN keeps the state of a root while a routine runs. `betweenSegments` runs the
routine of a ramp, 5, and stands between two of its segments, where no step runs: the clear is taken at once and the root is OFF. -/
theorem not_rootControlWrites : ¬ Obligations.RootControlWrites := by
  unfold Obligations.RootControlWrites
  rintro ⟨-, -, hdisable, -⟩
  obtain ⟨t, hexec, -, -, -, -, hroutine, -⟩ := hdisable .firmware 1 0x20 betweenSegments (by decide +kernel) (by decide) (by decide) (by decide)
    (by decide) (by decide) (by decide +kernel)
  obtain ⟨hkept, -⟩ := hroutine (by decide)
  rw [← State.after_of_next hexec] at hkept
  exact absurd (rootDisable_between_segments_enters_off.symm.trans hkept) (by decide)

end

section
/-! O4: the clause on a second request that is refused leaves out that the table of roots is written. -/

namespace Sys2Proof.Machine

/-- The table of roots is out of order: root 0 stands behind root 1. A PRIO 1 hop pends on root 0. -/
def rootsOutOfOrder : State :=
  { State.reset with roots := [(1, { Root.init with tb := 1 }), (0, { Root.init with pend := some ⟨1, true, .none, none⟩ })] }.put
    (PWR_PDSTAT_STATE 72) 2

/-- The write of root 0, with the hop that pends, puts the table in order. -/
theorem hopRequest_refused_orders_roots : (rootsOutOfOrder.after (.hopRequest .firmware 0 0x80000000)).roots.map Prod.fst = [0, 1] := by
  decide +kernel

end Sys2Proof.Machine

open Sys2Proof Sys2Proof.Machine

/-- Refutes O4. Its clause on a request that the pending one outranks says of every state that nothing but HOPSTAT differs, the table of
roots included. The request writes the pending hop again as it is, and a write of a table puts its entry in the order of the keys
(`tabSet`): in `rootsOutOfOrder`, whose table is not in that canonical form, the table of roots differs afterwards. -/
theorem not_hopRequestIsExecutedOrPends : ¬ Obligations.HopRequestIsExecutedOrPends := by
  unfold Obligations.HopRequestIsExecutedOrPends
  rintro ⟨-, -, -, hrefused, -⟩
  obtain ⟨t, hexec, -, -, -, hframe, -⟩ := hrefused .firmware 0 0x80000000 rootsOutOfOrder ⟨1, true, .none, none⟩ (by decide +kernel) (by decide)
    (by decide) rfl (by decide)
  have hkept : t.roots = rootsOutOfOrder.roots := by rw [hframe]
  rw [← State.after_of_next hexec] at hkept
  have hordered := hopRequest_refused_orders_roots
  rw [hkept] at hordered
  exact absurd hordered (by decide)

end

section
/-! O6: the clause on the OFF step leaves out what an interruption left in SEQn_STAT. -/

namespace Sys2Proof.Machine

/-- Root 0 runs the OFF step of an accepted clear of EN; a loss has interrupted its HOPOUT, routine 4, after one step, which SEQ0_STAT shows
again when no routine runs (03, R79). -/
def offAfterInterrupt : State :=
  { State.reset with roots := [(0, { Root.init with st := stCoast, rt := 9, waitOff := true, intr := some ⟨4, 1, true⟩ })] }

/-- After the OFF step SEQ0_STAT shows the interrupted routine. -/
theorem offStep_shows_interrupted_routine :
    (offAfterInterrupt.after (.sequencerStepCommit 0 false [])).get (SEQ_STAT_ROUTINE 0) = 4 := by decide +kernel

end Sys2Proof.Machine

open Sys2Proof Sys2Proof.Machine

/-- Refutes O6. Its clause on the OFF step says that SEQn_STAT.ROUTINE is 0 after it. In `offAfterInterrupt` an interruption has left the
routine HOPOUT in SEQ0_STAT, which the OFF step keeps: ROUTINE is 4. -/
theorem not_phaseStepsCyclesAndStepBoundaries : ¬ Obligations.PhaseStepsCyclesAndStepBoundaries := by
  unfold Obligations.PhaseStepsCyclesAndStepBoundaries
  rintro ⟨-, -, -, -, -, -, -, -, -, hoff⟩
  obtain ⟨t, hexec, -, -, -, -, -, -, -, hroutine, -⟩ := hoff 0 [] offAfterInterrupt rfl rfl rfl (.inl rfl)
  rw [← State.after_of_next hexec] at hroutine
  exact absurd (offStep_shows_interrupted_routine.symm.trans hroutine) (by decide)

end

section
/-! O32 and O37: the clauses on the start of a ramp leave out that it may end a hop request that waits, and answer its source. -/

namespace Sys2Proof.Machine

/-- A root LOCKED in band 32, a hop of `src` accepted on it that has not started, and a later one that pends. -/
def lockedWithTwoHops (src : Src) : Root :=
  { Root.init with
    st := stLocked, lock := true, band := 32, com := { Root.init.com with st := stLocked }
    hop := some (⟨1, false, src, none⟩, .waiting), pend := some ⟨2, false, .none, none⟩ }

/-- The device with that root 0: a reference of 100 MHz, a T-clock of a quarter of the VCO's, band 32 from 12.0 to 14.0 GHz, so that a
ramp to the reset target of 12.8 GHz passes its checks (03, R85). -/
def readyForRamp (src : Src) : State :=
  ({ State.reset with roots := [(0, lockedWithTwoHops src)], shadow := [(128, 0x36B02EE0)] }.put (SYN_REFFREQ_KHZ 0) 100000).put (SYN_CTRL_ODIV 0) 2

/-- The RAMP command of a port for group 0. -/
def tspRampCmd : Nat := 0x11 * 2 ^ 120

/-- Port 0 is attached and owns group 0, whose member is channel 0; a RAMP has come in, and the ramp of root 0 is armed for select ports. The
hop that has not started is the port's own. -/
def portRampOverHops : State :=
  ((((((readyForRamp (.port 0 0 1)).put (TSP_STAT_LSTATE 0) 4).put (TSP_STAT_HELLO 0) 1).put (GRP_STAT_OWNED 0) 1).put (CH_GRP_MEMBER 0) 1).put
    (SYN_RCTRL_ARM 0) 1).put (SYN_RCTRL_TRIG 0) 1 |>.setTsp 0 { Tsp.init with inbox := [.cmd tspRampCmd] }

/-- The port is answered twice: its hop would wait as pending, where the later one replaces it and it ends CANCELLED, and the ramp starts
(02, R54; 03, R86). -/
theorem tspRamp_answers_cancelled_hop : ((portRampOverHops.after (.tspRamp 0)).tsp 0).results.length = 2 := by decide +kernel

/-- The RAMP command for root 0 that flow 0 runs, and a HOP command of flow 1 that waits for its hop. -/
def mbxRampCmd : Cmd := ⟨0, 0, 0x0121, .running, 0, 0, 0, false, false, 0, false, false, 0, 0, none⟩
def mbxHopCmd : Cmd := ⟨0, 0, 0x0120, .started, 0, 0, 0, false, false, 0, false, false, 0, 0, none⟩

/-- A core has the RAMP of flow 0. The hop that has not started is that of flow 1. -/
def flowRampOverHops : State :=
  ((readyForRamp (.flow 1 0)).setFlow 0 { Flow.init with cmds := [mbxRampCmd] }).setFlow 1 { Flow.init with cmds := [mbxHopCmd] }

/-- The HOP command of flow 1 finishes as its hop ends CANCELLED. -/
theorem ramp_finishes_cancelled_hop : ((flowRampOverHops.after (.ramp 0 0)).flow 1).cmds.map Cmd.st = [.finished] := by decide +kernel

end Sys2Proof.Machine

open Sys2Proof Sys2Proof.Machine

/-- Refutes O32. Its clause on a RAMP that starts says that the port gets one answer. In `portRampOverHops` a hop accepted on the root has not
started, which the port asked for, and a later one pends: as the ramp starts, the former ends CANCELLED and is answered too. -/
theorem not_portCommandsForRootsAndTakes : ¬ Obligations.PortCommandsForRootsAndTakes := by
  unfold Obligations.PortCommandsForRootsAndTakes
  rintro ⟨-, -, -, -, -, -, hstarts, -⟩
  obtain ⟨t, hexec, -, -, -, -, -, hframe⟩ := hstarts 0 tspRampCmd [] portRampOverHops (by decide) (by decide) (by decide) (by decide +kernel)
    (by decide +kernel) (by decide) (by decide +kernel) (by decide +kernel) (by decide +kernel) (by decide +kernel) (by decide +kernel)
  obtain ⟨-, hanswer⟩ := hframe rfl
  have hone := congrArg List.length (hanswer (by decide))
  rw [← State.after_of_next hexec, List.length_append] at hone
  exact absurd (tspRamp_answers_cancelled_hop.symm.trans hone) (by decide)

/-- Refutes O37. Its clause on a RAMP that starts says that no flow but the command's own differs. In `flowRampOverHops` a hop accepted on the
root, of a HOP command of flow 1, has not started and a later one pends: as the ramp starts, the former ends CANCELLED and that command
finishes. -/
theorem not_mailboxRootsTakesAndResults : ¬ Obligations.MailboxRootsTakesAndResults := by
  unfold Obligations.MailboxRootsTakesAndResults
  rintro ⟨-, -, -, -, -, hstarts, -⟩
  obtain ⟨t, hexec, ⟨-, hflows⟩, -⟩ := hstarts 0 0 [] [] mbxRampCmd flowRampOverHops (by decide) (by decide) (by decide) (by decide)
    (by decide +kernel) (by decide)
  have hkept := hflows 1 (by decide)
  rw [← State.after_of_next hexec] at hkept
  have hfinished := ramp_finishes_cancelled_hop
  rw [hkept] at hfinished
  exact absurd hfinished (by decide)

end

section
open Sys2Proof Sys2Proof.Machine

/-- Settles O60: every field of the reset state, and of the sixteen serial ports, four roots, eight banks and 64 flows, is computed. -/
theorem resetState : Obligations.ResetState := by
  unfold Obligations.ResetState
  rintro s rfl
  exact ⟨rfl, rfl, by decide +kernel, by decide, by decide, by decide, fun _ => rfl, by decide⟩

end

section
/-! Operations on one root synthesiser: the frame of each, as one relation between states, and what it leaves of the root
(02, R50, R54; 03, R73, R74, R79). -/

namespace Sys2Proof.Machine

/-! ### The frame -/

@[simp] theorem State.setRoot_without {l : List Part} (h : .roots ∈ l) (s : State) (n : Nat) (x : Root) :
    (s.setRoot n x).without l = s.without l := by
  simp [State.setRoot, State.without, h]

theorem State.root_of_without {l : List Part} {s t : State} (h : t.without l = s.without l) (hp : .roots ∉ l) (n : Nat) : t.root n = s.root n :=
  congrArg (tabGet Root.init · n) (State.roots_of_without h hp)

theorem State.broadcast_without {l : List Part} (hp : .pls ∈ l) (ho : .out ∈ l) (s : State) (i : LinkItem) :
    (s.broadcast i).without l = s.without l :=
  foldl_keeps (fun u => u.without l) (fun u fr _ => foldl_keeps (fun v => v.without l) (fun v p _ => v.txFrame_without hp ho p fr) u) s

/-- From `s` to `t` no root but `n` differs, no register but the listed ones, and otherwise the listed parts of the state alone. -/
structure RootFrame (l : List Part) (n : Nat) (ws : List Nat) (s t : State) : Prop where
  rest : t.without (.roots :: l) = s.without (.roots :: l)
  roots : SameRoots [n] s t
  words : SameWords ws s t

namespace RootFrame

variable {l : List Part} {n : Nat} {ws : List Nat} {s t u : State}

theorem refl (l : List Part) (n : Nat) (ws : List Nat) (s : State) : RootFrame l n ws s s := ⟨rfl, fun _ _ => rfl, fun _ _ => rfl⟩

theorem trans (h : RootFrame l n ws s t) (h' : RootFrame l n ws t u) : RootFrame l n ws s u :=
  ⟨h'.rest.trans h.rest, fun m hm => (h'.roots m hm).trans (h.roots m hm), fun a ha => (h'.words a ha).trans (h.words a ha)⟩

theorem mono {ws' : List Nat} (h : RootFrame l n ws s t) (hw : ws ⊆ ws') : RootFrame l n ws' s t :=
  ⟨h.rest, h.roots, fun a ha => h.words a fun hm => ha (hw hm)⟩

theorem get (h : RootFrame l n ws s t) (r : Ref) (hr : r.addr ∉ ws) : t.get r = s.get r := State.get_of_word (h.words _ hr)

theorem bit (h : RootFrame l n ws s t) (r : Ref) (hr : r.addr ∉ ws) : t.bit r = s.bit r := State.bit_of_word (h.words _ hr)

theorem of_ite {c : Prop} [Decidable c] (h : RootFrame l n ws s t) (h' : RootFrame l n ws s u) : RootFrame l n ws s (if c then t else u) := by
  split
  · exact h
  · exact h'

theorem setRoot (h : RootFrame l n ws s t) (x : Root) : RootFrame l n ws s (t.setRoot n x) :=
  ⟨(State.setRoot_without (by simp) _ _ _).trans h.rest,
    fun m hm => (State.setRoot_root_other _ _ (List.ne_of_not_mem_cons hm)).trans (h.roots m hm),
    fun a ha => (State.setRoot_word _ _ _ _).trans (h.words a ha)⟩

theorem modRoot (h : RootFrame l n ws s t) (f : Root → Root) : RootFrame l n ws s (t.modRoot n f) := by
  rw [State.modRoot_eq]
  exact h.setRoot _

/-- A field that is put. -/
theorem put (h : RootFrame l n ws s t) {r : Ref} (hr : r.addr ∈ ws) (v : Nat) (hl : .regs ∈ l := by decide) : RootFrame l n ws s (t.put r v) :=
  h.trans ⟨State.put_without (List.mem_cons_of_mem _ hl) _ _ _, fun _ _ => State.put_root _ _ _ _,
    fun _ ha => State.put_word_other _ _ (ne_of_mem_of_not_mem hr ha).symm⟩

/-- A flag that is set, with the interrupt that it may raise. -/
theorem flag (h : RootFrame l n ws s t) {r : Ref} (hr : r.addr ∈ ws) (v : Nat) (hl : .regs ∈ l := by decide) (hm : .msixPend ∈ l := by decide)
    (ho : .out ∈ l := by decide) : RootFrame l n ws s (t.flag v r) :=
  h.trans ⟨State.flag_without (List.mem_cons_of_mem _ hl) (List.mem_cons_of_mem _ hm) (List.mem_cons_of_mem _ ho) _ _ _,
    fun m _ => State.root_of_without (State.flag_without (l := [.regs, .msixPend, .out]) (by decide) (by decide) (by decide) _ _ _) (by decide) m,
    fun _ ha => State.flag_word _ _ _ (ne_of_mem_of_not_mem hr ha).symm⟩

theorem later (h : RootFrame l n ws s t) (e : Eff) : RootFrame l n ws s (t.later n e) := h.modRoot _

theorem lastStep (h : RootFrame l n ws s t) : RootFrame l n ws s (t.lastStep n) := h.modRoot _

theorem setSt (h : RootFrame l n ws s t) (st : Nat) : RootFrame l n ws s (t.setSt n st) := (h.modRoot _).later _

theorem setBand (h : RootFrame l n ws s t) (b : Nat) : RootFrame l n ws s (t.setBand n b) := (h.modRoot _).later _

theorem lossEffects (h : RootFrame l n ws s t) : RootFrame l n ws s (t.lossEffects n) := ((h.later _).later _).later _

theorem noteVar (h : RootFrame l n ws s t) : RootFrame l n ws s (t.noteVar n) := h.of_ite (h.setRoot _)

theorem hopDone (h : RootFrame l n ws s t) (result : Nat) : RootFrame l n ws s (t.hopDone n result) := by
  rw [State.hopDone]
  split
  · exact h
  · exact ((h.modRoot _).later _).later _

theorem enterLocked (h : RootFrame l n ws s t) : RootFrame l n ws s (t.enterLocked n) := by
  unfold State.enterLocked
  exact (((((h.modRoot _).setSt _).later _).later _).lastStep).noteVar

theorem enterSearch (h : RootFrame l n ws s t) : RootFrame l n ws s (t.enterSearch n) :=
  have hshown := (((((h.setRoot _).later _).later _).later _).later _).later _
  ((hshown.later _).of_ite hshown).noteVar

theorem showPend (h : RootFrame l n ws s t) (hw : SYN_HOPSTAT n ∈ ws) (hl : .regs ∈ l := by decide) : RootFrame l n ws s (t.showPend n) := by
  rw [State.showPend]
  split <;> exact (h.put hw _ hl).put hw _ hl

theorem showIntr (h : RootFrame l n ws s t) (hw : SEQ_STAT n ∈ ws) (hl : .regs ∈ l := by decide) : RootFrame l n ws s (t.showIntr n) :=
  (((h.put hw _ hl).put hw _ hl).put hw _ hl).put hw _ hl

theorem routine (h : RootFrame l n ws s t) (hw : SEQ_STAT n ∈ ws) (code : Nat) (hl : .regs ∈ l := by decide) : RootFrame l n ws s (t.routine n code) :=
  ((((h.modRoot _).put hw _ hl).put hw _ hl).put hw _ hl).put hw _ hl

theorem routineEnd (h : RootFrame l n ws s t) (hw : SEQ_STAT n ∈ ws) (hl : .regs ∈ l := by decide) : RootFrame l n ws s (t.routineEnd n) :=
  (h.modRoot _).showIntr hw hl

theorem interrupt (h : RootFrame l n ws s t) (hw : SEQ_STAT n ∈ ws) (hl : .regs ∈ l := by decide) : RootFrame l n ws s (t.interrupt n) :=
  h.of_ite ((h.routineEnd hw hl).of_ite ((h.modRoot _).routineEnd hw hl))

theorem suspendRamp (h : RootFrame l n ws s t) (hw : SEQ_STAT n ∈ ws) (hw' : SYN_RSTAT n ∈ ws) (hl : .regs ∈ l := by decide) :
    RootFrame l n ws s (t.suspendRamp n) :=
  (((h.modRoot _).interrupt hw hl).put hw _ hl).put hw' _ hl

theorem commitWord (h : RootFrame l n ws s t) (hlo : SYN_FWACTLO n ∈ ws) (hhi : SYN_FWACTHI n ∈ ws) (hss : SYN_SSSTAT n ∈ ws)
    (hl : .regs ∈ l := by decide) : RootFrame l n ws s (t.commitWord n) :=
  ((((h.put hlo _ hl).put hhi _ hl).put hhi _ hl).put hss _ hl).noteVar

theorem commitRamp (h : RootFrame l n ws s t) (hw : SYN_RSTAT n ∈ ws) (hl : .regs ∈ l := by decide) : RootFrame l n ws s (t.commitRamp n) := by
  rw [State.commitRamp]
  split
  · exact h
  · exact h.of_ite ((h.put hw _ hl).put hw _ hl)

/-- The alignment of a root is void: its register, and what a master sends the other devices (11, R340). -/
theorem alignVoid (h : RootFrame l n ws s t) (hw : PRL_ALIGN n ∈ ws) (why : Nat) (hs : t.bit PRL_TREE_MASTER = false ∨ .pls ∈ l ∧ .out ∈ l)
    (hl : .regs ∈ l := by decide) : RootFrame l n ws s (t.alignVoid n why) := by
  have hvoid := (((h.modRoot fun r => { r with voids := r.voids + t.get (PRL_ALIGN_ALIGNED n) }).put (r := PRL_ALIGN_ALIGNED n) hw 0 hl).put
    (r := PRL_ALIGN_WHY n) hw why hl)
  rw [State.alignVoid]
  split
  next hm =>
    have hparts : .pls ∈ l ∧ .out ∈ l := hs.resolve_left (by simp [hm])
    exact hvoid.trans ⟨State.broadcast_without (List.mem_cons_of_mem _ hparts.1) (List.mem_cons_of_mem _ hparts.2) _ _,
      fun m _ => State.root_of_without (State.broadcast_without (l := [.pls, .out]) (by decide) (by decide) _ _) (by decide) m,
      fun a _ => State.word_of_without (State.broadcast_without (l := [.pls, .out]) (by decide) (by decide) _ _) (by decide) a⟩
  next => exact hvoid

end RootFrame

/-! ### Frames in the form of the statements -/

theorem RootFrame.eq_regs {n : Nat} {ws : List Nat} {s t : State} (h : RootFrame [.regs] n ws s t) : t = { s with regs := t.regs, roots := t.roots } :=
  State.eq_of_without h.rest

theorem RootFrame.eq_roots {n : Nat} {ws : List Nat} {s t : State} (h : RootFrame [] n ws s t) : t = { s with roots := t.roots } :=
  State.eq_of_without h.rest

theorem RootFrame.eq_irq {n : Nat} {ws : List Nat} {s t : State} (h : RootFrame [.regs, .msixPend, .out] n ws s t) :
    t = { s with regs := t.regs, roots := t.roots, msixPend := t.msixPend, out := t.out } := State.eq_of_without h.rest

end Sys2Proof.Machine
end

section
/-! What an operation leaves of its root, and of the registers that it writes (02, R50, R54, R70; 03, R73, R74, R79). -/

namespace Sys2Proof.Machine

/-! ### The root -/

theorem State.later_root (s : State) (n : Nat) (e : Eff) : (s.later n e).root n = { s.root n with eff := (s.root n).eff ++ [e] } := by
  simp [State.later]

theorem State.lastStep_root (s : State) (n : Nat) : (s.lastStep n).root n = { s.root n with done := true } := by simp [State.lastStep]

theorem State.setSt_root (s : State) (n st : Nat) : (s.setSt n st).root n =
    { s.root n with st := st, locks := (s.root n).locks + b2n (st == stLocked), eff := (s.root n).eff ++ [.put (SYN_STAT_STATE n) st] } := by
  simp [State.setSt, State.later_root]

theorem State.setBand_root (s : State) (n b : Nat) : (s.setBand n b).root n =
    { s.root n with band := b, eff := (s.root n).eff ++ [.put (SYN_STAT_BAND n) b] } := by
  simp [State.setBand, State.later_root]

/-- What is noted of the word in force is its history alone. -/
theorem State.noteVar_root {s : State} {n : Nat} {r : Root} (hr : s.root n = r) :
    ∃ a h, (s.noteVar n).root n = { r with seen := a, hist := h } := by
  subst hr
  simp only [State.noteVar]
  split
  · exact ⟨_, _, rfl⟩
  · exact ⟨_, _, State.setRoot_root _ _ _⟩

/-- The registers in which the start of a band search shows itself at the commit (02, R46, R50; 03, R93). -/
def searchEffects (n : Nat) : List Eff :=
  [.put (SYN_STAT_STATE n) stSearch, .put (SYN_STAT_LOCK n) 0, .count (SYN_SRCHCNT_COUNT n), .put (SYN_STAT_BAND n) 32, .put (SYN_CSTAT_AVGVALID n) 0]

/-- A root that enters SEARCH, its history of words aside (02, R46, R50, R52). -/
def Root.searching (n : Nat) (r : Root) : Root :=
  { r with st := stSearch, lock := false, band := 32, fine := none, lo := 0, hi := 63, trial := 0, cnt := 0, loss := 0, settle := 0, avg := [],
           ssk := 0, snap := false, done := false, eff := r.eff ++ searchEffects n ++ (if r.everLock then [Eff.slip] else []) }

theorem State.enterSearch_root (s : State) (n : Nat) :
    ∃ a h, (s.enterSearch n).root n = { (s.root n).searching n with seen := a, hist := h } := by
  unfold State.enterSearch
  refine State.noteVar_root ?_
  split
  next hl => simp [State.later_root, Root.searching, searchEffects, hl]
  next hl => simp [State.later_root, Root.searching, searchEffects, hl]

/-- A root LOCKED anew, its history of words aside (02, R50; 03, R100). -/
def Root.locked (n : Nat) (r : Root) : Root :=
  { r with st := stLocked, lock := true, coasting := false, timing := false, everLock := true, cnt := 0, loss := 0, ssk := 0, snap := false,
           ret := none, locks := r.locks + 1, done := true,
           eff := r.eff ++ [.put (SYN_STAT_STATE n) stLocked, .put (SYN_STAT_LOCK n) 1, .put (SYN_STAT_COAST n) 0] }

theorem State.enterLocked_root (s : State) (n : Nat) :
    ∃ a h, (s.enterLocked n).root n = { (s.root n).locked n with seen := a, hist := h } := by
  unfold State.enterLocked
  refine State.noteVar_root ?_
  rw [State.lastStep_root, State.later_root, State.later_root, State.setSt_root, State.modRoot_eq, State.setRoot_root, Root.locked,
    List.append_assoc, List.append_assoc]
  rfl

@[simp] theorem State.showIntr_root (s : State) (n m : Nat) : (s.showIntr n).root m = s.root m := by simp [State.showIntr]

theorem State.routineEnd_root (s : State) (n : Nat) : (s.routineEnd n).root n = { s.root n with rt := 0, done := false, stepDue := false } := by
  simp [State.routineEnd]

theorem State.routine_root (s : State) (n code : Nat) : ∃ i, (s.routine n code).root n =
    { s.root n with rt := code, done := false, nstep := 0, stepCyc := 0, stepDue := false, intr := i } :=
  ⟨_, by simp [State.routine]; rfl⟩

theorem State.interrupt_root (s : State) (n : Nat) :
    ∃ d e i, (s.interrupt n).root n = { s.root n with rt := 0, done := d, stepDue := e, intr := i } := by
  simp only [State.interrupt]
  split
  next h => exact ⟨_, _, _, by rw [← h]⟩
  split
  · exact ⟨_, _, _, s.routineEnd_root n⟩
  · rw [State.routineEnd_root, State.modRoot_eq, State.setRoot_root]
    exact ⟨_, _, _, rfl⟩

theorem State.suspendRamp_root (s : State) (n : Nat) : ∃ d e i, (s.suspendRamp n).root n =
    { s.root n with base := (s.root n).com.base, checkpoint := (s.root n).com.base, ramp := (s.root n).com.ramp, rt := 0, done := d, stepDue := e,
                    intr := i } := by
  unfold State.suspendRamp
  generalize hu : s.modRoot n _ = u
  obtain ⟨d, e, i, hroot⟩ := u.interrupt_root n
  refine ⟨d, e, i, ?_⟩
  rw [State.put_root, State.put_root, hroot, ← hu, State.modRoot_eq, State.setRoot_root]

theorem State.showPend_root (s : State) (n m : Nat) : (s.showPend n).root m = s.root m := by
  unfold State.showPend
  split <;> simp

/-! ### Completions (07, R212; 14, R423) -/

theorem State.answer_without {l : List Part} (hr : .regs ∈ l) (ht : .tsps ∈ l) (hf : .flows ∈ l) (he : .ep ∈ l) (hp : .pls ∈ l)
    (hm : .msixPend ∈ l) (ho : .out ∈ l) (s : State) (src : Src) (code cyc res : Nat) : (s.answer src code cyc res).without l = s.without l := by
  cases src with
  | none => rfl
  | port p g tag => exact s.pushResult_without hr ht he hm ho p _
  | gone p => exact s.dropRecords_without hr he hm ho p 1
  | flow f c =>
    rw [State.answer, State.finishCmd, State.modFlow_eq]
    exact State.setFlow_without hf _ _ _
  | link dev tag => exact s.sendItem_without hp ho dev _
  | xtake dev tag idx => exact s.sendItem_without hp ho dev _

theorem State.answer_root (s : State) (src : Src) (code cyc res m : Nat) : (s.answer src code cyc res).root m = s.root m :=
  State.root_of_without (l := [.regs, .tsps, .flows, .ep, .pls, .msixPend, .out])
    (State.answer_without (by decide) (by decide) (by decide) (by decide) (by decide) (by decide) (by decide) _ _ _ _ _) (by decide) m

/-- No register of a root or a bank is one that a completion touches. -/
theorem State.answer_word (s : State) (src : Src) (code cyc res : Nat) {a : Nat} (h : 0x50000 ≤ a) (h' : a < 0xC0000) :
    (s.answer src code cyc res).word a = s.word a := by
  have hd (p : Nat) : a ≠ TSP_RESDROP p := by simp only [TSP_RESDROP]; omega
  have hf (p : Nat) : a ≠ TSP_FLAGS p := by simp only [TSP_FLAGS]; omega
  have hsent (dev : Nat) (i : LinkItem) : (s.sendItem dev i).word a = s.word a :=
    State.word_of_without (s.sendItem_without (l := [.pls, .out]) (by decide) (by decide) dev i) (by decide) a
  cases src with
  | none => rfl
  | port p g tag => exact s.pushResult_word p _ h (hd p) (hf p)
  | gone p => exact s.dropRecords_word p 1 (hd p) (hf p)
  | flow f c => exact s.finishCmd_word _ _ _ _ _ _ _ _
  | link dev tag => exact hsent dev _
  | xtake dev tag idx => exact hsent dev _

/-! ### The end of a hop request (02, R54, R70) -/

theorem State.hopResult_root (s : State) (n : Nat) (q : HopReq) (result code m : Nat) : (s.hopResult n q result code).root m = s.root m := by
  simp [State.hopResult, State.answer_root]

theorem State.hopResult_word (s : State) (n : Nat) (q : HopReq) (result code : Nat) {a : Nat} (h : 0x50000 ≤ a) (h' : a < 0xC0000)
    (hne : a ≠ SYN_HOPSTAT n) : (s.hopResult n q result code).word a = s.word a := by
  rw [State.hopResult, State.answer_word _ _ _ _ _ h h', State.put_word_other _ _ hne, State.put_word_other _ _ hne]

theorem State.pendHop_root (s : State) (n : Nat) (old new : HopReq) : ∃ p, (s.pendHop n old new).root n = { s.root n with pend := p } := by
  unfold State.pendHop
  split <;> exact ⟨_, by rw [State.showPend_root, State.hopResult_root, State.modRoot_eq, State.setRoot_root]⟩

theorem State.showPend_word (s : State) (n : Nat) {a : Nat} (h : a ≠ SYN_HOPSTAT n) : (s.showPend n).word a = s.word a := by
  unfold State.showPend
  split <;> rw [State.put_word_other _ _ h, State.put_word_other _ _ h]

theorem State.pendHop_word (s : State) (n : Nat) (old new : HopReq) {a : Nat} (h : 0x50000 ≤ a) (h' : a < 0xC0000) (hne : a ≠ SYN_HOPSTAT n) :
    (s.pendHop n old new).word a = s.word a := by
  unfold State.pendHop
  split <;> rw [State.showPend_word _ _ hne, State.hopResult_word _ _ _ _ _ h h' hne, State.modRoot_eq, State.setRoot_word]

/-- A hop that waits becomes the pending one, or is ended by the one that pends. -/
theorem State.unstartHop_root (s : State) (n : Nat) : ∃ h p, (s.unstartHop n).root n = { s.root n with hop := h, pend := p } := by
  unfold State.unstartHop
  split
  next q hq =>
    dsimp only
    split
    · exact ⟨_, _, by rw [State.showPend_root, State.modRoot_eq, State.setRoot_root, State.put_root, State.modRoot_eq, State.setRoot_root]⟩
    next p hp =>
      obtain ⟨x, hx⟩ := (((s.modRoot n fun r => { r with hop := none }).put (SYN_STAT_HOPBUSY n) 0).pendHop_root n q p)
      exact ⟨_, x, by rw [hx, State.put_root, State.modRoot_eq, State.setRoot_root]⟩
  · exact ⟨_, _, rfl⟩

theorem State.unstartHop_of_none {s : State} {n : Nat} (h : (s.root n).hop = none) : s.unstartHop n = s := by
  simp [State.unstartHop, h]

theorem State.unstartHop_word (s : State) (n : Nat) {a : Nat} (h : 0x50000 ≤ a) (h' : a < 0xC0000) (hs : a ≠ SYN_STAT n) (hne : a ≠ SYN_HOPSTAT n) :
    (s.unstartHop n).word a = s.word a := by
  unfold State.unstartHop
  split
  · dsimp only
    split
    · rw [State.showPend_word _ _ hne, State.modRoot_eq, State.setRoot_word, State.put_word_other _ _ hs, State.modRoot_eq, State.setRoot_word]
    · rw [State.pendHop_word _ _ _ _ h h' hne, State.put_word_other _ _ hs, State.modRoot_eq, State.setRoot_word]
  · rfl

/-! ### The registers -/

theorem State.routine_get (s : State) (n code : Nat) :
    (s.routine n code).get (SEQ_STAT_ROUTINE n) = code % 16 ∧ (s.routine n code).get (SEQ_STAT_SUSP n) = s.get (SEQ_STAT_SUSP n) := by
  simp (disch := (refine id ?_; simp [Ref.fits, Ref.apart, SEQ_STAT_ROUTINE, SEQ_STAT_STEP, SEQ_STAT_PARTIAL, SEQ_STAT_BUSY, SEQ_STAT_SUSP]))
    only [State.routine, State.put_get, State.put_get_other, State.modRoot_eq, State.setRoot_get]
  simp [SEQ_STAT_ROUTINE]

theorem State.suspendRamp_susp (s : State) (n : Nat) : (s.suspendRamp n).bit (SEQ_STAT_SUSP n) = true := by
  simp (disch := (refine id ?_; simp [Ref.fits, Ref.apart, SEQ_STAT_SUSP, SEQ_STAT, SYN_RSTAT_PHASE, SYN_RSTAT]))
    only [State.suspendRamp, State.bit, State.put_get, State.put_get_other]
  simp [SEQ_STAT_SUSP]

end Sys2Proof.Machine
end

section
/-! O1: wake, band search, lock, timeout and loss of a root (02, R46, R49 to R52; 03, R73, R74, R79, R81). -/

namespace Sys2Proof.Machine

/-! ### WAKE_DONE -/

/-- A table whose values are changed where the key satisfies a condition reads as before at every other key. -/
theorem tabGet_map_other {α : Type} (d : α) (c : Nat → Prop) [DecidablePred c] (f : α → α) {m : Nat} (hm : ¬ c m) (t : Tab α) :
    tabGet d (t.map (fun p => if c p.1 then (p.1, f p.2) else p)) m = tabGet d t m := by
  induction t with
  | nil => rfl
  | cons p t ih =>
    obtain ⟨k, v⟩ := p
    rw [List.map_cons]
    by_cases hk : k = m
    · subst hk
      simp [tabGet, hm]
    · dsimp only
      split <;> simp [tabGet, hk, ih]

theorem State.capClock_without {l : List Part} (hc : .caps ∈ l) (s : State) (b : Nat) (on : Bool) : (s.capClock b on).without l = s.without l := by
  simp [State.capClock, State.without, hc]

theorem State.capClock_word (s : State) (b : Nat) (on : Bool) (a : Nat) : (s.capClock b on).word a = s.word a := rfl

theorem State.capClock_cap (s : State) {b m : Nat} (h : m / 64 ≠ b) (on : Bool) : (s.capClock b on).cap m = s.cap m :=
  tabGet_map_other Cap.init (fun k => k / 64 = b) (fun x => x.clock on (s.root (s.get (BNK_STAT_ROOTACT b))).tb) h s.caps

/-- The parts that the DLL of a bank entering a state touches. -/
theorem State.dllTo_without {l : List Part} (hr : .regs ∈ l) (hb : .banks ∈ l) (hc : .caps ∈ l) (s : State) (code b : Nat) :
    (s.dllTo code b).without l = s.without l := by
  rw [State.dllTo, State.capClock_without hc, State.modBank_eq, State.setBank_without hb, State.put_without hr, State.put_without hr]

theorem State.dllTo_word (s : State) (code : Nat) {b a : Nat} (h : a ≠ BNK_STAT b) : (s.dllTo code b).word a = s.word a := by
  rw [State.dllTo, State.capClock_word, State.modBank_eq, State.setBank_word, State.put_word_other _ _ h, State.put_word_other _ _ h]

theorem State.dllTo_bank (s : State) (code : Nat) {b m : Nat} (h : m ≠ b) : (s.dllTo code b).bank m = s.bank m := by
  rw [State.dllTo, State.bank_of_without (State.capClock_without (l := [.caps]) (by decide) _ _ _) (by decide), State.modBank_eq,
    State.setBank_bank_other _ _ h, State.put_bank, State.put_bank]

theorem State.dllTo_cap (s : State) (code : Nat) {b m : Nat} (h : m / 64 ≠ b) : (s.dllTo code b).cap m = s.cap m := by
  rw [State.dllTo, State.capClock_cap _ h, State.modBank_eq, State.setBank_cap, State.put_cap, State.put_cap]

theorem State.dllTo_state (s : State) (code b : Nat) : (s.dllTo code b).get (BNK_STAT_DLLSTATE b) = code % 4 := by
  rw [State.dllTo, State.get_of_word (State.capClock_word _ _ _ _), State.modBank_eq, State.setBank_get,
    State.put_get_other _ (r := BNK_STAT_DLLLOCK b) (by simp [Ref.fits, BNK_STAT_DLLLOCK]) _ (by simp [Ref.apart, BNK_STAT_DLLLOCK, BNK_STAT_DLLSTATE]),
    State.put_get _ (by simp [Ref.fits, BNK_STAT_DLLSTATE])]
  rfl

/-- The DLLs of a list of banks enter a state. -/
def State.dllsTo (s : State) (code : Nat) (l : List Nat) : State := s.each l (fun t b => t.dllTo code b)

theorem State.dllsTo_without {l : List Part} (hr : .regs ∈ l) (hb : .banks ∈ l) (hc : .caps ∈ l) (s : State) (code : Nat) (bs : List Nat) :
    (s.dllsTo code bs).without l = s.without l :=
  foldl_keeps (fun u => u.without l) (fun u b _ => u.dllTo_without hr hb hc code b) s

theorem State.dllsTo_root (s : State) (code : Nat) (l : List Nat) (m : Nat) : (s.dllsTo code l).root m = s.root m :=
  State.root_of_without (l := [.regs, .banks, .caps]) (State.dllsTo_without (by decide) (by decide) (by decide) _ _ _) (by decide) m

theorem State.dllsTo_word (s : State) (code : Nat) {l : List Nat} {a : Nat} (h : a ∉ l.map BNK_STAT) : (s.dllsTo code l).word a = s.word a :=
  foldl_keeps (fun u => u.word a) (fun u _ hb => u.dllTo_word code fun e => h (e ▸ List.mem_map_of_mem hb)) s

theorem State.dllsTo_bank (s : State) (code : Nat) {l : List Nat} {m : Nat} (h : m ∉ l) : (s.dllsTo code l).bank m = s.bank m :=
  foldl_keeps (fun u => u.bank m) (fun u _ hb => u.dllTo_bank code (ne_of_mem_of_not_mem hb h).symm) s

theorem bankChans_subset {l l' : List Nat} (h : l ⊆ l') : bankChans l ⊆ bankChans l' := fun _ hm =>
  let ⟨b, hb, hc⟩ := List.mem_flatMap.1 hm
  List.mem_flatMap.2 ⟨b, h hb, hc⟩

theorem State.dllsTo_cap (s : State) (code : Nat) {l : List Nat} {m : Nat} (h : m ∉ bankChans l) : (s.dllsTo code l).cap m = s.cap m := by
  refine foldl_keeps (fun u => u.cap m) (fun u b hb => u.dllTo_cap code fun e => h ?_) s
  exact List.mem_flatMap.2 ⟨b, hb, List.mem_map.2 ⟨m % 64, List.mem_range.2 (Nat.mod_lt _ (by decide)), by omega⟩⟩

theorem State.dllsTo_state (s : State) (code : Nat) {l : List Nat} {b : Nat} (h : b ∈ l) : (s.dllsTo code l).get (BNK_STAT_DLLSTATE b) = code % 4 := by
  refine foldl_reaches (P := fun u => u.get (BNK_STAT_DLLSTATE b) = code % 4) (fun _ => ()) h (fun _ _ _ => rfl) (fun u _ => u.dllTo_state code b)
    fun u x hu => ?_
  by_cases hx : x = b
  · rw [hx, State.dllTo_state]
  · rw [← hu]
    exact State.get_of_word (u.dllTo_word code (by simp only [BNK_STAT_DLLSTATE, BNK_STAT]; omega))

/-- The banks of a root are those that its registers name. -/
theorem State.mem_banksOf {s : State} {n b : Nat} : b ∈ s.banksOf n ↔ b < 8 ∧ s.get (BNK_STAT_ROOTACT b) = n := by
  simp [State.banksOf]

/-- The banks of a root whose DLL has no clock. -/
def State.idleBanksOf (s : State) (n : Nat) : List Nat := (s.banksOf n).filter (fun b => s.get (BNK_STAT_DLLSTATE b) == 0)

/-- The root leaves WAKE: the T-clock is on, or a test divider holds it, and a band search begins (02, R42, R50). -/
def State.leaveWake (s : State) (n : Nat) : State := (s.modRoot n (fun r => { r with tclk := !(s.root n).testDiv })).enterSearch n

theorem State.leaveWake_root (s : State) (n : Nat) : ∃ a h, (s.leaveWake n).root n =
    { ({ s.root n with tclk := !(s.root n).testDiv } : Root).searching n with seen := a, hist := h } := by
  obtain ⟨a, h, hroot⟩ := (s.modRoot n (fun r => { r with tclk := !(s.root n).testDiv })).enterSearch_root n
  rw [State.modRoot_eq, State.setRoot_root] at hroot
  exact ⟨a, h, hroot⟩

theorem State.leaveWake_frame (s : State) (n : Nat) (l : List Part) : RootFrame l n [] s (s.leaveWake n) :=
  ((RootFrame.refl l n [] s).modRoot _).enterSearch

/-- WAKE_DONE starts the DLLs that have no clock once the root has left WAKE. -/
theorem wakeDone_eq (s : State) (n : Nat) : wakeDone s n = (s.leaveWake n).dllsTo 1 (if (s.root n).testDiv then [] else s.idleBanksOf n) := by
  unfold wakeDone State.leaveWake
  split
  next h => simp only [h]; rfl
  next h => simp only [h]; rfl

/-! ### BAND_SEARCH_TRIAL -/

theorem bandTrial_frame (s : State) (n edges : Nat) : RootFrame [] n [] s (bandTrial s n edges) :=
  ((((RootFrame.refl [] n [] s).setRoot _).setBand _)).of_ite (((((RootFrame.refl [] n [] s).setRoot _).setBand _)).setSt _)

/-- The lower bound that a trial leaves, and the upper (02, R46). -/
def State.trialLo (s : State) (n edges : Nat) : Nat :=
  if decide (16 * edges * 2 ^ 40 ≤ (s.root n).base * s.countWindow n) then ((s.root n).lo + (s.root n).hi + 1) / 2 else (s.root n).lo
def State.trialHi (s : State) (n edges : Nat) : Nat :=
  if decide (16 * edges * 2 ^ 40 ≤ (s.root n).base * s.countWindow n) then (s.root n).hi else ((s.root n).lo + (s.root n).hi + 1) / 2 - 1

/-- A trial before the sixth, and the sixth. -/
theorem bandTrial_root_of_lt {s : State} {n : Nat} (h : (s.root n).trial < 5) (edges : Nat) : (bandTrial s n edges).root n =
    { s.root n with lo := s.trialLo n edges, hi := s.trialHi n edges, trial := (s.root n).trial + 1,
                    band := (s.trialLo n edges + s.trialHi n edges + 1) / 2,
                    eff := (s.root n).eff ++ [.put (SYN_STAT_BAND n) ((s.trialLo n edges + s.trialHi n edges + 1) / 2)] } := by
  unfold bandTrial
  dsimp only
  rw [if_pos (by omega), State.setBand_root, State.setRoot_root]
  rfl

theorem bandTrial_root_of_le {s : State} {n : Nat} (h : 5 ≤ (s.root n).trial) (edges : Nat) : (bandTrial s n edges).root n =
    { s.root n with lo := s.trialLo n edges, hi := s.trialHi n edges, trial := 6, cnt := 0, band := s.trialLo n edges, st := stAcquire,
                    eff := (s.root n).eff ++ [.put (SYN_STAT_BAND n) (s.trialLo n edges), .put (SYN_STAT_STATE n) stAcquire] } := by
  unfold bandTrial
  dsimp only
  rw [if_neg (by omega), State.setSt_root, State.setBand_root, State.setRoot_root, List.append_assoc]
  rfl

/-! ### LOCK_DECLARED -/

/-- What the end of a reference loss adds to the step that locks: TBSLIP out of RECLOSE (03, R99, R100), and the work-off (03, R98). -/
def State.returns (s0 : State) (n : Nat) (s : State) : State :=
  let s2 := if s0.rootState n = stReclose then s.later n .slip else s
  if (s0.root n).ret = some 1 ∧ s0.willi n (SYN_PHCARRY_CARRY n) ≠ 0 then
    (s2.later n (.put (SYN_CSTAT_WORKING n) 1)).modRoot n (fun r => { r with woShot := false, woCnt := 0 })
  else s2

theorem lockDeclared_eq (s : State) (n : Nat) : lockDeclared s n =
    (match (s.root n).hop with
      | some (_, .search) => (s.returns n (s.enterLocked n)).hopDone n 2
      | some (_, .ended) => (s.returns n (s.enterLocked n)).hopDone n 1
      | _ => s.returns n (s.enterLocked n)) := rfl

theorem State.returns_frame {l : List Part} {n : Nat} {ws : List Nat} {s t : State} (h : RootFrame l n ws s t) (s0 : State) :
    RootFrame l n ws s (s0.returns n t) :=
  have hslip := (h.later .slip).of_ite h
  ((hslip.later _).modRoot _).of_ite hslip

theorem State.returns_root (s0 s : State) (n : Nat) : ∃ a b, (s0.returns n s).root n = { s.root n with
    woShot := a, woCnt := b
    eff := (s.root n).eff ++ (if s0.rootState n = stReclose then [Eff.slip] else []) ++
      (if (s0.root n).ret = some 1 ∧ s0.willi n (SYN_PHCARRY_CARRY n) ≠ 0 then [.put (SYN_CSTAT_WORKING n) 1] else []) } := by
  have hslip : (if s0.rootState n = stReclose then s.later n .slip else s).root n =
      { s.root n with eff := (s.root n).eff ++ (if s0.rootState n = stReclose then [Eff.slip] else []) } := by
    split
    · exact s.later_root n _
    · rw [List.append_nil]
  unfold State.returns
  dsimp only
  split
  · rw [State.modRoot_eq, State.setRoot_root, State.later_root, hslip]
    exact ⟨_, _, rfl⟩
  · rw [hslip, List.append_nil]
    exact ⟨_, _, rfl⟩

/-- The effects of the end of a hop that executes. -/
def hopEffects (n : Nat) (q : HopReq) (result : Nat) : List Eff := [.put (SYN_STAT_HOPBUSY n) 0, .hop q result Code.OK true]

theorem State.hopDone_root {s : State} {n : Nat} {q : HopReq} {x : HopPhase} (h : (s.root n).hop = some (q, x)) (result : Nat) :
    (s.hopDone n result).root n = { s.root n with hop := none, eff := (s.root n).eff ++ hopEffects n q result } := by
  unfold State.hopDone
  rw [h]
  dsimp only
  rw [State.later_root, State.later_root, State.modRoot_eq, State.setRoot_root, List.append_assoc]
  rfl

/-- The effects of the lock on the hop that executes: one in a search has come to its end with it, one that a loss has ended too (02, R50). -/
def hopLockEffects (n : Nat) : Option (HopReq × HopPhase) → List Eff
  | some (q, .search) => hopEffects n q 2
  | some (q, .ended) => hopEffects n q 1
  | _ => []

theorem lockDeclared_root (s : State) (n : Nat) : ∃ a h b c x, (lockDeclared s n).root n = { (s.root n).locked n with
    seen := a, hist := h, woShot := b, woCnt := c, hop := x
    eff := ((s.root n).locked n).eff ++ (if s.rootState n = stReclose then [Eff.slip] else []) ++
      (if (s.root n).ret = some 1 ∧ s.willi n (SYN_PHCARRY_CARRY n) ≠ 0 then [.put (SYN_CSTAT_WORKING n) 1] else []) ++
      hopLockEffects n (s.root n).hop } ∧
    ((s.root n).hop.map (fun q => q.2) = some .search ∨ (s.root n).hop.map (fun q => q.2) = some .ended → x = none) := by
  obtain ⟨a, h, hlock⟩ := s.enterLocked_root n
  obtain ⟨b, c, hroot⟩ := s.returns_root (s.enterLocked n) n
  rw [hlock] at hroot
  have hdone {q : HopReq} {x : HopPhase} (hx : (s.root n).hop = some (q, x)) (result : Nat) :=
    State.hopDone_root (s := s.returns n (s.enterLocked n)) (n := n) (q := q) (x := x) (by rw [hroot]; exact hx) result
  rw [lockDeclared_eq]
  split
  next q hx =>
    rw [hdone hx, hroot, hx]
    exact ⟨_, _, _, _, _, rfl, fun _ => rfl⟩
  next q hx =>
    rw [hdone hx, hroot, hx]
    exact ⟨_, _, _, _, _, rfl, fun _ => rfl⟩
  next hs he =>
    have hnone : hopLockEffects n (s.root n).hop = [] := by
      unfold hopLockEffects
      split <;> simp_all
    rw [hroot, hnone, List.append_nil]
    refine ⟨_, _, _, _, _, rfl, fun hx => ?_⟩
    rcases hhop : (s.root n).hop with _ | ⟨q, x⟩
    · exact hhop
    · rcases hx with hx | hx <;> simp_all

theorem lockDeclared_frame (s : State) (n : Nat) : RootFrame [.regs] n [SYN_CSTAT n] s (lockDeclared s n) := by
  have hf := State.returns_frame (RootFrame.refl [.regs] n [SYN_CSTAT n] s).enterLocked s
  rw [lockDeclared_eq]
  split
  · exact hf.hopDone 2
  · exact hf.hopDone 1
  · exact hf

/-! ### LOSS_OF_LOCK -/

/-- What the loss of lock takes out of the way of the search: a hop that waits, the routine or the ramp that runs (02, R63; 03, R79, R87). -/
def State.givesWay (s : State) (n : Nat) : State :=
  let s1 := s.unstartHop n
  let s2 := (if s.rootState n = stRamp then s1.suspendRamp n else s1.interrupt n).modRoot n (fun r => { r with com := { r.com with lock := false } })
  if s.rootState n = stHop then s2.modRoot n (fun r => { r with hop := r.hop.map (fun q => (q.1, HopPhase.search)) }) else s2

theorem lossOfLock_eq (s : State) (n : Nat) : lossOfLock s n = (((s.givesWay n).lossEffects n).enterSearch n).routine n 2 := rfl

theorem State.givesWay_root (s : State) (n : Nat) :
    ((s.givesWay n).root n).eff = (s.root n).eff ∧ ((s.givesWay n).root n).everLock = (s.root n).everLock ∧
      (s.rootState n = stRamp → ((s.givesWay n).root n).ramp = (s.root n).com.ramp ∧ ((s.givesWay n).root n).base = (s.root n).com.base) := by
  obtain ⟨h, p, hu⟩ := s.unstartHop_root n
  obtain ⟨d, e, i, hi⟩ := (s.unstartHop n).interrupt_root n
  obtain ⟨d', e', i', hr⟩ := (s.unstartHop n).suspendRamp_root n
  rw [hu] at hi hr
  unfold State.givesWay
  dsimp only
  by_cases hramp : s.rootState n = stRamp
  · rw [if_neg (by rw [hramp]; decide), if_pos hramp, State.modRoot_eq, State.setRoot_root, hr]
    exact ⟨rfl, rfl, fun _ => ⟨rfl, rfl⟩⟩
  · rw [if_neg hramp]
    split <;> simp [hi, hramp]

theorem State.givesWay_susp {s : State} {n : Nat} (h : s.rootState n = stRamp) : (s.givesWay n).bit (SEQ_STAT_SUSP n) = true := by
  unfold State.givesWay
  dsimp only
  rw [if_neg (by rw [h]; decide), if_pos h, State.modRoot_eq, State.setRoot_bit, State.suspendRamp_susp]

/-- With no hop on the root nobody is answered. -/
theorem State.givesWay_frame {s : State} {n : Nat} (h : (s.root n).hop = none) :
    RootFrame [.regs] n [SYN_CSTAT n, SEQ_STAT n, SYN_RSTAT n] s (s.givesWay n) := by
  have hs := RootFrame.refl [.regs] n [SYN_CSTAT n, SEQ_STAT n, SYN_RSTAT n] s
  unfold State.givesWay
  dsimp only
  rw [State.unstartHop_of_none h]
  have hway := ((hs.suspendRamp (by simp) (by simp)).of_ite (c := s.rootState n = stRamp) (hs.interrupt (by simp))).modRoot
    (fun r => { r with com := { r.com with lock := false } })
  exact (hway.modRoot _).of_ite hway

theorem State.lossEffects_root (s : State) (n : Nat) : (s.lossEffects n).root n = { s.root n with
    eff := (s.root n).eff ++ [.put (SYN_STAT_LOCK n) 0, .flag (SYN_FLAGS_LOL n), .count (SYN_LOLCNT_COUNT n)] } := by
  simp [State.lossEffects, State.later_root]

/-! ### The commit of effects -/

theorem State.commitEff_of_eff {s : State} {n : Nat} {l : List Eff} (h : (s.root n).eff = l) :
    s.commitEff n = l.foldl (State.applyEff n) (s.setRoot n { s.root n with eff := [] }) := by
  subst h
  rw [State.commitEff, State.modRoot_eq]

/-- The registers show that lock was lost (02, R50, R51). -/
def State.showLoss (s : State) (n : Nat) : State := ((s.put (SYN_STAT_LOCK n) 0).flagSyn n (SYN_FLAGS_LOL n)).inc (SYN_LOLCNT_COUNT n)

/-- The registers show the start of a band search (02, R46, R50). -/
def State.showSearch (s : State) (n : Nat) : State :=
  ((((s.put (SYN_STAT_STATE n) stSearch).put (SYN_STAT_LOCK n) 0).inc (SYN_SRCHCNT_COUNT n)).put (SYN_STAT_BAND n) 32).put (SYN_CSTAT_AVGVALID n) 0

/-- The registers show LOCKED (02, R50). -/
def State.showLocked (s : State) (n : Nat) : State := ((s.put (SYN_STAT_STATE n) stLocked).put (SYN_STAT_LOCK n) 1).put (SYN_STAT_COAST n) 0

theorem State.showLoss_get (s : State) (n : Nat) :
    (s.showLoss n).bit (SYN_STAT_LOCK n) = false ∧ (s.showLoss n).bit (SYN_FLAGS_LOL n) = true ∧
      (s.showLoss n).get (SYN_LOLCNT_COUNT n) = min (s.get (SYN_LOLCNT_COUNT n) + 1) 0xFFFF ∧
      (s.showLoss n).get (SYN_SRCHCNT_COUNT n) = s.get (SYN_SRCHCNT_COUNT n) := by
  simp (disch := (refine id ?_; simp [Ref.fits, Ref.apart, SYN_STAT_LOCK, SYN_FLAGS_LOL, SYN_LOLCNT_COUNT, SYN_SRCHCNT_COUNT, SYN_STAT, SYN_FLAGS,
      SYN_LOLCNT, SYN_SRCHCNT]))
    only [State.showLoss, State.flagSyn, State.inc_eq, State.bit, State.flag_get, State.put_get, State.put_get_other]
  simp only [SYN_STAT_LOCK, SYN_FLAGS_LOL, SYN_LOLCNT_COUNT]
  refine ⟨by decide, by decide, ?_, trivial⟩
  omega

theorem State.showLoss_frame (s : State) (n : Nat) :
    RootFrame [.regs, .msixPend, .out] n [SYN_STAT n, SYN_FLAGS n, SYN_LOLCNT n] s (s.showLoss n) := by
  rw [State.showLoss, State.inc_eq]
  have hs := RootFrame.refl [.regs, .msixPend, .out] n [SYN_STAT n, SYN_FLAGS n, SYN_LOLCNT n] s
  exact ((hs.put (r := SYN_STAT_LOCK n) (by simp [SYN_STAT_LOCK]) 0).flag (r := SYN_FLAGS_LOL n) (by simp [SYN_FLAGS_LOL]) _).put
    (r := SYN_LOLCNT_COUNT n) (by simp [SYN_LOLCNT_COUNT]) _

theorem State.showLoss_root (s : State) (n m : Nat) : (s.showLoss n).root m = s.root m := by
  rw [State.showLoss, State.inc_eq, State.put_root, State.flagSyn,
    State.root_of_without (State.flag_without (l := [.regs, .msixPend, .out]) (by decide) (by decide) (by decide) _ _ _) (by decide), State.put_root]

theorem State.showSearch_get (s : State) (n : Nat) :
    (s.showSearch n).get (SYN_STAT_STATE n) = stSearch ∧ (s.showSearch n).bit (SYN_STAT_LOCK n) = false ∧
      (s.showSearch n).get (SYN_SRCHCNT_COUNT n) = min (s.get (SYN_SRCHCNT_COUNT n) + 1) 0xFFFF ∧ (s.showSearch n).get (SYN_STAT_BAND n) = 32 ∧
      (s.showSearch n).bit (SYN_CSTAT_AVGVALID n) = false ∧ (s.showSearch n).bit (SYN_FLAGS_LOL n) = s.bit (SYN_FLAGS_LOL n) ∧
      (s.showSearch n).get (SYN_LOLCNT_COUNT n) = s.get (SYN_LOLCNT_COUNT n) := by
  simp (disch := (refine id ?_; simp [Ref.fits, Ref.apart, SYN_STAT_STATE, SYN_STAT_LOCK, SYN_SRCHCNT_COUNT, SYN_STAT_BAND, SYN_CSTAT_AVGVALID,
      SYN_FLAGS_LOL, SYN_LOLCNT_COUNT, SYN_STAT, SYN_CSTAT, SYN_FLAGS, SYN_LOLCNT, SYN_SRCHCNT]))
    only [State.showSearch, State.inc_eq, State.bit, State.put_get, State.put_get_other]
  simp only [SYN_STAT_STATE, SYN_STAT_LOCK, SYN_SRCHCNT_COUNT, SYN_STAT_BAND, SYN_CSTAT_AVGVALID]
  refine ⟨by decide, by decide, ?_, by decide, by decide, trivial, trivial⟩
  omega

theorem State.showLocked_get (s : State) (n : Nat) :
    (s.showLocked n).get (SYN_STAT_STATE n) = stLocked ∧ (s.showLocked n).bit (SYN_STAT_LOCK n) = true ∧
      (s.showLocked n).bit (SYN_STAT_COAST n) = false := by
  simp (disch := (refine id ?_; simp [Ref.fits, Ref.apart, SYN_STAT_STATE, SYN_STAT_LOCK, SYN_STAT_COAST]))
    only [State.showLocked, State.bit, State.put_get, State.put_get_other]
  exact ⟨by simp only [SYN_STAT_STATE]; decide, by simp only [SYN_STAT_LOCK]; decide, by simp only [SYN_STAT_COAST]; decide⟩

theorem State.showSearch_root (s : State) (n m : Nat) : (s.showSearch n).root m = s.root m := by
  rw [State.showSearch, State.inc_eq, State.put_root, State.put_root, State.put_root, State.put_root, State.put_root]

theorem State.showLocked_root (s : State) (n m : Nat) : (s.showLocked n).root m = s.root m := by
  rw [State.showLocked, State.put_root, State.put_root, State.put_root]

/-! ### A loss under FAULT (03, R81) -/

/-- Under FAULT the lock detector deasserts lock, which the registers are yet to show; a hop that waits does so as the pending one. -/
def State.losesLock (s : State) (n : Nat) : State :=
  (((s.unstartHop n).modRoot n (fun r => { r with lock := false, loss := 0, com := { r.com with lock := false } })).lossEffects n).modRoot n
    (fun r => { r with eff := [] })

theorem State.losesLock_root (s : State) (n : Nat) : ∃ h p, (s.losesLock n).root n =
    { s.root n with hop := h, pend := p, lock := false, loss := 0, com := { (s.root n).com with lock := false }, eff := [] } := by
  obtain ⟨h, p, hroot⟩ := s.unstartHop_root n
  refine ⟨h, p, ?_⟩
  rw [State.losesLock, State.modRoot_eq, State.setRoot_root, State.lossEffects_root, State.modRoot_eq, State.setRoot_root, hroot]

theorem State.losesLock_frame {s : State} {n : Nat} (h : (s.root n).hop = none) (l : List Part) (ws : List Nat) :
    RootFrame l n ws s (s.losesLock n) := by
  rw [State.losesLock, State.unstartHop_of_none h]
  exact (((RootFrame.refl _ _ _ s).modRoot _).lossEffects).modRoot _

theorem State.losesLock_word (s : State) (n : Nat) {a : Nat} (h : 0x50000 ≤ a) (h' : a < 0xC0000) (hs : a ≠ SYN_STAT n) (hne : a ≠ SYN_HOPSTAT n) :
    (s.losesLock n).word a = s.word a := by
  have hf : RootFrame [] n [] (s.unstartHop n) (s.losesLock n) := (((RootFrame.refl _ _ _ _).modRoot _).lossEffects).modRoot _
  rw [hf.words a (by simp), s.unstartHop_word n h h' hs hne]

theorem lossUnderFault_eq {s : State} {n : Nat} (h : (s.root n).eff = []) : lossUnderFault s n = (s.losesLock n).showLoss n := by
  obtain ⟨x, p, hroot⟩ := s.unstartHop_root n
  rw [lossUnderFault, State.commitEff_of_eff (l := [.put (SYN_STAT_LOCK n) 0, .flag (SYN_FLAGS_LOL n), .count (SYN_LOLCNT_COUNT n)]),
    State.losesLock, State.modRoot_eq _ _ (fun r => { r with eff := [] })]
  · rfl
  · rw [State.lossEffects_root, State.modRoot_eq, State.setRoot_root, hroot, h]
    rfl

/-! ### A step boundary of a search at which nothing waits (03, R73, R76) -/

/-- The registers that the boundary of a step writes beside the effects of the step. -/
def boundaryRegs (n : Nat) : List Nat := [SEQ_STAT n, SYN_RSTAT n, SYN_FWACTLO n, SYN_FWACTHI n, SYN_SSSTAT n]

/-- A root that runs routine 2, or none any more, with no request that a boundary takes and no effect that waits. -/
structure Root.Quiet (r : Root) : Prop where
  rt : r.rt = 0 ∨ r.rt = 2
  eff : r.eff = []
  waitOff : r.waitOff = false
  waitLoss : r.waitLoss = false
  waitRamp : r.waitRamp = none

theorem Root.Quiet.sync {r : Root} (h : r.Quiet) : r.sync.Quiet := ⟨h.rt, h.eff, h.waitOff, h.waitLoss, h.waitRamp⟩

variable {n : Nat} {s : State}

theorem State.countStep_quiet (h : (s.root n).Quiet) : ((s.countStep n).root n).Quiet := by
  rw [State.countStep, State.modRoot_eq, State.setRoot_root, State.incWrap_eq, State.put_root]
  exact ⟨h.rt, h.eff, h.waitOff, h.waitLoss, h.waitRamp⟩

theorem State.countStep_frame (s : State) (n : Nat) : RootFrame [.regs] n (boundaryRegs n) s (s.countStep n) := by
  rw [State.countStep, State.incWrap_eq]
  exact ((RootFrame.refl _ _ _ s).put (r := SEQ_STAT_STEP n) (by simp [boundaryRegs, SEQ_STAT_STEP]) _).modRoot _

theorem State.commitRamp_root (s : State) (n m : Nat) : (s.commitRamp n).root m = s.root m := by
  unfold State.commitRamp
  split
  · rfl
  · split <;> simp

theorem State.endRoutine_of_quiet (h : (s.root n).Quiet) : s.endRoutine n = s ∨ s.endRoutine n = s.routineEnd n := by
  have h7 : (s.root n).rt ≠ 7 := by rcases h.rt with h | h <;> omega
  have h9 : (s.root n).rt ≠ 9 := by rcases h.rt with h | h <;> omega
  simp only [State.endRoutine, h7, h9, false_and, if_false]
  split
  · exact .inr rfl
  · exact .inl rfl

theorem State.endRoutine_quiet (h : (s.root n).Quiet) : ((s.endRoutine n).root n).Quiet := by
  rcases State.endRoutine_of_quiet h with he | he
  · rwa [he]
  · rw [he, State.routineEnd_root]
    exact ⟨.inl rfl, h.eff, h.waitOff, h.waitLoss, h.waitRamp⟩

theorem State.endRoutine_frame (h : (s.root n).Quiet) : RootFrame [.regs] n (boundaryRegs n) s (s.endRoutine n) := by
  have hs := RootFrame.refl [.regs] n (boundaryRegs n) s
  rcases State.endRoutine_of_quiet h with he | he
  · rwa [he]
  · rw [he]
    exact hs.routineEnd (by simp [boundaryRegs])

theorem State.commitLoop_quiet (h : (s.root n).Quiet) : ((s.commitLoop n).root n).Quiet := by
  obtain ⟨a, b, hroot⟩ : ∃ a b, (s.commitLoop n).root n = { (s.root n).sync with seen := a, hist := b } :=
    State.noteVar_root (by simp)
  rw [hroot]
  exact ⟨h.rt, h.eff, h.waitOff, h.waitLoss, h.waitRamp⟩

theorem State.commitLoop_frame (s : State) (n : Nat) : RootFrame [.regs] n (boundaryRegs n) s (s.commitLoop n) :=
  ((RootFrame.refl _ _ _ s).modRoot _).commitWord (by simp [boundaryRegs]) (by simp [boundaryRegs]) (by simp [boundaryRegs])

/-- Nothing waits at the boundary, so the root is synchronised alone. -/
theorem State.atBoundary_of_quiet (h : (s.root n).Quiet) :
    s.atBoundary n = (s.modRoot n (fun r => { r with waitAbort := false })).modRoot n Root.sync := by
  have h5 : (s.root n).rt ≠ 5 := by rcases h.rt with h | h <;> omega
  have hprio : (s.modRoot n (fun r => { r with waitAbort := false })).prioHop n = none := by
    have h3 : (s.root n).rt ≠ 3 := by rcases h.rt with h | h <;> omega
    have h4 : (s.root n).rt ≠ 4 := by rcases h.rt with h | h <;> omega
    simp only [State.prioHop, State.modRoot_eq, State.setRoot_root]
    split <;> simp [h3, h4, h5]
  rw [State.atBoundary, h.waitOff, h.waitLoss, hprio]
  simp only [h5, and_false, if_false, Bool.false_eq_true, ite_self]

theorem State.atBoundary_quiet (h : (s.root n).Quiet) : ((s.atBoundary n).root n).Quiet := by
  rw [State.atBoundary_of_quiet h, State.modRoot_eq, State.setRoot_root, State.modRoot_eq, State.setRoot_root]
  exact ⟨h.rt, h.eff, h.waitOff, h.waitLoss, h.waitRamp⟩

theorem State.atBoundary_frame (h : (s.root n).Quiet) : RootFrame [.regs] n (boundaryRegs n) s (s.atBoundary n) := by
  rw [State.atBoundary_of_quiet h]
  exact ((RootFrame.refl _ _ _ s).modRoot _).modRoot _

/-- The microwords of the step have run, and its effects are taken in hand. -/
def State.stepsOn (s : State) (n : Nat) (words : List (Option Nat)) : State :=
  (s.modRoot n (fun r => { r with upc := s.fetches n r.upc words })).modRoot n (fun r => { r with eff := [] })

theorem State.stepsOn_get (s : State) (n : Nat) (words : List (Option Nat)) (r : Ref) : (s.stepsOn n words).get r = s.get r :=
  (((RootFrame.refl [] n [] s).modRoot _).modRoot _).get r (by simp)

theorem State.stepsOn_quiet {words : List (Option Nat)} (hrt : (s.root n).rt = 2) (hoff : (s.root n).waitOff = false)
    (hloss : (s.root n).waitLoss = false) (hramp : (s.root n).waitRamp = none) : ((s.stepsOn n words).root n).Quiet := by
  rw [State.stepsOn, State.modRoot_eq, State.setRoot_root, State.modRoot_eq, State.setRoot_root]
  exact ⟨.inr hrt, rfl, hoff, hloss, hramp⟩

/-- A commit is that of its effects, where nothing waits at the boundary, but for the registers of the boundary. -/
theorem stepCommit_of_quiet {words : List (Option Nat)} (hrt : (s.root n).rt = 2) {v : State}
    (hv : (s.root n).eff.foldl (State.applyEff n) (s.stepsOn n words) = v) (hq : (v.root n).Quiet) :
    RootFrame [.regs] n (boundaryRegs n) v (stepCommit s n false words) ∧ ((stepCommit s n false words).root n).eff = [] := by
  have h0 : (s.root n).rt ≠ 0 := by omega
  have hcommit : (s.modRoot n (fun r => { r with upc := s.fetches n r.upc words })).commitEff n = v := by
    rw [← hv, State.commitEff, State.modRoot_eq s, State.setRoot_root]
    rfl
  simp only [stepCommit, h0, if_false, hcommit, Bool.false_eq_true]
  have hramp : (((v.countStep n).commitRamp n).root n).Quiet := by
    rw [State.commitRamp_root]
    exact State.countStep_quiet hq
  have hend := State.endRoutine_quiet hramp
  have hloop := State.commitLoop_quiet hend
  have hbound := State.atBoundary_quiet hloop
  have hframe := ((((v.countStep_frame n).commitRamp (by simp [boundaryRegs])).trans (State.endRoutine_frame hramp)).trans
    (State.commitLoop_frame _ n)).trans (State.atBoundary_frame hloop)
  generalize State.atBoundary _ n = u at hbound hframe
  have hturn : u.rampTurn n = u := by simp [State.rampTurn, hbound.waitRamp]
  rw [hturn]
  exact ⟨hframe, hbound.eff⟩

/-- The registers of the root that show its lock and its search are none of the boundary. -/
theorem not_mem_boundaryRegs {n : Nat} {a : Nat} (h : a ∈ [SYN_STAT n, SYN_FLAGS n, SYN_CSTAT n, SYN_LOLCNT n, SYN_SRCHCNT n]) :
    a ∉ boundaryRegs n := by
  simp only [boundaryRegs, SEQ_STAT, SYN_RSTAT, SYN_FWACTLO, SYN_FWACTHI, SYN_SSSTAT, SYN_STAT, SYN_FLAGS, SYN_CSTAT, SYN_LOLCNT, SYN_SRCHCNT,
    List.mem_cons, List.not_mem_nil, or_false] at h ⊢
  omega

end Sys2Proof.Machine
end

section
open Sys2Proof Sys2Proof.Machine

/-- Settles O1: each event is its guard and a composition of the operations above; a commit applies the effects that waited, oldest first. -/
theorem rootAcquiresLock : Obligations.RootAcquiresLock := by
  unfold Obligations.RootAcquiresLock
  refine ⟨?wake, ?trial, ?lock, ?timeout, ?loss, ?lossUnderFault, ?commitSearch, ?commitLocked⟩
  case wake =>
    intro n s hst href hruns
    have hstep : exec (.wakeDone n) s = .next (wakeDone s n) := if_pos ⟨hst, href, hruns⟩
    have hf := s.leaveWake_frame n [.regs, .banks, .caps]
    have hunits := (s.leaveWake_frame n []).rest
    obtain ⟨a, h, hroot⟩ := s.leaveWake_root n
    have hbanks : (if (s.root n).testDiv then [] else s.idleBanksOf n) ⊆ s.banksOf n := by
      split
      · exact List.nil_subset _
      · exact List.filter_subset_self _
    rw [wakeDone_eq] at hstep
    refine ⟨_, hstep, ?_⟩
    rw [State.dllsTo_root, hroot]
    refine ⟨rfl, rfl, rfl, rfl, rfl, rfl, rfl, rfl, fun b hb hoff => ?_, ?_, fun m hm => ?_, fun m hm => ?_, fun m hm => ?_, fun a ha => ?_⟩
    · cases htest : (s.root n).testDiv with
      | true => exact (hf.get (BNK_STAT_DLLSTATE b) (by simp)).trans hoff
      | false => exact State.dllsTo_state _ 1 (List.mem_filter.2 ⟨State.mem_banksOf.2 ⟨b.isLt, hb⟩, by simp [hoff]⟩)
    · exact State.eq_of_without ((State.dllsTo_without (by decide) (by decide) (by decide) _ _ _).trans hf.rest)
    · exact (State.dllsTo_root _ _ _ _).trans (hf.roots m hm)
    · exact (State.dllsTo_bank _ _ fun h => hm (hbanks h)).trans (State.bank_of_without hunits (by decide) m)
    · exact (State.dllsTo_cap _ _ fun h => hm (bankChans_subset hbanks h)).trans (State.cap_of_without hunits (by decide) m)
    · refine (State.dllsTo_word _ _ fun h => ha ?_).trans (hf.words a (by simp))
      exact List.mem_cons_of_mem _ (List.map_subset _ hbanks h)
  case trial =>
    intro n edges s hst hruns
    have hstep : exec (.bandSearchTrial n edges) s = .next (bandTrial s n edges) := if_pos ⟨hst, hruns⟩
    have hf := bandTrial_frame s n edges
    refine ⟨_, hstep, ?_⟩
    by_cases h : (s.root n).trial < 5
    · rw [State.rootState, bandTrial_root_of_lt h]
      exact ⟨⟨rfl, rfl⟩, by dsimp only; omega, fun _ => ⟨hst, rfl, rfl⟩, fun h5 => absurd h (by omega), hf.eq_roots, hf.roots⟩
    · have h5 : 5 ≤ (s.root n).trial := by omega
      rw [State.rootState, bandTrial_root_of_le h5]
      exact ⟨⟨rfl, rfl⟩, by dsimp only; omega, fun h' => absurd h' h, fun _ => ⟨rfl, rfl, rfl⟩, hf.eq_roots, hf.roots⟩
  case lock =>
    intro n s hst hcnt hruns
    have hstep : exec (.lockDeclared n) s = .next (lockDeclared s n) := if_pos ⟨hst, hcnt, hruns⟩
    have hf := lockDeclared_frame s n
    obtain ⟨a, h, b, c, x, hroot, hx⟩ := lockDeclared_root s n
    refine ⟨_, hstep, ?_⟩
    rw [State.rootState, hroot]
    refine ⟨rfl, rfl, rfl, rfl, rfl, ?_, hx, hf.eq_regs, hf.roots, hf.words⟩
    rcases (s.root n).hop with _ | ⟨q, _ | _ | _ | _⟩ <;> rfl
  case timeout =>
    intro n s hst hruns
    have hstep : exec (.acquisitionTimeout n) s = .next (acquisitionTimeout s n) := if_pos ⟨hst, hruns⟩
    have hf := ((RootFrame.refl [.regs] n [SYN_CSTAT n, SEQ_STAT n] s).later (.flag (SYN_FLAGS_BANDFAIL n))).enterSearch
    obtain ⟨a, h, hroot⟩ := (s.later n (.flag (SYN_FLAGS_BANDFAIL n))).enterSearch_root n
    rw [State.later_root] at hroot
    refine ⟨_, hstep, ?_⟩
    unfold acquisitionTimeout
    dsimp only
    by_cases hre : s.rootState n = stReclose
    · rw [if_pos hre]
      have hg := hf.routine (by simp) 2
      obtain ⟨i, hroutine⟩ := ((s.later n (.flag (SYN_FLAGS_BANDFAIL n))).enterSearch n).routine_root n 2
      rw [hroutine, hroot]
      exact ⟨rfl, rfl, rfl, rfl, rfl, rfl, rfl, fun _ => ⟨rfl, (State.routine_get _ n 2).1⟩, fun h => absurd hre h, hg.eq_regs, hg.roots, hg.words⟩
    · rw [if_neg hre, hroot]
      exact ⟨rfl, rfl, rfl, rfl, rfl, rfl, rfl, fun h => absurd h hre, fun _ => rfl, hf.eq_regs, hf.roots, hf.words⟩
  case loss =>
    intro n s hst hloss hfrozen hfault
    have hstep : exec (.lossOfLock n) s = .next (lossOfLock s n) :=
      (if_pos ⟨hst, hloss, hfrozen⟩).trans (congrArg _ (if_neg (by simp [hfault])))
    obtain ⟨heff, hever, hramp⟩ := s.givesWay_root n
    obtain ⟨a, h, hsearch⟩ := ((s.givesWay n).lossEffects n).enterSearch_root n
    obtain ⟨i, hroot⟩ := (((s.givesWay n).lossEffects n).enterSearch n).routine_root n 2
    rw [hsearch, State.lossEffects_root] at hroot
    rw [lossOfLock_eq] at hstep
    refine ⟨_, hstep, ?_⟩
    rw [hroot]
    refine ⟨rfl, rfl, rfl, rfl, rfl, rfl, rfl, (State.routine_get _ n 2).1, ?_, fun hr => ?_, fun hhop => ?_⟩
    · simp only [Root.searching, heff, hever, searchEffects]
    · obtain ⟨hseg, hbase⟩ := hramp hr
      refine ⟨?_, hseg, hbase⟩
      rw [State.bit, (State.routine_get _ n 2).2, ((RootFrame.refl [] n [] (s.givesWay n)).lossEffects).enterSearch.get (SEQ_STAT_SUSP n) (by simp)]
      exact State.givesWay_susp hr
    · have hf := (((State.givesWay_frame hhop).lossEffects).enterSearch).routine (by simp) 2
      exact ⟨hf.eq_regs, hf.roots, hf.words⟩
  case lossUnderFault =>
    intro n s hst hloss hfrozen hfault heff
    have hstep : exec (.lossOfLock n) s = .next (lossUnderFault s n) :=
      (if_pos ⟨hst, hloss, hfrozen⟩).trans (congrArg _ (if_pos hfault))
    rw [lossUnderFault_eq heff] at hstep
    obtain ⟨hlock, hlol, hcnt, -⟩ := (s.losesLock n).showLoss_get n
    have hshown := (s.losesLock n).showLoss_frame n
    obtain ⟨h, p, hroot⟩ := s.losesLock_root n
    have hlt := n.isLt
    refine ⟨_, hstep, ?_⟩
    rw [State.rootState, State.showLoss_root, hroot]
    refine ⟨rfl, rfl, hlock, hlol, ?_, ?_, fun hhop => ?_⟩
    · rw [hcnt, State.get_of_word (State.losesLock_word _ _ _ _ _ _)] <;>
        simp only [SYN_LOLCNT_COUNT, SYN_LOLCNT, SYN_STAT, SYN_HOPSTAT] <;> omega
    · rw [hshown.get (SEQ_STAT_ROUTINE n) (by simp [SEQ_STAT_ROUTINE, SEQ_STAT, SYN_STAT, SYN_FLAGS, SYN_LOLCNT]; omega),
        State.get_of_word (State.losesLock_word _ _ _ _ _ _)] <;>
        simp only [SEQ_STAT_ROUTINE, SEQ_STAT, SYN_STAT, SYN_HOPSTAT] <;> omega
    · have hf := (State.losesLock_frame hhop _ _).trans hshown
      exact ⟨hf.eq_irq, hf.roots, hf.words⟩
  case commitSearch =>
    intro n words s hrt heff hst hoff hloss hramp
    have hstep : exec (.sequencerStepCommit n false words) s = .next (stepCommit s n false words) := if_neg (by simp [hrt])
    obtain ⟨hf, hnone⟩ := stepCommit_of_quiet (v := ((s.stepsOn n words).showLoss n).showSearch n) hrt (by rw [heff]; rfl)
      (by rw [State.showSearch_root, State.showLoss_root]; exact State.stepsOn_quiet hrt hoff hloss hramp)
    obtain ⟨-, hlol, hcnt, hsrch⟩ := (s.stepsOn n words).showLoss_get n
    obtain ⟨hstate, hlock, hsrch', hband, havg, hlol', hcnt'⟩ := ((s.stepsOn n words).showLoss n).showSearch_get n
    have hget (r : Ref) (hr : r.addr ∈ [SYN_STAT n, SYN_FLAGS n, SYN_CSTAT n, SYN_LOLCNT n, SYN_SRCHCNT n]) := hf.get r (not_mem_boundaryRegs hr)
    have hbit (r : Ref) (hr : r.addr ∈ [SYN_STAT n, SYN_FLAGS n, SYN_CSTAT n, SYN_LOLCNT n, SYN_SRCHCNT n]) := hf.bit r (not_mem_boundaryRegs hr)
    refine ⟨_, hstep, ?_, ?_, ?_, ?_, ?_, ?_, ?_, hnone⟩
    · exact ((hbit _ (by simp [SYN_FLAGS_LOL])).trans hlol').trans hlol
    · rw [hget _ (by simp [SYN_LOLCNT_COUNT]), hcnt', hcnt, State.stepsOn_get]
    · rw [hget _ (by simp [SYN_SRCHCNT_COUNT]), hsrch', hsrch, State.stepsOn_get]
    · exact (hget _ (by simp [SYN_STAT_STATE])).trans hstate
    · exact (hget _ (by simp [SYN_STAT_BAND])).trans hband
    · exact (hbit _ (by simp [SYN_STAT_LOCK])).trans hlock
    · exact (hbit _ (by simp [SYN_CSTAT_AVGVALID])).trans havg
  case commitLocked =>
    intro n words s hrt heff hst hoff hloss hramp
    have hstep : exec (.sequencerStepCommit n false words) s = .next (stepCommit s n false words) := if_neg (by simp [hrt])
    obtain ⟨hf, hnone⟩ := stepCommit_of_quiet (v := (s.stepsOn n words).showLocked n) hrt (by rw [heff]; rfl)
      (by rw [State.showLocked_root]; exact State.stepsOn_quiet hrt hoff hloss hramp)
    obtain ⟨hstate, hlock, hcoast⟩ := (s.stepsOn n words).showLocked_get n
    have hstat : SYN_STAT n ∉ boundaryRegs n := not_mem_boundaryRegs (by simp)
    exact ⟨_, hstep, (hf.get _ hstat).trans hstate, (hf.bit _ hstat).trans hlock, (hf.bit _ hstat).trans hcoast, hnone⟩

end

section
/-! O5: a hop that starts is refused, starts in band, or starts a band search (02, R54 to R56, R70, R73; 04, R117; 11, R340, R345). -/

namespace Sys2Proof.Machine

/-! ### The hop that starts -/

/-- A pending hop that starts leaves its place; one that was accepted has left it before. -/
def State.hopTaken (s : State) (n : Nat) : State :=
  if (s.root n).hop = none then (s.modRoot n (fun r => { r with pend := none })).showPend n else s

/-- A synchronous hop moves the timebase to its T at least (11, R345). -/
def State.hopClock (s : State) (n : Nat) (q : HopReq) : State := s.modRoot n (fun r => { r with tb := max r.tb (q.notBefore.getD 0) })

/-- The state in which the hop meets its preset word. -/
def State.hopReady (s : State) (n : Nat) (q : HopReq) : State :=
  match q.notBefore with
  | some _ => (s.hopTaken n).hopClock n q
  | none => s.hopTaken n

theorem State.hopTaken_frame (s : State) (n : Nat) {l : List Part} (hl : .regs ∈ l) : RootFrame l n [SYN_HOPSTAT n] s (s.hopTaken n) :=
  (((RootFrame.refl l n _ s).modRoot _).showPend (by simp) hl).of_ite (RootFrame.refl l n _ s)

theorem State.hopTaken_root (s : State) (n : Nat) :
    (s.hopTaken n).root n = { s.root n with pend := if (s.root n).hop = none then none else (s.root n).pend } := by
  unfold State.hopTaken
  split
  · rw [State.showPend_root, State.modRoot_eq, State.setRoot_root]
  · rfl

theorem State.showPend_hopcnt (s : State) (n : Nat) : (s.showPend n).get (SYN_HOPSTAT_HOPCNT n) = s.get (SYN_HOPSTAT_HOPCNT n) := by
  unfold State.showPend
  split <;>
    simp (disch := (refine id ?_; simp [Ref.fits, Ref.apart, SYN_HOPSTAT_HOPCNT, SYN_HOPSTAT_PEND, SYN_HOPSTAT_PENDPRESET])) only [State.put_get_other]

theorem State.hopTaken_hopcnt (s : State) (n : Nat) : (s.hopTaken n).get (SYN_HOPSTAT_HOPCNT n) = s.get (SYN_HOPSTAT_HOPCNT n) := by
  unfold State.hopTaken
  split
  · rw [State.showPend_hopcnt, State.modRoot_eq, State.setRoot_get]
  · rfl

theorem State.hopReady_frame (s : State) (n : Nat) (q : HopReq) {l : List Part} (hl : .regs ∈ l) : RootFrame l n [SYN_HOPSTAT n] s (s.hopReady n q) := by
  unfold State.hopReady
  split
  · exact (s.hopTaken_frame n hl).modRoot _
  · exact s.hopTaken_frame n hl

theorem State.hopReady_root (s : State) (n : Nat) (q : HopReq) : (s.hopReady n q).root n =
    { s.root n with pend := if (s.root n).hop = none then none else (s.root n).pend, tb := max (s.root n).tb (q.notBefore.getD 0) } := by
  unfold State.hopReady
  split
  · rw [State.hopClock, State.modRoot_eq, State.setRoot_root, State.hopTaken_root]
  next h => simp only [State.hopTaken_root, h, Option.getD_none, Nat.max_zero]

theorem State.hopReady_hopcnt (s : State) (n : Nat) (q : HopReq) :
    (s.hopReady n q).get (SYN_HOPSTAT_HOPCNT n) = s.get (SYN_HOPSTAT_HOPCNT n) := by
  unfold State.hopReady
  split
  · rw [State.hopClock, State.modRoot_eq, State.setRoot_get, State.hopTaken_hopcnt]
  · exact s.hopTaken_hopcnt n

/-! ### The conditions of R55 read no register that a hop in its place shows -/

section
variable {l : List Part} {n : Nat} {s t : State} (h : RootFrame l n [SYN_HOPSTAT n] s t)
include h

theorem RootFrame.fpdNum : t.fpdNum n = s.fpdNum n := by
  rw [State.fpdNum, State.fpdNum, h.get (SYN_REFFREQ_KHZ n) (by simp [SYN_REFFREQ_KHZ, SYN_REFFREQ, SYN_HOPSTAT]),
    h.get (SYN_REF_RMUL n) (by simp [SYN_REF_RMUL, SYN_REF, SYN_HOPSTAT])]

theorem RootFrame.fpdDen : t.fpdDen n = s.fpdDen n := by
  rw [State.fpdDen, State.fpdDen, h.get (SYN_REF_PDIV n) (by simp [SYN_REF_PDIV, SYN_REF, SYN_HOPSTAT])]

theorem RootFrame.presetWord (p : Nat) : t.presetWord n p = s.presetWord n p := by
  rw [State.presetWord, State.presetWord, h.get (SYN_PWLO_FRAC n p) (by simp only [SYN_PWLO_FRAC, SYN_PWLO, SYN_HOPSTAT, List.mem_singleton]; omega),
    h.get (SYN_PWHI_FRACHI n p) (by simp only [SYN_PWHI_FRACHI, SYN_PWHI, SYN_HOPSTAT, List.mem_singleton]; omega),
    h.get (SYN_PWHI_INT n p) (by simp only [SYN_PWHI_INT, SYN_PWHI, SYN_HOPSTAT, List.mem_singleton]; omega)]

theorem RootFrame.rangeOk (ss : Option Spread) (base : Nat) : t.rangeOk n ss base = s.rangeOk n ss base := by
  simp only [State.rangeOk, State.vcoOk, State.tclkOk, h.fpdNum, h.fpdDen,
    h.get (SYN_CTRL_ODIV n) (by simp [SYN_CTRL_ODIV, SYN_CTRL, SYN_HOPSTAT])]

theorem RootFrame.shadow : t.shadow = s.shadow := by
  have hs := congrArg State.shadow h.rest
  exact hs

theorem RootFrame.inBandWord (band word : Nat) : t.inBandWord n band word = s.inBandWord n band word := by
  rw [State.inBandWord, State.inBandWord, State.bandEntry, State.bandEntry, State.fuseShadow, State.fuseShadow, h.fpdNum, h.fpdDen, h.shadow]

theorem RootFrame.inBand (hb : (t.root n).band = (s.root n).band) (ss : Option Spread) (base : Nat) : t.inBand n ss base = s.inBand n ss base := by
  rw [State.inBand, State.inBand, hb, h.inBandWord, h.inBandWord]

end

/-! ### The branches of a start -/

/-- HOPBUSY is 1, the preset is to be shown, and the alignment is void unless another device's hop starts here (02, R54; 11, R340). -/
def State.hopBegins (s : State) (n : Nat) (q : HopReq) : State :=
  let s1 := (s.put (SYN_STAT_HOPBUSY n) 1).later n (.put (SYN_STAT_PRESETACT n) q.preset)
  if q.src.isLink then s1 else s1.alignVoid n 4

/-- The first step of an in-band hop. -/
def State.hopInBandStarts (s : State) (n : Nat) (q : HopReq) : State :=
  (((s.hopBegins n q).modRoot n (fun x => { x with hop := some (q, .inBand), base := s.presetWord n q.preset, settle := 0, loss := 0 })).setSt n
    stHop).routine n 3

/-- The first step of an in-band hop feeds its change forward to the bank DLLs (04, R117). -/
def State.hopInBandFeeds (s : State) (n : Nat) (q : HopReq) : State :=
  ((s.hopInBandStarts n q).feedForward n (s.wordInForce n) false).noteVar n

/-- The first step of a hop by way of a band search. -/
def State.hopSearchStarts (s : State) (n : Nat) (q : HopReq) : State :=
  (((s.hopBegins n q).modRoot n (fun x => { x with hop := some (q, .search), base := s.presetWord n q.preset })).enterSearch n).routine n 4

/-- The root searches: it has no lock yet. -/
abbrev State.searching (s : State) (n : Nat) : Prop := s.rootState n = stSearch ∨ s.rootState n = stAcquire ∨ s.rootState n = stCount

/-- A hop meets its preset word (02, R55). -/
def State.hopMeets (s : State) (n : Nat) (q : HopReq) : State :=
  if s.rangeOk n (s.root n).ss (s.presetWord n q.preset) = false then s.refuseHop n q 4 Code.FREQ_RANGE
  else if ¬s.searching n ∧ s.inBand n (s.root n).ss (s.presetWord n q.preset) then
    s.hopInBandFeeds n q
  else if ¬s.searching n ∧ s.bit (SYN_CTRL_PIN n) then s.refuseHop n q 3 Code.BAND_PINNED
  else s.hopSearchStarts n q

theorem hopStart_eq (s : State) (n : Nat) (q : HopReq) : hopStart (s.hopTaken n) n q = (s.hopReady n q).hopMeets n q := by
  obtain ⟨preset, prio, src, t⟩ := q
  unfold hopStart State.hopReady State.hopMeets State.hopInBandFeeds State.hopInBandStarts State.hopSearchStarts State.hopBegins
  cases t <;> cases src <;>
    simp only [State.hopClock, Src.isLink, State.searching, Option.getD_some, Bool.false_eq_true, if_false, if_true]

/-- What HOP_START asks of a root whose sequencer is free: a hop that waits, or on a locked root one that pends, whose time has come. -/
theorem exec_hopStart {n : Fin 4} {s : State} {q : HopReq} (hfree : s.seqFree n = true)
    (hq : (s.root n).hop = some (q, .waiting) ∨ ((s.root n).hop = none ∧ (s.root n).pend = some q ∧ s.isLocked n = true))
    (htime : s.hopTime n q = true) : exec (.hopStart n) s = .next ((s.hopReady n q).hopMeets n q) := by
  rw [← hopStart_eq]
  change execHopStart n s = _
  unfold execHopStart
  rw [if_neg (by simp [hfree])]
  rcases hq with hwait | ⟨hnone, hpend, hlocked⟩
  · rw [hwait]
    simp [htime, State.hopTaken, hwait]
  · rw [hnone, hpend]
    simp [htime, hlocked, State.hopTaken, hnone]

/-! ### The end of a hop request in the registers -/

theorem State.hopResult_get (s : State) {n : Nat} (hn : n < 4) (q : HopReq) (result code : Nat) :
    (s.hopResult n q result code).get (SYN_HOPSTAT_RESULT n) = result % 16 ∧
      (s.hopResult n q result code).get (SYN_HOPSTAT_LASTPRESET n) = q.preset % 16 ∧
      (s.hopResult n q result code).get (SYN_HOPSTAT_HOPCNT n) = s.get (SYN_HOPSTAT_HOPCNT n) := by
  have hword (u : State) (cyc res : Nat) (r : Ref) (hr : r.addr = SYN_HOPSTAT n) : (u.answer q.src code cyc res).get r = u.get r :=
    State.get_of_word (u.answer_word _ _ _ _ (by rw [hr]; simp only [SYN_HOPSTAT]; omega) (by rw [hr]; simp only [SYN_HOPSTAT]; omega))
  rw [State.hopResult, hword _ _ _ (SYN_HOPSTAT_RESULT n) rfl, hword _ _ _ (SYN_HOPSTAT_LASTPRESET n) rfl,
    hword _ _ _ (SYN_HOPSTAT_HOPCNT n) rfl]
  simp (disch := (refine id ?_; simp [Ref.fits, Ref.apart, SYN_HOPSTAT_RESULT, SYN_HOPSTAT_LASTPRESET, SYN_HOPSTAT_HOPCNT]))
    only [State.put_get, State.put_get_other]
  simp only [SYN_HOPSTAT_RESULT, SYN_HOPSTAT_LASTPRESET]
  trivial

/-- Where nobody waits for it. -/
theorem RootFrame.hopResult {l : List Part} {n : Nat} {ws : List Nat} {s t : State} (h : RootFrame l n ws s t) {q : HopReq} (hq : q.src = .none)
    (hw : SYN_HOPSTAT n ∈ ws) (result code : Nat) (hl : .regs ∈ l := by decide) : RootFrame l n ws s (t.hopResult n q result code) := by
  rw [State.hopResult, hq]
  exact (h.put (r := SYN_HOPSTAT_RESULT n) hw _ hl).put (r := SYN_HOPSTAT_LASTPRESET n) hw _ hl

/-! ### A hop that is refused on a LOCKED root -/

/-- The hop goes, HOPBUSY with it, and HOPREF is set (02, R55). -/
def State.hopGone (s : State) (n : Nat) : State :=
  ((s.modRoot n (fun r => { r with hop := none })).put (SYN_STAT_HOPBUSY n) 0).flagSyn n (SYN_FLAGS_HOPREF n)

theorem State.refuseHop_of_locked {s : State} {n : Nat} (h : s.rootState n = stLocked) (q : HopReq) (result code : Nat) :
    s.refuseHop n q result code = (s.hopGone n).hopResult n q result code := by
  simp only [State.refuseHop, h]
  rfl

theorem State.hopGone_frame (s : State) (n : Nat) :
    RootFrame [.regs, .msixPend, .out] n [SYN_STAT n, SYN_FLAGS n, SYN_HOPSTAT n] s (s.hopGone n) :=
  (((RootFrame.refl _ _ _ s).modRoot _).put (r := SYN_STAT_HOPBUSY n) (by simp [SYN_STAT_HOPBUSY]) _).flag
    (r := SYN_FLAGS_HOPREF n) (by simp [SYN_FLAGS_HOPREF]) _

theorem State.hopGone_root (s : State) (n : Nat) : (s.hopGone n).root n = { s.root n with hop := none } := by
  rw [State.hopGone, State.flagSyn,
    State.root_of_without (State.flag_without (l := [.regs, .msixPend, .out]) (by decide) (by decide) (by decide) _ _ _) (by decide),
    State.put_root, State.modRoot_eq, State.setRoot_root]

theorem State.hopGone_get (s : State) (n : Nat) :
    (s.hopGone n).bit (SYN_STAT_HOPBUSY n) = false ∧ (s.hopGone n).bit (SYN_FLAGS_HOPREF n) = true ∧
      (s.hopGone n).get (SYN_HOPSTAT_HOPCNT n) = s.get (SYN_HOPSTAT_HOPCNT n) := by
  simp (disch := (refine id ?_; simp [Ref.fits, Ref.apart, SYN_STAT_HOPBUSY, SYN_FLAGS_HOPREF, SYN_HOPSTAT_HOPCNT, SYN_STAT, SYN_FLAGS, SYN_HOPSTAT]))
    only [State.hopGone, State.flagSyn, State.bit, State.flag_get, State.put_get, State.put_get_other, State.modRoot_eq, State.setRoot_get]
  exact ⟨by simp only [SYN_STAT_HOPBUSY]; decide, by simp only [SYN_FLAGS_HOPREF]; decide, trivial⟩

/-- What a refusal shows. -/
theorem State.refuseHop_shows {s : State} {n : Nat} (hn : n < 4) (h : s.rootState n = stLocked) (q : HopReq) (result code : Nat) :
    (s.refuseHop n q result code).root n = { s.root n with hop := none } ∧
      (s.refuseHop n q result code).bit (SYN_STAT_HOPBUSY n) = false ∧ (s.refuseHop n q result code).bit (SYN_FLAGS_HOPREF n) = true ∧
      (s.refuseHop n q result code).get (SYN_HOPSTAT_RESULT n) = result % 16 ∧
      (s.refuseHop n q result code).get (SYN_HOPSTAT_LASTPRESET n) = q.preset % 16 ∧
      (s.refuseHop n q result code).get (SYN_HOPSTAT_HOPCNT n) = s.get (SYN_HOPSTAT_HOPCNT n) := by
  obtain ⟨hbusy, href, hcnt⟩ := s.hopGone_get n
  obtain ⟨hresult, hlast, hcnt'⟩ := (s.hopGone n).hopResult_get hn q result code
  have hword {a : Nat} := (s.hopGone n).hopResult_word n q result code (a := a)
  rw [State.refuseHop_of_locked h]
  refine ⟨by rw [State.hopResult_root, State.hopGone_root], ?_, ?_, hresult, hlast, hcnt'.trans hcnt⟩
  · rw [State.bit_of_word (hword _ _ _), hbusy] <;> simp only [SYN_STAT_HOPBUSY, SYN_STAT, SYN_HOPSTAT] <;> omega
  · rw [State.bit_of_word (hword _ _ _), href] <;> simp only [SYN_FLAGS_HOPREF, SYN_FLAGS, SYN_HOPSTAT] <;> omega

theorem State.refuseHop_frame {s : State} {n : Nat} (h : s.rootState n = stLocked) {q : HopReq} (hq : q.src = .none) (result code : Nat) :
    RootFrame [.regs, .msixPend, .out] n [SYN_STAT n, SYN_FLAGS n, SYN_HOPSTAT n] s (s.refuseHop n q result code) := by
  rw [State.refuseHop_of_locked h]
  exact (s.hopGone_frame n).hopResult hq (by simp) _ _

end Sys2Proof.Machine
end

section
/-! The steps of a hop that starts, and the feed-forward to the bank DLLs (02, R54 to R56; 04, R117; 11, R340). -/

namespace Sys2Proof.Machine

/-! ### The alignment of the root is void -/

theorem State.broadcast_word (s : State) (i : LinkItem) (a : Nat) : (s.broadcast i).word a = s.word a :=
  State.word_of_without (State.broadcast_without (l := [.pls, .out]) (by decide) (by decide) _ _) (by decide) a

theorem State.alignVoid_root (s : State) (n why : Nat) : ∃ v, (s.alignVoid n why).root n = { s.root n with voids := v } := by
  have hcast (u : State) : (u.broadcast (.alignvoid n)).root n = u.root n :=
    State.root_of_without (State.broadcast_without (l := [.pls, .out]) (by decide) (by decide) _ _) (by decide) n
  unfold State.alignVoid
  dsimp only
  split
  · rw [hcast, State.put_root, State.put_root, State.modRoot_eq, State.setRoot_root]
    exact ⟨_, rfl⟩
  · rw [State.put_root, State.put_root, State.modRoot_eq, State.setRoot_root]
    exact ⟨_, rfl⟩

theorem State.alignVoid_get (s : State) (n why : Nat) :
    (s.alignVoid n why).get (PRL_ALIGN_ALIGNED n) = 0 ∧ (s.alignVoid n why).get (PRL_ALIGN_WHY n) = why % 16 := by
  have hput (u : State) : ((u.put (PRL_ALIGN_ALIGNED n) 0).put (PRL_ALIGN_WHY n) why).get (PRL_ALIGN_ALIGNED n) = 0 ∧
      ((u.put (PRL_ALIGN_ALIGNED n) 0).put (PRL_ALIGN_WHY n) why).get (PRL_ALIGN_WHY n) = why % 16 := by
    simp (disch := (refine id ?_; simp [Ref.fits, Ref.apart, PRL_ALIGN_ALIGNED, PRL_ALIGN_WHY])) only [State.put_get, State.put_get_other]
    simp [PRL_ALIGN_WHY]
  unfold State.alignVoid
  dsimp only
  split
  · rw [State.get_of_word (State.broadcast_word _ _ _), State.get_of_word (State.broadcast_word _ _ _)]
    exact hput _
  · exact hput _

/-! ### The begin of a hop -/

theorem State.hopBegins_root (s : State) (n : Nat) (q : HopReq) : ∃ v, (s.hopBegins n q).root n =
    { s.root n with voids := v, eff := (s.root n).eff ++ [.put (SYN_STAT_PRESETACT n) q.preset] } := by
  unfold State.hopBegins
  dsimp only
  split
  · rw [State.later_root, State.put_root]
    exact ⟨_, rfl⟩
  · obtain ⟨v, hroot⟩ := ((s.put (SYN_STAT_HOPBUSY n) 1).later n (.put (SYN_STAT_PRESETACT n) q.preset)).alignVoid_root n 4
    rw [hroot, State.later_root, State.put_root]
    exact ⟨v, rfl⟩

theorem RootFrame.hopBegins {l : List Part} {n : Nat} {ws : List Nat} {s t : State} (h : RootFrame l n ws s t) (hstat : SYN_STAT n ∈ ws)
    (hw : PRL_ALIGN n ∈ ws) (hs : t.bit PRL_TREE_MASTER = false ∨ .pls ∈ l ∧ .out ∈ l) (q : HopReq) (hl : .regs ∈ l := by decide) :
    RootFrame l n ws s (t.hopBegins n q) := by
  have hbusy := (h.put (r := SYN_STAT_HOPBUSY n) hstat 1 hl).later (.put (SYN_STAT_PRESETACT n) q.preset)
  refine hbusy.of_ite (hbusy.alignVoid hw 4 ?_ hl)
  have hmaster : ((t.put (SYN_STAT_HOPBUSY n) 1).later n (.put (SYN_STAT_PRESETACT n) q.preset)).bit PRL_TREE_MASTER = t.bit PRL_TREE_MASTER := by
    rw [State.later, State.modRoot_eq, State.setRoot_bit, State.put_bit_other _ (by simp [Ref.fits, SYN_STAT_HOPBUSY])]
    exact .inl (by simp only [PRL_TREE_MASTER, PRL_TREE, SYN_STAT_HOPBUSY, SYN_STAT]; omega)
  rwa [hmaster]

/-- HOPBUSY is 1 from the first step on; unless another device's hop starts here the alignment is void. -/
theorem State.hopBegins_get (s : State) {n : Nat} (hn : n < 4) (q : HopReq) :
    (s.hopBegins n q).bit (SYN_STAT_HOPBUSY n) = true ∧
      (q.src.isLink = false → (s.hopBegins n q).get (PRL_ALIGN_ALIGNED n) = 0 ∧ (s.hopBegins n q).get (PRL_ALIGN_WHY n) = 4) := by
  have hbusy : ((s.put (SYN_STAT_HOPBUSY n) 1).later n (.put (SYN_STAT_PRESETACT n) q.preset)).bit (SYN_STAT_HOPBUSY n) = true := by
    rw [State.later, State.modRoot_eq, State.setRoot_bit, State.put_bit _ (by simp [Ref.fits, SYN_STAT_HOPBUSY])]
    simp [SYN_STAT_HOPBUSY]
  unfold State.hopBegins
  dsimp only
  split
  next h => exact ⟨hbusy, fun hlink => absurd h (by simp [hlink])⟩
  next h =>
    refine ⟨?_, fun _ => State.alignVoid_get _ n 4⟩
    rw [((RootFrame.refl [.regs, .pls, .out] n [PRL_ALIGN n] _).alignVoid (by simp) 4 (.inr (by decide))).bit (SYN_STAT_HOPBUSY n)
      (by simp only [SYN_STAT_HOPBUSY, SYN_STAT, PRL_ALIGN, List.mem_singleton]; omega)]
    exact hbusy

/-! ### The first step -/

theorem State.hopInBandStarts_root (s : State) (n : Nat) (q : HopReq) : ∃ v i k, (s.hopInBandStarts n q).root n =
    { s.root n with voids := v, intr := i, locks := k, hop := some (q, .inBand), base := s.presetWord n q.preset, settle := 0, loss := 0, st := stHop,
                    eff := (s.root n).eff ++ [.put (SYN_STAT_PRESETACT n) q.preset, .put (SYN_STAT_STATE n) stHop],
                    rt := 3, done := false, nstep := 0, stepCyc := 0, stepDue := false } := by
  obtain ⟨v, hbegins⟩ := s.hopBegins_root n q
  unfold State.hopInBandStarts
  generalize hu : State.setSt _ n stHop = u
  obtain ⟨i, hroot⟩ := u.routine_root n 3
  refine ⟨v, i, (u.root n).locks, hroot.trans ?_⟩
  rw [← hu, State.setSt_root, State.modRoot_eq, State.setRoot_root, hbegins, List.append_assoc]
  rfl

theorem State.hopSearchStarts_root (s : State) (n : Nat) (q : HopReq) : ∃ v a h i, (s.hopSearchStarts n q).root n =
    { ({ s.root n with voids := v, hop := some (q, .search), base := s.presetWord n q.preset,
                       eff := (s.root n).eff ++ [.put (SYN_STAT_PRESETACT n) q.preset] } : Root).searching n with
      seen := a, hist := h, intr := i, rt := 4, done := false, nstep := 0, stepCyc := 0, stepDue := false } := by
  obtain ⟨v, hbegins⟩ := s.hopBegins_root n q
  unfold State.hopSearchStarts
  generalize hu : State.modRoot (s.hopBegins n q) n _ = u
  obtain ⟨a, h, hsearch⟩ := u.enterSearch_root n
  obtain ⟨i, hroot⟩ := (u.enterSearch n).routine_root n 4
  refine ⟨v, a, h, i, hroot.trans ?_⟩
  rw [hsearch, ← hu, State.modRoot_eq, State.setRoot_root, hbegins]

section
variable {l : List Part} {n : Nat} {ws : List Nat} {s t : State} (h : RootFrame l n ws s t) (hstat : SYN_STAT n ∈ ws) (hw : PRL_ALIGN n ∈ ws)
  (hseq : SEQ_STAT n ∈ ws) (hs : t.bit PRL_TREE_MASTER = false ∨ .pls ∈ l ∧ .out ∈ l) (q : HopReq) (hl : .regs ∈ l)
include h hstat hw hseq hs hl

theorem RootFrame.hopInBandStarts : RootFrame l n ws s (t.hopInBandStarts n q) :=
  (((h.hopBegins hstat hw hs q hl).modRoot _).setSt _).routine hseq 3 hl

theorem RootFrame.hopSearchStarts : RootFrame l n ws s (t.hopSearchStarts n q) :=
  (((h.hopBegins hstat hw hs q hl).modRoot _).enterSearch).routine hseq 4 hl

end

/-- The registers after the first step, in band or by way of a search. -/
theorem RootFrame.keeps_hopBegins {s t : State} {n : Nat} (hn : n < 4) {q : HopReq} (h : RootFrame [.regs] n [SEQ_STAT n] (s.hopBegins n q) t) :
    t.bit (SYN_STAT_HOPBUSY n) = true ∧ (q.src.isLink = false → t.get (PRL_ALIGN_ALIGNED n) = 0 ∧ t.get (PRL_ALIGN_WHY n) = 4) := by
  have halign : PRL_ALIGN n ∉ [SEQ_STAT n] := by simp only [PRL_ALIGN, SEQ_STAT, List.mem_singleton]; omega
  have hstat : SYN_STAT n ∉ [SEQ_STAT n] := by simp only [SYN_STAT, SEQ_STAT, List.mem_singleton]; omega
  rw [h.bit (SYN_STAT_HOPBUSY n) hstat, h.get (PRL_ALIGN_ALIGNED n) halign, h.get (PRL_ALIGN_WHY n) halign]
  exact s.hopBegins_get hn q

theorem State.hopInBandStarts_get (s : State) {n : Nat} (hn : n < 4) (q : HopReq) :
    (s.hopInBandStarts n q).get (SEQ_STAT_ROUTINE n) = 3 ∧ (s.hopInBandStarts n q).bit (SYN_STAT_HOPBUSY n) = true ∧
      (q.src.isLink = false → (s.hopInBandStarts n q).get (PRL_ALIGN_ALIGNED n) = 0 ∧ (s.hopInBandStarts n q).get (PRL_ALIGN_WHY n) = 4) :=
  ⟨(State.routine_get _ n 3).1, RootFrame.keeps_hopBegins hn
    ((((RootFrame.refl [.regs] n [SEQ_STAT n] (s.hopBegins n q)).modRoot _).setSt _).routine (by simp) 3)⟩

theorem State.hopSearchStarts_get (s : State) {n : Nat} (hn : n < 4) (q : HopReq) :
    (s.hopSearchStarts n q).get (SEQ_STAT_ROUTINE n) = 4 ∧ (s.hopSearchStarts n q).bit (SYN_STAT_HOPBUSY n) = true ∧
      (q.src.isLink = false → (s.hopSearchStarts n q).get (PRL_ALIGN_ALIGNED n) = 0 ∧ (s.hopSearchStarts n q).get (PRL_ALIGN_WHY n) = 4) :=
  ⟨(State.routine_get _ n 4).1, RootFrame.keeps_hopBegins hn
    ((((RootFrame.refl [.regs] n [SEQ_STAT n] (s.hopBegins n q)).modRoot _).enterSearch).routine (by simp) 4)⟩

/-! ### The feed-forward to the bank DLLs (04, R117) -/

/-- The state but for its registers, roots and banks and the count of free values. -/
def State.offLine (s : State) : State := { s.without [.roots, .regs, .banks] with free := 0 }

theorem State.eq_of_offLine {s t : State} (h : t.offLine = s.offLine) :
    t = { s with regs := t.regs, roots := t.roots, banks := t.banks, free := t.free } := by
  have h' : ({ t with free := 0 } : State).without [.roots, .regs, .banks] = ({ s with free := 0 } : State).without [.roots, .regs, .banks] := h
  exact congrArg (fun u : State => { u with free := t.free }) (State.eq_of_without h')

theorem RootFrame.offLine {n : Nat} {ws : List Nat} {s t : State} (h : RootFrame [.regs, .banks] n ws s t) : t.offLine = s.offLine := by
  rw [State.offLine, State.offLine, h.rest]

/-- The DLL of a bank takes the change of a word. -/
def State.feedBank (old w : Nat) (s : State) (b : Nat) : State :=
  ((s.put (BNK_DLLCW_CW b) (Config.dllScale s.free (s.get (BNK_DLLCW_CW b)) old w).toNat).draw).modBank b (fun y => { y with ff := true })

theorem State.feedBank_offLine (s : State) (old w b : Nat) : (State.feedBank old w s b).offLine = s.offLine := by
  simp [State.feedBank, State.offLine, State.without, State.draw, State.setBank, State.put, State.setWord]

theorem State.feedBank_root (s : State) (old w b m : Nat) : (State.feedBank old w s b).root m = s.root m := by
  rw [State.feedBank, State.modBank_eq, State.setBank_root, State.draw_root, State.put_root]

theorem State.feedBank_word (s : State) (old w : Nat) {a b : Nat} (h : a ≠ BNK_DLLCW b) : (State.feedBank old w s b).word a = s.word a := by
  rw [State.feedBank, State.modBank_eq, State.setBank_word, State.draw_word, State.put_word_other _ _ h]

theorem State.feedBank_bank (s : State) (old w : Nat) {b m : Nat} (h : m ≠ b) : (State.feedBank old w s b).bank m = s.bank m := by
  rw [State.feedBank, State.modBank_eq, State.setBank_bank_other _ _ h, State.draw_bank, State.put_bank]

theorem State.feedForward_eq (s : State) (n old : Nat) (pull : Bool) : s.feedForward n old pull = s ∨
    s.feedForward n old pull = s.each ((s.banksOf n).filter (fun b => s.get (BNK_STAT_DLLSTATE b) != 0)) (State.feedBank old (s.wordInForce n)) := by
  unfold State.feedForward
  dsimp only
  split
  · exact .inl rfl
  · exact .inr rfl

/-- What every bank's part of it keeps. -/
theorem State.feedForward_keeps {β : Type} (φ : State → β) (s : State) (n old : Nat) (pull : Bool)
    (h : ∀ u w, ∀ b ∈ s.banksOf n, φ (State.feedBank old w u b) = φ u) : φ (s.feedForward n old pull) = φ s := by
  rcases s.feedForward_eq n old pull with he | he
  · rw [he]
  · rw [he]
    exact foldl_keeps φ (fun u b hb => h u _ b (List.mem_of_mem_filter hb)) s

theorem State.feedForward_offLine (s : State) (n old : Nat) (pull : Bool) : (s.feedForward n old pull).offLine = s.offLine :=
  State.feedForward_keeps State.offLine s n old pull fun u w b _ => u.feedBank_offLine old w b

theorem State.feedForward_root (s : State) (n old : Nat) (pull : Bool) (m : Nat) : (s.feedForward n old pull).root m = s.root m :=
  State.feedForward_keeps (State.root · m) s n old pull fun u w b _ => u.feedBank_root old w b m

theorem State.feedForward_word (s : State) (n old : Nat) (pull : Bool) {a : Nat} (h : a ∉ (s.banksOf n).map BNK_DLLCW) :
    (s.feedForward n old pull).word a = s.word a :=
  State.feedForward_keeps (State.word · a) s n old pull fun u w _ hb =>
    u.feedBank_word old w (ne_of_mem_of_not_mem (List.mem_map_of_mem hb) h).symm

theorem State.feedForward_bank (s : State) (n old : Nat) (pull : Bool) {m : Nat} (h : m ∉ s.banksOf n) :
    (s.feedForward n old pull).bank m = s.bank m :=
  State.feedForward_keeps (State.bank · m) s n old pull fun u w _ hb => u.feedBank_bank old w (ne_of_mem_of_not_mem hb h).symm

/-- The banks that select a root are those of the registers of the banks. -/
theorem State.banksOf_of_word {s t : State} (h : ∀ b < 8, t.word (BNK_STAT b) = s.word (BNK_STAT b)) (n : Nat) : t.banksOf n = s.banksOf n := by
  unfold State.banksOf
  refine List.filter_congr fun b hb => ?_
  rw [State.get_of_word (r := BNK_STAT_ROOTACT b) (h b (List.mem_range.1 hb))]

theorem State.not_mem_dllRegs {s : State} {n a : Nat} (h : a < 0xA0000 ∨ 0xC0000 ≤ a) : a ∉ (s.banksOf n).map BNK_DLLCW := by
  intro hm
  obtain ⟨b, hb, rfl⟩ := List.mem_map.1 hm
  obtain ⟨hlt, -⟩ := State.mem_banksOf.1 hb
  simp only [BNK_DLLCW] at h
  omega

section
variable (s : State) (n : Nat) (q : HopReq)

theorem State.hopInBandFeeds_root_of {r : Root} (h : (s.hopInBandStarts n q).root n = r) :
    ∃ a b, (s.hopInBandFeeds n q).root n = { r with seen := a, hist := b } :=
  State.noteVar_root ((State.feedForward_root _ _ _ _ _).trans h)

theorem State.hopInBandFeeds_word {a : Nat} (h : a ∉ ((s.hopInBandStarts n q).banksOf n).map BNK_DLLCW) :
    (s.hopInBandFeeds n q).word a = (s.hopInBandStarts n q).word a :=
  ((RootFrame.refl [] n [] _).noteVar.words a (by simp)).trans (State.feedForward_word _ _ _ _ h)

theorem State.hopInBandFeeds_root_other {m : Nat} (h : m ≠ n) : (s.hopInBandFeeds n q).root m = (s.hopInBandStarts n q).root m :=
  ((RootFrame.refl [] n [] _).noteVar.roots m (by simpa using h)).trans (State.feedForward_root _ _ _ _ _)

theorem State.hopInBandFeeds_bank {m : Nat} (h : m ∉ (s.hopInBandStarts n q).banksOf n) :
    (s.hopInBandFeeds n q).bank m = (s.hopInBandStarts n q).bank m :=
  (State.bank_of_without (RootFrame.refl [] n [] _).noteVar.rest (by decide) m).trans (State.feedForward_bank _ _ _ _ h)

theorem State.hopInBandFeeds_offLine : (s.hopInBandFeeds n q).offLine = (s.hopInBandStarts n q).offLine :=
  (RootFrame.refl _ n [] _).noteVar.offLine.trans (State.feedForward_offLine _ _ _ _)

end

/-! ### What the hop that starts meets -/

section
variable (s : State) (n : Nat) (q : HopReq)

theorem State.hopReady_rootState : (s.hopReady n q).rootState n = s.rootState n := by rw [State.rootState, State.hopReady_root, State.rootState]

theorem State.hopReady_presetWord (p : Nat) : (s.hopReady n q).presetWord n p = s.presetWord n p :=
  (s.hopReady_frame n q (l := [.regs]) (by decide)).presetWord p

theorem State.hopReady_rangeOk (base : Nat) : (s.hopReady n q).rangeOk n ((s.hopReady n q).root n).ss base = s.rangeOk n (s.root n).ss base := by
  rw [(s.hopReady_frame n q (l := [.regs]) (by decide)).rangeOk, State.hopReady_root]

theorem State.hopReady_inBand (base : Nat) : (s.hopReady n q).inBand n ((s.hopReady n q).root n).ss base = s.inBand n (s.root n).ss base := by
  have hband : ((s.hopReady n q).root n).band = (s.root n).band := by rw [State.hopReady_root]
  rw [(s.hopReady_frame n q (l := [.regs]) (by decide)).inBand hband, State.hopReady_root]

theorem State.hopReady_searching : (s.hopReady n q).searching n ↔ s.searching n := by
  rw [State.searching, State.hopReady_rootState, State.searching]

theorem State.hopReady_pin : (s.hopReady n q).bit (SYN_CTRL_PIN n) = s.bit (SYN_CTRL_PIN n) :=
  (s.hopReady_frame n q (l := [.regs]) (by decide)).bit _ (by simp [SYN_CTRL_PIN, SYN_CTRL, SYN_HOPSTAT])

theorem State.hopReady_master : (s.hopReady n q).bit PRL_TREE_MASTER = s.bit PRL_TREE_MASTER :=
  (s.hopReady_frame n q (l := [.regs]) (by decide)).bit _ (by simp only [PRL_TREE_MASTER, PRL_TREE, SYN_HOPSTAT, List.mem_singleton]; omega)

end

section
variable {n : Fin 4} {s : State} {q : HopReq} (hfree : s.seqFree n = true)
  (hq : (s.root n).hop = some (q, .waiting) ∨ ((s.root n).hop = none ∧ (s.root n).pend = some q ∧ s.isLocked n = true))
  (htime : s.hopTime n q = true)
include hfree hq htime

theorem hopStart_out_of_range (hrange : s.rangeOk n (s.root n).ss (s.presetWord n q.preset) = false) :
    exec (.hopStart n) s = .next ((s.hopReady n q).refuseHop n q 4 Code.FREQ_RANGE) := by
  rw [exec_hopStart hfree hq htime, State.hopMeets, State.hopReady_presetWord, State.hopReady_rangeOk, if_pos hrange]

variable (hrange : s.rangeOk n (s.root n).ss (s.presetWord n q.preset) = true)
include hrange

theorem hopStart_in_range : exec (.hopStart n) s = .next
    (if ¬s.searching n ∧ s.inBand n (s.root n).ss (s.presetWord n q.preset) then
      (s.hopReady n q).hopInBandFeeds n q
    else if ¬s.searching n ∧ s.bit (SYN_CTRL_PIN n) then (s.hopReady n q).refuseHop n q 3 Code.BAND_PINNED
    else (s.hopReady n q).hopSearchStarts n q) := by
  rw [exec_hopStart hfree hq htime, State.hopMeets, State.hopReady_presetWord, State.hopReady_rangeOk, if_neg (by simp [hrange])]
  simp only [State.hopReady_inBand, State.hopReady_searching, State.hopReady_pin]

end

/-! ### HOP_SETTLED -/

theorem hopSettled_root {s : State} {n : Nat} {q : HopReq} {x : HopPhase} (h : (s.root n).hop = some (q, x)) : (hopSettled s n).root n =
    { s.root n with st := stLocked, locks := (s.root n).locks + 1, done := true, hop := none,
                    eff := (s.root n).eff ++ [.put (SYN_STAT_STATE n) stLocked] ++ hopEffects n q 1 } := by
  have hlast : ((s.setSt n stLocked).lastStep n).root n = { s.root n with
      st := stLocked, locks := (s.root n).locks + 1, done := true, eff := (s.root n).eff ++ [.put (SYN_STAT_STATE n) stLocked] } := by
    rw [State.lastStep_root, State.setSt_root]
    rfl
  refine (State.hopDone_root (q := q) (x := x) (by rw [hlast]; exact h) 1).trans ?_
  rw [hlast]

theorem hopSettled_frame (s : State) (n : Nat) : RootFrame [] n [] s (hopSettled s n) := (((RootFrame.refl _ _ _ s).setSt _).lastStep).hopDone 1

theorem State.hop_of_hopInBand {s : State} {n : Nat} (h : s.hopInBand n = true) : ∃ q, (s.root n).hop = some (q, .inBand) := by
  unfold State.hopInBand at h
  split at h
  next q hq => exact ⟨q, hq⟩
  next => exact absurd h (by decide)

end Sys2Proof.Machine
end

section
open Sys2Proof Sys2Proof.Machine

/-- Settles O5: a start meets its preset word in a state that differs in the hop's place and the timebase alone, and goes one of four ways. -/
theorem hopStartsByItsPreset : Obligations.HopStartsByItsPreset := by
  unfold Obligations.HopStartsByItsPreset
  refine ⟨?refused, ?inBand, ?search, ?pinned, ?settled⟩
  case refused =>
    intro n s q hfree hq htime hrange hst
    have hlocked : (s.hopReady n q).rootState n = stLocked := (s.hopReady_rootState n q).trans hst
    obtain ⟨hroot, hbusy, href, hresult, hlast, hcnt⟩ := State.refuseHop_shows n.isLt hlocked q 4 Code.FREQ_RANGE
    rw [State.hopReady_root] at hroot
    refine ⟨_, hopStart_out_of_range hfree hq htime hrange, ?_⟩
    rw [State.rootState, hroot]
    refine ⟨rfl, rfl, rfl, hst, hbusy, href, hresult, hlast, hcnt.trans (s.hopReady_hopcnt n q), fun hsrc => ?_⟩
    have hf := ((s.hopReady_frame n q (by decide)).mono (by simp)).trans (State.refuseHop_frame hlocked hsrc 4 Code.FREQ_RANGE)
    exact ⟨hf.eq_irq, hf.roots, hf.words⟩
  case inBand =>
    intro n s q hfree hq htime hrange hsearch hband
    have hstep := hopStart_in_range hfree hq htime hrange
    rw [if_pos ⟨hsearch, hband⟩] at hstep
    have hlt := n.isLt
    obtain ⟨v, i, k, hstarts⟩ := (s.hopReady n q).hopInBandStarts_root n q
    rw [State.hopReady_root, State.hopReady_presetWord] at hstarts
    obtain ⟨a, h, hroot⟩ := (s.hopReady n q).hopInBandFeeds_root_of n q hstarts
    obtain ⟨hroutine, hbusy, hvoid⟩ := (s.hopReady n q).hopInBandStarts_get hlt q
    have hframe {l : List Part} (hl : .regs ∈ l) (hs : s.bit PRL_TREE_MASTER = false ∨ .pls ∈ l ∧ .out ∈ l) :=
      ((s.hopReady_frame n q hl).mono (ws' := [SYN_STAT n, SYN_HOPSTAT n, SEQ_STAT n, PRL_ALIGN n]) (by simp)).hopInBandStarts
        (by simp) (by simp) (by simp) (by rwa [s.hopReady_master n q]) q hl
    have hf := hframe (l := [.regs, .pls, .out]) (by decide) (.inr (by decide))
    have hbanks : ((s.hopReady n q).hopInBandStarts n q).banksOf n = s.banksOf n := State.banksOf_of_word (fun b hb => hf.words _ (by
      simp only [SYN_STAT, SYN_HOPSTAT, SEQ_STAT, PRL_ALIGN, BNK_STAT, List.mem_cons, List.not_mem_nil, or_false]; omega)) n
    have hword (x : Nat) (hx : x < 0xA0000 ∨ 0xC0000 ≤ x) :=
      (s.hopReady n q).hopInBandFeeds_word n q (State.not_mem_dllRegs (s := (s.hopReady n q).hopInBandStarts n q) (n := n) hx)
    have hseq := hword (SEQ_STAT n) (by simp only [SEQ_STAT]; omega)
    have hstat := hword (SYN_STAT n) (by simp only [SYN_STAT]; omega)
    have halign := hword (PRL_ALIGN n) (by simp only [PRL_ALIGN]; omega)
    refine ⟨_, hstep, ?_⟩
    rw [State.rootState, hroot]
    refine ⟨rfl, rfl, rfl, rfl, rfl, rfl, rfl, ?_, rfl, ?_, fun hlink => ?_, fun m hm => ?_, fun m hm => ?_, fun hm => ⟨?_, fun x hx => ?_⟩⟩
    · exact (State.bit_of_word (r := SYN_STAT_HOPBUSY n) hstat).trans hbusy
    · exact (State.get_of_word (r := SEQ_STAT_ROUTINE n) hseq).trans hroutine
    · obtain ⟨haligned, hwhy⟩ := hvoid hlink
      exact ⟨(State.get_of_word (r := PRL_ALIGN_ALIGNED n) halign).trans haligned, (State.get_of_word (r := PRL_ALIGN_WHY n) halign).trans hwhy⟩
    · exact ((s.hopReady n q).hopInBandFeeds_root_other n q (List.ne_of_not_mem_cons hm)).trans (hf.roots m hm)
    · exact ((s.hopReady n q).hopInBandFeeds_bank n q (hbanks ▸ hm)).trans (State.bank_of_without hf.rest (by decide) m)
    · exact State.eq_of_offLine (((s.hopReady n q).hopInBandFeeds_offLine n q).trans (hframe (by decide) (.inl hm)).offLine)
    · rw [List.mem_append, not_or] at hx
      exact ((s.hopReady n q).hopInBandFeeds_word n q (hbanks ▸ hx.2)).trans (hf.words x hx.1)
  case search =>
    intro n s q hfree hq htime hrange hway
    have hstep := hopStart_in_range hfree hq htime hrange
    have hband : ¬ (¬s.searching n ∧ s.inBand n (s.root n).ss (s.presetWord n q.preset) = true) := by
      rintro ⟨hs, hb⟩
      rcases hway with h | ⟨h, -⟩
      · exact hs h
      · simp [h] at hb
    have hpin : ¬ (¬s.searching n ∧ s.bit (SYN_CTRL_PIN n) = true) := by
      rintro ⟨hs, hb⟩
      rcases hway with h | ⟨-, h⟩
      · exact hs h
      · simp [h] at hb
    rw [if_neg hband, if_neg hpin] at hstep
    obtain ⟨v, a, h, i, hroot⟩ := (s.hopReady n q).hopSearchStarts_root n q
    rw [State.hopReady_root, State.hopReady_presetWord] at hroot
    obtain ⟨hroutine, -, hvoid⟩ := (s.hopReady n q).hopSearchStarts_get n.isLt q
    have hframe {l : List Part} (hl : .regs ∈ l) (hs : s.bit PRL_TREE_MASTER = false ∨ .pls ∈ l ∧ .out ∈ l) :=
      ((s.hopReady_frame n q hl).mono (ws' := [SYN_STAT n, SYN_HOPSTAT n, SYN_CSTAT n, SEQ_STAT n, PRL_ALIGN n]) (by simp)).hopSearchStarts
        (by simp) (by simp) (by simp) (by rwa [s.hopReady_master n q]) q hl
    refine ⟨_, hstep, ?_⟩
    rw [State.rootState, hroot]
    refine ⟨rfl, rfl, rfl, rfl, rfl, rfl, ?_, rfl, hroutine, hvoid, (hframe (l := [.regs, .pls, .out]) (by decide) (.inr (by decide))).roots,
      fun hm => ?_⟩
    · exact (hframe (l := [.regs, .pls, .out]) (by decide) (.inr (by decide))).bit (SYN_FLAGS_LOL n)
        (by simp [SYN_FLAGS_LOL, SYN_FLAGS, SYN_STAT, SYN_HOPSTAT, SYN_CSTAT, SEQ_STAT, PRL_ALIGN]; omega)
    · have hf := hframe (l := [.regs]) (by decide) (.inl hm)
      exact ⟨hf.eq_regs, hf.words⟩
  case pinned =>
    intro n s q hfree hq htime hrange hst hband hpin
    have hstep := hopStart_in_range hfree hq htime hrange
    have hsearch : ¬ s.searching n := by rw [State.searching, hst]; decide
    rw [if_neg (by simp [hband]), if_pos ⟨hsearch, hpin⟩] at hstep
    obtain ⟨hroot, hbusy, href, hresult, -, -⟩ :=
      State.refuseHop_shows n.isLt ((s.hopReady_rootState n q).trans hst) q 3 Code.BAND_PINNED
    rw [State.hopReady_root] at hroot
    refine ⟨_, hstep, ?_⟩
    rw [State.rootState, hroot]
    exact ⟨rfl, hst, rfl, hresult, href, hbusy⟩
  case settled =>
    intro n s hst hinBand hsettle hruns
    have hstep : exec (.hopSettled n) s = .next (hopSettled s n) := if_pos ⟨hst, hinBand, hsettle, hruns⟩
    obtain ⟨q, hq⟩ := State.hop_of_hopInBand hinBand
    have hroot := hopSettled_root hq
    have hf := hopSettled_frame s n
    refine ⟨_, hstep, ?_⟩
    rw [State.rootState, hroot, hq]
    exact ⟨rfl, rfl, rfl, rfl, hf.eq_roots, hf.roots⟩

end

section
/-! O8: the clause on a start that fails a check leaves out that a suspended ramp is dropped first, its RESUME that waits with it. -/

namespace Sys2Proof.Machine

/-- A root LOCKED in band 32 whose ramp is suspended; it runs a SPREAD step, routine 6, behind which an accepted RESUME waits (03, R74, R80). -/
def lockedResumeWaits : Root :=
  { Root.init with st := stLocked, lock := true, band := 32, rt := 6, com := { Root.init.com with st := stLocked }, waitRamp := some .resume }

/-- The device with that root 0. -/
def resumeBehindSpread : State := { readyForRamp .none with roots := [(0, lockedResumeWaits)] }.put (SEQ_STAT_SUSP 0) 1

/-- A ramp start drops the suspended ramp, which LASTRES shows as 2, and is accepted (03, R80, R85). -/
theorem rampStart_drops_waiting_resume :
    (resumeBehindSpread.after (.rampStart .firmware 0 1)).get (SYN_RSTAT_LASTRES 0) = 2 ∧
      ((resumeBehindSpread.after (.rampStart .firmware 0 1)).root 0).waitRamp = some (.start false) := by decide +kernel

end Sys2Proof.Machine

open Sys2Proof Sys2Proof.Machine

/-- Refutes O8. Its clause on a start that fails a check reads the checks before the suspended ramp is dropped. In `resumeBehindSpread` an accepted
RESUME waits, so that they give 6, RAMP_BUSY; the start drops the suspended ramp with that RESUME, passes its checks and waits: LASTRES is 2. -/
theorem not_rampsAndSpread : ¬ Obligations.RampsAndSpread := by
  unfold Obligations.RampsAndSpread
  rintro ⟨-, -, hrefused, -⟩
  obtain ⟨t, hexec, hshown, -⟩ := hrefused .firmware 0 1 resumeBehindSpread (by decide +kernel) (by decide) (.inl (by decide +kernel))
    (by decide +kernel)
  rw [← State.after_of_next hexec] at hshown
  obtain ⟨hdropped, -⟩ := rampStart_drops_waiting_resume
  have hbusy : (resumeBehindSpread.writeReg (SYN_RCTRL 0) 1 fullMask).rampWhy 0 = 6 := by decide +kernel
  exact absurd (hdropped.symm.trans (hshown.trans hbusy)) (by decide)

end

section
/-! O9: the clause on ABORT at a step boundary leaves out FAULT. -/

namespace Sys2Proof.Machine

/-- Root 0 runs a ramp whose step has ended, and ABORT waits; FAULT is 1. -/
def abortUnderFault : State :=
  { State.reset with roots := [(0, { Root.init with st := stRamp, rt := 5, stepDue := true, waitAbort := true })] }.put (SEQ_STAT_FAULT 0) 1

/-- Under a fault the boundary takes no ABORT: the ramp is not suspended (03, R81). -/
theorem stepCommit_under_fault_takes_no_abort :
    (abortUnderFault.after (.sequencerStepCommit 0 false [])).bit (SEQ_STAT_SUSP 0) = false := by decide +kernel

end Sys2Proof.Machine

open Sys2Proof Sys2Proof.Machine

/-- Refutes O9. Its clause on an ABORT that waits does not ask, as the one between two steps does, that the sequencer has no fault. In
`abortUnderFault` it has one: the boundary takes nothing but an EN clear, and SUSP stays 0. A fault ends the routine (03, R81), so that the device
should not come to run a ramp under it; but the clause speaks of every state. -/
theorem not_sequencerControls : ¬ Obligations.SequencerControls := by
  unfold Obligations.SequencerControls
  rintro ⟨-, -, -, habort, -⟩
  obtain ⟨t, hexec, hsusp, -⟩ := habort 0 [] abortUnderFault rfl rfl rfl rfl rfl rfl rfl rfl rfl rfl
  rw [← State.after_of_next hexec] at hsusp
  exact absurd (stepCommit_under_fault_takes_no_abort.symm.trans hsusp) (by decide)

end

section
/-! O10: the clause on a reference loss leaves out that a ramp between two segments is suspended on the base word of its last committed step. -/

namespace Sys2Proof.Machine

/-- Root 1 in RAMP between two segments, with a base word that no step has committed. -/
def uncommittedBetweenSegments : State := betweenSegments.modRoot 1 (fun r => { r with base := 1 })

/-- The loss suspends the ramp, on the committed base word (03, R76, R79). -/
theorem referenceLoss_between_segments_restores_base : ((uncommittedBetweenSegments.after (.referenceLoss 1)).root 1).base = word128 := by decide +kernel

end Sys2Proof.Machine

open Sys2Proof Sys2Proof.Machine

/-- Refutes O10. Its clause on a reference loss keeps the base word whatever runs. In `uncommittedBetweenSegments` a ramp stands between two
segments, so that the loss is taken at once, and its base word 1 is not the committed one on which the ramp is suspended. Between two segments the
last step has been committed, so that the device should have the two alike; but the clause does not ask for it. -/
theorem not_coastingAndReturn : ¬ Obligations.CoastingAndReturn := by
  unfold Obligations.CoastingAndReturn
  rintro ⟨hloss, -⟩
  obtain ⟨t, hexec, -, -, -, -, -, -, -, -, -, hkept, -⟩ := hloss 1 uncommittedBetweenSegments (by decide +kernel) (by decide +kernel)
    (by decide +kernel) (by decide +kernel)
  rw [← State.after_of_next hexec] at hkept
  exact absurd (referenceLoss_between_segments_restores_base.symm.trans hkept) (by decide +kernel)

end

section
/-! Shared by O2 and O7: written registers, the commit of effects and of the word in force, a boundary at which a fault stands
(03, R73, R76, R81). -/

namespace Sys2Proof.Machine

variable {s : State} {n : Nat}

/-! ### A register that is written -/

theorem State.writeReg_frame (l : List Part) (n : Nat) (s : State) (a : Nat) (w : Word) (m : Nat) (hl : .regs ∈ l := by decide) :
    RootFrame l n [a, GLB_LOCKVIOL] s (s.writeReg a w m) := by
  have hset (u : Word) : RootFrame l n [a, GLB_LOCKVIOL] s (s.setWord a u) :=
    ⟨State.setWord_without (List.mem_cons_of_mem _ hl) _ _ _, fun _ _ => State.setWord_root _ _ _ _,
      fun _ hb => State.setWord_word_other _ _ (List.ne_of_not_mem_cons hb)⟩
  unfold State.writeReg
  dsimp only
  rw [State.inc_eq]
  exact ((hset _).put (r := GLB_LOCKVIOL_COUNT) (by simp [GLB_LOCKVIOL_COUNT]) _ hl).of_ite (hset _)

theorem State.writeReg_root (s : State) (a : Nat) (w : Word) (m k : Nat) : (s.writeReg a w m).root k = s.root k := by
  unfold State.writeReg
  dsimp only
  split <;> simp

/-! ### The word in force, and the effects of a step -/

theorem State.commitWord_root (s : State) (n : Nat) : ∃ a h, (s.commitWord n).root n = { s.root n with seen := a, hist := h } :=
  State.noteVar_root (by simp)

/-- The registers of the word in force are none of the sequencer's. -/
theorem State.commitWord_seqStat (s : State) {n : Nat} (hn : n < 4) : (s.commitWord n).word (SEQ_STAT n) = s.word (SEQ_STAT n) :=
  ((RootFrame.refl [.regs] n [SYN_FWACTLO n, SYN_FWACTHI n, SYN_SSSTAT n] s).commitWord (by simp) (by simp) (by simp)).words _ (by
    simp only [SEQ_STAT, SYN_FWACTLO, SYN_FWACTHI, SYN_SSSTAT, List.mem_cons, List.not_mem_nil, or_false]; omega)

theorem State.flagSyn_root (s : State) (n : Nat) (r : Ref) (m : Nat) : (s.flagSyn n r).root m = s.root m :=
  State.root_of_without (State.flag_without (l := [.regs, .msixPend, .out]) (by decide) (by decide) (by decide) _ _ _) (by decide) m

/-- An effect reaches no part of the root but the count of voided alignments. -/
theorem State.applyEff_root (s : State) (n : Nat) (e : Eff) : ∃ v, (State.applyEff n s e).root n = { s.root n with voids := v } := by
  cases e with
  | put r v => exact ⟨_, State.put_root _ _ _ _⟩
  | flag r => exact ⟨_, s.flagSyn_root n r n⟩
  | slip =>
    obtain ⟨v, hv⟩ := (s.flagSyn n (SYN_FLAGS_TBSLIP n)).alignVoid_root n 2
    exact ⟨v, hv.trans (by rw [State.flagSyn_root])⟩
  | count r => exact ⟨_, by rw [State.applyEff, State.inc_eq, State.put_root]⟩
  | hop q result code counts =>
    refine ⟨(s.root n).voids, (State.hopResult_root _ _ _ _ _ _).trans ?_⟩
    split
    · rw [State.incWrap_eq, State.put_root]
    · rfl

theorem State.applyEffs_root (l : List Eff) (s : State) (n : Nat) :
    ∃ v, (l.foldl (State.applyEff n) s).root n = { s.root n with voids := v } := by
  induction l generalizing s with
  | nil => exact ⟨_, rfl⟩
  | cons e l ih =>
    obtain ⟨v, hv⟩ := s.applyEff_root n e
    obtain ⟨v', hv'⟩ := ih (State.applyEff n s e)
    exact ⟨v', by rw [List.foldl_cons, hv', hv]⟩

theorem State.commitEff_root (s : State) (n : Nat) : ∃ v, (s.commitEff n).root n = { s.root n with voids := v, eff := [] } := by
  obtain ⟨v, hv⟩ := State.applyEffs_root (s.root n).eff (s.modRoot n (fun r => { r with eff := [] })) n
  refine ⟨v, hv.trans ?_⟩
  rw [State.modRoot_eq, State.setRoot_root]

/-! ### The microwords of a step -/

/-- The microwords of the step have been fetched (03, R102). -/
def State.fetched (s : State) (n : Nat) (words : List (Option Nat)) : State := s.modRoot n (fun r => { r with upc := s.fetches n r.upc words })

theorem State.fetched_root (s : State) (n : Nat) (words : List (Option Nat)) :
    (s.fetched n words).root n = { s.root n with upc := s.fetches n (s.root n).upc words } := by
  rw [State.fetched, State.modRoot_eq, State.setRoot_root]

/-- A step of a routine that decoded an invalid microinstruction, and one that did not. -/
theorem stepCommit_invalid (h : (s.root n).rt ≠ 0) (words : List (Option Nat)) : stepCommit s n true words = seqFault (s.fetched n words) n := by
  rw [stepCommit, if_neg h, if_pos rfl]
  rfl

theorem stepCommit_valid (h : (s.root n).rt ≠ 0) (words : List (Option Nat)) : stepCommit s n false words =
    (((((((s.fetched n words).commitEff n).countStep n).commitRamp n).endRoutine n).commitLoop n).atBoundary n).rampTurn n := by
  rw [stepCommit, if_neg h, if_neg Bool.false_ne_true]
  rfl

/-! ### A boundary under FAULT -/

/-- Under a fault a boundary takes nothing but an EN clear. -/
theorem State.atBoundary_of_fault (hoff : (s.root n).waitOff = false) (hfault : s.bit (SEQ_STAT_FAULT n) = true) :
    s.atBoundary n = (s.modRoot n (fun r => { r with waitAbort := false })).modRoot n Root.sync := by
  rw [State.atBoundary, hoff, hfault]
  rfl

end Sys2Proof.Machine
end

section
/-! O7: what an invalid microinstruction leaves, and what FAULT keeps from happening (03, R73, R79, R81). -/

namespace Sys2Proof.Machine

variable {s : State} {n : Nat}

/-! ### The fault -/

/-- The routine has ended with FAULT, and the root stands on what was last committed. -/
def State.faulted (s : State) (n : Nat) : State :=
  (((s.modRoot n Root.rollback).routineEnd n).put (SEQ_STAT_FAULT n) 1).commitWord n

theorem State.faulted_root (s : State) (n : Nat) : ∃ a h, (s.faulted n).root n =
    { (s.root n).rollback with rt := 0, done := false, stepDue := false, seen := a, hist := h } := by
  obtain ⟨a, h, hroot⟩ := (((s.modRoot n Root.rollback).routineEnd n).put (SEQ_STAT_FAULT n) 1).commitWord_root n
  refine ⟨a, h, hroot.trans ?_⟩
  rw [State.put_root, State.routineEnd_root, State.modRoot_eq, State.setRoot_root]

/-- What SEQn_STAT shows while no routine runs. -/
theorem State.showIntr_get (s : State) (n : Nat) :
    (s.showIntr n).get (SEQ_STAT_ROUTINE n) = (((s.root n).intr).getD ⟨0, 0, false⟩).routine % 16 ∧ (s.showIntr n).get (SEQ_STAT_BUSY n) = 0 := by
  simp (disch := (refine id ?_; simp [Ref.fits, Ref.apart, SEQ_STAT_ROUTINE, SEQ_STAT_STEP, SEQ_STAT_PARTIAL, SEQ_STAT_BUSY]))
    only [State.showIntr, State.put_get, State.put_get_other]
  simp [SEQ_STAT_ROUTINE]

theorem State.faulted_get (s : State) {n : Nat} (hn : n < 4) :
    (s.faulted n).bit (SEQ_STAT_FAULT n) = true ∧ (s.faulted n).bit (SEQ_STAT_BUSY n) = false ∧
      ((s.root n).intr = none → (s.faulted n).get (SEQ_STAT_ROUTINE n) = 0) := by
  obtain ⟨hroutine, hbusy⟩ := ((s.modRoot n Root.rollback).modRoot n (fun r => { r with rt := 0, done := false, stepDue := false })).showIntr_get n
  have hword := (((s.modRoot n Root.rollback).routineEnd n).put (SEQ_STAT_FAULT n) 1).commitWord_seqStat hn
  have hfit : (SEQ_STAT_FAULT n).fits := by simp [Ref.fits, SEQ_STAT_FAULT]
  refine ⟨?_, ?_, fun hnone => ?_⟩
  · rw [State.faulted, State.bit_of_word (r := SEQ_STAT_FAULT n) hword, State.put_bit _ hfit]
    simp [SEQ_STAT_FAULT]
  · rw [State.faulted, State.bit_of_word (r := SEQ_STAT_BUSY n) hword,
      State.put_bit_other _ hfit _ (by simp [Ref.apart, SEQ_STAT_BUSY, SEQ_STAT_FAULT]), State.bit, State.routineEnd, hbusy]
    rfl
  · rw [State.faulted, State.get_of_word (r := SEQ_STAT_ROUTINE n) hword,
      State.put_get_other _ hfit _ (by simp [Ref.apart, SEQ_STAT_ROUTINE, SEQ_STAT_FAULT]), State.routineEnd, hroutine, State.modRoot_eq,
      State.setRoot_root, State.modRoot_eq, State.setRoot_root, Root.rollback, hnone]
    rfl

/-- Nothing that waits is taken under the fault but an EN clear. -/
theorem seqFault_eq (hn : n < 4) (hoff : (s.root n).waitOff = false) :
    seqFault s n = ((s.faulted n).modRoot n (fun r => { r with waitAbort := false })).modRoot n Root.sync := by
  obtain ⟨a, h, hroot⟩ := s.faulted_root n
  obtain ⟨hfault, -⟩ := s.faulted_get hn
  exact State.atBoundary_of_fault (s := s.faulted n) (by rw [hroot]; exact hoff) hfault

theorem State.faulted_frame (s : State) (n : Nat) :
    RootFrame [.regs] n [SEQ_STAT n, SYN_FWACTLO n, SYN_FWACTHI n, SYN_SSSTAT n] s (s.faulted n) :=
  (((((RootFrame.refl _ _ _ s).modRoot _).routineEnd (by simp)).put (r := SEQ_STAT_FAULT n) (by simp [SEQ_STAT_FAULT]) 1)).commitWord
    (by simp) (by simp) (by simp)

section
variable (hn : n < 4) (hoff : (s.root n).waitOff = false)
include hn hoff

theorem seqFault_root : ∃ a h, (seqFault s n).root n =
    Root.sync { (s.root n).rollback with rt := 0, done := false, stepDue := false, seen := a, hist := h, waitAbort := false } := by
  obtain ⟨a, h, hroot⟩ := s.faulted_root n
  refine ⟨a, h, ?_⟩
  rw [seqFault_eq hn hoff, State.modRoot_eq, State.setRoot_root, State.modRoot_eq, State.setRoot_root, hroot]

theorem seqFault_frame : RootFrame [.regs] n [SEQ_STAT n, SYN_FWACTLO n, SYN_FWACTHI n, SYN_SSSTAT n] s (seqFault s n) := by
  rw [seqFault_eq hn hoff]
  exact ((s.faulted_frame n).modRoot _).modRoot _

theorem seqFault_get : (seqFault s n).bit (SEQ_STAT_FAULT n) = true ∧ (seqFault s n).bit (SEQ_STAT_BUSY n) = false ∧
    ((s.root n).intr = none → (seqFault s n).get (SEQ_STAT_ROUTINE n) = 0) := by
  rw [seqFault_eq hn hoff]
  simp only [State.modRoot_eq, State.setRoot_bit, State.setRoot_get]
  exact s.faulted_get hn

end

/-! ### Events under FAULT -/

theorem State.seqRuns_of_fault (h : s.bit (SEQ_STAT_FAULT n) = true) : s.seqRuns n = false := by simp [State.seqRuns, h]

theorem lossUnderFault_rt (s : State) (n : Nat) : ((lossUnderFault s n).root n).rt = (s.root n).rt := by
  obtain ⟨h, p, hroot⟩ := s.unstartHop_root n
  obtain ⟨v, hv⟩ := (((s.unstartHop n).modRoot n
    (fun r => { r with lock := false, loss := 0, com := { r.com with lock := false } })).lossEffects n).commitEff_root n
  rw [lossUnderFault, hv, State.lossEffects_root, State.modRoot_eq, State.setRoot_root, hroot]

theorem State.windowFail_root (s : State) (n m : Nat) : (s.windowFail n).root m = s.root m := by
  unfold State.windowFail
  dsimp only
  split_ifs <;> simp

/-- Under FAULT a window that ends well shows that the reference is qualified, and no more. -/
theorem State.windowPass_root_of_fault (h : s.bit (SEQ_STAT_FAULT n) = true) (hn : n < 4) : (s.windowPass n).root n = s.root n := by
  have hfault : (s.put (SYN_CSTAT_REFOK n) 1).bit (SEQ_STAT_FAULT n) = true := by
    rw [State.put_bit_other _ (by simp [Ref.fits, SYN_CSTAT_REFOK]), h]
    exact .inl (by simp only [SEQ_STAT_FAULT, SEQ_STAT, SYN_CSTAT_REFOK, SYN_CSTAT]; omega)
  unfold State.windowPass
  dsimp only
  rw [State.seqRuns_of_fault h, State.leaveFreerun, hfault]
  split_ifs <;> simp_all

theorem freqWindowEnd_rt_of_fault (h : s.bit (SEQ_STAT_FAULT n) = true) (hn : n < 4) (count : Nat) :
    ((freqWindowEnd s n count).root n).rt = (s.root n).rt := by
  have hfault (v : Nat) : (s.put (SYN_CSTAT_QDEV n) v).bit (SEQ_STAT_FAULT n) = true := by
    rw [State.put_bit_other _ (by simp [Ref.fits, SYN_CSTAT_QDEV]), h]
    exact .inl (by simp only [SEQ_STAT_FAULT, SEQ_STAT, SYN_CSTAT_QDEV, SYN_CSTAT]; omega)
  unfold freqWindowEnd
  dsimp only
  rw [State.modRoot_eq, State.setRoot_root]
  split
  · rw [State.windowPass_root_of_fault (hfault _) hn, State.put_root]
  · rw [State.windowFail_root, State.put_root]

/-- With no ramp suspended, a ramp start whose checks fail reaches no root (03, R85). -/
theorem State.startRamp_root_of_refused (hsusp : s.bit (SEQ_STAT_SUSP n) = false) (hwhy : s.rampWhy n ≠ 0) (clap : Bool) (m : Nat) :
    ((s.startRamp n clap).1).root m = s.root m := by
  have hdrop : s.dropSuspended n = s := by simp [State.dropSuspended, hsusp]
  simp only [State.startRamp, hdrop, if_pos hwhy]
  rw [State.put_root, State.put_root]

theorem State.rampWhy_of_fault (h : s.bit (SEQ_STAT_FAULT n) = true) : s.rampWhy n ≠ 0 := by
  have hlocked : s.rampLocked n = false := by simp [State.rampLocked, State.seqRuns_of_fault h]
  simp only [State.rampWhy, hlocked]
  split <;> simp

theorem State.rctrlWrite_root_of_fault (h : s.bit (SEQ_STAT_FAULT n) = true) (hsusp : s.bit (SEQ_STAT_SUSP n) = false) (hn : n < 4) (w : Word)
    (m : Nat) : (s.rctrlWrite n w).root m = s.root m := by
  have hwrite := s.writeReg_frame [.regs] n (SYN_RCTRL n) w fullMask
  have hf := (((hwrite.mono (ws' := [SYN_RCTRL n, GLB_LOCKVIOL, SYN_RSTAT n]) (by simp)).put (r := SYN_RSTAT_IGNCNT n)
    (by simp [SYN_RSTAT_IGNCNT]) 0).of_ite (c := wbit w 0 = true ∨ wbit w 3 = true) (hwrite.mono (by simp)))
  have hroot : (if wbit w 0 = true ∨ wbit w 3 = true then (s.writeReg (SYN_RCTRL n) w fullMask).put (SYN_RSTAT_IGNCNT n) 0
      else s.writeReg (SYN_RCTRL n) w fullMask).root m = s.root m := by
    split <;> simp [State.writeReg_root]
  have hseq : SEQ_STAT n ∉ [SYN_RCTRL n, GLB_LOCKVIOL, SYN_RSTAT n] := by
    simp only [SEQ_STAT, SYN_RCTRL, GLB_LOCKVIOL, SYN_RSTAT, List.mem_cons, List.not_mem_nil, or_false]; omega
  unfold State.rctrlWrite
  dsimp only
  generalize (if wbit w 0 = true ∨ wbit w 3 = true then (s.writeReg (SYN_RCTRL n) w fullMask).put (SYN_RSTAT_IGNCNT n) 0
      else s.writeReg (SYN_RCTRL n) w fullMask) = u at hf hroot
  split
  · rw [State.startRamp_root_of_refused ((hf.bit (SEQ_STAT_SUSP n) hseq).trans hsusp)
      (State.rampWhy_of_fault ((hf.bit (SEQ_STAT_FAULT n) hseq).trans h)), hroot]
  · exact hroot

/-! ### The phase-detector cycle under FAULT -/

theorem SameWords.refl (l : List Nat) (s : State) : SameWords l s s := fun _ _ => rfl

theorem SameWords.trans {l : List Nat} {s t u : State} (h : SameWords l s t) (h' : SameWords l t u) : SameWords l s u :=
  fun a ha => (h' a ha).trans (h a ha)

theorem fpdModulator_words (s : State) (n : Nat) (l : List Nat) : SameWords l s (fpdModulator s n) := by
  intro a _
  unfold fpdModulator
  dsimp only
  split <;> simp

theorem fpdCounters_frame (s : State) (n : Nat) (e : Int) (l : List Part) (ws : List Nat) : RootFrame l n ws s (fpdCounters s n e) := by
  have hs := RootFrame.refl l n ws s
  unfold fpdCounters
  exact (hs.setRoot _).of_ite ((hs.setRoot _).of_ite (hs.of_ite ((((hs.setRoot _).setSt _).of_ite hs).of_ite
    (((hs.setRoot _).of_ite ((hs.setRoot _).setSt _)).of_ite ((hs.setRoot _).of_ite hs)))))

theorem fpdAverager_frame (s : State) (n : Nat) (corr : Int) : RootFrame [.regs] n [SYN_CSTAT n] s (fpdAverager s n corr) :=
  (((RootFrame.refl _ _ _ s).modRoot _).put (r := SYN_CSTAT_AVGVALID n) (by simp [SYN_CSTAT_AVGVALID]) _).of_ite (RootFrame.refl _ _ _ s)

theorem fpdRamp_frame (s : State) (n : Nat) (l : List Part) (ws : List Nat) : RootFrame l n ws s (fpdRamp s n) := by
  unfold fpdRamp
  dsimp only
  split
  · exact RootFrame.refl _ _ _ s
  · exact (RootFrame.refl _ _ _ s).of_ite ((RootFrame.refl _ _ _ s).setRoot _)

theorem fpdFine_frame (s : State) (n : Nat) (corr : Int) (l : List Part) (ws : List Nat) : RootFrame l n ws s (fpdFine s n corr) :=
  (RootFrame.refl _ _ _ s).of_ite ((RootFrame.refl _ _ _ s).modRoot _)

theorem fpdSpread_frame (s : State) (n : Nat) (l : List Part) (ws : List Nat) : RootFrame l n ws s (fpdSpread s n) := by
  unfold fpdSpread
  split
  · exact RootFrame.refl _ _ _ s
  · exact ((RootFrame.refl _ _ _ s).modRoot _).of_ite (RootFrame.refl _ _ _ s)

/-- A stepper that is held takes no step (03, R81). -/
theorem fpdStepper_of_fault (h : s.bit (SEQ_STAT_FAULT n) = true) : fpdStepper s n = s.modRoot n (fun r => { r with stepped := false }) := by
  have hoff : s.stepperOn n = false := by simp [State.stepperOn, h]
  rw [fpdStepper, hoff]
  rfl

/-- The part of the cycle before the stepper. -/
def fpdMeasured (s : State) (n : Nat) (e : Option Int) (corr : Int) : State :=
  match e with
  | some x => if (s.root n).frozen then fpdModulator s n else fpdAverager (fpdCounters (fpdModulator s n) n x) n corr
  | none => fpdModulator s n

theorem fpdMeasured_words (s : State) (n : Nat) (e : Option Int) (corr : Int) : SameWords [SYN_CSTAT n] s (fpdMeasured s n e corr) := by
  have hmod := fpdModulator_words s n [SYN_CSTAT n]
  unfold fpdMeasured
  split
  · split
    · exact hmod
    · exact hmod.trans ((fpdCounters_frame _ n _ [] _).words.trans (fpdAverager_frame _ n corr).words)
  · exact hmod

/-- The part of the cycle before the feed-forward. -/
def fpdApplied (s : State) (n : Nat) (e : Option Int) (corr : Int) : State :=
  let s3 := fpdRamp (fpdStepper (fpdMeasured s n e corr) n) n
  fpdSpread (if (s.root n).frozen then s3 else fpdFine s3 n corr) n

theorem fpdCycle_eq (s : State) (n : Nat) (e : Option Int) (corr : Int) :
    fpdCycle s n e corr = ((fpdApplied s n e corr).feedForward n (s.wordInForce n) (s.root n).snap).noteVar n := rfl

theorem fpdApplied_words_of_fault (h : s.bit (SEQ_STAT_FAULT n) = true) (hn : n < 4) (e : Option Int) (corr : Int) :
    SameWords [SYN_CSTAT n] s (fpdApplied s n e corr) := by
  have hseq : SEQ_STAT n ∉ [SYN_CSTAT n] := by simp only [SEQ_STAT, SYN_CSTAT, List.mem_singleton]; omega
  have hmeasured := fpdMeasured_words s n e corr
  have hramp := ((RootFrame.refl [] n [SYN_CSTAT n] (fpdMeasured s n e corr)).modRoot (fun r => { r with stepped := false })).trans
    (fpdRamp_frame _ n _ _)
  unfold fpdApplied
  dsimp only
  rw [fpdStepper_of_fault ((State.bit_of_word (r := SEQ_STAT_FAULT n) (hmeasured _ hseq)).trans h)]
  exact hmeasured.trans (((hramp.of_ite (hramp.trans (fpdFine_frame _ n corr _ _))).trans (fpdSpread_frame _ n _ _)).words)

/-- Under FAULT a cycle of the phase detector touches, of the registers, AVGVALID and the delay lines of the bank DLLs at most. -/
theorem fpdCycle_word_of_fault (h : s.bit (SEQ_STAT_FAULT n) = true) (hn : n < 4) (e : Option Int) (corr : Int) {a : Nat} (ha : a ≠ SYN_CSTAT n)
    (ha' : a < 0xA0000) : (fpdCycle s n e corr).word a = s.word a := by
  rw [fpdCycle_eq, (RootFrame.refl [] n [] _).noteVar.words a (by simp), State.feedForward_word _ _ _ _ (State.not_mem_dllRegs (.inl ha'))]
  exact fpdApplied_words_of_fault h hn e corr a (by simpa using ha)

/-! ### EN goes to 1 -/

theorem State.bwClamp_word (s : State) (n : Nat) {a : Nat} (h : a ≠ SYN_FLAGS n) : (s.bwClamp n).word a = s.word a := by
  unfold State.bwClamp
  dsimp only
  split
  · exact State.flag_word _ _ _ h
  · rfl

theorem State.eachBank_word (s : State) (l : List Nat) (f : Bank → Bank) (a : Nat) : (s.each l (fun t b => t.modBank b f)).word a = s.word a :=
  foldl_keeps (fun u => u.word a) (fun u b _ => by simp) s

theorem State.routine_fault (s : State) (n code : Nat) : (s.routine n code).bit (SEQ_STAT_FAULT n) = s.bit (SEQ_STAT_FAULT n) := by
  simp (disch := (refine id ?_; simp [Ref.fits, Ref.apart, SEQ_STAT_ROUTINE, SEQ_STAT_STEP, SEQ_STAT_PARTIAL, SEQ_STAT_BUSY, SEQ_STAT_FAULT]))
    only [State.routine, State.put_bit_other, State.modRoot_eq, State.setRoot_bit]

/-- An accepted enable clears FAULT (03, R81). -/
theorem State.rootEnable_fault (hn : n < 4) (hwhy : s.enableWhy n = 0) : (s.rootEnable n).bit (SEQ_STAT_FAULT n) = false := by
  have hflags : SEQ_STAT n ≠ SYN_FLAGS n := by simp only [SEQ_STAT, SYN_FLAGS]; omega
  unfold State.rootEnable
  simp only [hwhy, ne_eq, not_true_eq_false, if_false]
  rw [State.bit_of_word (r := SEQ_STAT_FAULT n) (State.commitWord_seqStat _ hn), State.routine_fault,
    State.bit_of_word (r := SEQ_STAT_FAULT n) (State.bwClamp_word _ _ hflags), State.bit_of_word (r := SEQ_STAT_FAULT n) (State.eachBank_word _ _ _ _),
    State.setRoot_bit, State.put_bit _ (by simp [Ref.fits, SEQ_STAT_FAULT])]
  rfl

/-- A write that sets EN alone enables the root. -/
theorem State.synCtrlWrite_of_enable {src : Source} {w : Word} (hen : s.bit (SYN_CTRL_EN n) = false) (h0 : wbit w 0 = true) (h1 : wbit w 1 = false)
    (h2 : wbit w 2 = false) (idle : Nat → Bool) : s.synCtrlWrite src n w idle =
    (s.writeReg (SYN_CTRL n) (BitVec.ofNat 32 (fieldPut w.toNat 0 1 0)) fullMask).rootEnable n := by
  simp [State.synCtrlWrite, hen, h0, h1, h2, b2n]

end Sys2Proof.Machine
end

section
open Sys2Proof Sys2Proof.Machine

/-- Settles O7: the fault rolls the root back to what was committed, the boundary under it takes nothing, and no event starts a routine. -/
theorem invalidMicroinstructionFaults : Obligations.InvalidMicroinstructionFaults := by
  unfold Obligations.InvalidMicroinstructionFaults
  refine ⟨?fault, ?held, ?goesOn, ?cycle, ?enable⟩
  case fault =>
    intro n words s hrt hdue hoff
    have hstep : exec (.sequencerStepCommit n true words) s = .next (stepCommit s n true words) := if_neg fun h => by simp [hdue h.1] at h
    have hfetch : RootFrame [.regs] n [SEQ_STAT n, SYN_FWACTLO n, SYN_FWACTHI n, SYN_SSSTAT n] s (s.fetched n words) :=
      (RootFrame.refl _ _ _ s).modRoot _
    have hu := s.fetched_root n words
    rw [stepCommit_invalid hrt] at hstep
    generalize s.fetched n words = u at hstep hfetch hu
    have hoff' : (u.root n).waitOff = false := by rw [hu]; exact hoff
    obtain ⟨a, h, hroot⟩ := seqFault_root n.isLt hoff'
    obtain ⟨hfault, hbusy, hroutine⟩ := seqFault_get n.isLt hoff'
    have hf := hfetch.trans (seqFault_frame n.isLt hoff')
    rw [hu] at hroot hroutine
    refine ⟨_, hstep, hfault, hbusy, ?_⟩
    rw [State.rootState, hroot]
    exact ⟨rfl, rfl, hroutine, rfl, rfl, rfl, fun h5 => if_pos h5, rfl, rfl, rfl, hf.eq_regs, hf.roots, hf.words⟩
  case held =>
    intro n s hfault
    have hruns := State.seqRuns_of_fault hfault
    have hfree : s.seqFree n = false := by simp [State.seqFree, hruns]
    exact ⟨if_neg (by simp [hruns]), if_pos hfree, if_neg (by simp [hruns]), if_neg (by simp [hruns]), if_neg (by simp [hruns])⟩
  case goesOn =>
    intro n s src w count hserved hfault hsusp
    refine ⟨?_, ?_, ?_⟩
    · change ∃ t, execLossOfLock n s = .next t ∧ _
      unfold execLossOfLock
      split
      · exact ⟨_, rfl, lossUnderFault_rt s n⟩
      · exact ⟨_, rfl, rfl⟩
    · change ∃ t, execFreqWindowEnd n count s = .next t ∧ _
      unfold execFreqWindowEnd
      split
      · exact ⟨_, rfl, freqWindowEnd_rt_of_fault hfault n.isLt count⟩
      · exact ⟨_, rfl, rfl⟩
    · have hstep : exec (.rampStart src n w) s = .next (s.rctrlWrite n w) := congrArg _ (State.rowWrite_of_served hserved w _)
      have hroot := State.rctrlWrite_root_of_fault hfault hsusp n.isLt w n
      exact ⟨_, hstep, by rw [hroot], by rw [State.rootState, hroot, State.rootState]⟩
  case cycle =>
    intro n e corr s hfault hoff hwake
    have hlt := n.isLt
    have hstep : exec (.fpdCycle n e corr) s = .next (fpdCycle s n e corr) := if_neg (by simp [hoff, hwake])
    have hword {a : Nat} := fpdCycle_word_of_fault hfault hlt e corr (a := a)
    exact ⟨_, hstep, State.get_of_word (hword (by simp [SYN_PHPEND_PEND, SYN_PHPEND, SYN_CSTAT]) (by simp only [SYN_PHPEND_PEND, SYN_PHPEND]; omega)),
      State.get_of_word (hword (by simp [SYN_PHPOS_POS, SYN_PHPOS, SYN_CSTAT]) (by simp only [SYN_PHPOS_POS, SYN_PHPOS]; omega))⟩
  case enable =>
    intro src n w s hserved hen h0 h1 h2 hwhy
    have hstep : exec (.rootEnable src n w) s = .next (s.synCtrlWrite src n w (fun b => s.bankIdle b)) :=
      congrArg _ (State.rowWrite_of_served hserved w _)
    rw [State.synCtrlWrite_of_enable hen h0 h1 h2] at hstep
    exact ⟨_, hstep, State.rootEnable_fault n.isLt hwhy⟩

end

section
/-! O2: what the step that leaves RECLOSE shows, through its commit and a ramp that begins behind it (02, R52; 03, R73, R74, R99; 11, R340). -/

namespace Sys2Proof.Machine

/-! ### Completions and the registers that they leave alone -/

theorem State.answer_word_apart (s : State) (src : Src) (code cyc res : Nat) {a : Nat} (h : apartFromRecords a) :
    (s.answer src code cyc res).word a = s.word a := by
  obtain ⟨hlow, hports⟩ := h
  have hsent (dev : Nat) (i : LinkItem) : (s.sendItem dev i).word a = s.word a :=
    State.word_of_without (s.sendItem_without (l := [.pls, .out]) (by decide) (by decide) dev i) (by decide) a
  cases src with
  | none => rfl
  | port p g tag => exact s.pushResult_word p _ hlow (hports p).1 (hports p).2
  | gone p => exact s.dropRecords_word p 1 (hports p).1 (hports p).2
  | flow f c => exact s.finishCmd_word _ _ _ _ _ _ _ _
  | link dev tag => exact hsent dev _
  | xtake dev tag idx => exact hsent dev _

theorem State.hopResult_word_apart (s : State) (n : Nat) (q : HopReq) (result code : Nat) {a : Nat} (h : apartFromRecords a)
    (hne : a ≠ SYN_HOPSTAT n) : (s.hopResult n q result code).word a = s.word a := by
  rw [State.hopResult, State.answer_word_apart _ _ _ _ _ h, State.put_word_other _ _ hne, State.put_word_other _ _ hne]

/-- A boundary at which no routine runs, and neither an EN clear nor a loss waits, takes nothing. -/
theorem State.atBoundary_of_idle {s : State} {n : Nat} (hrt : (s.root n).rt = 0) (hoff : (s.root n).waitOff = false)
    (hloss : (s.root n).waitLoss = false) : s.atBoundary n = (s.modRoot n (fun r => { r with waitAbort := false })).modRoot n Root.sync := by
  have hprio : (s.modRoot n (fun r => { r with waitAbort := false })).prioHop n = none := by
    simp only [State.prioHop, State.modRoot_eq, State.setRoot_root, hrt]
    split <;> simp
  rw [State.atBoundary, hoff, hloss, hprio, hrt]
  simp

/-! ### The slip stands -/

/-- What waits for a commit or for a boundary, aside from a ramp. -/
def Root.waits (r : Root) : List Eff × Bool × Bool := (r.eff, r.waitOff, r.waitLoss)

/-- The registers show LOCK, TBSLIP and a void alignment, and nothing waits that could undo them. -/
structure SlipStands (n : Nat) (s : State) : Prop where
  lock : s.bit (SYN_STAT_LOCK n) = true
  slip : s.bit (SYN_FLAGS_TBSLIP n) = true
  void : s.get (PRL_ALIGN_ALIGNED n) = 0
  calm : (s.root n).waits = ([], false, false)

/-- The registers of a root, besides SYNn_STAT, that the steps below write. -/
def besideSlip (n : Nat) : List Nat := SYN_HOPSTAT n :: SYN_CSTAT n :: boundaryRegs n

theorem seqStat_mem_besideSlip (n : Nat) : SEQ_STAT n ∈ besideSlip n := by simp [besideSlip, boundaryRegs]

theorem rstat_mem_besideSlip (n : Nat) : SYN_RSTAT n ∈ besideSlip n := by simp [besideSlip, boundaryRegs]

theorem not_mem_besideSlip {n a : Nat} (h : a ∈ [SYN_STAT n, SYN_FLAGS n, PRL_ALIGN n]) : a ∉ besideSlip n := by
  simp only [besideSlip, boundaryRegs, SEQ_STAT, SYN_RSTAT, SYN_FWACTLO, SYN_FWACTHI, SYN_SSSTAT, SYN_STAT, SYN_FLAGS, SYN_CSTAT, SYN_HOPSTAT,
    PRL_ALIGN, List.mem_cons, List.not_mem_nil, or_false] at h ⊢
  omega

theorem apartFromRecords_slip {n a : Nat} (hn : n < 4) (h : a ∈ [SYN_STAT n, SYN_FLAGS n, PRL_ALIGN n]) : apartFromRecords a := by
  simp only [SYN_STAT, SYN_FLAGS, PRL_ALIGN, List.mem_cons, List.not_mem_nil, or_false] at h
  exact ⟨by omega, fun p => by simp only [TSP_RESDROP, TSP_FLAGS]; omega⟩

namespace SlipStands

variable {l : List Part} {n : Nat} {s t : State}

theorem of_words (h : SlipStands n s) (hw : ∀ a ∈ [SYN_STAT n, SYN_FLAGS n, PRL_ALIGN n], t.word a = s.word a)
    (hr : (t.root n).waits = (s.root n).waits) : SlipStands n t :=
  ⟨(State.bit_of_word (r := SYN_STAT_LOCK n) (hw _ (by simp [SYN_STAT_LOCK]))).trans h.lock,
    (State.bit_of_word (r := SYN_FLAGS_TBSLIP n) (hw _ (by simp [SYN_FLAGS_TBSLIP]))).trans h.slip,
    (State.get_of_word (r := PRL_ALIGN_ALIGNED n) (hw _ (by simp [PRL_ALIGN_ALIGNED]))).trans h.void, hr.trans h.calm⟩

theorem modRoot (h : SlipStands n s) {f : Root → Root} (hf : (f (s.root n)).waits = (s.root n).waits) : SlipStands n (s.modRoot n f) :=
  h.of_words (fun a _ => by rw [State.modRoot_eq, State.setRoot_word]) (by rw [State.modRoot_eq, State.setRoot_root, hf])

/-- A field of SYNn_STAT beside LOCK. -/
theorem putStat (h : SlipStands n s) {lo len : Nat} (hfit : lo + len ≤ 32) (hlo : 1 ≤ lo) (v : Nat) :
    SlipStands n (s.put ⟨SYN_STAT n, lo, len⟩ v) :=
  have hflags : SYN_FLAGS n ≠ SYN_STAT n := by simp only [SYN_FLAGS, SYN_STAT]; omega
  have halign : PRL_ALIGN n ≠ SYN_STAT n := by simp only [PRL_ALIGN, SYN_STAT]; omega
  ⟨(State.put_bit_other _ hfit _ (.inr (.inl (by exact hlo)))).trans h.lock, (State.put_bit_other _ hfit _ (.inl hflags)).trans h.slip,
    (State.put_get_other _ hfit _ (.inl halign)).trans h.void, by rw [State.put_root]; exact h.calm⟩

/-- The alignment is void once more. -/
theorem alignVoid (h : SlipStands n s) (why : Nat) : SlipStands n (s.alignVoid n why) := by
  have hf := (RootFrame.refl [.regs, .pls, .out] n [PRL_ALIGN n] s).alignVoid (by simp) why (.inr (by decide))
  obtain ⟨v, hroot⟩ := s.alignVoid_root n why
  refine ⟨(hf.bit _ ?_).trans h.lock, (hf.bit _ ?_).trans h.slip, (s.alignVoid_get n why).1, by rw [hroot]; exact h.calm⟩
  · simp only [SYN_STAT_LOCK, SYN_STAT, PRL_ALIGN, List.mem_singleton]; omega
  · simp only [SYN_FLAGS_TBSLIP, SYN_FLAGS, PRL_ALIGN, List.mem_singleton]; omega

section
variable (h : SlipStands n s)
include h

theorem of_frame (hf : RootFrame l n (besideSlip n) s t) (hr : (t.root n).waits = (s.root n).waits) : SlipStands n t :=
  h.of_words (fun a ha => hf.words a (not_mem_besideSlip ha)) hr

theorem setStNow (st : Nat) : SlipStands n (s.setStNow n st) := (h.modRoot rfl).putStat (by decide) (by decide) st

theorem commitWord : SlipStands n (s.commitWord n) := by
  obtain ⟨a, b, hroot⟩ := s.commitWord_root n
  exact h.of_frame ((RootFrame.refl [.regs] n _ s).commitWord (by simp [besideSlip, boundaryRegs]) (by simp [besideSlip, boundaryRegs])
    (by simp [besideSlip, boundaryRegs])) (by rw [hroot]; rfl)

theorem routine (code : Nat) : SlipStands n (s.routine n code) := by
  obtain ⟨i, hroot⟩ := s.routine_root n code
  exact h.of_frame ((RootFrame.refl [.regs] n _ s).routine (seqStat_mem_besideSlip n) code) (by rw [hroot]; rfl)

theorem routineEnd : SlipStands n (s.routineEnd n) :=
  h.of_frame ((RootFrame.refl [.regs] n _ s).routineEnd (seqStat_mem_besideSlip n)) (by rw [State.routineEnd_root]; rfl)

theorem commitRamp : SlipStands n (s.commitRamp n) :=
  h.of_frame ((RootFrame.refl [.regs] n _ s).commitRamp (rstat_mem_besideSlip n)) (by rw [State.commitRamp_root])

/-- A field of a register that the steps write beside SYNn_STAT. -/
theorem put {r : Ref} (hr : r.addr ∈ besideSlip n) (v : Nat) : SlipStands n (s.put r v) :=
  h.of_frame ((RootFrame.refl [.regs] n _ s).put hr v) (by rw [State.put_root])

theorem showPend : SlipStands n (s.showPend n) :=
  h.of_frame ((RootFrame.refl [.regs] n _ s).showPend (by simp [besideSlip])) (by rw [State.showPend_root])

end

/-! ### Hops that end or go back to waiting -/

section
variable (h : SlipStands n s) (hn : n < 4)
include h hn

theorem hopResult (q : HopReq) (result code : Nat) : SlipStands n (s.hopResult n q result code) :=
  h.of_words (fun a ha => s.hopResult_word_apart n q result code (apartFromRecords_slip hn ha)
    fun e => not_mem_besideSlip ha (by simp [besideSlip, e])) (by rw [State.hopResult_root])

theorem pendHop (old new : HopReq) : SlipStands n (s.pendHop n old new) := by
  unfold State.pendHop
  split
  · exact ((h.modRoot rfl).hopResult hn new _ _).showPend
  · exact ((h.modRoot rfl).hopResult hn old _ _).showPend

theorem unstartHop : SlipStands n (s.unstartHop n) := by
  have hgone := (h.modRoot (f := fun r => { r with hop := none }) rfl).putStat (lo := 2) (len := 1) (by decide) (by decide) 0
  unfold State.unstartHop
  split
  · dsimp only
    split
    · exact (hgone.modRoot rfl).showPend
    · exact hgone.pendHop hn _ _
  · exact h

/-! ### The effects that follow the slip -/

theorem applyHop (q : HopReq) (result code : Nat) : SlipStands n (State.applyEff n s (.hop q result code true)) := by
  rw [State.applyEff, if_pos rfl, State.incWrap_eq]
  exact (h.put (r := SYN_HOPSTAT_HOPCNT n) (by simp [besideSlip, SYN_HOPSTAT_HOPCNT]) _).hopResult hn q result code

theorem applyHopEffects (q : HopReq) (result : Nat) : SlipStands n ((hopEffects n q result).foldl (State.applyEff n) s) :=
  (h.putStat (lo := 2) (len := 1) (by decide) (by decide) 0).applyHop hn q result _

theorem applyHopLockEffects (x : Option (HopReq × HopPhase)) : SlipStands n ((hopLockEffects n x).foldl (State.applyEff n) s) := by
  unfold hopLockEffects
  split
  · exact h.applyHopEffects hn _ _
  · exact h.applyHopEffects hn _ _
  · exact h

end

/-! ### A boundary at which no routine runs, and the ramp that begins behind it -/

section
variable (h : SlipStands n s)
include h

theorem atBoundary (hrt : (s.root n).rt = 0) : SlipStands n (s.atBoundary n) := by
  obtain ⟨-, hoff, hloss⟩ : (s.root n).eff = [] ∧ (s.root n).waitOff = false ∧ (s.root n).waitLoss = false := by
    simpa [Root.waits] using h.calm
  rw [State.atBoundary_of_idle hrt hoff hloss]
  exact (h.modRoot (f := fun r => { r with waitAbort := false }) rfl).modRoot rfl

theorem rampEnd (lastres : Nat) : SlipStands n (s.rampEnd n lastres) := by
  obtain ⟨heff, -⟩ : (s.root n).eff = [] ∧ _ := by simpa [Root.waits] using h.calm
  have hcommit : SlipStands n (s.commitEff n) := by
    rw [State.commitEff_of_eff heff]
    exact h.of_words (fun a _ => State.setRoot_word _ _ _ _) (by rw [List.foldl_nil, State.setRoot_root, ← heff])
  have hphase := (hcommit.setStNow stLocked).put (r := SYN_RSTAT_PHASE n) (rstat_mem_besideSlip n) 0
  have hres := (hphase.put (r := SYN_RSTAT_LASTRES n) (rstat_mem_besideSlip n) lastres).modRoot
    (f := fun r => { r with ramp := none }) rfl
  refine (hres.routineEnd.commitWord).atBoundary ?_
  generalize State.modRoot _ n _ = u
  obtain ⟨a, b, hroot⟩ := (u.routineEnd n).commitWord_root n
  rw [hroot, State.routineEnd_root]

theorem beginSeg (i pass : Nat) (passes : Option Nat) : SlipStands n (s.beginSeg n i pass passes) := by
  have hrstat := rstat_mem_besideSlip n
  unfold State.beginSeg
  dsimp only
  split
  · exact h.rampEnd _
  · exact (((h.modRoot rfl).put (r := SYN_RSTAT_SEG n) hrstat _).put (r := SYN_RSTAT_PHASE n) hrstat _).put (r := SEQ_STAT_STEP n)
      (seqStat_mem_besideSlip n) 0 |>.commitWord

theorem continueRamp : SlipStands n (s.continueRamp n) := by
  have hseq := seqStat_mem_besideSlip n
  have hgoes := (((h.routine 5).put (r := SEQ_STAT_SUSP n) hseq 0).put (r := SEQ_STAT_STEP n) hseq ((s.root n).intr.getD ⟨5, 0, false⟩).step).setStNow
    stRamp
  exact (hgoes.modRoot rfl).commitRamp

end

section
variable (h : SlipStands n s) (hn : n < 4)
include h hn

theorem beginRamp (clap : Bool) : SlipStands n (s.beginRamp n clap) := by
  have hseg := ((((h.unstartHop hn).setStNow stRamp).put (r := SYN_RSTAT_PASS n) (rstat_mem_besideSlip n)
    0).routine 5).beginSeg 0 0
  unfold State.beginRamp
  dsimp only
  split
  · exact hseg _
  · exact (hseg _).alignVoid 5

theorem rampTurn : SlipStands n (s.rampTurn n) := by
  have hturn := h.modRoot (f := fun r => { r with waitRamp := none }) rfl
  have hrefused := hturn.put (r := SYN_RSTAT_LASTRES n) (rstat_mem_besideSlip n)
  unfold State.rampTurn
  dsimp only
  split
  · exact h
  · split
    · split
      · exact hturn.beginRamp hn _
      · exact hrefused 5
    · split
      · exact hturn.continueRamp
      · exact hrefused 8

end

end SlipStands

/-! ### The step that leaves RECLOSE -/

/-- The effects that follow the slip in the step that leaves RECLOSE: a work-off that begins, and a hop that ends. -/
def slipFollowers (n : Nat) (works : Bool) (x : Option (HopReq × HopPhase)) : List Eff :=
  (if works then [.put (SYN_CSTAT_WORKING n) 1] else []) ++ hopLockEffects n x

theorem SlipStands.applyFollowers {n : Nat} {s : State} (h : SlipStands n s) (hn : n < 4) (works : Bool) (x : Option (HopReq × HopPhase)) :
    SlipStands n ((slipFollowers n works x).foldl (State.applyEff n) s) := by
  rw [slipFollowers, List.foldl_append]
  refine SlipStands.applyHopLockEffects ?_ hn x
  split
  · exact h.put (r := SYN_CSTAT_WORKING n) (by simp [besideSlip, SYN_CSTAT_WORKING]) 1
  · exact h

/-- The slip on a root that shows LOCKED (02, R52; 11, R340). -/
theorem slipStands_tbslip {n : Nat} {s : State} (hlock : s.bit (SYN_STAT_LOCK n) = true)
    (hcalm : (s.root n).waits = ([], false, false)) : SlipStands n (s.tbslip n) := by
  have hf := (RootFrame.refl [.regs, .pls, .out] n [PRL_ALIGN n] (s.flagSyn n (SYN_FLAGS_TBSLIP n))).alignVoid (by simp) 2 (.inr (by decide))
  obtain ⟨v, hroot⟩ := (s.flagSyn n (SYN_FLAGS_TBSLIP n)).alignVoid_root n 2
  have hstat : SYN_STAT n ≠ (SYN_FLAGS_TBSLIP n).addr := by simp only [SYN_STAT, SYN_FLAGS_TBSLIP, SYN_FLAGS]; omega
  refine ⟨(hf.bit (SYN_STAT_LOCK n) ?_).trans ?_, (hf.bit (SYN_FLAGS_TBSLIP n) ?_).trans ?_, (State.alignVoid_get _ n 2).1, ?_⟩
  · simp only [SYN_STAT_LOCK, SYN_STAT, PRL_ALIGN, List.mem_singleton]; omega
  · rwa [State.flagSyn, State.bit_of_word (r := SYN_STAT_LOCK n) (State.flag_word _ _ _ hstat)]
  · simp only [SYN_FLAGS_TBSLIP, SYN_FLAGS, PRL_ALIGN, List.mem_singleton]; omega
  · rw [State.flagSyn, State.bit, State.flag_get, State.put_get _ (by simp [Ref.fits, SYN_FLAGS_TBSLIP])]
    rfl
  · rw [State.tbslip, hroot, State.flagSyn_root]
    exact hcalm

/-- The effects of the step that leaves RECLOSE. -/
def recloseEffects (n : Nat) (works : Bool) (x : Option (HopReq × HopPhase)) : List Eff :=
  [.put (SYN_STAT_STATE n) stLocked, .put (SYN_STAT_LOCK n) 1, .put (SYN_STAT_COAST n) 0, .slip] ++ slipFollowers n works x

theorem slipStands_recloseEffects {n : Nat} {s : State} (hn : n < 4) (hcalm : (s.root n).waits = ([], false, false)) (works : Bool)
    (x : Option (HopReq × HopPhase)) : SlipStands n ((recloseEffects n works x).foldl (State.applyEff n) s) := by
  obtain ⟨-, hlock, -⟩ := s.showLocked_get n
  have hslip : SlipStands n ((s.showLocked n).tbslip n) := slipStands_tbslip hlock (by rw [State.showLocked_root]; exact hcalm)
  rw [recloseEffects, List.foldl_append]
  exact hslip.applyFollowers hn works x

theorem State.countStep_root (s : State) (n : Nat) :
    (s.countStep n).root n = { s.root n with nstep := (s.root n).nstep + 1, stepDue := false } := by
  rw [State.countStep, State.modRoot_eq, State.setRoot_root, State.incWrap_eq, State.put_root]

theorem SlipStands.countStep {n : Nat} {s : State} (h : SlipStands n s) : SlipStands n (s.countStep n) :=
  h.of_frame ((s.countStep_frame n).mono (by simp [besideSlip])) (by rw [State.countStep_root]; rfl)

/-- The routine ends with the step that runs: what is left is the commit of the loop, the boundary and a ramp that waited. -/
theorem SlipStands.endsRoutine {n : Nat} {s : State} (h : SlipStands n s) (hn : n < 4) (hrt : (s.root n).rt = 8) (hdone : (s.root n).done = true) :
    SlipStands n ((((s.endRoutine n).commitLoop n).atBoundary n).rampTurn n) := by
  have hend : s.endRoutine n = s.routineEnd n := by simp [State.endRoutine, hrt, hdone]
  obtain ⟨a, b, hloop⟩ := ((s.routineEnd n).modRoot n Root.sync).commitWord_root n
  have hidle : (((s.routineEnd n).commitLoop n).root n).rt = 0 := by
    rw [State.commitLoop, hloop, State.modRoot_eq, State.setRoot_root, State.routineEnd_root]
    rfl
  rw [hend]
  exact (((h.routineEnd.modRoot rfl).commitWord).atBoundary hidle).rampTurn hn

/-- The commit of the step that leaves RECLOSE. -/
theorem slipStands_stepCommit {n : Nat} {s : State} (hn : n < 4) {works : Bool} {x : Option (HopReq × HopPhase)}
    (heff : (s.root n).eff = recloseEffects n works x) (hrt : (s.root n).rt = 8) (hdone : (s.root n).done = true)
    (hoff : (s.root n).waitOff = false) (hloss : (s.root n).waitLoss = false) (words : List (Option Nat)) :
    SlipStands n (stepCommit s n false words) := by
  have hu := s.fetched_root n words
  rw [stepCommit_valid (by rw [hrt]; decide)]
  generalize s.fetched n words = u at hu
  obtain ⟨v, hroot⟩ := u.commitEff_root n
  have hstands : SlipStands n (u.commitEff n) := by
    rw [State.commitEff_of_eff (l := recloseEffects n works x) (by rw [hu]; exact heff)]
    refine slipStands_recloseEffects hn ?_ works x
    rw [State.setRoot_root, hu]
    simp [Root.waits, hoff, hloss]
  rw [hu] at hroot
  exact hstands.countStep.commitRamp.endsRoutine hn (by rw [State.commitRamp_root, State.countStep_root, hroot]; exact hrt)
    (by rw [State.commitRamp_root, State.countStep_root, hroot]; exact hdone)

end Sys2Proof.Machine
end

section
open Sys2Proof Sys2Proof.Machine

/-- Settles O2: the lock out of RECLOSE leaves the slip among its effects, the commit applies it, and nothing behind it undoes what it shows. -/
theorem recloseSlipsTheTimebase : Obligations.RecloseSlipsTheTimebase := by
  unfold Obligations.RecloseSlipsTheTimebase
  intro n words s hst hcnt hruns hrt heff hoff
  have hstep : exec (.lockDeclared n) s = .next (lockDeclared s n) := if_pos ⟨.inr hst, hcnt, hruns⟩
  have hloss : (s.root n).waitLoss = false := by
    simp only [State.seqRuns, Bool.and_eq_true, Bool.not_eq_true'] at hruns
    exact hruns.2
  obtain ⟨a, h, b, c, x, hroot, -⟩ := lockDeclared_root s n
  refine ⟨_, hstep, by rw [State.rootState, hroot]; rfl, ?_⟩
  generalize lockDeclared s n = t at hroot
  have hcommit : exec (.sequencerStepCommit n false words) t = .next (stepCommit t n false words) :=
    if_neg fun h5 => by rw [hroot] at h5; exact absurd (hrt.symm.trans h5.1) (by decide)
  have hstands : SlipStands n (stepCommit t n false words) := by
    refine slipStands_stepCommit n.isLt (works := decide ((s.root n).ret = some 1 ∧ s.willi n (SYN_PHCARRY_CARRY n) ≠ 0)) (x := (s.root n).hop)
      ?_ ?_ ?_ ?_ ?_ words
    · rw [hroot]
      simp [Root.locked, heff, hst, recloseEffects, slipFollowers]
    · rw [hroot]; exact hrt
    · rw [hroot]; rfl
    · rw [hroot]; exact hoff
    · rw [hroot]; exact hloss
  exact ⟨_, hcommit, hstands.lock, hstands.slip, hstands.void⟩

end

section
/-! O59: what a reset leaves of the banks and of SYN0 (04, R109; 13, R384). -/

namespace Sys2Proof.Machine

/-- The part of a table that a test of the keys keeps reads at a key that fails it as unlisted. -/
theorem tabGet_filter_of_dropped {α : Type} (d : α) (f : Nat → Bool) {i : Nat} (h : f i = false) (t : Tab α) :
    tabGet d (t.filter (fun p => f p.1)) i = d := by
  induction t with
  | nil => rfl
  | cons p t ih =>
    obtain ⟨k, v⟩ := p
    by_cases hk : f k = true
    · have hne : k ≠ i := by
        rintro rfl
        exact absurd (h.symm.trans hk) (by decide)
      simp [hk, tabGet, hne, ih]
    · simp [hk, ih]

/-- What the fuses give is in the registers of the SEC block. -/
theorem State.fuseRegs_word (s : State) {a : Nat} (h : 0x50000 ≤ a) : s.fuseRegs.word a = s.word a := by
  have hp (u : State) (v : Nat) {r : Ref} (hr : r.addr < 0x50000) : (u.put r v).word a = u.word a := u.put_word_other v (by omega)
  have hlc : SEC_LCSTATE < 0x50000 := by decide
  have hsvn : SEC_SVN < 0x50000 := by decide
  have hlo : SEC_UIDLO < 0x50000 := by decide
  have hhi : SEC_UIDHI < 0x50000 := by decide
  simp only [State.fuseRegs]
  split
  · rw [hp _ _ hsvn, hp _ _ hlc, hp _ _ hlc, hp _ _ hlc]
  · rw [hp _ _ hhi, hp _ _ hlo, hp _ _ hsvn, hp _ _ hlc, hp _ _ hlc, hp _ _ hlc]

/-- No register between the SEC block and the links survives a reset (13, R384). -/
theorem survives_eq_false {a : Nat} (h : 0x50000 ≤ a) (h' : a < 0x120000) : survives a = false := by
  have hlist : a ∉ [SEC_RSTCAUSE, SEC_BOOTCTRL, SEC_DLYHEAD, CLK_FAILCAUSE, PWR_AONNOW, PRL_BDID] := by
    simp only [List.mem_cons, List.not_mem_nil, or_false, SEC_RSTCAUSE, SEC_BOOTCTRL, SEC_DLYHEAD, CLK_FAILCAUSE, PWR_AONNOW, PRL_BDID]
    omega
  have hdly : ¬ (SEC_DLY 0 ≤ a ∧ a < SEC_DLY 1024) := by simp only [SEC_DLY]; omega
  simp [survives, hlist, hdly]

/-- A reset leaves those registers at their reset values. -/
theorem State.afterReset_word (s : State) {a : Nat} (h : 0x50000 ≤ a) (h' : a < 0x120000) : s.afterReset.word a = resetWord a := by
  have hd : a ≠ SEC_DBGSTAT := by simp only [SEC_DBGSTAT]; omega
  rw [State.afterReset, State.fuseRegs_word _ h, State.put_word_other _ _ hd, State.put_word_other _ _ hd]
  exact tabGet_filter_of_dropped _ survives (survives_eq_false h h') s.regs

/-- So their fields are those of the machine after power-on. -/
theorem State.afterReset_get (s : State) {r : Ref} (h : 0x50000 ≤ r.addr) (h' : r.addr < 0x120000) : s.afterReset.get r = State.reset.get r :=
  State.get_of_word (s.afterReset_word h h')

/-- After power-on every bank selects SYN0, without a clock. -/
theorem reset_bankFields : ∀ b : Fin 8, State.reset.get (BNK_ROOT_SEL b) = 0 ∧ State.reset.get (BNK_STAT_ROOTACT b) = 0 ∧
    State.reset.get (BNK_STAT_DLLSTATE b) = 0 := by decide

/-- A reset leaves every root at its reset state. -/
theorem State.afterReset_root (s : State) (n : Nat) : s.afterReset.root n = Root.init := by
  simp only [State.afterReset, State.fuseRegs]
  split_ifs <;> simp only [State.put_root] <;> rfl

end Sys2Proof.Machine

open Sys2Proof Sys2Proof.Machine

/-- Settles O59: a bank's registers and SYN0 do not survive a reset, and their reset values are those of the register map. -/
theorem banksSelectSyn0AfterEveryReset : Obligations.BanksSelectSyn0AfterEveryReset := by
  unfold Obligations.BanksSelectSyn0AfterEveryReset
  refine ⟨fun b s h => h, fun s => ⟨fun b => ?_, ?_, ?_⟩⟩
  · obtain ⟨hsel, hact, hdll⟩ := reset_bankFields b
    have hkept {r : Ref} (h : r.addr = BNK_ROOT b ∨ r.addr = BNK_STAT b) : s.afterReset.get r = State.reset.get r := by
      simp only [BNK_ROOT, BNK_STAT] at h
      exact s.afterReset_get (by omega) (by omega)
    rw [← hkept (.inl rfl)] at hsel
    rw [← hkept (.inr rfl)] at hact hdll
    exact ⟨hsel, hact, hact, hdll⟩
  · rw [State.bit, State.afterReset_get _ (by decide) (by decide)]
    decide
  · rw [State.rootState, State.afterReset_root]
    rfl

end

section
/-! O16: the clause on a manual park leaves out a release of MAN that waits for a cycle. -/

namespace Sys2Proof.Machine

/-- Channel 0 runs no cycle, and a release of MAN waits for its cycle 0. -/
def releaseWaits : State :=
  { State.reset with chans := [(0, { Chan.init with pk := { Park.init with chg := [⟨causeMan, .cycle 0, false⟩] } })] }

/-- A manual park puts MAN in force, and the release that waits has the last word on whether MAN stands. -/
theorem park_before_waiting_release : (releaseWaits.after (.park .firmware 0 1)).causeStands 0 causeMan = false := by decide +kernel

end Sys2Proof.Machine

open Sys2Proof Sys2Proof.Machine

/-- Refutes O16. Its clause on PARK 1 says of every channel that MAN stands afterwards. In `releaseWaits` no cycle of the channel runs and a
change that releases MAN waits for a cycle: the write puts MAN in force at once and leaves the change, so that MAN does not stand. -/
theorem not_parkingAndLeaving : ¬ Obligations.ParkingAndLeaving := by
  unfold Obligations.ParkingAndLeaving
  rintro ⟨-, -, -, -, -, hpark, -⟩
  obtain ⟨t, hexec, hstands, -⟩ := hpark .firmware 0 1 releaseWaits (by decide) (by decide)
  rw [← State.after_of_next hexec] at hstands
  exact absurd (park_before_waiting_release.symm.trans hstands) (by decide)

end

section
/-! Operations on one bank: the frame of each, as one relation between states, and what it leaves of the bank (04, R111 to R116). -/

namespace Sys2Proof.Machine

/-! ### The frame -/

/-- From `s` to `t` no bank but `b` differs, of the capture sides those of its channels, no register but the listed ones, and otherwise
the listed parts of the state alone. -/
structure BankFrame (l : List Part) (b : Nat) (ws : List Nat) (s t : State) : Prop where
  rest : t.without (.banks :: l) = s.without (.banks :: l)
  banks : SameBanks [b] s t
  caps : SameCaps (bankChans [b]) s t
  words : SameWords ws s t

namespace BankFrame

variable {l : List Part} {b : Nat} {ws : List Nat} {s t u : State}

theorem refl (l : List Part) (b : Nat) (ws : List Nat) (s : State) : BankFrame l b ws s s :=
  ⟨rfl, fun _ _ => rfl, fun _ _ => rfl, fun _ _ => rfl⟩

theorem trans (h : BankFrame l b ws s t) (h' : BankFrame l b ws t u) : BankFrame l b ws s u :=
  ⟨h'.rest.trans h.rest, fun m hm => (h'.banks m hm).trans (h.banks m hm), fun m hm => (h'.caps m hm).trans (h.caps m hm),
    fun a ha => (h'.words a ha).trans (h.words a ha)⟩

theorem mono {ws' : List Nat} (h : BankFrame l b ws s t) (hw : ws ⊆ ws') : BankFrame l b ws' s t :=
  ⟨h.rest, h.banks, h.caps, fun a ha => h.words a fun hm => ha (hw hm)⟩

theorem of_ite {c : Prop} [Decidable c] (h : BankFrame l b ws s t) (h' : BankFrame l b ws s u) : BankFrame l b ws s (if c then t else u) := by
  split
  · exact h
  · exact h'

/-- An operation that touches no bank and no capture side. -/
theorem of_without {l' : List Part} (hrest : t.without (.banks :: l) = s.without (.banks :: l)) (hunits : t.without l' = s.without l')
    (hwords : SameWords ws s t) (hb : .banks ∉ l' := by decide) (hc : .caps ∉ l' := by decide) : BankFrame l b ws s t :=
  ⟨hrest, fun m _ => State.bank_of_without hunits hb m, fun m _ => State.cap_of_without hunits hc m, hwords⟩

theorem get (h : BankFrame l b ws s t) {r : Ref} (hr : r.addr ∉ ws) : t.get r = s.get r := State.get_of_word (h.words _ hr)

theorem bit (h : BankFrame l b ws s t) {r : Ref} (hr : r.addr ∉ ws) : t.bit r = s.bit r := State.bit_of_word (h.words _ hr)

theorem root (h : BankFrame l b ws s t) (n : Nat) (hl : .roots ∉ l := by decide) : t.root n = s.root n :=
  State.root_of_without h.rest (by simpa using hl) n

/-- A field that is put. -/
theorem put (h : BankFrame l b ws s t) {r : Ref} (hr : r.addr ∈ ws) (v : Nat) (hl : .regs ∈ l := by decide) : BankFrame l b ws s (t.put r v) :=
  h.trans (of_without (l' := [.regs]) (State.put_without (List.mem_cons_of_mem _ hl) _ _ _) (State.put_without (by decide) _ _ _)
    fun _ ha => State.put_word_other _ _ (ne_of_mem_of_not_mem hr ha).symm)

theorem inc (h : BankFrame l b ws s t) {r : Ref} (hr : r.addr ∈ ws) (hl : .regs ∈ l := by decide) : BankFrame l b ws s (t.inc r) := by
  rw [State.inc_eq]
  exact h.put hr _ hl

/-- A flag that is set, with the interrupt that it may raise. -/
theorem flag (h : BankFrame l b ws s t) {r : Ref} (hr : r.addr ∈ ws) (v : Nat) (hl : .regs ∈ l := by decide) (hm : .msixPend ∈ l := by decide)
    (ho : .out ∈ l := by decide) : BankFrame l b ws s (t.flag v r) :=
  h.trans (of_without (l' := [.regs, .msixPend, .out])
    (State.flag_without (List.mem_cons_of_mem _ hl) (List.mem_cons_of_mem _ hm) (List.mem_cons_of_mem _ ho) _ _ _)
    (State.flag_without (by decide) (by decide) (by decide) _ _ _) fun _ ha => State.flag_word _ _ _ (ne_of_mem_of_not_mem hr ha).symm)

theorem modBank (h : BankFrame l b ws s t) (f : Bank → Bank) : BankFrame l b ws s (t.modBank b f) := by
  rw [State.modBank_eq]
  exact h.trans ⟨State.setBank_without (by simp) _ _ _, fun m hm => State.setBank_bank_other _ _ (List.ne_of_not_mem_cons hm),
    fun m _ => State.setBank_cap _ _ _ _, fun a _ => State.setBank_word _ _ _ _⟩

/-- A register that is written, and the count of a write that its LOCK bars. -/
theorem writeReg (h : BankFrame l b ws s t) {a : Nat} (ha : a ∈ ws) (hv : GLB_LOCKVIOL ∈ ws) (w : Word) (m : Nat) (hl : .regs ∈ l := by decide) :
    BankFrame l b ws s (t.writeReg a w m) := by
  have hset (u : Word) : BankFrame l b ws t (t.setWord a u) :=
    of_without (l' := [.regs]) (State.setWord_without (List.mem_cons_of_mem _ hl) _ _ _) (State.setWord_without (by decide) _ _ _)
      fun _ hx => State.setWord_word_other _ _ (ne_of_mem_of_not_mem ha hx).symm
  exact h.trans (((hset _).inc (r := GLB_LOCKVIOL_COUNT) hv hl).of_ite (hset _))

/-- The DLL enters a state (04, R115). -/
theorem dllTo (h : BankFrame l b ws s t) (hw : BNK_STAT b ∈ ws) (code : Nat) (hl : .regs ∈ l := by decide) (hc : .caps ∈ l := by decide) :
    BankFrame l b ws s (t.dllTo code b) :=
  h.trans ⟨State.dllTo_without (List.mem_cons_of_mem _ hl) (by simp) (List.mem_cons_of_mem _ hc) _ _ _,
    fun m hm => State.dllTo_bank _ _ (List.ne_of_not_mem_cons hm),
    fun m hm => State.dllsTo_cap t code (l := [b]) hm, fun a ha => State.dllTo_word _ _ (ne_of_mem_of_not_mem hw ha).symm⟩

end BankFrame

/-! ### Frames in the form of the statements -/

section
variable {b : Nat} {ws : List Nat} {s t : State}

theorem BankFrame.eq_regs (h : BankFrame [.regs] b ws s t) : t = { s with regs := t.regs, banks := t.banks } := State.eq_of_without h.rest

theorem BankFrame.eq_caps (h : BankFrame [.regs, .caps] b ws s t) : t = { s with regs := t.regs, banks := t.banks, caps := t.caps } :=
  State.eq_of_without h.rest

theorem BankFrame.eq_irq (h : BankFrame [.regs, .caps, .msixPend, .out] b ws s t) :
    t = { s with regs := t.regs, banks := t.banks, caps := t.caps, msixPend := t.msixPend, out := t.out } := State.eq_of_without h.rest

end

/-! ### The DLL enters a state (04, R115) -/

theorem State.dllTo_root (s : State) (code b m : Nat) : (s.dllTo code b).root m = s.root m :=
  State.root_of_without (s.dllTo_without (l := [.regs, .banks, .caps]) (by decide) (by decide) (by decide) code b) (by decide) m

theorem State.dllTo_counts (s : State) (code b : Nat) : (s.dllTo code b).bank b = { s.bank b with dllCnt := 0, dllLoss := 0 } := by
  rw [State.dllTo, State.bank_of_without (State.capClock_without (l := [.caps]) (by decide) _ _ _) (by decide), State.modBank_eq,
    State.setBank_bank, State.put_bank, State.put_bank]

theorem State.dllTo_lock (s : State) (code b : Nat) : (s.dllTo code b).bit (BNK_STAT_DLLLOCK b) = false := by
  rw [State.dllTo, State.bit_of_word (State.capClock_word _ _ _ _), State.modBank_eq, State.setBank_bit,
    State.put_bit _ (by simp [Ref.fits, BNK_STAT_DLLLOCK])]
  simp

/-- The fields of STAT beside DLLSTATE and DLLLOCK stay. -/
theorem State.dllTo_get_other (s : State) (code : Nat) {b : Nat} {q : Ref} (h : q.lo + q.len ≤ 2 ∨ 5 ≤ q.lo) :
    (s.dllTo code b).get q = s.get q := by
  rw [State.dllTo, State.get_of_word (State.capClock_word _ _ _ _), State.modBank_eq, State.setBank_get]
  rw [State.put_get_other _ (r := BNK_STAT_DLLLOCK b) (by simp [Ref.fits, BNK_STAT_DLLLOCK]) _ (by simp only [Ref.apart, BNK_STAT_DLLLOCK]; omega),
    State.put_get_other _ (r := BNK_STAT_DLLSTATE b) (by simp [Ref.fits, BNK_STAT_DLLSTATE]) _ (by simp only [Ref.apart, BNK_STAT_DLLSTATE]; omega)]

end Sys2Proof.Machine
end

section
/-! The comparisons of the bank DLL (04, R114 to R117; 10, R300). -/

namespace Sys2Proof.Machine

variable {s : State} {b e : Nat}

/-- A flag that is set raises an interrupt at most: its registers are those of the flag that is put. -/
theorem State.flag_bit_self (s : State) (v : Nat) {r : Ref} (hfit : r.fits) (hlen : r.len = 1) : (s.flag v r).bit r = true := by
  rw [State.bit, State.flag_get, State.put_get _ hfit, hlen]
  rfl

theorem State.flag_bank (s : State) (v : Nat) (r : Ref) (m : Nat) : (s.flag v r).bank m = s.bank m :=
  State.bank_of_without (State.flag_without (l := [.regs, .msixPend, .out]) (by decide) (by decide) (by decide) s v r) (by decide) m

/-! ### What every comparison shows -/

/-- A comparison shows the control code in use (04, R114) and ends a feed-forward change (R117). -/
def State.compared (s : State) (b : Nat) (e : Int) (cw : Nat) : State := ((s.put (BNK_DLLCW_CW b) cw).noteCw b cw).ffDone b e

theorem BankFrame.compared {l : List Part} {ws : List Nat} {t : State} (h : BankFrame l b ws s t) (hw : BNK_DLLCW b ∈ ws) (e : Int) (cw : Nat)
    (hl : .regs ∈ l := by decide) : BankFrame l b ws s (t.compared b e cw) := by
  unfold State.compared State.noteCw State.ffDone
  exact ((h.put (r := BNK_DLLCW_CW b) hw cw hl).modBank _).modBank _

theorem State.compared_frame (s : State) (b : Nat) (e : Int) (cw : Nat) : BankFrame [.regs] b [BNK_DLLCW b] s (s.compared b e cw) :=
  (BankFrame.refl _ _ _ s).compared (by simp) e cw

/-- The settings of the comparison, and the root of the bank, are in other registers. -/
theorem State.compared_get (s : State) (b : Nat) (e : Int) (cw : Nat) {r : Ref} (h : r.addr = BNK_DLLCFG b ∨ r.addr = BNK_STAT b) :
    (s.compared b e cw).get r = s.get r :=
  (s.compared_frame b e cw).get (by simp only [BNK_DLLCFG, BNK_STAT] at h; simp only [List.mem_singleton, BNK_DLLCW]; omega)

theorem State.compared_counts (s : State) (b : Nat) (e : Int) (cw : Nat) :
    ((s.compared b e cw).bank b).dllCnt = (s.bank b).dllCnt ∧ ((s.compared b e cw).bank b).dllLoss = (s.bank b).dllLoss := by
  simp [State.compared, State.noteCw, State.ffDone]

theorem State.put_dllcw (s : State) (b : Nat) (cw : BitVec 16) : (s.put (BNK_DLLCW_CW b) cw.toNat).get (BNK_DLLCW_CW b) = cw.toNat := by
  rw [State.put_get _ (by simp [Ref.fits, BNK_DLLCW_CW])]
  exact Nat.mod_eq_of_lt cw.isLt

theorem State.compared_cw (s : State) (b : Nat) (e : Int) (cw : BitVec 16) :
    (s.compared b e cw.toNat).get (BNK_DLLCW_CW b) = cw.toNat := by
  rw [State.compared, State.noteCw, State.ffDone, State.modBank_eq, State.modBank_eq, State.setBank_get, State.setBank_get, State.put_dllcw]

/-- A comparison by the state of the DLL. -/
theorem exec_dllComparison_count {b : Fin 8} (h : s.get (BNK_STAT_DLLSTATE b) = 2) (e : Int) (cw : BitVec 16) :
    exec (.dllComparison b e cw) s = .next (dllCount (s.compared b e cw.toNat) b (s.dllError b e)) := if_pos h

theorem exec_dllComparison_watch {b : Fin 8} (h : s.get (BNK_STAT_DLLSTATE b) = 3) (e : Int) (cw : BitVec 16) :
    exec (.dllComparison b e cw) s = .next (dllWatch (s.compared b e cw.toNat) b (s.dllError b e)) := by
  change execDllComparison b e cw s = _
  simp [execDllComparison, h, State.compared]

theorem exec_dllComparison_search {b : Fin 8} (h : s.get (BNK_STAT_DLLSTATE b) = 1) (e : Int) (cw : BitVec 16) :
    exec (.dllComparison b e cw) s = .next ((s.put (BNK_DLLCW_CW b) cw.toNat).noteCw b cw.toNat) := by
  change execDllComparison b e cw s = _
  simp [execDllComparison, h]

/-! ### The branches of a comparison in COUNT and in LOCKED -/

theorem dllCount_of_out (h : max 1 (s.get (BNK_DLLCFG_WIN b)) < e) : dllCount s b e = s.modBank b (fun x => { x with dllCnt := 0 }) :=
  if_pos h

/-- The DLL locks (04, R115). -/
def State.dllLocks (s : State) (b : Nat) : State :=
  ((s.put (BNK_STAT_DLLSTATE b) 3).put (BNK_STAT_DLLLOCK b) 1).modBank b (fun x => { x with dllCnt := 0, dllLoss := 0 })

theorem dllCount_of_last (h : e ≤ max 1 (s.get (BNK_DLLCFG_WIN b))) (hn : max 8 (s.get (BNK_DLLCFG_NLOCK b)) ≤ (s.bank b).dllCnt + 1) :
    dllCount s b e = s.dllLocks b :=
  (if_neg (Nat.not_lt.2 h)).trans (if_pos hn)

theorem dllCount_of_next (h : e ≤ max 1 (s.get (BNK_DLLCFG_WIN b))) (hn : (s.bank b).dllCnt + 1 < max 8 (s.get (BNK_DLLCFG_NLOCK b))) :
    dllCount s b e = s.modBank b (fun x => { x with dllCnt := (s.bank b).dllCnt + 1 }) :=
  (if_neg (Nat.not_lt.2 h)).trans (if_neg (Nat.not_le.2 hn))

theorem State.dllLocks_get (s : State) (b : Nat) :
    (s.dllLocks b).get (BNK_STAT_DLLSTATE b) = 3 ∧ (s.dllLocks b).bit (BNK_STAT_DLLLOCK b) = true := by
  simp (disch := (refine id ?_; simp [Ref.fits, Ref.apart, BNK_STAT_DLLSTATE, BNK_STAT_DLLLOCK]))
    only [State.dllLocks, State.modBank_eq, State.setBank_get, State.bit, State.put_get, State.put_get_other]
  exact ⟨rfl, rfl⟩

theorem BankFrame.dllLocks {l : List Part} {ws : List Nat} {t : State} (h : BankFrame l b ws s t) (hw : BNK_STAT b ∈ ws)
    (hl : .regs ∈ l := by decide) : BankFrame l b ws s (t.dllLocks b) :=
  ((h.put (r := BNK_STAT_DLLSTATE b) hw _ hl).put (r := BNK_STAT_DLLLOCK b) hw _ hl).modBank _

/-- The report of a loss: DLLLOL and its count. -/
def State.showDllLoss (s : State) (b : Nat) : State := (s.flagBnk b (BNK_FLAGS_DLLLOL b)).inc (BNK_DLLLOLCNT_COUNT b)

theorem BankFrame.showDllLoss {l : List Part} {ws : List Nat} {t : State} (h : BankFrame l b ws s t) (hf : BNK_FLAGS b ∈ ws)
    (hc : BNK_DLLLOLCNT b ∈ ws) (hl : .regs ∈ l := by decide) (hm : .msixPend ∈ l := by decide) (ho : .out ∈ l := by decide) :
    BankFrame l b ws s (t.showDllLoss b) :=
  (h.flag (r := BNK_FLAGS_DLLLOL b) hf _ hl hm ho).inc (r := BNK_DLLLOLCNT_COUNT b) hc hl

theorem State.showDllLoss_word (s : State) (b : Nat) : (s.showDllLoss b).word (BNK_STAT b) = s.word (BNK_STAT b) := by
  rw [State.showDllLoss, State.inc_eq, State.put_word_other _ _ (by simp [BNK_STAT, BNK_DLLLOLCNT_COUNT, BNK_DLLLOLCNT]), State.flagBnk,
    State.flag_word _ _ _ (by simp [BNK_STAT, BNK_FLAGS_DLLLOL, BNK_FLAGS])]

theorem State.showDllLoss_get (s : State) (b : Nat) : (s.showDllLoss b).bit (BNK_FLAGS_DLLLOL b) = true ∧
    (s.showDllLoss b).get (BNK_DLLLOLCNT_COUNT b) = min (s.get (BNK_DLLLOLCNT_COUNT b) + 1) (2 ^ (BNK_DLLLOLCNT_COUNT b).len - 1) := by
  simp (disch := (refine id ?_; simp [Ref.fits, Ref.apart, BNK_FLAGS_DLLLOL, BNK_FLAGS, BNK_DLLLOLCNT_COUNT, BNK_DLLLOLCNT]))
    only [State.showDllLoss, State.inc_eq, State.flagBnk, State.flag_get, State.bit, State.put_get, State.put_get_other]
  simp only [BNK_FLAGS_DLLLOL, BNK_DLLLOLCNT_COUNT]
  exact ⟨rfl, by omega⟩

/-- The loss count is complete: the DLL searches again, and reports the loss where its root has LOCK (04, R116). -/
theorem dllWatch_of_loss (h : 2 * max 1 (s.get (BNK_DLLCFG_WIN b)) < e) (hn : s.get (BNK_DLLCFG_LCNT b) ≤ (s.bank b).dllLoss) :
    dllWatch s b e = if (s.root (s.rootOf b)).lock then (s.dllTo 1 b).showDllLoss b else s.dllTo 1 b := by
  simp [dllWatch, h, hn, State.showDllLoss]

/-- The DLL searches again after a comparison. -/
def State.losesDll (s : State) (b : Nat) (e : Int) (cw : Nat) : State := (s.compared b e cw).dllTo 1 b

theorem BankFrame.losesDll {l : List Part} {ws : List Nat} {t : State} (h : BankFrame l b ws s t) (hw : BNK_DLLCW b ∈ ws) (hs : BNK_STAT b ∈ ws)
    (e : Int) (cw : Nat) (hl : .regs ∈ l := by decide) (hc : .caps ∈ l := by decide) : BankFrame l b ws s (t.losesDll b e cw) :=
  (h.compared hw e cw hl).dllTo hs 1 hl hc

theorem State.losesDll_get (s : State) (b : Nat) (e : Int) (cw : Nat) : (s.losesDll b e cw).bit (BNK_STAT_DLLLOCK b) = false ∧
    (s.losesDll b e cw).get (BNK_STAT_DLLSTATE b) = 1 ∧ (s.losesDll b e cw).bit (BNK_STAT_TAINT b) = s.bit (BNK_STAT_TAINT b) := by
  refine ⟨State.dllTo_lock _ 1 b, State.dllTo_state _ 1 b, ?_⟩
  rw [State.bit, State.losesDll, State.dllTo_get_other _ _ (by simp [BNK_STAT_TAINT]), s.compared_get _ _ _ (.inr rfl), State.bit]

/-- The comparison that completes the loss count. -/
theorem exec_dllComparison_loses {b : Fin 8} {e : Int} (h3 : s.get (BNK_STAT_DLLSTATE b) = 3)
    (hwin : 2 * max 1 (s.get (BNK_DLLCFG_WIN b)) < s.dllError b e) (hcnt : s.get (BNK_DLLCFG_LCNT b) ≤ (s.bank b).dllLoss) (cw : BitVec 16) :
    exec (.dllComparison b e cw) s =
      .next (if (s.root (s.rootOf b)).lock then (s.losesDll b e cw.toNat).showDllLoss b else s.losesDll b e cw.toNat) := by
  have hroot : (s.compared b e cw.toNat).rootOf b = s.rootOf b := s.compared_get b e _ (.inr rfl)
  have hwin' := s.compared_get b e cw.toNat (r := BNK_DLLCFG_WIN b) (.inl rfl)
  have hcnt' := s.compared_get b e cw.toNat (r := BNK_DLLCFG_LCNT b) (.inl rfl)
  rw [exec_dllComparison_watch h3, dllWatch_of_loss (by rwa [hwin']) (by rwa [hcnt', (s.compared_counts b e _).2]), hroot,
    (s.compared_frame b e _).root, State.losesDll]

end Sys2Proof.Machine
end

section
open Sys2Proof Sys2Proof.Machine

/-- Settles O13: the comparison that completes the loss count, by the LOCK of the root of the bank. -/
theorem dllComparisonReportsItsOwnLoss : Obligations.DllComparisonReportsItsOwnLoss := by
  unfold Obligations.DllComparisonReportsItsOwnLoss
  refine ⟨?own, ?explained⟩
  case own =>
    intro b e cw s h3 hwin hcnt hlock
    have hstep := exec_dllComparison_loses h3 hwin hcnt cw
    rw [if_pos hlock] at hstep
    obtain ⟨hlocked, hstate, htaint⟩ := s.losesDll_get b e cw.toNat
    have hsearch : BankFrame [.regs, .caps, .msixPend, .out] b [BNK_STAT b, BNK_DLLCW b] s (s.losesDll b e cw.toNat) :=
      (BankFrame.refl _ _ _ s).losesDll (by simp) (by simp) e _
    generalize s.losesDll b e cw.toNat = u at hstep hlocked hstate htaint hsearch
    have hframe : BankFrame [.regs, .caps, .msixPend, .out] b [BNK_STAT b, BNK_DLLCW b, BNK_FLAGS b, BNK_DLLLOLCNT b] s (u.showDllLoss b) :=
      (hsearch.mono (by simp)).showDllLoss (by simp) (by simp)
    have hstat := u.showDllLoss_word b
    obtain ⟨hlol, hcount⟩ := u.showDllLoss_get b
    rw [hsearch.get (r := BNK_DLLLOLCNT_COUNT b) (by simp [BNK_DLLLOLCNT_COUNT, BNK_DLLLOLCNT, BNK_STAT, BNK_DLLCW])] at hcount
    refine ⟨_, hstep, ?_, ?_, hlol, hcount, ?_, hframe.eq_irq, hframe.banks, hframe.caps, hframe.words⟩
    · rw [State.bit_of_word (r := BNK_STAT_DLLLOCK b) hstat, hlocked]
    · rw [State.get_of_word (r := BNK_STAT_DLLSTATE b) hstat, hstate]
    · rw [State.bit_of_word (r := BNK_STAT_TAINT b) hstat, htaint]
  case explained =>
    intro b e cw s h3 hwin hcnt hlock
    have hstep := exec_dllComparison_loses h3 hwin hcnt cw
    rw [if_neg (by simp [hlock])] at hstep
    obtain ⟨hlocked, hstate, htaint⟩ := s.losesDll_get b e cw.toNat
    have hframe : BankFrame [.regs, .caps] b [BNK_STAT b, BNK_DLLCW b] s (s.losesDll b e cw.toNat) :=
      (BankFrame.refl _ _ _ s).losesDll (by simp) (by simp) e _
    exact ⟨_, hstep, hlocked, hstate, htaint, hframe.eq_caps, hframe.banks, hframe.caps, hframe.words⟩

end

section
/-! O14: the search, the count and the lock of the bank DLL (04, R114, R115, R127). -/

namespace Sys2Proof.Machine

variable {s : State} {b : Nat}

/-- The end of the search shows its code, and the DLL counts (04, R114, R115). -/
theorem dllSearchDone_frame (s : State) (b cw : Nat) : BankFrame [.regs, .caps] b [BNK_STAT b, BNK_DLLCW b] s (dllSearchDone s b cw) :=
  ((BankFrame.refl _ _ _ s).dllTo (by simp) 2).put (r := BNK_DLLCW_CW b) (by simp [BNK_DLLCW_CW]) cw

theorem dllSearchDone_get (s : State) (b : Nat) (cw : BitVec 16) : (dllSearchDone s b cw.toNat).get (BNK_STAT_DLLSTATE b) = 2 ∧
    (dllSearchDone s b cw.toNat).get (BNK_DLLCW_CW b) = cw.toNat ∧ (dllSearchDone s b cw.toNat).bit (BNK_STAT_DLLLOCK b) = false := by
  have hstat : (dllSearchDone s b cw.toNat).word (BNK_STAT b) = (s.dllTo 2 b).word (BNK_STAT b) :=
    State.put_word_other _ _ (by simp [BNK_STAT, BNK_DLLCW_CW, BNK_DLLCW])
  exact ⟨(State.get_of_word (r := BNK_STAT_DLLSTATE b) hstat).trans (s.dllTo_state 2 b), State.put_dllcw _ b cw,
    (State.bit_of_word (r := BNK_STAT_DLLLOCK b) hstat).trans (s.dllTo_lock 2 b)⟩

/-- A timeout begins the search again, and is flagged (04, R115, R127). -/
theorem dllTimeout_frame (s : State) (b : Nat) : BankFrame [.regs, .caps, .msixPend, .out] b [BNK_STAT b, BNK_FLAGS b] s (dllTimeout s b) :=
  ((BankFrame.refl _ _ _ s).dllTo (by simp) 1).flag (r := BNK_FLAGS_DLLFAIL b) (by simp [BNK_FLAGS_DLLFAIL]) _

theorem dllTimeout_get (s : State) (b : Nat) :
    (dllTimeout s b).get (BNK_STAT_DLLSTATE b) = 1 ∧ (dllTimeout s b).bit (BNK_FLAGS_DLLFAIL b) = true := by
  have hstat : (dllTimeout s b).word (BNK_STAT b) = (s.dllTo 1 b).word (BNK_STAT b) :=
    State.flag_word _ _ _ (by simp [BNK_STAT, BNK_FLAGS_DLLFAIL, BNK_FLAGS])
  exact ⟨(State.get_of_word (r := BNK_STAT_DLLSTATE b) hstat).trans (s.dllTo_state 1 b), State.flag_bit_self _ _ (by simp [Ref.fits, BNK_FLAGS_DLLFAIL]) rfl⟩

theorem dllTimeout_count (s : State) (b : Nat) : ((dllTimeout s b).bank b).dllCnt = 0 := by
  rw [dllTimeout, State.flagBnk, State.flag_bank, State.dllTo_counts]

/-- Where the DLL counts, the settings of the comparison are those of the state before it. -/
theorem exec_dllComparison_out {b : Fin 8} {e : Int} (h : s.get (BNK_STAT_DLLSTATE b) = 2) (hwin : max 1 (s.get (BNK_DLLCFG_WIN b)) < s.dllError b e)
    (cw : BitVec 16) : exec (.dllComparison b e cw) s = .next ((s.compared b e cw.toNat).modBank b (fun x => { x with dllCnt := 0 })) := by
  rw [exec_dllComparison_count h, dllCount_of_out]
  rwa [s.compared_get b e _ (r := BNK_DLLCFG_WIN b) (.inl rfl)]

theorem exec_dllComparison_next {b : Fin 8} {e : Int} (h : s.get (BNK_STAT_DLLSTATE b) = 2) (hwin : s.dllError b e ≤ max 1 (s.get (BNK_DLLCFG_WIN b)))
    (hn : (s.bank b).dllCnt + 1 < max 8 (s.get (BNK_DLLCFG_NLOCK b))) (cw : BitVec 16) : exec (.dllComparison b e cw) s =
      .next ((s.compared b e cw.toNat).modBank b (fun x => { x with dllCnt := (s.bank b).dllCnt + 1 })) := by
  have hcnt := (s.compared_counts b e cw.toNat).1
  rw [exec_dllComparison_count h, dllCount_of_next, hcnt]
  · rwa [s.compared_get b e _ (r := BNK_DLLCFG_WIN b) (.inl rfl)]
  · rwa [s.compared_get b e _ (r := BNK_DLLCFG_NLOCK b) (.inl rfl), hcnt]

theorem exec_dllComparison_last {b : Fin 8} {e : Int} (h : s.get (BNK_STAT_DLLSTATE b) = 2) (hwin : s.dllError b e ≤ max 1 (s.get (BNK_DLLCFG_WIN b)))
    (hn : max 8 (s.get (BNK_DLLCFG_NLOCK b)) ≤ (s.bank b).dllCnt + 1) (cw : BitVec 16) :
    exec (.dllComparison b e cw) s = .next ((s.compared b e cw.toNat).dllLocks b) := by
  rw [exec_dllComparison_count h, dllCount_of_last]
  · rwa [s.compared_get b e _ (r := BNK_DLLCFG_WIN b) (.inl rfl)]
  · rwa [s.compared_get b e _ (r := BNK_DLLCFG_NLOCK b) (.inl rfl), (s.compared_counts b e _).1]

/-- A lock leaves the code as the comparison showed it. -/
theorem State.dllLocks_word (s : State) (b : Nat) : (s.dllLocks b).word (BNK_DLLCW b) = s.word (BNK_DLLCW b) :=
  ((BankFrame.refl [.regs] b [BNK_STAT b] s).dllLocks (by simp)).words _ (by simp [BNK_DLLCW, BNK_STAT])

end Sys2Proof.Machine
end

section
open Sys2Proof Sys2Proof.Machine

/-- Settles O14: each event is its guard and one operation on the bank. -/
theorem dllAcquires : Obligations.DllAcquires := by
  unfold Obligations.DllAcquires
  refine ⟨?searchDone, ?locks, ?counts, ?restarts, ?underTrial, ?timeout⟩
  case searchDone =>
    intro b cw s h
    obtain ⟨hstate, hcw, hlock⟩ := dllSearchDone_get s b cw
    have hframe := dllSearchDone_frame s b cw.toNat
    exact ⟨_, if_pos h, hstate, hcw, by rw [dllSearchDone, State.put_bank, State.dllTo_counts], hlock, hframe.eq_caps, hframe.banks, hframe.caps,
      hframe.words⟩
  case locks =>
    intro b e cw s h hwin hn
    obtain ⟨hstate, hlock⟩ := (s.compared b e cw.toNat).dllLocks_get b
    have hframe : BankFrame [.regs] b [BNK_STAT b, BNK_DLLCW b] s ((s.compared b e cw.toNat).dllLocks b) :=
      ((BankFrame.refl _ _ _ s).compared (by simp) e _).dllLocks (by simp)
    refine ⟨_, exec_dllComparison_last h hwin hn cw, hstate, hlock, ?_, hframe.eq_regs, hframe.banks, hframe.words⟩
    rw [State.get_of_word (r := BNK_DLLCW_CW b) (State.dllLocks_word _ b), s.compared_cw]
  case counts =>
    intro b e cw s h hwin hn
    have hframe := (s.compared_frame b e cw.toNat).modBank (fun x => { x with dllCnt := (s.bank b).dllCnt + 1 })
    refine ⟨_, exec_dllComparison_next h hwin hn cw, ?_, ?_, hframe.eq_regs, hframe.banks, hframe.words⟩
    · rw [State.modBank_eq, State.setBank_get, s.compared_get _ _ _ (.inr rfl), h]
    · rw [State.modBank_eq, State.setBank_bank]
  case restarts =>
    intro b e cw s h hwin
    have hframe := (s.compared_frame b e cw.toNat).modBank (fun x => { x with dllCnt := 0 })
    refine ⟨_, exec_dllComparison_out h hwin cw, ?_, ?_, hframe.eq_regs, hframe.banks, hframe.words⟩
    · rw [State.modBank_eq, State.setBank_get, s.compared_get _ _ _ (.inr rfl), h]
    · rw [State.modBank_eq, State.setBank_bank]
  case underTrial =>
    intro b e cw s h
    have hframe : BankFrame [.regs] b [BNK_DLLCW b] s ((s.put (BNK_DLLCW_CW b) cw.toNat).noteCw b cw.toNat) :=
      ((BankFrame.refl _ _ _ s).put (r := BNK_DLLCW_CW b) (by simp [BNK_DLLCW_CW]) _).modBank _
    refine ⟨_, exec_dllComparison_search h e cw, ?_, hframe.eq_regs, hframe.banks, hframe.words⟩
    rw [State.noteCw, State.modBank_eq, State.setBank_get, State.put_dllcw]
  case timeout =>
    intro b s h
    obtain ⟨hstate, hfail⟩ := dllTimeout_get s b
    have hframe := dllTimeout_frame s b
    exact ⟨_, if_pos h, hstate, hfail, dllTimeout_count s b, hframe.eq_irq, hframe.banks, hframe.caps, hframe.words⟩

end

section
/-! What firmware refits in a bank to the highest T-clock of its root (04, R119; 05, R145; 08, R230). -/

namespace Sys2Proof.Machine

variable {l : List Part} {s t : State} {n b : Nat}

/-! ### The highest T-clock follows from the root and its registers -/

/-- The registers of the root synthesisers. -/
def SameSynWords (s t : State) : Prop := ∀ a, 0x80000 ≤ a → a < 0x90000 → t.word a = s.word a

theorem SameSynWords.get (h : SameSynWords s t) {r : Ref} (h1 : 0x80000 ≤ r.addr) (h2 : r.addr < 0x90000) : t.get r = s.get r :=
  State.get_of_word (h _ h1 h2)

theorem SameSynWords.presetWord (h : SameSynWords s t) (hn : n < 4) {p : Nat} (hp : p < 16) : t.presetWord n p = s.presetWord n p := by
  have hlo : 0x80000 ≤ SYN_PWLO n p ∧ SYN_PWLO n p < 0x90000 := by simp only [SYN_PWLO]; omega
  have hhi : 0x80000 ≤ SYN_PWHI n p ∧ SYN_PWHI n p < 0x90000 := by simp only [SYN_PWHI]; omega
  rw [State.presetWord, State.presetWord, h.get (r := SYN_PWLO_FRAC n p) hlo.1 hlo.2, h.get (r := SYN_PWHI_FRACHI n p) hhi.1 hhi.2,
    h.get (r := SYN_PWHI_INT n p) hhi.1 hhi.2]

theorem SameSynWords.odiv (h : SameSynWords s t) (hn : n < 4) : t.get (SYN_CTRL_ODIV n) = s.get (SYN_CTRL_ODIV n) :=
  h.get (by simp only [SYN_CTRL_ODIV, SYN_CTRL]; omega) (by simp only [SYN_CTRL_ODIV, SYN_CTRL]; omega)

theorem SameSynWords.topWord (h : SameSynWords s t) (hroot : t.root n = s.root n) (hn : n < 4) : t.topWord n = s.topWord n := by
  have hss : 0x80000 ≤ SYN_SSCTRL n ∧ SYN_SSCTRL n < 0x90000 := by simp only [SYN_SSCTRL]; omega
  have hdev : 0x80000 ≤ SYN_SSDEV n ∧ SYN_SSDEV n < 0x90000 := by simp only [SYN_SSDEV]; omega
  have hpreset : (List.range 16).map (fun p => t.presetWord n p) = (List.range 16).map (fun p => s.presetWord n p) :=
    List.map_congr_left fun p hp => h.presetWord hn (List.mem_range.1 hp)
  have hen : t.bit (SYN_SSCTRL_EN n) = s.bit (SYN_SSCTRL_EN n) := State.bit_of_word (h _ hss.1 hss.2)
  have hcentre : t.bit (SYN_SSCTRL_CENTRE n) = s.bit (SYN_SSCTRL_CENTRE n) := State.bit_of_word (h _ hss.1 hss.2)
  simp only [State.topWord, State.baseInForce, State.rootState, hroot, hpreset, hen, hcentre, h.get (r := SYN_SSDEV_PPM n) hdev.1 hdev.2]
  rfl

theorem SameSynWords.topTicks (h : SameSynWords s t) (hroot : t.root n = s.root n) (hn : n < 4) (ps : Nat) : t.topTicks n ps = s.topTicks n ps := by
  have href : 0x80000 ≤ SYN_REF n ∧ SYN_REF n < 0x90000 := by simp only [SYN_REF]; omega
  have hfreq : 0x80000 ≤ SYN_REFFREQ n ∧ SYN_REFFREQ n < 0x90000 := by simp only [SYN_REFFREQ]; omega
  simp only [State.topTicks, State.fpdDen, State.fpdNum, h.topWord hroot hn, h.odiv hn, h.get (r := SYN_REFFREQ_KHZ n) hfreq.1 hfreq.2,
    h.get (r := SYN_REF_RMUL n) href.1 href.2, h.get (r := SYN_REF_PDIV n) href.1 href.2]

/-! ### A field that is fitted -/

theorem State.fit_get (s : State) {r : Ref} (hfit : r.fits) {v : Nat} (hv : v < 2 ^ r.len) : (s.fit r v).get r = v := by
  rw [State.fit]
  split
  next h => exact h
  next => rw [State.put_get _ hfit, Nat.mod_eq_of_lt hv]

theorem State.fit_word_other (s : State) {r : Ref} (v : Nat) {a : Nat} (h : a ≠ r.addr) : (s.fit r v).word a = s.word a := by
  rw [State.fit]
  split
  · rfl
  · exact State.put_word_other _ _ h

theorem BankFrame.fit {ws : List Nat} (h : BankFrame l b ws s t) {r : Ref} (hr : r.addr ∈ ws) (v : Nat) (hl : .regs ∈ l := by decide) :
    BankFrame l b ws s (t.fit r v) :=
  h.of_ite (h.put hr v hl)

/-! ### The channels of the bank -/

theorem BankFrame.refitChan {ws : List Nat} (h : BankFrame l b ws s t) (hsp : CH_MINSP n ∈ ws) (hsep : CH_SEPMIN n ∈ ws) (sp sep : Nat)
    (hl : .regs ∈ l := by decide) : BankFrame l b ws s (t.refitChan n sp sep) :=
  h.of_ite ((h.fit (r := CH_MINSP_TICKS n) hsp _ hl).fit (r := CH_SEPMIN_TICKS n) hsep _ hl)

theorem State.refitChan_word_other (s : State) {n a : Nat} (hsp : a ≠ CH_MINSP n) (hsep : a ≠ CH_SEPMIN n) (sp sep : Nat) :
    (s.refitChan n sp sep).word a = s.word a := by
  rw [State.refitChan]
  split
  · rfl
  · rw [State.fit_word_other _ _ hsep, State.fit_word_other _ _ hsp]

/-- The channel has the spacings that it is refitted to. -/
def State.refitted (s : State) (n sp sep : Nat) : Prop :=
  s.get (CH_MINSP_TICKS n) = min 65535 sp ∧ s.get (CH_SEPMIN_TICKS n) = min 65535 sep

theorem State.refitChan_refitted {s : State} (h : s.bit (CH_CTRL_LOCK n) = false) (sp sep : Nat) : (s.refitChan n sp sep).refitted n sp sep := by
  have hne : CH_MINSP n ≠ CH_SEPMIN n := by simp only [CH_MINSP, CH_SEPMIN]; omega
  rw [State.refitChan, if_neg (by simp [h])]
  constructor
  · rw [State.get_of_word (r := CH_MINSP_TICKS n) (State.fit_word_other _ (r := CH_SEPMIN_TICKS n) _ hne),
      State.fit_get _ (by simp [Ref.fits, CH_MINSP_TICKS]) (by simp only [CH_MINSP_TICKS]; omega)]
  · rw [State.fit_get _ (by simp [Ref.fits, CH_SEPMIN_TICKS]) (by simp only [CH_SEPMIN_TICKS]; omega)]

/-- The refit of another channel leaves it so. -/
theorem State.refitted_of_words {n sp sep : Nat} (hsp : t.word (CH_MINSP n) = s.word (CH_MINSP n)) (hsep : t.word (CH_SEPMIN n) = s.word (CH_SEPMIN n))
    (h : s.refitted n sp sep) : t.refitted n sp sep := by
  rwa [State.refitted, State.get_of_word (r := CH_MINSP_TICKS n) hsp, State.get_of_word (r := CH_SEPMIN_TICKS n) hsep]

theorem State.refitChan_refitted_other {n m sp sep : Nat} (h : s.refitted n sp sep) (hne : n ≠ m) : (s.refitChan m sp sep).refitted n sp sep := by
  refine State.refitted_of_words (s.refitChan_word_other ?_ ?_ sp sep) (s.refitChan_word_other ?_ ?_ sp sep) h <;>
    simp only [CH_MINSP, CH_SEPMIN] <;> omega

theorem State.refitChan_refitted_self {n sp sep : Nat} (h : s.refitted n sp sep) : (s.refitChan n sp sep).refitted n sp sep := by
  by_cases hlock : s.bit (CH_CTRL_LOCK n) = true
  · rwa [State.refitChan, if_pos hlock]
  · exact State.refitChan_refitted (Bool.eq_false_iff.2 hlock) sp sep

/-- The channels of a bank are refitted, each by its own LOCK. -/
def State.refitChans (s : State) (b sp sep : Nat) : State := s.each (List.range 64) (fun t i => t.refitChan (64 * b + i) sp sep)

theorem State.refitChans_word_other (s : State) {b a : Nat} (h : ∀ m, a ≠ CH_MINSP m ∧ a ≠ CH_SEPMIN m) (sp sep : Nat) :
    (s.refitChans b sp sep).word a = s.word a :=
  foldl_keeps (fun u => u.word a) (fun u _ _ => u.refitChan_word_other (h _).1 (h _).2 sp sep) s

theorem State.refitChans_refitted {s : State} {b i : Nat} (hi : i < 64) (h : s.bit (CH_CTRL_LOCK (64 * b + i)) = false) (sp sep : Nat) :
    (s.refitChans b sp sep).refitted (64 * b + i) sp sep := by
  rw [State.refitChans, State.each]
  refine foldl_reaches (P := fun u => u.refitted (64 * b + i) sp sep) (fun u => u.bit (CH_CTRL_LOCK (64 * b + i))) (List.mem_range.2 hi)
    (fun u x _ => ?_) (fun u hu => State.refitChan_refitted (hu.trans h) sp sep) fun u x hu => ?_
  · exact State.bit_of_word (r := CH_CTRL_LOCK (64 * b + i)) (u.refitChan_word_other
      (by simp only [CH_CTRL_LOCK, CH_CTRL, CH_MINSP]; omega) (by simp only [CH_CTRL_LOCK, CH_CTRL, CH_SEPMIN]; omega) sp sep)
  · by_cases hx : x = i
    · subst hx
      exact State.refitChan_refitted_self hu
    · exact State.refitChan_refitted_other hu (by omega)

/-! ### The bank -/

/-- GUARD for a root (04, R119). -/
def State.guardFor (s : State) (n : Nat) : Nat :=
  min 1023 ((8 * s.topWord n + 2 ^ 40 * max 1 (odivOf (s.get (SYN_CTRL_ODIV n))) - 1) / (2 ^ 40 * max 1 (odivOf (s.get (SYN_CTRL_ODIV n)))) + 64)

theorem SameSynWords.guardFor (h : SameSynWords s t) (hroot : t.root n = s.root n) (hn : n < 4) : t.guardFor n = s.guardFor n := by
  rw [State.guardFor, State.guardFor, h.topWord hroot hn, h.odiv hn]

theorem State.refitBank_eq (s : State) (n b : Nat) :
    s.refitBank n b = (s.fit (BNK_GUARD_CYC b) (s.guardFor n)).refitChans b (s.topTicks n 125) (s.topTicks n 600) := rfl

/-- The registers that a refit of the bank writes. -/
def refitRegs (b : Nat) : List Nat := BNK_GUARD b :: ((bankChans [b]).map CH_MINSP ++ (bankChans [b]).map CH_SEPMIN)

theorem mem_bankChans {b m : Nat} : m ∈ bankChans [b] ↔ ∃ i < 64, m = 64 * b + i := by
  simp [bankChans, eq_comm]

theorem mem_refitRegs {b n : Nat} (h : n ∈ bankChans [b]) : CH_MINSP n ∈ refitRegs b ∧ CH_SEPMIN n ∈ refitRegs b := by
  simp only [refitRegs, List.mem_cons, List.mem_append]
  exact ⟨.inr (.inl (List.mem_map_of_mem h)), .inr (.inr (List.mem_map_of_mem h))⟩

theorem BankFrame.refitChans {ws : List Nat} (h : BankFrame l b ws s t) (hw : refitRegs b ⊆ ws) (sp sep : Nat) (hl : .regs ∈ l := by decide) :
    BankFrame l b ws s (t.refitChans b sp sep) := by
  rw [State.refitChans, State.each]
  refine List.foldlRecOn _ _ h fun u hu i hi => ?_
  obtain ⟨hsp, hsep⟩ := mem_refitRegs (mem_bankChans.2 ⟨i, List.mem_range.1 hi, rfl⟩)
  exact hu.refitChan (hw hsp) (hw hsep) sp sep hl

theorem BankFrame.refitBank {ws : List Nat} (h : BankFrame l b ws s t) (hw : refitRegs b ⊆ ws) (n : Nat) (hl : .regs ∈ l := by decide) :
    BankFrame l b ws s (t.refitBank n b) := by
  rw [State.refitBank_eq]
  exact (h.fit (r := BNK_GUARD_CYC b) (hw List.mem_cons_self) _ hl).refitChans hw _ _ hl

/-- The channels' registers lie above those of the banks. -/
theorem State.refitChans_word_low (s : State) {a : Nat} (h : a < 0x200000) (b sp sep : Nat) : (s.refitChans b sp sep).word a = s.word a :=
  s.refitChans_word_other (fun m => ⟨by simp only [CH_MINSP]; omega, by simp only [CH_SEPMIN]; omega⟩) sp sep

theorem State.refitBank_guard (s : State) (n : Nat) {b : Nat} (hb : b < 8) : (s.refitBank n b).get (BNK_GUARD_CYC b) = s.guardFor n := by
  rw [State.refitBank_eq, State.get_of_word (r := BNK_GUARD_CYC b)
      (State.refitChans_word_low _ (by simp only [BNK_GUARD_CYC, BNK_GUARD]; omega) b _ _),
    State.fit_get _ (by simp [Ref.fits, BNK_GUARD_CYC]) (by simp only [State.guardFor, BNK_GUARD_CYC]; omega)]

theorem State.refitBank_word_low (s : State) (n : Nat) {b a : Nat} (h : a < 0x200000) (hne : a ≠ BNK_GUARD b) :
    (s.refitBank n b).word a = s.word a := by
  rw [State.refitBank_eq, State.refitChans_word_low _ h, State.fit_word_other _ _ hne]

theorem State.fit_bank (s : State) (r : Ref) (v m : Nat) : (s.fit r v).bank m = s.bank m := by
  rw [State.fit]
  split
  · rfl
  · exact State.put_bank _ _ _ _

theorem State.refitChan_bank (s : State) (n sp sep m : Nat) : (s.refitChan n sp sep).bank m = s.bank m := by
  rw [State.refitChan]
  split
  · rfl
  · rw [State.fit_bank, State.fit_bank]

theorem State.refitBank_bank (s : State) (n b m : Nat) : (s.refitBank n b).bank m = s.bank m := by
  rw [State.refitBank_eq]
  exact (foldl_keeps (fun u : State => u.bank m) (fun u _ _ => u.refitChan_bank _ _ _ m) _).trans (s.fit_bank _ _ m)

theorem State.refitBank_refitted {b n : Nat} (hn : n ∈ bankChans [b]) (hlock : s.bit (CH_CTRL_LOCK n) = false) (m : Nat) :
    (s.refitBank m b).refitted n (s.topTicks m 125) (s.topTicks m 600) := by
  obtain ⟨i, hi, rfl⟩ := mem_bankChans.1 hn
  rw [State.refitBank_eq]
  refine State.refitChans_refitted hi ?_ _ _
  rw [State.bit_of_word (r := CH_CTRL_LOCK (64 * b + i)) (State.fit_word_other _ _ ?_), hlock]
  simp only [CH_CTRL_LOCK, CH_CTRL, BNK_GUARD_CYC, BNK_GUARD]
  omega

end Sys2Proof.Machine
end

section
/-! Writes of BNKb_ROOT and BNKb_CUECTRL (04, R111; 06, R171). -/

namespace Sys2Proof.Machine

variable {s t : State}

/-! ### A write that asks for the value a field has -/

/-- A locked or unlocked RWL field keeps its value where the written word holds it (00, R11, R14). -/
theorem writeFields_same {fs : List FieldSpec} {lo len w m : Nat}
    (h : ∀ f ∈ fs, (lo + len ≤ f.lo ∨ f.lo + f.len ≤ lo) ∨ f.lo = lo ∧ f.len = len ∧ f.acc = .rwl) (hm : m / 2 ^ lo % 2 ^ len = 2 ^ len - 1)
    {old : Nat} (hw : w / 2 ^ lo % 2 ^ len = old / 2 ^ lo % 2 ^ len) (lk : Bool) :
    writeFields fs old w m lk / 2 ^ lo % 2 ^ len = old / 2 ^ lo % 2 ^ len := by
  induction fs generalizing old with
  | nil => rfl
  | cons f fs ih =>
    have hput : fieldPut old f.lo f.len (fieldWrite f old w m lk) / 2 ^ lo % 2 ^ len = old / 2 ^ lo % 2 ^ len := by
      rcases h f List.mem_cons_self with hf | ⟨rfl, rfl, hacc⟩
      · exact fieldPut_other hf
      · have hmerged : Nat.lor (Nat.land (old / 2 ^ f.lo % 2 ^ f.len) (2 ^ f.len - 1)) (Nat.land (old / 2 ^ f.lo % 2 ^ f.len) 0)
            = old / 2 ^ f.lo % 2 ^ f.len := by
          change (_ &&& (2 ^ f.len - 1)) ||| (_ &&& 0) = _
          simp
        rw [fieldPut_same, fieldWrite, hacc]
        simp only [hm, hw, Nat.sub_self, hmerged, ite_self, Nat.mod_mod]
    rw [writeFields, ih (fun g hg => h g (List.mem_cons_of_mem f hg)) (hw.trans hput.symm), hput]

/-- Of the fields of BNKb_ROOT, SEL is locked by LOCK and the others lie above it. -/
theorem fieldsAt_BNK_ROOT (b : Fin 8) : (∀ f ∈ fieldsAt (BNK_ROOT b),
    (0 + 2 ≤ f.lo ∨ f.lo + f.len ≤ 0) ∨ f.lo = 0 ∧ f.len = 2 ∧ f.acc = .rwl) ∧ ∀ f ∈ fieldsAt (BNK_ROOT b), f.lo + f.len ≤ 32 := by
  revert b
  decide

/-! ### The frame of a write -/

theorem State.writeReg_without {l : List Part} (hl : .regs ∈ l) (s : State) (a : Nat) (w : Word) (m : Nat) :
    (s.writeReg a w m).without l = s.without l := by
  unfold State.writeReg
  dsimp only
  split
  · rw [State.inc_eq, State.put_without hl, State.setWord_without hl]
  · exact State.setWord_without hl _ _ _

theorem State.writeReg_word (s : State) {a x : Nat} (h : x ∉ [a, GLB_LOCKVIOL]) (w : Word) (m : Nat) : (s.writeReg a w m).word x = s.word x :=
  (State.writeReg_frame [.regs] 0 s a w m).words x h

/-- Of the written register itself, what the count of a barred write leaves is what was written. -/
theorem State.writeReg_get {a : Nat} (h : a ≠ GLB_LOCKVIOL) {r : Ref} (hr : r.addr = a) (s : State) (w : Word) (m : Nat) :
    (s.writeReg a w m).get r = (s.setWord a (BitVec.ofNat 32 (writeFields (fieldsAt a) (s.word a).toNat w.toNat m (s.locked a)))).get r := by
  unfold State.writeReg
  dsimp only
  split
  · rw [State.inc_eq, State.get_of_word (State.put_word_other _ _ (hr ▸ h))]
  · rfl

/-! ### The root of a bank -/

/-- A write of BNKb_ROOT with SEL as it is leaves SEL. -/
theorem State.writeReg_root_sel (s : State) (b : Fin 8) (w : Word) :
    (s.writeReg (BNK_ROOT b) (BitVec.ofNat 32 (fieldPut w.toNat 0 2 (s.get (BNK_ROOT_SEL b)))) fullMask).get (BNK_ROOT_SEL b)
      = s.get (BNK_ROOT_SEL b) := by
  obtain ⟨hsel, h32⟩ := fieldsAt_BNK_ROOT b
  have hwritten : (BitVec.ofNat 32 (fieldPut w.toNat 0 2 (s.get (BNK_ROOT_SEL b)))).toNat / 2 ^ 0 % 2 ^ 2 = (s.word (BNK_ROOT b)).toNat / 2 ^ 0 % 2 ^ 2 := by
    rw [BitVec.toNat_ofNat, Nat.mod_eq_of_lt (fieldPut_lt w.isLt (by decide)), fieldPut_same]
    exact Nat.mod_mod _ _
  rw [State.writeReg_get (a := BNK_ROOT b) (by simp only [BNK_ROOT, GLB_LOCKVIOL]; omega) rfl]
  generalize BitVec.ofNat 32 (fieldPut w.toNat 0 2 (s.get (BNK_ROOT_SEL b))) = v at hwritten
  rw [State.get, State.get]
  simp only [BNK_ROOT_SEL, State.setWord_word, BitVec.toNat_ofNat, Nat.mod_eq_of_lt (writeFields_lt h32 (s.word (BNK_ROOT b)).isLt _ _ _)]
  exact writeFields_same hsel (by decide) hwritten _

/-- The write of BNKb_ROOT with SEL as it is, which every write of it makes first. -/
def State.rootWritten (s : State) (b : Nat) (w : Word) : State :=
  s.writeReg (BNK_ROOT b) (BitVec.ofNat 32 (fieldPut w.toNat 0 2 (s.get (BNK_ROOT_SEL b)))) fullMask

theorem State.bnkRootWrite_kept {b : Nat} {w : Word} (h : fld w 0 2 = s.get (BNK_ROOT_SEL b) ∨ s.bit (BNK_ROOT_LOCK b) = true) :
    s.bnkRootWrite b w = s.rootWritten b w :=
  if_pos h.symm

theorem State.bnkRootWrite_asked {b : Nat} {w : Word} (hlock : s.bit (BNK_ROOT_LOCK b) = false) (hsel : fld w 0 2 ≠ s.get (BNK_ROOT_SEL b)) :
    s.bnkRootWrite b w = if s.bankIdle b then (s.rootWritten b w).changeRoot b (fld w 0 2)
      else ((s.rootWritten b w).flagBnk b (BNK_FLAGS_ROOTREF b)).put (BNK_STAT_ROOTWHY b) 1 :=
  if_neg (by simp [hlock, hsel])

theorem exec_rootSelect_of_served {src : Source} {b : Fin 8} (h : s.rowServed src (BNK_ROOT b) true = true) (w : Word) :
    exec (.rootSelect src b w) s = .next (s.bnkRootWrite b w) :=
  congrArg Host.Outcome.next (State.rowWrite_of_served h w fun u => u.bnkRootWrite b w)

theorem State.rootWritten_regsOnly (s : State) (b : Nat) (w : Word) : RegsOnly [BNK_ROOT b, GLB_LOCKVIOL] s (s.rootWritten b w) :=
  ⟨State.eq_of_without_regs (s.writeReg_without (by decide) _ _ _), fun _ ha => s.writeReg_word ha _ _⟩

/-- A bank that is active refuses the root. -/
theorem State.rootRefused (s : State) (b : Fin 8) (w : Word) (t : State)
    (ht : t = ((s.rootWritten b w).flagBnk b (BNK_FLAGS_ROOTREF b)).put (BNK_STAT_ROOTWHY b) 1) :
    t.get (BNK_ROOT_SEL b) = s.get (BNK_ROOT_SEL b) ∧ t.get (BNK_STAT_ROOTACT b) = s.get (BNK_STAT_ROOTACT b) ∧
      t.bit (BNK_FLAGS_ROOTREF b) = true ∧ t.get (BNK_STAT_ROOTWHY b) = 1 ∧ RegsIrq [BNK_ROOT b, BNK_FLAGS b, BNK_STAT b, GLB_LOCKVIOL] s t := by
  subst ht
  have hstat : (s.rootWritten b w).get (BNK_STAT_ROOTACT b) = s.get (BNK_STAT_ROOTACT b) := by
    refine State.get_of_word (r := BNK_STAT_ROOTACT b) (s.writeReg_word ?_ _ _)
    simp only [BNK_STAT_ROOTACT, BNK_STAT, BNK_ROOT, GLB_LOCKVIOL, List.mem_cons, List.not_mem_nil, or_false]
    omega
  refine ⟨?_, ?_, ?_, ?_, State.eq_of_without (l := [.regs, .msixPend, .out]) ?_, fun a ha => ?_⟩
  · simp (disch := (refine id ?_; simp [Ref.fits, Ref.apart, BNK_STAT_ROOTWHY, BNK_FLAGS_ROOTREF, BNK_ROOT_SEL, BNK_STAT, BNK_FLAGS, BNK_ROOT]))
      only [State.flagBnk, State.flag_get, State.put_get_other]
    exact s.writeReg_root_sel b w
  · simp (disch := (refine id ?_; simp [Ref.fits, Ref.apart, BNK_STAT_ROOTWHY, BNK_FLAGS_ROOTREF, BNK_STAT_ROOTACT, BNK_STAT, BNK_FLAGS]))
      only [State.flagBnk, State.flag_get, State.put_get_other]
    exact hstat
  · rw [State.put_bit_other _ (by simp [Ref.fits, BNK_STAT_ROOTWHY]) _ (by simp [Ref.apart, BNK_STAT_ROOTWHY, BNK_FLAGS_ROOTREF, BNK_STAT, BNK_FLAGS])]
    exact State.flag_bit_self _ _ (by simp [Ref.fits, BNK_FLAGS_ROOTREF]) rfl
  · rw [State.put_get _ (by simp [Ref.fits, BNK_STAT_ROOTWHY])]
    rfl
  · rw [State.put_without (by decide), State.flagBnk, State.flag_without (by decide) (by decide) (by decide)]
    exact s.writeReg_without (by decide) _ _ _
  · simp only [List.mem_cons, List.not_mem_nil, or_false, not_or] at ha
    obtain ⟨hroot, hflags, hstat, hviol⟩ := ha
    rw [State.put_word_other _ _ hstat, State.flagBnk, State.flag_word _ _ _ hflags]
    exact s.writeReg_word (by simp [hroot, hviol]) _ _

/-! ### A wipe -/

theorem exec_wipe_of_served {src : Source} {b : Fin 8} (h : s.rowServed src (BNK_CUECTRL b) true = true) (w : Word) :
    exec (.wipe src b w) s = .next (s.cuectrlWrite b w) :=
  congrArg Host.Outcome.next (State.rowWrite_of_served h w fun u => u.cuectrlWrite b w)

theorem State.cuectrlWrite_idle {b : Nat} {w : Word} (hw : wbit w 8 = true) (hidle : s.bankIdle b = true) :
    s.cuectrlWrite b w = (s.writeReg (BNK_CUECTRL b) w fullMask).put (BNK_CUESTAT_WIPING b) 1 := by
  simp [State.cuectrlWrite, hw, hidle]

theorem State.cuectrlWrite_active {b : Nat} {w : Word} (hw : wbit w 8 = true) (hidle : s.bankIdle b = false) :
    s.cuectrlWrite b w = s.put (BNK_CUESTAT_WIPEREF b) 1 :=
  if_pos ⟨hw, hidle⟩

theorem State.cuectrlWrite_idle_regsOnly {b : Nat} {w : Word} (hw : wbit w 8 = true) (hidle : s.bankIdle b = true) :
    RegsOnly [BNK_CUECTRL b, BNK_CUESTAT b, GLB_LOCKVIOL] s (s.cuectrlWrite b w) := by
  rw [State.cuectrlWrite_idle hw hidle]
  refine ⟨State.eq_of_without_regs ?_, fun a ha => ?_⟩
  · rw [State.put_without (by decide), State.writeReg_without (by decide)]
  · simp only [List.mem_cons, List.not_mem_nil, or_false, not_or] at ha
    obtain ⟨hctrl, hstat, hviol⟩ := ha
    rw [State.put_word_other _ _ hstat, State.writeReg_word _ (by simp [hctrl, hviol])]

end Sys2Proof.Machine
end

section
/-! An accepted root change (04, R112, R115, R119), and O12. -/

namespace Sys2Proof.Machine

variable {l : List Part} {s t : State} {b : Nat} {ws : List Nat}

/-! ### The taint interval of one bank -/

theorem BankFrame.openTaint (h : BankFrame l b ws s t) (hw : taintRegs b ⊆ ws) (x : Nat) (hl : .regs ∈ l := by decide)
    (hm : .msixPend ∈ l := by decide) (ho : .out ∈ l := by decide) : BankFrame l b ws s (t.openTaint b x) :=
  h.trans ⟨State.openTaint_without (List.mem_cons_of_mem _ hl) (by simp) (List.mem_cons_of_mem _ hm) (List.mem_cons_of_mem _ ho) _ _ _,
    (State.openTaint_bank t b x).2,
    fun _ _ => State.cap_of_without (State.openTaint_without (l := [.regs, .banks, .msixPend, .out]) (by decide) (by decide) (by decide)
      (by decide) t b x) (by decide) _,
    fun _ ha => State.openTaint_word _ _ _ fun hm => ha (hw hm)⟩

theorem BankFrame.closeTaint (h : BankFrame l b ws s t) (hw : [BNK_STAT b, BNK_TCLOSELO b, BNK_TCLOSEHI b] ⊆ ws) (x : Nat)
    (hl : .regs ∈ l := by decide) : BankFrame l b ws s (t.closeTaint b x) :=
  h.trans ⟨State.closeTaint_without (List.mem_cons_of_mem _ hl) (by simp) _ _ _, (State.closeTaint_bank t b x).2.2,
    fun _ _ => State.cap_of_without (State.closeTaint_without (l := [.regs, .banks]) (by decide) (by decide) t b x) (by decide) _,
    fun _ ha => State.closeTaint_word _ _ _ fun hm => ha (hw hm)⟩

/-- An opening leaves the fields of STAT beside TAINT. -/
theorem State.openTaint_stat (s : State) {b : Nat} (x : Nat) {q : Ref} (ha : q.addr = BNK_STAT b) (hq : q.lo + q.len ≤ 5 ∨ 6 ≤ q.lo) :
    (s.openTaint b x).get q = s.get q := by
  have hput {r : Ref} (hr : r.addr ≠ BNK_STAT b) (u : State) (v : Nat) : (u.put r v).get q = u.get q :=
    State.get_of_word (State.put_word_other _ _ (ha ▸ hr.symm))
  simp (disch := (refine id ?_; simp [BNK_TAINTCNT_COUNT, BNK_TOPENLO_CNT, BNK_TOPENHI_CNT, BNK_TCLOSELO_CNT, BNK_TCLOSEHI_CNT, BNK_FLAGS_TOPENED,
      BNK_STAT, BNK_FLAGS, BNK_TAINTCNT, BNK_TOPENLO, BNK_TOPENHI, BNK_TCLOSELO, BNK_TCLOSEHI]))
    only [State.openTaint, State.inc_eq, State.flagBnk, State.putPair_eq, State.modBank_eq, State.setBank_get, State.flag_get, hput]
  exact State.put_get_other _ (by simp [Ref.fits, BNK_STAT_TAINT]) _ (.inr (by simp only [BNK_STAT_TAINT]; omega))

/-- An opening leaves the flags beside TOPENED. -/
theorem State.openTaint_dlllol (s : State) (b x : Nat) : (s.openTaint b x).bit (BNK_FLAGS_DLLLOL b) = s.bit (BNK_FLAGS_DLLLOL b) := by
  simp (disch := (refine id ?_; simp [Ref.fits, Ref.apart, BNK_STAT_TAINT, BNK_FLAGS_TOPENED, BNK_TAINTCNT_COUNT, BNK_TOPENLO_CNT, BNK_TOPENHI_CNT,
      BNK_TCLOSELO_CNT, BNK_TCLOSEHI_CNT, BNK_STAT, BNK_FLAGS, BNK_TAINTCNT, BNK_TOPENLO, BNK_TOPENHI, BNK_TCLOSELO, BNK_TCLOSEHI, BNK_FLAGS_DLLLOL]))
    only [State.openTaint, State.inc_eq, State.flagBnk, State.putPair_eq, State.modBank_eq, State.setBank_get, State.flag_get, State.bit,
      State.put_get_other]

theorem State.openTaint_past (s : State) (b x : Nat) : ((s.openTaint b x).bank b).past = (s.bank b).past := by
  simp [State.openTaint, State.flagBnk, State.flag_bank]

/-! ### Before the interval opens: the selection and the DLL -/

/-- The root `m` is in force in SEL and ROOTACT, and the DLL starts on it. -/
def State.takeRoot (s : State) (b m : Nat) : State :=
  ((((if s.bit (BNK_STAT_TAINT b) then s.closeTaint b (s.tbOf b) else s).put (BNK_ROOT_SEL b) m).put (BNK_STAT_ROOTACT b) m).put
    (BNK_STAT_ROOTWHY b) 0).dllTo (if (s.root m).tclk then 1 else 0) b |>.modBank b (fun y => { y with past := [] })

/-- The registers of the selection and of the interval that it closes. -/
def selectRegs (b : Nat) : List Nat := [BNK_ROOT b, BNK_STAT b, BNK_TCLOSELO b, BNK_TCLOSEHI b]

theorem BankFrame.takeRoot (h : BankFrame l b ws s t) (hw : selectRegs b ⊆ ws) (m : Nat) (hl : .regs ∈ l := by decide) (hc : .caps ∈ l := by decide) :
    BankFrame l b ws s (t.takeRoot b m) := by
  have hroot : BNK_ROOT b ∈ ws := hw (by simp [selectRegs])
  have hstat : BNK_STAT b ∈ ws := hw (by simp [selectRegs])
  have hclosed := (h.closeTaint (fun _ ha => hw (List.mem_cons_of_mem _ ha)) (t.tbOf b) hl).of_ite (c := t.bit (BNK_STAT_TAINT b) = true) h
  exact ((((hclosed.put (r := BNK_ROOT_SEL b) hroot m hl).put (r := BNK_STAT_ROOTACT b) hstat m hl).put (r := BNK_STAT_ROOTWHY b)
    hstat 0 hl).dllTo hstat _ hl hc).modBank _

theorem State.takeRoot_frame (s : State) (b m : Nat) : BankFrame [.regs, .caps] b (selectRegs b) s (s.takeRoot b m) :=
  (BankFrame.refl _ _ _ s).takeRoot (List.Subset.refl _) m

theorem State.takeRoot_past (s : State) (b m : Nat) : ((s.takeRoot b m).bank b).past = [] := by
  simp [State.takeRoot]

theorem State.takeRoot_lock (s : State) (b m : Nat) : (s.takeRoot b m).bit (BNK_STAT_DLLLOCK b) = false := by
  rw [State.takeRoot, State.modBank_eq, State.setBank_bit, State.dllTo_lock]

theorem State.takeRoot_rootact (s : State) (b : Nat) {m : Nat} (hm : m < 4) : (s.takeRoot b m).rootOf b = m := by
  rw [State.rootOf, State.takeRoot, State.modBank_eq, State.setBank_get, State.dllTo_get_other _ _ (.inr (by simp [BNK_STAT_ROOTACT])),
    State.put_get_other _ (by simp [Ref.fits, BNK_STAT_ROOTWHY]) _ (by simp [Ref.apart, BNK_STAT_ROOTWHY, BNK_STAT_ROOTACT]),
    State.put_get _ (by simp [Ref.fits, BNK_STAT_ROOTACT])]
  exact Nat.mod_eq_of_lt hm

theorem State.takeRoot_sel (s : State) (b : Nat) {m : Nat} (hm : m < 4) : (s.takeRoot b m).get (BNK_ROOT_SEL b) = m := by
  have hne : BNK_ROOT b ≠ BNK_STAT b := by simp only [BNK_ROOT, BNK_STAT]; omega
  rw [State.takeRoot, State.modBank_eq, State.setBank_get, State.get_of_word (r := BNK_ROOT_SEL b) (State.dllTo_word _ _ hne),
    State.get_of_word (r := BNK_ROOT_SEL b) (State.put_word_other _ (r := BNK_STAT_ROOTWHY b) _ hne),
    State.get_of_word (r := BNK_ROOT_SEL b) (State.put_word_other _ (r := BNK_STAT_ROOTACT b) _ hne),
    State.put_get _ (by simp [Ref.fits, BNK_ROOT_SEL])]
  exact Nat.mod_eq_of_lt hm

theorem State.takeRoot_state (s : State) (b m : Nat) : (s.takeRoot b m).get (BNK_STAT_DLLSTATE b) = if (s.root m).tclk then 1 else 0 := by
  rw [State.takeRoot, State.modBank_eq, State.setBank_get, State.dllTo_state]
  split <;> rfl

theorem State.takeRoot_dlllol (s : State) (b m : Nat) : (s.takeRoot b m).bit (BNK_FLAGS_DLLLOL b) = s.bit (BNK_FLAGS_DLLLOL b) :=
  (s.takeRoot_frame b m).bit (by
    simp only [BNK_FLAGS_DLLLOL, selectRegs, BNK_FLAGS, BNK_ROOT, BNK_STAT, BNK_TCLOSELO, BNK_TCLOSEHI, List.mem_cons, List.not_mem_nil, or_false]; omega)

theorem State.takeRoot_guardOf (s : State) (b m : Nat) : (s.takeRoot b m).guardOf b = s.guardOf b := by
  rw [State.guardOf, State.guardOf, (s.takeRoot_frame b m).get (r := BNK_GUARD_CYC b) (by
    simp only [BNK_GUARD_CYC, selectRegs, BNK_GUARD, BNK_ROOT, BNK_STAT, BNK_TCLOSELO, BNK_TCLOSEHI, List.mem_cons, List.not_mem_nil, or_false]; omega)]

theorem State.takeRoot_tbOf (s : State) (b : Nat) {m : Nat} (hm : m < 4) : (s.takeRoot b m).tbOf b = (s.root m).tb := by
  rw [State.tbOf, s.takeRoot_rootact b hm, (s.takeRoot_frame b m).root]

/-! ### The opening on the new timebase -/

/-- The bank on its new root, before firmware refits it. -/
def State.rootTaken (s : State) (b m : Nat) : State := (s.takeRoot b m).openTaint b ((s.takeRoot b m).tbOf b)

theorem State.changeRoot_eq (s : State) (b m : Nat) : s.changeRoot b m = (s.rootTaken b m).refitBank m b := rfl

theorem State.rootTaken_frame (s : State) (b m : Nat) :
    BankFrame [.regs, .caps, .msixPend, .out] b (BNK_ROOT b :: taintRegs b) s (s.rootTaken b m) := by
  have hselect : selectRegs b ⊆ BNK_ROOT b :: taintRegs b := by simp [selectRegs, taintRegs]
  exact ((BankFrame.refl _ _ _ s).takeRoot hselect m).openTaint (List.subset_cons_self _ _) _

theorem State.rootTaken_stat (s : State) (b m : Nat) {q : Ref} (ha : q.addr = BNK_STAT b) (hq : q.lo + q.len ≤ 5 ∨ 6 ≤ q.lo) :
    (s.rootTaken b m).get q = (s.takeRoot b m).get q :=
  State.openTaint_stat _ _ ha hq

theorem State.rootTaken_sel (s : State) (b : Nat) {m : Nat} (hm : m < 4) : (s.rootTaken b m).get (BNK_ROOT_SEL b) = m := by
  refine (State.get_of_word (r := BNK_ROOT_SEL b) (State.openTaint_word _ _ _ ?_)).trans (s.takeRoot_sel b hm)
  simp only [taintRegs, BNK_ROOT_SEL, BNK_ROOT, BNK_STAT, BNK_TAINTCNT, BNK_FLAGS, BNK_TOPENLO, BNK_TOPENHI, BNK_TCLOSELO, BNK_TCLOSEHI,
    List.mem_cons, List.not_mem_nil, or_false]
  omega

theorem State.rootTaken_bank (s : State) (b : Nat) {m : Nat} (hm : m < 4) :
    ((s.rootTaken b m).bank b).openAt = some ((s.root m).tb - s.guardOf b) ∧ ((s.rootTaken b m).bank b).past = [] := by
  rw [State.rootTaken, (State.openTaint_bank _ _ _).1, s.takeRoot_tbOf b hm, s.takeRoot_guardOf, State.openTaint_past]
  exact ⟨rfl, s.takeRoot_past b m⟩

theorem State.rootTaken_synWords (s : State) (b m : Nat) : SameSynWords s (s.rootTaken b m) := fun a h1 h2 =>
  (s.rootTaken_frame b m).words a (by
    simp only [taintRegs, BNK_ROOT, BNK_STAT, BNK_TAINTCNT, BNK_FLAGS, BNK_TOPENLO, BNK_TOPENHI, BNK_TCLOSELO, BNK_TCLOSEHI, List.mem_cons,
      List.not_mem_nil, or_false]
    omega)

/-! ### The bank is refitted -/

/-- The fields of STAT, SEL and DLLLOL are not what firmware refits. -/
theorem State.changeRoot_get (s : State) {b : Nat} (hb : b < 8) (m : Nat) {q : Ref} (ha : q.addr ∈ [BNK_ROOT b, BNK_STAT b, BNK_FLAGS b]) :
    (s.changeRoot b m).get q = (s.rootTaken b m).get q := by
  simp only [BNK_ROOT, BNK_STAT, BNK_FLAGS, List.mem_cons, List.not_mem_nil, or_false] at ha
  exact State.get_of_word (State.refitBank_word_low _ _ (by omega) (by simp only [BNK_GUARD]; omega))

theorem State.changeRoot_selected (s : State) {b m : Nat} (hb : b < 8) (hm : m < 4) :
    (s.changeRoot b m).get (BNK_ROOT_SEL b) = m ∧ (s.changeRoot b m).get (BNK_STAT_ROOTACT b) = m ∧
      (s.changeRoot b m).bit (BNK_STAT_DLLLOCK b) = false ∧ (s.changeRoot b m).get (BNK_STAT_DLLSTATE b) = (if (s.root m).tclk then 1 else 0) ∧
      (s.changeRoot b m).bit (BNK_STAT_TAINT b) = true ∧ (s.changeRoot b m).bit (BNK_FLAGS_DLLLOL b) = s.bit (BNK_FLAGS_DLLLOL b) := by
  have hstat {q : Ref} (ha : q.addr = BNK_STAT b) (hq : q.lo + q.len ≤ 5 ∨ 6 ≤ q.lo) : (s.changeRoot b m).get q = (s.takeRoot b m).get q :=
    (s.changeRoot_get hb m (by simp [ha])).trans (s.rootTaken_stat b m ha hq)
  have hlock : (s.changeRoot b m).get (BNK_STAT_DLLLOCK b) = (s.takeRoot b m).get (BNK_STAT_DLLLOCK b) := hstat rfl (.inl (by simp [BNK_STAT_DLLLOCK]))
  have htaint : (s.changeRoot b m).get (BNK_STAT_TAINT b) = (s.rootTaken b m).get (BNK_STAT_TAINT b) :=
    s.changeRoot_get hb m (by simp [BNK_STAT_TAINT])
  have hlol : (s.changeRoot b m).get (BNK_FLAGS_DLLLOL b) = (s.rootTaken b m).get (BNK_FLAGS_DLLLOL b) :=
    s.changeRoot_get hb m (by simp [BNK_FLAGS_DLLLOL])
  refine ⟨(s.changeRoot_get hb m (by simp [BNK_ROOT_SEL])).trans (s.rootTaken_sel b hm), ?_, ?_, ?_, ?_, ?_⟩
  · exact (hstat rfl (.inr (by simp [BNK_STAT_ROOTACT]))).trans (s.takeRoot_rootact b hm)
  · rw [State.bit, hlock]
    exact s.takeRoot_lock b m
  · exact (hstat rfl (.inl (by simp [BNK_STAT_DLLSTATE]))).trans (s.takeRoot_state b m)
  · rw [State.bit, htaint]
    exact (State.openTaint_get _ _ _).1
  · rw [State.bit, hlol]
    exact (State.openTaint_dlllol _ _ _).trans (s.takeRoot_dlllol b m)

theorem State.changeRoot_bank (s : State) (b : Nat) {m : Nat} (hm : m < 4) :
    ((s.changeRoot b m).bank b).openAt = some ((s.root m).tb - s.guardOf b) ∧ ((s.changeRoot b m).bank b).past = [] := by
  rw [State.changeRoot_eq, State.refitBank_bank]
  exact s.rootTaken_bank b hm

theorem State.changeRoot_guard (s : State) {b m : Nat} (hb : b < 8) (hm : m < 4) : (s.changeRoot b m).get (BNK_GUARD_CYC b) = s.guardFor m := by
  rw [State.changeRoot_eq, State.refitBank_guard _ _ hb]
  exact (s.rootTaken_synWords b m).guardFor ((s.rootTaken_frame b m).root m) hm

theorem State.changeRoot_refitted (s : State) {b m n : Nat} (hb : b < 8) (hm : m < 4) (hn : n ∈ bankChans [b])
    (hlock : s.bit (CH_CTRL_LOCK n) = false) : (s.changeRoot b m).refitted n (s.topTicks m 125) (s.topTicks m 600) := by
  have hroot := (s.rootTaken_frame b m).root m
  have hkept : (s.rootTaken b m).bit (CH_CTRL_LOCK n) = s.bit (CH_CTRL_LOCK n) := (s.rootTaken_frame b m).bit (by
    simp only [CH_CTRL_LOCK, CH_CTRL, taintRegs, BNK_ROOT, BNK_STAT, BNK_TAINTCNT, BNK_FLAGS, BNK_TOPENLO, BNK_TOPENHI, BNK_TCLOSELO,
      BNK_TCLOSEHI, List.mem_cons, List.not_mem_nil, or_false]
    omega)
  rw [State.changeRoot_eq, ← (s.rootTaken_synWords b m).topTicks hroot hm, ← (s.rootTaken_synWords b m).topTicks hroot hm]
  exact State.refitBank_refitted hn (hkept.trans hlock) m

theorem State.changeRoot_frame (s : State) (b m : Nat) :
    BankFrame [.regs, .caps, .msixPend, .out] b (BNK_ROOT b :: taintRegs b ++ refitRegs b) s (s.changeRoot b m) :=
  ((s.rootTaken_frame b m).mono (List.subset_append_left _ _)).refitBank (List.subset_append_right _ _) m

/-! ### The write before the change -/

theorem State.rootWritten_word (s : State) {b a : Nat} (ha : a ∉ [BNK_ROOT b, GLB_LOCKVIOL]) (w : Word) : (s.rootWritten b w).word a = s.word a :=
  s.writeReg_word ha _ _

theorem State.rootWritten_synWords (s : State) (b : Nat) (w : Word) : SameSynWords s (s.rootWritten b w) := fun a h1 h2 =>
  s.rootWritten_word (by simp only [BNK_ROOT, GLB_LOCKVIOL, List.mem_cons, List.not_mem_nil, or_false]; omega) w

theorem State.rootWritten_guardOf (s : State) (b : Nat) (w : Word) : (s.rootWritten b w).guardOf b = s.guardOf b := by
  rw [State.guardOf, State.guardOf, State.get_of_word (r := BNK_GUARD_CYC b) (s.rootWritten_word ?_ w)]
  simp only [BNK_GUARD_CYC, BNK_GUARD, BNK_ROOT, GLB_LOCKVIOL, List.mem_cons, List.not_mem_nil, or_false]
  omega

theorem State.rootWritten_dlllol (s : State) (b : Nat) (w : Word) : (s.rootWritten b w).bit (BNK_FLAGS_DLLLOL b) = s.bit (BNK_FLAGS_DLLLOL b) := by
  refine State.bit_of_word (r := BNK_FLAGS_DLLLOL b) (s.rootWritten_word ?_ w)
  simp only [BNK_FLAGS_DLLLOL, BNK_FLAGS, BNK_ROOT, GLB_LOCKVIOL, List.mem_cons, List.not_mem_nil, or_false]
  omega

theorem State.rootWritten_chanLock (s : State) {b : Nat} (hb : b < 8) (w : Word) (n : Nat) :
    (s.rootWritten b w).bit (CH_CTRL_LOCK n) = s.bit (CH_CTRL_LOCK n) := by
  refine State.bit_of_word (r := CH_CTRL_LOCK n) (s.rootWritten_word ?_ w)
  simp only [CH_CTRL_LOCK, CH_CTRL, BNK_ROOT, GLB_LOCKVIOL, List.mem_cons, List.not_mem_nil, or_false]
  omega

/-- What an accepted root change may write. -/
def rootRegs (b : Nat) : List Nat :=
  [BNK_ROOT b, GLB_LOCKVIOL, BNK_GUARD b, BNK_STAT b, BNK_TAINTCNT b, BNK_FLAGS b, BNK_TOPENLO b, BNK_TOPENHI b, BNK_TCLOSELO b, BNK_TCLOSEHI b] ++
    (bankChans [b]).map CH_MINSP ++ (bankChans [b]).map CH_SEPMIN

theorem subset_rootRegs (b : Nat) : BNK_ROOT b :: taintRegs b ++ refitRegs b ⊆ rootRegs b := by
  intro a ha
  simp only [taintRegs, refitRegs, rootRegs, List.mem_append, List.mem_cons, List.not_mem_nil, or_false] at ha ⊢
  tauto

theorem State.rootChanged_frame (s : State) (b : Nat) (w : Word) (m : Nat) :
    BankFrame [.regs, .caps, .msixPend, .out] b (rootRegs b) s ((s.rootWritten b w).changeRoot b m) :=
  ((BankFrame.refl _ _ _ s).writeReg (a := BNK_ROOT b) (by simp [rootRegs]) (by simp [rootRegs]) _ _).trans
    (((s.rootWritten b w).changeRoot_frame b m).mono (subset_rootRegs b))

end Sys2Proof.Machine
end

section
open Sys2Proof Sys2Proof.Machine

/-- Settles O12: every write of BNKb_ROOT first writes the register with SEL as it is, so that the selection turns on what follows; an
accepted change selects the root, restarts the DLL, opens the interval on the new timebase and then refits the bank, and of these steps
each keeps the fields that the ones before it have set. -/
theorem rootSelectionAsksForAnIdleBank : Obligations.RootSelectionAsksForAnIdleBank := by
  refine ⟨?idle, ?active, ?kept, ?wipe, ?wipeActive⟩
  case idle =>
    intro src b w s hserved hlock hsel hidle
    have hm : fld w 0 2 < 4 := Nat.mod_lt _ (by decide)
    have hstep := exec_rootSelect_of_served hserved w
    rw [State.bnkRootWrite_asked hlock hsel, if_pos hidle] at hstep
    have hroot : (s.rootWritten b w).root (fld w 0 2) = s.root (fld w 0 2) := State.writeReg_root _ _ _ _ _
    have hsyn := s.rootWritten_synWords b w
    have hframe := s.rootChanged_frame b w (fld w 0 2)
    obtain ⟨hsel, hact, hdll, hstate, htaint, hlol⟩ := (s.rootWritten b w).changeRoot_selected b.isLt hm
    obtain ⟨hopen, hpast⟩ := (s.rootWritten b w).changeRoot_bank b hm
    rw [hroot] at hstate
    rw [hroot, s.rootWritten_guardOf] at hopen
    refine ⟨_, hstep, hsel, hact, hdll, hstate, htaint, hopen, hpast, ?guard, ?spacings, hlol.trans (s.rootWritten_dlllol b w), hframe.eq_irq,
      hframe.banks, hframe.caps, hframe.words⟩
    case guard => exact (State.changeRoot_guard _ b.isLt hm).trans (hsyn.guardFor hroot hm)
    case spacings =>
      intro n hn hunlocked
      rw [← hsyn.topTicks hroot hm, ← hsyn.topTicks hroot hm]
      exact State.changeRoot_refitted _ b.isLt hm hn ((s.rootWritten_chanLock b.isLt w n).trans hunlocked)
  case active =>
    intro src b w s hserved hlock hsel hidle
    have hstep := exec_rootSelect_of_served hserved w
    rw [State.bnkRootWrite_asked hlock hsel, if_neg (by simp [hidle])] at hstep
    exact ⟨_, hstep, State.rootRefused s b w _ rfl⟩
  case kept =>
    intro src b w s hserved hkept
    have hstep := exec_rootSelect_of_served hserved w
    rw [State.bnkRootWrite_kept hkept] at hstep
    exact ⟨_, hstep, s.writeReg_root_sel b w, s.rootWritten_regsOnly b w⟩
  case wipe =>
    intro src b w s hserved hw hidle
    have hregs := State.cuectrlWrite_idle_regsOnly hw hidle
    refine ⟨_, exec_wipe_of_served hserved w, ?_, ?_, hregs⟩
    · rw [State.cuectrlWrite_idle hw hidle, State.put_bit _ (by simp [Ref.fits, BNK_CUESTAT_WIPING])]
      rfl
    · refine State.bit_of_word (r := BNK_FLAGS_DLLLOL b) (hregs.2 _ ?_)
      simp only [BNK_FLAGS_DLLLOL, BNK_FLAGS, BNK_CUECTRL, BNK_CUESTAT, GLB_LOCKVIOL, List.mem_cons, List.not_mem_nil, or_false]
      omega
  case wipeActive =>
    intro src b w s hserved hw hactive
    have hstep := exec_wipe_of_served hserved w
    rw [State.cuectrlWrite_active hw hactive] at hstep
    refine ⟨_, hstep, ?_, ?_, State.eq_of_without_regs (State.put_without (by decide) _ _ _), fun a ha => ?_⟩
    · rw [State.put_bit _ (by simp [Ref.fits, BNK_CUESTAT_WIPEREF])]
      rfl
    · exact State.put_bit_other _ (by simp [Ref.fits, BNK_CUESTAT_WIPEREF]) _ (.inr (by simp [BNK_CUESTAT_WIPEREF, BNK_CUESTAT_WIPING]))
    · exact State.put_word_other _ _ (List.ne_of_not_mem_cons ha)

end

section
/-! A timing command leaves its source: the queues of its hubs, and refusals at the source (06, R175, R184, R192, R507). -/

namespace Sys2Proof.Machine

variable {l : List Part}

/-- A timing command as it leaves its source. -/
def State.newOp (s : State) (g : Nat) (src : Src) (cmd : TCmd) : GOp :=
  { id := (s.group g).nextId, cmd := cmd, src := src, waiting := s.memberBanks g, checked := false, refused := none, ces := 0, voids := 0,
    data := [], effect := 0, finished := false, epoch := 0, doneAt := 0 }

/-- An item joins the queue of one hub. -/
def State.toHub (i : HubItem) (s : State) (b : Nat) : State := s.modBank b (fun y => { y with cueq := y.cueq ++ [i] })

/-- A timing command joins those of its group, and the queue of every member hub. -/
def State.queueTiming (s : State) (g : Nat) (src : Src) (cmd : TCmd) : State :=
  (s.memberBanks g).foldl (State.toHub (.cmd g (s.group g).nextId))
    (s.setGroup g { s.group g with ops := (s.group g).ops ++ [s.newOp g src cmd], nextId := (s.group g).nextId + 1 })

theorem State.issueTiming_queues {s : State} {g : Nat} {src : Src} (ho : src.isFlow = true → s.bit (GRP_STAT_OWNED g) = false)
    (hm : s.members g ≠ []) (cmd : TCmd) : s.issueTiming g src cmd = s.queueTiming g src cmd := by
  have howned : ¬ (src.isFlow = true ∧ s.bit (GRP_STAT_OWNED g) = true) := fun h => by simp [ho h.1] at h
  have hmembers : ¬ (s.members g).isEmpty = true := by simpa using hm
  rw [State.issueTiming, if_neg howned, if_neg hmembers]
  rfl

theorem State.issueTiming_owned {s : State} {g f c : Nat} (ho : s.bit (GRP_STAT_OWNED g) = true) (cmd : TCmd) :
    s.issueTiming g (.flow f c) cmd = s.refuseAtSource g (.flow f c) Code.PORT_OWNED := by
  rw [State.issueTiming, if_pos ⟨rfl, ho⟩]

theorem State.issueTiming_empty {s : State} {g : Nat} {src : Src} (ho : src.isFlow = true → s.bit (GRP_STAT_OWNED g) = false)
    (hm : s.members g = []) (cmd : TCmd) : s.issueTiming g src cmd = s.refuseAtSource g src Code.NO_MEMBERS := by
  have howned : ¬ (src.isFlow = true ∧ s.bit (GRP_STAT_OWNED g) = true) := fun h => by simp [ho h.1] at h
  rw [State.issueTiming, if_neg howned, if_pos (by rw [hm]; rfl)]

/-! ### The queues -/

theorem State.toHub_without (hb : .banks ∈ l) (i : HubItem) (s : State) (b : Nat) : (State.toHub i s b).without l = s.without l := by
  rw [State.toHub, State.modBank_eq, State.setBank_without hb]

theorem State.toHubs_without (hb : .banks ∈ l) (i : HubItem) (bs : List Nat) (s : State) :
    (bs.foldl (State.toHub i) s).without l = s.without l :=
  foldl_keeps _ (fun u b _ => State.toHub_without hb i u b) s

/-- An item that goes to different hubs stands last in the queue of each, and in no other. -/
theorem State.toHubs_cueq (i : HubItem) {bs : List Nat} (h : bs.Nodup) (s : State) (b : Nat) :
    ((bs.foldl (State.toHub i) s).bank b).cueq = (s.bank b).cueq ++ if b ∈ bs then [i] else [] := by
  induction bs generalizing s with
  | nil => simp
  | cons x bs ih =>
    obtain ⟨hx, hbs⟩ := List.nodup_cons.1 h
    rw [List.foldl_cons, ih hbs, State.toHub, State.modBank_eq]
    by_cases hb : b = x
    · subst hb
      simp [hx]
    · simp [State.setBank_bank_other _ _ hb, hb]

theorem State.memberBanks_nodup (s : State) (g : Nat) : (s.memberBanks g).Nodup := List.nodup_range.filter _

theorem State.queueTiming_without (hg : .groups ∈ l) (hb : .banks ∈ l) (s : State) (g : Nat) (src : Src) (cmd : TCmd) :
    (s.queueTiming g src cmd).without l = s.without l := by
  rw [State.queueTiming, State.toHubs_without hb, State.setGroup_without hg]

theorem State.queueTiming_group (s : State) (g : Nat) (src : Src) (cmd : TCmd) (m : Nat) : (s.queueTiming g src cmd).group m =
    (s.setGroup g { s.group g with ops := (s.group g).ops ++ [s.newOp g src cmd], nextId := (s.group g).nextId + 1 }).group m :=
  State.group_of_without (State.toHubs_without (l := [.banks]) (by decide) _ _ _) (by decide) m

theorem State.queueTiming_ops (s : State) (g : Nat) (src : Src) (cmd : TCmd) :
    ((s.queueTiming g src cmd).group g).ops = (s.group g).ops ++ [s.newOp g src cmd] := by
  rw [State.queueTiming_group, State.setGroup_group]

theorem State.queueTiming_sameGroups (s : State) (g : Nat) (src : Src) (cmd : TCmd) : SameGroups [g] s (s.queueTiming g src cmd) := fun m hm => by
  rw [State.queueTiming_group, State.setGroup_group_other _ _ (List.ne_of_not_mem_cons hm)]

theorem State.queueTiming_cueq (s : State) (g : Nat) (src : Src) (cmd : TCmd) (b : Nat) : ((s.queueTiming g src cmd).bank b).cueq =
    (s.bank b).cueq ++ if b ∈ s.memberBanks g then [.cmd g (s.group g).nextId] else [] := by
  rw [State.queueTiming, State.toHubs_cueq _ (s.memberBanks_nodup g), State.setGroup_bank]

/-! ### Refusals at the source -/

theorem fits_GRP_CUEREF (g : Nat) : (GRP_CUEREF_COUNT g).fits := by simp [Ref.fits, GRP_CUEREF_COUNT]
theorem fits_GRP_LASTREF (g : Nat) : (GRP_LASTREF_WHY g).fits := by simp [Ref.fits, GRP_LASTREF_WHY]

theorem GRP_CUEREF_ne_LASTREF (g : Nat) : GRP_CUEREF g ≠ GRP_LASTREF g := by
  simp only [GRP_CUEREF, GRP_LASTREF]
  omega

theorem State.noteRefusal_of_why {code w : Nat} (h : refWhy code = some w) (s : State) (g : Nat) :
    s.noteRefusal g code = (s.inc (GRP_CUEREF_COUNT g)).put (GRP_LASTREF_WHY g) w := by
  rw [State.noteRefusal, h]

/-- A refusal touches the two registers of its group that show it. -/
theorem State.noteRefusal_word (s : State) (g code : Nat) {a : Nat} (h : a ∉ [GRP_LASTREF g, GRP_CUEREF g]) :
    (s.noteRefusal g code).word a = s.word a := by
  obtain ⟨hl, hc⟩ : a ≠ GRP_LASTREF g ∧ a ≠ GRP_CUEREF g := by simpa using h
  have hlast (u : State) (v : Nat) : (u.put (GRP_LASTREF_WHY g) v).word a = u.word a := u.put_word_other v hl
  have hcount (u : State) (v : Nat) : (u.put (GRP_CUEREF_COUNT g) v).word a = u.word a := u.put_word_other v hc
  simp only [State.noteRefusal, State.inc_eq]
  split
  · rw [hlast, hcount]
  · rw [State.draw_word, hlast, hcount]

/-- It counts, whatever its code. -/
theorem State.noteRefusal_count (s : State) (g code : Nat) :
    (s.noteRefusal g code).get (GRP_CUEREF_COUNT g) = min (s.get (GRP_CUEREF_COUNT g) + 1) (2 ^ (GRP_CUEREF_COUNT g).len - 1) := by
  have hlast (u : State) (v : Nat) : (u.put (GRP_LASTREF_WHY g) v).get (GRP_CUEREF_COUNT g) = u.get (GRP_CUEREF_COUNT g) :=
    State.get_of_word (u.put_word_other v (GRP_CUEREF_ne_LASTREF g))
  have hcount : (s.inc (GRP_CUEREF_COUNT g)).get (GRP_CUEREF_COUNT g) = min (s.get (GRP_CUEREF_COUNT g) + 1) (2 ^ (GRP_CUEREF_COUNT g).len - 1) := by
    rw [State.inc_eq, State.put_get _ (fits_GRP_CUEREF g), Nat.mod_eq_of_lt]
    simp only [GRP_CUEREF_COUNT]
    omega
  rw [← hcount, State.noteRefusal]
  split
  · rw [hlast]
  · rw [State.draw_get, hlast]

theorem State.noteRefusal_why {code w : Nat} (h : refWhy code = some w) (hw : w < 16) (s : State) (g : Nat) :
    (s.noteRefusal g code).get (GRP_LASTREF_WHY g) = w := by
  rw [State.noteRefusal_of_why h, State.put_get _ (fits_GRP_LASTREF g)]
  simp only [GRP_LASTREF_WHY]
  omega

theorem State.noteRefusal_without {code w : Nat} (h : refWhy code = some w) (hr : .regs ∈ l) (s : State) (g : Nat) :
    (s.noteRefusal g code).without l = s.without l := by
  rw [State.noteRefusal_of_why h, State.inc_eq, State.put_without hr, State.put_without hr]

theorem State.noteRefusal_members (s : State) (g code k : Nat) : (s.noteRefusal g code).members k = s.members k :=
  State.members_of_word (fun n => s.noteRefusal_word g code (by simp [CH_GRP, GRP_LASTREF, GRP_CUEREF]; omega)) k

theorem State.noteRefusal_epoch (s : State) (g code k : Nat) :
    (s.noteRefusal g code).get (GRP_EPOCH_EPOCH k) = s.get (GRP_EPOCH_EPOCH k) :=
  State.get_of_word (s.noteRefusal_word g code (by simp [GRP_EPOCH_EPOCH, GRP_EPOCH, GRP_LASTREF, GRP_CUEREF]; omega))

end Sys2Proof.Machine
end

section
/-! A command that a core has begins and finishes; what its flow then holds (14, R423, R426). -/

namespace Sys2Proof.Machine

variable {l : List Part} {s u : State} {f c op : Nat} {a b : List Cmd} {k : Cmd}

theorem State.flows_of_without {t : State} (h : t.without l = s.without l) (hp : .flows ∉ l) : t.flows = s.flows := by
  simpa [State.without, hp] using congrArg State.flows h

/-- The flow holds x where it held the command that runs. -/
def State.withCmd (s : State) (f : Nat) (a b : List Cmd) (x : Cmd) : State := s.setFlow f { s.flow f with cmds := a ++ x :: b }

/-- The effect of the command that runs has begun. -/
def State.begun (s : State) (f : Nat) (a b : List Cmd) (k : Cmd) : State := s.withCmd f a b { k with st := .started }

/-- A change of the command with one number, in a list where no other has it. -/
theorem map_of_id {a b : List Cmd} {x : Cmd} (hids : ∀ q ∈ a ++ b, q.id ≠ x.id) (p : Cmd → Prop) [DecidablePred p] (g : Cmd → Cmd) :
    (a ++ x :: b).map (fun q => if q.id = x.id ∧ p q then g q else q) = a ++ (if p x then g x else x) :: b := by
  have hkeep {m : List Cmd} (hm : ∀ q ∈ m, q.id ≠ x.id) : m.map (fun q => if q.id = x.id ∧ p q then g q else q) = m :=
    (List.map_congr_left fun q hq => if_neg fun h => hm q hq h.1).trans m.map_id
  rw [List.map_append, List.map_cons, hkeep fun q hq => hids q (List.mem_append_left _ hq), hkeep fun q hq => hids q (List.mem_append_right _ hq)]
  simp

theorem Runs.running (h : Runs s f c op a b k) : s.running? f c op = some k := by
  obtain ⟨hcmds, hids, hid, hst, -, hop⟩ := h
  have hbefore : a.find? (fun q => q.id == c && q.st == .running && entOp q.entry == op) = none :=
    List.find?_eq_none.2 fun q hq => by simp [hids q (List.mem_append_left _ hq)]
  rw [State.running?, hcmds, List.find?_append, hbefore, List.find?_cons_of_pos (by simp [hid, hst, hop])]
  rfl

theorem Runs.begins (h : Runs s f c op a b k) (g : Nat → State → State) : s.runCmd f c op g = g k.entry (s.begun f a b k) := by
  have hrun := h.running
  obtain ⟨hcmds, hids, rfl, -⟩ := h
  have hmap := map_of_id hids (fun _ => True) (fun y => { y with st := .started })
  simp only [and_true, ↓reduceIte] at hmap
  rw [State.runCmd, hrun, State.modCmd, State.modFlow_eq, hcmds, hmap]
  rfl

theorem State.withCmd_flow (s : State) (f : Nat) (a b : List Cmd) (x : Cmd) : (s.withCmd f a b x).flow f = { s.flow f with cmds := a ++ x :: b } :=
  State.setFlow_flow _ _ _

theorem State.withCmd_without (hf : .flows ∈ l) (s : State) (f : Nat) (a b : List Cmd) (x : Cmd) : (s.withCmd f a b x).without l = s.without l :=
  State.setFlow_without hf _ _ _

theorem State.begun_without (hf : .flows ∈ l) (s : State) (f : Nat) (a b : List Cmd) (k : Cmd) : (s.begun f a b k).without l = s.without l :=
  State.withCmd_without hf _ _ _ _ _

theorem State.finishCmd_without (hf : .flows ∈ l) (s : State) (f c code : Nat) (taint data : Bool) (aux res : Nat) :
    (s.finishCmd f c code taint data aux res).without l = s.without l := by
  rw [State.finishCmd, State.modFlow_eq, State.setFlow_without hf]

theorem cmdNow_withCmd (s : State) (f : Nat) (a b : List Cmd) (x : Cmd) : CmdNow s (s.withCmd f a b x) f a b x :=
  ⟨s.withCmd_flow f a b x, fun _ hm => State.setFlow_flow_other _ _ (List.ne_of_not_mem_cons hm)⟩

/-- What leaves the flows alone leaves the command where it stands. -/
theorem CmdNow.of_flows {x : Cmd} (h : CmdNow s u f a b x) {t : State} (ht : t.flows = u.flows) : CmdNow s t f a b x := by
  have hflow (m : Nat) : t.flow m = u.flow m := congrArg (tabGet Flow.init · m) ht
  exact ⟨(hflow f).trans h.1, fun m hm => (hflow m).trans (h.2 m hm)⟩

/-- A command whose effect has begun finishes. -/
theorem Runs.finishes (h : Runs s f c op a b k) (hu : u.flows = (s.begun f a b k).flows) (code : Nat) (taint data : Bool) (aux res : Nat) :
    CmdNow s (u.finishCmd f c code taint data aux res) f a b (k.done code taint data aux res) := by
  obtain ⟨-, hids, rfl, -, horphan, -⟩ := h
  obtain ⟨hflow, hother⟩ := (cmdNow_withCmd s f a b { k with st := .started }).of_flows hu
  have hkeep : (a ++ { k with st := .started } :: b).filter (fun q => !(q.id == k.id && q.orphan)) = a ++ { k with st := .started } :: b := by
    refine List.filter_eq_self.2 fun q hq => ?_
    rcases List.mem_append.1 hq with hq | hq
    · simp [hids q (List.mem_append_left _ hq)]
    · rcases List.mem_cons.1 hq with rfl | hq
      · simp [horphan]
      · simp [hids q (List.mem_append_right _ hq)]
  have hmap := map_of_id (x := { k with st := .started }) hids (fun q => q.st ≠ .finished)
    (fun q => { q with st := .finished, code := code, taint := taint, data := data, aux := aux, res := res })
  rw [if_pos (by simp)] at hmap
  rw [State.finishCmd, State.modFlow_eq, hflow]
  refine ⟨?_, fun m hm => (State.setFlow_flow_other _ _ (List.ne_of_not_mem_cons hm)).trans (hother m hm)⟩
  rw [State.setFlow_flow]
  exact congrArg (fun y => { s.flow f with cmds := y }) ((congrArg _ hkeep).trans hmap)

/-- A command that finishes as it begins changes its flow alone. -/
theorem Runs.finishes_now (h : Runs s f c op a b k) (code : Nat) (taint data : Bool) (aux res : Nat) :
    CmdNow s ((s.begun f a b k).finishCmd f c code taint data aux res) f a b (k.done code taint data aux res) ∧
      (s.begun f a b k).finishCmd f c code taint data aux res = { s with flows := ((s.begun f a b k).finishCmd f c code taint data aux res).flows } :=
  ⟨h.finishes rfl _ _ _ _ _, State.eq_of_without (l := [.flows])
    ((State.finishCmd_without (by decide) _ _ _ _ _ _ _ _).trans (s.begun_without (by decide) f a b k))⟩

theorem Runs.fails (h : Runs s f c op a b k) (code : Nat) : CmdNow s ((s.begun f a b k).failCmd f c code) f a b (k.done code false false 0 0) ∧
    (s.begun f a b k).failCmd f c code = { s with flows := ((s.begun f a b k).failCmd f c code).flows } :=
  h.finishes_now code false false 0 0

end Sys2Proof.Machine
end

section
/-! The timing commands of the mailbox (06, R175, R184; 14, R429, R430). -/

namespace Sys2Proof.Machine

variable {s : State} {f c op : Nat} {a b : List Cmd} {k : Cmd} {ok : Nat → Bool} {cmd : State → Nat → TCmd}

/-- The group that a timing command names. -/
abbrev Cmd.timingGroup (k : Cmd) : Nat := ent k.entry 20 2

theorem State.begun_members (s : State) (f : Nat) (a b : List Cmd) (k : Cmd) (g : Nat) : (s.begun f a b k).members g = s.members g :=
  State.members_of_word (fun _ => rfl) g

theorem State.begun_memberBanks (s : State) (f : Nat) (a b : List Cmd) (k : Cmd) (g : Nat) :
    (s.begun f a b k).memberBanks g = s.memberBanks g := State.memberBanks_of_word (fun _ => rfl) g

theorem State.begun_newOp (s : State) (f : Nat) (a b : List Cmd) (k : Cmd) (g : Nat) (src : Src) (x : TCmd) :
    (s.begun f a b k).newOp g src x = s.newOp g src x := by
  rw [State.newOp, State.begun_memberBanks]
  rfl

theorem State.begun_leadCount (s : State) (f : Nat) (a b : List Cmd) (k : Cmd) (g : Nat) :
    (s.begun f a b k).tbOf ((s.begun f a b k).leadBank g) = s.tbOf (s.leadBank g) := by
  rw [State.leadBank, State.begun_memberBanks]
  rfl

/-! ### A command that goes to its group -/

theorem Runs.mbxTiming_issues (h : Runs s f c op a b k) (hg : k.timingGroup < 64) (hok : ok k.entry = true) :
    s.mbxTiming f c op ok cmd
      = (s.begun f a b k).issueTiming k.timingGroup (.flow f c) (cmd (s.begun f a b k) k.entry) := by
  rw [State.mbxTiming, h.begins, if_neg]
  rw [hok]
  exact not_or.2 ⟨Nat.not_le.2 hg, Bool.noConfusion⟩

/-- What a timing command that starts leaves. -/
theorem Runs.mbxTiming_queues (h : Runs s f c op a b k) (hg : k.timingGroup < 64) (ho : s.bit (GRP_STAT_OWNED k.timingGroup) = false)
    (hm : s.members k.timingGroup ≠ []) (hok : ok k.entry = true) {x : TCmd} (hx : cmd (s.begun f a b k) k.entry = x) :
    ∃ t, Host.Outcome.next (s.mbxTiming f c op ok cmd) = (.next t : Host.Outcome State Fault Refusal) ∧
      (t.group k.timingGroup).ops = (s.group k.timingGroup).ops ++ [s.newOp k.timingGroup (.flow f c) x] ∧
      (∀ i : Fin 8, (t.bank i).cueq = (s.bank i).cueq ++
        (if i.val ∈ s.memberBanks k.timingGroup then [.cmd k.timingGroup (s.group k.timingGroup).nextId] else [])) ∧
      CmdNow s t f a b { k with st := .started } ∧ t = { s with flows := t.flows, groups := t.groups, banks := t.banks } ∧
      SameGroups [k.timingGroup] s t := by
  rw [h.mbxTiming_issues hg hok, hx,
    State.issueTiming_queues (s := s.begun f a b k) (fun _ => ho) (fun h => hm ((s.begun_members f a b k _).symm.trans h))]
  have hframe : ((s.begun f a b k).queueTiming k.timingGroup (.flow f c) x).without [.groups, .banks] = (s.begun f a b k).without [.groups, .banks] :=
    State.queueTiming_without (by decide) (by decide) _ _ _ _
  have hflows : ((s.begun f a b k).queueTiming k.timingGroup (.flow f c) x).flows = (s.begun f a b k).flows :=
    State.flows_of_without hframe (by decide)
  refine ⟨_, rfl, ?_, fun i => ?_, (cmdNow_withCmd s f a b _).of_flows hflows, ?_, ?_⟩
  · rw [State.queueTiming_ops, State.begun_newOp]
    rfl
  · rw [State.queueTiming_cueq, State.begun_memberBanks]
    rfl
  · exact State.eq_of_without (l := [.flows, .groups, .banks])
      ((State.queueTiming_without (by decide) (by decide) _ _ _ _).trans (s.begun_without (by decide) f a b k))
  · exact (s.begun f a b k).queueTiming_sameGroups _ _ _

/-! ### A command that is refused -/

theorem Runs.mbxTiming_badParam (h : Runs s f c op a b k) (hbad : 64 ≤ k.timingGroup ∨ ok k.entry = false) :
    s.mbxTiming f c op ok cmd = (s.begun f a b k).failCmd f c Code.BAD_PARAM := by
  rw [State.mbxTiming, h.begins, if_pos hbad]

theorem State.refuseAtSource_flow (s : State) (g f c code : Nat) : s.refuseAtSource g (.flow f c) code =
    (s.noteRefusal g code).finishCmd f c code false false ((s.members g).length % 1024 * 64) (s.get (GRP_EPOCH_EPOCH g) * 2 ^ 48) := by
  rw [← s.noteRefusal_members g code g, ← s.noteRefusal_epoch g code g, State.refuseAtSource, State.deliver, State.compOf]
  simp

/-- What a timing command that its source refuses leaves. -/
theorem Runs.mbxTiming_refused (h : Runs s f c op a b k) {code w : Nat} (hcode : refWhy code = some w) (hw : w < 16)
    (href : s.mbxTiming f c op ok cmd = (s.begun f a b k).refuseAtSource k.timingGroup (.flow f c) code) :
    ∃ t, Host.Outcome.next (s.mbxTiming f c op ok cmd) = (.next t : Host.Outcome State Fault Refusal) ∧
      CmdNow s t f a b (k.done code false false ((s.members k.timingGroup).length % 1024 * 64) (s.get (GRP_EPOCH_EPOCH k.timingGroup) * 2 ^ 48)) ∧
      t.get (GRP_LASTREF_WHY k.timingGroup) = w ∧
      t.get (GRP_CUEREF_COUNT k.timingGroup)
        = min (s.get (GRP_CUEREF_COUNT k.timingGroup) + 1) (2 ^ (GRP_CUEREF_COUNT k.timingGroup).len - 1) ∧
      t = { s with regs := t.regs, flows := t.flows } ∧ SameWords [GRP_LASTREF k.timingGroup, GRP_CUEREF k.timingGroup] s t := by
  rw [href, State.refuseAtSource_flow, State.begun_members]
  have hnoted := State.noteRefusal_without (l := [.regs]) hcode (by decide) (s.begun f a b k) k.timingGroup
  have hflows : ((s.begun f a b k).noteRefusal k.timingGroup code).flows = (s.begun f a b k).flows :=
    State.flows_of_without hnoted (by decide)
  refine ⟨_, rfl, h.finishes hflows _ _ _ _ _, ?_, ?_, ?_, fun x hx => ?_⟩
  · rw [State.get_of_word (State.finishCmd_word _ _ _ _ _ _ _ _ _), State.noteRefusal_why hcode hw]
  · rw [State.get_of_word (State.finishCmd_word _ _ _ _ _ _ _ _ _), State.noteRefusal_count]
    rfl
  · exact State.eq_of_without (l := [.regs, .flows]) ((State.finishCmd_without (by decide) _ _ _ _ _ _ _ _).trans
      ((State.noteRefusal_without hcode (by decide) _ _).trans (s.begun_without (by decide) f a b k)))
  · rw [State.finishCmd_word, State.noteRefusal_word _ _ _ hx]
    rfl

/-- The timing commands of the mailbox, with the check of the parameters of each. -/
def timingCommands (f : Fin 64) (c e : Nat) : List (Instr × Nat × Bool) :=
  [(.cue f c, 0x0110, cueOk e), (.pcue f c, 0x0111, cueOk e), (.commit f c, 0x0112, flagOk e), (.cancel f c, 0x0113, true),
    (.start f c, 0x0114, flagOk e), (.stop f c, 0x0115, flagOk e)]

/-- Each of them is one command for its group. -/
theorem exec_timingCommand {f : Fin 64} {c e : Nat} {q : Instr × Nat × Bool} (hq : q ∈ timingCommands f c e) :
    ∃ ok cmd, ok e = q.2.2 ∧ ∀ s, exec q.1 s = .next (s.mbxTiming f c q.2.1 ok cmd) := by
  simp only [timingCommands, List.mem_cons, List.not_mem_nil, or_false] at hq
  obtain rfl | rfl | rfl | rfl | rfl | rfl := hq
  · exact ⟨_, _, rfl, fun _ => rfl⟩
  · exact ⟨_, _, rfl, fun _ => rfl⟩
  · exact ⟨_, _, rfl, fun _ => rfl⟩
  · exact ⟨fun _ => true, _, rfl, fun _ => rfl⟩
  · exact ⟨_, _, rfl, fun _ => rfl⟩
  · exact ⟨_, _, rfl, fun _ => rfl⟩

end Sys2Proof.Machine
end

section
open Sys2Proof Sys2Proof.Machine

/-- Settles O36: a timing command begins, and then queues at its hubs or finishes with the refusal of its source. -/
theorem mailboxTimingCommands : Obligations.MailboxTimingCommands := by
  unfold Obligations.MailboxTimingCommands
  refine ⟨?cue, ?pcue, ?commit, ?cancel, ?startAt, ?startIn, ?stop, ?badParam, ?owned, ?empty⟩
  case cue =>
    intro f c a b k s h hg ho hm hslot hctx
    exact h.mbxTiming_queues hg ho hm (decide_eq_true ⟨hslot, hctx⟩) rfl
  case pcue =>
    intro f c a b k s h hg ho hm hslot hctx
    exact h.mbxTiming_queues hg ho hm (decide_eq_true ⟨hslot, hctx⟩) rfl
  case commit =>
    intro f c a b k s h hg ho hm hflag
    exact h.mbxTiming_queues hg ho hm (decide_eq_true hflag) rfl
  case cancel =>
    intro f c a b k s h hg ho hm
    exact h.mbxTiming_queues (ok := fun _ => true) hg ho hm rfl rfl
  case startAt =>
    intro f c a b k s h hg ho hm hrel
    have hflag : flagOk k.entry = true := decide_eq_true (by omega)
    exact h.mbxTiming_queues hg ho hm hflag (by rw [if_neg (by omega)])
  case startIn =>
    intro f c a b k s h hg ho hm hrel
    have hflag : flagOk k.entry = true := decide_eq_true (by omega)
    exact h.mbxTiming_queues hg ho hm hflag (by rw [if_pos hrel, State.begun_leadCount])
  case stop =>
    intro f c a b k s h hg ho hm hflag
    exact h.mbxTiming_queues hg ho hm (decide_eq_true hflag) rfl
  case badParam =>
    intro f c a b k s op h q hq hop hbad
    obtain ⟨ok, cmd, hok, hexec⟩ := exec_timingCommand hq
    subst hop
    rw [hexec, h.mbxTiming_badParam (hok ▸ hbad)]
    exact ⟨_, rfl, h.fails _⟩
  case owned =>
    intro f c a b k s op h hg ho q hq hop hpar
    obtain ⟨ok, cmd, hok, hexec⟩ := exec_timingCommand hq
    subst hop
    rw [hexec]
    refine h.mbxTiming_refused rfl (by decide) ?_
    rw [h.mbxTiming_issues hg (hok.trans hpar), State.issueTiming_owned (s := s.begun f a b k) ho]
  case empty =>
    intro f c a b k s op h hg ho hm q hq hop hpar
    obtain ⟨ok, cmd, hok, hexec⟩ := exec_timingCommand hq
    subst hop
    have hnone : (s.members k.timingGroup).length % 1024 * 64 = 0 := by rw [hm]; rfl
    rw [hexec, ← hnone]
    refine h.mbxTiming_refused rfl (by decide) ?_
    rw [h.mbxTiming_issues hg (hok.trans hpar), State.issueTiming_empty (s := s.begun f a b k) (fun _ => ho) ((s.begun_members f a b k _).trans hm)]

end

section
/-! What a port has taken in: the item at the head, and what becomes of items with no row of their own (07, R210, R214, R215). -/

namespace Sys2Proof.Machine

variable {l : List Part} {s w : State} {p v code : Nat} {rest : List TspItem}

theorem State.tsps_of_without {s t : State} (h : t.without l = s.without l) (hp : .tsps ∉ l) : t.tsps = s.tsps := by
  simpa [State.without, hp] using congrArg State.tsps h

theorem State.tsps_without (ht : .tsps ∈ l) (s : State) (x : Tab Tsp) : ({ s with tsps := x }).without l = s.without l := by
  simp [State.without, ht]

theorem State.tsp_of_tsps {s t : State} (h : t.tsps = s.tsps) (n : Nat) : t.tsp n = s.tsp n := congrArg (tabGet Tsp.init · n) h

/-! ### The head of the queue -/

theorem State.popInbox_eq (s : State) (p : Nat) : s.popInbox p = s.setTsp p { s.tsp p with inbox := (s.tsp p).inbox.drop 1 } := by
  rw [State.popInbox, State.modTsp_eq]

theorem State.popInbox_tsp {i : TspItem} (h : (s.tsp p).inbox = i :: rest) : (s.popInbox p).tsp p = { s.tsp p with inbox := rest } := by
  rw [State.popInbox_eq, State.setTsp_tsp, h]
  rfl

theorem State.popInbox_sameTsps (s : State) (p : Nat) : SameTsps [p] s (s.popInbox p) := fun m hm => by
  rw [State.popInbox_eq, State.setTsp_tsp_other _ _ (List.ne_of_not_mem_cons hm)]

theorem State.popInbox_without (ht : .tsps ∈ l) (s : State) (p : Nat) : (s.popInbox p).without l = s.without l := by
  rw [State.popInbox_eq, State.setTsp_without ht]

theorem State.frontCmd_of_head (h : (s.tsp p).inbox = .cmd v :: rest) {op : Nat} (hop : cmdOp v = op) : s.frontCmd p op = some v := by
  rw [State.frontCmd, h]
  exact if_pos hop

/-! ### Answers by the port -/

/-- The RESULT record of a command that the port answers itself (07, R212). -/
def State.answerRecord (s : State) (v code : Nat) : Nat :=
  resultRecord 0x01 (cmdGroup v) false (cmdTag v) (s.get (GRP_EPOCH_EPOCH (cmdGroup v))) code (completionBody 0 (s.members (cmdGroup v)).length 0 0)

theorem State.portAnswer_eq (s : State) (p v code : Nat) : s.portAnswer p v code = s.pushResult p (s.answerRecord v code) := rfl

theorem State.portAnswer_without (hr : .regs ∈ l) (ht : .tsps ∈ l) (he : .ep ∈ l) (hm : .msixPend ∈ l) (ho : .out ∈ l) (s : State) (p v code : Nat) :
    (s.portAnswer p v code).without l = s.without l := s.pushResult_without hr ht he hm ho p _

theorem State.portAnswer_word (s : State) (p v code : Nat) {a : Nat} (h : apartFromRecords a) : (s.portAnswer p v code).word a = s.word a :=
  s.pushResult_word p _ h.1 (h.2 p).1 (h.2 p).2

/-- A port in UP or RECOVER with room in its queue takes the record. -/
theorem State.portAnswer_of_room (hl : 4 ≤ s.lstate p) (hlen : (s.tsp p).results.length < 4096) (v code : Nat) :
    s.portAnswer p v code = s.setTsp p { s.tsp p with results := (s.tsp p).results ++ [s.answerRecord v code] } := by
  have hup : ¬ s.get (TSP_STAT_LSTATE p) < 4 := Nat.not_lt.2 hl
  rw [State.portAnswer_eq, State.pushResult, if_neg hup, if_pos hlen, State.modTsp_eq]

/-- Whatever becomes of the record, the port keeps what it has taken in. -/
theorem State.portAnswer_inbox (s : State) (p v code : Nat) : ((s.portAnswer p v code).tsp p).inbox = (s.tsp p).inbox := by
  have hdrop : (s.dropRecords p 1).tsps = s.tsps := State.tsps_of_without (s.dropRecords_without (l := [.regs, .ep, .msixPend, .out])
    (by decide) (by decide) (by decide) (by decide) p 1) (by decide)
  have hlog (u : State) (kind unit cycle detail : Nat) : (u.log kind unit cycle detail).tsps = u.tsps := State.tsps_of_without
    (u.log_without (l := [.regs, .ep, .msixPend, .out]) (by decide) (by decide) (by decide) (by decide) kind unit cycle detail) (by decide)
  have hep (u : State) (x : Ep) : State.tsp { u with ep := x } p = u.tsp p := rfl
  simp only [State.portAnswer_eq, State.pushResult, State.modTsp_eq]
  split_ifs
  · rw [State.tsp_of_tsps hdrop]
  · rw [State.setTsp_tsp]
  · rw [State.tsp_of_tsps (hlog _ _ _ _ _), hep, State.tsp_of_tsps hdrop]

theorem State.badCmd_without (hr : .regs ∈ l) (hm : .msixPend ∈ l) (ho : .out ∈ l) (s : State) (p : Nat) : (s.badCmd p).without l = s.without l := by
  rw [State.badCmd, State.flagTsp, State.flag_without hr hm ho, State.inc_eq, State.put_without hr]

theorem State.badCmd_word (s : State) (p : Nat) {a : Nat} (h : apartFromRecords a) (hb : a ≠ TSP_BADCMD p) : (s.badCmd p).word a = s.word a := by
  rw [State.badCmd, State.flagTsp, State.flag_word _ _ _ (h.2 p).2, State.inc_eq, State.put_word_other _ _ hb]

/-! ### Items with no row -/

/-- What an item with no row, a pop, an answer and the count of a bad command all keep, the rest of the items keeps. -/
theorem State.drainBad_keeps {β : Type} (φ : State → β) (p : Nat) (hpop : ∀ u x, φ (u.setTsp p x) = φ u) (hbad : ∀ u, φ (u.badCmd p) = φ u)
    (hans : ∀ u v code, φ (u.portAnswer p v code) = φ u) (k : Nat) (s : State) : φ (s.drainBad p k) = φ s := by
  induction k generalizing s with
  | zero => rfl
  | succ k ih =>
    rw [State.drainBad]
    split
    case h_1 v rest _ =>
      dsimp only
      split_ifs
      · rfl
      · rw [ih, hans, hbad, State.modTsp_eq, hpop]
      · rw [ih, hans, State.modTsp_eq, hpop]
    case h_2 v rest _ =>
      split_ifs
      · rfl
      · rw [ih, State.modTsp_eq, hpop]
    case h_3 => rfl

theorem State.settle_without (hr : .regs ∈ l) (ht : .tsps ∈ l) (he : .ep ∈ l) (hm : .msixPend ∈ l) (ho : .out ∈ l) (s : State) (p : Nat) :
    (s.settle p).without l = s.without l :=
  State.drainBad_keeps (State.without l) p (fun u x => u.setTsp_without ht p x) (fun u => u.badCmd_without hr hm ho p)
    (fun u v code => u.portAnswer_without hr ht he hm ho p v code) _ s

theorem State.settle_word (s : State) (p : Nat) {a : Nat} (h : apartFromRecords a) (hb : a ≠ TSP_BADCMD p) : (s.settle p).word a = s.word a :=
  State.drainBad_keeps (fun u => u.word a) p (fun u x => u.setTsp_word p x a) (fun u => u.badCmd_word p h hb)
    (fun u v code => u.portAnswer_word p v code h) _ s

/-- The parts that what follows a command may touch. -/
def portParts : List Part := [.regs, .tsps, .ep, .msixPend, .out]

theorem State.settle_without_portParts (s : State) (p : Nat) : (s.settle p).without portParts = s.without portParts :=
  s.settle_without (by decide) (by decide) (by decide) (by decide) (by decide) p

/-- An item with a row of its own waits for it. -/
theorem State.settle_of_hasRow (h : (s.tsp p).inbox.head?.all TspItem.hasRow = true) : s.settle p = s := by
  rw [State.settle]
  cases hin : (s.tsp p).inbox with
  | nil => rfl
  | cons i rest =>
    rw [hin] at h
    rw [List.length_cons, State.drainBad, hin]
    cases i with
    | select f t => rfl
    | cmd v => exact if_pos h
    | ctrl v => exact if_pos h

end Sys2Proof.Machine
end

section
/-! Commands of a port: one that runs, and one that the port answers itself (06, R175, R184; 07, R209 to R215). -/

namespace Sys2Proof.Machine

variable {s w : State} {p v op code : Nat} {rest : List TspItem} {f : State → State}

/-! ### The command runs, or is refused -/

theorem State.tspCmd_of_head (h : (s.tsp p).inbox = .cmd v :: rest) (hop : cmdOp v = op) (g : Nat → State → State) :
    s.tspCmd p op g = s.portRun p v (g v) := by
  rw [State.tspCmd, State.frontCmd_of_head h hop]

theorem State.portRefusal_popInbox (s : State) (p v : Nat) : (s.popInbox p).portRefusal p v = s.portRefusal p v := by
  rw [State.popInbox_eq]
  rfl

theorem State.portRun_runs (hh : s.hello p = true) (ho : s.ownsGroup p (cmdGroup v) = true) (f : State → State) :
    s.portRun p v f = (f (s.popInbox p)).settle p := by
  have hnone : (s.popInbox p).portRefusal p v = none := by
    rw [State.portRefusal_popInbox, State.portRefusal, if_neg (by simp [hh]), if_neg (by simp [ho])]
  rw [State.portRun, hnone]

/-- A refusal that no group counts. -/
theorem State.portRun_answers (hc : s.portRefusal p v = some code) (hn : ¬ (code = Code.NOT_OWNER ∧ 1 ≤ cmdOp v ∧ cmdOp v ≤ 6)) (f : State → State) :
    s.portRun p v f = ((s.popInbox p).portAnswer p v code).settle p := by
  rw [State.portRun, State.portRefusal_popInbox, hc]
  dsimp only
  rw [if_neg hn]

theorem State.portRun_notOwner (hc : s.portRefusal p v = some Code.NOT_OWNER) (hop : 1 ≤ cmdOp v ∧ cmdOp v ≤ 6) (f : State → State) :
    s.portRun p v f = (((s.popInbox p).noteRefusal (cmdGroup v) Code.NOT_OWNER).portAnswer p v Code.NOT_OWNER).settle p := by
  rw [State.portRun, State.portRefusal_popInbox, hc]
  dsimp only
  rw [if_pos ⟨rfl, hop⟩]

theorem State.portRefusal_unattached (hh : s.hello p = false) (v : Nat) : s.portRefusal p v = some Code.PROTOCOL := by
  rw [State.portRefusal, if_pos hh]

theorem State.portRefusal_foreign (hh : s.hello p = true) (ho : s.ownsGroup p (cmdGroup v) = false) : s.portRefusal p v = some Code.NOT_OWNER := by
  rw [State.portRefusal, if_neg (by simp [hh]), if_pos ho]

/-! ### A command that is answered -/

/-- What the port shows of the answer, before an item with a row; `w` is the state that the answer meets. -/
theorem State.answered_shows (h : (s.tsp p).inbox = .cmd v :: rest) (hw : w.tsps = (s.popInbox p).tsps) (hl : w.lstate p = s.lstate p)
    (hrec : w.answerRecord v code = s.answerRecord v code) (hrow : rest.head?.all TspItem.hasRow = true) :
    (((w.portAnswer p v code).settle p).tsp p).inbox = rest ∧ (4 ≤ s.lstate p ∧ (s.tsp p).results.length < 4096 →
      (((w.portAnswer p v code).settle p).tsp p).results = (s.tsp p).results ++ [s.answerRecord v code] ∧
      (((w.portAnswer p v code).settle p).tsp p).replies = (s.tsp p).replies ∧ SameTsps [p] s ((w.portAnswer p v code).settle p) ∧
      (w.portAnswer p v code).settle p = { w with tsps := ((w.portAnswer p v code).settle p).tsps }) := by
  have htsp : w.tsp p = { s.tsp p with inbox := rest } := (State.tsp_of_tsps hw p).trans (State.popInbox_tsp h)
  have hin : ((w.portAnswer p v code).tsp p).inbox = rest := by rw [State.portAnswer_inbox, htsp]
  rw [State.settle_of_hasRow (by rw [hin]; exact hrow)]
  refine ⟨hin, fun ⟨hup, hlen⟩ => ?_⟩
  rw [State.portAnswer_of_room (hl ▸ hup) (by rw [htsp]; exact hlen), State.setTsp_tsp, htsp, hrec]
  refine ⟨rfl, rfl, fun m hm => ?_, rfl⟩
  rw [State.setTsp_tsp_other _ _ (List.ne_of_not_mem_cons hm), State.tsp_of_tsps hw, s.popInbox_sameTsps p m hm]

theorem State.popInbox_answerRecord (s : State) (p v code : Nat) : (s.popInbox p).answerRecord v code = s.answerRecord v code := by
  rw [State.popInbox_eq]
  rfl

/-- An answer that no group counts touches its port alone. -/
theorem State.answered_plain (h : (s.tsp p).inbox = .cmd v :: rest) (code : Nat) (hrow : rest.head?.all TspItem.hasRow = true) :
    (((((s.popInbox p).portAnswer p v code).settle p).tsp p).inbox = rest ∧ (4 ≤ s.lstate p ∧ (s.tsp p).results.length < 4096 →
      ((((s.popInbox p).portAnswer p v code).settle p).tsp p).results = (s.tsp p).results ++ [s.answerRecord v code] ∧
      ((((s.popInbox p).portAnswer p v code).settle p).tsp p).replies = (s.tsp p).replies ∧
      SameTsps [p] s (((s.popInbox p).portAnswer p v code).settle p) ∧
      ((s.popInbox p).portAnswer p v code).settle p = { s with tsps := (((s.popInbox p).portAnswer p v code).settle p).tsps })) := by
  have hl : (s.popInbox p).lstate p = s.lstate p := by
    rw [State.popInbox_eq]
    rfl
  obtain ⟨hin, hroom⟩ := State.answered_shows h rfl hl (s.popInbox_answerRecord p v code) hrow
  refine ⟨hin, fun hr => ?_⟩
  obtain ⟨hres, hrep, hsame, heq⟩ := hroom hr
  refine ⟨hres, hrep, hsame, heq.trans ?_⟩
  rw [State.popInbox_eq]
  rfl

/-! ### A refusal that its group counts -/

theorem apartFromRecords_GRP_CUEREF (g : Nat) : apartFromRecords (GRP_CUEREF g) :=
  ⟨by simp only [GRP_CUEREF]; omega, fun p => by simp only [GRP_CUEREF, TSP_RESDROP, TSP_FLAGS]; omega⟩

theorem apartFromRecords_GRP_LASTREF (g : Nat) : apartFromRecords (GRP_LASTREF g) :=
  ⟨by simp only [GRP_LASTREF]; omega, fun p => by simp only [GRP_LASTREF, TSP_RESDROP, TSP_FLAGS]; omega⟩

/-- A refusal touches registers, and draws at most a free value. -/
theorem State.noteRefusal_eq (s : State) (g code : Nat) : ∃ r n, s.noteRefusal g code = { s with regs := r, free := n } := by
  simp only [State.noteRefusal, State.inc_eq, State.put, State.setWord, State.draw]
  split
  · exact ⟨_, s.free, rfl⟩
  · exact ⟨_, _, rfl⟩

theorem State.noteRefusal_tsps (s : State) (g code : Nat) : (s.noteRefusal g code).tsps = s.tsps := by
  obtain ⟨r, n, h⟩ := s.noteRefusal_eq g code
  rw [h]

/-- A refusal of a port that its group counts, and the answer that follows it. -/
def State.countedAnswer (s : State) (p v code : Nat) : State := (((s.popInbox p).noteRefusal (cmdGroup v) code).portAnswer p v code).settle p

/-- The count of refusals and the last of them are none of a port's registers. -/
theorem State.countedAnswer_word (s : State) {p : Nat} (hp : p < 8) (v code : Nat) {a : Nat} (ha : a ∈ [GRP_LASTREF (cmdGroup v), GRP_CUEREF (cmdGroup v)]) :
    (s.countedAnswer p v code).word a = ((s.popInbox p).noteRefusal (cmdGroup v) code).word a := by
  have hrec : apartFromRecords a := by
    simp only [List.mem_cons, List.not_mem_nil, or_false] at ha
    obtain rfl | rfl := ha
    · exact apartFromRecords_GRP_LASTREF _
    · exact apartFromRecords_GRP_CUEREF _
  have hbad : a ≠ TSP_BADCMD p := by
    simp only [List.mem_cons, List.not_mem_nil, or_false, GRP_LASTREF, GRP_CUEREF] at ha
    simp only [TSP_BADCMD]
    omega
  rw [State.countedAnswer, State.settle_word _ _ hrec hbad, State.portAnswer_word _ _ _ _ hrec]

theorem State.countedAnswer_count (s : State) {p : Nat} (hp : p < 8) (v code : Nat) :
    (s.countedAnswer p v code).get (GRP_CUEREF_COUNT (cmdGroup v))
      = min (s.get (GRP_CUEREF_COUNT (cmdGroup v)) + 1) (2 ^ (GRP_CUEREF_COUNT (cmdGroup v)).len - 1) := by
  rw [State.get_of_word (s.countedAnswer_word hp v code (List.mem_cons_of_mem _ List.mem_cons_self)), State.noteRefusal_count, State.popInbox_eq,
    State.setTsp_get]

theorem State.countedAnswer_why {why : Nat} (hcode : refWhy code = some why) (hwhy : why < 16) (s : State) {p : Nat} (hp : p < 8) (v : Nat) :
    (s.countedAnswer p v code).get (GRP_LASTREF_WHY (cmdGroup v)) = why := by
  rw [State.get_of_word (s.countedAnswer_word hp v code List.mem_cons_self), State.noteRefusal_why hcode hwhy]

theorem State.noteRefusal_answerRecord (s : State) (g code v c : Nat) : (s.noteRefusal g code).answerRecord v c = s.answerRecord v c := by
  rw [State.answerRecord, State.noteRefusal_members, State.noteRefusal_epoch]
  rfl

theorem State.noteRefusal_lstate (s : State) (g code p : Nat) : (s.noteRefusal g code).lstate p = s.lstate p :=
  State.get_of_word (s.noteRefusal_word g code (by simp [TSP_STAT_LSTATE, TSP_STAT, GRP_LASTREF, GRP_CUEREF]; omega))

/-- What the port and the registers show of the answer, before an item with a row. -/
theorem State.countedAnswer_shows (h : (s.tsp p).inbox = .cmd v :: rest) (code : Nat) (hrow : rest.head?.all TspItem.hasRow = true) :
    ((s.countedAnswer p v code).tsp p).inbox = rest ∧ (4 ≤ s.lstate p ∧ (s.tsp p).results.length < 4096 →
      ((s.countedAnswer p v code).tsp p).results = (s.tsp p).results ++ [s.answerRecord v code] ∧
      ((s.countedAnswer p v code).tsp p).replies = (s.tsp p).replies ∧ SameTsps [p] s (s.countedAnswer p v code) ∧
      s.countedAnswer p v code = { (s.popInbox p).noteRefusal (cmdGroup v) code with tsps := (s.countedAnswer p v code).tsps }) := by
  refine State.answered_shows h (State.noteRefusal_tsps _ _ _) ?_ ?_ hrow
  · rw [State.noteRefusal_lstate, State.popInbox_eq]
    rfl
  · rw [State.noteRefusal_answerRecord, State.popInbox_answerRecord]

/-- The state after such an answer, once the port has taken its record: the noted refusal, with a record more at the port. -/
abbrev State.countedTaken (s : State) (p v code : Nat) : Prop :=
  s.countedAnswer p v code = { (s.popInbox p).noteRefusal (cmdGroup v) code with tsps := (s.countedAnswer p v code).tsps }

theorem State.counted_words (h : s.countedTaken p v code) : SameWords [GRP_CUEREF (cmdGroup v), GRP_LASTREF (cmdGroup v)] s (s.countedAnswer p v code) :=
  fun a ha => by
    rw [h]
    refine ((s.popInbox p).noteRefusal_word (cmdGroup v) code ?_).trans (by rw [State.popInbox_eq, State.setTsp_word])
    simpa [and_comm] using ha

theorem State.counted_frame (h : s.countedTaken p v code) : s.countedAnswer p v code =
    { s with regs := (s.countedAnswer p v code).regs, tsps := (s.countedAnswer p v code).tsps, free := (s.countedAnswer p v code).free } := by
  obtain ⟨r, n, hnoted⟩ := (s.popInbox p).noteRefusal_eq (cmdGroup v) code
  rw [State.countedTaken, hnoted, State.popInbox_eq] at h
  generalize s.countedAnswer p v code = t at h
  rw [h]
  rfl

/-- Where the refusal has a number of its own, no free value is drawn. -/
theorem State.counted_frame_of_why {why : Nat} (hcode : refWhy code = some why) (h : s.countedTaken p v code) :
    s.countedAnswer p v code = { s with regs := (s.countedAnswer p v code).regs, tsps := (s.countedAnswer p v code).tsps } := by
  refine State.eq_of_without (l := [.regs, .tsps]) ?_
  rw [h]
  exact (State.tsps_without (by decide) _ _).trans ((State.noteRefusal_without hcode (by decide) _ _).trans (s.popInbox_without (by decide) p))

end Sys2Proof.Machine
end

section
/-! The commands that a port takes in, by their opcodes (06, R175; 07, R210). -/

namespace Sys2Proof.Machine

variable {s : State} {p v op : Nat} {rest : List TspItem}

/-- What a timing command of the owning port leaves. -/
theorem State.tspTiming_queues (h : (s.tsp p).inbox = .cmd v :: rest) (hop : cmdOp v = op) (hh : s.hello p = true)
    (ho : s.ownsGroup p (cmdGroup v) = true) (hm : s.members (cmdGroup v) ≠ []) (cmd : Nat → TCmd) :
    ∃ t, Host.Outcome.next (s.tspTiming p op cmd) = (.next t : Host.Outcome State Fault Refusal) ∧
      (t.group (cmdGroup v)).ops = (s.group (cmdGroup v)).ops ++ [s.newOp (cmdGroup v) (.port p (cmdGroup v) (cmdTag v)) (cmd v)] ∧
      (∀ b : Fin 8, (t.bank b).cueq = (s.bank b).cueq ++
        (if b.val ∈ s.memberBanks (cmdGroup v) then [.cmd (cmdGroup v) (s.group (cmdGroup v)).nextId] else [])) ∧
      (rest.head?.all TspItem.hasRow = true → (t.tsp p).inbox = rest ∧ t = { s with tsps := t.tsps, groups := t.groups, banks := t.banks } ∧
        SameTsps [p] s t ∧ SameGroups [cmdGroup v] s t) := by
  have hpop : (s.popInbox p).without [.tsps] = s.without [.tsps] := s.popInbox_without (by decide) p
  have hword (a : Nat) : (s.popInbox p).word a = s.word a := State.word_of_without hpop (by decide) a
  have hgroup (m : Nat) : (s.popInbox p).group m = s.group m := State.group_of_without hpop (by decide) m
  have hbanks : (s.popInbox p).memberBanks (cmdGroup v) = s.memberBanks (cmdGroup v) := State.memberBanks_of_word (fun _ => hword _) _
  rw [State.tspTiming, State.tspCmd_of_head h hop, State.portRun_runs hh ho, State.issueTiming_queues (by simp [Src.isFlow])
    (by rw [State.members_of_word (fun _ => hword _)]; exact hm)]
  have hops := (s.popInbox p).queueTiming_ops (cmdGroup v) (.port p (cmdGroup v) (cmdTag v)) (cmd v)
  have hsame := (s.popInbox p).queueTiming_sameGroups (cmdGroup v) (.port p (cmdGroup v) (cmdTag v)) (cmd v)
  have hcueq := (s.popInbox p).queueTiming_cueq (cmdGroup v) (.port p (cmdGroup v) (cmdTag v)) (cmd v)
  have hframe := (s.popInbox p).queueTiming_without (l := [.groups, .banks]) (by decide) (by decide) (cmdGroup v)
    (.port p (cmdGroup v) (cmdTag v)) (cmd v)
  generalize (s.popInbox p).queueTiming (cmdGroup v) (.port p (cmdGroup v) (cmdTag v)) (cmd v) = t at hops hsame hcueq hframe
  have htsp (m : Nat) : t.tsp m = (s.popInbox p).tsp m := State.tsp_of_tsps (State.tsps_of_without hframe (by decide)) m
  refine ⟨_, rfl, ?_, fun b => ?_, fun hrow => ?_⟩
  · rw [State.group_of_without (t.settle_without_portParts p) (by decide), hops, hgroup, State.newOp, State.newOp, hbanks, hgroup]
  · rw [State.bank_of_without (t.settle_without_portParts p) (by decide), hcueq, hbanks, hgroup,
      State.bank_of_without hpop (by decide)]
  · have hin : (t.tsp p).inbox = rest := by rw [htsp, State.popInbox_tsp h]
    rw [State.settle_of_hasRow (by rw [hin]; exact hrow)]
    refine ⟨hin, ?_, fun m hm => (htsp m).trans (s.popInbox_sameTsps p m hm), fun m hm => (hsame m hm).trans (hgroup m)⟩
    have hall : t.without [.tsps, .groups, .banks] = s.without [.tsps, .groups, .banks] := by
      have hqueue : t.without [.tsps, .groups, .banks] = (s.popInbox p).without [.tsps, .groups, .banks] := by
        simpa [State.without] using congrArg (State.without [.tsps]) hframe
      exact hqueue.trans (s.popInbox_without (by decide) p)
    exact State.eq_of_without hall

theorem State.refuseAtSource_port (s : State) (p v code : Nat) : s.refuseAtSource (cmdGroup v) (.port p (cmdGroup v) (cmdTag v)) code =
    (s.noteRefusal (cmdGroup v) code).portAnswer p v code := by
  simp only [State.refuseAtSource, State.deliver, State.compOf, State.portAnswer_eq, State.answerRecord]

/-- A timing command for a group with no members. -/
theorem State.tspTiming_empty (h : (s.tsp p).inbox = .cmd v :: rest) (hop : cmdOp v = op) (hh : s.hello p = true)
    (ho : s.ownsGroup p (cmdGroup v) = true) (hm : s.members (cmdGroup v) = []) (cmd : Nat → TCmd) :
    s.tspTiming p op cmd = s.countedAnswer p v Code.NO_MEMBERS := by
  have hpop : (s.popInbox p).members (cmdGroup v) = [] := by
    rw [State.members_of_word (fun _ => State.word_of_without (s.popInbox_without (l := [.tsps]) (by decide) p) (by decide) _), hm]
  rw [State.tspTiming, State.tspCmd_of_head h hop, State.portRun_runs hh ho, State.issueTiming_empty (by simp [Src.isFlow]) hpop,
    State.refuseAtSource_port, State.countedAnswer]

/-- A timing command of a port that does not own the group. -/
theorem State.tspTiming_notOwner (h : (s.tsp p).inbox = .cmd v :: rest) (hop : cmdOp v = op) (hh : s.hello p = true)
    (ho : s.ownsGroup p (cmdGroup v) = false) (h16 : 1 ≤ op ∧ op ≤ 6) (cmd : Nat → TCmd) :
    s.tspTiming p op cmd = s.countedAnswer p v Code.NOT_OWNER := by
  rw [State.tspTiming, State.tspCmd_of_head h hop, State.portRun_notOwner (State.portRefusal_foreign hh ho) (hop ▸ h16), State.countedAnswer]

/-! ### The rows of the commands -/

/-- The timing commands of a port, with their opcodes. -/
def portTimings (p : Fin 8) : List (Instr × Nat) :=
  [(.tspCue p, 1), (.tspPcue p, 2), (.tspCommit p, 3), (.tspCancel p, 4), (.tspStart p, 5), (.tspStop p, 6)]

/-- Its other commands but NOP. -/
def portOthers (p : Fin 8) (v : Nat) : List (Instr × Nat) :=
  [(.tspHop p, 0x10), (.tspRamp p, 0x11), (.tspClap p, 0x30), (if cmdFlag v then .tspTakeStart p else .tspTakeArm p, 0x20)]

theorem exec_portTiming {p : Fin 8} {q : Instr × Nat} (hq : q ∈ portTimings p) :
    (1 ≤ q.2 ∧ q.2 ≤ 6) ∧ ∃ cmd, ∀ s, exec q.1 s = .next (s.tspTiming p q.2 cmd) := by
  simp only [portTimings, List.mem_cons, List.not_mem_nil, or_false] at hq
  obtain rfl | rfl | rfl | rfl | rfl | rfl := hq
  all_goals exact ⟨by simp, _, fun _ => rfl⟩

/-- The take commands share an opcode: the flag says which row stands for one. -/
theorem exec_portTake {p : Fin 8} (h : (s.tsp p).inbox = .cmd v :: rest) (hop : cmdOp v = 0x20) :
    ∃ f, exec (if cmdFlag v then .tspTakeStart p else .tspTakeArm p) s = .next (s.portRun p v f) := by
  have hfront := State.frontCmd_of_head h hop
  cases hflag : cmdFlag v with
  | true => exact ⟨_, by simp only [↓reduceIte, exec, execTspTakeStart, hfront, hflag]; rfl⟩
  | false => exact ⟨_, by simp only [Bool.false_eq_true, ↓reduceIte, exec, execTspTakeArm, hfront, hflag]; rfl⟩

theorem exec_portOther {p : Fin 8} (h : (s.tsp p).inbox = .cmd v :: rest) {q : Instr × Nat} (hq : q ∈ portOthers p v) (hop : cmdOp v = q.2) :
    6 < q.2 ∧ ∃ f, exec q.1 s = .next (s.portRun p v f) := by
  simp only [portOthers, List.mem_cons, List.not_mem_nil, or_false] at hq
  obtain rfl | rfl | rfl | rfl := hq
  · exact ⟨by simp, _, congrArg Host.Outcome.next (State.tspCmd_of_head h hop _)⟩
  · exact ⟨by simp, _, congrArg Host.Outcome.next (State.tspCmd_of_head h hop _)⟩
  · exact ⟨by simp, _, congrArg Host.Outcome.next (State.tspCmd_of_head h hop _)⟩
  · exact ⟨by simp, exec_portTake h hop⟩

theorem exec_tspNop {p : Fin 8} (h : (s.tsp p).inbox = .cmd v :: rest) (hop : cmdOp v = 0) :
    exec (.tspNop p) s = .next (((s.popInbox p).portAnswer p v (if s.hello p then Code.OK else Code.PROTOCOL)).settle p) := by
  change execTspNop p s = _
  rw [execTspNop, State.frontCmd_of_head h hop]

/-- Before HELLO every command is answered PROTOCOL. -/
theorem exec_portCommand_unattached {p : Fin 8} (h : (s.tsp p).inbox = .cmd v :: rest) (hh : s.hello p = false) {q : Instr × Nat}
    (hq : q ∈ (.tspNop p, 0) :: portTimings p ++ portOthers p v) (hop : cmdOp v = q.2) :
    exec q.1 s = .next (((s.popInbox p).portAnswer p v Code.PROTOCOL).settle p) := by
  have hplain (f : State → State) : s.portRun p v f = ((s.popInbox p).portAnswer p v Code.PROTOCOL).settle p :=
    State.portRun_answers (State.portRefusal_unattached hh v) (fun hc => absurd hc.1 (by decide)) f
  rw [List.cons_append, List.mem_cons, List.mem_append] at hq
  obtain rfl | hq | hq := hq
  · rw [exec_tspNop h hop, hh]
    rfl
  · obtain ⟨-, cmd, hexec⟩ := exec_portTiming hq
    rw [hexec, State.tspTiming, State.tspCmd_of_head h hop, hplain]
  · obtain ⟨-, f, hexec⟩ := exec_portOther h hq hop
    rw [hexec, hplain]

end Sys2Proof.Machine
end

section
open Sys2Proof Sys2Proof.Machine

/-- Settles O31: a command of a port runs, or is answered; an item with a row of its own then waits behind it. -/
theorem portCommandsReachTheirGroups : Obligations.PortCommandsReachTheirGroups := by
  unfold Obligations.PortCommandsReachTheirGroups
  refine ⟨?cue, ?pcue, ?commit, ?cancel, ?start, ?stop, ?notOwner, ?notOwnerOther, ?empty, ?unattached, ?nop⟩
  case cue =>
    intro p v rest s h hop hh ho hm
    exact State.tspTiming_queues h hop hh ho hm _
  case pcue =>
    intro p v rest s h hop hh ho hm
    exact State.tspTiming_queues h hop hh ho hm _
  case commit =>
    intro p v rest s h hop hh ho hm
    exact State.tspTiming_queues h hop hh ho hm _
  case cancel =>
    intro p v rest s h hop hh ho hm
    exact State.tspTiming_queues h hop hh ho hm _
  case start =>
    intro p v rest s h hop hh ho hm
    exact State.tspTiming_queues h hop hh ho hm _
  case stop =>
    intro p v rest s h hop hh ho hm
    exact State.tspTiming_queues h hop hh ho hm _
  case notOwner =>
    intro p v rest s h hh ho q hq hop
    obtain ⟨h16, cmd, hexec⟩ := exec_portTiming hq
    rw [hexec, State.tspTiming_notOwner h hop hh ho h16]
    refine ⟨_, rfl, s.countedAnswer_count p.isLt v _, fun hrow => ?_⟩
    obtain ⟨hin, hroom⟩ := State.countedAnswer_shows h Code.NOT_OWNER hrow
    refine ⟨hin, fun hr => ?_⟩
    obtain ⟨hres, hrep, hsame, heq⟩ := hroom hr
    exact ⟨hres, hrep, hsame, State.counted_frame heq, State.counted_words heq⟩
  case notOwnerOther =>
    intro p v rest s h hh ho q hq hop
    obtain ⟨h6, f, hexec⟩ := exec_portOther h hq hop
    rw [hexec, State.portRun_answers (State.portRefusal_foreign hh ho) (by omega)]
    exact ⟨_, rfl, State.answered_plain h _⟩
  case empty =>
    intro p v rest s h hh ho hm q hq hop
    obtain ⟨-, cmd, hexec⟩ := exec_portTiming hq
    rw [hexec, State.tspTiming_empty h hop hh ho hm]
    refine ⟨_, rfl, s.countedAnswer_count p.isLt v _, State.countedAnswer_why rfl (by decide) s p.isLt v, fun hrow => ?_⟩
    obtain ⟨hin, hroom⟩ := State.countedAnswer_shows h Code.NO_MEMBERS hrow
    refine ⟨hin, fun hr => ?_⟩
    obtain ⟨hres, hrep, hsame, heq⟩ := hroom hr
    exact ⟨hres, hrep, hsame, State.counted_frame_of_why rfl heq, State.counted_words heq⟩
  case unattached =>
    intro p v rest s h hh q hq hop
    rw [exec_portCommand_unattached h hh hq hop]
    exact ⟨_, rfl, State.answered_plain h _⟩
  case nop =>
    intro p v rest s h hh hop
    rw [exec_tspNop h hop, hh]
    exact ⟨_, rfl, State.answered_plain h _⟩

end

section
/-! Writes of CHn_GRP (06, R174). -/

namespace Sys2Proof.Machine

variable {s : State} {n : Nat} {w : Word}

/-- A plain field whose bits are all written takes the written value (00, R11). -/
theorem fieldWrite_rw {f : FieldSpec} (hacc : f.acc = .rw) {m : Nat} (hm : m / 2 ^ f.lo % 2 ^ f.len = 2 ^ f.len - 1) (old w : Nat) (lk : Bool) :
    fieldWrite f old w m lk = w / 2 ^ f.lo % 2 ^ f.len := by
  rw [fieldWrite, hacc]
  simp only [hm, Nat.sub_self]
  change (_ &&& (2 ^ f.len - 1)) ||| (_ &&& 0) = _
  simp

/-- CHn_GRP holds GROUP and MEMBER, which no LOCK governs. -/
theorem fieldsAt_CH_GRP (hn : n < 512) : fieldsAt (CH_GRP n) = [⟨0, 6, .rw, 0⟩, ⟨7, 1, .rw, 0⟩] := by
  have hall : ∀ m : Fin 512, fieldsAt (CH_GRP m) = [⟨0, 6, .rw, 0⟩, ⟨7, 1, .rw, 0⟩] := by decide +kernel
  exact hall ⟨n, hn⟩

/-- The word that a write of CHn_GRP leaves there. -/
def grpWord (old : Nat) (w : Word) : Nat := fieldPut (fieldPut old 0 6 (fld w 0 6)) 7 1 (fld w 7 1)

theorem State.writeReg_grp (hn : n < 512) (s : State) (w : Word) :
    s.writeReg (CH_GRP n) w fullMask = s.setWord (CH_GRP n) (BitVec.ofNat 32 (grpWord (s.word (CH_GRP n)).toNat w)) := by
  have hfields : writeFields [⟨0, 6, .rw, 0⟩, ⟨7, 1, .rw, 0⟩] (s.word (CH_GRP n)).toNat w.toNat fullMask (s.locked (CH_GRP n))
      = grpWord (s.word (CH_GRP n)).toNat w := by
    rw [writeFields, writeFields, writeFields, fieldWrite_rw rfl (by decide), fieldWrite_rw rfl (by decide)]
    rfl
  have hreach : reachesRwl [⟨0, 6, .rw, 0⟩, ⟨7, 1, .rw, 0⟩] fullMask = false := by decide
  simp only [State.writeReg, fieldsAt_CH_GRP hn, hfields, hreach, Bool.and_false, Bool.false_eq_true, ↓reduceIte]

theorem grpWord_toNat {old : Nat} (h : old < 2 ^ 32) (w : Word) : (BitVec.ofNat 32 (grpWord old w)).toNat = grpWord old w := by
  have hlt : grpWord old w < 2 ^ 32 := fieldPut_lt (fieldPut_lt h (by decide)) (by decide)
  rw [BitVec.toNat_ofNat, Nat.mod_eq_of_lt hlt]

/-- A write of CHn_GRP that is taken sets MEMBER and GROUP and touches nothing else. -/
theorem State.grpWrite_taken (hn : n < 512) (hok : s.grpWriteOk n w = true) :
    (s.grpWrite n w).bit (CH_GRP_MEMBER n) = wbit w 7 ∧ (s.grpWrite n w).get (CH_GRP_GROUP n) = fld w 0 6 ∧
      (∀ l : List Part, .regs ∈ l → (s.grpWrite n w).without l = s.without l) ∧ SameWords [CH_GRP n] s (s.grpWrite n w) := by
  rw [State.grpWrite, if_pos hok, State.writeReg_grp hn]
  have hget (lo len : Nat) : (s.setWord (CH_GRP n) (BitVec.ofNat 32 (grpWord (s.word (CH_GRP n)).toNat w))).get ⟨CH_GRP n, lo, len⟩
      = grpWord (s.word (CH_GRP n)).toNat w / 2 ^ lo % 2 ^ len := by
    rw [State.get, State.setWord_word, grpWord_toNat (s.word (CH_GRP n)).isLt]
  refine ⟨?_, ?_, fun _ hr => State.setWord_without hr _ _ _, fun x hx => State.setWord_word_other _ _ (List.ne_of_not_mem_cons hx)⟩
  · rw [State.bit, CH_GRP_MEMBER, hget, grpWord, fieldPut_same, fld, Nat.mod_mod]
    rfl
  · rw [CH_GRP_GROUP, hget, grpWord, fieldPut_other (by decide), fieldPut_same, fld, Nat.mod_mod]

/-- One that is refused sets the flag of the channel. -/
theorem State.grpWrite_refused (hok : s.grpWriteOk n w = false) : (s.grpWrite n w).bit (CH_CFLAGS_GRPREF n) = true ∧
    (∀ l : List Part, .regs ∈ l → .msixPend ∈ l → .out ∈ l → (s.grpWrite n w).without l = s.without l) ∧
    SameWords [CH_CFLAGS n] s (s.grpWrite n w) := by
  rw [State.grpWrite, if_neg (by simp [hok]), State.flagCh]
  refine ⟨?_, fun _ hr hp ho => State.flag_without hr hp ho _ _ _, fun x hx => State.flag_word _ _ _ (List.ne_of_not_mem_cons hx)⟩
  rw [State.bit, State.flag_get, State.put_get _ (by simp [Ref.fits, CH_CFLAGS_GRPREF])]
  rfl

end Sys2Proof.Machine
end

section
/-! GRP_MEMBERS (06, R174; 14, R430). -/

namespace Sys2Proof.Machine

variable {s : State} {f : Fin 64} {c : Nat} {a b : List Cmd} {k : Cmd}

/-- The first channel of GRP_MEMBERS. -/
abbrev Cmd.firstChan (k : Cmd) : Nat := ent k.entry 24 2

theorem exec_grpMembers (h : Runs s f c 0x0102 a b k) : exec (.grpMembers f c) s = .next (grpMembers (s.begun f a b k) f c k.entry) :=
  congrArg Host.Outcome.next (h.begins _)

/-- With bad parameters it changes no channel. -/
theorem grpMembers_badParam {e : Nat} (h : 64 ≤ ent e 20 2 ∨ 1 < ent e 22 1 ∨ ent e 26 2 = 0 ∨ 512 < ent e 24 2 + ent e 26 2) (u : State) (f c : Nat) :
    grpMembers u f c e = u.failCmd f c Code.BAD_PARAM := by
  rw [grpMembers, if_pos h]

/-- For one channel it makes the change of that channel. -/
theorem grpMembers_one {e op : Nat} (hg : ent e 20 2 < 64) (hop : ent e 22 1 = op) (hop1 : op ≤ 1) (hk : ent e 26 2 = 1) (hn : ent e 24 2 < 512) (u : State) (f c : Nat) :
    grpMembers u f c e = (u.memberChange (ent e 20 2) op (ent e 24 2)).1.finishCmd f c
      (if (u.memberChange (ent e 20 2) op (ent e 24 2)).2 then Code.OK else Code.GROUP_RUNNING) false false 0
      ((u.memberChange (ent e 20 2) op (ent e 24 2)).1.members (ent e 20 2)).length := by
  rw [grpMembers, if_neg (by omega), hk, hop]
  simp

theorem State.memberChange_add (u : State) (g n : Nat) :
    u.memberChange g 0 n = (u.grpWrite n (BitVec.ofNat 32 (128 + g)), u.grpWriteOk n (BitVec.ofNat 32 (128 + g))) := by
  simp [State.memberChange]

theorem State.chanGroup_eq_iff (u : State) (g n : Nat) : u.chanGroup n = some g ↔ u.isMember g n = true := by
  simp [State.chanGroup, State.isMember, State.groupOf]

theorem State.memberChange_remove {u : State} {g n : Nat} (h : u.isMember g n = true) :
    u.memberChange g 1 n = (u.grpWrite n 0, u.grpWriteOk n 0) := by
  simp [State.memberChange, (u.chanGroup_eq_iff g n).2 h]

theorem State.memberChange_absent {u : State} {g n : Nat} (h : u.isMember g n = false) : u.memberChange g 1 n = (u, true) := by
  rw [State.memberChange, if_pos ⟨rfl, fun hm => by simp [(u.chanGroup_eq_iff g n).1 hm] at h⟩]

/-- What a change of one channel that is taken leaves. -/
theorem Runs.grpMembers_taken (h : Runs s f c 0x0102 a b k) (hg : k.timingGroup < 64) {op : Nat} (hop : ent k.entry 22 1 = op) (hop1 : op ≤ 1)
    (hk : ent k.entry 26 2 = 1) (hn : k.firstChan < 512) {w : Word} (hok : s.grpWriteOk k.firstChan w = true)
    (hchange : (s.begun f a b k).memberChange k.timingGroup op k.firstChan
      = ((s.begun f a b k).grpWrite k.firstChan w, (s.begun f a b k).grpWriteOk k.firstChan w)) :
    ∃ t, exec (.grpMembers f c) s = .next t ∧ CmdNow s t f a b (k.done Code.OK false false 0 (t.members k.timingGroup).length) ∧
      t.bit (CH_GRP_MEMBER k.firstChan) = wbit w 7 ∧ t.get (CH_GRP_GROUP k.firstChan) = fld w 0 6 ∧
      t = { s with regs := t.regs, flows := t.flows } ∧ SameWords [CH_GRP k.firstChan] s t := by
  obtain ⟨hmember, hgroup, hframe, hwords⟩ := State.grpWrite_taken (s := s.begun f a b k) hn hok
  rw [exec_grpMembers h, grpMembers_one hg hop hop1 hk hn, hchange]
  have hok' : (s.begun f a b k).grpWriteOk k.firstChan w = true := hok
  simp only [hok', ↓reduceIte]
  generalize (s.begun f a b k).grpWrite k.firstChan w = u at hmember hgroup hframe hwords
  refine ⟨_, rfl, ?_, ?_, ?_, ?_, fun x hx => ?_⟩
  · rw [State.members_of_word fun n => State.finishCmd_word _ _ _ _ _ _ _ _ _]
    exact h.finishes (State.flows_of_without (hframe [.regs] (by decide)) (by decide)) _ _ _ _ _
  · exact (State.bit_of_word (State.finishCmd_word _ _ _ _ _ _ _ _ _)).trans hmember
  · exact (State.get_of_word (State.finishCmd_word _ _ _ _ _ _ _ _ _)).trans hgroup
  · exact State.eq_of_without (l := [.regs, .flows]) ((State.finishCmd_without (by decide) _ _ _ _ _ _ _ _).trans
      ((hframe _ (by decide)).trans (s.begun_without (by decide) f a b k)))
  · exact (State.finishCmd_word _ _ _ _ _ _ _ _ _).trans (hwords x hx)

/-- What one that a running group refuses leaves. -/
theorem Runs.grpMembers_refused (h : Runs s f c 0x0102 a b k) (hg : k.timingGroup < 64) (hop : ent k.entry 22 1 = 0) (hk : ent k.entry 26 2 = 1)
    (hn : k.firstChan < 512) (hok : s.grpWriteOk k.firstChan (BitVec.ofNat 32 (128 + k.timingGroup)) = false) :
    ∃ t, exec (.grpMembers f c) s = .next t ∧ CmdNow s t f a b (k.done Code.GROUP_RUNNING false false 0 (s.members k.timingGroup).length) ∧
      t.bit (CH_CFLAGS_GRPREF k.firstChan) = true ∧ t = { s with regs := t.regs, flows := t.flows, msixPend := t.msixPend, out := t.out } ∧
      SameWords [CH_CFLAGS k.firstChan] s t := by
  obtain ⟨hflag, hframe, hwords⟩ := State.grpWrite_refused (s := s.begun f a b k) hok
  have hmembers : ((s.begun f a b k).grpWrite k.firstChan (BitVec.ofNat 32 (128 + k.timingGroup))).members k.timingGroup = s.members k.timingGroup :=
    State.members_of_word (fun m => hwords _ (by simp [CH_GRP, CH_CFLAGS]; omega)) _
  have hok' : (s.begun f a b k).grpWriteOk k.firstChan (BitVec.ofNat 32 (128 + k.timingGroup)) = false := hok
  rw [exec_grpMembers h, grpMembers_one hg hop (by decide) hk hn, State.memberChange_add]
  simp only [hok', hmembers, Bool.false_eq_true, ↓reduceIte]
  refine ⟨_, rfl, h.finishes (State.flows_of_without (hframe [.regs, .msixPend, .out] (by decide) (by decide) (by decide)) (by decide)) _ _ _ _ _, ?_, ?_, fun x hx => ?_⟩
  · exact (State.bit_of_word (State.finishCmd_word _ _ _ _ _ _ _ _ _)).trans hflag
  · exact State.eq_of_without (l := [.regs, .flows, .msixPend, .out]) ((State.finishCmd_without (by decide) _ _ _ _ _ _ _ _).trans
      ((hframe _ (by decide) (by decide) (by decide)).trans (s.begun_without (by decide) f a b k)))
  · exact (State.finishCmd_word _ _ _ _ _ _ _ _ _).trans (hwords x hx)

/-- What the removal of a channel that is no member leaves. -/
theorem Runs.grpMembers_absent (h : Runs s f c 0x0102 a b k) (hg : k.timingGroup < 64) (hop : ent k.entry 22 1 = 1) (hk : ent k.entry 26 2 = 1)
    (hn : k.firstChan < 512) (hmember : s.isMember k.timingGroup k.firstChan = false) :
    ∃ t, exec (.grpMembers f c) s = .next t ∧ CmdNow s t f a b (k.done Code.OK false false 0 (s.members k.timingGroup).length) ∧
      t = { s with flows := t.flows } := by
  rw [exec_grpMembers h, grpMembers_one hg hop (by decide) hk hn, State.memberChange_absent (u := s.begun f a b k) hmember, State.begun_members]
  exact ⟨_, rfl, h.finishes rfl _ _ _ _ _, State.eq_of_without (l := [.flows])
    ((State.finishCmd_without (by decide) _ _ _ _ _ _ _ _).trans (s.begun_without (by decide) f a b k))⟩

end Sys2Proof.Machine
end

section
/-! CTX_WRITE and CTX_READ (06, R163, R164; 14, R429). -/

namespace Sys2Proof.Machine

variable {s : State} {f : Fin 64} {c op : Nat} {a b : List Cmd} {k : Cmd} {buf : List Byte}

/-- The channel, the first record and the number of records of a context command. -/
abbrev Cmd.ctxChan (k : Cmd) : Nat := ent k.entry 20 2
abbrev Cmd.ctxFirst (k : Cmd) : Nat := ent k.entry 22 2
abbrev Cmd.ctxCount (k : Cmd) : Nat := ent k.entry 24 2

/-! ### Buffers -/

theorem State.runBuf_waits (h : s.dmaOn = false) (f c op : Nat) (g : Nat → State → State) : s.runBuf f c op g = s :=
  if_neg (by simp [h])

theorem Runs.beginsBuf (h : Runs s f c op a b k) (hd : s.dmaOn = true) (g : Nat → State → State) : s.runBuf f c op g = g k.entry (s.begun f a b k) :=
  (if_pos hd).trans (h.begins g)

/-- The commands that write their buffer, each with its opcode. -/
def bufferWriters (f : Fin 64) (c : Nat) : List (Instr × Nat) :=
  [(.ctxRead f c, 0x0101), (.takeRead f c, 0x0202), (.intvRead f c, 0x0210), (.regrRead f c, 0x0211), (.regrSums f c, 0x0212)]

theorem exec_bufferWriter_waits (hd : s.dmaOn = false) {q : Instr × Nat} (hq : q ∈ bufferWriters f c) : exec q.1 s = .next s := by
  simp only [bufferWriters, List.mem_cons, List.not_mem_nil, or_false] at hq
  obtain rfl | rfl | rfl | rfl | rfl := hq <;> exact congrArg Host.Outcome.next (State.runBuf_waits hd _ _ _ _)

/-! ### CTX_WRITE -/

theorem exec_ctxWrite_inline (h : Runs s f c 0x0100 a b k) (hin : ctxInline k.entry = true) (buf : List Byte) :
    exec (.ctxWrite f c buf) s = .next (ctxWrite (s.begun f a b k) f c k.entry []) := by
  change execCtxWrite f c buf s = _
  rw [execCtxWrite, h.running]
  simp only [hin, ↓reduceIte]
  rw [h.begins]

theorem exec_ctxWrite_unread (h : Runs s f c 0x0100 a b k) (hin : ctxInline k.entry = false) (hok : ctxOk k.entry = true)
    (hbuf : bufOk k.entry (32 * k.ctxCount) = true) (hlen : buf.length < 32 * k.ctxCount) : exec (.ctxWrite f c buf) s = .next s := by
  change execCtxWrite f c buf s = _
  rw [execCtxWrite, h.running]
  simp only [hin, Bool.false_eq_true, ↓reduceIte]
  rw [if_pos ⟨hok, hbuf, hlen⟩]

theorem exec_ctxWrite_read (h : Runs s f c 0x0100 a b k) (hin : ctxInline k.entry = false) (hd : s.dmaOn = true)
    (hread : ¬ (ctxOk k.entry = true ∧ bufOk k.entry (32 * k.ctxCount) = true ∧ buf.length < 32 * k.ctxCount)) :
    exec (.ctxWrite f c buf) s = .next (ctxWrite (s.begun f a b k) f c k.entry (buf.map (fun x => x.toNat))) := by
  change execCtxWrite f c buf s = _
  rw [execCtxWrite, h.running]
  simp only [hin, Bool.false_eq_true, ↓reduceIte]
  rw [if_neg hread, h.beginsBuf hd]

theorem ctxWrite_badParam {e : Nat} (h : ctxOk e = false ∨ (ctxInline e = false ∧ bufOk e (32 * ent e 24 2) = false)) (u : State) (f c : Nat) (buf : List Nat) :
    ctxWrite u f c e buf = u.failCmd f c Code.BAD_PARAM := by
  rw [ctxWrite, if_pos h]

theorem ctxWrite_powerOff {e : Nat} (hok : ctxOk e = true) (hbuf : bufOk e (32 * ent e 24 2) = true) {u : State}
    (hoff : u.domOn (halfOf (ent e 20 2 / 64)) = false) (f c : Nat) (buf : List Nat) : ctxWrite u f c e buf = u.failCmd f c Code.POWER_OFF := by
  rw [ctxWrite, if_neg (by simp [hok, hbuf]), if_pos hoff]

/-- An inline write is an access to the store with the one record that the entry holds. -/
theorem ctxWrite_inline {e : Nat} (hok : ctxOk e = true) (hin : ctxInline e = true) {u : State} (hon : u.domOn (halfOf (ent e 20 2 / 64)) = true) (f c : Nat) :
    ctxWrite u f c e [] = u.storeAccess (ent e 20 2 / 64) (.mbxWrite f c (ent e 20 2) (ent e 22 2) [BitVec.ofNat 256 (ent e 32 32)]) := by
  rw [ctxWrite, if_neg (by simp [hok, hin]), if_neg (by simp [hon]), if_pos hin]

/-- A mailbox write of one record. -/
theorem State.mbxWrite_one (u : State) (f c ch ctx : Nat) (d : Record) :
    u.mbxWrite f c ch ctx [d] = (u.putRecord ch ctx d).finishCmd f c Code.OK false false 0 1 := rfl

theorem State.putRecord_sameRecords (s : State) (ch ctx : Nat) (d : Record) : SameRecords [recKey ch ctx] s (s.putRecord ch ctx d) :=
  fun _ hk => ⟨tabGet_tabSet_other _ _ _ _ (List.ne_of_not_mem_cons hk), tabGet_tabSet_other 0 0 s.storeErr 0 (List.ne_of_not_mem_cons hk)⟩

/-! ### CTX_READ -/

theorem exec_ctxRead_badParam (h : Runs s f c 0x0101 a b k) (hd : s.dmaOn = true) (hbad : ctxOk k.entry = false ∨ bufOk k.entry (32 * k.ctxCount) = false) :
    exec (.ctxRead f c) s = .next ((s.begun f a b k).failCmd f c Code.BAD_PARAM) :=
  congrArg Host.Outcome.next ((h.beginsBuf hd _).trans (if_pos hbad))

theorem exec_ctxRead_powerOff (h : Runs s f c 0x0101 a b k) (hd : s.dmaOn = true) (hgood : ¬ (ctxOk k.entry = false ∨ bufOk k.entry (32 * k.ctxCount) = false))
    (hoff : s.domOn (halfOf (k.ctxChan / 64)) = false) : exec (.ctxRead f c) s = .next ((s.begun f a b k).failCmd f c Code.POWER_OFF) :=
  congrArg Host.Outcome.next ((h.beginsBuf hd _).trans ((if_neg hgood).trans (if_pos hoff)))

theorem exec_ctxRead_access (h : Runs s f c 0x0101 a b k) (hd : s.dmaOn = true) (hgood : ¬ (ctxOk k.entry = false ∨ bufOk k.entry (32 * k.ctxCount) = false))
    (hon : s.domOn (halfOf (k.ctxChan / 64)) = true) : exec (.ctxRead f c) s = .next ((s.begun f a b k).storeAccess (k.ctxChan / 64)
      (.mbxRead f c k.ctxChan k.ctxFirst k.ctxCount (entAddr k.entry))) :=
  congrArg Host.Outcome.next ((h.beginsBuf hd _).trans ((if_neg hgood).trans (if_neg (by
    change ¬ s.domOn (halfOf (k.ctxChan / 64)) = false
    simp [hon]))))

/-- The records that a read of a store without errors finds, as bytes. -/
def State.recordsFrom (s : State) (ch first count : Nat) : List Nat :=
  (List.range count).flatMap (fun i => leBytes 32 (tabGet 0 s.store (recKey ch (first + i))).toNat)

theorem State.mbxRead_clean {u : State} (hu : u.storeErr = []) (f c ch first count buf : Nat) :
    u.mbxRead f c ch first count buf = u.finishData f c ⟨buf, u.recordsFrom ch first count, Code.OK, false, 0, count⟩ := by
  have hfold (l : List Nat) (bytes : List Nat) : l.foldl (fun (p : State × List Nat × Nat) i =>
      let q := p.1.readPosted ch (first + i) srcMailbox
      (q.1, p.2.1 ++ recordBytes q.2.1, p.2.2 + b2n q.2.2)) (u, bytes, 0)
        = (u, bytes ++ l.flatMap (fun i => leBytes 32 (tabGet 0 u.store (recKey ch (first + i))).toNat), 0) := by
    induction l generalizing bytes with
    | nil => simp
    | cons i l ih =>
      rw [List.foldl_cons]
      simp only [State.readPosted_clean hu]
      exact (ih _).trans (by simp [recordBytes, State.rawRecord])
  rw [State.mbxRead]
  simp only [hfold]
  simp [State.recordsFrom]

/-- A command whose effect has begun writes its buffer and finishes. -/
theorem Runs.finishes_data (h : Runs s f c op a b k) (hd : s.dmaOn = true) (d : DataOut) : (s.begun f a b k).finishData f c d
    = ((s.begun f a b k).emit (.dma d.addr d.bytes)).finishCmd f c d.code d.taint true d.aux d.res := by
  obtain ⟨-, hids, rfl, -, horphan, -⟩ := h
  have hnone : ((s.begun f a b k).flow f).cmds.any (fun q => q.id == k.id && q.orphan) = false := by
    rw [State.begun, State.withCmd_flow]
    simp only [List.any_eq_false, List.mem_append, List.mem_cons]
    rintro q (hq | rfl | hq)
    · simp [hids q (List.mem_append_left _ hq)]
    · simp [horphan]
    · simp [hids q (List.mem_append_right _ hq)]
  have hdma : (s.begun f a b k).dmaOn = true := hd
  rw [State.finishData, hnone, hdma]
  simp

end Sys2Proof.Machine
end

section
/-! What the context commands leave (06, R163, R164; 14, R429). -/

namespace Sys2Proof.Machine

variable {s : State} {f : Fin 64} {c : Nat} {a b : List Cmd} {k : Cmd}

/-- An inline write that nothing at its hub holds up stores its record. -/
theorem Runs.ctxWrite_stores (h : Runs s f c 0x0100 a b k) (hin : ctxInline k.entry = true) (hok : ctxOk k.entry = true)
    (hon : s.domOn (halfOf (k.ctxChan / 64)) = true) (hw : s.bit (BNK_CUESTAT_WIPING (k.ctxChan / 64)) = false)
    (hq : (s.bank (k.ctxChan / 64)).cueq.any (fun i => s.ordersStore i) = false) (buf : List Byte) :
    ∃ t, exec (.ctxWrite f c buf) s = .next t ∧ CmdNow s t f a b (k.done Code.OK false false 0 1) ∧
      tabGet 0 t.store (recKey k.ctxChan k.ctxFirst) = BitVec.ofNat 256 (ent k.entry 32 32) ∧
      tabGet 0 t.storeErr (recKey k.ctxChan k.ctxFirst) = 0 ∧ SameRecords [recKey k.ctxChan k.ctxFirst] s t ∧
      t = { s with flows := t.flows, store := t.store, storeErr := t.storeErr } := by
  rw [exec_ctxWrite_inline h hin, ctxWrite_inline (u := s.begun f a b k) hok hin hon, State.storeAccess_free (s := s.begun f a b k) hw hq,
    State.doHeld, State.mbxWrite_one]
  refine ⟨_, rfl, h.finishes rfl _ _ _ _ _, tabGet_tabSet_same _ _ _ _, tabGet_tabSet_same 0 s.storeErr _ 0,
    (s.begun f a b k).putRecord_sameRecords _ _ _, ?_⟩
  exact State.eq_of_without (l := [.flows, .store, .storeErr]) ((State.finishCmd_without (by decide) _ _ _ _ _ _ _ _).trans
    ((State.putRecord_without (by decide) (by decide) _ _ _ _).trans (s.begun_without (by decide) f a b k)))

/-- Behind a wipe, a cue or another access it waits at its hub. -/
theorem Runs.ctxWrite_waits (h : Runs s f c 0x0100 a b k) (hin : ctxInline k.entry = true) (hok : ctxOk k.entry = true)
    (hon : s.domOn (halfOf (k.ctxChan / 64)) = true)
    (hwait : s.bit (BNK_CUESTAT_WIPING (k.ctxChan / 64)) = true ∨ (s.bank (k.ctxChan / 64)).cueq.any (fun i => s.ordersStore i) = true) (buf : List Byte) :
    ∃ t, exec (.ctxWrite f c buf) s = .next t ∧ (t.bank (k.ctxChan / 64)).cueq
        = (s.bank (k.ctxChan / 64)).cueq ++ [.access (.mbxWrite f c k.ctxChan k.ctxFirst [BitVec.ofNat 256 (ent k.entry 32 32)])] ∧
      CmdNow s t f a b { k with st := .started } ∧ t = { s with flows := t.flows, banks := t.banks } ∧ SameBanks [k.ctxChan / 64] s t := by
  rw [exec_ctxWrite_inline h hin, ctxWrite_inline (u := s.begun f a b k) hok hin hon, State.storeAccess_waits (s := s.begun f a b k) hwait]
  refine ⟨_, rfl, ?_, (cmdNow_withCmd s f a b _).of_flows (State.setBank_flows _ _ _), ?_, fun m hm => ?_⟩
  · rw [State.setBank_bank]
    rfl
  · exact State.eq_of_without (l := [.flows, .banks]) ((State.setBank_without (by decide) _ _ _).trans (s.begun_without (by decide) f a b k))
  · exact State.setBank_bank_other _ _ (List.ne_of_not_mem_cons hm)

/-- A read of clean records writes them to the buffer. -/
theorem Runs.ctxRead_writes (h : Runs s f c 0x0101 a b k) (hd : s.dmaOn = true) (hok : ctxOk k.entry = true)
    (hbuf : bufOk k.entry (32 * k.ctxCount) = true) (hon : s.domOn (halfOf (k.ctxChan / 64)) = true)
    (hw : s.bit (BNK_CUESTAT_WIPING (k.ctxChan / 64)) = false) (hq : (s.bank (k.ctxChan / 64)).cueq.any (fun i => s.ordersStore i) = false)
    (hclean : s.storeErr = []) :
    ∃ t, exec (.ctxRead f c) s = .next t ∧ CmdNow s t f a b (k.done Code.OK false true 0 k.ctxCount) ∧
      t.out = .dma (entAddr k.entry) (s.recordsFrom k.ctxChan k.ctxFirst k.ctxCount) :: s.out ∧ t = { s with flows := t.flows, out := t.out } := by
  rw [exec_ctxRead_access h hd (by simp [hok, hbuf]) hon, State.storeAccess_free (s := s.begun f a b k) hw hq, State.doHeld,
    State.mbxRead_clean (u := s.begun f a b k) hclean, h.finishes_data hd]
  refine ⟨_, rfl, h.finishes rfl _ _ _ _ _, rfl, ?_⟩
  exact State.eq_of_without (l := [.flows, .out]) ((State.finishCmd_without (by decide) _ _ _ _ _ _ _ _).trans
    ((State.emit_without (by decide) _ _).trans (s.begun_without (by decide) f a b k)))

end Sys2Proof.Machine
end

section
open Sys2Proof Sys2Proof.Machine

/-- Settles O35: a command finishes by its checks, or is an access to the store that its hub handles at once or in its order. -/
theorem mailboxInformationAndContexts : Obligations.MailboxInformationAndContexts := by
  unfold Obligations.MailboxInformationAndContexts
  refine ⟨?nop, ?devInfo, ?writeStores, ?writeBadInline, ?writeOff, ?writeWaits, ?writeBad, ?writeUnread, ?read, ?readFails, ?noDma, ?add, ?remove,
    ?absent, ?running, ?badParam⟩
  case nop =>
    intro f c a b k s h
    exact ⟨_, congrArg Host.Outcome.next (h.begins _), h.finishes_now _ _ _ _ _⟩
  case devInfo =>
    intro f c a b k s h
    exact ⟨_, congrArg Host.Outcome.next (h.begins _), h.finishes_now _ _ _ _ _⟩
  case writeStores =>
    intro f c a b k s buf h hin hok hon hw hq
    exact h.ctxWrite_stores hin hok hon hw hq buf
  case writeBadInline =>
    intro f c a b k s buf h hin hok
    exact ⟨_, (exec_ctxWrite_inline h hin buf).trans (by rw [ctxWrite_badParam (Or.inl hok)]), h.fails _⟩
  case writeOff =>
    intro f c a b k s buf h hin hok hbuf hlen hd hoff
    have hread : ¬ (ctxOk k.entry = true ∧ bufOk k.entry (32 * k.ctxCount) = true ∧ buf.length < 32 * k.ctxCount) := fun hc => Nat.ne_of_lt hc.2.2 hlen
    exact ⟨_, (exec_ctxWrite_read h hin hd hread).trans (by rw [ctxWrite_powerOff (u := s.begun f a b k) hok hbuf hoff]), h.fails _⟩
  case writeWaits =>
    intro f c a b k s buf h hin hok hon hwait
    exact h.ctxWrite_waits hin hok hon hwait buf
  case writeBad =>
    intro f c a b k s buf h hin hbad hd
    have hread : ¬ (ctxOk k.entry = true ∧ bufOk k.entry (32 * k.ctxCount) = true ∧ buf.length < 32 * k.ctxCount) := by
      rcases hbad with hbad | hbad <;> simp [hbad]
    exact ⟨_, (exec_ctxWrite_read h hin hd hread).trans (by rw [ctxWrite_badParam (hbad.imp_right fun hb => ⟨hin, hb⟩)]), h.fails _⟩
  case writeUnread =>
    intro f c a b k s buf h hin hok hbuf hlen
    exact exec_ctxWrite_unread h hin hok hbuf hlen
  case read =>
    intro f c a b k s h hok hbuf hd hon hw hq hclean
    exact h.ctxRead_writes hd hok hbuf hon hw hq hclean
  case readFails =>
    intro f c a b k s h hd hfail
    by_cases hbad : ctxOk k.entry = false ∨ bufOk k.entry (32 * k.ctxCount) = false
    · rw [if_pos hbad]
      exact ⟨_, exec_ctxRead_badParam h hd hbad, h.fails _⟩
    · have hoff : s.domOn (halfOf (k.ctxChan / 64)) = false :=
        hfail.elim (fun h1 => absurd (Or.inl h1) hbad) fun h2 => h2.resolve_left fun h3 => hbad (Or.inr h3)
      rw [if_neg hbad]
      exact ⟨_, exec_ctxRead_powerOff h hd hbad hoff, h.fails _⟩
  case noDma =>
    intro f c a b k s h hd q hq hop
    exact exec_bufferWriter_waits hd hq
  case add =>
    intro f c a b k s h hg hop hk hn hok
    obtain ⟨t, hexec, hcmd, hmember, hgroup, hframe, hwords⟩ := h.grpMembers_taken hg hop (by decide) hk hn hok (State.memberChange_add _ _ _)
    refine ⟨t, hexec, hcmd, hmember.trans ?_, hgroup.trans ?_, hframe, hwords⟩
    · simp only [wbit, fld, BitVec.toNat_ofNat, bne_iff_ne]
      omega
    · simp only [fld, BitVec.toNat_ofNat]
      omega
  case remove =>
    intro f c a b k s h hg hop hk hn hmember hok
    obtain ⟨t, hexec, hcmd, hbit, -, hframe, hwords⟩ :=
      h.grpMembers_taken hg hop (by decide) hk hn hok (State.memberChange_remove (u := s.begun f a b k) hmember)
    exact ⟨t, hexec, hcmd, hbit, hframe, hwords⟩
  case absent =>
    intro f c a b k s h hg hop hk hn hmember
    exact h.grpMembers_absent hg hop hk hn hmember
  case running =>
    intro f c a b k s h hg hop hk hn hok
    exact h.grpMembers_refused hg hop hk hn hok
  case badParam =>
    intro f c a b k s h hbad
    exact ⟨_, (exec_grpMembers h).trans (by rw [grpMembers_badParam hbad]), h.fails _⟩

end

section
/-! The commands of a group on their way (06, R175, R186). -/

namespace Sys2Proof.Machine

variable {l : List Part} {g id : Nat} {h : GOp → GOp}

theorem State.modOp_eq (s : State) (g id : Nat) (h : GOp → GOp) :
    s.modOp g id h = s.setGroup g { s.group g with ops := (s.group g).ops.map (fun o => if o.id = id then h o else o) } :=
  State.modGroup_eq _ _ _

theorem State.modOp_without (hg : .groups ∈ l) (s : State) (g id : Nat) (h : GOp → GOp) : (s.modOp g id h).without l = s.without l := by
  rw [State.modOp_eq, State.setGroup_without hg]

theorem State.modOp_sameGroups (s : State) (g id : Nat) (h : GOp → GOp) : SameGroups [g] s (s.modOp g id h) := fun m hm => by
  rw [State.modOp_eq, State.setGroup_group_other _ _ (List.ne_of_not_mem_cons hm)]

theorem State.modOp_word (s : State) (g id : Nat) (h : GOp → GOp) (a : Nat) : (s.modOp g id h).word a = s.word a := by
  rw [State.modOp_eq, State.setGroup_word]

/-- A change of a command that keeps its number is the change of the command that has this number. -/
theorem State.modOp_opOf (hid : ∀ o, (h o).id = o.id) (s : State) : (s.modOp g id h).opOf g id = (s.opOf g id).map h := by
  have hsame : ((fun o : GOp => o.id == id) ∘ fun o => if o.id = id then h o else o) = fun o => o.id == id := by
    funext o
    by_cases ho : o.id = id
    · simp [ho, hid]
    · simp [ho]
  rw [State.modOp_eq, State.opOf, State.setGroup_group, List.find?_map, hsame, ← State.opOf]
  cases hop : s.opOf g id with
  | none => rfl
  | some o =>
    have ho : o.id = id := by simpa using List.find?_some hop
    simp [ho]

theorem State.opOf_of_group {s t : State} (hgrp : t.group g = s.group g) : t.opOf g id = s.opOf g id := by
  rw [State.opOf, State.opOf, hgrp]

end Sys2Proof.Machine
end

section
/-! The cue engine takes a command (06, R164, R186, R191). -/

namespace Sys2Proof.Machine

variable {l : List Part} {s t : State} {b g id a : Nat} {rest : List HubItem} {op : GOp}

/-! ### The accesses behind a command -/

/-- With no access at the hub none is handled. -/
theorem State.drainHub_of_no_access (h : ∀ x, .access x ∉ (s.bank b).cueq) (k : Nat) : s.drainHub b k = s := by
  cases k with
  | zero => rfl
  | succ k =>
    rw [State.drainHub]
    split
    next x rest hq => exact absurd (hq ▸ List.mem_cons_self) (h x)
    next => rfl

/-- Items of which every one is a command hold no access. -/
theorem no_access_of_all {p : HubItem → Bool} (hp : ∀ x, p (.access x) = false) (h : rest.all p = true) (x : Held) : .access x ∉ rest := fun hx => by
  have := List.all_eq_true.1 h _ hx
  rw [hp] at this
  exact absurd this (by decide)

/-! ### The command leaves the hub -/

/-- The item at the front of the hub is gone and counted. -/
def State.cueTaken (s : State) (b : Nat) : State := (s.setBank b { s.bank b with cueq := (s.bank b).cueq.drop 1 }).inc (BNK_CUECNT_COUNT b)

theorem State.cueTaken_without (hr : .regs ∈ l) (hb : .banks ∈ l) (s : State) (b : Nat) : (s.cueTaken b).without l = s.without l := by
  rw [State.cueTaken, State.inc_eq, State.put_without hr, State.setBank_without hb]

theorem State.cueTaken_word (s : State) (b : Nat) (h : a ≠ BNK_CUECNT b) : (s.cueTaken b).word a = s.word a := by
  rw [State.cueTaken, State.inc_eq, State.put_word_other (r := BNK_CUECNT_COUNT b) _ _ h, State.setBank_word]

theorem State.cueTaken_count (s : State) (b : Nat) :
    (s.cueTaken b).get (BNK_CUECNT_COUNT b) = min (s.get (BNK_CUECNT_COUNT b) + 1) (2 ^ (BNK_CUECNT_COUNT b).len - 1) := by
  rw [State.cueTaken, State.inc_eq, State.put_get _ (by simp [Ref.fits, BNK_CUECNT_COUNT]), Nat.mod_eq_of_lt]
  · rw [State.setBank_get]
  · simp only [BNK_CUECNT_COUNT]
    omega

theorem State.cueTaken_bank (s : State) (b : Nat) : (s.cueTaken b).bank b = { s.bank b with cueq := (s.bank b).cueq.drop 1 } := by
  rw [State.cueTaken, State.inc_eq, State.put_bank, State.setBank_bank]

theorem State.cueTaken_sameBanks (s : State) (b : Nat) : SameBanks [b] s (s.cueTaken b) := fun m hm => by
  rw [State.cueTaken, State.inc_eq, State.put_bank, State.setBank_bank_other _ _ (List.ne_of_not_mem_cons hm)]

theorem State.cueTaken_group (s : State) (b g : Nat) : (s.cueTaken b).group g = s.group g :=
  State.group_of_without (s.cueTaken_without (l := [.regs, .banks]) (by decide) (by decide) b) (by decide) g

/-! ### What the engine makes of it -/

/-- A hub has reported. -/
def GOp.reportedBy (b : Nat) (o : GOp) : GOp := { o with waiting := o.waiting.erase b }

/-- The check of a cue is noted. -/
def GOp.checkedWith (r : Option Nat) (o : GOp) : GOp := { o with checked := true, refused := r }

theorem GOp.checkedWith_eq (r : Option Nat) : (fun o : GOp => { o with checked := true, refused := r }) = GOp.checkedWith r := rfl

theorem State.cueTaken_opOf (s : State) (b g id : Nat) : (s.cueTaken b).opOf g id = s.opOf g id := State.opOf_of_group (s.cueTaken_group b g)

/-- The command leaves the hub before the engine looks at it. -/
theorem State.cueTaken_eq (s : State) (b : Nat) : (s.modBank b (fun x => { x with cueq := x.cueq.drop 1 })).inc (BNK_CUECNT_COUNT b) = s.cueTaken b := by
  rw [State.cueTaken, State.modBank_eq]

theorem State.takeCmd_of_no_op (hop : s.opOf g id = none) : s.takeCmd b g id = s.cueTaken b := by
  simp only [State.takeCmd, State.cueTaken_eq, State.cueTaken_opOf, hop]

/-- One that is no cue is reported. -/
theorem State.takeCmd_of_no_cue (hop : s.opOf g id = some op) (hslot : op.cmd.slotCtx = none) :
    s.takeCmd b g id = (s.cueTaken b).modOp g id (GOp.reportedBy b) := by
  simp only [State.takeCmd, State.cueTaken_eq, State.cueTaken_opOf, hop, hslot]
  rfl

/-- The refusal of a cue as the engine finds it: that of the first hub, or the one it finds. -/
def State.refusalOf (s : State) (g : Nat) (op : GOp) : Option Nat := if op.checked then op.refused else s.cueRefusal g op.cmd

/-- A cue that is refused is reported. -/
theorem State.takeCmd_refused (hop : s.opOf g id = some op) {slot ctx r : Nat} (hslot : op.cmd.slotCtx = some (slot, ctx))
    (href : (s.cueTaken b).refusalOf g op = some r) :
    s.takeCmd b g id = ((s.cueTaken b).modOp g id (GOp.checkedWith (some r))).modOp g id (GOp.reportedBy b) := by
  rw [State.refusalOf] at href
  simp only [State.takeCmd, State.cueTaken_eq, State.cueTaken_opOf, hop, hslot, href, Option.isSome_some, ↓reduceIte]
  rfl

/-- A hub has the records of a cue. -/
def State.withJob (s : State) (b g id : Nat) (r : List (Nat × Record × Bool)) (ces : Nat) : State :=
  s.modBank b (fun x => { x with jobs := x.jobs ++ [{ g := g, id := id, loaded := r, ces := ces }] })

/-- Of a cue that no rule refuses the records of the members are read. -/
theorem State.takeCmd_reads (hop : s.opOf g id = some op) {slot ctx : Nat} (hslot : op.cmd.slotCtx = some (slot, ctx))
    (href : (s.cueTaken b).refusalOf g op = none) {u : State} (hu : u = (s.cueTaken b).modOp g id (GOp.checkedWith none)) :
    s.takeCmd b g id = (u.cueReads (u.membersIn g b) ctx).1.withJob b g id (u.cueReads (u.membersIn g b) ctx).2.1 (u.cueReads (u.membersIn g b) ctx).2.2 := by
  rw [State.refusalOf] at href
  simp only [State.takeCmd, State.cueTaken_eq, State.cueTaken_opOf, hop, hslot, href, Option.isSome_none, Bool.false_eq_true, ↓reduceIte,
    GOp.checkedWith_eq, ← hu]
  rfl

/-! ### The reads of a cue -/

theorem State.readRecord_without (hr : .regs ∈ l) (hs : .store ∈ l) (he : .storeErr ∈ l) (s : State) (ch ctx src : Nat) :
    (s.readRecord ch ctx src).1.without l = s.without l := by
  unfold State.readRecord
  dsimp only
  split <;> simp [State.eccLast, hr, State.putRecord_without hs he]

theorem State.cueReads_without (hr : .regs ∈ l) (hs : .store ∈ l) (he : .storeErr ∈ l) (s : State) (ns : List Nat) (ctx : Nat) :
    (s.cueReads ns ctx).1.without l = s.without l := by
  refine foldl_keeps (fun p : State × List (Nat × Record × Bool) × Nat => p.1.without l) (fun p n _ => ?_) (s, [], 0)
  have hread := State.readRecord_without hr hs he p.1 n ctx srcCue
  dsimp only
  generalize p.1.readRecord n ctx srcCue = r at hread
  obtain ⟨u, d, o⟩ := r
  cases o with
  | clean => exact hread
  | corrected =>
    dsimp only
    rw [State.inc_eq, State.put_without hr, hread]
  | double => exact hread

theorem State.cueReads_word (h : apartFromErrors a) (hn : ∀ n, a ≠ CH_ECCCE n) (s : State) (ns : List Nat) (ctx : Nat) :
    (s.cueReads ns ctx).1.word a = s.word a := by
  refine foldl_keeps (fun p : State × List (Nat × Record × Bool) × Nat => p.1.word a) (fun p n _ => ?_) (s, [], 0)
  have hread := State.readRecord_word h p.1 n ctx srcCue
  dsimp only
  generalize p.1.readRecord n ctx srcCue = r at hread
  obtain ⟨u, d, o⟩ := r
  cases o with
  | clean => exact hread
  | corrected =>
    dsimp only
    rw [State.inc_eq, State.put_word_other (r := CH_ECCCE_COUNT n) _ _ (hn n), hread]
  | double => exact hread

/-- A fold that keeps its state collects. -/
theorem foldl_collects {σ α β : Type} {f : σ × List β × Nat → α → σ × List β × Nat} {u : σ} {h : α → β}
    (hf : ∀ got x, f (u, got, 0) x = (u, got ++ [h x], 0)) (xs : List α) (got : List β) : xs.foldl f (u, got, 0) = (u, got ++ xs.map h, 0) := by
  induction xs generalizing got with
  | nil => simp
  | cons x xs ih => rw [List.foldl_cons, hf, ih, List.map_cons, List.append_assoc, List.singleton_append]

/-- Of a store without errors every record is read as it stands. -/
theorem State.cueReads_clean (h : s.storeErr = []) (ns : List Nat) (ctx : Nat) :
    s.cueReads ns ctx = (s, ns.map (fun n => (n, s.rawRecord n ctx, false)), 0) := by
  rw [State.cueReads]
  refine foldl_collects (fun got n => ?_) ns []
  simp only [State.readRecord_clean h]

/-! ### What a take leaves -/

theorem State.withJob_bank (s : State) (b g id : Nat) (r : List (Nat × Record × Bool)) (ces : Nat) : (s.withJob b g id r ces).bank b
    = { s.bank b with jobs := (s.bank b).jobs ++ [{ g := g, id := id, loaded := r, ces := ces }] } := by
  rw [State.withJob, State.modBank_eq, State.setBank_bank]

theorem State.withJob_word (s : State) (b g id : Nat) (r : List (Nat × Record × Bool)) (ces : Nat) : (s.withJob b g id r ces).word a = s.word a := by
  rw [State.withJob, State.modBank_eq, State.setBank_word]

/-- Whatever the command is, its take leaves the rest of the hub's queue and the count of takes. -/
theorem State.takeCmd_keeps (s : State) (b g id : Nat) : ((s.takeCmd b g id).bank b).cueq = (s.bank b).cueq.drop 1 ∧
    ∀ a, apartFromErrors a → (∀ n, a ≠ CH_ECCCE n) → (s.takeCmd b g id).word a = (s.cueTaken b).word a := by
  have htaken : ((s.cueTaken b).bank b).cueq = (s.bank b).cueq.drop 1 := by rw [State.cueTaken_bank]
  have hmod (u : State) (h : GOp → GOp) : ((u.modOp g id h).bank b).cueq = (u.bank b).cueq := by rw [State.modOp_eq, State.setGroup_bank]
  rcases hop : s.opOf g id with _ | op
  · rw [State.takeCmd_of_no_op hop]
    exact ⟨htaken, fun _ _ _ => rfl⟩
  rcases hslot : op.cmd.slotCtx with _ | ⟨slot, ctx⟩
  · rw [State.takeCmd_of_no_cue hop hslot]
    exact ⟨(hmod _ _).trans htaken, fun _ _ _ => State.modOp_word _ _ _ _ _⟩
  rcases href : (s.cueTaken b).refusalOf g op with _ | r
  · rw [State.takeCmd_reads hop hslot href rfl]
    refine ⟨?_, fun x hx hn => ?_⟩
    · rw [State.withJob_bank, State.bank_of_without (State.cueReads_without (l := [.regs, .store, .storeErr]) (by decide) (by decide) (by decide) _ _ _) (by decide)]
      exact (hmod _ _).trans htaken
    · rw [State.withJob_word, State.cueReads_word hx hn, State.modOp_word]
  · rw [State.takeCmd_refused hop hslot href]
    exact ⟨(hmod _ _).trans ((hmod _ _).trans htaken), fun _ _ _ => (State.modOp_word _ _ _ _ _).trans (State.modOp_word _ _ _ _ _)⟩

/-- A command that is no cue, or that a rule has refused, is reported. -/
theorem State.takeCmd_reported (hop : s.opOf g id = some op) (h : op.cmd.slotCtx = none ∨ (op.checked = true ∧ op.refused ≠ none)) :
    (s.takeCmd b g id).opOf g id = some (op.reportedBy b) ∧ (∀ l, .groups ∈ l → (s.takeCmd b g id).without l = (s.cueTaken b).without l) ∧
      SameGroups [g] s (s.takeCmd b g id) ∧ ∀ x, (s.takeCmd b g id).word x = (s.cueTaken b).word x := by
  have htaken : (s.cueTaken b).opOf g id = some op := (s.cueTaken_opOf b g id).trans hop
  rcases hslot : op.cmd.slotCtx with _ | ⟨slot, ctx⟩
  · rw [State.takeCmd_of_no_cue hop hslot]
    refine ⟨?_, fun l hl => State.modOp_without hl _ _ _ _, fun m hm => ?_, State.modOp_word _ _ _ _⟩
    · rw [State.modOp_opOf (h := GOp.reportedBy b) fun _ => rfl, htaken]
      rfl
    · rw [State.modOp_sameGroups _ _ _ _ m hm, State.cueTaken_group]
  · obtain ⟨hchecked, hsome⟩ := h.resolve_left (by simp [hslot])
    obtain ⟨r, href⟩ := Option.ne_none_iff_exists'.1 hsome
    rw [State.takeCmd_refused hop hslot (by rw [State.refusalOf, if_pos hchecked, href])]
    refine ⟨?_, fun l hl => ?_, fun m hm => ?_, fun x => ?_⟩
    · rw [State.modOp_opOf (h := GOp.reportedBy b) fun _ => rfl, State.modOp_opOf (h := GOp.checkedWith (some r)) fun _ => rfl, htaken, ← href, ← GOp.checkedWith_eq, ← hchecked]
      rfl
    · rw [State.modOp_without hl, State.modOp_without hl]
    · rw [State.modOp_sameGroups _ _ _ _ m hm, State.modOp_sameGroups _ _ _ _ m hm, State.cueTaken_group]
    · rw [State.modOp_word, State.modOp_word]

/-! ### The check of a cue at its take -/

/-- The counter of takes lies below the registers of groups and channels. -/
theorem BNK_CUECNT_lt : ∀ {b : Nat}, b < 8 → BNK_CUECNT b < 0xE0000 := by
  simp only [BNK_CUECNT]
  omega

theorem State.cueTaken_members (s : State) (hb : b < 8) (k : Nat) : (s.cueTaken b).members k = s.members k := by
  have hcnt := BNK_CUECNT_lt hb
  exact State.members_of_word (fun n => s.cueTaken_word b (by simp only [CH_GRP]; omega)) k

theorem State.cueTaken_memberBanks (s : State) (hb : b < 8) (k : Nat) : (s.cueTaken b).memberBanks k = s.memberBanks k := by
  simp only [State.memberBanks, s.cueTaken_members hb]

theorem State.cueTaken_powerOff (s : State) (hb : b < 8) (g : Nat) : (s.cueTaken b).powerOff g = s.powerOff g := by
  have hdom (c : Nat) (hc : c ∈ (List.range 8).filter fun c => (s.members g).any fun n => n / 64 == c) :
      (!(s.cueTaken b).domOn (halfOf c)) = !s.domOn (halfOf c) := by
    have hc8 : c < 8 := List.mem_range.1 (List.mem_of_mem_filter hc)
    have hword : (s.cueTaken b).word (PWR_PDSTAT_STATE (halfOf c)).addr = s.word (PWR_PDSTAT_STATE (halfOf c)).addr := by
      refine s.cueTaken_word b ?_
      simp only [PWR_PDSTAT_STATE, PWR_PDSTAT, halfOf, BNK_CUECNT]
      omega
    rw [State.domOn, State.domOn, State.get_of_word hword]
  rw [State.powerOff, State.powerOff, s.cueTaken_memberBanks hb, Bool.eq_iff_iff, List.any_eq_true, List.any_eq_true]
  refine exists_congr fun c => and_congr_right fun hc => ?_
  rw [hdom c hc]

theorem State.cueTaken_rootOf (s : State) (b c : Nat) : (s.cueTaken b).rootOf c = s.rootOf c := by
  have hword : (s.cueTaken b).word (BNK_STAT_ROOTACT c).addr = s.word (BNK_STAT_ROOTACT c).addr := by
    refine s.cueTaken_word b ?_
    simp only [BNK_STAT_ROOTACT, BNK_STAT, BNK_CUECNT]
    omega
  rw [State.rootOf, State.rootOf, State.get_of_word hword]

theorem State.cueTaken_nextEpoch (s : State) (hb : b < 8) (g : Nat) : (s.cueTaken b).nextEpoch g = s.nextEpoch g := by
  have hcnt := BNK_CUECNT_lt hb
  have hword : (s.cueTaken b).word (GRP_EPOCH_EPOCH g).addr = s.word (GRP_EPOCH_EPOCH g).addr := by
    refine s.cueTaken_word b ?_
    simp only [GRP_EPOCH_EPOCH, GRP_EPOCH]
    omega
  rw [State.nextEpoch, State.nextEpoch, State.get_of_word hword]

theorem State.split_of_banks (hbanks : t.memberBanks g = s.memberBanks g) (hroot : ∀ c, t.rootOf c = s.rootOf c) : t.split g = s.split g := by
  unfold State.split
  rw [hbanks]
  cases s.memberBanks g with
  | nil => rfl
  | cons c cs => simp only [hroot]

/-- What the rules that refuse a cue look at. -/
theorem State.cueRefusal_of_same (hpower : t.powerOff g = s.powerOff g) (hsplit : t.split g = s.split g) (hgrp : t.group g = s.group g)
    (hepoch : t.nextEpoch g = s.nextEpoch g) (cmd : TCmd) : t.cueRefusal g cmd = s.cueRefusal g cmd := by
  have hcommon : t.commonRefusal g cmd = s.commonRefusal g cmd := by
    unfold State.commonRefusal
    rw [hpower, hsplit]
  unfold State.cueRefusal
  rw [hcommon, hgrp, hepoch]

/-- The take does not bear on them. -/
theorem State.cueTaken_cueRefusal (s : State) (hb : b < 8) (g : Nat) (cmd : TCmd) : (s.cueTaken b).cueRefusal g cmd = s.cueRefusal g cmd :=
  State.cueRefusal_of_same (s.cueTaken_powerOff hb g) (State.split_of_banks (s.cueTaken_memberBanks hb g) (s.cueTaken_rootOf b)) (s.cueTaken_group b g)
    (s.cueTaken_nextEpoch hb g) cmd

/-! ### The engine -/

theorem exec_cueEngineTake {b : Fin 8} (hq : (s.bank b).cueq = .cmd g id :: rest) (hclk : s.get (BNK_STAT_DLLSTATE b) ≠ 0)
    (hw : s.bit (BNK_CUESTAT_WIPING b) = false) :
    exec (.cueEngineTake b) s = .next ((s.takeCmd b g id).drainHub b (s.bank b).cueq.length) := by
  change execCueEngineTake b s = _
  unfold execCueEngineTake
  simp only [hq]
  rw [if_pos ⟨hclk, hw⟩, cueEngineTake, hq]

theorem State.takeCmd_cueq (hq : (s.bank b).cueq = .cmd g id :: rest) : ((s.takeCmd b g id).bank b).cueq = rest := by
  rw [(s.takeCmd_keeps b g id).1, hq]
  rfl

theorem exec_cueEngineTake_alone {b : Fin 8} (hq : (s.bank b).cueq = .cmd g id :: rest) (hclk : s.get (BNK_STAT_DLLSTATE b) ≠ 0)
    (hw : s.bit (BNK_CUESTAT_WIPING b) = false) (hrest : ∀ x, .access x ∉ rest) : exec (.cueEngineTake b) s = .next (s.takeCmd b g id) := by
  rw [exec_cueEngineTake hq hclk hw, State.drainHub_of_no_access]
  rwa [State.takeCmd_cueq hq]

theorem apartFromErrors_CUECNT (b : Nat) : apartFromErrors (BNK_CUECNT b) :=
  ⟨by simp only [BNK_CUECNT]; omega, fun c => by simp only [BNK_CUECNT, BNK_ECCCE, BNK_ECCUE, BNK_ECCLAST]; omega⟩

/-- A take counts, whatever the command is. -/
theorem State.takeCmd_count (hb : b < 8) (s : State) (g id : Nat) : (s.takeCmd b g id).get (BNK_CUECNT_COUNT b)
    = min (s.get (BNK_CUECNT_COUNT b) + 1) (2 ^ (BNK_CUECNT_COUNT b).len - 1) := by
  have hcnt := BNK_CUECNT_lt hb
  have hchan (n : Nat) : BNK_CUECNT b ≠ CH_ECCCE n := by
    simp only [CH_ECCCE]
    omega
  rw [← s.cueTaken_count b]
  exact State.get_of_word ((s.takeCmd_keeps b g id).2 _ (apartFromErrors_CUECNT b) hchan)

/-- The accesses that are handled behind a command leave the count of takes. -/
theorem State.drainHub_count (s : State) (b k : Nat) : (s.drainHub b k).get (BNK_CUECNT_COUNT b) = s.get (BNK_CUECNT_COUNT b) :=
  State.get_of_word (State.drainHub_word (apartFromErrors_CUECNT b) _ _ _)

/-- The take of a clean cue reads the records of the members at the hub. -/
theorem State.takeCmd_clean (hb : b < 8) (hop : s.opOf g id = some op) {slot ctx : Nat} (hslot : op.cmd.slotCtx = some (slot, ctx))
    (hchecked : op.checked = false) (href : s.cueRefusal g op.cmd = none) (hclean : s.storeErr = []) :
    s.takeCmd b g id = ((s.cueTaken b).modOp g id (GOp.checkedWith none)).withJob b g id ((s.membersIn g b).map (fun n => (n, s.rawRecord n ctx, false))) 0 := by
  have hnone : (s.cueTaken b).refusalOf g op = none := by
    rw [State.refusalOf, if_neg (by simp [hchecked]), s.cueTaken_cueRefusal hb, href]
  obtain ⟨u, hu⟩ : ∃ u, u = (s.cueTaken b).modOp g id (GOp.checkedWith none) := ⟨_, rfl⟩
  have hframe : u.without [.regs, .banks, .groups] = s.without [.regs, .banks, .groups] :=
    hu ▸ (State.modOp_without (by decide) _ _ _ _).trans (s.cueTaken_without (by decide) (by decide) b)
  have hmembers : u.membersIn g b = s.membersIn g b := by
    rw [State.membersIn, State.membersIn, State.members_of_word (fun n => hu ▸ State.modOp_word _ _ _ _ _), s.cueTaken_members hb]
  have hraw (n : Nat) : u.rawRecord n ctx = s.rawRecord n ctx := by
    rw [State.rawRecord, State.rawRecord, State.store_of_without hframe (by decide)]
  have herr : u.storeErr = [] := (congrArg State.storeErr hframe).trans hclean
  rw [State.takeCmd_reads hop hslot hnone hu, State.cueReads_clean herr, hmembers, ← hu]
  simp only [hraw]

end Sys2Proof.Machine
end

section
/-! The records of a cue are loaded (06, R167, R168, R178 to R181). -/

namespace Sys2Proof.Machine

variable {l : List Part} {s t u : State} {b g id n slot ctx : Nat} {j : CueJob} {js : List CueJob} {op : GOp}

/-! ### One member -/

/-- The record of a member: in its slot at once, or a load from a cycle on. -/
def Cyc.cued (slot ctx : Nat) (d : Record) (void : Bool) (e : Option Nat) (c : Cyc) : Cyc :=
  match e with
  | some k => { c with loads := c.loads ++ [.cue slot ctx d void k] }
  | none => c.loadLive slot ctx d void

/-- What one member of a job gets, and what all of them get, one after the other. -/
def State.loadEntry (slot ctx : Nat) (e : Option Nat) (s : State) (m : Nat × Record × Bool) : State := s.loadMember m.1 slot ctx m.2.1 m.2.2 e
def State.shadowEntry (slot ctx : Nat) (s : State) (m : Nat × Record × Bool) : State := s.modCyc m.1 (fun c => c.loadShadow slot ctx m.2.1 m.2.2)
def State.voidEntry (slot ctx : Nat) (s : State) (m : Nat × Record × Bool) : State := s.cueVoid m.1 slot ctx
def State.loadMembers (s : State) (ms : List (Nat × Record × Bool)) (slot ctx : Nat) (e : Option Nat) : State := ms.foldl (State.loadEntry slot ctx e) s
def State.loadShadows (s : State) (ms : List (Nat × Record × Bool)) (slot ctx : Nat) : State := ms.foldl (State.shadowEntry slot ctx) s
def State.cueVoids (s : State) (ms : List (Nat × Record × Bool)) (slot ctx : Nat) : State :=
  (ms.filter (fun m => m.2.2)).foldl (State.voidEntry slot ctx) s

theorem State.loadMember_without (hr : .regs ∈ l) (hc : .chans ∈ l) (s : State) (n slot ctx : Nat) (d : Record) (void : Bool) (e : Option Nat) :
    (s.loadMember n slot ctx d void e).without l = s.without l := by
  cases e <;> simp [State.loadMember, State.modCyc_eq, State.setChan_without hc, State.parkRelease_without hr hc]

theorem State.loadMember_chan_other {m : Nat} (h : m ≠ n) (s : State) (slot ctx : Nat) (d : Record) (void : Bool) (e : Option Nat) :
    (s.loadMember n slot ctx d void e).chan m = s.chan m := by
  have hset (f : Cyc → Cyc) : (s.modCyc n f).chan m = s.chan m := by rw [State.modCyc_eq, State.setChan_chan_other _ _ h]
  cases e with
  | some k => exact hset _
  | none =>
    simp only [State.loadMember]
    split
    · rw [State.parkRelease_chan_other _ h, hset]
    · exact hset _

theorem State.loadMember_cyc (s : State) (n slot ctx : Nat) (d : Record) (void : Bool) (e : Option Nat) :
    ((s.loadMember n slot ctx d void e).chan n).cyc = (s.chan n).cyc.cued slot ctx d void e := by
  have hset (f : Cyc → Cyc) : ((s.modCyc n f).chan n).cyc = f (s.chan n).cyc := by rw [State.modCyc_eq, State.setChan_chan]
  cases e with
  | some k => exact hset _
  | none =>
    simp only [State.loadMember]
    split
    · rw [State.parkRelease_cyc, hset]
      rfl
    · exact hset _

theorem State.cueVoid_without (hr : .regs ∈ l) (he : .ep ∈ l) (hm : .msixPend ∈ l) (ho : .out ∈ l) (s : State) (n slot ctx : Nat) :
    (s.cueVoid n slot ctx).without l = s.without l := by
  simp only [State.cueVoid, State.flagCh]
  rw [State.irq_without hm ho, State.log_without hr he hm ho, State.flag_without hr hm ho]

/-! ### All members of a job -/

/-- Each member that a fold serves once has what its own step gives it. -/
theorem foldl_members {α : Type} {f : State → α → State} {key : α → Nat} {G : α → Cyc → Cyc}
    (hother : ∀ u x m, m ≠ key x → (f u x).chan m = u.chan m) (hself : ∀ u x, ((f u x).chan (key x)).cyc = G x (u.chan (key x)).cyc)
    {xs : List α} (hnodup : (xs.map key).Nodup) (s : State) :
    (∀ x ∈ xs, ((xs.foldl f s).chan (key x)).cyc = G x (s.chan (key x)).cyc) ∧ SameChans (xs.map key) s (xs.foldl f s) := by
  induction xs generalizing s with
  | nil => exact ⟨fun x hx => absurd hx List.not_mem_nil, fun _ _ => rfl⟩
  | cons x xs ih =>
    obtain ⟨hx, hxs⟩ := List.nodup_cons.1 hnodup
    obtain ⟨hserved, hsame⟩ := ih hxs (f s x)
    rw [List.foldl_cons]
    refine ⟨fun y hy => ?_, fun m hm => ?_⟩
    · rcases List.mem_cons.1 hy with rfl | hy
      · rw [hsame _ hx, hself]
      · rw [hserved y hy, hother _ _ _ fun hk => hx (hk ▸ List.mem_map_of_mem hy)]
    · obtain ⟨hmx, hmxs⟩ := not_or.1 fun h => hm (List.mem_cons.2 h)
      rw [hsame m hmxs, hother _ _ _ hmx]

theorem State.loadMembers_without (hr : .regs ∈ l) (hc : .chans ∈ l) (s : State) (ms : List (Nat × Record × Bool)) (slot ctx : Nat) (e : Option Nat) :
    (s.loadMembers ms slot ctx e).without l = s.without l :=
  foldl_keeps (State.without l) (fun u _ _ => u.loadMember_without hr hc _ _ _ _ _ _) s

theorem State.loadShadows_without (hc : .chans ∈ l) (s : State) (ms : List (Nat × Record × Bool)) (slot ctx : Nat) :
    (s.loadShadows ms slot ctx).without l = s.without l :=
  foldl_keeps (State.without l) (fun u _ _ => by rw [State.shadowEntry, State.modCyc_eq, State.setChan_without hc]) s

theorem State.cueVoids_without (hr : .regs ∈ l) (he : .ep ∈ l) (hm : .msixPend ∈ l) (ho : .out ∈ l) (s : State) (ms : List (Nat × Record × Bool))
    (slot ctx : Nat) : (s.cueVoids ms slot ctx).without l = s.without l :=
  foldl_keeps (State.without l) (fun u _ _ => u.cueVoid_without hr he hm ho _ _ _) s

theorem State.cueVoids_none {ms : List (Nat × Record × Bool)} (h : ∀ m ∈ ms, m.2.2 = false) (s : State) (slot ctx : Nat) :
    s.cueVoids ms slot ctx = s := by
  have hnone : ms.filter (fun m => m.2.2) = [] := List.filter_eq_nil_iff.2 fun m hm => by simp [h m hm]
  rw [State.cueVoids, hnone]
  rfl

theorem State.loadMembers_cyc {ms : List (Nat × Record × Bool)} (hnodup : (ms.map fun m => m.1).Nodup) (s : State) (slot ctx : Nat) (e : Option Nat) :
    (∀ m ∈ ms, ((s.loadMembers ms slot ctx e).chan m.1).cyc = (s.chan m.1).cyc.cued slot ctx m.2.1 m.2.2 e) ∧
      SameChans (ms.map fun m => m.1) s (s.loadMembers ms slot ctx e) :=
  foldl_members (f := State.loadEntry slot ctx e) (G := fun m => Cyc.cued slot ctx m.2.1 m.2.2 e)
    (fun u _ _ h => u.loadMember_chan_other h _ _ _ _ _) (fun u _ => u.loadMember_cyc _ _ _ _ _ _) hnodup s

theorem State.loadShadows_cyc {ms : List (Nat × Record × Bool)} (hnodup : (ms.map fun m => m.1).Nodup) (s : State) (slot ctx : Nat) :
    (∀ m ∈ ms, ((s.loadShadows ms slot ctx).chan m.1).cyc = (s.chan m.1).cyc.loadShadow slot ctx m.2.1 m.2.2) ∧
      SameChans (ms.map fun m => m.1) s (s.loadShadows ms slot ctx) :=
  foldl_members (f := State.shadowEntry slot ctx) (G := fun m c => c.loadShadow slot ctx m.2.1 m.2.2)
    (fun u _ _ h => by rw [State.shadowEntry, State.modCyc_eq, State.setChan_chan_other _ _ h])
    (fun u _ => by rw [State.shadowEntry, State.modCyc_eq, State.setChan_chan]) hnodup s

/-! ### The end of a job -/

/-- The oldest job of the hub is gone. -/
def State.jobDone (s : State) (b : Nat) : State := s.setBank b { s.bank b with jobs := (s.bank b).jobs.drop 1 }

/-- A hub has noted in the command what its job found. -/
def GOp.jobNoted (j : CueJob) (rest : List Nat) (epoch doneAt : Nat) (o : GOp) : GOp :=
  { o with waiting := rest, ces := o.ces + j.ces, voids := o.voids + (j.loaded.filter (fun m => m.2.2)).length, data := o.data ++ j.loaded,
           epoch := epoch, doneAt := doneAt }

/-- The end of a job before its records are loaded: its void records are reported, and it is noted in its command. -/
def State.jobEnded (s : State) (b : Nat) (j : CueJob) (rest : List Nat) (slot ctx : Nat) : State :=
  ((s.jobDone b).cueVoids j.loaded slot ctx).modOp j.g j.id (GOp.jobNoted j rest
    (((s.jobDone b).cueVoids j.loaded slot ctx).get (GRP_EPOCH_EPOCH j.g)) (((s.jobDone b).cueVoids j.loaded slot ctx).tbOf b))

/-- The cycle from which a cue counts: on a running group the earliest eligible one. -/
def State.effectOf (s : State) (g b : Nat) : Option Nat := if s.running g then some (s.eligible g (s.tbOf b)) else none

theorem State.jobDone_eq (s : State) (b : Nat) : s.modBank b (fun x => { x with jobs := x.jobs.drop 1 }) = s.jobDone b := State.modBank_eq _ _ _

theorem cueCompletion_of_no_cue (h : op.cmd.slotCtx = none) (s : State) (b : Nat) (j : CueJob) : cueCompletion s b j op = s.jobDone b := by
  simp only [cueCompletion, State.jobDone_eq, h]

theorem cueCompletion_of_pcue {ep : Nat} (h : op.cmd = .pcue slot ctx ep) (s : State) (b : Nat) (j : CueJob) :
    cueCompletion s b j op = (s.jobEnded b j (op.waiting.erase b) slot ctx).loadShadows j.loaded slot ctx := by
  simp only [cueCompletion, State.jobDone_eq, h, TCmd.slotCtx]
  rfl

/-- A cue that other hubs still load. -/
theorem cueCompletion_of_cue_waiting (h : op.cmd = .cue slot ctx) (hw : (op.waiting.erase b).isEmpty = false) (s : State) (j : CueJob) :
    cueCompletion s b j op = s.jobEnded b j (op.waiting.erase b) slot ctx := by
  simp only [cueCompletion, State.jobDone_eq, h, TCmd.slotCtx, hw, Bool.false_eq_true, ↓reduceIte]
  rfl

/-- A cue of which this is the last hub. -/
theorem cueCompletion_of_cue_last (h : op.cmd = .cue slot ctx) (hw : op.waiting.erase b = []) (s : State) (j : CueJob) {v : State}
    (hv : v = s.jobEnded b j [] slot ctx) :
    cueCompletion s b j op = (v.loadMembers (op.data ++ j.loaded) slot ctx (v.effectOf j.g b)).modOp j.g j.id
      (fun o => { o with effect := (v.effectOf j.g b).getD 0 }) := by
  rw [hv]
  simp only [cueCompletion, State.jobDone_eq, h, TCmd.slotCtx, hw, List.isEmpty_nil, ↓reduceIte]
  rfl

end Sys2Proof.Machine
end

section
/-! What a take and the end of a job leave (06, R164 to R186). -/

namespace Sys2Proof.Machine

variable {l : List Part} {s t u : State} {g id n slot ctx : Nat} {j : CueJob} {js : List CueJob} {op : GOp} {rest : List HubItem}

/-! ### The take -/

/-- What the take of a reported command leaves. -/
theorem exec_cueEngineTake_reported {b : Fin 8} (hq : (s.bank b).cueq = .cmd g id :: rest) (hclk : s.get (BNK_STAT_DLLSTATE b) ≠ 0)
    (hw : s.bit (BNK_CUESTAT_WIPING b) = false) (hop : s.opOf g id = some op)
    (h : op.cmd.slotCtx = none ∨ (op.checked = true ∧ op.refused ≠ none)) (hrest : ∀ x, .access x ∉ rest) :
    ∃ t, exec (.cueEngineTake b) s = .next t ∧ t.opOf g id = some { op with waiting := op.waiting.erase b.val } ∧ (t.bank b).jobs = (s.bank b).jobs ∧
      t = { s with regs := t.regs, banks := t.banks, groups := t.groups } ∧ SameBanks [b.val] s t ∧ SameGroups [g] s t ∧ SameWords [BNK_CUECNT b] s t := by
  obtain ⟨hopt, hframe, hgroups, hwords⟩ := State.takeCmd_reported (b := b) hop h
  have hbank (m : Nat) := State.bank_of_without (hframe [.groups] (by decide)) (by decide) m
  refine ⟨_, exec_cueEngineTake_alone hq hclk hw hrest, hopt, ?_, ?_, fun m hm => ?_, hgroups, fun x hx => ?_⟩
  · rw [hbank, State.cueTaken_bank]
  · exact State.eq_of_without ((hframe _ (by decide)).trans (s.cueTaken_without (l := [.regs, .banks, .groups]) (by decide) (by decide) b))
  · rw [hbank, s.cueTaken_sameBanks b m hm]
  · rw [hwords, s.cueTaken_word b (List.ne_of_not_mem_cons hx)]

/-- What the take of a clean cue leaves. -/
theorem exec_cueEngineTake_clean {b : Fin 8} (hq : (s.bank b).cueq = .cmd g id :: rest) (hclk : s.get (BNK_STAT_DLLSTATE b) ≠ 0)
    (hw : s.bit (BNK_CUESTAT_WIPING b) = false) (hop : s.opOf g id = some op) (hslot : op.cmd.slotCtx = some (slot, ctx)) (hchecked : op.checked = false)
    (href : s.cueRefusal g op.cmd = none) (hclean : s.storeErr = []) (hrest : ∀ x, .access x ∉ rest) :
    ∃ t, exec (.cueEngineTake b) s = .next t ∧
      (t.bank b).jobs = (s.bank b).jobs ++ [{ g := g, id := id, loaded := (s.membersIn g b).map (fun n => (n, s.rawRecord n ctx, false)), ces := 0 }] ∧
      (t.bank b).cueq = rest ∧ t.get (BNK_CUECNT_COUNT b) = min (s.get (BNK_CUECNT_COUNT b) + 1) (2 ^ (BNK_CUECNT_COUNT b).len - 1) ∧
      t = { s with regs := t.regs, banks := t.banks, groups := t.groups } ∧ SameBanks [b.val] s t ∧ SameGroups [g] s t ∧ SameWords [BNK_CUECNT b] s t := by
  have htake := State.takeCmd_clean b.isLt hop hslot hchecked href hclean
  have hbank (m : Nat) : ((s.cueTaken b).modOp g id (GOp.checkedWith none)).bank m = (s.cueTaken b).bank m := by rw [State.modOp_eq, State.setGroup_bank]
  have hframe : (s.takeCmd b g id).without [.regs, .banks, .groups] = s.without [.regs, .banks, .groups] := by
    rw [htake, State.withJob, State.modBank_eq, State.setBank_without (by decide), State.modOp_without (by decide),
      State.cueTaken_without (by decide) (by decide)]
  refine ⟨_, exec_cueEngineTake_alone hq hclk hw hrest, ?_, State.takeCmd_cueq hq, State.takeCmd_count b.isLt s g id, ?_, fun m hm => ?_, fun m hm => ?_,
    fun x hx => ?_⟩
  · rw [htake, State.withJob_bank, hbank, State.cueTaken_bank]
  · exact State.eq_of_without hframe
  · rw [htake, State.withJob, State.modBank_eq, State.setBank_bank_other _ _ (List.ne_of_not_mem_cons hm), hbank, s.cueTaken_sameBanks b m hm]
  · rw [htake, State.withJob, State.modBank_eq, State.setBank_group, State.modOp_sameGroups _ _ _ _ m hm, State.cueTaken_group]
  · rw [htake, State.withJob_word, State.modOp_word, s.cueTaken_word b (List.ne_of_not_mem_cons hx)]

/-! ### The end of a job -/

theorem State.jobDone_without (hb : .banks ∈ l) (s : State) (b : Nat) : (s.jobDone b).without l = s.without l := State.setBank_without hb _ _ _

theorem State.jobDone_jobs {b : Nat} (hj : (s.bank b).jobs = j :: js) : ((s.jobDone b).bank b).jobs = js := by
  rw [State.jobDone, State.setBank_bank, hj]
  rfl

theorem State.jobDone_sameBanks (s : State) (b : Nat) : SameBanks [b] s (s.jobDone b) := fun _ hm =>
  State.setBank_bank_other _ _ (List.ne_of_not_mem_cons hm)

theorem State.jobEnded_without (hr : .regs ∈ l) (hg : .groups ∈ l) (he : .ep ∈ l) (hm : .msixPend ∈ l) (ho : .out ∈ l) (s : State) (b : Nat) (j : CueJob)
    (rest : List Nat) (slot ctx : Nat) : (s.jobEnded b j rest slot ctx).without l = (s.jobDone b).without l :=
  (State.modOp_without hg _ _ _ _).trans (State.cueVoids_without hr he hm ho _ _ _ _)

theorem State.jobEnded_sameGroups (s : State) (b : Nat) (j : CueJob) (rest : List Nat) (slot ctx : Nat) :
    SameGroups [j.g] (s.jobDone b) (s.jobEnded b j rest slot ctx) := fun m hm =>
  (State.modOp_sameGroups _ _ _ _ m hm).trans
    (State.group_of_without (State.cueVoids_without (l := [.regs, .ep, .msixPend, .out]) (by decide) (by decide) (by decide) (by decide) _ _ _ _) (by decide) m)

/-- Whatever the command is, the end of a job touches neither another group nor the store, and no hub besides the job. -/
theorem cueCompletion_keeps (s : State) (b : Nat) (j : CueJob) (op : GOp) : SameGroups [j.g] (s.jobDone b) (cueCompletion s b j op) ∧
    (cueCompletion s b j op).without [.regs, .groups, .chans, .ep, .msixPend, .out] = (s.jobDone b).without [.regs, .groups, .chans, .ep, .msixPend, .out] := by
  have hended (rest : List Nat) (slot ctx : Nat) : (s.jobEnded b j rest slot ctx).without [.regs, .groups, .chans, .ep, .msixPend, .out]
      = (s.jobDone b).without [.regs, .groups, .chans, .ep, .msixPend, .out] :=
    State.jobEnded_without (by decide) (by decide) (by decide) (by decide) (by decide) s b j rest slot ctx
  have hnocue (h : op.cmd.slotCtx = none) : SameGroups [j.g] (s.jobDone b) (cueCompletion s b j op) ∧
      (cueCompletion s b j op).without [.regs, .groups, .chans, .ep, .msixPend, .out] = (s.jobDone b).without [.regs, .groups, .chans, .ep, .msixPend, .out] := by
    rw [cueCompletion_of_no_cue h]
    exact ⟨fun _ _ => rfl, rfl⟩
  cases hcmd : op.cmd with
  | cue slot ctx =>
    cases hw : op.waiting.erase b with
    | cons c cs =>
      rw [cueCompletion_of_cue_waiting hcmd (by rw [hw]; rfl)]
      exact ⟨s.jobEnded_sameGroups _ _ _ _ _, hended _ _ _⟩
    | nil =>
      rw [cueCompletion_of_cue_last hcmd hw s j rfl]
      refine ⟨fun m hm => ?_, ?_⟩
      · exact ((State.modOp_sameGroups _ _ _ _ m hm).trans
          (State.group_of_without (State.loadMembers_without (l := [.regs, .chans]) (by decide) (by decide) _ _ _ _ _) (by decide) m)).trans
          (s.jobEnded_sameGroups b j _ _ _ m hm)
      · rw [State.modOp_without (by decide), State.loadMembers_without (by decide) (by decide), hended]
  | pcue slot ctx ep =>
    rw [cueCompletion_of_pcue hcmd]
    refine ⟨fun m hm => ?_, (State.loadShadows_without (by decide) _ _ _ _).trans (hended _ _ _)⟩
    exact (State.group_of_without (State.loadShadows_without (l := [.chans]) (by decide) _ _ _ _) (by decide) m).trans (s.jobEnded_sameGroups b j _ _ _ m hm)
  | commit _ _ => exact hnocue (by rw [hcmd]; rfl)
  | cancel _ => exact hnocue (by rw [hcmd]; rfl)
  | start _ => exact hnocue (by rw [hcmd]; rfl)
  | stop _ => exact hnocue (by rw [hcmd]; rfl)

theorem exec_cueCompletion {b : Fin 8} (hj : (s.bank b).jobs = j :: js) (hop : s.opOf j.g j.id = some op) :
    exec (.cueCompletion b) s = .next (cueCompletion s b j op) := by
  change execCueCompletion b s = _
  unfold execCueCompletion
  simp only [hj, hop]

theorem exec_cueCompletion_of_no_op {b : Fin 8} (hj : (s.bank b).jobs = j :: js) (hop : s.opOf j.g j.id = none) :
    exec (.cueCompletion b) s = .next (s.jobDone b) := by
  change execCueCompletion b s = _
  unfold execCueCompletion
  simp only [hj, hop, State.jobDone_eq]

/-! ### A job without void records -/

/-- It reports none. -/
theorem State.jobEnded_of_no_void (hvoid : ∀ m ∈ j.loaded, m.2.2 = false) (s : State) (b : Nat) (rest : List Nat) (slot ctx : Nat) :
    s.jobEnded b j rest slot ctx
      = (s.jobDone b).modOp j.g j.id (GOp.jobNoted j rest ((s.jobDone b).get (GRP_EPOCH_EPOCH j.g)) ((s.jobDone b).tbOf b)) := by
  rw [State.jobEnded, State.cueVoids_none hvoid]

/-- What the earliest eligible cycle of a group depends on. -/
theorem State.eligible_of_same (hmembers : t.members g = s.members g) (hchan : ∀ n, t.chan n = s.chan n) (hgctx : t.gctx g = s.gctx g)
    (hstart : (t.group g).start = (s.group g).start) (x : Nat) : t.eligible g x = s.eligible g x := by
  have hfirst (n : Nat) : t.firstEligible g x n = s.firstEligible g x n := by
    unfold State.firstEligible
    rw [hchan, hgctx, hstart]
  simp only [State.eligible, hmembers, hfirst]

theorem State.jobEnded_effectOf (hvoid : ∀ m ∈ j.loaded, m.2.2 = false) (s : State) (b : Nat) (rest : List Nat) (slot ctx : Nat) :
    (s.jobEnded b j rest slot ctx).effectOf j.g b = s.effectOf j.g b := by
  rw [State.jobEnded_of_no_void hvoid]
  generalize GOp.jobNoted j rest ((s.jobDone b).get (GRP_EPOCH_EPOCH j.g)) ((s.jobDone b).tbOf b) = noted
  have hword (a : Nat) : ((s.jobDone b).modOp j.g j.id noted).word a = s.word a := (State.modOp_word _ _ _ _ _).trans (State.setBank_word _ _ _ _)
  have hframe : ((s.jobDone b).modOp j.g j.id noted).without [.banks, .groups] = s.without [.banks, .groups] :=
    (State.modOp_without (by decide) _ _ _ _).trans (s.jobDone_without (by decide) b)
  have hgrp : ((s.jobDone b).modOp j.g j.id noted).group j.g
      = { s.group j.g with ops := (s.group j.g).ops.map (fun o => if o.id = j.id then noted o else o) } := by
    rw [State.modOp_eq, State.setGroup_group]
    rfl
  generalize (s.jobDone b).modOp j.g j.id noted = v at hword hframe hgrp
  have hrun : v.running j.g = s.running j.g := by
    rw [State.running, State.running, State.bit_of_word (hword _)]
  have htb : v.tbOf b = s.tbOf b := by
    rw [State.tbOf, State.tbOf, State.rootOf, State.rootOf, State.get_of_word (hword _), State.root_of_without hframe (by decide)]
  have hgctx : v.gctx j.g = s.gctx j.g := by
    rw [State.gctx, State.gctx, State.leadOf, State.leadOf, State.get_of_word (hword _), hgrp]
  have heligible := State.eligible_of_same (State.members_of_word (fun n => hword _) j.g) (State.chan_of_without hframe (by decide)) hgctx
    (by rw [hgrp]) (s.tbOf b)
  rw [State.effectOf, State.effectOf, hrun, htb, heligible]

theorem State.jobEnded_chan (hvoid : ∀ m ∈ j.loaded, m.2.2 = false) (s : State) (b : Nat) (rest : List Nat) (slot ctx n : Nat) :
    (s.jobEnded b j rest slot ctx).chan n = s.chan n := by
  rw [State.jobEnded_of_no_void hvoid]
  exact State.chan_of_without (l := [.banks, .groups]) ((State.modOp_without (by decide) _ _ _ _).trans (s.jobDone_without (by decide) b)) (by decide) n

/-- The last hub of a cue loads the records of its members. -/
theorem cueCompletion_of_last_hub {b : Nat} (hcmd : op.cmd = .cue slot ctx) (hw : op.waiting = [b]) (hdata : op.data = [])
    (hnodup : (j.loaded.map fun m => m.1).Nodup) (hvoid : ∀ m ∈ j.loaded, m.2.2 = false) (s : State) :
    (∀ m ∈ j.loaded, ((cueCompletion s b j op).chan m.1).cyc = (s.chan m.1).cyc.cued slot ctx m.2.1 m.2.2 (s.effectOf j.g b)) ∧
      SameChans (j.loaded.map fun m => m.1) s (cueCompletion s b j op) := by
  have hlast : op.waiting.erase b = [] := by rw [hw, List.erase_cons_head]
  have hchan := s.jobEnded_chan hvoid b [] slot ctx
  rw [cueCompletion_of_cue_last hcmd hlast s j rfl, hdata, List.nil_append, State.jobEnded_effectOf hvoid]
  obtain ⟨hcyc, hsame⟩ := State.loadMembers_cyc hnodup (s.jobEnded b j [] slot ctx) slot ctx (s.effectOf j.g b)
  have hkeep (m : Nat) (v : State) (h : GOp → GOp) : (v.modOp j.g j.id h).chan m = v.chan m :=
    State.chan_of_without (State.modOp_without (l := [.groups]) (by decide) v _ _ _) (by decide) m
  exact ⟨fun m hm => by rw [hkeep, hcyc m hm, hchan], fun m hm => by rw [hkeep, hsame m hm, hchan]⟩

/-- A provisional cue goes into the shadows of its members. -/
theorem cueCompletion_of_provisional {b ep : Nat} (hcmd : op.cmd = .pcue slot ctx ep) (hnodup : (j.loaded.map fun m => m.1).Nodup)
    (hvoid : ∀ m ∈ j.loaded, m.2.2 = false) (s : State) :
    (∀ m ∈ j.loaded, ((cueCompletion s b j op).chan m.1).cyc = (s.chan m.1).cyc.loadShadow slot ctx m.2.1 m.2.2) ∧
      (cueCompletion s b j op).without [.banks, .groups, .chans] = s.without [.banks, .groups, .chans] ∧
      SameChans (j.loaded.map fun m => m.1) s (cueCompletion s b j op) := by
  have hchan := s.jobEnded_chan hvoid b (op.waiting.erase b) slot ctx
  rw [cueCompletion_of_pcue hcmd]
  obtain ⟨hcyc, hsame⟩ := State.loadShadows_cyc hnodup (s.jobEnded b j (op.waiting.erase b) slot ctx) slot ctx
  refine ⟨fun m hm => by rw [hcyc m hm, hchan], ?_, fun m hm => by rw [hsame m hm, hchan]⟩
  rw [State.loadShadows_without (by decide), State.jobEnded_of_no_void hvoid, State.modOp_without (by decide), State.jobDone_without (by decide)]

end Sys2Proof.Machine
end

section
open Sys2Proof Sys2Proof.Machine

/-- Settles O19: a take reports its command or reads the records of the members; a job ends in the slots, the loads or the shadows of its members. -/
theorem cueEngineLoadsRecords : Obligations.CueEngineLoadsRecords := by
  unfold Obligations.CueEngineLoadsRecords
  refine ⟨?counts, ?reported, ?reads, ?ends, ?loads, ?shadows⟩
  case counts =>
    intro b g id rest s hq hclk hw
    refine ⟨_, exec_cueEngineTake hq hclk hw, (State.drainHub_count _ _ _).trans (State.takeCmd_count b.isLt s g id), fun hrest => ?_⟩
    rw [State.drainHub_of_no_access (by rw [State.takeCmd_cueq hq]; exact no_access_of_all (fun _ => rfl) hrest), State.takeCmd_cueq hq]
  case reported =>
    intro b g id rest op s hq hclk hw hop h hrest
    exact exec_cueEngineTake_reported hq hclk hw hop h (no_access_of_all (fun _ => rfl) hrest)
  case reads =>
    intro b g id rest op slot ctx s hq hclk hw hop hslot hchecked href hclean hrest
    exact exec_cueEngineTake_clean hq hclk hw hop hslot hchecked href hclean (no_access_of_all (fun _ => rfl) hrest)
  case ends =>
    intro b j js s hj
    cases hop : s.opOf j.g j.id with
    | none => exact ⟨_, exec_cueCompletion_of_no_op hj hop, State.jobDone_jobs hj, s.jobDone_sameBanks b, fun _ _ => State.setBank_group _ _ _ _, rfl⟩
    | some op =>
      obtain ⟨hgroups, hframe⟩ := cueCompletion_keeps s b j op
      refine ⟨_, exec_cueCompletion hj hop, ?_, fun m hm => ?_, fun m hm => (hgroups m hm).trans (State.setBank_group _ _ _ _), ?_⟩
      · rw [State.bank_of_without hframe (by decide), State.jobDone_jobs hj]
      · rw [State.bank_of_without hframe (by decide), s.jobDone_sameBanks b m hm]
      · exact (State.store_of_without hframe (by decide)).trans (State.setBank_store _ _ _)
  case loads =>
    intro b j js op slot ctx s hj hop hcmd hw hdata hnodup hvoid
    obtain ⟨hcyc, hsame⟩ := cueCompletion_of_last_hub hcmd hw hdata hnodup hvoid s
    refine ⟨_, exec_cueCompletion hj hop, fun hrun m hm => ?_, fun hrun m hm => ?_, hsame⟩
    · rw [hcyc m hm, State.effectOf, hrun, hvoid m hm]
      exact tabGet_tabSet_same _ _ _ _
    · rw [hcyc m hm, State.effectOf, hrun, hvoid m hm]
      exact ⟨rfl, rfl⟩
  case shadows =>
    intro b j js op slot ctx ep s hj hop hcmd hnodup hvoid
    obtain ⟨hcyc, hframe, hsame⟩ := cueCompletion_of_provisional (b := b) hcmd hnodup hvoid s
    refine ⟨_, exec_cueCompletion hj hop, fun m hm => ?_, State.eq_of_without hframe, hsame⟩
    rw [hcyc m hm, hvoid m hm]
    exact ⟨tabGet_tabSet_same _ _ _ _, rfl⟩

end
